-- ==== Sys2Proof/Word.lean ====
section
/-! DEFINITION. The words and index types of the N640 block (00_scope R4, R11; 02 R40; 05 R141). -/

namespace Sys2Proof

/-- One byte. -/
abbrev Byte := BitVec 8
/-- A 32-bit command dword or register. -/
abbrev Dword := BitVec 32
/-- A 64-bit word. -/
abbrev Qword := BitVec 64
/-- The contents of one 4,096-byte logical block; byte i is bits 8i+7..8i (R4, R14). -/
abbrev Block := BitVec 32768
/-- One 64-byte line of Landing or DRAM (04 R107, 11 R329). -/
abbrev Line := BitVec 512
/-- A physical location word (05 R141, Table 5-1). -/
abbrev Ploc := BitVec 40

/-- A host port, 0 or 1. -/
abbrev Port := Fin 2
/-- A controller identifier: CNTLID = port * 128 + function (02 R40). -/
abbrev Cntl := Fin 256
/-- A grove, 0 to 7. -/
abbrev Grove := Fin 8
/-- A device channel, grove * 8 + channel in grove (00 R4). -/
abbrev Chan := Fin 64
/-- A die index on its channel (07 R215). -/
abbrev DieIx := Fin 16
/-- A die row, grove * 16 + die index (06 R175). -/
abbrev DieRow := Fin 128
/-- A stand number (10 R306). -/
abbrev StandNo := Fin 128
/-- A DRAM channel (11 R325). -/
abbrev DramCh := Fin 8

/-- The port of a controller. -/
def Cntl.port (c : Cntl) : Port := ⟨c.val / 128, by omega⟩
/-- The function number of a controller. -/
def Cntl.func (c : Cntl) : Nat := c.val % 128
/-- Function 0 of a port is its physical function (Table 2-2). -/
def Cntl.isPF (c : Cntl) : Bool := c.val % 128 == 0
/-- The controller of the physical function of a port. -/
def Port.pf (p : Port) : Cntl := ⟨p.val * 128, by omega⟩

/-- The grove of a device channel. -/
def Chan.grove (c : Chan) : Grove := ⟨c.val / 8, by omega⟩
/-- The channel number inside its grove. -/
def Chan.inGrove (c : Chan) : Nat := c.val % 8
/-- The grove of a die row. -/
def DieRow.grove (r : DieRow) : Grove := ⟨r.val / 16, by omega⟩
/-- The die index of a die row. -/
def DieRow.die (r : DieRow) : DieIx := ⟨r.val % 16, by omega⟩

end Sys2Proof
end

