-- ==== Sys2Proof/Syntax.lean ====
section
/-! DEFINITION. The commands of the N640 block: one constructor of Instr per row of
spec/opcode_table.json, and the operand structures they carry. NVMe rows name the tag of the accepted
command they run (03 R70, R78); the submission entries themselves reach the block with
SQ_TAIL_DOORBELL. Rows of engines and media carry the outcome the environment gives them. -/

namespace Sys2Proof

/-! ## Host data descriptions -/

/-- The kind of a host data pointer (04 R114). -/
inductive DptrKind where
  | prp | sgl
  deriving DecidableEq, Repr

/-- A host buffer as its PRP list or SGL describes it (04 R114, R115): how many bytes it covers, the
byte ranges of its bit bucket descriptors (first byte, count), and what the walk of it meets. -/
structure Dptr where
  kind : DptrKind
  bytes : Nat
  bitBucket : List (Nat × Nat)
  /-- A keyed or transport descriptor is present. -/
  keyed : Bool
  /-- A PRP entry is not dword aligned. -/
  misaligned : Bool
  /-- The contiguous ranges of the buffer, in order: host bus address and bytes (04 R116). Bytes that a bit bucket descriptor covers lie in none. -/
  ranges : List (Nat × Nat) := []
  /-- The PRP lists or SGL segments that describe the buffer, in the order in which they are fetched: host bus address and bytes. -/
  lists : List (Nat × Nat) := []
  deriving DecidableEq, Repr

/-- The fields of Read, Write, Compare, Write Zeroes and the ordered forms (02 R53). -/
structure RwFields where
  nsid : Dword
  slba : Nat
  /-- Logical blocks minus 1 (CDW12[15:0]). -/
  nlb0 : Nat
  fua : Bool
  prinfo : BitVec 4
  stc : Bool
  dtype : BitVec 4
  dptr : Dptr
  /-- The blocks in host memory at the data pointer, for a host-to-controller transfer. -/
  data : List Block
  deriving DecidableEq, Repr

/-- One range of Dataset Management. -/
structure DsmRange where
  slba : Nat
  length : Nat
  deriving DecidableEq, Repr

/-- The index table of Gather Read as it lies in host memory (04 R124, Table 4-3). -/
structure GatherTable where
  lwidth : BitVec 2
  nlanes : Nat
  reshuf : BitVec 2
  swap : BitVec 2
  nelemM1 : Nat
  esize : Nat
  baseLba : Nat
  /-- A reserved header field is non-zero. -/
  rsvd : Bool
  entries : List Nat
  deriving DecidableEq, Repr

/-- Gather Read command dwords (02 Table 2-13). -/
structure GatherFields where
  nsid : Dword
  fuse : BitVec 2
  tlen : Nat
  olen : Nat
  dptr : Dptr
  /-- A reserved field of the command is non-zero. -/
  rsvd : Bool
  /-- The 32 header bytes of the index table in host memory, byte 0 lowest (Table 4-3). -/
  header : BitVec 256
  /-- The 8-byte entries that follow the header. -/
  entries : List Nat
  /-- TADDR, the bus address from which the table is fetched; its bits 2:0 are reserved. -/
  taddr : Qword := 0
  deriving DecidableEq, Repr

/-- A lease extent entry as it lies in host memory (02 Table 2-14). -/
structure LeaseExtent where
  word : BitVec 128
  deriving DecidableEq, Repr

/-- A reservation type of NVMe Base 2.0 (02 R66: all six). -/
inductive RsvType where
  | writeExclusive | exclusiveAccess | writeExclusiveRegistrants | exclusiveAccessRegistrants
  | writeExclusiveAll | exclusiveAccessAll
  deriving DecidableEq, Repr

/-- The action of Reservation Register. -/
inductive RregAction where
  | register | unregister | replace
  deriving DecidableEq, Repr

/-- The action of Reservation Acquire. -/
inductive RacqAction where
  | acquire | preempt | preemptAndAbort
  deriving DecidableEq, Repr

/-- The change a Reservation Register makes to Persist Through Power Loss. -/
inductive PtplChange where
  | keep | clear | set
  deriving DecidableEq, Repr

/-- What an NVMe submission entry asks (02 Tables 2-7 to 2-9, 2-12, 2-13). -/
inductive NvmeCmd where
  | deleteIoSq (qid : Nat)
  | createIoSq (qid qsize0 cqid : Nat) (pc : Bool)
  | deleteIoCq (qid : Nat)
  | createIoCq (qid qsize0 iv : Nat) (ien pc : Bool)
  | getLogPage (lid : Byte) (offset numBytes : Nat)
  | identify (cns : Byte) (nsid : Dword)
  | abort (sqid cid : Nat)
  | setFeatures (fid : Byte) (sv : Bool) (value : Dword) (nsid : Dword) (data : BitVec 128)
  | getFeatures (fid : Byte) (value : Dword) (nsid : Dword)
  | asyncEventRequest
  /-- Namespace Management: sel 0 create, 1 delete; stand is bytes 3840 to 3841 of the data (R63). -/
  | nsManagement (sel : Nat) (nsid : Dword) (nsze : Nat) (flbas : Byte) (stand : Nat)
  /-- Namespace Attachment: sel 0 attach, 1 detach; the controller list. -/
  | nsAttachment (sel : Nat) (nsid : Dword) (ctrls : List Nat)
  | keepAlive
  | formatNvm (nsid : Dword) (lbaf : Nat) (ses : Nat) (other : Bool)
  | sanitize (sanact : Nat) (ause : Bool)
  | firmwareCommit
  | firmwareDownload
  | leaseGrant (next : Nat) (ltag : Dword) (extents : List LeaseExtent) (rsvd : Bool)
  | leaseRevoke (ltag : Dword) (rsvd : Bool)
  | leaseStatus (rsvd : Bool)
  | standStatus (stand : StandNo) (rsvd : Bool)
  | otherAdmin (opc : Byte)
  | flush (nsid : Dword)
  | write (f : RwFields)
  | read (f : RwFields)
  | compare (f : RwFields)
  | writeZeroes (f : RwFields)
  | dsm (nsid : Dword) (ad : Bool) (ranges : List DsmRange)
  | resvRegister (nsid : Dword) (act : RregAction) (iekey : Bool) (ptpl : PtplChange) (crkey nrkey : Qword)
  | resvReport (nsid : Dword)
  | resvAcquire (nsid : Dword) (act : RacqAction) (iekey : Bool) (rtype : RsvType) (crkey prkey : Qword)
  | resvRelease (nsid : Dword) (clear : Bool) (iekey : Bool) (rtype : RsvType) (crkey : Qword)
  | orderedWrite (f : RwFields)
  | orderedRead (f : RwFields)
  | orderedDsm (nsid : Dword) (ad : Bool) (ranges : List DsmRange)
  | gatherRead (f : GatherFields)
  | otherIo (opc : Byte)
  deriving DecidableEq, Repr

/-- A submission-queue entry. -/
structure Sqe where
  cid : Nat
  cmd : NvmeCmd
  /-- The data pointer of a command whose own fields carry none (04 R114). -/
  ptr : Dptr := { kind := .prp, bytes := 1048576, bitBucket := [], keyed := false, misaligned := false }
  deriving DecidableEq, Repr

/-- A host memory read of the block that can return a poisoned completion or time out (Table 2-5). -/
inductive HostRead where
  | writeData (tag : Nat)
  | prpSgl (tag : Nat)
  | sqEntry (c : Cntl)
  | leaseFetch (lpn : Nat)
  | gatherTable (tag : Nat)
  deriving DecidableEq, Repr

/-- A register the host or firmware writes with no behaviour of its own, or a read-only one (00 R18). -/
inductive RegId where
  | cap (c : Cntl) | vs (c : Cntl) | intms (c : Cntl) | intmc (c : Cntl) | cc (c : Cntl) | csts (c : Cntl)
  | aqa (c : Cntl) | asq (c : Cntl) | acq (c : Cntl)
  /-- Device Control of a function (R38) and SR-IOV Control of a port's PF (Table 2-4). -/
  | devCtl (c : Cntl) | sriovCtl (p : Port)
  | rstCause | rstBootStatus | secstat | clkCtrlStatus
  /-- CAP[63:32]; and of PCIe configuration space (02 Tables 2-1, 2-2): Vendor and Device ID, Subsystem IDs, Device Capabilities,
  Link Capabilities, the SR-IOV counts and the SR-IOV offsets. -/
  | capHigh (c : Cntl) | pciId (c : Cntl) | pciSubsystem (c : Cntl) | devCap (c : Cntl) | linkCap (c : Cntl)
  | sriovVfs (p : Port) | sriovOffsets (p : Port)
  deriving DecidableEq, Repr

/-- The direction of an I/O command at dispatch (10 R317). -/
inductive Dir where
  | read | write
  deriving DecidableEq, Repr

/-! ## DMA and DRAM operands -/

/-- A DMA descriptor (04 Table 4-1), 256 bits. -/
abbrev DmaDesc := BitVec 256

/-- A DRAM request source (11 Table 11-8). -/
inductive DramSource where
  | readEngine (n : Fin 16) | writeEngine (n : Fin 16) | pipeline (n : Fin 4) | trunkWalker (n : Fin 4)
  | leaseEngine | sequencer (g : Grove) | ftlCore (n : Fin 32) | mgmt (n : Fin 2)
  deriving DecidableEq, Repr

/-- Heartwood records whose CRC the start-up finds wrong (07 R236; 16 R458; 17 R483). -/
structure HeartBad where
  /-- The Tally's drop record, and its TSEQRES record. -/
  drops : Bool
  tseqRes : Bool
  /-- The floor record of the update, and the LMS state record. -/
  floor : Bool
  lms : Bool
  /-- Channel records. -/
  chans : List Chan
  /-- Grove records, and dump-set records, by their groves; the PLP record (09 R279). -/
  groves : List Grove := []
  dumps : List Grove := []
  plp : Bool := false
  /-- Uncorrectable units of the condemned table, of 8 entries each, and of the row-block records, of 16 each. -/
  condemned : List Nat := []
  rowBlocks : List Nat := []
  /-- The byte offsets in heartwood of every unit found uncorrectable. -/
  units : List Nat := []
  deriving DecidableEq, Repr

/-- What the ROM finds at its start: whether the NOR answers (12 R371), and the heartwood records that fail their checks. -/
structure RomReads where
  norAnswers : Bool
  heart : HeartBad
  deriving DecidableEq, Repr

/-- A command in a DRAM channel's retry buffer (11 R336). -/
structure DramReq where
  src : DramSource
  write : Bool
  line : Nat
  deriving DecidableEq, Repr

/-- What an ordering token answers (04 R120, 11 R345). -/
inductive TokenFor where
  /-- The FENCE of DMA context n. -/
  | context (n : Fin 256)
  /-- The FENCE of the last write-cache descriptor of the write under this tag. -/
  | writeData (tag : Nat)
  | source (src : DramSource)
  deriving DecidableEq, Repr

/-- What the internal checks met while a DMA context or a buffer read ran (04 R132 to R137). -/
inductive ParityEvent where
  | none
  /-- A parity error in a Landing line; `bad` says that the cord will fail the built-in test (R136). -/
  | landingLine (cord : Nat) (line : Nat) (bad : Bool)
  /-- Parity error in DMA context storage (Table 4-6). -/
  | contextStore
  /-- Parity error in the command tag table: other fields, or both routing copies. -/
  | tagFields (tag : Nat)
  | tagRouting (tag : Nat)
  | keyStore (nsid : Nat)
  /-- A parity error in a sequencer's die queue, in the entry of this operation. -/
  | dieQueue (op : Nat)
  /-- The context reads a DRAM line whose burst has come back with these bits wrong (11 R332). -/
  | dramLine (line : Nat) (err : BitVec 640)
  deriving DecidableEq, Repr

/-- Poison met by the consumer of a command's buffered data, before delivery (Table 4-5). -/
inductive AlertKind where
  | commandAddress | writeCrc
  deriving DecidableEq, Repr

/-! ## Media operands -/

/-- One die's answer at identification (07 R212 to R214): the parameter page fields, already CRC-checked. -/
structure DieAnswer where
  die : DieIx
  /-- At least one redundant copy of the parameter page passes its CRC. -/
  crcOk : Bool
  /-- Every requirement of Table 7-1 not listed below is met. -/
  meetsTable : Bool
  pageBytes : Nat
  spareBytes : Nat
  planes : Nat
  pagesPerBlock : Nat
  blocksPerPlane : Nat
  densityGbit : Nat
  /-- The highest standard timing mode, MT/s. -/
  maxRate : Nat
  /-- Get Features E8h: P1 and P2 (Table 7-2). -/
  sig : Byte
  rates : Byte
  nestedProgram : Bool
  /-- Blocks that carry a factory bad-block mark. -/
  factoryBad : List Nat
  /-- The die serves independent single-plane reads on its planes (01 R34; 08 R250). -/
  independent : Bool := true
  deriving DecidableEq, Repr

/-- What one step of training reads on a die (07 Table 7-4), as far as the step measures it. Taps are 1/64 of the unit interval. -/
structure StepReading where
  die : DieIx
  /-- Step 1: the time from the ONFI Reset until the die is ready, in us. -/
  readyUs : Nat
  /-- Step 2: ZQ calibration is reported complete within its specified time. Step 3: the die accepts its features. -/
  accepted : Bool
  /-- Step 4: the duty cycles of DQS and RE, in tenths of a percent. -/
  dqsDuty : Nat
  reDuty : Nat
  /-- Steps 5 and 6: the open window of each DQ, its first tap and its width. -/
  windows : List (Nat × Nat)
  /-- Step 7: the check burst compares without error below, at and above the chosen settings. -/
  low : Bool
  centre : Bool
  high : Bool
  deriving DecidableEq, Repr

/-- What a status poll of a die reads (08 R257, Table 7-5). -/
inductive PollResult where
  | busy | ready | parityMismatch
  deriving DecidableEq, Repr

/-- A status poll: what Read Status Enhanced gives, and the level of the channel's RB_N (07 R217). -/
structure Poll where
  result : PollResult
  rbN : Bool
  deriving DecidableEq, Repr

/-- What the hard decoder reports for a codeword (08 R268, R270; Table 7-5). -/
inductive HardResult where
  /-- Decoded: bit errors corrected, and the most on one DQ lane. -/
  | decoded (corrected maxLane : Nat)
  | failed
  deriving DecidableEq, Repr

/-- The outcome of a drift-tracking check on a die (07 R227, R228). -/
inductive DriftOutcome where
  | pass | offsetFails | settingFails
  deriving DecidableEq, Repr

/-- A slice of a die's live retrain (07 R228): not the last, or the last with the windows that steps 5 and 6 have found. -/
inductive LiveSlice where
  | more
  | ended (read write : List (Nat × Nat))
  deriving DecidableEq, Repr

/-- A slice of a live retrain of a DRAM channel (11 R339). -/
inductive RetrainSlice where
  | more | done | failed
  deriving DecidableEq, Repr

/-- A live retrain slice with the sources whose writes it holds (11 R346). -/
structure RetrainRun where
  outcome : RetrainSlice
  held : List DramSource
  deriving DecidableEq, Repr

/-! ## Stands, Naile and configuration operands -/

/-- The header of a Naile request frame that has passed its link checks, as far as execution needs it
(16 R444, R445): SEQ, a digest of the frame's bytes that tells two frames apart, and whether a reserved
field of the payload is set or the payload is malformed. -/
structure Frame where
  seq : Dword
  bytes : Nat
  rsvd : Bool
  deriving DecidableEq, Repr

/-- The 64 bytes of a stand descriptor (10 Table 10-1), byte 0 lowest. -/
structure StandDesc where
  word : BitVec 512
  deriving DecidableEq, Repr

/-- An attachment word (10 Table 10-2). -/
structure AttachWord where
  word : BitVec 32
  deriving DecidableEq, Repr

/-- One record of a reconfiguration record or Sweaz image (18 Table 18-3). -/
structure CfgRec where
  id : Nat
  typ : Nat
  inst : Nat
  len : Nat
  value : Nat
  rsvd : Bool
  deriving DecidableEq, Repr

/-- A reconfiguration record as a frame carries it (18 R495): the bytes of its payload. -/
structure ReconfigRec where
  payload : List Byte
  deriving DecidableEq, Repr

/-- The slot header of a firmware image (16 R455): its signed body (Table 16-12), whether the reserved bytes 2,380 to 4,095 are zero, and what the
crypt unit finds of it: SHA-384 of ECPUB and LMSPUB, and the verdicts on the two signatures. -/
structure ImageHeader where
  body : BitVec 4096
  tailZero : Bool
  keyDigest : BitVec 384
  ecdsaOk : Bool
  lmsOk : Bool
  deriving DecidableEq, Repr

/-- A Sweaz header (18 R488): its signed body (Table 18-2), whether the reserved bytes 2,380 to 4,095 are zero, the bytes of the record area that
follows it, and what the crypt unit finds: SHA-384 of the two keys, the verdicts on the signatures, and SHA-384 of the body. -/
structure SweazHeader where
  body : BitVec 4096
  tailZero : Bool
  area : List Byte
  keyDigest : BitVec 384
  ecdsaOk : Bool
  lmsOk : Bool
  bodyHash : BitVec 384
  deriving DecidableEq, Repr

/-- What the header of an image stream turns out to be, when an IMAGE_CHUNK completes it (16 R457). -/
inductive StreamHeader where
  | image (h : ImageHeader)
  | config (h : SweazHeader)
  deriving DecidableEq, Repr

/-- A debug token as sent (14 R412): its body (Table 14-12), with SHA-384 of the two keys it carries and the verdict on its two signatures. -/
structure DebugToken where
  body : BitVec 512
  keyDigest : BitVec 384
  sigsOk : Bool
  deriving DecidableEq, Repr

/-- Why a WRITE_FRAME was discarded at the link (16 R443). -/
inductive FrameFault where
  | crc | length | busy | cut
  deriving DecidableEq, Repr

/-- Option block port settings, plain data form of the per-port fields. -/
structure OptPort where
  widthX8 : Bool
  lrev : Bool
  sris : Bool
  deriving DecidableEq, Repr

/-- What the two reads of the option block return at a release (12 R358 to R360): its 256 bytes, byte 0 lowest; and those of the second read, in the
mode that the first names, or nothing where that read fails. -/
structure OptRead where
  block : BitVec 2048
  second : Option (BitVec 2048)
  deriving DecidableEq, Repr

/-- What the checks of a wake find (13 Table 13-12). -/
structure WakeChecks where
  digestOk : Bool
  bulkOk : Bool
  badGroves : List Grove
  badChannels : List Chan
  dramOk : Bool
  deriving DecidableEq, Repr

/-- Damage that the start-up read of the cache or of the dump sets meets (09 R299, R300). -/
structure ReplayDamage where
  /-- Held slabs whose header fails its CRC, and whether their index entries are unreadable too. -/
  badHeaders : List (Nat × Bool)
  /-- Held slots (slab, slot) whose DRAM line is uncorrectable. -/
  badSlots : List (Nat × Nat)
  /-- Dumped slabs (grove, epoch, slab) whose slots cannot be read. -/
  unreadable : List (Nat × Nat × Nat)
  /-- Single slots of a dumped slab (grove, epoch, slab, slot) that cannot be read. -/
  unreadableSlots : List (Nat × Nat × Nat × Nat) := []
  deriving DecidableEq, Repr

/-- What the start-up of a grove reads of its map (05 R162 to R165). -/
structure RebuildInput where
  /-- The grove's DRAM control block passes its CRC. -/
  controlOk : Bool
  /-- A journal record that fails its CRC or has a reserved TYPE: its SEQ. -/
  badRecord : Option Nat
  /-- The newer root pointer, or the newer wear-table pointer, fails its CRC (R161; 06 R197). -/
  badRoot : Bool := false
  badWear : Bool := false
  /-- Uncorrectable heartwood units of this grove's structures: bitmap 1 to 3 and byte offset. -/
  badBitmap : List (Nat × Nat)
  /-- Row blocks covered by an uncorrectable unit of the rate bitmap of which no codeword decodes at either rate (09 R280). -/
  undecodable : List Nat := []
  deriving DecidableEq, Repr

/-- An SPDM connection: MCTP on the management bus, or DOE in a port's PF (02 R68). -/
abbrev SpdmConn := Fin 3

/-- A GET_CAPABILITIES request: its connection, and the SPDM version its header names (02 R68). -/
structure CapabilitiesReq where
  conn : SpdmConn
  version : Byte
  deriving DecidableEq, Repr

/-- A data structure of NVMe-MI named by its type byte. -/
abbrev MiType := Byte

/-- The cause of a management fault (15 R428). -/
inductive MgmtFaultKind where
  | sramParity | coreException
  deriving DecidableEq, Repr

/-- A capacitor test's cause (09 R286). -/
inductive CapCause where
  | startup | interval
  deriving DecidableEq, Repr

/-- A Tally record as a unit submits it (17 R472). -/
structure TallyIn where
  src : Nat
  /-- MSEQ of a management record, none for a hardware record. -/
  mseq : Option Nat
  sev : Nat
  code : Nat
  p0 : Dword
  p1 : Dword
  p2 : Dword
  p3 : Dword
  deriving DecidableEq, Repr

/-- A write point class (06 Table 6-2). `wide` is the MAP write point of a grove's own units: map log, directory slabs, root table and wear table
(06 R184, R197). -/
inductive WpClass where
  | hot | cold | map | wide
  deriving DecidableEq, Repr

/-- A placement domain: a grove's shared die rows, or a stand's own rows there (06 R183). -/
structure DomId where
  grove : Grove
  owner : Option StandNo
  deriving DecidableEq, Repr

/-- What the DAP is asked to reach (14 R411, Table 14-12 PERM bits). -/
inductive DapReach where
  | haltMgmt | resumeMgmt | readMgmt | writeMgmt | readWindow (r : RegId) | haltFtl | resumeFtl | readFtl | readLanding (line : Nat)
  | readDram (line : Nat)
  deriving DecidableEq, Repr

/-- The rate that training a link comes to, in GT/s rounded down, and whether the partner is capable of FLIT mode (02 Table 2-1). -/
structure LinkRate where
  gts : Nat
  flitPartner : Bool
  deriving DecidableEq, Repr

/-! ## The commands -/

/-- The commands of the block, in the order of spec/opcode_table.json. -/
inductive Instr where
  | perstAssert (p : Port)
  | perstDeassert (p : Port) (w : WakeChecks)
  | hotReset (p : Port)
  | dataLinkDown (p : Port)
  | linkUp (p : Port) (width : Nat) (rate : LinkRate)
  | configurationRequest (c : Cntl)
  | linkL1Exit (p : Port) (w : WakeChecks)
  | functionLevelReset (c : Cntl)
  | ccEnSet (c : Cntl) (asqs acqs : Nat)
  | ccEnClear (c : Cntl)
  | sqTailDoorbell (c : Cntl) (sq tail : Nat) (entries : List Sqe)
  | cqHeadDoorbell (c : Cntl) (cq head : Nat)
  | tagAvailable (c : Cntl) (sq : Nat)
  | poisonedCompletion (r : HostRead)
  | completionTimeout (r : HostRead)
  | registerWrite (r : RegId) (v : Qword)
  | keepAliveTimeout (c : Cntl)
  | orderedCommandBegin (tag : Nat)
  | nextDispatch (pipe : Fin 4) (d : Dir)
  | deleteIoSq (tag : Nat)
  | createIoSq (tag : Nat)
  | deleteIoCq (tag : Nat)
  | createIoCq (tag : Nat)
  | getLogPage (tag : Nat)
  | identify (tag : Nat)
  | abort (tag : Nat)
  | arbitration (tag : Nat)
  | powerManagement (tag : Nat)
  | temperatureThreshold (tag : Nat)
  | volatileWriteCache (tag : Nat)
  | numberOfQueues (tag : Nat)
  | interruptCoalescing (tag : Nat)
  | interruptVectorConfiguration (tag : Nat)
  | writeAtomicityNormal (tag : Nat)
  | asyncEventConfiguration (tag : Nat)
  | timestamp (tag : Nat)
  | keepAliveTimer (tag : Nat)
  | hostIdentifier (tag : Nat)
  | reservationNotificationMask (tag : Nat)
  | reservationPersistence (tag : Nat)
  | unsupportedFeature (tag : Nat)
  | getFeatures (tag : Nat)
  | asynchronousEventRequest (tag : Nat)
  | namespaceCreate (tag : Nat)
  | namespaceDelete (tag : Nat)
  | namespaceAttach (tag : Nat)
  | namespaceDetach (tag : Nat)
  | keepAlive (tag : Nat)
  | formatNvm (tag : Nat)
  | sanitizeCryptoErase (tag : Nat)
  | sanitizeBlockErase (tag : Nat)
  | sanitizeExitFailureMode (tag : Nat)
  | sanitizeOverwrite (tag : Nat)
  | firmwareCommit (tag : Nat)
  | firmwareImageDownload (tag : Nat)
  | mapLeaseGrant (tag : Nat)
  | mapLeaseRevoke (tag : Nat)
  | mapLeaseStatus (tag : Nat)
  | standStatus (tag : Nat)
  | invalidAdminOpcode (tag : Nat)
  | flush (tag : Nat)
  | write (tag : Nat)
  | read (tag : Nat)
  | compare (tag : Nat)
  | writeZeroes (tag : Nat)
  | datasetManagement (tag : Nat)
  | reservationRegister (tag : Nat)
  | reservationReport (tag : Nat)
  | reservationAcquire (tag : Nat)
  | reservationRelease (tag : Nat)
  | orderedWrite (tag : Nat)
  | orderedRead (tag : Nat)
  | orderedDatasetManagement (tag : Nat)
  | gatherRead (tag : Nat)
  | invalidIoOpcode (tag : Nat)
  | slicedOperationStart (op : Nat)
  | slice (op : Nat) (g : Grove)
  | dmaContextComplete (ctx : Fin 256) (chain : List DmaDesc) (parity : ParityEvent)
  | orderingToken (t : TokenFor)
  | cordGrant
  | gatherWindow (tag : Nat)
  | leafMiss (dgn : Nat) (p : Port)
  | leaseWriteBackDone (lpn : Nat)
  | leaseFetchDone (lpn : Nat) (reply : Option Block)
  | leaseRevokeDone (p : Port)
  | mapLeaseRekey (f : Frame) (v : Nat)
  | journalCommitDone (g : Grove)
  | checkpointSlice (g : Grove)
  | mapRebuild (g : Grove) (i : RebuildInput)
  | windrowSetPlacement (st : StandNo) (k : WpClass)
  | parityTransfer (set : Nat)
  | forceWaitExpiry (set : Nat)
  | idleForceExpiry (set : Nat)
  | openIdleClose (st : StandNo) (k : WpClass) (d : DomId)
  | gseqAgeLimit (gseq : Dword)
  | thinningSlice (d : DomId) (st : StandNo)
  | victimEraseStart (r : DieRow) (n : Nat)
  | cruiseSlice (d : DomId)
  | cruiseLate (d : DomId)
  | medReadOnlyRelease (f : Frame) (v : Nat)
  | dieQueueArrival (op : Nat)
  | dieStatusPoll (ch : Chan) (die : DieIx) (r : Poll)
  | readyBusyTimeout (ch : Chan) (die : DieIx) (resetReady : Bool)
  | busArbitrationPoint (ch : Chan) (dqsLoss : Bool)
  | hardDecodeDone (op slot : Nat) (r : HardResult)
  | softDecodeDone (op slot : Nat) (ok : Bool)
  | programDone (op : Nat) (ok : Bool)
  | eraseDone (op : Nat) (ok : Bool)
  | channelTraining (ch : Chan) (answers : List DieAnswer) (readings : List StepReading)
  | driftTracking (ch : Chan) (die : DieIx) (o : DriftOutcome)
  | liveRetrainSlice (ch : Chan) (die : DieIx) (o : LiveSlice)
  | padMonitorCheck (ch : Chan) (stuck : Bool)
  | rebuildSlice (g : Grove)
  | chnDegradedClear (f : Frame) (v : Nat)
  | capacitorTestStart (cause : CapCause) (huLow : Bool)
  | plpTestNow (f : Frame) (v : Nat) (huLow : Bool)
  | huLowRise (tMs : Nat)
  | capacitorTestTimeout
  | pwrFailNFall
  | powerLossDump
  | deferredResetTimeout
  | writeCacheReplay (d : ReplayDamage)
  | standCtlCreate (f : Frame) (d : StandDesc)
  | standCtlModify (f : Frame) (d : StandDesc)
  | standCtlDelete (f : Frame) (d : StandDesc)
  | standDeleteRun (st : StandNo)
  | standCtlAttach (f : Frame) (c : BitVec 24) (st : Byte)
  | standCtlDetach (f : Frame) (c : BitVec 24) (st : Byte)
  | standCtlQuery (f : Frame) (d : StandDesc)
  | standPreparationDone (st : StandNo)
  | standRelocationDone (st : StandNo)
  | dramTraining (failing : List DramCh)
  | dramZeroFillSlice
  | dramScrub (line : Nat) (err : BitVec 640)
  | dramAlert (ch : DramCh) (k : AlertKind) (again : List DramReq)
  | dramTemperatureChange (ch : DramCh) (temp : Int)
  | drmRetrainNow (f : Frame) (v : Nat)
  | dramLiveRetrainSlice (ch : DramCh) (o : RetrainRun)
  | dramRefresh (ch : DramCh) (bank : Nat)
  | dramActivationLimit (ch : DramCh) (bank : Nat)
  | dramTokenRequest (src : DramSource)
  | powerOnResetAssert
  | powerOnResetRelease (fuseOk : Bool) (o : OptRead)
  | resetNAssert (pulseNs : Option Nat)
  | resetNRelease (fuseOk : Bool) (o : OptRead)
  | pllLock (r : RomReads)
  | startupComplete
  | clkCtrlWrite (v : Dword)
  | refclkLoss
  | temperatureSample (c : Int)
  | governorTick (milliwatts : Nat)
  | lpoCalibration
  | powerStateEntry
  | smbusAddressMatch (addr : BitVec 7) (w : WakeChecks)
  | smbusMatchTimeout
  | patrolWake (w : WakeChecks)
  | patrolTimeout
  | pwrPadReleaseWrite (v : Dword)
  | secLifecycleAdvance (f : Frame) (v : Nat)
  | secSvnCommit (f : Frame) (v : Nat)
  | idcode
  | samplePreload
  | extest
  | clamp
  | highz
  | secstat
  | dap (r : DapReach)
  | provision
  | bypass (code : Byte)
  | debugTokenChallenge (f : Frame)
  | debugTokenOpen (f : Frame) (t : DebugToken)
  | debugTokenClose (f : Frame)
  | sessionLifetimeExpiry
  | nonceExpiry
  | getVersion (k : SpdmConn)
  | getCapabilities (r : CapabilitiesReq)
  | negotiateAlgorithms (k : SpdmConn) (algsOk : Bool)
  | getDigests (k : SpdmConn)
  | getCertificate (k : SpdmConn) (slot offset length : Nat)
  | challenge (k : SpdmConn) (slot : Nat) (transcript : Nat)
  | getMeasurements (k : SpdmConn) (index : Nat) (signed : Bool) (transcript : Nat)
  | getLmsCert (k : SpdmConn)
  | getLmsSig (k : SpdmConn)
  | spdmUnsupportedRequest (k : SpdmConn) (code : Byte)
  | readNvmeMiDataStructure (dtyp : MiType) (portOrCtrl : Nat)
  | nvmSubsystemHealthStatusPoll (clear : Bool)
  | controllerHealthStatusPoll (start count : Nat) (clear : Bool)
  | configurationGet (id : Byte)
  | configurationSet (id : Byte) (v : Dword)
  | vpdRead (offset length : Nat)
  | miAdminTunnel (c : Cntl) (cmd : NvmeCmd)
  | miInvalidParameter (opc : Byte)
  | basicManagementCommand (offset length : Nat)
  | smbusArp (addr : BitVec 7)
  | mgmtCheckpoint
  | watchdogExpiry
  | mgmtFault (k : MgmtFaultKind)
  | mgtHandoverNow (f : Frame) (v : Nat)
  | handoverTimeout (result : Nat)
  | standbySelfTest (failBits : BitVec 4)
  | groveRestart (g : Grove)
  | groveRestartTimeout (g : Grove)
  | readStatus
  | readResp
  | readAlert
  | paramRead (f : Frame) (id inst : Nat)
  | statusWindowRead (f : Frame) (id inst : Nat)
  | reconfig (f : Frame) (r : ReconfigRec)
  | imageBegin (f : Frame) (target length : Nat)
  | imageChunk (f : Frame) (offset count : Nat) (hdr : Option StreamHeader) (norFails : Bool)
  | norSectorWritten (ok : Bool)
  | imageEnd (f : Frame) (norFails digestOk : Bool)
  | commitImage (f : Frame) (mgmtNow ftlNow : Bool)
  | commitConfiguration (f : Frame) (mgmtNow ftlNow : Bool)
  | raiseReleaseFloor (f : Frame)
  | restoreSpare (f : Frame) (norFails : Bool)
  | updateTimeout
  | tallyRead (f : Frame) (tier count start : Nat)
  | healthRead (f : Frame) (page : Nat)
  | rawDiag (f : Frame) (p : Ploc) (offset length : Nat)
  | recoveryStatus (f : Frame)
  | unknownType (f : Frame) (typ : Byte)
  | tallyRecord (x : TallyIn)
  | tallyCodeQuiet (code : Nat)
  | tallyTierCopy
  | quiescentPointApply (unit : Nat)
  | drainLate (id inst : Nat)
  | pwrFailNRise
  | writeFrame (fault : FrameFault)
  | takeover
  | groveRestartComplete (g : Grove)
  | unsupportedRequestReceived (c : Cntl) (malformed : Bool)
  | interruptAggregationTime (c : Cntl) (cq : Nat)
  deriving DecidableEq, Repr

end Sys2Proof
end

