-- ==== Sys2Proof/Decode.lean ====
section
/-! DEFINITION. The reading of words as commands. The spec gives no row of its table any bits: commands reach
the block as events, not as encoded words (log entry 2). -/

namespace Sys2Proof

/-- The command a word spells by the table's bits: no row has bits, so no word spells one. -/
def decodeTableWord (_nbits _w : Nat) : Option Instr := none

end Sys2Proof
end

