-- ==== Sys2Proof/Machine/State.lean ====
section
/-! DEFINITION. The state of the N640 block as plain data: every register, table, queue, counter, mode and
pin the spec gives it, grouped by the unit that owns it, and the queue of commands that wait. -/

namespace Sys2Proof.Machine

/-! ## Sparse tables

Tables keyed by number are lists of (key, value) pairs with strictly rising keys; what an unlisted key
reads as is said where the table stands. -/

/-- A sparse table: strictly rising keys. -/
abbrev Sparse (α : Type) := List (Nat × α)

/-! ## Reset, boot, clocks and pins (12, 13, 19) -/

/-- How far the device has come since its last reset (12 R352, R354, R355, R363, R369; 00 Table 0-6). -/
inductive Phase where
  /-- A reset source is asserted. -/
  | inReset
  /-- Fuse sensing failed: the sequence stopped after step 3 (R355). -/
  | stopped
  /-- The release sequence has run; the ROM waits for PLL lock (R363 step 1). -/
  | rom
  /-- The ROM serves RECOVERY (R369). -/
  | recovery
  /-- Firmware runs and start-up is under way: BOOTING. -/
  | booting
  /-- Start-up is complete. -/
  | running
  deriving DecidableEq, Repr

/-- The option block in force (12 Table 12-5). -/
structure OptS where
  port0 : OptPort
  port1 : OptPort
  layout : Nat
  spimode : Nat
  sckdiv : Nat
  addr4 : Bool
  dummy : Nat
  deriving DecidableEq, Repr

/-- Reset, boot, pins and clock control. -/
structure DevS where
  por : Bool
  pin : Bool
  /-- Power-on reset was asserted in this reset period (R353). -/
  porSeen : Bool
  /-- A pin reset waits for a dump (Table 9-9). -/
  deferredPin : Bool
  /-- The pin reset of this period had waited for a dump. -/
  wasDeferred : Bool
  phase : Phase
  fuseFail : Bool
  failed : Bool
  /-- Halted at step 9 of Table 9-8 (R295). -/
  halted : Bool
  /-- The moment at which RESET_N fell, where the reset waits for a dump, in ns. -/
  deferredAt : Nat := 0
  /-- Heartwood units found uncorrectable at this start-up, by their byte offsets, whose events are still to be recorded (09 R279). -/
  badUnits : List Nat := []
  rstCause : Dword
  bootStatus : Dword
  recoverN : Bool
  testEn : Bool
  validTally : Bool
  validSave : Bool
  validDram : Bool
  validFlash : Bool
  validLeaseKey : Bool
  opt : OptS
  optValid : Bool
  latchFlash : Bool
  latchDram : Bool
  latchGpio : Bool
  clkCtrl : Dword
  gpioDrive : BitVec 16
  gpioLevel : BitVec 16
  /-- WP_N of each grove (R218). -/
  wpN : BitVec 8
  norRstN : Bool
  /-- Both ports answer configuration requests normally (R365). -/
  configured : Bool
  /-- Groves whose map rebuild has finished since the last reset. -/
  mapDone : BitVec 8
  replayDone : Bool
  /-- REFCLK_CORE is present and in tolerance. -/
  refclk : Bool
  deriving DecidableEq, Repr

/-- The AON timekeeper (13 R378): nanoseconds, and the fraction in 1/64 ns. -/
structure TimeS where
  ns : Qword
  frac : Nat
  deriving DecidableEq, Repr

/-- The fuses (14 Table 14-2; 12 R373; 19 R518). Triples hold how many of their three fuses are burned. -/
structure FuseS where
  provisioned : Nat
  sealedF : Nat
  rma : Nat
  chipid : Qword
  svn : Nat
  revoke0 : Nat
  cfgDigest : BitVec 384
  dbgDigest : BitVec 384
  k0 : BitVec 384
  k1 : BitVec 384
  vendorDbg : BitVec 384
  vendorId : BitVec 16
  /-- Subsystem Vendor ID and Subsystem ID (02 Table 2-2). -/
  subVendor : BitVec 16
  subsystem : BitVec 16
  /-- The manufacturer field of IDCODE (R411). -/
  maker : BitVec 11
  gapCycles : Nat
  gpioDrive : BitVec 16
  gpioLevel : BitVec 16
  /-- The root seed, which nothing but the crypt unit reads, and the Akvel attestation root digests. -/
  rootSeed : BitVec 256 := 0
  attEcdsa : BitVec 384 := 0
  attLms : BitVec 384 := 0
  deriving DecidableEq, Repr

/-- The parameter space (18). Keys are ID * 256 + instance; an unlisted value is the default. -/
structure ParamS where
  vals : Sparse Nat
  staged : Sparse Nat
  reconfigs : Dword
  imgVersion : Dword
  imgFormat : BitVec 16
  hdrHash : BitVec 384
  defaulted : Bool
  /-- SEC_DEBUG_KEY_DIGEST was carried by an accepted image: the keys that verified the image. -/
  imgKeyDigest : BitVec 384
  deriving DecidableEq, Repr

/-! ## Host ports, functions, queues and tags (02, 03) -/

/-- A completion status, SCT and SC (00 R13). -/
structure Status where
  sct : Nat
  sc : Nat
  deriving DecidableEq, Repr

/-- What a command returns to host memory: nothing, blocks (a bit bucket block is none), or a structure of
len bytes whose little-endian value is v. -/
inductive Payload where
  | nothing
  | blocks (bs : List (Option Block))
  | struct (len v : Nat)
  | bytes (bs : List (Option Byte))
  deriving DecidableEq, Repr

/-- A completion-queue entry, with the data the block delivered before it (03 R119). -/
structure Cqe where
  cid : Nat
  sqid : Nat
  sqhd : Nat
  st : Status
  dw0 : Dword
  data : Payload
  /-- The data writes carry the Relaxed Ordering attribute (02 R38). -/
  ro : Bool
  /-- 64-byte lines of the transfer whose TLPs are sent with EP set (04 Table 4-4). -/
  ep : List Nat := []
  deriving DecidableEq, Repr

/-- A submission queue. -/
structure SqS where
  size : Nat
  cqid : Nat
  head : Nat
  tail : Nat
  /-- Entries rung by the doorbell and still in host memory, oldest first (R73). -/
  unfetched : List Sqe
  /-- The ordered command that stops fetching (R79). -/
  ordered : Option Nat
  /-- Fetching waits for a tag (R73). -/
  starved : Bool
  deriving DecidableEq, Repr

/-- A completion queue: entries posted and not yet freed by the host, and entries held because it is full
(R74), each with its tag. -/
structure CqS where
  size : Nat
  /-- The host's head: the slot of the oldest posted entry. -/
  head : Nat
  posted : List Cqe
  held : List (Nat × Cqe)
  vector : Nat
  ien : Bool
  /-- Completions since the last MSI-X message of this queue (R54, Interrupt Coalescing). -/
  unsignalled : Nat
  /-- MSI-X messages sent. -/
  msix : Nat
  deriving DecidableEq, Repr

/-- The pool a tag was drawn from (R75). -/
inductive TagPool where
  | shared | admin | l0
  deriving DecidableEq, Repr

/-- How far an accepted command has come (R70, R78). -/
inductive TagPhase where
  | accepted
  /-- An admin command has acted, and its row acts again until it completes: the deletion of a queue, a detachment (R98). -/
  | begun
  /-- Chosen by dispatch: it may run. -/
  | dispatched
  /-- It has begun and waits for its reads, its media, its token or its slices. -/
  | running
  /-- Its completion entry is held because the queue is full (R74). -/
  | held
  deriving DecidableEq, Repr

/-- Gather Read progress (04 R131): next element, output so far, reads that the window waits for. -/
structure GatherS where
  next : Nat
  out : List Byte
  tableCords : List Nat
  /-- The window's codewords are being read: device block (nsid-relative LBA) and its data. -/
  window : List (Nat × Option Block)
  /-- DMA_POISON_POLICY was FORWARD when the command began (R138). -/
  forward : Bool := false
  /-- The 64-byte lines of the output that poisoned bytes have reached under FORWARD (Table 4-5). -/
  bad : List Nat := []
  deriving DecidableEq, Repr

/-- One entry of the command tag table (R70 to R75, R137). -/
structure TagE where
  cntl : Cntl
  sqid : Nat
  cqid : Nat
  cid : Nat
  aseq : Qword
  cmd : NvmeCmd
  pool : TagPool
  phase : TagPhase
  /-- Per block of a read: its data once it has arrived. -/
  got : List (Option Block)
  /-- LBAs of the command still waited for. -/
  waits : List Nat
  /-- The first failure met; reported when every wait is over. -/
  failure : Option Status
  /-- Cache groups of the write (GSEQ), or that a Flush covers. -/
  groups : List Dword
  /-- Tags of the covered writes that have not completed (R88). -/
  covered : List Nat
  /-- Granules whose change is not yet committed. -/
  commits : Nat
  /-- Blocks charged to the stand and not yet settled (06 R209). -/
  charge : Nat
  /-- DMA contexts of the command's host transfer that have not started (04 R524). -/
  ctxLeft : Nat
  /-- Re-reads made of poisoned codewords, by LBA: one entry for each (04 R134). -/
  reread : List Nat
  /-- Where each block that flash supplies was found when the read looked it up, by LBA (03 R83). -/
  locs : Sparse Ploc
  /-- The cord that holds each block of a reading command, by LBA (04 R107). -/
  cordOf : Sparse Nat
  /-- The data pointer of a command whose own fields carry none (04 R114). -/
  ptr : Dptr
  gather : Option GatherS
  /-- The latency class of its stand when the command began (10 R310, R316). -/
  cls : Nat := 2
  /-- Cache groups that hold, in the place of data a Flush covers, the newest block of an LBA (R88). -/
  heirs : List Dword := []
  /-- The data of a write stands in Landing, and write engines carry it into the write cache (04 R122). -/
  toCache : Bool := false
  /-- The lines of blocks that the write cache supplied poisoned, by LBA (04 R133). -/
  marks : Sparse (List Nat) := []
  deriving DecidableEq, Repr

/-- One AER log entry of a function (02 R48). -/
inductive AerLog where
  | poisonedTlp | completionTimeout | unsupportedRequest | malformedTlp
  deriving DecidableEq, Repr

/-- An asynchronous event waiting for a request (02 R50, 15 R427). -/
structure AsyncEv where
  mseq : Dword
  typ : Nat
  info : Nat
  page : Nat
  deriving DecidableEq, Repr

/-- One NVMe controller (02). -/
structure FuncS where
  cc : Dword
  rdy : Bool
  cfs : Bool
  aqa : Dword
  asq : Qword
  acq : Qword
  intMask : Dword
  /-- PCIe Device Control; bit 4 is Relaxed Ordering Enable. -/
  devCtl : Dword
  /-- Current feature values by FID; Interrupt Vector Configuration of vector v stands under 0900h + v. -/
  features : Sparse Dword
  hostId : BitVec 128
  timestampMs : Nat
  keepAliveFrom : Nat
  /-- Keep Alive timer suspended by a power state (Table 13-6 step 2). -/
  keepAliveHeld : Bool
  /-- Tags of outstanding Asynchronous Event Requests, oldest first. -/
  aers : List Nat
  events : List AsyncEv
  /-- MSEQ of the newest asynchronous event posted (R427). -/
  lastMseq : Option Dword
  aerLog : List AerLog
  /-- Error Information entries: status and command identifier, newest first. -/
  errors : List (Status × Nat)
  changedNs : List Nat
  /-- Reservation notifications not yet read: type (1 registration preempted, 2 reservation released, 3 reservation
  preempted) and NSID (log page 80h). -/
  rsvNotices : List (Nat × Nat)
  deriving DecidableEq, Repr

/-- One host port (02). -/
structure PortS where
  perst : Bool
  linkUp : Bool
  training : Bool
  width : Nat
  rate : Nat
  /-- The link runs in FLIT mode (Table 2-1). -/
  flit : Bool := false
  /-- The link is in L1. -/
  l1 : Bool
  vfEnable : Bool
  /-- Flow-control credits are withheld during a wake (13 R388). -/
  withheld : Bool
  /-- The 10-bit tag that the next non-posted request of the port takes (Table 2-1). -/
  nextTag : Nat := 0
  deriving DecidableEq, Repr

/-- The host front end. Queue keys are CNTLID * 65,536 + queue ID. -/
structure HostS where
  port0 : PortS
  port1 : PortS
  funcs : Sparse FuncS
  sqs : Sparse SqS
  cqs : Sparse CqS
  tags : Sparse TagE
  retiredTags : List Nat
  nextAseq : Qword
  /-- The last answer to a configuration request: CNTLID, and whether it was Retry Status. -/
  cfgAnswer : Option (Nat × Bool)
  /-- New admin commands are held (Table 15-2 step 1). -/
  holdAdmin : Bool
  /-- Fetching is stopped (power-state entry, power loss). -/
  stopFetch : Bool
  /-- Dispatch: the stand served last, by pipeline, direction and class, with the surplus turn as class 3 (10 R317). -/
  rr : Sparse Nat
  /-- When a TLP last crossed a link (13 R381). -/
  lastTlp : Nat
  deriving DecidableEq, Repr

/-! ## Namespaces, stands, leases and sliced operations (02, 03, 05, 10, 14) -/

/-- A reservation registrant (02 R66). -/
structure Registrant where
  hostId : BitVec 128
  key : Qword
  deriving DecidableEq, Repr

/-- What a sliced operation has made of a namespace (03 R96). -/
inductive NsMode where
  | normal | formatting | deleting
  deriving DecidableEq, Repr

/-- A namespace; `nlb` is its size in logical blocks. -/
structure NsS where
  nlb : Nat
  stand : StandNo
  attached : List Nat
  /-- Controllers from which it is being detached (03 R96). -/
  detaching : List Nat
  mode : NsMode
  /-- The acceptance sequence number from which the mode fails I/O commands (03 R96). -/
  modeFrom : Qword
  /-- The generation of the key in force, and VALID of its key table entry (14 Table 14-5). -/
  keyGen : Nat
  keyValid : Bool
  /-- The key is in the crypt key store. -/
  keyLoaded : Bool
  /-- GEN of the key table entry. -/
  gen : Dword
  /-- The segment table (05 R143). -/
  segs : List Nat
  registrants : List Registrant
  holder : Option (BitVec 128)
  rtype : Option RsvType
  ptpl : Bool
  prgen : Dword
  deriving DecidableEq, Repr

/-- A stand's state (10 Table 10-5); NONE is an unlisted stand. -/
inductive StandState where
  | creating | active | changing | deleting
  deriving DecidableEq, Repr

/-- A stand (10 Table 10-1). -/
structure StandS where
  state : StandState
  firebreak : Bool
  cls : Nat
  rows : BitVec 128
  resvGib : Nat
  rshare : Nat
  wshare : Nat
  members : List Nat
  /-- Write-protected under 06 R206. -/
  prot : Bool
  /-- Blocks charged by writes in flight (06 R209). -/
  inflight : Nat
  /-- Credits in 1/1,024 byte, and when they were last refilled (10 R318). -/
  rcredit : Int
  wcredit : Int
  refilled : Nat
  /-- Rows as before the change in progress. -/
  oldRows : BitVec 128
  /-- The operation in progress moves die rows between domains (R309). -/
  moving : Bool
  /-- DELETE has reached this step of R311. -/
  delStep : Nat
  deriving DecidableEq, Repr

/-- The kind of a sliced operation (03 Table 3-3, 14 Table 14-6). -/
inductive SliceKind where
  | format | delete | dealloc | sanitizeCrypto | sanitizeBlock
  deriving DecidableEq, Repr

/-- A sliced operation on granules: per grove, the device granule ranges still to be set UNMAPPED. -/
structure SlicedOp where
  kind : SliceKind
  tag : Option Nat
  nsids : List Nat
  /-- Replace the key before unmapping (14 Table 14-6). -/
  rekey : Bool
  begun : Bool
  /-- Granule ranges (first DGN, count) still to visit, per grove. -/
  work : Sparse (List (Nat × Nat))
  /-- Partial granules: (DGN, blocks) of a deallocation's edges. -/
  edges : List (Nat × List Nat)
  deriving DecidableEq, Repr

/-- The lease state of a port (05 Table 5-11, 02 Table 2-15). -/
inductive LeaseState where
  | none | active | revoking | ended
  deriving DecidableEq, Repr

/-- A port's map lease. -/
structure LeaseS where
  state : LeaseState
  endCause : Nat
  ltag : Dword
  size2m : Nat
  extents : List LeaseExtent
  /-- Slots written in this lease: slot to LPN. -/
  slots : Sparse Nat
  /-- The clock's hand, and the slots that have been fetched since it last passed them (05 R167). -/
  hand : Nat
  fetched : List Nat := []
  fetch : Qword
  hits : Qword
  discard : Qword
  wback : Qword
  /-- LPNs of accesses in flight: write-backs (slot, VERSION) and fetches. -/
  writing : List (Nat × Nat × Nat)
  fetching : List Nat
  revokeTag : Option Nat
  /-- It ends for this cause once its last access has completed (05 R171). -/
  ending : Option Nat := none
  deriving DecidableEq, Repr

/-- Namespaces, stands, leases and long operations. -/
structure NvmS where
  nss : Sparse NsS
  stands : Sparse StandS
  ops : Sparse SlicedOp
  lease0 : LeaseS
  lease1 : LeaseS
  /-- The sanitize record (14 Table 14-4): ACTION, PHASE, PROGRESS. -/
  sanAction : Nat
  sanPhase : Nat
  sanProgress : Nat
  /-- The acceptance sequence number from which the sanitize fails I/O commands (03 R96). -/
  sanFrom : Qword
  /-- The last sanitize failed (Sanitize Failure Mode). -/
  sanFailed : Bool
  /-- A sanitize has completed since manufacture (Sanitize Status). -/
  sanDone : Bool
  nextKeyGen : Nat
  /-- When the last slice of an operation ended on a grove's cores (03 R94): grove * 65,536 + 16 + its number, or + 0 for checkpointing,
  1 thinning and 2 a channel rebuild. -/
  sliceEnd : Sparse Nat := []
  deriving DecidableEq, Repr

/-! ## Data movement (04) -/

/-- Which reservation a cord request draws on (04 Table 4-2). -/
inductive CordRes where
  | chan (c : Chan) | port (p : Port) | gather
  deriving DecidableEq, Repr

/-- Who asked for cords: a command tag, a die operation, a placement set or the lease engine. -/
inductive CordUser where
  | tag (t : Nat) | op (o : Nat) | set (n : Nat) | lease (lpn : Nat)
  /-- Staging of the power-loss dump for a grove's channels, and the codewords read from a victim and not yet placed. -/
  | dump (g : Nat) | victim (rb : Nat)
  deriving DecidableEq, Repr

/-- A cord request (04 R110 to R112). -/
structure CordReq where
  user : CordUser
  res : CordRes
  count : Nat
  l0 : Bool
  /-- The port the data is to be delivered to. -/
  port : Option Port
  deriving DecidableEq, Repr

/-- A granted request: its cords, and how many of them came from the reservation. -/
structure CordGrant where
  req : CordReq
  cords : List Nat
  fromRes : Nat
  deriving DecidableEq, Repr

/-- A DMA context (04 R104, R106). -/
structure CtxS where
  tag : Option Nat
  /-- It waits for its ordering token (R106). -/
  fence : Bool
  /-- Its last descriptor asked that its completion be reported (NOTIFY). -/
  notify : Bool := true
  /-- The engine it runs on: read engines are 0 to 15, write engines 16 to 31; none while it waits for one (R103, R104). -/
  engine : Option Nat := none
  /-- It moves data out of Landing, on a write engine. -/
  writes : Bool := false
  /-- DMA_POISON_POLICY was FORWARD when it started (R138). -/
  forward : Bool := false
  /-- The engine that it ran on, while it waits for its token (11 R346). -/
  ran : Option Nat := none
  deriving DecidableEq, Repr

/-- A line of Landing: 64 bytes, their even parity bits, bit 8 * i being that of byte i, and the poison mark (04 R132, R133). -/
structure LandLine where
  data : Line
  parity : Line
  mark : Bool
  deriving DecidableEq, Repr

/-- A memory TLP toward the host (04 R116): its address, its bytes, whether it is a read request, its EP bit, and the tag of a request (02 Table
2-1). -/
structure Tlp where
  addr : Nat
  len : Nat
  reads : Bool
  ep : Bool
  tag : Nat := 0
  deriving DecidableEq, Repr

/-- Landing, its allocator and the DMA contexts. A line not listed has its valid bit clear and reads as
zeros (R108); the Bool marks a poisoned line (R133). -/
structure LandS where
  lines : Sparse LandLine
  grants : List CordGrant
  waiting : List CordReq
  /-- Cords in which a parity error was found and that are not yet freed (R136). -/
  suspect : List Nat
  retired : List Nat
  /-- Contexts not listed are idle. -/
  ctxs : Sparse CtxS
  /-- Cords that a raised reservation has still to take as they are freed, by the reservation's place in the list of all (R139). -/
  lag : Sparse Nat := []
  /-- The cord of each codeword that has been read from a victim and not yet placed, by PLOC (01 R29). -/
  copies : Sparse Nat := []
  /-- The last report of a context to its issuer: true for DESC_ERR (R105, NOTIFY). -/
  reports : Sparse Bool := []
  /-- The TLPs of the last host transfer or host-side descriptor, in the order issued (R116). -/
  tlps : List Tlp := []
  /-- The 64-byte lines, by their place in the last transfer to a channel's encoder, that carried the poison mark (R133): by channel. -/
  encMarks : Sparse (List Nat) := []
  deriving DecidableEq, Repr

/-! ## The map (05) -/

/-- A journal record (05 Table 5-7), without its CRC. -/
structure JRec where
  seq : Qword
  typ : Nat
  final : Bool
  step : Bool
  first : Nat
  countM1 : Nat
  kind : BitVec 2
  id : Nat
  value : BitVec 40
  ngran : Nat
  deriving DecidableEq, Repr

/-- What a commit group does beside its records (05 R157, 06 R181, R283; 03 R88). -/
inductive GroupWhy where
  | set (n : Nat)
  | dealloc (tag : Option Nat)
  | slice (op : Nat)
  | poison
  | fold
  | leafMove
  /-- Records of their own: the segments of a namespace (05 R144), for the command that waits for them. -/
  | records (tag : Option Nat)
  deriving DecidableEq, Repr

/-- A condition of a compare-and-set: block k of granule dgn must still be at this location (R30, R154). -/
structure CasCond where
  dgn : Nat
  k : Nat
  loc : Ploc
  deriving DecidableEq, Repr

/-- One change of one or more blocks of a granule that a group makes (05 Table 5-6). -/
structure GranChange where
  dgn : Nat
  /-- (block, new entry) pairs; all 16 blocks placed as a whole granule set `coarse`. -/
  entries : List (Nat × Ploc)
  coarse : Option Ploc
  cas : List CasCond
  deriving DecidableEq, Repr

/-- A commit group waiting for heartwood. -/
structure CommitGroup where
  why : GroupWhy
  changes : List GranChange
  recs : List JRec := []
  deriving DecidableEq, Repr

/-- A leaf (05 Table 5-3). -/
structure Leaf where
  dgn : Nat
  entries : Vector Ploc 16
  deriving DecidableEq, Repr

/-- A leaf page and its leaf-page record (05 Tables 5-4, 5-5). -/
structure LeafPage where
  stand : StandNo
  cached : Bool
  dirty : Bool
  version : Nat
  leased : Bool
  lport : Port
  lslot : Nat
  floc : Ploc
  /-- A miss on this page is being served: the port that missed it. -/
  missing : Option Port
  /-- The port of the command that last missed it (05 R167). -/
  lastPort : Port := 0
  /-- A record has changed it since its checkpoint copy was last taken (05 R160). -/
  changed : Bool := false
  deriving DecidableEq, Repr

/-- The checkpointed copies of a grove's map units. -/
structure MapImage where
  trunk : Sparse (BitVec 48)
  leaves : Sparse Leaf
  /-- FLOC of each leaf page, as the directory slabs hold it, and the owning stand in the header of its newest copy. -/
  dirs : Sparse Ploc
  heads : Sparse Nat
  /-- Segment assignments (grove 0's root table). -/
  segs : Sparse (Nat × Nat)
  /-- The root table: the PLOC of the newest copy of each trunk slab and directory slab. Keys are kind + 8 * unit number. -/
  locs : Sparse Ploc
  deriving DecidableEq, Repr

/-- A root pointer (05 R161): SEQ s of the generation, the first PLOC and the length in codewords of its root table, and its CRC. A wear-table
pointer has the same form, and counts its tables (06 R197). -/
structure RootPtr where
  seq : Qword
  loc : Ploc
  len : Nat
  crc : Dword := 0
  deriving DecidableEq, Repr

/-- A checkpoint generation in progress (05 R161): its SEQ and the units still to be copied. -/
structure GenS where
  start : Qword
  units : List Nat
  /-- Where the root table begins, once it has been placed. -/
  root : Option Ploc
  deriving DecidableEq, Repr

/-- One grove's map state (05 R155 to R161). -/
structure GroveMap where
  ring : List JRec
  log : List JRec
  /-- Where the codewords of the live map log lie, by the SEQ of their first record: 128 records each. -/
  logAt : Sparse Ploc := []
  nextSeq : Qword
  /-- The control block in DRAM: the SEQ of the last applied group, and the block's CRC-32C (R158). -/
  ctlSeq : Qword
  ctlCrc : Dword := 0
  /-- The two root pointers: SEQ s of each, newer first. -/
  rootNew : RootPtr
  rootOld : RootPtr
  gen : Option GenS
  groups : List CommitGroup
  /-- A full half of the ring is being programmed to the map log (R159). -/
  spilling : Bool
  /-- Codewords of that half that are still to be placed. -/
  spillLeft : List Nat := []
  /-- The live map log has passed 75% of MAP_LOG_MAX_MIB and has not fallen below 50% of it since (R161). -/
  logHigh : Bool := false
  /-- The wear table that is being written: codewords still to be placed, the counts as they were taken, and where it begins; and the two
  pointers, newer first (06 R197). -/
  wearLeft : List Nat := []
  wearSnap : Sparse (BitVec 16) := []
  wearLoc : Option Ploc := none
  wearNew : RootPtr := { seq := 0, loc := 0, len := 0 }
  wearOld : RootPtr := { seq := 0, loc := 0, len := 0 }
  image : MapImage
  /-- Copies of units that have been taken and programmed, and whose LOC_SET has not been committed (05 R160). -/
  taken : MapImage := { trunk := [], leaves := [], dirs := [], heads := [], segs := [], locs := [] }
  /-- The DRAM copy of the control block has met an uncorrectable line: the next pin reset rebuilds the grove (05 Table 5-10). -/
  ctlBad : Bool := false
  /-- DGNs whose slab changed since its last copy. -/
  dirtyUnits : List Nat
  /-- FTL cores of the grove are restarting: map work is held (R437). -/
  restarting : Bool
  /-- When its restart began (15 R438). -/
  downAt : Nat := 0
  /-- The control block, the trunk, the leaf-page records and the leaf cache of the grove stand in DRAM (R158, R163). -/
  inDram : Bool
  deriving DecidableEq, Repr

/-- The map. Trunk entries not listed are UNMAPPED. -/
structure MapS where
  trunk : Sparse (BitVec 48)
  /-- Segment to (NSID, index in its namespace). -/
  segs : Sparse (Nat × Nat)
  leaves : Sparse Leaf
  pages : Sparse LeafPage
  groves : Vector GroveMap 8
  leafCacheGib : Nat
  /-- The generation of the lease MAC key (R172). -/
  leaseKey : Nat
  /-- Trunk slabs and directory slabs whose DRAM copy is being repaired: grove and unit (R165). -/
  repairing : List (Nat × Nat) := []
  /-- Those of them whose checkpoint copy is lost as well, and whose poisoning waits to be committed. -/
  lostSlabs : List (Nat × Nat) := []
  /-- The largest VERSION of a leaf page that has been freed under this key: a page that takes its LPN starts there (R172). -/
  verFloor : Nat := 0
  deriving DecidableEq, Repr

/-! ## Media (06, 07, 08) -/

/-- What the DRAM holds of a row block in use (06 R178, R193, R197; 08 R269). Keys are r * 16,384 + n. -/
structure RbInfo where
  stand : StandNo
  cls : WpClass
  closedS : Nat
  parityCh : Nat
  rate875 : Bool
  nextWl : Nat
  width : Nat
  /-- Relocation on the first rung is wanted (R203, R264). -/
  relocate : Bool
  /-- Wordline positions that have been passed without a good program on a member: position and channel (R182, R185). -/
  holes : List (Nat × Nat) := []
  deriving DecidableEq, Repr

/-- Where the data of a codeword position comes from. -/
inductive ItemSrc where
  | cache (gseq : Dword) (slot : Nat)
  | copy (src : Ploc)
  /-- A unit of a grove's map region: kind as KIND of LOC_SET, 3 the root table, 4 the map log, 5 the wear table; and its number
  (05 Tables 5-8, 5-9; 06 R197). -/
  | unit (kind id : Nat)
  deriving DecidableEq, Repr

/-- One codeword position of a windrow set and what it is to hold. -/
structure Item where
  loc : Ploc
  nsid : Nat
  lba : Nat
  src : ItemSrc
  deriving DecidableEq, Repr

/-- A windrow set (06 R180, R181). -/
structure WSet where
  stand : StandNo
  cls : WpClass
  dom : DomId
  rb : Nat
  wl : Nat
  items : List Item
  /-- Whole granules placed in the set: (NSID, granule, page location). -/
  whole : List (Nat × Nat × Ploc)
  forced : Bool
  /-- Transfers have begun. -/
  started : Bool
  parityDone : Bool
  members : List Nat
  transferred : List Nat
  verified : List Nat
  failed : Bool
  touched : Nat
  /-- Whole granules that found no page in it while it still had room (R186). -/
  left : List (Nat × Nat) := []
  deriving DecidableEq, Repr

/-- The wordline sets of a set that have not been programmed and verified: position and channel. -/
def WSet.holes (w : WSet) : List (Nat × Nat) := (w.members.filter (fun c => !w.verified.contains c)).map (fun c => (w.wl, c))

/-- A write point (06 R184, R185). -/
structure WritePoint where
  stand : StandNo
  cls : WpClass
  dom : DomId
  rb : Option Nat
  set : Option Nat
  lastUse : Nat
  waiting : Bool
  /-- Whole granules, by namespace and granule, that found no page in its last set and wait for the next one (R186). -/
  left : List (Nat × Nat) := []
  deriving DecidableEq, Repr

/-- Why a row block's data is being copied away (06 R192, R199, R203, Table 6-6; 07 R239). -/
inductive CopyWhy where
  | thin | static | relocate | rebuild | move
  deriving DecidableEq, Repr

/-- A victim being thinned, relocated or rebuilt (06 R194, 07 R239). -/
structure Victim where
  rb : Nat
  stand : StandNo
  /-- The stand on whose behalf it was chosen (R193, R195). -/
  charge : StandNo
  valid : Nat
  total : Nat
  /-- Codewords still to be read, and copies read or placed but not committed. -/
  toRead : List Ploc
  copying : List Ploc
  /-- Codewords whose copy in Landing was poisoned, once for each re-read (04 R134). -/
  reread : List Ploc := []
  /-- A codeword was not copied (R134, R274). -/
  incomplete : Bool
  why : CopyWhy
  /-- It was chosen by R193 on behalf of `charge`: it stays so where it goes on at a higher rung (R195, R203). -/
  chosen : Bool := false
  /-- Device granules that fold with it: all their blocks are read for one page (05 R152). -/
  folds : List Nat := []
  deriving DecidableEq, Repr

/-- A placement domain's own state (06 R184, R197, R201, R204). -/
structure DomS where
  dom : DomId
  /-- U(d) when its die rows were last changed, in row blocks * 7 (data members counted). -/
  u0 : Nat
  /-- Map region row blocks. -/
  region : List Nat
  victims : List Victim
  /-- Row blocks the present cruise patrol has still to read. -/
  cruise : List Nat
  /-- The wordline position of the first of them that comes next. -/
  cruisePos : Nat
  cruiseStart : Nat
  cruiseLate : Bool
  /-- Member blocks to be disturb-checked: device channel and row block key. -/
  disturb : List (Nat × Nat)
  deriving DecidableEq, Repr

/-- Debt of a stand in a domain, in windrow sets (06 R195). -/
structure Debt where
  stand : StandNo
  dom : DomId
  sets : Rat
  deriving DecidableEq, Repr

/-- The media geometry found at identification. -/
structure Geometry where
  pageBytes : Nat
  spareBytes : Nat
  planes : Nat
  pagesPerBlock : Nat
  blocksPerPlane : Nat
  densityGbit : Nat
  deriving DecidableEq, Repr

/-- Placement, thinning and wear. Row-block records not listed are 0: FREE with every member present. -/
structure MediaS where
  geom : Option Geometry
  recs : Sparse (BitVec 16)
  info : Sparse RbInfo
  erases : Sparse (BitVec 16)
  /-- Erase counts as the newest and the older wear tables hold them (R197). -/
  wearTable : Sparse (BitVec 16)
  wearOlder : Sparse (BitVec 16) := []
  erasedSince : Vector Nat 8
  points : List WritePoint
  sets : Sparse WSet
  nextSet : Nat
  doms : List DomS
  debts : List Debt
  /-- Round-robin: the domain last used by a stand's HOT sets. -/
  lastDom : Sparse Nat
  readOnly : Bool
  /-- Members whose erase has failed, and absent members whose erase has succeeded, in erases that still run: device
  channel and row block (08 R262, 07 R246). -/
  eraseFails : List (Nat × Nat)
  eraseBack : List (Nat × Nat)
  /-- Die reads of each member block since its erase or check: key dch * 2^22 + rb. One not listed has had none since the power-on reset. -/
  reads : Sparse Nat
  /-- The count at which every member block started after the power-on reset (R202). -/
  readBase : Nat := 0
  /-- Die rows on which no die has ever been recorded: all of their row blocks are RETIRED (07 R216). -/
  emptyRows : List Nat := []
  /-- Windrow sets programmed in each grove since its rebuild began: with copies of rebuilt row blocks, and HOT (07 R240). -/
  shares : Vector (Nat × Nat) 8 := Vector.replicate 8 (0, 0)
  deriving DecidableEq, Repr

/-- The kind of a die operation (08 Table 8-1). -/
inductive OpKind where
  | readSingle | readMulti | progTlc | progSlc | erase
  deriving DecidableEq, Repr

/-- What a die operation serves. -/
inductive OpFor where
  /-- A read for a command: (codeword position, LBA) pairs; a position is plane * 4 + slot. -/
  | host (tag : Nat) (lbas : List (Nat × Nat))
  | gather (tag : Nat) (lbas : List (Nat × Nat))
  | leaf (lpn : Nat)
  /-- The checkpoint copy of a slab, for the repair of its DRAM copy (05 R165). -/
  | unit (g : Grove) (key : Nat)
  /-- A copy for a victim: its domain and row block. -/
  | thin (d : DomId) (rb : Nat)
  | cruise (d : DomId)
  | disturb (d : DomId)
  | recon (parent : Nat) (slot : Nat)
  | program (set : Nat)
  | eraseOf (rb : Nat)
  | raw (f : Frame) (offset length : Nat)
  deriving DecidableEq, Repr

/-- Where a die operation stands. -/
inductive OpStage where
  | issued | held | queued | onDie | transfer | decoding | softWait | softBusy | recon | waitChannel | ended
  deriving DecidableEq, Repr

/-- A die operation (08 R249 to R256, R270). -/
structure DieOp where
  ch : Chan
  die : DieIx
  kind : OpKind
  block : Nat
  page : Nat
  planes : List Nat
  slots : List Nat
  queue : Nat
  why : OpFor
  stage : OpStage
  suspended : Bool
  suspends : Nat
  /-- The limit of R255 that was in force when the operation was issued. -/
  limit : Nat
  /-- When the operation was last issued or resumed (R254). -/
  since : Nat
  /-- Run time before that, ns; time suspended is not counted. -/
  ran : Nat
  /-- The planes' counts of array commands when its data was last in the page registers. -/
  mark : Vector Nat 4
  nested : Bool
  /-- Retries after upsets (07 R230). -/
  attempts : Nat
  /-- Ladder step reached (08 Table 8-7). -/
  step : Nat
  /-- Codewords (plane * 4 + slot) still to be decoded. -/
  left : List Nat
  /-- Operation arrival order. -/
  arrival : Nat
  /-- A member read of its reconstruction ended in channel_fault (R274). -/
  faulted : Bool
  /-- Codewords of a read, or plane pages of a program, that have crossed the channel bus (01 R35). -/
  moved : Nat := 0
  deriving DecidableEq, Repr

/-- The delay settings of a die, in taps (07 R223). -/
structure Delays where
  read : Vector Nat 8
  write : Vector Nat 8
  dqs : Nat
  re : Nat
  deriving DecidableEq, Repr

/-- A die (08 R251). Queue contents are operation ids in arrival order. -/
structure DieS where
  used : Bool
  /-- The highest standard timing mode that its parameter page lists, MT/s (07 R219). -/
  topMode : Nat := 0
  /-- Its ONFI timing mode feature, MT/s, and the parameters of the last Set Features at E8h, P1 lowest (07 R220). -/
  timing : Nat := 0
  highRate : Dword := 0
  /-- The sequencer's delay settings (07 R223). -/
  delays : Delays := ⟨Vector.replicate 8 0, Vector.replicate 8 0, 0, 0⟩
  /-- Slices done of the drift-tracking run in progress, and the end of the last run in ns (07 R227). -/
  drift : Nat := 0
  lastCheck : Nat := 0
  spareBytes : Nat
  nestedOk : Bool
  /-- It serves independent single-plane reads (01 R34). -/
  independent : Bool := true
  /-- The read-level offsets in force by Set Features, for the read of step 2 that runs; none: the defaults (08 R272). -/
  levels : List Int := []
  q1 : List Nat
  q2 : List Nat
  q3 : List Nat
  q4 : List Nat
  q5 : List Nat
  held : List Nat
  running : Option Nat
  nestedRun : Option Nat
  /-- Operation that has each plane (R250). -/
  planeOps : List (Nat × Nat)
  /-- Array commands that each plane has received (07 R229). -/
  cmds : Vector Nat 4
  /-- Erases to be reissued after the next passing step 7 (07 R231). -/
  reissue : List Nat
  retraining : Bool
  /-- Codewords programmed since the last passing step 7 are to be cruised (07 R228). -/
  check : Bool
  /-- Blocks and pages programmed since the last passing step 7. -/
  recent : List (Nat × Nat)
  /-- Repeats of a check whose chosen settings failed (07 R229, R230). -/
  driftTries : Nat
  /-- Slices of the live retrain done. -/
  slices : Nat
  step2 : Dword
  step3 : Dword
  step4 : Dword
  step5 : Dword
  step6 : Dword
  elimit : Dword
  plimit : Dword
  deriving DecidableEq, Repr

/-- A channel's state (07 Table 7-7). -/
inductive ChState where
  | training | active | retiring | retired
  deriving DecidableEq, Repr

/-- A device channel: its state and its heartwood record (07 Tables 7-7, 7-8). RATE is coded 0 to 4. -/
structure ChanS where
  state : ChState
  rate : Nat
  /-- The step of Table 7-4 that training has come to. -/
  step : Nat := 1
  /-- The present training step has failed once (R224). -/
  failedOnce : Bool
  /-- Full training waits for another channel of the grove (R226): whether it steps down first. -/
  waiting : Option Bool := none
  /-- The rate kept in AON SRAM with the settings of its dies (R225). -/
  savedRate : Option Nat := none
  /-- Dies that answer and match the reference since power-on (R213). -/
  serving : BitVec 16 := 0
  /-- The chip-enable lines as last driven, the LUN last selected, and RB_N as last read (R215, R217). -/
  ceN : BitVec 4 := 15
  lun : Nat := 0
  rbN : Bool := true
  /-- Restoring after a pin reset or a wake (R225). -/
  restoring : Bool
  /-- Its dies have been identified since power-on (R213). -/
  identified : Bool
  /-- channel_faults in the window: time in ns and die (R232). -/
  faults : List (Nat × Nat)
  /-- Consecutive stuck readings of the pad monitor. -/
  stuck : Nat
  /-- Waiting transfers, in arrival order. -/
  bus : List Nat
  recValid : Bool
  upsets : Dword
  faultsLife : BitVec 16
  failed : BitVec 16
  usedDies : BitVec 16
  retires : BitVec 8
  rcause : BitVec 8
  recRate : BitVec 4
  recRetired : Bool
  deriving DecidableEq, Repr

/-- A grove record and its rebuild bitmap (07 Table 7-9, R235). Bitmap entries are die * 16,384 + n. -/
structure GroveRec where
  lostcw : Dword
  degraded : Bool
  bmvalid : Bool
  rebuild : Bool
  bitmap : List Nat
  deriving DecidableEq, Repr

/-- A stored codeword: the block and its key generation, or none for parity and filler. -/
structure Cw where
  data : Block
  keyGen : Nat
  nsid : Nat
  lba : Nat
  deriving DecidableEq, Repr

/-- Dies, channels, stored codewords, decoders and the heartwood tables of the media. -/
structure FlashS where
  chans : Vector ChanS 64
  groves : Vector GroveRec 8
  /-- Keys are device channel * 16 + die index. -/
  dies : Sparse DieS
  ops : Sparse DieOp
  nextOp : Nat
  /-- Programmed user codewords by PLOC. -/
  content : Sparse Cw
  /-- Soft-decode requests waiting, and those that hold decoders: operation and slot (08 R275). -/
  softWait : List (Nat × Nat)
  softBusy : List (Nat × Nat)
  /-- The condemned table (08 Table 8-5): device channel and row block key. -/
  condemned : List (Nat × Nat)
  /-- Condemned entries that wait for a free place (R265). -/
  condemnWait : List (Nat × Nat)
  /-- The block-retirement bitmap: bit positions set (08 R267). -/
  retBits : List Nat
  /-- The LDPC rate bitmap: row block keys at rate 0.875 (08 R269). -/
  rateBits : List Nat
  /-- Tracked read-voltage offsets by die, age bin, band of 500 erases and level, TLC levels 0 to 6 and SLC 7 (08 R272), and as the newest wear table
  holds them. -/
  tracked : Sparse Int
  trackedTable : Sparse Int := []
  /-- Member blocks that carry a bad-block mark, as bits of the block-retirement bitmap (08 R266). -/
  marks : List Nat := []
  /-- The sequencers' settings in AON SRAM, per die key (07 R225). -/
  saved : Sparse Delays := []
  /-- This is the first power-on with these media: no channel record was valid at the last power-on reset (07 R214). -/
  first : Bool := true
  deriving DecidableEq, Repr

/-! ## Write cache, power-loss protection and DRAM (09, 11) -/

/-- A cache slot (09 Table 9-4) with its data. -/
structure CSlot where
  slot : Nat
  lba : Nat
  data : Block
  keyGen : Nat
  super : Bool
  poison : Bool
  /-- The block has been placed on media and its map change committed. -/
  done : Bool
  /-- The block lies in a windrow set in progress. -/
  inSet : Bool
  /-- The DRAM lines of the slot that read as poisoned (04 R133); a block that is POISONED as a whole lists none. -/
  badLines : List Nat := []
  deriving DecidableEq, Repr

/-- A cache group (09 R282). -/
structure CGroup where
  nsid : Nat
  slab : Nat
  slots : List CSlot
  count : Nat
  isSealed : Bool
  /-- Its index update has been made (R81). -/
  visible : Bool
  /-- Order of index updates: the newest has the highest. -/
  order : Nat
  tag : Option Nat
  /-- The write was acknowledged. -/
  acked : Bool
  cntl : Option Nat
  /-- The dump set that still covers it: grove and set (0 A, 1 B). -/
  cover : Option (Nat × Nat)
  deriving DecidableEq, Repr

/-- The write cache: groups by GSEQ. -/
structure CacheS where
  groups : Sparse CGroup
  nextGseq : Dword
  nextOrder : Nat
  deriving DecidableEq, Repr

/-- A dump set (09 R291, Table 9-6) and what it holds. -/
inductive DumpState where
  | free | dumped | replayed | erasing
  deriving DecidableEq, Repr

/-- A slab in a dump set: its groups by GSEQ, and NODATA (09 R296). -/
structure DumpSlab where
  slab : Nat
  nodata : Bool
  /-- Its slots are on media with their parity; until step 7 of Table 9-8 only its header is. -/
  stored : Bool
  groups : Sparse CGroup
  deriving DecidableEq, Repr

/-- A dump set. `present` is false for a grove that holds none. -/
structure DumpSet where
  present : Bool
  state : DumpState
  row : Nat
  blk : Nat
  cnt : Nat
  epoch : Qword
  slabs : List DumpSlab
  /-- The members present in each of its row blocks when the dump took it (09 R297). -/
  took : List (Nat × List Nat) := []
  deriving DecidableEq, Repr

/-- The two dump sets of a grove. -/
structure DumpRec where
  a : DumpSet
  b : DumpSet
  deriving DecidableEq, Repr

/-- The PLP state (09 Table 9-5). -/
inductive PlpState where
  | off | pending | armed | lost
  deriving DecidableEq, Repr

/-- Power-loss protection. -/
structure PlpS where
  state : PlpState
  /-- A capacitor test runs: HU_TEST_N is driven low. -/
  testing : Bool
  /-- The result of the last test: PLPTEST and PLPT of Table 15-4. -/
  result : Nat
  tMs : Nat
  /-- The last test of this period passed (none before the first). -/
  passed : Option Bool
  pwrFailN : Bool
  /-- The low has not yet outlasted the filter. -/
  filtering : Bool
  dumping : Bool
  /-- A dump has run to its end since the last device reset: nothing remains to dump (Table 9-9). -/
  dumped : Bool
  /-- When the last capacitor test began. -/
  testFrom : Nat
  epoch : Qword
  recDumping : Bool
  hdrDone : Bool
  /-- Start-up has chosen what it replays (R298), and how many groups of the sets have entered the cache (R299). -/
  replayBegun : Bool
  replayed : Nat
  sets : Vector DumpRec 8
  torn : Bool
  /-- Critical warning bit 4 is held until the next passing test (R299, R300). -/
  warn4 : Bool
  mediaErrors : Nat
  /-- HU_LOW, as a capacitor test last found it at its begin; and the moment at which PWR_FAIL_N fell, in ns. -/
  huLow : Bool := false
  fallAt : Nat := 0
  deriving DecidableEq, Repr

/-- A command of the retry buffer that has been issued again: how often, when last, and whether its replays are exhausted (R336, R337). -/
structure RetryReq where
  req : DramReq
  tries : Nat
  lastNs : Nat
  exhausted : Bool
  deriving DecidableEq, Repr

/-- A channel of the DRAM subsystem. -/
structure DramChS where
  alerts : List Nat
  /-- Slices of a live retrain done, while one runs. -/
  retrain : Option Nat
  /-- Commands that the retry buffer has issued again, or still holds (R336, R337). -/
  retry : List RetryReq
  /-- The sources whose writes the present retrain slice holds, and its end in ns (R339, R346). -/
  held : List DramSource := []
  sliceEnd : Nat := 0
  replays : Nat
  /-- Its temperature, and that of its last training. -/
  temp : Int
  lastTemp : Int
  lastTempRetrain : Option Nat
  /-- Extra same-bank refreshes issued, and activations since the last refresh, per bank. -/
  refreshes : Nat
  extra : Nat
  deriving DecidableEq, Repr

/-- The DRAM subsystem. A line not listed reads as zeros; the Bool marks poison. Lines of the write cache
region are slots of CacheS and are not listed here. -/
structure DramS where
  /-- Training has passed since the last reset. -/
  ready : Bool
  rate : Nat
  lines : Sparse (Line × Bool)
  selfRefresh : Bool
  /-- Regions whose zero-fill is complete, 0 to 4 (R331). -/
  filled : Nat
  chans : Vector DramChS 8
  retrainWait : List Nat
  /-- Distinct rows with corrections, per device (R335). -/
  ceRows : List (Nat × Nat)
  failing : Option Nat
  tokens : List DramSource
  scrubbed : Nat
  /-- A save of the training results is in the AON SRAM: rate. -/
  saved : Option Nat
  deriving DecidableEq, Repr

/-! ## Power, security, management, Naile, NOR, Tally and buses (13 to 17) -/

/-- Power states and wake (13). -/
structure PwrS where
  ps : Nat
  q0 : Nat
  o0 : Nat
  q1 : Nat
  o1 : Nat
  thermal : Nat
  temp : Int
  /-- SMART thermal transitions to PS1 and PS2 level, and the ns spent at each (R391). -/
  transitions1 : Nat
  transitions2 : Nat
  levelSince : Nat
  levelTime1 : Nat
  levelTime2 : Nat
  patrol : Bool
  /-- The matcher holds SCL low (R387). -/
  sclHeld : Bool
  /-- The matcher answers the rest of a timed-out transaction with NACK and FFh. -/
  nackRest : Bool
  smbusAddr : Option (BitVec 7)
  /-- Time of the last calibration of the internal oscillator. -/
  calibrated : Nat
  /-- Entry to PS3 or PS4 has begun and waits for the cache and the dies (Table 13-6). -/
  entering : Bool
  /-- How many rungs of 10 Table 10-8 the governor holds, from rung 6 upward (R382). -/
  gov : Nat
  /-- Since when the temperature has stood at 108 degrees or above (R391). -/
  hotSince : Option Nat := none
  /-- When the patrol wake began (R390). -/
  patrolFrom : Nat := 0
  patrolDue : Nat
  wakes : Nat
  deriving DecidableEq, Repr

/-- An open debug session (14 R413). -/
structure Session where
  level : Nat
  perm : BitVec 16
  lifetimeS : Nat
  opened : Nat
  haltedMgmt : Bool
  haltedFtl : Bool
  deriving DecidableEq, Repr

/-- Security state (14). -/
structure SecS where
  /-- RWK is derived, at this LC_CLASS. -/
  rwk : Option Nat
  nextq : Nat
  lmsDisabled : Bool
  lmsBad : Bool
  lmsReported : Bool
  lmsTimes : List Nat
  target : Nat
  step : Nat
  ctrPor : Qword
  ctrPin : Qword
  ctrSessions : Qword
  ctrRefused : Qword
  sessionsSincePor : Nat
  session : Option Session
  nonce : Option (BitVec 256 × Nat)
  refusals : Nat
  /-- The TAP's current instruction and what it last returned. -/
  tapIr : Byte
  tapOut : Dword
  deriving DecidableEq, Repr

/-- A handover in progress (15 Table 15-2). -/
structure Handover where
  cause : Nat
  oldRuns : Bool
  /-- It activates a new management release. -/
  release : Option Nat
  /-- When it was triggered (R433). -/
  since : Nat := 0
  deriving DecidableEq, Repr

/-- A rollout of a new FTL image (15 R436). -/
structure Rollout where
  release : Nat
  previous : Nat
  /-- Groves still to be restarted. -/
  next : Nat
  /-- Rolling back after a stop (R438). -/
  back : Bool
  /-- When the last grove returned to service. -/
  since : Nat
  deriving DecidableEq, Repr

/-- The management complexes (15). -/
structure MgmtS where
  activeB : Bool
  runs : Bool
  lost : Bool
  stby : Nat
  stbyFail : Nat
  stbyTime : Nat
  handover : Option Handover
  handovers : Dword
  hoFail : BitVec 16
  lastCause : Nat
  lastResult : Nat
  mseq : Dword
  journalSeq : Qword
  ckptSeq : Qword
  ckptCopy : Nat
  /-- When the last periodic checkpoint was written (R423). -/
  ckptAt : Nat := 0
  /-- Tally records journaled since the newer checkpoint (R430). -/
  msgs : List TallyIn
  mgmtRel : Nat
  /-- The security version of the running management image. -/
  mgmtSvn : Nat
  /-- The standby image copy (R429). -/
  standbyRel : Nat
  standbySvn : Nat
  groveRel : Vector Nat 8
  /-- Second attempt of a grove restart, with the previous release. -/
  groveRetry : BitVec 8
  groveRebuild : BitVec 8
  rollout : Option Rollout
  /-- The FTL release whose rollout starts once the handover has completed (16 R462). -/
  rolloutNext : Option Nat
  bootRel : Nat
  cfgFmt : Nat
  ftlIf : Nat
  /-- Snapshots of the health report: path (0 Naile, 1 and 2 the PFs) to its 4 KiB pages. -/
  snaps : Sparse (List (Nat × Block))
  deriving DecidableEq, Repr

/-- A Naile response frame (16 R444). -/
structure Resp where
  seq : Dword
  typ : Nat
  len : Nat
  value : Nat
  deriving DecidableEq, Repr

/-- An alert frame: MSEQ and the Tally record it carries (16 R450). -/
structure AlertFrame where
  mseq : Dword
  record : BitVec 256
  deriving DecidableEq, Repr

/-- The Naile port (16 R443 to R450). -/
structure NaileS where
  ovf : Bool
  err : Bool
  errcode : Nat
  busy : Bool
  resp : Option Resp
  /-- The last executed request: SEQ and bytes. -/
  last : Option (Dword × Nat)
  alerts : List AlertFrame
  /-- The last status word read: status byte and ERRCODE. -/
  statusOut : BitVec 16
  respOut : Option Resp
  alertOut : Option AlertFrame
  /-- A request that waits for takeover or for a resumed core (R449). -/
  waiting : Option Instr
  /-- An IMAGE_CHUNK whose response waits for a free sector buffer (R457). -/
  chunk : Option Frame
  deriving DecidableEq, Repr

/-- A selector copy (16 Table 16-13). -/
structure Selector where
  seq : Qword
  boot : Nat
  cfg : Nat
  deriving DecidableEq, Repr

/-- An image slot or the spare: the header its sectors hold, whether all sectors carry their flags, and the
digest of the load segments as stored. -/
structure ImgSlot where
  hdr : Option ImageHeader
  complete : Bool
  digest : BitVec 384
  deriving DecidableEq, Repr

/-- A configuration slot. -/
structure CfgSlot where
  hdr : Option SweazHeader
  complete : Bool
  digest : BitVec 384
  deriving DecidableEq, Repr

/-- An update in progress (16 R457). -/
structure Update where
  /-- UPDSTATE: 0 none, 1 receiving, 2 complete, 3 activating. -/
  state : Nat
  area : Nat
  target : Nat
  length : Nat
  received : Nat
  hdr : Option StreamHeader
  /-- Bytes in sector buffers not yet in NOR, and sectors written. -/
  buffered : Nat
  sectors : Nat
  /-- The present sector's program or erase has failed once. -/
  retried : Bool
  lastFrame : Nat
  deriving DecidableEq, Repr

/-- The NOR flash and its controller (16 R451 to R463). -/
structure NorS where
  sel0 : Option Selector
  sel1 : Option Selector
  slotA : ImgSlot
  slotB : ImgSlot
  spare : ImgSlot
  cfg0 : CfgSlot
  cfg1 : CfgSlot
  /-- The area whose sectors are unprotected. -/
  unprotected : Option Nat
  upd : Update
  floor : Dword
  floorBad : Bool
  booted : Nat
  applied : Option Nat
  /-- The layout table as the NOR holds it; LAYOUTDEF says that it was found invalid (R452). -/
  layout : BitVec 512 := BitVec.allOnes 512
  layoutDef : Bool
  deriving DecidableEq, Repr

/-- A stored Tally record (17 Table 17-1). -/
structure TRec where
  tseq : Dword
  sev : Nat
  code : Nat
  src : Nat
  mgmt : Bool
  time : Qword
  p0 : Dword
  p1 : Dword
  p2 : Dword
  p3 : Dword
  /-- Awaiting the persistent tier (R479). -/
  awaiting : Bool
  deriving DecidableEq, Repr

/-- A code's token bucket and suppression count (17 R474, R475). Tokens are in units of 1/10^9. -/
structure Bucket where
  tokens : Nat
  refilled : Nat
  suppressed : Nat
  /-- The first and the last suppressed occurrence, and the last of any kind. -/
  firstNs : Nat
  lastNs : Nat
  lastAny : Nat
  lastP0 : Dword
  maxSev : Nat
  deriving DecidableEq, Repr

/-- A tier: its records in store order, and its drop counters. -/
structure Tier where
  recs : List TRec
  drops : Vector Dword 7
  /-- Severity whose counter first advanced since the last DROPPED record. -/
  firstDrop : Option Nat
  /-- When the last DROPPED record was made. -/
  lastReport : Option Nat
  deriving DecidableEq, Repr

/-- The Tally (17). -/
structure TallyS where
  ring : Tier
  tier : Tier
  nextTseq : Dword
  tseqRes : Dword
  buckets : Sparse Bucket
  lastMseq : Option Dword
  /-- The last 256 management records: MSEQ and TSEQ. -/
  recent : List (Dword × Dword)
  suppressed : Dword
  duplicates : Dword
  /-- The drop record, and the TSEQRES record, have failed their CRC (R483). -/
  dropBad : Bool := false
  resBad : Bool := false
  deriving DecidableEq, Repr

/-- An SPDM connection (02 R68, 14 R409). -/
structure SpdmS where
  version : Bool
  /-- The version that the requester has chosen, 10h to 12h; 0 before. -/
  ver : Nat := 0
  caps : Bool
  algs : Bool
  /-- What the newest ECDSA signature on this connection covered, until its HSS signature is given. -/
  signed : Option Nat
  /-- The last response: its code and a value. -/
  respCode : Nat
  respLen : Nat
  respValue : Nat
  deriving DecidableEq, Repr

/-- The management bus and attestation connections. -/
structure BusS where
  spdm : Vector SpdmS 3
  /-- The last NVMe-MI response: status, length and value. -/
  miStatus : Nat
  miLen : Nat
  miValue : Nat
  miConfig : Sparse Dword
  /-- Composite controller status changes since the last poll that cleared them. -/
  changes : Nat
  deriving DecidableEq, Repr

/-- The block. -/
structure State where
  /-- Commands that wait, first in, first out. -/
  pending : List Instr
  time : TimeS
  dev : DevS
  fuses : FuseS
  params : ParamS
  host : HostS
  nvm : NvmS
  land : LandS
  map : MapS
  media : MediaS
  flash : FlashS
  cache : CacheS
  plp : PlpS
  dram : DramS
  pwr : PwrS
  sec : SecS
  mgmt : MgmtS
  naile : NaileS
  nor : NorS
  tally : TallyS
  bus : BusS
  /-- The model's own: how many free values have been drawn. -/
  free : Nat
  deriving DecidableEq, Repr

/-- Why a step can fault. No row of the table faults: the block reports every error in its own state
(log entry 3). The one constructor keeps the type inhabited; nothing raises it. -/
inductive Fault where
  /-- Raised by nothing. Safe: a machine that never faults hides no state. -/
  | never
  deriving DecidableEq, Repr

/-- Why a step can be refused. -/
inductive Refusal where
  /-- A command whose meaning has not been written yet: raised by Dispatch only. Safe. -/
  | notModelled (mnemonic : String)
  deriving DecidableEq, Repr

/-! ## Reset

The machine during its first power-on reset: power-on reset is asserted, no unit runs, and every field is at
the value the spec gives or, where it gives none, at the value log entries 7 to 12 name. -/

/-- A port while reset is asserted: link down, PERST# asserted by the host. -/
def PortS.atReset : PortS :=
  { perst := true, linkUp := false, training := false, width := 0, rate := 0, l1 := false,
    flit := false, vfEnable := false, withheld := false }

/-- No lease (05 Table 5-11). -/
def LeaseS.none : LeaseS :=
  { state := .none, endCause := 0, ltag := 0, size2m := 0, extents := [], slots := [], hand := 0,
    fetch := 0, hits := 0, discard := 0, wback := 0, writing := [], fetching := [], revokeTag := Option.none }

/-- A channel before its first training (07 R245: it trains at power-on), with a blank heartwood record. -/
def ChanS.atReset : ChanS :=
  { state := .training, rate := 0, failedOnce := false, restoring := false, identified := false, faults := [], stuck := 0,
    bus := [], recValid := false, upsets := 0, faultsLife := 0, failed := 0, usedDies := 0, retires := 0,
    rcause := 0, recRate := 0, recRetired := false }

/-- A grove record with nothing lost (07 Table 7-9). -/
def GroveRec.blank : GroveRec :=
  { lostcw := 0, degraded := false, bmvalid := false, rebuild := false, bitmap := [] }

/-- A grove whose map is empty. -/
def GroveMap.empty : GroveMap :=
  { ring := [], log := [], nextSeq := 1, ctlSeq := 0, rootNew := { seq := 0, loc := 0, len := 0 }, rootOld := { seq := 0, loc := 0, len := 0 }, gen := none, groups := [],
    spilling := false, image := { trunk := [], leaves := [], dirs := [], heads := [], segs := [], locs := [] }, dirtyUnits := [], restarting := false,
    inDram := false }

/-- A dump set that does not exist. -/
def DumpSet.absent : DumpSet :=
  { present := false, state := .free, row := 0, blk := 0, cnt := 0, epoch := 0, slabs := [] }

/-- A DRAM channel before training. -/
def DramChS.atReset : DramChS :=
  { alerts := [], retrain := none, retry := [], replays := 0, temp := 0, lastTemp := 0, lastTempRetrain := none,
    refreshes := 0, extra := 0 }

/-- An SPDM connection on which nothing has been negotiated. -/
def SpdmS.idle : SpdmS :=
  { version := false, ver := 0, caps := false, algs := false, signed := none, respCode := 0, respLen := 0, respValue := 0 }

/-- An empty tier of the Tally. -/
def Tier.empty : Tier :=
  { recs := [], drops := Vector.replicate 7 0, firstDrop := none, lastReport := none }

/-- No update (16 Table 16-8: UPDSTATE 00h). -/
def Update.none : Update :=
  { state := 0, area := 0, target := 0, length := 0, received := 0, hdr := Option.none, buffered := 0,
    sectors := 0, retried := false, lastFrame := 0 }

/-- An erased image slot. -/
def ImgSlot.erased : ImgSlot := { hdr := none, complete := false, digest := 0 }
/-- An erased configuration slot. -/
def CfgSlot.erased : CfgSlot := { hdr := none, complete := false, digest := 0 }

/-- The safe defaults of the option block (R359). -/
def OptS.safe : OptS :=
  { port0 := { widthX8 := false, lrev := false, sris := true },
    port1 := { widthX8 := false, lrev := false, sris := true },
    layout := 0x1000, spimode := 0, sckdiv := 7, addr4 := false, dummy := 0 }

/-- The whole block during its first power-on reset. -/
def State.reset : State :=
  { pending := []
    time := { ns := 0, frac := 0 }
    dev :=
      { por := true, pin := false, porSeen := true, deferredPin := false, wasDeferred := false,
        phase := .inReset, fuseFail := false, failed := false, halted := false, rstCause := 1, bootStatus := 0,
        recoverN := true, testEn := false, validTally := false, validSave := false, validDram := false,
        validFlash := false, validLeaseKey := false, opt := OptS.safe, optValid := false, latchFlash := false,
        latchDram := false, latchGpio := false, clkCtrl := 0, gpioDrive := 0, gpioLevel := 0, wpN := 0,
        norRstN := false, configured := false, mapDone := 0, replayDone := false, refclk := true }
    fuses :=
      { provisioned := 3, sealedF := 0, rma := 0, chipid := 1, svn := 0, revoke0 := 0, cfgDigest := 0,
        dbgDigest := 0, k0 := 0, k1 := 0, vendorDbg := 0, vendorId := 0, subVendor := 0, subsystem := 0, maker := 0, gapCycles := 256, gpioDrive := 0,
        gpioLevel := 0 }
    params :=
      { vals := [], staged := [], reconfigs := 0, imgVersion := 0, imgFormat := 0, hdrHash := 0,
        defaulted := false, imgKeyDigest := 0 }
    host :=
      { port0 := PortS.atReset, port1 := PortS.atReset, funcs := [], sqs := [], cqs := [], tags := [],
        retiredTags := [], nextAseq := 0, cfgAnswer := none, holdAdmin := false, stopFetch := false,
        rr := [], lastTlp := 0 }
    nvm :=
      { nss := [], stands := [], ops := [], lease0 := LeaseS.none, lease1 := LeaseS.none, sanAction := 0,
        sanPhase := 0, sanProgress := 0, sanFrom := 0, sanFailed := false, sanDone := false, nextKeyGen := 0, sliceEnd := [] }
    land := { lines := [], grants := [], waiting := [], suspect := [], retired := [], ctxs := [], lag := [], copies := [], reports := [], tlps := [] }
    map :=
      { trunk := [], segs := [], leaves := [], pages := [], groves := Vector.replicate 8 GroveMap.empty,
        leafCacheGib := 0, leaseKey := 0 }
    media :=
      { geom := none, recs := [], info := [], erases := [], wearTable := [],
        erasedSince := Vector.replicate 8 0, points := [], sets := [], nextSet := 0, doms := [], debts := [],
        lastDom := [], readOnly := false, eraseFails := [],
        eraseBack := [], reads := [] }
    flash :=
      { chans := Vector.replicate 64 ChanS.atReset, groves := Vector.replicate 8 GroveRec.blank, dies := [],
        ops := [], nextOp := 0, content := [], softWait := [], softBusy := [], condemned := [],
        condemnWait := [], retBits := [], rateBits := [], tracked := [] }
    cache := { groups := [], nextGseq := 0, nextOrder := 0 }
    plp :=
      { state := .pending, testing := false, result := 0, tMs := 0, passed := none, pwrFailN := true,
        filtering := false, dumping := false, dumped := false, testFrom := 0, epoch := 0, recDumping := false, hdrDone := false,
        replayBegun := false, replayed := 0, sets := Vector.replicate 8 { a := DumpSet.absent, b := DumpSet.absent }, torn := false, warn4 := false,
        mediaErrors := 0 }
    dram :=
      { ready := false, rate := 0, lines := [], selfRefresh := false, filled := 0,
        chans := Vector.replicate 8 DramChS.atReset, retrainWait := [], ceRows := [], failing := none,
        tokens := [], scrubbed := 0, saved := none }
    pwr :=
      { ps := 0, q0 := 0, o0 := 0, q1 := 0, o1 := 0, thermal := 0, temp := 0, transitions1 := 0,
        transitions2 := 0, levelSince := 0, levelTime1 := 0, levelTime2 := 0, patrol := false, sclHeld := false,
        nackRest := false, smbusAddr := none, calibrated := 0, entering := false, gov := 0, patrolDue := 0, wakes := 0 }
    sec :=
      { rwk := none, nextq := 0, lmsDisabled := false, lmsBad := false, lmsReported := false, lmsTimes := [],
        target := 0, step := 0, ctrPor := 0, ctrPin := 0, ctrSessions := 0, ctrRefused := 0,
        sessionsSincePor := 0, session := none, nonce := none, refusals := 0, tapIr := 0x01, tapOut := 0 }
    mgmt :=
      { activeB := false, runs := false, lost := false, stby := 0, stbyFail := 0, stbyTime := 0,
        handover := none, handovers := 0, hoFail := 0, lastCause := 0, lastResult := 0, mseq := 0,
        journalSeq := 0, ckptSeq := 0, ckptCopy := 0, msgs := [], mgmtRel := 0, mgmtSvn := 0, standbyRel := 0, standbySvn := 0,
        groveRel := Vector.replicate 8 0, groveRetry := 0, groveRebuild := 0, rollout := none, rolloutNext := none, bootRel := 0,
        cfgFmt := 0, ftlIf := 0, snaps := [] }
    naile :=
      { ovf := false, err := false, errcode := 0, busy := false, resp := none, last := none, alerts := [],
        statusOut := 0, respOut := none, alertOut := none, waiting := none, chunk := none }
    nor :=
      { sel0 := none, sel1 := none, slotA := ImgSlot.erased, slotB := ImgSlot.erased, spare := ImgSlot.erased,
        cfg0 := CfgSlot.erased, cfg1 := CfgSlot.erased, unprotected := none, upd := Update.none, floor := 0,
        floorBad := false, booted := 0, applied := none, layoutDef := true }
    tally :=
      { ring := Tier.empty, tier := Tier.empty, nextTseq := 1, tseqRes := 1, buckets := [], lastMseq := none,
        recent := [], suppressed := 0, duplicates := 0 }
    bus :=
      { spdm := Vector.replicate 3 SpdmS.idle, miStatus := 0, miLen := 0, miValue := 0, miConfig := [],
        changes := 0 }
    free := 0 }

end Sys2Proof.Machine
end

