-- ==== Sys2Proof/Machine/Params.lean ====
section
/-! DEFINITION. The parameter space of configuration FORMAT 0001h (18 R486, R494, R504, R525 and the parameter
tables of every chapter): identity, class, width, default and range of each parameter, and its reading. -/

namespace Sys2Proof.Machine

/-- The class of a parameter (Table 18-6). -/
inductive PClass where
  | boot | quiesce | live
  deriving DecidableEq, Repr

/-- The range column of a parameter table. -/
inductive PRange where
  | any
  | range (lo hi : Nat)
  | oneOf (vs : List Nat)
  | oneOfOr (vs : List Nat) (lo hi : Nat)
  | multiple (lo hi step : Nat)
  deriving DecidableEq, Repr

/-- Instance kinds (Table 18-1). -/
inductive PKind where
  | single | port | grove | dramCh | chan | dieRow | stand
  deriving DecidableEq, Repr

/-- Whether a parameter is plain, an action (Table 18-7) or a read-only mirror (R373, R394). -/
inductive PAccess where
  | plain | action | mirror
  deriving DecidableEq, Repr

/-- One row of a parameter table. -/
structure PDef where
  id : Nat
  cls : PClass
  width : Nat
  default : Nat
  range : PRange
  kind : PKind
  access : PAccess
  deriving DecidableEq, Repr

/-- Instances of a kind run from 0 to this number minus 1 (Table 18-1). -/
def PKind.count : PKind → Nat
  | .single => 1
  | .port => 2
  | .grove => 8
  | .dramCh => 8
  | .chan => 64
  | .dieRow => 128
  | .stand => 128

/-- A value is in its range. -/
def PRange.ok (r : PRange) (v : Nat) : Bool :=
  match r with
  | .any => true
  | .range lo hi => decide (lo ≤ v) && decide (v ≤ hi)
  | .oneOf vs => decide (v ∈ vs)
  | .oneOfOr vs lo hi => decide (v ∈ vs) || (decide (lo ≤ v) && decide (v ≤ hi))
  | .multiple lo hi step => decide (lo ≤ v) && decide (v ≤ hi) && decide (v % step = 0)

/-- ⌈WIDTH / 8⌉ (R489). -/
def PDef.bytes (d : PDef) : Nat := (d.width + 7) / 8

/-- Block 01h. -/
def paramBlockClk : List PDef := [
  ⟨0x0101, .boot, 8, 0, .range 0 1, .single, .plain⟩,
  ⟨0x0102, .live, 16, 60, .range 10 3600, .single, .plain⟩ ]

/-- Block 02h. -/
def paramBlockPwr : List PDef := [
  ⟨0x0201, .live, 8, 4, .range 0 4, .single, .plain⟩,
  ⟨0x0202, .live, 16, 24, .range 1 168, .single, .plain⟩,
  ⟨0x0203, .live, 8, 0, .any, .single, .mirror⟩,
  ⟨0x0204, .live, 16, 10, .range 1 60000, .single, .plain⟩,
  ⟨0x0205, .live, 8, 100, .range 85 100, .single, .plain⟩,
  ⟨0x0206, .live, 16, 1800, .range 60 3600, .single, .plain⟩ ]

/-- Block 03h. -/
def paramBlockRst : List PDef := [
  ⟨0x0301, .boot, 16, 256, .range 64 4096, .single, .mirror⟩ ]

/-- Block 04h. -/
def paramBlockSec : List PDef := [
  ⟨0x0401, .live, 8, 0, .oneOf [2], .single, .action⟩,
  ⟨0x0402, .boot, 384, 0, .any, .single, .plain⟩,
  ⟨0x0403, .live, 8, 0, .range 0 1, .single, .action⟩,
  ⟨0x0404, .live, 16, 60, .range 1 3600, .single, .plain⟩ ]

/-- Block 05h. -/
def paramBlockDbg : List PDef := [
  ⟨0x0501, .live, 8, 0, .range 0 1, .single, .plain⟩,
  ⟨0x0502, .live, 8, 8, .range 1 64, .single, .plain⟩ ]

/-- Block 06h. -/
def paramBlockHst : List PDef := [
  ⟨0x0601, .boot, 8, 64, .oneOf [8, 16, 32, 64], .port, .plain⟩,
  ⟨0x0602, .boot, 16, 128, .range 1 1024, .single, .plain⟩,
  ⟨0x0603, .boot, 16, 31, .range 0 1024, .single, .plain⟩,
  ⟨0x0604, .boot, 8, 29, .range 8 119, .single, .plain⟩ ]

/-- Block 07h. -/
def paramBlockQue : List PDef := [
  ⟨0x0701, .live, 16, 50, .range 10 1000, .single, .plain⟩,
  ⟨0x0702, .live, 16, 50, .range 0 1000, .single, .plain⟩,
  ⟨0x0703, .live, 32, 8192, .range 64 65536, .single, .plain⟩,
  ⟨0x0704, .boot, 16, 256, .range 64 1024, .single, .plain⟩,
  ⟨0x0705, .live, 16, 8192, .range 0 32704, .single, .plain⟩ ]

/-- Block 08h. -/
def paramBlockDma : List PDef := [
  ⟨0x0801, .live, 8, 0, .range 0 1, .single, .plain⟩,
  ⟨0x0802, .live, 8, 2, .range 0 4, .single, .plain⟩,
  ⟨0x0803, .live, 8, 8, .range 0 8, .single, .plain⟩ ]

/-- Block 09h. -/
def paramBlockLnd : List PDef := [
  ⟨0x0901, .live, 16, 128, .range 16 256, .chan, .plain⟩,
  ⟨0x0902, .live, 16, 2048, .range 256 4096, .port, .plain⟩,
  ⟨0x0903, .live, 16, 8321, .range 8321 16384, .single, .plain⟩,
  ⟨0x0904, .live, 16, 256, .range 16 4096, .single, .plain⟩ ]

/-- Block 0Ah. -/
def paramBlockMap : List PDef := [
  ⟨0x0A01, .boot, 8, 8, .range 1 64, .single, .plain⟩,
  ⟨0x0A02, .live, 8, 32, .range 0 32, .single, .plain⟩,
  ⟨0x0A03, .boot, 16, 256, .range 64 1024, .single, .plain⟩,
  ⟨0x0A04, .live, 8, 50, .range 20 90, .single, .plain⟩,
  ⟨0x0A05, .live, 8, 8, .range 1 16, .single, .plain⟩,
  ⟨0x0A06, .live, 8, 0, .range 0 1, .single, .action⟩ ]

/-- Block 0Bh. -/
def paramBlockMed : List PDef := [
  ⟨0x0B01, .boot, 8, 7, .range 7 50, .single, .plain⟩,
  ⟨0x0B02, .boot, 16, 40, .range 10 200, .single, .plain⟩,
  ⟨0x0B03, .live, 8, 10, .range 1 100, .single, .plain⟩,
  ⟨0x0B04, .live, 8, 2, .range 0 50, .single, .plain⟩,
  ⟨0x0B05, .live, 16, 0, .oneOfOr [0xFFFF] 0x8000 0x807F, .single, .action⟩,
  ⟨0x0B06, .boot, 8, 8, .range 4 16, .single, .plain⟩,
  ⟨0x0B07, .live, 8, 8, .range 4 64, .single, .plain⟩,
  ⟨0x0B08, .live, 8, 4, .range 1 64, .single, .plain⟩,
  ⟨0x0B09, .live, 32, 604800, .range 60 31536000, .single, .plain⟩,
  ⟨0x0B0A, .live, 16, 300, .range 50 5000, .single, .plain⟩,
  ⟨0x0B0B, .boot, 16, 3000, .range 500 60000, .single, .plain⟩,
  ⟨0x0B0C, .live, 16, 168, .range 24 2160, .single, .plain⟩,
  ⟨0x0B0D, .live, 32, 200000, .range 10000 10000000, .single, .plain⟩,
  ⟨0x0B0E, .live, 8, 60, .range 30 95, .single, .plain⟩,
  ⟨0x0B0F, .live, 16, 100, .range 10 10000, .single, .plain⟩,
  ⟨0x0B10, .live, 16, 1000, .range 10 60000, .single, .plain⟩,
  ⟨0x0B11, .live, 16, 60, .range 1 3600, .single, .plain⟩,
  ⟨0x0B12, .boot, 16, 5, .range 2 50, .single, .plain⟩ ]

/-- Block 0Ch. -/
def paramBlockChn : List PDef := [
  ⟨0x0C01, .boot, 16, 4800, .oneOf [800, 1600, 2400, 3600, 4800], .chan, .plain⟩,
  ⟨0x0C02, .live, 8, 3, .range 0 8, .single, .plain⟩,
  ⟨0x0C03, .live, 8, 8, .range 2 64, .single, .plain⟩,
  ⟨0x0C04, .live, 32, 600, .range 60 86400, .single, .plain⟩,
  ⟨0x0C05, .live, 8, 4, .range 1 32, .single, .plain⟩,
  ⟨0x0C06, .live, 16, 500, .range 50 60000, .single, .plain⟩,
  ⟨0x0C07, .live, 8, 3, .range 1 3, .single, .plain⟩,
  ⟨0x0C08, .boot, 8, 20, .range 12 40, .single, .plain⟩,
  ⟨0x0C09, .live, 8, 50, .range 10 100, .single, .plain⟩,
  ⟨0x0C0A, .live, 8, 0, .range 128 135, .single, .action⟩ ]

/-- Block 0Dh. -/
def paramBlockDie : List PDef := [
  ⟨0x0D01, .live, 8, 24, .range 0 64, .single, .plain⟩,
  ⟨0x0D02, .live, 8, 8, .range 0 32, .single, .plain⟩,
  ⟨0x0D03, .live, 16, 23, .range 10 1000, .single, .plain⟩,
  ⟨0x0D04, .live, 8, 1, .range 0 2, .single, .plain⟩,
  ⟨0x0D05, .live, 8, 0, .range 0 1, .dieRow, .plain⟩ ]

/-- Block 0Eh. -/
def paramBlockPlp : List PDef := [
  ⟨0x0E01, .boot, 8, 1, .range 0 1, .single, .plain⟩,
  ⟨0x0E02, .boot, 16, 2048, .multiple 512 4096 512, .single, .plain⟩,
  ⟨0x0E03, .live, 16, 24, .range 1 720, .single, .plain⟩,
  ⟨0x0E04, .boot, 16, 52, .range 1 60000, .single, .plain⟩,
  ⟨0x0E05, .boot, 16, 100, .range 2 60000, .single, .plain⟩,
  ⟨0x0E06, .boot, 8, 14, .range 0 15, .single, .plain⟩,
  ⟨0x0E07, .boot, 8, 15, .range 0 15, .single, .plain⟩,
  ⟨0x0E08, .boot, 8, 2, .range 0 20, .single, .plain⟩,
  ⟨0x0E09, .live, 8, 0, .range 0 1, .single, .action⟩ ]

/-- Block 0Fh. -/
def paramBlockStd : List PDef := [
  ⟨0x0F01, .live, 16, 230, .range 10 250, .single, .plain⟩,
  ⟨0x0F02, .live, 16, 120, .range 10 130, .single, .plain⟩,
  ⟨0x0F03, .live, 32, 1000, .range 100 100000, .single, .plain⟩ ]

/-- Block 10h. -/
def paramBlockDrm : List PDef := [
  ⟨0x1001, .boot, 16, 16, .any, .single, .plain⟩,
  ⟨0x1002, .boot, 16, 6400, .oneOf [3200, 4800, 6400], .single, .plain⟩,
  ⟨0x1003, .boot, 8, 30, .range 20 50, .single, .plain⟩,
  ⟨0x1004, .live, 8, 3, .range 1 8, .single, .plain⟩,
  ⟨0x1005, .live, 16, 16, .range 1 1024, .single, .plain⟩,
  ⟨0x1006, .live, 32, 1000, .range 10 600000, .single, .plain⟩,
  ⟨0x1007, .live, 8, 10, .range 2 40, .single, .plain⟩,
  ⟨0x1008, .live, 16, 600, .range 60 86400, .single, .plain⟩,
  ⟨0x1009, .live, 8, 0, .range 128 135, .single, .action⟩,
  ⟨0x100A, .live, 16, 24, .range 1 720, .single, .plain⟩,
  ⟨0x100B, .live, 16, 64, .range 4 65535, .single, .plain⟩ ]

/-- Block 11h. -/
def paramBlockMgt : List PDef := [
  ⟨0x1101, .live, 16, 100, .range 10 1000, .single, .plain⟩,
  ⟨0x1102, .live, 8, 0, .range 0 1, .single, .plain⟩,
  ⟨0x1103, .live, 16, 6, .range 1 168, .single, .plain⟩,
  ⟨0x1104, .live, 16, 200, .range 50 5000, .single, .plain⟩,
  ⟨0x1105, .live, 8, 0, .range 0 1, .single, .action⟩,
  ⟨0x1106, .live, 16, 100, .range 0 10000, .single, .plain⟩ ]

/-- Block 12h. -/
def paramBlockSvc : List PDef := [
  ⟨0x1201, .live, 8, 3, .range 0 6, .single, .plain⟩,
  ⟨0x1202, .live, 16, 60, .range 5 3600, .single, .plain⟩ ]

/-- Block 13h. -/
def paramBlockTly : List PDef := [
  ⟨0x1301, .live, 8, 3, .range 0 6, .single, .plain⟩,
  ⟨0x1302, .live, 16, 16, .range 1 1000, .single, .plain⟩,
  ⟨0x1303, .live, 16, 64, .range 1 4096, .single, .plain⟩,
  ⟨0x1304, .live, 64, 0, .any, .single, .plain⟩ ]

/-- Block 14h. -/
def paramBlockCfg : List PDef := [
  ⟨0x1401, .boot, 8, 0, .range 0 1, .single, .plain⟩,
  ⟨0x1402, .live, 16, 60, .range 1 3600, .single, .plain⟩ ]

/-- Every parameter of FORMAT 0001h (Table 18-12). -/
def paramTable : List PDef :=
  paramBlockClk ++ paramBlockPwr ++ paramBlockRst ++ paramBlockSec ++ paramBlockDbg ++ paramBlockHst ++ paramBlockQue ++ paramBlockDma ++ paramBlockLnd ++ paramBlockMap ++ paramBlockMed ++ paramBlockChn ++ paramBlockDie ++ paramBlockPlp ++ paramBlockStd ++ paramBlockDrm ++ paramBlockMgt ++ paramBlockSvc ++ paramBlockTly ++ paramBlockCfg

/-! ## IDs by name -/

namespace P

abbrev CLK_AON_SOURCE : Nat := 0x0101
abbrev CLK_LPO_CAL_S : Nat := 0x0102
abbrev PWR_DEEPEST_ALLOWED : Nat := 0x0201
abbrev PWR_RETENTION_PATROL_H : Nat := 0x0202
abbrev PWR_PAD_RELEASE : Nat := 0x0203
abbrev PWR_IDLE_ENTRY_MS : Nat := 0x0204
abbrev PWR_THROTTLE_C : Nat := 0x0205
abbrev PWR_PATROL_MAX_S : Nat := 0x0206
abbrev RST_GAP_CYCLES : Nat := 0x0301
abbrev SEC_LIFECYCLE_ADVANCE : Nat := 0x0401
abbrev SEC_DEBUG_KEY_DIGEST : Nat := 0x0402
abbrev SEC_SVN_COMMIT : Nat := 0x0403
abbrev SEC_LMS_PER_HOUR : Nat := 0x0404
abbrev DBG_HOLD_AWAKE : Nat := 0x0501
abbrev DBG_TOKEN_FAIL_MAX : Nat := 0x0502
abbrev HST_MAX_RATE_GTS : Nat := 0x0601
abbrev HST_PF_IO_QUEUES : Nat := 0x0602
abbrev HST_VF_IO_QUEUES : Nat := 0x0603
abbrev HST_MB_ADDR : Nat := 0x0604
abbrev QUE_SLICE_US : Nat := 0x0701
abbrev QUE_SLICE_GAP_US : Nat := 0x0702
abbrev QUE_FUNC_TAG_MAX : Nat := 0x0703
abbrev QUE_ADMIN_TAG_RESERVE : Nat := 0x0704
abbrev QUE_L0_TAG_RESERVE : Nat := 0x0705
abbrev DMA_POISON_POLICY : Nat := 0x0801
abbrev DMA_POISON_RETRY_MAX : Nat := 0x0802
abbrev DMA_RESHUFFLE_GBS : Nat := 0x0803
abbrev LND_CHAN_RESERVE : Nat := 0x0901
abbrev LND_PORT_RESERVE : Nat := 0x0902
abbrev LND_GATHER_RESERVE : Nat := 0x0903
abbrev LND_RETIRE_LIMIT : Nat := 0x0904
abbrev MAP_LEAF_CACHE_GIB : Nat := 0x0A01
abbrev MAP_LEASE_MAX_GIB : Nat := 0x0A02
abbrev MAP_LOG_MAX_MIB : Nat := 0x0A03
abbrev MAP_COMPACT_FILL_PCT : Nat := 0x0A04
abbrev MAP_FOLD_MIN_IN_VICTIM : Nat := 0x0A05
abbrev MAP_LEASE_REKEY : Nat := 0x0A06
abbrev MED_OP_PCT : Nat := 0x0B01
abbrev MED_SPARE_REF_PM : Nat := 0x0B02
abbrev MED_SPARE_WARN : Nat := 0x0B03
abbrev MED_SPARE_CRITICAL : Nat := 0x0B04
abbrev MED_READ_ONLY_RELEASE : Nat := 0x0B05
abbrev MED_OPEN_PER_ROW : Nat := 0x0B06
abbrev MED_FREE_TARGET : Nat := 0x0B07
abbrev MED_THIN_DEBT_SETS : Nat := 0x0B08
abbrev MED_THIN_AGE_CAP_S : Nat := 0x0B09
abbrev MED_WEAR_SPREAD : Nat := 0x0B0A
abbrev MED_PE_RATED : Nat := 0x0B0B
abbrev MED_CRUISE_PERIOD_H : Nat := 0x0B0C
abbrev MED_DISTURB_READS : Nat := 0x0B0D
abbrev MED_REWRITE_THRESHOLD_PCT : Nat := 0x0B0E
abbrev MED_FORCE_WAIT_US : Nat := 0x0B0F
abbrev MED_IDLE_FORCE_MS : Nat := 0x0B10
abbrev MED_OPEN_IDLE_S : Nat := 0x0B11
abbrev MED_MAP_REGION_PM : Nat := 0x0B12
abbrev CHN_MAX_RATE : Nat := 0x0C01
abbrev CHN_RETRY_LIMIT : Nat := 0x0C02
abbrev CHN_FAULT_LIMIT : Nat := 0x0C03
abbrev CHN_FAULT_WINDOW_S : Nat := 0x0C04
abbrev CHN_DIE_FAULT_LIMIT : Nat := 0x0C05
abbrev CHN_RETRAIN_INTERVAL_MS : Nat := 0x0C06
abbrev CHN_TRAIN_SLICE_US : Nat := 0x0C07
abbrev CHN_EYE_MIN_TAPS : Nat := 0x0C08
abbrev CHN_REBUILD_MIN_PCT : Nat := 0x0C09
abbrev CHN_DEGRADED_CLEAR : Nat := 0x0C0A
abbrev DIE_ERASE_SUSPEND_MAX : Nat := 0x0D01
abbrev DIE_PROG_SUSPEND_MAX : Nat := 0x0D02
abbrev DIE_RESUME_MIN_US : Nat := 0x0D03
abbrev DIE_NESTED_PROGRAM : Nat := 0x0D04
abbrev DIE_LDPC_RATE : Nat := 0x0D05
abbrev PLP_MODE : Nat := 0x0E01
abbrev PLP_WRITE_CACHE_MIB : Nat := 0x0E02
abbrev PLP_TEST_INTERVAL_H : Nat := 0x0E03
abbrev PLP_TEST_MIN_MS : Nat := 0x0E04
abbrev PLP_TEST_MAX_MS : Nat := 0x0E05
abbrev PLP_HU_TEST_GPIO : Nat := 0x0E06
abbrev PLP_HU_LOW_GPIO : Nat := 0x0E07
abbrev PLP_FAIL_FILTER_US : Nat := 0x0E08
abbrev PLP_TEST_NOW : Nat := 0x0E09
abbrev STD_READ_REF_GBS : Nat := 0x0F01
abbrev STD_WRITE_REF_GBS : Nat := 0x0F02
abbrev STD_CREDIT_WINDOW_US : Nat := 0x0F03
abbrev DRM_POPULATION : Nat := 0x1001
abbrev DRM_RATE : Nat := 0x1002
abbrev DRM_EYE_MIN_PCT : Nat := 0x1003
abbrev DRM_REPLAY_MAX : Nat := 0x1004
abbrev DRM_ALERT_LIMIT : Nat := 0x1005
abbrev DRM_ALERT_WINDOW_MS : Nat := 0x1006
abbrev DRM_RETRAIN_DELTA_C : Nat := 0x1007
abbrev DRM_RETRAIN_MIN_S : Nat := 0x1008
abbrev DRM_RETRAIN_NOW : Nat := 0x1009
abbrev DRM_SCRUB_PERIOD_H : Nat := 0x100A
abbrev DRM_CE_DEVICE_LIMIT : Nat := 0x100B
abbrev MGT_CHECKPOINT_MS : Nat := 0x1101
abbrev MGT_STANDBY_TEST_MODE : Nat := 0x1102
abbrev MGT_STANDBY_TEST_INTERVAL_H : Nat := 0x1103
abbrev MGT_WATCHDOG_MS : Nat := 0x1104
abbrev MGT_HANDOVER_NOW : Nat := 0x1105
abbrev MGT_GROVE_GAP_MS : Nat := 0x1106
abbrev SVC_ALERT_MIN : Nat := 0x1201
abbrev SVC_UPDATE_TIMEOUT_S : Nat := 0x1202
abbrev TLY_PERSIST_MIN : Nat := 0x1301
abbrev TLY_RATE_PER_S : Nat := 0x1302
abbrev TLY_BURST : Nat := 0x1303
abbrev TLY_EPOCH : Nat := 0x1304
abbrev CFG_RECONFIG_LOCK : Nat := 0x1401
abbrev CFG_QUIESCE_WARN_S : Nat := 0x1402

end P

/-- The row of a parameter ID, if the format defines it. -/
def paramDef (id : Nat) : Option PDef := paramTable.find? (fun d => d.id == id)

/-- The default of a parameter ID; 0 for an ID that is not defined. -/
def paramDefault (id : Nat) : Nat := ((paramDef id).map PDef.default).getD 0

/-- The key of a parameter instance in ParamS. -/
def paramKey (id inst : Nat) : Nat := id * 256 + inst

/-- The value in force of an instance of a parameter. -/
def State.parI (s : State) (id inst : Nat) : Nat :=
  match s.params.vals.find? (fun kv => kv.1 == paramKey id inst) with
  | some kv => kv.2
  | none => paramDefault id

/-- The value in force of a parameter that is not an array. -/
def State.par (s : State) (id : Nat) : Nat := s.parI id 0

end Sys2Proof.Machine
end

