-- ==== Sys2Proof/Machine/Ops.lean ====
section
/-! DEFINITION. Shared operations: sparse tables, time, severities and source units, the intake and storage
of Tally records (17), message numbers and alert frames (15 R426, 16 R450). -/

namespace Sys2Proof.Machine

/-! ## Sparse tables -/

/-- The value under a key. -/
def sget {α : Type} : Sparse α → Nat → Option α
  | [], _ => none
  | (k', v) :: t, k => if k' = k then some v else sget t k

/-- Write a value under a key, keeping the keys strictly rising. -/
def sput {α : Type} (k : Nat) (v : α) : Sparse α → Sparse α
  | [] => [(k, v)]
  | (k', v') :: t =>
    if k < k' then (k, v) :: (k', v') :: t
    else if k' = k then (k, v) :: t
    else (k', v') :: sput k v t

/-- Drop a key. -/
def sdel {α : Type} (k : Nat) (m : Sparse α) : Sparse α := m.filter (fun kv => kv.1 != k)

/-- Write a value, or drop the key where the value is what an unlisted key reads as. -/
def sputD {α : Type} [DecidableEq α] (dflt : α) (k : Nat) (v : α) (m : Sparse α) : Sparse α :=
  if v = dflt then sdel k m else sput k v m

/-- Change a listed value. -/
def smod {α : Type} (k : Nat) (f : α → α) (m : Sparse α) : Sparse α :=
  m.map (fun kv => if kv.1 = k then (kv.1, f kv.2) else kv)

/-- Change every listed value. -/
def smap {α : Type} (f : Nat → α → α) (m : Sparse α) : Sparse α := m.map (fun kv => (kv.1, f kv.1 kv.2))

/-- Keep the listed entries that satisfy a test. -/
def skeep {α : Type} (p : Nat → α → Bool) (m : Sparse α) : Sparse α := m.filter (fun kv => p kv.1 kv.2)

/-- Strictly rising keys: the canonical form of a sparse table. -/
def sorted {α : Type} (m : Sparse α) : Prop := (m.map Prod.fst).Pairwise (· < ·)

/-! ## Lists used as queues and sets -/

/-- Add to a list without repeats. -/
def addOnce {α : Type} [DecidableEq α] (x : α) (l : List α) : List α := if x ∈ l then l else l ++ [x]

/-- All numbers below n that satisfy a test. -/
def below (n : Nat) (p : Nat → Bool) : List Nat := (List.range n).filter p

/-- Change entry i of a vector, where i may be out of range. -/
def vmod {α : Type} {n : Nat} (v : Vector α n) (i : Nat) (f : α → α) : Vector α n :=
  v.mapIdx (fun j x => if j = i then f x else x)

/-- Entry i of a vector, where i may be out of range. -/
def vget {α : Type} {n : Nat} (v : Vector α n) (i : Nat) (d : α) : α := (v[i]?).getD d

/-! ## Time -/

/-- The AON timekeeper count in ns (13 R378). -/
def State.now (s : State) : Nat := s.time.ns.toNat

/-! ## Severities and source units (Tables 17-2, 17-3) -/

/-- DEBUG. -/
abbrev sevDebug : Nat := 0
/-- INFO. -/
abbrev sevInfo : Nat := 1
/-- NOTICE. -/
abbrev sevNotice : Nat := 2
/-- WARNING. -/
abbrev sevWarning : Nat := 3
/-- ERROR. -/
abbrev sevError : Nat := 4
/-- CRITICAL. -/
abbrev sevCritical : Nat := 5
/-- FATAL. -/
abbrev sevFatal : Nat := 6

/-- The FTL cores of a grove. -/
def srcFtl (g : Grove) : Nat := g.val
/-- Host front end. -/
abbrev srcFront : Nat := 0x0A
/-- DMA engines and Landing. -/
abbrev srcDma : Nat := 0x0B
/-- Crypt. -/
abbrev srcCrypt : Nat := 0x0D
/-- DRAM controller. -/
abbrev srcDram : Nat := 0x0E
/-- Heartwood. -/
abbrev srcHeart : Nat := 0x0F
/-- AON domain. -/
abbrev srcAon : Nat := 0x11
/-- ROM. -/
abbrev srcRom : Nat := 0x12
/-- Tally engine. -/
abbrev srcTally : Nat := 0x13
/-- The sequencer of a device channel. -/
def srcSeq (c : Chan) : Nat := 0x40 + c.val

/-! ## Tally numbers -/

/-- Serial-number order of RFC 1982: a is newer than b (17 R470, R472). -/
def serialNewer (a b : Dword) : Bool := a != b && decide ((a - b).toNat < 2147483648)

/-- Add to a Tally sequence number, skipping 0: after FFFFFFFFh comes 1 (R470). -/
def tseqAdd (n : Dword) (k : Nat) : Dword :=
  BitVec.ofNat 32 ((n.toNat - 1 + k) % 4294967295 + 1)

/-- Capacity of the ring (R476). -/
def ringCap : Nat := 16384
/-- Capacity of the persistent tier (R476). -/
def tierCap : Nat := 131072

/-- The 256 bits of a stored record (Table 17-1). -/
def TRec.bits (r : TRec) : BitVec 256 :=
  r.tseq ++ r.p3 ++ r.p2 ++ r.p1 ++ r.p0 ++ r.time ++ BitVec.ofNat 8 r.src ++
    (0 : BitVec 4) ++ BitVec.ofBool r.mgmt ++ BitVec.ofNat 3 r.sev ++ BitVec.ofNat 16 r.code

/-- A 32-bit counter that stops at FFFFFFFFh. -/
def satInc (c : Dword) : Dword := if c = 0xFFFFFFFF then c else c + 1

/-- Count a drop of severity `sev` in a tier (R477). -/
def Tier.drop (t : Tier) (sev : Nat) : Tier :=
  { t with
    drops := vmod t.drops sev satInc
    firstDrop := match t.firstDrop with
      | some x => some x
      | none => some sev }

/-- Remove the first record that satisfies a test. -/
def removeFirst (p : TRec → Bool) : List TRec → List TRec
  | [] => []
  | r :: t => if p r then t else r :: removeFirst p t

/-- What a store did (R477): the tier afterwards, whether the record was stored, and the record it replaced. -/
structure Stored where
  tier : Tier
  stored : Bool
  gone : Option TRec

/-- Store a record in a tier of a capacity: an empty slot, else the oldest record of no higher severity,
else a drop (R477). Records stand in the order of TSEQ, so the first such record is the oldest. -/
def Tier.store (cap : Nat) (t : Tier) (x : TRec) : Stored :=
  if t.recs.length < cap then { tier := { t with recs := t.recs ++ [x] }, stored := true, gone := none }
  else
    match t.recs.find? (fun v => v.sev ≤ x.sev) with
    | none => { tier := t.drop x.sev, stored := false, gone := none }
    | some v =>
      { tier := { t with recs := removeFirst (fun v => v.sev ≤ x.sev) t.recs ++ [x] }, stored := true,
        gone := some v }

/-! ## Intake -/

/-- The FABRIC domain is up and firmware has started, so that the Tally engine runs (R479). -/
def State.engineRuns (s : State) : Bool :=
  (s.dev.phase == .booting || s.dev.phase == .running) && s.pwr.ps != 4

/-- The ring and tier indices of Table 17-4. -/
abbrev tierRing : Nat := 0
/-- The persistent tier. -/
abbrev tierPersistent : Nat := 1

/-- Take the next TSEQ, reserving ahead while the engine runs (R470). -/
def TallyS.takeTseq (t : TallyS) (engine : Bool) : Dword × TallyS :=
  let n := t.nextTseq
  let res := if engine && !(serialNewer t.tseqRes n) then tseqAdd n 4096 else t.tseqRes
  (n, { t with nextTseq := tseqAdd n 1, tseqRes := res })

/-- Store one record in the ring, and in the persistent tier where it is bound for it; count what is lost.
With the engine stopped, or records still awaiting the tier, it waits in the ring (R479, R480). -/
def TallyS.place (t : TallyS) (engine bound : Bool) (x : TRec) : TallyS × Bool × Bool :=
  let waits := bound && (!engine || t.ring.recs.any (fun r => r.awaiting))
  let r := Tier.store ringCap t.ring { x with awaiting := waits }
  let tier := match r.gone with
    | some v => if v.awaiting then t.tier.drop v.sev else t.tier
    | none => t.tier
  let tier := if waits && !r.stored then tier.drop x.sev else tier
  if bound && !waits then
    let p := Tier.store tierCap tier { x with awaiting := false }
    ({ t with ring := r.tier, tier := p.tier }, r.stored, p.stored)
  else ({ t with ring := r.tier, tier := tier }, r.stored, false)

/-- A DROPPED record is due for a tier: it has dropped since its last one, a second has passed (R478). -/
def Tier.dropDue (t : Tier) (now : Nat) : Bool :=
  t.firstDrop.isSome && (match t.lastReport with
    | none => true
    | some at0 => decide (at0 + 1000000000 ≤ now))

/-- The DROPPED record of a tier (Table 17-4). -/
def droppedRec (which : Nat) (t : Tier) (n : Dword) (now : Qword) : TRec :=
  let sev := t.firstDrop.getD 0
  { tseq := n, sev := sevWarning, code := 0x1304, src := srcTally, mgmt := false, time := now,
    p0 := BitVec.ofNat 32 which, p1 := BitVec.ofNat 32 sev, p2 := vget t.drops sev 0, p3 := 0, awaiting := false }

/-- Make the DROPPED record that is due for a tier after it has stored a record (R478). -/
def TallyS.report (t : TallyS) (engine : Bool) (persistMin : Nat) (now : Qword) (which : Nat) : TallyS :=
  let tr := if which = tierRing then t.ring else t.tier
  if tr.dropDue now.toNat then
    let (n, t1) := t.takeTseq engine
    let x := droppedRec which tr n now
    let clear := fun (u : Tier) => { u with firstDrop := none, lastReport := some now.toNat }
    let t2 := if which = tierRing then { t1 with ring := clear t1.ring } else { t1 with tier := clear t1.tier }
    (t2.place engine (which = tierPersistent || decide (persistMin ≤ sevWarning)) x).1
  else t

/-- Store a record that intake has accepted, and report drops (R472, R477, R478). -/
def TallyS.accept (t : TallyS) (engine : Bool) (persistMin : Nat) (x : TRec) : TallyS :=
  let (t1, inRing, inTier) := t.place engine (decide (persistMin ≤ x.sev)) x
  let t2 := if inRing && x.code != 0x1304 then t1.report engine persistMin x.time tierRing else t1
  if inTier && x.code != 0x1304 then t2.report engine persistMin x.time tierPersistent else t2

/-- One token in the unit of a bucket. -/
def oneToken : Nat := 1000000000

/-- A full bucket. -/
def fullBucket (burst now : Nat) : Bucket :=
  { tokens := burst * oneToken, refilled := now, suppressed := 0, firstNs := 0, lastNs := 0, lastAny := now, lastP0 := 0, maxSev := 0 }

/-- A bucket after its continuous refill to now (R474). -/
def Bucket.refill (b : Bucket) (rate burst now : Nat) : Bucket :=
  { b with tokens := min (burst * oneToken) (b.tokens + (now - b.refilled) * rate), refilled := now }

/-- Take a token (R474): the bucket afterwards, and whether there was one. -/
def Bucket.take (b : Bucket) : Bucket × Bool :=
  if oneToken ≤ b.tokens then ({ b with tokens := b.tokens - oneToken }, true) else (b, false)

/-- Note a suppressed occurrence (R472, R475): its count stops at FFFFFFFFh. -/
def Bucket.note (b : Bucket) (now sev : Nat) (p0 : Dword) : Bucket :=
  { b with
    firstNs := if b.suppressed = 0 then now else b.firstNs
    lastNs := now, lastAny := now, lastP0 := p0
    maxSev := max b.maxSev sev
    suppressed := min 0xFFFFFFFF (b.suppressed + 1) }

/-- The result of intake: the TSEQ returned (0: no record), and the Tally. -/
abbrev Intake := Dword × TallyS

/-- The intake of R472 for a record submitted at `now`. -/
def TallyS.intake (t : TallyS) (engine : Bool) (persistMin rate burst : Nat) (now : Qword) (x : TallyIn) : Intake :=
  let dup := match x.mseq, t.lastMseq with
    | some m, some l => !(serialNewer (BitVec.ofNat 32 m) l)
    | _, _ => false
  if dup then
    let m := BitVec.ofNat 32 (x.mseq.getD 0)
    let old := match t.recent.find? (fun e => e.1 == m) with
      | some e => e.2
      | none => 0
    (old, { t with duplicates := t.duplicates + 1 })
  else
    let free := decide (sevCritical ≤ x.sev) || x.code / 256 == 0x13
    let b := (((sget t.buckets x.code).getD (fullBucket burst now.toNat)).refill rate burst now.toNat)
    let (b', got) := b.take
    if !free && !got then
      (0, { t with buckets := sput x.code (b'.note now.toNat x.sev x.p0) t.buckets,
                   suppressed := t.suppressed + 1 })
    else
      let t := if free then t else { t with buckets := sput x.code { b' with lastAny := now.toNat } t.buckets }
      let t := match x.mseq with
        | some m => { t with lastMseq := some (BitVec.ofNat 32 m) }
        | none => t
      let (n, t) := t.takeTseq engine
      let r : TRec :=
        { tseq := n, sev := x.sev, code := x.code, src := x.src, mgmt := x.mseq.isSome, time := now,
          p0 := x.p0, p1 := x.p1, p2 := x.p2, p3 := x.p3, awaiting := false }
      let t := t.accept engine persistMin r
      let t := match x.mseq with
        | some m => { t with recent := (t.recent ++ [(BitVec.ofNat 32 m, n)]).drop (t.recent.length + 1 - 256) }
        | none => t
      (n, t)

/-- Enter FAILED: every function's CSTS.CFS reads 1 from here on, and an update or activation in progress is
abandoned with its protection restored (Table 0-6, Table 16-15). -/
def State.fail (s : State) : State :=
  { s with
    dev := { s.dev with failed := true }
    nor := { s.nor with upd := Update.none, unprotected := none }
    mgmt := { s.mgmt with rollout := none, rolloutNext := none } }

/-- Queue an alert frame: 64 are held, a 65th discards the oldest and sets OVF (16 R450). -/
def NaileS.queueAlert (n : NaileS) (a : AlertFrame) : NaileS :=
  if n.alerts.length < 64 then { n with alerts := n.alerts ++ [a] }
  else { n with alerts := n.alerts.drop 1 ++ [a], ovf := true }

/-- Submit a record to the Tally; a management record of severity SVC_ALERT_MIN or above also raises an alert
frame, unless it was suppressed (R450, R473); a FATAL event makes the device FAILED (Table 0-6). -/
def State.submit (s : State) (x : TallyIn) : State :=
  let isDup := match x.mseq, s.tally.lastMseq with
    | some m, some l => !(serialNewer (BitVec.ofNat 32 m) l)
    | _, _ => false
  let (n, t) := s.tally.intake s.engineRuns (s.par P.TLY_PERSIST_MIN) (s.par P.TLY_RATE_PER_S)
    (s.par P.TLY_BURST) s.time.ns x
  let s1 := { s with tally := t }
  let s2 := match x.mseq with
    | some m =>
      if s.par P.SVC_ALERT_MIN ≤ x.sev && (n != 0 || isDup) then
        let r : TRec :=
          { tseq := n, sev := x.sev, code := x.code, src := x.src, mgmt := true, time := s.time.ns,
            p0 := x.p0, p1 := x.p1, p2 := x.p2, p3 := x.p3, awaiting := false }
        { s1 with naile := s1.naile.queueAlert { mseq := BitVec.ofNat 32 m, record := r.bits } }
      else s1
    | none => s1
  if x.sev = sevFatal then s2.fail else s2

/-- A record made by hardware alone: it carries no MSEQ. -/
def State.recordHw (s : State) (src sev code : Nat) (p0 p1 p2 p3 : Nat := 0) : State :=
  s.submit { src := src, mseq := none, sev := sev, code := code, p0 := BitVec.ofNat 32 p0,
             p1 := BitVec.ofNat 32 p1, p2 := BitVec.ofNat 32 p2, p3 := BitVec.ofNat 32 p3 }

/-- The active complex writes the older copy of the checkpoint and its pointer (15 R423). -/
def MgmtS.checkpoint (m : MgmtS) : MgmtS :=
  { m with ckptCopy := 1 - m.ckptCopy, ckptSeq := m.journalSeq, msgs := [] }

/-- Records that the management journal ring holds (15 Table 15-1). -/
def journalCap : Nat := 10240

/-- One journal record; where the next would overwrite one newer than the newer checkpoint, a checkpoint is written at once
(15 R424). -/
def MgmtS.bump (m : MgmtS) : MgmtS :=
  let m1 := { m with journalSeq := m.journalSeq + 1 }
  if journalCap ≤ (m1.journalSeq - m1.ckptSeq).toNat then m1.checkpoint else m1

/-- Issue the next MSEQ, journaled before the message is emitted (15 R424, R426). -/
def MgmtS.takeMseq (m : MgmtS) : Dword × MgmtS :=
  let m1 := m.bump
  (m.mseq, { m1 with mseq := m.mseq + 1 })

/-- SRC of the active management complex (Table 17-3). -/
def MgmtS.src (m : MgmtS) : Nat := if m.activeB then 0x09 else 0x08

/-- A record made by the active management complex. While no complex runs, nobody makes it (15 R434). -/
def State.record (s : State) (sev code : Nat) (p0 p1 p2 p3 : Nat := 0) : State :=
  if s.mgmt.runs then
    let (q, m) := s.mgmt.takeMseq
    let x : TallyIn := { src := m.src, mseq := some q.toNat, sev := sev, code := code, p0 := BitVec.ofNat 32 p0,
                         p1 := BitVec.ofNat 32 p1, p2 := BitVec.ofNat 32 p2, p3 := BitVec.ofNat 32 p3 }
    ({ s with mgmt := { m with msgs := m.msgs ++ [x] } }).submit x
  else s

/-- A record made by the active management complex, or, while none runs, by the unit that meets the event. -/
def State.recordBy (s : State) (src sev code : Nat) (p0 p1 p2 p3 : Nat := 0) : State :=
  if s.mgmt.runs then s.record sev code p0 p1 p2 p3 else s.recordHw src sev code p0 p1 p2 p3

/-- Journal one management state change before it is acted on (15 R424). -/
def State.journal (s : State) : State :=
  { s with mgmt := s.mgmt.bump }

/-- Draw a fresh free value's number. -/
def State.draw (s : State) : Nat × State := (s.free, { s with free := s.free + 1 })

/-- The governor holds work of a rung of 10 Table 10-8: the lowest rungs first, never the first two, and nothing while the supply fails (13 R382; the
rungs held at each step are the model's, log entry 117). -/
def State.govHolds (s : State) (rung : Nat) : Bool := decide (3 ≤ rung ∧ 7 ≤ rung + s.pwr.gov) && s.plp.pwrFailN

end Sys2Proof.Machine
end

