-- ==== Sys2Proof/Machine/Clock.lean ====
section
/-! DEFINITION. The passing of time: one tick of the AON timekeeper (13 R378). -/

namespace Sys2Proof.Machine

/-- One tick (log entry 4). Awake, the count advances by 1,000 ns, the period of the fastest timers of the
spec; in PS4 it advances by 30,517.578125 ns, with the fraction carried in 1/64 ns (R378). Power-on reset
holds the timekeeper cleared (Table 12-1). -/
def tick (s : State) : State :=
  if s.dev.por then s
  else if s.pwr.ps = 4 then
    let f := s.time.frac + 37
    { s with time := { ns := s.time.ns + 30517 + BitVec.ofNat 64 (f / 64), frac := f % 64 } }
  else { s with time := { s.time with ns := s.time.ns + 1000 } }

end Sys2Proof.Machine
end

