-- ==== Sys2Proof/Config.lean ====
section
/-! DEFINITION. What the spec leaves open: free values with no body. Nothing in Lean can evaluate one,
so a statement about one holds for every value (log entries 5 and 6). -/

namespace Sys2Proof

/-- A fresh value from the block's random source (14 R399, R412), drawn by the counter of State. -/
opaque Config.drbg : Nat → BitVec 256
/-- What a stored block reads as under a key other than the one that encrypted it (14 R400, R402):
the operands are the stored block's key generation, the reading key's generation and the data. -/
opaque Config.wrongKey : Nat → Nat → Block → Block
/-- Whether a RESET_N pulse of 100 ns to 1 us is taken (12 R349 leaves it open); drawn by the counter. -/
opaque Config.pulseTaken : Nat → Bool
/-- The value of an Identify, log page or MI field that the standard defines and this spec does not state. -/
opaque Config.standardField : Nat → Nat → BitVec 64
/-- A byte of a codeword as it is stored, encoded ciphertext of which the spec states no byte (08 R268, Table 8-4): the operands are the
location and the byte. -/
opaque Config.rawCodewordByte : Nat → Nat → BitVec 8
/-- Certificate chains and the ROM measurement, written at provisioning (14 R408, R410). -/
opaque Config.provisioned : Nat → Nat → BitVec 8
/-- The signature the crypt unit makes: key kind, index, and what was signed (14 R404, R406). -/
opaque Config.signature : Nat → Nat → Nat → BitVec 384
/-- SHA-384 of a structure named by a tag and its serialised value (14 R404, R410). -/
opaque Config.sha384 : Nat → Nat → BitVec 384
/-- The lease MAC key, which the random source generates, by its generation (05 R172). -/
opaque Config.macKey : Nat → BitVec 256
/-- The age bin, 0 to 15, of a time in seconds since a row block was closed (08 R272): the spec gives no bounds. -/
opaque Config.ageBin : Nat → Fin 16
/-- The read-level offset that a successful read leads to (08 R272): the draw and the level. -/
opaque Config.readOffset : Nat → Nat → Int
/-- The offset voltage of the further reads of ladder steps 3 and 4 (08 Table 8-7): the step and the level. -/
opaque Config.softOffset : Nat → Nat → Int
/-- A byte of a page that has not been programmed since its erase (08 Table 8-4): the spec states no value. -/
opaque Config.erasedByte : BitVec 8

/-- The pipeline of the front end that an accepted command waits at, by its tag (01 Table 1-1; 10 R317): the spec names no rule. -/
opaque Config.pipeline : Nat → Fin 4

/-- The row block and the data member of a dump set, as places in their lists, at which a dump of an epoch puts a slab's slot (09 R290, R293). -/
opaque Config.dumpPlace : BitVec 64 → Nat → Nat → Nat × Nat
/-- Whether the program of a bad-block mark into a failed block takes (08 R263): drawn by the counter. -/
opaque Config.markTaken : Nat → Bool
/-- What the DRAM's code makes of a codeword with two or more wrong bytes (11 R332): a lane below 10, or 10, or a failure. The operands are the draw
and the codeword. -/
opaque Config.rsDecode : Nat → Nat → Nat
/-- A line that a wrong correction leaves (11 R332): the draw and the line. -/
opaque Config.miscorrected : Nat → Nat → Line
/-- The delay that firmware chooses for a die's DQS and RE in duty-cycle training (07 R223): the draw and which of the two. -/
opaque Config.strobeDelay : Nat → Nat → BitVec 6
/-- The order of choices the spec leaves open: which of several equal candidates (03 R77). -/
opaque Config.choice : Nat → Nat → Nat

/-- A line of host memory that a DMA context reads at a contiguous bus address (04 Table 4-1): the address and
the draw. Host memory lies outside the block. -/
opaque Config.hostLine : Nat → Nat → Line

/-- A line that a DMA context takes from a channel's codec output (04 Table 4-1, SKIND 3h): the device channel, the line and
the draw. What the codec holds at that moment is not stated. -/
opaque Config.codecLine : Nat → Nat → Nat → Line

end Sys2Proof
end

