-- ==== Sys2Proof/Machine/Gmac.lean ====
section
/-! DEFINITION. AES-256-GMAC (05 R168), which NIST SP 800-38D defines over the block cipher of FIPS 197: the standards are taken as they are (log entry
142). Blocks of 16 bytes are numbers whose first byte is the most significant. -/

namespace Sys2Proof.Machine

/-! ## AES-256 (FIPS 197) -/

/-- A byte times x in the field of AES. -/
def xtime (a : Byte) : Byte := (a <<< 1) ^^^ (if a.getLsbD 7 then 0x1B else 0)

/-- The product of two bytes in the field of AES, by the multiplier's bits from the lowest. -/
def byteMul (a b : Byte) : Byte :=
  ((List.range 8).foldl (fun (x : Byte × Byte) i => (if b.getLsbD i then x.1 ^^^ x.2 else x.1, xtime x.2)) (0, a)).1

/-- The 254th power: the inverse of a byte, and 0 of 0. -/
def byteInv (a : Byte) : Byte :=
  let sq := fun (x : Byte) => byteMul x x
  let a3 := byteMul (sq a) a
  let a15 := byteMul (sq (sq a3)) a3
  let a63 := byteMul (sq (sq a15)) a3
  sq (byteMul (sq a63) a)

/-- The substitution of a byte. -/
def subByte (a : Byte) : Byte :=
  let b := byteInv a
  b ^^^ b.rotateLeft 1 ^^^ b.rotateLeft 2 ^^^ b.rotateLeft 3 ^^^ b.rotateLeft 4 ^^^ 0x63

/-- Two lists of bytes, added. -/
def addBytes (a b : List Byte) : List Byte := (a.zip b).map (fun e => e.1 ^^^ e.2)

/-- The next word of the key schedule: from the word before it and the word 8 before it. -/
def nextWord (i : Nat) (before back : List Byte) (rcon : Byte) : List Byte :=
  let t :=
    if i % 8 = 0 then addBytes ((before.drop 1 ++ before.take 1).map subByte) [rcon, 0, 0, 0]
    else if i % 8 = 4 then before.map subByte
    else before
  addBytes back t

/-- The key schedule, newest word first, as far as `n` more words; the round constant doubles every 8 words. -/
def keyWords : Nat → Nat → Byte → List (List Byte) → List (List Byte)
  | 0, _, _, ws => ws
  | n + 1, i, rcon, ws =>
    keyWords n (i + 1) (if i % 8 = 0 then xtime rcon else rcon) (nextWord i (ws.getD 0 []) (ws.getD 7 []) rcon :: ws)

/-- The 15 round keys of a 32-byte key. -/
def roundKeys (key : List Byte) : List (List Byte) :=
  let first := ((List.range 8).map (fun i => (key.drop (4 * i)).take 4)).reverse
  let ws := (keyWords 52 8 1 first).reverse
  (List.range 15).map (fun r => ((ws.drop (4 * r)).take 4).flatten)

/-- Rows are shifted: byte r of column c comes from column c + r. -/
def shiftRows (s : List Byte) : List Byte := (List.range 16).map (fun i => s.getD ((i + 4 * (i % 4)) % 16) 0)

/-- One column is mixed. -/
def mixColumn (c : List Byte) : List Byte :=
  (List.range 4).map (fun i =>
    let x := fun k => c.getD ((i + k) % 4) 0
    xtime (x 0) ^^^ xtime (x 1) ^^^ x 1 ^^^ x 2 ^^^ x 3)

/-- The columns are mixed. -/
def mixColumns (s : List Byte) : List Byte := (List.range 4).flatMap (fun c => mixColumn ((s.drop (4 * c)).take 4))

/-- The rounds that are left, the last without mixing. -/
def aesRounds : List (List Byte) → List Byte → List Byte
  | [], s => s
  | [k], s => addBytes (shiftRows (s.map subByte)) k
  | k :: ks, s => aesRounds ks (addBytes (mixColumns (shiftRows (s.map subByte))) k)

/-- The 16 bytes of a block, first byte first. -/
def bytesOf (b : BitVec 128) : List Byte := (List.range 16).map (fun i => b.extractLsb' (8 * (15 - i)) 8)

/-- The block of 16 bytes. -/
def blockOf (l : List Byte) : BitVec 128 := BitVec.ofNat 128 (l.foldl (fun n b => n * 256 + b.toNat) 0)

/-- AES-256 of a block. -/
def aesBlock (ks : List (List Byte)) (b : BitVec 128) : BitVec 128 :=
  match ks with
  | [] => b
  | k :: rest => blockOf (aesRounds rest (addBytes (bytesOf b) k))

/-! ## GHASH and GMAC (SP 800-38D) -/

/-- The product of two blocks: bit 0 of SP 800-38D is the most significant. -/
def blockMul (x y : BitVec 128) : BitVec 128 :=
  ((List.range 128).foldl (fun (a : BitVec 128 × BitVec 128) i =>
    (if x.getMsbD i then a.1 ^^^ a.2 else a.1,
     (a.2 >>> 1) ^^^ (if a.2.getLsbD 0 then 0xE1#128 <<< 120 else 0))) (0, y)).1

/-- GHASH of some blocks under the hash key. -/
def ghash (h : BitVec 128) (xs : List (BitVec 128)) : BitVec 128 := xs.foldl (fun y x => blockMul (y ^^^ x) h) 0

/-- The tag of additional data, given in whole blocks, under a 32-byte key and a 12-byte IV; the plaintext is empty. -/
def gmacTag (key iv : List Byte) (aad : List (BitVec 128)) : BitVec 128 :=
  let ks := roundKeys key
  let lens := BitVec.ofNat 128 (128 * aad.length * 2 ^ 64)
  ghash (aesBlock ks 0) (aad ++ [lens]) ^^^ aesBlock ks (blockOf (iv ++ [0, 0, 0, 1]))

/-- Bytes of a word whose byte 0 is its least significant. -/
def leBytes {w : Nat} (n : Nat) (v : BitVec w) : List Byte := (List.range n).map (fun i => v.extractLsb' (8 * i) 8)

/-- TAG of a page: GMAC under the lease MAC key, with the tag's first byte in TAG's lowest (R168). -/
def pageTag (key : BitVec 256) (iv : BitVec 96) (page : Block) : BitVec 128 :=
  let bytes := leBytes 4096 page
  let t := gmacTag (leBytes 32 key) (leBytes 12 iv) ((List.range 256).map (fun j => blockOf ((bytes.drop (16 * j)).take 16)))
  blockOf (bytesOf t).reverse

end Sys2Proof.Machine
end

