-- ==== Sys2Proof/Machine/Operands.lean ====
section
/-! DEFINITION. Operand forms: logical addresses, granules and segments (05 R143), physical location words
(05 R141, R142, R146), block and line slicing, host data pointers (04 R114, R115), completion statuses. -/

namespace Sys2Proof.Machine

/-! ## Completion statuses (00 R13) -/

/-- Successful Completion. -/
abbrev stOk : Status := ⟨0, 0⟩
/-- Invalid Command Opcode. -/
abbrev stOpcode : Status := ⟨0, 0x01⟩
/-- Invalid Field in Command. -/
abbrev stField : Status := ⟨0, 0x02⟩
/-- Data Transfer Error. -/
abbrev stTransfer : Status := ⟨0, 0x04⟩
/-- Internal Error. -/
abbrev stInternal : Status := ⟨0, 0x06⟩
/-- Command Abort Requested. -/
abbrev stAborted : Status := ⟨0, 0x07⟩
/-- Invalid Namespace or Format. -/
abbrev stNamespace : Status := ⟨0, 0x0B⟩
/-- Data SGL Length Invalid. -/
abbrev stSglLength : Status := ⟨0, 0x0F⟩
/-- SGL Descriptor Type Invalid. -/
abbrev stSglType : Status := ⟨0, 0x11⟩
/-- PRP Offset Invalid (NVMe Base 2.0). -/
abbrev stPrpOffset : Status := ⟨0, 0x13⟩
/-- Sanitize Failed (NVMe Base 2.0). -/
abbrev stSanitizeFailed : Status := ⟨0, 0x1C⟩
/-- Sanitize In Progress. -/
abbrev stSanitize : Status := ⟨0, 0x1D⟩
/-- Namespace Is Write Protected. -/
abbrev stProtected : Status := ⟨0, 0x20⟩
/-- LBA Out of Range. -/
abbrev stRange : Status := ⟨0, 0x80⟩
/-- Capacity Exceeded. -/
abbrev stCapacity : Status := ⟨0, 0x81⟩
/-- Reservation Conflict (NVMe Base 2.0). -/
abbrev stConflict : Status := ⟨0, 0x83⟩
/-- Format In Progress. -/
abbrev stFormat : Status := ⟨0, 0x84⟩
/-- Completion Queue Invalid (NVMe Base 2.0). -/
abbrev stCqInvalid : Status := ⟨1, 0x00⟩
/-- Invalid Queue Identifier. -/
abbrev stQueueId : Status := ⟨1, 0x01⟩
/-- Invalid Queue Size (NVMe Base 2.0). -/
abbrev stQueueSize : Status := ⟨1, 0x02⟩
/-- Abort Command Limit Exceeded. -/
abbrev stAbortLimit : Status := ⟨1, 0x03⟩
/-- Asynchronous Event Request Limit Exceeded (NVMe Base 2.0). -/
abbrev stAerLimit : Status := ⟨1, 0x05⟩
/-- Invalid Interrupt Vector (NVMe Base 2.0). -/
abbrev stVector : Status := ⟨1, 0x08⟩
/-- Invalid Log Page. -/
abbrev stLogPage : Status := ⟨1, 0x09⟩
/-- Invalid Format (NVMe Base 2.0). -/
abbrev stBadFormat : Status := ⟨1, 0x0A⟩
/-- Invalid Queue Deletion (NVMe Base 2.0). -/
abbrev stQueueDelete : Status := ⟨1, 0x0C⟩
/-- Feature Identifier Not Saveable. -/
abbrev stNotSaveable : Status := ⟨1, 0x0D⟩
/-- Namespace Insufficient Capacity. -/
abbrev stNsCapacity : Status := ⟨1, 0x15⟩
/-- Namespace Identifier Unavailable (NVMe Base 2.0). -/
abbrev stNsidUnavailable : Status := ⟨1, 0x16⟩
/-- Namespace Already Attached (NVMe Base 2.0). -/
abbrev stNsAttached : Status := ⟨1, 0x18⟩
/-- Namespace Not Attached (NVMe Base 2.0). -/
abbrev stNsNotAttached : Status := ⟨1, 0x1A⟩
/-- Controller List Invalid. -/
abbrev stCtrlList : Status := ⟨1, 0x1C⟩
/-- Lease Already Active. -/
abbrev stLeaseActive : Status := ⟨1, 0xC0⟩
/-- Lease Size Exceeded. -/
abbrev stLeaseSize : Status := ⟨1, 0xC1⟩
/-- No Active Lease. -/
abbrev stNoLease : Status := ⟨1, 0xC2⟩
/-- Unrecovered Read Error. -/
abbrev stUnrecovered : Status := ⟨2, 0x81⟩
/-- Compare Failure. -/
abbrev stCompare : Status := ⟨2, 0x85⟩

/-! ## Granules and segments -/

/-- Blocks in a granule. -/
abbrev granBlocks : Nat := 16
/-- Granules in a segment. -/
abbrev segGrans : Nat := 4096
/-- Blocks in a segment: 256 MiB. -/
abbrev segBlocks : Nat := 65536
/-- Segment numbers in all (R143). -/
abbrev segCount : Nat := 2097152
/-- Blocks in an aligned AWUN unit (R81). -/
abbrev awunBlocks : Nat := 256

/-- The device granule number of granule g of a namespace, through its segment table (R143). -/
def dgnOf (segs : List Nat) (g : Nat) : Option Nat :=
  (segs[g / segGrans]?).map (fun sn => sn * segGrans + g % segGrans)

/-- The grove that owns the map work of a granule (01 R22). -/
def groveOf (dgn : Nat) : Grove := ⟨dgn % 8, by omega⟩

/-- The blocks of an LBA range, in order. -/
def lbasOf (slba nlb : Nat) : List Nat := (List.range nlb).map (fun i => slba + i)

/-- The granules an LBA range touches. -/
def gransOf (slba nlb : Nat) : List Nat :=
  if nlb = 0 then [] else (List.range ((slba + nlb - 1) / 16 + 1 - slba / 16)).map (fun i => slba / 16 + i)

/-- The range covers the whole of granule g. -/
def covers (slba nlb g : Nat) : Bool := decide (slba ≤ 16 * g) && decide (16 * g + 16 ≤ slba + nlb)

/-- The blocks of granule g (0 to 15) that lie in the range. -/
def blocksIn (slba nlb g : Nat) : List Nat :=
  below 16 (fun k => decide (slba ≤ 16 * g + k) && decide (16 * g + k < slba + nlb))

/-! ## Physical location words -/

/-- GROVE of a PLOC. -/
def plocGrove (p : Ploc) : Nat := (p.extractLsb 39 37).toNat
/-- CHAN of a PLOC. -/
def plocChan (p : Ploc) : Nat := (p.extractLsb 36 34).toNat
/-- The device channel of a PLOC. -/
def plocDch (p : Ploc) : Nat := (plocGrove p) * 8 + (plocChan p)
/-- DIE of a PLOC. -/
def plocDie (p : Ploc) : Nat := (p.extractLsb 33 30).toNat
/-- PLANE of a PLOC. -/
def plocPlane (p : Ploc) : Nat := (p.extractLsb 29 28).toNat
/-- BLOCK of a PLOC. -/
def plocBlock (p : Ploc) : Nat := (p.extractLsb 27 14).toNat
/-- PAGE of a PLOC. -/
def plocPage (p : Ploc) : Nat := (p.extractLsb 13 2).toNat
/-- SLOT of a PLOC. -/
def plocSlot (p : Ploc) : Nat := (p.extractLsb 1 0).toNat

/-- A PLOC from its fields (Table 5-1). -/
def mkPloc (dch die plane block page slot : Nat) : Ploc :=
  BitVec.ofNat 3 (dch / 8) ++ BitVec.ofNat 3 (dch % 8) ++ BitVec.ofNat 4 die ++ BitVec.ofNat 2 plane ++
    BitVec.ofNat 14 block ++ BitVec.ofNat 12 page ++ BitVec.ofNat 2 slot

/-- The leaf entry value UNMAPPED (R142). -/
abbrev plocUnmapped : Ploc := 0xFFFFFFFFFF
/-- The leaf entry value POISONED (R142). -/
abbrev plocPoisoned : Ploc := 0xFFFFFFFFFE

/-- A PLOC names a location (R142). -/
def plocValid (p : Ploc) : Bool := (plocBlock p) != 16383 && (plocPage p) != 4095

/-- The PLOC of block k of a COARSE granule at p (R146). -/
def coarseBlock (p : Ploc) (k : Nat) : Ploc :=
  mkPloc (plocDch p) (plocDie p) (k / 4) (plocBlock p) (plocPage p) (k % 4)

/-- The first codeword of the page of a PLOC: PLANE and SLOT zero. -/
def plocPageBase (p : Ploc) : Ploc := mkPloc (plocDch p) (plocDie p) 0 (plocBlock p) (plocPage p) 0

/-- The key of a die: device channel * 16 + die index. -/
def dieKey (dch die : Nat) : Nat := dch * 16 + die

/-- The die row of a PLOC: grove * 16 + die index. -/
def plocRow (p : Ploc) : Nat := (plocGrove p) * 16 + (plocDie p)

/-- The key of a row block: die row * 16,384 + n (06 R176). -/
def rbKey (row n : Nat) : Nat := row * 16384 + n

/-- The row block of a PLOC. -/
def plocRb (p : Ploc) : Nat := rbKey (plocRow p) (plocBlock p)

/-- The key of a member block: device channel * 2^22 + row block key. -/
def memberKey (dch rb : Nat) : Nat := dch * 4194304 + rb

/-! ## Lines and blocks -/

/-- The 64 lines of a block. -/
def blockLines (b : Block) : List Line := (List.range 64).map (fun i => b.extractLsb' (512 * i) 512)

/-- Byte i of a block. -/
def blockByte (b : Block) (i : Nat) : Byte := b.extractLsb' (8 * i) 8

/-! ## Host data pointers -/

/-- The data pointer rules of R114 for a transfer of `len` bytes; `toDev` is a transfer from the host. An SGL
or PRP list too short for the transfer fails with Data SGL Length Invalid or Invalid Field. -/
def dptrCheck (d : Dptr) (len : Nat) (toDev : Bool) : Option Status :=
  match d.kind with
  | .prp => if d.misaligned then some stPrpOffset else if d.bytes < len then some stField else none
  | .sgl =>
    if d.keyed then some stSglType
    else if toDev && !d.bitBucket.isEmpty then some stSglType
    else if d.bytes < len then some stSglLength
    else none

/-- Byte i of the buffer lies in a bit bucket range. -/
def dptrBucket (d : Dptr) (i : Nat) : Bool :=
  d.bitBucket.any (fun r => decide (r.1 ≤ i) && decide (i < r.1 + r.2))

/-- The blocks as delivered: a byte in a bit bucket range is read but not sent (R115). -/
def dptrDeliver (d : Dptr) (bs : List Block) : Payload :=
  if d.bitBucket.isEmpty then .blocks (bs.map some)
  else .bytes ((List.range (4096 * bs.length)).map (fun i =>
    if dptrBucket d i then none else some (blockByte (bs[i / 4096]?.getD 0) (i % 4096))))

end Sys2Proof.Machine
end

