-- ==== Sys2Proof/Machine/Flags.lean ====
section
/-! DEFINITION. Status and condition flags: lifecycle (14 R395), the device state and its conditions (00 R7
to R9), controller status, critical warnings, SECSTAT and RST_BOOT_STATUS fields, interrupt flags. -/

namespace Sys2Proof.Machine

/-! ## Lifecycle -/

/-- A fuse triple reads burned when at least two of its three fuses are (R395). -/
def tripleBurned (n : Nat) : Bool := decide (2 ≤ n)

/-- The lifecycle coded as LC of Table 14-11: the highest triple burned, else BLANK. -/
def FuseS.lc (f : FuseS) : Nat :=
  if tripleBurned f.rma then 3 else if tripleBurned f.sealedF then 2 else if tripleBurned f.provisioned then 1 else 0

/-- LC_CLASS (Table 14-3). -/
def FuseS.lcClass (f : FuseS) : Nat := if f.lc = 3 then 1 else 0

/-! ## Conditions of Table 0-6 -/

/-- A grove is marked DEGRADED. -/
def State.anyDegraded (s : State) : Bool := s.flash.groves.toList.any (fun g => g.degraded)
/-- A windrow rebuild is in progress. -/
def State.anyRebuild (s : State) : Bool := s.flash.groves.toList.any (fun g => g.rebuild)
/-- A stand is write-protected (06 R206). -/
def State.anyProtected (s : State) : Bool := s.nvm.stands.any (fun e => e.2.prot)

/-- FAILED holds. -/
def State.isFailed (s : State) : Bool := s.dev.failed
/-- RECOVERY holds. -/
def State.inRecovery (s : State) : Bool := s.dev.phase == .recovery
/-- BOOTING holds: from the release of reset until start-up is complete. -/
def State.isBooting (s : State) : Bool := s.dev.phase == .rom || s.dev.phase == .booting
/-- MGMT_LOST holds. -/
def State.mgmtLost (s : State) : Bool := s.mgmt.lost
/-- READ_ONLY holds. -/
def State.isReadOnly (s : State) : Bool := s.media.readOnly
/-- DEGRADED holds. -/
def State.isDegraded (s : State) : Bool :=
  s.anyRebuild || s.anyDegraded || s.mgmt.groveRebuild != 0

/-- DEVSTATE, coded as in Table 14-11, by the order of R8; Fh while no core runs. -/
def State.devState (s : State) : Nat :=
  match s.dev.phase with
  | .inReset => 0xF
  | .stopped => 0xF
  | _ =>
    if s.isFailed then 6
    else if s.inRecovery then 5
    else if s.isBooting then 0
    else if s.mgmtLost then 4
    else if s.isReadOnly then 3
    else if s.isDegraded then 2
    else 1

/-- Firmware has started and start-up is complete. -/
def State.serving (s : State) : Bool := s.dev.phase == .running && !s.isFailed

/-- I/O can be served: running, not FAILED, not asleep, no dump running. -/
def State.ioServed (s : State) : Bool :=
  s.serving && !s.dev.halted && !s.plp.dumping && decide (s.pwr.ps ≤ 2)

/-- Firmware runs, so that FTL and management engines act. -/
def State.fwRuns (s : State) : Bool :=
  (s.dev.phase == .booting || s.dev.phase == .running) && !s.isFailed && !s.dev.halted && s.pwr.ps != 4

/-- Management runs and takes admin and operator work. -/
def State.mgmtServes (s : State) : Bool := s.fwRuns && s.mgmt.runs && !s.mgmt.lost

/-- PLP is armed. -/
def State.armed (s : State) : Bool := s.plp.state == .armed

/-! ## Bits -/

/-- A Bool as the bit n of a number. -/
def bitIf (b : Bool) (n : Nat) : Nat := if b then 2 ^ n else 0

/-- COND of the health report (Table 15-4). -/
def State.condFlags (s : State) : Nat :=
  bitIf s.anyRebuild 0 + bitIf s.anyDegraded 1 + bitIf s.isReadOnly 2 + bitIf s.anyProtected 3 +
  bitIf s.mgmtLost 4 + bitIf s.params.defaulted 5 + bitIf s.plp.torn 6 + bitIf (!s.armed) 7 +
  bitIf (s.sec.lmsBad || s.sec.lmsDisabled || decide (33554432 ≤ s.sec.nextq)) 8 +
  bitIf (decide (s.mgmt.stby = 2)) 9 + bitIf s.dram.failing.isSome 10 +
  bitIf (decide (s.par P.LND_RETIRE_LIMIT ≤ s.land.retired.length)) 11 + bitIf (decide (s.pwr.thermal ≠ 0)) 12

/-- PLPSTATE of Table 15-4. -/
def plpCode : PlpState → Nat
  | .off => 0
  | .pending => 1
  | .armed => 2
  | .lost => 3

/-- CSTS of a function: RDY in bit 0, CFS in bit 1; FAILED sets CFS in every function (Table 0-6). -/
def State.csts (s : State) (f : FuncS) : Dword :=
  BitVec.ofNat 32 (bitIf f.rdy 0 + bitIf (f.cfs || s.isFailed) 1)

/-- CC.EN. -/
def FuncS.en (f : FuncS) : Bool := f.cc.getLsbD 0

/-- The level of an open debug session as SECSTAT codes it. -/
def State.debugLevel (s : State) : Nat :=
  match s.sec.session with
  | none => 0
  | some x => x.level

/-- A core is halted by the session. -/
def State.coreHalted (s : State) : Bool :=
  match s.sec.session with
  | none => false
  | some x => x.haltedMgmt || x.haltedFtl

/-- A management core is halted by the session (14 R414). -/
def State.mgmtHalted (s : State) : Bool :=
  match s.sec.session with
  | none => false
  | some x => x.haltedMgmt

/-- The FTL cores are halted by the session. -/
def State.ftlHalted (s : State) : Bool :=
  match s.sec.session with
  | none => false
  | some x => x.haltedFtl

/-- DBG_HOLD_AWAKE is in effect (14 R415). -/
def State.holdAwake (s : State) : Bool :=
  decide (s.par P.DBG_HOLD_AWAKE = 1) &&
    (match s.sec.session with
    | none => false
    | some x => x.perm.getLsbD 7)

/-- SECSTAT (Table 14-11). With fuse sensing failed only FUSEFAIL and DEVSTATE are known. -/
def State.secstat (s : State) : Dword :=
  let sensed := !s.dev.fuseFail && s.dev.phase != .inReset
  BitVec.ofNat 32 (
    (if sensed then s.fuses.lc else 0) + s.devState * 16 + bitIf s.holdAwake 10 + bitIf s.coreHalted 11 +
    s.debugLevel * 4096 + bitIf (decide (s.sec.target ≠ 0) && s.fwRuns) 14 + bitIf s.dev.fuseFail 15 +
    (if sensed then s.fuses.svn * 65536 else 0))

/-- RST_BOOT_STATUS bits. -/
def bootBit (s : State) (n : Nat) : Bool := s.dev.bootStatus.getLsbD n
/-- CACHEHELD (Table 12-7). -/
def State.cacheHeld (s : State) : Bool := bootBit s 21

/-- Set a field of a 32-bit word: `w` bits from bit `lo`. -/
def setField (x : Dword) (lo w v : Nat) : Dword :=
  BitVec.ofNat 32 (x.toNat - (x.toNat / 2 ^ lo % 2 ^ w) * 2 ^ lo + (v % 2 ^ w) * 2 ^ lo)

/-- A field of a 32-bit word. -/
def getField (x : Dword) (lo w : Nat) : Nat := x.toNat / 2 ^ lo % 2 ^ w

/-- PWR_PAD_RELEASE (Table 13-9). -/
def State.padRelease (s : State) : Dword :=
  BitVec.ofNat 32 (bitIf s.dev.latchFlash 0 + bitIf s.dev.latchDram 1 + bitIf s.dev.latchGpio 2)

/-- ALERT_N of the Naile port is low while the queue holds any frame (16 R450). -/
def State.alertN (s : State) : Bool := s.naile.alerts.isEmpty

end Sys2Proof.Machine
end

