-- ==== Sys2Proof/Machine/LandOps.lean ====
section
/-! DEFINITION. Landing and its allocator (04 R107 to R113, R136): reservations, the shared pool, port charges,
waiting requests, and the clearing and testing of freed cords. -/

namespace Sys2Proof.Machine

/-- Cords in Landing. -/
abbrev cordCount : Nat := 32768

/-- The reservation of a requester as configured (Table 4-2); that of a RETIRED channel is in the shared pool (07 R244). -/
def State.resParam (s : State) (r : CordRes) : Nat :=
  match r with
  | .chan c => if s.flash.chans[c.val].state == .retired then 0 else s.parI P.LND_CHAN_RESERVE c.val
  | .port p => s.parI P.LND_PORT_RESERVE p.val
  | .gather => s.par P.LND_GATHER_RESERVE

/-- The place of a reservation in the list of all. -/
def resIndex : CordRes → Nat
  | .chan c => c.val
  | .port p => 64 + p.val
  | .gather => 66

/-- Cords of a reservation now: as configured, less what a raised one has still to take (R139). -/
def State.resSize (s : State) (r : CordRes) : Nat := s.resParam r - (sget s.land.lag (resIndex r)).getD 0

/-- Cords that a reservation has lent. -/
def State.resUsed (s : State) (r : CordRes) : Nat :=
  ((s.land.grants.filter (fun g => g.req.res == r)).map (fun g => g.fromRes)).sum

/-- Every reservation there is. -/
def allRes : List CordRes :=
  (List.finRange 64).map CordRes.chan ++ (List.finRange 2).map CordRes.port ++ [.gather]

/-- The sum of all reservations. -/
def State.resTotal (s : State) : Nat := (allRes.map s.resSize).sum

/-- The size of the shared pool: every cord in no reservation and not retired (R109). -/
def State.sharedSize (s : State) : Nat := cordCount - s.land.retired.length - s.resTotal

/-- Cords that the shared pool has lent; what a lowered reservation has lent beyond its size counts here (R139). -/
def State.sharedUsed (s : State) : Nat :=
  (s.land.grants.map (fun g => g.cords.length - g.fromRes)).sum +
  (allRes.map (fun r => s.resUsed r - s.resSize r)).sum

/-- A raised reservation takes what the shared pool has free (R139). -/
def State.takeLag (s : State) (r : CordRes) : State :=
  let k := resIndex r
  let lag := (sget s.land.lag k).getD 0
  if lag = 0 then s
  else { s with land := { s.land with lag := sputD 0 k (lag - min lag (s.sharedSize - s.sharedUsed)) s.land.lag } }

/-- Cords have been freed: raised reservations take them, channels first (R139). -/
def State.takeLags (s : State) : State := if s.land.lag.isEmpty then s else allRes.foldl State.takeLag s

/-- The reservations as a change of parameters leaves them: one that is raised lacks what it gains until cords are free (R139). -/
def State.raiseLags (old s : State) : State :=
  let raise := fun (m : Sparse Nat) (r : CordRes) =>
    sputD 0 (resIndex r) (min (s.resParam r) ((sget m (resIndex r)).getD 0 + (s.resParam r - old.resParam r))) m
  ({ s with land := { s.land with lag := allRes.foldl raise s.land.lag } }).takeLags

/-- Cords charged to a port (R112). -/
def State.portCharge (s : State) (p : Port) : Nat :=
  ((s.land.grants.filter (fun g => g.req.port == some p)).map (fun g => g.cords.length)).sum

/-- The port's charge lets one more request in (R112). -/
def State.portRoom (s : State) (r : CordReq) : Bool :=
  match r.port with
  | none => true
  | some p => decide (s.portCharge p < s.parI P.LND_PORT_RESERVE p.val + s.sharedSize / 2)

/-- Whether PWR_FAIL_N lets the allocator serve a request (R113): only programs already begun, and the dump. -/
def State.powerAllows (s : State) (r : CordReq) : Bool :=
  s.plp.pwrFailN ||
    (match r.user, r.res with
    | .set _, .chan _ => true
    | .dump _, .chan _ => true
    | _, _ => false)

/-- How many cords a request would take from its reservation; none when it cannot be met in full (R110). `shut` says that an earlier
request waits for the shared pool, which then has nothing to give this one (R111). -/
def State.split (s : State) (shut : Bool) (r : CordReq) : Option Nat :=
  let shared := if shut then 0 else s.sharedSize - s.sharedUsed
  let own := s.resSize r.res - s.resUsed r.res
  if r.count ≤ shared then some 0
  else if r.count ≤ shared + own then some (r.count - shared)
  else none

/-- The n lowest numbers from `i` that are not in `used`. -/
def pickFree : Nat → Nat → Nat → List Nat → List Nat
  | 0, _, _, _ => []
  | _, 0, _, _ => []
  | fuel + 1, n + 1, i, used =>
    if i ∈ used then pickFree fuel (n + 1) (i + 1) used else i :: pickFree fuel n (i + 1) used

/-- Cords owned or retired. -/
def LandS.taken (l : LandS) : List Nat := l.retired ++ (l.grants.flatMap (fun g => g.cords))

/-- Grant a request that can be met: the lowest free cords, with every valid bit clear (R108). -/
def State.grant (s : State) (r : CordReq) (own : Nat) : State :=
  let used := s.land.taken
  let cs := pickFree (r.count + used.length) r.count 0 used
  { s with land := { s.land with grants := s.land.grants ++ [{ req := r, cords := cs, fromRes := own }] } }

/-- Waiting requests in the order they are served: reads of L0 stands first, then arrival (R111). -/
def LandS.order (l : LandS) : List CordReq := l.waiting.filter (fun r => r.l0) ++ l.waiting.filter (fun r => !r.l0)

/-- The first request of a list that can be met, and what it takes from its reservation. One that waits for cords keeps every later one
from the shared pool and from its own reservation; one that its port's charge or PWR_FAIL_N holds keeps nobody (R111 to R113). -/
def State.firstGrant (s : State) : List CordReq → List CordRes → Option (CordReq × Nat)
  | [], _ => none
  | r :: t, held =>
    if !s.portRoom r || !s.powerAllows r then s.firstGrant t held
    else
      match (if held.contains r.res then none else s.split (!held.isEmpty) r) with
      | some own => some (r, own)
      | none => s.firstGrant t (addOnce r.res held)

/-- The next waiting request that is served, and its share of its reservation. -/
def State.nextShare (s : State) : Option (CordReq × Nat) := s.firstGrant s.land.order []

/-- The next waiting request that can be met. -/
def State.nextGrant (s : State) : Option CordReq := s.nextShare.map Prod.fst

/-- Ask for cords: granted at once when no request ahead of it can be met, else it waits. -/
def State.askCords (s : State) (r : CordReq) : State :=
  let s1 := { s with land := { s.land with waiting := s.land.waiting ++ [r] } }
  match s1.nextShare with
  | some (q, own) => if q = r && !(s.land.waiting.contains r) then s.grant r own else s1
  | none => s1

/-- A user holds all the cords it asked for. -/
def LandS.holds (l : LandS) (u : CordUser) : Bool :=
  l.grants.any (fun g => g.req.user == u) && !(l.waiting.any (fun r => r.user == u))

/-- The cords a user holds, in order. -/
def LandS.cordsOf (l : LandS) (u : CordUser) : List Nat :=
  (l.grants.filter (fun g => g.req.user == u)).flatMap (fun g => g.cords)

/-- The even parity bits of a line's bytes, each in bit 0 of its byte (R132). -/
def parityBits (l : Line) : Line :=
  let a := l ^^^ (l >>> 4)
  let b := a ^^^ (a >>> 2)
  (b ^^^ (b >>> 1)) &&& BitVec.ofNat 512 ((2 ^ 512 - 1) / 255)

/-- A line as a writer leaves it: with good parity, and with the mark that came with the data. -/
def LandLine.written (v : Line) (mark : Bool) : LandLine := { data := v, parity := parityBits v, mark := mark }

/-- A reader finds a line poisoned: it carries the mark, or its parity fails (R132, R133). -/
def LandLine.poisoned (x : LandLine) : Bool := x.mark || x.parity != parityBits x.data

/-- What a reader sees of a line: its bytes, and whether they are poisoned. -/
def LandLine.view (x : LandLine) : Line × Bool := (x.data, x.poisoned)

/-- A line of a cord: clear lines read as zeros with good parity (R108). -/
def LandS.line (l : LandS) (cord line : Nat) : Line × Bool :=
  ((sget l.lines (cord * 64 + line)).map LandLine.view).getD (0, false)

/-- Write a line, which sets its valid bit. -/
def LandS.setLine (l : LandS) (cord line : Nat) (v : Line) (poison : Bool) : LandS :=
  { l with lines := sput (cord * 64 + line) (LandLine.written v poison) l.lines }

/-- Write a block into a cord; `mark` says which of its lines carry the poison mark. -/
def LandS.setBlockMarked (l : LandS) (cord : Nat) (b : Block) (mark : Nat → Bool) : LandS :=
  { l with lines := (blockLines b).zipIdx.foldl (fun m vi => sput (cord * 64 + vi.2) (LandLine.written vi.1 (mark vi.2)) m) l.lines }

/-- Write a block into a cord. -/
def LandS.setBlock (l : LandS) (cord : Nat) (b : Block) : LandS := l.setBlockMarked cord b (fun _ => false)

/-- Write blocks into cords, one each. -/
def LandS.setBlocks (l : LandS) (cords : List Nat) (bs : List Block) : LandS :=
  (cords.zip bs).foldl (fun m cb => m.setBlock cb.1 cb.2) l

/-- The lines of a cord that a reader finds poisoned. -/
def LandS.badLines (l : LandS) (cord : Nat) : List Nat :=
  (l.lines.filter (fun e => decide (e.1 / 64 = cord) && e.2.poisoned)).map (fun e => e.1 % 64)

/-- A cord holds a poisoned line. -/
def LandS.poisoned (l : LandS) (cord : Nat) : Bool := !(l.badLines cord).isEmpty

/-- DMA_POISON_POLICY is RETRY_THEN_FAIL (Table 4-4). -/
def State.retries (s : State) : Bool := decide (s.par P.DMA_POISON_POLICY = 0)

/-- POISON_CONSUMED. -/
def State.poisonEvent (s : State) (sev row dch : Nat) : State := s.recordHw srcDma sev 0x0802 row dch

/-- No device channel is named. -/
abbrev noChan : Nat := 0xFFFFFFFF

/-- The block that a cord holds. -/
def LandS.block (l : LandS) (cord : Nat) : Block :=
  BitVec.ofNat 32768 (((List.range 64).map (fun i => (l.line cord i).1.toNat * 2 ^ (512 * i))).sum)

/-- Free every cord of a user: valid bits are cleared, and a cord in which a parity error was found and that
fails the built-in test is retired (R108, R136). Its waiting requests are dropped. -/
def LandS.free (l : LandS) (u : CordUser) : LandS :=
  let cs := l.cordsOf u
  { l with
    lines := l.lines.filter (fun e => !(cs.contains (e.1 / 64)))
    grants := l.grants.filter (fun g => g.req.user != u)
    waiting := l.waiting.filter (fun r => r.user != u)
    retired := l.retired ++ cs.filter (fun c => l.suspect.contains c)
    suspect := l.suspect.filter (fun c => !(cs.contains c)) }

/-- Hand the cords of one user to another, which holds them from then on. -/
def LandS.handOver (l : LandS) (u v : CordUser) : LandS :=
  { l with grants := l.grants.map (fun g => if g.req.user == u then { g with req := { g.req with user := v } } else g) }

/-- Landing after cords have been freed: raised reservations take what they lack, and retired cords reaching LND_RETIRE_LIMIT record the
CRITICAL event (R136, R139). -/
def State.landFreed (s : State) (l : LandS) : State :=
  let s1 := ({ s with land := l }).takeLags
  if s.land.retired.length < s.par P.LND_RETIRE_LIMIT ∧ s.par P.LND_RETIRE_LIMIT ≤ s1.land.retired.length then
    s1.recordHw srcDma sevCritical 0x0901 s1.land.retired.length
  else s1

/-- Free a user's cords. -/
def State.freeCords (s : State) (u : CordUser) : State := s.landFreed (s.land.free u)

/-- Some cords of the grants that satisfy a test are given back (R108, R136). -/
def LandS.freeSome (l : LandS) (mine : CordGrant → Bool) (cs : List Nat) : LandS :=
  let gone := fun (c : Nat) => cs.contains c && l.grants.any (fun g => mine g && g.cords.contains c)
  let less := fun (g : CordGrant) =>
    if mine g then
      let kept := g.cords.filter (fun c => !cs.contains c)
      { g with cords := kept, fromRes := min g.fromRes kept.length }
    else g
  { l with grants := (l.grants.map less).filter (fun g => !g.cords.isEmpty)
           lines := l.lines.filter (fun e => !gone (e.1 / 64))
           retired := l.retired ++ (cs.filter gone).filter (fun c => l.suspect.contains c)
           suspect := l.suspect.filter (fun c => !gone c) }

/-- Some cords are given back, whoever owns them. -/
def State.freeThese (s : State) (cs : List Nat) : State :=
  if cs.isEmpty then s else s.landFreed (s.land.freeSome (fun _ => true) cs)

/-- Free one cord. -/
def State.freeOne (s : State) (cord : Nat) : State := s.freeThese [cord]

end Sys2Proof.Machine
end

