-- ==== Sys2Proof/Machine/HostOps.lean ====
section
/-! DEFINITION. Functions, queues and tags: acceptance (03 R70 to R75), completion (R74, R79, R119), dropped
commands (R97, R99), asynchronous events (15 R427), and what the queue rules read of stands. -/

namespace Sys2Proof.Machine

/-! ## Ports and functions -/

/-- A port's state. -/
def HostS.port (h : HostS) (p : Port) : PortS := if p = 0 then h.port0 else h.port1
/-- Replace a port's state. -/
def HostS.setPort (h : HostS) (p : Port) (x : PortS) : HostS :=
  if p = 0 then { h with port0 := x } else { h with port1 := x }

/-- Device Control after a function's reset, as PCIe Base 6.0 gives it: Relaxed Ordering and No Snoop enabled, Max Read Request Size 512
(PRESUMED: the spec states no reset value, log entry 96). -/
abbrev devCtlReset : Dword := 0x2810

/-- A controller after its reset: disabled, every register and feature at its reset value. -/
def FuncS.cleared : FuncS :=
  { cc := 0, rdy := false, cfs := false, aqa := 0, asq := 0, acq := 0, intMask := 0, devCtl := devCtlReset, features := [],
    hostId := 0, timestampMs := 0, keepAliveFrom := 0, keepAliveHeld := false, aers := [], events := [],
    lastMseq := none, aerLog := [], errors := [], changedNs := [], rsvNotices := [] }

/-- A function; one not listed is in its cleared state. -/
def HostS.func (h : HostS) (c : Nat) : FuncS := (sget h.funcs c).getD FuncS.cleared
/-- Replace a function's state. -/
def HostS.setFunc (h : HostS) (c : Nat) (f : FuncS) : HostS := { h with funcs := sputD FuncS.cleared c f h.funcs }
/-- Change a function's state. -/
def HostS.modFunc (h : HostS) (c : Nat) (g : FuncS → FuncS) : HostS := h.setFunc c (g (h.func c))

/-- The function answers on its port: the link is up, and a VF's port has VF Enable set. -/
def HostS.present (h : HostS) (c : Cntl) : Bool :=
  (h.port c.port).linkUp && (c.isPF || (h.port c.port).vfEnable)

/-- The key of a queue: CNTLID * 65,536 + queue ID. -/
def qKey (c q : Nat) : Nat := c * 65536 + q

/-- I/O queue pairs allocated to a function (02 R41). -/
def State.queueAlloc (s : State) (c : Cntl) : Nat :=
  if c.isPF then s.par P.HST_PF_IO_QUEUES else s.par P.HST_VF_IO_QUEUES

/-- A stand. -/
def NvmS.stand (n : NvmS) (st : Nat) : Option StandS := sget n.stands st
/-- Change a stand. -/
def NvmS.modStand (n : NvmS) (st : Nat) (f : StandS → StandS) : NvmS := { n with stands := smod st f n.stands }

/-- The stand a function belongs to (02 R43). -/
def NvmS.standOf (n : NvmS) (c : Nat) : Option Nat :=
  (n.stands.find? (fun e => e.2.members.contains c)).map Prod.fst

/-- The latency class that governs a function's commands: 0 for L0; a function with no stand dispatches as L2. -/
def NvmS.classOf (n : NvmS) (c : Nat) : Nat :=
  match n.standOf c with
  | some st => ((sget n.stands st).map (fun x => x.cls)).getD 2
  | none => 2

/-- The default of a feature that has not been set (Table 2-9; values of NVMe Base 2.0, log entry 13). -/
def featureDefault (fid : Nat) : Dword :=
  if fid = 0x04 then 373 else if fid = 0x0B then 0x11F else 0

/-- The current value of a feature of a function. -/
def FuncS.feature (f : FuncS) (fid : Nat) : Dword := (sget f.features fid).getD (featureDefault fid)

/-! ## Tags -/

/-- Tags in all. -/
abbrev tagCount : Nat := 65536

/-- The command opens an ordering point in its queue (R79). -/
def cmdOrdered : NvmeCmd → Bool
  | .orderedWrite _ => true
  | .orderedRead _ => true
  | .orderedDsm _ _ _ => true
  | _ => false

/-- The namespace of a write in the sense of R86, if the command is one. -/
def cmdWritesTo : NvmeCmd → Option Dword
  | .write f => some f.nsid
  | .orderedWrite f => some f.nsid
  | .writeZeroes f => some f.nsid
  | .dsm n true _ => some n
  | .orderedDsm n _ _ => some n
  | _ => none

/-- Tags held from a pool. -/
def HostS.held (h : HostS) (p : TagPool) : Nat := (h.tags.filter (fun e => e.2.pool == p)).length
/-- Tags held by a function. -/
def HostS.heldBy (h : HostS) (c : Cntl) : Nat := (h.tags.filter (fun e => e.2.cntl == c)).length

/-- Size of the shared pool: what no reserve holds and no retired tag takes away (R75). -/
def State.sharedTags (s : State) : Nat :=
  tagCount - s.host.retiredTags.length - s.par P.QUE_ADMIN_TAG_RESERVE - s.par P.QUE_L0_TAG_RESERVE

/-- Tags drawn on the shared pool; tags of a lowered reserve beyond its size count here (Table 3-5). -/
def State.sharedTagsUsed (s : State) : Nat :=
  s.host.held .shared + (s.host.held .l0 - s.par P.QUE_L0_TAG_RESERVE) +
    (s.host.held .admin - s.par P.QUE_ADMIN_TAG_RESERVE)

/-- Tags of the L0 reserve that can be used: a raised reserve has still to take those that the shared pool has lent beyond its new size
(Table 3-5). -/
def State.l0Tags (s : State) : Nat := s.par P.QUE_L0_TAG_RESERVE - (s.sharedTagsUsed - s.sharedTags)

/-- The pool the next tag of this kind is drawn from, by the rules of R75 in order. -/
def State.tagPool (s : State) (c : Cntl) (admin : Bool) : Option TagPool :=
  if s.par P.QUE_FUNC_TAG_MAX ≤ s.host.heldBy c then none
  else if s.sharedTagsUsed < s.sharedTags then some .shared
  else if admin then
    if s.host.held .admin < s.par P.QUE_ADMIN_TAG_RESERVE then some .admin else none
  else if s.nvm.classOf c.val = 0 && s.host.held .l0 < s.l0Tags then some .l0
  else none

/-- The command whose read a die operation makes. -/
def OpFor.tag? (w : OpFor) : Option Nat :=
  match w with
  | .host t _ => some t
  | .gather t _ => some t
  | _ => none

/-- The lowest tag number not in use (log entry 14). -/
def freeTagFrom : Nat → Nat → List Nat → Nat
  | 0, i, _ => i
  | fuel + 1, i, used => if i ∈ used then freeTagFrom fuel (i + 1) used else i

/-- The next tag number. One for which a die still reads, though its command is gone, is not given out, so that nothing arrives at another command
(R97; log entry 14). -/
def State.newTag (s : State) : Nat :=
  let used := s.host.retiredTags ++ s.host.tags.map Prod.fst ++ s.flash.ops.filterMap (fun e => e.2.why.tag?)
  freeTagFrom used.length 0 used

/-- Fetching from a function's queues goes on (R97: not after CFS; 13 Table 13-6; 00 Table 0-6). -/
def State.fetches (s : State) (c : Cntl) : Bool :=
  let f := s.host.func c.val
  f.en && f.rdy && !f.cfs && s.serving && !s.dev.halted && !s.host.stopFetch && s.host.present c

/-- What a Flush of a namespace covers when it is accepted (R86): the writes still in progress, and the cache groups that have
entered the index, of the same controller. -/
def State.coverage (s : State) (c : Cntl) (nsid : Dword) : List Nat × List Dword :=
  ((s.host.tags.filter (fun e => e.2.cntl == c && cmdWritesTo e.2.cmd == some nsid)).map Prod.fst,
   (s.cache.groups.filter (fun e => e.2.visible && e.2.cntl == some c.val && decide (e.2.nsid = nsid.toNat))).map
     (fun e => BitVec.ofNat 32 e.1))

/-- LBAs of a namespace whose block in one of some groups has been superseded before it was on media. -/
def CacheS.overwritten (c : CacheS) (qs : List Dword) : List (Nat × Nat) :=
  (c.groups.filter (fun e => qs.any (fun q => q.toNat == e.1))).flatMap (fun e =>
    (e.2.slots.filter (fun x => x.super && !x.done)).map (fun x => (e.2.nsid, x.lba)))

/-- The groups that hold the newest block of an LBA in the place of superseded ones: a Flush that covers those waits for these (R88). -/
def CacheS.heirsOf (c : CacheS) (qs : List Dword) : List Dword :=
  let ls := c.overwritten qs
  (c.groups.filter (fun e => e.2.visible && e.2.slots.any (fun x => !x.super && !x.done && ls.contains (e.2.nsid, x.lba)))).map
    (fun e => BitVec.ofNat 32 e.1)

/-- The tag of a command that has just been accepted. -/
def State.tagFor (s : State) (c : Cntl) (q : Nat) (sq : SqS) (e : Sqe) (pool : TagPool) : TagE :=
  let cov := match e.cmd with
    | .flush n => s.coverage c n
    | _ => ([], [])
  { cntl := c, sqid := q, cqid := sq.cqid, cid := e.cid, aseq := s.host.nextAseq, cmd := e.cmd, pool := pool,
    phase := .accepted, got := [], waits := [], failure := none, groups := cov.2, covered := cov.1, commits := 0,
    charge := 0, ctxLeft := 0, reread := [], locs := [], cordOf := [], ptr := e.ptr, gather := none, heirs := s.cache.heirsOf cov.2 }

/-! ## Bandwidth credits (10 R318) -/

/-- A credit after its refill: share / 1,024 of the reference rate, capped at the window's worth, in 1/1,024 byte. -/
def refillCredit (credit : Int) (share ref window dt : Nat) : Int :=
  min (share * ref * window * 1000 : Nat) (credit + (share * ref * dt : Nat))

/-- A stand's credits, refilled to now. -/
def StandS.refill (x : StandS) (rref wref window now : Nat) : StandS :=
  let dt := now - x.refilled
  { x with rcredit := refillCredit x.rcredit x.rshare rref window dt, wcredit := refillCredit x.wcredit x.wshare wref window dt,
           refilled := now }

/-- A stand's credits, refilled to the present moment. -/
def State.refillStand (s : State) (x : StandS) : StandS :=
  x.refill (s.par P.STD_READ_REF_GBS) (s.par P.STD_WRITE_REF_GBS) (s.par P.STD_CREDIT_WINDOW_US) s.now

/-- Refill every stand's credits. -/
def State.refillStands (s : State) : State :=
  { s with nvm := { s.nvm with stands := smap (fun _ x => s.refillStand x) s.nvm.stands } }

/-- A stand pays in a direction, in 1/1,024 byte. -/
def StandS.pay (x : StandS) (d : Dir) (c : Int) : StandS :=
  match d with
  | .read => { x with rcredit := x.rcredit - c }
  | .write => { x with wcredit := x.wcredit - c }

/-- Charge a stand in a direction; its credits are refilled, and capped, up to now first. -/
def State.chargeCredit (s : State) (st : Nat) (d : Dir) (bytes : Nat) : State :=
  { s with nvm := s.nvm.modStand st (fun x => (s.refillStand x).pay d (bytes * 1024 : Nat)) }

/-- The number that stands for functions without a stand: they dispatch as class L2 with shares of zero (R313). -/
abbrev noStand : Nat := 128

/-- The stand whose dispatch queues a controller's commands join. -/
def State.queueAt (s : State) (c : Nat) : Nat := (s.nvm.standOf c).getD noStand

/-- A Flush begins with its acceptance (R78), and is charged as it begins. -/
def State.flushBegins (s : State) (c q : Nat) (cmd : NvmeCmd) : State :=
  match cmd with
  | .flush _ => if q = 0 then s else s.chargeCredit (s.queueAt c) .write 4096
  | _ => s

/-- Accept entries of a queue in submission order until none is left, an ordered command stops fetching, or no
tag can be assigned (R71, R73, R75, R79). -/
def acceptLoop : Nat → State → Cntl → Nat → State
  | 0, s, _, _ => s
  | fuel + 1, s, c, q =>
    match sget s.host.sqs (qKey c.val q) with
    | none => s
    | some sq =>
      match sq.unfetched with
      | [] => s
      | e :: rest =>
        if sq.ordered.isSome then s
        else
          match s.tagPool c (q == 0) with
          | none =>
            { s with host := { s.host with sqs := sput (qKey c.val q) { sq with starved := true } s.host.sqs } }
          | some pool =>
            let t := s.newTag
            let sq' : SqS :=
              { sq with head := (sq.head + 1) % sq.size, unfetched := rest, starved := false,
                        ordered := if cmdOrdered e.cmd then some t else none }
            let h := { s.host with tags := sput t (s.tagFor c q sq e pool) s.host.tags,
                                   nextAseq := s.host.nextAseq + 1,
                                   sqs := sput (qKey c.val q) sq' s.host.sqs }
            acceptLoop fuel (({ s with host := h }).flushBegins c.val q e.cmd) c q

/-- The Arbitration Burst of a function: at most 2^AB entries of a queue are taken in one turn, and any number where AB is 7 (Table 2-6;
feature 01h of NVMe Base 2.0). -/
def FuncS.burst (f : FuncS) (waiting : Nat) : Nat :=
  let ab := getField (f.feature 0x01) 0 3
  if ab = 7 then waiting else min waiting (2 ^ ab)

/-- A queue has more to give: entries wait, and neither an ordered command nor the want of a tag holds it. -/
def SqS.hasMore (q : SqS) : Bool := !q.unfetched.isEmpty && q.ordered.isNone && !q.starved

/-- Queues of a function take turns, round robin, each with one burst, until none has more to give (Table 2-6: AMS and Arbitration Burst). -/
def fetchTurns : Nat → State → Cntl → List Nat → State
  | 0, s, _, _ => s
  | _ + 1, s, _, [] => s
  | fuel + 1, s, c, q :: rest =>
    match sget s.host.sqs (qKey c.val q) with
    | none => fetchTurns fuel s c rest
    | some sq =>
      let s1 := acceptLoop ((s.host.func c.val).burst sq.unfetched.length) s c q
      if ((sget s1.host.sqs (qKey c.val q)).map SqS.hasMore).getD false then fetchTurns fuel s1 c (rest ++ [q]) else fetchTurns fuel s1 c rest

/-- The queues of a function, the one given first and the others after it in rising order, wrapping. -/
def HostS.queuesFrom (h : HostS) (c : Cntl) (q : Nat) : List Nat :=
  let l := (h.sqs.filter (fun e => e.1 / 65536 == c.val)).map (fun e => e.1 % 65536)
  l.filter (fun i => decide (q ≤ i)) ++ l.filter (fun i => decide (i < q))

/-- The entries that wait in the queues of a function. -/
def HostS.unfetchedOf (h : HostS) (c : Cntl) : Nat :=
  ((h.sqs.filter (fun e => e.1 / 65536 == c.val)).map (fun e => e.2.unfetched.length)).sum

/-- Fetch from the submission queues of a function as far as they go, beginning with one of them. -/
def State.fetchQueue (s : State) (c : Cntl) (q : Nat) : State :=
  if s.fetches c then
    let qs := s.host.queuesFrom c q
    fetchTurns (s.host.unfetchedOf c + qs.length) s c qs
  else s

/-! ## Completion -/

/-- The write goes on to a Flush that covers it: once it has completed, its cache groups count (R88). -/
def coverDone (tag : Nat) (groups : List Dword) (t : TagE) : TagE :=
  if tag ∈ t.covered then { t with covered := t.covered.filter (· != tag), groups := t.groups ++ groups } else t

/-- Free a tag: its cords return, Flushes that cover it take its groups over, and an ordered command lets its
queue be fetched again (R74, R79). -/
def State.freeTag (s : State) (tag : Nat) : State :=
  match sget s.host.tags tag with
  | none => s
  | some t =>
    let key := qKey t.cntl.val t.sqid
    let s1 := s.freeCords (.tag tag)
    let tags := smap (fun _ => coverDone tag t.groups) (sdel tag s1.host.tags)
    let wasOrdered := match sget s1.host.sqs key with
      | some sq => sq.ordered == some tag
      | none => false
    let sqs := smod key (fun sq => if sq.ordered = some tag then { sq with ordered := none } else sq) s1.host.sqs
    let s2 := { s1 with host := { s1.host with tags := tags, sqs := sqs } }
    if wasOrdered then s2.fetchQueue t.cntl t.sqid else s2

/-- Interrupts of this queue are coalesced (Interrupt Coalescing 08h, Interrupt Vector Configuration 09h): the
threshold in entries, none where each completion sends its message. -/
def FuncS.coalesce (f : FuncS) (cq : CqS) (qid : Nat) : Option Nat :=
  let v := f.feature 0x08
  let cd := ((sget f.features (0x0900 + cq.vector)).getD 0).getLsbD 16
  if qid = 0 || getField v 8 8 = 0 || cd then none else some (getField v 0 8 + 1)

/-- Send or hold back the MSI-X message of one posted entry; the entry goes before its message (R119). -/
def CqS.interrupt (cq : CqS) (thr : Option Nat) : CqS :=
  if cq.ien then
    match thr with
    | none => { cq with msix := cq.msix + 1, unsignalled := 0 }
    | some n =>
      if n ≤ cq.unsignalled + 1 then { cq with msix := cq.msix + 1, unsignalled := 0 }
      else { cq with unsignalled := cq.unsignalled + 1 }
  else cq

/-- A completion queue is full when one slot is left (NVMe Base 2.0). -/
def CqS.full (cq : CqS) : Bool := decide (cq.size ≤ cq.posted.length + 1)

/-- Post one entry. -/
def CqS.post (cq : CqS) (f : FuncS) (qid : Nat) (e : Cqe) : CqS :=
  ({ cq with posted := cq.posted ++ [e] }).interrupt (f.coalesce cq qid)

/-- Complete one command: its entry is posted and its tag freed, or, with the completion queue full, both are held
(R74). While FAILED holds nothing is completed (Table 0-6). -/
def State.completeOne (s : State) (tag : Nat) (st : Status) (dw0 : Dword) (data : Payload) (ep : List Nat) : State :=
  match sget s.host.tags tag with
  | none => s
  | some t =>
    if s.isFailed || t.phase == .held then s
    else
      let f := s.host.func t.cntl.val
      let head := ((sget s.host.sqs (qKey t.cntl.val t.sqid)).map (fun q => q.head)).getD 0
      let e : Cqe := { cid := t.cid, sqid := t.sqid, sqhd := head, st := st, dw0 := dw0, data := data,
                       ro := f.devCtl.getLsbD 4 && data != .nothing, ep := ep }
      let f' := if st = stOk then f else { f with errors := ((st, t.cid) :: f.errors).take 64 }
      let h := s.host.setFunc t.cntl.val f'
      let key := qKey t.cntl.val t.cqid
      match sget h.cqs key with
      | none => ({ s with host := { h with lastTlp := s.now } }).freeTag tag
      | some cq =>
        if cq.full then
          let h := { h with cqs := sput key { cq with held := cq.held ++ [(tag, e)] } h.cqs,
                            tags := sput tag { t with phase := .held } h.tags }
          ({ s with host := h }).freeCords (.tag tag)
        else
          ({ s with host := { h with cqs := sput key (cq.post f' t.cqid e) h.cqs, lastTlp := s.now } }).freeTag tag

/-- A Flush that runs and covers nothing that is not on media (R88). -/
def flushReady (e : Nat × TagE) : Bool :=
  e.2.phase == .running && e.2.groups.isEmpty && e.2.heirs.isEmpty && e.2.covered.isEmpty && (match e.2.cmd with
    | .flush _ => true
    | _ => false)

/-- Complete every Flush that nothing holds any more (R88, R89). -/
def State.sweepFlushes (s : State) : State :=
  (s.host.tags.filter flushReady).foldl (fun a e => a.completeOne e.1 (e.2.failure.getD stOk) 0 .nothing []) s

/-- Complete a command, and the Flushes that waited for it alone. -/
def State.complete (s : State) (tag : Nat) (st : Status) (dw0 : Dword := 0) (data : Payload := .nothing) (ep : List Nat := []) : State :=
  (s.completeOne tag st dw0 data ep).sweepFlushes

/-- Complete with a failure. -/
def State.failTag (s : State) (tag : Nat) (st : Status) : State := s.complete tag st

/-- Change a tag's entry. -/
def State.modTag (s : State) (tag : Nat) (g : TagE → TagE) : State :=
  { s with host := { s.host with tags := smod tag g s.host.tags } }

/-! ## Dropped commands -/

/-- Long operations whose command is dropped: one that has begun goes on without its tag (R100); one that has not begins no
more, and its namespaces are as before. -/
def NvmS.orphan (n : NvmS) (gone : List Nat) : NvmS :=
  let lost := fun (o : SlicedOp) => match o.tag with
    | some t => gone.contains t
    | none => false
  let dead := (n.ops.filter (fun e => lost e.2 && !e.2.begun)).map Prod.snd
  let back := dead.flatMap (fun o => if o.kind == .format || o.kind == .delete then o.nsids else [])
  let san := dead.any (fun o => o.kind == .sanitizeCrypto || o.kind == .sanitizeBlock)
  { n with
    ops := smap (fun _ o => if lost o then { o with tag := none } else o) (skeep (fun _ o => o.begun || !lost o) n.ops)
    nss := smap (fun i x => if back.contains i then { x with mode := .normal } else x) n.nss
    sanAction := if san then 0 else n.sanAction
    sanPhase := if san then 0 else n.sanPhase
    sanProgress := if san then 0 else n.sanProgress }

/-- Commit groups of deallocations, and of a namespace's segments, whose command is gone answer to nobody. -/
def MapS.orphan (m : MapS) (gone : List Nat) : MapS :=
  { m with groves := m.groves.map (fun (g : GroveMap) => { g with groups := g.groups.map (fun x => match x.why with
      | .dealloc (some t) => if gone.contains t then { x with why := .dealloc none } else x
      | .records (some t) => if gone.contains t then { x with why := .records none } else x
      | _ => x) }) }

/-- A detachment of a namespace from a controller has begun and is in progress (R96). -/
def TagE.detaches (t : TagE) (nsid c : Nat) : Bool :=
  t.phase == .begun && (match t.cmd with
    | .nsAttachment 1 n cs => n.toNat == nsid && cs.contains c
    | _ => false)

/-- The detachments in progress are those of some commands. -/
def NvmS.keepDetaches (n : NvmS) (tags : Sparse TagE) : NvmS :=
  { n with nss := smap (fun i x => { x with detaching := x.detaching.filter (fun c => tags.any (fun e => e.2.detaches i c)) }) n.nss }

/-- Long operations and commit groups go on without their command. -/
def State.orphan (s : State) (gone : List Nat) : State := { s with nvm := s.nvm.orphan gone, map := s.map.orphan gone }

/-- Drop every command of the functions that satisfy a test, without completion (R97, R99): tags and cords are
freed, sliced operations go on without their tag (R100), a detachment in progress ends, writes that have entered nothing enter nothing, and
cache groups forget the command. -/
def State.dropCommands (s : State) (p : Cntl → Bool) : State :=
  let gone := (s.host.tags.filter (fun e => p e.2.cntl)).map Prod.fst
  let s1 := gone.foldl (fun a t => a.freeCords (.tag t)) s
  let tags := (gone.foldl (fun m t => match sget s.host.tags t with
    | some e => smap (fun _ => coverDone t e.groups) m
    | none => m) s1.host.tags).filter (fun e => !(gone.contains e.1))
  { s1 with
    host := { s1.host with
      tags := tags
      sqs := s1.host.sqs.filter (fun e => !(if h : e.1 / 65536 < 256 then p ⟨e.1 / 65536, h⟩ else false))
      cqs := s1.host.cqs.filter (fun e => !(if h : e.1 / 65536 < 256 then p ⟨e.1 / 65536, h⟩ else false)) }
    nvm := (s1.nvm.orphan gone).keepDetaches tags
    map := s1.map.orphan gone
    cache := { s1.cache with
      groups := smap (fun _ g => match g.tag with
        | some t => if t ∈ gone then { g with tag := none } else g
        | none => g) (skeep (fun _ g => g.visible || !(match g.tag with
          | some t => gone.contains t
          | none => false)) s1.cache.groups) }
    land := { s1.land with
      ctxs := skeep (fun _ c => !(match c.tag with
        | some t => gone.contains t
        | none => false)) s1.land.ctxs } }

/-- Reset the controllers that satisfy a test: their commands are dropped and each returns to its cleared state;
`keepPci` keeps the PCIe registers of a controller reset. -/
def State.resetFuncs (s : State) (p : Cntl → Bool) (keepPci : Bool) : State :=
  let s1 := s.dropCommands p
  { s1 with
    host := { s1.host with
      funcs := (s1.host.funcs.map (fun e => if h : e.1 < 256 then
          (if p ⟨e.1, h⟩ then
            (e.1, if keepPci then { FuncS.cleared with devCtl := e.2.devCtl, aerLog := e.2.aerLog,
                                                         aqa := e.2.aqa, asq := e.2.asq, acq := e.2.acq }
                  else FuncS.cleared) else e) else e)).filter (fun e => e.2 != FuncS.cleared) } }

/-! ## Map leases: what host events need -/

/-- A port's lease. -/
def NvmS.lease (n : NvmS) (p : Port) : LeaseS := if p = 0 then n.lease0 else n.lease1
/-- Replace a port's lease. -/
def NvmS.setLease (n : NvmS) (p : Port) (l : LeaseS) : NvmS :=
  if p = 0 then { n with lease0 := l } else { n with lease1 := l }

/-- LEASED is cleared in every record with that LPORT (05 R171). -/
def MapS.unlease (m : MapS) (p : Port) : MapS :=
  { m with pages := smap (fun _ g => if g.leased && g.lport == p then { g with leased := false } else g) m.pages }

/-! ## Asynchronous events -/

/-- Hand one event to a controller, at most once per MSEQ (15 R427): it completes the oldest outstanding
Asynchronous Event Request, or waits for one. -/
def State.deliverEvent (s : State) (c : Nat) (ev : AsyncEv) : State :=
  let f := s.host.func c
  let old := match f.lastMseq with
    | some l => !(serialNewer ev.mseq l)
    | none => false
  if !f.en || !f.rdy || old then s
  else
    match f.aers with
    | [] =>
      { s with host := s.host.setFunc c { f with lastMseq := some ev.mseq, events := f.events ++ [ev] } }
    | t :: rest =>
      let s1 := { s with host := s.host.setFunc c { f with lastMseq := some ev.mseq, aers := rest } }
      s1.complete t stOk (BitVec.ofNat 32 (ev.typ + ev.info * 256 + ev.page * 65536))

/-- Raise an asynchronous event in some controllers, one management message for each (15 R426). -/
def State.raiseEvent (s : State) (cs : List Nat) (typ info page : Nat) : State :=
  cs.foldl (fun a c =>
    if a.mgmt.runs then
      let (q, m) := a.mgmt.takeMseq
      ({ a with mgmt := m }).deliverEvent c { mseq := q, typ := typ, info := info, page := page }
    else a) s

/-- A change of the composite controller status that NVMe-MI reports: 20h controller enable, 40h namespace attribute (02 R67). -/
def State.noteChange (s : State) (bit : Nat) : State := { s with bus := { s.bus with changes := s.bus.changes ||| bit } }

/-- Notice, Namespace Attribute Changed, in controllers whose Async Event Configuration allows it; the namespaces
join their Changed Namespace List (02 R50, NVMe Base 2.0). -/
def State.nsChanged (s : State) (cs : List Nat) (nsids : List Nat) : State :=
  let s1 := cs.foldl (fun a c =>
    { a with host := a.host.modFunc c (fun f =>
      if f.en then { f with changedNs := nsids.foldl (fun l n => addOnce n l) f.changedNs } else f) }) s
  (s1.noteChange 0x40).raiseEvent (cs.filter (fun c => ((s1.host.func c).feature 0x0B).getLsbD 8)) 2 0 4

/-- Controllers with a namespace attached. -/
def NvmS.attachedCtrls (n : NvmS) : List Nat :=
  n.nss.foldl (fun l e => e.2.attached.foldl (fun l c => addOnce c l) l) []

end Sys2Proof.Machine
end

