-- ==== Sys2Proof/Machine/Wire.lean ====
section
/-! DEFINITION. The fields of the structures that reach the block as bytes: the index table of Gather Read, lease extents, stand descriptors, attachment
words, the option block, image and Sweaz headers, configuration records and debug tokens; and the two CRCs of the manual. -/

namespace Sys2Proof

/-! ## Checks -/

/-- One bit of a reflected CRC, least significant bit first. -/
def crcBit (poly : BitVec 32) (c : BitVec 32) : BitVec 32 := if c.getLsbD 0 then (c >>> 1) ^^^ poly else c >>> 1

/-- A reflected CRC over the first n bytes of a word, from byte 0, with all ones before and after. -/
def crcOf {w : Nat} (poly : BitVec 32) (n : Nat) (x : BitVec w) : BitVec 32 :=
  ((List.range n).foldl (fun c i =>
    (List.range 8).foldl (fun d _ => crcBit poly d) (c ^^^ (x.extractLsb' (8 * i) 8).setWidth 32)) 0xFFFFFFFF) ^^^ 0xFFFFFFFF

/-- CRC-32C. -/
def crc32c {w : Nat} (n : Nat) (x : BitVec w) : BitVec 32 := crcOf 0x82F63B78 n x

/-- CRC-32 of IEEE 802.3: polynomial 04C11DB7h, reflected (12 R358). -/
def crc32 {w : Nat} (n : Nat) (x : BitVec w) : BitVec 32 := crcOf 0xEDB88320 n x

/-- A field of a word as a number. -/
def wfield {n : Nat} (x : BitVec n) (lo w : Nat) : Nat := (x.extractLsb' lo w).toNat

/-- A number from its bytes, the first lowest (00 R14). -/
def bytesNum (bs : List Byte) : Nat := bs.foldr (fun b a => b.toNat + 256 * a) 0

/-! ## Gather Read (04 R124, Table 4-3) -/

/-- The index table that 32 header bytes and the entries spell. -/
def GatherTable.ofHeader (h : BitVec 256) (entries : List Nat) : GatherTable :=
  { lwidth := h.extractLsb' 112 2, nlanes := wfield h 104 5, reshuf := h.extractLsb' 98 2, swap := h.extractLsb' 96 2,
    nelemM1 := wfield h 80 16, esize := wfield h 64 13, baseLba := wfield h 0 64,
    rsvd := h.extractLsb' 114 142 != 0 || h.extractLsb' 109 3 != 0 || h.extractLsb' 100 4 != 0 || h.extractLsb' 77 3 != 0,
    entries := entries }

/-- The index table of a Gather Read. -/
def GatherFields.table (f : GatherFields) : GatherTable := GatherTable.ofHeader f.header f.entries

/-! ## Lease extents (02 Table 2-14) -/

/-- ADDR as a byte address. -/
def LeaseExtent.addr (x : LeaseExtent) : Nat := wfield x.word 21 43 * 2097152
/-- LEN2M. -/
def LeaseExtent.len2m (x : LeaseExtent) : Nat := wfield x.word 64 32
/-- A reserved bit is set, bits [20:0] among them: an address that is not 2 MiB aligned. -/
def LeaseExtent.rsvd (x : LeaseExtent) : Bool := wfield x.word 96 32 != 0 || wfield x.word 0 21 != 0
/-- An entry by its fields. -/
def LeaseExtent.of (addr len2m : Nat) : LeaseExtent := { word := BitVec.ofNat 64 len2m ++ BitVec.ofNat 64 addr }

/-! ## Stands (10 Tables 10-1 and 10-2) -/

/-- STAND. -/
def StandDesc.stand (d : StandDesc) : StandNo := ⟨wfield d.word 0 7, (d.word.extractLsb' 0 7).isLt⟩
/-- PLACE. -/
def StandDesc.place (d : StandDesc) : Nat := wfield d.word 16 8
/-- CLASS. -/
def StandDesc.cls (d : StandDesc) : Nat := wfield d.word 32 8
/-- ROWS. -/
def StandDesc.rows (d : StandDesc) : BitVec 128 := d.word.extractLsb' 384 128
/-- RESVGIB. -/
def StandDesc.resvGib (d : StandDesc) : Nat := wfield d.word 352 32
/-- RSHARE. -/
def StandDesc.rshare (d : StandDesc) : Nat := wfield d.word 320 16
/-- WSHARE. -/
def StandDesc.wshare (d : StandDesc) : Nat := wfield d.word 336 16
/-- CHG_RESV. -/
def StandDesc.chgResv (d : StandDesc) : Bool := d.word.getLsbD 260
/-- CHG_WSHARE. -/
def StandDesc.chgWshare (d : StandDesc) : Bool := d.word.getLsbD 259
/-- CHG_RSHARE. -/
def StandDesc.chgRshare (d : StandDesc) : Bool := d.word.getLsbD 258
/-- CHG_CLASS. -/
def StandDesc.chgClass (d : StandDesc) : Bool := d.word.getLsbD 257
/-- CHG_PLACE. -/
def StandDesc.chgPlace (d : StandDesc) : Bool := d.word.getLsbD 256
/-- A reserved bit is set. -/
def StandDesc.rsvd (d : StandDesc) : Bool :=
  d.word.extractLsb' 261 59 != 0 || d.word.extractLsb' 40 216 != 0 || d.word.extractLsb' 24 8 != 0 || d.word.extractLsb' 7 9 != 0

/-- A descriptor by its fields; chg is CHG_RESV, CHG_WSHARE, CHG_RSHARE, CHG_CLASS, CHG_PLACE from bit 4 down. -/
def StandDesc.of (stand : StandNo) (place cls resvGib rshare wshare : Nat) (rows : BitVec 128) (chg : BitVec 5) : StandDesc :=
  { word := rows ++ BitVec.ofNat 32 resvGib ++ BitVec.ofNat 16 wshare ++ BitVec.ofNat 16 rshare ++ (0 : BitVec 59) ++ chg ++ (0 : BitVec 216) ++
      BitVec.ofNat 8 cls ++ (0 : BitVec 8) ++ BitVec.ofNat 8 place ++ (0 : BitVec 9) ++ BitVec.ofNat 7 stand.val }

/-- The attachment word of its upper three bytes, FUNC and PORT, and its lowest, STAND (10 Table 10-2). -/
def AttachWord.join (c : BitVec 24) (st : Byte) : AttachWord := { word := c ++ st }
/-- The stand of an attachment word. -/
def AttachWord.stand (a : AttachWord) : StandNo := ⟨wfield a.word 0 7, (a.word.extractLsb' 0 7).isLt⟩
/-- The function of an attachment word, by PORT and FUNC. -/
def AttachWord.cntl (a : AttachWord) : Cntl :=
  ⟨wfield a.word 16 1 * 128 + wfield a.word 8 7, by
    have h1 := (a.word.extractLsb' 16 1).isLt
    have h2 := (a.word.extractLsb' 8 7).isLt
    simp only [wfield]; omega⟩
/-- A reserved bit is set. -/
def AttachWord.rsvd (a : AttachWord) : Bool := a.word.extractLsb' 17 15 != 0 || a.word.getLsbD 15 || a.word.getLsbD 7
/-- The upper three bytes of an attachment word that names a function. -/
def AttachWord.ofCntl (c : Cntl) : BitVec 24 := BitVec.ofNat 16 c.port.val ++ BitVec.ofNat 8 c.func

/-! ## The option block (12 Table 12-5) -/

/-- The first read returned all ones or all zeros. -/
def OptRead.noAnswer (o : OptRead) : Bool := o.block == 0 || o.block == BitVec.allOnes 2048
/-- MAGIC and FMT. -/
def OptRead.magicFmtOk (o : OptRead) : Bool := wfield o.block 0 32 == 0x4B4C504F && wfield o.block 32 8 == 1
/-- The CRC over bytes 0 to 251. -/
def OptRead.crcOk (o : OptRead) : Bool := o.block.extractLsb' 2016 32 == crc32 252 o.block
/-- A reserved bit is set or a port's width has a reserved encoding. -/
def OptRead.rsvdBad (o : OptRead) : Bool :=
  [(128, 1888), (88, 8), (84, 4), (76, 4), (69, 3), (57, 7), (52, 4)].any (fun f => wfield o.block f.1 f.2 != 0) ||
    decide (1 < wfield o.block 80 2) || decide (1 < wfield o.block 72 2)
/-- LAYOUT. -/
def OptRead.layout (o : OptRead) : Nat := wfield o.block 96 32
/-- SPIMODE. -/
def OptRead.spimode (o : OptRead) : Nat := wfield o.block 40 8
/-- SCKDIV. -/
def OptRead.sckdiv (o : OptRead) : Nat := wfield o.block 48 4
/-- ADDR4. -/
def OptRead.addr4 (o : OptRead) : Bool := o.block.getLsbD 56
/-- DUMMY. -/
def OptRead.dummy (o : OptRead) : Nat := wfield o.block 64 5
/-- The settings of port 0. -/
def OptRead.port0 (o : OptRead) : OptPort :=
  { widthX8 := wfield o.block 72 2 == 1, lrev := o.block.getLsbD 74, sris := o.block.getLsbD 75 }
/-- The settings of port 1. -/
def OptRead.port1 (o : OptRead) : OptPort :=
  { widthX8 := wfield o.block 80 2 == 1, lrev := o.block.getLsbD 82, sris := o.block.getLsbD 83 }
/-- The second read did not fail and returned the same bytes (R360). -/
def OptRead.secondOk (o : OptRead) : Bool := o.second == some o.block

/-! ## Firmware images (16 Table 16-12) -/

/-- MAGIC, FMT and the reserved fields of the slot header, bytes 2,380 to 4,095 among them. -/
def ImageHeader.wellFormed (h : ImageHeader) : Bool :=
  wfield h.body 0 32 == 0x48474D49 && wfield h.body 32 8 == 1 && wfield h.body 1864 2232 == 0 && wfield h.body 104 24 == 0 &&
    wfield h.body 49 15 == 0 && h.tailZero
/-- RELEASE. -/
def ImageHeader.release (h : ImageHeader) : Nat := wfield h.body 64 32
/-- SVN. -/
def ImageHeader.svn (h : ImageHeader) : Nat := wfield h.body 96 8
/-- CFGFMT. -/
def ImageHeader.cfgFmt (h : ImageHeader) : Nat := wfield h.body 144 16
/-- FTLIF. -/
def ImageHeader.ftlIf (h : ImageHeader) : Nat := wfield h.body 128 16
/-- KEYID. -/
def ImageHeader.keyId (h : ImageHeader) : Nat := wfield h.body 40 8
/-- REVOKE0. -/
def ImageHeader.revoke0 (h : ImageHeader) : Bool := h.body.getLsbD 48
/-- MGMTLEN. -/
def ImageHeader.mgmtLen (h : ImageHeader) : Nat := wfield h.body 160 32
/-- FTLLEN. -/
def ImageHeader.ftlLen (h : ImageHeader) : Nat := wfield h.body 192 32
/-- UNITLEN. -/
def ImageHeader.unitLen (h : ImageHeader) : Nat := wfield h.body 224 32
/-- DIGEST. -/
def ImageHeader.digest (h : ImageHeader) : BitVec 384 := h.body.extractLsb' 256 384
/-- A header body by its fields, with no load segments and an all-zero DIGEST and keys. -/
def ImageHeader.bodyOf (release svn keyId : Nat) : BitVec 4096 :=
  BitVec.ofNat 4096 (0x48474D49 + 2 ^ 32 + 2 ^ 40 * keyId + 2 ^ 64 * release + 2 ^ 96 * svn)

/-! ## Configuration records (18 Tables 18-2 and 18-3, R489, R495) -/

/-- Value bytes of a record with its padding. -/
def recSpan (len : Nat) : Nat := (len + 7) / 8 * 8

/-- One record from its head and the bytes that follow; padding that is not zero counts as a reserved field that is set. -/
def recOf (head : Nat) (rest : List Byte) : CfgRec :=
  let len := head / 2 ^ 32 % 65536
  { id := head % 65536, typ := head / 2 ^ 16 % 256, inst := head / 2 ^ 24 % 256, len := len, value := bytesNum (rest.take len),
    rsvd := decide (2 ^ 48 ≤ head) || ((rest.take (recSpan len)).drop len).any (fun b => b != 0) }

/-- Records back to back, each parsed by its own LEN; none where they do not fill the bytes exactly. The first operand bounds their number. -/
def parseRecs : Nat → List Byte → Option (List CfgRec)
  | _, [] => some []
  | 0, _ => none
  | n + 1, bs =>
    let head := bytesNum (bs.take 8)
    let span := 8 + recSpan (head / 2 ^ 32 % 65536)
    if bs.length < span then none else (parseRecs n (bs.drop span)).map (fun t => recOf head (bs.drop 8) :: t)

/-- MAGIC, FMT and the reserved fields of a Sweaz header, bytes 2,380 to 4,095 among them. -/
def SweazHeader.wellFormed (h : SweazHeader) : Bool :=
  wfield h.body 0 32 == 0x435A5753 && wfield h.body 32 8 == 1 && wfield h.body 1864 2232 == 0 && wfield h.body 128 16 == 0 &&
    wfield h.body 40 24 == 0 && h.tailZero
/-- NREC. -/
def SweazHeader.nrec (h : SweazHeader) : Nat := wfield h.body 64 32
/-- CHIPID. -/
def SweazHeader.chipid (h : SweazHeader) : Qword := h.body.extractLsb' 192 64
/-- FORMAT. -/
def SweazHeader.format (h : SweazHeader) : Nat := wfield h.body 144 16
/-- VERSION. -/
def SweazHeader.version (h : SweazHeader) : Dword := h.body.extractLsb' 96 32
/-- LENGTH. -/
def SweazHeader.length (h : SweazHeader) : Nat := wfield h.body 160 32
/-- DIGEST. -/
def SweazHeader.digest (h : SweazHeader) : BitVec 384 := h.body.extractLsb' 256 384
/-- The records of the area. -/
def SweazHeader.recs (h : SweazHeader) : List CfgRec := (parseRecs h.area.length h.area).getD []
/-- The area is LENGTH bytes, and NREC records fill it exactly (R489). -/
def SweazHeader.parses (h : SweazHeader) : Bool :=
  h.area.length == h.length && (parseRecs h.area.length h.area).isSome && h.recs.length == h.nrec

/-- The 8-byte head of a reconfiguration record. -/
def ReconfigRec.head (r : ReconfigRec) : Nat := bytesNum (r.payload.take 8)
/-- The entries. -/
def ReconfigRec.recs (r : ReconfigRec) : List CfgRec := (parseRecs r.payload.length (r.payload.drop 8)).getD []
/-- FMT and the reserved fields of the head, and entries that fill the payload, agree with NREC and are of TYPE 01h with no reserved field set. -/
def ReconfigRec.wellFormed (r : ReconfigRec) : Bool :=
  decide (8 ≤ r.payload.length ∧ r.payload.length ≤ 4096) && r.head % 256 == 1 && r.head / 2 ^ 8 % 256 == 0 && r.head / 2 ^ 32 == 0 &&
    (parseRecs r.payload.length (r.payload.drop 8)).isSome && r.recs.length == r.head / 2 ^ 16 % 65536 &&
    r.recs.all (fun x => x.typ == 1 && !x.rsvd)

/-- The bytes of one entry of TYPE 01h. -/
def recBytes (id inst len value : Nat) : List Byte :=
  (List.range 8).map (fun i => BitVec.ofNat 8 ((id + 2 ^ 16 + 2 ^ 24 * inst + 2 ^ 32 * len) / 256 ^ i)) ++
    (List.range (recSpan len)).map (fun i => if i < len then BitVec.ofNat 8 (value / 256 ^ i) else 0)

/-- A reconfiguration record of some entries, each given by its bytes. -/
def ReconfigRec.of (es : List (List Byte)) : ReconfigRec :=
  { payload := [1, 0, BitVec.ofNat 8 es.length, BitVec.ofNat 8 (es.length / 256), 0, 0, 0, 0] ++ es.flatten }

/-! ## Debug tokens (14 Table 14-12) -/

/-- FMT and MAGIC. -/
def DebugToken.fmtOk (t : DebugToken) : Bool := wfield t.body 128 8 == 1 && wfield t.body 0 32 == 0x54424B44
/-- A reserved bit is set. -/
def DebugToken.rsvd (t : DebugToken) : Bool := t.body.extractLsb' 32 96 != 0
/-- NONCE. -/
def DebugToken.nonce (t : DebugToken) : BitVec 256 := t.body.extractLsb' 256 256
/-- CHIPID. -/
def DebugToken.chipid (t : DebugToken) : Qword := t.body.extractLsb' 192 64
/-- LIFETIME_S. -/
def DebugToken.lifetimeS (t : DebugToken) : Nat := wfield t.body 160 32
/-- PERM. -/
def DebugToken.perm (t : DebugToken) : BitVec 16 := t.body.extractLsb' 144 16
/-- LEVEL. -/
def DebugToken.level (t : DebugToken) : Nat := wfield t.body 136 8
/-- A token body by its fields. -/
def DebugToken.bodyOf (nonce : BitVec 256) (chipid : Qword) (lifetimeS : Nat) (perm : BitVec 16) (level : Nat) : BitVec 512 :=
  nonce ++ chipid ++ BitVec.ofNat 32 lifetimeS ++ perm ++ BitVec.ofNat 8 level ++ (1 : BitVec 8) ++ (0x54424B44 : BitVec 128)

end Sys2Proof
end

