-- ==== Sys2Proof/Machine/MapOps.lean ====
section
/-! DEFINITION. The map (05): trunk entries and leaves, lookups, the journal records that a change makes, the
effect of each record, commit groups, and the removal of blocks from the write-cache index. -/

namespace Sys2Proof.Machine

/-! ## Trunk entries (Table 5-2) -/

/-- KIND UNMAPPED. -/
abbrev kUnmapped : BitVec 2 := 0
/-- KIND COARSE. -/
abbrev kCoarse : BitVec 2 := 1
/-- KIND FINE. -/
abbrev kFine : BitVec 2 := 2
/-- KIND POISONED. -/
abbrev kPoisoned : BitVec 2 := 3

/-- A trunk entry; the reserved bits are written 0. -/
def mkTrunk (k : BitVec 2) (loc : Ploc) : BitVec 48 := k ++ (0 : BitVec 6) ++ loc
/-- KIND of an entry. -/
def trunkKind (e : BitVec 48) : BitVec 2 := e.extractLsb' 46 2
/-- LOC of an entry. -/
def trunkLoc (e : BitVec 48) : Ploc := e.extractLsb' 0 40

/-- The trunk entry of a granule; one not listed is UNMAPPED. -/
def trunkAt (t : Sparse (BitVec 48)) (dgn : Nat) : BitVec 48 := (sget t dgn).getD 0

/-- Leaf-page number of a leaf number (R147). -/
def lpnOf (leaf : Nat) : Nat := leaf / 64

/-- An entry of a leaf. -/
def leafEntry (l : Leaf) (k : Nat) : Ploc := vget l.entries k plocUnmapped

/-- A fresh leaf with every entry UNMAPPED. -/
def emptyLeaf (dgn : Nat) : Leaf := { dgn := dgn, entries := Vector.replicate 16 plocUnmapped }

/-- PSN of a leaf (Table 5-3). -/
def Leaf.psn (l : Leaf) : Bool := l.entries.toList.any (fun e => e == plocPoisoned)

/-- FILL of a leaf page: leaves in use (Table 5-4). -/
def fillOf (leaves : Sparse Leaf) (lpn : Nat) : Nat := (leaves.filter (fun e => lpnOf e.1 == lpn)).length

/-- A unit of the map region as a number: kind + 8 * unit number. -/
def unitKey (kind id : Nat) : Nat := kind + 8 * id

/-! ## Lookup (01 R21, R25; 05 R142, R146) -/

/-- What a map lookup of one block finds. -/
inductive Found where
  | unmapped
  | poisoned
  | at (p : Ploc)
  /-- A leaf-cache miss on this leaf page. -/
  | miss (lpn : Nat)
  /-- The granule's trunk slab is being repaired (05 R165). -/
  | wait
  /-- An entry that names block 16,383 or page 4,095 and is neither special value. -/
  | bad
  deriving DecidableEq, Repr

/-- A leaf entry value as a location. -/
def entryFound (p : Ploc) : Found :=
  if p = plocUnmapped then .unmapped
  else if p = plocPoisoned then .poisoned
  else if plocValid p then .at p
  else .bad

/-- What an entry says, where one that names block 16,383 or page 4,095 and is no special value counts as POISONED (R142). -/
def plocMeant (p : Ploc) : Ploc := if p = plocUnmapped || plocValid p then p else plocPoisoned

/-- The location of block k of a granule, whether or not its leaf is cached; a bad entry is POISONED (R142). -/
def blockLoc (t : Sparse (BitVec 48)) (leaves : Sparse Leaf) (dgn k : Nat) : Ploc :=
  let e := trunkAt t dgn
  if trunkKind e = kUnmapped then plocUnmapped
  else if trunkKind e = kPoisoned then plocPoisoned
  else if trunkKind e = kCoarse then (if plocValid (trunkLoc e) then coarseBlock (trunkLoc e) k else plocPoisoned)
  else match sget leaves (trunkLoc e).toNat with
    | some l => plocMeant (leafEntry l k)
    | none => plocUnmapped

/-- A COARSE granule's entry is bad (R142). -/
def MapS.badCoarse (m : MapS) (dgn : Nat) : Bool :=
  let e := trunkAt m.trunk dgn
  decide (trunkKind e = kCoarse) && !plocValid (trunkLoc e)

/-- The trunk walker's lookup of one block (R21). -/
def MapS.lookup (m : MapS) (dgn k : Nat) : Found :=
  let e := trunkAt m.trunk dgn
  if m.repairing.contains (dgn % 8, unitKey 0 (dgn / segGrans)) then .wait
  else if trunkKind e = kUnmapped then .unmapped
  else if trunkKind e = kPoisoned then .poisoned
  else if trunkKind e = kCoarse then (if plocValid (trunkLoc e) then .at (coarseBlock (trunkLoc e) k) else .bad)
  else
    let leaf := (trunkLoc e).toNat
    match sget m.pages (lpnOf leaf) with
    | some g => if g.cached then entryFound (((sget m.leaves leaf).map (fun l => leafEntry l k)).getD plocUnmapped) else .miss (lpnOf leaf)
    | none => .miss (lpnOf leaf)

/-- All 16 locations of a granule. -/
def granLocs (t : Sparse (BitVec 48)) (leaves : Sparse Leaf) (dgn : Nat) : List Ploc :=
  (List.range 16).map (fun k => blockLoc t leaves dgn k)

/-! ## Journal records (Tables 5-7, 5-8) -/

/-- A record; SEQ and END are set when its group is committed. -/
def jrec (typ id : Nat) (kind : BitVec 2 := 0) (value : BitVec 40 := 0) (first countM1 : Nat := 0)
    (step : Bool := false) (ngran : Nat := 0) : JRec :=
  { seq := 0, typ := typ, final := false, step := step, first := first, countM1 := countM1, kind := kind, id := id,
    value := value, ngran := ngran }

/-- TRUNK_SET. -/
def jTrunkSet (dgn : Nat) (k : BitVec 2) (v : Ploc) : JRec := jrec 1 dgn k v
/-- LEAF_CREATE. -/
def jLeafCreate (dgn leaf : Nat) : JRec := jrec 2 dgn 0 (BitVec.ofNat 40 leaf)
/-- LEAF_SET of one run of entries. -/
def jLeafSet (dgn first countM1 : Nat) (v : Ploc) (step : Bool) : JRec := jrec 3 dgn 0 v first countM1 step
/-- FOLD. -/
def jFold (dgn : Nat) (k : BitVec 2) (v : Ploc) : JRec := jrec 4 dgn k v
/-- LOC_SET of a leaf page (unit kind 10b). -/
def jLocSet (lpn : Nat) (v : Ploc) : JRec := jrec 5 lpn 2 v
/-- RANGE_UNMAP. -/
def jRangeUnmap (dgn n : Nat) : JRec := jrec 6 dgn 0 0 0 0 false n
/-- SEG_ASSIGN: namespace 0 is free. -/
def jSegAssign (seg ns ix : Nat) : JRec := jrec 7 (seg * segGrans) 0 (BitVec.ofNat 40 (ns * 2 ^ 29 + ix))
/-- GEN_START. -/
def jGenStart : JRec := jrec 8 0
/-- LEAF_MOVE. -/
def jLeafMove (dgn leaf : Nat) : JRec := jrec 9 dgn 0 (BitVec.ofNat 40 leaf)

/-- A PLOC advanced by i codewords in the order of R146. -/
def stepLoc (p : Ploc) (i : Nat) : Ploc :=
  if p = plocUnmapped ∨ p = plocPoisoned then p
  else mkPloc (plocDch p) (plocDie p) ((plocPlane p * 4 + plocSlot p + i) / 4) (plocBlock p) (plocPage p)
    ((plocPlane p * 4 + plocSlot p + i) % 4)

/-! ## The effect of a record (Table 5-8) -/

/-- A leaf page as its checkpoint leaves it: on flash, not cached, not leased. -/
def imagePage (stand : Nat) (floc : Ploc) : LeafPage :=
  { stand := ⟨stand % 128, by omega⟩, cached := false, dirty := false, version := 0, leased := false, lport := 0, lslot := 0, floc := floc,
    missing := none }


/-- A leaf page's record on its first use. No command has missed the page yet, so that its last miss counts as port 0's (the model's choice, log
entry 99). -/
def freshPage (stand : StandNo) : LeafPage :=
  { stand := stand, cached := true, dirty := true, version := 0, leased := false, lport := 0, lslot := 0,
    floc := plocUnmapped, missing := none, changed := true }

/-- A change of a leaf page: it is in the leaf cache, dirty, and LEASED is cleared first (R170). -/
def MapS.touchPage (m : MapS) (lpn : Nat) (stand : StandNo) : MapS :=
  let g := (sget m.pages lpn).getD { freshPage stand with version := m.verFloor }
  { m with pages := sput lpn { g with cached := true, dirty := true, changed := true, leased := false } m.pages }

/-- A leaf page is freed. The VERSION it had is kept, so that the page that takes its LPN next goes on from there (R172). -/
def MapS.freePage (m : MapS) (lpn : Nat) : MapS :=
  { m with pages := sdel lpn m.pages, verFloor := max m.verFloor (((sget m.pages lpn).map (fun p => p.version)).getD 0) }

/-- Free the leaf of a granule, if it is FINE; the emptied page goes too (R151, R153). -/
def MapS.freeLeaf (m : MapS) (dgn : Nat) : MapS :=
  let e := trunkAt m.trunk dgn
  if trunkKind e = kFine then
    let leaf := (trunkLoc e).toNat
    let leaves := sdel leaf m.leaves
    let st := ((sget m.pages (lpnOf leaf)).map (fun g => g.stand)).getD 0
    let m1 := ({ m with leaves := leaves }).touchPage (lpnOf leaf) st
    if fillOf leaves (lpnOf leaf) = 0 then m1.freePage (lpnOf leaf) else m1
  else m

/-- Set a trunk entry. -/
def MapS.setTrunk (m : MapS) (dgn : Nat) (k : BitVec 2) (v : Ploc) : MapS :=
  { m with trunk := sputD 0 dgn (mkTrunk k v) m.trunk }

/-- The granules that grove g owns among the NGRAN it owns from ID upward. -/
def ownedFrom (g : Grove) (dgn n : Nat) : List Nat :=
  let first := dgn + (g.val + 8 - dgn % 8) % 8
  (List.range n).map (fun i => first + 8 * i)

/-- Apply one record of grove g (Table 5-8); `stand` owns the granules it names. -/
def MapS.applyRec (m : MapS) (g : Grove) (stand : StandNo) (r : JRec) : MapS :=
  if r.typ = 1 then m.setTrunk r.id r.kind r.value
  else if r.typ = 2 then
    let leaf := r.value.toNat
    (({ m with leaves := sput leaf (emptyLeaf r.id) m.leaves }).touchPage (lpnOf leaf) stand).setTrunk r.id kFine r.value
  else if r.typ = 3 then
    let leaf := (trunkLoc (trunkAt m.trunk r.id)).toNat
    match sget m.leaves leaf with
    | some l =>
      let es := l.entries.mapIdx (fun i x => if r.first ≤ i ∧ i ≤ r.first + r.countM1 then
        (if r.step then stepLoc r.value (i - r.first) else r.value) else x)
      ({ m with leaves := sput leaf { l with entries := es } m.leaves }).touchPage (lpnOf leaf) stand
    | none => m
  else if r.typ = 4 then (m.freeLeaf r.id).setTrunk r.id r.kind r.value
  else if r.typ = 5 then
    if r.kind ≠ 2 then m
    else match sget m.pages r.id, sget m.groves[g.val].image.heads r.id with
      | none, some st => { m with pages := sput r.id (imagePage st r.value) m.pages }
      | _, _ => { m with pages := smod r.id (fun p => { p with floc := r.value, dirty := p.changed }) m.pages }
  else if r.typ = 6 then
    (ownedFrom g r.id r.ngran).foldl (fun a d => (a.freeLeaf d).setTrunk d kUnmapped 0) m
  else if r.typ = 7 then
    let ns := (r.value.extractLsb' 29 11).toNat
    let ix := (r.value.extractLsb' 0 29).toNat
    { m with segs := if ns = 0 then sdel (r.id / segGrans) m.segs else sput (r.id / segGrans) (ns, ix) m.segs }
  else if r.typ = 9 then
    let leaf := r.value.toNat
    let m1 := m.freeLeaf r.id
    (({ m1 with leaves := sput leaf (emptyLeaf r.id) m1.leaves }).touchPage (lpnOf leaf) stand).setTrunk r.id kFine r.value
  else m

/-! ## The records of a change (Table 5-6) -/

/-- The leaf pages of a stand in a grove that have a free slot, lowest FILL first (R153). -/
def MapS.openPages (m : MapS) (g : Grove) (stand : StandNo) : List (Nat × Nat) :=
  ((m.pages.filter (fun e => e.1 % 8 == g.val && e.2.stand == stand)).map
    (fun e => (e.1, fillOf m.leaves e.1))).filter (fun e => decide (e.2 < 42))

/-- The entry with the lowest second component, the first of equals. -/
def lowest : List (Nat × Nat) → Option (Nat × Nat)
  | [] => none
  | x :: t => match lowest t with
    | none => some x
    | some y => if y.2 < x.2 then some y else some x

/-- The lowest free LPN of a grove. -/
def newLpn : Nat → Nat → List Nat → Nat
  | 0, l, _ => l
  | fuel + 1, l, used => if l ∈ used then newLpn fuel (l + 8) used else l

/-- The lowest free leaf slot of a page. -/
def freeSlot (leaves : Sparse Leaf) (lpn : Nat) : Nat :=
  ((List.range 42).find? (fun s => (sget leaves (lpn * 64 + s)).isNone)).getD 0

/-- Where a new leaf of a stand goes (R153). -/
def MapS.newLeaf (m : MapS) (g : Grove) (stand : StandNo) (avoid : Option Nat := none) : Nat :=
  match lowest ((m.openPages g stand).filter (fun e => some e.1 != avoid)) with
  | some (lpn, _) => lpn * 64 + freeSlot m.leaves lpn
  | none => newLpn (m.pages.length + 1) g.val (m.pages.map Prod.fst) * 64

/-- Runs of entries as LEAF_SET records, one per entry. -/
def setRecs (dgn : Nat) (es : List (Nat × Ploc)) : List JRec := es.map (fun e => jLeafSet dgn e.1 0 e.2 false)

/-- The records by which all 16 entries of a leaf get the values derived from a trunk entry (Table 5-6). -/
def deriveRec (dgn : Nat) (e : BitVec 48) : JRec :=
  if trunkKind e = kCoarse ∧ plocValid (trunkLoc e) = true then jLeafSet dgn 0 15 (coarseBlock (trunkLoc e) 0) true
  else if trunkKind e = kPoisoned ∨ trunkKind e = kCoarse then jLeafSet dgn 0 15 plocPoisoned false
  else jLeafSet dgn 0 15 plocUnmapped false

/-- The records that make a whole granule of one kind. -/
def wholeRecs (m : MapS) (dgn : Nat) (k : BitVec 2) (v : Ploc) : List JRec :=
  if trunkKind (trunkAt m.trunk dgn) = kFine then [jFold dgn k v] else [jTrunkSet dgn k v]

/-- A compare-and-set condition holds (R154). -/
def casHolds (m : MapS) (c : CasCond) : Bool := blockLoc m.trunk m.leaves c.dgn c.k == c.loc

/-- The entries of a change whose own conditions hold (R30). -/
def liveEntries (m : MapS) (c : GranChange) : List (Nat × Ploc) :=
  c.entries.filter (fun e => (c.cas.filter (fun x => x.k == e.1)).all (fun x => casHolds m x))

/-- The records of one granule's change: a whole granule becomes COARSE if every condition holds; entries are set
in a leaf that is made where there is none, and 16 UNMAPPED entries fold (R151, R152). -/
def changeRecs (m : MapS) (stand : StandNo) (c : GranChange) : List JRec :=
  match c.coarse with
  | some p => if c.cas.all (fun x => casHolds m x) then wholeRecs m c.dgn kCoarse p else []
  | none =>
    let es := liveEntries m c
    if es.isEmpty then []
    else
      let e := trunkAt m.trunk c.dgn
      let new := (granLocs m.trunk m.leaves c.dgn).mapIdx (fun k x => match es.find? (fun y => y.1 == k) with
        | some y => y.2
        | none => x)
      if new.all (fun x => x == plocUnmapped) then
        (if trunkKind e = kUnmapped then [] else wholeRecs m c.dgn kUnmapped 0)
      else if es.length = 16 && new.all (fun x => x == plocPoisoned) then wholeRecs m c.dgn kPoisoned 0
      else if trunkKind e = kFine then setRecs c.dgn es
      else
        let leaf := m.newLeaf (groveOf c.dgn) stand
        jLeafCreate c.dgn leaf :: deriveRec c.dgn e :: setRecs c.dgn es

/-! ## Commit (R155 to R159) -/

/-- Records in one half of a grove's ring. -/
abbrev halfRing : Nat := 32768

/-- Number the records of a group and mark its last with END (R155, R157). -/
def numberGroup (seq : Qword) (rs : List JRec) : List JRec :=
  rs.mapIdx (fun i r => { r with seq := seq + BitVec.ofNat 64 i, final := decide (i + 1 = rs.length) })

/-- A grove of the map. -/
def MapS.grove (m : MapS) (g : Grove) : GroveMap := m.groves[g.val]
/-- Change a grove of the map. -/
def MapS.modGrove (m : MapS) (g : Grove) (f : GroveMap → GroveMap) : MapS :=
  { m with groves := m.groves.set g.val (f (m.groves[g.val])) }

/-- The CRC-32C of a control block (R158): over its SEQ. -/
def ctlCrcOf (seq : Qword) : Dword := crc32c 8 seq

/-- The control block takes the SEQ of the last applied group. -/
def GroveMap.applied (x : GroveMap) (seq : Qword) : GroveMap := { x with ctlSeq := seq, ctlCrc := ctlCrcOf seq }

/-- The control block passes its CRC. -/
def GroveMap.ctlGood (x : GroveMap) : Bool := !x.ctlBad && x.ctlCrc == ctlCrcOf x.ctlSeq

/-- The checkpoint unit that a record changes: the granule whose trunk slab or leaf page it touches. -/
def recUnits (g : Grove) (r : JRec) : List Nat :=
  if r.typ = 6 then ownedFrom g r.id r.ngran
  else if r.typ = 7 || r.typ = 8 || r.typ = 5 then [] else [r.id]

/-- Write a group to the ring and apply it to the map (R155, R158). An empty group writes nothing. -/
def MapS.commit (m : MapS) (g : Grove) (stand : StandNo) (rs : List JRec) : MapS :=
  if rs.isEmpty then m
  else
    let gm := m.grove g
    let ns := numberGroup gm.nextSeq rs
    let m1 := m.modGrove g (fun x =>
      { (x.applied (x.nextSeq + BitVec.ofNat 64 (ns.length - 1))) with
        ring := x.ring ++ ns, nextSeq := x.nextSeq + BitVec.ofNat 64 ns.length,
        dirtyUnits := (ns.flatMap (recUnits g)).foldl (fun l u => addOnce u l) x.dirtyUnits })
    ns.foldl (fun a r => a.applyRec g stand r) m1

/-- The records of several changes, each computed on the map that the ones before it leave (R154). -/
def MapS.changesRecs (m : MapS) (g : Grove) (stand : StandNo) (cs : List GranChange) : List JRec :=
  (cs.foldl (fun (a : MapS × List JRec) c =>
    let rs := changeRecs a.1 stand c
    (rs.foldl (fun x r => x.applyRec g stand r) a.1, a.2 ++ rs)) (m, [])).2

/-- Commit the changes of a group (R154, R157). -/
def MapS.commitChanges (m : MapS) (g : Grove) (stand : StandNo) (cs : List GranChange) : MapS :=
  m.commit g stand (m.changesRecs g stand cs)

/-- The ring has room for n more records (R155, R159). -/
def GroveMap.roomFor (x : GroveMap) (n : Nat) : Bool := decide (x.ring.length + n ≤ 2 * halfRing)

/-- The ring has room for a commit: not both halves are full (R159). -/
def GroveMap.room (x : GroveMap) : Bool := x.roomFor 1

/-- Queue a commit group for heartwood. -/
def State.queueGroup (s : State) (g : Grove) (x : CommitGroup) : State :=
  { s with map := s.map.modGrove g (fun m => { m with groups := m.groups ++ [x] }) }

/-- Queue a commit group ahead of those that wait: what it poisons is served by nothing meanwhile. -/
def State.queueFirst (s : State) (g : Grove) (x : CommitGroup) : State :=
  { s with map := s.map.modGrove g (fun m => { m with groups := x :: m.groups }) }

/-- A map entry that names no location and is no special value: the event of 05 R142. -/
def State.badPloc (s : State) (dgn : Nat) : State :=
  s.recordHw (srcFtl (groveOf dgn)) sevCritical 0x0A01 (dgn % 4294967296) (dgn / 4294967296)

/-- Changes of part of a granule meet its bad COARSE entry: each is recorded (R142). -/
def State.noteBad (s : State) (cs : List GranChange) : State :=
  (cs.filter (fun c => c.coarse.isNone && decide (c.entries.length < 16) && s.map.badCoarse c.dgn)).foldl (fun a c => a.badPloc c.dgn) s

/-! ## Namespaces -/

/-- A namespace. -/
def NvmS.ns (n : NvmS) (nsid : Nat) : Option NsS := sget n.nss nsid
/-- Change a namespace. -/
def NvmS.modNs (n : NvmS) (nsid : Nat) (f : NsS → NsS) : NvmS := { n with nss := smod nsid f n.nss }

/-- The stand that owns a granule, through its segment. -/
def State.standOfDgn (s : State) (dgn : Nat) : StandNo :=
  match sget s.map.segs (dgn / segGrans) with
  | some (nsid, _) => ((s.nvm.ns nsid).map (fun n => n.stand)).getD 0
  | none => 0

/-- The namespace and namespace granule of a device granule (R143). -/
def MapS.granuleOf (m : MapS) (dgn : Nat) : Option (Nat × Nat) :=
  (sget m.segs (dgn / segGrans)).map (fun e => (e.1, e.2 * segGrans + dgn % segGrans))

/-- The device granule of granule g of a namespace. -/
def State.dgn (s : State) (nsid g : Nat) : Option Nat := (s.nvm.ns nsid).bind (fun n => dgnOf n.segs g)

/-- Segments of a namespace size (R144). -/
def segsFor (nlb : Nat) : Nat := (nlb + segBlocks - 1) / segBlocks

/-- The n lowest segment numbers that no namespace holds. -/
def State.freeSegs (s : State) (n : Nat) : List Nat :=
  let used := s.map.segs.map Prod.fst ++ s.nvm.nss.flatMap (fun e => e.2.segs)
  pickFree (n + used.length) n 0 used

/-! ## Write-cache index (03 R82, 05 R151) -/

/-- Remove blocks of a namespace from the write-cache index: their slots are superseded and are placed nowhere. -/
def CacheS.removeBlocks (c : CacheS) (nsid : Nat) (gone : Nat → Bool) : CacheS :=
  { c with groups := smap (fun _ g =>
      if g.nsid = nsid && g.visible then
        { g with slots := g.slots.map (fun x => if gone x.lba then { x with super := true } else x) }
      else g) c.groups }

/-! ## Checkpoint generations (R160, R161) -/

/-- Where the directory slabs of a grove place a page now; one that has no flash copy is not listed. -/
def MapS.flocOf (m : MapS) (lpn : Nat) : Option Ploc :=
  (sget m.pages lpn).bind (fun p => if p.floc = plocUnmapped then none else some p.floc)

/-- The directory slabs of a grove that have changed since their last copy (Table 5-9). -/
def MapS.staleDirs (m : MapS) (g : Grove) : List Nat :=
  let img := (m.grove g).image.dirs
  (((m.pages.map Prod.fst).filter (fun l => l % 8 == g.val) ++ img.map Prod.fst).filter (fun l => m.flocOf l != sget img l)).foldl
    (fun a l => addOnce (l / 8 / 512) a) []

/-- The units that a generation copies: the trunk slabs of the granules that have changed, the leaf pages that are dirty, and the
directory slabs that have changed (Table 5-9). -/
def MapS.genUnits (m : MapS) (g : Grove) : List Nat :=
  let slabs := ((m.grove g).dirtyUnits.map (fun d => unitKey 0 (d / segGrans))).foldl (fun l u => addOnce u l) []
  let leaves := (m.pages.filter (fun e => e.1 % 8 == g.val && e.2.dirty)).map Prod.fst
  slabs ++ leaves.map (unitKey 2) ++ (m.staleDirs g).map (unitKey 1)

/-- GEN_START: the generation begins at its SEQ. -/
def MapS.genStart (m : MapS) (g : Grove) : MapS :=
  let s0 := (m.grove g).nextSeq
  let us := m.genUnits g
  (m.commit g 0 [jGenStart]).modGrove g (fun x => { x with gen := some { start := s0, units := us, root := none }, dirtyUnits := [] })

/-- Units to be written again: into the generation in progress, or a new one. -/
def MapS.rewrite (m : MapS) (g : Grove) (us : List Nat) : MapS :=
  let m1 := if (m.grove g).gen.isNone && (m.grove g).room then m.genStart g else m
  m1.modGrove g (fun x => { x with gen := x.gen.map (fun (e : GenS) => { e with units := us.foldl (fun l u => addOnce u l) e.units }) })

/-! ## The commit of several changes -/

/-- The records of some changes, each with the stand of its granule (R147, R154). -/
def State.changesMixed (s : State) (g : Grove) (cs : List GranChange) : List (StandNo × JRec) :=
  (cs.foldl (fun (a : MapS × List (StandNo × JRec)) c =>
    let st := s.standOfDgn c.dgn
    let rs := changeRecs a.1 st c
    (rs.foldl (fun x r => x.applyRec g st r) a.1, a.2 ++ rs.map (fun r => (st, r)))) (s.map, [])).2

/-- Write a group to the ring and apply it: SEQ and END are set, and every record is applied for the stand of its granule (R155,
R157, R158). -/
def MapS.commitMixed (m : MapS) (g : Grove) (rs : List (StandNo × JRec)) : MapS :=
  if rs.isEmpty then m
  else
    let gm := m.grove g
    let ns := numberGroup gm.nextSeq (rs.map Prod.snd)
    let m1 := m.modGrove g (fun x =>
      { (x.applied (x.nextSeq + BitVec.ofNat 64 (ns.length - 1))) with
        ring := x.ring ++ ns, nextSeq := x.nextSeq + BitVec.ofNat 64 ns.length,
        dirtyUnits := (ns.flatMap (recUnits g)).foldl (fun l u => addOnce u l) x.dirtyUnits })
    ((rs.map Prod.fst).zip ns).foldl (fun a r => a.applyRec g r.1 r.2) m1

/-- Blocks of namespaces that some changes set: namespace and LBA. -/
def State.changedLbas (s : State) (cs : List GranChange) : List (Nat × Nat) :=
  cs.flatMap (fun c => match s.map.granuleOf c.dgn with
    | some (n, gr) => c.entries.map (fun e => (n, gr * 16 + e.1))
    | none => [])

end Sys2Proof.Machine
end

