-- ==== Sys2Proof/Machine/MapWords.lean ====
section
/-! DEFINITION. The words of the map (05 Tables 5-3 to 5-5, 5-7, 5-9): leaves, leaf pages and their records, journal records, checkpoint units,
the sealed copies of a lease (05 R168, R169) and the checks made on them. -/

namespace Sys2Proof.Machine

/-! ## Leaves and leaf pages -/

/-- Fields of equal width in one word, the first in the lowest bits. -/
def joinWords {w : Nat} (n : Nat) (xs : List (BitVec w)) : BitVec n := BitVec.ofNat n (xs.mapIdx (fun i x => x.toNat * 2 ^ (w * i))).sum

/-- A leaf slot: a leaf with its PSN, INUSE and DGN, or a free slot, which holds all zeros (Table 5-3). -/
def leafWord (l : Option Leaf) : BitVec 768 :=
  match l with
  | none => 0
  | some l => (0 : BitVec 78) ++ BitVec.ofBool l.psn ++ (1 : BitVec 1) ++ (0 : BitVec 15) ++ BitVec.ofNat 33 l.dgn ++ joinWords 640 l.entries.toList

/-- The header of a leaf page (Table 5-4). -/
def pageHeader (lpn fill : Nat) (stand : StandNo) (version : Nat) (tag : BitVec 128) : BitVec 512 :=
  (0 : BitVec 232) ++ (1 : BitVec 8) ++ BitVec.ofNat 8 fill ++ (0 : BitVec 1) ++ BitVec.ofNat 7 stand.val ++ tag ++ (0 : BitVec 8) ++
    BitVec.ofNat 56 version ++ (0 : BitVec 30) ++ BitVec.ofNat 34 lpn

/-- A leaf page: its header, and slot s in bytes 64 + 96s to 159 + 96s (R149). -/
def MapS.pageBlock (m : MapS) (lpn version : Nat) (tag : BitVec 128) : Block :=
  let st := ((sget m.pages lpn).map (fun p => p.stand)).getD 0
  joinWords 32256 ((List.range 42).map (fun s => leafWord (sget m.leaves (lpn * 64 + s)))) ++ pageHeader lpn (fillOf m.leaves lpn) st version tag

/-- A leaf-page record (Table 5-5). -/
def pageRecord (g : LeafPage) : BitVec 128 :=
  BitVec.ofNat 56 g.version ++ BitVec.ofBool g.leased ++ BitVec.ofNat 1 g.lport.val ++ BitVec.ofNat 23 g.lslot ++ (0 : BitVec 7) ++ g.floc

/-! ## Journal records -/

/-- Bytes 0 to 27 of a journal record (Table 5-7). -/
def recordBody (r : JRec) : BitVec 224 :=
  BitVec.ofNat 32 r.ngran ++ (0 : BitVec 8) ++ r.value ++ (0 : BitVec 14) ++ BitVec.ofNat 34 r.id ++ (0 : BitVec 6) ++ r.kind ++ BitVec.ofNat 4 r.countM1 ++
    BitVec.ofNat 4 r.first ++ (0 : BitVec 6) ++ BitVec.ofBool r.step ++ BitVec.ofBool r.final ++ BitVec.ofNat 8 r.typ ++ r.seq

/-- A journal record with its CRC (Table 5-7). -/
def recordWord (r : JRec) : BitVec 256 := crc32c 28 (recordBody r) ++ recordBody r

/-- A record as it is read at replay: none where its CRC fails or its TYPE is reserved (R164). -/
def readRecord (w : BitVec 256) : Option JRec :=
  let b := w.extractLsb' 0 224
  let typ := (b.extractLsb' 64 8).toNat
  if w.extractLsb' 224 32 != crc32c 28 b || typ = 0 || 9 < typ then none
  else some { seq := b.extractLsb' 0 64, typ := typ, final := b.getLsbD 72, step := b.getLsbD 73, first := (b.extractLsb' 80 4).toNat,
              countM1 := (b.extractLsb' 84 4).toNat, kind := b.extractLsb' 88 2, id := (b.extractLsb' 96 34).toNat, value := b.extractLsb' 144 40,
              ngran := (b.extractLsb' 192 32).toNat }

/-! ## Pointers -/

/-- The CRC of a root pointer or wear-table pointer: over its PLOC, length and SEQ (log entry 24). -/
def ptrCrc (seq : Qword) (loc : Ploc) (len : Nat) : Dword := crc32c 17 (loc ++ BitVec.ofNat 32 len ++ seq)

/-- A pointer as it is written. -/
def mkPtr (seq : Qword) (loc : Ploc) (len : Nat) : RootPtr := { seq := seq, loc := loc, len := len, crc := ptrCrc seq loc len }

/-- A pointer that has been written and passes its CRC. -/
def RootPtr.good (p : RootPtr) : Bool := p.len != 0 && p.crc == ptrCrc p.seq p.loc p.len

/-! ## Checkpoint units (Table 5-9) -/

/-- The bytes of a root table: the PLOC of every trunk slab and directory slab, and for grove 0 the segment tables, 5 bytes each (log entry 24). -/
def MapS.rootWords (m : MapS) (g : Grove) : List (BitVec 40) :=
  (m.grove g).image.locs.map Prod.snd ++
    (if g = 0 then m.segs.map (fun e => BitVec.ofNat 11 e.2.1 ++ BitVec.ofNat 29 e.2.2) else [])

/-- Codewords that a root table takes. -/
def MapS.rootLen (m : MapS) (g : Grove) : Nat := max 1 ((5 * (m.rootWords g).length + 4095) / 4096)

/-- The codeword of a unit: kind 0 a trunk slab, 1 a directory slab, 2 a leaf page with TAG and VERSION zero, 3 a codeword of the root table, 4 one of
the map log, 5 one of the wear table. -/
def MapS.unitBlock (m : MapS) (g : Grove) (kind id : Nat) : Block :=
  if kind = 0 then joinWords 32768 ((List.range 512).map (fun j => trunkAt m.trunk (id * segGrans + 8 * j + g.val)))
  else if kind = 1 then joinWords 32768 ((List.range 512).map (fun j =>
    ((sget m.pages (8 * (512 * id + j) + g.val)).map (fun p => p.floc)).getD plocUnmapped))
  else if kind = 2 then m.pageBlock id 0 0
  else if kind = 3 then BitVec.ofNat 32768 ((joinWords (40 * (m.rootWords g).length) (m.rootWords g)).toNat / 2 ^ (32768 * id))
  else if kind = 4 then joinWords 32768 ((((m.grove g).ring.drop (128 * id)).take 128).map recordWord)
  else joinWords 32768 ((List.range 2048).map (fun j => (sget (m.grove g).wearSnap (g.val * 262144 + 2048 * id + j)).getD 0))

/-! ## Sealed copies (R166, R168, R169) -/

/-- The IV of a sealed copy: bytes 0 to 4 the LPN, bytes 5 to 11 VERSION. -/
def leaseIv (lpn version : Nat) : BitVec 96 := BitVec.ofNat 56 version ++ BitVec.ofNat 40 lpn

/-- A page with its TAG set to zero. -/
def untagged (b : Block) : Block := b &&& ~~~(BitVec.ofNat 32768 ((2 ^ 128 - 1) * 2 ^ 128))

/-- The sealed copy of a leaf page under a lease MAC key, at a VERSION (R168). -/
def MapS.sealedPage (m : MapS) (lpn version : Nat) : Block :=
  m.pageBlock lpn version (pageTag (Config.macKey m.leaseKey) (leaseIv lpn version) (m.pageBlock lpn version 0))

/-- A copy that a fetch has brought is accepted for a page (R169). -/
def MapS.accepts (m : MapS) (lpn : Nat) (g : LeafPage) (b : Block) : Bool :=
  b.extractLsb' 128 128 == pageTag (Config.macKey m.leaseKey) (leaseIv lpn g.version) (untagged b) && b.extractLsb' 0 34 == BitVec.ofNat 34 lpn &&
    b.extractLsb' 64 56 == BitVec.ofNat 56 g.version && b.extractLsb' 256 7 == BitVec.ofNat 7 g.stand.val && b.extractLsb' 272 8 == 1

/-- The host address of a slot: slots are numbered in extent order and by ascending address within each extent (R166). -/
def slotIn : List LeaseExtent → Nat → Option Nat
  | [], _ => none
  | x :: t, k => if k < x.len2m * 512 then some (x.addr + 4096 * k) else slotIn t (k - x.len2m * 512)

/-- The host address of a slot of a lease. -/
def LeaseS.slotAddr (l : LeaseS) (k : Nat) : Option Nat := slotIn l.extents k

end Sys2Proof.Machine
end

