-- ==== Sys2Proof/Machine/MediaOps.lean ====
section
/-! DEFINITION. Media management (06): row-block records, members and parity, placement domains, capacity and
spare (R204 to R209), write points and the opening of row blocks, thinning mode and victims. -/

/-- A class whose data belongs to the map: its row blocks lie in a map region and are programmed in SLC mode (Table 6-2). -/
def Sys2Proof.WpClass.ofMap : WpClass → Bool
  | .map => true
  | .wide => true
  | _ => false

namespace Sys2Proof.Machine

/-! ## Row-block records (Table 6-1) -/

/-- STATE FREE. -/
abbrev rbFree : Nat := 0
/-- STATE OPEN. -/
abbrev rbOpen : Nat := 1
/-- STATE CLOSED. -/
abbrev rbClosed : Nat := 2
/-- STATE THINNING. -/
abbrev rbThinning : Nat := 3
/-- STATE ERASE_PENDING. -/
abbrev rbErasePending : Nat := 4
/-- STATE RETIRED. -/
abbrev rbRetired : Nat := 5

/-- The record of a row block; one not listed is 0: FREE, no member absent, TLC; or, in a die row without dies, RETIRED (07 R216). -/
def MediaS.rbRec (m : MediaS) (rb : Nat) : BitVec 16 :=
  (sget m.recs rb).getD (if m.emptyRows.contains (rb / 16384) then 0xA000 else 0)
/-- STATE of a record. -/
def recState (x : BitVec 16) : Nat := (x.extractLsb' 13 3).toNat
/-- EIF of a record. -/
def recEif (x : BitVec 16) : Bool := x.getLsbD 12
/-- ABSENT of a record. -/
def recAbsent (x : BitVec 16) : BitVec 8 := x.extractLsb' 4 8
/-- SLC of a record. -/
def recSlc (x : BitVec 16) : Bool := x.getLsbD 3

/-- A record from its fields; EIF is 1 exactly while STATE is ERASE_PENDING. -/
def mkRec (st : Nat) (absent : BitVec 8) (slc : Bool) : BitVec 16 :=
  BitVec.ofNat 3 st ++ BitVec.ofBool (decide (st = rbErasePending)) ++ absent ++ BitVec.ofBool slc ++ (0 : BitVec 3)

/-- Write STATE and EIF together (R177). -/
def MediaS.setState (m : MediaS) (rb st : Nat) : MediaS :=
  let x := m.rbRec rb
  { m with recs := sputD 0 rb (mkRec st (recAbsent x) (recSlc x)) m.recs }

/-- Write the ABSENT bits. -/
def MediaS.setAbsent (m : MediaS) (rb : Nat) (a : BitVec 8) : MediaS :=
  let x := m.rbRec rb
  { m with recs := sputD 0 rb (mkRec (recState x) a (recSlc x)) m.recs }

/-- Write SLC. -/
def MediaS.setSlc (m : MediaS) (rb : Nat) (b : Bool) : MediaS :=
  let x := m.rbRec rb
  { m with recs := sputD 0 rb (mkRec (recState x) (recAbsent x) b) m.recs }

/-- The die row of a row block key. -/
def rbRow (rb : Nat) : Nat := rb / 16384
/-- The row block number n of a key. -/
def rbN (rb : Nat) : Nat := rb % 16384
/-- The grove of a row block. -/
def rbGrove (rb : Nat) : Grove := ⟨rb / 16384 / 16 % 8, by omega⟩
/-- The die index of a row block. -/
def rbDie (rb : Nat) : Nat := rb / 16384 % 16
/-- The device channel of channel c of a row block's grove. -/
def rbDch (rb c : Nat) : Nat := (rbGrove rb).val * 8 + c

/-! ## Members -/

/-- A die of a channel is in use: recorded at the first power-on, not failed, and, once the channel's dies have been identified, matching
the reference (07 R213, R214, R233). -/
def ChanS.inUse (c : ChanS) (d : Nat) : Bool :=
  c.usedDies.getLsbD d && !c.failed.getLsbD d && (!c.identified || c.serving.getLsbD d)

/-- The member on channel c is present: its ABSENT bit is clear, its channel's record is in service (R236), and its
die was recorded and has not failed (R214, R233). -/
def State.memberPresent (s : State) (rb c : Nat) : Bool :=
  let ch := vget s.flash.chans (rbDch rb c) ChanS.atReset
  !(recAbsent (s.media.rbRec rb)).getLsbD c && !ch.recRetired && ch.inUse (rbDie rb)

/-- The present members of a row block, ascending. -/
def State.members (s : State) (rb : Nat) : List Nat := below 8 (s.memberPresent rb)

/-- A row block is out of service: STATE RETIRED or reserved, or fewer than 3 members present (R176, R191). -/
def State.rbGone (s : State) (rb : Nat) : Bool :=
  decide (rbRetired ≤ recState (s.media.rbRec rb)) || decide ((s.members rb).length < 3)

/-- The parity member of a row block in use (R178). -/
def MediaS.parityOf (m : MediaS) (rb : Nat) : Nat := ((sget m.info rb).map (fun i => i.parityCh)).getD 0

/-- The parity member chosen when a row block is opened (R178). -/
def parityMember (rb : Nat) (present : List Nat) : Nat :=
  (((List.range 8).map (fun i => (rbN rb + i) % 8)).find? (fun c => present.contains c)).getD (rbN rb % 8)

/-- Wordline positions of a block (R180). -/
def State.wordlines (s : State) : Nat := ((s.media.geom.map (fun g => g.pagesPerBlock)).getD 0) / 3

/-- Row blocks of a die row: n below the usable blocks and below 16,383 (R175). -/
def State.rbCount (s : State) : Nat := min 16383 ((s.media.geom.map (fun g => g.blocksPerPlane)).getD 0)

/-- The row blocks of a die row. -/
def State.rowBlocks (s : State) (r : Nat) : List Nat := (List.range s.rbCount).map (fun n => rbKey r n)

/-- Codewords of one member's wordline set: 48 in TLC, 16 in SLC (R180). -/
def memberCws (slc : Bool) : Nat := if slc then 16 else 48

/-! ## Domains (R183, R184) -/

/-- The stand that owns a die row, if it is not SHARED. -/
def State.rowOwner (s : State) (r : Nat) : Option StandNo :=
  (s.nvm.stands.find? (fun e => e.2.firebreak && e.2.rows.getLsbD r)).map
    (fun e => (⟨e.1 % 128, by omega⟩ : StandNo))

/-- The domain of a die row. -/
def State.domOf (s : State) (r : Nat) : DomId := { grove := ⟨r / 16 % 8, by omega⟩, owner := s.rowOwner r }

/-- A die row is populated: its die index was recorded on some channel of its grove, and served there (07 R216). -/
def State.rowPopulated (s : State) (r : Nat) : Bool :=
  (List.range 8).any (fun c =>
    let ch := vget s.flash.chans (r / 16 * 8 + c) ChanS.atReset
    ch.inUse (r % 16) || ch.failed.getLsbD (r % 16))

/-- The populated die rows of a domain. -/
def State.domRows (s : State) (d : DomId) : List Nat :=
  ((List.range 16).map (fun i => d.grove.val * 16 + i)).filter (fun r => s.rowOwner r == d.owner && s.rowPopulated r)

/-- The shared domains. -/
def sharedDoms : List DomId := (List.finRange 8).map (fun g => { grove := g, owner := none })

/-- The domains of a firebreak stand: the groves where it owns die rows. -/
def State.ownDoms (s : State) (st : StandNo) : List DomId :=
  ((List.finRange 8).map (fun g => ({ grove := g, owner := some st } : DomId))).filter
    (fun d => !(s.domRows d).isEmpty)

/-- The domains a stand may use. -/
def State.domsFor (s : State) (st : StandNo) : List DomId :=
  match s.nvm.stand st.val with
  | some x => if x.firebreak then s.ownDoms st else sharedDoms
  | none => []

/-- Every domain there is. -/
def State.allDoms (s : State) : List DomId :=
  sharedDoms ++ s.nvm.stands.flatMap (fun e => if e.2.firebreak then s.ownDoms ⟨e.1 % 128, by omega⟩ else [])

/-- A domain's own state before anything has been done with it. -/
def DomS.fresh (d : DomId) : DomS :=
  { dom := d, u0 := 0, region := [], victims := [], cruise := [], cruisePos := 0, cruiseStart := 0, cruiseLate := false, disturb := [] }

/-- A domain's own state. -/
def MediaS.domS (m : MediaS) (d : DomId) : DomS := (m.doms.find? (fun x => x.dom == d)).getD (DomS.fresh d)

/-- Change a domain's own state. -/
def MediaS.modDom (m : MediaS) (d : DomId) (f : DomS → DomS) : MediaS :=
  if m.doms.any (fun x => x.dom == d) then
    { m with doms := m.doms.map (fun x => if x.dom == d then f x else x) }
  else { m with doms := m.doms ++ [f (DomS.fresh d)] }

/-- The row blocks of a dump set. -/
def DumpSet.rbs (x : DumpSet) : List Nat :=
  if x.present then (List.range x.cnt).map (fun i => rbKey x.row (x.blk + i)) else []

/-- Every dump row block. -/
def PlpS.dumpRbs (p : PlpS) : List Nat := p.sets.toList.flatMap (fun g => g.a.rbs ++ g.b.rbs)

/-- Row blocks that hold no user data: map regions and dump sets. -/
def State.reserved (s : State) : List Nat := s.media.doms.flatMap (fun d => d.region) ++ s.plp.dumpRbs

/-- The user row blocks of a domain. -/
def State.domRbs (s : State) (d : DomId) : List Nat :=
  (s.domRows d).flatMap (fun r => (s.rowBlocks r).filter (fun rb => !(s.reserved.contains rb)))

/-- FREE and usable. -/
def State.rbIsFree (s : State) (rb : Nat) : Bool :=
  decide (recState (s.media.rbRec rb) = rbFree) && !s.rbGone rb

/-- F(d): FREE row blocks of a domain (R192). -/
def State.freeCount (s : State) (d : DomId) : Nat := ((s.domRbs d).filter s.rbIsFree).length
/-- T(d). -/
def State.freeTarget (s : State) (d : DomId) : Nat := s.par P.MED_FREE_TARGET * (s.domRows d).length

/-! ## Capacity (R204) -/

/-- U(d) in data members: seven to a full-width row block. -/
def State.uMembers (s : State) (d : DomId) : Nat :=
  (((s.domRbs d).filter (fun rb => !s.rbGone rb)).map (fun rb => (s.members rb).length - 1)).sum

/-- U(d) in full-width row blocks. -/
def State.uCap (s : State) (d : DomId) : Rat := (s.uMembers d : Rat) / 7
/-- U0(d). -/
def State.u0Cap (s : State) (d : DomId) : Rat := ((s.media.domS d).u0 : Rat) / 7
/-- O(d): open-block need. -/
def State.oCap (s : State) (d : DomId) : Rat := ((s.par P.MED_OPEN_PER_ROW * (s.domRows d).length : Nat) : Rat)

/-- 4 KiB blocks of user data in a full-width row block (R176). -/
def State.rbBlocks (s : State) : Nat := 7 * 48 * s.wordlines

/-- E(d): exportable capacity, in full-width row blocks. -/
def State.eCap (s : State) (d : DomId) : Rat :=
  let u0 := s.u0Cap d
  if u0 = 0 then 0
  else max 0 ((u0 - s.oCap d - u0 * (s.par P.MED_SPARE_REF_PM : Rat) / 1000) / (1 + (s.par P.MED_OP_PCT : Rat) / 100))

/-- A location that holds data: a PLOC that names one (R208). -/
def holdsData (p : Ploc) : Bool := p != plocUnmapped && p != plocPoisoned && plocValid p

/-- The newest cache slots of a namespace (R82, R282): LBA and poison mark, of visible groups, not SUPER. -/
def CacheS.newest (c : CacheS) (nsid : Nat) : List (Nat × Bool) :=
  c.groups.flatMap (fun e => if e.2.visible && e.2.nsid == nsid then
    (e.2.slots.filter (fun x => !x.super)).map (fun x => (x.lba, x.poison)) else [])

/-- A block's newest state holds data: in the write cache, or mapped to a PLOC (R208). -/
def State.blockHeld (s : State) (ns : NsS) (cached : List (Nat × Bool)) (lba : Nat) : Bool :=
  match cached.find? (fun x => x.1 == lba) with
  | some x => !x.2
  | none =>
    match dgnOf ns.segs (lba / 16) with
    | some d => holdsData (blockLoc s.map.trunk s.map.leaves d (lba % 16))
    | none => false

/-- The listed granules of a namespace: what its trunk lists, and what the cache holds. -/
def State.nsGranules (s : State) (nsid : Nat) (cached : List (Nat × Bool)) : List Nat :=
  let mapped := s.map.trunk.filterMap (fun e => match s.map.granuleOf e.1 with
    | some (n, g) => if n = nsid then some g else none
    | none => none)
  (cached.map (fun x => x.1 / 16)).foldl (fun l g => addOnce g l) mapped

/-- Blocks of a namespace in use (R208); blocks of granules not listed are UNMAPPED. -/
def State.nsUse (s : State) (nsid : Nat) (ns : NsS) : Nat :=
  let cached := s.cache.newest nsid
  ((s.nsGranules nsid cached).map (fun g =>
    (below 16 (fun k => s.blockHeld ns cached (16 * g + k))).length)).sum

/-- A stand's use in blocks (R208). -/
def State.standUse (s : State) (st : Nat) : Nat :=
  (s.nvm.nss.map (fun e => if e.2.stand.val = st then s.nsUse e.1 e.2 else 0)).sum

/-- Blocks in a GiB. -/
abbrev gibBlocks : Nat := 262144
/-- USEDMIB of a stand (Table 2-16): its use, rounded up to whole MiB. -/
def State.usedMib (s : State) (st : Nat) : Nat := (s.standUse st + 255) / 256

/-- max(RESVGIB, USEDMIB) of a stand, in blocks (Table 6-7). -/
def State.committed (s : State) (st : Nat) (x : StandS) : Nat := max (x.resvGib * gibBlocks) (s.usedMib st * 256)

/-- The SHARED stands. -/
def NvmS.sharedStands (n : NvmS) : List (Nat × StandS) := n.stands.filter (fun e => !e.2.firebreak)

/-- The commitment of a domain's stands, in blocks. -/
def State.committedIn (s : State) (d : DomId) : Nat :=
  match d.owner with
  | some st => match s.nvm.stand st.val with
    | some x => s.committed st.val x
    | none => 0
  | none => (s.nvm.sharedStands.map (fun e => s.committed e.1 e.2)).sum

/-- The domains among which that commitment is divided. -/
def State.peers (s : State) (d : DomId) : List DomId :=
  match d.owner with
  | some st => s.ownDoms st
  | none => sharedDoms

/-- X(d), in full-width row blocks. -/
def State.xCap (s : State) (d : DomId) : Rat :=
  let all : Rat := ((s.peers d).map (fun e => s.uCap e)).sum
  if all = 0 || s.rbBlocks = 0 then 0 else (s.committedIn d : Rat) / (s.rbBlocks : Rat) * s.uCap d / all

/-- S(d): the spare pool. -/
def State.spare (s : State) (d : DomId) : Rat :=
  s.uCap d - s.oCap d - s.xCap d * (1 + (s.par P.MED_OP_PCT : Rat) / 100)

/-- A(d): available spare in percent; none where U0(d) is 0. -/
def State.avail (s : State) (d : DomId) : Option Nat :=
  let u0 := s.u0Cap d
  if u0 = 0 then none
  else some (min 100 (max 0 (100 * s.spare d / (u0 * (s.par P.MED_SPARE_REF_PM : Rat) / 1000)).floor).toNat)

/-- Σ E over some domains, in blocks (rounded down). -/
def State.exportBlocks (s : State) (ds : List DomId) : Nat :=
  (((ds.map (fun d => s.eCap d)).sum) * (s.rbBlocks : Rat)).floor.toNat

/-- The limit of a stand, in blocks (R208). -/
def State.standLimit (s : State) (x : StandS) : Nat :=
  if x.firebreak then x.resvGib * gibBlocks
  else
    x.resvGib * gibBlocks + (s.exportBlocks sharedDoms -
      (s.nvm.sharedStands.map (fun e => max (e.2.resvGib * gibBlocks) (s.standUse e.1 + e.2.inflight))).sum)

/-- A domain's spare has fallen below MED_SPARE_CRITICAL (R206). -/
def State.spareCritical (s : State) (d : DomId) : Bool :=
  match s.avail d with
  | some a => decide (a < s.par P.MED_SPARE_CRITICAL)
  | none => false

/-- Enter READ_ONLY for a shared domain (R206). -/
def State.checkShared (s : State) (d : DomId) : State :=
  if s.spareCritical d && !s.media.readOnly then
    ({ s with media := { s.media with readOnly := true } }).recordHw (srcFtl d.grove) sevCritical 0x0B03 d.grove.val
      ((s.avail d).getD 0)
  else s

/-- Write-protect the stand of a firebreak domain (R206). -/
def State.checkFirebreak (s : State) (d : DomId) (st : StandNo) : State :=
  match s.nvm.stand st.val with
  | some x =>
    if s.spareCritical d && !x.prot then
      ({ s with nvm := s.nvm.modStand st.val (fun y => { y with prot := true }) }).recordHw (srcFtl d.grove) sevError
        0x0B04 st.val d.grove.val ((s.avail d).getD 0)
    else s
  | none => s

/-- Compute the figures of every domain again and act on R206. -/
def State.recheckSpare (s : State) : State :=
  s.allDoms.foldl (fun a d => match d.owner with
    | none => a.checkShared d
    | some st => a.checkFirebreak d st) s

/-- Note U(d) as U0(d) for domains whose die rows have changed (R204). -/
def State.setU0 (s : State) (ds : List DomId) : State :=
  ds.foldl (fun a d => { a with media := a.media.modDom d (fun x => { x with u0 := a.uMembers d }) }) s

/-! ## Map regions (R184) -/

/-- The size of a domain's map region. -/
def State.regionSize (s : State) (d : DomId) : Nat :=
  max 2 (s.par P.MED_MAP_REGION_PM * ((s.domRows d).length * s.rbCount) / 1000)

/-- The die row of a domain with the most present members, ties to the lower r. -/
def State.widestRow (s : State) (d : DomId) (ok : Nat → Bool) : Option Nat :=
  ((s.domRows d).filter (fun r => (s.rowBlocks r).any ok)).foldl (fun (a : Option Nat) r =>
    let w := fun r => ((List.range 8).filter (fun c =>
      let ch := vget s.flash.chans (r / 16 * 8 + c) ChanS.atReset
      !ch.recRetired && ch.inUse (r % 16))).length
    match a with
    | none => some r
    | some b => if w b < w r then some r else some b) none

/-- Take one more row block for a domain's region. -/
def State.takeRegion (s : State) (d : DomId) : State :=
  let ok := fun rb => s.rbIsFree rb && !(s.reserved.contains rb)
  match s.widestRow d ok with
  | none => s
  | some r =>
    match ((s.rowBlocks r).filter ok).getLast? with
    | none => s
    | some rb => { s with media := (s.media.setSlc rb true).modDom d (fun x => { x with region := x.region ++ [rb] }) }

/-- Bring a domain's map region to its size: row blocks that have retired are given up and replaced. -/
def State.fillRegion (s : State) (d : DomId) : State :=
  let s1 := { s with media := s.media.modDom d (fun x => { x with region := x.region.filter (fun rb => !s.rbGone rb) }) }
  (List.range (s1.regionSize d - (s1.media.domS d).region.length)).foldl (fun a _ => a.takeRegion d) s1

/-- Regions that hold some of these row blocks, which are out of service, take others in their place (R184). -/
def State.refillRegions (s : State) (gone : List Nat) : State :=
  ((s.media.doms.filter (fun x => x.region.any (fun rb => gone.contains rb))).map (fun x => x.dom)).foldl (fun a d => a.fillRegion d) s

/-- FREE row blocks that are left with fewer than 3 members become RETIRED (R176; 07 R216). -/
def State.retireFew (s : State) (rbs : List Nat) : State :=
  let gone := rbs.filter (fun rb => decide (recState (s.media.rbRec rb) = rbFree) && decide ((s.members rb).length < 3))
  ({ s with media := gone.foldl (fun m rb => m.setState rb rbRetired) s.media }).refillRegions gone

/-! ## Write points (R185, R198) -/

/-- A write point of a stand, class and domain. -/
def MediaS.point (m : MediaS) (st : StandNo) (k : WpClass) (d : DomId) : WritePoint :=
  (m.points.find? (fun p => p.stand == st && p.cls == k && p.dom == d)).getD
    { stand := st, cls := k, dom := d, rb := none, set := none, lastUse := 0, waiting := false }

/-- Replace a write point. -/
def MediaS.setPoint (m : MediaS) (p : WritePoint) : MediaS :=
  { m with points := m.points.filter (fun q => !(q.stand == p.stand && q.cls == p.cls && q.dom == p.dom)) ++ [p] }

/-- OPEN row blocks of a die row. -/
def MediaS.openIn (m : MediaS) (r : Nat) : Nat :=
  (m.recs.filter (fun e => rbRow e.1 == r && recState e.2 == rbOpen)).length

/-- Erase count of a row block. -/
def MediaS.eraseCount (m : MediaS) (rb : Nat) : Nat := ((sget m.erases rb).getD 0).toNat

/-- The entry that comes first: the first of those with the least measure. -/
def leastBy (f : Nat → Nat) : List Nat → Option Nat
  | [] => none
  | x :: t => match leastBy f t with
    | none => some x
    | some y => if f y < f x then some y else some x

/-- FREE row blocks a class may open in a die row. -/
def State.openable (s : State) (d : DomId) (k : WpClass) (r : Nat) : List Nat :=
  if k.ofMap then (s.media.domS d).region.filter (fun rb => rbRow rb == r && s.rbIsFree rb)
  else (s.rowBlocks r).filter (fun rb => s.rbIsFree rb && !(s.reserved.contains rb))

/-- The rebuild bitmap of a grove must be complete before a row block is opened (R238). -/
def State.mayOpen (s : State) (g : Grove) : Bool :=
  let r := s.flash.groves[g.val]
  !(r.rebuild && !r.bmvalid)

/-- Most entries the condemned table holds (R265). -/
abbrev condemnedMax : Nat := 4096

/-- HOT placement waits in every grove while the condemned table is full (R265). -/
def State.hotWaits (s : State) : Bool := decide (condemnedMax ≤ s.flash.condemned.length)

/-- The row block a write point takes: the die row below the limit with the most FREE row blocks, ties to the
lower r; in it the lowest erase count for HOT, the highest for COLD, ties to the lower n (R185, R198). Which FREE row block of the region a MAP
write point opens is not stated: the first in the region's list (the model's choice, log entry 127). -/
def State.chooseOpen (s : State) (d : DomId) (k : WpClass) : Option Nat :=
  if !s.mayOpen d.grove || (k == .hot && s.hotWaits) then none
  else
    let rows := (s.domRows d).filter (fun r =>
      decide (s.media.openIn r < s.par P.MED_OPEN_PER_ROW) && !(s.openable d k r).isEmpty)
    match leastBy (fun r => 1000000 - (s.openable d k r).length) rows with
    | none => none
    | some r =>
      let c := s.openable d k r
      match k with
      | .hot => leastBy (fun rb => s.media.eraseCount rb) c
      | .cold => leastBy (fun rb => 65536 - s.media.eraseCount rb) c
      | _ => c.head?

/-- Open a row block for a write point: its record, its LDPC rate bit and its DRAM entry (R190, R269). -/
def State.openRb (s : State) (st : StandNo) (k : WpClass) (rb : Nat) : State :=
  let ms := s.members rb
  let hi := decide (s.parI P.DIE_LDPC_RATE (rbRow rb) = 1)
  { s with
    media := { (s.media.setState rb rbOpen) with
      info := sput rb { stand := st, cls := k, closedS := 0, parityCh := parityMember rb ms, rate875 := hi,
                        nextWl := 0, width := ms.length - 1, relocate := false } s.media.info }
    flash := { s.flash with
      rateBits := if hi then addOnce rb s.flash.rateBits else s.flash.rateBits.filter (· != rb) } }

/-- Seconds since power-on. -/
def State.seconds (s : State) : Nat := s.now / 1000000000

/-- Close a row block: no further wordline is programmed (R182, R185, R190). -/
def State.closeRb (s : State) (rb : Nat) : State :=
  if recState (s.media.rbRec rb) = rbOpen then
    { s with media := { (s.media.setState rb rbClosed) with
        info := smod rb (fun x => { x with closedS := s.seconds }) s.media.info
        points := s.media.points.map (fun p => if p.rb = some rb then { p with rb := none, waiting := false } else
          if p.waiting && rbGrove rb == p.dom.grove then { p with waiting := false } else p) } }
  else s

/-! ## Programmed pages -/

/-- The member's wordline set of a position has been programmed: it has been passed, and no set in progress or failure left it without a good
program (R201). -/
def MediaS.wlDone (m : MediaS) (rb wl c : Nat) : Bool :=
  match sget m.info rb with
  | some i => decide (wl < i.nextWl) && !i.holes.contains (wl, c) &&
      !(m.sets.any (fun e => e.2.rb == rb && e.2.wl == wl && !e.2.verified.contains c))
  | none => false

/-- Wordline positions that have been passed in a row block. -/
def MediaS.programmed (m : MediaS) (rb : Nat) : Nat := ((sget m.info rb).map (fun i => i.nextWl)).getD 0

/-! ## Valid codewords (R193) -/

/-- Every mapped block: device granule, block, location. -/
def MapS.mapped (m : MapS) : List (Nat × Nat × Ploc) :=
  m.trunk.flatMap (fun e =>
    ((granLocs m.trunk m.leaves e.1).mapIdx (fun k p => (e.1, k, p))).filter (fun x => holdsData x.2.2))

/-- The valid codewords of a user row block: the blocks that the map places in it. -/
def State.validIn (s : State) (rb : Nat) : List (Nat × Nat × Ploc) :=
  s.map.mapped.filter (fun x => plocRb x.2.2 == rb)

/-- The units, by grove and key, whose newest copy lies at certain places: leaf pages by their FLOC, slabs by the root table and
LOC_SET records, the tables that the newer pointers name (R193, R197), and the live map log, which the next generation makes obsolete
(05 R161; DEDUCED, log entry 23). -/
def State.unitsWhere (s : State) (hit : Ploc → Bool) : List (Nat × Nat) :=
  (s.map.pages.filter (fun e => holdsData e.2.floc && hit e.2.floc)).map (fun e => (e.1 % 8, unitKey 2 e.1)) ++
    s.map.groves.toList.zipIdx.flatMap (fun (m, g) =>
      (m.image.locs.filter (fun e => hit e.2)).map (fun e => (g, e.1)) ++
        (if m.rootNew.len != 0 && hit m.rootNew.loc then [(g, unitKey 3 0)] else []) ++
        (if m.logAt.any (fun e => hit e.2) then [(g, unitKey 4 0)] else []) ++
        (if m.wearNew.len != 0 && hit m.wearNew.loc then [(g, unitKey 5 0)] else []))

/-- The units in a map-region row block. -/
def State.unitsIn (s : State) (rb : Nat) : List (Nat × Nat) := s.unitsWhere (fun p => plocRb p == rb)

/-- A unit stands in a set that is not yet committed. -/
def State.unitPlaced (s : State) (g u : Nat) : Bool :=
  s.media.sets.any (fun e => e.2.items.any (fun i => match i.src with
    | .unit k id => unitKey k id == u && (k == 2 || i.nsid == g)
    | _ => false))

/-- A grove writes its counts as a wear table: the counts as they are now, in the codewords that its map region takes (R197). -/
def State.beginWear (s : State) (g : Grove) : State :=
  let m := s.map.grove g
  if !m.wearLeft.isEmpty || (List.range 128).any (fun i => s.unitPlaced g.val (unitKey 5 i)) then s
  else
    { s with
      map := s.map.modGrove g (fun x => { x with wearLeft := List.range 128, wearLoc := none,
                                                 wearSnap := s.media.erases.filter (fun e => rbGrove e.1 == g) })
      media := { s.media with erasedSince := vmod s.media.erasedSince g.val (fun _ => 0) } }

/-- Units are written again elsewhere, those of groves whose map stands. A root table is written with every generation, which also makes the log before
it obsolete. -/
def State.rewriteThese (s : State) (all : List (Nat × Nat)) : State :=
  let us := all.filter (fun x => !(s.unitPlaced x.1 x.2) && s.dev.mapDone.getLsbD x.1)
  let gs := (List.finRange 8).filter (fun g => us.any (fun x => x.1 == g.val))
  let s1 := { s with map := gs.foldl (fun (m : MapS) g =>
      m.rewrite g ((us.filter (fun x => x.1 == g.val && decide (x.2 % 8 < 3))).map Prod.snd)) s.map }
  (gs.filter (fun g => us.contains (g.val, unitKey 5 0))).foldl (fun a g => a.beginWear g) s1

/-- The units of a row block are written again elsewhere (R194; Table 6-6). -/
def State.rewriteUnits (s : State) (rb : Nat) : State := s.rewriteThese (s.unitsIn rb)

/-- Valid codewords, of user data or of the map region. -/
def State.validCount (s : State) (rb : Nat) : Nat :=
  match sget s.media.info rb with
  | some i => if i.cls.ofMap then (s.unitsIn rb).length else (s.validIn rb).length
  | none => (s.validIn rb).length

/-- Data capacity of a row block in codewords, with the members present when it was closed (R193). -/
def State.dataCws (s : State) (rb : Nat) : Nat :=
  match sget s.media.info rb with
  | some i => i.width * memberCws i.cls.ofMap * s.wordlines
  | none => ((s.members rb).length - 1) * 48 * s.wordlines

/-! ## Thinning mode and victim (Table 6-5, R193) -/

/-- A thinning mode. -/
inductive ThinMode where
  | idle | background | paced | urgent
  deriving DecidableEq, Repr

/-- The mode of a domain. -/
def State.thinMode (s : State) (d : DomId) : ThinMode :=
  let f := s.freeCount d
  let t := s.freeTarget d
  if 2 * t ≤ f then .idle else if t ≤ f then .background else if t ≤ 2 * f then .paced else .urgent

/-- The rung of 10 Table 10-8 on which thinning in a mode runs. -/
def ThinMode.rung : ThinMode → Nat
  | .idle => 6
  | .background => 6
  | .paced => 5
  | .urgent => 3

/-- The debt of a stand in a domain (R195); 0 in the modes that are not paced. -/
def State.debt (s : State) (st : StandNo) (d : DomId) : Rat :=
  match s.thinMode d with
  | .idle => 0
  | .background => 0
  | _ => ((s.media.debts.find? (fun x => x.stand == st && x.dom == d)).map (fun x => x.sets)).getD 0

/-- A domain's thinning is paced: the FTL keeps debts (R195). -/
def State.paced (s : State) (d : DomId) : Bool := s.thinMode d == .paced || s.thinMode d == .urgent

/-- Change a stand's debt; it never falls below 0, and it is kept only while the domain is paced (R195). -/
def State.addDebt (s : State) (st : StandNo) (d : DomId) (v : Rat) : State :=
  if !s.paced d then s
  else
    let old := s.debt st d
    { s with media := { s.media with
        debts := s.media.debts.filter (fun x => !(x.stand == st && x.dom == d)) ++
          [{ stand := st, dom := d, sets := max 0 (old + v) }] } }

/-- In the modes that are not paced every debt is set to 0 (R195). -/
def State.clearDebts (s : State) : State :=
  { s with media := { s.media with debts := s.media.debts.filter (fun x => s.paced x.dom) } }

/-- Thinning holds a stand's HOT placement in a domain (R195). -/
def State.heldByDebt (s : State) (st : StandNo) (d : DomId) : Bool :=
  match s.thinMode d with
  | .paced => decide ((s.par P.MED_THIN_DEBT_SETS : Rat) < s.debt st d)
  | .urgent => decide (0 < s.debt st d)
  | _ => false

/-- The score of a candidate victim. -/
def State.victimScore (s : State) (rb : Nat) : Rat :=
  let u : Rat := (s.validCount rb : Rat) / (s.dataCws rb : Rat)
  let at0 := ((sget s.media.info rb).map (fun i => i.closedS)).getD 0
  let age := min (s.seconds - at0) (s.par P.MED_THIN_AGE_CAP_S) + 1
  (1 - u) * (age : Rat) / (1 + u)

/-- One pass of choose_victim over candidates in ascending (r, n). -/
def State.victimPass (s : State) : List Nat → Option (Nat × Rat) → Option Nat
  | [], best => best.map Prod.fst
  | rb :: t, best =>
    if s.validCount rb = 0 then some rb
    else if s.dataCws rb ≤ s.validCount rb then s.victimPass t best
    else
      let sc := s.victimScore rb
      match best with
      | none => s.victimPass t (some (rb, sc))
      | some (_, b) => if b < sc then s.victimPass t (some (rb, sc)) else s.victimPass t best

/-- A windrow set of the row block is still to be programmed or committed: what the block will hold is not known yet, so that it is
no victim (DEDUCED from R29, R181 and Table 6-4; log entry 23). -/
def State.unsettled (s : State) (rb : Nat) : Bool := s.media.sets.any (fun e => e.2.rb == rb)

/-- CLOSED HOT or COLD row blocks of a domain in ascending (r, n). -/
def State.closedRbs (s : State) (d : DomId) : List Nat :=
  (s.domRbs d).filter (fun rb => decide (recState (s.media.rbRec rb) = rbClosed) && !s.unsettled rb &&
    ((sget s.media.info rb).map (fun i => !i.cls.ofMap)).getD true)

/-- Both passes of choose_victim over candidates in ascending (r, n): the stand's own row blocks first, then any. -/
def State.victimOf (s : State) (st : StandNo) (c : List Nat) : Option Nat :=
  match s.victimPass (c.filter (fun rb => ((sget s.media.info rb).map (fun i => i.stand)) == some st)) none with
  | some rb => some rb
  | none => s.victimPass c none

/-- choose_victim (R193). -/
def State.chooseVictim (s : State) (st : StandNo) (d : DomId) : Option Nat := s.victimOf st (s.closedRbs d)

/-- A row block holds map data. -/
def MediaS.isMap (m : MediaS) (rb : Nat) : Bool := ((sget m.info rb).map (fun i => i.cls.ofMap)).getD false

/-- Put a row block in its place among others in ascending (r, n). -/
def rbInsert (x : Nat) : List Nat → List Nat
  | [] => [x]
  | y :: t => if x ≤ y then x :: y :: t else y :: rbInsert x t

/-- Row blocks in ascending (r, n). -/
def rbSort (l : List Nat) : List Nat := l.foldr rbInsert []

/-- choose_victim within a domain's map region, whose target is 2 FREE row blocks, while none of its row blocks is in hand (R193). -/
def State.chooseRegionVictim (s : State) (st : StandNo) (d : DomId) : Option Nat :=
  let reg := (s.media.domS d).region
  if 2 ≤ (reg.filter s.rbIsFree).length || (s.media.domS d).victims.any (fun v => s.media.isMap v.rb) then none
  else s.victimOf st (rbSort (reg.filter (fun rb => decide (recState (s.media.rbRec rb) = rbClosed) && !s.unsettled rb)))

/-- Static wear relocation (R199): the CLOSED row block with the lowest erase count, ties to the oldest closed. -/
def State.staticVictim (s : State) (d : DomId) : Option Nat :=
  let live := (s.domRbs d).filter (fun rb => !s.rbGone rb)
  let hi := (live.map (fun rb => s.media.eraseCount rb)).foldl max 0
  let lo := (live.map (fun rb => s.media.eraseCount rb)).foldl min 65535
  if live.isEmpty || hi - lo ≤ s.par P.MED_WEAR_SPREAD || s.freeCount d < s.freeTarget d ||
      (s.media.domS d).victims.any (fun v => v.why == .static) then none
  else leastBy (fun rb => s.media.eraseCount rb * 4294967296 +
    ((sget s.media.info rb).map (fun i => i.closedS)).getD 0) (s.closedRbs d)

/-- A row block reaches ERASE_PENDING: STATE and EIF in one write, and its rebuild bit is cleared (R194; 07 R239). -/
def State.erasePending (s : State) (rb : Nat) : State :=
  let g := (rbGrove rb).val
  let bit := rbDie rb * 16384 + rbN rb
  { s with
    media := s.media.setState rb rbErasePending
    flash := { s.flash with groves := vmod s.flash.groves g (fun r =>
      if r.bitmap.contains bit then
        { r with bitmap := r.bitmap.filter (· != bit), rebuild := !(r.bitmap.filter (· != bit)).isEmpty }
      else r) } }

/-- A granule folds with a victim (05 R152): it is FINE, at least MAP_FOLD_MIN_IN_VICTIM of its entries lie in the victim, and none is UNMAPPED or
POISONED. -/
def State.foldsWith (s : State) (rb dgn : Nat) : Bool :=
  let ls := granLocs s.map.trunk s.map.leaves dgn
  ((sget s.map.trunk dgn).map (fun e => trunkKind e == kFine)).getD false && ls.all holdsData &&
    decide (s.par P.MAP_FOLD_MIN_IN_VICTIM ≤ (ls.filter (fun p => plocRb p == rb)).length)

/-- The granules that fold with a victim. -/
def State.foldsOf (s : State) (rb : Nat) : List Nat := (s.map.trunk.map Prod.fst).filter (s.foldsWith rb)

/-- The blocks outside a victim that thinning reads as well because their granule folds (05 R152). -/
def State.foldExtras (s : State) (rb : Nat) : List Ploc :=
  (s.foldsOf rb).flatMap (fun d => (granLocs s.map.trunk s.map.leaves d).filter (fun p => plocRb p != rb))

/-- Begin work on a victim: THINNING, or straight to ERASE_PENDING where nothing is valid (R190, R194). -/
def State.takeVictim (s : State) (d : DomId) (charge : StandNo) (why : CopyWhy) (rb : Nat) : State :=
  let v := s.validCount rb
  if v = 0 then s.erasePending rb
  else
    let st := ((sget s.media.info rb).map (fun i => i.stand)).getD charge
    let isMap := s.media.isMap rb
    let cws := if isMap then [] else (s.validIn rb).map (fun x => x.2.2) ++ s.foldExtras rb
    { s with media := (s.media.setState rb rbThinning).modDom d (fun x =>
        { x with victims := x.victims ++ [{ rb := rb, stand := st, charge := charge, valid := v, total := s.dataCws rb,
                                             toRead := cws, copying := [], incomplete := false, why := why,
                                             chosen := why == .thin && !isMap, folds := if isMap then [] else s.foldsOf rb }] }) }

/-- Ask that a row block be relocated on the first rung; requests for one row block are merged, and a victim already in
hand goes on at that rung (R203). -/
def State.wantRelocation (s : State) (rb : Nat) : State :=
  let faster := fun (v : Victim) => if v.rb = rb && v.why != .rebuild then { v with why := .relocate } else v
  { s with media := { s.media with
      info := smod rb (fun x => { x with relocate := true }) s.media.info
      doms := s.media.doms.map (fun d => { d with victims := d.victims.map faster }) } }

end Sys2Proof.Machine
end

