-- ==== Sys2Proof/Machine/FlashOps.lean ====
section
/-! DEFINITION. Die operations (08 R249 to R252): how they are made for reads, programs and erases, the queue each
enters, and the channels and dies they use. -/

namespace Sys2Proof.Machine

/-! ## Channels and dies -/

/-- A channel. -/
def FlashS.chan (f : FlashS) (c : Nat) : ChanS := vget f.chans c ChanS.atReset
/-- Change a channel. -/
def FlashS.modChan (f : FlashS) (c : Nat) (g : ChanS → ChanS) : FlashS := { f with chans := vmod f.chans c g }
/-- A grove record. -/
def FlashS.grove (f : FlashS) (g : Nat) : GroveRec := vget f.groves g GroveRec.blank
/-- Change a grove record. -/
def FlashS.modGrove (f : FlashS) (g : Nat) (h : GroveRec → GroveRec) : FlashS := { f with groves := vmod f.groves g h }

/-- Settings of a die that has not been trained. -/
def Delays.none : Delays := { read := Vector.replicate 8 0, write := Vector.replicate 8 0, dqs := 0, re := 0 }

/-- A die that has not been identified. -/
def DieS.blank : DieS :=
  { used := false, spareBytes := 0, nestedOk := false, q1 := [], q2 := [], q3 := [], q4 := [], q5 := [], held := [],
    running := none, nestedRun := none, planeOps := [], cmds := Vector.replicate 4 0, reissue := [], retraining := false, check := false, recent := [], driftTries := 0,
    slices := 0, step2 := 0, step3 := 0, step4 := 0, step5 := 0, step6 := 0, elimit := 0, plimit := 0 }

/-- A die. -/
def FlashS.die (f : FlashS) (k : Nat) : DieS := (sget f.dies k).getD DieS.blank
/-- Change a die. -/
def FlashS.modDie (f : FlashS) (k : Nat) (g : DieS → DieS) : FlashS := { f with dies := sput k (g (f.die k)) f.dies }
/-- A die operation. -/
def FlashS.op (f : FlashS) (i : Nat) : Option DieOp := sget f.ops i
/-- Change a die operation. -/
def FlashS.modOp (f : FlashS) (i : Nat) (g : DieOp → DieOp) : FlashS := { f with ops := smod i g f.ops }
/-- The die key of an operation. -/
def DieOp.key (o : DieOp) : Nat := dieKey o.ch.val o.die.val
/-- The operation reads. -/
def DieOp.isRead (o : DieOp) : Bool := o.kind == .readSingle || o.kind == .readMulti
/-- The operation programs. -/
def DieOp.isProgram (o : DieOp) : Bool := o.kind == .progTlc || o.kind == .progSlc
/-- The die row of an operation. -/
def DieOp.row (o : DieOp) : Nat := o.ch.val / 8 * 16 + o.die.val
/-- The row block that an operation reaches. -/
def DieOp.rb (o : DieOp) : Nat := rbKey o.row o.block
/-- The location of a codeword position (plane * 4 + slot) of a read. -/
def DieOp.locOf (o : DieOp) (pos : Nat) : Ploc := mkPloc o.ch.val o.die.val (pos / 4) o.block o.page (pos % 4)

/-- A device channel number from a natural. -/
def chanOf (n : Nat) : Chan := ⟨n % 64, by omega⟩
/-- A die index from a natural. -/
def dieOf (n : Nat) : DieIx := ⟨n % 16, by omega⟩

/-! ## Chip enables (07 R215) -/

/-- CE_N[3:0] with the target of die index d selected: four dies to a line. -/
def ceLines (d : Nat) : BitVec 4 := ~~~ (BitVec.ofNat 4 (2 ^ (d / 4)))

/-- Drive a channel's chip enables for a die, and name its LUN in the row address. -/
def FlashS.select (f : FlashS) (ch d : Nat) : FlashS := f.modChan ch (fun c => { c with ceN := ceLines d, lun := d % 4 })

/-! ## Queues (R251) -/

/-- Queue q of a die. -/
def DieS.queue (d : DieS) (q : Nat) : List Nat :=
  if q = 1 then d.q1 else if q = 2 then d.q2 else if q = 3 then d.q3 else if q = 4 then d.q4 else d.q5

/-- Replace queue q. -/
def DieS.setQueue (d : DieS) (q : Nat) (l : List Nat) : DieS :=
  if q = 1 then { d with q1 := l } else if q = 2 then { d with q2 := l } else if q = 3 then { d with q3 := l }
  else if q = 4 then { d with q4 := l } else { d with q5 := l }

/-- Operations in a die's queues. -/
def DieS.queued (d : DieS) : Nat := d.q1.length + d.q2.length + d.q3.length + d.q4.length + d.q5.length

/-- Operations that a die's queues hold at most. -/
abbrev dieQueueMax : Nat := 64

/-- A die's queues have room for another operation. -/
def DieS.hasRoom (d : DieS) : Bool := decide (d.queued < dieQueueMax)

/-- The held operation that a die admits next: a read bound for queue 1 ahead of the others, then in arrival order. -/
def FlashS.nextHeld (f : FlashS) (k : Nat) : Option Nat :=
  let d := f.die k
  match d.held.find? (fun i => ((f.op i).map (fun (o : DieOp) => o.queue == 1 && o.isRead)).getD false) with
  | some i => some i
  | none => d.held.head?

/-- One held operation enters its queue where there is room. -/
def FlashS.admitHeld (f : FlashS) (k : Nat) : FlashS :=
  match if (f.die k).hasRoom then f.nextHeld k else none with
  | none => f
  | some i =>
    let q := ((f.op i).map (fun o => o.queue)).getD 5
    (f.modDie k (fun d => ({ d with held := d.held.filter (· != i) }).setQueue q (d.queue q ++ [i]))).modOp i (fun x => { x with stage := .queued })

/-- Held operations enter while there is room. -/
def admitAll (k : Nat) : Nat → FlashS → FlashS
  | 0, f => f
  | n + 1, f => admitAll k n (f.admitHeld k)

/-- Room has come free on a die. -/
def FlashS.roomOn (f : FlashS) (k : Nat) : FlashS := admitAll k (f.die k).held.length f

/-- An operation arrives: behind those that its die's issuers hold already, and from there into its queue while there is room. -/
def FlashS.enqueue (f : FlashS) (i : Nat) : FlashS :=
  match f.op i with
  | none => f
  | some o =>
    ((f.modDie o.key (fun d => { d with held := d.held ++ [i] })).modOp i (fun x => { x with stage := .held })).roomOn o.key

/-- An operation that the die has had already takes its place ahead of the others of its queue, or of those held where the queues are full. -/
def FlashS.requeue (f : FlashS) (i : Nat) : FlashS :=
  match f.op i with
  | none => f
  | some o =>
    if (f.die o.key).hasRoom then
      (f.modDie o.key (fun d => d.setQueue o.queue (i :: d.queue o.queue))).modOp i (fun x => { x with stage := .queued })
    else (f.modDie o.key (fun d => { d with held := i :: d.held })).modOp i (fun x => { x with stage := .held })

/-- An operation leaves its die: its planes are free, and the levels that were set for its read are the defaults again (R272). -/
def DieS.leave (d : DieS) (i : Nat) : DieS :=
  { d with running := if d.running = some i then none else d.running
           nestedRun := if d.nestedRun = some i then none else d.nestedRun
           planeOps := d.planeOps.filter (fun e => e.2 != i)
           levels := if d.planeOps.any (fun e => e.2 == i) then [] else d.levels }

/-- An operation leaves the queues of its die, and those held for it. -/
def DieS.unqueue (d : DieS) (i : Nat) : DieS :=
  { d with q1 := d.q1.filter (· != i), q2 := d.q2.filter (· != i), q3 := d.q3.filter (· != i),
           q4 := d.q4.filter (· != i), q5 := d.q5.filter (· != i), held := d.held.filter (· != i) }

/-! ## Making operations -/

/-- A fresh operation. -/
def DieOp.fresh (ch die : Nat) (kind : OpKind) (block page : Nat) (left : List Nat) (queue : Nat) (why : OpFor) : DieOp :=
  { ch := chanOf ch, die := dieOf die, kind := kind, block := block, page := page,
    planes := (left.map (fun p => p / 4)).foldl (fun l x => addOnce x l) [],
    slots := left, queue := queue, why := why, stage := .issued, suspended := false, suspends := 0, limit := 0, since := 0, ran := 0, mark := Vector.replicate 4 0,
    nested := false, attempts := 0, step := 1, left := left, arrival := 0, faulted := false }

/-- The suspension limit in force for a kind (R255, Table 8-8). -/
def State.suspendLimit (s : State) (k : OpKind) : Nat :=
  match k with
  | .erase => s.par P.DIE_ERASE_SUSPEND_MAX
  | _ => s.par P.DIE_PROG_SUSPEND_MAX

/-- Make an operation; its number is its place in arrival order. -/
def State.addOp (s : State) (o : DieOp) : State :=
  let i := s.flash.nextOp
  { s with flash := { s.flash with
      ops := sput i { o with arrival := i, limit := s.suspendLimit o.kind } s.flash.ops, nextOp := i + 1 } }

/-- The die queue of a latency class (Table 8-2). -/
def classQueue (cls : Nat) : Nat := if cls = 0 then 1 else if cls = 1 then 2 else 3

/-- Put a codeword into the group of its page. -/
def pageInsert (base : Ploc) (x : Nat × Nat) : List (Ploc × List (Nat × Nat)) → List (Ploc × List (Nat × Nat))
  | [] => [(base, [x])]
  | (b, l) :: t => if b = base then (b, l ++ [x]) :: t else (b, l) :: pageInsert base x t

/-- Locations and what they serve, by page: each page of a die is one read of 1 to 16 codewords (R249). -/
def byPage (ps : List (Ploc × Nat)) : List (Ploc × List (Nat × Nat)) :=
  ps.foldl (fun a p => pageInsert (plocPageBase p.1) (plocPlane p.1 * 4 + plocSlot p.1, p.2) a) []

/-- A read of some positions of a page. -/
def readOp (base : Ploc) (pos : List Nat) (queue : Nat) (why : OpFor) : DieOp :=
  let planes := (pos.map (fun p => p / 4)).foldl (fun l x => addOnce x l) ([] : List Nat)
  DieOp.fresh (plocDch base) (plocDie base) (if planes.length ≤ 1 then .readSingle else .readMulti) (plocBlock base)
    (plocPage base) pos queue why

/-- Issue a read and ask for its cords from the channel's reservation (04 R110, Table 4-2). -/
def State.issueRead (s : State) (o : DieOp) (l0 : Bool) (port : Option Port) : State :=
  let i := s.flash.nextOp
  (s.addOp o).askCords { user := .op i, res := .chan o.ch, count := o.left.length, l0 := l0, port := port }

/-- A member whose block has been condemned (R264). -/
def FlashS.isCondemned (f : FlashS) (dch rb : Nat) : Bool :=
  f.condemned.contains (dch, rb) || f.condemnWait.contains (dch, rb)

/-- The bit of a member block in the block-retirement bitmap (R267). -/
def retBit (dch rb : Nat) : Nat := dch * 262144 + rbDie rb * 16384 + rbN rb

/-- A member that an erase may bring back: absent only through a retirement of its channel that has ended (R246). -/
def State.restorable (s : State) (rb c : Nat) : Bool :=
  let dch := rbDch rb c
  let ch := s.flash.chan dch
  (recAbsent (s.media.rbRec rb)).getLsbD c && !ch.recRetired && ch.state == .active && ch.inUse (rbDie rb) && !s.flash.retBits.contains (retBit dch rb) && !s.flash.marks.contains (retBit dch rb)

/-- The members whose sequencers erase a row block: the present ones that are not condemned (R262, R264), and those
that may come back (R246). -/
def State.eraseMembers (s : State) (rb : Nat) : List Nat :=
  below 8 (fun c => (s.memberPresent rb c && !s.flash.isCondemned (rbDch rb c) rb) || s.restorable rb c)

/-- Issue the erases of a row block, one on each member. -/
def State.issueErases (s : State) (rb : Nat) : State :=
  (s.eraseMembers rb).foldl (fun a c =>
    a.addOp (DieOp.fresh (rbDch rb c) (rbDie rb) .erase (rbN rb) 0 [0, 4, 8, 12] 4 (.eraseOf rb))) s

/-- An operation for an erase of this row block is still under way. -/
def FlashS.erasing (f : FlashS) (rb : Nat) : Bool := f.ops.any (fun e => e.2.why == .eraseOf rb)

/-- Reads that resolved to a row block and may still access it (01 R31): every read operation there, every reconstruction read that one of
them issues, and every command that looked a block up there and has not reached the die yet. -/
def State.readsOf (s : State) (rb : Nat) : Bool :=
  s.flash.ops.any (fun e => e.2.isRead && e.2.rb == rb) || s.host.tags.any (fun e => e.2.locs.any (fun x => plocRb x.2 == rb))

/-- Remove an operation from its die's queues, from its channel's waiting transfers and from the table. -/
def State.dropOp (s : State) (i : Nat) : State :=
  match s.flash.op i with
  | none => s
  | some o =>
    let f := s.flash.modDie o.key (fun d => { ((d.unqueue i).leave i) with reissue := d.reissue.filter (· != i) })
    let f := f.modChan o.ch.val (fun c => { c with bus := c.bus.filter (· != i) })
    let f := { f with ops := sdel i f.ops, softWait := f.softWait.filter (fun e => e.1 != i),
                      softBusy := f.softBusy.filter (fun e => e.1 != i) }
    ({ s with flash := f.roomOn o.key }).freeCords (.op i)

/-- A grove's cores do no map work: they are restarting (15 R437), or a debug session has halted them (14 Table 14-12). -/
def State.groveRestarting (s : State) (g : Grove) : Bool := (s.map.grove g).restarting || s.ftlHalted

/-- The grove whose cores take the result of an operation: the owner of a leaf page or of a map unit, for a reconstruction's read too; else the
grove of the dies (01 R22). -/
def FlashS.takerOf (f : FlashS) (o : DieOp) : Grove :=
  match o.why with
  | .leaf lpn => groveOf lpn
  | .unit g _ => g
  | .recon i _ =>
    match f.op i with
    | some x => (match x.why with
      | .leaf lpn => groveOf lpn
      | .unit g _ => g
      | _ => rbGrove o.rb)
    | none => rbGrove o.rb
  | _ => rbGrove o.rb

/-- The result of an operation waits: cores that it concerns do no map work (R260; 01 R22). -/
def State.opHeld (s : State) (o : DieOp) : Bool := s.groveRestarting (rbGrove o.rb) || s.groveRestarting (s.flash.takerOf o)

/-- A read of a leaf page from flash is under way. -/
def FlashS.readsLeaf (f : FlashS) (lpn : Nat) : Bool := f.ops.any (fun e => e.2.why == .leaf lpn)

/-- Read a leaf page from its FLOC, once its directory slab needs no repair; one that has no flash copy stands in the journal alone, and is there at once. -/
def State.readLeaf (s : State) (lpn : Nat) : State :=
  match sget s.map.pages lpn with
  | none => s
  | some g =>
    if s.flash.readsLeaf lpn || s.map.repairing.contains (lpn % 8, unitKey 1 (lpn / 8 / 512)) then s
    else if holdsData g.floc then
      s.issueRead (readOp (plocPageBase g.floc) [plocPlane g.floc * 4 + plocSlot g.floc] 2 (.leaf lpn)) false none
    else { s with map := { s.map with pages := smod lpn (fun x => { x with cached := true, missing := none }) s.map.pages } }

/-! ## Member losses (07 R237, R238, R245) -/

/-- Row blocks of the die row of a lost die, or of the grove of a lost channel. -/
def State.lossRbs (s : State) (ch : Nat) (die : Option Nat) : List Nat :=
  match die with
  | some d => s.rowBlocks (ch / 8 * 16 + d)
  | none => (List.range 16).flatMap (fun d => s.rowBlocks (ch / 8 * 16 + d))

/-- A grove's map does not stand yet, so that its rebuild set cannot be known: REBUILD 1 and BMVALID 0 call for it to be computed at start-up (R238). -/
def FlashS.deferRebuild (f : FlashS) (g : Nat) : FlashS := f.modGrove g (fun r => { r with rebuild := true, bmvalid := false })

/-- The ABSENT bits of a lost member, in every row-block record of its grove or die row that is not RETIRED, wherever they are still clear (step 6 of
Table 7-10; R245). -/
def State.markAbsent (s : State) (ch : Nat) (die : Option Nat) : State :=
  let rbs := (s.lossRbs ch die).filter (fun rb => recState (s.media.rbRec rb) != rbRetired && !(recAbsent (s.media.rbRec rb)).getLsbD (ch % 8))
  let m := rbs.foldl (fun (m : MediaS) rb => m.setAbsent rb (recAbsent (m.rbRec rb) ||| BitVec.ofNat 8 (2 ^ (ch % 8)))) s.media
  ({ s with media := m }).retireFew (s.lossRbs ch die)

/-! ## The end of a lease (05 R171) -/

/-- A port's lease is in use and no event is ending it. -/
def LeaseS.usable (l : LeaseS) : Bool := l.state == .active && l.ending.isNone

/-- A port's lease goes to ENDED: its last access is over. A page whose fetch was in flight is read from FLOC (R170); a write-back that was in
flight is abandoned. A Revoke that is in progress and still has its tag completes. A lease that is not ACTIVE or REVOKING stays as it is. -/
def State.endLease (s : State) (p : Port) (cause : Nat) : State :=
  let l := s.nvm.lease p
  if l.state == .active || l.state == .revoking then
    let l' := { l with state := .ended, endCause := cause, slots := [], writing := [], fetching := [], revokeTag := none, ending := none }
    let s1 := { s with nvm := s.nvm.setLease p l', map := s.map.unlease p }
    let s2 := l.fetching.foldl (fun a i => a.readLeaf i) s1
    match l.revokeTag with
    | some t => s2.complete t stOk
    | none => s2
  else s

/-- An end of a lease that no reset carries: no further access is issued, and the lease is ENDED once its last access has completed (02 R45). -/
def State.stopLease (s : State) (p : Port) (cause : Nat) : State :=
  let l := s.nvm.lease p
  if (l.state == .active || l.state == .revoking) && !(l.fetching.isEmpty && l.writing.isEmpty) then
    { s with nvm := s.nvm.setLease p { l with ending := some cause }, map := s.map.unlease p }
  else s.endLease p cause

/-- The last access of a lease that is to end has completed. -/
def State.leaseOver (s : State) (p : Port) : State :=
  let l := s.nvm.lease p
  match l.ending with
  | some c => if l.fetching.isEmpty && l.writing.isEmpty then s.endLease p c else s
  | none => s

end Sys2Proof.Machine
end

