-- ==== Sys2Proof/Machine/CacheOps.lean ====
section
/-! DEFINITION. The write cache (09 R281 to R284, R291; 03 R81 to R89): slots for a command's groups, the index update
and SUPER, the freeing of groups, and the completion of commands that wait for media. -/

namespace Sys2Proof.Machine

/-- Slabs of the write cache (R281). -/
def State.slabs (s : State) : Nat := s.par P.PLP_WRITE_CACHE_MIB * 2
/-- Slots of a slab. -/
abbrev slabSlots : Nat := 128

/-- The slots of a slab in use. -/
def CacheS.slotsUsed (c : CacheS) (slab : Nat) : List Nat :=
  c.groups.flatMap (fun e => if e.2.slab = slab then e.2.slots.map (fun x => x.slot) else [])

/-- The lowest slab with room for n more blocks: a group never spans slabs (R282). -/
def State.slabFor (s : State) (n : Nat) : Option Nat :=
  (List.range s.slabs).find? (fun i => decide ((s.cache.slotsUsed i).length + n ≤ slabSlots))

/-- The blocks of a command by aligned 512 KiB range (R282). -/
def groupRanges (blocks : List (Nat × Block)) : List (List (Nat × Block)) :=
  (blocks.foldl (fun (a : List (Nat × List (Nat × Block))) b =>
    match a.find? (fun e => e.1 == b.1 / 128) with
    | some _ => a.map (fun e => if e.1 = b.1 / 128 then (e.1, e.2 ++ [b]) else e)
    | none => a ++ [(b.1 / 128, [b])]) []).map Prod.snd

/-- A new cache group. -/
def mkGroup (nsid slab keyGen : Nat) (used : List Nat) (bs : List (Nat × Block)) (tag cntl : Option Nat)
    (cover : Option (Nat × Nat)) : CGroup :=
  let nums := pickFree (bs.length + used.length) bs.length 0 used
  { nsid := nsid, slab := slab,
    slots := (nums.zip bs).map (fun e => { slot := e.1, lba := e.2.1, data := e.2.2, keyGen := keyGen, super := false,
                                           poison := false, done := false, inSet := false }),
    count := bs.length, isSealed := false, visible := false, order := 0, tag := tag, acked := false, cntl := cntl,
    cover := cover }

/-- Give one group its slots and its GSEQ; none where no slab has room. -/
def State.addGroup (s : State) (nsid keyGen : Nat) (bs : List (Nat × Block)) (tag cntl : Option Nat)
    (cover : Option (Nat × Nat)) : Option (State × Dword) :=
  match s.slabFor bs.length with
  | none => none
  | some slab =>
    let q := s.cache.nextGseq
    let g := mkGroup nsid slab keyGen (s.cache.slotsUsed slab) bs tag cntl cover
    some ({ s with cache := { s.cache with groups := sput q.toNat g s.cache.groups, nextGseq := q + 1 } }, q)

/-- Give all groups of a command their slots, or none of them. -/
def State.addGroups (s : State) (nsid keyGen : Nat) (tag cntl : Option Nat) :
    List (List (Nat × Block)) → Option (State × List Dword)
  | [] => some (s, [])
  | b :: t =>
    match s.addGroup nsid keyGen b tag cntl none with
    | none => none
    | some (s1, q) =>
      match s1.addGroups nsid keyGen tag cntl t with
      | none => none
      | some (s2, qs) => some (s2, q :: qs)

/-- The block that the write cache holds newest for an LBA (01 R24). -/
def CacheS.find (c : CacheS) (nsid lba : Nat) : Option CSlot :=
  (c.groups.flatMap (fun e => if e.2.visible && e.2.nsid == nsid then e.2.slots else [])).find?
    (fun x => !x.super && x.lba == lba)

/-- Mark as SUPER what the index held for the LBAs of a group (R282). -/
def CacheS.supersede (c : CacheS) (nsid : Nat) (lbas : List Nat) : CacheS := c.removeBlocks nsid (fun l => lbas.contains l)

/-- Make some sealed groups visible in one update: older entries become SUPER, in the order of the update (R81, R282). `acked` says that the write
completes with this update. -/
def CacheS.publish (c : CacheS) (qs : List Dword) (acked : Bool) : CacheS :=
  qs.foldl (fun a q =>
    match sget a.groups q.toNat with
    | none => a
    | some g =>
      let a1 := a.supersede g.nsid (g.slots.map (fun x => x.lba))
      { a1 with groups := smod q.toNat (fun x => { x with visible := true, isSealed := true, order := a.nextOrder,
                                                          acked := acked }) a1.groups,
                nextOrder := a.nextOrder + 1 }) c

/-- The newest data of an LBA is on media, or nowhere in the cache. -/
def CacheS.settled (c : CacheS) (nsid lba : Nat) : Bool := ((c.find nsid lba).map (fun x => x.done)).getD true

/-- A slot needs no more: it has been placed and committed, or a newer block has taken its place and no set that is being programmed holds it
(01 R28; 09 R283). Where the write has not been acknowledged, and so completes only with its data on media, the newer block has to be on media
(01 R26 steps 7 to 9). A Flush that covers the slot waits for the newer block among its heirs (03 R88). -/
def CacheS.slotDone (c : CacheS) (g : CGroup) (x : CSlot) : Bool :=
  x.done || (x.super && !x.inSet && (g.acked || c.settled g.nsid x.lba))

/-- Every block of the group needs no more (R283). -/
def CacheS.finished (c : CacheS) (g : CGroup) : Bool := g.visible && g.slots.all (c.slotDone g)

/-- A command that waits for media: Flush (R88), or a write whose data has entered the index (Table 1-3 step 9). -/
def waitsMedia : NvmeCmd → Bool
  | .flush _ => true
  | .write _ => true
  | .orderedWrite _ => true
  | _ => false

/-- Complete the commands that waited for media and whose groups are all on media (R88, R89; 02 R53; Table 1-3). -/
def State.sweepOnce (s : State) : State :=
  let ready := s.host.tags.filter (fun e => e.2.phase == .running && waitsMedia e.2.cmd && e.2.groups.isEmpty &&
    e.2.heirs.isEmpty && e.2.covered.isEmpty)
  ready.foldl (fun a e => a.complete e.1 (e.2.failure.getD stOk)) s

/-- The same until nothing more is ready: a write that completes here may be the last that a Flush covered. -/
def State.sweepTags (s : State) : State := s.sweepOnce.sweepOnce

/-- A REPLAYED dump set whose groups have all been freed passes to ERASING: its row blocks are ERASE_PENDING, and their erases are issued (R291; 06
R190). -/
def State.eraseReplayed (s : State) : State :=
  (List.range 8).foldl (fun (a : State) g => [0, 1].foldl (fun (a : State) w =>
    let r0 := vget a.plp.sets g { a := DumpSet.absent, b := DumpSet.absent }
    let d := if w = 0 then r0.a else r0.b
    if d.present && d.state == .replayed && !(a.cache.groups.any (fun e => e.2.cover == some (g, w))) &&
        a.dev.replayDone then
      let d' := { d with state := .erasing, slabs := [], took := [] }
      let a1 := { a with
        plp := { a.plp with sets := vmod a.plp.sets g (fun r => if w = 0 then { r with a := d' } else { r with b := d' }) }
        media := d.rbs.foldl (fun (m : MediaS) rb => m.setState rb rbErasePending) a.media }
      d.rbs.foldl (fun x rb => x.issueErases rb) a1
    else a) a) s

/-- A Flush that covers one of some groups fails in the end (R89). -/
def flushFails (bad : List Nat) (t : TagE) : TagE :=
  match t.cmd with
  | .flush _ => if t.groups.any (fun q => bad.contains q.toNat) then { t with failure := some stInternal } else t
  | _ => t

/-- Free every finished group with all its slots; a Flush that covers acknowledged data which has become POISONED fails (R89), whenever it was
accepted; commands that waited for it complete (R283). -/
def State.freeGroups (s : State) : State :=
  let gone := (s.cache.groups.filter (fun e => s.cache.finished e.2)).map Prod.fst
  if gone.isEmpty then s
  else
    let bad := (s.cache.groups.filter (fun e => gone.contains e.1 && e.2.acked && e.2.slots.any (fun x => x.poison && !x.super))).map Prod.fst
    let s0 := { s with host := { s.host with tags := smap (fun _ t => flushFails bad t) s.host.tags } }
    let s1 := { s0 with
      cache := { s.cache with groups := s.cache.groups.filter (fun e => !(gone.contains e.1)) }
      host := { s0.host with tags := smap (fun _ t =>
        { t with groups := t.groups.filter (fun q => !(gone.contains q.toNat)),
                 heirs := t.heirs.filter (fun q => !(gone.contains q.toNat)) }) s0.host.tags } }
    s1.sweepTags.eraseReplayed

/-- Acknowledged cache data has become POISONED before it reached media: the event of 04 R135, and every Flush that
covers it fails in the end (R89). -/
def State.ackPoisoned (s : State) (nsid lba gseq : Nat) : State :=
  let s1 := { s with host := { s.host with tags := smap (fun _ t => flushFails [gseq] t) s.host.tags } }
  s1.recordHw srcDma sevError 0x0803 nsid (lba % 4294967296) (lba / 4294967296)

/-- Cache data in the index is lost before it reached media: acknowledged data becomes POISONED (R135), and a write that has not been acknowledged fails
with Data Transfer Error in the end (04 Table 4-5). -/
def State.slotLostAt (s : State) (q : Nat) (g : CGroup) (lba : Nat) : State :=
  if g.acked then s.ackPoisoned g.nsid lba q
  else match g.tag with
    | some t => s.modTag t (fun x => { x with failure := some stTransfer })
    | none => s

/-- An entry of the write cache becomes POISONED. -/
def State.poisonSlot (s : State) (q slot : Nat) : State :=
  match sget s.cache.groups q with
  | none => s
  | some g =>
    let groups := smod q (fun (g : CGroup) => { g with slots := g.slots.map (fun x => if x.slot = slot then { x with poison := true, badLines := [] } else x) }) s.cache.groups
    let s1 := { s with cache := { s.cache with groups := groups } }
    match g.slots.find? (fun x => x.slot == slot) with
    | some x => s1.slotLostAt q g x.lba
    | none => s

/-- Return a command's charge to its stand (06 R209). -/
def State.returnCharge (s : State) (st : Nat) (n : Nat) : State :=
  { s with nvm := s.nvm.modStand st (fun x => { x with inflight := x.inflight - n }) }

end Sys2Proof.Machine
end

