-- ==== Sys2Proof/Machine/PlaceOps.lean ====
section
/-! DEFINITION. Placement (06 R180 to R189): the candidates for a windrow set, its filling, the start of its transfers,
its failure and completion, and the map changes that its commit makes in each grove. -/

namespace Sys2Proof.Machine

/-! ## Candidates -/

/-- A block that waits for placement. -/
structure Cand where
  nsid : Nat
  lba : Nat
  src : ItemSrc
  /-- The block carries a poison mark: its slot is programmed as zeros (04 Table 4-5). -/
  poison : Bool
  /-- Its granule may be placed as a whole. -/
  whole : Bool := true
  deriving DecidableEq, Repr

/-- Insert a group by the order of its index update. -/
def orderInsert (x : Nat × CGroup) : List (Nat × CGroup) → List (Nat × CGroup)
  | [] => [x]
  | y :: t => if x.2.order < y.2.order then x :: y :: t else y :: orderInsert x t

/-- The cache blocks of a stand that wait for placement, in the order of their index updates (R186). -/
def State.hotCands (s : State) (st : StandNo) : List Cand :=
  let mine := s.cache.groups.filter (fun e => e.2.visible &&
    ((s.nvm.ns e.2.nsid).map (fun n => n.stand == st)).getD false)
  (mine.foldl (fun l e => orderInsert e l) []).flatMap (fun e =>
    (e.2.slots.filter (fun x => !x.super && !x.done && !x.inSet)).map (fun x =>
      { nsid := e.2.nsid, lba := x.lba, src := .cache (BitVec.ofNat 32 e.1) x.slot, poison := x.poison }))

/-- The namespace block that the map places at a location. -/
def State.blockAt (s : State) (p : Ploc) : Option (Nat × Nat) :=
  (s.map.mapped.find? (fun x => x.2.2 == p)).bind (fun x =>
    (s.map.granuleOf x.1).map (fun ng => (ng.1, ng.2 * 16 + x.2.1)))

/-- The domain that takes the copies of a stand's row blocks in a domain: that domain, or, where the stand may no longer use it, the stand's own
in the same grove, and otherwise its domains in round-robin order (R194; Table 6-6). -/
def State.coldTarget (s : State) (st : StandNo) (d : DomId) : Option DomId :=
  let ds := s.domsFor st
  if ds.contains d then some d
  else match ds.find? (fun e => e.grove == d.grove) with
    | some e => some e
    | none =>
      let i := (sget s.media.lastDom st.val).getD 0
      (ds.drop (i + 1) ++ ds.take (i + 1)).head?

/-- A granule of a victim is copied as a whole: it is COARSE, or it folds with the victim (05 R152). -/
def State.copiedWhole (s : State) (v : Victim) (dgn : Nat) : Bool :=
  ((sget s.map.trunk dgn).map (fun e => trunkKind e == kCoarse)).getD false || (v.folds.contains dgn && s.foldsWith v.rb dgn)

/-- Reads for a victim are still to come. -/
def State.readsLeft (s : State) (d : DomId) (v : Victim) : Bool :=
  !v.toRead.isEmpty || s.flash.ops.any (fun e => e.2.why == .thin d v.rb)

/-- One copy as a candidate. A granule that is copied as a whole waits until all of its blocks have been read. -/
def State.copyCand (s : State) (d : DomId) (v : Victim) (p : Ploc) : Option Cand :=
  (s.map.mapped.find? (fun x => x.2.2 == p)).bind (fun x => (s.map.granuleOf x.1).bind (fun ng =>
    let whole := s.copiedWhole v x.1
    if whole && s.readsLeft d v && !((granLocs s.map.trunk s.map.leaves x.1).all v.copying.contains) then none
    else some { nsid := ng.1, lba := ng.2 * 16 + x.2.1, src := .copy p, poison := false, whole := whole }))

/-- Copies that have been read from victims, belong to a stand and go to a domain; what the map no longer places there
has been overwritten and is not copied (R196). -/
def State.coldCands (s : State) (st : StandNo) (d : DomId) : List Cand :=
  (s.media.doms.filter (fun x => s.coldTarget st x.dom == some d)).flatMap (fun x =>
    (x.victims.filter (fun v => v.stand == st)).flatMap (fun v => v.copying.filterMap (s.copyCand x.dom v)))

/-! ## Filling a set -/

/-- The data positions of a windrow set: each data member's wordline set, by page, plane and slot. -/
def setPositions (slc : Bool) (rb wl : Nat) (data : List Nat) : List Ploc :=
  data.flatMap (fun c => (List.range (if slc then 1 else 3)).flatMap (fun p => (List.range 16).map (fun i =>
    mkPloc (rbDch rb c) (rbDie rb) (i / 4) (rbN rb) (if slc then wl else 3 * wl + p) (i % 4))))

/-- The parity member of a row block in use. -/
def State.parityOf (s : State) (rb : Nat) : Nat := s.media.parityOf rb

/-- The data members of a set. -/
def State.dataMembers (s : State) (w : WSet) : List Nat := w.members.filter (fun c => c != s.parityOf w.rb)

/-- The positions of a set that hold nothing yet. -/
def State.freePositions (s : State) (w : WSet) : List Ploc :=
  let used := w.items.map (fun i => i.loc)
  (setPositions w.cls.ofMap w.rb w.wl (s.dataMembers w)).filter (fun p => !(used.contains p))

/-- The pages of a set whose 16 positions are all free. -/
def freePages (free : List Ploc) : List Ploc :=
  free.filter (fun p => decide (plocPlane p = 0 ∧ plocSlot p = 0) &&
    (List.range 16).all (fun k => free.contains (coarseBlock p k)))

/-- The 16 blocks of a granule, where every one of them is a candidate. -/
def wholeGranule (cs : List Cand) (nsid g : Nat) : Option (List Cand) :=
  let l := (List.range 16).filterMap (fun k => cs.find? (fun c => c.nsid == nsid && c.lba == 16 * g + k && !c.poison && c.whole))
  if l.length = 16 then some l else none

/-- The set holds a block already. -/
def WSet.has (w : WSet) (c : Cand) : Bool := w.items.any (fun i => i.src == c.src)

/-- Place one candidate: a whole granule takes a free page, or waits for the next set of the write point, which the set notes while it still has
room; another block takes a free position (R186). -/
def placeOne (s : State) (cs : List Cand) (w : WSet) (c : Cand) : WSet :=
  if w.has c then w
  else
    let free := s.freePositions w
    match wholeGranule cs c.nsid (c.lba / 16) with
    | some l =>
      match (freePages free).head? with
      | some p =>
        { w with items := w.items ++ l.mapIdx (fun k x => { loc := coarseBlock p k, nsid := x.nsid, lba := x.lba, src := x.src }),
                 whole := w.whole ++ [(c.nsid, c.lba / 16, p)] }
      | none => if free.isEmpty || w.left.contains (c.nsid, c.lba / 16) then w else { w with left := w.left ++ [(c.nsid, c.lba / 16)] }
    | none =>
      match free.getLast? with
      | some p => { w with items := w.items ++ [{ loc := p, nsid := c.nsid, lba := c.lba, src := c.src }] }
      | none => w

/-- Fill a set from candidates in order. -/
def fillSet (s : State) (cs : List Cand) (w : WSet) : WSet := cs.foldl (fun a c => placeOne s cs a c) w

/-! ## Sets -/

/-- A set. -/
def MediaS.wset (m : MediaS) (n : Nat) : Option WSet := sget m.sets n
/-- Change a set. -/
def MediaS.modSet (m : MediaS) (n : Nat) (f : WSet → WSet) : MediaS := { m with sets := smod n f m.sets }

/-- Started sets of a grove whose parity has not been transferred: each holds a slot of its windrow accumulator, of which there are 16 (R180,
R181). -/
def MediaS.accUsed (m : MediaS) (g : Grove) : Nat :=
  (m.sets.filter (fun e => e.2.started && !e.2.transferred.contains (m.parityOf e.2.rb) && e.2.dom.grove == g)).length

/-- Mark the cache slots of a set as lying in one, or as free for another. -/
def CacheS.markSet (c : CacheS) (items : List Item) (b : Bool) : CacheS :=
  items.foldl (fun a i => match i.src with
    | .cache q slot => { a with groups := smod q.toNat (fun g =>
        { g with slots := g.slots.map (fun x => if x.slot = slot then { x with inSet := b } else x) }) a.groups }
    | _ => a) c

/-- Change every victim. -/
def MediaS.modVictims (m : MediaS) (f : Victim → Victim) : MediaS :=
  { m with doms := m.doms.map (fun (d : DomS) => { d with victims := d.victims.map f }) }

/-- The copies among some items. -/
def copyLocs (items : List Item) : List Ploc :=
  items.filterMap (fun i => match i.src with
    | .copy p => some p
    | _ => none)

/-- Copies have been placed: they no longer wait. -/
def MediaS.takeCopies (m : MediaS) (items : List Item) : MediaS :=
  let locs := copyLocs items
  m.modVictims (fun v => { v with copying := v.copying.filter (fun p => !(locs.contains p)) })

/-- A grant holds codewords that have been read from a victim. -/
def CordGrant.copies (g : CordGrant) : Bool :=
  match g.req.user with
  | .victim _ => true
  | _ => false

/-- Copies are not needed any more: their cords are free, those of a read that is still under way with its last codeword. -/
def State.dropCopies (s : State) (ps : List Ploc) : State :=
  let cs := (ps.filterMap (fun p => sget s.land.copies p.toNat)).filter (fun c => s.land.grants.any (fun g => g.copies && g.cords.contains c))
  let s1 := s.freeThese cs
  { s1 with land := { s1.land with copies := s1.land.copies.filter (fun e => !(ps.any (fun p => p.toNat == e.1))) } }

/-- Copies that were placed are given back: those still in Landing wait again, the others are read again from their source (R182). One that no
victim in hand asked for is dropped. -/
def State.giveBack (s : State) (items : List Item) : State :=
  let locs := copyLocs items
  let here := fun (p : Ploc) => (sget s.land.copies p.toNat).isSome
  let wanted := fun (p : Ploc) => s.media.doms.any (fun d => d.victims.any (fun v => v.rb == plocRb p))
  let m := s.media.modVictims (fun v =>
    { v with copying := v.copying ++ locs.filter (fun p => plocRb p == v.rb && here p)
             toRead := v.toRead ++ locs.filter (fun p => plocRb p == v.rb && !here p) })
  ({ s with media := m }).dropCopies (locs.filter (fun p => !wanted p))

/-- Placement in a grove waits: its cores restart, its row-block records have not been scanned (R191), a channel of it is TRAINING (07 Table
7-7), or its rebuild bitmap is not complete (07 R238). -/
def State.placementWaits (s : State) (g : Grove) : Bool :=
  s.groveRestarting g || !s.dev.mapDone.getLsbD g.val || !s.mayOpen g ||
    (List.range 8).any (fun c => (s.flash.chan (g.val * 8 + c)).state == .training)

/-- The rebuild of a grove is behind its share of the program time while copies for it wait to be read or placed (07 R240). Sets of one grove take the
same time. -/
def State.rebuildBehind (s : State) (g : Grove) : Bool :=
  let x := vget s.media.shares g.val (0, 0)
  (s.flash.grove g.val).rebuild && decide (100 * x.1 < s.par P.CHN_REBUILD_MIN_PCT * (x.1 + x.2 + 1)) &&
    s.media.doms.any (fun d => d.dom.grove == g && d.victims.any (fun v => v.why == .rebuild && (!v.toRead.isEmpty || !v.copying.isEmpty)))

/-- No set of a class starts in a grove now: placement waits there, PWR_FAIL_N is low (04 R113), or, for HOT, the condemned table is full (R265) or the
rebuild goes first (07 R240). -/
def State.startWaits (s : State) (k : WpClass) (g : Grove) : Bool :=
  s.placementWaits g || !s.plp.pwrFailN || s.plp.dumping || (k == .hot && (s.hotWaits || s.rebuildBehind g))

/-- Begin a set at the next wordline position of a write point's row block; a row block is opened where there is none,
or the write point waits (R185). -/
def State.beginSet (s : State) (st : StandNo) (k : WpClass) (d : DomId) : State :=
  if s.placementWaits d.grove || (k == .hot && s.hotWaits) then s else
  let p := s.media.point st k d
  let s1 := match p.rb with
    | some _ => s
    | none =>
      match s.chooseOpen d k with
      | none => { s with media := s.media.setPoint { p with waiting := true } }
      | some rb =>
        let a := s.openRb st k rb
        { a with media := a.media.setPoint { p with rb := some rb, waiting := false } }
  let p := s1.media.point st k d
  match p.rb, p.set with
  | some rb, none =>
    match sget s1.media.info rb with
    | some i =>
      if i.nextWl < s1.wordlines then
        let n := s1.media.nextSet
        let w : WSet := { stand := st, cls := k, dom := d, rb := rb, wl := i.nextWl, items := [], whole := [],
                          forced := false, started := false, parityDone := false, members := s1.members rb,
                          transferred := [], verified := [], failed := false, touched := s1.now }
        { s1 with media := { (s1.media.setPoint { p with set := some n, lastUse := s1.now }) with
            sets := sput n w s1.media.sets, nextSet := n + 1,
            info := smod rb (fun x => { x with nextWl := x.nextWl + 1 }) s1.media.info } }
      else s1
    | none => s1
  | _, _ => s1

/-- A Flush or a FUA write waits for data of a group (Table 6-3, first two rows), or a FUA read does (02 R53). -/
def State.waitedFor (s : State) (q : Dword) : Bool :=
  s.host.tags.any (fun e => e.2.phase == .running && e.2.groups.contains q &&
    (match e.2.cmd with
    | .flush _ => true
    | .write f => f.fua
    | .orderedWrite f => f.fua
    | .read f => f.fua
    | .orderedRead f => f.fua
    | _ => false))

/-- The set holds such data. -/
def State.forceNow (s : State) (w : WSet) : Bool :=
  w.items.any (fun i => match i.src with
    | .cache q _ => s.waitedFor q
    | _ => false)

/-- Every codeword of a victim that was to be copied has been read, and none of them waits for placement. -/
def State.allRead (s : State) (d : DomId) (v : Victim) : Bool := v.copying.isEmpty && !s.readsLeft d v

/-- The set holds copies of a victim. -/
def WSet.holdsCopies (w : WSet) (rb : Nat) : Bool := (copyLocs w.items).any (fun p => plocRb p == rb)

/-- The last codeword of some victim has been read, and the set holds its last copies (Table 6-3). -/
def State.lastCopies (s : State) (w : WSet) : Bool :=
  s.media.doms.any (fun x => x.victims.any (fun v => s.allRead x.dom v && w.holdsCopies v.rb))

/-- The kind of program of a set. -/
def progKind (k : WpClass) : OpKind := if k.ofMap then .progSlc else .progTlc

/-- Ask for the cords of one member's wordline set, a plane page of 4 cords at a time, from its channel's reservation
(04 R110, Table 4-2). -/
def State.askMember (s : State) (n rb c pages : Nat) : State :=
  (List.range (4 * pages)).foldl (fun a _ =>
    a.askCords { user := .set n, res := .chan (chanOf (rbDch rb c)), count := 4, l0 := false, port := none }) s

/-- Issue the program of one member's wordline set. -/
def State.issueProgram (s : State) (n : Nat) (w : WSet) (c : Nat) : State :=
  let pages := if w.cls.ofMap then 1 else 3
  (s.addOp (DieOp.fresh (rbDch w.rb c) (rbDie w.rb) (progKind w.cls) (rbN w.rb) (pages * w.wl) [0, 4, 8, 12] 4
    (.program n))).askMember n w.rb c pages

/-- Filled share of a set (R195). -/
def State.setShare (s : State) (w : WSet) : Rat :=
  let all := (setPositions w.cls.ofMap w.rb w.wl (s.dataMembers w)).length
  if all = 0 then 0 else (w.items.length : Rat) / (all : Rat)

/-- The debt that a HOT set adds (R195). A victim with v = 1 was not chosen by R193 but relocated, and the sum that the rule states has no value:
the set adds nothing (the model's choice, log entry 101). -/
def State.hotDebt (s : State) (w : WSet) : State :=
  if w.cls == .hot then
    match (s.media.domS w.dom).victims.find? (fun x => x.chosen && x.charge == w.stand) with
    | some x =>
      let v : Rat := if x.total = 0 then 0 else (x.valid : Rat) / (x.total : Rat)
      s.addDebt w.stand w.dom (if v = 1 then 0 else s.setShare w * v / (1 - v))
    | none => s
  else s

/-- A set with copies of a row block that is rebuilt. -/
def State.rebuilds (s : State) (w : WSet) : Bool :=
  s.media.doms.any (fun d => d.victims.any (fun v => v.why == .rebuild && w.holdsCopies v.rb))

/-- A set counts toward the shares of the program time of its grove (07 R240). -/
def State.countShare (s : State) (w : WSet) : State :=
  let add := fun (x : Nat × Nat) => if s.rebuilds w then (x.1 + 1, x.2) else if w.cls == .hot then (x.1, x.2 + 1) else x
  { s with media := { s.media with shares := vmod s.media.shares w.dom.grove.val add } }

/-- Start a set that is full or forced: what is still empty becomes filler, and the data members' transfers begin
(R181, R189). A set waits for a free accumulator slot (R180), and while placement in its grove waits. -/
def State.startSet (s : State) (n : Nat) : State :=
  match s.media.wset n with
  | none => s
  | some w =>
    if w.started || w.items.isEmpty || 16 ≤ s.media.accUsed w.dom.grove || s.startWaits w.cls w.dom.grove then s
    else
      let p := s.media.point w.stand w.cls w.dom
      let p' := { p with set := if p.set = some n then none else p.set, lastUse := s.now, left := w.left }
      let s1 := { s with media := (s.media.modSet n (fun x => { x with started := true, touched := s.now })).setPoint p' }
      (((s.dataMembers w).foldl (fun a c => a.issueProgram n w c) s1).hotDebt w).countShare w

/-- Start the set where it is full, or forced. -/
def State.startIfReady (s : State) (n : Nat) : State :=
  match s.media.wset n with
  | none => s
  | some w => if (s.freePositions w).isEmpty || w.forced then s.startSet n else s

/-- A candidate belongs to a whole granule that waits for the next set of the stand's HOT write point in another domain (R186). -/
def State.keptElsewhere (s : State) (st : StandNo) (d : DomId) (c : Cand) : Bool :=
  s.media.points.any (fun p => p.stand == st && p.cls == .hot && p.dom != d && p.left.contains (c.nsid, c.lba / 16) &&
    (s.domsFor st).contains p.dom)

/-- The candidates of a write point. -/
def State.cands (s : State) (st : StandNo) (k : WpClass) (d : DomId) : List Cand :=
  match k with
  | .hot => (s.hotCands st).filter (fun c => !s.keptElsewhere st d c)
  | .cold => s.coldCands st d
  | _ => []

/-- Start the sets of a grove that waited for a slot of its accumulator. -/
def State.startWaiting (s : State) (g : Grove) : State :=
  ((s.media.sets.filter (fun e => !e.2.started && e.2.dom.grove == g)).map Prod.fst).foldl (fun a n => a.startIfReady n) s

/-- Fill the set of a write point in a domain, and start it when it is full or forced (R186, R188). -/
def State.placeOnce (s : State) (st : StandNo) (k : WpClass) (d : DomId) : State :=
  let cs := s.cands st k d
  if cs.isEmpty then s
  else
    let s1 := s.beginSet st k d
    match (s1.media.point st k d).set with
    | none => s1
    | some n =>
      match s1.media.wset n with
      | none => s1
      | some w =>
        if w.started then s1
        else
          let w1 := fillSet s1 cs w
          let new := w1.items.drop w.items.length
          let p := s1.media.point st k d
          let m := s1.media.takeCopies new
          let s2 := { s1 with cache := s1.cache.markSet new true, media := if new.isEmpty then m else m.setPoint { p with lastUse := s1.now } }
          let w2 := { w1 with touched := if new.isEmpty then w.touched else s1.now }
          let s3 := { s2 with media := s2.media.modSet n (fun _ => w2) }
          let w3 := { w2 with forced := w2.forced || s3.forceNow w2 || (k == .cold && s3.lastCopies w2) }
          ({ s3 with media := s3.media.modSet n (fun _ => w3) }).startIfReady n

/-- A whole granule of a write point has found no page in a set that was forced, and holds data that the forcing covers: data of groups `cov`, or
data that a Flush or a FUA command waits for (R186). -/
def State.leftOver (s : State) (st : StandNo) (k : WpClass) (d : DomId) (cov : Dword → Bool) : Bool :=
  let cs := s.cands st k d
  cs.any (fun c => (match c.src with
    | .cache q _ => cov q || s.waitedFor q
    | _ => false) && (wholeGranule cs c.nsid (c.lba / 16)).isSome)

/-- The next sets of the write point are forced as well while such granules are left (R186). -/
def State.forceRounds (st : StandNo) (k : WpClass) (d : DomId) (cov : Dword → Bool) : Nat → State → State
  | 0, s => s
  | fuel + 1, s =>
    if !s.leftOver st k d cov then s
    else
      let s1 := s.placeOnce st k d
      let s2 := match (s1.media.point st k d).set with
        | some n => ({ s1 with media := s1.media.modSet n (fun w => { w with forced := true }) }).startSet n
        | none => s1
      if (s2.cands st k d).length < (s.cands st k d).length then State.forceRounds st k d cov fuel s2 else s2

/-- Place what waits for a write point in a domain: one set, and, where that set is forced, the sets after it that the forcing covers. -/
def State.placeIn (s : State) (st : StandNo) (k : WpClass) (d : DomId) : State :=
  let s1 := s.placeOnce st k d
  if (s1.media.point st k d).set.isSome then s1 else State.forceRounds st k d (fun _ => false) (s1.cands st k d).length s1

/-- Force a set: it is filled from what waits for the same write point, oldest first, then with filler (R188, R189). `cov` names the groups that
the forcing covers. -/
def State.forceSet (s : State) (n : Nat) (cov : Dword → Bool := fun _ => false) : State :=
  match s.media.wset n with
  | none => s
  | some w =>
    let s1 := { s with media := s.media.modSet n (fun x => { x with forced := true }) }
    if w.started then s
    else
      let s2 := (s1.placeIn w.stand w.cls w.dom).startSet n
      State.forceRounds w.stand w.cls w.dom cov (s2.cands w.stand w.cls w.dom).length s2

/-- Force every partial set that satisfies a test. -/
def State.forceSets (s : State) (p : WSet → Bool) (cov : Dword → Bool := fun _ => false) : State :=
  ((s.media.sets.filter (fun e => !e.2.started && p e.2)).map Prod.fst).foldl (fun a n => a.forceSet n cov) s

/-- A set holds data of some groups. -/
def WSet.holdsGroup (w : WSet) (qs : List Dword) : Bool :=
  w.items.any (fun i => match i.src with
    | .cache q _ => qs.contains q
    | _ => false)

/-! ## Failure and completion of a set -/

/-- Units of a failed set are placed again: checkpoint units with the generation of their grove, those of the map log and of the wear table
with theirs. -/
def MapS.unplace (m : MapS) (is : List Item) : MapS :=
  is.foldl (fun (a : MapS) i => match i.src with
    | .unit k id =>
      let g : Grove := if k = 2 then groveOf id else groveOf i.nsid
      a.modGrove g (fun x =>
        if k = 4 then { x with spillLeft := addOnce id x.spillLeft }
        else if k = 5 then { x with wearLeft := addOnce id x.wearLeft }
        else { x with gen := x.gen.map (fun (e : GenS) => { e with units := addOnce (unitKey k id) e.units }) })
    | _ => a) m

/-- A set is given up: none of its data is mapped; host data is placed again from the cache, and copies wait or are read again; operations of the
set that have not reached a die are withdrawn. What has not been programmed of its wordline stays so. -/
def State.abandonSet (s : State) (n : Nat) : State :=
  match s.media.wset n with
  | none => s
  | some w =>
    let pts := s.media.points.map (fun p => if p.set = some n then { p with set := none } else p)
    let s1 := { s with cache := s.cache.markSet w.items false, map := s.map.unplace w.items,
                       media := { s.media with sets := sdel n s.media.sets, points := pts,
                                               info := smod w.rb (fun i => { i with holes := i.holes ++ w.holes }) s.media.info } }
    let early := fun (o : DieOp) => o.stage == .issued || o.stage == .held || o.stage == .queued || (o.stage == .transfer && o.moved == 0)
    let wait := (s1.flash.ops.filter (fun e => e.2.why == .program n && early e.2)).map Prod.fst
    ((wait.foldl (fun a i => a.dropOp i) s1).freeCords (.set n)).giveBack w.items

/-- A row block goes to CLOSED: no further wordline is programmed, so that its sets that have not started are given up (R182, R185, R190). -/
def State.closeRow (s : State) (rb : Nat) : State :=
  (((s.media.sets.filter (fun e => e.2.rb == rb && !e.2.started)).map Prod.fst).foldl (fun a n => a.abandonSet n) s).closeRb rb

/-- A set fails (R182): it is given up, its row block goes to CLOSED, and its slot of the accumulator is free. -/
def State.failSet (s : State) (n : Nat) : State :=
  match s.media.wset n with
  | none => s
  | some w => ((s.abandonSet n).closeRow w.rb).startWaiting w.dom.grove

/-- The cache slot that an item came from. -/
def CacheS.slotOf (c : CacheS) (q : Dword) (slot : Nat) : Option CSlot :=
  (sget c.groups q.toNat).bind (fun g => g.slots.find? (fun x => x.slot == slot))

/-- What a verified item leaves on media. -/
def State.itemCw (s : State) (i : Item) : Option Cw :=
  match i.src with
  | .cache q slot => (s.cache.slotOf q slot).map (fun x =>
      { data := if x.poison then 0 else x.data, keyGen := x.keyGen, nsid := i.nsid, lba := i.lba })
  | .copy p => sget s.flash.content p.toNat
  | .unit k id => some { data := s.map.unitBlock (groveOf (if k = 2 then id else i.nsid)) k id, keyGen := 0, nsid := 0, lba := 0 }

/-- The groves in which a set's blocks are mapped. -/
def State.groveOfItem (s : State) (i : Item) : Option Grove :=
  match i.src with
  | .unit k id => if k = 2 then some (groveOf id) else some (groveOf i.nsid)
  | _ => (s.dgn i.nsid (i.lba / 16)).map groveOf

/-- A unit that no journal record names: of the root table, the map log or the wear table. -/
def Item.unnamed (i : Item) : Bool :=
  match i.src with
  | .unit k _ => decide (3 ≤ k)
  | _ => false

/-- Verified codewords of the map log stand where they were placed. -/
def MapS.noteLog (m : MapS) (is : List Item) : MapS :=
  is.foldl (fun a i => match i.src with
    | .unit k id => if k = 4 then
        a.modGrove (groveOf i.nsid) (fun x =>
          { x with logAt := sput (((x.ring.head?.map (fun r => r.seq.toNat)).getD 0) + 128 * id) i.loc x.logAt })
      else a
    | _ => a) m

/-- A leaf page lies in a directory slab of a grove. -/
def inDirSlab (g : Grove) (slab l : Nat) : Bool := l % 8 == g.val && l / 8 / 512 == slab

/-- Some entries of a table take the place of those that satisfy a test. -/
def replaceWhere {α : Type} (mine : Nat → Bool) (from1 into : Sparse α) : Sparse α :=
  (from1.filter (fun e => mine e.1)).foldl (fun t e => sput e.1 e.2 t) (into.filter (fun e => !mine e.1))

/-- A unit's part of some copies, trunk slab, directory slab or leaf page, takes the place of that of others (Table 5-9). -/
def MapImage.putUnit (img : MapImage) (g : Grove) (u : Nat × Nat) (src : MapImage) : MapImage :=
  if u.1 = 0 then { img with trunk := replaceWhere (fun d => d / segGrans == u.2 && groveOf d == g) src.trunk img.trunk }
  else if u.1 = 1 then { img with dirs := replaceWhere (inDirSlab g u.2) src.dirs img.dirs }
  else if u.1 = 2 then
    { img with leaves := replaceWhere (fun l => lpnOf l == u.2) src.leaves img.leaves, heads := replaceWhere (· == u.2) src.heads img.heads }
  else img

/-- What the map holds now, as its units' copies would. -/
def MapS.live (m : MapS) : MapImage :=
  { trunk := m.trunk, leaves := m.leaves, dirs := m.pages.filterMap (fun e => (m.flocOf e.1).map (fun p => (e.1, p))),
    heads := m.pages.map (fun e => (e.1, e.2.stand.val)), segs := [], locs := [] }

/-- Copies of units are taken, between two map updates: what changes a leaf page from here on is in no copy of it (R160). -/
def MapS.takeUnits (m : MapS) (is : List Item) : MapS :=
  is.foldl (fun a i => match i.src with
    | .unit k id =>
      let g := if k = 2 then groveOf id else groveOf i.nsid
      let a1 := a.modGrove g (fun x => { x with taken := x.taken.putUnit g (k, id) m.live })
      if k = 2 then { a1 with pages := smod id (fun p => { p with changed := false }) a1.pages } else a1
    | _ => a) m

/-- A codeword of a kind of table of a grove stands in a set that has not been verified. -/
def State.tablePlaced (s : State) (g : Grove) (kind : Nat) : Bool :=
  s.media.sets.any (fun e => e.2.items.any (fun i => match i.src with
    | .unit k _ => k == kind && groveOf i.nsid == g
    | _ => false))

/-- The live map log of a grove in bytes has passed 75% of MAP_LOG_MAX_MIB, or fallen below 50% of it (05 R161). -/
def State.logLevel (s : State) (x : GroveMap) : Bool :=
  let most := s.par P.MAP_LOG_MAX_MIB * 1048576
  if most * 3 < x.log.length * 128 then true else if x.log.length * 64 < most then false else x.logHigh

/-- The half of a ring that is being programmed has been verified whole: its records stand in the map log, and the half is free (05 R159). -/
def State.spillCheck (s : State) (g : Grove) : State :=
  let x := s.map.grove g
  if !x.spilling || !x.spillLeft.isEmpty || s.tablePlaced g 4 then s
  else
    { s with map := s.map.modGrove g (fun x =>
        let y := { x with log := x.log ++ x.ring.take halfRing, ring := x.ring.drop halfRing, spilling := false }
        { y with logHigh := s.logLevel y }) }

/-- A wear table has been verified whole: the older pointer takes it (06 R197). -/
def State.wearCheck (s : State) (g : Grove) : State :=
  let x := s.map.grove g
  match x.wearLoc with
  | none => s
  | some p =>
    if !x.wearLeft.isEmpty || s.tablePlaced g 5 then s
    else
      let mine := fun (t : Sparse (BitVec 16)) => t.filter (fun e => rbGrove e.1 == g)
      let into := fun (t u : Sparse (BitVec 16)) => u.foldl (fun a e => sput e.1 e.2 a) (t.filter (fun e => rbGrove e.1 != g))
      { s with
        flash := { s.flash with trackedTable := s.flash.tracked.foldl (fun m e => if e.1 / 2097152 / 8 = g.val then sput e.1 e.2 m else m) s.flash.trackedTable }
        map := s.map.modGrove g (fun x => { x with wearOld := x.wearNew, wearNew := mkPtr (x.wearNew.seq + 1) p 128, wearLoc := none, wearSnap := [] })
        media := { s.media with wearOlder := into s.media.wearOlder (mine s.media.wearTable), wearTable := into s.media.wearTable x.wearSnap } }

/-- Every wordline set is programmed and verified: the data is on media, and each grove that owns one of its granules
commits its part (R181, 01 R27). Tables that no record names stand at once. The last wordline position closes the row block (R190). -/
def State.completeSet (s : State) (n : Nat) : State :=
  match s.media.wset n with
  | none => s
  | some w =>
    let content := w.items.foldl (fun c i => match s.itemCw i with
      | some x => sput i.loc.toNat x c
      | none => c) s.flash.content
    let named := w.items.filter (fun i => !i.unnamed)
    let gs := (List.finRange 8).filter (fun g => named.any (fun i => s.groveOfItem i == some g))
    let media := if gs.isEmpty then { s.media with sets := sdel n s.media.sets } else s.media.modSet n (fun x => { x with items := named })
    let s1 := ({ s with flash := { s.flash with content := content }, media := media, map := (s.map.noteLog w.items).takeUnits w.items }).freeCords (.set n)
    let s2 := gs.foldl (fun a g => a.queueGroup g { why := .set n, changes := [] }) s1
    let s3 := if w.wl + 1 = s2.wordlines then s2.closeRow w.rb else s2
    if w.items.any Item.unnamed then (List.finRange 8).foldl (fun a g => (a.spillCheck g).wearCheck g) s3 else s3

/-! ## The commit of a set in a grove (05 R154, R157; 01 R30) -/

/-- The block of an item still has the state that was placed: its cache entry is there and not SUPER. -/
def State.itemLive (s : State) (i : Item) : Bool :=
  match i.src with
  | .cache q slot => match s.cache.slotOf q slot with
    | some x => !x.super && x.lba == i.lba
    | none => false
  | .copy _ => true
  | .unit _ _ => true

/-- The entry that an item's block gets: its new location, or POISONED for a poisoned cache block (04 Table 4-5). -/
def State.itemEntry (s : State) (i : Item) : Ploc :=
  match i.src with
  | .cache q slot => match s.cache.slotOf q slot with
    | some x => if x.poison then plocPoisoned else i.loc
    | none => i.loc
  | _ => i.loc

/-- The condition that a copy carries (01 R30). -/
def itemCond (dgn : Nat) (i : Item) : List CasCond :=
  match i.src with
  | .copy p => [{ dgn := dgn, k := i.lba % 16, loc := p }]
  | _ => []

/-- The copies come from one page in the arrangement of 05 R146: the granule was COARSE, and nothing is folded. -/
def coarseCopy (is : List Item) : Bool :=
  match is with
  | [] => true
  | i :: _ => match i.src with
    | .copy p => is.all (fun x => match x.src with
        | .copy q => q == coarseBlock (plocPageBase p) (x.lba % 16)
        | _ => false)
    | _ => true

/-- The change of one granule that a set makes. A whole granule becomes COARSE while each of its blocks still stands;
otherwise the blocks that stand are set one by one, but a thinning fold is dropped whole (05 R154). -/
def State.granChange (s : State) (w : WSet) (nsid gran dgn : Nat) : GranChange :=
  let is := w.items.filter (fun i => i.nsid == nsid && i.lba / 16 == gran)
  let live := is.filter s.itemLive
  let cas := live.flatMap (itemCond dgn)
  let es := live.map (fun i => (i.lba % 16, s.itemEntry i))
  match w.whole.find? (fun x => x.1 == nsid && x.2.1 == gran) with
  | some x =>
    if live.length = 16 && cas.all (fun c => casHolds s.map c) then { dgn := dgn, entries := es, coarse := some x.2.2, cas := cas }
    else if coarseCopy is then { dgn := dgn, entries := es, coarse := none, cas := cas }
    else { dgn := dgn, entries := [], coarse := none, cas := [] }
  | none => { dgn := dgn, entries := es, coarse := none, cas := cas }

/-- The granules of a set that a grove owns: namespace, granule, device granule. -/
def State.setGrans (s : State) (w : WSet) (g : Grove) : List (Nat × Nat × Nat) :=
  w.items.foldl (fun l i => match i.src with
    | .unit _ _ => l
    | _ => match s.dgn i.nsid (i.lba / 16) with
      | some d => if groveOf d = g then addOnce (i.nsid, i.lba / 16, d) l else l
      | none => l) []

/-- The map changes of a set in a grove. -/
def State.setChanges (s : State) (w : WSet) (g : Grove) : List GranChange :=
  (s.setGrans w g).map (fun x => s.granChange w x.1 x.2.1 x.2.2)

/-- The checkpoint units of a set that a grove owns. -/
def State.setUnits (s : State) (w : WSet) (g : Grove) : List Item :=
  w.items.filter (fun i => (match i.src with
    | .unit _ _ => true
    | _ => false) && s.groveOfItem i == some g)

/-- The blocks of a set whose cache entries are now mapped in grove g are done. -/
def CacheS.markDone (c : CacheS) (is : List Item) : CacheS :=
  is.foldl (fun a i => match i.src with
    | .cache q slot => { a with groups := smod q.toNat (fun g =>
        { g with slots := g.slots.map (fun x => if x.slot = slot then { x with done := true } else x) }) a.groups }
    | _ => a) c

end Sys2Proof.Machine
end

