-- ==== Sys2Proof/Machine/ReadOps.lean ====
section
/-! DEFINITION. How the blocks of a read are found and collected (01 R21 to R25; 02 R53; 03 R83): cache, map, flash;
how its data reaches Landing and the host (04 R104, R119, R524). -/

namespace Sys2Proof.Machine

/-! ## Commands -/

/-- The fields of a command that reads blocks. -/
def readFields : NvmeCmd → Option RwFields
  | .read f => some f
  | .orderedRead f => some f
  | .compare f => some f
  | _ => none

/-- The namespace of an I/O command. -/
def ioNsid : NvmeCmd → Option Dword
  | .flush n => some n
  | .write f => some f.nsid
  | .read f => some f.nsid
  | .compare f => some f.nsid
  | .writeZeroes f => some f.nsid
  | .dsm n _ _ => some n
  | .resvRegister n _ _ _ _ _ => some n
  | .resvReport n => some n
  | .resvAcquire n _ _ _ _ _ => some n
  | .resvRelease n _ _ _ _ => some n
  | .orderedWrite f => some f.nsid
  | .orderedRead f => some f.nsid
  | .orderedDsm n _ _ => some n
  | .gatherRead f => some f.nsid
  | _ => none

/-- Logical blocks of a command. -/
def rwLen (f : RwFields) : Nat := f.nlb0 + 1

/-- The latency class of a namespace's stand (10 R316). -/
def State.nsClass (s : State) (nsid : Nat) : Nat :=
  match s.nvm.ns nsid with
  | some n => ((s.nvm.stand n.stand.val).map (fun x => x.cls)).getD 2
  | none => 2

/-! ## Decryption (14 R400, R402) -/

/-- A stored block under the key of its namespace: another key generation yields a free value. -/
def decrypt (n : NsS) (gen : Nat) (b : Block) : Block := if n.keyGen = gen then b else Config.wrongKey gen n.keyGen b

/-! ## Data of a tag -/

/-- A block of a reading tag has its outcome: its data, or a failure; the first failure met is kept. -/
def TagE.arrive (t : TagE) (slba lba : Nat) (r : Option Block) (why : Status) : TagE :=
  { t with
    waits := t.waits.filter (· != lba)
    got := match r with
      | some b => t.got.set (lba - slba) (some b)
      | none => t.got
    failure := match r with
      | some _ => t.failure
      | none => some (t.failure.getD why) }

/-- Blocks of a tag that a die operation is fetching. -/
def FlashS.inflight (f : FlashS) (tag : Nat) : List Nat :=
  f.ops.flatMap (fun e => match e.2.why with
    | .host t m => if t = tag then m.map Prod.snd else []
    | .gather t m => if t = tag then m.map Prod.snd else []
    | _ => [])

/-- What the lookup of one block yields: its data or failure at once, or a location, or a leaf or a repair to wait for. -/
inductive Resolved where
  | now (r : Option Block)
  /-- A block of the write cache, and the lines of it that read as poisoned (04 R133). -/
  | cached (b : Block) (bad : List Nat)
  | flash (p : Ploc)
  | leaf (lpn : Nat)
  | wait
  | bad (dgn : Nat)
  deriving DecidableEq, Repr

/-- The lines of a slot that read as poisoned: every one of a block that is POISONED as a whole. -/
def CSlot.marks (x : CSlot) : List Nat := if x.poison && x.badLines.isEmpty then List.range 64 else x.badLines

/-- The lookup of one block of a namespace: the write cache first (R24), then the map (R21, R25; 05 R142). -/
def State.resolve (s : State) (nsid : Nat) (n : NsS) (lba : Nat) : Resolved :=
  match s.cache.find nsid lba with
  | some x => .cached (decrypt n x.keyGen x.data) x.marks
  | none =>
    match dgnOf n.segs (lba / 16) with
    | none => .now (some 0)
    | some d =>
      match s.map.lookup d (lba % 16) with
      | .unmapped => .now (some 0)
      | .poisoned => .now none
      | .at p => .flash p
      | .miss l => .leaf l
      | .wait => .wait
      | .bad => .bad d

/-- A miss on a leaf page: misses on one page are merged (05 R170), and the page has last been missed by this port's command (R167). -/
def MapS.noteMiss (m : MapS) (lpn : Nat) (p : Port) : MapS :=
  { m with pages := smod lpn (fun g => { g with missing := some (g.missing.getD p), lastPort := p }) m.pages }

/-- The data of a command goes to a port: its cords are charged to the port (R112). A Compare delivers nothing. -/
def deliversTo (c : NvmeCmd) (p : Port) : Option Port :=
  match c with
  | .read _ => some p
  | .orderedRead _ => some p
  | .gatherRead _ => some p
  | _ => none

/-- The lookups of some blocks at one moment: a block whose location is already known keeps it. -/
def State.lookAll (s : State) (t : TagE) (nsid : Nat) (n : NsS) (ls : List Nat) : List (Nat × Resolved) :=
  ls.map (fun l => (l, match sget t.locs l with
    | some p => .flash p
    | none => s.resolve nsid n l))

/-- The leaf pages that some lookups miss. -/
def missesOf (rs : List (Nat × Resolved)) : List Nat :=
  rs.filterMap (fun r => match r.2 with
    | .leaf l => some l
    | _ => none)

/-- One block of a tag has been looked up; a location is added to the list of reads to be issued. -/
def takeLook (tag slba : Nat) (a : State × List (Ploc × Nat)) (r : Nat × Resolved) : State × List (Ploc × Nat) :=
  match r.2 with
  | .now b => (a.1.modTag tag (fun t => t.arrive slba r.1 b stUnrecovered), a.2)
  | .cached b bad => (a.1.modTag tag (fun t => { (t.arrive slba r.1 (some b) stUnrecovered) with marks := sput r.1 bad t.marks }), a.2)
  | .flash p => (a.1.modTag tag (fun t => { t with locs := sput r.1 p t.locs }), a.2 ++ [(p, r.1)])
  | .leaf _ => a
  | .wait => a
  | .bad d => ((a.1.badPloc d).modTag tag (fun t => t.arrive slba r.1 none stUnrecovered), a.2)

/-- The blocks of a read that lie in one aligned AWUN unit are looked up at one moment, so that all of them come from the same state (03
R83, R95); with a leaf missing, or a slab under repair, the unit waits for it. -/
def unitStep (tag nsid slba : Nat) (n : NsS) (t : TagE) (a : State × List (Ploc × Nat)) (ls : List Nat) : State × List (Ploc × Nat) :=
  let rs := a.1.lookAll t nsid n ls
  if rs.any (fun r => r.2 == .wait) then a
  else match missesOf rs with
  | [] => rs.foldl (takeLook tag slba) a
  | ms => ({ a.1 with map := ms.foldl (fun m l => m.noteMiss l t.cntl.port) a.1.map }, a.2)

/-- Blocks by aligned AWUN unit. -/
def byUnit (ls : List Nat) : List (List Nat) :=
  ((ls.map (fun l => l / awunBlocks)).foldl (fun us u => addOnce u us) []).map (fun u => ls.filter (fun l => l / awunBlocks == u))

/-- Ask for the cords of n blocks of a command, at most 16 at a time, from its port's reservation (04 R110, Table 4-2). Blocks of a read
that the write cache or no medium supplies have no requester in Table 4-2: they draw on the port's too (the model's choice, log entry 95). -/
def State.askTag (s : State) (tag n : Nat) (p : Port) (l0 : Bool) (charged : Option Port) : State :=
  (List.range ((n + 15) / 16)).foldl (fun a i =>
    a.askCords { user := .tag tag, res := .port p, count := min 16 (n - 16 * i), l0 := l0, port := charged }) s

/-- A request of a command for cords waits. -/
def LandS.tagWaits (l : LandS) (tag : Nat) : Bool := l.waiting.any (fun r => r.user == .tag tag)

/-- Blocks that a tag waits for. -/
def HostS.waitsOf (h : HostS) (tag : Nat) : Nat := ((sget h.tags tag).map (fun t => t.waits.length)).getD 0

/-- Cache groups that hold the newest data of some blocks of a namespace. -/
def CacheS.groupsFor (c : CacheS) (nsid : Nat) (ls : List Nat) : List Dword :=
  (c.groups.filter (fun e => e.2.visible && e.2.nsid == nsid && e.2.slots.any (fun x => !x.super && ls.contains x.lba))).map
    (fun e => BitVec.ofNat 32 e.1)

/-- A read with FUA waits until every block it covers is on media, and its cached blocks are forced there (02 R53). -/
def State.fuaHolds (s : State) (f : RwFields) : List Dword :=
  if f.fua then s.cache.groupsFor f.nsid.toNat (lbasOf f.slba (rwLen f)) else []

/-- Look up the blocks of a reading tag that nothing is fetching yet, issue the die reads they need, and ask for the cords
of blocks that no die supplies (04 R108). -/
def State.resolveBlocks (s : State) (tag : Nat) (t : TagE) (f : RwFields) (n : NsS) : State :=
  let busy := s.flash.inflight tag
  let cls := t.cls
  let dest := deliversTo t.cmd t.cntl.port
  let r := (byUnit (t.waits.filter (fun l => !(busy.contains l)))).foldl (unitStep tag f.nsid.toNat f.slba n t) (s, [])
  let now := t.waits.length - r.1.host.waitsOf tag
  (byPage r.2).foldl (fun a e => a.issueRead (readOp e.1 (e.2.map Prod.fst) (classQueue cls) (.host tag e.2)) (cls = 0) dest)
    (r.1.askTag tag now t.cntl.port (cls = 0) dest)

/-- The same for the command of a tag. -/
def State.resolveRead (s : State) (tag : Nat) : State :=
  match sget s.host.tags tag with
  | none => s
  | some t =>
    match readFields t.cmd with
    | none => s
    | some f =>
      match s.nvm.ns f.nsid.toNat with
      | none => s
      | some n =>
        match s.fuaHolds f with
        | [] => s.resolveBlocks tag t f n
        | qs => (s.modTag tag (fun x => { x with groups := qs })).forceSets (fun w => w.holdsGroup qs)

/-! ## Delivery -/

/-- DMA contexts in all (R104). -/
abbrev ctxCount : Nat := 256

/-- DMA engines of each kind (R103). -/
abbrev engineCount : Nat := 16

/-- The lowest engine of a kind on which no context runs. -/
def LandS.freeEngine (l : LandS) (writes : Bool) : Option Nat :=
  ((List.range engineCount).map (fun i => if writes then engineCount + i else i)).find? (fun e => !l.ctxs.any (fun c => c.2.engine == some e))

/-- A command's host transfer leaves Landing: it is a read of any kind but Compare. -/
def transferWrites : NvmeCmd → Bool
  | .read _ => true
  | .orderedRead _ => true
  | .gatherRead _ => true
  | _ => false

/-- A command's contexts run on write engines: its data goes to the host, or from Landing into the write cache (R103, R122). -/
def TagE.movesOut (t : TagE) : Bool := t.toCache || transferWrites t.cmd

/-- Start contexts of a command as far as idle ones allow: each carries at most 128 KiB of its host transfer (R524), runs on an engine of
its own where one is free, and keeps the poison policy of this moment (R138). -/
def startCtxs : Nat → State → Nat → State
  | 0, s, _ => s
  | fuel + 1, s, tag =>
    match sget s.host.tags tag with
    | none => s
    | some t =>
      if t.ctxLeft = 0 then s
      else
        match (List.range ctxCount).find? (fun n => (sget s.land.ctxs n).isNone) with
        | none => s
        | some n =>
          let s1 := s.modTag tag (fun x => { x with ctxLeft := x.ctxLeft - 1 })
          let w := t.movesOut
          let c : CtxS := { tag := some tag, fence := false, notify := true, engine := if s.govHolds 4 then none else s1.land.freeEngine w, writes := w,
                            forward := decide (s.par P.DMA_POISON_POLICY = 1) }
          startCtxs fuel { s1 with land := { s1.land with ctxs := sput n c s1.land.ctxs } } tag

/-- Contexts that wait for an engine take the free ones, in the order of their numbers (R104). -/
def LandS.runCtxs (l : LandS) : LandS :=
  (l.ctxs.filter (fun (e : Nat × CtxS) => e.2.engine.isNone && !e.2.fence)).foldl (fun (a : LandS) (e : Nat × CtxS) =>
    match a.freeEngine e.2.writes with
    | some k => { a with ctxs := smod e.1 (fun c => { c with engine := some k }) a.ctxs }
    | none => a) l

/-- Begin the host transfer of a command of so many blocks. -/
def State.beginTransfer (s : State) (tag blocks : Nat) : State :=
  let n := (blocks + 31) / 32
  startCtxs n (s.modTag tag (fun t => { t with ctxLeft := n })) tag

/-- The command has contexts running or yet to start. -/
def State.transferring (s : State) (tag : Nat) : Bool :=
  s.land.ctxs.any (fun e => e.2.tag == some tag) || ((sget s.host.tags tag).map (fun t => t.ctxLeft != 0)).getD false

/-- Blocks of a reading tag that have no cord yet: those that the write cache or no medium supplied. -/
def TagE.uncorded (t : TagE) (f : RwFields) : List Nat := (lbasOf f.slba (rwLen f)).filter (fun l => (sget t.cordOf l).isNone)

/-- The blocks that no die supplied go into the command's own cords, one in each. What the write cache holds is written there, with the marks that its
lines carry (04 R108, R133); an UNMAPPED block is delivered from a cord that nothing has been written into (R108). -/
def State.loadCords (s : State) (tag : Nat) (t : TagE) (f : RwFields) : State :=
  let used := t.cordOf.map Prod.snd
  let free := (s.land.cordsOf (.tag tag)).filter (fun c => !used.contains c)
  let pairs := free.zip (t.uncorded f)
  let land := pairs.foldl (fun (l : LandS) e => match sget t.marks e.2, (t.got[e.2 - f.slba]?).getD none with
    | some bad, some b => l.setBlockMarked e.1 b (fun i => bad.contains i)
    | _, _ => l) s.land
  ({ s with land := land }).modTag tag (fun x => { x with cordOf := pairs.foldl (fun m (e : Nat × Nat) => sput e.2 e.1 m) x.cordOf })

/-- The host's data of a Compare has cords of its own after those of the blocks. -/
def State.loadCompare (s : State) (tag : Nat) (f : RwFields) : State :=
  match sget s.host.tags tag with
  | none => s
  | some t =>
    let used := t.cordOf.map Prod.snd
    { s with land := s.land.setBlocks ((s.land.cordsOf (.tag tag)).filter (fun c => !used.contains c)) f.data }

/-- Every block of a reading tag has its outcome: a failure completes it; otherwise its host transfer begins, which delivers the blocks of
a Read and pulls the host's data of a Compare (R119; 02 R52). -/
def State.readArrived (s : State) (tag : Nat) : State :=
  match sget s.host.tags tag with
  | none => s
  | some t =>
    if t.phase != .running || !t.waits.isEmpty || s.land.tagWaits tag || s.transferring tag then s
    else
      match readFields t.cmd with
      | none => s
      | some f =>
        match t.failure with
        | some st => s.failTag tag st
        | none =>
          let s1 := s.loadCords tag t f
          (match t.cmd with
          | .compare _ => s1.loadCompare tag f
          | _ => s1).beginTransfer tag (rwLen f)

/-- Resolve and, where nothing is waited for any more, go on. -/
def State.continueRead (s : State) (tag : Nat) : State := (s.resolveRead tag).readArrived tag

/-- Every running read tries its waiting blocks again: a leaf has arrived, a channel serves again, an entry changed. -/
def State.resumeReads (s : State) : State :=
  ((s.host.tags.filter (fun e => e.2.phase == .running && !e.2.waits.isEmpty && (readFields e.2.cmd).isSome)).map
    Prod.fst).foldl (fun a t => a.continueRead t) s

/-- An FTL core of a grove has work pending (03 R94): a leaf that a command waits for, a deallocation's group, or the placement of data that a
command waits to see on media. -/
def State.ftlPending (s : State) (g : Grove) : Bool :=
  s.map.pages.any (fun e => e.2.missing.isSome && groveOf e.1 == g) ||
  (s.map.grove g).groups.any (fun x => match x.why with
    | .dealloc t => t.isSome
    | _ => false) ||
  s.host.tags.any (fun e => e.2.phase == .running && waitsMedia e.2.cmd && !e.2.groups.isEmpty &&
    (((ioNsid e.2.cmd).bind (fun n => s.nvm.ns n.toNat)).map (fun n => (s.domsFor n.stand).any (fun d => d.grove == g))).getD false)

/-- Where the end of an operation's last slice on a grove's cores is noted. -/
def sliceKey (g : Grove) (k : Nat) : Nat := g.val * 65536 + k

/-- The next slice waits: commands are pending on the grove's cores, and QUE_SLICE_GAP_US has not passed since the last one (03 R94). -/
def State.sliceHeld (s : State) (g : Grove) (k : Nat) : Bool :=
  s.ftlPending g && ((sget s.nvm.sliceEnd (sliceKey g k)).map (fun t => decide (s.now < t + s.par P.QUE_SLICE_GAP_US * 1000))).getD false

/-- A slice has ended. -/
def State.sliceEnds (s : State) (g : Grove) (k : Nat) : State :=
  { s with nvm := { s.nvm with sliceEnd := sput (sliceKey g k) s.now s.nvm.sliceEnd } }

/-- Contexts have become idle, or the governor lets go: those that wait for an engine run, and commands that wait for a context take one. The
governor may hold the issue to engines (13 R382). -/
def State.feedCtxs (s : State) : State :=
  (s.host.tags.filter (fun e => e.2.ctxLeft != 0)).foldl (fun a e => startCtxs e.2.ctxLeft a e.1) { s with land := if s.govHolds 4 then s.land else s.land.runCtxs }

end Sys2Proof.Machine
end

