-- ==== Sys2Proof/Machine/PlpOps.lean ====
section
/-! DEFINITION. Power-loss protection (09 R285 to R291): dumping groves, dump sets and their capacity, the PLP state and
what a change of it does. -/

namespace Sys2Proof.Machine

/-! ## Dump sets (R290) -/

/-- Dies of a die row that are present. -/
def State.rowDies (s : State) (r : Nat) : Nat :=
  (below 8 (fun c =>
    let ch := s.flash.chan (r / 16 * 8 + c)
    !ch.recRetired && ch.inUse (r % 16))).length

/-- The shared domain of a grove. -/
def sharedDom (g : Nat) : DomId := { grove := ⟨g % 8, by omega⟩, owner := none }

/-- A dumping grove holds a shared die row with at least 3 present dies. -/
def State.dumping (s : State) (g : Nat) : Bool := (s.domRows (sharedDom g)).any (fun r => decide (3 ≤ s.rowDies r))

/-- The dumping groves, ascending. -/
def State.dumpGroves (s : State) : List Nat := below 8 s.dumping

/-- The grove whose dump sets take a slab. -/
def State.dumpGroveOf (s : State) (slab : Nat) : Option Nat := s.dumpGroves[slab % max 1 s.dumpGroves.length]?

/-- Codewords that a dump set must hold: 128 slots and a header for each of its slabs. -/
def State.dumpNeed (s : State) : Nat :=
  let g := s.dumpGroves.length
  if g = 0 then 0 else 129 * ((s.slabs + g - 1) / g)

/-- Codewords that row blocks hold in SLC mode. -/
def State.slcRoom (s : State) (rbs : List Nat) : Nat :=
  (rbs.map (fun rb => ((s.members rb).length - 1) * 16 * s.wordlines)).sum

/-- A dump set holds what it must. -/
def State.dumpEnough (s : State) (x : DumpSet) : Bool := x.present && decide (s.dumpNeed ≤ s.slcRoom x.rbs)

/-- The dump sets of a grove. -/
def PlpS.dumpRec (p : PlpS) (g : Nat) : DumpRec := vget p.sets g { a := DumpSet.absent, b := DumpSet.absent }
/-- Change the dump sets of a grove. -/
def PlpS.modSets (p : PlpS) (g : Nat) (f : DumpRec → DumpRec) : PlpS := { p with sets := vmod p.sets g f }
/-- A set of a grove: 0 is A, 1 is B. -/
def DumpRec.get (r : DumpRec) (w : Nat) : DumpSet := if w = 0 then r.a else r.b
/-- Replace a set of a grove. -/
def DumpRec.put (r : DumpRec) (w : Nat) (x : DumpSet) : DumpRec := if w = 0 then { r with a := x } else { r with b := x }

/-- The row blocks that may join a dump set. -/
def State.dumpFree (s : State) (rb : Nat) : Bool := s.rbIsFree rb && !(s.reserved.contains rb)

/-- A run of consecutive FREE row blocks of a die row, long enough and at most 8, that ends at the highest n below a
bound. -/
def State.findRun (s : State) (r bound : Nat) : Option (Nat × Nat) :=
  ((List.range bound).reverse.flatMap (fun last => (List.range 8).map (fun k => (last - k, k + 1)))).find? (fun x =>
    let rbs := (List.range x.2).map (fun i => rbKey r (x.1 + i))
    rbs.all s.dumpFree && decide (s.dumpNeed ≤ s.slcRoom rbs))

/-- A chosen set: its row blocks have SLC set. -/
def State.makeSet (s : State) (g w r : Nat) (run : Nat × Nat) : State :=
  let x : DumpSet := { present := true, state := .free, row := r, blk := run.1, cnt := run.2, epoch := 0, slabs := [] }
  let m := x.rbs.foldl (fun m rb => m.setSlc rb true) s.media
  { s with media := m, plp := s.plp.modSets g (fun d => d.put w x) }

/-- A set of a grove is given up: its row blocks are no longer kept for SLC. -/
def State.dropSet (s : State) (g w : Nat) : State :=
  { s with media := ((s.plp.dumpRec g).get w).rbs.foldl (fun (m : MediaS) rb => m.setSlc rb false) s.media,
           plp := s.plp.modSets g (fun d => d.put w DumpSet.absent) }

/-- A set of a grove must be replaced: it is FREE, and one of its row blocks is RETIRED. -/
def State.setSpent (s : State) (g w : Nat) : Bool :=
  let x := (s.plp.dumpRec g).get w
  x.present && x.state == .free && x.rbs.any (fun rb => decide (recState (s.media.rbRec rb) = rbRetired))

/-- The FREE sets that a grove gives up: those that must be replaced, and every one of a grove that dumps no longer (R290). -/
def State.dropSpent (s : State) (g : Nat) : State :=
  [0, 1].foldl (fun (a : State) w =>
    let x := (a.plp.dumpRec g).get w
    if a.setSpent g w || (x.present && x.state == .free && !(a.dumping g)) then a.dropSet g w else a) s

/-- Choose the sets that a dumping grove lacks: set A at the highest n of its shared die row with the most present
members, set B below it. -/
def State.chooseDumpSets (s : State) (g : Nat) : State :=
  [0, 1].foldl (fun (a : State) w =>
    if ((a.plp.dumpRec g).get w).present || !(a.dumping g) then a
    else
      match a.widestRow (sharedDom g) a.dumpFree with
      | none => a
      | some r =>
        match a.findRun r a.rbCount with
        | some run => a.makeSet g w r run
        | none => a) s

/-- A set that has become too small takes the next FREE row block of its die row (R290): the one just above it, else the one just below, so that a set
stays one run (the model's choice, log entry 105). -/
def State.extendSet (s : State) (g w : Nat) : State :=
  let x := (s.plp.dumpRec g).get w
  if x.present && !(s.dumpEnough x) && decide (x.cnt < 8) then
    let above := rbKey x.row (x.blk + x.cnt)
    let below' := rbKey x.row (x.blk - 1)
    if s.dumpFree above && decide (x.blk + x.cnt < s.rbCount) then
      { s with media := s.media.setSlc above true, plp := s.plp.modSets g (fun d => d.put w { x with cnt := x.cnt + 1 }) }
    else if decide (0 < x.blk) && s.dumpFree below' then
      { s with media := s.media.setSlc below' true, plp := s.plp.modSets g (fun d => d.put w { x with blk := x.blk - 1, cnt := x.cnt + 1 }) }
    else s
  else s

/-! ## The PLP state (Table 9-5) -/

/-- Every dumping grove has a FREE set. -/
def State.dumpReady (s : State) : Bool :=
  s.dumpGroves.all (fun g => [0, 1].any (fun w =>
    let x := (s.plp.dumpRec g).get w
    x.present && x.state == .free))

/-- The dies of every channel are known: it has been identified since power-on, or is RETIRED. -/
def State.diesKnown (s : State) : Bool := s.flash.chans.toList.all (fun c => c.identified || c.recRetired)

/-- A set of a dumping grove cannot be made sufficient, or no grove is dumping. Nothing is known of that before the dies are, nor of the sets before
start-up has read or chosen them. -/
def State.dumpLost (s : State) : Bool :=
  s.diesKnown && (s.dumpGroves.isEmpty || ((s.dev.phase == .running || s.dev.mapDone == 255) &&
    s.dumpGroves.any (fun g => [0, 1].any (fun w => !(s.dumpEnough ((s.plp.dumpRec g).get w))))))

/-- The state that the conditions of Table 9-5 give. -/
def State.plpWanted (s : State) : PlpState :=
  if s.par P.PLP_MODE = 0 then .off
  else if s.plp.passed = some false || s.dumpLost then .lost
  else if s.plp.passed = none || !s.dumpReady || s.dev.mapDone != 255 then .pending
  else .armed

/-- A change of the PLP state: the event of R285, the notice of 02 R50, and forced placement on leaving ARMED (R288). -/
def State.plpTo (s : State) (st : PlpState) : State :=
  if s.plp.state == st then s
  else
    let old := s.plp.state
    let s1 := { s with plp := { s.plp with state := st } }
    let s2 := s1.record (if st == .lost then sevError else sevNotice) 0x0E01 (plpCode st) (plpCode old)
    let s3 := s2.nsChanged s2.nvm.attachedCtrls []
    if old == .armed then s3.forceSets (fun _ => true) else s3

/-- Take the state that the conditions give. -/
def State.recheckPlp (s : State) : State := s.plpTo s.plpWanted

/-- Every dump set is made larger as far as it needs and can be: at most 8 row blocks (R290). -/
def State.extendSets (s : State) : State :=
  (List.range 8).foldl (fun a g => (List.range 7).foldl (fun b _ => (b.extendSet g 0).extendSet g 1) a) s

/-- Every grove gives up the sets that it no longer needs, and chooses those that it lacks, once the maps stand (R290). -/
def State.replaceSets (s : State) : State :=
  if s.dev.mapDone == 255 then (List.range 8).foldl (fun a g => (a.dropSpent g).chooseDumpSets g) s else s

/-- After a member loss every dump set is checked: replaced where it must be, and made larger where it can be (R290). -/
def State.recheckDumps (s : State) : State := (s.replaceSets.extendSets).recheckPlp

/-- The hold-up that the integrator must give a dump, in ns: C in MiB, the lowest channel rate in MT/s, and the dies in use (R294). -/
def holdUpNs (mib rate dies : Nat) : Nat :=
  7000000 + mib * (550000 + max (4460000 * 4800 / max 1 rate) (4950000 * 1024 / max 1 dies)) / 1024

end Sys2Proof.Machine
end

