-- ==== Sys2Proof/Machine/DumpOps.lean ====
section
/-! DEFINITION. The power-loss dump (09 R292 to R296): its steps as far as they leave a trace, and the redirection of slabs
whose grove has no FREE dump set. -/

namespace Sys2Proof.Machine

/-- The FREE dump set of a grove that a dump takes: set A first. -/
def PlpS.freeSet (p : PlpS) (g : Nat) : Option Nat :=
  [0, 1].find? (fun w => let x := (p.dumpRec g).get w
    x.present && x.state == .free)

/-- The groups that lie in a slab. -/
def CacheS.inSlab (c : CacheS) (slab : Nat) : Sparse CGroup := c.groups.filter (fun e => e.2.slab == slab)

/-- The slabs of the write cache, ascending: every one has its header dumped (step 6 of Table 9-8). -/
def State.allSlabs (s : State) : List Nat := List.range s.slabs

/-- Codewords that a slab's slots take in a dump: those VALID and not SUPER (R293). -/
def CacheS.dumpSlots (c : CacheS) (slab : Nat) : Nat :=
  ((c.inSlab slab).map (fun e => (e.2.slots.filter (fun x => !x.super)).length)).sum

/-- Room left in the set that each grove has taken: grove and codewords. -/
abbrev DumpRoom := List (Nat × Nat)

/-- Room of a grove; none where it has taken no set. -/
def roomOf (r : DumpRoom) (g : Nat) : Option Nat := (r.find? (fun e => e.1 == g)).map Prod.snd
/-- Take room. -/
def takeRoom (r : DumpRoom) (g n : Nat) : DumpRoom := r.map (fun e => if e.1 = g then (g, e.2 - n) else e)
/-- The first grove after g, wrapping, whose set has room for n codewords. -/
def roomAfter (r : DumpRoom) (g n : Nat) : Option Nat :=
  ((List.range 8).map (fun i => (g + 1 + i) % 8)).find? (fun h => match roomOf r h with
    | some x => decide (n ≤ x)
    | none => false)

/-- The groves that take a set, with its room. -/
def State.dumpRooms (s : State) : DumpRoom :=
  s.dumpGroves.filterMap (fun g => (s.plp.freeSet g).map (fun w => (g, s.slcRoom ((s.plp.dumpRec g).get w).rbs)))

/-- Where one slab goes: the grove of its set, and whether it is its header alone. -/
structure SlabPlace where
  slab : Nat
  grove : Nat
  nodata : Bool
  deriving DecidableEq, Repr

/-- Slabs whose own grove has taken a set. -/
def State.ownSlabs (s : State) (rooms : DumpRoom) : List Nat :=
  s.allSlabs.filter (fun i => ((s.dumpGroveOf i).bind (roomOf rooms)).isSome)

/-- The room left after every grove's own slabs. -/
def State.roomAfterOwn (s : State) (rooms : DumpRoom) : DumpRoom :=
  (s.ownSlabs rooms).foldl (fun r i => takeRoom r ((s.dumpGroveOf i).getD 0) (1 + s.cache.dumpSlots i)) rooms

/-- The headers of the redirected slabs are placed before any slot of one (R296). -/
def placeHeaders (s : State) (slabs : List Nat) (r : DumpRoom) : DumpRoom × List (Nat × Nat) :=
  slabs.foldl (fun (a : DumpRoom × List (Nat × Nat)) i =>
    match roomAfter a.1 ((s.dumpGroveOf i).getD 0) 1 with
    | some g => (takeRoom a.1 g 1, a.2 ++ [(i, g)])
    | none => a) (r, [])

/-- The slots of the redirected slabs: where they find room, else the header alone with NODATA. The header may lie in another grove's set than the slots
(the model's choice, log entry 104). -/
def placeSlots (s : State) (hs : List (Nat × Nat)) (r : DumpRoom) : List SlabPlace :=
  (hs.foldl (fun (a : DumpRoom × List SlabPlace) e =>
    let n := s.cache.dumpSlots e.1
    match roomAfter a.1 ((s.dumpGroveOf e.1).getD 0) n with
    | some g => (takeRoom a.1 g n, a.2 ++ [{ slab := e.1, grove := g, nodata := false }])
    | none => (a.1, a.2 ++ [{ slab := e.1, grove := e.2, nodata := true }])) (r, [])).2

/-- Where every slab goes. -/
def State.dumpPlan (s : State) : List SlabPlace :=
  let rooms := s.dumpRooms
  let own := (s.ownSlabs rooms).map (fun i => { slab := i, grove := (s.dumpGroveOf i).getD 0, nodata := false })
  let others := s.allSlabs.filter (fun i => !((s.dumpGroveOf i).bind (roomOf rooms)).isSome)
  let h := placeHeaders s others (s.roomAfterOwn rooms)
  own ++ placeSlots s h.2 h.1

/-- Add a slab's header to the set that its grove has taken. -/
def State.dumpHeader (s : State) (p : SlabPlace) : State :=
  match s.plp.freeSet p.grove with
  | none => s
  | some w =>
    let x : DumpSlab := { slab := p.slab, nodata := p.nodata, stored := false, groups := s.cache.inSlab p.slab }
    { s with plp := s.plp.modSets p.grove (fun d => let y := d.get w
        d.put w { y with slabs := y.slabs ++ [x] }) }

/-- The set that a grove takes, with the members of its row blocks as they are now. -/
def State.takeSet (s : State) (g : Nat) : State :=
  match s.plp.freeSet g with
  | none => s
  | some w => { s with plp := s.plp.modSets g (fun d => let x := d.get w
      d.put w { x with took := x.rbs.map (fun rb => (rb, s.members rb)) }) }

/-- The staging of a grove's dump programs: a wordline's four plane pages of 4 cords for each member of the set's die row, from the channels'
reservations (04 R109, R113). -/
def State.askDump (s : State) (g : Nat) : State :=
  match s.plp.freeSet g with
  | none => s
  | some w =>
    let rb := (((s.plp.dumpRec g).get w).rbs.head?).getD 0
    (s.members rb).foldl (fun (a : State) c => (List.range 4).foldl (fun (b : State) _ =>
      b.askCords { user := .dump g, res := .chan (chanOf (rbDch rb c)), count := 4, l0 := false, port := none }) a) s

/-- The groves that have a FREE set. -/
def State.takers (s : State) : List Nat := s.dumpRooms.map Prod.fst

/-- Steps 2 to 4 of Table 9-8: fetching stops, the PLP record shows a dump under way, each grove takes a FREE set, and its programs ask for cords. -/
def State.dumpBegin (s : State) : State :=
  let p := { s.plp with dumping := true, filtering := false, testing := false, epoch := s.plp.epoch + 1,
                        recDumping := true, hdrDone := false }
  let s1 := { s with host := { s.host with stopFetch := true }, plp := p }
  s.takers.foldl (fun a g => (a.takeSet g).askDump g) s1

/-- The headers have been written as far as sets have room for them: no set is FREE, or one that a grove has taken holds some. -/
def State.headersOut (s : State) : Bool :=
  s.dumpRooms.all (fun e => match s.plp.freeSet e.1 with
    | some w => !((s.plp.dumpRec e.1).get w).slabs.isEmpty
    | none => true)

/-- Step 6: every slab header is on media, where some set is FREE. HDRDONE says that all have found room. -/
def State.dumpHeaders (s : State) : State :=
  if s.dumpRooms.isEmpty then s
  else
    let plan := s.dumpPlan
    let s1 := plan.foldl (fun a p => a.dumpHeader p) s
    { s1 with plp := { s1.plp with hdrDone := decide (plan.length = s.slabs) } }

/-- A set that a grove has taken becomes DUMPED with the epoch, its slots on media (steps 7 and 8). -/
def DumpSet.dumpedAt (x : DumpSet) (e : Qword) : DumpSet :=
  { x with state := .dumped, epoch := e, slabs := x.slabs.map (fun b => if b.nodata then b else { b with stored := true }) }

/-- Steps 7 and 8. With a header that found no set, DUMPING and HDRDONE stay as they are, and R300 applies at the next start-up (R296). -/
def State.dumpSlotsOut (s : State) : State :=
  let s1 := s.dumpRooms.foldl (fun (a : State) e =>
    match s.plp.freeSet e.1 with
    | some w => { a with plp := a.plp.modSets e.1 (fun d => d.put w ((d.get w).dumpedAt s.plp.epoch)) }
    | none => a) s
  let s2 := s.takers.foldl (fun (a : State) g => a.freeCords (.dump g)) s1
  { s2 with plp := { s2.plp with dumping := false, recDumping := !s.plp.hdrDone, dumped := true } }

/-- DRAM enters self-refresh with its pads latched, where training has passed (11 R342). -/
def State.selfRefresh (s : State) : State :=
  if s.dram.ready then
    { s with dram := { s.dram with selfRefresh := true, chans := s.dram.chans.map (fun (c : DramChS) => { c with retrain := none }) }
             dev := { s.dev with latchDram := true } }
  else s

/-- Flash, DRAM and GPIO pads are latched as in PS4. -/
def State.latchPads (s : State) : State :=
  let s1 := s.selfRefresh
  { s1 with dev := { s1.dev with latchFlash := true, latchGpio := true, wpN := 0 } }

/-- Step 9: flash, DRAM and GPIO pads are latched as in PS4, and the N640 halts until a device reset (R295). -/
def State.dumpHalt (s : State) : State :=
  let s1 := s.latchPads
  { s1 with dev := { s1.dev with halted := true } }

/-- Steps 2 to 8 in one, for a controlled stop (11 R340). While BOOTING there is nothing to dump (Table 9-9). -/
def State.dumpAll (s : State) : State :=
  if s.plp.dumped || s.dev.phase != .running then s else (s.dumpBegin).dumpHeaders.dumpSlotsOut

/-- A controlled stop (11 R340): a FATAL event unless its cause has just recorded one, the dump, and FAILED, halted at step 9 with the pads latched
(R297). The Naile port answers on, as it does in FAILED (00 Table 0-6; log entry 140). -/
def State.controlledStop (s : State) (dramCh : Option Nat) : State :=
  let s1 := match dramCh with
    | some c => s.recordHw srcDram sevFatal 0x1006 c
    | none => s
  let s2 := s1.dumpAll
  (if s2.plp.dumped then s2.latchPads else s2).fail

end Sys2Proof.Machine
end

