-- ==== Sys2Proof/Machine/PowerOps.lean ====
section
/-! DEFINITION. Power states (13 R379 to R385): the choice of the state, the conditions of entry, what entry does, and the
return from PS3; how a debug session closes (14 R414, R417). -/

namespace Sys2Proof.Machine

/-! ## Debug session (14 R414, R417) -/

/-- A session closes: halted cores resume, and the event names the cause (Table 17-9). -/
def State.closeSession (s : State) (cause : Nat) : State :=
  match s.sec.session with
  | none => s
  | some _ => ({ s with sec := { s.sec with session := none } }).recordBy srcAon sevNotice 0x0503 cause

/-! ## Management checkpoint (15 R423) -/

/-- The active complex writes the older copy and its pointer. -/
def State.checkpoint (s : State) : State :=
  { s with mgmt := s.mgmt.checkpoint }

/-! ## The choice of the state (R380, R381) -/

/-- PFs whose controller has CC.EN set. -/
def State.enabledPfs (s : State) : List Port := (List.finRange 2).filter (fun p => (s.host.func p.pf.val).en)
/-- Q(p). -/
def PwrS.q (w : PwrS) (p : Port) : Nat := if p = 0 then w.q0 else w.q1
/-- O(p). -/
def PwrS.o (w : PwrS) (p : Port) : Nat := if p = 0 then w.o0 else w.o1

/-- An accepted command counts as outstanding; an Asynchronous Event Request, which waits for an event by design, does not
(log entry 16). -/
def TagE.busy (t : TagE) : Bool := t.cmd != .asyncEventRequest

/-- A sliced operation of 03 Table 3-3 is in progress. -/
def State.slicesRun (s : State) : Bool :=
  !s.nvm.ops.isEmpty || s.nvm.sanAction != 0 || s.nvm.stands.any (fun e => e.2.state != .active) ||
    s.map.groves.toList.any (fun (g : GroveMap) => g.gen.isSome) ||
    s.media.doms.any (fun d => d.victims.any (fun v => !v.copying.isEmpty)) ||
    s.flash.ops.any (fun e => match e.2.why with
      | .thin _ _ => true
      | .eraseOf _ => true
      | _ => false) ||
    s.flash.chans.toList.any (fun c => c.state == .training || c.waiting.isSome) || s.flash.dies.any (fun e => e.2.retraining || 0 < e.2.drift) ||
    s.dram.chans.toList.any (fun c => c.retrain.isSome)

/-- Work of the first rung of 10 Table 10-8 is pending. -/
def State.rungOne (s : State) : Bool :=
  s.anyRebuild || s.media.info.any (fun e => e.2.relocate && recState (s.media.rbRec e.1) == rbClosed) ||
    s.flash.dies.any (fun e => e.2.check && !e.2.recent.isEmpty) || s.map.groves.toList.any (fun m => m.logHigh)

/-- entry_conditions of R381 for PS3 or PS4. -/
def State.entryConditions (s : State) (t : Nat) : Bool :=
  !(s.host.tags.any (fun e => e.2.busy)) && !s.slicesRun && !s.rungOne && !s.plp.dumping && !s.plp.testing &&
    decide (s.host.lastTlp + s.par P.PWR_IDLE_ENTRY_MS * 1000000 ≤ s.now) &&
    (t != 4 || (List.finRange 2).all (fun p => (s.host.port p).l1 || !(s.host.port p).linkUp)) &&
    (s.devState == 1 || s.devState == 2 || s.devState == 3) && !s.holdAwake && s.mgmt.handover.isNone &&
    s.plp.pwrFailN && !s.dev.halted

/-- The deepest state that the operator and the PFs allow. -/
def State.allowedState (s : State) : Nat :=
  s.enabledPfs.foldl (fun t p => min t (s.pwr.q p)) (s.par P.PWR_DEEPEST_ALLOWED)

/-- The shallowest O(p), bounded by the operator: an operational state. -/
def State.operState (s : State) : Nat :=
  let o := match s.enabledPfs.map (fun p => s.pwr.o p) with
    | [] => 0
    | x :: t => t.foldl min x
  min o (s.par P.PWR_DEEPEST_ALLOWED)

/-- choose_state of R380. -/
def State.chooseState (s : State) : Nat :=
  let t := s.allowedState
  if 3 ≤ t then
    if s.entryConditions t && s.pwr.thermal == 0 then t else max s.operState s.pwr.thermal
  else max t s.pwr.thermal

/-! ## Leaving PS3, and abandoning an entry -/

/-- Keep Alive timers stop, or run again from now. -/
def HostS.holdTimers (h : HostS) (held : Bool) (now : Nat) : HostS :=
  { h with funcs := smap (fun _ f => if held then { f with keepAliveHeld := true }
    else if f.keepAliveHeld then { f with keepAliveHeld := false, keepAliveFrom := now } else f) h.funcs }

/-- Fetching resumes on every queue. -/
def State.resumeFetch (s : State) : State :=
  let s1 := { s with host := ({ s.host with stopFetch := false }).holdTimers false s.now }
  (s1.host.sqs.map Prod.fst).foldl (fun a k =>
    if h : k / 65536 < 256 then a.fetchQueue ⟨k / 65536, h⟩ (k % 65536) else a) s1

/-- An entry under way is abandoned (R381); PS3 is left for the operational state (R386). -/
def State.leaveIdle (s : State) : State :=
  if s.pwr.entering || s.pwr.ps = 3 then
    let ps := if s.pwr.ps = 3 then max s.operState s.pwr.thermal else s.pwr.ps
    ({ s with pwr := { s.pwr with ps := ps, entering := false } }).resumeFetch
  else s

/-- The state is evaluated again (R380): an operational state is taken at once, and PS3 or an entry under way ends where it
is no longer the choice. Entry is POWER_STATE_ENTRY's. In MGMT_LOST nothing changes, and while BOOTING nothing is
evaluated (R381). PS4 is left by a wake alone (R386). -/
def State.recheckPower (s : State) : State :=
  if s.mgmtLost || s.dev.phase != .running || s.isFailed || s.dev.halted || s.pwr.ps = 4 || s.pwr.patrol then s
  else
    let c := s.chooseState
    if c < 3 then
      let s1 := s.leaveIdle
      { s1 with pwr := { s1.pwr with ps := c } }
    else if s.pwr.ps = 3 then s
    else { s with pwr := { s.pwr with ps := max s.operState s.pwr.thermal } }

/-- A TLP crosses a link: the idle time starts afresh (R381), and PS3 or an entry under way ends. A TLP crosses in L0. -/
def State.touchLink (s : State) : State :=
  let h := s.host
  ({ s with host := { h with lastTlp := s.now, port0 := { h.port0 with l1 := false }, port1 := { h.port1 with l1 := false } } }).recheckPower

/-- A link that has been idle for PWR_IDLE_ENTRY_MS enters L1 under ASPM where PS4 is wanted (log entry 17). -/
def State.restLinks (s : State) : State :=
  if s.allowedState = 4 && decide (s.host.lastTlp + s.par P.PWR_IDLE_ENTRY_MS * 1000000 ≤ s.now) then
    let h := s.host
    { s with host := { h with port0 := { h.port0 with l1 := h.port0.linkUp }, port1 := { h.port1 with l1 := h.port1.linkUp } } }
  else s

/-! ## Entry (R383 to R385) -/

/-- Step 2 of Table 13-6 is done: every cache block is placed and committed, and no program or erase runs. -/
def State.quiet (s : State) : Bool :=
  s.cache.groups.isEmpty && !(s.flash.ops.any (fun e => e.2.isProgram || e.2.kind == .erase))

/-- Steps 1 and 2: fetching stops, Keep Alive timers are suspended, and the cache is placed. -/
def State.beginEntry (s : State) : State :=
  let s1 := { s with host := ({ s.host with stopFetch := true }).holdTimers true s.now,
                     pwr := { s.pwr with entering := true } }
  s1.forceSets (fun _ => true)

/-- An update is abandoned: its area is protected again (16 R457). -/
def State.dropUpdate (s : State) : State :=
  if s.nor.upd.state = 1 ∨ s.nor.upd.state = 2 then
    { s with nor := { s.nor with upd := Update.none, unprotected := none } }
  else s

/-- PS3 (R383): steps 1 to 3, then domains are gated; the debug session closes (Table 14-15). -/
def State.enterPs3 (s : State) : State :=
  let s1 := s.checkpoint.closeSession 3
  { s1 with pwr := { s1.pwr with ps := 3, entering := false } }

/-- A die's sequencer with nothing queued and nothing running. -/
def DieS.emptied (d : DieS) : DieS :=
  { d with q1 := [], q2 := [], q3 := [], q4 := [], q5 := [], held := [], running := none, nestedRun := none, planeOps := [],
           reissue := [] }

/-- Sequencers with empty queues. -/
def FlashS.emptied (f : FlashS) : FlashS :=
  { f with ops := [], softWait := [], softBusy := [], dies := smap (fun _ d => d.emptied) f.dies,
           chans := f.chans.map (fun (c : ChanS) => { c with bus := [] }) }

/-- What PS4 does not keep (R384): Landing, key registers, sequencer queues, connections and pending reports. -/
def State.losePowered (s : State) : State :=
  { s with
    land := { s.land with lines := [], grants := [], waiting := [], ctxs := [], lag := [], copies := [], reports := [], tlps := [] }
    flash := s.flash.emptied
    nvm := { s.nvm with nss := smap (fun _ n => { n with keyLoaded := false }) s.nvm.nss }
    sec := { s.sec with rwk := none }
    naile := { s.naile with resp := none, busy := false, waiting := none, chunk := none, alerts := [], ovf := false, err := false,
                            errcode := 0, last := none }
    bus := { s.bus with spdm := Vector.replicate 3 SpdmS.idle }
    mgmt := { s.mgmt with snaps := [] } }

/-- PS4 (R383, Table 13-6, steps 3 to 8): checkpoint and bulk save, debug session closed, flash, DRAM and GPIO pads latched,
DRAM in self-refresh, PLL off. The timer of the next patrol wake starts. -/
def State.enterPs4 (s : State) : State :=
  let s1 := s.checkpoint.dropUpdate.closeSession 3
  let s2 := s1.losePowered.selfRefresh
  { s2 with
    dev := { s2.dev with validSave := true, latchFlash := true, latchGpio := true, wpN := 0,
                         clkCtrl := setField s2.dev.clkCtrl 31 1 0 }
    pwr := { s2.pwr with ps := 4, entering := false, patrol := false,
                         patrolDue := s2.now + s2.par P.PWR_RETENTION_PATROL_H * 3600000000000 } }

end Sys2Proof.Machine
end

