-- ==== Sys2Proof/Machine/RespOps.lean ====
section
/-! DEFINITION. Responses of the Naile port (16 R444 to R446) and raw codewords (16 R448). -/

namespace Sys2Proof.Machine

/-- A response ends the execution of a request: BUSY clears, RESP is set, and the request becomes the last executed one
(R445). -/
def NaileS.respond (n : NaileS) (f : Frame) (typ len value : Nat) : NaileS :=
  { n with busy := false, resp := some { seq := f.seq, typ := typ, len := len, value := value },
           last := some (f.seq, f.bytes), waiting := none, chunk := none }

/-- A success response: TYPE of the request plus 80h. -/
def State.naileOk (s : State) (f : Frame) (typ len value : Nat) : State :=
  { s with naile := s.naile.respond f (typ + 0x80) len value }

/-- The failure payload of Table 16-4. -/
def State.failPayload (s : State) (cls code param : Nat) : Nat :=
  cls + code * 2 ^ 8 + param * 2 ^ 16 + s.devState * 2 ^ 32

/-- A failure response (R446). -/
def State.naileFail (s : State) (f : Frame) (cls code param : Nat) : State :=
  { s with naile := s.naile.respond f 0xFE 8 (s.failPayload cls code param) }

/-- FIELD. -/
abbrev nfField : Nat := 0x01
/-- TYPE. -/
abbrev nfType : Nat := 0x02
/-- NOT_SERVED. -/
abbrev nfNotServed : Nat := 0x03
/-- PERMISSION. -/
abbrev nfPermission : Nat := 0x04
/-- BUSY. -/
abbrev nfBusy : Nat := 0x05
/-- SEQUENCE. -/
abbrev nfSequence : Nat := 0x06
/-- HEADER. -/
abbrev nfHeader : Nat := 0x07
/-- KEY. -/
abbrev nfKey : Nat := 0x08
/-- SIGNATURE. -/
abbrev nfSignature : Nat := 0x09
/-- RELEASE_FLOOR. -/
abbrev nfReleaseFloor : Nat := 0x0A
/-- SVN_FLOOR. -/
abbrev nfSvnFloor : Nat := 0x0B
/-- DIGEST. -/
abbrev nfDigest : Nat := 0x0C
/-- NOR. -/
abbrev nfNor : Nat := 0x0D
/-- NO_IMAGE. -/
abbrev nfNoImage : Nat := 0x0E
/-- ACTIVATION. -/
abbrev nfActivation : Nat := 0x0F

/-- A number from its bytes, the first the least significant. -/
def fromBytes (bs : List Nat) : Nat := bs.foldr (fun b a => b % 256 + 256 * a) 0

/-- A number of `w` bytes as a list of bytes, the least significant first. -/
def toBytes (w v : Nat) : List Nat := (List.range w).map (fun i => v / 256 ^ i % 256)

/-- Answer a RAW_DIAG with an outcome of Table 8-4 and no data. -/
def State.rawOutcome (s : State) (f : Frame) (outcome : Nat) : State := s.naileOk f 0x50 4 outcome

end Sys2Proof.Machine
end

