-- ==== Sys2Proof/Machine/NaileOps.lean ====
section
/-! DEFINITION. The Naile port at work (16 R443 to R449): the responder, what it serves, the link checks, the retry rule, and
requests that stay BUSY. -/

namespace Sys2Proof.Machine

/-- Who answers on the port (Table 16-7). -/
inductive Responder where
  | none | svc | mgmt | rom
  deriving DecidableEq, Repr

/-- The responder of the moment. -/
def State.responder (s : State) : Responder :=
  match s.dev.phase with
  | .inReset => .none
  | .stopped => .none
  | .rom => .svc
  | .recovery => .rom
  | _ => if s.pwr.ps = 4 || s.dev.halted then .none else if s.mgmt.lost then .svc else .mgmt

/-- RESPONDER of Table 16-8. -/
def Responder.code : Responder → Nat
  | .rom => 1
  | .svc => 2
  | _ => 0

/-- A transaction as Table 16-7 tells them apart. -/
inductive Tx where
  | param | reconfig | image | commit (op : Nat) | tally (tier : Nat) | health | debug | stand | raw | recovery
  deriving DecidableEq, Repr

/-- The recovery level: RECOVERY_STATUS, and TALLY_READ of the AON ring (R449). -/
def Tx.recoveryLevel : Tx → Bool
  | .recovery => true
  | .tally t => t == 0
  | _ => false

/-- What the ROM serves beside it. -/
def Tx.inRom : Tx → Bool
  | .image => true
  | .debug => true
  | .commit op => op == 1 || op == 2 || op == 4
  | _ => false

/-- What is served in FAILED. -/
def Tx.inFailed : Tx → Bool
  | .health => true
  | .tally _ => true
  | .recovery => true
  | _ => false

/-- What is not served while BOOTING. -/
def Tx.notBooting : Tx → Bool
  | .reconfig => true
  | .stand => true
  | .commit _ => true
  | _ => false

/-- The transaction is served (Table 16-7). -/
def State.served (s : State) (t : Tx) : Bool :=
  match s.responder with
  | .none => false
  | .svc => t.recoveryLevel
  | .rom => t.recoveryLevel || t.inRom
  | .mgmt => if s.isFailed then t.inFailed else if s.isBooting then !t.notBooting else true

/-- A request stays BUSY until takeover, or until the halted core resumes (R449). -/
def State.naileWaits (s : State) : Bool :=
  s.responder == .mgmt && ((match s.mgmt.handover with
    | some h => !h.oldRuns
    | none => false) || !s.mgmt.runs || s.mgmtHalted)

/-- A WRITE_FRAME is discarded at the link (R443, R445). -/
def NaileS.discard (n : NaileS) (code : Nat) : NaileS := { n with err := true, errcode := code }

/-- A request that has passed the link checks: the last WRITE_FRAME was not discarded, and the response before it is no
longer readable. -/
def NaileS.accept (n : NaileS) : NaileS := { n with err := false, errcode := 0, resp := none, busy := true }

/-- The request is identical to the last executed one (R445). -/
def NaileS.isRetry (n : NaileS) (f : Frame) : Bool := n.last == some (f.seq, f.bytes) && n.resp.isSome

/-- Execute a request whose link checks have passed: NOT_SERVED, then FIELD for a reserved field or a malformed payload,
then its own work. -/
def State.runRequest (s : State) (f : Frame) (t : Tx) (run : State → State) : State :=
  if !s.served t then s.naileFail f 0 nfNotServed 0
  else if f.rsvd then s.naileFail f 0 nfField 0
  else run s

/-- An accepted request ends PS3 (13 R386) and keeps an update alive (Table 16-15). -/
def State.acceptFrame (s : State) : State :=
  let s1 := s.leaveIdle
  { s1 with naile := s1.naile.accept, nor := { s1.nor with upd := { s1.nor.upd with lastFrame := s1.now } } }

/-- A request frame reaches the port (R445, R449). -/
def State.request (s : State) (i : Instr) (f : Frame) (t : Tx) (run : State → State) : State :=
  if s.responder == .none then s
  else if s.naile.busy then { s with naile := s.naile.discard 3 }
  else if s.naile.isRetry f then { s with naile := { s.naile with err := false, errcode := 0 } }
  else
    let s1 := s.acceptFrame
    if s1.naileWaits then { s1 with naile := { s1.naile with waiting := some i } }
    else s1.runRequest f t run

end Sys2Proof.Machine
end

