-- ==== Sys2Proof/Machine/CfgOps.lean ====
section
/-! DEFINITION. Configuration records (18 R487 to R499): the checks of a record, the values that would result, the rules
across parameters, and the checks of a Sweaz image. -/

namespace Sys2Proof.Machine

/-! ## Records (R487, R489, Table 18-3) -/

/-- A note, which is ignored. -/
def recNote (r : CfgRec) : Bool := r.typ == 2

/-- The instance of a record is one its parameter has, or FFh on an array. -/
def instOk (d : PDef) (inst : Nat) : Bool :=
  match d.kind with
  | .single => inst == 0
  | k => inst == 0xFF || decide (inst < k.count)

/-- A record names a parameter of the format, one of its instances, by its own length and within its range (check 7). -/
def recValueOk (r : CfgRec) : Bool :=
  match paramDef r.id with
  | none => false
  | some d => instOk d r.inst && r.len == d.bytes && d.range.ok r.value

/-- Another record of the list names the same parameter and the same instance (R487). -/
def repeated (rs : List CfgRec) (r : CfgRec) : Bool :=
  decide (1 < (rs.filter (fun x => !recNote x && x.id == r.id && x.inst == r.inst)).length)

/-- Check 7 on one record of an image. -/
def recImageOk (rs : List CfgRec) (r : CfgRec) : Bool :=
  !r.rsvd && (if recNote r then r.id == 0 && decide (r.len ≤ 256) else r.typ == 1 && recValueOk r && !repeated rs r)

/-- A record names a parameter of this access. -/
def recAccess (r : CfgRec) (a : PAccess) : Bool := ((paramDef r.id).map (fun d => d.access == a)).getD false

/-! ## Values that result -/

/-- Set one instance; a default is not listed. -/
def setVal (vals : Sparse Nat) (id inst v : Nat) : Sparse Nat := sputD (paramDefault id) (paramKey id inst) v vals

/-- Apply one record to every instance it names. -/
def applyVal (vals : Sparse Nat) (r : CfgRec) : Sparse Nat :=
  match paramDef r.id with
  | none => vals
  | some d =>
    if r.inst = 0xFF then (List.range d.kind.count).foldl (fun a i => setVal a r.id i r.value) vals
    else setVal vals r.id r.inst r.value

/-- The values that result from some records: a record for one instance governs it whatever the order (R487). -/
def applyRecs (vals : Sparse Nat) (rs : List CfgRec) : Sparse Nat :=
  let ps := rs.filter (fun r => r.typ == 1)
  (ps.filter (fun r => r.inst != 0xFF)).foldl applyVal ((ps.filter (fun r => r.inst == 0xFF)).foldl applyVal vals)

/-- A value of a table of values. -/
def valOf (vals : Sparse Nat) (id inst : Nat) : Nat := (sget vals (paramKey id inst)).getD (paramDefault id)

/-! ## Rules across parameters (Table 18-5) -/

/-- DRM_POPULATION gives a supported capacity and sets nothing reserved (11 R326, Table 11-3): x4 devices hold twice what
x8 devices hold; 4 GiB per subchannel and rank at x8 and 8 Gbit. -/
def populationOk (v : Nat) : Bool :=
  let half := v / 128 % 2
  let ranks := v / 64 % 2 + 1
  let dens := v / 16 % 4
  let x8 := v / 8 % 2
  let per := 4 * 2 ^ dens * (if x8 = 1 then 1 else 2)
  let total := per * ranks * (if half = 1 then 8 else 16)
  decide (v / 256 = 0 ∧ v % 8 = 0 ∧ dens ≠ 3) && decide (32 ≤ total ∧ total ≤ 256)

/-- Sum of an array parameter over its instances. -/
def sumVals (vals : Sparse Nat) (id n : Nat) : Nat := ((List.range n).map (fun i => valOf vals id i)).sum

/-- The fuse map drives no level on this GPIO. -/
def FuseS.gpioFree (f : FuseS) (n : Nat) : Bool := !f.gpioDrive.getLsbD n
/-- The fuse map drives this GPIO low. -/
def FuseS.gpioLow (f : FuseS) (n : Nat) : Bool := f.gpioDrive.getLsbD n && !f.gpioLevel.getLsbD n

/-- The rules R41, R76, R140, R211, R248, R305 and R326, in order, each with its parameters. -/
def ruleList (f : FuseS) (vals : Sparse Nat) : List (Bool × List Nat) :=
  let v := fun id => valOf vals id 0
  [ (decide (2 * (v P.HST_PF_IO_QUEUES + 127 * v P.HST_VF_IO_QUEUES) ≤ 8192), [P.HST_PF_IO_QUEUES, P.HST_VF_IO_QUEUES]),
    (decide (v P.QUE_ADMIN_TAG_RESERVE + v P.QUE_L0_TAG_RESERVE ≤ 32768), [P.QUE_ADMIN_TAG_RESERVE, P.QUE_L0_TAG_RESERVE]),
    (decide (sumVals vals P.LND_CHAN_RESERVE 64 + sumVals vals P.LND_PORT_RESERVE 2 + v P.LND_GATHER_RESERVE ≤ 28672),
      [P.LND_CHAN_RESERVE, P.LND_PORT_RESERVE, P.LND_GATHER_RESERVE]),
    (decide (v P.MED_SPARE_CRITICAL < v P.MED_SPARE_WARN), [P.MED_SPARE_WARN, P.MED_SPARE_CRITICAL]),
    (decide (v P.CHN_DIE_FAULT_LIMIT < v P.CHN_FAULT_LIMIT), [P.CHN_FAULT_LIMIT, P.CHN_DIE_FAULT_LIMIT]),
    (decide (v P.PLP_TEST_MIN_MS < v P.PLP_TEST_MAX_MS) && v P.PLP_HU_TEST_GPIO != v P.PLP_HU_LOW_GPIO &&
        f.gpioFree (v P.PLP_HU_LOW_GPIO) && !f.gpioLow (v P.PLP_HU_TEST_GPIO),
      [P.PLP_TEST_MIN_MS, P.PLP_TEST_MAX_MS, P.PLP_HU_TEST_GPIO, P.PLP_HU_LOW_GPIO]),
    (populationOk (v P.DRM_POPULATION), [P.DRM_POPULATION]) ]

/-- DIE_LDPC_RATE 1 asks for 2,416 spare bytes on every die of the row (08 R269; RECONFIG only). -/
def State.spareOk (s : State) (vals : Sparse Nat) : Bool :=
  (List.range 128).all (fun r => valOf vals P.DIE_LDPC_RATE r != 1 ||
    (List.range 8).all (fun c =>
      let d := sget s.flash.dies ((r / 16 * 8 + c) * 16 + r % 16)
      match d with
      | some x => !x.used || decide (2416 ≤ x.spareBytes)
      | none => true))

/-- The lowest of the IDs that a record carries among those of the four conditions. Which ID is reported when one of them fails, the spec does not say
(the model's choice, log entry 103). -/
def carriedId (rs : List CfgRec) (ids : List Nat) : Nat :=
  match (rs.map (fun r => r.id)).filter (fun i => ids.contains i) with
  | [] => 0
  | x :: t => t.foldl min x

/-- The parameters of the first broken rule. -/
def firstBroken (l : List (Bool × List Nat)) : Option (List Nat) := (l.find? (fun x => !x.1)).map Prod.snd

/-! ## Checking an image (R490) -/

/-- Why an image is turned away: the check of Table 18-4 and the offending ID; older asks for defaults (R464). -/
inductive CfgVerdict where
  | accepted
  | older
  | rejected (check id : Nat)
  deriving DecidableEq, Repr

/-- Checks 7 to 9 on the records of an image. -/
def FuseS.checkRecs (f : FuseS) (rs : List CfgRec) : CfgVerdict :=
  match rs.find? (fun r => !recImageOk rs r) with
  | some r => .rejected 7 r.id
  | none =>
    match rs.find? (fun r => recAccess r .mirror || recAccess r .action) with
    | some r => .rejected 8 r.id
    | none =>
      match firstBroken (ruleList f (applyRecs [] rs)) with
      | some ids => .rejected 9 (carriedId rs ids)
      | none => .accepted

/-- The operator configuration key: fused in SEALED and RMA, the header's own below. -/
def FuseS.cfgKeyOk (f : FuseS) (d : BitVec 384) : Bool := decide (f.lc < 2) || d == f.cfgDigest

/-- Checks 1 to 5 of Table 18-4, with the digest of the record area as it was read. -/
def FuseS.headChecks (f : FuseS) (h : SweazHeader) (area : BitVec 384) : Option Nat :=
  if !h.wellFormed || 1044480 < h.length || h.length % 8 ≠ 0 then some 1
  else if h.chipid ≠ 0 ∧ h.chipid ≠ f.chipid then some 2
  else if !f.cfgKeyOk h.keyDigest then some 3
  else if !(h.ecdsaOk && h.lmsOk) then some 4
  else if area ≠ h.digest then some 5
  else none

/-- Checks 7 to 9 on a record area. Records that do not fill it (R489) fail check 7, with ID 0 (log entry 116). -/
def FuseS.checkArea (f : FuseS) (h : SweazHeader) : CfgVerdict := if h.parses then f.checkRecs h.recs else .rejected 7 0

/-- All checks of an image against a running CFGFMT (R490, R525). -/
def FuseS.checkImage (f : FuseS) (h : SweazHeader) (area : BitVec 384) (cfgFmt : Nat) : CfgVerdict :=
  match f.headChecks h area with
  | some n => .rejected n 0
  | none =>
    if cfgFmt < h.format then .rejected 6 0
    else if h.format < cfgFmt then .older
    else f.checkArea h

/-! ## RECONFIG (R495 to R498) -/

/-- A well-formed reconfiguration record. -/
def reconfigForm (r : ReconfigRec) : Bool :=
  r.wellFormed

/-- An entry is refused on its own (R496, R498). -/
def State.entryRefused (s : State) (rs : List CfgRec) (r : CfgRec) : Bool :=
  !recValueOk r || recAccess r .mirror || repeated rs r ||
    ((paramDef r.id).map (fun d => d.cls == .boot)).getD true ||
    (decide (s.par P.CFG_RECONFIG_LOCK = 1) && !recAccess r .action) ||
    (recAccess r .action && decide (rs.length ≠ 1))

/-- The rules of Table 18-5 on the values that result. -/
def State.rulesFor (s : State) (rs : List CfgRec) : List (Bool × List Nat) :=
  let vals := applyRecs s.params.vals rs
  ruleList s.fuses vals ++ [(s.spareOk vals, [P.DIE_LDPC_RATE])]

/-- The ID that a rejection names; none where the record is accepted. -/
def State.refusedId (s : State) (rs : List CfgRec) : Option Nat :=
  match rs.find? (s.entryRefused rs) with
  | some r => some r.id
  | none => (firstBroken (s.rulesFor rs)).map (carriedId rs)

end Sys2Proof.Machine
end

