-- ==== Sys2Proof/Machine/Records.lean ====
section
/-! DEFINITION. The records of heartwood and of the NOR as they are written: channel and grove records, condemned entries, slab headers, dump-set and PLP
records, the key table and the security area, the Tally's records, selector copies and sector headers (07 to 09, 14, 16, 17), the partitions of heartwood
(09 Tables 9-1 and 9-2) and the layout of the NOR (16 R452). -/

namespace Sys2Proof.Machine

/-! ## Heartwood (09 R278 to R280) -/

/-- A partition of heartwood (Table 9-1). -/
inductive Partition where
  | journal | blockState | tallyTier | checkpoint | counters | retirement | reserved
  deriving DecidableEq, Repr

/-- Offset and bytes of a partition. -/
def Partition.place : Partition → Nat × Nat
  | .journal => (0x0000000, 0x1000000)
  | .blockState => (0x1000000, 0x400000)
  | .tallyTier => (0x1400000, 0x400000)
  | .checkpoint => (0x1800000, 0x200000)
  | .counters => (0x1A00000, 0x100000)
  | .retirement => (0x1B00000, 0x200000)
  | .reserved => (0x1D00000, 0x300000)

/-- Where heartwood keeps a record: the journal ring's slots (05 R155), row-block records (06 R190), tier records, and the counters partition (Tables 9-2,
14-4, 17-6). -/
inductive Kept where
  | journal (g : Grove) (slot : Nat)
  | rowBlock (r : DieRow) (n : Nat)
  | tierRecord (i : Nat)
  | rootPointer (g : Grove) (newer : Bool)
  | wearPointer (g : Grove) (newer : Bool)
  | channel (c : Chan)
  | grove (g : Grove)
  | dumpSets (g : Grove)
  | plp
  | tallyDrops
  | tseqRes
  | condemned (i : Nat)
  | rebuildBitmap (g : Grove)
  | rateBitmap
  | lmsState
  | releaseFloor
  | intent
  | sanitize
  | monotonic
  | chain
  | lmsCert
  deriving DecidableEq, Repr

/-- The offset of a record in heartwood. -/
def Kept.offset : Kept → Nat
  | .journal g slot => g.val * 0x200000 + 32 * slot
  | .rowBlock r n => 0x1000000 + 2 * (r.val * 16384 + n)
  | .tierRecord i => 0x1400000 + 32 * i
  | .rootPointer g newer => 0x1A00000 + 64 * g.val + (if newer then 32 else 0)
  | .wearPointer g newer => 0x1A00200 + 64 * g.val + (if newer then 32 else 0)
  | .channel c => 0x1A00400 + 32 * c.val
  | .grove g => 0x1A00C00 + 16 * g.val
  | .dumpSets g => 0x1A00C80 + 32 * g.val
  | .plp => 0x1A00D80
  | .tallyDrops => 0x1A00DA0
  | .tseqRes => 0x1A00DC0
  | .condemned i => 0x1A01000 + 4 * i
  | .rebuildBitmap g => 0x1A08000 + 0x8000 * g.val
  | .rateBitmap => 0x1A48000
  | .lmsState => 0x1A88000
  | .releaseFloor => 0x1A88020
  | .intent => 0x1A88040
  | .sanitize => 0x1A88060
  | .monotonic => 0x1A88080
  | .chain => 0x1A88100
  | .lmsCert => 0x1A89100

/-- A 32-byte record: 28 bytes and their CRC-32C. -/
def withCrc (b : BitVec 224) : BitVec 256 := crc32c 28 b ++ b

/-- A 32-byte record passes its check; all ones, as an uncorrectable unit reads (R279), does not. -/
def crcHolds (x : BitVec 256) : Bool := x.extractLsb' 224 32 == crc32c 28 (x.extractLsb' 0 224)

/-! ## Flash (07, 08) -/

/-- A channel record (Table 7-8). -/
def ChanS.word (c : ChanS) : BitVec 256 :=
  withCrc (c.upsets ++ c.faultsLife ++ c.failed ++ c.usedDies ++ c.retires ++ c.rcause ++ (0 : BitVec 120) ++ c.recRate ++ (0 : BitVec 2) ++
    BitVec.ofNat 2 (if c.recRetired then 1 else 0))

/-- A grove record (Table 7-9). -/
def GroveRec.word (g : GroveRec) : BitVec 128 :=
  let b : BitVec 96 := g.lostcw ++ (0 : BitVec 61) ++ BitVec.ofBool g.degraded ++ BitVec.ofBool g.bmvalid ++ BitVec.ofBool g.rebuild
  crc32c 12 b ++ b

/-- A condemned entry (Table 8-5); a free one reads VALID 0. -/
def condemnedWord : Option (Nat × Nat) → BitVec 32
  | none => 0
  | some e => (1 : BitVec 1) ++ BitVec.ofNat 3 e.1 ++ BitVec.ofNat 7 (e.2 / 16384) ++ BitVec.ofNat 14 e.2 ++ (0 : BitVec 7)

/-! ## Persistence (09) -/

/-- A slot entry of the write cache (Table 9-4). -/
def slotWord (gseq : Nat) (g : CGroup) (x : CSlot) : BitVec 128 :=
  BitVec.ofNat 32 gseq ++ (0 : BitVec 8) ++ BitVec.ofNat 7 (g.count - 1) ++ (0 : BitVec 7) ++ BitVec.ofNat 10 (g.nsid - 1) ++ BitVec.ofNat 40 x.lba ++
    (0 : BitVec 20) ++ BitVec.ofBool x.super ++ BitVec.ofBool x.poison ++ BitVec.ofBool g.isSealed ++ (1 : BitVec 1)

/-- The slots in use of a slab, with the slot number. -/
def slabEntries (l : Sparse CGroup) (slab : Nat) : List (Nat × BitVec 128) :=
  (l.filter (fun e => e.2.slab == slab)).flatMap (fun e => e.2.slots.map (fun x => (x.slot, slotWord e.1 e.2 x)))

/-- A slab header (Table 9-3): in DRAM with EPOCH, GROVE and NODATA 0. -/
def slabHead (nvalid slab : Nat) (epoch : Qword) (g : Nat) (nodata : Bool) : BitVec 512 :=
  let b : BitVec 480 := (0 : BitVec 224) ++ epoch ++ BitVec.ofNat 32 slab ++ (0 : BitVec 23) ++ BitVec.ofBool nodata ++ BitVec.ofNat 8 nvalid ++
    (0 : BitVec 53) ++ BitVec.ofNat 3 g ++ (1 : BitVec 8) ++ (0 : BitVec 32) ++ (0x43534C42 : BitVec 32)
  crc32c 60 b ++ b

/-- The 4,096 bytes of a slab header with its slot entries; an unused slot is zero, and so are bytes 2,112 to 4,095 (R281). -/
def slabBlock (l : Sparse CGroup) (slab : Nat) (epoch : Qword) (g : Nat) (nodata : Bool) : Block :=
  let es := slabEntries l slab
  let body : BitVec 16384 := joinWords 16384 ((List.range 128).map (fun k => ((es.find? (fun e => e.1 == k)).map Prod.snd).getD (0 : BitVec 128)))
  (0 : BitVec 15872) ++ body ++ slabHead es.length slab epoch g nodata

/-- The slab header that DRAM holds. -/
def CacheS.slabBlock (c : CacheS) (slab : Nat) : Block := Machine.slabBlock c.groups slab 0 0 false

/-- STATE of a dump set. -/
def DumpState.code : DumpState → Nat
  | .free => 0
  | .dumped => 1
  | .replayed => 2
  | .erasing => 3

/-- The fields of one dump set, 26 bits (Table 9-6). -/
def DumpSet.bits (d : DumpSet) : BitVec 26 :=
  BitVec.ofNat 2 d.state.code ++ BitVec.ofNat 3 (d.cnt - 1) ++ BitVec.ofNat 7 d.row ++ BitVec.ofNat 14 d.blk

/-- A dump-set record (Table 9-6). -/
def DumpRec.word (r : DumpRec) : BitVec 256 :=
  withCrc (r.b.epoch ++ r.a.epoch ++ (0 : BitVec 18) ++ r.b.bits ++ r.a.bits ++ (0 : BitVec 26))

/-- The PLP record (Table 9-7). -/
def PlpS.word (p : PlpS) : BitVec 256 :=
  withCrc (p.epoch ++ (0 : BitVec 156) ++ BitVec.ofBool p.hdrDone ++ BitVec.ofBool p.recDumping ++ (0 : BitVec 2))

/-! ## Security (14) -/

/-- A key table entry over its wrapped key (Table 14-5); the CRC covers bytes 0 to 27 and 32 to 103. -/
def keyEntry (nsid : Nat) (n : NsS) (wrapped : BitVec 576) : BitVec 1024 :=
  let head : BitVec 224 := (0 : BitVec 128) ++ n.gen ++ (0 : BitVec 7) ++ BitVec.ofNat 7 n.stand.val ++ BitVec.ofNat 10 (nsid - 1) ++ (0 : BitVec 39) ++
    BitVec.ofBool n.keyValid
  (0 : BitVec 192) ++ wrapped ++ crc32c 100 (wrapped ++ head) ++ head

/-- The LMS state record (Table 14-4). -/
def SecS.lmsWord (x : SecS) : BitVec 256 := withCrc ((0 : BitVec 192) ++ BitVec.ofBool x.lmsDisabled ++ (0 : BitVec 5) ++ BitVec.ofNat 26 x.nextq)

/-- The lifecycle intent record. -/
def SecS.intentWord (x : SecS) : BitVec 256 := withCrc ((0 : BitVec 208) ++ BitVec.ofNat 8 x.step ++ BitVec.ofNat 8 x.target)

/-- The monotonic counters. -/
def SecS.counterWord (x : SecS) : BitVec 512 := (0 : BitVec 256) ++ x.ctrRefused ++ x.ctrSessions ++ x.ctrPin ++ x.ctrPor

/-- The sanitize record. -/
def NvmS.sanitizeWord (n : NvmS) : BitVec 256 :=
  withCrc ((0 : BitVec 160) ++ BitVec.ofNat 32 n.sanProgress ++ (0 : BitVec 16) ++ BitVec.ofNat 8 n.sanPhase ++ BitVec.ofNat 8 n.sanAction)

/-- The release-version floor record (16 R458). -/
def NorS.floorWord (n : NorS) : BitVec 256 := withCrc ((0 : BitVec 192) ++ n.floor)

/-! ## Tally (17 Table 17-6) -/

/-- The drop record: seven counters, severity 0 first. -/
def TallyS.dropWord (t : TallyS) : BitVec 256 := withCrc (joinWords 224 t.tier.drops.toList)

/-- The TSEQRES record. -/
def TallyS.resWord (t : TallyS) : BitVec 256 := withCrc ((0 : BitVec 192) ++ t.tseqRes)

/-! ## The NOR (16) -/

/-- A selector copy (Table 16-13). -/
def Selector.word (x : Selector) : BitVec 512 :=
  let b : BitVec 480 := (0 : BitVec 352) ++ x.seq ++ (0 : BitVec 22) ++ BitVec.ofNat 1 x.cfg ++ BitVec.ofNat 1 x.boot ++ (1 : BitVec 8) ++
    (0x534C4354 : BitVec 32)
  crc32c 60 b ++ b

/-- A selector copy as it is read: none where MAGIC, FMT or CRC is wrong or a reserved bit is set (R459). -/
def readSelector (w : BitVec 512) : Option Selector :=
  let b := w.extractLsb' 0 480
  if w.extractLsb' 480 32 != crc32c 60 b || b.extractLsb' 0 32 != 0x534C4354 || b.extractLsb' 32 8 != 1 || b.extractLsb' 128 352 != 0 ||
      b.extractLsb' 42 22 != 0 then none
  else some { seq := b.extractLsb' 64 64, boot := wfield b 40 1, cfg := wfield b 41 1 }

/-- A sector header (Table 16-11) with its flag. -/
def sectorHead (area sector : Nat) (flag : Byte) (stream : BitVec 524160) : BitVec 128 :=
  (0 : BitVec 8) ++ BitVec.ofNat 8 area ++ BitVec.ofNat 16 sector ++ crc32c 65520 stream ++ (0 : BitVec 24) ++ flag ++ (0x4E534543 : BitVec 32)

/-- The unfinished-erase flag of a sector counts as set (R454). -/
def sectorTorn (area sector : Nat) (head : BitVec 128) (stream : BitVec 524160) : Bool :=
  head.extractLsb' 32 8 != 0xA5 || head.extractLsb' 0 32 != 0x4E534543 || wfield head 112 8 != area || wfield head 96 16 != sector ||
    head.extractLsb' 64 32 != crc32c 65520 stream

/-- The layout that holds where no valid table does (Table 16-10): selectors, slots, configuration slots and the spare. -/
def defaultLayout : List Nat := [0x0002000, 0x0003000, 0x0100000, 0x2100000, 0x4100000, 0x4500000, 0x4900000]

/-- Bytes of the areas in the same order. -/
def areaSizes : List Nat := [0x1000, 0x1000, 0x2000000, 0x2000000, 0x400000, 0x400000, 0x2000000]

/-- The addresses in a layout table (Table 16-9). -/
def layoutAreas (w : BitVec 512) : List Nat := (List.range 7).map (fun i => wfield w (64 + 32 * i) 32)

/-- No two of some address ranges meet. -/
def rangesApart : List (Nat × Nat) → Bool
  | [] => true
  | x :: t => t.all (fun y => decide (x.1 + x.2 ≤ y.1 ∨ y.1 + y.2 ≤ x.1)) && rangesApart t

/-- A layout table at an address is valid (R452). -/
def layoutOk (at0 : Nat) (w : BitVec 512) : Bool :=
  let areas := layoutAreas w
  w.extractLsb' 0 32 == 0x4E4C5954 && w.extractLsb' 32 8 == 1 && w.extractLsb' 480 32 == crc32c 60 (w.extractLsb' 0 480) &&
    (areas.take 2).all (fun a => a % 4096 == 0) && (areas.drop 2).all (fun a => a % 65536 == 0) &&
    rangesApart ((0, 4096) :: (at0, 4096) :: areas.zip areaSizes)

/-- The address of an area by its code in UPDAREA: 0 slot A, 1 slot B, 2 and 3 the configuration slots, 4 the spare. -/
def NorS.areaBase (n : NorS) (area : Nat) : Nat := (if n.layoutDef then defaultLayout else layoutAreas n.layout).getD (area + 2) 0

/-! ## Naile frames (16 Table 16-3) -/

/-- The wire bytes of a response frame: header, payload and CRC-32C. -/
def Resp.wire (r : Resp) : BitVec (32 + (8 * r.len + 64)) :=
  let b : BitVec (8 * r.len + 64) := BitVec.ofNat (8 * r.len) r.value ++ (BitVec.ofNat 16 r.len ++ r.seq ++ (0 : BitVec 8) ++ BitVec.ofNat 8 r.typ)
  crc32c (r.len + 8) b ++ b

/-- The wire bytes of an alert frame: its TYPE is F0h, its SEQ the message's MSEQ. -/
def AlertFrame.wire (a : AlertFrame) : BitVec 352 :=
  let b : BitVec 320 := a.record ++ (32 : BitVec 16) ++ a.mseq ++ (0 : BitVec 8) ++ (0xF0 : BitVec 8)
  crc32c 40 b ++ b

end Sys2Proof.Machine
end

