-- ==== Sys2Proof/Machine/BootOps.lean ====
section
/-! DEFINITION. Device resets and boot (12 R350 to R372): what a reset clears, the release sequence, the slot check, the
configuration, and the start of firmware. -/

namespace Sys2Proof.Machine

/-! ## What a device reset clears (Table 12-1) -/

/-- A port through a reset: its link is down and its functions are gone; PERST# is a pin. -/
def PortS.afterReset (p : PortS) : PortS := { PortS.atReset with perst := p.perst }

/-- The front end is cleared. -/
def HostS.afterReset (h : HostS) : HostS :=
  { port0 := h.port0.afterReset, port1 := h.port1.afterReset, funcs := [], sqs := [], cqs := [], tags := [],
    retiredTags := [], nextAseq := 0, cfgAnswer := none, holdAdmin := false, stopFetch := false, rr := [], lastTlp := 0 }

/-- A namespace: its key leaves the key store, and without Persist Through Power Loss its reservations go (02 R66). -/
def NsS.afterReset (n : NsS) : NsS :=
  if n.ptpl then { n with keyLoaded := false, modeFrom := 0, detaching := [] }
  else { n with keyLoaded := false, modeFrom := 0, detaching := [], registrants := [], holder := none, rtype := none }

/-- Operations that had not begun, and deallocations, are lost with their commands (Table 3-4). -/
def NvmS.lostOps (n : NvmS) : Sparse SlicedOp := skeep (fun _ o => !o.begun || o.kind == .dealloc) n.ops

/-- Stand and namespace records live in heartwood; leases, charges and credits do not. -/
def NvmS.afterReset (n : NvmS) : NvmS :=
  let lost := n.lostOps.flatMap (fun e => e.2.nsids)
  let san := n.ops.any (fun e => e.2.begun && (e.2.kind == .sanitizeCrypto || e.2.kind == .sanitizeBlock))
  { n with
    sanFrom := 0
    sanAction := if san then n.sanAction else 0
    sanPhase := if san then n.sanPhase else 0
    sanProgress := if san then n.sanProgress else 0
    nss := smap (fun i x => let y := x.afterReset
      if lost.contains i then { y with mode := .normal } else y) n.nss
    stands := smap (fun _ x => { x with inflight := 0, rcredit := 0, wcredit := 0, refilled := 0 }) n.stands
    ops := smap (fun _ (o : SlicedOp) => { o with tag := none }) (skeep (fun _ o => o.begun && o.kind != .dealloc) n.ops)
    lease0 := LeaseS.none, lease1 := LeaseS.none }

/-- Landing is cleared; cords retired under 04 R136 stay so until power-on reset. -/
def LandS.afterReset (l : LandS) (por : Bool) : LandS :=
  { lines := [], grants := [], waiting := [], suspect := [], retired := if por then [] else l.retired, ctxs := [] }

/-- A grove of the map: its journal is in heartwood and flash; work in progress ends. -/
def GroveMap.afterReset (g : GroveMap) (lost : Bool) : GroveMap :=
  { g with gen := none, groups := [], spilling := false, spillLeft := [], wearLeft := [], wearLoc := none, restarting := false,
           inDram := g.inDram && !lost, taken := { trunk := [], leaves := [], dirs := [], heads := [], segs := [], locs := [] } }

/-- The map: DRAM holds trunk, leaves and leaf-page records, which are lost with it. -/
def MapS.afterReset (m : MapS) (lost : Bool) : MapS :=
  { m with
    trunk := if lost then [] else m.trunk
    leaves := if lost then [] else m.leaves
    pages := if lost then [] else smap (fun _ (g : LeafPage) => { g with missing := none, leased := false }) m.pages
    segs := if lost then [] else m.segs
    repairing := [], lostSlabs := []
    groves := m.groves.map (fun g => g.afterReset lost) }

/-- Placement: row-block records are in heartwood, erase counts return to the newest wear table, and what is in progress
ends (06 R191, R197). The closed_s of a row block keeps its value, which after power-on stands beside a now_s that starts again: its age then counts as 0
until now_s passes it (the spec gives no value; the model's choice, log entry 129). -/
def MediaS.afterReset (m : MediaS) (por lost : Bool) : MediaS :=
  { m with
    geom := if por then none else m.geom
    erases := if lost then m.wearTable else m.erases
    reads := if lost then [] else m.reads
    info := m.sets.foldl (fun t e => smod e.2.rb (fun i => { i with holes := i.holes ++ e.2.holes }) t) m.info
    points := [], sets := [], debts := [], lastDom := [], eraseFails := [], eraseBack := []
    doms := m.doms.map (fun (d : DomS) => { d with victims := [], cruise := [], cruisePos := 0, cruiseStart := 0,
                                                   cruiseLate := false, disturb := [] }) }

/-- A channel: at power-on it trains and its dies are identified again (07 R213, R245); after pin reset it restores the settings and the rate that
AON SRAM holds for it, where it has trained since power-on (R225). -/
def ChanS.afterReset (c : ChanS) (por : Bool) : ChanS :=
  let retired := c.recRetired && !por
  let back := !por && c.savedRate.isSome
  { c with state := if retired then .retired else .training, failedOnce := false, restoring := back && !retired, step := if back then 2 else 1,
           rate := if back then c.savedRate.getD c.rate else c.rate, savedRate := if por then none else c.savedRate, waiting := none,
           identified := c.identified && !por, serving := if por then 0 else c.serving, ceN := 15, lun := 0, rbN := true,
           faults := [], stuck := 0, bus := [] }

/-- A die's sequencer: power-on clears what its identification found and its step counts; its settings come back from AON SRAM. The pages programmed
since its last passing check are dropped unchecked: the spec does not say what becomes of them (the model's choice, log entry 131). -/
def DieS.afterReset (d : DieS) (saved : Delays) : DieS :=
  { d.emptied with retraining := false, check := false, recent := [], driftTries := 0, slices := 0, drift := 0, lastCheck := 0, delays := saved }

/-- Sequencers and decoders are cleared; what the dies hold and the heartwood tables stay. -/
def FlashS.afterReset (f : FlashS) (por : Bool) : FlashS :=
  { f with
    chans := f.chans.map (fun c => c.afterReset por)
    dies := if por then [] else smap (fun k d => d.afterReset ((sget f.saved k).getD Delays.none)) f.dies
    saved := if por then [] else f.saved
    first := if por then f.chans.toList.all (fun c => !c.recValid) else f.first
    ops := [], softWait := [], softBusy := []
    condemnWait := if por then [] else f.condemnWait
    tracked := if por then f.trackedTable else f.tracked }

/-- The aligned 1 MiB unit of a group. -/
def CGroup.unit (g : CGroup) : Nat := ((g.slots.head?).map (fun x => x.lba / 256)).getD 0

/-- A group that a pin reset leaves in the held cache: one in the index, or one whose command's groups of the same aligned 1 MiB unit are all sealed
(03 R92; 09 R299). -/
def CacheS.keptAtReset (c : CacheS) (g : CGroup) : Bool :=
  g.visible || (g.isSealed && c.groups.all (fun e => e.2.isSealed || e.2.tag != g.tag || e.2.nsid != g.nsid || e.2.unit != g.unit))

/-- The write cache lives in DRAM. Commands are gone; the controller that a group's write came through stands (03 R86). -/
def CacheS.afterReset (c : CacheS) (lost : Bool) : CacheS :=
  let kept := smap (fun _ (g : CGroup) => { g with tag := none, slots := g.slots.map (fun x => { x with inSet := false }) })
    (skeep (fun _ g => c.keptAtReset g) c.groups)
  { c with groups := if lost then [] else kept }

/-- Power-loss protection: dump sets and the PLP record are in heartwood. -/
def PlpS.afterReset (p : PlpS) (lost : Bool) : PlpS :=
  { p with state := .pending, testing := false, result := 0, tMs := 0, passed := none, filtering := false, dumping := false,
           dumped := false, testFrom := 0, replayBegun := false, replayed := if lost then 0 else p.replayed }

/-- The DRAM subsystem: contents survive in self-refresh only. -/
def DramS.afterReset (d : DramS) (por lost : Bool) : DramS :=
  { ready := false, rate := 0, lines := if lost then [] else d.lines, selfRefresh := !lost, filled := if lost then 0 else d.filled,
    chans := Vector.replicate 8 DramChS.atReset, retrainWait := [], ceRows := [], failing := none, tokens := [], scrubbed := 0,
    saved := if por then none else d.saved }

/-- Power states: the AON matcher and its address are kept by pin reset; SMART counts are in the checkpoint. -/
def PwrS.afterReset (w : PwrS) (por : Bool) : PwrS :=
  { w with ps := 0, q0 := 0, o0 := 0, q1 := 0, o1 := 0, thermal := 0, patrol := false, sclHeld := false, nackRest := false,
           smbusAddr := if por then none else w.smbusAddr, calibrated := if por then 0 else w.calibrated, entering := false,
           gov := 0, hotSince := none, levelSince := if por then 0 else w.levelSince }

/-- Security: keys, session, nonce and refusals go (Table 14-15); counters, LMS state and intent are in heartwood. -/
def SecS.afterReset (x : SecS) (por : Bool) : SecS :=
  { x with rwk := none, session := none, nonce := none, refusals := 0, tapIr := 0x01, tapOut := 0,
           lmsTimes := if por then [] else x.lmsTimes, sessionsSincePor := if por then 0 else x.sessionsSincePor }

/-- Management: no complex runs; MGMT-A is started by the ROM. -/
def MgmtS.afterReset (m : MgmtS) (por : Bool) : MgmtS :=
  { m with activeB := false, runs := false, lost := false, stby := 0, stbyFail := 0, stbyTime := 0, msgs := [], handover := none, ckptAt := 0,
           handovers := if por then 0 else m.handovers, hoFail := if por then 0 else m.hoFail,
           lastCause := if por then 0 else m.lastCause, lastResult := if por then 0 else m.lastResult,
           groveRetry := 0, groveRebuild := 0, rollout := none, rolloutNext := none, snaps := [] }

/-- The Naile port is cleared. -/
def NaileS.afterReset : NaileS :=
  { ovf := false, err := false, errcode := 0, busy := false, resp := none, last := none, alerts := [], statusOut := 0,
    respOut := none, alertOut := none, waiting := none, chunk := none }

/-- NOR contents stay; an update is abandoned, and every sector is protected again (16 R453, Table 16-15). -/
def NorS.afterReset (n : NorS) : NorS := { n with unprotected := none, upd := Update.none }

/-- The Tally: buckets start full; the ring is in AON SRAM; after power-on numbers go on from TSEQRES (17 R470, R474). -/
def TallyS.afterReset (t : TallyS) (por : Bool) : TallyS :=
  let t := { t with buckets := [], suppressed := 0, duplicates := 0 }
  if por then { t with ring := Tier.empty, lastMseq := none, recent := [], nextTseq := t.tseqRes } else t

/-- The management bus. -/
def BusS.afterReset (b : BusS) : BusS :=
  { spdm := Vector.replicate 3 SpdmS.idle, miStatus := 0, miLen := 0, miValue := 0, miConfig := [], changes := b.changes }

/-- Every parameter waits for the configuration. -/
def ParamS.cleared : ParamS :=
  { vals := [], staged := [], reconfigs := 0, imgVersion := 0, imgFormat := 0, hdrHash := 0, defaulted := false, imgKeyDigest := 0 }

/-- Reset, boot and pins: no unit runs; NOR_RST_N and WP_N go low; the AON latch is kept by pin reset (12 R356; Table 12-1). -/
def DevS.afterReset (d : DevS) (por : Bool) : DevS :=
  { d with phase := .inReset, failed := false, halted := false, bootStatus := 0, wpN := 0, norRstN := false, configured := false,
           mapDone := 0, replayDone := false, optValid := false, clkCtrl := 0,
           validTally := d.validTally && !por, validSave := d.validSave && !por, validDram := d.validDram && !por,
           validFlash := d.validFlash && !por, validLeaseKey := d.validLeaseKey && !por,
           latchFlash := d.latchFlash && !por, latchDram := d.latchDram && !por, latchGpio := d.latchGpio && !por,
           gpioDrive := if por then 0 else d.gpioDrive, gpioLevel := if por then 0 else d.gpioLevel }

/-- The reach of a device reset on every unit. Before a pin reset takes the DRAM controller, DRAM enters self-refresh where
the AON domain holds a valid training result (R351, 11 R342). -/
def State.clearUnits (s : State) (por : Bool) : State :=
  let lost := por || !(s.dram.selfRefresh || (s.dram.ready && s.dev.validDram))
  { s with
    time := if por then { ns := 0, frac := 0 } else s.time
    dev := { (s.dev.afterReset por) with latchDram := !lost }
    params := ParamS.cleared
    host := s.host.afterReset
    nvm := s.nvm.afterReset
    land := s.land.afterReset por
    map := s.map.afterReset lost
    media := s.media.afterReset por lost
    flash := s.flash.afterReset por
    cache := s.cache.afterReset lost
    plp := s.plp.afterReset lost
    dram := s.dram.afterReset por lost
    pwr := s.pwr.afterReset por
    sec := s.sec.afterReset por
    mgmt := s.mgmt.afterReset por
    naile := NaileS.afterReset
    nor := s.nor.afterReset
    tally := s.tally.afterReset por
    bus := s.bus.afterReset }

/-! ## Release (Table 12-3) -/

/-- The OPT code of Table 12-7 for what the reads returned (R359, R360). -/
def optCode (o : OptRead) : Nat :=
  if o.noAnswer then 1
  else if !o.magicFmtOk then 2
  else if !o.crcOk then 3
  else if o.rsvdBad || o.layout % 4096 != 0 || 16777216 ≤ o.layout || 3 < o.spimode then 4
  else if !o.secondOk then 5
  else 0

/-- The settings in force: the block's, the safe defaults, or after a second read that differs the block's ports and LAYOUT
with the safe read mode. -/
def optSettings (o : OptRead) : OptS :=
  let c := optCode o
  if c = 0 then { port0 := o.port0, port1 := o.port1, layout := o.layout, spimode := o.spimode, sckdiv := o.sckdiv,
                  addr4 := o.addr4, dummy := o.dummy }
  else if c = 5 then { OptS.safe with port0 := o.port0, port1 := o.port1, layout := o.layout }
  else OptS.safe

/-- The write cache is held in DRAM self-refresh from before the reset (CACHEHELD). -/
def State.holdsCache (s : State) : Bool := s.dram.selfRefresh && !s.cache.groups.isEmpty

/-- The cause register (Table 12-2). -/
def DevS.causeWord (d : DevS) : Dword :=
  BitVec.ofNat 32 ((if d.porSeen then 1 else 2) + bitIf (!d.porSeen && d.wasDeferred) 2)

/-- The release sequence. With the fuse map unreadable it stops after step 3, which only power-on reset retries (R355);
otherwise the option block is read and the ROM starts (R354, R359, R369). -/
def State.release (s : State) (fuseOk : Bool) (o : OptRead) : State :=
  let d := { s.dev with rstCause := s.dev.causeWord, porSeen := false, wasDeferred := false }
  if !fuseOk || (s.dev.fuseFail && !s.dev.porSeen) then
    { s with dev := { d with fuseFail := true, phase := .stopped } }
  else
    let status := optCode o + bitIf (!s.dev.recoverN) 7 + bitIf s.holdsCache 21
    { s with dev := { d with fuseFail := false, phase := .rom, opt := optSettings o, optValid := decide (optCode o = 0),
                             bootStatus := BitVec.ofNat 32 status, gpioDrive := s.fuses.gpioDrive,
                             gpioLevel := s.fuses.gpioLevel, wpN := 255, latchFlash := false, latchGpio := false, norRstN := true } }

/-! ## Slots (R364) -/

/-- An image slot by its number: 0 A, 1 B. -/
def NorS.slot (n : NorS) (w : Nat) : ImgSlot := if w = 0 then n.slotA else n.slotB
/-- A configuration slot. -/
def NorS.cfg (n : NorS) (w : Nat) : CfgSlot := if w = 0 then n.cfg0 else n.cfg1

/-- The floor in force; a bad record reads as 0 (16 R458). -/
def NorS.floorNow (n : NorS) : Nat := if n.floorBad then 0 else n.floor.toNat

/-- The image key that a header names: K0 is refused once REVOKE0 reads burned (14 R404). -/
def FuseS.imageKeyOk (f : FuseS) (h : ImageHeader) : Bool :=
  if h.keyId = 0 then !tripleBurned f.revoke0 && h.keyDigest == f.k0
  else decide (h.keyId = 1) && h.keyDigest == f.k1

/-- Load segments total at most 8 MiB, each a multiple of 4 KiB (16 R455). -/
def headerForm (h : ImageHeader) : Bool :=
  h.wellFormed && decide (h.mgmtLen % 4096 = 0 ∧ h.ftlLen % 4096 = 0 ∧ h.unitLen % 4096 = 0 ∧
    h.mgmtLen + h.ftlLen + h.unitLen ≤ 8388608 ∧ h.keyId ≤ 1 ∧ h.svn ≤ 128)

/-- Why a slot fails, coded as FAILA; 0 for a slot that passes. An unfinished erase is told first (Table 12-8). -/
def State.slotReason (s : State) (x : ImgSlot) : Nat :=
  if !x.complete then 7
  else match x.hdr with
    | none => 1
    | some h =>
      if !headerForm h then 1
      else if x.digest ≠ h.digest then 2
      else if !s.fuses.imageKeyOk h || !h.ecdsaOk then 3
      else if !h.lmsOk then 4
      else if h.release < s.nor.floorNow then 5
      else if h.svn < s.fuses.svn then 6
      else 0

/-! ## The twin selector (16 R459) -/

/-- The copy in force: the newer, or copy 0 of equals. -/
def NorS.selector (n : NorS) : Option Selector :=
  match n.sel0, n.sel1 with
  | none, x => x
  | x, none => x
  | some a, some b => if a.seq < b.seq then some b else some a

/-- The slots in the order the ROM tries them. -/
def NorS.bootOrder (n : NorS) : List Nat :=
  match n.selector with
  | some x => [x.boot % 2, 1 - x.boot % 2]
  | none => [0, 1]

/-- Try the slots in order: the one that passes, and the reasons noted (FAILA in bits 11 to 8, FAILB in bits 15 to 12). -/
def State.trySlots (s : State) (norAnswers : Bool) : List Nat → Nat × Option Nat
  | [] => (0, none)
  | w :: t =>
    let r := if norAnswers then s.slotReason (s.nor.slot w) else 8
    if r = 0 then (0, some w)
    else
      let x := s.trySlots norAnswers t
      (x.1 + r * 2 ^ (8 + 4 * w), x.2)

/-! ## Configuration (R366; 18 R490; 16 R464) -/

/-- The digest of a record area as read; a slot with an unfinished sector holds no image. -/
def CfgSlot.image (c : CfgSlot) : Option SweazHeader := if c.complete then c.hdr else none

/-- The verdict on a configuration slot. -/
def State.cfgVerdict (s : State) (w cfgFmt : Nat) : CfgVerdict :=
  match (s.nor.cfg w).image with
  | none => .rejected 1 0
  | some h => s.fuses.checkImage h (s.nor.cfg w).digest cfgFmt

/-- Configuration slots in the order they are tried. -/
def NorS.cfgOrder (n : NorS) : List Nat :=
  match n.selector with
  | some x => [x.cfg % 2, 1 - x.cfg % 2]
  | none => [0, 1]

/-- The FORMAT of the image in a slot, where it passes checks 1 to 5. -/
def State.formatOf (s : State) (w : Nat) : Option Nat :=
  match (s.nor.cfg w).image with
  | none => none
  | some h => if (s.fuses.headChecks h (s.nor.cfg w).digest).isNone then some h.format else none

/-- The outcome of the choice of a configuration: the slot accepted or found older, and the events of the slots turned away
(slot, ID, check). -/
structure CfgChoice where
  slot : Option Nat
  older : Bool
  events : List (Nat × Nat × Nat)
  deriving DecidableEq, Repr

/-- Try the configuration slots in order. -/
def State.tryCfgs (s : State) (cfgFmt : Nat) : List Nat → CfgChoice
  | [] => { slot := none, older := false, events := [] }
  | w :: t =>
    match s.cfgVerdict w cfgFmt with
    | .accepted => { slot := some w, older := false, events := [] }
    | .older => { slot := some w, older := true, events := [] }
    | .rejected c id =>
      let x := s.tryCfgs cfgFmt t
      { x with events := (w, id, c) :: x.events }

/-- CFG of Table 12-7. -/
def State.cfgCode (s : State) (c : CfgChoice) : Nat :=
  match c.slot with
  | none => 2
  | some w => if c.older then 3 else if s.nor.cfgOrder.head? = some w then 0 else 1

/-- The values and the identity that a choice leaves (R366, R491; Table 18-10). -/
def State.applyCfg (s : State) (c : CfgChoice) : State :=
  let fmt := ((s.nor.cfgOrder.filterMap (fun w => s.formatOf w)).head?).getD 0
  match c.slot, c.older with
  | some w, false =>
    match (s.nor.cfg w).image with
    | some h =>
      { s with
        params := { ParamS.cleared with vals := applyRecs [] h.recs, imgVersion := h.version, imgFormat := BitVec.ofNat 16 h.format,
                                        hdrHash := h.bodyHash, imgKeyDigest := h.keyDigest }
        nor := { s.nor with applied := some w } }
    | none => s
  | _, _ =>
    { s with params := { ParamS.cleared with imgFormat := BitVec.ofNat 16 fmt, defaulted := true }
             nor := { s.nor with applied := none } }

/-! ## Lifecycle transitions resumed at start-up (14 R396, R397) -/

/-- Steps 2 to 5 of a seal: the digests of the running configuration and the SEALED triple are burned, and the intent ends. -/
def State.burnSeal (s : State) : State :=
  { s with
    fuses := { s.fuses with cfgDigest := s.fuses.cfgDigest ||| s.params.imgKeyDigest
                            dbgDigest := s.fuses.dbgDigest ||| BitVec.ofNat 384 (s.par P.SEC_DEBUG_KEY_DIGEST)
                            sealedF := 3 }
    sec := { s.sec with target := 0, step := 0 } }

/-- Replace the lease MAC key: both leases end with cause 05h, and VERSION values start again (05 R172). -/
def State.newLeaseKey (s : State) : State :=
  let s1 := (s.stopLease 0 5).stopLease 1 5
  { s1 with map := { s1.map with leaseKey := s1.map.leaseKey + 1, verFloor := 0, pages := smap (fun _ (g : LeafPage) => { g with version := 0, leased := false }) s1.map.pages }
            dev := { s1.dev with validLeaseKey := true } }

/-- Steps 4 to 8 of RMA, once every stand is gone: lease key, LMS state, the RMA triple, the keys of LC_CLASS 1, the intent. -/
def State.rmaFinish (s : State) : State :=
  let s1 := s.newLeaseKey
  ({ s1 with
    fuses := { s1.fuses with rma := 3 }
    sec := { s1.sec with nextq := 0, lmsDisabled := true, rwk := some 1, target := 0, step := 0 } }).record sevWarning 0x0403

/-- RMA goes on as far as it can: step 3 waits until no stand is left. -/
def State.rmaGoOn (s : State) : State :=
  if s.sec.target = 3 && s.nvm.stands.isEmpty && s.fwRuns then s.rmaFinish else s

/-- Step 3 of RMA: every stand goes to DELETING, from the first step of 10 R311. -/
def NvmS.deleteAll (n : NvmS) : NvmS :=
  { n with stands := smap (fun _ (x : StandS) => if x.state == .deleting then x else { x with state := .deleting, delStep := 1, moving := false }) n.stands }

/-- Start-up resumes what an intent record names. -/
def State.resumeIntent (s : State) : State :=
  if s.sec.target = 2 then s.burnSeal
  else if s.sec.target = 3 then ({ s with nvm := s.nvm.deleteAll }).rmaGoOn
  else s

/-! ## Firmware starts (R363 step 11) -/

/-- REVOKE0 is burned at the first boot that verifies an image which asks for it (14 R404). -/
def FuseS.revoke (f : FuseS) (h : ImageHeader) : FuseS := if h.revoke0 && h.keyId == 1 then { f with revoke0 := 3 } else f

/-- Every unit runs the booted release. -/
def MgmtS.booted (m : MgmtS) (h : ImageHeader) : MgmtS :=
  { m with runs := true, mgmtRel := h.release, mgmtSvn := h.svn, standbyRel := h.release, standbySvn := h.svn, bootRel := h.release, groveRel := Vector.replicate 8 h.release,
           cfgFmt := h.cfgFmt, ftlIf := h.ftlIf, lost := false }

/-- The newest TSEQ that the scan of the persistent tier finds (17 R480). -/
def Tier.newest (t : Tier) : Option Dword :=
  t.recs.foldl (fun a r => match a with
    | none => some r.tseq
    | some n => some (if serialNewer r.tseq n then r.tseq else n)) none

/-- The counter after a bad TSEQRES record: 1 above the highest TSEQ found, plus 65,536 (17 R483). With an empty tier it counts on from 0. -/
def TallyS.restart (t : TallyS) : Dword :=
  match t.tier.newest with
  | some n => tseqAdd n 65537
  | none => 65537

/-- The Tally engine starts: it reserves numbers before it assigns one, and a bad drop record leaves counters of 0 (17 R470, R479, R483). -/
def TallyS.start (t : TallyS) : TallyS :=
  { t with
    tseqRes := if !t.resBad && serialNewer t.tseqRes t.nextTseq then t.tseqRes else tseqAdd t.nextTseq 4096
    tier := if t.dropBad then { t.tier with drops := Vector.replicate 7 0 } else t.tier
    resBad := false, dropBad := false }

/-- START, the first record of each start-up (Table 17-4). -/
def State.recordStart (s : State) : State :=
  s.recordHw srcTally sevNotice 0x1303 s.sec.ctrPor.toNat s.sec.ctrPin.toNat s.dev.rstCause.toNat s.dev.bootStatus.toNat

/-- TALLY_RECORD_BAD for each Tally record that failed its CRC (17 R483). -/
def State.recordTally (s : State) (t : TallyS) : State :=
  let s1 := if t.dropBad then s.recordHw srcTally sevError 0x1305 1 else s
  if t.resBad then s1.recordHw srcTally sevError 0x1305 2 else s1

/-- SLOT_FAILED for a slot whose field is not 0. -/
def State.recordSlot (s : State) (w : Nat) : State :=
  let r := getField s.dev.bootStatus (8 + 4 * w) 4
  if r = 0 then s else s.record sevWarning 0x0301 w r

/-- The failure fields of the boot status, each as an event (R368). -/
def State.recordBoot (s : State) (c : CfgChoice) : State :=
  let s1 := (s.recordSlot 0).recordSlot 1
  let o := getField s.dev.bootStatus 0 3
  let s2 := if o = 0 then s1 else s1.record sevWarning 0x0302 o
  let s3 := c.events.foldl (fun (a : State) e => a.record sevError 0x1402 e.1 e.2.1 e.2.2) s2
  let s4 := if s.params.defaulted then s3.record sevError 0x1401 (getField s.dev.bootStatus 16 2) else s3
  let s5 := if s.nor.floorBad then s4.record sevError 0x1203 else s4
  { (s5.dev.badUnits.foldl (fun (a : State) o => a.recordHw srcHeart sevError 0x0E03 o) s5) with dev := { s5.dev with badUnits := [] } }

/-- A port's link after the configuration: no faster than HST_MAX_RATE_GTS (R365). -/
def PortS.limitRate (p : PortS) (r : Nat) : PortS := { p with rate := min p.rate r }

/-- The monotonic counters of resets (Table 14-4). -/
def SecS.countReset (x : SecS) (por : Bool) : SecS :=
  if por then { x with ctrPor := x.ctrPor + 1 } else { x with ctrPin := x.ctrPin + 1 }

/-- A channel record that is not valid, other than at the first power-on, counts as STATE RETIRED (07 R236). Whether its other fields are trusted then is
not stated: they are, and the members that it takes are a loss whose rebuild set start-up computes, as R238 has it (the model's choice, log entry 130). -/
def State.checkRecord (s : State) (ch : Nat) : State :=
  let c := s.flash.chan ch
  if (s.flash.first && !c.identified) || c.recValid then s
  else
    let f := (s.flash.modChan ch (fun c =>
      { c with recRetired := true, state := if getField s.dev.rstCause 0 2 = 1 then c.state else .retired })).deferRebuild (ch / 8)
    (({ s with flash := f }).markAbsent ch none).recordHw (srcSeq (chanOf ch)) sevError 0x0C06 ch

/-- Every channel record is checked at start-up. -/
def State.checkRecords (s : State) : State := (List.range 64).foldl (fun a ch => a.checkRecord ch) s

/-- Firmware starts from a slot that has passed: keys, configuration, counters, the Tally and its first records. -/
def State.startFirmware (s : State) (w : Nat) (h : ImageHeader) : State :=
  let c := s.tryCfgs h.cfgFmt s.nor.cfgOrder
  let s1 := s.applyCfg c
  let slotBit := match c.slot with
    | some x => if c.older then 0 else x
    | none => 0
  let status := setField (setField s.dev.bootStatus 16 2 (s.cfgCode c)) 20 1 slotBit
  let h0 := s1.host
  let s2 := { s1 with
    fuses := s1.fuses.revoke h
    dev := { s1.dev with phase := .booting, configured := true, bootStatus := status, validTally := true, validSave := true,
                         validLeaseKey := true }
    sec := { (s1.sec.countReset (decide (getField s1.dev.rstCause 0 2 = 1))) with rwk := some s1.fuses.lcClass }
    mgmt := s1.mgmt.booted h
    nor := { s1.nor with booted := w }
    plp := { s1.plp with state := if s1.par P.PLP_MODE = 0 then .off else .pending }
    tally := s1.tally.start
    map := if s1.dev.validLeaseKey then s1.map else { s1.map with leaseKey := s1.map.leaseKey + 1, verFloor := 0 }
    host := { h0 with port0 := h0.port0.limitRate (s1.parI P.HST_MAX_RATE_GTS 0),
                      port1 := h0.port1.limitRate (s1.parI P.HST_MAX_RATE_GTS 1) } }
  ((((s2.recordStart).recordTally s1.tally).recordBoot c).checkRecords).resumeIntent

/-! ## The ROM (R363, R369) -/

/-- Both links down. -/
def HostS.linksDown (h : HostS) : HostS :=
  { h with port0 := { h.port0 with linkUp := false, training := false }, port1 := { h.port1 with linkUp := false, training := false } }

/-- RECOVERY: the ROM serves the recovery level; the event goes to the ring alone (17 R479). -/
def State.enterRecovery (s : State) (why : Nat) : State :=
  ({ s with dev := { s.dev with phase := .recovery }, host := s.host.linksDown }).recordHw srcRom sevError 0x0303 why

/-- Link training starts on a port, unless PERST# holds it, the part is BLANK (R363, R371) or TESTEN is high (19 R518). -/
def PortS.train (p : PortS) (blank : Bool) : PortS := if p.perst || blank then p else { p with training := true }

/-- The boot status of the slots tried: SLOT, FALLBACK, NOSLOT and the reasons. -/
def State.slotStatus (s : State) (t : Nat × Option Nat) : Dword :=
  let named := s.nor.selector.map (fun x => x.boot % 2)
  let f := match t.2 with
    | some w => w * 16 + bitIf (named != some w) 5
    | none => bitIf true 6
  BitVec.ofNat 32 (s.dev.bootStatus.toNat + t.1 + f)

/-- PLL_LOCK reads 1 (R375). -/
def State.pllLocked (s : State) : State := { s with dev := { s.dev with clkCtrl := setField s.dev.clkCtrl 31 1 1 } }

/-- The ports train unless the part is BLANK or TESTEN is high. -/
def State.trainPorts (s : State) : State :=
  let blank := decide (s.fuses.lc = 0) || s.dev.testEn
  { s with host := { s.host with port0 := s.host.port0.train blank, port1 := s.host.port1.train blank } }

/-- The boot status after the slots have been tried. -/
def State.noteSlots (s : State) (t : Nat × Option Nat) : State := { s with dev := { s.dev with bootStatus := s.slotStatus t } }

/-- Firmware starts from the slot that passed; with none, RECOVERY. -/
def State.bootFrom (s : State) (slot : Option Nat) : State :=
  match slot with
  | none => s.enterRecovery 2
  | some w =>
    match (s.nor.slot w).hdr with
    | some hd => s.startFirmware w hd
    | none => s.enterRecovery 2

/-- The slots are tried in the selector's order. -/
def State.bootSlots (s : State) (norAnswers : Bool) : State :=
  let t := s.trySlots norAnswers s.nor.bootOrder
  (s.noteSlots t).bootFrom t.2

/-- Grove records that fail their check: whether a rebuild was in progress is not known, so that its set is computed again (07 R238); the grove counts as
DEGRADED (the model's choice, log entry 138). -/
def FlashS.badGroves (f : FlashS) (gs : List Grove) : FlashS :=
  gs.foldl (fun (a : FlashS) g => (a.modGrove g.val (fun r => { r with degraded := true, lostcw := 0, bitmap := [] })).deferRebuild g.val) f

/-- Dump-set records and the PLP record that fail their check: what the sets hold cannot be named, as after a dump that was cut before its headers (the
model's choice, log entry 138). -/
def PlpS.badRecords (p : PlpS) (gs : List Grove) (bad : Bool) : PlpS :=
  let p1 := gs.foldl (fun (q : PlpS) g => q.modSets g.val (fun _ => { a := DumpSet.absent, b := DumpSet.absent })) p
  let newest := p1.sets.toList.foldl (fun (e : Nat) r => max e (max r.a.epoch.toNat r.b.epoch.toNat)) 0
  if gs.isEmpty && !bad then p1
  else { p1 with recDumping := true, hdrDone := false, epoch := if bad then BitVec.ofNat 64 newest else p1.epoch }

/-- Units of the condemned table and of the row-block records that read as all ones: an entry whose reserved bits are set names no member, and STATE 7 is
reserved, so that the record counts as RETIRED (06 R191; log entry 138). -/
def State.badTables (s : State) (b : HeartBad) : State :=
  let kept := (s.flash.condemned.zipIdx.filter (fun e => !(b.condemned.contains (e.2 / 8)))).map Prod.fst
  let recs := (b.rowBlocks.flatMap (fun u => (List.range 16).map (fun i => u * 16 + i))).foldl (fun m rb => sputD 0 rb 0xFFFF m) s.media.recs
  { s with flash := { (s.flash.badGroves b.groves) with condemned := kept }, media := { s.media with recs := recs }
           plp := s.plp.badRecords b.dumps b.plp, dev := { s.dev with badUnits := b.units } }

/-- The heartwood records that fail their checks at this start-up (09 R279). With a bad TSEQRES record the counter restarts at once (17 R483). -/
def State.findBad (s0 : State) (b : HeartBad) : State :=
  let s := s0.badTables b
  let t := { s.tally with dropBad := b.drops, resBad := b.tseqRes }
  let chans := b.chans.foldl (fun v c => vmod v c.val (fun x => { x with recValid := false })) s.flash.chans
  { s with
    tally := if b.tseqRes then { t with nextTseq := t.restart } else t
    nor := { s.nor with floorBad := s.nor.floorBad || b.floor }
    sec := { s.sec with lmsBad := s.sec.lmsBad || b.lms }
    flash := { s.flash with chans := chans
                            first := if getField s.dev.rstCause 0 2 = 1 then chans.toList.all (fun c => !c.recValid) else s.flash.first } }

/-- The ROM reads the layout table; where it is invalid the default layout holds (16 R452). -/
def State.readLayout (s : State) (norAnswers : Bool) : State :=
  { s with nor := { s.nor with layoutDef := !norAnswers || !layoutOk s.dev.opt.layout s.nor.layout } }

/-- The boot of the ROM once the PLL is locked. -/
def State.romBoot (s0 : State) (norAnswers : Bool) : State :=
  let s := s0.readLayout norAnswers
  if !s.dev.recoverN then s.pllLocked.enterRecovery 1 else s.pllLocked.trainPorts.bootSlots norAnswers

end Sys2Proof.Machine
end

