-- ==== Sys2Proof/Machine/DieOps.lean ====
section
/-! DEFINITION. Dies at work (08 R250 to R257): admission to the queues, what may be issued, suspension, resumption and
nested programs; and the upsets of a die operation (07 R229 to R231). -/

namespace Sys2Proof.Machine

/-! ## Read levels (R272) -/

/-- The key of a tracked offset: the die, its age bin, its band of 500 erases and the read level. A channel has 2,097,152 of them. -/
def trackKey (die bin band level : Nat) : Nat := (die * 16 + bin) * 8192 + band * 8 + level

/-- The read levels of a row block: seven in TLC, one in SLC. -/
def levelsOf (slc : Bool) : List Nat := if slc then [7] else List.range 7

/-- The key of a level's tracked offset for the codeword's bin and band. -/
def State.trackAt (s : State) (o : DieOp) (level : Nat) : Nat :=
  let age := s.seconds - ((sget s.media.info o.rb).map (fun i => i.closedS)).getD 0
  trackKey o.key (Config.ageBin age).val (s.media.eraseCount o.rb / 500) level

/-- The read is one of steps 2 to 4 of the ladder: the die's levels are set for it and restored after it. -/
def DieOp.tuned (o : DieOp) : Bool := o.isRead && decide (2 ≤ o.step ∧ o.step ≤ 4)

/-- The offsets that Set Features puts into force for a read: at step 2 the tracked set; at steps 3 and 4 offset voltages that the spec does not
state, free values. -/
def State.levelsFor (s : State) (o : DieOp) : List Int :=
  let ls := levelsOf (recSlc (s.media.rbRec o.rb))
  if !o.tuned then []
  else if o.step = 2 then ls.map (fun l => (sget s.flash.tracked (s.trackAt o l)).getD 0)
  else ls.map (Config.softOffset o.step)

/-! ## What may be issued (R250, R252) -/

/-- No plane of a die is in use. -/
def DieS.idle (d : DieS) : Bool := d.planeOps.isEmpty
/-- A plane of a die is free. -/
def DieS.planeFree (d : DieS) (p : Nat) : Bool := !(d.planeOps.any (fun e => e.1 == p))

/-- An operation has the whole die to itself. A read whose levels are set first does, as Features occupies the LUN and its levels hold for every
plane (Table 8-1, R272; DEDUCED, log entry 136), and so does any read of a die that does not serve independent single-plane reads. -/
def DieS.alone (d : DieS) (o : DieOp) : Bool := o.kind != .readSingle || o.tuned || !d.independent

/-- An operation may start on its die, as far as planes go. -/
def DieS.canStart (d : DieS) (o : DieOp) : Bool := if d.alone o then d.idle else d.levels.isEmpty && o.planes.all d.planeFree

/-- A read is a cruise or disturb-check read. -/
def DieOp.isCruise (o : DieOp) : Bool :=
  match o.why with
  | .cruise _ => true
  | .disturb _ => true
  | _ => false

/-- A queue-5 operation may go: no cruise read while queue 1 or 2 holds anything (R201, R252). -/
def DieS.mayCruise (d : DieS) (o : DieOp) : Bool := !o.isCruise || o.queue != 5 || (d.q1.isEmpty && d.q2.isEmpty)

/-- With PWR_FAIL_N low no read is issued and no erase, which would be suspended at once (R259), and while BOOTING nothing is (Table 9-9). -/
def State.issuable (s : State) (o : DieOp) : Bool := s.plp.pwrFailN || (o.isProgram && s.dev.phase == .running)

/-- The read's request for cords waits because its port's charge is at the limit: the operation stays queued (04 R112). -/
def State.portHeld (s : State) (i : Nat) : Bool := s.land.waiting.any (fun r => r.user == .op i && !s.portRoom r)

/-- The first operation of a queue that is ready: arrival order, except that a single-plane read whose plane is free
passes a queued read whose plane is busy (R252). One that its port holds is passed too (the model's choice, log entry 128). -/
def readyIn (s : State) (d : DieS) : List Nat → Bool → Option Nat
  | [], _ => none
  | i :: t, passing =>
    match s.flash.op i with
    | none => readyIn s d t passing
    | some o =>
      let ok := d.canStart o && d.mayCruise o && s.issuable o && !s.portHeld i && (!passing || o.kind == .readSingle)
      if ok then some i else if o.isRead && (!d.canStart o || s.portHeld i) then readyIn s d t true else none

/-- The first ready operation of some queues, the lowest-numbered first (R251). -/
def firstReady (s : State) (d : DieS) : List Nat → Option Nat
  | [] => none
  | q :: t => match readyIn s d (d.queue q) false with
    | some i => some i
    | none => firstReady s d t

/-- Count an array command on planes of a die (07 R229). -/
def DieS.bump (d : DieS) (planes : List Nat) : DieS :=
  { d with cmds := d.cmds.mapIdx (fun p x => if planes.contains p then x + 1 else x) }

/-- Issue an operation: a read or an erase goes to the die, a program first takes its data over the channel bus. A multi-plane read occupies the
whole die (Table 8-1); Set Features puts the read levels into force first (R272). The suspension limit is the one in force when the operation is first
issued (Table 8-8). -/
def State.issueOp (s : State) (i : Nat) (nested : Bool) : State :=
  match s.flash.op i with
  | none => s
  | some o =>
    let all := [0, 1, 2, 3]
    let f := s.flash.modDie o.key (fun d =>
      let d := d.setQueue o.queue ((d.queue o.queue).filter (· != i))
      if o.isRead then { (d.bump o.planes) with planeOps := d.planeOps ++ (if d.alone o then all else o.planes).map (fun p => (p, i)), levels := s.levelsFor o }
      else if nested then { (d.bump all) with nestedRun := some i }
      else { (d.bump all) with running := some i, planeOps := all.map (fun p => (p, i)) })
    let f := f.modOp i (fun x =>
      { x with stage := if o.isProgram then .transfer else .onDie, nested := nested, since := s.now,
               limit := if o.suspends = 0 then s.suspendLimit o.kind else o.limit,
               mark := (f.die o.key).cmds })
    let f := if o.isProgram then f.modChan o.ch.val (fun c => { c with bus := c.bus ++ [i] }) else f
    { s with flash := (f.select o.ch.val o.die.val).roomOn o.key }

/-- A program may run nested while an erase is suspended (R256, R257). -/
def State.nestedAllowed (s : State) (d : DieS) (row : Nat) : Bool :=
  d.q1.isEmpty && d.nestedOk &&
    (match s.par P.DIE_NESTED_PROGRAM with
    | 0 => false
    | 1 => match s.rowOwner row with
      | some st => ((s.nvm.stand st.val).map (fun x => x.cls != 0)).getD true
      | none => true
    | _ => true)

/-- The head of queue 4, where it is a program to another block than the suspended erase. -/
def State.nestedNext (s : State) (d : DieS) (er : DieOp) : Option Nat :=
  match d.q4 with
  | [] => none
  | i :: _ => match s.flash.op i with
    | some o => if o.isProgram && o.block != er.block && d.nestedRun.isNone && d.idle then some i else none
    | none => none

/-- An operation of a die is suspended: its planes serve reads. One that uses its last suspension is counted (R255); the counters of the health report
stay at their highest value (15 Table 15-7). -/
def DieS.suspended (d : DieS) (i : Nat) (o : DieOp) : DieS :=
  let last := decide (o.limit = o.suspends + 1)
  { d with
    planeOps := d.planeOps.filter (fun e => e.2 != i)
    elimit := if last && o.kind == .erase then satInc d.elimit else d.elimit
    plimit := if last && o.isProgram then satInc d.plimit else d.plimit }

/-- Suspend the running operation (R253, R255). -/
def State.suspend (s : State) (k i : Nat) : State :=
  match s.flash.op i with
  | none => s
  | some o =>
    let d := s.flash.die k
    let f := s.flash.modDie k (fun _ => (d.bump [0, 1, 2, 3]).suspended i o)
    { s with flash := (f.select (k / 16) (k % 16)).modOp i (fun x => { x with suspended := true, suspends := x.suspends + 1, ran := x.ran + (s.now - x.since) }) }

/-- Resume a suspended operation; its run time starts again (R254). -/
def State.resume (s : State) (k i : Nat) : State :=
  let f := s.flash.modDie k (fun d => { (d.bump [0, 1, 2, 3]) with planeOps := [0, 1, 2, 3].map (fun p => (p, i)) })
  { s with flash := (f.select (k / 16) (k % 16)).modOp i (fun x => { x with suspended := false, since := s.now }) }

/-- Queues 1 to 3 of a die hold nothing. -/
def DieS.noReads (d : DieS) : Bool := d.q1.isEmpty && d.q2.isEmpty && d.q3.isEmpty

/-- next_action of 08 R257 for a die. The minimum run time of R254 counts from the issue of an operation too, as the test of R257 does not tell a first
run from a later one (the model's choice, log entry 102). While PWR_FAIL_N is low programs run to completion, so that none is suspended and a suspended
one goes on, and a suspended erase does not (R259). -/
def State.nextAction (s : State) (k : Nat) : State :=
  let d := s.flash.die k
  if (s.flash.chan (k / 16)).state != .active || d.retraining then s
  else
    match d.running with
    | none =>
      match firstReady s d [1, 2, 3, 4, 5] with
      | some i => s.issueOp i false
      | none => s
    | some i =>
      match s.flash.op i with
      | none => s
      | some o =>
        if o.suspended then
          if o.isProgram && !s.plp.pwrFailN then (if d.idle then s.resume k i else s)
          else if !d.noReads then
            match firstReady s d [1, 2, 3] with
            | some j => if d.nestedRun.isSome then s else s.issueOp j false
            | none => s
          else
            match (if o.kind == .erase && s.nestedAllowed d (k / 16 / 8 * 16 + k % 16) then s.nestedNext d o else none) with
            | some j => s.issueOp j true
            | none => if d.nestedRun.isSome || !d.idle || !s.plp.pwrFailN then s else s.resume k i
        else if d.q1.isEmpty && d.q2.isEmpty || !s.plp.pwrFailN then s
        else if o.stage != .onDie then s
        else if o.limit ≤ o.suspends then s
        else if (s.now - o.since) < s.par P.DIE_RESUME_MIN_US * 1000 then s
        else s.suspend k i

/-! ## Upsets (R229, R230) -/

/-- The die has received no array command on the operation's planes since its data was in the page registers. -/
def FlashS.registersHold (f : FlashS) (o : DieOp) : Bool :=
  let c := (f.die o.key).cmds
  o.planes.all (fun p => vget c p 0 == vget o.mark p 0)

/-- Take an operation off its die and out of its queues, so that it can be issued again. -/
def FlashS.takeBack (f : FlashS) (i : Nat) : FlashS :=
  match f.op i with
  | none => f
  | some o =>
    let f := f.modDie o.key (fun d => (d.unqueue i).leave i)
    ((f.modChan o.ch.val (fun c => { c with bus := c.bus.filter (· != i) })).modOp i (fun x =>
      { x with moved := 0, suspended := false, nested := false, ran := 0 })).roomOn o.key

/-- Issue a read or an erase again in full: it goes ahead of the others of its queue. -/
def FlashS.reissue (f : FlashS) (i : Nat) : FlashS := (f.takeBack i).requeue i

/-- A live retrain of a die begins, or the one that runs goes on (07 R228). -/
def FlashS.beginLive (f : FlashS) (k : Nat) : FlashS :=
  f.modDie k (fun d => { d with retraining := true, slices := if d.retraining then d.slices else 0 })

/-- The retry of Table 7-5: 1 the status read, 2 after a reset of the die, 3 and 5 the data-out, 4 the check. It is placed here and carried out once
the live retrain of the die has ended: until then nothing of the die is issued, moved or polled (R228). -/
def FlashS.retryForm (f : FlashS) (i row : Nat) : FlashS :=
  match f.op i with
  | none => f
  | some o =>
    if row = 1 || row = 4 then f
    else if row = 2 then f.reissue i
    else if f.registersHold o then
      (f.modOp i (fun x => { x with stage := .transfer })).modChan o.ch.val (fun c => { c with bus := c.bus.filter (· != i) ++ [i] })
    else f.reissue i

/-- The event and the life count of an upset (R230). -/
def State.noteUpset (s : State) (ch die row : Nat) : State :=
  let s1 := { s with flash := s.flash.modChan ch (fun c => { c with upsets := c.upsets + 1, recValid := true }) }
  s1.recordHw (srcSeq (chanOf ch)) sevNotice 0x0C03 ch die row

end Sys2Proof.Machine
end

