-- ==== Sys2Proof/Machine/StageOps.lean ====
section
/-! DEFINITION. Program data on its way to a die (01 R26, R29, R35; 04 R109, R110, Table 4-5; 06 R179 to R181): a member's wordline set is staged
in Landing, a plane page crosses the channel bus at a time, and its cords are free after that. Poisoned copies on the way. -/

namespace Sys2Proof.Machine

/-- Plane pages of a program. -/
def DieOp.planePages (o : DieOp) : Nat := if o.kind == .progSlc then 4 else 12

/-- The cords that a set holds for a channel, in the order of its plane pages. -/
def LandS.cordsFor (l : LandS) (n : Nat) (ch : Chan) : List Nat :=
  (l.grants.filter (fun g => g.req.user == .set n && g.req.res == .chan ch)).flatMap (fun g => g.cords)

/-- A set holds all the cords that it asked for on a channel. -/
def LandS.staged (l : LandS) (n : Nat) (ch : Chan) : Bool :=
  !(l.waiting.any (fun r => r.user == .set n && r.res == .chan ch)) && l.grants.any (fun g => g.req.user == .set n && g.req.res == .chan ch)

/-- The codeword data of an item: ciphertext from the write cache, zeros for a poisoned block, a copy as it stands in Landing, a unit of the map
(R24, R28; 04 Table 4-5). -/
def State.itemBlock (s : State) (i : Item) : Block :=
  match i.src with
  | .copy p => match sget s.land.copies p.toNat with
    | some c => s.land.block c
    | none => ((s.itemCw i).map (fun x => x.data)).getD 0
  | _ => ((s.itemCw i).map (fun x => x.data)).getD 0

/-- What a set holds at a position: the data placed there, or filler, which is all zeros. -/
def State.dataAt (s : State) (w : WSet) (p : Ploc) : Block := ((w.items.find? (fun i => i.loc == p)).map s.itemBlock).getD 0

/-- The codeword data of a position of a member: on the parity member, the XOR of the data members at that position (06 R179). -/
def State.stageBlock (s : State) (w : WSet) (c : Nat) (p : Ploc) : Block :=
  if c = s.parityOf w.rb then
    (s.dataMembers w).foldl (fun b x => b ^^^ s.dataAt w (mkPloc (rbDch w.rb x) (plocDie p) (plocPlane p) (plocBlock p) (plocPage p) (plocSlot p))) 0
  else s.dataAt w p

/-- The positions of one member's wordline set, a plane page of 4 after another. -/
def memberPositions (w : WSet) (c : Nat) : List Ploc := setPositions w.cls.ofMap w.rb w.wl [c]

/-- A copy in Landing is poisoned where it is consumed: it is read again from its victim up to DMA_POISON_RETRY_MAX times; after that the codeword
is not copied, and its victim is not erased in this pass (04 Table 4-5). Its cord is free. -/
def State.badCopy (s : State) (p : Ploc) : State :=
  let again := fun (v : Victim) => decide ((v.reread.filter (· == p)).length < s.par P.DMA_POISON_RETRY_MAX)
  let mine := fun (v : Victim) => v.rb == plocRb p || v.copying.contains p
  let lost := s.media.doms.any (fun d => d.victims.any (fun v => mine v && !again v))
  let m := s.media.modVictims (fun v =>
    if !mine v then v
    else
      let v := { v with copying := v.copying.filter (· != p) }
      if again v then { v with toRead := v.toRead ++ [p], reread := v.reread ++ [p] } else { v with incomplete := true })
  let s1 := ({ s with media := m }).dropCopies [p]
  if lost then s1.poisonEvent sevError 6 (plocDch p) else s1

/-- The cord of a copy carries a poisoned line. -/
def State.copyBad (s : State) (p : Ploc) : Bool := ((sget s.land.copies p.toNat).map s.land.poisoned).getD false

/-- Copies of a set whose cords are poisoned leave it: their positions are programmed as filler. -/
def State.dropBadCopies (s : State) (n : Nat) (ps : List Ploc) : State :=
  match s.media.wset n with
  | none => s
  | some w =>
    let bad := (copyLocs (w.items.filter (fun i => ps.contains i.loc))).filter s.copyBad
    let s1 := { s with media := s.media.modSet n (fun x => { x with items := x.items.filter (fun i => match i.src with
      | .copy p => !(bad.contains p && ps.contains i.loc)
      | _ => true) }) }
    bad.foldl (fun a p => a.badCopy p) s1

/-- The lines of a set's position that carry the poison mark as they come from the write cache (04 R133). -/
def State.stageMarks (s : State) (w : WSet) (p : Ploc) : List Nat :=
  match w.items.find? (fun i => i.loc == p) with
  | some i => match i.src with
    | .cache q slot => ((s.cache.slotOf q slot).map (fun x => if x.poison then [] else x.badLines)).getD []
    | _ => []
  | none => []

/-- A member's wordline set is staged: each codeword is written into its cord, and the cords of the copies that it takes are free. -/
def State.stageMember (s : State) (n : Nat) (ch : Chan) : State :=
  match s.media.wset n with
  | none => s
  | some w0 =>
    let ps := memberPositions w0 (ch.val % 8)
    let s1 := s.dropBadCopies n ps
    match s1.media.wset n with
    | none => s1
    | some w =>
      let land := (ps.zip (s1.land.cordsFor n ch)).foldl (fun l e =>
        l.setBlockMarked e.2 (s1.stageBlock w (ch.val % 8) e.1) (fun i => (s1.stageMarks w e.1).contains i)) s1.land
      ({ s1 with land := land }).dropCopies (copyLocs (w.items.filter (fun i => ps.contains i.loc)))

/-- The data of a position of a set is poisoned in Landing as the encoder takes it (04 Table 4-5). Cache data is fetched again from DRAM; where its lines are
poisoned there, the block becomes POISONED and the codeword is programmed as zeros. A copy leaves the set and is read again. What firmware or the accumulator
holds is written again. -/
def State.refetch (s : State) (n : Nat) (ch : Chan) (p : Ploc) : State :=
  match (s.media.wset n).bind (fun w => w.items.find? (fun i => i.loc == p)) with
  | some i =>
    match i.src with
    | .cache q slot =>
      if ((s.cache.slotOf q slot).map (fun x => !x.poison && x.badLines.isEmpty)).getD true then s.poisonEvent sevWarning 5 ch.val
      else (s.poisonSlot q.toNat slot).poisonEvent sevError 5 ch.val
    | .copy c =>
      ({ s with media := s.media.modSet n (fun x => { x with items := x.items.filter (fun j => j.loc != p) }) }).badCopy c
    | .unit _ _ => s.poisonEvent sevWarning 5 ch.val
  | none => s.poisonEvent sevWarning 5 ch.val

/-- The encoder takes a plane page, the next of those still staged, and its cords are free. -/
def State.sendPage (s : State) (n : Nat) (ch : Chan) : State :=
  let all := s.land.cordsFor n ch
  let ps := ((s.media.wset n).map (fun w => memberPositions w (ch.val % 8))).getD []
  let page := ((ps.drop (ps.length - all.length)).zip all).take 4
  let bad := page.filter (fun e => s.land.poisoned e.2)
  (bad.foldl (fun a e => a.refetch n ch e.1) s).freeThese (all.take 4)

/-- Copies that wait and that the map no longer places have been overwritten and are dropped; poisoned ones are read again (Table 6-6). A cord whose
codeword was not copied is free. -/
def State.tidyCopies (s : State) : State :=
  let all := s.media.doms.flatMap (fun d => d.victims.flatMap (fun v => v.copying))
  let gone := all.filter (fun p => (s.blockAt p).isNone)
  let s1 := { s with media := s.media.modVictims (fun v => { v with copying := v.copying.filter (fun p => !gone.contains p) }) }
  let s2 := (all.filter (fun p => !gone.contains p && s.copyBad p)).foldl (fun a p => a.badCopy p) (s1.dropCopies gone)
  let kept := s2.land.copies.map Prod.snd
  s2.freeThese ((s2.land.grants.filter CordGrant.copies).flatMap (fun g => g.cords.filter (fun c => !kept.contains c)))

/-- The COLD sets that hold the last copies of a victim are forced once its last codeword has been read (06 Table 6-3). -/
def State.forceLast (s : State) : State :=
  let s1 := s.tidyCopies
  s1.forceSets (fun w => w.cls == .cold && s1.lastCopies w)

end Sys2Proof.Machine
end

