-- ==== Sys2Proof/Machine/FaultOps.lean ====
section
/-! DEFINITION. What becomes of die operations: delivery of codewords, the read-recovery ladder (08 R270 to R275),
channel_faults, failed dies and retired channels (07 R231 to R245), and the end of a row block's erase (08 R262). -/

namespace Sys2Proof.Machine

/-! ## Rates (R219, Table 7-8) -/

/-- MT/s of a rate code. -/
def rateMts (r : Nat) : Nat := if r = 0 then 800 else if r = 1 then 1600 else if r = 2 then 2400 else if r = 3 then 3600 else 4800
/-- The code of the highest rung not above a rate. -/
def rateCode (m : Nat) : Nat := if m < 1600 then 0 else if m < 2400 then 1 else if m < 3600 then 2 else if m < 4800 then 3 else 4

/-! ## Stored bytes (16 R448) -/

/-- Byte i of a codeword of a data member as it is stored. The codeword holds encoded ciphertext, of which the spec states no byte: a free
value of the location and the offset (log entry 6). -/
def storedByte (p : Ploc) (i : Nat) : BitVec 8 := Config.rawCodewordByte p.toNat i

/-- A position of a row block holds data: filler, which is all zeros, holds none (06 R189). -/
def State.holdsCw (s : State) (p : Ploc) : Bool := (sget s.flash.content p.toNat).isSome

/-- The erase of a member of a row block has ended well, while those of others go on (08 R262). -/
def State.memberErased (s : State) (ch rb : Nat) : Bool :=
  decide (recState (s.media.rbRec rb) = rbErasePending) && s.flash.erasing rb && !s.media.eraseFails.contains (ch, rb) && !s.flash.isCondemned ch rb &&
    !s.flash.ops.any (fun e => e.2.why == .eraseOf rb && e.2.ch.val == ch)

/-- A dump has been written into a row block, and the block has not been erased since (09 R290, R291). -/
def State.holdsDump (s : State) (rb : Nat) : Bool :=
  s.plp.sets.toList.any (fun g => [g.a, g.b].any (fun x => x.state != .free && x.rbs.contains rb))

/-- No program has reached a wordline of a member since the block's erase. -/
def State.blankAt (s : State) (rb wl c : Nat) : Bool :=
  !s.holdsDump rb && (s.memberErased (rbDch rb c) rb || decide (s.media.programmed rb ≤ wl) ||
    s.media.sets.any (fun e => e.2.rb == rb && e.2.wl == wl && !e.2.transferred.contains c))

/-- Byte i of a codeword as it lies on the die: a page not programmed since its erase reads as erased (Table 8-4), a filler codeword is all zeros, a
parity codeword is the XOR of the data members' codewords at its position (06 R179, R189), and every other one is as it was stored. -/
def State.rawByte (s : State) (p : Ploc) (i : Nat) : BitVec 8 :=
  let rb := plocRb p
  let wl := if recSlc (s.media.rbRec rb) then plocPage p else plocPage p / 3
  if s.blankAt rb wl (plocChan p) then Config.erasedByte
  else if !(s.media.wlDone rb wl (plocChan p)) then storedByte p i
  else if plocChan p = s.media.parityOf rb then
    ((List.range 8).map (fun c => mkPloc (rbDch rb c) (plocDie p) (plocPlane p) (plocBlock p) (plocPage p) (plocSlot p))).foldl
      (fun b q => if q != p && s.holdsCw q then b ^^^ storedByte q i else b) 0
  else if s.holdsCw p then storedByte p i else 0

/-- Answer a RAW_DIAG with the bytes asked for (DATA). -/
def State.rawData (s : State) (f : Frame) (p : Ploc) (offset length : Nat) : State :=
  s.naileOk f 0x50 (4 + length) (2 ^ 32 * fromBytes ((List.range length).map (fun i => (s.rawByte p (offset + i)).toNat)))

/-! ## Poison -/

/-- Queue a commit group for each grove that owns one of some changes. -/
def State.queueChanges (s : State) (why : GroupWhy) (cs : List GranChange) : State :=
  (List.finRange 8).foldl (fun a g =>
    let mine := cs.filter (fun c => groveOf c.dgn == g)
    if mine.isEmpty then a else a.queueGroup g { why := why, changes := mine }) s

/-- The change that makes blocks at given locations POISONED while the map still places them there (08 R274). -/
def poisonChange (x : Nat × Nat × Ploc) : GranChange :=
  { dgn := x.1, entries := [(x.2.1, plocPoisoned)], coarse := none, cas := [{ dgn := x.1, k := x.2.1, loc := x.2.2 }] }

/-- Every block mapped to a codeword becomes POISONED in one commit. -/
def State.poisonAt (s : State) (p : Ploc) : State :=
  s.queueChanges .poison ((s.map.mapped.filter (fun x => x.2.2 == p)).map poisonChange)

/-- Every granule whose leaf lies in a leaf page becomes POISONED: its checkpoint copy is lost (05 Table 5-10). -/
def State.poisonLeafPage (s : State) (lpn : Nat) : State :=
  s.queueChanges .poison ((s.map.leaves.filter (fun e => lpnOf e.1 == lpn)).map (fun e =>
    { dgn := e.2.dgn, entries := (List.range 16).map (fun k => (k, plocPoisoned)), coarse := none, cas := [] }))

/-- The change that makes a granule POISONED as a whole. -/
def poisonGran (dgn : Nat) : GranChange := { dgn := dgn, entries := (List.range 16).map (fun k => (k, plocPoisoned)), coarse := none, cas := [] }

/-- The granules of a trunk slab: those of its segment that its grove owns. -/
def slabGrans (g seg : Nat) : List Nat := ((List.range segGrans).map (fun i => seg * segGrans + i)).filter (fun d => d % 8 == g)

/-- A slab's DRAM copy has been repaired. -/
def State.repaired (s : State) (g : Grove) (key : Nat) : State :=
  { s with map := { s.map with repairing := s.map.repairing.filter (· != (g.val, key)) } }

/-- The granules whose leaves lie in the leaf pages that a directory slab of a grove places. -/
def MapS.dirGrans (m : MapS) (g : Grove) (slab : Nat) : List Nat :=
  (m.leaves.filter (fun e => lpnOf e.1 % 8 == g.val && lpnOf e.1 / 8 / 512 == slab)).map (fun e => e.2.dgn)

/-- The checkpoint copy of a slab cannot be read (05 Table 5-10): the granules of a trunk slab, or those whose leaf pages a directory slab places, become
POISONED, at once where the grove's ring has room, else first of all that waits; what needs them waits until then. -/
def State.slabLost (s : State) (g : Grove) (key : Nat) : State :=
  let cs := (if key % 8 = 0 then slabGrans g.val (key / 8) else s.map.dirGrans g (key / 8)).map poisonGran
  let rs := s.changesMixed g cs
  let s1 :=
    if (s.map.grove g).roomFor rs.length then ({ s with map := s.map.commitMixed g rs }).repaired g key
    else ({ s with map := { s.map with lostSlabs := addOnce (g.val, key) s.map.lostSlabs } }).queueFirst g { why := .poison, changes := cs }
  s1.recordHw (srcFtl g) sevCritical 0x0A03 6 g.val

/-- A poisoning of the grove has been committed: the lost slabs that waited for it are repaired, once none is left to come. -/
def State.lostRepaired (s : State) (g : Grove) : State :=
  if (s.map.grove g).groups.any (fun x => x.why == .poison) then s
  else
    let mine := s.map.lostSlabs.filter (fun k => k.1 == g.val)
    { s with map := { s.map with repairing := s.map.repairing.filter (fun k => !mine.contains k)
                                 lostSlabs := s.map.lostSlabs.filter (fun k => k.1 != g.val) } }

/-! ## Forks -/

/-- What one position of an operation serves. -/
def whyOfPos (w : OpFor) (pos : Nat) : OpFor :=
  match w with
  | .host t m => .host t (m.filter (fun e => e.1 == pos))
  | .gather t m => .gather t (m.filter (fun e => e.1 == pos))
  | x => x

/-- What is left of an operation without one position. -/
def whyWithout (w : OpFor) (pos : Nat) : OpFor :=
  match w with
  | .host t m => .host t (m.filter (fun e => e.1 != pos))
  | .gather t m => .gather t (m.filter (fun e => e.1 != pos))
  | x => x

/-- A command that is still there. -/
def State.hasTag (s : State) (t : Nat) : Bool := (sget s.host.tags t).isSome

/-- A position of an operation has been dealt with; an operation with none left is over, and the cords of a command's
read go to the command, which delivers them, or are freed where the command is gone. -/
def State.donePos (s : State) (i pos : Nat) : State :=
  match s.flash.op i with
  | none => s
  | some o =>
    let left := o.left.filter (· != pos)
    if left.isEmpty then
      let l := match o.why with
        | .host t _ => if s.hasTag t then s.land.handOver (.op i) (.tag t) else s.land
        | .gather t _ => if s.hasTag t then s.land.handOver (.op i) (.tag t) else s.land
        | .thin _ rb => s.land.handOver (.op i) (.victim rb)
        | _ => s.land
      ({ s with land := l }).dropOp i
    else { s with flash := s.flash.modOp i (fun x => { x with left := left, why := whyWithout x.why pos }) }

/-- The command for which an operation reads, its reconstruction's parent included. -/
def State.readerOf (s : State) (w : OpFor) : Option TagE :=
  let direct := fun (w : OpFor) => match w with
    | .host t _ => sget s.host.tags t
    | .gather t _ => sget s.host.tags t
    | _ => none
  match w with
  | .recon i _ => (s.flash.op i).bind (fun o => direct o.why)
  | w => direct w

/-- A recovery read is served and charged as the read that it recovers: ahead of others for an L0 stand, to the port of the delivery (04 R111,
R112). -/
def State.issueFor (s : State) (o : DieOp) (w : OpFor) : State :=
  match s.readerOf w with
  | some t => s.issueRead o (decide (t.cls = 0)) (deliversTo t.cmd t.cntl.port)
  | none => s.issueRead o false none

/-- A recovery operation for one position of an operation, at a step of the ladder. -/
def State.forkPos (s : State) (i pos step : Nat) (stage : OpStage) : State :=
  match s.flash.op i with
  | none => s
  | some o =>
    let j := s.flash.nextOp
    let x := { DieOp.fresh o.ch.val o.die.val .readSingle o.block o.page [pos] o.queue (whyOfPos o.why pos) with
      step := step, stage := stage, faulted := o.faulted }
    let s1 := (s.issueFor x o.why).donePos i pos
    if stage == .queued then { s1 with flash := s1.flash.enqueue j } else s1

/-- Count a ladder step reached on a die (08 R271); the counts of the health report stay at their highest value (15 Table 15-7). -/
def FlashS.countStep (f : FlashS) (k step : Nat) : FlashS :=
  f.modDie k (fun d =>
    if step = 2 then { d with step2 := satInc d.step2 } else if step = 3 then { d with step3 := satInc d.step3 }
    else if step = 4 then { d with step4 := satInc d.step4 } else if step = 5 then { d with step5 := satInc d.step5 }
    else { d with step6 := satInc d.step6 })

/-! ## Delivery of a codeword -/

/-- The cord of a position of an operation: its cords stand in the order of its codewords. -/
def State.cordAt (s : State) (i : Nat) (o : DieOp) (pos : Nat) : Option Nat :=
  ((((s.land.cordsOf (.op i)).zip o.slots).find? (fun e => e.2 == pos)).map Prod.fst)

/-- A decoded codeword is written into a cord. -/
def State.landCw (s : State) (cord : Option Nat) (b : Option Block) : State :=
  match cord, b with
  | some c, some x => { s with land := s.land.setBlock c x }
  | _, _ => s

/-- Data of one codeword reaches the command that reads it. -/
def State.toTag (s : State) (tag lba : Nat) (r : Option Block) : State :=
  match sget s.host.tags tag with
  | none => s
  | some t =>
    match readFields t.cmd with
    | some f => (s.modTag tag (fun t => t.arrive f.slba lba r stUnrecovered)).readArrived tag
    | none =>
      s.modTag tag (fun t => { t with
        failure := if r.isNone then some (t.failure.getD stUnrecovered) else t.failure
        waits := t.waits.filter (· != lba)
        gather := t.gather.map (fun g => { g with window := g.window.map (fun e => if e.1 = lba then (lba, r) else e) }) })

/-- The plaintext of a stored codeword for the namespace of a command. -/
def State.plain (s : State) (tag : Nat) (p : Ploc) : Option Block :=
  match sget s.flash.content p.toNat, (sget s.host.tags tag).bind (fun t => match t.cmd with
    | .gatherRead f => some f.nsid.toNat
    | c => (readFields c).map (fun f => f.nsid.toNat)) with
  | some cw, some nsid => (s.nvm.ns nsid).map (fun n => decrypt n cw.keyGen cw.data)
  | _, _ => none

/-- LBA that a position of a command's read serves. -/
def lbaAt (m : List (Nat × Nat)) (pos : Nat) : Nat := ((m.find? (fun e => e.1 == pos)).map Prod.snd).getD 0

/-- A codeword that is not of a reconstruction reaches its consumer. -/
def State.deliverData (s : State) (i pos : Nat) : State :=
  match s.flash.op i with
  | none => s
  | some o =>
    let p := o.locOf pos
    match o.why with
    | .host t m =>
      let c := s.cordAt i o pos
      let s1 := (s.landCw c (s.plain t p)).modTag t (fun x => match c with
        | some k => { x with cordOf := sput (lbaAt m pos) k x.cordOf }
        | none => x)
      (s1.donePos i pos).toTag t (lbaAt m pos) (s.plain t p)
    | .gather t m =>
      let c := (sget s.host.tags t).bind (fun x => sget x.cordOf (lbaAt m pos))
      ((s.landCw c (s.plain t p)).donePos i pos).toTag t (lbaAt m pos) (s.plain t p)
    | .leaf lpn =>
      let s1 := s.donePos i pos
      ({ s1 with map := { s1.map with pages := smod lpn (fun g => { g with cached := true, missing := none }) s1.map.pages } }).resumeReads
    | .unit g key => ((s.donePos i pos).repaired g key).resumeReads
    | .thin d rb =>
      let c := s.cordAt i o pos
      let s0 := s.landCw c ((sget s.flash.content p.toNat).map (fun x => x.data))
      let s0 := match c with
        | some k => { s0 with land := { s0.land with copies := sput p.toNat k s0.land.copies } }
        | none => s0
      let again := ((s.media.domS d).victims.any (fun v => v.rb == rb && v.reread.contains p))
      let s1 := (if again then s0.poisonEvent sevWarning 6 o.ch.val else s0).donePos i pos
      let arrived := fun (v : Victim) => if v.rb = rb then { v with copying := v.copying ++ [p] } else v
      ({ s1 with media := s1.media.modVictims arrived }).forceLast
    | _ => s.donePos i pos

/-- Step 6 of the ladder has been reached on a die: its count and its event (08 R271). -/
def State.stepSix (s : State) (o : DieOp) : State :=
  ({ s with flash := s.flash.countStep o.key 6 }).recordHw (srcFtl (rbGrove o.rb)) sevError 0x0D04 o.ch.val o.die.val o.block

/-- Blocks that a command waits for whose leaf lies in a leaf page. -/
def State.waitsOnLeaf (s : State) (t : TagE) (lpn : Nat) : List Nat :=
  match ioNsid t.cmd with
  | none => []
  | some nsid => match s.nvm.ns nsid.toNat with
    | none => []
    | some n => t.waits.filter (fun l => s.resolve nsid.toNat n l == .leaf lpn)

/-- The read of a leaf page ended in channel_fault: nothing becomes POISONED, the commands that wait for the page fail, and a later one reads it again
(08 R274). -/
def State.leafFaults (s : State) (lpn : Nat) : State :=
  let s1 := { s with map := { s.map with pages := smod lpn (fun g => { g with missing := none }) s.map.pages } }
  (s1.host.tags.filter (fun e => e.2.phase == .running)).foldl (fun a e =>
    (a.waitsOnLeaf e.2 lpn).foldl (fun b l => b.toTag e.1 l none) a) s1

/-- Read the newest checkpoint copy of a slab (05 Table 5-10). -/
def State.readSlab (s : State) (g : Grove) (key : Nat) : State :=
  match sget (s.map.grove g).image.locs key with
  | none => s
  | some p => s.issueRead (readOp (plocPageBase p) [plocPlane p * 4 + plocSlot p] 2 (.unit g key)) false none

/-- A codeword cannot be recovered (08 R274): with media outcomes only, its blocks become POISONED; the command that
read it fails; a copy that met a channel_fault leaves its codeword uncopied, and the repair of a slab that met one reads again. -/
def State.uncorrectable (s : State) (i pos : Nat) : State :=
  match s.flash.op i with
  | none => s
  | some o =>
    let p := o.locOf pos
    let s2 := s.stepSix o
    let s3 := (if o.faulted then s2 else s2.poisonAt p).wantRelocation o.rb
    match o.why with
    | .host t m => (s3.donePos i pos).toTag t (lbaAt m pos) none
    | .gather t m => (s3.donePos i pos).toTag t (lbaAt m pos) none
    | .leaf lpn =>
      if o.faulted then (s3.donePos i pos).leafFaults lpn
      else ((s3.donePos i pos).poisonLeafPage lpn).recordHw (srcFtl (groveOf lpn)) sevCritical 0x0A03 6 (lpn % 8)
    | .unit g key => if o.faulted then (s3.donePos i pos).readSlab g key else ((s3.donePos i pos).slabLost g key).resumeReads
    | .thin _ rb =>
      let s4 := s3.donePos i pos
      if o.faulted then
        let spoiled := fun (v : Victim) => if v.rb = rb then { v with incomplete := true } else v
        ({ s4 with media := s4.media.modVictims spoiled }).forceLast
      else s4.forceLast
    | _ => s3.donePos i pos

/-! ## Reconstruction (R273) -/

/-- Reads of a reconstruction. -/
def FlashS.reconOps (f : FlashS) (parent pos : Nat) : List Nat :=
  (f.ops.filter (fun e => e.2.why == .recon parent pos)).map Prod.fst

/-- A member that took part with data or parity at a position: filler takes no part (R273). -/
def State.tookPart (s : State) (rb c : Nat) (p : Ploc) : Bool :=
  c == s.parityOf rb || (sget s.flash.content (mkPloc (rbDch rb c) (plocDie p) (plocPlane p) (plocBlock p) (plocPage p)
    (plocSlot p)).toNat).isSome

/-- A channel neither serves nor is out of service. -/
def FlashS.unsettled (f : FlashS) (c : Nat) : Bool := (f.chan c).state == .training || (f.chan c).state == .retiring

/-- Windrow reconstruction of a read begins (08 Table 8-7 step 5). -/
def State.beginRecon (s : State) (i : Nat) (o : DieOp) : State :=
  ({ s with flash := (s.flash.countStep o.key 5).modOp i (fun x => { x with stage := .recon, step := 5 }) }).recordHw
    (srcFtl (rbGrove o.rb)) sevWarning 0x0D03 o.ch.val o.die.val o.block

/-- The read of member x that reconstruction needs: issued and queued. -/
def State.reconRead (s : State) (i : Nat) (o : DieOp) (pos x : Nat) : State :=
  let a := s.issueFor (DieOp.fresh (rbDch o.rb x) (rbDie o.rb) .readSingle o.block o.page [pos] o.queue (.recon i pos)) o.why
  { a with flash := a.flash.enqueue s.flash.nextOp }

/-- The read waits until each channel concerned is ACTIVE or RETIRED (R274). -/
def State.waitChannels (s : State) (i : Nat) : State := { s with flash := s.flash.modOp i (fun x => { x with stage := .waitChannel }) }

/-- The operation has no other way: it is uncorrectable, or, where its own channel is TRAINING or RETIRING, it waits (R274). -/
def State.noWay (s : State) (i pos : Nat) : State :=
  match s.flash.op i with
  | none => s
  | some o => if s.flash.unsettled o.ch.val then s.waitChannels i else s.uncorrectable i pos

/-- A member other than the operation's own that took part at a position is absent now: the XOR of the present members does not check (R273). -/
def State.takerGone (s : State) (o : DieOp) (pos : Nat) : Bool :=
  (List.range 8).any (fun x => x != o.ch.val % 8 && !(s.memberPresent o.rb x) && s.tookPart o.rb x (o.locOf pos))

/-- Begin the reconstruction of an operation's only position, step 5 of the ladder: it waits where a channel concerned is
TRAINING or RETIRING, and otherwise reads every other present member. A read of the parity member is never reconstructed (R273). -/
def State.startRecon (s : State) (i : Nat) : State :=
  match s.flash.op i with
  | none => s
  | some o =>
    match o.left with
    | [] => s
    | pos :: _ =>
      let rb := o.rb
      let c := o.ch.val % 8
      let others := (s.members rb).filter (· != c)
      if c = s.parityOf rb then s.noWay i pos
      else if others.any (fun x => s.flash.unsettled (rbDch rb x)) then s.waitChannels i
      else
        let s2 := s.beginRecon i o
        if others.isEmpty then s2.noWay i pos else others.foldl (fun a x => a.reconRead i o pos x) s2

/-- Reconstruct each position that is left of an operation, each as an operation of its own. -/
def State.reconAll (s : State) (i : Nat) : State :=
  match s.flash.op i with
  | none => s
  | some o =>
    o.left.foldl (fun a pos =>
      let j := a.flash.nextOp
      (a.forkPos i pos 5 .recon).startRecon j) { s with flash := s.flash.takeBack i }

/-- The reads that serve a reconstruction are withdrawn. -/
def State.dropRecon (s : State) (parent pos : Nat) : State := (s.flash.reconOps parent pos).foldl (fun a j => a.dropOp j) s

/-- A reconstruction has failed: the reads that serve it are withdrawn. -/
def State.reconFailed (s : State) (parent pos : Nat) (fault : Bool) : State :=
  let s1 := s.dropRecon parent pos
  ({ s1 with flash := s1.flash.modOp parent (fun x => { x with faulted := x.faulted || fault }) }).noWay parent pos

/-- A member that a reconstruction needs is out of reach with its channel or die: the read waits, and then climbs the ladder afresh (R274). -/
def State.reconWaits (s : State) (parent pos : Nat) : State := (s.dropRecon parent pos).waitChannels parent

/-- A codeword has been recovered at a step: a read of a reconstruction may complete it, or leave a result that does not check (R273); any other
reaches its consumer; step 3 or later wants relocation (R203, R271). -/
def State.recovered (s : State) (i pos : Nat) : State :=
  match s.flash.op i with
  | none => s
  | some o =>
    let s1 := if 3 ≤ o.step then s.wantRelocation o.rb else s
    match o.why with
    | .recon parent q =>
      let s2 := s1.donePos i pos
      if (s2.flash.reconOps parent q).isEmpty then
        match s2.flash.op parent with
        | some x => if s2.takerGone x q then s2.reconFailed parent q false else (s2.wantRelocation x.rb).deliverData parent q
        | none => s2
      else s2
    | _ => s1.deliverData i pos

/-- A codeword has failed to decode at its step: the next step of the ladder (R270). -/
def State.climb (s : State) (i pos : Nat) : State :=
  match s.flash.op i with
  | none => s
  | some o =>
    if o.step < 4 then
      let s1 := { s with flash := s.flash.countStep o.key (o.step + 1) }
      s1.forkPos i pos (o.step + 1) .queued
    else
      match o.why with
      | .recon parent q => (s.stepSix o).reconFailed parent q false
      | _ =>
        let j := s.flash.nextOp
        (s.forkPos i pos 5 .recon).startRecon j

/-! ## The end of a row block's erase (R262 to R264, R246) -/

/-- The members that an erase retires: those whose erase failed, and those that are condemned. -/
def State.eraseRetires (s : State) (rb : Nat) : List Nat :=
  below 8 (fun c => s.media.eraseFails.contains (rbDch rb c, rb) || s.flash.isCondemned (rbDch rb c) rb)

/-- The bad-block mark is programmed into a retired block; a program that fails has no further effect (R263, R266). -/
def State.markBlock (s : State) (bit : Nat) : State :=
  let (k, s1) := s.draw
  if Config.markTaken k then { s1 with flash := { s1.flash with marks := addOnce bit s1.flash.marks } } else s1

/-- The block-retirement bit, and then the event and the mark, of each retired member (R263, R266, R267). -/
def State.retireBlocks (s : State) (rb : Nat) (cs : List Nat) : State :=
  cs.foldl (fun a c =>
    (({ a with flash := { a.flash with retBits := addOnce (retBit (rbDch rb c) rb) a.flash.retBits } }).recordHw
      (srcFtl (rbGrove rb)) sevNotice 0x0D01 (rbDch rb c) (rbDie rb) (rbN rb)).markBlock (retBit (rbDch rb c) rb)) s

/-- ABSENT after an erase: set for what is retired, clear for what has come back. -/
def absentAfter (old : BitVec 8) (retired back : List Nat) : BitVec 8 :=
  BitVec.ofNat 8 ((List.range 8).map (fun c =>
    bitIf ((old.getLsbD c && !(back.contains c)) || retired.contains c) c)).sum

/-- An ERASING dump set whose erases have all ended is FREE (09 R291). With a row block of it RETIRED it is replaced, and with a member less it may have
become too small (R290). -/
def State.freeDumpSets (s : State) : State :=
  let ended := fun (rb : Nat) => s.rbIsFree rb || decide (recState (s.media.rbRec rb) = rbRetired)
  let fix := fun (x : DumpSet) =>
    if x.present && x.state == .erasing && x.rbs.all ended then { x with state := .free, slabs := [] } else x
  let sets := s.plp.sets.map (fun (r : DumpRec) => { a := fix r.a, b := fix r.b })
  if sets = s.plp.sets then s.recheckPlp else ({ s with plp := { s.plp with sets := sets } }).recheckDumps

/-- A waiting condemned entry takes a free place (R265). -/
def FlashS.fillCondemned (f : FlashS) : FlashS :=
  let n := condemnedMax - f.condemned.length
  { f with condemned := f.condemned ++ f.condemnWait.take n, condemnWait := f.condemnWait.drop n }

/-- Every member has a final status: failed and condemned members are retired, and STATE, EIF and ABSENT are written in
one heartwood write (R262). The erase count advances; its 16 bits wrap, of which the spec says nothing (the model's choice, log entry 100). -/
def State.finishErase (s : State) (rb : Nat) : State :=
  let retired := s.eraseRetires rb
  let back := below 8 (fun c => s.media.eraseBack.contains (rbDch rb c, rb))
  let s1 := s.retireBlocks rb retired
  let x := s1.media.rbRec rb
  let absent := absentAfter (recAbsent x) retired back
  let s2 := { s1 with media := { s1.media with recs := sputD 0 rb (mkRec rbFree absent (recSlc x)) s1.media.recs } }
  let st := if (s2.members rb).length < 3 then rbRetired else rbFree
  let g := rbGrove rb
  let keep := fun (e : Nat × Nat) => e.2 != rb
  let m : MediaS := { (s2.media.setState rb st) with
    info := sdel rb s2.media.info
    erases := sput rb (BitVec.ofNat 16 (s2.media.eraseCount rb + 1)) s2.media.erases
    erasedSince := vmod s2.media.erasedSince g.val (· + 1)
    eraseFails := s2.media.eraseFails.filter keep
    eraseBack := s2.media.eraseBack.filter keep
    reads := (List.range 8).foldl (fun t c => sput (memberKey (rbDch rb c) rb) 0 t) s2.media.reads }
  let f := { s2.flash with
    content := s2.flash.content.filter (fun e => plocRb (BitVec.ofNat 40 e.1) != rb)
    condemned := s2.flash.condemned.filter keep
    condemnWait := s2.flash.condemnWait.filter keep }
  let s3 := ({ s2 with media := m, flash := f.fillCondemned }).freeDumpSets.clearDebts
  let s4 := if 4096 ≤ vget m.erasedSince g.val 0 then s3.beginWear g else s3
  let s5 := if st = rbRetired then s4.refillRegions [rb] else s4
  if retired.isEmpty && st = rbFree then s5 else s5.recheckSpare

/-- End the erase of a row block once no member's erase is under way. -/
def State.eraseCheck (s : State) (rb : Nat) : State :=
  if recState (s.media.rbRec rb) = rbErasePending && !(s.flash.erasing rb) then s.finishErase rb else s

/-! ## Training in full (R221, R226) -/

/-- A channel goes to TRAINING, from step 2, after a step-down of one rung where there is one. Its reads go to windrow reconstruction meanwhile
(Table 7-7). -/
def State.enterTraining (s : State) (ch : Nat) (down : Bool) : State :=
  let c := s.flash.chan ch
  let rate := if down then c.rate - 1 else c.rate
  let s1 := { s with flash := s.flash.modChan ch (fun c =>
    { c with state := .training, rate := rate, step := 2, failedOnce := false, restoring := false, waiting := none }) }
  let s2 := if rate = c.rate then s1 else s1.recordHw (srcSeq (chanOf ch)) sevWarning 0x0C01 ch (rateMts rate)
  (s2.flash.ops.filter (fun e => e.2.ch.val == ch && e.2.isRead && e.2.stage != .recon && e.2.stage != .waitChannel &&
    e.2.stage != .decoding && e.2.stage != .softWait && e.2.stage != .softBusy)).foldl (fun a e =>
      match e.2.why with
      | .recon _ _ => { a with flash := (a.flash.takeBack e.1).modOp e.1 (fun x => { x with stage := .waitChannel }) }
      | .raw _ _ _ => a
      | _ => a.reconAll e.1) s2

/-- A channel of a grove, other than a given one, is TRAINING. -/
def FlashS.othersTrain (f : FlashS) (g ch : Nat) : Bool :=
  (List.range 8).any (fun i => g * 8 + i != ch && (f.chan (g * 8 + i)).state == .training)

/-- A channel needs full training. In SERVICE it waits while another channel of its grove is TRAINING: it serves on, and its faults go on counting
(R226). -/
def State.beginTraining (s : State) (ch : Nat) (down : Bool) : State :=
  if s.dev.phase == .running && s.flash.othersTrain (ch / 8) ch then
    { s with flash := s.flash.modChan ch (fun c => { c with waiting := some (c.waiting.getD false || down) }) }
  else s.enterTraining ch down

/-- A channel of a grove has left TRAINING: the lowest-numbered one that waits takes its turn. -/
def State.nextTurn (s : State) (g : Nat) : State :=
  if s.flash.othersTrain g 64 then s
  else
    match (List.range 8).find? (fun i => (s.flash.chan (g * 8 + i)).waiting.isSome && (s.flash.chan (g * 8 + i)).state == .active) with
    | some i => s.enterTraining (g * 8 + i) ((s.flash.chan (g * 8 + i)).waiting.getD false)
    | none => s

/-- A channel leaves service to train in full; above 800 MT/s it steps down one rung first (R221). -/
def State.stepDown (s : State) (ch : Nat) : State :=
  let c := s.flash.chan ch
  if c.state == .retiring || c.state == .retired then s else s.beginTraining ch true

/-- The member of a read serves it: its channel is ACTIVE and it is present. -/
def State.reachable (s : State) (o : DieOp) : Bool := (s.flash.chan o.ch.val).state == .active && s.memberPresent o.rb (o.ch.val % 8)

/-- A read climbs the ladder afresh: from its own die, or by reconstruction. -/
def State.climbAfresh (s : State) (i : Nat) : State :=
  match s.flash.op i with
  | none => s
  | some o =>
    if s.reachable o then { s with flash := (s.flash.modOp i (fun x => { x with step := 1, faulted := false })).enqueue i }
    else s.startRecon i

/-- Operations that waited for channels begin again once each channel is ACTIVE or RETIRED (R274): reads climb the
ladder afresh, a read of a reconstruction whose own member is gone with what it serves. -/
def State.wakeWaiting (s : State) : State :=
  (s.flash.ops.filter (fun e => e.2.stage == .waitChannel && e.2.isRead && !(s.flash.unsettled e.2.ch.val))).foldl (fun a e =>
    match e.2.why with
    | .recon parent q => if a.reachable e.2 then a.climbAfresh e.1 else (a.reconWaits parent q).climbAfresh parent
    | _ => a.climbAfresh e.1) s

/-! ## Member losses (07 R233, R237 to R242) -/

/-- A die, or every die of a channel. -/
def lossHits (ch : Nat) (die : Option Nat) (o : DieOp) : Bool :=
  o.ch.val == ch && (match die with
    | some d => o.die.val == d
    | none => true)

/-- The rebuild set of a loss (R237), as it is at that moment. -/
def State.rebuildSet (s : State) (ch : Nat) (die : Option Nat) : List Nat :=
  (s.lossRbs ch die).filter (fun rb =>
    let st := recState (s.media.rbRec rb)
    (st == rbOpen || st == rbClosed || st == rbThinning) && s.memberPresent rb (ch % 8) &&
      !(s.reserved.contains rb) && !(s.validIn rb).isEmpty)

/-- The valid codewords that a second loss takes (R242): those on members that are no longer present, in row blocks
whose bitmap bit was set already. -/
def State.secondLoss (s : State) (rbs : List Nat) : List (Nat × Nat × Ploc) :=
  rbs.flatMap (fun rb => (s.validIn rb).filter (fun x => !(s.memberPresent rb (plocChan x.2.2))))

/-- The checkpoint units whose flash copy lies on a member that is absent. -/
def State.lostUnits (s : State) : List (Nat × Nat) := s.unitsWhere (fun p => holdsData p && !(s.memberPresent (plocRb p) (plocChan p)))

/-- They are written again, from DRAM, in a checkpoint generation (R241). -/
def State.redoUnits (s : State) : State := s.rewriteThese s.lostUnits

/-- A RAW_DIAG read ends without data: the member is not there (16 R448, outcome ABSENT). -/
def State.rawGone (s : State) (i : Nat) : State :=
  match s.flash.op i with
  | none => s
  | some o => match o.why with
    | .raw f _ _ => (s.dropOp i).rawOutcome f 3
    | _ => s

/-- The sets in progress that a lost member takes part in and whose program there has not been verified, its parity's among them (R182, R233). -/
def MediaS.hitSets (m : MediaS) (ch : Nat) (die : Option Nat) : List Nat :=
  (m.sets.filter (fun e => e.2.started && (rbGrove e.2.rb).val == ch / 8 && e.2.members.contains (ch % 8) && !e.2.verified.contains (ch % 8) &&
    (match die with
    | some d => rbDie e.2.rb == d
    | none => true))).map Prod.fst

/-- Withdraw the operations of a lost member: programs fail their sets, reads go to reconstruction, erases end. -/
def State.withdrawOps (s : State) (ch : Nat) (die : Option Nat) : State :=
  let s0 := (s.media.hitSets ch die).foldl (fun a n => a.failSet n) s
  (s0.flash.ops.filter (fun e => lossHits ch die e.2)).foldl (fun a e =>
    match e.2.kind with
    | .erase => (a.dropOp e.1).eraseCheck e.2.rb
    | .progTlc => a.dropOp e.1
    | .progSlc => a.dropOp e.1
    | _ => match e.2.why with
      | .recon parent q => a.reconWaits parent q
      | .raw _ _ _ => a.rawGone e.1
      | _ => a.reconAll e.1) s0

/-- Every OPEN row block of a grove goes to CLOSED; sets that have not started are abandoned. -/
def State.closeGrove (s : State) (g : Nat) : State :=
  let part := (s.media.sets.filter (fun e => e.2.dom.grove.val == g && !e.2.started)).map Prod.fst
  let s1 := part.foldl (fun a n => a.abandonSet n) s
  ((s1.media.recs.filter (fun e => (rbGrove e.1).val == g && recState e.2 == rbOpen)).map Prod.fst).foldl
    (fun a rb => a.closeRow rb) s1

/-- The place of a row block in its grove's rebuild bitmap. -/
def rebuildBit (rb : Nat) : Nat := rbDie rb * 16384 + rbN rb

/-- Row blocks have lost a second member that held data or parity: what lay on the lost data members is POISONED, and the grove has lost it (R242). -/
def State.loseTwice (s : State) (g : Nat) (rbs : List Nat) : State :=
  let lost := s.secondLoss rbs
  if lost.isEmpty then s
  else
    let a := s.queueChanges .poison (lost.map poisonChange)
    let b := { a with flash := a.flash.modGrove g (fun r =>
      { r with degraded := true, lostcw := r.lostcw + BitVec.ofNat 32 lost.length }) }
    b.recordHw (srcFtl ⟨g % 8, by omega⟩) sevCritical 0x0C07 g lost.length

/-- The rebuild bitmap is written, and the rebuild's share of the program time counts from here (R240). -/
def State.writeBitmap (s : State) (g : Nat) (bm : List Nat) : State :=
  { s with flash := s.flash.modGrove g (fun r => { r with bitmap := bm, bmvalid := true, rebuild := !bm.isEmpty })
           media := { s.media with shares := vmod s.media.shares g (fun _ => (0, 0)) } }

/-- A loss's rebuild set joins the bitmap; the row blocks of it that stand there already have lost a second member (R242). -/
def State.noteRebuild (s : State) (g : Nat) (set : List Nat) : State :=
  let old := (s.flash.grove g).bitmap
  (s.loseTwice g (set.filter (fun rb => old.contains (rebuildBit rb)))).writeBitmap g (set.foldl (fun l rb => addOnce (rebuildBit rb) l) old)

/-- The steps of Table 7-10 after the records: the second loss of R242, the bitmap, the ABSENT bits, and what depends on
the members. -/
def State.afterLoss (s : State) (ch : Nat) (die : Option Nat) (set : List Nat) : State :=
  let g := ch / 8
  let s1 := if s.dev.mapDone.getLsbD g then s.noteRebuild g set else { s with flash := s.flash.deferRebuild g }
  (((s1.markAbsent ch die).redoUnits).recheckDumps).recheckSpare

/-- A channel is retired (Table 7-10): its chip enables go high (R244), and a channel that waited to train takes its turn. -/
def State.retireChannel (s : State) (ch cause : Nat) : State :=
  let c := s.flash.chan ch
  if c.state == .retiring || c.state == .retired then s
  else
    let set := s.rebuildSet ch none
    let s1 := ({ s with flash := s.flash.modChan ch (fun c => { c with state := .retiring }) }).recordHw
      (srcSeq (chanOf ch)) sevError 0x0C05 ch cause
    let s2 := { s1 with flash := s1.flash.modChan ch (fun c =>
      { c with state := .retired, recRetired := true, rcause := BitVec.ofNat 8 cause, retires := c.retires + 1,
               recValid := true, bus := [], waiting := none, ceN := 15 }) }
    let s3 := ((s2.withdrawOps ch none).closeGrove (ch / 8))
    ((s3.afterLoss ch none set).nextTurn (ch / 8)).wakeWaiting

/-- A die fails (R233): the same steps for its die row; its faults leave its channel's count. -/
def State.failDie (s : State) (ch die : Nat) : State :=
  let c := s.flash.chan ch
  if c.failed.getLsbD die then s
  else
    let set := s.rebuildSet ch (some die)
    let s1 := { s with flash := s.flash.modChan ch (fun c =>
      { c with failed := c.failed ||| BitVec.ofNat 16 (2 ^ die), faults := c.faults.filter (fun e => e.2 != die),
               recValid := true }) }
    let s2 := s1.recordHw (srcSeq (chanOf ch)) sevError 0x0C04 ch die
    (((s2.withdrawOps ch (some die)).closeGrove (ch / 8)).afterLoss ch (some die) set).wakeWaiting

/-! ## channel_fault (R231, R232) -/

/-- Faults of a channel within the window. -/
def State.faultsNow (s : State) (c : ChanS) : List (Nat × Nat) :=
  c.faults.filter (fun e => decide (s.now < e.1 + s.par P.CHN_FAULT_WINDOW_S * 1000000000))

/-- The dies of a channel that are in use. -/
def ChanS.liveDies (c : ChanS) : List Nat := below 16 (fun d => c.inUse d)

/-- Count one channel_fault and apply the criteria of Table 7-6 in order. -/
def State.countFault (s : State) (ch die : Nat) : State :=
  let s1 := { s with flash := s.flash.modChan ch (fun c =>
    { c with faults := s.faultsNow c ++ [(s.now, die)], faultsLife := c.faultsLife + 1, recValid := true }) }
  let c := s1.flash.chan ch
  let mine := (c.faults.filter (fun e => e.2 == die)).length
  let clean := c.liveDies.any (fun d => d != die && !(c.faults.any (fun e => e.2 == d)))
  if s1.par P.CHN_DIE_FAULT_LIMIT ≤ mine && clean then s1.failDie ch die
  else
    let dies := (c.faults.map (fun e => e.2)).foldl (fun l d => addOnce d l) []
    if s1.par P.CHN_FAULT_LIMIT ≤ c.faults.length && 2 ≤ dies.length then s1.retireChannel ch 3 else s1

/-- An operation ends in channel_fault (R231): a read goes to reconstruction, a program fails its set, an erase waits
for the next passing check of its die. -/
def State.channelFault (s : State) (i : Nat) : State :=
  match s.flash.op i with
  | none => s
  | some o =>
    let s1 := { s with flash := s.flash.takeBack i }
    let s2 := match o.kind with
      | .erase =>
        let f := s1.flash.modDie o.key (fun d => { d with reissue := d.reissue ++ [i] })
        { s1 with flash := f.modOp i (fun x => { x with stage := .waitChannel }) }
      | .progTlc => match o.why with
        | .program n => (s1.failSet n).dropOp i
        | _ => s1.dropOp i
      | .progSlc => match o.why with
        | .program n => (s1.failSet n).dropOp i
        | _ => s1.dropOp i
      | _ => match o.why with
        | .recon parent q => s1.reconFailed parent q true
        | .raw _ _ _ => s1.rawGone i
        | _ => ({ s1 with flash := s1.flash.modOp i (fun x => { x with faulted := true }) }).reconAll i
    s2.countFault o.ch.val o.die.val

/-- An upset of an operation (R230): within CHN_RETRY_LIMIT a live retrain of the die begins and the retry of Table 7-5
follows; beyond it the operation ends in channel_fault. -/
def State.upset (s : State) (i row : Nat) : State :=
  match s.flash.op i with
  | none => s
  | some o =>
    let s1 := s.noteUpset o.ch.val o.die.val row
    if s.par P.CHN_RETRY_LIMIT < o.attempts + 1 then s1.channelFault i
    else
      let f := s1.flash.modOp i (fun x => { x with attempts := x.attempts + 1 })
      { s1 with flash := (f.beginLive o.key).retryForm i row }

end Sys2Proof.Machine
end

