-- ==== Sys2Proof/Machine/WakeOps.lean ====
section
/-! DEFINITION. Wakes from PS4 (13 R386 to R390) and the taking of a pin reset (12 R351). -/

namespace Sys2Proof.Machine

/-! ## Wake checks (Table 13-12) -/

/-- The instruction-memory digest differs: the ROM loads a slot again; none passes: FATAL. -/
def State.checkDigest (s : State) (ok : Bool) : State :=
  if ok then s
  else
    let s1 := s.record sevError 0x0203 1
    let t := s1.trySlots true s1.nor.bootOrder
    match t.2 with
    | none => s1.record sevFatal 0x0203 6
    | some w =>
      match (s1.nor.slot w).hdr with
      | some h => { s1 with mgmt := s1.mgmt.booted h, nor := { s1.nor with booted := w } }
      | none => s1.record sevFatal 0x0203 6

/-- The bulk save fails: every controller sets CFS, and leases end with cause 02h. -/
def State.checkBulk (s : State) (ok : Bool) : State :=
  if ok then s
  else
    let s1 := s.record sevError 0x0203 2
    let s2 := { s1 with host := { s1.host with funcs := smap (fun _ f => { f with cfs := true }) s1.host.funcs } }
    (s2.endLease 0 2).endLease 1 2

/-- A grove's control block fails: it rebuilds under 05 R162. -/
def State.checkGrove (s : State) (g : Grove) : State :=
  ({ s with dev := { s.dev with mapDone := s.dev.mapDone &&& ~~~(BitVec.ofNat 8 (2 ^ g.val)) }
            map := s.map.modGrove g (fun m => { m with restarting := true, inDram := false }) }).record sevError 0x0203 3 g.val

/-- A channel's restore fails step 7: it trains in full, one channel of a grove at a time (07 R225, R226). -/
def State.checkChannel (s : State) (c : Chan) : State :=
  let s1 := if (s.flash.chan c.val).state == .active then s.beginTraining c.val false else s
  s1.record sevError 0x0203 4 c.val

/-- DRAM does not leave self-refresh: a controlled stop. The operand names no channel; the record carries 0. -/
def State.checkDram (s : State) (ok : Bool) : State :=
  if ok then s else (s.record sevError 0x0203 5).controlledStop (some 0)

/-- Every namespace key is unwrapped into the key store again (R384). -/
def NvmS.loadKeys (n : NvmS) : NvmS := { n with nss := smap (fun _ x => { x with keyLoaded := x.keyValid }) n.nss }

/-- Steps 1 to 10 of Table 13-11: rails, PLL, keys, pads, DRAM, checks. -/
def State.wakeUp (s : State) (ps : Nat) (w : WakeChecks) : State :=
  let s1 := { s with
    dev := { s.dev with latchFlash := false, latchDram := false, wpN := 255, clkCtrl := setField s.dev.clkCtrl 31 1 1 }
    dram := { s.dram with selfRefresh := false }
    sec := { s.sec with rwk := some s.fuses.lcClass }
    nvm := s.nvm.loadKeys
    pwr := { s.pwr with ps := ps, wakes := s.pwr.wakes + 1 } }
  let s2 := (s1.checkDigest w.digestOk).checkBulk w.bulkOk
  let s3 := w.badGroves.foldl (fun a g => a.checkGrove g) s2
  let s4 := w.badChannels.foldl (fun a c => a.checkChannel c) s3
  s4.checkDram w.dramOk

/-- Credits are withheld, or returned. -/
def HostS.withhold (h : HostS) (b : Bool) : HostS :=
  { h with port0 := { h.port0 with withheld := b }, port1 := { h.port1 with withheld := b } }

/-- Step 11: GPIO released, credits returned, fetching resumed, Keep Alive timers restarted. -/
def State.wakeEnd (s : State) : State :=
  let s1 := { s with dev := { s.dev with latchGpio := false }
                     host := { (s.host.withhold false) with lastTlp := s.now }
                     pwr := { s.pwr with patrol := false, entering := false } }
  s1.resumeFetch

/-- The device sleeps in PS4. -/
def State.asleep (s : State) : Bool := s.pwr.ps == 4 && s.dev.phase == .running

/-- A full wake (R388); during a patrol wake it ends the patrol (R390), and in MGMT_LOST the power state stays the patrol's (R381); awake it does
nothing but end PS3 (R386). -/
def State.fullWake (s : State) (w : WakeChecks) : State :=
  if s.asleep then (s.wakeUp (max s.operState s.pwr.thermal) w).wakeEnd
  else if s.pwr.patrol then
    ({ s with pwr := { s.pwr with ps := if s.mgmtLost then s.pwr.ps else max s.operState s.pwr.thermal } }).wakeEnd
  else s.recheckPower.leaveIdle

/-- All checks of a wake pass, so that it ends within the times of Table 13-11. -/
def wakeClean (w : WakeChecks) : Bool :=
  w.digestOk && w.bulkOk && w.badGroves.isEmpty && w.badChannels.isEmpty && w.dramOk

/-! ## Pin reset -/

/-- Pin reset takes effect on every unit. -/
def State.takePin (s : State) : State :=
  let s1 := s.clearUnits false
  { s1 with dev := { s1.dev with pin := true, deferredPin := false } }

end Sys2Proof.Machine
end

