-- ==== Sys2Proof/Machine/StandOps.lean ====
section
/-! DEFINITION. Bandwidth shares and dispatch (10 R316 to R319; 03 R77 to R80). -/

namespace Sys2Proof.Machine

/-- The direction in which a command is dispatched. What moves no blocks to the host, the writes' way. -/
def cmdDir : NvmeCmd → Dir
  | .read _ => .read
  | .orderedRead _ => .read
  | .compare _ => .read
  | .gatherRead _ => .read
  | .resvReport _ => .read
  | .otherIo _ => .read
  | _ => .write

/-- What a command is charged as it is dispatched, in bytes (R318). Gather Read is settled window by window; a Flush has been charged at its acceptance,
where it begins (03 R78). -/
def cmdCharge : NvmeCmd → Nat
  | .read f => 4096 * rwLen f
  | .orderedRead f => 4096 * rwLen f
  | .compare f => 4096 * rwLen f
  | .write f => 4096 * rwLen f
  | .orderedWrite f => 4096 * rwLen f
  | .writeZeroes _ => 4096
  | .dsm _ _ _ => 4096
  | .orderedDsm _ _ _ => 4096
  | _ => 0

/-- The dispatch queue of a tag. -/
def State.queueOf (s : State) (t : TagE) : Nat := s.queueAt t.cntl.val

/-- I/O commands that wait at a pipeline in a direction; an ordered command waits for its own point (03 R79). -/
def State.waitingIn (s : State) (pipe : Fin 4) (d : Dir) : List (Nat × TagE) :=
  s.host.tags.filter (fun e => e.2.phase == .accepted && e.2.sqid != 0 && !cmdOrdered e.2.cmd && cmdDir e.2.cmd == d && Config.pipeline e.1 == pipe)

/-- The stands with a command waiting there. -/
def State.waitingStands (s : State) (pipe : Fin 4) (d : Dir) : List Nat := (s.waitingIn pipe d).foldl (fun l e => addOnce (s.queueOf e.2) l) []

/-- A stand has credit in a direction. -/
def State.hasCredit (s : State) (d : Dir) (st : Nat) : Bool :=
  match s.nvm.stand st with
  | none => false
  | some x => match d with
    | .read => decide (0 < x.rcredit)
    | .write => decide (0 < x.wcredit)

/-- The class of a stand number. -/
def State.classAt (s : State) (st : Nat) : Nat := ((s.nvm.stand st).map (fun x => x.cls)).getD 2

/-- The least number of a list. -/
def leastOf : List Nat → Option Nat
  | [] => none
  | x :: t => some (t.foldl min x)

/-- Round robin: the next number after the last one served, wrapping. -/
def roundRobin (last : Nat) (l : List Nat) : Option Nat :=
  match leastOf (l.filter (fun x => last < x)) with
  | some x => some x
  | none => leastOf l

/-- The place of a round robin: a pipeline, a direction, and a class or, as 3, the surplus. -/
def rrKey (pipe : Fin 4) (d : Dir) (k : Nat) : Nat := pipe.val * 8 + (match d with
  | .read => 0
  | .write => 4) + k

/-- The stand served next and its turn (R317): by class among stands with credit, then, as class 3, the surplus, which the governor holds with rung 5 (13
R382). -/
def State.nextStand (s : State) (pipe : Fin 4) (d : Dir) : Option (Nat × Nat) :=
  let all := s.waitingStands pipe d
  let turn := fun (k : Nat) (l : List Nat) => (roundRobin ((sget s.host.rr (rrKey pipe d k)).getD 0) l).map (fun st => (k, st))
  let inClass := fun (k : Nat) => turn k (all.filter (fun st => s.classAt st == k && s.hasCredit d st))
  match inClass 0 with
  | some x => some x
  | none => match inClass 1 with
    | some x => some x
    | none => match inClass 2 with
      | some x => some x
      | none => if s.govHolds 5 then none else turn 3 all

/-- The oldest of some tags by acceptance. -/
def oldestTag : List (Nat × TagE) → Option (Nat × TagE)
  | [] => none
  | x :: t => match oldestTag t with
    | none => some x
    | some y => if x.2.aseq ≤ y.2.aseq then some x else some y

/-- Note the stand served last. -/
def HostS.served (h : HostS) (pipe : Fin 4) (d : Dir) (x : Nat × Nat) : HostS := { h with rr := sput (rrKey pipe d x.1) x.2 h.rr }

/-- A command begins: its stand is charged, its row may run (03 R78), and its class stays as it is now (R310). -/
def State.dispatch (s : State) (tag : Nat) (t : TagE) : State :=
  (s.chargeCredit (s.queueOf t) (cmdDir t.cmd) (cmdCharge t.cmd)).modTag tag (fun x => { x with phase := .dispatched, cls := s.classAt (s.queueOf t) })

end Sys2Proof.Machine
end

