-- ==== Sys2Proof/Machine/HostPort.lean ====
section
/-! DEFINITION. Port events, controller enable and reset, doorbells and dispatch (02 R44 to R48; 03 R70 to R80; 10 R317). -/

namespace Sys2Proof.Machine

/-! ## Port events (R44, Table 2-4) -/

/-- The functions of a port. -/
def onPort (p : Port) (c : Cntl) : Bool := c.port == p

/-- The power requests of a PF end with its controller (13 R380). -/
def PwrS.forget (w : PwrS) (p : Port) : PwrS := if p = 0 then { w with q0 := 0, o0 := 0 } else { w with q1 := 0, o1 := 0 }

/-- An event that resets every function of a port: the lease ends first, then the commands are dropped (R45, 03 R99). -/
def State.portReset (s : State) (p : Port) (cause : Nat) (f : PortS → PortS) : State :=
  let s1 := (s.endLease p cause).resetFuncs (onPort p) false
  let s2 := { s1 with host := s1.host.setPort p { (f (s1.host.port p)) with vfEnable := false }, pwr := s1.pwr.forget p }
  s2.recheckPower

/-- Host link training may run: the option block has been applied, the part is not BLANK, no RECOVERY (12 R363 to R371), and
TESTEN is low (19 R518). -/
def State.mayTrain (s : State) : Bool :=
  (match s.dev.phase with
  | .booting => true
  | .running => true
  | _ => false) && s.fuses.lc != 0 && !s.dev.testEn

/-- PERST_ASSERT (R44, R45): the port's functions are reset, its lease ends with cause 04h, its link goes down. -/
def execPerstAssert (p : Port) (s : State) : Host.Outcome State Fault Refusal :=
  .next (s.portReset p 4 (fun x => { x with perst := true, linkUp := false, training := false, l1 := false }))

/-- PERST_DEASSERT (R46; 13 R386): the port trains; in PS4 this wakes the device. -/
def execPerstDeassert (p : Port) (w : WakeChecks) (s : State) : Host.Outcome State Fault Refusal :=
  .next (
    let x := s.host.port p
    if !x.perst then s
    else
      let s1 := { s with host := s.host.setPort p { x with perst := false, training := s.mayTrain } }
      if s1.mayTrain then s1.fullWake w else s1)

/-- HOT_RESET (R44, R46): the port's functions are reset, its lease ends with cause 02h, and the link trains again. -/
def execHotReset (p : Port) (s : State) : Host.Outcome State Fault Refusal :=
  .next (if (s.host.port p).linkUp then
    s.portReset p 2 (fun x => { x with linkUp := false, training := s.mayTrain, l1 := false })
  else s)

/-- DATA_LINK_DOWN (R44): as a hot reset. -/
def execDataLinkDown (p : Port) (s : State) : Host.Outcome State Fault Refusal :=
  .next (if (s.host.port p).linkUp then
    s.portReset p 2 (fun x => { x with linkUp := false, training := s.mayTrain, l1 := false })
  else s)

/-- The lanes that the option block gives a port. -/
def State.portWidth (s : State) (p : Port) : Nat :=
  if (if p = 0 then s.dev.opt.port0 else s.dev.opt.port1).widthX8 then 8 else 16

/-- A link runs in FLIT mode at 64 GT/s, and at 32, 16 and 8 GT/s with a flit-capable partner (Table 2-1). -/
def linkFlit (rate : Nat) (partner : Bool) : Bool := rate == 64 || (partner && (rate == 32 || rate == 16 || rate == 8))

/-- LINK_UP (R37, R46): training ends at a width and a rate within the port's ceilings; narrower than x8 is recorded. -/
def execLinkUp (p : Port) (width : Nat) (rate : LinkRate) (s : State) : Host.Outcome State Fault Refusal :=
  .next (
    let x := s.host.port p
    if !x.training || x.perst then s
    else
      let w := min width (s.portWidth p)
      let r := min rate.gts (s.parI P.HST_MAX_RATE_GTS p.val)
      let y := { x with linkUp := true, training := false, width := w, rate := r, l1 := false, flit := linkFlit r rate.flitPartner }
      let s1 := { s with host := { s.host.setPort p y with lastTlp := s.now } }
      (if w < 8 then s1.recordHw srcFront sevWarning 0x0601 p.val w r else s1).recheckPower)

/-- CONFIGURATION_REQUEST (12 R365; R46): answered with Retry Status until the configuration has been applied. -/
def execConfigurationRequest (c : Cntl) (s : State) : Host.Outcome State Fault Refusal :=
  .next (if s.host.present c then
    ({ s with host := { s.host with cfgAnswer := some (c.val, !s.dev.configured) } }).touchLink
  else s)

/-- LINK_L1_EXIT (13 R386): the link leaves L1; in PS4 this wakes the device, in PS3 it ends the state. -/
def execLinkL1Exit (p : Port) (w : WakeChecks) (s : State) : Host.Outcome State Fault Refusal :=
  .next (
    let x := s.host.port p
    if !x.l1 then s
    else ({ s with host := s.host.setPort p { x with l1 := false } }).fullWake w)

/-- FUNCTION_LEVEL_RESET (R44, 03 R99): of a VF that VF; of the PF every function of the port, with VF Enable cleared and
the lease ended with cause 03h. -/
def execFunctionLevelReset (c : Cntl) (s : State) : Host.Outcome State Fault Refusal :=
  .next (
    if !s.host.present c then s
    else if c.isPF then (s.portReset c.port 3 (fun x => x)).touchLink
    else (s.resetFuncs (fun d => d == c) false).touchLink)

/-! ## Controllers -/

/-- An admin queue pair of so many entries. -/
def HostS.adminQueues (h : HostS) (c : Cntl) (asqs acqs : Nat) : HostS :=
  { h with
    sqs := sput (qKey c.val 0) { size := asqs + 1, cqid := 0, head := 0, tail := 0, unfetched := [], ordered := none, starved := false } h.sqs
    cqs := sput (qKey c.val 0) { size := acqs + 1, head := 0, posted := [], held := [], vector := 0, ien := true, unsignalled := 0, msix := 0 } h.cqs }

/-- AQA with both sizes. -/
def aqaWord (asqs acqs : Nat) : Dword := BitVec.ofNat 32 (asqs % 4096 + acqs % 4096 * 65536)

/-- CC_EN_SET (R46; 13 R380): the admin queues stand, and the controller is ready unless the device is BOOTING. -/
def execCcEnSet (c : Cntl) (asqs acqs : Nat) (s : State) : Host.Outcome State Fault Refusal :=
  .next (
    let f := s.host.func c.val
    if !s.host.present c || !s.dev.configured || f.en then s
    else
      let f1 := { f with cc := f.cc ||| 1, rdy := s.serving, aqa := aqaWord asqs acqs, keepAliveFrom := s.now }
      let s1 := { s with host := (s.host.setFunc c.val f1).adminQueues c asqs acqs,
                         pwr := if c.isPF then s.pwr.forget c.port else s.pwr }
      (s1.noteChange 0x20).touchLink)

/-- CC_EN_CLEAR (R44, R45; 03 R99): the controller's commands are dropped before CSTS.RDY falls; the PF's ends the lease. -/
def execCcEnClear (c : Cntl) (s : State) : Host.Outcome State Fault Refusal :=
  .next (
    if !s.host.present c || !(s.host.func c.val).en then s
    else
      let s1 := if c.isPF then s.endLease c.port 3 else s
      let s2 := s1.resetFuncs (fun d => d == c) true
      (({ s2 with pwr := if c.isPF then s2.pwr.forget c.port else s2.pwr }).noteChange 0x20).touchLink)

/-- KEEP_ALIVE_TIMEOUT (Table 3-4): CFS is set; what has been accepted still runs. -/
def execKeepAliveTimeout (c : Cntl) (s : State) : Host.Outcome State Fault Refusal :=
  .next (
    let f := s.host.func c.val
    let kato := (f.feature 0x0F).toNat
    if f.en && f.rdy && !f.keepAliveHeld && kato != 0 && decide (f.keepAliveFrom + kato * 1000000 ≤ s.now) then
      { s with host := s.host.setFunc c.val { f with cfs := true } }
    else s)

/-! ## Registers (00 R18) -/

/-- Writable bits of CC other than EN: CSS, MPS, AMS, SHN, IOSQES, IOCQES. -/
abbrev ccMask : Dword := 0x00FFFFF0

/-- The VFs of a port other than its PF. -/
def vfOf (p : Port) (c : Cntl) : Bool := c.port == p && !c.isPF

/-- REGISTER_WRITE (00 R18; 02 R38, R40): the RW fields take the value, the RO fields ignore it. -/
def execRegisterWrite (r : RegId) (v : Qword) (s : State) : Host.Outcome State Fault Refusal :=
  .next (
    let d : Dword := v.truncate 32
    let put := fun (c : Cntl) (g : FuncS → FuncS) =>
      if s.host.present c then ({ s with host := s.host.modFunc c.val g }).touchLink else s
    let look := fun (c : Cntl) => if s.host.present c then s.touchLink else s
    match r with
    | .intms c => put c (fun f => { f with intMask := f.intMask ||| d })
    | .intmc c => put c (fun f => { f with intMask := f.intMask &&& ~~~d })
    | .cc c => put c (fun f => { f with cc := (f.cc &&& ~~~ccMask) ||| (d &&& ccMask) })
    | .aqa c => put c (fun f => if f.en then f else { f with aqa := d &&& 0x0FFF0FFF })
    | .asq c => put c (fun f => if f.en then f else { f with asq := v &&& ~~~0xFFF })
    | .acq c => put c (fun f => if f.en then f else { f with acq := v &&& ~~~0xFFF })
    | .devCtl c => put c (fun f => { f with devCtl := d })
    | .sriovCtl p =>
      if !s.host.present p.pf then s
      else if v.getLsbD 0 then ({ s with host := s.host.setPort p { (s.host.port p) with vfEnable := true } }).touchLink
      else
        let s1 := s.resetFuncs (vfOf p) false
        ({ s1 with host := s1.host.setPort p { (s1.host.port p) with vfEnable := false } }).touchLink
    | .cap c => look c
    | .vs c => look c
    | .csts c => look c
    | .rstCause => s
    | .rstBootStatus => s
    | .secstat => s
    | .clkCtrlStatus => s
    | .capHigh c => look c
    | .pciId c => look c
    | .pciSubsystem c => look c
    | .devCap c => look c
    | .linkCap c => look c
    | .sriovVfs p => look p.pf
    | .sriovOffsets p => look p.pf)

/-- UNSUPPORTED_REQUEST_RECEIVED (R48): AER of the function logs it; nothing else happens. -/
def execUnsupportedRequestReceived (c : Cntl) (malformed : Bool) (s : State) : Host.Outcome State Fault Refusal :=
  .next (if s.host.present c then
    ({ s with host := s.host.modFunc c.val (fun f =>
      { f with aerLog := f.aerLog ++ [if malformed then AerLog.malformedTlp else AerLog.unsupportedRequest] }) }).touchLink
  else s)

/-! ## Doorbells (03 R71 to R75) -/

/-- SQ_TAIL_DOORBELL (R71, R73): the new entries wait in host memory, and the front end fetches what it can. -/
def execSqTailDoorbell (c : Cntl) (sq tail : Nat) (entries : List Sqe) (s : State) : Host.Outcome State Fault Refusal :=
  .next (
    let f := s.host.func c.val
    match sget s.host.sqs (qKey c.val sq) with
    | none => s
    | some q =>
      let n := (tail + q.size - q.tail) % q.size
      if !f.en || !s.host.present c || q.size ≤ tail || entries.length ≠ n then s
      else
        let q' := { q with tail := tail, unfetched := q.unfetched ++ entries }
        (({ s with host := { s.host with sqs := sput (qKey c.val sq) q' s.host.sqs } }).touchLink).fetchQueue c sq)

/-- Post held entries while slots are free; each frees its tag (R74). -/
def postHeld : Nat → State → Nat → Nat → State
  | 0, s, _, _ => s
  | fuel + 1, s, c, q =>
    match sget s.host.cqs (qKey c q) with
    | none => s
    | some cq =>
      match cq.held with
      | [] => s
      | (tag, e) :: rest =>
        if cq.full || s.isFailed then s
        else
          let cq' := ({ cq with held := rest }).post (s.host.func c) q e
          let s1 := { s with host := { s.host with cqs := sput (qKey c q) cq' s.host.cqs } }
          postHeld fuel (s1.freeTag tag) c q

/-- CQ_HEAD_DOORBELL (R74): slots are freed; held entries are posted and their tags freed. -/
def execCqHeadDoorbell (c : Cntl) (cq head : Nat) (s : State) : Host.Outcome State Fault Refusal :=
  .next (
    match sget s.host.cqs (qKey c.val cq) with
    | none => s
    | some q =>
      let n := (head + q.size - q.head) % q.size
      if !s.host.present c || q.size ≤ head || q.posted.length < n then s
      else
        let q' := { q with head := head, posted := q.posted.drop n }
        let s1 := ({ s with host := { s.host with cqs := sput (qKey c.val cq) q' s.host.cqs } }).touchLink
        (postHeld q.held.length s1 c.val cq).sweepFlushes)

/-- TAG_AVAILABLE (R73): a queue that was not fetched for want of a tag is fetched again. -/
def execTagAvailable (c : Cntl) (sq : Nat) (s : State) : Host.Outcome State Fault Refusal :=
  .next (
    match sget s.host.sqs (qKey c.val sq) with
    | none => s
    | some q => if q.starved then s.fetchQueue c sq else s)

/-- INTERRUPT_AGGREGATION_TIME (Table 2-9, Interrupt Coalescing): the aggregation time has passed, and the message held back
is sent. -/
def execInterruptAggregationTime (c : Cntl) (cq : Nat) (s : State) : Host.Outcome State Fault Refusal :=
  .next (
    match sget s.host.cqs (qKey c.val cq) with
    | none => s
    | some q =>
      if q.ien && q.unsignalled != 0 && s.host.present c then
        { s with host := { s.host with cqs := sput (qKey c.val cq) { q with unsignalled := 0, msix := q.msix + 1 } s.host.cqs,
                                       lastTlp := s.now } }
      else s)

/-! ## Dispatch -/

/-- Commands of a queue accepted before one (03 R79). -/
def HostS.earlier (h : HostS) (t : TagE) : Bool :=
  h.tags.any (fun e => e.2.cntl == t.cntl && e.2.sqid == t.sqid && decide (e.2.aseq < t.aseq))

/-- ORDERED_COMMAND_BEGIN (03 R79): every earlier command of the queue has posted its completion. -/
def execOrderedCommandBegin (tag : Nat) (s : State) : Host.Outcome State Fault Refusal :=
  .next (
    match sget s.host.tags tag with
    | none => s
    | some t =>
      if s.ioServed && t.phase == .accepted && cmdOrdered t.cmd && !s.host.earlier t then s.refillStands.dispatch tag t else s)

/-- NEXT_DISPATCH (10 R317): a pipeline's next command of a direction begins. The governor may hold dispatch back (13 R382). -/
def execNextDispatch (pipe : Fin 4) (d : Dir) (s : State) : Host.Outcome State Fault Refusal :=
  .next (
    let s1 := s.refillStands
    if !s.ioServed || s.govHolds 4 then s
    else
      match s1.nextStand pipe d with
      | none => s
      | some x =>
        match oldestTag ((s1.waitingIn pipe d).filter (fun e => s1.queueOf e.2 == x.2)) with
        | none => s
        | some (tag, t) =>
          let s2 := s1.dispatch tag t
          { s2 with host := s2.host.served pipe d x })

end Sys2Proof.Machine
end

