-- ==== Sys2Proof/Machine/PageOps.lean ====
section
/-! DEFINITION. Data structures that the block returns: Identify (02 Tables 2-6, 2-18), log pages (02 Table 2-10), the health
report (15 R439), Stand Status and Map Lease Status (02 Tables 2-15, 2-16), the Tally window (17 Table 17-5). Byte places of
standard structures are those of NVMe Base 2.0 (log entry 13); what neither gives is a free value. -/

namespace Sys2Proof.Machine

/-! ## Packing -/

/-- A field of a structure: its first byte, its width in bytes, its value. -/
abbrev ByteField := Nat × Nat × Nat

/-- A number from fields given by first bit, width and value. -/
def packBits (l : List (Nat × Nat × Nat)) : Nat := (l.map (fun f => f.2.2 % 2 ^ f.2.1 * 2 ^ f.1)).sum

/-- Byte i of the fields, if one covers it. -/
def fieldByte (l : List ByteField) (i : Nat) : Option Nat :=
  (l.find? (fun f => decide (f.1 ≤ i) && decide (i < f.1 + f.2.1))).map (fun f => f.2.2 / 256 ^ (i - f.1) % 256)

/-- Bytes `from` to `from + n - 1` of a structure: what no field covers is a free value of its number. -/
def structBytes (which from0 n : Nat) (l : List ByteField) : List (Option Byte) :=
  (List.range n).map (fun k =>
    let i := from0 + k
    some (match fieldByte l i with
      | some b => BitVec.ofNat 8 b
      | none => (Config.standardField which i).truncate 8))

/-- Bytes of a structure given whole as a number; beyond its end they are 0. -/
def numBytes (v from0 n : Nat) : List (Option Byte) :=
  (List.range n).map (fun k => some (BitVec.ofNat 8 (v / 256 ^ (from0 + k) % 256)))

/-! ## Identify -/

/-- PLP armed, as a number. -/
def State.armedBit (s : State) : Nat := if s.armed then 1 else 0

/-- A power state descriptor (13 Table 13-4): MP, NOPS, ENLAT, EXLAT, relative figures, IDLP and ACTP not reported. -/
def psDesc (i mp nops enlat exlat rel : Nat) : List ByteField :=
  let o := 2048 + 32 * i
  [(o, 2, mp), (o + 2, 1, 0), (o + 3, 1, nops * 2), (o + 4, 4, enlat), (o + 8, 4, exlat), (o + 12, 1, rel), (o + 13, 1, rel),
   (o + 14, 1, rel), (o + 15, 1, rel), (o + 16, 8, 0), (o + 24, 8, 0)]

/-- The vendor area (02 Table 2-18); the rest of the range is reserved. -/
def State.vendorArea (s : State) (c : Cntl) : List ByteField :=
  [(3072, 2, 0x0640), (3074, 1, 0xB0), (3075, 1, if c.isPF then 0 else 1), (3076, 1, c.port.val), (3077, 1, c.func),
   (3078, 2, (s.nvm.standOf c.val).getD 0xFFFF), (3080, 4, if c.isPF then 0xFF else 0x0F), (3084, 2, 65535), (3086, 2, 4096),
   (3088, 2, if c.isPF then s.par P.MAP_LEASE_MAX_GIB else 0), (3090, 1, s.armedBit), (3091, 1005, 0)]

/-- Reserved bytes: zero (00 R15). -/
def zeros (l : List (Nat × Nat)) : List ByteField := l.map (fun r => (r.1, r.2, 0))

/-- Identify Controller: the values of Table 2-6, R98, 13 R379 and R391, and the vendor area. SGLS says byte-aligned SGLs and the bit bucket
descriptor. Bytes that NVMe Base 2.0 reserves are zero. -/
def State.identCtrl (s : State) (c : Cntl) : List ByteField :=
  [(0, 2, s.fuses.vendorId.toNat), (2, 2, s.fuses.subVendor.toNat), (536, 4, 0x00010001), (77, 1, 8), (78, 2, c.val), (80, 4, 0x00020000), (258, 1, 7),
   (259, 1, 7), (262, 1, 63), (263, 1, 4), (266, 2, 373), (268, 2, 378), (272, 4, 0), (320, 2, 1), (512, 1, 0x66),
   (513, 1, 0x44), (516, 4, 1024), (522, 2, 0), (525, 1, 1 - s.armedBit), (526, 2, 255),
   (528, 2, if s.armed then 127 else 0)] ++
  psDesc 0 7800 0 100 100 0 ++ psDesc 1 5500 0 100 100 1 ++ psDesc 2 3000 0 100 100 2 ++ psDesc 3 900 1 20000 1000 3 ++
  psDesc 4 60 1 25000 25000 4 ++ s.vendorArea c ++
  zeros [(102, 9), (134, 119), (358, 10), (384, 128), (564, 204), (1024, 768), (1806, 242), (2208, 864)]

/-- NMIC bit 0: attached to controllers of both ports. -/
def NsS.bothPorts (n : NsS) : Bool := n.attached.any (fun c => c < 128) && n.attached.any (fun c => 128 ≤ c)

/-- The reserved bytes of Identify Namespace, and the LBA formats that are not there. -/
def nsZeros : List ByteField := zeros [(81, 11), (96, 3), (132, 252)]

/-- Identify Namespace (Table 2-6). -/
def State.identNs (s : State) (nsid : Nat) (n : NsS) : List ByteField :=
  [(0, 8, n.nlb), (8, 8, n.nlb), (16, 8, s.nsUse nsid n), (24, 1, 16), (25, 1, 0), (26, 1, 0), (28, 1, 0), (29, 1, 0),
   (30, 1, if n.bothPorts then 1 else 0), (33, 1, 0x09), (64, 2, 15), (66, 2, 15), (68, 2, 15), (72, 2, 15), (128, 4, 0x000C0000)] ++
  nsZeros

/-- A list of 4-byte numbers from the start of a structure of 1,024. -/
def dwordList (l : List Nat) : Nat := packBits ((l.take 1024).mapIdx (fun i x => (32 * i, 32, x)))

/-- A controller list: a count and 2-byte identifiers. -/
def ctrlListNum (l : List Nat) : Nat := packBits ((0, 16, l.length) :: (l.take 2047).mapIdx (fun i x => (16 * (i + 1), 16, x)))

/-- Namespaces a controller sees active: attached to it, of its own stand (R43). -/
def NvmS.activeFor (n : NvmS) (c : Nat) : List Nat := (n.nss.filter (fun e => e.2.attached.contains c)).map Prod.fst

/-- Namespaces of a controller's own stand. -/
def NvmS.allocFor (n : NvmS) (c : Nat) : List Nat :=
  (n.nss.filter (fun e => n.standOf c == some e.2.stand.val)).map Prod.fst

/-! ## Log pages -/

/-- The domains that a function sees (06 R205). -/
def State.domsOf (s : State) (c : Nat) : List DomId :=
  match s.nvm.standOf c with
  | some st => s.domsFor ⟨st % 128, by omega⟩
  | none => s.allDoms

/-- Available Spare of a function: the lowest A(d) it sees; 100 where no A(d) is computed. -/
def State.availSpare (s : State) (c : Nat) : Nat := ((s.domsOf c).filterMap (fun d => s.avail d)).foldl min 100

/-- Percentage Used (06 R200): over the TLC row blocks in service of the domains seen. -/
def State.percentUsed (s : State) (c : Nat) : Nat :=
  let rbs := ((s.domsOf c).flatMap (fun d => s.domRbs d)).filter (fun rb => !s.rbGone rb)
  let sum := (rbs.map (fun rb => s.media.eraseCount rb)).sum
  if rbs.isEmpty then 0 else min 255 (100 * sum / (rbs.length * s.par P.MED_PE_RATED))

/-- Critical Warning of a function (00 Table 0-6; 06 R205, R206; 09 R285, R299; 13 R391). -/
def State.critWarning (s : State) (c : Nat) : Nat :=
  let spare := decide (s.availSpare c < s.par P.MED_SPARE_WARN)
  let k := (s.pwr.temp + 273).toNat
  let hot := decide (((s.host.func c).feature 0x04).toNat % 65536 ≤ k)
  let prot := match s.nvm.standOf c with
    | some st => ((s.nvm.stand st).map (fun x => x.prot)).getD false
    | none => false
  bitIf spare 0 + bitIf hot 1 + bitIf s.isDegraded 2 + bitIf (s.isReadOnly || prot) 3 + bitIf (s.plp.state == .lost || s.plp.warn4) 4

/-- Seconds spent at a thermal level, with the present stay. -/
def State.levelSecs (s : State) (l t : Nat) : Nat := (t + (if s.pwr.thermal = l then s.now - s.pwr.levelSince else 0)) / 1000000000

/-- SMART / Health Information. -/
def State.smart (s : State) (c : Nat) : List ByteField :=
  [(0, 1, s.critWarning c), (1, 2, (s.pwr.temp + 273).toNat), (3, 1, s.availSpare c), (4, 1, s.par P.MED_SPARE_WARN),
   (5, 1, s.percentUsed c), (160, 16, s.plp.mediaErrors), (216, 4, s.pwr.transitions1), (220, 4, s.pwr.transitions2),
   (224, 4, s.levelSecs 1 s.pwr.levelTime1), (228, 4, s.levelSecs 2 s.pwr.levelTime2)] ++ zeros [(7, 25), (232, 280)]

/-- Error Information: the newest entry first; entries not used are 0. -/
def errorLog (l : List (Status × Nat)) : List ByteField :=
  (l.mapIdx (fun i e => [(64 * i + 10, 2, e.2), (64 * i + 12, 2, (e.1.sc + e.1.sct * 256) * 2), (64 * i + 30, 2, 0), (64 * i + 42, 22, 0)])).flatten ++
    [(64 * l.length, 64 * (64 - l.length), 0)]

/-- Supported opcodes of a function: admin (Table 2-7) and I/O (Table 2-8). -/
def adminOps (pf : Bool) : List Nat :=
  [0x00, 0x01, 0x02, 0x04, 0x05, 0x06, 0x08, 0x09, 0x0A, 0x0C, 0x18, 0x80] ++
    (if pf then [0x0D, 0x15, 0x84, 0xC1, 0xC4, 0xC6, 0xCA] else [])
/-- I/O opcodes. -/
def ioOps : List Nat := [0x00, 0x01, 0x02, 0x05, 0x08, 0x09, 0x0D, 0x0E, 0x11, 0x15, 0x81, 0x82, 0x86, 0x89]

/-- The entry of an opcode that stands at a byte of Commands Supported and Effects: CSUPP, with the reserved bits 15:5 zero; of an opcode that is
not supported every bit is zero. -/
def effectsEntry (at0 : Nat) (supported : Bool) : ByteField := if supported then (at0, 2, 1) else (at0, 4, 0)

/-- Commands Supported and Effects: the entry of every opcode. -/
def effectsLog (pf : Bool) : List ByteField :=
  (List.range 256).map (fun o => effectsEntry (4 * o) ((adminOps pf).contains o)) ++
    (List.range 256).map (fun o => effectsEntry (1024 + 4 * o) (ioOps.contains o)) ++ zeros [(2048, 2048)]

/-- Sanitize Status: progress, state, and the operation in bytes 4 to 7. -/
def State.sanLog (s : State) : List ByteField :=
  let st := if s.nvm.sanAction != 0 then 2 else if s.nvm.sanFailed then 3 else if s.nvm.sanDone then 1 else 0
  [(0, 2, if s.nvm.sanAction != 0 then min 65534 s.nvm.sanProgress else 65535), (2, 2, st)] ++ zeros [(32, 480)]

/-- Reservation Notification: the oldest notification, and how many wait. -/
def rsvLog (f : FuncS) : List ByteField :=
  match f.rsvNotices with
  | [] => [(0, 64, 0)]
  | (t, n) :: rest => [(0, 8, f.rsvNotices.length), (8, 1, t), (9, 1, min 255 rest.length), (10, 2, 0), (12, 4, n), (16, 48, 0)]

/-! ## Vendor structures -/

/-- The code of a lease state (Table 2-15). -/
def leaseCode : LeaseState → Nat
  | .none => 0
  | .active => 1
  | .revoking => 2
  | .ended => 3

/-- Map Lease Status (Table 2-15), 64 bytes. -/
def leaseWindow (l : LeaseS) : Nat :=
  packBits [(0, 8, leaseCode l.state), (8, 8, l.endCause), (32, 32, l.ltag.toNat), (64, 32, l.size2m), (96, 32, l.slots.length),
    (128, 64, l.fetch.toNat), (192, 64, l.hits.toNat), (256, 64, l.discard.toNat), (320, 64, l.wback.toNat)]

/-- A grove that holds data of a stand is DEGRADED. -/
def State.standDegraded (s : State) (st : StandNo) : Bool :=
  (List.finRange 8).any (fun g => (s.flash.grove g.val).degraded && (s.domsFor st).any (fun d => d.grove == g))

/-- Stand Status (Table 2-16), 64 bytes. -/
def State.standWindow (s : State) (st : StandNo) (x : StandS) : Nat :=
  packBits [(0, 7, st.val), (16, 8, if x.firebreak then 1 else 0), (32, 8, x.cls), (64, 16, x.rshare), (80, 16, x.wshare),
    (96, 32, x.resvGib), (128, 64, s.usedMib st.val), (208, 16, (s.nvm.nss.filter (fun e => e.2.stand == st)).length),
    (232, 8, x.members.length), (256, 128, if x.firebreak then x.rows.toNat else 0),
    (384, 1, if s.standLimit x ≤ s.standUse st.val + x.inflight then 1 else 0),
    (385, 1, if s.standDegraded st then 1 else 0), (386, 1, if x.state == .changing then 1 else 0)]

/-- The Tally status window (Table 17-5), 128 bytes. -/
def TallyS.window (t : TallyS) : Nat :=
  let oldest := fun (l : List TRec) => ((l.head?).map (fun r => r.tseq.toNat)).getD 0
  packBits ([(0, 32, t.nextTseq.toNat), (32, 32, oldest t.ring.recs), (64, 32, oldest t.tier.recs),
    (96, 32, (t.ring.recs.filter (fun r => r.awaiting)).length), (0x48 * 8, 32, t.suppressed.toNat),
    (0x4C * 8, 32, t.duplicates.toNat)] ++
    (List.range 7).map (fun i => (0x10 * 8 + 32 * i, 32, (vget t.ring.drops i 0).toNat)) ++
    (List.range 7).map (fun i => (0x2C * 8 + 32 * i, 32, (vget t.tier.drops i 0).toNat)))

/-! ## The health report (15 Tables 15-4, 15-6, 15-7) -/

/-- HSS signatures left. -/
def SecS.lmsLeft (x : SecS) : Nat := if x.lmsDisabled || x.lmsBad then 0 else 33554432 - x.nextq

/-- Bytes 0 to 255. -/
def State.healthHead (s : State) (hseq : Dword) : Nat :=
  let m := s.mgmt
  let newest := m.groveRel.toList.foldl max 0
  let gnew := ((List.range 8).map (fun g => bitIf (decide (vget m.groveRel g 0 = newest)) g)).sum
  let lowestRel := (m.groveRel.toList.foldl (fun (a : Option Nat) x => some (match a with
    | none => x
    | some y => min x y)) none).getD 0
  packBits [(0, 32, 0x48544C48), (32, 8, 1), (48, 16, 9), (64, 32, hseq.toNat), (128, 64, s.now), (512, 8, s.devState),
    (528, 13, s.condFlags), (544, 8, if m.activeB then 1 else 0), (552, 8, m.stby), (576, 32, m.handovers.toNat),
    (608, 16, m.hoFail.toNat), (624, 8, m.lastCause), (632, 8, m.lastResult), (640, 64, m.stbyTime), (704, 32, m.stbyFail),
    (736, 32, s.dev.bootStatus.toNat), (768, 32, m.mgmtRel), (800, 32, lowestRel), (832, 8, gnew), (1024, 8, plpCode s.plp.state),
    (1032, 8, s.plp.result), (1040, 16, s.plp.tMs), (1056, 16, s.dram.rate),
    (1072, 16, match s.dram.failing with
      | some d => 32768 + d
      | none => 0),
    (1088, 16, s.land.retired.length), (1120, 32, s.sec.lmsLeft), (1152, 8, s.fuses.svn), (1160, 8, s.fuses.lc),
    (1168, 16, (BitVec.ofInt 16 s.pwr.temp).toNat)]

/-- The byte of a device channel. -/
def chanByte (c : ChanS) : Nat :=
  (match c.state with
  | .active => 0
  | .training => 1
  | .retiring => 2
  | .retired => 3) * 16 + c.rate

/-- A grove record (07 Table 7-9) without its CRC, which is a function of the rest. -/
def groveWord (g : GroveRec) : Nat :=
  packBits [(0, 1, if g.rebuild then 1 else 0), (1, 1, if g.bmvalid then 1 else 0), (2, 1, if g.degraded then 1 else 0),
    (64, 32, g.lostcw.toNat)]

/-- A die entry. -/
def dieEntry (d : DieS) : Nat :=
  packBits [(0, 32, d.step2.toNat), (32, 32, d.step3.toNat), (64, 32, d.step4.toNat), (96, 32, d.step5.toNat),
    (128, 32, d.step6.toNat), (160, 32, d.elimit.toNat), (192, 32, d.plimit.toNat)]

/-- Page 0. -/
def State.healthPage0 (s : State) (hseq : Dword) : Block :=
  BitVec.ofNat 32768 (s.healthHead hseq +
    packBits ((List.range 64).map (fun c => (0x100 * 8 + 8 * c, 8, chanByte (s.flash.chan c)))) +
    packBits ((List.range 8).map (fun g => (0x140 * 8 + 128 * g, 128, groveWord (s.flash.grove g)))) +
    packBits (s.nvm.stands.map (fun e => (0x1C0 * 8 + e.1, 1, if e.2.prot then 1 else 0))))

/-- Pages 1 to 8: 128 die entries each. -/
def State.healthDies (s : State) (page : Nat) : Block :=
  BitVec.ofNat 32768 (packBits (s.flash.dies.filterMap (fun e =>
    if e.1 / 128 + 1 = page then some (256 * (e.1 % 128), 256, dieEntry e.2) else none)))

/-- A new snapshot on a path: 0 Naile, 1 and 2 the PFs. -/
def State.snapshot (s : State) (path : Nat) : State :=
  let (q, m) := s.mgmt.takeMseq
  let pages := (0, s.healthPage0 q) :: (List.range 8).map (fun i => (i + 1, s.healthDies (i + 1)))
  { s with mgmt := { m with snaps := sput path pages m.snaps } }

/-- A page of the last snapshot of a path. -/
def MgmtS.page (m : MgmtS) (path page : Nat) : Option Block :=
  (sget m.snaps path).bind (fun l => (l.find? (fun e => e.1 == page)).map Prod.snd)

/-- Bytes of the last snapshot. -/
def MgmtS.snapBytes (m : MgmtS) (path from0 n : Nat) : List (Option Byte) :=
  (List.range n).map (fun k => some (match m.page path ((from0 + k) / 4096) with
    | some b => blockByte b ((from0 + k) % 4096)
    | none => 0))

end Sys2Proof.Machine
end

