-- ==== Sys2Proof/Machine/TlpOps.lean ====
section
/-! DEFINITION. TLPs toward the host (04 R114 to R116; 02 Table 2-1): the ranges of a buffer, their cut into TLPs, the tags of
requests, and the transfers that need no more than them. -/

namespace Sys2Proof.Machine

/-- Max Payload Size of a function, as Device Control sets it within the 1,024 bytes supported (02 Table 2-1). -/
def FuncS.mps (f : FuncS) : Nat := min 1024 (128 * 2 ^ getField f.devCtl 5 3)
/-- Max Read Request Size of a function, as the host programs it. -/
def FuncS.mrrs (f : FuncS) : Nat := min 4096 (128 * 2 ^ getField f.devCtl 12 3)

/-! ## Cutting -/

/-- One contiguous range as TLPs of at most m bytes, in increasing address order: the first ends at a boundary of m or of 4 KiB, and every
later one starts there (R116). The entries are offset in the transfer, address and length. -/
def cutTlps (m : Nat) : Nat → Nat → Nat → Nat → List (Nat × Nat × Nat)
  | 0, _, _, _ => []
  | fuel + 1, off, addr, len =>
    if len = 0 then []
    else
      let n := min len (min m 4096 - addr % min m 4096)
      (off, addr, n) :: cutTlps m fuel (off + n) (addr + n) (len - n)

/-- Where the bytes of a buffer lie from byte `off` on: pieces of offset, address and length. The bytes of a bit bucket range lie nowhere, and the
ranges go on after it (R115). -/
def layoutFrom (buckets : List (Nat × Nat)) : Nat → Nat → List (Nat × Nat) → List (Nat × Nat × Nat)
  | 0, _, _ => []
  | _, _, [] => []
  | fuel + 1, off, (a, n) :: t =>
    match buckets.find? (fun b => decide (b.1 ≤ off ∧ off < b.1 + b.2)) with
    | some b => layoutFrom buckets fuel (b.1 + b.2) ((a, n) :: t)
    | none =>
      let next := (buckets.filter (fun b => decide (off < b.1 ∧ 0 < b.2))).foldl (fun m b => min m (b.1 - off)) n
      if next < n then (off, a, next) :: layoutFrom buckets fuel (off + next) ((a + next, n - next) :: t)
      else (off, a, n) :: layoutFrom buckets fuel (off + n) t

/-- Where the bytes of a buffer lie. -/
def dptrLayout (d : Dptr) : List (Nat × Nat × Nat) := layoutFrom d.bitBucket (d.ranges.length + 2 * d.bitBucket.length) 0 d.ranges

/-- The part of a layout from byte `off` on, `len` bytes long: offset in the transfer, address, length. -/
def cutRanges (off len : Nat) (l : List (Nat × Nat × Nat)) : List (Nat × Nat × Nat) :=
  l.filterMap (fun r =>
    let lo := max r.1 off
    let hi := min (r.1 + r.2.2) (off + len)
    if lo < hi then some (lo - off, r.2.1 + (lo - r.1), hi - lo) else none)

/-- The TLPs of some ranges. A write whose bytes lie in a poisoned 64-byte line of the transfer carries EP (Table 4-4). -/
def tlpsOf (m : Nat) (reads : Bool) (ep : List Nat) (rs : List (Nat × Nat × Nat)) : List Tlp :=
  (rs.flatMap (fun r => cutTlps m (r.2.2 / m + 2) r.1 r.2.1 r.2.2)).map (fun x =>
    { addr := x.2.1, len := x.2.2, reads := reads,
      ep := !reads && ep.any (fun l => decide (64 * l < x.1 + x.2.2 ∧ x.1 < 64 * l + 64)) })

/-! ## Commands -/

/-- The data pointer of a command. -/
def TagE.dptr (t : TagE) : Dptr :=
  match t.cmd with
  | .write f => f.dptr
  | .read f => f.dptr
  | .compare f => f.dptr
  | .orderedWrite f => f.dptr
  | .orderedRead f => f.dptr
  | .gatherRead f => f.dptr
  | _ => t.ptr

/-- The TLP limit of a function: Max Payload Size for writes, Max Read Request Size for requests. -/
def State.funcLimit (s : State) (c : Cntl) (reads : Bool) : Nat := if reads then (s.host.func c.val).mrrs else (s.host.func c.val).mps

/-- The TLP limit of a command's function. A descriptor that serves no command takes the smallest, 128 bytes, which every function allows. -/
def State.tlpLimit (s : State) (tag : Option Nat) (reads : Bool) : Nat :=
  match tag.bind (fun t => sget s.host.tags t) with
  | some t => s.funcLimit t.cntl reads
  | none => 128

/-- The TLPs of `len` bytes at offset `off` of a command's buffer. -/
def State.dataTlps (s : State) (t : TagE) (reads : Bool) (ep : List Nat) (off len : Nat) : List Tlp :=
  tlpsOf (s.funcLimit t.cntl reads) reads ep (cutRanges off len (dptrLayout t.dptr))

/-- The same for the command of a tag. -/
def State.bufferTlps (s : State) (tag : Nat) (reads : Bool) (ep : List Nat) (off len : Nat) : List Tlp :=
  match sget s.host.tags tag with
  | some t => s.dataTlps t reads ep off len
  | none => []

/-- The requests that fetch a command's PRP lists or SGL segments. -/
def State.listTlps (s : State) (t : TagE) : List Tlp :=
  tlpsOf (s.funcLimit t.cntl true) true [] (t.dptr.lists.map (fun r => (0, r.1, r.2)))

/-! ## Issue -/

/-- Non-posted requests that a port can have outstanding (02 Table 2-1). -/
abbrev tagsPerPort : Nat := 768

/-- Requests take the tags of their port in turn, 0 to 767; one whose tag is in use waits for the completion of the request that holds it. -/
def tagTlps : Nat → List Tlp → List Tlp
  | _, [] => []
  | n, x :: t => if x.reads then { x with tag := n % tagsPerPort } :: tagTlps (n + 1) t else x :: tagTlps n t

/-- TLPs are issued on a port. -/
def State.issueTlps (s : State) (p : Port) (l : List Tlp) : State :=
  let x := s.host.port p
  { s with land := { s.land with tlps := tagTlps x.nextTag l }
           host := s.host.setPort p { x with nextTag := (x.nextTag + (l.filter (fun t => t.reads)).length) % tagsPerPort } }

/-- A structure or a list of `len` bytes is fetched from a command's buffer. -/
def State.fetchData (s : State) (t : TagE) (len : Nat) : State := s.issueTlps t.cntl.port (s.listTlps t ++ s.dataTlps t true [] 0 len)

/-- A command completes with a structure of `len` bytes, which goes to its buffer first. -/
def State.returnData (s : State) (tag : Nat) (t : TagE) (len : Nat) (dw0 : Dword) (data : Payload) : State :=
  (s.issueTlps t.cntl.port (s.listTlps t ++ s.dataTlps t false [] 0 len)).complete tag stOk dw0 data

end Sys2Proof.Machine
end

