-- ==== Sys2Proof/Machine/AdminOps.lean ====
section
/-! DEFINITION. What admin rows share: when one runs (03 R97; 00 Table 0-6; 15 Table 15-2), long operations and the I/O they fail
(03 R96), features, the sizing of namespaces (02 R63; 05 R173; 06 R207). -/

namespace Sys2Proof.Machine

/-! ## Running an admin command -/

/-- Management takes admin commands: none during a handover's hold, and none while its core is halted (14 R414). -/
def State.adminServes (s : State) : Bool := s.ioServed && s.mgmt.runs && !s.host.holdAdmin && !s.mgmtHalted

/-- The data that an admin command moves: its bytes, and whether they come from the host. -/
def adminXfer : NvmeCmd → Option (Nat × Bool)
  | .identify _ _ => some (4096, false)
  | .getLogPage _ _ n => some (n, false)
  | .getFeatures fid _ _ => if fid = 0x0E then some (8, false) else if fid = 0x81 then some (16, false) else none
  | .setFeatures fid _ v _ _ =>
    if fid = 0x0E then some (8, true) else if fid = 0x81 then some (if v.getLsbD 0 then 16 else 8, true) else none
  | .nsManagement sel _ _ _ _ => if sel = 0 then some (4096, true) else none
  | .nsAttachment _ _ _ => some (4096, true)
  | .leaseGrant next _ _ _ => if 1 ≤ next ∧ next ≤ 16384 then some (16 * next, true) else none
  | .leaseStatus _ => some (64, false)
  | .standStatus _ _ => some (64, false)
  | _ => none

/-- A tag has asked for cords: it holds some, or its request waits. -/
def LandS.asked (l : LandS) (tag : Nat) : Bool := l.grants.any (fun g => g.req.user == .tag tag) || l.tagWaits tag

/-- The cords for an admin command's data, from its port's reservation (04 Table 4-2): asked for once. -/
def State.adminCords (s : State) (tag : Nat) (t : TagE) : State :=
  match adminXfer t.cmd with
  | none => s
  | some (len, toDev) =>
    if s.land.asked tag then s
    else s.askTag tag ((len + 4095) / 4096) t.cntl.port false (if toDev then none else some t.cntl.port)

/-- The data pointer of an admin command that moves data (04 R114). -/
def adminPtr (t : TagE) : Option Status := (adminXfer t.cmd).bind (fun x => dptrCheck t.ptr x.1 x.2)

/-- An admin command has its cords, and what it takes from the host is fetched (04 R116). -/
def State.adminTaken (s : State) (tag : Nat) (t : TagE) : State :=
  let s1 := s.adminCords tag t
  match adminXfer t.cmd with
  | some (len, true) => s1.fetchData t len
  | _ => s1

/-- Run an admin command whose data needs cords: its data pointer is checked first (the model's choice, log entry 109), and it runs once it
holds its cords and what it takes from the host has been fetched. -/
def State.withData (s : State) (tag : Nat) (t : TagE) (run : State → TagE → State) : State :=
  if (adminXfer t.cmd).isNone then run s t
  else
    match adminPtr t with
    | some st => s.complete tag st
    | none =>
      let s1 := s.adminCords tag t
      if s1.land.tagWaits tag then s1 else run (s.adminTaken tag t) t

/-- Take up an admin command that is accepted, or one that has begun and acts again. In MGMT_LOST the front end completes it with Internal Error
(Table 3-4). -/
def State.adminGate (s : State) (tag : Nat) (run : State → TagE → State) : State :=
  match sget s.host.tags tag with
  | none => s
  | some t =>
    if t.sqid != 0 || (t.phase != .accepted && t.phase != .begun) then s
    else if s.mgmtLost && s.serving then s.complete tag stInternal
    else if s.adminServes then run s t
    else s

/-- Run an accepted admin command. -/
def State.admin (s : State) (tag : Nat) (run : State → TagE → State) : State :=
  s.adminGate tag (fun s t => s.withData tag t run)

/-- The same for a command of the PF alone: a VF's fails with Invalid Command Opcode (Table 2-7). -/
def State.adminPf (s : State) (tag : Nat) (run : State → TagE → State) : State :=
  s.adminGate tag (fun s t => if t.cntl.isPF then s.withData tag t run else s.complete tag stOpcode)

/-- MSI-X vectors of a function (Table 2-2). -/
def vectors (c : Cntl) : Nat := if c.isPF then 257 else 65

/-! ## Long operations -/

/-- An I/O command to a namespace that was accepted before a number has not completed. A command whose completion entry is held for want of a slot
of its queue (03 R74) counts as completed: all its work is done (the model's choice, log entry 121). -/
def HostS.ioBefore (h : HostS) (nsid : Nat) (at0 : Qword) : Bool :=
  h.tags.any (fun e => e.2.sqid != 0 && e.2.phase != .held && decide (e.2.aseq < at0) &&
    ((ioNsid e.2.cmd).map (fun n => n.toNat == nsid)).getD false)

/-- The status with which a long operation fails an I/O command of a namespace (R96). -/
def NvmS.longStatus (n : NvmS) (x : NsS) (aseq : Qword) : Option Status :=
  if n.sanAction != 0 && decide (n.sanFrom ≤ aseq) then some stSanitize
  else match x.mode with
    | .normal => none
    | .formatting => if x.modeFrom ≤ aseq then some stFormat else none
    | .deleting => if x.modeFrom ≤ aseq then some stNamespace else none

/-- The lowest free operation number. -/
def NvmS.newOp (n : NvmS) : Nat := freeTagFrom n.ops.length 0 (n.ops.map Prod.fst)

/-- Queue a long operation under its command. It begins with SLICED_OPERATION_START. -/
def State.startOp (s : State) (tag : Nat) (kind : SliceKind) (nsids : List Nat) (rekey : Bool) (mode : NsMode) : State :=
  let o : SlicedOp := { kind := kind, tag := some tag, nsids := nsids, rekey := rekey, begun := false, work := [], edges := [] }
  let from0 := s.host.nextAseq
  let nss := smap (fun i x => if nsids.contains i && mode != .normal then { x with mode := mode, modeFrom := from0 } else x) s.nvm.nss
  ({ s with nvm := { s.nvm with ops := sput s.nvm.newOp o s.nvm.ops, nss := nss } }).modTag tag (fun t => { t with phase := .running })

/-- A long operation is at work on a namespace. -/
def NvmS.longBusy (n : NvmS) (nsid : Nat) : Bool := ((n.ns nsid).map (fun x => x.mode != .normal)).getD false

/-- Namespace identifiers are 1 to NN = 1,024 (Table 2-6). -/
def nsidOk (n : Nat) : Bool := decide (1 ≤ n) && decide (n ≤ 1024)
/-- The broadcast NSID. -/
abbrev nsidAll : Nat := 0xFFFFFFFF

/-! ## Sizing (05 R173) -/

/-- DRAM capacity in GiB, as DRM_POPULATION describes it (11 Table 11-3). -/
def State.dramGib (s : State) : Nat :=
  let v := s.par P.DRM_POPULATION
  4 * 2 ^ (v / 16 % 4) * (if v / 8 % 2 = 1 then 1 else 2) * (v / 64 % 2 + 1) * (if v / 128 % 2 = 1 then 8 else 16)

/-- The map budget in bytes. -/
def State.mapBudget (s : State) : Nat :=
  s.dramGib * 2 ^ 30 - s.par P.MAP_LEAF_CACHE_GIB * 2 ^ 30 - s.par P.PLP_WRITE_CACHE_MIB * 2 ^ 20 - 4 * 2 ^ 30

/-- Bytes of map for a segment: 6.5 for each of 4,096 granules. -/
abbrev segMapBytes : Nat := 26624

/-- Segments that existing namespaces hold. -/
def NvmS.segsHeld (n : NvmS) : Nat := (n.nss.map (fun e => e.2.segs.length)).sum

/-- A namespace of so many blocks fits the map budget and the segment numbers. -/
def State.mapFits (s : State) (nlb : Nat) : Bool :=
  let n := s.nvm.segsHeld + segsFor nlb
  decide (n * segMapBytes ≤ s.mapBudget) && decide (n ≤ segCount)

/-- The remaining reservation of a stand in blocks (02 R63). -/
def State.remaining (s : State) (st : Nat) (x : StandS) : Nat :=
  x.resvGib * gibBlocks - (s.nvm.nss.map (fun e => if e.2.stand.val = st then e.2.nlb else 0)).sum

/-- Creates are refused for a stand (06 R207): under READ_ONLY for SHARED stands, under a stand's own write protection. -/
def State.createHeld (s : State) (x : StandS) : Bool := if x.firebreak then x.prot else s.isReadOnly || x.prot

/-- The lowest free NSID. -/
def NvmS.freeNsid (n : NvmS) : Option Nat := ((List.range 1024).map (fun i => i + 1)).find? (fun i => (n.ns i).isNone)

/-- The verdict on a create (02 R63; 05 R173; 06 R207). -/
def State.createCheck (s : State) (nsze : Nat) (flbas : Byte) (st : Nat) : Option Status :=
  if 127 < st then some stField
  else match s.nvm.stand st with
    | none => some stField
    | some x =>
      if x.state != .active && x.state != .changing then some stField
      else if flbas != 0 || nsze = 0 then some stField
      else if s.remaining st x < nsze then some stCapacity
      else if s.createHeld x || !s.mapFits nsze then some stNsCapacity
      else if s.nvm.freeNsid.isNone then some stNsidUnavailable
      else none

/-- The records that give segments to a namespace, in its order. -/
def assignRecs (nsid : Nat) (segs : List Nat) : List JRec := segs.mapIdx (fun i g => jSegAssign g nsid i)

/-- A new namespace: segments with every entry UNMAPPED (05 R144) and a fresh key (02 R63, 14 R401). -/
def State.createNs (s : State) (nsid nsze st : Nat) : State :=
  let segs := s.freeSegs (segsFor nsze)
  let x : NsS :=
    { nlb := nsze, stand := ⟨st % 128, by omega⟩, attached := [], detaching := [], mode := .normal, modeFrom := 0,
      keyGen := s.nvm.nextKeyGen, keyValid := true, keyLoaded := true, gen := 1, segs := segs, registrants := [], holder := none,
      rtype := none, ptpl := false, prgen := 0 }
  let map := if (s.map.grove 0).roomFor segs.length then s.map.commit 0 ⟨st % 128, by omega⟩ (assignRecs nsid segs) else s.map
  ({ s with map := map, nvm := { s.nvm with nss := sput nsid x s.nvm.nss, nextKeyGen := s.nvm.nextKeyGen + 1 } }).journal

/-! ## Attachment -/

/-- The verdict on a controller list: attach asks for functions of the namespace's stand (02 R63, R65). -/
def State.attachCheck (s : State) (x : NsS) (attach : Bool) (cs : List Nat) : Option Status :=
  if cs.any (fun c => decide (256 ≤ c) || (attach && s.nvm.standOf c != some x.stand.val)) then some stCtrlList
  else if attach && cs.any (fun c => x.attached.contains c) then some stNsAttached
  else if !attach && cs.any (fun c => !x.attached.contains c) then some stNsNotAttached
  else none

/-- Attach a namespace to controllers. -/
def State.attachNs (s : State) (nsid : Nat) (cs : List Nat) : State :=
  (({ s with nvm := s.nvm.modNs nsid (fun x =>
      { x with attached := cs.foldl (fun l c => addOnce c l) x.attached }) }).journal).nsChanged cs [nsid]

/-- Detach a namespace from controllers. -/
def State.detachNs (s : State) (nsid : Nat) (cs : List Nat) : State :=
  (({ s with nvm := s.nvm.modNs nsid (fun x =>
      { x with attached := x.attached.filter (fun c => !cs.contains c),
               detaching := x.detaching.filter (fun c => !cs.contains c) }) }).journal).nsChanged cs [nsid]

/-- An I/O command of one of these controllers to a namespace is in progress. -/
def HostS.ioFrom (h : HostS) (nsid : Nat) (cs : List Nat) : Bool :=
  h.tags.any (fun e => e.2.sqid != 0 && e.2.phase != .held && cs.contains e.2.cntl.val &&
    ((ioNsid e.2.cmd).map (fun n => n.toNat == nsid)).getD false)

/-! ## Features (Table 2-9) -/

/-- The features that Set Features reaches: Volatile Write Cache is there only while PLP is not armed. -/
def State.featureThere (s : State) (fid : Nat) : Bool :=
  [0x01, 0x02, 0x04, 0x07, 0x08, 0x09, 0x0A, 0x0B, 0x0E, 0x0F, 0x81, 0x82, 0x83].contains fid || (fid = 0x06 && !s.armed)

/-- Run a Set Features of one FID (R54); the power state is evaluated again after every one (13 R380). -/
def State.setFeature (s : State) (tag fid : Nat) (run : State → TagE → Dword → Dword → BitVec 128 → State) : State :=
  s.admin tag (fun s t => match t.cmd with
    | .setFeatures f sv v nsid data =>
      if f.toNat ≠ fid then s
      else if !s.featureThere fid then s.complete tag stField
      else if sv then s.complete tag stNotSaveable
      else (run s t v nsid data).recheckPower
    | _ => s)

/-- Record a feature's value and complete. -/
def State.keepFeature (s : State) (tag : Nat) (t : TagE) (key : Nat) (v : Dword) (dw0 : Dword := 0) : State :=
  ({ s with host := s.host.modFunc t.cntl.val (fun f => { f with features := sput key v f.features }) }).complete tag stOk dw0

/-- The key of a reservation notification mask. -/
def maskKey (nsid : Nat) : Nat := 0x820000 + nsid

/-- The namespaces that an NSID of a feature names: one attached, or all attached ones. -/
def NvmS.namedFor (n : NvmS) (c nsid : Nat) : List Nat :=
  let act := n.activeFor c
  if nsid = nsidAll then act else act.filter (· == nsid)

/-- Number of Queues reports the allocation, as zero-based counts in both halves; an allocation of none has no zero-based
form, and what is reported then is a free value (log entry 6). -/
def State.queuesWord (s : State) (c : Cntl) : Dword :=
  let n := s.queueAlloc c
  if n = 0 then (Config.standardField 0x207 0).truncate 32 else BitVec.ofNat 32 ((n - 1) * 65537)

/-- Milliseconds since the timekeeper started. -/
def State.nowMs (s : State) : Nat := s.now / 1000000

/-- The timestamp of a function: it goes on from the value set. -/
def State.stamp (s : State) (f : FuncS) : Nat := (f.timestampMs + s.nowMs) % 2 ^ 48

/-- What Get Features returns: Dword 0 and data (R54; R380). -/
def State.featureValue (s : State) (c : Cntl) (fid : Nat) (v nsid : Dword) : Option (Dword × Payload) :=
  let f := s.host.func c.val
  if !s.featureThere fid then none
  else if fid = 0x02 then some (BitVec.ofNat 32 s.pwr.ps, .nothing)
  else if fid = 0x04 then some (if getField v 20 2 = 1 then (sget f.features 0x0410).getD 0 else f.feature 0x04, .nothing)
  else if fid = 0x07 then some (s.queuesWord c, .nothing)
  else if fid = 0x09 then some ((sget f.features (0x0900 + getField v 0 16)).getD (BitVec.ofNat 32 (getField v 0 16)), .nothing)
  else if fid = 0x0E then some (0, .struct 8 (s.stamp f))
  else if fid = 0x81 then some (f.feature 0x81, .struct 16 f.hostId.toNat)
  else if fid = 0x82 then
    if (s.nvm.namedFor c.val nsid.toNat).isEmpty then none else some ((sget f.features (maskKey nsid.toNat)).getD 0, .nothing)
  else if fid = 0x83 then
    match s.nvm.namedFor c.val nsid.toNat with
    | [] => none
    | n :: _ => some (((s.nvm.ns n).map (fun x => if x.ptpl then (1 : Dword) else 0)).getD 0, .nothing)
  else some (f.feature fid, .nothing)

end Sys2Proof.Machine
end

