-- ==== Sys2Proof/Machine/IoOps.lean ====
section
/-! DEFINITION. What I/O rows share: the namespace of a command (02 R43, R52; 03 R96), reservations (02 R66), the field checks of
02 R53, the start of reads and writes (01 R21 to R26; 06 R209), deallocation (03 R82, R93; 05 R144, R151). -/

namespace Sys2Proof.Machine

/-! ## Running an I/O command -/

/-- Run an I/O command that dispatch has begun. -/
def State.io (s : State) (tag : Nat) (run : State → TagE → State) : State :=
  match sget s.host.tags tag with
  | none => s
  | some t => if t.sqid = 0 || t.phase != .dispatched || !s.ioServed then s else run s t

/-- Whether a reservation keeps a host from reading or writing a namespace (NVMe Base 2.0, log entry 13). -/
def NsS.rsvBlocks (x : NsS) (hostId : BitVec 128) (writes : Bool) : Bool :=
  let reg := x.registrants.any (fun r => r.hostId == hostId)
  let holder := x.holder == some hostId
  match x.rtype with
  | none => false
  | some .writeExclusive => writes && !holder
  | some .exclusiveAccess => !holder
  | some .writeExclusiveRegistrants => writes && !reg
  | some .exclusiveAccessRegistrants => !reg
  | some .writeExclusiveAll => writes && !reg
  | some .exclusiveAccessAll => !reg

/-- How a command meets reservations: not at all, as a read or as a write. -/
inductive Access where
  | free | reads | writes
  deriving DecidableEq, Repr

/-- Run a command on its namespace: it must be attached (Table 2-8), no long operation may fail the command (03 R96), and no
reservation may conflict. -/
def State.onNs (s : State) (tag : Nat) (t : TagE) (nsid : Dword) (a : Access) (run : NsS → State) : State :=
  match s.nvm.ns nsid.toNat with
  | none => s.complete tag stNamespace
  | some x =>
    if !x.attached.contains t.cntl.val || x.detaching.contains t.cntl.val then s.complete tag stNamespace
    else match s.nvm.longStatus x t.aseq with
      | some st => s.complete tag st
      | none =>
        if a != .free && x.rsvBlocks (s.host.func t.cntl.val).hostId (a == .writes) then s.complete tag stConflict
        else run x

/-- Run a command whose own fields carry no data pointer, where the one of its entry passes the rules of 04 R114 for its transfer. A list that it takes
from host memory is fetched first. -/
def State.withPtr (s : State) (tag : Nat) (t : TagE) (len : Nat) (toDev : Bool) (run : State → State) : State :=
  match dptrCheck t.ptr len toDev with
  | some st => s.complete tag st
  | none => run (if toDev then s.fetchData t len else s)

/-! ## Field checks (02 R53) -/

/-- The first of the field conditions of R53 that a command meets: PRINFO, STC and DTYPE, MDTS, range. -/
def rwVerdict (f : RwFields) (x : NsS) : Option Status :=
  if f.prinfo != 0 || f.stc || f.dtype != 0 then some stField
  else if 256 < rwLen f then some stField
  else if x.nlb < f.slba + rwLen f then some stRange
  else none

/-- The stand of a namespace. -/
def State.standOfNs (s : State) (x : NsS) : Option StandS := s.nvm.stand x.stand.val

/-- Writes to a namespace are protected: READ_ONLY, or its stand's protection (06 R206). -/
def State.writeProtected (s : State) (x : NsS) : Bool :=
  s.isReadOnly || ((s.standOfNs x).map (fun st => st.prot)).getD false

/-- The trunk walker finds every block of a range mapped, with none UNMAPPED or POISONED (06 R209). -/
def State.wholeMapped (s : State) (x : NsS) (slba len : Nat) : Bool :=
  (lbasOf slba len).all (fun l => match dgnOf x.segs (l / 16) with
    | some d => holdsData (blockLoc s.map.trunk s.map.leaves d (l % 16))
    | none => false)

/-- A write of so many blocks would exceed its stand's limit (06 R209). -/
def State.overLimit (s : State) (x : NsS) (len : Nat) : Bool :=
  match s.standOfNs x with
  | some st => decide (s.standLimit st < s.standUse x.stand.val + st.inflight + len)
  | none => false

/-- The verdict on a write, in the order of R53, with the data pointer's rules last. -/
def State.writeVerdict (s : State) (f : RwFields) (x : NsS) : Option Status :=
  match rwVerdict f x with
  | some st => some st
  | none =>
    if s.writeProtected x then some stProtected
    else if !s.wholeMapped x f.slba (rwLen f) && s.overLimit x (rwLen f) then some stCapacity
    else dptrCheck f.dptr (4096 * rwLen f) true

/-- The verdict on a read or a compare. -/
def readVerdict (f : RwFields) (x : NsS) (toDev : Bool) : Option Status :=
  match rwVerdict f x with
  | some st => some st
  | none => dptrCheck f.dptr (4096 * rwLen f) toDev

/-! ## Reads -/

/-- Begin a read: its blocks are looked up (01 R21, R24, R25). -/
def State.beginRead (s : State) (tag : Nat) (f : RwFields) : State :=
  (s.modTag tag (fun t => { t with phase := .running, got := List.replicate (rwLen f) none,
                                   waits := lbasOf f.slba (rwLen f) })).continueRead tag

/-- A read of any kind. -/
def State.doRead (s : State) (tag : Nat) (t : TagE) (f : RwFields) : State :=
  s.onNs tag t f.nsid .reads (fun x => match readVerdict f x false with
    | some st => s.complete tag st
    | none => s.beginRead tag f)

/-! ## Writes -/

/-- The blocks that a write carries, by LBA. -/
def writeBlocks (f : RwFields) : List (Nat × Block) :=
  (lbasOf f.slba (rwLen f)).mapIdx (fun i l => (l, f.data[i]?.getD 0))

/-- Blocks by aligned AWUN unit and, within it, by 512 KiB range. -/
def State.writeGroups (s : State) (tag : Nat) (c : Cntl) (f : RwFields) (x : NsS) : Option (State × List Dword) :=
  s.addGroups f.nsid.toNat x.keyGen (some tag) (some c.val) (groupRanges (writeBlocks f))

/-- Charge a stand (06 R209). -/
def State.charge (s : State) (st n : Nat) : State :=
  { s with nvm := s.nvm.modStand st (fun x => { x with inflight := x.inflight + n }) }

/-- The stand of a command's namespace. -/
def State.standOfCmd (s : State) (c : NvmeCmd) : Nat :=
  (((ioNsid c).bind (fun n => s.nvm.ns n.toNat)).map (fun x => x.stand.val)).getD 0

/-- A write fails before its update: nothing of it enters the index, and its charge is returned (02 Table 2-5). -/
def State.failWrite (s : State) (tag : Nat) (st : Status) : State :=
  match sget s.host.tags tag with
  | none => s
  | some t =>
    let gone := fun (q : Nat) (g : CGroup) => t.groups.any (fun d => d.toNat == q) && !g.visible
    let s1 := { s with cache := { s.cache with groups := skeep (fun q g => !gone q g) s.cache.groups },
                       land := { s.land with ctxs := skeep (fun _ c => c.tag != some tag) s.land.ctxs } }
    let s2 := (s1.returnCharge (s.standOfCmd t.cmd) t.charge).modTag tag (fun x => { x with groups := [], charge := 0, ctxLeft := 0 })
    (s2.complete tag st).feedCtxs

/-- A write that waits for room in the write cache or for cords: it has not begun (03 R78). -/
def TagE.writeWaits (t : TagE) : Bool :=
  t.phase == .running && !t.waits.isEmpty && (match t.cmd with
    | .write _ => true
    | .orderedWrite _ => true
    | _ => false)

/-- A command has not begun (03 R78): nothing beyond acceptance and validation has been done for it. A Flush begins with its acceptance. -/
def TagE.unbegun (t : TagE) : Bool :=
  ((t.phase == .accepted || t.phase == .dispatched) && (match t.cmd with
    | .flush _ => false
    | _ => true)) || t.writeWaits

/-- The aborted command completes; a write enters nothing. -/
def State.abortTag (s : State) (k : Nat) (x : TagE) (st : Status) : State :=
  if x.writeWaits then s.failWrite k st else s.complete k st

/-- The first request for a write's data (03 R78): it has begun from here on, unless READ_ONLY or its stand's protection has come first, which
fails it (03 Table 3-4). -/
def State.pullWrite (s : State) (tag : Nat) (_t : TagE) (f : RwFields) : State :=
  if ((s.nvm.ns f.nsid.toNat).map s.writeProtected).getD false then s.failWrite tag stProtected
  else
    let s1 := { s with land := s.land.setBlocks (s.land.cordsOf (.tag tag)) ((writeBlocks f).map Prod.snd) }
    (s1.modTag tag (fun x => { x with waits := [] })).beginTransfer tag (rwLen f)

/-- Every cord of a write's data is held: the read engines pull it (01 R26 step 2). -/
def State.pullData (s : State) (tag : Nat) : State :=
  match sget s.host.tags tag with
  | none => s
  | some t =>
    match t.cmd with
    | .write f => if t.phase == .running && !t.waits.isEmpty && !s.land.tagWaits tag then
        s.pullWrite tag t f else s
    | .orderedWrite f => if t.phase == .running && !t.waits.isEmpty && !s.land.tagWaits tag then
        s.pullWrite tag t f else s
    | _ => s

/-- Begin a write: it is charged, its data gets slots in the write cache, and cords for the pull, in arrival order: only a read of an L0 stand goes
ahead (04 R111). It waits while no slab has room. -/
def State.beginWrite (s : State) (tag : Nat) (t : TagE) (f : RwFields) (x : NsS) : State :=
  let n := if s.wholeMapped x f.slba (rwLen f) then 0 else rwLen f
  match s.writeGroups tag t.cntl f x with
  | none => s
  | some (s1, qs) =>
    (((s1.charge x.stand.val n).modTag tag (fun y =>
      { y with phase := .running, groups := qs, charge := n, waits := lbasOf f.slba (rwLen f) })).askTag tag (rwLen f)
        t.cntl.port false none).pullData tag

/-- A write of either kind. -/
def State.doWrite (s : State) (tag : Nat) (t : TagE) (f : RwFields) : State :=
  s.onNs tag t f.nsid .writes (fun x => match s.writeVerdict f x with
    | some st => s.complete tag st
    | none => s.beginWrite tag t f x)

/-- A write completes with its data on media: FUA, or PLP not armed (R53; 01 Table 1-3). -/
def mustReachMedia (c : NvmeCmd) (armed : Bool) : Bool :=
  !armed || (match c with
    | .write f => f.fua
    | .orderedWrite f => f.fua
    | _ => false)

/-- A Flush that covers data which some groups have superseded before it was on media waits for those groups too (03 R88). -/
def TagE.inherits (t : TagE) (c : CacheS) : TagE :=
  match t.cmd with
  | .flush _ => { t with heirs := (c.heirsOf t.groups).foldl (fun l q => if l.contains q then l else l ++ [q]) t.heirs }
  | _ => t

/-- Flushes wait for the newest block of what they cover, and one that runs has it forced to media. -/
def State.inheritFlushes (s : State) : State :=
  let tags := smap (fun _ t => t.inherits s.cache) s.host.tags
  let qs := (tags.filter (fun e => e.2.phase == .running)).flatMap (fun e => e.2.heirs)
  let s1 := { s with host := { s.host with tags := tags } }
  if qs.isEmpty then s1 else s1.forceSets (fun w => w.holdsGroup qs)

/-- The index update of a write (03 R81): its charge is settled, and with PLP armed it completes. What completes here is acknowledged before it
is on media. -/
def State.publishWrite (s : State) (tag : Nat) (t : TagE) : State :=
  let s1 := ({ s with cache := s.cache.publish t.groups (!(mustReachMedia t.cmd s.armed)) }).inheritFlushes
  let s2 := ((s1.returnCharge (s.standOfCmd t.cmd) t.charge).modTag tag (fun x => { x with charge := 0 })).freeCords (.tag tag)
  let s3 := if mustReachMedia t.cmd s.armed then s2 else s2.complete tag stOk
  s3.freeGroups.recheckSpare

/-! ## Deallocation (03 R82, R93, R523; 05 R144, R151) -/

/-- A range of a deallocation: first LBA and blocks. -/
abbrev LbaRange := Nat × Nat

/-- First and end of the granules that a range covers whole. -/
def wholeGrans (r : LbaRange) : Nat × Nat := ((r.1 + 15) / 16, (r.1 + r.2) / 16)

/-- The granules at a range's edges that it covers in part, with the blocks covered. -/
def edgeGrans (r : LbaRange) : List (Nat × List Nat) :=
  if r.2 = 0 then []
  else
    let a := r.1 / 16
    let z := (r.1 + r.2 - 1) / 16
    let ends := if a = z then [a] else [a, z]
    (ends.filter (fun g => !covers r.1 r.2 g)).map (fun g => (g, blocksIn r.1 r.2 g))

/-- Device granule ranges of namespace granules a to b - 1: one for each segment. -/
def dgnRanges (segs : List Nat) (a b : Nat) : List (Nat × Nat) :=
  if b ≤ a then []
  else ((List.range ((b - 1) / segGrans + 1 - a / segGrans)).map (fun i => a / segGrans + i)).filterMap (fun i =>
    (segs[i]?).map (fun sn =>
      let lo := max a (i * segGrans)
      let hi := min b ((i + 1) * segGrans)
      (sn * segGrans + lo % segGrans, hi - lo)))

/-- The granules of a device granule range that a grove owns: the first, and how many. -/
def ownedRange (g : Grove) (r : Nat × Nat) : Option (Nat × Nat) :=
  let first := r.1 + (g.val + 8 - r.1 % 8) % 8
  if r.1 + r.2 ≤ first then none else some (first, (r.1 + r.2 - 1 - first) / 8 + 1)

/-- The work of every grove on some device granule ranges. -/
def workOf (rs : List (Nat × Nat)) : Sparse (List (Nat × Nat)) :=
  ((List.finRange 8).map (fun (g : Grove) => (g.val, rs.filterMap (ownedRange g)))).filter (fun e => !e.2.isEmpty)

/-- The change that sets blocks of a granule UNMAPPED. -/
def unmapChange (dgn : Nat) (ks : List Nat) : GranChange :=
  { dgn := dgn, entries := ks.map (fun k => (k, plocUnmapped)), coarse := none, cas := [] }

/-- Commit groups that a tag waits for. -/
def State.addCommits (s : State) (tag n : Nat) : State := s.modTag tag (fun t => { t with commits := t.commits + n })

/-- Groves that own one of some changes. -/
def grovesOf (cs : List GranChange) : Nat := ((List.finRange 8).filter (fun g => cs.any (fun c => groveOf c.dgn == g))).length

/-- Deallocate ranges of a namespace under a command: up to 256 granules in one commit group for each grove; more of them in
slices, the granules that a range covers in part among them (03 R93). -/
def State.dealloc (s : State) (tag : Nat) (nsid : Nat) (x : NsS) (rs : List LbaRange) : State :=
  let edges := (rs.flatMap edgeGrans).filterMap (fun e => (dgnOf x.segs e.1).map (fun d => unmapChange d e.2))
  let whole := rs.flatMap (fun r => dgnRanges x.segs (wholeGrans r).1 (wholeGrans r).2)
  let n := edges.length + (whole.map Prod.snd).sum
  let s1 := s.modTag tag (fun t => { t with phase := .running })
  let s2 := if n ≤ 256 then
      let cs := edges ++ (whole.flatMap (fun r => (List.range r.2).map (fun i => unmapChange (r.1 + i) (List.range 16))))
      (s1.addCommits tag (grovesOf cs)).queueChanges (.dealloc (some tag)) cs
    else
      let o : SlicedOp := { kind := .dealloc, tag := some tag, nsids := [nsid], rekey := false, begun := true, work := workOf whole,
                            edges := edges.map (fun c => (c.dgn, c.entries.map Prod.fst)) }
      { s1 with nvm := { s1.nvm with ops := sput s1.nvm.newOp o s1.nvm.ops } }
  if n = 0 then s2.complete tag stOk else s2

/-- A range lies in a namespace. -/
def rangeIn (x : NsS) (r : LbaRange) : Bool := decide (r.1 + r.2 ≤ x.nlb)

/-- Dataset Management, ordered or not: without AD nothing happens (Table 2-8). -/
def State.doDsm (s : State) (tag : Nat) (t : TagE) (nsid : Dword) (ad : Bool) (ranges : List DsmRange) : State :=
  s.onNs tag t nsid .writes (fun x => s.withPtr tag t (16 * ranges.length) true fun s =>
    if !ad then s.complete tag stOk
    else
      let rs := ranges.map (fun r => (r.slba, r.length))
      if !rs.all (rangeIn x) then s.complete tag stRange
      else s.dealloc tag nsid.toNat x rs)

/-! ## Reservations (02 R66; NVMe Base 2.0, log entry 13) -/

/-- Notify the hosts of registrants: type 1 registration preempted, 2 reservation released, 3 reservation preempted. -/
def State.rsvNotify (s : State) (nsid typ : Nat) (x : NsS) (hosts : List (BitVec 128)) : State :=
  let cs := x.attached.filter (fun c => hosts.contains (s.host.func c).hostId &&
    !((sget (s.host.func c).features (maskKey nsid)).getD 0).getLsbD typ)
  let s1 := cs.foldl (fun (a : State) c => { a with host := a.host.modFunc c (fun f =>
    if f.en then { f with rsvNotices := f.rsvNotices ++ [(typ, nsid)] } else f) }) s
  s1.raiseEvent cs 6 0 0x80

/-- A type whose reservation belongs to every registrant. -/
def rsvAll : RsvType → Bool
  | .writeExclusiveAll => true
  | .exclusiveAccessAll => true
  | _ => false

/-- A type that concerns registrants, who are told of a release. -/
def rsvShared : RsvType → Bool
  | .writeExclusive => false
  | .exclusiveAccess => false
  | _ => true

/-- The registrant of a host whose key is given, or any key where it is to be ignored. -/
def NsS.registrant (x : NsS) (h : BitVec 128) (key : Qword) (ignore : Bool) : Option Registrant :=
  x.registrants.find? (fun r => r.hostId == h && (ignore || r.key == key))

/-- Hosts of the registrants other than one. -/
def NsS.others (x : NsS) (h : BitVec 128) : List (BitVec 128) := (x.registrants.filter (fun r => r.hostId != h)).map (fun r => r.hostId)

/-- No reservation is held. -/
def NsS.released (x : NsS) : NsS := { x with holder := none, rtype := none }

/-- The host holds the reservation. -/
def NsS.holds (x : NsS) (h : BitVec 128) : Bool :=
  match x.rtype with
  | none => false
  | some ty => x.holder == some h || (rsvAll ty && x.registrants.any (fun r => r.hostId == h))

/-- A change of Persist Through Power Loss. -/
def ptplAfter (old : Bool) : PtplChange → Bool
  | .keep => old
  | .clear => false
  | .set => true

/-- Put a namespace back. -/
def State.putNs (s : State) (nsid : Nat) (x : NsS) : State := { s with nvm := s.nvm.modNs nsid (fun _ => x) }

/-- Unregister a host: what it held is released, unless it belongs to every registrant and others remain. -/
def NsS.unregister (x : NsS) (h : BitVec 128) : NsS :=
  let x1 := { x with registrants := x.registrants.filter (fun r => r.hostId != h), prgen := x.prgen + 1 }
  match x.rtype with
  | none => x1
  | some ty =>
    if rsvAll ty then (if x1.registrants.isEmpty then x1.released else x1)
    else if x.holder = some h then x1.released else x1

/-- Reservation Register. -/
def State.doRegister (s : State) (tag : Nat) (h : BitVec 128) (nsid : Nat) (x : NsS) (act : RregAction) (iekey : Bool)
    (ptpl : PtplChange) (crkey nrkey : Qword) : State :=
  let x0 := { x with ptpl := ptplAfter x.ptpl ptpl }
  match act with
  | .register =>
    match x.registrant h nrkey true with
    | some r => if r.key = nrkey then (s.putNs nsid x0).complete tag stOk else s.complete tag stConflict
    | none =>
      (s.putNs nsid { x0 with registrants := x.registrants ++ [{ hostId := h, key := nrkey }], prgen := x.prgen + 1 }).complete tag stOk
  | .unregister =>
    match x.registrant h crkey iekey with
    | none => s.complete tag stConflict
    | some _ =>
      let y := x0.unregister h
      let s1 := s.putNs nsid y
      let told := x.rtype.isSome && y.rtype.isNone && ((x.rtype.map rsvShared).getD false)
      (if told then s1.rsvNotify nsid 2 x (x.others h) else s1).complete tag stOk
  | .replace =>
    match x.registrant h crkey iekey with
    | none => s.complete tag stConflict
    | some _ =>
      (s.putNs nsid { x0 with registrants := x.registrants.map (fun r => if r.hostId = h then { r with key := nrkey } else r),
                              prgen := x.prgen + 1 }).complete tag stOk

/-- Hosts that a preemption unregisters: those with the key, and with key 0 under a type of all registrants every other. -/
def NsS.preempted (x : NsS) (h : BitVec 128) (prkey : Qword) : List (BitVec 128) :=
  let all := prkey == 0 && ((x.rtype.map rsvAll).getD false)
  (x.registrants.filter (fun r => if all then r.hostId != h else r.key == prkey && r.hostId != h)).map (fun r => r.hostId)

/-- The preempted key is the holder's: the reservation passes to the preempting host. -/
def NsS.takesOver (x : NsS) (prkey : Qword) : Bool :=
  match x.rtype with
  | none => false
  | some ty => if rsvAll ty then prkey == 0 else x.registrants.any (fun r => x.holder == some r.hostId && r.key == prkey)

/-- Commands to a namespace of the preempted hosts that have not begun are aborted. -/
def State.abortOf (s : State) (nsid : Nat) (hosts : List (BitVec 128)) : State :=
  (s.host.tags.filter (fun e => e.2.sqid != 0 && e.2.unbegun && hosts.contains (s.host.func e.2.cntl.val).hostId &&
    ((ioNsid e.2.cmd).map (fun n => n.toNat == nsid)).getD false)).foldl (fun a e => a.abortTag e.1 e.2 stAborted) s

/-- Reservation Acquire. -/
def State.doAcquire (s : State) (tag : Nat) (h : BitVec 128) (nsid : Nat) (x : NsS) (act : RacqAction) (iekey : Bool)
    (rtype : RsvType) (crkey prkey : Qword) : State :=
  match x.registrant h crkey iekey with
  | none => s.complete tag stConflict
  | some _ =>
    match act with
    | .acquire =>
      match x.rtype with
      | none => (s.putNs nsid { x with holder := some h, rtype := some rtype }).complete tag stOk
      | some ty => if x.holds h && ty == rtype then s.complete tag stOk else s.complete tag stConflict
    | _ =>
      let out := x.preempted h prkey
      let wins := x.takesOver prkey
      if out.isEmpty && !wins then s.complete tag stConflict
      else
        let x1 := { x with registrants := x.registrants.filter (fun r => !out.contains r.hostId), prgen := x.prgen + 1 }
        let x2 := if wins then { x1 with holder := some h, rtype := some rtype } else x1
        let s1 := (s.putNs nsid x2).rsvNotify nsid 1 x out
        let s2 := if wins && x.rtype != some rtype then s1.rsvNotify nsid 2 x ((x2.others h).filter (fun y => !out.contains y)) else s1
        let s3 := if act == .preemptAndAbort then s2.abortOf nsid out else s2
        s3.complete tag stOk

/-- Reservation Release. -/
def State.doRelease (s : State) (tag : Nat) (h : BitVec 128) (nsid : Nat) (x : NsS) (clear iekey : Bool) (rtype : RsvType)
    (crkey : Qword) : State :=
  match x.registrant h crkey iekey with
  | none => s.complete tag stConflict
  | some _ =>
    if clear then
      let y := { x with registrants := [], holder := none, rtype := none, prgen := x.prgen + 1 }
      ((s.putNs nsid y).rsvNotify nsid 3 x (x.others h)).complete tag stOk
    else if !x.holds h then s.complete tag stOk
    else if x.rtype ≠ some rtype then s.complete tag stField
    else
      let s1 := s.putNs nsid x.released
      (if rsvShared rtype then s1.rsvNotify nsid 2 x (x.others h) else s1).complete tag stOk

/-- RTYPE as NVMe codes it. -/
def rsvCode : RsvType → Nat
  | .writeExclusive => 1
  | .exclusiveAccess => 2
  | .writeExclusiveRegistrants => 3
  | .exclusiveAccessRegistrants => 4
  | .writeExclusiveAll => 5
  | .exclusiveAccessAll => 6

/-- The controller of a registrant: the first attached one with its host identifier, else FFFFh. -/
def State.ctrlOf (s : State) (x : NsS) (h : BitVec 128) : Nat :=
  (x.attached.find? (fun c => (s.host.func c).hostId == h)).getD 0xFFFF

/-- The Reservation Status structure: 24-byte entries, or 64-byte ones for a controller with 128-bit host identifiers. -/
def State.rsvStatus (s : State) (x : NsS) (wide : Bool) : Nat × Nat :=
  let n := x.registrants.length
  let head := packBits [(0, 32, x.prgen.toNat), (32, 8, (x.rtype.map rsvCode).getD 0), (40, 16, n), (72, 8, if x.ptpl then 1 else 0)]
  let one := fun (i : Nat) (r : Registrant) =>
    let st := if x.holds r.hostId then 1 else 0
    if wide then
      2 ^ (8 * (64 + 64 * i)) * packBits [(0, 16, s.ctrlOf x r.hostId), (16, 8, st), (64, 64, r.key.toNat), (128, 128, r.hostId.toNat)]
    else
      2 ^ (8 * (24 + 24 * i)) * packBits [(0, 16, s.ctrlOf x r.hostId), (16, 8, st), (64, 64, r.hostId.toNat), (128, 64, r.key.toNat)]
  (if wide then 64 + 64 * n else 24 + 24 * n, head + ((x.registrants.mapIdx one)).sum)

end Sys2Proof.Machine
end

