-- ==== Sys2Proof/Machine/Admin.lean ====
section
/-! DEFINITION. Admin commands (02 R42, R49 to R66; 03 R96 to R100; 05 R144, R171, R173; 13 R380; 14 R403). -/

namespace Sys2Proof.Machine

/-! ## Queues (R42; NVMe Base 2.0, log entry 13) -/

/-- A queue size (zero-based) within CAP.MQES. -/
def qsizeOk (n : Nat) : Bool := decide (1 ≤ n) && decide (n ≤ 4095)

/-- The verdict on Create I/O Completion Queue. -/
def State.cqVerdict (s : State) (c : Cntl) (qid n iv : Nat) (pc : Bool) : Option Status :=
  if qid = 0 || s.queueAlloc c < qid || (sget s.host.cqs (qKey c.val qid)).isSome then some stQueueId
  else if !qsizeOk n then some stQueueSize
  else if !pc then some stField
  else if vectors c ≤ iv then some stVector
  else none

/-- CREATE_IO_CQ. -/
def execCreateIoCq (tag : Nat) (s : State) : Host.Outcome State Fault Refusal :=
  .next (s.admin tag (fun s t => match t.cmd with
    | .createIoCq qid n iv ien pc =>
      match s.cqVerdict t.cntl qid n iv pc with
      | some st => s.complete tag st
      | none =>
        let q : CqS := { size := n + 1, head := 0, posted := [], held := [], vector := iv, ien := ien, unsignalled := 0, msix := 0 }
        ({ s with host := { s.host with cqs := sput (qKey t.cntl.val qid) q s.host.cqs } }).complete tag stOk
    | _ => s))

/-- The verdict on Create I/O Submission Queue. -/
def State.sqVerdict (s : State) (c : Cntl) (qid n cqid : Nat) (pc : Bool) : Option Status :=
  if qid = 0 || s.queueAlloc c < qid || (sget s.host.sqs (qKey c.val qid)).isSome then some stQueueId
  else if cqid = 0 || s.queueAlloc c < cqid then some stQueueId
  else if (sget s.host.cqs (qKey c.val cqid)).isNone then some stCqInvalid
  else if !qsizeOk n then some stQueueSize
  else if !pc then some stField
  else none

/-- CREATE_IO_SQ. -/
def execCreateIoSq (tag : Nat) (s : State) : Host.Outcome State Fault Refusal :=
  .next (s.admin tag (fun s t => match t.cmd with
    | .createIoSq qid n cqid pc =>
      match s.sqVerdict t.cntl qid n cqid pc with
      | some st => s.complete tag st
      | none =>
        let q : SqS := { size := n + 1, cqid := cqid, head := 0, tail := 0, unfetched := [], ordered := none, starved := false }
        ({ s with host := { s.host with sqs := sput (qKey t.cntl.val qid) q s.host.sqs } }).complete tag stOk
    | _ => s))

/-- Tags of a submission queue, those whose completion entries are held among them (03 R74). -/
def HostS.ofQueue (h : HostS) (c : Cntl) (qid : Nat) : List (Nat × TagE) :=
  h.tags.filter (fun e => e.2.cntl == c && e.2.sqid == qid)

/-- Command Aborted due to SQ Deletion (NVMe Base 2.0). -/
abbrev stSqDeleted : Status := ⟨0, 0x08⟩

/-- DELETE_IO_SQ: what has not begun (03 R78) is completed as aborted; the queue goes once nothing of it runs any more and every completion entry
has been posted. Until then the command has begun, and its row acts again. -/
def execDeleteIoSq (tag : Nat) (s : State) : Host.Outcome State Fault Refusal :=
  .next (s.admin tag (fun s t => match t.cmd with
    | .deleteIoSq qid =>
      if qid = 0 || (sget s.host.sqs (qKey t.cntl.val qid)).isNone then s.complete tag stQueueId
      else
        let s1 := { s with host := { s.host with sqs := smod (qKey t.cntl.val qid) (fun q => { q with unfetched := [] }) s.host.sqs } }
        let idle := (s1.host.ofQueue t.cntl qid).filter (fun e => e.2.unbegun)
        let s2 := idle.foldl (fun a e => a.abortTag e.1 e.2 stSqDeleted) s1
        if (s2.host.ofQueue t.cntl qid).isEmpty then
          ({ s2 with host := { s2.host with sqs := sdel (qKey t.cntl.val qid) s2.host.sqs } }).complete tag stOk
        else s2.modTag tag (fun x => { x with phase := .begun })
    | _ => s))

/-- DELETE_IO_CQ: refused while a submission queue uses it; a tag whose entry it still holds is freed. -/
def execDeleteIoCq (tag : Nat) (s : State) : Host.Outcome State Fault Refusal :=
  .next (s.admin tag (fun s t => match t.cmd with
    | .deleteIoCq qid =>
      if qid = 0 || (sget s.host.cqs (qKey t.cntl.val qid)).isNone then s.complete tag stQueueId
      else if s.host.sqs.any (fun e => decide (e.1 / 65536 = t.cntl.val) && e.2.cqid == qid) then s.complete tag stQueueDelete
      else
        let held := ((sget s.host.cqs (qKey t.cntl.val qid)).map (fun q => q.held.map Prod.fst)).getD []
        let s1 := held.foldl (fun a k => a.freeTag k) s
        ({ s1 with host := { s1.host with cqs := sdel (qKey t.cntl.val qid) s1.host.cqs } }).complete tag stOk
    | _ => s))

/-! ## Log pages and Identify -/

/-- Length of a log page in bytes; none for one that is not supported (Table 2-10, R55). -/
def logLen (c : Cntl) (lid : Byte) : Option Nat :=
  match lid.toNat with
  | 0x01 => some 4096
  | 0x02 => some 512
  | 0x03 => some 512
  | 0x04 => some 4096
  | 0x05 => some 4096
  | 0x80 => some 64
  | 0x81 => some 512
  | 0xC0 => if c.isPF then some 36864 else none
  | _ => none

/-- The bytes of a log page other than the Health Report. -/
def State.logBytes (s : State) (c : Cntl) (lid : Byte) (off n : Nat) : List (Option Byte) :=
  let f := s.host.func c.val
  match lid.toNat with
  | 0x01 => structBytes 0x101 off n (errorLog f.errors)
  | 0x02 => structBytes 0x102 off n (s.smart c.val)
  | 0x03 => structBytes 0x103 off n (zeros [(1, 7), (64, 448)])
  | 0x04 => numBytes (dwordList f.changedNs) off n
  | 0x05 => structBytes 0x105 off n (effectsLog c.isPF)
  | 0x80 => structBytes 0x180 off n (rsvLog f)
  | _ => structBytes 0x181 off n s.sanLog

/-- What reading a page changes: the changed namespaces are reported once, and the oldest reservation notification is
taken. -/
def FuncS.afterLog (f : FuncS) (lid : Byte) : FuncS :=
  if lid = 0x04 then { f with changedNs := [] } else if lid = 0x80 then { f with rsvNotices := f.rsvNotices.drop 1 } else f

/-- The path of a PF's health snapshots. -/
def pfPath (c : Cntl) : Nat := 1 + c.port.val

/-- GET_LOG_PAGE (R55; 15 R439: reading page 0 of the Health Report takes a new snapshot). -/
def execGetLogPage (tag : Nat) (s : State) : Host.Outcome State Fault Refusal :=
  .next (s.admin tag (fun s t => match t.cmd with
    | .getLogPage lid off n =>
      match logLen t.cntl lid with
      | none => s.complete tag stLogPage
      | some len =>
        if len < off then s.complete tag stField
        else
          let k := min n (len - off)
          if lid = 0xC0 then
            let s1 := if off < 4096 then s.snapshot (pfPath t.cntl) else s
            s1.returnData tag t k 0 (.bytes (s1.mgmt.snapBytes (pfPath t.cntl) off k))
          else
            let data := s.logBytes t.cntl lid off k
            ({ s with host := s.host.modFunc t.cntl.val (fun f => f.afterLog lid) }).returnData tag t k 0 (.bytes data)
    | _ => s))

/-- A list of 4-byte identifiers above one. -/
def idsAbove (l : List Nat) (n : Nat) : List Nat := l.filter (fun i => decide (n < i))

/-- The structure that a CNS value returns: a status, or its bytes (Table 2-6, R43). -/
def State.identData (s : State) (c : Cntl) (cns : Byte) (nsid : Dword) : Status × List (Option Byte) :=
  let n := nsid.toNat
  let ok := fun (l : List (Option Byte)) => (stOk, l)
  let zero := numBytes 0 0 4096
  match cns.toNat with
  | 0x00 =>
    if n = nsidAll then ok (structBytes 0x200 0 4096 ([(25, 1, 0), (128, 4, 0x000C0000)] ++ nsZeros))
    else if !nsidOk n then (stNamespace, [])
    else match s.nvm.ns n with
      | some x => if (s.nvm.activeFor c.val).contains n then ok (structBytes 0x200 0 4096 (s.identNs n x)) else ok zero
      | none => ok zero
  | 0x01 => ok (structBytes 0x201 0 4096 (s.identCtrl c))
  | 0x02 => if 0xFFFFFFFE ≤ n then (stNamespace, []) else ok (numBytes (dwordList (idsAbove (s.nvm.activeFor c.val) n)) 0 4096)
  | 0x03 => if (s.nvm.activeFor c.val).contains n then ok (structBytes 0x203 0 4096 []) else (stNamespace, [])
  | 0x10 =>
    if !c.isPF then (stField, [])
    else if 0xFFFFFFFE ≤ n then (stNamespace, []) else ok (numBytes (dwordList (idsAbove (s.nvm.allocFor c.val) n)) 0 4096)
  | 0x11 =>
    if !c.isPF then (stField, [])
    else if !nsidOk n then (stNamespace, [])
    else match s.nvm.ns n with
      | some x => if (s.nvm.allocFor c.val).contains n then ok (structBytes 0x200 0 4096 (s.identNs n x)) else ok zero
      | none => ok zero
  | 0x12 =>
    if !c.isPF then (stField, [])
    else if !(s.nvm.allocFor c.val).contains n then (stNamespace, [])
    else ok (numBytes (ctrlListNum (((s.nvm.ns n).map (fun x => x.attached)).getD [])) 0 4096)
  | 0x13 =>
    if !c.isPF then (stField, [])
    else ok (numBytes (ctrlListNum ((List.finRange 256).filter s.host.present |>.map (fun (x : Cntl) => x.val))) 0 4096)
  | _ => (stField, [])

/-- IDENTIFY (R49, R50, R64). -/
def execIdentify (tag : Nat) (s : State) : Host.Outcome State Fault Refusal :=
  .next (s.admin tag (fun s t => match t.cmd with
    | .identify cns nsid =>
      let r := s.identData t.cntl cns nsid
      if r.1 = stOk then s.returnData tag t r.2.length 0 (.bytes r.2) else s.complete tag r.1
    | _ => s))

/-! ## Abort and events -/

/-- A command may be aborted (R98): it has not begun; an outstanding Asynchronous Event Request always may. -/
def TagE.abortable (t : TagE) (f : FuncS) (tag : Nat) : Bool := t.unbegun || f.aers.contains tag

/-- Aborts of a controller that were accepted before this one and are not completed. -/
def HostS.abortsBefore (h : HostS) (t : TagE) : Nat :=
  (h.tags.filter (fun e => e.2.cntl == t.cntl && decide (e.2.aseq < t.aseq) && (match e.2.cmd with
    | .abort _ _ => true
    | _ => false))).length

/-- ABORT (R98). -/
def execAbort (tag : Nat) (s : State) : Host.Outcome State Fault Refusal :=
  .next (s.admin tag (fun s t => match t.cmd with
    | .abort sq cid =>
      if 8 ≤ s.host.abortsBefore t then s.complete tag stAbortLimit
      else
        match s.host.tags.find? (fun e => e.2.cntl == t.cntl && e.2.sqid == sq && e.2.cid == cid && e.1 != tag) with
        | some (k, x) =>
          if x.abortable (s.host.func t.cntl.val) k then
            let s1 := { s with host := s.host.modFunc t.cntl.val (fun f => { f with aers := f.aers.filter (· != k) }) }
            (s1.abortTag k x stAborted).complete tag stOk 0
          else s.complete tag stOk 1
        | none => s.complete tag stOk 1
    | _ => s))

/-- ASYNCHRONOUS_EVENT_REQUEST (R51; 15 R427): at most 8 are outstanding; one completes with the oldest waiting event. -/
def execAsynchronousEventRequest (tag : Nat) (s : State) : Host.Outcome State Fault Refusal :=
  .next (s.admin tag (fun s t => match t.cmd with
    | .asyncEventRequest =>
      let f := s.host.func t.cntl.val
      match f.events with
      | ev :: rest =>
        ({ s with host := s.host.setFunc t.cntl.val { f with events := rest } }).complete tag stOk
          (BitVec.ofNat 32 (ev.typ + ev.info * 256 + ev.page * 65536))
      | [] =>
        if 8 ≤ f.aers.length then s.complete tag stAerLimit
        else
          let s1 := s.modTag tag (fun t => { t with phase := .running })
          { s1 with host := s1.host.setFunc t.cntl.val { f with aers := f.aers ++ [tag] } }
    | _ => s))

/-- KEEP_ALIVE (R51): the timer starts afresh. -/
def execKeepAlive (tag : Nat) (s : State) : Host.Outcome State Fault Refusal :=
  .next (s.admin tag (fun s t => match t.cmd with
    | .keepAlive =>
      ({ s with host := s.host.modFunc t.cntl.val (fun f => { f with keepAliveFrom := s.now }) }).complete tag stOk
    | _ => s))

/-! ## Set Features (R54) -/

/-- ARBITRATION: the burst. -/
def execArbitration (tag : Nat) (s : State) : Host.Outcome State Fault Refusal :=
  .next (s.setFeature tag 0x01 (fun s t v _ _ => s.keepFeature tag t 0x01 (v &&& 7)))

/-- Record Q(p) and, for an operational state, O(p). -/
def PwrS.request (w : PwrS) (p : Port) (ps : Nat) : PwrS :=
  let w1 := if p = 0 then { w with q0 := ps } else { w with q1 := ps }
  if 2 < ps then w1 else if p = 0 then { w1 with o0 := ps } else { w1 with o1 := ps }

/-- POWER_MANAGEMENT (13 R380): a PF's request is recorded and the state chosen again; a VF's fails. -/
def execPowerManagement (tag : Nat) (s : State) : Host.Outcome State Fault Refusal :=
  .next (s.setFeature tag 0x02 (fun s t v _ _ =>
    let ps := getField v 0 5
    if !t.cntl.isPF || 4 < ps then s.complete tag stField
    else ({ s with pwr := s.pwr.request t.cntl.port ps }).complete tag stOk))

/-- TEMPERATURE_THRESHOLD: the over (THSEL 0) or under (THSEL 1) threshold of the composite temperature. -/
def execTemperatureThreshold (tag : Nat) (s : State) : Host.Outcome State Fault Refusal :=
  .next (s.setFeature tag 0x04 (fun s t v _ _ =>
    let sel := getField v 16 4
    let th := getField v 20 2
    if (sel ≠ 0 ∧ sel ≠ 15) ∨ 1 < th then s.complete tag stField
    else s.keepFeature tag t (if th = 1 then 0x0410 else 0x04) (v &&& 0xFFFF)))

/-- VOLATILE_WRITE_CACHE: recorded; completion behaviour does not change. -/
def execVolatileWriteCache (tag : Nat) (s : State) : Host.Outcome State Fault Refusal :=
  .next (s.setFeature tag 0x06 (fun s t v _ _ => s.keepFeature tag t 0x06 (v &&& 1)))

/-- NUMBER_OF_QUEUES (R42): the allocation is reported whatever is asked. A request of FFFFh in either half is invalid, and one
made after an I/O queue exists is out of sequence (NVMe Base 2.0, log entry 13). -/
def execNumberOfQueues (tag : Nat) (s : State) : Host.Outcome State Fault Refusal :=
  .next (s.setFeature tag 0x07 (fun s t v _ _ =>
    if getField v 0 16 = 65535 ∨ getField v 16 16 = 65535 then s.complete tag stField
    else if s.host.cqs.any (fun e => decide (e.1 / 65536 = t.cntl.val ∧ e.1 % 65536 ≠ 0)) then s.complete tag ⟨0, 0x0C⟩
    else s.complete tag stOk (s.queuesWord t.cntl)))

/-- INTERRUPT_COALESCING: threshold and time. -/
def execInterruptCoalescing (tag : Nat) (s : State) : Host.Outcome State Fault Refusal :=
  .next (s.setFeature tag 0x08 (fun s t v _ _ => s.keepFeature tag t 0x08 (v &&& 0xFFFF)))

/-- INTERRUPT_VECTOR_CONFIGURATION (R42): whether coalescing is disabled for a vector of the function. -/
def execInterruptVectorConfiguration (tag : Nat) (s : State) : Host.Outcome State Fault Refusal :=
  .next (s.setFeature tag 0x09 (fun s t v _ _ =>
    let iv := getField v 0 16
    if vectors t.cntl ≤ iv then s.complete tag stField
    else s.keepFeature tag t (0x0900 + iv) (v &&& 0x1FFFF)))

/-- WRITE_ATOMICITY_NORMAL (03 R91): accepted; AWUN is honoured whatever it says. -/
def execWriteAtomicityNormal (tag : Nat) (s : State) : Host.Outcome State Fault Refusal :=
  .next (s.setFeature tag 0x0A (fun s t v _ _ => s.keepFeature tag t 0x0A (v &&& 1)))

/-- ASYNC_EVENT_CONFIGURATION. -/
def execAsyncEventConfiguration (tag : Nat) (s : State) : Host.Outcome State Fault Refusal :=
  .next (s.setFeature tag 0x0B (fun s t v _ _ => s.keepFeature tag t 0x0B v))

/-- TIMESTAMP: milliseconds, from which the function's timestamp goes on. -/
def execTimestamp (tag : Nat) (s : State) : Host.Outcome State Fault Refusal :=
  .next (s.setFeature tag 0x0E (fun s t _ _ data =>
    let base := (data.toNat % 2 ^ 48 + 2 ^ 48 - s.nowMs % 2 ^ 48) % 2 ^ 48
    ({ s with host := s.host.modFunc t.cntl.val (fun f => { f with timestampMs := base }) }).complete tag stOk))

/-- KEEP_ALIVE_TIMER: the timeout, rounded up to the granularity of 100 ms; the timer starts afresh. -/
def execKeepAliveTimer (tag : Nat) (s : State) : Host.Outcome State Fault Refusal :=
  .next (s.setFeature tag 0x0F (fun s t v _ _ =>
    let k := (v.toNat + 99) / 100 * 100
    ({ s with host := s.host.modFunc t.cntl.val (fun f => { f with keepAliveFrom := s.now }) }).keepFeature tag t 0x0F
      (BitVec.ofNat 32 (min k 4294967200))))

/-- HOST_IDENTIFIER (R66): 128 bits with EXHID set, 64 without. -/
def execHostIdentifier (tag : Nat) (s : State) : Host.Outcome State Fault Refusal :=
  .next (s.setFeature tag 0x81 (fun s t v _ data =>
    let id := if v.getLsbD 0 then data else data &&& 0xFFFFFFFFFFFFFFFF
    ({ s with host := s.host.modFunc t.cntl.val (fun f => { f with hostId := id }) }).keepFeature tag t 0x81 (v &&& 1)))

/-- RESERVATION_NOTIFICATION_MASK: of one attached namespace, or of all of them. -/
def execReservationNotificationMask (tag : Nat) (s : State) : Host.Outcome State Fault Refusal :=
  .next (s.setFeature tag 0x82 (fun s t v nsid _ =>
    match s.nvm.namedFor t.cntl.val nsid.toNat with
    | [] => s.complete tag stNamespace
    | l =>
      ({ s with host := s.host.modFunc t.cntl.val (fun f =>
          { f with features := l.foldl (fun m n => sput (maskKey n) (v &&& 0xE) m) f.features }) }).complete tag stOk))

/-- RESERVATION_PERSISTENCE (R66): Persist Through Power Loss of the namespaces named. -/
def execReservationPersistence (tag : Nat) (s : State) : Host.Outcome State Fault Refusal :=
  .next (s.setFeature tag 0x83 (fun s t v nsid _ =>
    match s.nvm.namedFor t.cntl.val nsid.toNat with
    | [] => s.complete tag stNamespace
    | l =>
      (({ s with nvm := l.foldl (fun n i => n.modNs i (fun x => { x with ptpl := v.getLsbD 0 })) s.nvm }).journal).complete tag stOk))

/-- UNSUPPORTED_FEATURE (R54): another FID fails with Invalid Field; SV set fails with Feature Identifier Not Saveable. -/
def execUnsupportedFeature (tag : Nat) (s : State) : Host.Outcome State Fault Refusal :=
  .next (s.admin tag (fun s t => match t.cmd with
    | .setFeatures fid sv _ _ _ =>
      if !s.featureThere fid.toNat then (s.complete tag stField).recheckPower
      else if sv then (s.complete tag stNotSaveable).recheckPower
      else s
    | _ => s))

/-- The failure of Get Features where it has no value: a namespace feature names no attached namespace, or the feature is not there (R54). -/
def noFeature (fid : Byte) : Status := if fid = 0x82 ∨ fid = 0x83 then stNamespace else stField

/-- GET_FEATURES (R54; 13 R380). -/
def execGetFeatures (tag : Nat) (s : State) : Host.Outcome State Fault Refusal :=
  .next (s.admin tag (fun s t => match t.cmd with
    | .getFeatures fid v nsid =>
      match s.featureValue t.cntl fid.toNat v nsid with
      | some (d, .struct n v) => s.returnData tag t n d (.struct n v)
      | some (d, p) => s.complete tag stOk d p
      | none => s.complete tag (noFeature fid)
    | _ => s))

/-! ## Namespaces -/

/-- A namespace whose segments are more than the ring has room for is created in several commit groups, and its command completes with the last of
them (05 R144, R155, R159). -/
def State.createInParts (s : State) (tag nsid nsze st : Nat) : State :=
  let s1 := s.createNs nsid nsze st
  let rs := assignRecs nsid (((s1.nvm.ns nsid).map (fun x => x.segs)).getD [])
  let parts := (List.range ((rs.length + 4095) / 4096)).map (fun i => (rs.drop (4096 * i)).take 4096)
  let s2 := parts.foldl (fun a l => a.queueGroup 0 { why := .records (some tag), changes := [], recs := l }) s1
  s2.modTag tag (fun t => { t with phase := .running, commits := t.commits + parts.length })

/-- NAMESPACE_CREATE (R63; 05 R144, R173; 06 R207). The segments are assigned through grove 0's journal. -/
def execNamespaceCreate (tag : Nat) (s : State) : Host.Outcome State Fault Refusal :=
  .next (s.adminPf tag (fun s t => match t.cmd with
    | .nsManagement 0 _ nsze flbas st =>
      if s.nvm.sanAction ≠ 0 then s.complete tag stSanitize
      else
        match s.createCheck nsze flbas st, s.nvm.freeNsid with
        | some e, _ => s.complete tag e
        | none, none => s.complete tag stNsidUnavailable
        | none, some nsid =>
          if s.groveRestarting 0 then s
          else if (s.map.grove 0).roomFor (segsFor nsze) then (s.createNs nsid nsze st).recheckSpare.complete tag stOk (BitVec.ofNat 32 nsid)
          else s.createInParts tag nsid nsze st
    | _ => let _ := t; s))

/-- NAMESPACE_DELETE (R63; 05 R144; 03 R96): the deletion begins once the earlier I/O has completed. -/
def execNamespaceDelete (tag : Nat) (s : State) : Host.Outcome State Fault Refusal :=
  .next (s.adminPf tag (fun s t => match t.cmd with
    | .nsManagement 1 nsid _ _ _ =>
      let l := if nsid.toNat = nsidAll then s.nvm.nss.map Prod.fst else [nsid.toNat]
      if s.nvm.sanAction ≠ 0 then s.complete tag stSanitize
      else if l.isEmpty || l.any (fun n => (s.nvm.ns n).isNone || s.nvm.longBusy n) then s.complete tag stNamespace
      else s.startOp tag .delete l true .deleting
    | _ => let _ := t; s))

/-- NAMESPACE_ATTACH (R63, R65). -/
def execNamespaceAttach (tag : Nat) (s : State) : Host.Outcome State Fault Refusal :=
  .next (s.adminPf tag (fun s t => match t.cmd with
    | .nsAttachment 0 nsid cs =>
      match s.nvm.ns nsid.toNat with
      | none => let _ := t; s.complete tag stNamespace
      | some x =>
        if x.mode == .deleting then s.complete tag stNamespace
        else match s.attachCheck x true cs with
          | some st => s.complete tag st
          | none => (s.attachNs nsid.toNat cs).complete tag stOk
    | _ => s))

/-- NAMESPACE_DETACH (03 R96): from here on I/O of these controllers fails; the command completes once what they have in
progress has completed. -/
def execNamespaceDetach (tag : Nat) (s : State) : Host.Outcome State Fault Refusal :=
  .next (s.adminPf tag (fun s t => match t.cmd with
    | .nsAttachment 1 nsid cs =>
      match s.nvm.ns nsid.toNat with
      | none => let _ := t; s.complete tag stNamespace
      | some x =>
        if x.mode == .deleting then s.complete tag stNamespace
        else match s.attachCheck x false cs with
          | some st => s.complete tag st
          | none =>
            if s.host.ioFrom nsid.toNat cs then
              ({ s with nvm := s.nvm.modNs nsid.toNat (fun y => { y with detaching := cs.foldl (fun l c => addOnce c l) y.detaching }) }).modTag
                tag (fun y => { y with phase := .begun })
            else (s.detachNs nsid.toNat cs).complete tag stOk
    | _ => s))

/-! ## Format NVM and Sanitize (03 R96; 14 R403) -/

/-- FORMAT_NVM: LBAF 0, SES 0, 1 or 2, with SES 1 performed as SES 2; the own stand's namespaces. Another LBAF or SES, or another format field
set, fails with Invalid Field: the spec names no status for it (the model's choice, log entry 122). -/
def execFormatNvm (tag : Nat) (s : State) : Host.Outcome State Fault Refusal :=
  .next (s.admin tag (fun s t => match t.cmd with
    | .formatNvm nsid lbaf ses other =>
      let l := s.nvm.namedFor t.cntl.val nsid.toNat
      if l.isEmpty then s.complete tag stNamespace
      else if lbaf ≠ 0 ∨ 2 < ses ∨ other then s.complete tag stField
      else if s.nvm.sanAction ≠ 0 then s.complete tag stSanitize
      else if l.any s.nvm.longBusy then s.complete tag stFormat
      else s.startOp tag .format l (ses != 0) .formatting
    | _ => s))

/-- Begin a sanitize: every namespace is concerned, and I/O accepted from here on fails. -/
def State.startSanitize (s : State) (tag : Nat) (kind : SliceKind) (action : Nat) : State :=
  let s1 := s.startOp tag kind (s.nvm.nss.map Prod.fst) true .normal
  { s1 with nvm := { s1.nvm with sanAction := action, sanPhase := 0, sanProgress := 0, sanFailed := false, sanFrom := s.host.nextAseq } }

/-- A Sanitize action: one in progress refuses it, a failed one admits another sanitize (NVMe Base 2.0). -/
def State.sanitize (s : State) (tag act : Nat) (run : State → State) : State :=
  s.adminPf tag (fun s t => match t.cmd with
    | .sanitize a _ =>
      if a ≠ act then let _ := t; s
      else if s.nvm.sanAction ≠ 0 then s.complete tag stSanitize
      else run s
    | _ => s)

/-- SANITIZE_CRYPTO_ERASE. -/
def execSanitizeCryptoErase (tag : Nat) (s : State) : Host.Outcome State Fault Refusal :=
  .next (s.sanitize tag 4 (fun s => s.startSanitize tag .sanitizeCrypto 1))

/-- SANITIZE_BLOCK_ERASE. -/
def execSanitizeBlockErase (tag : Nat) (s : State) : Host.Outcome State Fault Refusal :=
  .next (s.sanitize tag 2 (fun s => s.startSanitize tag .sanitizeBlock 2))

/-- SANITIZE_EXIT_FAILURE_MODE. -/
def execSanitizeExitFailureMode (tag : Nat) (s : State) : Host.Outcome State Fault Refusal :=
  .next (s.sanitize tag 1 (fun s => ({ s with nvm := { s.nvm with sanFailed := false } }).complete tag stOk))

/-- SANITIZE_OVERWRITE (Table 2-7): overwrite fails with Invalid Field, as do the reserved actions. -/
def execSanitizeOverwrite (tag : Nat) (s : State) : Host.Outcome State Fault Refusal :=
  .next (s.adminPf tag (fun s t => match t.cmd with
    | .sanitize a _ =>
      if a = 1 ∨ a = 2 ∨ a = 4 then let _ := t; s
      else if s.nvm.sanAction ≠ 0 then s.complete tag stSanitize
      else s.complete tag stField
    | _ => s))

/-! ## Opcodes that are not there (R3, R51) -/

/-- FIRMWARE_COMMIT. -/
def execFirmwareCommit (tag : Nat) (s : State) : Host.Outcome State Fault Refusal :=
  .next (s.admin tag (fun s t => match t.cmd with
    | .firmwareCommit => s.complete tag stOpcode
    | _ => s))

/-- FIRMWARE_IMAGE_DOWNLOAD. -/
def execFirmwareImageDownload (tag : Nat) (s : State) : Host.Outcome State Fault Refusal :=
  .next (s.admin tag (fun s t => match t.cmd with
    | .firmwareDownload => s.complete tag stOpcode
    | _ => s))

/-- A vendor admin command (Table 2-7). -/
def vendorAdmin : NvmeCmd → Bool
  | .leaseGrant _ _ _ _ => true
  | .leaseRevoke _ _ => true
  | .leaseStatus _ => true
  | .standStatus _ _ => true
  | _ => false

/-- INVALID_ADMIN_OPCODE (R51): any other opcode, and a VF's vendor command; its data pointer is not looked at. -/
def execInvalidAdminOpcode (tag : Nat) (s : State) : Host.Outcome State Fault Refusal :=
  .next (s.adminGate tag (fun s t => match t.cmd with
    | .otherAdmin _ => s.complete tag stOpcode
    | c => if vendorAdmin c && !t.cntl.isPF then s.complete tag stOpcode else s))

/-! ## Map leases (R59 to R61) -/

/-- Two extents share an address. -/
def extentsMeet (a b : LeaseExtent) : Bool :=
  decide (a.addr < b.addr + b.len2m * 2097152) && decide (b.addr < a.addr + a.len2m * 2097152)

/-- Some pair of a list of extents overlaps. -/
def extentsOverlap : List LeaseExtent → Bool
  | [] => false
  | x :: t => t.any (extentsMeet x) || extentsOverlap t

/-- An extent entry by Table 2-14. -/
def extentOk (x : LeaseExtent) : Bool := !x.rsvd && decide (1 ≤ x.len2m) && decide (x.addr % 2097152 = 0)

/-- Size of a lease in 2 MiB units. -/
def extentsSize (l : List LeaseExtent) : Nat := (l.map (fun x => x.len2m)).sum

/-- The verdict on a Grant (R16, R59; 05 R174: a limit of 0 fails every Grant). Where several conditions fail at once, a reserved field of the
command comes first, then the lease that is active, then the size, and the extent entries' own fields last (the model's choice, log
entry 94). -/
def State.grantVerdict (s : State) (l : LeaseS) (next : Nat) (xs : List LeaseExtent) (rsvd : Bool) : Option Status :=
  let most := s.par P.MAP_LEASE_MAX_GIB
  if rsvd then some stField
  else if l.state == .active || l.state == .revoking then some stLeaseActive
  else if most = 0 || most * 512 < extentsSize xs then some stLeaseSize
  else if next = 0 || 16384 < next || xs.length ≠ next || !xs.all extentOk || extentsOverlap xs then some stField
  else none

/-- A lease granted: nothing is resident, and the counters run on (05 R166; R61). -/
def LeaseS.granted (l : LeaseS) (ltag : Dword) (xs : List LeaseExtent) : LeaseS :=
  { l with state := .active, endCause := 0, ltag := ltag, size2m := extentsSize xs, extents := xs, slots := [], hand := 0,
           writing := [], fetching := [], revokeTag := Option.none }

/-- MAP_LEASE_GRANT. -/
def execMapLeaseGrant (tag : Nat) (s : State) : Host.Outcome State Fault Refusal :=
  .next (s.adminPf tag (fun s t => match t.cmd with
    | .leaseGrant next ltag xs rsvd =>
      let l := s.nvm.lease t.cntl.port
      match s.grantVerdict l next xs rsvd with
      | some st => s.complete tag st
      | none => ({ s with nvm := s.nvm.setLease t.cntl.port (l.granted ltag xs) }).complete tag stOk
    | _ => s))

/-- MAP_LEASE_REVOKE: the lease is REVOKING until its last access has completed (05 R171). -/
def execMapLeaseRevoke (tag : Nat) (s : State) : Host.Outcome State Fault Refusal :=
  .next (s.adminPf tag (fun s t => match t.cmd with
    | .leaseRevoke ltag rsvd =>
      let l := s.nvm.lease t.cntl.port
      if rsvd then s.complete tag stField
      else if l.state != .active then s.complete tag stNoLease
      else if l.ltag ≠ ltag then s.complete tag stField
      else
        ({ s with nvm := s.nvm.setLease t.cntl.port { l with state := .revoking, revokeTag := some tag } }).modTag tag
          (fun x => { x with phase := .running })
    | _ => s))

/-- MAP_LEASE_STATUS. -/
def execMapLeaseStatus (tag : Nat) (s : State) : Host.Outcome State Fault Refusal :=
  .next (s.adminPf tag (fun s t => match t.cmd with
    | .leaseStatus rsvd =>
      if rsvd then s.complete tag stField
      else s.returnData tag t 64 0 (.struct 64 (leaseWindow (s.nvm.lease t.cntl.port)))
    | _ => s))

/-- STAND_STATUS (R62): only of a stand with a function of the PF's own port. -/
def execStandStatus (tag : Nat) (s : State) : Host.Outcome State Fault Refusal :=
  .next (s.adminPf tag (fun s t => match t.cmd with
    | .standStatus st rsvd =>
      match s.nvm.stand st.val with
      | none => s.complete tag stField
      | some x =>
        if rsvd || !x.members.any (fun c => decide (c / 128 = t.cntl.port.val)) then s.complete tag stField
        else s.returnData tag t 64 0 (.struct 64 (s.standWindow st x))
    | _ => s))

end Sys2Proof.Machine
end

