-- ==== Sys2Proof/Machine/Media.lean ====
section
/-! DEFINITION. The commands of media management (06): placement, parity, forcing, thinning, the start of an erase, cruise. -/

namespace Sys2Proof.Machine

/-! ## Placement -/

/-- Placement skips a domain for a stand (R187). -/
def State.skips (s : State) (st : StandNo) (d : DomId) : Bool :=
  s.placementWaits d.grove || s.hotWaits || (s.media.point st .hot d).waiting || s.heldByDebt st d

/-- The next domain of a stand's HOT sets: the one whose set is being filled, else round-robin order (R187). -/
def State.nextDom (s : State) (st : StandNo) : Option DomId :=
  let ds := s.domsFor st
  let i := (sget s.media.lastDom st.val).getD 0
  match ds.find? (fun d => (s.media.point st .hot d).set.isSome && !s.skips st d) with
  | some d => some d
  | none => (ds.drop (i + 1) ++ ds.take (i + 1)).find? (fun d => !s.skips st d)

/-- Note the domain last used. -/
def State.noteDom (s : State) (st : StandNo) (d : DomId) : State :=
  match (s.domsFor st).findIdx? (fun x => x == d) with
  | some i => { s with media := { s.media with lastDom := sput st.val i s.media.lastDom } }
  | none => s

/-- Media work goes on: firmware runs and the supply holds (04 R113). -/
def State.mediaRuns (s : State) : Bool := s.fwRuns && s.plp.pwrFailN && !s.plp.dumping

/-- Start the sets of a stand's write points that are full or forced and waited for a slot of an accumulator (R180). -/
def State.readySets (s : State) (st : StandNo) (k : WpClass) : State :=
  ((s.media.points.filter (fun p => p.stand == st && p.cls == k)).filterMap (fun p => p.set)).foldl (fun a n => a.startIfReady n) s

/-- Copies of a stand wait that come from domains it may no longer use (Table 6-6). -/
def State.strangerCopies (s : State) (st : StandNo) : Bool :=
  s.media.doms.any (fun x => !(s.domsFor st).contains x.dom && x.victims.any (fun v => v.stand == st && !v.copying.isEmpty))

/-- WINDROW_SET_PLACEMENT (R186, R187): fill the set of a stand's write point and start it when it is full or forced. -/
def execWindrowSetPlacement (st : StandNo) (k : WpClass) (s : State) : Host.Outcome State Fault Refusal :=
  .next (if s.mediaRuns then
    match k with
    | .hot =>
      let s1 := s.readySets st .hot
      match s1.nextDom st with
      | some d => if (s1.hotCands st).isEmpty then s1 else (s1.noteDom st d).placeIn st .hot d
      | none => s1
    | .cold =>
      let s1 := (s.tidyCopies).readySets st .cold
      match (s1.domsFor st).find? (fun d => !(s1.coldCands st d).isEmpty && !s1.placementWaits d.grove) with
      | some d => (if s1.strangerCopies st then s1.noteDom st d else s1).placeIn st .cold d
      | none => s1
    | _ => s.readySets st k
  else s)

/-- PARITY_TRANSFER (R181): every data wordline set has been transferred, so the parity set is transferred. -/
def execParityTransfer (n : Nat) (s : State) : Host.Outcome State Fault Refusal :=
  .next (match s.media.wset n with
    | none => s
    | some w =>
      if w.started && !w.parityDone && (s.dataMembers w).all (fun c => w.transferred.contains c) then
        if s.memberPresent w.rb (s.parityOf w.rb) then
          ({ s with media := s.media.modSet n (fun x => { x with parityDone := true }) }).issueProgram n w (s.parityOf w.rb)
        else s.failSet n
      else s)

/-- A group belongs to a write that has not completed. -/
def State.outstanding (s : State) (q : Dword) : Bool :=
  s.host.tags.any (fun e => e.2.phase == .running && e.2.groups.contains q &&
    (match e.2.cmd with
    | .write _ => true
    | .orderedWrite _ => true
    | _ => false))

/-- The set holds data of a write that has not completed. -/
def State.outstandingData (s : State) (w : WSet) : Bool :=
  w.items.any (fun i => match i.src with
    | .cache q _ => s.outstanding q
    | _ => false)

/-- During start-up, the set holds replayed data: it is placed before the device leaves BOOTING (09 R291). -/
def State.replayedData (s : State) (w : WSet) : Bool :=
  s.dev.phase == .booting && w.holdsGroup ((s.cache.groups.filter (fun e => e.2.cover.isSome)).map (fun e => BitVec.ofNat 32 e.1))

/-- FORCE_WAIT_EXPIRY (R188): with PLP not armed, MED_FORCE_WAIT_US has passed without further data for the set. A set that holds
replayed data is forced in the same way, in any PLP state (DEDUCED from 09 R291; log entry 22). -/
def execForceWaitExpiry (n : Nat) (s : State) : Host.Outcome State Fault Refusal :=
  .next (match s.media.wset n with
    | none => s
    | some w =>
      if s.mediaRuns && (!s.armed && s.outstandingData w || s.replayedData w) && decide (w.touched + s.par P.MED_FORCE_WAIT_US * 1000 ≤ s.now) then
        s.forceSet n (fun q => s.outstanding q)
      else s)

/-- IDLE_FORCE_EXPIRY (R188): with PLP armed, or for a COLD or MAP set in any state, MED_IDLE_FORCE_MS has passed. -/
def execIdleForceExpiry (n : Nat) (s : State) : Host.Outcome State Fault Refusal :=
  .next (match s.media.wset n with
    | none => s
    | some w =>
      if s.mediaRuns && (s.armed || w.cls != .hot) && decide (w.touched + s.par P.MED_IDLE_FORCE_MS * 1000000 ≤ s.now) then
        s.forceSet n
      else s)

/-- OPEN_IDLE_CLOSE (R185): a write point that has placed nothing for MED_OPEN_IDLE_S closes its row block early. -/
def execOpenIdleClose (st : StandNo) (k : WpClass) (d : DomId) (s : State) : Host.Outcome State Fault Refusal :=
  .next (
    let p := s.media.point st k d
    match p.rb with
    | some rb =>
      if s.fwRuns && decide (p.lastUse + s.par P.MED_OPEN_IDLE_S * 1000000000 ≤ s.now) then s.closeRow rb
      else s
    | none => s)

/-- GSEQ_AGE_LIMIT (09 R282): a group still unplaced after 2^30 further GSEQ assignments is placed at once. -/
def execGseqAgeLimit (q : Dword) (s : State) : Host.Outcome State Fault Refusal :=
  .next (match sget s.cache.groups q.toNat with
    | none => s
    | some g =>
      if s.mediaRuns && g.visible && decide (1073741824 ≤ (s.cache.nextGseq - q).toNat) then
        match (s.nvm.ns g.nsid).bind (fun n => (s.domsFor n.stand).find? (fun d => !s.placementWaits d.grove &&
            !(s.media.point n.stand .hot d).waiting) |>.map (fun d => (n.stand, d))) with
        | some (st, d) => (s.placeIn st .hot d).forceSets (fun w => w.holdsGroup [q]) (· == q)
        | none => s
      else s)

/-! ## Thinning -/

/-- Data positions of the next HOT set of a write point: those of its row block, or of the one that it would open. -/
def State.nextPositions (s : State) (st : StandNo) (d : DomId) : Option Nat :=
  ((s.media.point st .hot d).rb.or (s.chooseOpen d .hot)).map (fun rb => ((s.members rb).length - 1) * 48)

/-- A HOT windrow set of a domain is ready to be placed (R192): it is full or forced and waits for a slot of the accumulator, or what waits for
the stand whose turn it is there fills one. -/
def State.hotReady (s : State) (d : DomId) : Bool :=
  s.media.sets.any (fun e => e.2.dom == d && e.2.cls == .hot && !e.2.started && (e.2.forced || (s.freePositions e.2).isEmpty)) ||
  s.nvm.stands.any (fun e =>
    let st : StandNo := ⟨e.1 % 128, by omega⟩
    s.nextDom st == some d &&
      (match (s.media.point st .hot d).set.bind s.media.wset with
      | some w => decide ((s.freePositions w).length ≤ (s.cands st .hot d).length)
      | none => ((s.nextPositions st d).map (fun n => decide (n ≤ (s.cands st .hot d).length))).getD false))

/-- A command belongs to a stand that may use a domain. -/
def State.commandOf (s : State) (d : DomId) (tag : Nat) : Bool :=
  (((sget s.host.tags tag).bind (fun t => (ioNsid t.cmd).bind (fun n => s.nvm.ns n.toNat))).map (fun x => (s.domsFor x.stand).contains d)).getD false

/-- Host work pending for a domain (R192): a leaf that a command waits for, fetched from flash or from a lease; a commit group that a command waits
for; or a HOT set ready to be placed there. -/
def State.hostWork (s : State) (d : DomId) : Bool :=
  s.map.pages.any (fun e => e.2.missing.isSome && groveOf e.1 == d.grove && (s.domsFor e.2.stand).contains d) ||
  (s.map.grove d.grove).groups.any (fun x => match x.why with
    | .dealloc (some t) => s.commandOf d t
    | _ => false) || s.hotReady d

/-- Whether a victim's reads may go on in the present mode (Table 6-5): a map region is thinned by its own target (R193), and static relocation
goes on only while F(d) ≥ T(d) (R199). -/
def State.mayCopy (s : State) (d : DomId) (v : Victim) : Bool :=
  match v.why with
  | .thin => s.media.isMap v.rb || (match s.thinMode d with
    | .idle => false
    | .background => !s.hostWork d
    | _ => true)
  | .static => match s.thinMode d with
    | .idle => true
    | .background => !s.hostWork d
    | _ => false
  | _ => true

/-- A new victim may be chosen by R193 in the present mode. -/
def State.mayThin (s : State) (d : DomId) : Bool :=
  match s.thinMode d with
  | .idle => false
  | .background => !s.hostWork d
  | _ => true

/-- The die queue of a copy's reads (08 Table 8-2). -/
def State.copyQueue (s : State) (d : DomId) (w : CopyWhy) : Nat :=
  match w with
  | .relocate => 2
  | .rebuild => 2
  | .move => 2
  | .static => 5
  | .thin => match s.thinMode d with
    | .paced => 3
    | .urgent => 3
    | _ => 5

/-- Nothing of a victim is under way: no read, no copy that waits, no set and no commit that holds one. -/
def State.victimQuiet (s : State) (d : DomId) (v : Victim) : Bool :=
  v.copying.isEmpty && !(s.flash.ops.any (fun e => e.2.why == .thin d v.rb)) && !(s.media.sets.any (fun e => e.2.holdsCopies v.rb))

/-- Remove a victim from its domain, with the copies of it that wait. -/
def State.dropVictim (s : State) (d : DomId) (rb : Nat) : State :=
  let waiting := (((s.media.domS d).victims.filter (fun v => v.rb == rb)).flatMap (fun v => v.copying))
  let s1 := (s.dropCopies waiting).freeCords (.victim rb)
  { s1 with media := s1.media.modDom d (fun x => { x with victims := x.victims.filter (fun v => v.rb != rb) }) }

/-- A victim goes back to CLOSED (R190). -/
def State.backToClosed (s : State) (d : DomId) (rb : Nat) : State :=
  ({ s with media := s.media.setState rb rbClosed }).dropVictim d rb

/-- Back to CLOSED because a codeword was not copied: its age counts from start-up (R193). -/
def State.notCopied (s : State) (d : DomId) (rb : Nat) : State :=
  ({ s with media := { s.media with info := smod rb (fun i => { i with closedS := 0 }) s.media.info } }).backToClosed d rb

/-- One slice of work on a victim (01 R29): the reads of one page, or, with nothing left under way, ERASE_PENDING, or
CLOSED where a codeword was not copied, or another round for what is still valid. -/
def State.victimSlice (s0 : State) (d : DomId) (v0 : Victim) : State :=
  let s := s0.tidyCopies
  let v := ((s.media.domS d).victims.find? (fun u => u.rb == v0.rb)).getD v0
  match v.toRead with
  | p :: _ =>
    let base := plocPageBase p
    let mine := v.toRead.filter (fun q => plocPageBase q == base)
    let s1 := { s with media := s.media.modDom d (fun x => { x with victims := x.victims.map (fun (u : Victim) =>
      if u.rb = v.rb then { u with toRead := u.toRead.filter (fun q => plocPageBase q != base) } else u) }) }
    s1.issueRead (readOp base (mine.map (fun q => plocPlane q * 4 + plocSlot q)) (s.copyQueue d v.why) (.thin d v.rb))
      false none
  | [] =>
    if s.victimQuiet d v then
      if s.validCount v.rb = 0 then (s.dropVictim d v.rb).erasePending v.rb
      else if v.incomplete then s.notCopied d v.rb
      else if s.media.isMap v.rb then s.rewriteUnits v.rb
      else { s with media := s.media.modDom d (fun x => { x with victims := x.victims.map (fun (u : Victim) =>
        if u.rb = v.rb then { u with toRead := (s.validIn v.rb).map (fun y => y.2.2) ++ s.foldExtras v.rb, folds := s.foldsOf v.rb }
        else u) }) }
    else s

/-- CLOSED row blocks of a domain's map region. -/
def State.closedRegion (s : State) (d : DomId) : List Nat :=
  (s.media.domS d).region.filter (fun rb => decide (recState (s.media.rbRec rb) = rbClosed) && !s.unsettled rb)

/-- Row blocks of a domain, its map region included, that wait for relocation on the first rung (R203). -/
def State.relocations (s : State) (d : DomId) : List Nat :=
  (s.closedRbs d ++ s.closedRegion d).filter (fun rb => ((sget s.media.info rb).map (fun i => i.relocate)).getD false)

/-- Row blocks whose stand may no longer use the domain they lie in (Table 6-6): relocated before the change ends. -/
def State.strangers (s : State) (d : DomId) : List Nat :=
  (s.closedRbs d).filter (fun rb => match sget s.media.info rb with
    | some i => (s.nvm.stand i.stand.val).isSome && !((s.domsFor i.stand).contains d)
    | none => false)

/-- Map-class row blocks that no region holds any more and that hold no unit: they are given up (Table 6-6). -/
def State.orphanMaps (s : State) (d : DomId) : List Nat :=
  (s.domRbs d).filter (fun rb => decide (recState (s.media.rbRec rb) = rbClosed) && (s.unitsIn rb).isEmpty && !s.unsettled rb &&
    s.media.isMap rb)

/-- A given-up row block goes to ERASE_PENDING as an ordinary one. -/
def State.giveUp (s : State) (rb : Nat) : State :=
  let s1 := s.erasePending rb
  { s1 with media := s1.media.setSlc rb false }

/-- One slice of thinning in a domain on behalf of a stand. Relocation comes first, then the victims in hand, then the choice of a new one as the
mode allows. -/
def State.thinningSlice (s : State) (d : DomId) (st : StandNo) : State :=
    let vs := (s.media.domS d).victims.filter (fun v => v.why != .rebuild)
    match vs.find? (fun v => v.why == .relocate || v.why == .move) with
    | some v => s.victimSlice d v
    | none =>
      match (s.relocations d).head? with
      | some rb => s.takeVictim d st .relocate rb
      | none =>
        match (s.strangers d).head? with
        | some rb => s.takeVictim d st .move rb
        | none =>
          match (s.orphanMaps d).head?, vs.find? (s.mayCopy d) with
          | some rb, _ => s.giveUp rb
          | none, some v => s.victimSlice d v
          | none, none =>
            match s.chooseRegionVictim st d with
            | some rb => s.takeVictim d st .thin rb
            | none => match (if s.paced d || s.hostWork d && s.thinMode d == .background then none else s.staticVictim d) with
              | some rb => s.takeVictim d st .static rb
              | none => match (if s.mayThin d then s.chooseVictim st d else none) with
                | some rb => s.takeVictim d st .thin rb
                | none => s

/-- The first rung of a domain: a relocation or a move is in hand or waits (R203; Table 6-6; 10 R316). -/
def State.firstRung (s : State) (d : DomId) : Bool :=
  (s.media.domS d).victims.any (fun v => v.why == .relocate || v.why == .move) || !(s.relocations d).isEmpty || !(s.strangers d).isEmpty

/-- Thinning in a domain runs on behalf of a stand that may use it (10 R314); relocation out of a row that changes domain runs for the stand that is
leaving it. -/
def State.thinsFor (s : State) (d : DomId) (st : StandNo) : Bool := (s.domsFor st).contains d || d.owner.isNone

/-- THINNING_SLICE (R192 to R195, R199, R203): a slice; below the first rung it keeps the gap after the last slice (03 R94). -/
def execThinningSlice (d : DomId) (st : StandNo) (s : State) : Host.Outcome State Fault Refusal :=
  .next (if s.mediaRuns && !s.groveRestarting d.grove && s.dev.mapDone.getLsbD d.grove.val && s.thinsFor d st then
    if s.firstRung d then s.thinningSlice d st
    else if s.sliceHeld d.grove 1 || s.govHolds (s.thinMode d).rung then s
    else (s.thinningSlice d st).sliceEnds d.grove 1
  else s)

/-- VICTIM_ERASE_START (01 R31; 08 R262; 07 R246): every read that resolved to the row block has finished, so its members'
erases are issued. A RETIRED row block that restored members would bring back to three is erased on those. -/
def execVictimEraseStart (r : DieRow) (n : Nat) (s : State) : Host.Outcome State Fault Refusal :=
  .next (
    let rb := rbKey r.val (n % 16384)
    if s.mediaRuns && s.dev.phase == .running && !(s.readsOf rb) && !(s.flash.erasing rb) then
      if recState (s.media.rbRec rb) = rbErasePending then (s.issueErases rb).eraseCheck rb
      else if recState (s.media.rbRec rb) = rbRetired && 3 ≤ (s.eraseMembers rb).length &&
          (below 8 (s.restorable rb)).length != 0 then
        let s1 := { s with media := s.media.setState rb rbErasePending }
        s1.issueErases rb
      else s
    else s)

/-! ## Cruise -/

/-- The programmed pages of a wordline position on every present member (R201). -/
def State.wordlinePages (s : State) (rb wl : Nat) : List Ploc :=
  let slc := recSlc (s.media.rbRec rb)
  ((s.members rb).filter (fun c => s.media.wlDone rb wl c)).flatMap (fun c => (List.range (if slc then 1 else 3)).map (fun p =>
    mkPloc (rbDch rb c) (rbDie rb) 0 (rbN rb) (if slc then wl else 3 * wl + p) 0))

/-- A whole-page read. -/
def pageRead (p : Ploc) (queue : Nat) (why : OpFor) : DieOp := readOp p (List.range 16) queue why

/-- A patrol reads a row block: it is OPEN or CLOSED. -/
def State.patrols (s : State) (rb : Nat) : Bool :=
  let x := recState (s.media.rbRec rb)
  x == rbOpen || x == rbClosed

/-- The row blocks that a patrol reads, map regions included. -/
def State.patrolRbs (s : State) (d : DomId) : List Nat := ((s.domRbs d) ++ (s.media.domS d).region).filter s.patrols

/-- The dies of a domain whose recent pages are to be read after a failed check (07 R228). -/
def State.checkDies (s : State) (d : DomId) : List Nat :=
  (s.flash.dies.filter (fun e => e.2.check && (s.domRows d).contains (e.1 / 16 / 8 * 16 + e.1 % 16))).map Prod.fst

/-- CRUISE_SLICE (R201, R202; 07 R228): pages due after a failed check, then, unless the governor holds rung 6 (13 R382), a disturb check, then the
next wordline position of the patrol; a patrol that has come round starts again when its period has passed. -/
def execCruiseSlice (d : DomId) (s : State) : Host.Outcome State Fault Refusal :=
  .next (if s.mediaRuns then
    match (s.checkDies d).head? with
    | some k =>
      let pages := (s.flash.die k).recent
      let s1 := { s with flash := s.flash.modDie k (fun x => { x with check := false }) }
      pages.foldl (fun a p => a.issueRead (pageRead (mkPloc (k / 16) (k % 16) 0 p.1 p.2 0) 2 (.cruise d)) false none) s1
    | none => if s.govHolds 6 then s else
      let x := s.media.domS d
      match x.disturb with
      | (ch, rb) :: rest =>
        let pages := (List.range (s.media.programmed rb)).flatMap (fun wl =>
          (s.wordlinePages rb wl).filter (fun p => plocDch p == ch))
        let s1 := { s with media := { (s.media.modDom d (fun y => { y with disturb := rest })) with
          reads := sput (memberKey ch rb) 0 s.media.reads } }
        pages.foldl (fun a p => a.issueRead (pageRead p 5 (.disturb d)) false none) s1
      | [] =>
        match x.cruise with
        | rb :: rest =>
          let pages := if s.patrols rb then s.wordlinePages rb x.cruisePos else []
          let s1 := pages.foldl (fun a p => a.issueRead (pageRead p 5 (.cruise d)) false none) s
          let fin := !s.patrols rb || decide (s.media.programmed rb ≤ x.cruisePos + 1)
          { s1 with media := s1.media.modDom d (fun y =>
            if fin then { y with cruise := rest, cruisePos := 0 } else { y with cruisePos := y.cruisePos + 1 }) }
        | [] =>
          if x.cruiseStart = 0 || x.cruiseStart + s.par P.MED_CRUISE_PERIOD_H * 3600000000000 ≤ s.now then
            let rbs := (s.patrolRbs d).filter (fun rb => decide (0 < s.media.programmed rb))
            { s with media := s.media.modDom d (fun y =>
              { y with cruise := rbs, cruisePos := 0, cruiseStart := s.now, cruiseLate := false }) }
          else s
  else s)

/-- CRUISE_LATE (R201): the patrol has not completed its period by 1.25 × MED_CRUISE_PERIOD_H. -/
def execCruiseLate (d : DomId) (s : State) : Host.Outcome State Fault Refusal :=
  .next (
    let x := s.media.domS d
    if s.fwRuns && !x.cruise.isEmpty && !x.cruiseLate &&
        decide (x.cruiseStart + s.par P.MED_CRUISE_PERIOD_H * 4500000000000 ≤ s.now) then
      ({ s with media := s.media.modDom d (fun y => { y with cruiseLate := true }) }).recordHw (srcFtl d.grove) sevWarning
        0x0B02 d.grove.val (match d.owner with
          | some st => st.val
          | none => 0xFFFFFFFF)
    else s)

end Sys2Proof.Machine
end

