-- ==== Sys2Proof/Machine/Die.lean ====
section
/-! DEFINITION. The commands of the dies (08): queue arrival, status polls, timeouts, bus grants, decoding, programs, erases. -/

namespace Sys2Proof.Machine

/-! ## Shared steps -/

/-- A read's channel or member cannot serve: windrow reconstruction does (07 Table 7-7, R239). -/
def State.unreachable (s : State) (o : DieOp) : Bool :=
  (s.flash.chan o.ch.val).state != .active || !(s.memberPresent o.rb (o.ch.val % 8))

/-- Soft-decode requests in the order of R275: queue 1, 2, 3, 5, arrival within each. -/
def FlashS.softOrder (f : FlashS) : List (Nat × Nat) :=
  [1, 2, 3, 4, 5].flatMap (fun q => f.softWait.filter (fun e => ((f.op e.1).map (fun o => o.queue == q)).getD false))

/-- Soft decoders that a channel's requests hold. -/
def FlashS.softOf (f : FlashS) (ch : Chan) : Nat :=
  (f.softBusy.filter (fun e => ((f.op e.1).map (fun o => o.ch == ch)).getD false)).length

/-- Give free soft decoders to the requests that wait: 16 in all, at most 4 for one channel (R275). -/
def feedSoft : Nat → FlashS → FlashS
  | 0, f => f
  | n + 1, f =>
    if 16 ≤ f.softBusy.length then f
    else
      match f.softOrder.find? (fun e => match f.op e.1 with
        | some o => decide (f.softOf o.ch < 4)
        | none => false) with
      | some e => feedSoft n { (f.modOp e.1 (fun x => { x with stage := .softBusy })) with
          softWait := f.softWait.filter (· != e), softBusy := f.softBusy ++ [e] }
      | none => f

/-- Count a die read of a member block; once MED_DISTURB_READS is reached a disturb check is due (06 R202). Cruise and disturb reads are
not counted. -/
def State.countRead (s : State) (o : DieOp) : State :=
  if o.isCruise then s
  else
    let k := memberKey o.ch.val o.rb
    let n := (sget s.media.reads k).getD s.media.readBase + 1
    let m := { s.media with reads := sput k n s.media.reads }
    let d := s.domOf (rbRow o.rb)
    { s with media := if s.par P.MED_DISTURB_READS ≤ n then
        m.modDom d (fun x => { x with disturb := addOnce (o.ch.val, o.rb) x.disturb }) else m }

/-- Hard-decision capability of a row block's rate (Table 8-6). -/
def FlashS.capability (f : FlashS) (rb : Nat) : Nat := if f.rateBits.contains rb then 288 else 240

/-- A success at step 2, 3 or 4 moves the set of the codeword's bin toward the offsets that succeeded, and a cruise read refines it by the die's own
calibration (R272). The values are not stated: free values. -/
def State.track (s : State) (o : DieOp) : State :=
  if (2 ≤ o.step && o.step ≤ 4) || o.isCruise then
    let (k, s1) := s.draw
    { s1 with flash := { s1.flash with tracked :=
        (levelsOf (recSlc (s.media.rbRec o.rb))).foldl (fun m l => sput (s.trackAt o l) (Config.readOffset k l) m) s1.flash.tracked } }
  else s

/-! ## The commands -/

/-- DIE_QUEUE_ARRIVAL (R251): the operation enters its queue or is held, and the die's next action is chosen. While the grove's cores restart,
its sequencers go on with what they hold, and nothing new reaches them (01 R22; 15 R437). -/
def execDieQueueArrival (i : Nat) (s : State) : Host.Outcome State Fault Refusal :=
  .next (match s.flash.op i with
    | none => s
    | some o =>
      if o.stage != .issued || s.opHeld o then s
      else if o.isRead && s.unreachable o then
        match o.why with
        | .raw _ _ _ => s.rawGone i
        | _ => s.reconAll i
      else ({ s with flash := s.flash.enqueue i }).nextAction o.key)

/-- The operation that a status poll of a die concerns: the nested program, else the running operation. -/
def DieS.polled (d : DieS) : Option Nat :=
  match d.nestedRun with
  | some i => some i
  | none => d.running

/-- The program or erase that a ready die was running has ended. -/
def FlashS.endPolled (f : FlashS) (k : Nat) : FlashS :=
  match (f.die k).polled with
  | none => f
  | some i =>
    match f.op i with
    | none => f
    | some o =>
      if o.stage == .onDie && !o.suspended then (f.modDie k (fun d => d.leave i)).modOp i (fun x => { x with stage := .ended })
      else f

/-- The die reports ready: the program or erase that runs has ended, and reads wait for the bus. -/
def State.pollReady (s : State) (k : Nat) : State :=
  let f := s.flash.endPolled k
  let reads := (f.ops.filter (fun e => e.2.key == k && e.2.isRead && e.2.stage == .onDie)).map Prod.fst
  let f := reads.foldl (fun g i => g.modOp i (fun x => { x with stage := .transfer })) f
  { s with flash := f.modChan (k / 16) (fun c => { c with bus := c.bus ++ reads }) }

/-- The operation that an upset of a die's status read concerns. -/
def FlashS.onDie (f : FlashS) (k : Nat) : Option Nat :=
  match (f.die k).polled with
  | some i => some i
  | none => (f.ops.find? (fun e => e.2.key == k && e.2.stage == .onDie)).map Prod.fst

/-- The level of a channel's RB_N at a poll: high when every die of the channel is ready, which is all that it is used for (07 R217). -/
def State.readRb (s : State) (ch : Nat) (rbN : Bool) : State :=
  { s with flash := s.flash.modChan ch (fun c => { c with rbN := rbN }) }

/-- One more upset ends the operation in channel_fault, and the cores that its outcome concerns do no map work: the outcome waits (R260). -/
def State.faultHeld (s : State) (i : Nat) : Bool :=
  match s.flash.op i with
  | some o => decide (s.par P.CHN_RETRY_LIMIT ≤ o.attempts) && s.opHeld o
  | none => false

/-- DIE_STATUS_POLL (R257; 07 R215, R217, R229): readiness of the die, from Read Status Enhanced alone, or the upset of row 1 of Table 7-5, and the next
action. A die in a live retrain is not polled (07 R228); a mismatch with no operation on the die is followed by a live retrain too. -/
def execDieStatusPoll (ch : Chan) (die : DieIx) (r : Poll) (s0 : State) : Host.Outcome State Fault Refusal :=
  .next (
    let s1 := s0.readRb ch.val r.rbN
    let k := dieKey ch.val die.val
    if (s1.flash.chan ch.val).state == .active && (s1.flash.die k).used && !(s1.flash.die k).retraining then
      let s := { s1 with flash := s1.flash.select ch.val die.val }
      match r.result with
      | .busy => s.nextAction k
      | .ready => (s.pollReady k).nextAction k
      | .parityMismatch => match s.flash.onDie k with
        | some i => if s.faultHeld i then s else s.upset i 1
        | none =>
          let x := s.noteUpset ch.val die.val 1
          { x with flash := x.flash.beginLive k }
    else s1)

/-- Programs that a reset of a target interrupts. -/
def FlashS.hitPrograms (f : FlashS) (ks : List Nat) : List Nat :=
  (f.ops.filter (fun e => ks.contains e.2.key && e.2.isProgram && (e.2.stage == .onDie || e.2.stage == .transfer))).map Prod.fst

/-- Every program on the dies of a target is interrupted by its reset and counts as one channel_fault (Table 7-5). -/
def State.interruptPrograms (s : State) (ks : List Nat) : State :=
  (s.flash.hitPrograms ks).foldl (fun a i => match a.flash.op i with
    | some _ => a.channelFault i
    | none => a) s

/-- Longest busy time of an operation in ns: 2 ms a read, 20 ms a program, 50 ms of an erase (Table 7-5). -/
def busyLimit (o : DieOp) : Nat := if o.isRead then 2000000 else if o.isProgram then 20000000 else 50000000

/-- Operations that a reset of their die makes void: those on the die, and reads whose data it held in its page registers (07 R229). -/
def DieOp.onReset (o : DieOp) (ks : List Nat) : Bool := ks.contains o.key && (o.stage == .onDie || (o.isRead && o.stage == .transfer))

/-- The dies of the ONFI target of a die, which Reset reaches together (R215; Table 8-1). -/
def targetOf (k : Nat) : List Nat := (List.range 4).map (fun i => k / 4 * 4 + i)

/-- The sequencer resets a target: every die of it has received an array command (07 R229). -/
def FlashS.resetTarget (f : FlashS) (k : Nat) : FlashS :=
  ((targetOf k).filter (fun j => (sget f.dies j).isSome)).foldl (fun g j => g.modDie j (fun d => d.bump [0, 1, 2, 3])) (f.select (k / 16) (k % 16))

/-- What the reset ends concerns cores that do no map work: it waits (R260). -/
def State.resetHeld (s : State) (k i : Nat) (ready : Bool) : Bool :=
  s.faultHeld i || !ready && s.groveRestarting ⟨k / 128 % 8, by omega⟩ ||
    (s.flash.hitPrograms (targetOf k)).any (fun j => ((s.flash.op j).map s.opHeld).getD false)

/-- READY_BUSY_TIMEOUT (07 R229 to R231): the die's target is reset; the reads and erases of its dies are issued again in full, those of the die once
its live retrain has ended, and their programs are interrupted. A die that stays busy after the reset fails. The reset comes before the retrain, which
needs a ready die (log entry 113). -/
def execReadyBusyTimeout (ch : Chan) (die : DieIx) (resetReady : Bool) (s : State) : Host.Outcome State Fault Refusal :=
  .next (
    let k := dieKey ch.val die.val
    let late := s.flash.ops.filter (fun e => e.2.key == k && e.2.stage == .onDie && !e.2.suspended && !(s.flash.die k).retraining &&
      decide (busyLimit e.2 ≤ e.2.ran + (s.now - e.2.since)))
    match late with
    | [] => s
    | (i, o) :: _ =>
      if s.resetHeld k i resetReady then s
      else
        let s0 := { s with flash := s.flash.resetTarget k }
        if !resetReady then (s0.noteUpset ch.val die.val 2).failDie ch.val die.val
        else
          let s1 := if o.isProgram then s0.noteUpset ch.val die.val 2 else s0.upset i 2
          let s2 := { s1 with flash := s1.flash.beginLive k }.interruptPrograms (targetOf k)
          (s2.flash.ops.filter (fun e => e.2.onReset (targetOf k))).foldl
            (fun a e => { a with flash := a.flash.reissue e.1 }) s2)

/-- The rung of 10 Table 10-8 of what an operation of the die serves; reconstruction reads count with the first (log entry 117). -/
def State.opRung (s : State) (o : DieOp) : Nat :=
  match o.why with
  | .host _ _ => 4
  | .gather _ _ => 4
  | .leaf _ => 4
  | .raw _ _ _ => 4
  | .thin d rb => if (s.media.domS d).victims.any (fun v => v.rb == rb && (v.why == .relocate || v.why == .move || v.why == .rebuild)) then 1
    else (s.thinMode d).rung
  | .cruise _ => if o.queue = 2 then 1 else 6
  | .disturb _ => 6
  | .program n => match sget s.media.sets n with
    | some w => if w.cls == .hot then 4 else 1
    | none => 1
  | _ => 1

/-- The transfer that a channel's bus is granted to: a pending L0 read first, else arrival order; a transfer needs its
cords, and waits while its die is in a live retrain or the governor holds its rung (01 R35; 04 R110, R112; 07 R228; 13 R382). -/
def State.nextTransfer (s : State) (ch : Nat) : Option Nat :=
  let ready := (s.flash.chan ch).bus.filter (fun i => match s.flash.op i with
    | some o => match o.why with
      | .program n => s.land.staged n o.ch
      | .raw _ _ _ => true
      | .gather t _ => !s.land.tagWaits t
      | _ => o.isProgram || s.land.holds (.op i)
    | none => false)
  let ready := ready.filter (fun i => ((s.flash.op i).map (fun o => !(s.flash.die o.key).retraining && !s.govHolds (s.opRung o))).getD false)
  match ready.find? (fun i => ((s.flash.op i).map (fun o => o.isRead && o.queue == 1)).getD false) with
  | some i => some i
  | none => ready.head?

/-- The end of a read's data transfer: its planes are free, and the codewords go to the hard decoder of the channel, or wait
for a soft decoder at steps 3 and 4. -/
def State.readMoved (s0 : State) (i : Nat) (o : DieOp) : State :=
  let s := s0.countRead o
  let f := s.flash.modDie o.key (fun d => d.leave i)
  match o.why with
  | .raw q offset length => ({ s with flash := f }.dropOp i).rawData q (o.locOf (o.left.head?.getD 0)) offset length
  | _ =>
  if o.step = 3 || o.step = 4 then
    let f := f.modOp i (fun x => { x with stage := .softWait })
    { s with flash := feedSoft 16 { f with softWait := f.softWait ++ o.left.map (fun p => (i, p)) } }
  else { s with flash := f.modOp i (fun x => { x with stage := .decoding }) }

/-- An operation leaves the channel's waiting transfers. -/
def FlashS.offBus (f : FlashS) (ch : Chan) (i : Nat) : FlashS :=
  (f.modChan ch.val (fun c => { c with bus := c.bus.filter (· != i) })).modOp i (fun x => { x with moved := 0 })

/-- One codeword of a read crosses the bus; with the last one the transfer is over. A burst with missing DQS edges is the upset of row 3 of Table
7-5. -/
def State.moveCodeword (s : State) (ch : Chan) (i : Nat) (o : DieOp) (dqsLoss : Bool) : State :=
  if dqsLoss then (if s.faultHeld i then s else ({ s with flash := s.flash.offBus ch i }).upset i 3)
  else if o.moved + 1 < o.slots.length then { s with flash := s.flash.modOp i (fun x => { x with moved := x.moved + 1 }) }
  else ({ s with flash := s.flash.offBus ch i }).readMoved i o

/-- One plane page of a program crosses the bus: its wordline set is staged before the first (06 R181), and with the last one the die begins. The parity
that the accumulator held has left it by then. -/
def State.movePage (s : State) (ch : Chan) (i : Nat) (o : DieOp) : State :=
  match o.why with
  | .program n =>
    let s1 := if o.moved = 0 then s.stageMember n ch else s
    let s2 := s1.sendPage n ch
    if o.moved + 1 < o.planePages then { s2 with flash := s2.flash.modOp i (fun x => { x with moved := x.moved + 1 }) }
    else
      ({ s2 with
        flash := (s2.flash.offBus ch i).modOp i (fun x => { x with stage := .onDie, since := s.now })
        media := s2.media.modSet n (fun w => { w with transferred := addOnce (ch.val % 8) w.transferred }) }).startWaiting ch.grove
  | _ => { s with flash := (s.flash.offBus ch i).modOp i (fun x => { x with stage := .onDie, since := s.now }) }

/-- BUS_ARBITRATION_POINT (01 R35; 07 R229): the bus is granted to a pending L0 read ahead of every other transfer, and one codeword of a read, or one
plane page of a program, is moved. -/
def execBusArbitrationPoint (ch : Chan) (dqsLoss : Bool) (s : State) : Host.Outcome State Fault Refusal :=
  .next (if (s.flash.chan ch.val).state != .active then s
    else
      match s.nextTransfer ch.val with
      | none => s
      | some i =>
        match s.flash.op i with
        | none => s
        | some o =>
          let x := { s with flash := s.flash.select ch.val o.die.val }
          if o.isRead then x.moveCodeword ch i o dqsLoss else x.movePage ch i o)

/-- HARD_DECODE_DONE (R270, R271; 06 R203; 07 R229): the codeword decodes and reaches its consumer, or is an upset of row 5 of
Table 7-5, or the ladder is climbed. -/
def execHardDecodeDone (i slot : Nat) (r : HardResult) (s : State) : Host.Outcome State Fault Refusal :=
  .next (match s.flash.op i with
    | none => s
    | some o =>
      if o.stage != .decoding || !(o.left.contains slot) || s.opHeld o then s
      else
        match r with
        | .failed => s.climb i slot
        | .decoded n lane =>
          if 32 ≤ n && 3 * n ≤ 4 * lane then s.upset i 5
          else
            let s1 := s.track o
            let high := decide (s.par P.MED_REWRITE_THRESHOLD_PCT * s.flash.capability o.rb < 100 * n)
            (if high then s1.wantRelocation o.rb else s1).recovered i slot)

/-- SOFT_DECODE_DONE (R275): a soft decoder ends its request and takes the next; a failure climbs the ladder. -/
def execSoftDecodeDone (i slot : Nat) (ok : Bool) (s : State) : Host.Outcome State Fault Refusal :=
  .next (if !(s.flash.softBusy.contains (i, slot)) then s
    else
      match s.flash.op i with
      | none => s
      | some o =>
        if s.opHeld o then s
        else
        let f := { s.flash with softBusy := s.flash.softBusy.filter (· != (i, slot)) }
        let s0 := { s with flash := f }
        let s1 := if ok then s0.track o else s0
        let s2 := if ok then s1.recovered i slot else s1.climb i slot
        { s2 with flash := feedSoft 16 s2.flash })

/-- A COLD set's copies lower the debt of the stand they were made for and charge its write credit in PACED mode (06 R195,
10 R318). -/
def State.coldDebt (s : State) (w : WSet) : State :=
  if w.cls == .cold then
    match (s.media.doms.flatMap (fun x => x.victims)).find? (fun v => v.chosen && w.holdsCopies v.rb) with
    | some v =>
      let s1 := if s.thinMode w.dom == .paced then s.chargeCredit v.charge.val .write (4096 * w.items.length) else s
      s1.addDebt v.charge w.dom (-(s.setShare w))
    | none => s
  else s

/-- A program whose status reports failure condemns the member's block (R264, R265). -/
def State.condemn (s : State) (o : DieOp) : State :=
  let x := (o.ch.val, o.rb)
  let f := if s.flash.isCondemned o.ch.val o.rb then s.flash
    else if s.flash.condemned.length < condemnedMax then { s.flash with condemned := s.flash.condemned ++ [x] }
    else { s.flash with condemnWait := s.flash.condemnWait ++ [x] }
  (({ s with flash := f }).wantRelocation o.rb).recordHw (srcFtl (rbGrove o.rb)) sevWarning 0x0D02 o.ch.val o.die.val o.block

/-- One member's program has been verified. -/
def State.verified (s : State) (n c : Nat) : State :=
  let s1 := { s with media := s.media.modSet n (fun w => { w with verified := addOnce c w.verified }) }
  match s1.media.wset n with
  | some w =>
    if w.parityDone && w.members.all (fun c => w.verified.contains c) then (s1.completeSet n).coldDebt w else s1
  | none => s1

/-- PROGRAM_DONE (06 R181, R182; 08 R264): verified, the program counts toward its windrow set; failed, the set fails and the
member's block is condemned. -/
def execProgramDone (i : Nat) (ok : Bool) (s : State) : Host.Outcome State Fault Refusal :=
  .next (match s.flash.op i with
    | none => s
    | some o =>
      if !o.isProgram || o.stage != .ended || s.opHeld o then s
      else
        let s1 := (s.dropOp i)
        let s2 := if ok then { s1 with flash := s1.flash.modDie o.key (fun d => { d with recent := d.recent ++
            (if o.kind == .progSlc then [(o.block, o.page)] else [(o.block, o.page), (o.block, o.page + 1), (o.block, o.page + 2)]) }) }
          else s1.condemn o
        (match o.why with
          | .program n => if ok then s2.verified n (o.ch.val % 8) else s2.failSet n
          | _ => s2).nextAction o.key)

/-- ERASE_DONE (R262, R263): the member's status is final; when every member's is, the row block's erase ends. -/
def execEraseDone (i : Nat) (ok : Bool) (s : State) : Host.Outcome State Fault Refusal :=
  .next (match s.flash.op i with
    | none => s
    | some o =>
      if o.kind != .erase || o.stage != .ended || s.opHeld o then s
      else
        let x := (o.ch.val, o.rb)
        let was := s.memberPresent o.rb (o.ch.val % 8)
        let m := if ok then (if was then s.media else { s.media with eraseBack := addOnce x s.media.eraseBack })
          else { s.media with eraseFails := addOnce x s.media.eraseFails }
        ((({ s with media := m }).dropOp i).eraseCheck o.rb).nextAction o.key)

end Sys2Proof.Machine
end

