-- ==== Sys2Proof/Machine/Channel.lean ====
section
/-! DEFINITION. The commands of the flash channels (07): training, drift tracking, live retrains, the pad monitor, rebuild. -/

namespace Sys2Proof.Machine

/-! ## Identification (R213, R214, R219, R266) -/

/-- A die's page as the reference compares it. -/
def dieGeometry (a : DieAnswer) : Geometry :=
  { pageBytes := a.pageBytes, spareBytes := a.spareBytes, planes := a.planes, pagesPerBlock := a.pagesPerBlock,
    blocksPerPlane := a.blocksPerPlane, densityGbit := a.densityGbit }

/-- A die meets Table 7-1. -/
def dieMeets (a : DieAnswer) : Bool :=
  a.crcOk && a.meetsTable && a.pageBytes == 16384 && decide (1892 ≤ a.spareBytes) && a.planes == 4 &&
    decide (a.pagesPerBlock ≤ 4095) && decide (a.blocksPerPlane ≤ 16383) && decide (512 ≤ a.densityGbit) &&
    decide (a.densityGbit ≤ 4096)

/-- The highest rate that a die supports (R219, R220, Table 7-2). -/
def dieTopRate (a : DieAnswer) : Nat :=
  if a.sig == 0x4B && a.rates.getLsbD 4 && decide (3600 ≤ a.maxRate) then 4800 else min 3600 a.maxRate

/-- A die answers and matches the reference (R213). -/
def dieUsable (a : DieAnswer) (g : Geometry) : Bool := dieMeets a && dieGeometry a == g

/-- Dies that answer: a parameter page that fails on all its copies counts as no answer. -/
def answering (as : List DieAnswer) : List DieAnswer := as.filter (fun a => a.crcOk)

/-- The reference geometry: what an earlier channel gave at this power-on, else the die of this one with the lowest index that meets Table 7-1
(R213). -/
def State.reference (s : State) (as : List DieAnswer) : Option Geometry :=
  match s.media.geom with
  | some g => some g
  | none => ((List.range 16).findSome? (fun d => as.find? (fun a => a.die.val == d && dieMeets a))).map (fun a => dieGeometry a)

/-- A set of die indices as bits. -/
def dieBits (as : List DieAnswer) : BitVec 16 :=
  BitVec.ofNat 16 ((below 16 (fun d => as.any (fun a => a.die.val == d))).map (fun d => 2 ^ d)).sum

/-- Retire the blocks that carry a factory mark: the bitmap bit, then ABSENT (R266, R267). -/
def State.factoryMarks (s : State) (ch : Nat) (a : DieAnswer) : State :=
  a.factoryBad.foldl (fun x n =>
    let rb := rbKey (ch / 8 * 16 + a.die.val) (n % 16384)
    { x with flash := { x.flash with retBits := addOnce (retBit ch rb) x.flash.retBits, marks := addOnce (retBit ch rb) x.flash.marks },
             media := x.media.setAbsent rb (recAbsent (x.media.rbRec rb) ||| BitVec.ofNat 8 (2 ^ (ch % 8))) }) s

/-- Note a used die. -/
def FlashS.useDie (f : FlashS) (ch : Nat) (a : DieAnswer) : FlashS :=
  f.modDie (dieKey ch a.die.val) (fun d =>
    { d with used := true, spareBytes := a.spareBytes, nestedOk := a.nestedProgram, independent := a.independent, topMode := min 3600 a.maxRate })

/-- DIE_NOT_USED (Table 17-9): 1 not matching, 2 not recorded. -/
def State.dieNotUsed (s : State) (ch : Nat) (a : DieAnswer) (why : Nat) : State :=
  s.recordHw (srcSeq (chanOf ch)) sevWarning 0x0C02 ch a.die.val why

/-- The starting rate of a channel: the highest rung that CHN_MAX_RATE and every die in use allow (R219). -/
def State.startRate (s : State) (ch : Nat) (good : List DieAnswer) : Nat :=
  rateCode ((good.map (fun a => dieTopRate a)).foldl min (s.parI P.CHN_MAX_RATE ch))

/-- Identify a channel's dies (R213, R214). At the first power-on its record takes every die that answers; later a die that was not recorded is not
used, and a recorded die that does not answer, or does not match, has failed. -/
def State.identify (s : State) (ch : Nat) (answers : List DieAnswer) : State :=
  let as := answering answers
  let ref := s.reference as
  let good := as.filter (fun a => (ref.map (fun g => dieUsable a g)).getD false)
  let c := s.flash.chan ch
  let s0 := { s with media := { s.media with geom := ref } }
  if s.flash.first && !c.recValid then
    let s1 := { s0 with flash := s0.flash.modChan ch (fun c =>
      { c with identified := true, recValid := true, usedDies := dieBits as, serving := dieBits good, rate := s.startRate ch good }) }
    let s2 := (as.filter (fun a => !(good.contains a))).foldl (fun a x => a.dieNotUsed ch x 1) s1
    good.foldl (fun a x => ({ a with flash := a.flash.useDie ch x }).factoryMarks ch x) s2
  else
    let known := good.filter (fun a => c.usedDies.getLsbD a.die.val && !c.failed.getLsbD a.die.val)
    let s1 := { s0 with flash := s0.flash.modChan ch (fun c =>
      { c with identified := true, recValid := true, serving := dieBits known, rate := s.startRate ch known }) }
    let s2 := (as.filter (fun a => !c.usedDies.getLsbD a.die.val)).foldl (fun a x => a.dieNotUsed ch x 2) s1
    let s3 := known.foldl (fun a x => { a with flash := a.flash.useDie ch x }) s2
    (below 16 (fun d => c.usedDies.getLsbD d && !c.failed.getLsbD d && !(known.any (fun a => a.die.val == d)))).foldl
      (fun a d => a.failDie ch d) s3

/-- A die row whose dies prove to have fewer than 2,416 spare bytes runs at rate 0.90 (18 R491). -/
def State.rowFallback (s : State) (r : Nat) : State :=
  let small := (List.range 8).any (fun c =>
    match sget s.flash.dies (dieKey (r / 16 * 8 + c) (r % 16)) with
    | some d => d.used && decide (d.spareBytes < 2416)
    | none => false)
  if s.parI P.DIE_LDPC_RATE r = 1 && small then
    ({ s with params := { s.params with vals := sdel (paramKey P.DIE_LDPC_RATE r) s.params.vals } }).record sevWarning 0x1404 r
  else s

/-- The same on every die row of a channel's grove. -/
def State.rateFallback (s : State) (ch : Nat) : State :=
  (List.range 16).foldl (fun a d => a.rowFallback (ch / 8 * 16 + d)) s

/-- Channels below this one have been identified, or are out of service: the reference die is the first in ascending device channel (R213). -/
def State.lowerDone (s : State) (ch : Nat) : Bool :=
  (List.range ch).all (fun c => (s.flash.chan c).identified || (s.flash.chan c).state == .retired || (s.flash.chan c).state == .retiring)

/-- Retirements and failures that were cut short are completed on a channel before it is restored (R245). -/
def State.finishLosses (s : State) (ch : Nat) : State :=
  let c := s.flash.chan ch
  let s1 := if c.recRetired then s.markAbsent ch none else s
  (below 16 (fun d => c.failed.getLsbD d)).foldl (fun a d => a.markAbsent ch (some d)) s1

/-! ## Drift tracking's outcome on a die (R228, R231) -/

/-- A passing step 7 on a die: erases that waited for it are issued again, and nothing is left to be cruised (R228, R231). -/
def FlashS.passed (f : FlashS) (k : Nat) : FlashS :=
  let d := f.die k
  let f := f.modDie k (fun d => { d with reissue := [], recent := if d.check then d.recent else [], driftTries := 0 })
  d.reissue.foldl (fun g i => (g.modOp i (fun x => { x with attempts := 0 })).requeue i) f

/-- Every live die of a channel has passed. -/
def FlashS.passedAll (f : FlashS) (ch : Nat) : FlashS :=
  (f.chan ch).liveDies.foldl (fun g d => g.modDie (dieKey ch d) (fun x => { x with retraining := false, slices := 0 }) |>.passed (dieKey ch d)) f

/-! ## The steps of training (Table 7-4) -/

/-- The window of every DQ is open for CHN_EYE_MIN_TAPS taps or more (steps 5 and 6). -/
def State.eyesOpen (s : State) (ws : List (Nat × Nat)) : Bool :=
  ws.length == 8 && ws.all (fun w => decide (s.par P.CHN_EYE_MIN_TAPS ≤ w.2))

/-- The centres of the windows of a die's DQs. -/
def centres (ws : List (Nat × Nat)) : Vector Nat 8 :=
  Vector.ofFn (fun (i : Fin 8) => ((ws[i.val]?).map (fun w => w.1 + w.2 / 2)).getD 0)

/-- A duty cycle lies within 47% to 53% (step 4). -/
def dutyOk (d : Nat) : Bool := decide (470 ≤ d ∧ d ≤ 530)

/-- A die passes a step. -/
def State.stepPasses (s : State) (step : Nat) (r : StepReading) : Bool :=
  match step with
  | 1 => decide (r.readyUs ≤ 10000)
  | 2 => r.accepted
  | 3 => r.accepted
  | 4 => dutyOk r.dqsDuty && dutyOk r.reDuty
  | 5 => s.eyesOpen r.windows
  | 6 => s.eyesOpen r.windows
  | _ => r.low && r.centre && r.high

/-- P1 to P4 of the Set Features at E8h that turns 4,800 MT/s on (R220). -/
abbrev highRateOn : Dword := 0x0000104B

/-- What a step that passes sets on a die: its features at step 3, the sequencer's settings at steps 4 to 6. Firmware chooses the delays of DQS and
RE, which the spec does not state: free values. -/
def DieS.set (d : DieS) (step rate k : Nat) (r : StepReading) : DieS :=
  match step with
  | 3 => if rate = 4 then { d with timing := d.topMode, highRate := highRateOn } else { d with timing := rateMts rate }
  | 4 => { d with delays := { d.delays with dqs := (Config.strobeDelay k 0).toNat, re := (Config.strobeDelay k 1).toNat } }
  | 5 => { d with delays := { d.delays with read := centres r.windows } }
  | 6 => { d with delays := { d.delays with write := centres r.windows } }
  | _ => d

/-- Set every die of a list of readings. -/
def State.setDies (s : State) (ch step : Nat) (rs : List StepReading) : State :=
  rs.foldl (fun a r =>
    let (k, b) := a.draw
    { b with flash := b.flash.modDie (dieKey ch r.die.val) (fun d => d.set step (b.flash.chan ch).rate k r) }) s

/-- The settings of a channel's dies, and its rate, go to AON SRAM (R225). -/
def State.keepSettings (s : State) (ch : Nat) : State :=
  let f := s.flash
  { s with
    flash := { (f.modChan ch (fun c => { c with savedRate := some c.rate })) with
      saved := (f.chan ch).liveDies.foldl (fun m d => sput (dieKey ch d) (f.die (dieKey ch d)).delays m) f.saved }
    dev := { s.dev with validFlash := true } }

/-- Training passes: the channel is ACTIVE at its rate; a channel whose record said RETIRED is back in service (R245). -/
def State.trainPass (s : State) (ch : Nat) : State :=
  let f := s.flash.modChan ch (fun c =>
    { c with state := .active, failedOnce := false, restoring := false, step := 1, recRate := BitVec.ofNat 4 c.rate, recRetired := false,
             recValid := true, stuck := 0 })
  let f := (f.chan ch).liveDies.foldl (fun g d => g.modDie (dieKey ch d) (fun x => { x with lastCheck := s.now, drift := 0 })) (f.passedAll ch)
  ((({ s with flash := f }).keepSettings ch).nextTurn (ch / 8)).wakeWaiting.resumeReads

/-- Pages programmed on these dies since their last passing check are to be cruised, after a failed step 7 (R228). -/
def FlashS.checkDies (f : FlashS) (ch : Nat) (ds : List Nat) : FlashS :=
  ds.foldl (fun g d => g.modDie (dieKey ch d) (fun x => { x with check := true })) f

/-- A step fails on some dies: it is repeated once, and then the channel steps down, or is retired at 800 MT/s (R221, R224). A restore that fails
goes on as full training at the restored rate (R225). A die that stays busy for 10 ms after ONFI Reset, step 1, has failed (Table 7-6). -/
def State.trainFail (s0 : State) (ch : Nat) (bad : List Nat) : State :=
  let c := s0.flash.chan ch
  let s := if c.step = 7 then { s0 with flash := s0.flash.checkDies ch bad } else s0
  if c.restoring && (c.step == 7 || c.failedOnce) then
    { s with flash := s.flash.modChan ch (fun c => { c with restoring := false, step := 2, failedOnce := false }) }
  else if !c.failedOnce then { s with flash := s.flash.modChan ch (fun c => { c with failedOnce := true }) }
  else if c.step = 1 then
    let s1 := { s with flash := s.flash.modChan ch (fun c => { c with step := 2, failedOnce := false }) }
    bad.foldl (fun a d => a.failDie ch d) s1
  else if c.rate = 0 then s.retireChannel ch 2
  else s.stepDown ch

/-- One run of the present step on every die in use, one after another (R215): the channel comes to the next step when each of them passes; a restore
runs steps 2 and 7 (R223 to R225). -/
def State.trainStep (s0 : State) (ch : Nat) (rs : List StepReading) : State :=
  let s := { s0 with flash := (s0.flash.chan ch).liveDies.foldl (fun f d => f.select ch d) s0.flash }
  let c := s.flash.chan ch
  let bad := c.liveDies.filter (fun d => !(rs.any (fun r => r.die.val == d && s.stepPasses c.step r)))
  if !bad.isEmpty then s.trainFail ch bad
  else
    let s1 := if c.restoring then s else s.setDies ch c.step (rs.filter (fun r => c.liveDies.contains r.die.val))
    if 7 ≤ c.step then s1.trainPass ch
    else
      { s1 with flash := s1.flash.modChan ch (fun c =>
        { c with step := if c.restoring then 7 else c.step + 1, failedOnce := false }) }

/-- CHANNEL_TRAINING (R213, R214, R223 to R226, R245): after power-on the channel's dies are identified first, in step 1, and losses cut short are
completed; then the present step of Table 7-4 runs on every die in use. A channel on which no die answers is retired, and its dies have not failed
(Table 7-6). -/
def execChannelTraining (ch : Chan) (answers : List DieAnswer) (readings : List StepReading) (s : State) :
    Host.Outcome State Fault Refusal :=
  .next (
    let c := s.flash.chan ch.val
    if !s.fwRuns || c.state != .training then s
    else if !c.identified && !s.lowerDone ch.val then s
    else if !c.identified && (answering answers).isEmpty then s.retireChannel ch.val 4
    else
      let s1 := if c.identified then s else (s.identify ch.val answers).finishLosses ch.val
      (s1.rateFallback ch.val).trainStep ch.val readings)

/-! ## Drift tracking and live retrains (R227, R228) -/

/-- An L0 read waits for a channel: in a die queue, or for its transfer. One that waits for the live retrain of its own die does not count (R228). -/
def State.l0Pending (s : State) (ch : Nat) : Bool :=
  s.flash.ops.any (fun e => e.2.ch.val == ch && e.2.isRead && e.2.queue == 1 && !(s.flash.die e.2.key).retraining &&
    (e.2.stage == .issued || e.2.stage == .held || e.2.stage == .queued || e.2.stage == .transfer))

/-- Slices of one drift-tracking run: it takes 3 us of bus time on a die (R228), in slices of at most CHN_TRAIN_SLICE_US. -/
def State.driftSlices (s : State) : Nat :=
  let p := max 1 (s.par P.CHN_TRAIN_SLICE_US)
  (2 + p) / p

/-- A slice of drift tracking may begin on a die: the channel is ACTIVE, the die is idle and in no live retrain, no L0 read is pending, and the run is
due, under way, or repeats a check that failed at the chosen settings (R227, R229). -/
def State.driftMay (s : State) (ch die : Nat) : Bool :=
  let c := s.flash.chan ch
  let d := s.flash.die (dieKey ch die)
  c.state == .active && c.liveDies.contains die && !d.retraining && d.running.isNone && d.idle && !s.l0Pending ch &&
    (decide (0 < d.drift) || decide (0 < d.driftTries) ||
      decide (d.lastCheck + s.par P.CHN_RETRAIN_INTERVAL_MS * 1000000 ≤ s.now))

/-- DRIFT_TRACKING (R227, R228): a slice of a die's check, and with the last one its outcome. A failure at an offset point starts a live retrain; one
at the chosen settings is the upset of row 4 of Table 7-5. -/
def execDriftTracking (ch : Chan) (die : DieIx) (o : DriftOutcome) (s : State) : Host.Outcome State Fault Refusal :=
  .next (
    let k := dieKey ch.val die.val
    if !s.driftMay ch.val die.val then s
    else if (s.flash.die k).drift + 1 < s.driftSlices then
      { s with flash := (s.flash.select ch.val die.val).modDie k (fun d => { d with drift := d.drift + 1 }) }
    else
      let s0 := { s with flash := (s.flash.select ch.val die.val).modDie k (fun d => { d with drift := 0, lastCheck := s.now }) }
      match o with
      | .pass => { s0 with flash := s0.flash.passed k }
      | .offsetFails => { s0 with flash := (s0.flash.beginLive k).modDie k (fun d => { d with check := true }) }
      | .settingFails =>
        let s1 := s0.noteUpset ch.val die.val 4
        let n := (s0.flash.die k).driftTries + 1
        if s.par P.CHN_RETRY_LIMIT < n then
          ({ s1 with flash := s1.flash.modDie k (fun d => { d with driftTries := 0, check := true }) }).countFault ch.val die.val
        else
          { s1 with flash := (s1.flash.beginLive k).modDie k (fun d => { d with driftTries := n, check := true }) })

/-- Slices of a live retrain at most (R228). -/
abbrev liveSlices : Nat := 128

/-- A live retrain of a die fails: the channel steps down and trains in full (R228). -/
def State.liveFails (s : State) (ch k : Nat) : State :=
  ({ s with flash := s.flash.modDie k (fun d => { d with retraining := false, slices := 0 }) }).stepDown ch

/-- A live retrain passes: the settings are the new ones, and the die serves again. The repetition of a check that failed at the chosen settings is
still to come, so that its count stands (R229, R230). -/
def State.livePasses (s : State) (ch k : Nat) (read write : List (Nat × Nat)) : State :=
  let f := s.flash.modDie k (fun d =>
    { d with retraining := false, slices := 0, delays := { d.delays with read := centres read, write := centres write } })
  let f := if (s.flash.die k).driftTries = 0 then f.passed k else f
  (({ s with flash := f }).keepSettings ch).nextAction k

/-- LIVE_RETRAIN_SLICE (R228): a slice of steps 5 and 6, begun where no L0 read is pending; at its end the die serves again, or the channel steps
down. A retrain that is not over after 128 slices has failed. -/
def execLiveRetrainSlice (ch : Chan) (die : DieIx) (o : LiveSlice) (s : State) : Host.Outcome State Fault Refusal :=
  .next (
    let k := dieKey ch.val die.val
    if (s.flash.chan ch.val).state != .active || !(s.flash.die k).retraining || s.l0Pending ch.val then s
    else
      match o with
      | .more =>
        if liveSlices ≤ (s.flash.die k).slices + 1 then s.liveFails ch.val k
        else { s with flash := (s.flash.select ch.val die.val).modDie k (fun d => { d with slices := d.slices + 1 }) }
      | .ended read write =>
        if s.eyesOpen read && s.eyesOpen write then s.livePasses ch.val k read write else s.liveFails ch.val k)

/-- PAD_MONITOR_CHECK (R232): three consecutive stuck readings retire the channel at once, with RCAUSE 01h. -/
def execPadMonitorCheck (ch : Chan) (stuck : Bool) (s : State) : Host.Outcome State Fault Refusal :=
  .next (
    let c := s.flash.chan ch.val
    if c.state != .active && c.state != .training then s
    else if stuck then
      let s1 := { s with flash := s.flash.modChan ch.val (fun c => { c with stuck := c.stuck + 1 }) }
      if 3 ≤ c.stuck + 1 then s1.retireChannel ch.val 1 else s1
    else { s with flash := s.flash.modChan ch.val (fun c => { c with stuck := 0 }) })

/-! ## Rebuild (R239, R240) -/

/-- The lowest entry of a list. -/
def lowestOf (l : List Nat) : Option Nat := l.foldl (fun a x => match a with
  | none => some x
  | some y => some (min x y)) none

/-- Clear a bitmap bit whose row block needs no rebuild any more. -/
def FlashS.clearRebuild (f : FlashS) (g bit : Nat) : FlashS :=
  f.modGrove g (fun r =>
    { r with bitmap := r.bitmap.filter (· != bit), rebuild := !(r.bitmap.filter (· != bit)).isEmpty })

/-- REBUILD_SLICE (R239 to R241): one slice on the row block of the bitmap with the lowest (die index, n), once no checkpoint unit of the grove
lies on an absent member. It pauses while a channel of the grove is TRAINING. -/
def execRebuildSlice (g : Grove) (s : State) : Host.Outcome State Fault Refusal :=
  .next (
    let r := s.flash.grove g.val
    let training := (List.range 8).any (fun c => (s.flash.chan (g.val * 8 + c)).state == .training)
    if !s.mediaRuns || !r.rebuild || !r.bmvalid || training || s.groveRestarting g then s
    else if s.lostUnits.any (fun x => x.1 == g.val) then s.redoUnits
    else
      match lowestOf r.bitmap with
      | none => { s with flash := s.flash.modGrove g.val (fun x => { x with rebuild := false }) }
      | some bit =>
        let rb := rbKey (g.val * 16 + bit / 16384) (bit % 16384)
        let d := s.domOf (g.val * 16 + bit / 16384)
        match (s.media.domS d).victims.find? (fun v => v.rb == rb) with
        | some v => s.victimSlice d v
        | none =>
          if s.unsettled rb then s
          else if recState (s.media.rbRec rb) = rbClosed then
            let st := ((sget s.media.info rb).map (fun i => i.stand)).getD 0
            s.takeVictim d st .rebuild rb
          else { s with flash := s.flash.clearRebuild g.val bit })

end Sys2Proof.Machine
end

