-- ==== Sys2Proof/Machine/ActionOps.lean ====
section
/-! DEFINITION. Action parameters and accepted reconfiguration records (18 R496 to R498): how an action is refused, journaled, carried
out and answered. -/

namespace Sys2Proof.Machine

/-- REJECTED, with the ID of the entry to blame (R496). -/
def State.rejected (s : State) (f : Frame) (id : Nat) : State := s.naileFail f 3 0 id

/-- An accepted record is journaled before any entry is applied, and counted (R497, Table 18-10). -/
def State.acceptRecord (s : State) : State :=
  let s1 := s.journal
  { s1 with params := { s1.params with reconfigs := s1.params.reconfigs + 1 } }

/-- The only entry of a record that carries an action. -/
def actionRec (id v : Nat) : CfgRec :=
  { id := id, typ := 1, inst := 0, len := ((paramDef id).map PDef.bytes).getD 0, value := v, rsvd := false }

/-- An action: its own refusal, what a refusal records, and what it does. A value of 0 asks for nothing. -/
structure Action where
  refuse : State → Bool
  act : State → State
  noted : State → State := id

/-- Execute an action parameter (R498): the checks of R496, the action's own refusal, then the journal, the action and the answer. -/
def State.runAction (s : State) (f : Frame) (id v : Nat) (a : Action) : State :=
  match s.refusedId [actionRec id v] with
  | some p => s.rejected f p
  | none =>
    if v = 0 then (s.acceptRecord).naileOk f 0x02 1 0
    else if a.refuse s then (a.noted s).rejected f id
    else (a.act s.acceptRecord).naileOk f 0x02 1 0

/-- A frame that carries an action reaches the port. -/
def State.actionRequest (s : State) (i : Instr) (f : Frame) (id v : Nat) (a : Action) : State :=
  s.request i f .reconfig (fun s => s.runAction f id v a)

/-- MAP_LEASE_REKEY: the lease MAC key is replaced (05 R172). -/
def actRekey : Action := { refuse := fun _ => false, act := fun s => s.newLeaseKey }

end Sys2Proof.Machine
end

