-- ==== Sys2Proof/Machine/EccOps.lean ====
section
/-! DEFINITION. The ECC code of a DRAM line (11 R332, R333): 8 interleaved Reed-Solomon codewords of 8 data bytes and 2 check bytes, each byte carried
by one device or nibble lane on two beats, and what a read of a line makes of its errors. -/

namespace Sys2Proof.Machine

/-- Lanes of a subchannel: 8 of data and 2 of check bytes. A x4 device is one lane, a x8 device two. -/
abbrev eccLanes : Nat := 10
/-- Codewords of a line. -/
abbrev eccWords : Nat := 8

/-- The 4 bits of an error pattern that a lane carries on a beat: a burst has 16 beats of 10 lanes of 4 bits, beat 0 and lane 0 lowest. -/
def errNibble (e : BitVec 640) (beat lane : Nat) : Nat := e.toNat / 2 ^ (40 * beat + 4 * lane) % 16

/-- Byte i of codeword j, which lane i carries on beats 2j and 2j + 1, is wrong. -/
def wrongByte (e : BitVec 640) (j i : Nat) : Bool := errNibble e (2 * j) i != 0 || errNibble e (2 * j + 1) i != 0

/-- The lanes whose byte of a codeword is wrong. -/
def wrongLanes (e : BitVec 640) (j : Nat) : List Nat := below eccLanes (wrongByte e j)

/-- What the syndrome of a codeword tells: nothing, one lane where the error lies, or an error that it cannot place. -/
inductive Syndrome where
  | zero
  | lane (i : Nat)
  | fails
  deriving DecidableEq, Repr

/-- The syndrome of a codeword with its wrong lanes. One wrong byte is placed where it lies. With more the code may place an error in some lane, or
fail; with three or more it may also read zero. Which of these happens turns on a generator that the spec does not give: a free value. -/
def syndromeOf (draw j : Nat) : List Nat → Syndrome
  | [] => .zero
  | [i] => .lane i
  | ws =>
    let x := Config.rsDecode draw j
    if x < eccLanes then .lane x else if x = eccLanes && 3 ≤ ws.length then .zero else .fails

/-- A read of a line. -/
inductive LineRead where
  | clean
  /-- Every codeword with a syndrome places its error in this lane. -/
  | corrected (lane : Nat)
  | uncorrectable
  deriving DecidableEq, Repr

/-- The codewords of a line taken together: an error is corrected only where all of them place it in one lane (R332). -/
def joinSyndromes (ss : List Syndrome) : LineRead :=
  match ss.filter (· != .zero) with
  | [] => .clean
  | .lane i :: t => if t.all (· == .lane i) then .corrected i else .uncorrectable
  | _ => .uncorrectable

/-- A read of a line with an error pattern. -/
def readLine (draw : Nat) (e : BitVec 640) : LineRead :=
  joinSyndromes ((List.range eccWords).map (fun j => syndromeOf draw j (wrongLanes e j)))

/-- A correction in one lane leaves other bytes wrong: the line has been miscorrected. -/
def miscorrects (e : BitVec 640) (lane : Nat) : Bool :=
  (List.range eccWords).any (fun j => (wrongLanes e j).any (fun i => i != lane))

/-- The device of a lane: a x8 device has two lanes, of which the code knows nothing in common. -/
def deviceOf (x8 : Bool) (lane : Nat) : Nat := if x8 then lane / 2 else lane

end Sys2Proof.Machine
end

