-- ==== Sys2Proof/Machine/Dram.lean ====
section
/-! DEFINITION. The commands of the DRAM subsystem (11 R325 to R347). -/

namespace Sys2Proof.Machine

/-! ## Training (R327, R338, R343) -/

/-- The rung below a rate; none below 3,200 MT/s. -/
def dramLower (r : Nat) : Option Nat := if r = 6400 then some 4800 else if r = 4800 then some 3200 else none

/-- The rate of the training that runs: a step-down's, the saved one of contents held in self-refresh, or DRM_RATE. -/
def State.dramRate (s : State) : Nat :=
  if s.dram.rate ≠ 0 then s.dram.rate
  else if s.dram.selfRefresh then s.dram.saved.getD (s.par P.DRM_RATE) else s.par P.DRM_RATE

/-- Every channel has passed: the results are saved, and DRAM leaves self-refresh with its pads released (R342, R343). -/
def State.dramUp (s : State) (r : Nat) : State :=
  { s with
    dram := { s.dram with ready := true, rate := r, saved := some r, selfRefresh := false,
                          chans := s.dram.chans.map (fun (c : DramChS) => { c with lastTemp := c.temp }) }
    dev := { s.dev with validDram := true, latchDram := false } }

/-- DRAM_TRAINING (R327, R343): every channel passes; or all train again one rung lower; or, at the lowest rate, FAILED. -/
def execDramTraining (failing : List DramCh) (s : State) : Host.Outcome State Fault Refusal :=
  .next (
    if !s.fwRuns || s.dev.phase != .booting || s.dram.ready then s
    else
      match failing with
      | [] => s.dramUp s.dramRate
      | c :: _ =>
        match dramLower s.dramRate with
        | some r => ({ s with dram := { s.dram with rate := r } }).recordHw srcDram sevWarning 0x1001 r
        | none => s.recordHw srcDram sevFatal 0x1002 c.val)

/-- DRAM serves, and no dump holds its own work back (R347). -/
def State.dramWorks (s : State) : Bool :=
  s.fwRuns && s.dram.ready && !s.dram.selfRefresh && s.plp.pwrFailN && !s.plp.dumping

/-- DRAM_ZERO_FILL_SLICE (R331): the next region, in the order working, write cache, map, leaf cache, is filled. -/
def execDramZeroFillSlice (s : State) : Host.Outcome State Fault Refusal :=
  .next (if s.dramWorks && decide (s.dram.filled < 4) then { s with dram := { s.dram with filled := s.dram.filled + 1 } } else s)

/-! ## Uncorrectable lines (R333, Table 11-6; 05 Table 5-10) -/

/-- Lines of the write cache, with its end. -/
def State.cacheLines (s : State) : Nat × Nat := (67108864, 67108864 + s.par P.PLP_WRITE_CACHE_MIB * 16384)

/-- A cache entry is lost: what is on media is read from there; else its LBA becomes POISONED (04 R135). -/
def CSlot.hit (x : CSlot) : CSlot := if x.done then { x with super := true } else { x with poison := true }

/-- Data of a cache group is lost: that of a write still on its way into the index ends the write (04 Table 4-5). -/
def State.groupLost (s : State) (q : Nat) (g : CGroup) (lba : Nat) : State :=
  if g.visible then s.slotLostAt q g lba
  else match g.tag with
    | some t => s.failWrite t stTransfer
    | none => s

/-- The entries of some slots of a slab are lost: acknowledged ones with the event of R135. -/
def State.loseSlots (s : State) (slab : Nat) (p : Nat → Bool) : State :=
  let gs := s.cache.groups.filter (fun e => e.2.slab == slab)
  let lost := gs.flatMap (fun e => (e.2.slots.filter (fun x => p x.slot && !x.super && !x.done && !x.poison)).map (fun x => (e, x.lba)))
  let groups := smap (fun _ (g : CGroup) =>
    if g.slab = slab then { g with slots := g.slots.map (fun x => if p x.slot && !x.super then x.hit else x) } else g) s.cache.groups
  (lost.foldl (fun (a : State) l => a.groupLost l.1.1 l.1.2 l.2) { s with cache := { s.cache with groups := groups } }).freeGroups

/-- Erase counts and read-voltage sets of a grove are reloaded, and its read counts restart at half the limit (Table 11-6). -/
def State.reloadCounts (s : State) (g : Nat) : State :=
  let half := s.par P.MED_DISTURB_READS / 2
  let keep := s.media.erases.filter (fun e => (rbGrove e.1).val != g)
  let kept := s.flash.tracked.filter (fun e => e.1 / 2097152 / 8 != g)
  { s with
    flash := { s.flash with tracked := (s.flash.trackedTable.filter (fun e => e.1 / 2097152 / 8 == g)).foldl (fun m e => sput e.1 e.2 m) kept }
    media := { s.media with
      erases := (s.media.wearTable.filter (fun e => (rbGrove e.1).val == g)).foldl (fun m e => sput e.1 e.2 m) keep
      reads := smap (fun k n => if k / 4194304 / 8 = g then half else n) s.media.reads } }

/-- MAP_DRAM_ERROR. -/
def State.mapError (s : State) (sev row g : Nat) : State := s.recordHw (srcFtl ⟨g % 8, by omega⟩) sev 0x0A03 row g

/-- An entry of a list, by a free number. -/
def pickAt {α : Type} (l : List α) (n : Nat) : Option α := l[n % max 1 l.length]?

/-- A line of the working region: counts, a slab header, or a grove's control block, which fails its check at the next pin reset. What lies at the line
is not stated: a free value tells (log entry 6). -/
def State.loseWorking (s : State) (c : Nat) : State :=
  let g := c / 3 % 8
  if c % 3 = 0 then s.reloadCounts g
  else if c % 3 = 1 then s.loseSlots (c / 3 % max 1 s.slabs) (fun _ => true)
  else ({ s with map := s.map.modGrove ⟨g, by omega⟩ (fun m => { m with ctlBad := true }) }).mapError sevWarning 5 g

/-- A line of the leaf cache: the page is read again, and the records of a dirty one replayed; commands that need it wait as for a miss (05 R165). -/
def State.loseLeaf (s : State) (c : Nat) : State :=
  match pickAt (s.map.pages.filter (fun e => e.2.cached)) c with
  | none => s
  | some (lpn, p) =>
    let s1 := { s with map := { s.map with pages := smod lpn (fun x => { x with cached := false }) s.map.pages } }
    if p.dirty then s1.mapError sevError 3 (lpn % 8) else s1.mapError sevWarning 2 (lpn % 8)

/-- A slab is repaired: its newest checkpoint copy is read, and records are replayed after it; one that no generation has copied stands in the
journal alone, and is there at once (05 Table 5-10). -/
def State.repairSlab (s : State) (g : Grove) (key : Nat) : State :=
  if (sget (s.map.grove g).image.locs key).isNone then s
  else ({ s with map := { s.map with repairing := addOnce (g.val, key) s.map.repairing } }).readSlab g key

/-- A line of the map region: a trunk slab, a directory slab, or a leaf-page record, for which the lease key is replaced and the FLOC recovered from
the directory slab. -/
def State.loseMap (s : State) (c : Nat) : State :=
  if c % 3 = 0 then
    match pickAt s.map.segs (c / 3) with
    | some e =>
      let g : Grove := ⟨c / 3 % 8, by omega⟩
      (s.mapError sevError 1 g.val).repairSlab g (unitKey 0 e.1)
    | none => s
  else
    match pickAt s.map.pages (c / 3) with
    | some (lpn, _) =>
      let s1 := if c % 3 = 1 then s.mapError sevError 1 (lpn % 8) else s.newLeaseKey.mapError sevError 4 (lpn % 8)
      s1.repairSlab (groveOf lpn) (unitKey 1 (lpn / 8 / 512))
    | none => s

/-- The owner of an uncorrectable line reacts, by its region. -/
def State.loseLine (s : State) (line : Nat) : State :=
  let (lo, hi) := s.cacheLines
  let leafEnd := hi + s.map.leafCacheGib * 16777216
  if lo ≤ line ∧ line < hi then
    let slot := (line - lo) / 64
    s.loseSlots (slot / slabSlots) (fun n => n == slot % slabSlots)
  else
    let (k, s1) := s.draw
    let c := Config.choice k line
    if line < lo then s1.loseWorking c else if line < leafEnd then s1.loseLeaf c else s1.loseMap c

/-- Channel of a line, and subchannel * 256 + rank (Table 11-4). -/
def State.dramPlace (s : State) (line : Nat) : Nat × Nat :=
  let v := s.par P.DRM_POPULATION
  let half := v / 128 % 2
  let sub := if half = 1 then 0 else line / 32 % 2
  let bank := if v / 16 % 4 = 0 then 1 else 2
  let rank := if v / 64 % 2 = 1 then line / 2 ^ (5 + (1 - half) + 3 + bank) % 2 else 0
  (line / 4 % 8, sub * 256 + rank)

/-- The training area, in lines (R330). -/
def inTraining (line : Nat) : Bool := decide (67092480 ≤ line ∧ line < 67108864)

/-- An uncorrectable line: the event, the poison pattern, and the owner's reaction (R333, R334). -/
def State.dramLost (s : State) (line : Nat) : State :=
  let p := s.dramPlace line
  let a := line * 64
  let s1 := s.recordHw srcDram sevError 0x1003 p.1 p.2 (a % 4294967296) (a / 4294967296)
  let inCache := decide (s.cacheLines.1 ≤ line ∧ line < s.cacheLines.2)
  let s2 := if inCache then s1
    else { s1 with dram := { s1.dram with lines := sput line (((sget s1.dram.lines line).map Prod.fst).getD 0, true) s1.dram.lines } }
  s2.loseLine line

/-- DRAMDEV of the device that carries a lane of a line, without its valid bit (15 Table 15-4). -/
def State.dramDevice (s : State) (line lane : Nat) : Nat :=
  let p := s.dramPlace line
  p.1 * 4096 + p.2 / 256 * 2048 + p.2 % 256 * 1024 + deviceOf (decide (s.par P.DRM_POPULATION / 8 % 2 = 1)) lane

/-- The row of a line, told apart by bank group and bank (Table 11-4; log entry 114). -/
def State.dramRow (s : State) (line : Nat) : Nat :=
  let v := s.par P.DRM_POPULATION
  let banks := 3 + (if v / 16 % 4 = 0 then 1 else 2)
  let at0 := 5 + (1 - v / 128 % 2)
  let rows := if v / 16 % 4 = 2 then 17 else 16
  let bank := line / 2 ^ at0 % 2 ^ banks
  let row := line / 2 ^ (at0 + banks + v / 64 % 2) % 2 ^ rows
  row * 32 + bank

/-- Note a correction; the row that reaches the limit marks its device as failing (R335). -/
def State.noteCorrection (s : State) (dev row : Nat) : State :=
  let rows := addOnce (dev, row) s.dram.ceRows
  let n := (rows.filter (fun e => e.1 == dev)).length
  let before := (s.dram.ceRows.filter (fun e => e.1 == dev)).length
  let limit := s.par P.DRM_CE_DEVICE_LIMIT
  let s1 := { s with dram := { s.dram with ceRows := rows } }
  if before < limit ∧ limit ≤ n then
    ({ s1 with dram := { s1.dram with failing := some (dev % 32768) } }).recordHw srcDram sevWarning 0x1004 (32768 + dev % 32768)
  else s1

/-- A correction that was wrong leaves other data, and nothing tells (R332). -/
def State.spoilLine (s : State) (line : Nat) : State :=
  let (k, s1) := s.draw
  let v := Config.miscorrected k line
  let (lo, hi) := s.cacheLines
  if lo ≤ line ∧ line < hi then
    let at0 := (line - lo) / 64
    let bit := 512 * ((line - lo) % 64)
    let put := fun (b : Block) => (b &&& ~~~((BitVec.allOnes 512).setWidth 32768 <<< bit)) ||| (v.setWidth 32768 <<< bit)
    let groups := smap (fun _ (g : CGroup) => { g with slots := g.slots.map (fun x =>
      if g.slab = at0 / slabSlots && x.slot = at0 % slabSlots then { x with data := put x.data } else x) }) s1.cache.groups
    { s1 with cache := { s1.cache with groups := groups } }
  else { s1 with dram := { s1.dram with lines := sputD (0, false) line (v, false) s1.dram.lines } }

/-- A line is read with an error pattern: it is corrected, or it is lost. A line that carries the poison pattern and no other error is known for what it
is; with any error more it is uncorrectable (R332, R333, R335). -/
def State.lineRead (s : State) (line : Nat) (err : BitVec 640) : State :=
  let (k, s1) := s.draw
  let poisoned := ((sget s.dram.lines line).map Prod.snd).getD false
  if poisoned then (if err = 0 then s1 else s1.dramLost line)
  else
    match readLine k err with
    | .clean => s1
    | .corrected lane =>
      let s2 := s1.noteCorrection (s1.dramDevice line lane) (s1.dramRow line)
      if miscorrects err lane then s2.spoilLine line else s2
    | .uncorrectable => s1.dramLost line

/-- DRAM_SCRUB (R332 to R335): one line of the patrol is read, with the bits that have come back wrong. -/
def execDramScrub (line : Nat) (err : BitVec 640) (s : State) : Host.Outcome State Fault Refusal :=
  .next (
    if !s.dramWorks || inTraining line || s.dramGib * 16777216 ≤ line then s
    else
      ({ s with dram := { s.dram with scrubbed := s.dram.scrubbed + 1 } }).lineRead line err)

/-! ## Alerts and live retraining (R336 to R340) -/

/-- Change a channel. -/
def DramS.modChan (d : DramS) (c : Nat) (f : DramChS → DramChS) : DramS := { d with chans := vmod d.chans c f }
/-- A channel. -/
def DramS.chan (d : DramS) (c : DramCh) : DramChS := d.chans[c.val]
/-- Some channel is retraining. -/
def DramS.retrains (d : DramS) : Bool := d.chans.toList.any (fun c => c.retrain.isSome)

/-- Ask for a live retrain: one channel in the device at a time, the others wait in channel order (R339). -/
def DramS.askRetrain (d : DramS) (c : DramCh) : DramS :=
  if (d.chan c).retrain.isSome then d
  else if d.retrains then { d with retrainWait := below 8 (fun i => i == c.val || d.retrainWait.contains i) }
  else d.modChan c.val (fun x => { x with retrain := some 0 })

/-- The next waiting channel begins. -/
def DramS.nextRetrain (d : DramS) : DramS :=
  match d.retrainWait with
  | [] => d
  | c :: t => { (d.modChan c (fun x => { x with retrain := some 0 })) with retrainWait := t }

/-- Alerts of a channel inside the window. -/
def State.alertsNow (s : State) (c : DramCh) : List Nat :=
  (s.dram.chan c).alerts.filter (fun t => decide (s.now < t + s.par P.DRM_ALERT_WINDOW_MS * 1000000))

/-- Commands that a retry buffer holds at most. -/
abbrev retryMax : Nat := 64
/-- The longest time that a replay holds a channel, in ns (R336). -/
abbrev replayNs : Nat := 2000

/-- A command fails and is issued again; one that has been replayed DRM_REPLAY_MAX times stays in the buffer until a retrain has ended (R337). -/
def State.retryOne (s : State) (l : List RetryReq) (r : DramReq) : List RetryReq :=
  let n := ((l.find? (fun x => x.req == r)).map (fun x => x.tries)).getD 0
  let out := decide (s.par P.DRM_REPLAY_MAX ≤ n)
  l.filter (fun x => x.req != r) ++ [{ req := r, tries := if out then n else n + 1, lastNs := s.now, exhausted := out }]

/-- The retry buffer of a channel after an alert: what an earlier replay has carried out leaves it. -/
def State.retryAll (s : State) (l : List RetryReq) (again : List DramReq) : List RetryReq :=
  let open' := l.filter (fun x => x.exhausted || again.contains x.req)
  let l' := again.foldl s.retryOne open'
  l'.drop (l'.length - retryMax)

/-- DRAM_ALERT (R336, R337): the event, the replay of the commands concerned, and a retrain when the replays of one are exhausted or the alerts reach
their limit. A retrain slice ends (Table 11-9). Alerts from before a retrain count on in their window after it: the spec does not say that they stop (the
model's choice, log entry 133). -/
def execDramAlert (ch : DramCh) (k : AlertKind) (again : List DramReq) (s : State) : Host.Outcome State Fault Refusal :=
  .next (
    if !s.fwRuns || !s.dram.ready || s.dram.selfRefresh then s
    else
      let old := s.alertsNow ch
      let code := match k with
        | .commandAddress => 1
        | .writeCrc => 2
      let retry := s.retryAll (s.dram.chan ch).retry again
      let d := s.dram.modChan ch.val (fun c =>
        { c with alerts := old ++ [s.now], replays := c.replays + 1, retry := retry, held := [], sliceEnd := min c.sliceEnd s.now })
      let s1 := ({ s with dram := d }).recordHw srcDram sevNotice 0x1005 ch.val code
      let limit := s.par P.DRM_ALERT_LIMIT
      if retry.any (fun x => x.exhausted) || (decide (old.length < limit) && decide (limit ≤ old.length + 1)) then
        { s1 with dram := s1.dram.askRetrain ch }
      else s1)

/-- Degrees between two temperatures. -/
def tempGap (a b : Int) : Nat := (a - b).natAbs

/-- DRAM_TEMPERATURE_CHANGE (R339): a change of DRM_RETRAIN_DELTA_C since the last training starts a retrain, at most once in
DRM_RETRAIN_MIN_S. -/
def execDramTemperatureChange (ch : DramCh) (temp : Int) (s : State) : Host.Outcome State Fault Refusal :=
  .next (
    let s1 := { s with dram := s.dram.modChan ch.val (fun c => { c with temp := temp }) }
    let rested := match (s.dram.chan ch).lastTempRetrain with
      | none => true
      | some t => decide (t + s.par P.DRM_RETRAIN_MIN_S * 1000000000 ≤ s.now)
    if s.dramWorks && rested && decide (s.par P.DRM_RETRAIN_DELTA_C ≤ tempGap temp (s.dram.chan ch).lastTemp) then
      { s1 with dram := (s1.dram.modChan ch.val (fun c => { c with lastTempRetrain := some s.now })).askRetrain ch }
    else s1)

/-- DRM_RETRAIN_NOW: 80h + channel. -/
def actRetrain (v : Nat) : Action := { refuse := fun _ => false, act := fun s => { s with dram := s.dram.askRetrain ⟨v % 8, by omega⟩ } }

/-- DRM_RETRAIN_NOW (R339; 18 R498). -/
def execDrmRetrainNow (f : Frame) (v : Nat) (s : State) : Host.Outcome State Fault Refusal :=
  .next (s.actionRequest (.drmRetrainNow f v) f P.DRM_RETRAIN_NOW v (actRetrain v))

/-- A retrain ends well: settings saved, held requests issued again, the next channel's turn. -/
def DramS.retrained (d : DramS) (c : Nat) : DramS :=
  { (d.modChan c (fun x => { x with retrain := none, retry := [], held := [], replays := 0, lastTemp := x.temp })).nextRetrain with saved := some d.rate }

/-- Longest hold of a slice, and the time for which the channel serves between slices, in ns (R339). -/
abbrev sliceHoldNs : Nat := 40000
abbrev sliceRestNs : Nat := 200000

/-- DRAM_LIVE_RETRAIN_SLICE (R339, R340, R346): a slice holds requests of the channel, the writes of some sources among them; at most 64 slices, with
service between them; a failure is a controlled stop. A 64th slice that says that more is to come changes nothing and leaves the retrain open: the spec gives
it no outcome (the model's choice, log entry 132). -/
def execDramLiveRetrainSlice (ch : DramCh) (o : RetrainRun) (s : State) : Host.Outcome State Fault Refusal :=
  .next (
    match s.dramWorks, (s.dram.chan ch).retrain with
    | true, some n =>
      if 0 < n && s.now < (s.dram.chan ch).sliceEnd + sliceRestNs then s
      else
        match o.outcome with
        | .more =>
          if n < 63 then
            { s with dram := s.dram.modChan ch.val (fun x => { x with retrain := some (n + 1), held := o.held, sliceEnd := s.now + sliceHoldNs }) }
          else s
        | .done => { s with dram := s.dram.retrained ch.val }
        | .failed => ({ s with dram := s.dram.modChan ch.val (fun x => { x with retrain := none }) }).controlledStop (some ch.val)
    | _, _ => s)

/-! ## Refresh (R341) and ordering tokens (R345) -/

/-- DRAM_REFRESH (R341): a same-bank refresh. -/
def execDramRefresh (ch : DramCh) (bank : Nat) (s : State) : Host.Outcome State Fault Refusal :=
  .next (
    let _ := bank
    if s.dram.ready && !s.dram.selfRefresh then { s with dram := s.dram.modChan ch.val (fun c => { c with refreshes := c.refreshes + 1 }) } else s)

/-- DRAM_ACTIVATION_LIMIT (R341): an extra same-bank refresh for a bank at a quarter of its rated activations. -/
def execDramActivationLimit (ch : DramCh) (bank : Nat) (s : State) : Host.Outcome State Fault Refusal :=
  .next (
    let _ := bank
    if s.dram.ready && !s.dram.selfRefresh then { s with dram := s.dram.modChan ch.val (fun c => { c with extra := c.extra + 1 }) } else s)

/-- DRAM_TOKEN_REQUEST (R345): the source's token is due once its earlier writes are visible. -/
def execDramTokenRequest (src : DramSource) (s : State) : Host.Outcome State Fault Refusal :=
  .next (if s.dram.ready && !s.dram.selfRefresh then { s with dram := { s.dram with tokens := addOnce src s.dram.tokens } } else s)

end Sys2Proof.Machine
end

