-- ==== Sys2Proof/Machine/GatherOps.lean ====
section
/-! DEFINITION. Gather Read (04 R124 to R131; 02 R57, R58; 01 R32): the checks of its command and table header, its windows, the
extraction of elements, byte reversal and reshuffle. -/

namespace Sys2Proof.Machine

/-! ## Checks -/

/-- Bytes of a SWAP width; 1 for none. -/
def swapWidth (v : BitVec 2) : Nat := if v = 1 then 2 else if v = 2 then 4 else if v = 3 then 8 else 1
/-- Bytes of a lane. -/
def laneWidth (v : BitVec 2) : Nat := if v = 1 then 2 else if v = 2 then 4 else 1

/-- Elements of a table. -/
def gatherCount (t : GatherTable) : Nat := t.nelemM1 + 1

/-- The header conditions of R125. -/
def gatherHeaderBad (t : GatherTable) (reshufGbs : Nat) : Bool :=
  t.rsvd || decide (t.esize = 0 ∨ 4096 < t.esize) || decide (t.esize % swapWidth t.swap ≠ 0) || t.reshuf == 3 || t.lwidth == 3 ||
    (if t.reshuf = 1 then decide (t.nlanes < 2 ∨ 16 < t.nlanes) || decide (t.esize % (t.nlanes * laneWidth t.lwidth) ≠ 0)
     else decide (t.nlanes ≠ 0)) ||
    (t.reshuf == 2 && decide (t.esize % 8 ≠ 0)) || (t.reshuf != 0 && decide (reshufGbs = 0))

/-- First byte of element i, within the namespace. -/
def gatherByte (t : GatherTable) (i : Nat) : Nat := t.baseLba * 4096 + t.entries[i]?.getD 0

/-- An element reaches beyond the namespace. -/
def gatherBeyond (t : GatherTable) (x : NsS) : Bool :=
  (List.range (gatherCount t)).any (fun i => decide (x.nlb * 4096 < gatherByte t i + t.esize))

/-- The verdict on a Gather Read (R58, R125). An SGL too short fails with Data SGL Length Invalid. -/
def gatherVerdict (f : GatherFields) (x : NsS) (reshufGbs : Nat) : Option Status :=
  let t := f.table
  if f.rsvd || f.fuse != 0 || f.taddr.extractLsb' 0 3 != 0 || decide (f.olen = 0 ∨ 1048576 < f.olen) || decide (f.tlen ≠ 32 + 8 * gatherCount t) ||
      decide (f.olen ≠ t.esize * gatherCount t) || gatherHeaderBad t reshufGbs then some stField
  else match dptrCheck f.dptr f.olen false with
    | some st => some st
    | none => if gatherBeyond t x then some stRange else none

/-! ## Elements (R126, R128, R129) -/

/-- Reverse the bytes of each aligned unit of w bytes. -/
def swapBytes (w : Nat) (e : List Byte) : List Byte :=
  (List.range e.length).map (fun i => e[i / w * w + (w - 1 - i % w)]?.getD 0)

/-- Lane de-interleave: the item at k * N + j moves to j * G + k. -/
def deinterleave (n w : Nat) (e : List Byte) : List Byte :=
  let g := e.length / (n * w)
  (List.range e.length).map (fun o =>
    let item := o / w
    let j := item / g
    let k := item % g
    e[(k * n + j) * w + o % w]?.getD 0)

/-- Bit i of output byte j is bit j of input byte i. -/
def transposeBlock (b : List Byte) : List Byte :=
  (List.range 8).map (fun j => BitVec.ofNat 8 ((List.range 8).map (fun i => if (b[i]?.getD 0).getLsbD j then 2 ^ i else 0)).sum)

/-- Bit-plane transpose of every aligned 8-byte block. -/
def transposeBits (e : List Byte) : List Byte :=
  (List.range (e.length / 8)).flatMap (fun q => transposeBlock ((e.drop (8 * q)).take 8))

/-- An element as it leaves the packer, or the fall-back path. -/
def shapeElement (t : GatherTable) (e : List Byte) : List Byte :=
  let s := swapBytes (swapWidth t.swap) e
  if t.reshuf = 1 then deinterleave t.nlanes (laneWidth t.lwidth) s else if t.reshuf = 2 then transposeBits s else s

/-! ## Windows -/

/-- Elements in a window (01 R32). -/
abbrev windowElems : Nat := 4096

/-- Elements of the window that starts at one. -/
def windowOf (t : GatherTable) (next : Nat) : List Nat := (List.range (min windowElems (gatherCount t - next))).map (fun i => next + i)

/-- The distinct blocks that some elements touch. -/
def windowBlocks (t : GatherTable) (is : List Nat) : List Nat :=
  is.foldl (fun l i =>
    let a := gatherByte t i
    ((List.range ((a + t.esize - 1) / 4096 + 1 - a / 4096)).map (fun k => a / 4096 + k)).foldl (fun l b => addOnce b l) l) []

/-- The bytes of element i from a window's blocks. -/
def elementBytes (t : GatherTable) (w : List (Nat × Option Block)) (i : Nat) : List Byte :=
  (List.range t.esize).map (fun k =>
    let p := gatherByte t i + k
    match (w.find? (fun e => e.1 == p / 4096)).bind Prod.snd with
    | some b => blockByte b (p % 4096)
    | none => 0)

/-- Change the progress of a gather. -/
def State.modGather (s : State) (tag : Nat) (g : GatherS → GatherS) : State :=
  s.modTag tag (fun t => { t with gather := t.gather.map g })

/-- A block of a window comes from the write cache: it goes into its cord with the marks that its lines carry (04 R133). -/
def State.cachedToGather (s : State) (tag lba : Nat) (b : Block) (bad : List Nat) : State :=
  let land := match (sget s.host.tags tag).bind (fun t => sget t.cordOf lba) with
    | some c => s.land.setBlockMarked c b (fun i => bad.contains i)
    | none => s.land
  ({ s with land := land }).toTag tag lba (some b)

/-- One block of a window has been looked up. -/
def gatherLook (tag : Nat) (a : State × List (Ploc × Nat)) (r : Nat × Resolved) : State × List (Ploc × Nat) :=
  match r.2 with
  | .now b => (a.1.toTag tag r.1 b, a.2)
  | .cached b bad => (a.1.cachedToGather tag r.1 b bad, a.2)
  | .flash p => (a.1.modTag tag (fun t => { t with locs := sput r.1 p t.locs }), a.2 ++ [(p, r.1)])
  | .leaf _ => a
  | .wait => a
  | .bad d => ((a.1.badPloc d).toTag tag r.1 none, a.2)

/-- The blocks of a window that lie in one aligned AWUN unit are looked up at one moment, as for a read (03 R83). -/
def gatherUnit (tag nsid : Nat) (n : NsS) (t : TagE) (a : State × List (Ploc × Nat)) (ls : List Nat) : State × List (Ploc × Nat) :=
  let rs := a.1.lookAll t nsid n ls
  if rs.any (fun r => r.2 == .wait) then a
  else match missesOf rs with
  | [] => rs.foldl (gatherLook tag) a
  | ms => ({ a.1 with map := ms.foldl (fun m l => m.noteMiss l t.cntl.port) a.1.map }, a.2)

/-- The groves that own some blocks of a namespace. -/
def ownersOf (x : NsS) (ls : List Nat) : List Grove :=
  ls.foldl (fun l b => match dgnOf x.segs (b / 16) with
    | some d => addOnce (groveOf d) l
    | none => l) []

/-- The FTL cores of every grove that owns one of some blocks do map work (01 R22, R32). -/
def State.ownersServe (s : State) (x : NsS) (ls : List Nat) : Bool := !(ownersOf x ls).any s.groveRestarting

/-- Each block of a window has a cord of the window's. -/
def State.placeWindow (s : State) (tag : Nat) (t : TagE) (table : List Nat) : State :=
  let used := table ++ t.cordOf.map Prod.snd
  let free := (s.land.cordsOf (.tag tag)).filter (fun c => !used.contains c)
  let bare := t.waits.filter (fun l => (sget t.cordOf l).isNone)
  s.modTag tag (fun x => { x with cordOf := (bare.zip free).foldl (fun m e => sput e.1 e.2 m) x.cordOf })

/-- Resolve the blocks of a window that nothing is fetching, and issue their reads; their cords are the window's. -/
def State.resolveWindow (s : State) (tag : Nat) (t : TagE) (f : GatherFields) (x : NsS) : State :=
  let busy := s.flash.inflight tag
  let r := (byUnit (t.waits.filter (fun l => !(busy.contains l)))).foldl (gatherUnit tag f.nsid.toNat x t) (s, [])
  (byPage r.2).foldl (fun a e => a.addOp (readOp e.1 (e.2.map Prod.fst) (classQueue t.cls) (.gather tag e.2))) r.1

/-- Free the cords of a gather but its table's. -/
def State.keepTable (s : State) (tag : Nat) (table : List Nat) : State :=
  s.freeThese ((s.land.cordsOf (.tag tag)).filter (fun c => !table.contains c))

/-- Start the next window: one cord for each distinct codeword, all or nothing (R131). -/
def State.openWindow (s : State) (tag : Nat) (t : TagE) (f : GatherFields) (g : GatherS) : State :=
  let bs := windowBlocks f.table (windowOf f.table g.next)
  let s1 := s.modTag tag (fun x =>
    { x with waits := bs, locs := [], cordOf := [], gather := some { g with window := bs.map (fun b => (b, none)) } })
  s1.askCords { user := .tag tag, res := .gather, count := bs.length, l0 := decide (t.cls = 0), port := some t.cntl.port }

/-- The bytes of element i that lie in a poisoned line of the window's cords, as a mask. -/
def State.elementMarks (s : State) (t : TagE) (f : GatherTable) (i : Nat) : List Byte :=
  (List.range f.esize).map (fun k =>
    let p := gatherByte f i + k
    if ((sget t.cordOf (p / 4096)).map (fun c => (s.land.line c (p % 4096 / 64)).2)).getD false then 0xFF else 0)

/-- The 64-byte lines of the output that the poisoned bytes of some elements reach, in the order in which the packer leaves them. -/
def State.outMarks (s : State) (t : TagE) (f : GatherTable) (from0 : Nat) (is : List Nat) : List Nat :=
  ((is.flatMap (fun i => shapeElement f (s.elementMarks t f i))).zipIdx.filter (fun e => e.1 != 0)).foldl
    (fun l e => addOnce ((from0 + e.2) / 64) l) []

/-- Close a window: its elements join the output, the stand pays for the codewords that were read (10 R318), and its cords are freed. `bad` says
whether any of them holds a poisoned line. -/
def State.closeWindow (s : State) (tag : Nat) (t : TagE) (f : GatherFields) (g : GatherS) (bad : Bool) : State :=
  let is := windowOf f.table g.next
  let out := is.flatMap (fun i => shapeElement f.table (elementBytes f.table g.window i))
  let marks := if bad then s.outMarks t f.table g.out.length is else []
  let read := ((t.locs.map Prod.snd).foldl (fun (l : List Ploc) p => if l.contains p then l else l ++ [p]) []).length
  ((s.chargeCredit (s.queueOf t) .read (4096 * read)).modGather tag (fun g =>
    { g with next := g.next + is.length, out := g.out ++ out, window := [], bad := marks.foldl (fun l n => addOnce n l) g.bad })).keepTable tag g.tableCords

/-- The output as delivered: bytes in bit bucket ranges are not sent (R115). -/
def gatherDeliver (d : Dptr) (out : List Byte) : List (Option Byte) :=
  out.mapIdx (fun i b => if dptrBucket d i then none else some b)

/-- Byte i of the index table: 32 header bytes, then the entries (R124). -/
def tableByte (f : GatherFields) (i : Nat) : Byte :=
  if i < 32 then f.header.extractLsb' (8 * i) 8
  else BitVec.ofNat 8 (f.entries[(i - 32) / 8]?.getD 0 / 256 ^ ((i - 32) % 8))

/-- Block i of the index table as it lies in its cords. -/
def tableBlock (f : GatherFields) (i : Nat) : Block :=
  BitVec.ofNat 32768 (fromBytes ((List.range (min 4096 (f.tlen - 4096 * i))).map (fun k => (tableByte f (4096 * i + k)).toNat)))

/-- The requests that fetch the index table from TADDR (02 R57; R116). -/
def State.tableTlps (s : State) (t : TagE) (f : GatherFields) : List Tlp :=
  tlpsOf (s.funcLimit t.cntl true) true [] [(0, f.taddr.toNat, f.tlen)]

/-- Begin a Gather Read: the whole table is fetched into cords of the gather reservation. They hold no data for delivery, so no port is
charged (R112). The poison policy is that of this moment (R138). -/
def State.beginGather (s : State) (tag : Nat) (t : TagE) (f : GatherFields) : State :=
  let g : GatherS := { next := 0, out := [], tableCords := [], window := [], forward := decide (s.par P.DMA_POISON_POLICY = 1) }
  let s1 := (s.modTag tag (fun x => { x with phase := .running, gather := some g })).issueTlps t.cntl.port (s.tableTlps t f)
  s1.askCords { user := .tag tag, res := .gather, count := (f.tlen + 4095) / 4096, l0 := decide (t.cls = 0), port := none }

/-- Blocks of a window whose cords a reader finds poisoned. -/
def State.badWindow (s : State) (t : TagE) : List Nat :=
  (t.cordOf.filter (fun e => s.land.poisoned e.2)).map Prod.fst

/-- The channel that a block of a tag was read from. -/
def TagE.chanOf (t : TagE) (l : Nat) : Nat := ((sget t.locs l).map plocDch).getD noChan

/-- A codeword may be read again: flash supplied it, and DMA_POISON_RETRY_MAX re-reads of it have not been made (R134). -/
def State.mayReread (s : State) (t : TagE) (l : Nat) : Bool :=
  (sget t.locs l).isSome && decide ((t.reread.filter (· == l)).length < s.par P.DMA_POISON_RETRY_MAX)

/-- The row of Table 4-5 that some poisoned blocks fall under, and the first one's channel. -/
def poisonRow (t : TagE) (bad : List Nat) : Nat × Nat :=
  (if bad.any (fun l => (sget t.locs l).isSome) then 1 else 2, (bad.head?.map t.chanOf).getD noChan)

/-- The packer meets poisoned lines in a window under RETRY_THEN_FAIL (R134): their codewords are read again into new cords, or the command
fails. -/
def State.poisonWindow (s : State) (tag : Nat) (t : TagE) (g : GatherS) (bad : List Nat) : State :=
  if bad.all (s.mayReread t) then
    let cords := bad.filterMap (fun l => sget t.cordOf l)
    let s1 := (s.freeThese cords).modTag tag (fun x =>
      { x with waits := bad, reread := x.reread ++ bad, cordOf := x.cordOf.filter (fun e => !bad.contains e.1),
               gather := some { g with window := g.window.map (fun e => if bad.contains e.1 then (e.1, none) else e) } })
    bad.foldl (fun a _ => a.askCords { user := .tag tag, res := .gather, count := 1, l0 := decide (t.cls = 0),
                                       port := some t.cntl.port }) s1
  else (s.poisonEvent sevError (poisonRow t bad).1 (poisonRow t bad).2).failTag tag stUnrecovered

/-- A window ends: the next one starts, or the output is delivered. -/
def State.windowEnds (s : State) (tag : Nat) (t : TagE) (f : GatherFields) (g : GatherS) (bad : Bool) : State :=
  let s1 := s.closeWindow tag t f g bad
  match (sget s1.host.tags tag).bind (fun y => y.gather) with
  | none => s1
  | some g1 =>
    if g1.next < gatherCount f.table then s1.openWindow tag t f g1
    else s1.beginTransfer tag ((f.olen + 4095) / 4096)

/-- A step of a running gather: the table has arrived, a window resolves, ends, or the output is delivered. Where poison is found in the cords of the
index table, the command fails with Data Transfer Error, as for any data that it takes from the host; under FORWARD a window with poisoned lines is
packed all the same, and what they reach is marked (the first is the model's choice, log entry 45). -/
def State.stepGather (s : State) (tag : Nat) (t : TagE) (f : GatherFields) (x : NsS) (g : GatherS) : State :=
  if g.tableCords.isEmpty then
    let cs := s.land.cordsOf (.tag tag)
    let s1 := { s with land := s.land.setBlocks cs ((List.range cs.length).map (tableBlock f)) }
    (s1.modGather tag (fun g => { g with tableCords := cs })).openWindow tag t f { g with tableCords := cs }
  else if g.tableCords.any s.land.poisoned then (s.poisonEvent sevError 1 noChan).failTag tag stTransfer
  else if !s.ownersServe x (g.window.map Prod.fst) then s
  else if !t.waits.isEmpty then
    let s1 := s.placeWindow tag t g.tableCords
    match sget s1.host.tags tag with
    | some t1 => s1.resolveWindow tag t1 f x
    | none => s1
  else match t.failure with
    | some st => s.failTag tag st
    | none =>
      match s.badWindow t with
      | [] => s.windowEnds tag t f g false
      | b :: rest =>
        if g.forward then
          (s.poisonEvent sevError (poisonRow t (b :: rest)).1 (poisonRow t (b :: rest)).2).windowEnds tag t f g true
        else s.poisonWindow tag t g (b :: rest)

end Sys2Proof.Machine
end

