-- ==== Sys2Proof/Machine/MoveOps.lean ====
section
/-! DEFINITION. DMA descriptors and their execution (04 R103 to R108, R117), and the reactions to parity errors and poison (04 R132
to R137; 02 Table 2-5). -/

namespace Sys2Proof.Machine

/-! ## Descriptors (Table 4-1) -/

/-- DADDR. -/
def descDst (d : DmaDesc) : Nat := (d.extractLsb' 192 64).toNat
/-- SADDR. -/
def descSrc (d : DmaDesc) : Nat := (d.extractLsb' 128 64).toNat
/-- LEN. -/
def descLen (d : DmaDesc) : Nat := (d.extractLsb' 96 24).toNat
/-- TAG. -/
def descTag (d : DmaDesc) : Nat := (d.extractLsb' 80 16).toNat
/-- DKIND. -/
def descDKind (d : DmaDesc) : Nat := (d.extractLsb' 68 4).toNat
/-- SKIND. -/
def descSKind (d : DmaDesc) : Nat := (d.extractLsb' 64 4).toNat
/-- HMODE. -/
def descHMode (d : DmaDesc) : Nat := (d.extractLsb' 62 2).toNat
/-- CTX. -/
def descCtx (d : DmaDesc) : Nat := (d.extractLsb' 72 8).toNat
/-- CMD. -/
def descCmd (d : DmaDesc) : Bool := d.getLsbD 59
/-- FENCE. -/
def descFence (d : DmaDesc) : Bool := d.getLsbD 58
/-- LAST. -/
def descLast (d : DmaDesc) : Bool := d.getLsbD 57
/-- NOTIFY. -/
def descNotify (d : DmaDesc) : Bool := d.getLsbD 56

/-- A reserved field is set. -/
def descRsvd (d : DmaDesc) : Bool := d.extractLsb' 120 8 != 0 || d.extractLsb' 60 2 != 0 || d.extractLsb' 0 56 != 0

/-- A descriptor of a read engine. -/
def descReads (d : DmaDesc) : Bool := descSKind d != 2

/-- The kinds that an engine takes. -/
def descKindsOk (d : DmaDesc) (reads : Bool) : Bool :=
  if reads then (descSKind d == 0 || descSKind d == 1 || descSKind d == 3) && descDKind d == 2
  else descSKind d == 2 && (descDKind d == 0 || descDKind d == 1 || descDKind d == 4)

/-- DESC_ERR (R105). -/
def descBad (d : DmaDesc) (reads : Bool) : Bool := descRsvd d || !descKindsOk d reads || descHMode d == 3

/-- A line from its bytes. -/
def lineOf (f : Nat → Byte) : Line := BitVec.ofNat 512 (((List.range 64).map (fun i => (f i).toNat * 256 ^ i)).sum)

/-- Byte i of a line. -/
def lineByte (l : Line) (i : Nat) : Byte := l.extractLsb' (8 * i) 8

/-- The blocks that a command carries in host memory. -/
def cmdData : NvmeCmd → List Block
  | .write f => f.data
  | .orderedWrite f => f.data
  | .compare f => f.data
  | _ => []

/-- Byte at an address of host memory: by bus address, or by byte offset into the data of a command. -/
def State.hostByte (s : State) (mode tag a draw : Nat) : Byte :=
  if mode = 0 then lineByte (Config.hostLine (a / 64) draw) (a % 64)
  else match sget s.host.tags tag with
    | some t => blockByte ((cmdData t.cmd)[a / 4096]?.getD 0) (a % 4096)
    | none => lineByte (Config.hostLine (a / 64) draw) (a % 64)

/-- A line of DRAM. -/
def DramS.line (d : DramS) (a : Nat) : Line × Bool := (sget d.lines a).getD (0, false)

/-- A line of Landing by its number: cord * 64 + line, of 27 address bits. -/
def LandS.lineAt (l : LandS) (n : Nat) : Line × Bool := ((sget l.lines (n % 2097152)).map LandLine.view).getD (0, false)

/-- Source byte i of a descriptor, and whether its line is poisoned. -/
def State.srcByte (s : State) (d : DmaDesc) (draw i : Nat) : Byte × Bool :=
  let a := descSrc d + i
  if descSKind d = 0 then (s.hostByte (descHMode d) (descTag d) a draw, false)
  else if descSKind d = 1 then (lineByte (s.dram.line (a / 64)).1 (a % 64), (s.dram.line (a / 64)).2)
  else if descSKind d = 3 then (lineByte (Config.codecLine (descSrc d % 64) (i / 64) draw) (i % 64), false)
  else (lineByte (s.land.lineAt (a / 64)).1 (a % 64), (s.land.lineAt (a / 64)).2)

/-- What a descriptor makes of destination line n: covered bytes take the source's, and the rest keep their own; a line that is
covered only in part keeps its poison (R132, R133). -/
def State.movedLine (s : State) (d : DmaDesc) (draw n : Nat) (old : Line × Bool) : Line × Bool :=
  let covered := below 64 (fun b => decide (descDst d ≤ 64 * n + b) && decide (64 * n + b < descDst d + descLen d))
  (lineOf (fun b => if covered.contains b then (s.srcByte d draw (64 * n + b - descDst d)).1 else lineByte old.1 b),
   covered.any (fun b => (s.srcByte d draw (64 * n + b - descDst d)).2) || (decide (covered.length < 64) && old.2))

/-- The destination lines of a descriptor. -/
def descLines (d : DmaDesc) : List Nat :=
  if descLen d = 0 then []
  else (List.range ((descDst d + descLen d - 1) / 64 + 1 - descDst d / 64)).map (fun i => descDst d / 64 + i)

/-- The lines, by their place in a descriptor's transfer, some byte of whose source a reader finds poisoned. -/
def State.descBadLines (s : State) (d : DmaDesc) : List Nat :=
  (List.range ((descLen d + 63) / 64)).filter (fun i =>
    (List.range (min 64 (descLen d - 64 * i))).any (fun k => (s.land.lineAt ((descSrc d + 64 * i + k) / 64)).2))

/-- The port that a descriptor's host side goes through: that of its command, or port 0 where it serves none (the model's choice, log
entry 123). -/
def State.descPort (s : State) (d : DmaDesc) : Port :=
  if descCmd d then ((sget s.host.tags (descTag d)).map (fun t => t.cntl.port)).getD 0 else 0

/-- The TLPs of a descriptor's host side: by bus address, or through the PRP list or SGL of its command (Table 4-1). Under RETRY_THEN_FAIL a
TLP that would carry bytes of a poisoned line is not sent (Table 4-4); `forward` is the policy of the context. -/
def State.descTlps (s : State) (d : DmaDesc) (forward : Bool) : List Tlp :=
  let reads := descSKind d == 0
  let a := if reads then descSrc d else descDst d
  let tag := if descCmd d then some (descTag d) else none
  let ep := if reads then [] else s.descBadLines d
  let l := if descHMode d = 0 then tlpsOf (s.tlpLimit tag reads) reads ep [(0, a, descLen d)]
    else s.bufferTlps (descTag d) reads ep a (descLen d)
  if forward then l else l.filter (fun x => !x.ep)

/-- Move the bytes of one descriptor. What goes to the host leaves the block, and its TLPs are issued; the lines that go to a channel encoder
keep their marks there (R133). -/
def State.moveDesc (s : State) (d : DmaDesc) (forward : Bool) : State :=
  let (k, s0) := s.draw
  let s1 := if descSKind d = 0 || descDKind d = 0 then s0.issueTlps (s.descPort d) (s.descTlps d forward)
    else if descDKind d = 4 then { s0 with land := { s0.land with encMarks := sputD [] (descDst d % 64) (s.descBadLines d) s0.land.encMarks } }
    else s0
  if descDKind d = 2 then
    { s1 with land := { s1.land with lines := (descLines d).foldl (fun m n =>
        sput (n % 2097152) (LandLine.written (s.movedLine d k n (s.land.lineAt n)).1 (s.movedLine d k n (s.land.lineAt n)).2) m) s1.land.lines } }
  else if descDKind d = 1 then
    { s1 with dram := { s1.dram with lines := (descLines d).foldl (fun m n =>
        sputD (0, false) n (s.movedLine d k n (s.dram.line n)) m) s1.dram.lines } }
  else s1

/-- The end of a chain: it ran to its LAST descriptor, which asked for a token or not, or met a bad descriptor. -/
inductive ChainEnd where
  | ran (fence notify : Bool)
  | bad (d : DmaDesc)
  deriving DecidableEq, Repr

/-- Execute a chain strictly in order (R104, R105). A bad descriptor ends it without moving that descriptor's data; what earlier descriptors of the
chain have moved stays moved (the model's choice, log entry 124). -/
def runChain (reads forward : Bool) : List DmaDesc → State → State × ChainEnd
  | [], s => (s, .ran false false)
  | d :: t, s =>
    if descBad d reads then (s, .bad d)
    else
      let s1 := s.moveDesc d forward
      if descLast d || t.isEmpty then (s1, .ran (descFence d && descDKind d == 1) (descNotify d)) else runChain reads forward t s1

/-! ## Failing a command -/

/-- Drop the DMA contexts of a tag. -/
def State.dropCtxs (s : State) (tag : Nat) : State :=
  ({ s with land := { s.land with ctxs := skeep (fun _ c => c.tag != some tag) s.land.ctxs } }).modTag tag (fun t => { t with ctxLeft := 0 })

/-- A command is a write whose groups have not entered the index. -/
def State.unpublished (s : State) (t : TagE) : Bool :=
  !t.groups.isEmpty && waitsMedia t.cmd && t.groups.any (fun q => match sget s.cache.groups q.toNat with
    | some g => !g.visible
    | none => false)

/-- Fail a command of any kind: its contexts end, a write enters nothing, and an operation that it began goes on without it. -/
def State.failAny (s : State) (tag : Nat) (st : Status) : State :=
  match sget s.host.tags tag with
  | none => s
  | some t =>
    if s.unpublished t then s.failWrite tag st
    else
      let s1 := s.dropCtxs tag
      ((s1.orphan [tag]).complete tag st).feedCtxs

/-! ## Poison (R133 to R136) -/

/-- The owner of a cord. -/
def LandS.ownerOf (l : LandS) (cord : Nat) : Option CordUser := (l.grants.find? (fun g => g.cords.contains cord)).map (fun g => g.req.user)

/-- A parity bit of a line goes wrong, where the line holds anything; a cord that will fail the built-in test is noted (R132, R136). The
bit is that of byte 0: any other would mark the same line. -/
def LandS.flipLine (l : LandS) (cord line : Nat) (bad : Bool) : LandS :=
  { l with lines := smod (cord * 64 + line) (fun x => { x with parity := x.parity ^^^ 1 }) l.lines
           suspect := if bad then addOnce cord l.suspect else l.suspect }

/-- A parity error in a Landing line. It has effect only where the line is consumed (R133). -/
def State.landingParity (s : State) (cord line : Nat) (bad : Bool) : State :=
  match s.land.ownerOf cord with
  | none => s
  | some _ => { s with land := s.land.flipLine cord (line % 64) bad }

/-- Blocks of a reading command whose cords a reader finds poisoned. -/
def State.badBlocks (s : State) (t : TagE) : List Nat := (t.cordOf.filter (fun e => s.land.poisoned e.2)).map Prod.fst

/-- The poisoned lines of a delivery, by their place in the transfer. -/
def State.epLines (s : State) (t : TagE) (f : RwFields) : List Nat :=
  t.cordOf.flatMap (fun e => (s.land.badLines e.2).map (fun i => (e.1 - f.slba) * 64 + i))

/-- Some blocks are read again from where the read found them, each into a new cord (R134). -/
def State.rereadBlocks (s : State) (tag : Nat) (t : TagE) (f : RwFields) (bad : List Nat) : State :=
  let host := (s.land.cordsOf (.tag tag)).filter (fun c => !(t.cordOf.map Prod.snd).contains c)
  let s1 := s.freeThese (bad.filterMap (fun l => sget t.cordOf l) ++ host)
  let s2 := s1.modTag tag (fun x =>
    { x with got := bad.foldl (fun g l => g.set (l - f.slba) none) x.got, waits := bad, reread := x.reread ++ bad,
             cordOf := x.cordOf.filter (fun e => !bad.contains e.1) })
  let s3 := match t.cmd with
    | .compare _ => s2.askTag tag (rwLen f) t.cntl.port false none
    | _ => s2
  s3.continueRead tag

/-- A reading command meets poisoned lines (Table 4-5, rows 1 to 3): they are read again while that may be, or the command fails; under
FORWARD a Read is delivered with EP set on what is poisoned, and fails. -/
def State.poisonRead (s : State) (tag : Nat) (t : TagE) (f : RwFields) (forward : Bool) (bad : List Nat) : State :=
  let isCompare := match t.cmd with
    | .compare _ => true
    | _ => false
  let fwd := forward && !isCompare
  if !fwd && bad.all (s.mayReread t) then s.rereadBlocks tag t f bad
  else
    let row := if isCompare then 3 else if bad.any (fun l => (sget t.locs l).isSome) then 1 else 2
    let s1 := s.poisonEvent sevError row ((bad.head?.map t.chanOf).getD noChan)
    if fwd then
      let ep := s.epLines t f
      let s2 := s1.issueTlps t.cntl.port (s1.listTlps t ++ s1.dataTlps t false ep 0 (4096 * rwLen f))
      s2.complete tag stUnrecovered 0 (dptrDeliver f.dptr (t.got.map (fun b => b.getD 0))) ep
    else s1.complete tag stUnrecovered

/-! ## Parity of other tables (Table 4-6) -/

/-- Both routing copies of a tag have failed: the tag is retired until device reset, and its command is never completed. -/
def State.retireTag (s : State) (tag : Nat) : State :=
  match sget s.host.tags tag with
  | none => s
  | some t =>
    let s1 := (s.dropCtxs tag).freeCords (.tag tag)
    let gone := fun (q : Nat) (g : CGroup) => t.groups.any (fun d => d.toNat == q) && !g.visible
    let s2 := (s1.returnCharge (s1.standOfCmd t.cmd) t.charge)
    let groups := skeep (fun q g => !(waitsMedia t.cmd && gone q g)) s2.cache.groups
    let kept := t.groups.filter (fun q => (sget groups q.toNat).isSome)
    let s3 := { s2 with
      cache := { s2.cache with groups := groups }
      host := { s2.host with tags := smap (fun _ => coverDone tag kept) (sdel tag s2.host.tags)
                             retiredTags := addOnce tag s2.host.retiredTags } }
    (s3.orphan [tag]).feedCtxs.sweepFlushes

/-- A reading command whose data came from flash: its context can be run again. -/
def TagE.flashBacked (t : TagE) : Bool :=
  !t.locs.isEmpty && (match t.cmd with
    | .gatherRead _ => true
    | c => (readFields c).isSome)

/-- A context whose storage has failed ends (Table 4-6): it is run again where its command's data came from flash; any other command that it serves
fails. `owner` is that command. -/
def State.contextParity (s : State) (n : Nat) (owner : Option Nat) : State :=
  let s1 := { s with land := { s.land with ctxs := sdel n s.land.ctxs } }
  match owner with
  | none => s1.recordHw srcDma sevError 0x0804 2
  | some tag =>
    if ((sget s.land.ctxs n).isSome && ((sget s1.host.tags tag).map TagE.flashBacked).getD false) then
      ((s1.recordHw srcDma sevWarning 0x0804 2).modTag tag (fun t => { t with ctxLeft := t.ctxLeft + 1 })).feedCtxs
    else (s1.recordHw srcDma sevError 0x0804 2).failAny tag stInternal

/-- A die queue's entry has failed: the operation is withdrawn and issued again from the FTL core's copy, at the end of its queue. -/
def State.dieQueueParity (s : State) (i : Nat) : State :=
  match s.flash.op i with
  | some o =>
    if o.stage == .queued then
      let f := s.flash.modDie o.key (fun d =>
        { d with q1 := d.q1.filter (· != i), q2 := d.q2.filter (· != i), q3 := d.q3.filter (· != i),
                 q4 := d.q4.filter (· != i), q5 := d.q5.filter (· != i) })
      ({ s with flash := f.enqueue i }).recordHw (srcSeq o.ch) sevWarning 0x0804 3
    else s
  | none => s

/-- What the internal checks met. -/
def State.parity (s : State) (n : Nat) (owner : Option Nat) (p : ParityEvent) : State :=
  match p with
  | .none => s
  | .landingLine cord line bad => s.landingParity cord line bad
  | .contextStore => s.contextParity n owner
  | .tagFields tag => if (sget s.host.tags tag).isSome then (s.recordHw srcFront sevError 0x0804 1).failAny tag stInternal else s
  | .tagRouting tag => if (sget s.host.tags tag).isSome then (s.retireTag tag).recordHw srcFront sevCritical 0x0804 1 else s
  | .keyStore nsid =>
    if (s.nvm.ns nsid).isSome then
      ({ s with nvm := s.nvm.modNs nsid (fun x => { x with keyLoaded := x.keyValid }) }).recordHw srcCrypt sevWarning 0x0804 4
    else s
  | .dieQueue i => s.dieQueueParity i
  | .dramLine _ _ => s

/-! ## The end of a context -/

/-- No context of a command runs or is still to start. -/
def State.transferred (s : State) (tag : Nat) : Bool := !s.transferring tag

/-- A re-read has recovered a command's data: the WARNING of R134. -/
def State.noteReread (s : State) (t : TagE) (row : Nat) : State :=
  match t.reread with
  | [] => s
  | l :: _ => s.poisonEvent sevWarning row (t.chanOf l)

/-- A read is delivered. -/
def State.delivered (s : State) (tag : Nat) (t : TagE) (f : RwFields) : State :=
  let s1 := s.noteReread t 1
  s1.returnData tag t (4096 * rwLen f) 0 (dptrDeliver f.dptr (t.got.map (fun b => b.getD 0)))

/-- A Compare has both its blocks and the host's data (02 R52): poisoned blocks are read again; host data that is poisoned fails it with Data
Transfer Error, as for a write (the model's choice, log entry 45). -/
def State.compared (s : State) (tag : Nat) (t : TagE) (f : RwFields) : State :=
  match s.badBlocks t with
  | b :: rest => s.poisonRead tag t f false (b :: rest)
  | [] =>
    if (s.land.cordsOf (.tag tag)).any s.land.poisoned then (s.poisonEvent sevError 4 noChan).complete tag stTransfer
    else (s.noteReread t 3).complete tag (if t.got = f.data.map some then stOk else stCompare)

/-- The contexts of a write have ended (R122, R134): poisoned data fails it, and nothing enters the index. Once the read engines have pulled the data,
write engines carry it into the write cache; with the signal of the last of these, which had FENCE set, the groups are sealed and enter the index
(R282). -/
def State.pulled (s : State) (tag : Nat) (t : TagE) (f : RwFields) : State :=
  if (s.land.cordsOf (.tag tag)).any s.land.poisoned then (s.poisonEvent sevError 4 noChan).failWrite tag stTransfer
  else if t.toCache then s.publishWrite tag t
  else (s.modTag tag (fun x => { x with toCache := true })).beginTransfer tag (rwLen f)

/-- The blocks of a read stand in Landing: clean ones are delivered. -/
def State.readMovedOut (s : State) (tag : Nat) (t : TagE) (f : RwFields) (forward : Bool) : State :=
  match s.badBlocks t with
  | b :: rest => s.poisonRead tag t f forward (b :: rest)
  | [] => s.delivered tag t f

/-- The output of a Gather Read is delivered; what poison has reached under FORWARD goes with EP set, and the command fails (Table 4-5). -/
def State.gatherOut (s : State) (tag : Nat) (t : TagE) (f : GatherFields) (g : GatherS) : State :=
  let data := Payload.bytes (gatherDeliver f.dptr g.out)
  if g.bad.isEmpty then (s.noteReread t 1).returnData tag t f.olen 0 data
  else (s.issueTlps t.cntl.port (s.listTlps t ++ s.dataTlps t false g.bad 0 f.olen)).complete tag stUnrecovered 0 data g.bad

/-- The host transfer of a command is over (R119, R122); `forward` is the poison policy of the context that ended. -/
def State.transferDone (s : State) (tag : Nat) (forward : Bool) : State :=
  match sget s.host.tags tag with
  | none => s
  | some t =>
    if t.phase != .running || !s.transferred tag then s
    else match t.cmd with
      | .read f => s.readMovedOut tag t f forward
      | .orderedRead f => s.readMovedOut tag t f forward
      | .compare f => s.compared tag t f
      | .write f => s.pulled tag t f
      | .orderedWrite f => s.pulled tag t f
      | .gatherRead f => match t.gather with
        | some g => s.gatherOut tag t f g
        | none => s
      | _ => s

/-- A context has ended: it is idle again, and its command goes on. -/
def State.ctxDone (s : State) (n : Nat) : State :=
  match sget s.land.ctxs n with
  | none => s
  | some c =>
    let s1 := ({ s with land := { s.land with ctxs := sdel n s.land.ctxs } }).feedCtxs
    match c.tag with
    | some tag => s1.transferDone tag c.forward
    | none => s1

/-- DESC_ERR (R105): its report to the issuer, the event, and the failure of the command that owned the context. -/
def State.descError (s : State) (n : Nat) (owner : Option Nat) : State :=
  let s1 := ({ s with land := { s.land with ctxs := sdel n s.land.ctxs, reports := sput n true s.land.reports } }).recordHw srcDma
    sevError 0x0801 n (owner.getD 0xFFFFFFFF)
  match owner with
  | some t => s1.failAny t stInternal
  | none => s1.feedCtxs

end Sys2Proof.Machine
end

