-- ==== Sys2Proof/Machine/DataMove.lean ====
section
/-! DEFINITION. The commands of data movement (04; 02 Table 2-5; 01 R32). -/

namespace Sys2Proof.Machine

/-- A context reports its completion to its issuer, where NOTIFY asks for it (Table 4-1). -/
def State.reportDone (s : State) (n : Nat) (notify : Bool) : State :=
  if notify then { s with land := { s.land with reports := sput n false s.land.reports } } else s

/-- A chain has run on an engine: a context whose last descriptor asks for a token leaves its engine and waits for it, any other signals its
completion (R106, R121). -/
def State.chainEnds (s : State) (n : Nat) (owner ran : Option Nat) (fence notify forward : Bool) : State :=
  if fence then
    let c : CtxS := { tag := owner, fence := true, notify := notify, forward := forward, ran := ran }
    { s with land := ({ s.land with ctxs := sput n c s.land.ctxs } : LandS).runCtxs }
  else (s.reportDone n notify).ctxDone n

/-- The front end sets FENCE on the last descriptor of a context that carries a command's data into the write cache (R122). A command of several
contexts has it set in each, since a token answers for one engine alone (log entry 125). -/
def State.fenced (s : State) (c : CtxS) : Bool := c.writes && ((c.tag.bind (fun t => sget s.host.tags t)).map (fun t => t.toCache)).getD false

/-- The command that a chain serves. -/
def chainOwner (chain : List DmaDesc) : Option Nat := (chain.find? descCmd).map descTag

/-- The kind of engine that a chain runs on is that of its first descriptor, so that a chain which mixes both kinds ends with DESC_ERR (the
model's choice, log entry 98). -/
def chainReads (chain : List DmaDesc) : Bool := (chain.head?.map descReads).getD true

/-- A context runs: it has an engine, or, where the front end did not start it, an engine of its kind is free (R103, R104). -/
def LandS.mayRun (l : LandS) (n : Nat) (chain : List DmaDesc) : Bool :=
  match sget l.ctxs n with
  | some c => !c.fence && c.engine.isSome
  | none => !chain.isEmpty && (l.freeEngine (!chainReads chain)).isSome

/-- A DRAM line that the context reads comes back with errors (11 R332, R333). -/
def State.readErrors (s : State) (p : ParityEvent) : State :=
  match p with
  | .dramLine line err => if s.dramWorks then s.lineRead line err else s
  | _ => s

/-- A context as it runs: a listed one, or one that firmware started, which takes the free engine and the policy of this moment. -/
def State.ctxFor (s : State) (n : Nat) (chain : List DmaDesc) : CtxS :=
  match sget s.land.ctxs n with
  | some c => { c with tag := c.tag.or (chainOwner chain) }
  | none => { tag := chainOwner chain, fence := false, engine := s.land.freeEngine (!chainReads chain), writes := !chainReads chain,
              forward := !s.retries }

/-- Every descriptor of a chain names the context that runs it; a chain of another context is not this one's, and nothing of it is executed (the
model's choice, log entry 126). -/
def chainOf (n : Nat) (chain : List DmaDesc) : Bool := chain.all (fun d => descCtx d == n)

/-- DMA_CONTEXT_COMPLETE (R104 to R106, R132 to R137): the chain is executed, what the parity checks met is dealt with, and the
context signals its completion, waits for its token, or ends with DESC_ERR. A context whose own storage fails ends at once, also while it waits for
an engine or for its token. -/
def execDmaContextComplete (ctx : Fin 256) (chain : List DmaDesc) (parity : ParityEvent) (s : State) :
    Host.Outcome State Fault Refusal :=
  .next (
    let c := s.ctxFor ctx.val chain
    let listed := (sget s.land.ctxs ctx.val).isSome
    if !s.fwRuns then s
    else if parity == .contextStore && (listed || s.land.mayRun ctx.val chain) then s.contextParity ctx.val c.tag
    else if !s.land.mayRun ctx.val chain || !chainOf ctx.val chain then s
    else
      let r := runChain (!c.writes) c.forward chain (s.readErrors parity)
      match r.2 with
      | .bad _ => r.1.descError ctx.val c.tag
      | .ran fence notify =>
        let s1 := r.1.parity ctx.val c.tag parity
        if (sget s1.land.ctxs ctx.val).isNone && listed then s1
        else s1.chainEnds ctx.val c.tag c.engine (fence || (listed && s.fenced c)) notify c.forward)

/-- The source of a DMA engine (11 Table 11-8). -/
def engineSource (e : Nat) : DramSource := if e < 16 then .readEngine ⟨e % 16, by omega⟩ else .writeEngine ⟨e % 16, by omega⟩

/-- A write of a source is not yet visible: a replay of it is under way or exhausted, or a retrain slice holds it (11 R346). -/
def State.writesHeld (s : State) (src : DramSource) : Bool :=
  s.dram.chans.toList.any (fun c =>
    c.retry.any (fun x => x.req.src == src && x.req.write && (x.exhausted || decide (s.now < x.lastNs + replayNs))) ||
    (c.held.contains src && decide (s.now < c.sliceEnd)))

/-- The contexts that carry a write's data into the write cache and wait for their tokens. -/
def LandS.fencedOf (l : LandS) (tag : Nat) : List Nat := (l.ctxs.filter (fun e => e.2.tag == some tag && e.2.fence)).map Prod.fst

/-- The sources whose earlier writes a token waits for: the engine that a context ran on. -/
def State.tokenSources (s : State) (k : TokenFor) : List DramSource :=
  let ran := fun (n : Nat) => (((sget s.land.ctxs n).bind (fun c => c.ran)).toList).map engineSource
  match k with
  | .context n => ran n.val
  | .writeData tag => (s.land.fencedOf tag).flatMap ran
  | .source src => [src]

/-- The token of a waiting context arrives: the context signals its completion. -/
def State.tokenAt (s : State) (n : Nat) : State :=
  match sget s.land.ctxs n with
  | some c => if c.fence then (s.reportDone n c.notify).ctxDone n else s
  | none => s

/-- ORDERING_TOKEN (R120 to R122; 03 R81; 11 R345, R346): a waiting context signals its completion, and with the last one that carries a write's data
into the write cache the write's groups enter the index; a token request is answered. A token waits for the source's earlier writes. Nothing enters
the index once the power-loss dump runs (09 R292). -/
def execOrderingToken (k : TokenFor) (s : State) : Host.Outcome State Fault Refusal :=
  .next (if (s.tokenSources k).any s.writesHeld || s.plp.dumping then s else match k with
    | .context n => s.tokenAt n.val
    | .writeData tag => (s.land.fencedOf tag).foldl State.tokenAt s
    | .source src => { s with dram := { s.dram with tokens := s.dram.tokens.filter (· != src) } })

/-- The sealed copy of a page whose write-back is in flight stands in its cord, once it has one (05 R168). -/
def State.sealPage (s : State) (lpn : Nat) : State :=
  let w := (s.nvm.lease0.writing ++ s.nvm.lease1.writing).find? (fun w => w.1 == lpn)
  match w with
  | some w => { s with land := s.land.setBlocks (s.land.cordsOf (.lease lpn)) [s.map.sealedPage lpn w.2.2] }
  | none => s

/-- CORD_GRANT (R110 to R113): the first waiting request that is served gets its cords, and its command goes on. -/
def execCordGrant (s : State) : Host.Outcome State Fault Refusal :=
  .next (match s.nextShare with
    | none => s
    | some (r, own) =>
      let s1 := ({ s with land := { s.land with waiting := s.land.waiting.erase r } }).grant r own
      match r.user with
      | .tag t => (s1.pullData t).readArrived t
      | .lease lpn => s1.sealPage lpn
      | _ => s1)

/-- The gather that a tag runs may take a step. -/
def State.gatherReady (s : State) (tag : Nat) (t : TagE) : Bool :=
  s.ioServed && t.phase == .running && !s.land.tagWaits tag && !s.transferring tag

/-- GATHER_WINDOW (01 R32; R126, R131): the table has arrived, a window is resolved, or it ends and the next one starts or the
output is delivered. -/
def execGatherWindow (tag : Nat) (s : State) : Host.Outcome State Fault Refusal :=
  .next (match sget s.host.tags tag with
    | none => s
    | some t => match t.cmd, t.gather with
      | .gatherRead f, some g => match s.nvm.ns f.nsid.toNat with
        | some x => if s.gatherReady tag t then s.stepGather tag t f x g else s
        | none => s
      | _, _ => s)

/-! ## Host reads that fail (02 Table 2-5) -/

/-- The AER log entry of a function. -/
def State.aer (s : State) (c : Nat) (a : AerLog) : State :=
  { s with host := s.host.modFunc c (fun f => { f with aerLog := f.aerLog ++ [a] }) }

/-- A lease fetch fails or its copy does not pass (05 R169): it is discarded and counted, the slot forgets the page, and the page is
read from flash. -/
def State.discardLease (s : State) (p : Port) (lpn : Nat) : State :=
  match sget s.map.pages lpn with
  | none => s
  | some _ =>
    let l := s.nvm.lease p
    let l' := { l with fetching := l.fetching.filter (· != lpn), discard := l.discard + 1,
                       slots := l.slots.filter (fun e => e.2 != lpn) }
    let s1 := { s with nvm := s.nvm.setLease p l',
                       map := { s.map with pages := smod lpn (fun x => { x with leased := false }) s.map.pages } }
    let s2 := s1.recordHw (srcFtl (groveOf lpn)) sevWarning 0x0A05 p.val (lpn % 4294967296) (lpn / 4294967296)
    (s2.freeCords (.lease lpn)).readLeaf lpn

/-- A list that an I/O command takes from its buffer as it runs: ranges, or reservation keys. -/
def takesList : NvmeCmd → Bool
  | .dsm _ _ _ => true
  | .orderedDsm _ _ _ => true
  | .resvRegister _ _ _ _ _ _ => true
  | .resvAcquire _ _ _ _ _ _ => true
  | .resvRelease _ _ _ _ _ => true
  | _ => false

/-- A command pulls blocks from the host. -/
def takesBlocks : NvmeCmd → Bool
  | .write _ => true
  | .orderedWrite _ => true
  | .compare _ => true
  | _ => false

/-- A command is reading, or is still to read, its data, its PRP list or SGL, or its index table. -/
def TagE.readsHost (t : TagE) (r : HostRead) : Bool :=
  let list := takesList t.cmd && t.phase == .dispatched
  let blocks := takesBlocks t.cmd && t.phase == .running && !t.toCache
  match r with
  | .writeData _ =>
    if t.sqid = 0 then t.phase == .accepted && ((adminXfer t.cmd).map Prod.snd).getD false else list || blocks
  | .prpSgl _ =>
    if t.sqid = 0 then t.phase == .accepted && (adminXfer t.cmd).isSome
    else list || blocks || (transferWrites t.cmd && (t.phase == .dispatched || t.phase == .running))
  | .gatherTable _ => t.phase == .running && ((t.gather.map (fun g => g.tableCords.isEmpty)).getD false)
  | _ => false

/-- A command whose data, PRP list, SGL or index table could not be read fails, and nothing of it is written. -/
def State.hostTagFails (s : State) (tag : Nat) (r : HostRead) (a : AerLog) : State :=
  match sget s.host.tags tag with
  | none => s
  | some t => if t.readsHost r && s.host.present t.cntl then (s.aer t.cntl.val a).failAny tag stTransfer else s

/-- The function sets CSTS.CFS; other functions are unaffected. -/
def State.cfsOf (s : State) (c : Cntl) : State := { s with host := s.host.modFunc c.val (fun f => { f with cfs := true }) }

/-- A read of host memory fails for one of the reasons of Table 2-5. -/
def State.hostReadFails (s : State) (r : HostRead) (a : AerLog) : State :=
  match r with
  | .writeData tag => s.hostTagFails tag r a
  | .prpSgl tag => s.hostTagFails tag r a
  | .gatherTable tag => s.hostTagFails tag r a
  | .sqEntry c => if s.host.present c then (s.aer c.val a).cfsOf c else s
  | .leaseFetch lpn =>
    match (List.finRange 2).find? (fun p => (s.nvm.lease p).fetching.contains lpn) with
    | some p => if s.groveRestarting (groveOf lpn) then s else (s.aer p.pf.val a).discardLease p lpn
    | none => s

/-- POISONED_COMPLETION (02 R48, Table 2-5). -/
def execPoisonedCompletion (r : HostRead) (s : State) : Host.Outcome State Fault Refusal :=
  .next (s.hostReadFails r .poisonedTlp)

/-- COMPLETION_TIMEOUT (02 R48, Table 2-5). -/
def execCompletionTimeout (r : HostRead) (s : State) : Host.Outcome State Fault Refusal :=
  .next (s.hostReadFails r .completionTimeout)

end Sys2Proof.Machine
end

