-- ==== Sys2Proof/Machine/Io.lean ====
section
/-! DEFINITION. I/O commands (02 R52 to R58, R66; 03 R79 to R96; 04 R125). -/

namespace Sys2Proof.Machine

/-- FLUSH (03 R86 to R90): the covered data is forced to media; the command completes once it is there. -/
def execFlush (tag : Nat) (s : State) : Host.Outcome State Fault Refusal :=
  .next (s.io tag (fun s t => match t.cmd with
    | .flush nsid =>
      if nsid.toNat = nsidAll then s.complete tag stNamespace
      else s.onNs tag t nsid .writes (fun _ =>
        ((s.modTag tag (fun x => { x with phase := .running })).forceSets (fun w => w.holdsGroup (t.groups ++ t.heirs))).sweepTags)
    | _ => s))

/-- WRITE (01 R26; 02 R53; 06 R209). -/
def execWrite (tag : Nat) (s : State) : Host.Outcome State Fault Refusal :=
  .next (s.io tag (fun s t => match t.cmd with
    | .write f => s.doWrite tag t f
    | _ => s))

/-- READ (01 R21 to R25; 02 R53). -/
def execRead (tag : Nat) (s : State) : Host.Outcome State Fault Refusal :=
  .next (s.io tag (fun s t => match t.cmd with
    | .read f => s.doRead tag t f
    | _ => s))

/-- Begin a compare: the blocks are looked up, and the host's data is pulled beside them. -/
def State.beginCompare (s : State) (tag : Nat) (t : TagE) (f : RwFields) : State :=
  let s1 := s.modTag tag (fun x => { x with phase := .running, got := List.replicate (rwLen f) none, waits := lbasOf f.slba (rwLen f) })
  (s1.askTag tag (rwLen f) t.cntl.port false none).continueRead tag

/-- COMPARE (02 Table 2-8): a mismatch fails with Compare Failure. -/
def execCompare (tag : Nat) (s : State) : Host.Outcome State Fault Refusal :=
  .next (s.io tag (fun s t => match t.cmd with
    | .compare f => s.onNs tag t f.nsid .reads (fun x => match readVerdict f x true with
      | some st => s.complete tag st
      | none => s.beginCompare tag t f)
    | _ => s))

/-- WRITE_ZEROES (02 Table 2-8; 03 R82): always a deallocation, also in READ_ONLY (06 R206). -/
def execWriteZeroes (tag : Nat) (s : State) : Host.Outcome State Fault Refusal :=
  .next (s.io tag (fun s t => match t.cmd with
    | .writeZeroes f => s.onNs tag t f.nsid .writes (fun x =>
      if !rangeIn x (f.slba, rwLen f) then s.complete tag stRange
      else s.dealloc tag f.nsid.toNat x [(f.slba, rwLen f)])
    | _ => s))

/-- DATASET_MANAGEMENT. -/
def execDatasetManagement (tag : Nat) (s : State) : Host.Outcome State Fault Refusal :=
  .next (s.io tag (fun s t => match t.cmd with
    | .dsm nsid ad rs => s.doDsm tag t nsid ad rs
    | _ => s))

/-- RESERVATION_REGISTER (02 R66). -/
def execReservationRegister (tag : Nat) (s : State) : Host.Outcome State Fault Refusal :=
  .next (s.io tag (fun s t => match t.cmd with
    | .resvRegister nsid act ie pt ck nk => s.onNs tag t nsid .free (fun x =>
      s.withPtr tag t 16 true fun s => s.doRegister tag (s.host.func t.cntl.val).hostId nsid.toNat x act ie pt ck nk)
    | _ => s))

/-- RESERVATION_REPORT. -/
def execReservationReport (tag : Nat) (s : State) : Host.Outcome State Fault Refusal :=
  .next (s.io tag (fun s t => match t.cmd with
    | .resvReport nsid => s.onNs tag t nsid .free (fun x =>
      let r := s.rsvStatus x (((s.host.func t.cntl.val).feature 0x81).getLsbD 0)
      s.withPtr tag t r.1 false fun s => s.returnData tag t r.1 0 (.struct r.1 r.2))
    | _ => s))

/-- RESERVATION_ACQUIRE. -/
def execReservationAcquire (tag : Nat) (s : State) : Host.Outcome State Fault Refusal :=
  .next (s.io tag (fun s t => match t.cmd with
    | .resvAcquire nsid act ie ty ck pk => s.onNs tag t nsid .free (fun x =>
      s.withPtr tag t 16 true fun s => s.doAcquire tag (s.host.func t.cntl.val).hostId nsid.toNat x act ie ty ck pk)
    | _ => s))

/-- RESERVATION_RELEASE. -/
def execReservationRelease (tag : Nat) (s : State) : Host.Outcome State Fault Refusal :=
  .next (s.io tag (fun s t => match t.cmd with
    | .resvRelease nsid clear ie ty ck => s.onNs tag t nsid .free (fun x =>
      s.withPtr tag t 8 true fun s => s.doRelease tag (s.host.func t.cntl.val).hostId nsid.toNat x clear ie ty ck)
    | _ => s))

/-- ORDERED_WRITE (02 R56): a write; its order is ORDERED_COMMAND_BEGIN's. -/
def execOrderedWrite (tag : Nat) (s : State) : Host.Outcome State Fault Refusal :=
  .next (s.io tag (fun s t => match t.cmd with
    | .orderedWrite f => s.doWrite tag t f
    | _ => s))

/-- ORDERED_READ (02 R56). -/
def execOrderedRead (tag : Nat) (s : State) : Host.Outcome State Fault Refusal :=
  .next (s.io tag (fun s t => match t.cmd with
    | .orderedRead f => s.doRead tag t f
    | _ => s))

/-- ORDERED_DATASET_MANAGEMENT (02 R56). -/
def execOrderedDatasetManagement (tag : Nat) (s : State) : Host.Outcome State Fault Refusal :=
  .next (s.io tag (fun s t => match t.cmd with
    | .orderedDsm nsid ad rs => s.doDsm tag t nsid ad rs
    | _ => s))

/-- GATHER_READ (04 R125; 02 R58). -/
def execGatherRead (tag : Nat) (s : State) : Host.Outcome State Fault Refusal :=
  .next (s.io tag (fun s t => match t.cmd with
    | .gatherRead f => s.onNs tag t f.nsid .reads (fun x => match gatherVerdict f x (s.par P.DMA_RESHUFFLE_GBS) with
      | some st => s.complete tag st
      | none => s.beginGather tag t f)
    | _ => s))

/-- INVALID_IO_OPCODE (02 R52). -/
def execInvalidIoOpcode (tag : Nat) (s : State) : Host.Outcome State Fault Refusal :=
  .next (s.io tag (fun s t => match t.cmd with
    | .otherIo _ => s.complete tag stOpcode
    | _ => s))

end Sys2Proof.Machine
end

