-- ==== Sys2Proof/Machine/SliceOps.lean ====
section
/-! DEFINITION. Sliced operations on granules (03 R93 to R100, R523; 05 R144; 14 R402, R403): their start, the work of a slice, the
phases of Sanitize, and how each kind ends. -/

namespace Sys2Proof.Machine

/-! ## Keys (14 R402) -/

/-- A namespace key is replaced: the old one cannot be recovered, GEN goes up, and the new key is in the key store. -/
def NsS.rekeyed (x : NsS) (gen : Nat) : NsS := { x with keyGen := gen, keyValid := true, keyLoaded := true, gen := x.gen + 1 }

/-- A namespace key is destroyed without replacement. -/
def NsS.keyless (x : NsS) : NsS := { x with keyValid := false, keyLoaded := false, gen := x.gen + 1 }

/-- Replace the key of a namespace. -/
def NvmS.rekey (n : NvmS) (nsid : Nat) : NvmS :=
  { (n.modNs nsid (fun x => x.rekeyed n.nextKeyGen)) with nextKeyGen := n.nextKeyGen + 1 }

/-! ## Work -/

/-- The device granules of a namespace: every granule of its segments. -/
def nsRanges (x : NsS) : List (Nat × Nat) := x.segs.map (fun sn => (sn * segGrans, segGrans))

/-- The work of an operation on whole namespaces, per grove. -/
def NvmS.wholeWork (n : NvmS) (nsids : List Nat) : Sparse (List (Nat × Nat)) :=
  workOf (nsids.flatMap (fun i => ((n.ns i).map nsRanges).getD []))

/-- An operation is a Sanitize. -/
def SlicedOp.isSanitize (o : SlicedOp) : Bool := o.kind == .sanitizeCrypto || o.kind == .sanitizeBlock

/-- Every I/O command that an operation must wait for has completed (03 R96). -/
def State.opMayBegin (s : State) (o : SlicedOp) : Bool :=
  o.nsids.all (fun i => match s.nvm.ns i with
    | some x => !s.host.ioBefore i (if o.isSanitize then s.nvm.sanFrom else x.modeFrom)
    | none => true)

/-- The keys that an operation replaces or destroys as it begins (14 Table 14-6). -/
def State.opKeys (s : State) (o : SlicedOp) : State :=
  if !o.rekey then s
  else if o.kind = .delete then
    { s with nvm := o.nsids.foldl (fun n i => n.modNs i (fun x => x.keyless)) s.nvm }
  else { s with nvm := o.nsids.foldl (fun n i => n.rekey i) s.nvm }

/-- A Sanitize discards the write-cache entries unplaced, before anything else (14 Table 14-6). Format and deletion take a granule's blocks out of the
index slice by slice (03 R523). -/
def State.opCache (s : State) (o : SlicedOp) : State :=
  if o.isSanitize then { s with cache := o.nsids.foldl (fun c i => c.removeBlocks i (fun _ => true)) s.cache } else s

/-- Units of work that an operation has left. -/
def SlicedOp.left (o : SlicedOp) : Nat := o.edges.length + (o.work.map (fun e => (e.2.map Prod.snd).sum)).sum

/-- Change an operation. -/
def NvmS.modOp (n : NvmS) (i : Nat) (f : SlicedOp → SlicedOp) : NvmS := { n with ops := smod i f n.ops }

/-! ## The erase phase of Sanitize -/

/-- The row blocks of a grove that a block erase erases: every one that is neither FREE nor RETIRED. -/
def State.eraseWork (s : State) (g : Grove) : List (Nat × Nat) :=
  (s.media.recs.filter (fun e => rbGrove e.1 == g && recState e.2 != rbFree && decide (recState e.2 < rbRetired))).map
    (fun e => (e.1, 1))

/-- What the map regions held is gone with them: the map is empty but for the segments, and the journal starts afresh. -/
def GroveMap.emptied (m : GroveMap) (segs : Sparse (Nat × Nat)) : GroveMap :=
  { m with ring := [], log := [], logAt := [], gen := none, spilling := false, spillLeft := [], logHigh := false, wearLeft := [], wearLoc := none,
           rootNew := { seq := m.nextSeq, loc := 0, len := 0 }, rootOld := { seq := m.nextSeq, loc := 0, len := 0 },
           wearNew := { seq := 0, loc := 0, len := 0 }, wearOld := { seq := 0, loc := 0, len := 0 },
           image := { trunk := [], leaves := [], dirs := [], heads := [], segs := segs, locs := [] }, dirtyUnits := [] }

/-- The map at the start of the erase phase. The leaf pages are freed, and their VERSION values are kept (05 R172). -/
def MapS.emptied (m : MapS) : MapS :=
  { m with trunk := [], leaves := [], pages := [], verFloor := (m.pages.map (fun e => e.2.version)).foldl max m.verFloor, groves := m.groves.map (fun x => x.emptied m.segs) }

/-- Dump sets are erased with the rest: they hold nothing and become FREE with their row blocks. -/
def PlpS.emptied (p : PlpS) : PlpS :=
  let f := fun (x : DumpSet) => if x.present && x.state != .free then { x with state := .erasing, slabs := [] } else x
  { p with sets := p.sets.map (fun (r : DumpRec) => { a := f r.a, b := f r.b }) }

/-- Placement in progress is given up: nothing of it is wanted any more. -/
def State.dropPlacement (s : State) : State :=
  let s1 := (s.media.sets.map Prod.fst).foldl (fun a n => a.abandonSet n) s
  let s2 := s1.media.doms.foldl (fun (a : State) d => d.victims.foldl (fun (b : State) v => b.dropVictim d.dom v.rb) a) s1
  (s2.media.recs.map Prod.fst).foldl (fun a rb => a.closeRow rb) { s2 with media := { s2.media with wearTable := [], wearOlder := [] } }

/-- A block erase goes from unmapping to erasing. -/
def State.beginErase (s : State) (i : Nat) : State :=
  let s1 := s.dropPlacement
  let work := ((List.finRange 8).map (fun (g : Grove) => (g.val, s1.eraseWork g))).filter (fun e => !e.2.isEmpty)
  { s1 with
    map := s1.map.emptied
    plp := s1.plp.emptied
    nvm := { (s1.nvm.modOp i (fun o => { o with work := work })) with sanPhase := 2, sanProgress := 0 } }

/-! ## The end of an operation -/

/-- A deallocation's command completes when its slices are done and its groups committed (03 R523). -/
def State.deallocDone (s : State) (tag : Nat) : State :=
  match sget s.host.tags tag with
  | none => s
  | some t =>
    if t.phase == .running && t.commits = 0 && !(s.nvm.ops.any (fun e => e.2.tag == some tag)) then s.complete tag stOk else s

/-- Complete the command of an operation, if it still has one (03 R100). -/
def State.opComplete (s : State) (o : SlicedOp) : State :=
  match o.tag with
  | some t => s.complete t stOk
  | none => s

/-- Units of 0.25 µs in a slice: an FTL core sets 4 granules UNMAPPED in a microsecond (03 R523). -/
def State.sliceGrans (s : State) : Nat := 4 * s.par P.QUE_SLICE_US

/-- The first of some namespaces that still holds segments. -/
def State.holdsSegs (s : State) (nsids : List Nat) : Option Nat :=
  nsids.find? (fun i => ((s.nvm.ns i).map (fun x => !x.segs.isEmpty)).getD false)

/-- One slice of the end of a deletion: segments are free again through grove 0's journal, as many as a slice and the ring take (05 R144, R155, R159; a
record counts as a granule, the model's choice, log entry 106). -/
def State.freeSomeSegs (s : State) (nsids : List Nat) : State :=
  match s.holdsSegs nsids with
  | none => s
  | some i => match s.nvm.ns i with
    | none => s
    | some x =>
      let gone := x.segs.take (min s.sliceGrans (2 * halfRing - (s.map.grove 0).ring.length))
      { s with map := s.map.commit 0 0 (gone.map (fun g => jSegAssign g 0 0)), nvm := s.nvm.modNs i (fun y => { y with segs := y.segs.drop gone.length }) }

/-- A deleted namespace, whose segments are free, is gone (05 R144). -/
def State.freeNs (s : State) (nsid : Nat) : State :=
  match s.nvm.ns nsid with
  | none => s
  | some x => ({ s with nvm := { s.nvm with nss := sdel nsid s.nvm.nss } }).nsChanged x.attached [nsid]

/-- Sanitize has completed: the record says so, and the controller that asked for it is told (NVMe Base 2.0, log entry 13). -/
def State.sanitizeEnds (s : State) (o : SlicedOp) : State :=
  let s1 := { s with nvm := { s.nvm with sanAction := 0, sanPhase := 0, sanProgress := 0, sanFrom := 0, sanFailed := false,
                                         sanDone := true } }
  match o.tag.bind (fun t => sget s.host.tags t) with
  | some t => s1.raiseEvent [t.cntl.val] 6 1 0x81
  | none => s1

/-- An operation has no work left: what follows by its kind. -/
def State.endOp (s : State) (i : Nat) (o : SlicedOp) : State :=
  let s1 := { s with nvm := { s.nvm with ops := sdel i s.nvm.ops,
                                         sliceEnd := skeep (fun k _ => decide (k % 65536 ≠ 16 + i)) s.nvm.sliceEnd } }
  match o.kind with
  | .dealloc => match o.tag with
    | some t => s1.deallocDone t
    | none => s1
  | .format =>
    let back := fun (x : NsS) => if x.mode == .formatting then { x with mode := .normal, modeFrom := 0 } else x
    (({ s1 with nvm := o.nsids.foldl (fun n j => n.modNs j back) s1.nvm }).opComplete o).recheckSpare
  | .delete => ((o.nsids.foldl (fun a j => a.freeNs j) s1).journal.opComplete o).recheckSpare
  | .sanitizeCrypto => ((s1.sanitizeEnds o).opComplete o).recheckSpare
  | .sanitizeBlock => ((s1.sanitizeEnds o).opComplete o).recheckSpare

/-- Go on once a phase has no work left; a deletion's segments are freed in slices of their own. -/
def State.opCheck (s : State) (i : Nat) : State :=
  match sget s.nvm.ops i with
  | none => s
  | some o =>
    if !o.begun || o.left ≠ 0 then s
    else if o.kind = .sanitizeBlock ∧ s.nvm.sanPhase = 1 then
      let s1 := s.beginErase i
      match sget s1.nvm.ops i with
      | some o1 => if o1.left = 0 then s1.endOp i o1 else s1
      | none => s1
    else if o.kind = .delete ∧ (s.holdsSegs o.nsids).isSome then s
    else s.endOp i o

/-- Begin an operation: keys first, then the write cache, then the unmapping of every granule. -/
def State.beginOp (s : State) (i : Nat) (o : SlicedOp) : State :=
  let s1 := (s.opKeys o).opCache o
  let n := s1.nvm.modOp i (fun x => { x with begun := true, work := s1.nvm.wholeWork o.nsids })
  let n := if o.isSanitize then { n with sanPhase := 1 } else n
  (({ s1 with nvm := n }).freeGroups).opCheck i

/-! ## Slices -/

/-- A group of an operation waits in a grove. -/
def State.sliceWaits (s : State) (i : Nat) (g : Grove) : Bool := (s.map.grove g).groups.any (fun x => x.why == .slice i)

/-- The time of a granule in units of 0.25 µs: a FINE granule takes as much again for its leaf (03 R523). -/
def MapS.unmapCost (m : MapS) (d : Nat) : Nat := if trunkKind (trunkAt m.trunk d) = kFine then 2 else 1

/-- How many of some granules fit a slice of so many units: at least one. -/
def fitting (cost : Nat → Nat) : Nat → List Nat → Nat
  | _, [] => 0
  | n, d :: t => if cost d ≤ n then 1 + fitting cost (n - cost d) t else 0

/-- Granules of a grove's first range that one slice clears (03 R93, R523). -/
def State.sliceLen (s : State) (g : Grove) (work : List (Nat × Nat)) : Nat :=
  match work with
  | [] => 0
  | (d, c) :: _ => max 1 (fitting s.map.unmapCost s.sliceGrans (ownedFrom g d (min s.sliceGrans c)))

/-- What is left of some ranges after n granules of the first. -/
def takeGrans (n : Nat) : List (Nat × Nat) → List (Nat × Nat)
  | [] => []
  | (d, c) :: t => if c ≤ n then t else (d + 8 * n, c - n) :: t

/-- The range that a slice clears: the granules a grove owns, from a first one, and how many. -/
def sliceRange (n : Nat) : List (Nat × Nat) → Option (Nat × Nat)
  | [] => none
  | (d, c) :: _ => some (d, min n c)

/-- Work of an operation in a grove. -/
def SlicedOp.workIn (o : SlicedOp) (g : Grove) : List (Nat × Nat) := (sget o.work g.val).getD []

/-- Granules of a grove that an operation covers only in part. -/
def SlicedOp.edgesIn (o : SlicedOp) (g : Grove) : List (Nat × List Nat) := o.edges.filter (fun e => groveOf e.1 == g)

/-- An operation has nothing left in a grove. -/
def SlicedOp.doneIn (o : SlicedOp) (g : Grove) : Bool := (o.workIn g).isEmpty && (o.edgesIn g).isEmpty

/-- Replace the work of a grove. -/
def SlicedOp.setWork (o : SlicedOp) (g : Grove) (l : List (Nat × Nat)) : SlicedOp := { o with work := sputD [] g.val l o.work }

/-- The commit of changes that make blocks UNMAPPED: they leave the write-cache index (05 R151). -/
def State.commitUnmaps (s : State) (g : Grove) (cs : List GranChange) : State :=
  let ls := s.changedLbas cs
  let ids := (ls.map Prod.fst).foldl (fun l i => addOnce i l) ([] : List Nat)
  let cache := ids.foldl (fun (c : CacheS) i => c.removeBlocks i (fun lba => ls.contains (i, lba))) s.cache
  { (s.noteBad cs) with map := s.map.commitMixed g (s.changesMixed g cs), cache := cache }

/-- The commit of a slice of partly covered granules. -/
def State.commitEdges (s : State) (i : Nat) (g : Grove) (o : SlicedOp) : State :=
  let es := (o.edgesIn g).take s.sliceGrans
  let s1 := s.commitUnmaps g (es.map (fun e => unmapChange e.1 e.2))
  ({ s1 with nvm := s1.nvm.modOp i (fun x => { x with edges := x.edges.filter (fun e => !es.contains e) }) }).freeGroups.opCheck i

/-- The commit of a slice's RANGE_UNMAP: the granules are UNMAPPED, their blocks leave the write-cache index, and the work is
so much less. -/
def State.commitRange (s : State) (i : Nat) (g : Grove) : State :=
  match sget s.nvm.ops i with
  | none => s
  | some o =>
    match sliceRange (s.sliceLen g (o.workIn g)) (o.workIn g) with
    | none => s
    | some (d, n) =>
      let grans := (ownedFrom g d n).filterMap (fun x => s.map.granuleOf x)
      let cache := o.nsids.foldl (fun c j => c.removeBlocks j (fun lba => grans.contains (j, lba / 16))) s.cache
      let nvm := s.nvm.modOp i (fun x => x.setWork g (takeGrans (s.sliceLen g (o.workIn g)) (x.workIn g)))
      let nvm := if o.isSanitize then { nvm with sanProgress := nvm.sanProgress + n } else nvm
      (({ s with map := s.map.commit g 0 [jRangeUnmap d n], cache := cache, nvm := nvm }).freeGroups).opCheck i

/-- The commit of a slice. -/
def State.commitSlice (s : State) (i : Nat) (g : Grove) : State :=
  match sget s.nvm.ops i with
  | none => s
  | some o =>
    let s1 := s.sliceEnds g (16 + i)
    if (o.edgesIn g).isEmpty then s1.commitRange i g else s1.commitEdges i g o

/-- A slice of a deletion's end, on grove 0's cores. -/
def State.segSlice (s : State) (i : Nat) (g : Grove) (o : SlicedOp) : State :=
  if g != 0 || s.sliceHeld g (16 + i) || !(s.map.grove 0).room then s
  else ((s.freeSomeSegs o.nsids).sliceEnds g (16 + i)).opCheck i

/-- One slice of the erase phase: one row block goes to ERASE_PENDING (the model's choice, log entry 106), and those that have been erased
count as done. -/
def State.eraseSlice (s : State) (i : Nat) (g : Grove) (o : SlicedOp) : State :=
  let w := o.workIn g
  let next := w.find? (fun e => e.2 == 1)
  let media := match next with
    | some e => s.media.setState e.1 rbErasePending
    | none => s.media
  let rest := (w.map (fun e => if next = some e then (e.1, 2) else e)).filter (fun e =>
    e.2 == 1 || recState (media.rbRec e.1) == rbErasePending)
  let nvm := s.nvm.modOp i (fun x => x.setWork g rest)
  (({ s with media := media, nvm := { nvm with sanProgress := nvm.sanProgress + (w.length - rest.length) } }).sliceEnds g (16 + i)).opCheck i

end Sys2Proof.Machine
end

