-- ==== Sys2Proof/Machine/Slice.lean ====
section
/-! DEFINITION. The commands of sliced operations on granules (03 R93 to R96). -/

namespace Sys2Proof.Machine

/-- SLICED_OPERATION_START (03 R96; 14 R403): every I/O command accepted before it has completed, so the operation begins. -/
def execSlicedOperationStart (op : Nat) (s : State) : Host.Outcome State Fault Refusal :=
  .next (match sget s.nvm.ops op with
    | none => s
    | some o => if s.mediaRuns && s.dev.phase == .running && !o.begun && s.opMayBegin o then s.beginOp op o else s)

/-- SLICE (03 R93, R94, R523; 14 R403): the next slice of an operation in a grove, once its gap has passed where commands are pending. An
unmapping slice queues its commit; an erasing slice sets a row block to ERASE_PENDING; the last slices of a deletion, on grove 0's cores, free its
segments. -/
def execSlice (op : Nat) (g : Grove) (s : State) : Host.Outcome State Fault Refusal :=
  .next (match sget s.nvm.ops op with
    | none => s
    | some o =>
      if !s.mediaRuns || s.dev.phase != .running || !o.begun || s.groveRestarting g then s
      else if o.left = 0 then
        (if o.kind = .delete ∧ (s.holdsSegs o.nsids).isSome then s.segSlice op g o else s.opCheck op)
      else if o.doneIn g || s.sliceHeld g (16 + op) then s
      else if o.kind = .sanitizeBlock ∧ s.nvm.sanPhase = 2 then s.eraseSlice op g o
      else if s.sliceWaits op g then s
      else s.queueGroup g { why := .slice op, changes := [] })

end Sys2Proof.Machine
end

