-- ==== Sys2Proof/Machine/LeafOps.lean ====
section
/-! DEFINITION. Leaf pages: misses, eviction and the lease (05 R165 to R171), commits of waiting groups (R155 to R159), compaction (R152
to R154) and the spill of the ring (R159). -/

namespace Sys2Proof.Machine

/-! ## Misses and eviction -/

/-- The leaf page of a granule that is FINE. -/
def MapS.pageOf (m : MapS) (dgn : Nat) : Option Nat :=
  let e := trunkAt m.trunk dgn
  if trunkKind e = kFine then some (lpnOf (trunkLoc e).toNat) else none

/-- Pages that the leaf cache holds (R173). -/
def State.leafRoom (s : State) : Nat := s.map.leafCacheGib * 262144

/-- Clean cached pages that nothing waits for, of groves whose cores run: those that may be evicted. -/
def State.evictable (s : State) : List Nat :=
  (s.map.pages.filter (fun e => e.2.cached && !e.2.dirty && e.2.missing.isNone && !s.groveRestarting (groveOf e.1))).map Prod.fst

/-- Cached pages. -/
def MapS.cachedPages (m : MapS) : Nat := (m.pages.filter (fun e => e.2.cached)).length

/-- The port whose lease takes an evicted page: that of its last miss, else the other's (R167). -/
def NvmS.leaseFor (n : NvmS) (p : Port) : Option Port :=
  let q : Port := if p = 0 then 1 else 0
  if (n.lease p).usable then some p else if (n.lease q).usable then some q else none

/-- Slots of a lease. -/
def LeaseS.slotCount (l : LeaseS) : Nat := l.size2m * 512

/-- Slots that are being written. -/
def LeaseS.busySlots (l : LeaseS) : List Nat := l.writing.map (fun w => w.2.1)

/-- Slots of a port's lease that hold a LEASED page. -/
def MapS.heldSlots (m : MapS) (p : Port) : List Nat := (m.pages.filter (fun e => e.2.leased && e.2.lport == p)).map (fun e => e.2.lslot)

/-- A slot into an order of slots, by its distance from the hand. -/
def byHand (n hand k : Nat) : List Nat → List Nat
  | [] => [k]
  | x :: t => if (k + n - (hand + 1) % n) % n ≤ (x + n - (hand + 1) % n) % n then k :: x :: t else x :: byHand n hand k t

/-- The clock goes round from the hand: it clears the mark of each slot that has been fetched, and stops at the first that has none (R167). -/
def clockStop : List Nat → List Nat → Option (Nat × List Nat)
  | _, [] => none
  | marks, k :: t => if marks.contains k then clockStop (marks.filter (· != k)) t else some (k, marks)

/-- The slot that a write-back takes, and the marks left: a free one first, the lowest; else one chosen by the clock (R167). None where every slot is
being written. -/
def State.takeSlot (s : State) (p : Port) : Option (Nat × List Nat) :=
  let l := s.nvm.lease p
  let held := s.map.heldSlots p
  let used := held ++ l.busySlots
  if used.length < l.slotCount then some (freeTagFrom used.length 0 used, l.fetched)
  else
    let order := (held.filter (fun k => !l.busySlots.contains k)).foldl (fun o k => byHand l.slotCount l.hand k o) []
    clockStop l.fetched (order ++ order)

/-- The largest VERSION. -/
abbrev versionMax : Nat := 72057594037927935

/-- A transfer between a lease and the block: its cord, from the port's reservation (04 Table 4-2), and its TLPs at the slot's address, within the
limits of the port's PF (R166; 04 R116). -/
def State.leaseXfer (s : State) (p : Port) (lpn slot : Nat) (reads : Bool) : State :=
  let s1 := s.askCords { user := .lease lpn, res := .port p, count := 1, l0 := false, port := if reads then none else some p }
  let f := s1.host.func p.pf.val
  match (s.nvm.lease p).slotAddr slot with
  | some a => { s1 with land := { s1.land with tlps := tlpsOf (if reads then f.mrrs else f.mps) reads [] [(0, a, 4096)] } }
  | none => s1

/-- Begin the write-back of a clean page that is being evicted and is not LEASED (R167, R168). -/
def State.writeBack (s : State) (lpn : Nat) (g : LeafPage) : State :=
  match s.nvm.leaseFor g.lastPort with
  | none => s
  | some p =>
    if g.version = versionMax then s.newLeaseKey
    else
      let l := s.nvm.lease p
      match s.takeSlot p with
      | none => s
      | some (slot, marks) =>
        let l' := { l with slots := sdel slot l.slots, hand := slot, fetched := marks.filter (· != slot),
                           writing := l.writing ++ [(lpn, slot, g.version + 1)] }
        let pages := smap (fun (i : Nat) (x : LeafPage) =>
          if i = lpn then { x with version := x.version + 1 }
          else if x.leased && x.lport == p && x.lslot == slot then { x with leased := false } else x) s.map.pages
        (({ s with nvm := s.nvm.setLease p l', map := { s.map with pages := pages } }).leaseXfer p lpn slot false).sealPage lpn

/-- Make room in the leaf cache for one page: the choice among clean pages is left open. -/
def State.evictOne (s : State) : State :=
  let c := s.evictable
  if s.map.cachedPages < s.leafRoom || c.isEmpty then s
  else
    let (k, s1) := s.draw
    let lpn := c.getD (Config.choice k c.length % c.length) 0
    let s2 := { s1 with map := { s1.map with pages := smod lpn (fun g => { g with cached := false }) s1.map.pages } }
    match sget s2.map.pages lpn with
    | some g => if g.leased then s2 else s2.writeBack lpn g
    | none => s2

/-- Serve a miss: from the lease where the page is held there, else from flash (R21, R169). -/
def State.serveMiss (s : State) (lpn : Nat) (p : Port) (g : LeafPage) : State :=
  let l := s.nvm.lease g.lport
  let s1 := { s with map := { s.map with pages := smod lpn (fun x => { x with missing := some p, lastPort := p }) s.map.pages } }
  if g.leased && l.usable && sget l.slots g.lslot == some lpn then
    ({ s1 with nvm := s1.nvm.setLease g.lport { l with fetching := l.fetching ++ [lpn], fetch := l.fetch + 1 } }).leaseXfer g.lport lpn g.lslot true
  else s1.readLeaf lpn

/-- A miss is being served already: misses on one page are merged (R170). -/
def State.missServed (s : State) (lpn : Nat) : Bool :=
  s.flash.readsLeaf lpn || s.nvm.lease0.fetching.contains lpn || s.nvm.lease1.fetching.contains lpn

/-! ## Lease accesses -/

/-- The write-back of a page that a lease has in flight. -/
def LeaseS.writes (l : LeaseS) (lpn : Nat) : Option (Nat × Nat × Nat) := l.writing.find? (fun w => w.1 == lpn)

/-- The port on which a write-back of a page is in flight. -/
def NvmS.writer (n : NvmS) (lpn : Nat) : Option Port := (List.finRange 2).find? (fun p => ((n.lease p).writes lpn).isSome)
/-- The port on which a fetch of a page is in flight. -/
def NvmS.fetcher (n : NvmS) (lpn : Nat) : Option Port := (List.finRange 2).find? (fun p => (n.lease p).fetching.contains lpn)

/-- A write-back has completed (R168): LEASED is set where the page is still clean with the same VERSION, and otherwise the slot is
free. -/
def State.writeBackDone (s : State) (p : Port) (w : Nat × Nat × Nat) : State :=
  let l := s.nvm.lease p
  let l1 := { l with writing := l.writing.filter (fun x => x.1 != w.1) }
  let s1 := ({ s with nvm := s.nvm.setLease p l1 }).freeCords (.lease w.1)
  match sget s.map.pages w.1 with
  | none => s1
  | some g =>
    if l.usable && !g.dirty && g.version == w.2.2 && !g.leased then
      { s1 with nvm := s1.nvm.setLease p { l1 with slots := sput w.2.1 w.1 l1.slots, wback := l1.wback + 1 }
                map := { s1.map with pages := smod w.1 (fun x => { x with leased := true, lport := p, lslot := w.2.1 }) s1.map.pages } }
    else s1

/-- A fetch that supplied a valid page (R169); its slot is marked for the clock. -/
def State.fetchOk (s : State) (p : Port) (lpn : Nat) : State :=
  let l := s.nvm.lease p
  let slot := ((sget s.map.pages lpn).map (fun g => g.lslot)).getD 0
  (({ s with nvm := s.nvm.setLease p { l with fetching := l.fetching.filter (· != lpn), hits := l.hits + 1, fetched := addOnce slot l.fetched }
             map := { s.map with pages := smod lpn (fun x => { x with cached := true, missing := none }) s.map.pages } }).freeCords (.lease lpn)).resumeReads

/-- A fetch that finds LEASED cleared: its result is discarded, and the page is read from FLOC where it is still missing (R170). -/
def State.fetchStale (s : State) (p : Port) (lpn : Nat) : State :=
  let l := s.nvm.lease p
  let s1 := ({ s with nvm := s.nvm.setLease p { l with fetching := l.fetching.filter (· != lpn) } }).freeCords (.lease lpn)
  match sget s1.map.pages lpn with
  | some g => if g.cached then s1 else s1.readLeaf lpn
  | none => s1

/-! ## Commits -/

/-- Items of a set whose granules a grove owns. -/
def State.itemsIn (s : State) (w : WSet) (g : Grove) : List Item := w.items.filter (fun i => s.groveOfItem i == some g)

/-- Kind and number of a checkpoint unit. -/
def unitOf (i : Item) : Nat × Nat :=
  match i.src with
  | .unit k id => (k, id)
  | _ => (0, 0)

/-- The LOC_SET of a checkpoint unit. -/
def unitRec (i : Item) : JRec := jrec 5 (unitOf i).2 (BitVec.ofNat 2 (unitOf i).1) i.loc

/-- The newest checkpoint copy of a unit is the one that was taken (R160, Table 5-9). What older copies held of a directory slab's pages that have no flash
copy is gone with it. -/
def MapS.copyUnit (m : MapS) (g : Grove) (i : Item) : MapS :=
  let u := unitOf i
  let x := m.grove g
  let img := x.image.putUnit g u x.taken
  let img := if u.1 ≤ 1 then { img with locs := sput (unitKey u.1 u.2) i.loc img.locs } else img
  let img := if u.1 = 1 then
      let keep := fun (l : Nat) => !inDirSlab g u.2 l || (m.flocOf l).isSome
      { img with heads := img.heads.filter (fun e => keep e.1), leaves := img.leaves.filter (fun e => keep (lpnOf e.1)) }
    else img
  m.modGrove g (fun x => { x with image := img })

/-- A unit whose page has been freed in the meantime is given up. -/
def MapS.unitLives (m : MapS) (i : Item) : Bool := (unitOf i).1 != 2 || (sget m.pages (unitOf i).2).isSome

/-- The records of units: a leaf page's LOC_SET is its FLOC, and it is clean (Table 5-8). A directory slab or trunk slab names no page. -/
def MapS.commitUnits (m : MapS) (g : Grove) (us : List Item) : MapS :=
  us.foldl (fun a i => a.copyUnit g i) m

/-- The LOC_SET records of units. A root table is named by its pointer and has none. -/
def unitRecs (us : List Item) : List (StandNo × JRec) :=
  (us.filter (fun i => (unitOf i).1 != 3)).map (fun i => ((0 : StandNo), unitRec i))

/-- The set's last group has been committed. -/
def State.endSet (s : State) (n : Nat) : State :=
  if s.map.groves.toList.any (fun (m : GroveMap) => m.groups.any (fun x => x.why == .set n)) then s
  else { s with media := { s.media with sets := sdel n s.media.sets } }

/-- The commit of a set in a grove (01 R27, R30; 05 R154, R157; 09 R283). -/
def State.commitSet (s : State) (n : Nat) (g : Grove) : State :=
  match s.media.wset n with
  | none => s
  | some w =>
    let us := (s.setUnits w g).filter s.map.unitLives
    let m := (s.map.commitMixed g (s.changesMixed g (s.setChanges w g) ++ unitRecs us)).commitUnits g us
    let s1 := s.noteBad (s.setChanges w g)
    (({ s1 with map := m, cache := s.cache.markDone (s.itemsIn w g) }).endSet n).freeGroups

/-- The commit of a deallocation's group (03 R82; 05 R151). -/
def State.commitDealloc (s : State) (tag : Option Nat) (g : Grove) (cs : List GranChange) : State :=
  let s1 := s.commitUnmaps g cs
  match tag with
  | some t => (s1.modTag t (fun x => { x with commits := x.commits - 1 })).freeGroups.deallocDone t
  | none => s1.freeGroups

/-- The 16 entries of a leaf are those of a COARSE granule at one location (R152). -/
def coarseAt (es : List Ploc) : Option Ploc :=
  match es with
  | [] => none
  | p :: _ =>
    if holdsData p && plocValid p && plocPlane p = 0 && plocSlot p = 0 && decide (es = (List.range 16).map (coarseBlock p)) then some p else none

/-- The records by which compaction moves or folds a leaf that is unchanged since it was read (R152 to R154). -/
def MapS.compactRecs (m : MapS) (g : Grove) (stand : StandNo) (c : GranChange) : List JRec :=
  match m.pageOf c.dgn with
  | none => []
  | some lpn =>
    if !(c.cas.all (fun x => casHolds m x)) then []
    else
      let es := c.entries.map Prod.snd
      if es.all (fun p => p == plocPoisoned) then [jFold c.dgn kPoisoned 0]
      else match coarseAt es with
        | some p => [jFold c.dgn kCoarse p]
        | none =>
          if (m.openPages g stand).any (fun e => e.1 != lpn) then
            jLeafMove c.dgn (m.newLeaf g stand (some lpn)) :: setRecs c.dgn c.entries
          else []

/-- The commit of a compaction. -/
def State.commitCompact (s : State) (g : Grove) (cs : List GranChange) : State :=
  let r := cs.foldl (fun (a : MapS × List (StandNo × JRec)) c =>
    let st := s.standOfDgn c.dgn
    let rs := a.1.compactRecs g st c
    (rs.foldl (fun x r => x.applyRec g st r) a.1, a.2 ++ rs.map (fun r => (st, r)))) (s.map, [])
  { s with map := s.map.commitMixed g r.2 }

/-- A namespace whose segments are all assigned has been created: its command completes. -/
def State.recordsDone (s : State) (tag : Nat) (rs : List JRec) : State :=
  match sget s.host.tags tag with
  | none => s
  | some t =>
    if t.commits = 0 then s.recheckSpare.complete tag stOk (BitVec.ofNat 32 ((rs.head?.map (fun r => (r.value.extractLsb' 29 11).toNat)).getD 0)) else s

/-- One group is committed. -/
def State.commitGroup (s : State) (g : Grove) (x : CommitGroup) : State :=
  match x.why with
  | .set n => s.commitSet n g
  | .dealloc tag => s.commitDealloc tag g x.changes
  | .slice i => s.commitSlice i g
  | .leafMove => s.commitCompact g x.changes
  | .poison => ({ (s.noteBad x.changes) with map := s.map.commitMixed g (s.changesMixed g x.changes) }).lostRepaired g
  | .fold => { s with map := s.map.commitMixed g (s.changesMixed g x.changes) }
  | .records tag =>
    let s1 := { s with map := s.map.commit g 0 x.recs }
    match tag with
    | some t => (s1.modTag t (fun y => { y with commits := y.commits - 1 })).recordsDone t x.recs
    | none => s1

/-! ## Compaction (R153) -/

/-- Leaves of a page. -/
def MapS.leavesIn (m : MapS) (lpn : Nat) : List Leaf := (m.leaves.filter (fun e => lpnOf e.1 == lpn)).map Prod.snd

/-- What the 16 entries of a leaf say. -/
def Leaf.meant (l : Leaf) : List Ploc := l.entries.toList.map plocMeant

/-- A leaf that compaction folds. -/
def leafFolds (l : Leaf) : Bool :=
  let es := l.meant
  es.all (fun p => p == plocPoisoned) || (coarseAt es).isSome

/-- Leaf slots that other open pages of a page's stand and grove have free. -/
def State.roomBeside (s : State) (g : Grove) (lpn : Nat) (p : LeafPage) : Nat :=
  (((s.map.openPages g p.stand).filter (fun e => e.1 != lpn)).map (fun e => 42 - e.2)).sum

/-- A page is below the threshold, and a leaf of it folds or moves to another open page of its stand and grove (R153). -/
def State.compactable (s : State) (g : Grove) (lpn : Nat) (p : LeafPage) : Bool :=
  decide (lpn % 8 = g.val) && decide (fillOf s.map.leaves lpn * 100 < s.par P.MAP_COMPACT_FILL_PCT * 42) &&
    ((s.map.leavesIn lpn).any leafFolds || decide (1 ≤ s.roomBeside g lpn p))

/-- What compaction reads of a leaf. -/
def compactChange (l : Leaf) : GranChange :=
  let es := l.meant.mapIdx (fun k p => (k, p))
  { dgn := l.dgn, entries := es, coarse := none, cas := es.map (fun e => { dgn := l.dgn, k := e.1, loc := e.2 }) }

/-- Compact a page, one at a time in a grove: a page that is not in the leaf cache is read first. -/
def State.startCompact (s : State) (g : Grove) : State :=
  if (s.map.grove g).groups.any (fun x => x.why == .leafMove) then s
  else match s.map.pages.find? (fun e => s.compactable g e.1 e.2) with
    | some e =>
      if e.2.cached then
        let ls := s.map.leavesIn e.1
        let fold := ls.filter leafFolds
        let move := (ls.filter (fun l => !leafFolds l)).take (s.roomBeside g e.1 e.2)
        s.queueGroup g { why := .leafMove, changes := (fold ++ move).map compactChange }
      else if s.missServed e.1 then s
      else s.evictOne.readLeaf e.1
    | none => s

/-! ## Units of the map region -/

/-- The class of the write point that takes a unit: those of a stand's trunk slabs and leaf pages, or the grove's own (06 R184). -/
def unitClass (kind : Nat) : WpClass := if kind = 0 ∨ kind = 2 then .map else .wide

/-- The stand whose MAP write point takes a unit; that of a grove's own units belongs to no stand, and carries number 0. -/
def State.unitStand (s : State) (kind id : Nat) : StandNo :=
  if kind = 2 then ((sget s.map.pages id).map (fun p => p.stand)).getD 0
  else if kind = 0 then s.standOfDgn (id * segGrans)
  else 0

/-- The domain that takes a unit of a grove: the grove-wide ones, the map log, directory slabs, root table and wear table, go to the shared domain
(06 R184, R197). -/
def State.unitDom (s : State) (g : Grove) (st : StandNo) (kind : Nat) : DomId :=
  if kind = 0 ∨ kind = 2 then ((s.domsFor st).find? (fun d => d.grove == g)).getD (((s.domsFor st).head?).getD { grove := g, owner := none })
  else { grove := g, owner := none }

/-- A unit has found its place: it is no longer wanted. The first codeword of a table tells where the table begins. -/
def GroveMap.placed (x : GroveMap) (kind id : Nat) (p : Ploc) : GroveMap :=
  if kind = 4 then { x with spillLeft := x.spillLeft.filter (· != id) }
  else if kind = 5 then { x with wearLeft := x.wearLeft.filter (· != id), wearLoc := if id = 0 then some p else x.wearLoc }
  else { x with gen := x.gen.map (fun (e : GenS) =>
    { e with units := e.units.filter (· != unitKey kind id), root := if kind = 3 ∧ id = 0 then some p else e.root }) }

/-- Place one unit in the MAP set of its write point (R160): the set starts when it is full. -/
def State.placeUnit (s : State) (g : Grove) (kind id : Nat) : State :=
  let st := s.unitStand kind id
  let d := s.unitDom g st kind
  let k := unitClass kind
  let s1 := s.beginSet st k d
  match (s1.media.point st k d).set with
  | none => s1
  | some n =>
    match s1.media.wset n with
    | none => s1
    | some w =>
      match (s1.freePositions w).head? with
      | none => s1.startSet n
      | some p =>
        let i : Item := { loc := p, nsid := g.val, lba := 0, src := .unit kind id }
        let s2 := { s1 with
          media := (s1.media.modSet n (fun x => { x with items := x.items ++ [i], touched := s1.now })).setPoint
            { s1.media.point st k d with lastUse := s1.now }
          map := s1.map.modGrove g (fun x => x.placed kind id p) }
        s2.startIfReady n

/-! ## The spill (R159) -/

/-- The spill may run: the supply holds, or the dump has finished. -/
def State.maySpill (s : State) : Bool := s.plp.pwrFailN || (s.plp.dumped && !s.plp.dumping)

/-- A full half of the ring is to go to the map log, in 256 codewords. -/
def State.startSpill (s : State) (g : Grove) : State :=
  let m := s.map.grove g
  if m.ring.length < halfRing || m.spilling then s
  else { s with map := s.map.modGrove g (fun x => { x with spilling := true, spillLeft := List.range 256 }) }

/-- Place what is left of a spill, as far as the map region takes it. -/
def feedSpill (g : Grove) : Nat → State → State
  | 0, s => s
  | fuel + 1, s =>
    match (s.map.grove g).spillLeft with
    | [] => s
    | i :: _ =>
      let s1 := s.placeUnit g 4 i
      if (s1.map.grove g).spillLeft.contains i then s1 else feedSpill g fuel s1

/-- A full half of the ring goes to the map log (R159). -/
def State.spill (s : State) (g : Grove) : State := if s.maySpill then feedSpill g 256 (s.startSpill g) else s

end Sys2Proof.Machine
end

