-- ==== Sys2Proof/Machine/RebuildOps.lean ====
section
/-! DEFINITION. Checkpoints (05 R160, R161), the rebuild of a grove's map at start-up (05 R162 to R164), and what start-up does beside it
(06 R191, R197, R202; 09 R279, R280, R290, R302; 05 R173; 14 R402). -/

namespace Sys2Proof.Machine

/-! ## Checkpoints -/

/-- A checkpoint unit of a grove is still to be committed. -/
def State.unitsPending (s : State) (g : Grove) : Bool :=
  s.media.sets.any (fun e => e.2.items.any (fun i => (match i.src with
    | .unit k _ => decide (k < 4)
    | _ => false) && s.groveOfItem i == some g))

/-- The root table of a generation whose units are all committed is to be written. -/
def MapS.rootUnits (m : MapS) (g : Grove) : MapS :=
  m.modGrove g (fun x => { x with gen := x.gen.map (fun (e : GenS) => { e with units := (List.range (m.rootLen g)).map (unitKey 3) }) })

/-- The generation is complete: the older root pointer takes its SEQ and its root table, and the log before it is obsolete. The wear
table is written with it (06 R197). -/
def State.genEnd (s : State) (g : Grove) (start : Qword) (root : Ploc) : State :=
  let s1 := { s with
    map := s.map.modGrove g (fun x =>
      let y := { x with rootOld := x.rootNew, rootNew := mkPtr start root (s.map.rootLen g), gen := none,
                        log := x.log.filter (fun r => decide (start ≤ r.seq)), logAt := x.logAt.filter (fun e => decide (start.toNat < e.1 + 128)),
                        image := if g = 0 then { x.image with segs := s.map.segs } else x.image }
      { y with logHigh := s.logLevel y }) }
  s1.beginWear g

/-! ## Rebuild (R162 to R164) -/

/-- Records up to the last END: a group counts only when it is complete (R157). -/
def completeGroups (rs : List JRec) : List JRec := (rs.reverse.dropWhile (fun r => !r.final)).reverse

/-- Take the entries of one table into another. -/
def loadInto {α : Type} (from1 : Sparse α) (into : Sparse α) : Sparse α := from1.foldl (fun t e => sput e.1 e.2 t) into

/-- The checkpoint of a grove is loaded in place of what DRAM held. -/
def MapS.loadImage (m : MapS) (g : Grove) : MapS :=
  let img := (m.grove g).image
  { m with
    trunk := loadInto img.trunk (m.trunk.filter (fun e => groveOf e.1 != g))
    leaves := loadInto img.leaves (m.leaves.filter (fun e => lpnOf e.1 % 8 != g.val))
    pages := loadInto (img.dirs.map (fun e => (e.1, imagePage ((sget img.heads e.1).getD 0) e.2))) (m.pages.filter (fun e => e.1 % 8 != g.val))
    segs := if g = 0 then img.segs else m.segs }

/-- The SEQ from which replay starts: that of the newer root pointer with a valid CRC (R161, R162); a grove that has written none starts with its
first record. None where neither pointer is valid. -/
def GroveMap.replayStart (x : GroveMap) (bad : Bool) : Option Qword :=
  if !bad && (x.rootNew.good || x.rootNew.len == 0) then some x.rootNew.seq
  else if x.rootOld.good || x.rootOld.len == 0 then some x.rootOld.seq
  else none

/-- The records to be replayed from a SEQ on: those of the log, then the ring. -/
def GroveMap.replayRecs (x : GroveMap) (start : Qword) : List JRec := completeGroups (x.log.filter (fun r => decide (start ≤ r.seq)) ++ x.ring)

/-- SEQ runs on without a gap from the first of some records. -/
def noGap : List JRec → Bool
  | [] => true
  | [_] => true
  | a :: b :: t => b.seq == a.seq + 1 && noGap (b :: t)

/-- There is a SEQ gap between the root pointer, the map log and the ring (R164). -/
def GroveMap.seqGap (x : GroveMap) (start : Qword) : Bool :=
  let l := x.log.filter (fun r => decide (start ≤ r.seq)) ++ x.ring
  !noGap l || (match l.head? with
    | some r => start != 0 && decide (start < r.seq)
    | none => false)

/-- The journal where the record of SEQ q fails its CRC or has a reserved TYPE (R164): at the tail of the ring, after the last END record, it ends
there; anywhere else, none. -/
def GroveMap.tornAt (x : GroveMap) (q : Nat) : Option GroveMap :=
  let rest := x.ring.dropWhile (fun r => decide (r.seq.toNat < q))
  if x.log.any (fun r => decide (r.seq.toNat = q)) || (rest.drop 1).any (fun r => r.final) then none
  else
    let ring := completeGroups (x.ring.takeWhile (fun r => decide (r.seq.toNat < q)))
    some { x with ring := ring, nextSeq := match ring.getLast? with
      | some r => r.seq + 1
      | none => match x.ring.head? with
        | some r => r.seq
        | none => x.nextSeq }

/-- What has changed since the last completed generation is for the next one to write (R161). -/
def MapS.sinceRoot (m : MapS) (g : Grove) : MapS :=
  let us := ((m.grove g).replayRecs (m.grove g).rootNew.seq).flatMap (recUnits g)
  m.modGrove g (fun x => { x with dirtyUnits := us.foldl (fun l u => addOnce u l) x.dirtyUnits })

/-- Replay one record for the stand of its granule. -/
def State.replayRec (s : State) (g : Grove) (r : JRec) : State := { s with map := s.map.applyRec g (s.standOfDgn r.id) r }

/-- The lease key survived the reset before this start-up: a pin reset, or a wake. -/
def State.keySurvived (s : State) : Bool := s.dev.phase == .running || getField s.dev.rstCause 0 2 != 1

/-- Leaf pages of a grove that hold no leaf, and leaves in no page, are none. -/
def MapS.dropEmpty (m : MapS) (g : Grove) : MapS :=
  let leaves := m.leaves.filter (fun e => lpnOf e.1 % 8 != g.val || (sget m.pages (lpnOf e.1)).isSome)
  { m with leaves := leaves, pages := m.pages.filter (fun e => e.1 % 8 != g.val || fillOf leaves e.1 != 0) }

/-- The cold rebuild of a grove (R162) from a SEQ on; VERSION starts at 0 under a new key (R172). -/
def State.coldRebuild (s : State) (g : Grove) (start : Qword) : State :=
  let s1 := if s.keySurvived then s.newLeaseKey else s
  let s2 := { s1 with map := s1.map.loadImage g }
  let s3 := ((s2.map.grove g).replayRecs start).foldl (fun a r => a.replayRec g r) s2
  let m := s3.map.dropEmpty g
  { s3 with map := { m with pages := smap (fun i (x : LeafPage) =>
      if i % 8 = g.val then { x with version := 0, leased := false } else x) m.pages } }

/-- The warm start of a grove: only ring records after the control block's SEQ are replayed (R163). -/
def State.warmRebuild (s : State) (g : Grove) : State :=
  let x := s.map.grove g
  (x.ring.filter (fun r => decide (x.ctlSeq < r.seq))).foldl (fun a r => a.replayRec g r) s

/-! ## What start-up does beside it -/

/-- One record of the row-block scan (06 R191): OPEN and THINNING become CLOSED, a reserved STATE counts as RETIRED. -/
def State.scanRb (s : State) (rb : Nat) : State :=
  let st := recState (s.media.rbRec rb)
  if st = rbOpen then s.closeRow rb
  else if st = rbThinning then
    { s with media := { s.media.setState rb rbClosed with info := smod rb (fun i => { i with closedS := s.seconds }) s.media.info } }
  else if rbRetired < st then
    ({ s with media := s.media.setState rb rbRetired }).recordHw (srcFtl (rbGrove rb)) sevError 0x0B01 (rbRow rb) (rbN rb)
  else s

/-- The pages of the last two programmed wordline positions of a row block that was OPEN are read on the first rung (09 R302). -/
def State.checkOpen (s : State) (rb : Nat) : State :=
  let wls := ((below (s.media.programmed rb) (fun w => !(s.wordlinePages rb w).isEmpty)).reverse).take 2
  (wls.flatMap (fun w => s.wordlinePages rb w)).foldl (fun a p =>
    a.issueRead (pageRead p 2 (.cruise (a.domOf (rbRow rb)))) false none) s

/-- A member whose block-retirement bit is set is absent (08 R267): the ABSENT bit that a retirement cut short has left clear is set. -/
def State.finishRetirement (s : State) (bit : Nat) : State :=
  let ch := bit / 262144
  let rb := rbKey (ch / 8 * 16 + bit / 16384 % 16) (bit % 16384)
  if (recAbsent (s.media.rbRec rb)).getLsbD (ch % 8) then s
  else { s with media := s.media.setAbsent rb (recAbsent (s.media.rbRec rb) ||| BitVec.ofNat 8 (2 ^ (ch % 8))) }

/-- Every retirement of the grove that was cut short is completed (08 R267). -/
def State.finishRetirements (s : State) (g : Grove) : State :=
  (s.flash.retBits.filter (fun b => b / 2097152 == g.val)).foldl (fun a b => a.finishRetirement b) s

/-- Die rows of a grove in which no die is present: every record there is RETIRED (07 R216). -/
def State.emptyRowsOf (s : State) (g : Grove) : List Nat := ((List.range 16).map (fun i => g.val * 16 + i)).filter (fun r => !s.rowPopulated r)

/-- The scan of a grove. -/
def State.scanGrove (s : State) (g : Grove) : State :=
  let rbs := (s.media.recs.filter (fun e => rbGrove e.1 == g)).map Prod.fst
  let opened := rbs.filter (fun rb => recState (s.media.rbRec rb) == rbOpen)
  let rows := ((List.range 16).map (fun i => g.val * 16 + i)).filter s.rowPopulated
  let none' := s.emptyRowsOf g
  let s1 := { s with media := { s.media with emptyRows := s.media.emptyRows.filter (fun r => r / 16 != g.val) ++ none' } }
  (opened.foldl (fun a rb => a.checkOpen rb) (rbs.foldl (fun a rb => a.scanRb rb) s1)).retireFew
    (rows.flatMap s.rowBlocks ++ rbs.filter (fun rb => none'.contains (rbRow rb)))

/-- After power-on every count of die reads starts at half of MED_DISTURB_READS (06 R202). -/
def State.halfReads (s : State) : State := { s with media := { s.media with readBase := s.par P.MED_DISTURB_READS / 2 } }

/-- The bits of a bitmap that a heartwood unit of 32 bytes holds. -/
def unitBits (offset : Nat) : List Nat := (List.range 256).map (fun i => offset * 8 + i)

/-- A row block of the rebuild bitmap is due for a rebuild: it holds valid data and has lost a member (09 R280). -/
def State.rebuildDue (s : State) (g : Grove) (bit : Nat) : Bool :=
  let rb := rbKey (g.val * 16 + bit / 16384) (bit % 16384)
  !(s.validIn rb).isEmpty && (below 8 (fun c =>
    let ch := s.flash.chan (rbDch rb c)
    ch.recRetired || ch.failed.getLsbD (rbDie rb))).length != 0

/-- The row blocks of a grove, holding data, whose rate bits a unit of the rate bitmap covers (09 R280). -/
def State.rateCovered (s : State) (g : Grove) (offset : Nat) : List Nat :=
  ((unitBits offset).map (fun x => rbKey (x / 16384) (x % 16384))).filter (fun rb =>
    let st := recState (s.media.rbRec rb)
    rbGrove rb == g && (st == rbOpen || st == rbClosed || st == rbThinning))

/-- Row blocks whose codewords decode at neither rate: what they hold is unrecoverable (09 R280; 08 R274). -/
def State.loseRates (s : State) (g : Grove) (offset : Nat) (bad : List Nat) : State :=
  let xs := ((s.rateCovered g offset).filter (fun rb => bad.contains rb)).flatMap (fun rb => s.validIn rb)
  if xs.isEmpty then s else s.queueChanges .poison (xs.map poisonChange)

/-- An uncorrectable unit of a bitmap (09 R279, R280): 1 the rate bitmap, each of whose bits is written again for the rate that trial reads find, the one
the row block was written with, a row block of which nothing decodes being lost (log entry 139); 2 the rebuild bitmap; 3 the block-retirement bitmap,
which keeps every covered block retired. -/
def State.repairBitmap (s : State) (g : Grove) (bad : List Nat) (b : Nat × Nat) : State :=
  let s1 := s.recordHw srcHeart sevError 0x0E03 b.2
  let bits := unitBits b.2
  let s2 := if b.1 = 2 then
      let r := s1.flash.grove g.val
      let due := if r.rebuild then bits.filter (fun x => s1.rebuildDue g x) else []
      let bm := r.bitmap.filter (fun x => !(bits.contains x)) ++ due
      { s1 with flash := s1.flash.modGrove g.val (fun r => { r with bitmap := bm, rebuild := !bm.isEmpty }) }
    else if b.1 = 3 then
      { s1 with flash := { s1.flash with retBits := bits.foldl (fun l x => addOnce x l) s1.flash.retBits } }
    else s1.loseRates g b.2 bad
  s2.recordHw srcHeart sevError 0x0E04 b.1 b.2

/-- Regions of a grove's domains, where they do not stand yet (06 R184). -/
def State.formDomains (s : State) (g : Grove) : State :=
  if s.media.geom.isNone then s else (s.allDoms.filter (fun d => d.grove == g)).foldl (fun a d => a.fillRegion d) s

/-- U0 of the domains at the first power-on, with the map regions and the dump sets left out (06 R204). -/
def State.firstU0 (s : State) : State := if s.media.geom.isNone then s else s.setU0 (s.allDoms.filter (fun d => (s.media.domS d).u0 = 0))

/-- Namespaces whose key table entry is not valid get a new key, and all of their granules become UNMAPPED (14 R402). One that is being
deleted keeps none. -/
def State.regenKey (s : State) (nsid : Nat) (x : NsS) : State :=
  if x.keyValid || x.mode == .deleting then s
  else
    let work := workOf (nsRanges x)
    let s1 := (List.finRange 8).foldl (fun (a : State) g =>
      let rs := ((sget work g.val).getD []).map (fun r => jRangeUnmap r.1 r.2)
      if rs.isEmpty then a
      else if (a.map.grove g).roomFor rs.length then { a with map := a.map.commit g x.stand rs }
      else a.queueGroup g { why := .records none, changes := [], recs := rs }) s
    ({ s1 with nvm := s1.nvm.rekey nsid }).record sevWarning 0x0404 nsid

/-- The DRAM that the map of the existing namespaces leaves for the leaf cache, in GiB. -/
def State.leafLeft (s : State) : Nat :=
  (s.dramGib * 2 ^ 30 - s.par P.PLP_WRITE_CACHE_MIB * 2 ^ 20 - 4 * 2 ^ 30 - s.nvm.segsHeld * segMapBytes) / 2 ^ 30

/-- The leaf cache takes the smaller of its parameter and what is left (R173). -/
def State.sizeLeafCache (s : State) : State :=
  let want := s.par P.MAP_LEAF_CACHE_GIB
  let n := min want s.leafLeft
  let s1 := { s with map := { s.map with leafCacheGib := n } }
  if n < want then s1.record sevWarning 0x0A04 n else s1

/-- Every grove's map stands: keys, the leaf cache, the dump sets. -/
def State.mapsDone (s : State) : State :=
  let s1 := s.nvm.nss.foldl (fun a e => a.regenKey e.1 e.2) s
  let s2 := ({ s1 with nvm := s1.nvm.loadKeys }).sizeLeafCache
  ((s2.replaceSets.extendSets).firstU0).recheckPlp

/-- The channels of a grove have come up, or are out of service. -/
def State.groveUp (s : State) (g : Grove) : Bool := (List.range 8).all (fun c => (s.flash.chan (g.val * 8 + c)).state != .training)

/-- The rebuild of a grove may run now: DRAM serves, the grove's channels are up, its map does not stand yet, and, for a cold rebuild of
another grove, grove 0 has loaded the segment tables. -/
def State.mayRebuild (s : State) (g : Grove) (warm : Bool) : Bool :=
  s.fwRuns && s.dram.ready && decide (1 ≤ s.dram.filled) && s.groveUp g && !s.dev.mapDone.getLsbD g.val && (warm || g == 0 || s.dev.mapDone.getLsbD 0)

/-- The rebuild of a grove ends. -/
def State.rebuilt (s : State) (g : Grove) : State :=
  let bit : BitVec 8 := BitVec.ofNat 8 (2 ^ g.val)
  let s1 := { s with
    dev := { s.dev with mapDone := s.dev.mapDone ||| bit }
    map := s.map.modGrove g (fun x => { (x.applied (x.nextSeq - 1)) with restarting := false, inDram := true, ctlBad := false })
    mgmt := { s.mgmt with groveRebuild := s.mgmt.groveRebuild &&& ~~~bit } }
  let s2 := s1.redoUnits
  if s2.dev.phase == .booting && s2.dev.mapDone == 255 then s2.mapsDone else s2

/-- The grove's map cannot be rebuilt (R164). -/
def State.mapFatal (s : State) (g : Grove) (q : Nat) : State := s.recordHw (srcFtl g) sevFatal 0x0A02 g.val (q % 4294967296) (q / 4294967296)

/-- The counts of a grove come from the older wear table, where the newer one's pointer is not valid (06 R197). -/
def State.olderWear (s : State) (g : Grove) : State :=
  let keep := s.media.erases.filter (fun e => rbGrove e.1 != g)
  { s with media := { s.media with erases := (s.media.wearOlder.filter (fun e => rbGrove e.1 == g)).foldl (fun t e => sput e.1 e.2 t) keep } }

/-- The members of a row block that a retired channel or a failed die has taken and that held data or parity there (07 R237). -/
def State.lostMembers (s : State) (rb : Nat) : List Nat :=
  let held := (s.flash.content.map (fun e => BitVec.ofNat 40 e.1)).filter (fun p => plocRb p == rb)
  below 8 (fun c =>
    let ch := s.flash.chan (rbDch rb c)
    (ch.recRetired || ch.failed.getLsbD (rbDie rb)) && (c == s.parityOf rb || held.any (fun p => plocChan p == c)))

/-- Start-up finds REBUILD 1 and BMVALID 0: the rebuild set is computed again, and the bitmap written (07 R238). Row blocks that have lost two members
meanwhile are those of R242. -/
def State.recomputeRebuild (s : State) (g : Grove) : State :=
  let r := s.flash.grove g.val
  if !r.rebuild || r.bmvalid then s
  else
    let rbs := (s.media.recs.filter (fun e => rbGrove e.1 == g)).map Prod.fst
    let set := rbs.filter (fun rb =>
      let st := recState (s.media.rbRec rb)
      (st == rbOpen || st == rbClosed || st == rbThinning) && !(s.reserved.contains rb) && !(s.validIn rb).isEmpty && !(s.lostMembers rb).isEmpty)
    (s.loseTwice g.val (set.filter (fun rb => 2 ≤ (s.lostMembers rb).length))).writeBitmap g.val (set.map rebuildBit)

/-- The start-up of a grove's map, once its journal has been found whole. -/
def State.rebuildFrom (s : State) (g : Grove) (warm : Bool) (start : Qword) (i : RebuildInput) : State :=
  let s0 := if warm then s.warmRebuild g else s.coldRebuild g start
  let s1 := { s0 with map := s0.map.sinceRoot g }
  let s2 := i.badBitmap.foldl (fun a b => a.repairBitmap g i.undecodable b) s1
  let s3 := ((s2.finishRetirements g).scanGrove g).recomputeRebuild g
  let s4 := if getField s.dev.rstCause 0 2 = 1 ∧ s.dev.phase = .booting then (if i.badWear then s3.olderWear g else s3).halfReads else s3
  (s4.formDomains g).rebuilt g

/-- The start-up of a grove's map (R162 to R164). -/
def State.rebuildGrove (s : State) (g : Grove) (warm : Bool) (i : RebuildInput) : State :=
  let x := s.map.grove g
  match i.badRecord, i.badRecord.bind x.tornAt with
  | some q, none => s.mapFatal g q
  | _, y =>
    let s0 := { s with map := s.map.modGrove g (fun x => y.getD x) }
    if warm then s0.rebuildFrom g true 0 i
    else match (s0.map.grove g).replayStart i.badRoot with
      | none => s.mapFatal g 0
      | some start => if (s0.map.grove g).seqGap start then s.mapFatal g start.toNat else s0.rebuildFrom g false start i

end Sys2Proof.Machine
end

