-- ==== Sys2Proof/Machine/MapRows.lean ====
section
/-! DEFINITION. The commands of the map and its lease (05; 01 R21), and the action parameters of 06 R207 and 07 R243. -/

namespace Sys2Proof.Machine

/-- LEAF_MISS (01 R21; 05 R167, R169, R170): the owning grove makes room and fetches the page from the lease or from flash. -/
def execLeafMiss (dgn : Nat) (p : Port) (s : State) : Host.Outcome State Fault Refusal :=
  .next (match s.map.pageOf dgn with
    | none => s
    | some lpn => match sget s.map.pages lpn with
      | none => s
      | some g =>
        if !s.fwRuns || g.cached then s
        else
          let s1 := { s with map := s.map.noteMiss lpn p }
          if s.missServed lpn || s.groveRestarting (groveOf dgn) then s1 else (s1.evictOne).serveMiss lpn p g)

/-- LEASE_WRITE_BACK_DONE (05 R168). -/
def execLeaseWriteBackDone (lpn : Nat) (s : State) : Host.Outcome State Fault Refusal :=
  .next (if s.groveRestarting (groveOf lpn) then s else match s.nvm.writer lpn with
    | none => s
    | some p => match (s.nvm.lease p).writes lpn with
      | some w => if s.land.holds (.lease lpn) then (s.writeBackDone p w).leaseOver p else s
      | none => s)

/-- What becomes of a fetch (05 R169, R170): a copy that passes every check is cached; any other, a poisoned completion and a timeout are discarded
and the page is read from flash. -/
def State.fetchDone (s : State) (p : Port) (lpn : Nat) (reply : Option Block) : State :=
  match sget s.map.pages lpn with
  | none => s.fetchStale p lpn
  | some g =>
    if !g.leased || g.cached then s.fetchStale p lpn
    else match reply with
      | some b => if s.map.accepts lpn g b then s.fetchOk p lpn else s.discardLease p lpn
      | none => s.discardLease p lpn

/-- LEASE_FETCH_DONE (05 R169, R170). `reply` is the 4,096-byte copy that the fetch brings, none after a poisoned completion or a timeout. -/
def execLeaseFetchDone (lpn : Nat) (reply : Option Block) (s : State) : Host.Outcome State Fault Refusal :=
  .next (if s.groveRestarting (groveOf lpn) then s else match s.nvm.fetcher lpn with
    | none => s
    | some p => (s.fetchDone p lpn reply).leaseOver p)

/-- LEASE_REVOKE_DONE (05 R171): the last access has completed, so the lease ends and the Revoke completes. -/
def execLeaseRevokeDone (p : Port) (s : State) : Host.Outcome State Fault Refusal :=
  .next (
    let l := s.nvm.lease p
    if l.state == .revoking && l.writing.isEmpty && l.fetching.isEmpty then s.endLease p (l.ending.getD 1) else s)

/-- MAP_LEASE_REKEY (05 R172; 18 R498). -/
def execMapLeaseRekey (f : Frame) (v : Nat) (s : State) : Host.Outcome State Fault Refusal :=
  .next (s.actionRequest (.mapLeaseRekey f v) f P.MAP_LEASE_REKEY v actRekey)

/-- A slab of the grove is under repair: what changes the map waits, all but the poisoning of what was lost with it (05 R165). -/
def State.repairFirst (s : State) (g : Grove) (x : CommitGroup) : Bool := x.why != .poison && s.map.repairing.any (fun r => r.1 == g.val)

/-- A grove may commit: its cores run, no dump has stopped them (09 R292), and the ring has room (05 R159). -/
def State.mayCommit (s : State) (g : Grove) : Bool :=
  s.fwRuns && !s.plp.dumping && !s.groveRestarting g && (s.map.grove g).room && s.dev.mapDone.getLsbD g.val

/-- JOURNAL_COMMIT_DONE (05 R155 to R159; 01 R30): the next group of a grove is durable and applied, and what it lets go on goes on. A group for which
the ring has no room waits until a half has been programmed to the map log. -/
def execJournalCommitDone (g : Grove) (s : State) : Host.Outcome State Fault Refusal :=
  .next (match (s.map.grove g).groups with
    | [] => s
    | x :: rest =>
      if s.repairFirst g x then s
      else if s.mayCommit g then
        let s1 := ({ s with map := s.map.modGrove g (fun m => { m with groups := rest }) }).commitGroup g x
        if (s1.map.grove g).ring.length ≤ 2 * halfRing then ((s1.startCompact g).spill g).resumeReads else s.spill g
      else if s.groveRestarting g then s else s.spill g)

/-- One unit of a generation is placed: a leaf page that has been freed needs no copy, and one whose DRAM copy was lost is read first (Table 5-10). -/
def State.genUnit (s : State) (g : Grove) (u : Nat) : State :=
  if s.map.repairing.contains (g.val, u) then s
  else if u % 8 != 2 then s.placeUnit g (u % 8) (u / 8)
  else match sget s.map.pages (u / 8) with
    | none => { s with map := s.map.modGrove g (fun x => x.placed 2 (u / 8) 0) }
    | some p => if p.cached || !p.dirty then s.placeUnit g 2 (u / 8) else if s.missServed (u / 8) then s else s.readLeaf (u / 8)

/-- One slice of the grove's checkpoint work: what is left of a spill comes first, then the generation in progress, then the wear table; with all of them
done the next generation begins. -/
def State.checkpointSlice (s0 : State) (g : Grove) : State :=
  let s := s0.spill g
  match (s.map.grove g).gen with
  | none => match (s.map.grove g).wearLeft with
    | i :: _ => s.placeUnit g 5 i
    | [] => if (s.map.grove g).room then { s with map := s.map.genStart g } else s
  | some e => match e.units with
    | u :: _ => s.genUnit g u
    | [] =>
      if s.unitsPending g then s
      else match e.root with
        | none => { s with map := s.map.rootUnits g }
        | some p => s.genEnd g e.start p

/-- CHECKPOINT_SLICE (05 R160, R161): a generation begins, one unit is copied, or, with all of them committed, the root table and
pointer are written. On the first rung, while the map log is high, slices keep no gap (03 R94). -/
def execCheckpointSlice (g : Grove) (s : State) : Host.Outcome State Fault Refusal :=
  .next (if !s.mediaRuns || s.groveRestarting g || !s.dev.mapDone.getLsbD g.val || (s.sliceHeld g 0 && !(s.map.grove g).logHigh) then s
    else (s.checkpointSlice g).sliceEnds g 0)

/-- MAP_REBUILD (05 R162 to R164). -/
def execMapRebuild (g : Grove) (i : RebuildInput) (s : State) : Host.Outcome State Fault Refusal :=
  .next (
    let warm := i.controlOk && (s.map.grove g).inDram && (s.map.grove g).ctlGood
    if s.mayRebuild g warm then s.rebuildGrove g warm i else s)

/-- The domains that a release concerns (06 R207): the shared ones, or a stand's own. -/
def State.releaseDoms (s : State) (v : Nat) : List DomId :=
  if v = 0xFFFF then sharedDoms else s.ownDoms ⟨v % 128, by omega⟩

/-- The release is refused while A(d) of a domain concerned lies below MED_SPARE_WARN. -/
def State.releaseHeld (s : State) (v : Nat) : Bool :=
  (s.releaseDoms v).any (fun d => match s.avail d with
    | some a => decide (a < s.par P.MED_SPARE_WARN)
    | none => false)

/-- READ_ONLY, or a stand's write protection, ends; what was in force and has ended is recorded. -/
def State.releaseWrites (s : State) (v : Nat) : State :=
  let was := if v = 0xFFFF then s.media.readOnly else ((s.nvm.stand (v % 128)).map (fun x => x.prot)).getD false
  let s1 := if v = 0xFFFF then { s with media := { s.media with readOnly := false } }
    else { s with nvm := s.nvm.modStand (v % 128) (fun x => { x with prot := false }) }
  if was then s1.record sevNotice 0x0B05 v else s1

/-- MED_READ_ONLY_RELEASE as an action. -/
def actRelease (v : Nat) : Action := { refuse := fun s => s.releaseHeld v, act := fun s => s.releaseWrites v }

/-- MED_READ_ONLY_RELEASE (06 R207). -/
def execMedReadOnlyRelease (f : Frame) (v : Nat) (s : State) : Host.Outcome State Fault Refusal :=
  .next (s.actionRequest (.medReadOnlyRelease f v) f P.MED_READ_ONLY_RELEASE v (actRelease v))

/-- CHN_DEGRADED_CLEAR as an action: refused while REBUILD is 1 in the grove; one write clears DEGRADED and LOSTCW (07 R243). -/
def actDegraded (v : Nat) : Action :=
  { refuse := fun s => (s.flash.grove (v % 8)).rebuild
    act := fun s => { s with flash := s.flash.modGrove (v % 8) (fun r => { r with degraded := false, lostcw := 0 }) } }

/-- CHN_DEGRADED_CLEAR (07 R243). -/
def execChnDegradedClear (f : Frame) (v : Nat) (s : State) : Host.Outcome State Fault Refusal :=
  .next (s.actionRequest (.chnDegradedClear f v) f P.CHN_DEGRADED_CLEAR v (actDegraded v))

end Sys2Proof.Machine
end

