-- ==== Sys2Proof/Machine/MgmtOps.lean ====
section
/-! DEFINITION. Management complexes (15 R428 to R438): how a handover starts, ends and fails, MGMT_LOST, the rollout of an FTL image;
the selector (16 R459, R460) and what the failure of an activation does (16 R463). -/

namespace Sys2Proof.Machine

/-! ## The selector (16 R459, R460) -/

/-- Copy 0 is in force. -/
def NorS.firstInForce (n : NorS) : Bool :=
  match n.sel0, n.sel1 with
  | some a, some b => !decide (a.seq < b.seq)
  | some _, none => true
  | none, _ => false

/-- SEQ of the copy in force; 0 if none is valid (Table 16-8). -/
def NorS.selSeq (n : NorS) : Qword := (n.selector.map (fun x => x.seq)).getD 0

/-- Write a choice to the copy that is not in force, with SEQ one above it (R460). -/
def NorS.writeSelector (n : NorS) (boot cfg : Nat) : NorS :=
  let x : Selector := { seq := n.selSeq + 1, boot := boot, cfg := cfg }
  if n.firstInForce then { n with sel1 := some x } else { n with sel0 := some x }

/-- The image slot that the selector names; slot A when none is valid. -/
def NorS.bootSel (n : NorS) : Nat := (n.selector.map (fun x => x.boot % 2)).getD 0
/-- The configuration slot that it names. -/
def NorS.cfgSel (n : NorS) : Nat := (n.selector.map (fun x => x.cfg % 2)).getD 0

/-! ## Activation (16 R462, R463) -/

/-- An activation is in progress. -/
def NorS.activating (n : NorS) : Bool := n.upd.state == 3

/-- The activation has come to its end: UPDSTATE none. -/
def State.endActivation (s : State) : State :=
  if s.nor.activating then { s with nor := { s.nor with upd := Update.none } } else s

/-- An activation has failed (R463): the selector names the booted slot again, UPDSTATE is none, and the event names which part
failed and the release. -/
def State.activationFails (s : State) (part release : Nat) : State :=
  let n := s.nor.writeSelector s.nor.booted s.nor.cfgSel
  ({ s with nor := { n with upd := Update.none }, mgmt := { s.mgmt with rolloutNext := none } }).record sevError 0x1204 part release

/-! ## Rollout (15 R436 to R438) -/

/-- Grove g as a bit of an 8-bit mask. -/
def groveBit (g : Nat) : BitVec 8 := BitVec.ofNat 8 (2 ^ g)

/-- A rollout starts: every grove is to run the release; the release it leaves stays in the staging area. -/
def MgmtS.startRollout (m : MgmtS) (release now : Nat) : MgmtS :=
  { m with rolloutNext := none,
           rollout := some { release := release, previous := vget m.groveRel 0 0, next := 0, back := false, since := now } }

/-- The next grove in ascending order: forward one that does not run the new release yet, backward one that runs it. -/
def MgmtS.nextGrove (m : MgmtS) (r : Rollout) : Option Nat :=
  (List.range 8).find? (fun g => if r.back then vget m.groveRel g 0 == r.release else decide (r.next ≤ g))

/-- A grove restart is in progress. -/
def State.restartRuns (s : State) : Bool := s.map.groves.toList.any (fun m => m.restarting)

/-- Copies of a grove that have been placed and not committed are orphaned (06 Table 6-6): their sets hold them no more. -/
def MediaS.orphanCopies (m : MediaS) (g : Grove) : MediaS :=
  { m with sets := smap (fun _ (w : WSet) => { w with items := w.items.filter (fun i => match i.src with
      | .copy p => rbGrove (plocRb p) != g
      | _ => true) }) m.sets }

/-- Steps 1 to 3 of Table 15-5: map work is held, THINNING row blocks go to CLOSED, and the control block is written. -/
def State.groveDown (s : State) (g : Grove) : State :=
  let mine := s.media.doms.filter (fun d => d.dom.grove == g)
  let s0 := { s with media := s.media.orphanCopies g }
  let s1 := mine.foldl (fun (a : State) d => d.victims.foldl (fun (b : State) v => b.backToClosed d.dom v.rb) a) s0
  { s1 with map := s1.map.modGrove g (fun m => { (m.applied (m.nextSeq - 1)) with restarting := true, downAt := s.now }) }

/-- Steps 4 to 6: the grove serves again, on a release. -/
def State.groveBack (s : State) (g : Grove) (release : Nat) : State :=
  { s with map := s.map.modGrove g (fun m => { m with restarting := false })
           mgmt := { s.mgmt with groveRel := vmod s.mgmt.groveRel g.val (fun _ => release)
                                 groveRetry := s.mgmt.groveRetry &&& ~~~(groveBit g.val) } }

/-- A grove is back: the rollout notes the time, and ends when no grove is left. -/
def State.rolloutGoOn (s : State) (g : Nat) : State :=
  match s.mgmt.rollout with
  | none => s
  | some r =>
    let r1 := { r with next := if r.back then r.next else g + 1, since := s.now }
    let m := { s.mgmt with rollout := some r1 }
    if (m.nextGrove r1).isNone then ({ s with mgmt := { m with rollout := none } }).endActivation else { s with mgmt := m }

/-- The rollout stops (R438): every grove on the new release goes back, and the activation has failed. -/
def State.rolloutStops (s : State) (g : Nat) (r : Rollout) : State :=
  let s1 := { s with mgmt := { s.mgmt with rollout := some { r with back := true } } }
  (s1.record sevError 0x1103 g r.release).activationFails 2 r.release

/-- A grove that fails with the previous release too rebuilds its map under 05 R162 (R438). -/
def State.groveRebuilds (s : State) (g : Grove) (release : Nat) : State :=
  { s with
    dev := { s.dev with mapDone := s.dev.mapDone &&& ~~~(groveBit g.val) }
    map := s.map.modGrove g (fun m => { m with inDram := false })
    mgmt := { s.mgmt with groveRel := vmod s.mgmt.groveRel g.val (fun _ => release)
                          groveRetry := s.mgmt.groveRetry &&& ~~~(groveBit g.val)
                          groveRebuild := s.mgmt.groveRebuild ||| groveBit g.val } }

/-! ## Handover (15 R428 to R433) -/

/-- LASTCAUSE codes (Table 15-4): the watchdog. -/
abbrev hoWatchdog : Nat := 1
/-- A fault. -/
abbrev hoFault : Nat := 2
/-- Image activation. -/
abbrev hoActivation : Nat := 3
/-- The operator's request. -/
abbrev hoOperator : Nat := 4

/-- MGMT_LOST (R434): no complex runs; every outstanding admin command completes with Internal Error (03 Table 3-4), what it has begun goes on
without it, and an update or activation is abandoned with its protection restored (16 Table 16-15). -/
def State.loseMgmt (s : State) : State :=
  let ts := (s.host.tags.filter (fun e => e.2.sqid == 0 && e.2.phase != .held)).map Prod.fst
  let s1 := { s with
    mgmt := { s.mgmt with runs := false, lost := true, handover := none, rollout := none, rolloutNext := none }
    host := { s.host with holdAdmin := false, funcs := smap (fun _ f => { f with aers := [] }) s.host.funcs }
    nvm := { (s.nvm.keepDetaches []) with lease0 := { s.nvm.lease0 with revokeTag := none }, lease1 := { s.nvm.lease1 with revokeTag := none } }
    nor := { s.nor with upd := Update.none, unprotected := none } }
  ts.foldl (fun a k => a.complete k stInternal) (s1.orphan ts)

/-- Step 1 of Table 15-2: the front end holds new admin commands; after a watchdog or fault trigger the old complex is off. An entry to
PS3 or PS4 is abandoned (Table 15-3). -/
def State.beginHandover (s : State) (cause : Nat) (oldRuns : Bool) (release : Option Nat) : State :=
  let s1 := if s.pwr.entering then s.leaveIdle else s
  { s1 with
    mgmt := { s1.mgmt with runs := oldRuns, handover := some { cause := cause, oldRuns := oldRuns, release := release, since := s.now } }
    host := { s1.host with holdAdmin := true } }

/-- A trigger of the operator or of an activation: it merges into a handover in progress (R428). -/
def State.askHandover (s : State) (cause : Nat) (release : Option Nat) : State :=
  match s.mgmt.handover with
  | none => s.beginHandover cause true release
  | some h =>
    match release with
    | none => s
    | some _ => { s with mgmt := { s.mgmt with handover := some { h with release := release } } }

/-- A watchdog or fault trigger. It merges into a handover in progress, whose old complex is off from here on; with STBY reading FAULTY
the device enters MGMT_LOST at once (R433). -/
def State.failOver (s : State) (cause : Nat) : State :=
  match s.mgmt.handover with
  | some h => { s with mgmt := { s.mgmt with runs := false, handover := some { h with oldRuns := false } } }
  | none => if s.mgmt.stby = 2 then (if s.pwr.entering then s.leaveIdle else s).loseMgmt else s.beginHandover cause false none

/-- The active complex may lapse: it runs, awake, and no debug session holds it (14 R414). -/
def State.mayLapse (s : State) : Bool := s.mgmtServes && decide (s.pwr.ps ≤ 2)

/-- The handover fails (R433). -/
def State.handoverFails (s : State) (h : Handover) (result : Nat) : State :=
  let m := { s.mgmt with stby := 2, hoFail := s.mgmt.hoFail + 1, lastCause := h.cause, lastResult := result, handover := none }
  let s1 := ({ s with mgmt := m }).recordBy srcAon sevError 0x1101 result h.cause
  if !h.oldRuns then s1.loseMgmt
  else
    let s2 := { s1 with host := { s1.host with holdAdmin := false }
                        mgmt := { s1.mgmt with standbyRel := s1.mgmt.mgmtRel, standbySvn := s1.mgmt.mgmtSvn } }
    match h.release with
    | some r => s2.activationFails 1 r
    | none => s2

/-- The new complex emits again every record journaled since the newer checkpoint; the Tally drops what it has (R427, R430). -/
def State.reEmit (s : State) : State := s.mgmt.msgs.foldl (fun a x => a.submit x) s

/-- An update that is still receiving is abandoned at takeover (16 Table 16-15). -/
def State.dropReceiving (s : State) : State :=
  if s.nor.upd.state = 1 then { s with nor := { s.nor with upd := Update.none, unprotected := none } } else s

/-- CFGFMT of the management release that an activation brings: that of the image the selector names. -/
def State.newCfgFmt (s : State) (h : Handover) : Nat :=
  if h.release.isSome then ((s.nor.slot s.nor.bootSel).hdr.map (fun x => x.cfgFmt)).getD s.mgmt.cfgFmt else s.mgmt.cfgFmt

/-- Steps 7 and 8: the new complex has taken over. The open session closes (14 Table 14-15), and an FTL rollout that waited for the
handover starts (16 R462). -/
def State.handoverDone (s : State) (h : Handover) : State :=
  let m := { s.mgmt with activeB := !s.mgmt.activeB, runs := true, handover := none, handovers := s.mgmt.handovers + 1
                         lastCause := h.cause, lastResult := 0, mgmtRel := s.mgmt.standbyRel, mgmtSvn := s.mgmt.standbySvn,
                         cfgFmt := s.newCfgFmt h }
  let s1 := { s with mgmt := m, host := { s.host with holdAdmin := false } }
  let s2 := if h.oldRuns then s1 else s1.reEmit
  let s3 := (s2.closeSession 4).dropReceiving
  match s3.mgmt.rolloutNext with
  | some r => { s3 with mgmt := s3.mgmt.startRollout r s3.now }
  | none => if h.release.isSome then s3.endActivation else s3

/-- MGT_HANDOVER_NOW (R428): refused while STBY reads FAULTY. -/
def actHandover : Action :=
  { refuse := fun s => decide (s.mgmt.stby = 2), act := fun s => s.askHandover hoOperator none }

end Sys2Proof.Machine
end

