-- ==== Sys2Proof/Machine/ParamOps.lean ====
section
/-! DEFINITION. Parameters at run time (18 R494 to R502): what PARAM_READ returns, owning units, staging, and what follows from a new
value. -/

namespace Sys2Proof.Machine

/-! ## Reading -/

/-- PWR_PAD_RELEASE bits [2:0] (13 Table 13-9). -/
def DevS.padWord (d : DevS) : Nat := bitIf d.latchFlash 0 + bitIf d.latchDram 1 + bitIf d.latchGpio 2

/-- The value that PARAM_READ returns (R501): a mirror returns what it mirrors, an action parameter 0. -/
def State.readValue (s : State) (d : PDef) (inst : Nat) : Nat :=
  match d.access with
  | .plain => s.parI d.id inst
  | .action => 0
  | .mirror => if d.id = 0x0203 then s.dev.padWord else s.fuses.gapCycles

/-- CLASS of PARAM_READ. -/
def classCode : PClass → Nat
  | .boot => 0
  | .quiesce => 1
  | .live => 2

/-- The payload of PARAM_READ: its length and value. -/
def State.paramPayload (s : State) (d : PDef) (inst : Nat) : Nat × Nat :=
  let v := s.readValue d inst
  match sget s.params.staged (paramKey d.id inst) with
  | some w => (4 + 2 * d.bytes, packBits [(0, 8, classCode d.cls), (8, 8, 1), (16, 16, d.width), (32, 8 * d.bytes, v),
                                          (32 + 8 * d.bytes, 8 * d.bytes, w)])
  | none => (4 + d.bytes, packBits [(0, 8, classCode d.cls), (16, 16, d.width), (32, 8 * d.bytes, v)])

/-- The configuration status window (Table 18-10), 64 bytes. -/
def State.configWindow (s : State) : Nat :=
  packBits [(0, 32, s.params.imgVersion.toNat), (32, 16, s.mgmt.cfgFmt), (48, 16, s.params.imgFormat.toNat),
    (64, 384, s.params.hdrHash.toNat), (448, 32, s.params.staged.length), (480, 32, s.params.reconfigs.toNat)]

/-- The contents of a status window (Table 18-9): its length in bytes and value. -/
def State.window (s : State) (id inst : Nat) : Option (Nat × Nat) :=
  if id = 0x0AF0 then (if inst = 0 then some (64, leaseWindow s.nvm.lease0) else if inst = 1 then some (64, leaseWindow s.nvm.lease1) else none)
  else if inst ≠ 0 then none
  else if id = 0x01F0 then some (4, s.dev.clkCtrl.toNat)
  else if id = 0x03F0 then some (4, s.dev.rstCause.toNat)
  else if id = 0x03F1 then some (4, s.dev.bootStatus.toNat)
  else if id = 0x04F0 then some (4, s.secstat.toNat)
  else if id = 0x13F0 then some (128, s.tally.window)
  else if id = 0x14F0 then some (64, s.configWindow)
  else none

/-! ## Owning units (Table 18-8) -/

/-- The units, numbered: 0 front end, 1 DMA engines, 2 Landing allocator, 3 to 10 FTL cores of groves 0 to 7, 11 to 18 sequencers of
groves 0 to 7, 19 DRAM controller, 20 active management complex, 21 Tally engine. -/
def ownerUnit (id inst : Nat) : Nat :=
  let b := id / 256
  if b = 0x06 ∨ b = 0x07 ∨ b = 0x0F then 0
  else if b = 0x08 then 1
  else if b = 0x09 then 2
  else if id = P.DIE_LDPC_RATE then 3 + inst / 16 % 8
  else if b = 0x0A ∨ b = 0x0B ∨ id = P.CHN_REBUILD_MIN_PCT then 3 + inst % 8
  else if b = 0x0C ∨ b = 0x0D then 11 + inst / 8 % 8
  else if b = 0x10 then 19
  else if b = 0x13 then 21
  else 20

/-- The entries of a table of values that a unit takes. -/
def ofUnit (unit : Nat) (t : Sparse Nat) : Sparse Nat := t.filter (fun e => ownerUnit (e.1 / 256) (e.1 % 256) == unit)

/-- A unit reaches its quiescent point: it takes its staged values (R499). -/
def ParamS.takeStaged (p : ParamS) (unit : Nat) : ParamS :=
  { p with vals := (ofUnit unit p.staged).foldl (fun a e => setVal a (e.1 / 256) (e.1 % 256) e.2) p.vals
           staged := p.staged.filter (fun e => ownerUnit (e.1 / 256) (e.1 % 256) != unit) }

/-! ## Taking new values -/

/-- Stage one record for every instance it names; a later value replaces an earlier one (R499). -/
def stageVal (staged : Sparse Nat) (r : CfgRec) : Sparse Nat :=
  match paramDef r.id with
  | none => staged
  | some d =>
    if r.inst = 0xFF then (List.range d.kind.count).foldl (fun a i => sput (paramKey r.id i) r.value a) staged
    else sput (paramKey r.id r.inst) r.value staged

/-- A record names a parameter of this class. -/
def recClass (c : PClass) (r : CfgRec) : Bool := ((paramDef r.id).map (fun d => d.cls == c)).getD false

/-- A record for every instance comes before the records for one, which govern it (R487). -/
def ffFirst (rs : List CfgRec) : List CfgRec := rs.filter (fun r => r.inst == 0xFF) ++ rs.filter (fun r => r.inst != 0xFF)

/-- The entries of an accepted record: LIVE ones are applied, QUIESCE ones staged (R494, R497). -/
def ParamS.take (p : ParamS) (rs : List CfgRec) : ParamS :=
  { p with vals := applyRecs p.vals (rs.filter (recClass .live))
           staged := (ffFirst (rs.filter (recClass .quiesce))).foldl stageVal p.staged }

/-- Buckets above a new burst are cut to it at once; refill goes on at the new rate (17 Table 17-7). -/
def TallyS.cutBuckets (t : TallyS) (oldRate oldBurst burst now : Nat) : TallyS :=
  { t with buckets := smap (fun _ (b : Bucket) =>
      let x := b.refill oldRate oldBurst now
      { x with tokens := min x.tokens (burst * oneToken) }) t.buckets }

/-- Each write of TLY_EPOCH records EPOCH (17 Table 17-4). -/
def State.noteEpoch (s : State) (rs : List CfgRec) : State :=
  match rs.find? (fun r => r.id == P.TLY_EPOCH) with
  | none => s
  | some r => s.recordHw srcTally sevInfo 0x1302 (r.value % 4294967296) (r.value / 4294967296) (s.now % 4294967296)
      (s.now / 4294967296)

/-- What follows at once from values that are in force: the Tally's buckets, EPOCH, debts and spare in their domains (06 R195, R206), and the choice of
the power state (13 R380). -/
def State.valuesTaken (s : State) (rs : List CfgRec) (oldRate oldBurst : Nat) : State :=
  let tly := rs.any (fun r => r.id == P.TLY_RATE_PER_S || r.id == P.TLY_BURST)
  let s1 := if tly then { s with tally := s.tally.cutBuckets oldRate oldBurst (s.par P.TLY_BURST) s.now } else s
  ((s1.noteEpoch rs).clearDebts.recheckSpare).recheckPower

/-- An accepted record of plain parameters (R497): journaled, applied and staged; 0 ACCEPTED, 1 STAGED. -/
def State.takeRecord (s : State) (f : Frame) (rs : List CfgRec) : State :=
  let s1 := s.acceptRecord
  let s2 := { s1 with params := s1.params.take rs }
  ((State.raiseLags s s2).valuesTaken rs (s.par P.TLY_RATE_PER_S) (s.par P.TLY_BURST)).naileOk f 0x02 1
    (if rs.any (recClass .quiesce) then 1 else 0)

end Sys2Proof.Machine
end

