-- ==== Sys2Proof/Machine/NaileRows.lean ====
section
/-! DEFINITION. The rows of the Naile port (16 R441 to R450): link commands, the Tally, the health report, raw codewords and
RECOVERY_STATUS. -/

namespace Sys2Proof.Machine

/-! ## SPI commands (R442, R443) -/

/-- The status byte and ERRCODE (Table 16-2). -/
def NaileS.statusWord (n : NaileS) : BitVec 16 :=
  BitVec.ofNat 16 (bitIf n.busy 1 + bitIf n.resp.isSome 2 + bitIf (!n.alerts.isEmpty) 3 + bitIf n.err 4 + bitIf n.ovf 5 + 2 ^ 6 +
    n.errcode * 256)

/-- READ_STATUS (R443): the status byte and ERRCODE; OVF clears. Without a responder the byte reads 00h. -/
def execReadStatus (s : State) : Host.Outcome State Fault Refusal :=
  .next (if s.responder = .none then { s with naile := { s.naile with statusOut := 0 } }
    else { s with naile := { s.naile with statusOut := s.naile.statusWord, ovf := false } })

/-- READ_RESP (R442, R445): the response frame, where one is ready; the read is not destructive. -/
def execReadResp (s : State) : Host.Outcome State Fault Refusal :=
  .next (if s.responder = .none then { s with naile := { s.naile with respOut := none } }
    else { s with naile := { s.naile with respOut := s.naile.resp } })

/-- READ_ALERT (R442, R450): the oldest alert frame, which leaves the queue. -/
def execReadAlert (s : State) : Host.Outcome State Fault Refusal :=
  .next (if s.responder = .none then { s with naile := { s.naile with alertOut := none } }
    else { s with naile := { s.naile with alertOut := s.naile.alerts.head?, alerts := s.naile.alerts.drop 1 } })

/-- ERRCODE of a link fault. -/
def faultCode : FrameFault → Nat
  | .crc => 1
  | .length => 2
  | .busy => 3
  | .cut => 4

/-- WRITE_FRAME discarded at the link (R443, R445): ERR and ERRCODE are set and no response is produced. -/
def execWriteFrame (fault : FrameFault) (s : State) : Host.Outcome State Fault Refusal :=
  .next (if s.responder = .none ∨ (fault = .busy ∧ !s.naile.busy) then s
    else { s with naile := s.naile.discard (faultCode fault) })

/-! ## TALLY_READ, HEALTH_READ (17 R481; 15 R439) -/

/-- A record's number is at or after START; START 0 is before every number. -/
def fromStart (start : Nat) (r : TRec) : Bool :=
  start == 0 || r.tseq == BitVec.ofNat 32 start || serialNewer r.tseq (BitVec.ofNat 32 start)

/-- Records packed back to back, 32 bytes each. -/
def packRecs (l : List TRec) : Nat := l.foldr (fun r a => r.bits.toNat + 2 ^ 256 * a) 0

/-- What TALLY_READ does. -/
def State.runTallyRead (s : State) (f : Frame) (tier count start : Nat) : State :=
  if 1 < tier ∨ count = 0 ∨ 128 < count then s.naileFail f 0 nfField 0
  else
    let t := if tier = 0 then s.tally.ring else s.tally.tier
    let l := (t.recs.filter (fromStart start)).take count
    s.naileOk f 0x20 (32 * l.length) (packRecs l)

/-- TALLY_READ (17 R481). -/
def execTallyRead (f : Frame) (tier count start : Nat) (s : State) : Host.Outcome State Fault Refusal :=
  .next (s.request (.tallyRead f tier count start) f (.tally tier) (fun s => s.runTallyRead f tier count start))

/-- What HEALTH_READ does: page 0 takes a new snapshot of this path. -/
def State.runHealthRead (s : State) (f : Frame) (page : Nat) : State :=
  if 8 < page then s.naileFail f 0 nfField 0
  else
    let s1 := if page = 0 then s.snapshot 0 else s
    s1.naileOk f 0x21 4096 (((s1.mgmt.page 0 page).map (fun b => b.toNat)).getD 0)

/-- HEALTH_READ (15 R439). -/
def execHealthRead (f : Frame) (page : Nat) (s : State) : Host.Outcome State Fault Refusal :=
  .next (s.request (.healthRead f page) f .health (fun s => s.runHealthRead f page))

/-! ## RAW_DIAG (R448; 08 Table 8-4) -/

/-- The session that RAW_DIAG needs is open. -/
def State.rawAllowed (s : State) : Bool :=
  match s.sec.session with
  | none => false
  | some x => x.level == 1 || (x.level == 2 && s.fuses.lc == 3)

/-- A suspended operation of the die that meets a test. -/
def State.suspendedOn (s : State) (p : Ploc) (test : DieOp → Bool) : Bool :=
  s.flash.ops.any (fun e => e.2.suspended && e.2.key == dieKey (plocDch p) (plocDie p) && test e.2)

/-- The page lies in the wordline set of a program: three pages of a TLC block, one of an SLC block. -/
def DieOp.inWordlines (o : DieOp) (p : Ploc) : Bool :=
  o.block == plocBlock p && (if o.kind == .progTlc then o.page / 3 == plocPage p / 3 else o.page == plocPage p)

/-- Bytes of a codeword at the rate of its row block (08 Table 8-6). -/
def FlashS.cwBytes (f : FlashS) (rb : Nat) : Nat := if f.rateBits.contains rb then 4700 else 4569

/-- What RAW_DIAG does: an outcome at once, or a read in queue 5 whose end answers. Bytes beyond the codeword are a value out of range (DEDUCED, log
entry 137). -/
def State.runRawDiag (s : State) (f : Frame) (p : Ploc) (offset length : Nat) : State :=
  if !s.rawAllowed then s.naileFail f 0 nfPermission 0
  else if !plocValid p ∨ length = 0 ∨ 4092 < length ∨ s.flash.cwBytes (plocRb p) < offset + length then s.naileFail f 0 nfField 0
  else if !(s.members (plocRb p)).contains (plocChan p) then s.rawOutcome f 3
  else if s.suspendedOn p (fun o => o.kind == .erase && o.block == plocBlock p) then s.rawOutcome f 1
  else if s.suspendedOn p (fun o => o.isProgram && o.inWordlines p) then s.rawOutcome f 2
  else s.addOp (readOp p [plocPlane p * 4 + plocSlot p] 5 (.raw f offset length))

/-- RAW_DIAG (R448). -/
def execRawDiag (f : Frame) (p : Ploc) (offset length : Nat) (s : State) : Host.Outcome State Fault Refusal :=
  .next (s.request (.rawDiag f p offset length) f .raw (fun s => s.runRawDiag f p offset length))

/-! ## RECOVERY_STATUS (Table 16-8) -/

/-- RELEASE and SVN of a slot header; 0 if it is malformed. -/
def headerOf (x : ImgSlot) : Nat × Nat :=
  match x.hdr with
  | some h => if headerForm h then (h.release, h.svn) else (0, 0)
  | none => (0, 0)

/-- The 64 bytes. -/
def State.recoveryWord (s : State) : Nat :=
  let a := headerOf s.nor.slotA
  let b := headerOf s.nor.slotB
  packBits [(0, 4, s.devState), (8, 8, s.responder.code), (64, 2, s.fuses.lc), (70, 1, s.nor.bootSel), (71, 1, s.nor.cfgSel),
    (96, 8, s.nor.upd.state), (104, 8, s.nor.upd.area), (112, 1, if s.cacheHeld then 1 else 0),
    (113, 1, if s.nor.layoutDef then 1 else 0), (114, 1, if s.nor.floorBad then 1 else 0),
    (256, 32, if s.responder = .rom then 0 else s.mgmt.mgmtRel), (288, 32, s.dev.bootStatus.toNat), (328, 8, a.2), (336, 8, b.2),
    (344, 8, s.fuses.svn), (352, 32, s.nor.floorNow), (384, 32, a.1), (416, 32, b.1), (448, 64, s.nor.selSeq.toNat)]

/-- What the hardware responder reports before management firmware has mirrored anything: 0 but for itself. -/
def unmirrored : Nat := packBits [(8, 8, 2)]

/-- What RECOVERY_STATUS does. -/
def State.runRecoveryStatus (s : State) (f : Frame) : State :=
  s.naileOk f 0x60 64 (if s.dev.phase = .rom then unmirrored else s.recoveryWord)

/-- RECOVERY_STATUS (R10; Table 16-8). -/
def execRecoveryStatus (f : Frame) (s : State) : Host.Outcome State Fault Refusal :=
  .next (s.request (.recoveryStatus f) f .recovery (fun s => s.runRecoveryStatus f))

/-! ## Unknown TYPE -/

/-- TYPE values of Table 16-5. -/
def knownTypes : List Nat := [0x01, 0x02, 0x10, 0x11, 0x12, 0x13, 0x20, 0x21, 0x30, 0x40, 0x50, 0x60]

/-- UNKNOWN_TYPE (R447): a request of unknown TYPE fails with TYPE. -/
def execUnknownType (f : Frame) (typ : Byte) (s : State) : Host.Outcome State Fault Refusal :=
  .next (if knownTypes.contains typ.toNat then s
    else s.request (.unknownType f typ) { f with rsvd := false } .recovery (fun s => s.naileFail f 0 nfType 0))

end Sys2Proof.Machine
end

