-- ==== Sys2Proof/Machine/Persist.lean ====
section
/-! DEFINITION. The commands of power-loss protection: capacitor tests, PWR_FAIL_N, the dump and the replay at start-up
(09 R285 to R300). -/

namespace Sys2Proof.Machine

/-! ## Capacitor tests (R286, R287) -/

/-- A test ends: HU_TEST_N is released, the result goes to the health report and the Tally, and the PLP state follows. -/
def State.testEnds (s : State) (result t : Nat) : State :=
  let ok := decide (result = 1)
  let s1 := { s with plp := { s.plp with testing := false, result := result, tMs := t, passed := some ok,
                                         warn4 := s.plp.warn4 && !ok } }
  (s1.record (if ok then sevInfo else sevWarning) 0x0E02 result t).recheckPlp

/-- A test begins; with HU_LOW high it has failed at once. One that runs goes on, and with PWR_FAIL_N low none begins. -/
def State.startTest (s : State) (huLow : Bool) : State :=
  if s.plp.testing || !s.plp.pwrFailN || s.plp.dumping then s
  else
    let s1 := { s with plp := { s.plp with testFrom := s.now, huLow := huLow } }
    if huLow then s1.testEnds 4 0 else { s1 with plp := { s1.plp with testing := true } }

/-- A test is due: at start-up once DRAM serves, and after PLP_TEST_INTERVAL_H. -/
def State.testDue (s : State) (c : CapCause) : Bool :=
  s.fwRuns && s.dram.ready && (match c with
    | .startup => s.plp.passed.isNone
    | .interval => s.plp.passed.isSome && decide (s.plp.testFrom + s.par P.PLP_TEST_INTERVAL_H * 3600000000000 ≤ s.now))

/-- CAPACITOR_TEST_START (R286). -/
def execCapacitorTestStart (cause : CapCause) (huLow : Bool) (s : State) : Host.Outcome State Fault Refusal :=
  .next (if s.testDue cause then s.startTest huLow else s)

/-- PLP_TEST_NOW: a test starts. -/
def actTest (huLow : Bool) : Action := { refuse := fun _ => false, act := fun s => s.startTest huLow }

/-- PLP_TEST_NOW inside a RECONFIG: HU_LOW is at the level at which the last test's begin found it (the model's choice, log entry 141). -/
def actTestNow : Action := { refuse := fun _ => false, act := fun s => s.startTest s.plp.huLow }

/-- PLP_TEST_NOW (R286; 18 R498). -/
def execPlpTestNow (f : Frame) (v : Nat) (huLow : Bool) (s : State) : Host.Outcome State Fault Refusal :=
  .next (s.actionRequest (.plpTestNow f v huLow) f P.PLP_TEST_NOW v (actTest huLow))

/-- PLPTEST for a measured time (Table 15-4). -/
def State.testCode (s : State) (t : Nat) : Nat :=
  if t < s.par P.PLP_TEST_MIN_MS then 2 else if s.par P.PLP_TEST_MAX_MS < t then 3 else 1

/-- HU_LOW_RISE (R286): the discharge time decides. -/
def execHuLowRise (tMs : Nat) (s : State) : Host.Outcome State Fault Refusal :=
  .next (if s.plp.testing && s.fwRuns then s.testEnds (s.testCode tMs) tMs else s)

/-- CAPACITOR_TEST_TIMEOUT (R286): HU_LOW has not risen by PLP_TEST_MAX_MS. -/
def execCapacitorTestTimeout (s : State) : Host.Outcome State Fault Refusal :=
  .next (if s.plp.testing && s.fwRuns then s.testEnds 3 (s.par P.PLP_TEST_MAX_MS) else s)

/-! ## PWR_FAIL_N and the dump (R292, R295, R297) -/

/-- A running erase of a die is suspended, whatever its suspend count and run time (08 R259). -/
def FlashS.stopErase (f : FlashS) (now k : Nat) : FlashS :=
  match (f.die k).running with
  | none => f
  | some i =>
    match f.op i with
    | none => f
    | some o =>
      if o.kind == .erase && !o.suspended then
        ((f.modDie k (fun d => (d.bump [0, 1, 2, 3]).suspended i o)).select (k / 16) (k % 16)).modOp i
          (fun x => { x with suspended := true, suspends := x.suspends + 1, ran := x.ran + (now - x.since) })
      else f

/-- Every running erase is suspended. -/
def FlashS.stopErases (f : FlashS) (now : Nat) : FlashS := (f.dies.map Prod.fst).foldl (fun a k => a.stopErase now k) f

/-- PWR_FAIL_N_FALL (R287, R292; 08 R259): a test that runs lets HU_TEST_N go, an entry to a power state is abandoned, running erases
are suspended, and the filter time begins. -/
def execPwrFailNFall (s : State) : Host.Outcome State Fault Refusal :=
  .next (
    if !s.plp.pwrFailN then s
    else
      let s1 := { s with plp := { s.plp with pwrFailN := false, testing := false, filtering := true, fallAt := s.now }
                         flash := s.flash.stopErases s.now }
      if s1.pwr.entering then s1.leaveIdle else s1)

/-- PWR_FAIL_N_RISE (R292, R295): a low that was too short has started nothing; suspended erases go on, and sets that waited start. A dump runs on. -/
def execPwrFailNRise (s : State) : Host.Outcome State Fault Refusal :=
  .next (
    if s.plp.pwrFailN then s
    else
      let s1 := { s with plp := { s.plp with pwrFailN := true, filtering := false } }
      if s1.mediaRuns then
        (List.finRange 8).foldl (fun a g => a.startWaiting g) ((s1.flash.dies.map Prod.fst).foldl (fun a k => a.nextAction k) s1)
      else s1)

/-- A dump may begin (R292, Table 9-9): PWR_FAIL_N has been low for PLP_FAIL_FILTER_US, in service or FAILED, not asleep, with nothing dumped since the
last device reset. -/
def State.dumpMayBegin (s : State) : Bool :=
  s.dev.phase == .running && !s.plp.pwrFailN && !s.plp.dumping && !s.plp.dumped && !s.dev.halted && decide (s.pwr.ps ≤ 2) &&
    decide (s.plp.fallAt + s.par P.PLP_FAIL_FILTER_US * 1000 ≤ s.now)

/-- The dump has ended: a RESET_N that waited for it takes effect (Table 9-9). -/
def State.afterDump (s : State) : State := if s.dev.deferredPin then s.takePin else s

/-- The dump runs without the complexes: a handover is abandoned (15 Table 15-3). -/
def State.dropHandover (s : State) : State := { s with mgmt := { s.mgmt with handover := none, rolloutNext := none } }

/-- POWER_LOSS_DUMP (R292, Table 9-8): the dump goes one stage on: its begin (steps 2 to 4), the headers (step 6), the slots and the halt
(steps 7 to 9). -/
def execPowerLossDump (s : State) : Host.Outcome State Fault Refusal :=
  .next (
    if s.plp.dumping then
      if s.plp.hdrDone || s.headersOut then s.dumpSlotsOut.dumpHalt.afterDump else s.dumpHeaders
    else if s.dumpMayBegin then s.dropUpdate.dropHandover.dumpBegin
    else s)

/-- DEFERRED_RESET_TIMEOUT (R297): 30 ms after RESET_N fell the reset takes effect, and the dump is torn. -/
def execDeferredResetTimeout (s : State) : Host.Outcome State Fault Refusal :=
  .next (if s.dev.deferredPin && decide (s.dev.deferredAt + 30000000 ≤ s.now) then s.takePin else s)

/-! ## Replay (R298 to R300, R312) -/

/-- Insert by an order, behind equals. -/
def insertBy {α : Type} (lt : α → α → Bool) (x : α) : List α → List α
  | [] => [x]
  | y :: t => if lt x y then x :: y :: t else y :: insertBy lt x t

/-- A dumped group with the set and the slab that hold it, and the row blocks of the set with the members that took part in the dump. -/
structure ReplayItem where
  grove : Nat
  which : Nat
  took : List (Nat × List Nat)
  epoch : Qword
  slab : Nat
  nodata : Bool
  stored : Bool
  gseq : Dword
  group : CGroup
  deriving DecidableEq, Repr

/-- The items of a set. -/
def DumpSet.items (x : DumpSet) (g w : Nat) : List ReplayItem :=
  x.slabs.flatMap (fun b => b.groups.map (fun e =>
    { grove := g, which := w, took := x.took, epoch := x.epoch, slab := b.slab, nodata := b.nodata, stored := b.stored,
      gseq := BitVec.ofNat 32 e.1, group := e.2 }))

/-- Ascending EPOCH, and GSEQ order inside one (R298, R299). -/
def replayBefore (a b : ReplayItem) : Bool :=
  decide (a.epoch < b.epoch) || (a.epoch == b.epoch && serialNewer b.gseq a.gseq)

/-- The items of every REPLAYED set, in the order of the replay. -/
def PlpS.replayItems (p : PlpS) : List ReplayItem :=
  let all := (List.range 8).flatMap (fun g => [0, 1].flatMap (fun w =>
    let x := (p.dumpRec g).get w
    if x.present && x.state == .replayed then x.items g w else []))
  all.foldl (fun l x => insertBy replayBefore x l) []

/-- Change every dump set. -/
def PlpS.mapSets (p : PlpS) (f : DumpSet → DumpSet) : PlpS :=
  { p with sets := p.sets.map (fun (r : DumpRec) => { a := f r.a, b := f r.b }) }

/-- A dump was cut: a FREE set that holds a header of the record's epoch is treated as DUMPED (R298). -/
def PlpS.closeTorn (p : PlpS) : PlpS :=
  if p.recDumping then
    p.mapSets (fun x => if x.present && x.state == .free && !x.slabs.isEmpty then { x with state := .dumped, epoch := p.epoch } else x)
  else p

/-- Some set is DUMPED. -/
def PlpS.anyDumped (p : PlpS) : Bool :=
  p.sets.toList.any (fun r => (r.a.present && r.a.state == .dumped) || (r.b.present && r.b.state == .dumped))

/-- Acknowledged data is lost and cannot be named: critical warning, media error, DUMP_TORN (R299, R300). -/
def State.torn (s : State) (why slab : Nat) : State :=
  ({ s with plp := { s.plp with warn4 := true, mediaErrors := s.plp.mediaErrors + 1, torn := true } }).record sevCritical 0x0E05 why slab

/-- A group of a deleted stand is discarded: its namespace is gone, or its key is (R312). -/
def State.gone (s : State) (g : CGroup) : Bool :=
  match s.nvm.ns g.nsid with
  | none => true
  | some n => match s.nvm.stand n.stand.val with
    | some x => x.state == .deleting && decide (2 < x.delStep)
    | none => false

/-- A group passes R284: as many entries as it counts, all sealed. -/
def CGroup.applies (g : CGroup) : Bool := g.isSealed && decide (g.slots.length = g.count)

/-- The set that a group came from still holds it. -/
def PlpS.stillHeld (p : PlpS) (g : CGroup) : Bool :=
  match g.cover with
  | none => false
  | some c =>
    let x := (p.dumpRec c.1).get c.2
    x.present && x.state == .replayed

/-- The slots of an item are lost as a whole: NODATA, never written, or unreadable (R300). -/
def ReplayItem.lost (d : ReplayDamage) (x : ReplayItem) : Bool :=
  x.nodata || !x.stored || d.unreadable.contains (x.grove, x.epoch.toNat, x.slab)

/-- A slot of an item lay on a lost member of a row block that has lost two of the members of its dump (R297). -/
def State.dumpMemberLost (s : State) (x : ReplayItem) (slot : Nat) : Bool :=
  let place := Config.dumpPlace x.epoch x.slab slot
  match x.took[place.1 % max 1 x.took.length]? with
  | none => false
  | some (rb, ms) =>
    let data := ms.filter (· != parityMember rb ms)
    let gone := ms.filter (fun c => !(s.memberPresent rb c))
    decide (2 ≤ gone.length) && (match data[place.2 % max 1 data.length]? with
      | some c => gone.contains c
      | none => false)

/-- A slot of an item is lost (R297, R300). -/
def State.slotLost (s : State) (d : ReplayDamage) (x : ReplayItem) (slot : Nat) : Bool :=
  x.lost d || d.unreadableSlots.contains (x.grove, x.epoch.toNat, x.slab, slot) || s.dumpMemberLost x slot

/-- An item applies nothing: it fails R284, its stand is gone, or the set that it came from still covers it. -/
def State.skipped (s : State) (x : ReplayItem) : Bool := !x.group.applies || s.gone x.group || (x.nodata && s.plp.stillHeld x.group)

/-- The entries that an item applies; none where it applies nothing. -/
def State.applied (s : State) (d : ReplayDamage) (x : ReplayItem) : List CSlot :=
  if s.skipped x then []
  else (x.group.slots.filter (fun (y : CSlot) => !y.super)).map (fun y =>
    { y with poison := y.poison || s.slotLost d x y.slot, done := false, inSet := false })

/-- Enter some entries as a new group, visible at once; none where no slab has room. -/
def State.enterGroup (s : State) (nsid : Nat) (ys : List CSlot) (cover : Nat × Nat) : Option State :=
  match s.slabFor ys.length with
  | none => none
  | some slab =>
    let c := s.cache.supersede nsid (ys.map (fun y => y.lba))
    let used := c.slotsUsed slab
    let nums := pickFree (ys.length + used.length) ys.length 0 used
    let g : CGroup :=
      { nsid := nsid, slab := slab, slots := (nums.zip ys).map (fun e => { e.2 with slot := e.1 }), count := ys.length, isSealed := true,
        visible := true, order := c.nextOrder, tag := none, acked := true, cntl := none, cover := some cover }
    some { s with cache := { c with groups := sput c.nextGseq.toNat g c.groups, nextGseq := c.nextGseq + 1, nextOrder := c.nextOrder + 1 } }

/-- Enter items in order until one finds no room: the state, and the items that were entered or applied nothing. -/
def enterItems (d : ReplayDamage) : List ReplayItem → State → State × List ReplayItem
  | [], s => (s, [])
  | x :: t, s =>
    let ys := s.applied d x
    match (if ys.isEmpty then some s else s.enterGroup x.group.nsid ys (x.grove, x.which)) with
    | none => (s, [])
    | some s1 =>
      let r := enterItems d t s1
      (r.1, x :: r.2)

/-- The LBAs of an item that its lost slots make POISONED. -/
def State.lostLbas (s : State) (d : ReplayDamage) (x : ReplayItem) : List Nat :=
  if s.skipped x then [] else (x.group.slots.filter (fun (y : CSlot) => !y.super && s.slotLost d x y.slot)).map (fun y => y.lba)

/-- LBAs that the items of a slab have made POISONED. -/
def State.lostIn (s : State) (d : ReplayDamage) (xs : List ReplayItem) (k : Nat × Nat × Nat) : Nat :=
  ((xs.filter (fun x => (x.grove, x.which, x.slab) == k)).map (fun x => (s.lostLbas d x).length)).sum

/-- DUMP_DATA_LOST, once for each slab whose slots were lost (R300); and for each group of acknowledged data among them the event of 04 R135. -/
def State.reportLost (s : State) (d : ReplayDamage) (xs : List ReplayItem) : State :=
  let slabs := xs.foldl (fun l x => addOnce (x.grove, x.which, x.slab, x.nodata) l) ([] : List (Nat × Nat × Nat × Bool))
  let s1 := slabs.foldl (fun (a : State) k =>
    let n := s.lostIn d xs (k.1, k.2.1, k.2.2.1)
    if n = 0 then a else a.record sevCritical 0x0E06 (if k.2.2.2 then 2 else 1) k.2.2.1 n) s
  xs.foldl (fun (a : State) x =>
    match (if x.group.acked then (s.lostLbas d x).head? else none) with
    | some l => a.recordHw srcDma sevError 0x0803 x.group.nsid (l % 4294967296) (l / 4294967296)
    | none => a) s1

/-- Replay goes on from where it stands; with every group entered it is done (R299). -/
def State.replayGroups (s : State) (d : ReplayDamage) : State :=
  let left := s.plp.replayItems.drop s.plp.replayed
  let r := enterItems d left s
  let s1 := r.1.reportLost d r.2
  let s2 := { s1 with plp := { s1.plp with replayed := s.plp.replayed + r.2.length } }
  if r.2.length = left.length then ({ s2 with dev := { s2.dev with replayDone := true } }).freeGroups.eraseReplayed.recheckPlp else s2

/-- A slab of the held cache cannot be identified (R299). -/
def slabGone (d : ReplayDamage) (slab : Nat) : Bool := d.badHeaders.any (fun e => e.1 == slab && e.2)

/-- A held entry that the check makes POISONED. What came from a REPLAYED set is taken from there again. -/
def State.heldBad (s : State) (d : ReplayDamage) (g : CGroup) (x : CSlot) : Bool :=
  !x.super && !(s.plp.stillHeld g) && (x.poison || !x.badLines.isEmpty || d.badSlots.contains (g.slab, x.slot))

/-- A held group stays: it passes R284, and its slab can be identified. -/
def State.heldStays (s : State) (d : ReplayDamage) (g : CGroup) : Bool := g.applies && (!(slabGone d g.slab) || s.plp.stillHeld g)

/-- A held group is kept: one whose index update was never made only with every other such group of its aligned 1 MiB unit (R299; 03 R92). -/
def State.heldKept (s : State) (d : ReplayDamage) (g : CGroup) : Bool :=
  s.heldStays d g && (g.visible || s.cache.groups.all (fun e => e.2.visible || e.2.nsid != g.nsid || e.2.unit != g.unit || s.heldStays d e.2))

/-- The check of a held cache, slab by slab and group by group; the groups whose index update was never made come after the others (R299). -/
def State.checkHeld (s : State) (d : ReplayDamage) : State :=
  let kept := s.cache.groups.filter (fun e => s.heldKept d e.2)
  let mark := fun (g : CGroup) => { g with slots := g.slots.map (fun x => if s.heldBad d g x then { x with poison := true, done := false, badLines := [] } else x) }
  let last := (kept.filter (fun e => !e.2.visible)).map (fun e => BitVec.ofNat 32 e.1)
  let c : CacheS := { s.cache with groups := kept.map (fun e => (e.1, mark e.2)) }
  let s1 := { s with cache := c.publish last false }
  let bad := kept.flatMap (fun e => (e.2.slots.filter (fun x => s.heldBad d e.2 x)).map (fun x => (e.2.nsid, x.lba)))
  let s2 := bad.foldl (fun (a : State) x => a.recordHw srcDma sevError 0x0803 x.1 (x.2 % 4294967296) (x.2 / 4294967296)) s1
  let slabs := d.badHeaders.filter (fun e => e.2 && !(s.cache.inSlab e.1).isEmpty)
  slabs.foldl (fun (a : State) e => a.torn 1 e.1) s2

/-- Start-up chooses: the dump sets, the held cache, or the REPLAYED sets (R298). -/
def State.chooseReplay (s : State) (d : ReplayDamage) : State :=
  let cut := s.plp.recDumping && !s.plp.hdrDone
  let p := s.plp.closeTorn
  let s1 := { s with plp := { p with recDumping := false, hdrDone := false, replayBegun := true } }
  let s2 := if cut then s1.torn 2 0xFFFFFFFF else s1
  if p.anyDumped then
    let q := s2.plp.mapSets (fun x => if x.present && x.state == .dumped then { x with state := .replayed } else x)
    { s2 with cache := { s2.cache with groups := [] }, plp := { q with replayed := 0 } }
  else if s2.cacheHeld then s2.checkHeld d
  else { s2 with plp := { s2.plp with replayed := 0 } }

/-- WRITE_CACHE_REPLAY (R298 to R300): the choice, and the entry of the groups as far as slabs are free. -/
def execWriteCacheReplay (d : ReplayDamage) (s : State) : Host.Outcome State Fault Refusal :=
  .next (
    if s.fwRuns && s.dev.phase == .booting && s.dram.ready && decide (2 ≤ s.dram.filled) && s.dev.mapDone == 255 && !s.dev.replayDone then
      let s1 := if s.plp.replayBegun then s else s.chooseReplay d
      s1.replayGroups d
    else s)

end Sys2Proof.Machine
end

