-- ==== Sys2Proof/Machine/SecOps.lean ====
section
/-! DEFINITION. Security services (14): the seal (R396), the security-version commit (R405), entry into RMA (R397), debug tokens (R412,
R413) and HSS signatures (R406, R407). -/

namespace Sys2Proof.Machine

/-! ## The seal and the thermometer -/

/-- The conditions of a seal other than the state of the digest arrays (R396). -/
def State.mayseal (s : State) : Bool :=
  s.fuses.lc == 1 && s.nvm.stands.isEmpty && s.sec.session.isNone && !s.params.defaulted &&
    s.par P.SEC_DEBUG_KEY_DIGEST != 0

/-- A digest array can take its target: it is blank, or already equal to it. -/
def arrayTakes (array target : BitVec 384) : Bool := array == 0 || array == target

/-- The configuration key digest array can be burned. -/
def State.cfgArrayOk (s : State) : Bool := arrayTakes s.fuses.cfgDigest s.params.imgKeyDigest
/-- The debug key digest array can be burned. -/
def State.dbgArrayOk (s : State) : Bool := arrayTakes s.fuses.dbgDigest (BitVec.ofNat 384 (s.par P.SEC_DEBUG_KEY_DIGEST))

/-- A seal refused because an array holds other bits records it (R396). -/
def State.noteConflict (s : State) : State :=
  if s.mayseal then
    let s1 := if s.cfgArrayOk then s else s.record sevError 0x0401 0
    if s.dbgArrayOk then s1 else s1.record sevError 0x0401 1
  else s

/-- SEC_LIFECYCLE_ADVANCE. -/
def actSeal : Action :=
  { refuse := fun s => !(s.mayseal && s.cfgArrayOk && s.dbgArrayOk), act := fun s => s.burnSeal, noted := fun s => s.noteConflict }

/-- The fuses up to the running image's security version are burned (R405). -/
def State.commitSvn (s : State) : State :=
  ({ s with fuses := { s.fuses with svn := s.mgmt.mgmtSvn } }).record sevNotice 0x0406 s.mgmt.mgmtSvn

/-- SEC_SVN_COMMIT. -/
def actSvn : Action := { refuse := fun s => !decide (s.fuses.svn < s.mgmt.mgmtSvn), act := fun s => s.commitSvn }

/-! ## Entry into RMA (R397) -/

/-- Steps 1 to 3, and the rest where no stand is left to delete. STEP of the intent record is 1 from here to its end: the spec gives it no values (the
model's choice, log entry 135). -/
def State.beginRma (s : State) : State :=
  let s1 := ({ s with sec := { s.sec with target := 3, step := 1 } }).record sevWarning 0x0402
  let s2 := s1.closeSession 5
  ({ s2 with nvm := s2.nvm.deleteAll }).rmaGoOn

/-! ## Debug tokens (R412, R413) -/

/-- LEVEL codes of Table 14-12. -/
abbrev lvOperator : Nat := 1
/-- VENDOR. -/
abbrev lvVendor : Nat := 2
/-- RMA_AUTH. -/
abbrev lvRmaAuth : Nat := 3

/-- PERM bits that Table 14-14 permits for a level in the lifecycle state; none where the level is not permitted there (R416). The table gives no bits for
RMA_AUTH in SEALED: all of 00FFh are permitted (the model's choice, log entry 134). -/
def permMask (lc level : Nat) : Option (BitVec 16) :=
  if lc = 1 ∧ level = lvOperator then some 0x00DF
  else if lc = 2 ∧ level = lvOperator then some 0x008F
  else if lc = 2 ∧ level = lvRmaAuth then some 0x00FF
  else if lc = 3 ∧ level = lvVendor then some 0x00FF
  else none

/-- The digest that governs a level (R412); none where no operator debug key exists. -/
def State.debugKey (s : State) (level : Nat) : Option (BitVec 384) :=
  if level = lvVendor then some s.fuses.vendorDbg
  else if s.fuses.lc = 2 then some s.fuses.dbgDigest
  else if s.par P.SEC_DEBUG_KEY_DIGEST = 0 then none
  else some (BitVec.ofNat 384 (s.par P.SEC_DEBUG_KEY_DIGEST))

/-- Refusals since the last device reset have reached DBG_TOKEN_FAIL_MAX (R413). -/
def State.tokensLocked (s : State) : Bool := decide (s.par P.DBG_TOKEN_FAIL_MAX ≤ s.sec.refusals)

/-- The nonce of the current challenge is this one, and is not 60 s old (R412). -/
def State.nonceGood (s : State) (n : BitVec 256) : Bool :=
  match s.sec.nonce with
  | none => false
  | some (x, at0) => x == n && decide (s.now < at0 + 60000000000)

/-- Form of a token: FMT, MAGIC, LIFETIME_S, reserved fields. -/
def tokenForm (t : DebugToken) : Bool :=
  t.fmtOk && !t.rsvd && decide (1 ≤ t.lifetimeS ∧ t.lifetimeS ≤ 86400) && t.perm.extractLsb 15 8 == 0

/-- LEVEL or PERM is not permitted (code 04h). -/
def tokenBarred (lc : Nat) (t : DebugToken) : Bool :=
  match permMask lc t.level with
  | none => true
  | some m => t.perm &&& ~~~m != 0

/-- Why a token is refused (Table 14-13), or none. -/
def State.tokenRefusal (s : State) (t : DebugToken) : Option Nat :=
  if s.tokensLocked then some 6
  else if !tokenForm t then some 7
  else if !s.nonceGood t.nonce then some 2
  else if t.chipid ≠ s.fuses.chipid then some 3
  else if tokenBarred s.fuses.lc t || (s.inRecovery && t.level == lvRmaAuth) then some 4
  else if s.sec.session.isSome ∧ t.level ≠ lvRmaAuth then some 5
  else if s.debugKey t.level ≠ some t.keyDigest then some 8
  else if !t.sigsOk then some 1
  else none

/-- Counters of the heartwood security area advance; the ROM writes nothing to heartwood (16 R465). -/
def State.heartCounts (s : State) : Bool := !s.inRecovery

/-- A refusal: its event, its counter, and the failure response (R413). -/
def State.refuseToken (s : State) (f : Frame) (code : Nat) : State :=
  let x := { s.sec with refusals := s.sec.refusals + 1
                        ctrRefused := if s.heartCounts then s.sec.ctrRefused + 1 else s.sec.ctrRefused }
  (({ s with sec := x }).recordBy srcRom sevWarning 0x0501 code).naileFail f 2 code 0

/-- A session opens at the level, with the reach of PERM (R413). -/
def State.openSession (s : State) (t : DebugToken) : State :=
  let n : Session := { level := t.level, perm := t.perm, lifetimeS := t.lifetimeS, opened := s.now, haltedMgmt := false,
                       haltedFtl := false }
  let x := { s.sec with session := some n, sessionsSincePor := s.sec.sessionsSincePor + 1
                        ctrSessions := if s.heartCounts then s.sec.ctrSessions + 1 else s.sec.ctrSessions }
  ({ s with sec := x }).recordBy srcRom sevNotice 0x0502 t.level t.perm.toNat t.lifetimeS

/-! ## HSS signatures (R406, R407) -/

/-- Why no HSS signature is produced: 1 the record failed its check, 2 DISABLED, 3 indices exhausted; 0 where one may be. -/
def SecS.lmsStop (x : SecS) : Nat := if x.lmsBad then 1 else if x.lmsDisabled then 2 else if 33554432 ≤ x.nextq then 3 else 0

/-- The first refusal for such a reason is recorded. -/
def State.noteLmsStop (s : State) : State :=
  if s.sec.lmsReported then s
  else ({ s with sec := { s.sec with lmsReported := true } }).record sevError 0x0407 s.sec.lmsStop

/-- Signatures released in the sliding hour that ends now. -/
def State.lmsInHour (s : State) : List Nat := s.sec.lmsTimes.filter (fun t => decide (s.now < t + 3600000000000))

/-- NEXTQ advances in heartwood, and then the signature of the old index is released. -/
def State.signHss (s : State) : Nat × State :=
  (s.sec.nextq, { s with sec := { s.sec with nextq := s.sec.nextq + 1, lmsTimes := s.now :: s.lmsInHour } })

end Sys2Proof.Machine
end

