-- ==== Sys2Proof/Machine/Param.lean ====
section
/-! DEFINITION. The rows of the parameter space (18): RECONFIG, PARAM_READ, quiescent points and drains, and the action parameters of
management and security. -/

namespace Sys2Proof.Machine

/-- The action of an action parameter with a value (Table 18-7). -/
def actionFor (id v : Nat) : Option Action :=
  if id = P.MAP_LEASE_REKEY then some actRekey
  else if id = P.PLP_TEST_NOW then some actTestNow
  else if id = P.MED_READ_ONLY_RELEASE then some (actRelease v)
  else if id = P.CHN_DEGRADED_CLEAR then some (actDegraded v)
  else if id = P.DRM_RETRAIN_NOW then some (actRetrain v)
  else if id = P.MGT_HANDOVER_NOW then some actHandover
  else if id = P.SEC_LIFECYCLE_ADVANCE then some actSeal
  else if id = P.SEC_SVN_COMMIT then some actSvn
  else none

/-- What RECONFIG does with a record (R495 to R498). -/
def State.runReconfig (s : State) (f : Frame) (r : ReconfigRec) : State :=
  if !reconfigForm r then s.naileFail f 0 nfField 0
  else match s.refusedId r.recs with
    | some id => s.rejected f id
    | none =>
      match r.recs with
      | [x] =>
        match actionFor x.id x.value with
        | some a => s.runAction f x.id x.value a
        | none => s.takeRecord f r.recs
      | _ => s.takeRecord f r.recs

/-- RECONFIG (R495 to R498). -/
def execReconfig (f : Frame) (r : ReconfigRec) (s : State) : Host.Outcome State Fault Refusal :=
  .next (s.request (.reconfig f r) f .reconfig (fun s => s.runReconfig f r))

/-- What PARAM_READ of a parameter does (R501). -/
def State.runParamRead (s : State) (f : Frame) (id inst : Nat) : State :=
  match paramDef id with
  | none => s.naileFail f 0 nfField 0
  | some d =>
    if inst < d.kind.count then
      let p := s.paramPayload d inst
      s.naileOk f 0x01 p.1 p.2
    else s.naileFail f 0 nfField 0

/-- PARAM_READ (R501). -/
def execParamRead (f : Frame) (id inst : Nat) (s : State) : Host.Outcome State Fault Refusal :=
  .next (s.request (.paramRead f id inst) f .param (fun s => s.runParamRead f id inst))

/-- What PARAM_READ with WINDOW set does (R502). -/
def State.runWindowRead (s : State) (f : Frame) (id inst : Nat) : State :=
  match s.window id inst with
  | some w => s.naileOk f 0x01 w.1 w.2
  | none => s.naileFail f 0 nfField 0

/-- PARAM_READ with WINDOW set (R502). -/
def execStatusWindowRead (f : Frame) (id inst : Nat) (s : State) : Host.Outcome State Fault Refusal :=
  .next (s.request (.statusWindowRead f id inst) f .param (fun s => s.runWindowRead f id inst))

/-- QUIESCENT_POINT_APPLY (R499): a unit takes its staged values. -/
def execQuiescentPointApply (unit : Nat) (s : State) : Host.Outcome State Fault Refusal :=
  .next (if s.fwRuns ∧ (ofUnit unit s.params.staged).isEmpty = false then
    ({ s with params := s.params.takeStaged unit }).recheckPower
  else s)

/-- DRAIN_LATE (R499): a drain that has not reached its point after CFG_QUIESCE_WARN_S is recorded, and goes on. -/
def execDrainLate (id inst : Nat) (s : State) : Host.Outcome State Fault Refusal :=
  .next (if s.fwRuns ∧ (sget s.params.staged (paramKey id inst)).isSome then s.record sevWarning 0x1403 id inst else s)

/-- MGT_HANDOVER_NOW (15 R428). -/
def execMgtHandoverNow (f : Frame) (v : Nat) (s : State) : Host.Outcome State Fault Refusal :=
  .next (s.actionRequest (.mgtHandoverNow f v) f P.MGT_HANDOVER_NOW v actHandover)

/-- SEC_LIFECYCLE_ADVANCE (14 R396). -/
def execSecLifecycleAdvance (f : Frame) (v : Nat) (s : State) : Host.Outcome State Fault Refusal :=
  .next (s.actionRequest (.secLifecycleAdvance f v) f P.SEC_LIFECYCLE_ADVANCE v actSeal)

/-- SEC_SVN_COMMIT (14 R405). -/
def execSecSvnCommit (f : Frame) (v : Nat) (s : State) : Host.Outcome State Fault Refusal :=
  .next (s.actionRequest (.secSvnCommit f v) f P.SEC_SVN_COMMIT v actSvn)

end Sys2Proof.Machine
end

