-- ==== Sys2Proof/Machine/Security.lean ====
section
/-! DEFINITION. The rows of the TAP and of debug tokens (14 R411 to R417). -/

namespace Sys2Proof.Machine

/-! ## The TAP (R411, Table 14-10) -/

/-- The TAP works: its pads are driven from step 3 of the release on, and it is unpowered in PS4 (19 Table 19-12). -/
def State.tapOn (s : State) : Bool := !(s.dev.phase == .inReset && s.dev.por) && s.pwr.ps != 4

/-- An instruction is loaded, and its register shifts out a value. -/
def State.tap (s : State) (ir : Byte) (out : Dword) : State :=
  if s.tapOn then { s with sec := { s.sec with tapIr := ir, tapOut := out } } else s

/-- BYPASS: its register captures 0. -/
def State.tapBypass (s : State) : State := s.tap 0xFF 0

/-- IDCODE: version 1h, part 0640h, the manufacturer from fuses. -/
def FuseS.idcode (f : FuseS) : Dword :=
  (0x1 : BitVec 4) ++ (0x0640 : BitVec 16) ++ f.maker ++ (1 : BitVec 1)

/-- Fuses have been sensed, so that the lifecycle is known. -/
def State.lcKnown (s : State) : Bool := !s.dev.fuseFail

/-- The open session is at VENDOR level with this PERM bit. -/
def State.vendorPerm (s : State) (bit : Nat) : Bool :=
  match s.sec.session with
  | none => false
  | some x => x.level == lvVendor && x.perm.getLsbD bit

/-- EXTEST, CLAMP and HIGHZ are permitted. -/
def State.boundaryOk (s : State) : Bool := s.lcKnown && (s.fuses.lc == 0 || (s.fuses.lc == 3 && s.vendorPerm 5))

/-- What the boundary-scan register captures from the balls: the spec lays no cells out, so it is a free value (log entry 6). -/
def State.tapCapture (s : State) (ir : Byte) : State :=
  if s.tapOn then
    let d := s.draw
    d.2.tap ir (BitVec.ofNat 32 (Config.choice d.1 0))
  else s

/-- IDCODE. -/
def execIdcode (s : State) : Host.Outcome State Fault Refusal := .next (s.tap 0x01 s.fuses.idcode)

/-- SAMPLE/PRELOAD. -/
def execSamplePreload (s : State) : Host.Outcome State Fault Refusal := .next (s.tapCapture 0x02)

/-- EXTEST. -/
def execExtest (s : State) : Host.Outcome State Fault Refusal := .next (if s.boundaryOk then s.tapCapture 0x03 else s.tapBypass)

/-- CLAMP: the balls keep what the boundary-scan register drives, and the bypass register is selected. -/
def execClamp (s : State) : Host.Outcome State Fault Refusal := .next (if s.boundaryOk then s.tap 0x04 0 else s.tapBypass)

/-- HIGHZ: every ball is high-impedance, and the bypass register is selected. -/
def execHighz (s : State) : Host.Outcome State Fault Refusal := .next (if s.boundaryOk then s.tap 0x05 0 else s.tapBypass)

/-- SECSTAT (Table 14-11). -/
def execSecstat (s : State) : Host.Outcome State Fault Refusal := .next (s.tap 0x10 s.secstat)

/-- PROVISION: only in BLANK; the identity is provisioned and the part goes to PROVISIONED (R395, Table 14-1). -/
def execProvision (s : State) : Host.Outcome State Fault Refusal :=
  .next (if s.tapOn && s.lcKnown && s.fuses.lc == 0 then
    ({ s with fuses := { s.fuses with provisioned := 3 } }).tap 0x30 0
  else s.tapBypass)

/-- BYPASS, and any code that Table 14-10 gives no instruction. -/
def execBypass (code : Byte) (s : State) : Host.Outcome State Fault Refusal :=
  .next (if code ∈ ([0x01, 0x02, 0x03, 0x04, 0x05, 0x10, 0x20, 0x30] : List Byte) then s else s.tapBypass)

/-! ## Debug tokens (R412, R413, R417) -/

/-- What CHALLENGE does: a fresh nonce, valid for 60 s; the old one is void. -/
def State.runChallenge (s : State) (f : Frame) : State :=
  if s.tokensLocked then s.refuseToken f 6
  else
    let d := s.draw
    let n := Config.drbg d.1
    ({ d.2 with sec := { d.2.sec with nonce := some (n, s.now) } }).naileOk f 0x30 32 n.toNat

/-- DEBUG_TOKEN CHALLENGE. -/
def execDebugTokenChallenge (f : Frame) (s : State) : Host.Outcome State Fault Refusal :=
  .next (s.request (.debugTokenChallenge f) f .debug (fun s => s.runChallenge f))

/-- The success payload of OPEN: LEVEL in byte 0 and LIFETIME_S in bytes 4 to 7. -/
def openedPayload (level lifetime : Nat) : Nat := level + lifetime * 2 ^ 32

/-- What OPEN does: the token is refused with a reason of Table 14-13, or starts RMA, or opens a session. The nonce is used up. -/
def State.runOpen (s : State) (f : Frame) (t : DebugToken) : State :=
  let s1 := { s with sec := { s.sec with nonce := none } }
  match s.tokenRefusal t with
  | some c => s1.refuseToken f c
  | none =>
    let s2 := if t.level = lvRmaAuth then s1.beginRma else s1.openSession t
    s2.naileOk f 0x30 8 (openedPayload t.level t.lifetimeS)

/-- DEBUG_TOKEN OPEN. -/
def execDebugTokenOpen (f : Frame) (t : DebugToken) (s : State) : Host.Outcome State Fault Refusal :=
  .next (s.request (.debugTokenOpen f t) f .debug (fun s => s.runOpen f t))

/-- What CLOSE does. -/
def State.runClose (s : State) (f : Frame) : State :=
  if s.tokensLocked then s.refuseToken f 6 else (s.closeSession 1).naileOk f 0x30 0 0

/-- DEBUG_TOKEN CLOSE: the session closes and halted cores resume. -/
def execDebugTokenClose (f : Frame) (s : State) : Host.Outcome State Fault Refusal :=
  .next (s.request (.debugTokenClose f) f .debug (fun s => s.runClose f))

/-- NONCE_EXPIRY (R412): a nonce is valid for 60 s. -/
def execNonceExpiry (s : State) : Host.Outcome State Fault Refusal :=
  .next (match s.sec.nonce with
    | none => s
    | some (_, at0) => if at0 + 60000000000 ≤ s.now then { s with sec := { s.sec with nonce := none } } else s)

end Sys2Proof.Machine
end

