-- ==== Sys2Proof/Machine/StandMove.lean ====
section
/-! DEFINITION. What a change of a stand's die rows does to placement (06 R183, R184, R204, Table 6-6; 10 R309, R310, R320), and the checks
of STAND_CTL (10 R308). -/

namespace Sys2Proof.Machine

/-! ## Moving die rows -/

/-- A row block's data may not stay where it lies: its stand may no longer use the domain, or no region holds it any more. A grove's own units belong
to no stand and stay in the shared domain. A map row block that holds no unit any more is nobody's. -/
def State.stray (s : State) (rb : Nat) (i : RbInfo) : Bool :=
  let bad := (s.nvm.stand i.stand.val).isSome && !((s.domsFor i.stand).contains (s.domOf (rbRow rb)))
  match i.cls with
  | .wide => !s.reserved.contains rb
  | .map => !s.reserved.contains rb || (bad && !(s.unitsIn rb).isEmpty)
  | _ => bad

/-- The stray row blocks in use. -/
def State.strays (s : State) : List Nat := (s.media.info.filter (fun e => s.stray e.1 e.2)).map Prod.fst

/-- No further wordline of a stray row block is programmed; sets that have not started are placed anew. -/
def State.closeStrays (s : State) : State :=
  s.strays.foldl (fun a rb => a.closeRow rb) s

/-- A domain gives up what lies in rows that have left it: region row blocks, and what its patrol and its disturb checks still had to read (R314). -/
def State.leaveRows (s : State) (d : DomS) : DomS :=
  let mine := fun (rb : Nat) => s.domOf (rbRow rb) == d.dom
  let c := d.cruise.filter mine
  { d with region := d.region.filter mine, cruise := c, cruisePos := if c.head? == d.cruise.head? then d.cruisePos else 0
           disturb := d.disturb.filter (fun e => mine e.2) }

/-- Regions give up the row blocks of rows that have left their domain; those that hold nothing are ordinary ones at once. Domains that
have no die row any more are gone. -/
def State.moveRegions (s : State) : State :=
  let out := s.media.doms.flatMap (fun d => d.region.filter (fun rb => s.domOf (rbRow rb) != d.dom))
  let live := s.allDoms
  let doms := (s.media.doms.map s.leaveRows).filter (fun d => live.contains d.dom)
  let m := out.foldl (fun (m : MediaS) rb => if recState (m.rbRec rb) = rbFree then m.setSlc rb false else m) s.media
  { s with media := { m with doms := doms } }

/-- Victims in rows that have left their domain go back to CLOSED. -/
def State.moveVictims (s : State) : State :=
  s.media.doms.foldl (fun (a : State) d => (d.victims.filter (fun v => a.domOf (rbRow v.rb) != d.dom)).foldl
    (fun (b : State) v => b.backToClosed d.dom v.rb) a) s

/-- A dump set that no longer lies in a shared row is given up. -/
def State.dropDump (s : State) (g w : Nat) : State :=
  let x := (s.plp.dumpRec g).get w
  if x.present && (s.rowOwner x.row).isSome then s.dropSet g w else s

/-- Dump sets in rows that have left the shared domains are replaced, and the others hold their share of the slabs (09 R290). -/
def State.moveDumps (s : State) : State :=
  ((List.range 8).foldl (fun a g => ((a.dropDump g 0).dropDump g 1).chooseDumpSets g) s).extendSets

/-- Note U(d) as U0(d): the domain's set of die rows has changed (R204). -/
def State.noteU0 (s : State) (d : DomId) : State :=
  { s with media := s.media.modDom d (fun x => { x with u0 := s.uMembers d }) }

/-- The map units whose copies lie in stray row blocks are written again (Table 6-6). -/
def State.dirtyStrays (s : State) : State := s.strays.foldl (fun a rb => a.rewriteUnits rb) s

/-- The domains of the groves where rows have moved. -/
def State.domsMoved (s : State) (rows : BitVec 128) : List DomId :=
  s.allDoms.filter (fun d => (List.range 16).any (fun i => rows.getLsbD (d.grove.val * 16 + i)))

/-- What follows once the owners of some die rows, or the placement of a stand, have changed. -/
def State.moveRows (s : State) (rows : BitVec 128) : State :=
  let s1 := s.moveRegions.moveVictims.moveDumps
  let s2 := s1.allDoms.foldl (fun a d => a.fillRegion d) s1
  let s3 := (s2.domsMoved rows).foldl (fun a d => a.noteU0 d) s2
  s3.closeStrays.dirtyStrays.clearDebts

/-- A row block still holds, or may still be given, what may not stay there. -/
def State.inUse (s : State) (rb : Nat) : Bool :=
  let x := recState (s.media.rbRec rb)
  x == rbOpen || x == rbClosed || x == rbThinning

/-- Relocation for a stand is complete: nothing stray is left in its old and new rows, nor of its own elsewhere. -/
def State.settled (s : State) (st : Nat) (x : StandS) : Bool :=
  s.media.info.all (fun e => !(s.stray e.1 e.2) || !(s.inUse e.1) ||
    !((x.rows ||| x.oldRows).getLsbD (rbRow e.1) || e.2.stand.val == st))

/-! ## Checks (R308) -/

/-- A die-row move is in progress (R309). -/
def NvmS.rowsMove (n : NvmS) : Bool := n.stands.any (fun e => e.2.moving)

/-- No reserved field is set, and CLASS, PLACE and shares are in range. -/
def descOk (d : StandDesc) : Bool :=
  !d.rsvd && decide (d.place ≤ 1 ∧ d.cls ≤ 2 ∧ d.rshare ≤ 1024 ∧ d.wshare ≤ 1024)

/-- Only STAND is non-zero (DELETE and QUERY). -/
def descBare (d : StandDesc) : Bool :=
  !d.rsvd && d.place == 0 && d.cls == 0 && d.rows == 0 && d.resvGib == 0 && d.rshare == 0 && d.wshare == 0 &&
    !(d.chgResv || d.chgWshare || d.chgRshare || d.chgClass || d.chgPlace)

/-- MODIFY: at least one CHG bit, and zero where a CHG bit is clear. -/
def descModify (d : StandDesc) : Bool :=
  descOk d && (d.chgResv || d.chgWshare || d.chgRshare || d.chgClass || d.chgPlace) &&
    (d.chgResv || d.resvGib == 0) && (d.chgWshare || d.wshare == 0) && (d.chgRshare || d.rshare == 0) &&
    (d.chgClass || d.cls == 0) && (d.chgPlace || (d.place == 0 && d.rows == 0))

/-- ROWS fit PLACE, are free of other stands, have 3 dies, and leave each grove a SHARED die row (06 R183). -/
def State.rowsOk (s : State) (st : Nat) (place : Nat) (rows : BitVec 128) : Bool :=
  if place = 0 then rows == 0
  else
    let foreign := fun (r : Nat) => match s.rowOwner r with
      | some o => o.val != st
      | none => false
    let named := (List.range 128).filter (fun r => rows.getLsbD r)
    !named.isEmpty && named.all (fun r => !(foreign r) && decide (3 ≤ s.rowDies r)) &&
      (named.map (fun r => r / 16)).all (fun g => (List.range 16).any (fun i =>
        s.rowPopulated (g * 16 + i) && !(rows.getLsbD (g * 16 + i)) && !(foreign (g * 16 + i))))

/-- Shares of all other stands and this one's. -/
def NvmS.shareOver (n : NvmS) (st r w : Nat) : Bool :=
  let others := n.stands.filter (fun e => e.1 != st)
  decide (1024 < (others.map (fun e => e.2.rshare)).sum + r ∨ 1024 < (others.map (fun e => e.2.wshare)).sum + w)

/-- The capacity check of Table 10-7, on the state after the operation: the FIREBREAK row for a stand whose domains the operation forms or changes
(`forms`), the SHARED row always. -/
def State.capacityOk (s : State) (st : StandNo) (forms : Bool) : Bool :=
  let own := match s.nvm.stand st.val with
    | some x =>
      let e := s.exportBlocks (s.ownDoms st)
      !forms || !x.firebreak || (decide (x.resvGib * gibBlocks ≤ e) && decide (s.standUse st.val ≤ e))
    | none => true
  own && decide ((s.nvm.sharedStands.map (fun e => e.2.resvGib * gibBlocks)).sum ≤ s.exportBlocks sharedDoms)

/-- What STAND_CTL answers: accepted, or a reason. -/
def State.standAnswer (s : State) (f : Frame) : Option Nat → State
  | none => s.naileOk f 0x40 0 0
  | some c => s.naileFail f 1 c 0

/-- A STAND_CTL frame reaches the port; its reserved fields are the operation's own check (09h). -/
def State.standRequest (s : State) (i : Instr) (f : Frame) (run : State → State) : State :=
  s.request i { f with rsvd := false } .stand run

end Sys2Proof.Machine
end

