-- ==== Sys2Proof/Machine/Stand.lean ====
section
/-! DEFINITION. The commands of stands (10 R306 to R313): STAND_CTL, preparation, relocation and deletion. -/

namespace Sys2Proof.Machine

/-! ## CREATE -/

/-- The state after CREATE. -/
def State.createStand (s : State) (d : StandDesc) : State :=
  let fb := decide (d.place = 1)
  let x : StandS :=
    { state := .creating, firebreak := fb, cls := d.cls, rows := d.rows, resvGib := d.resvGib, rshare := d.rshare, wshare := d.wshare,
      members := [], prot := false, inflight := 0, rcredit := 0, wcredit := 0, refilled := s.now, oldRows := 0, moving := fb, delStep := 0 }
  ({ s with nvm := { s.nvm with stands := sput d.stand.val x s.nvm.stands } }).moveRows d.rows

/-- The first reason that applies to a CREATE (Table 10-4). -/
def State.createReason (s : State) (f : Frame) (d : StandDesc) : Option Nat :=
  if f.rsvd || !(descOk d) then some 9
  else if (s.nvm.stand d.stand.val).isSome then some 1
  else if decide (d.place = 1) && s.nvm.rowsMove then some 3
  else if !(s.rowsOk d.stand.val d.place d.rows) then some 6
  else if s.nvm.shareOver d.stand.val d.rshare d.wshare then some 4
  else if !((s.createStand d).capacityOk d.stand true) then some 5
  else if s.isReadOnly || decide (s.fuses.lc = 0 ∨ s.fuses.lc = 3) then some 8
  else none

/-- Carry out a CREATE. -/
def State.runCreate (s : State) (f : Frame) (d : StandDesc) : State :=
  match s.createReason f d with
  | some c => s.standAnswer f (some c)
  | none => ((s.createStand d).journal.recheckSpare).standAnswer f none

/-- STAND_CTL_CREATE (R307 to R309). -/
def execStandCtlCreate (f : Frame) (d : StandDesc) (s : State) : Host.Outcome State Fault Refusal :=
  .next (s.standRequest (.standCtlCreate f d) f (fun s => s.runCreate f d))

/-! ## MODIFY -/

/-- The stand after MODIFY (R310). -/
def StandS.modified (x : StandS) (d : StandDesc) : StandS :=
  { x with
    state := .changing
    cls := if d.chgClass then d.cls else x.cls
    rshare := if d.chgRshare then d.rshare else x.rshare
    wshare := if d.chgWshare then d.wshare else x.wshare
    resvGib := if d.chgResv then d.resvGib else x.resvGib
    firebreak := if d.chgPlace then decide (d.place = 1) else x.firebreak
    rows := if d.chgPlace then d.rows else x.rows
    oldRows := x.rows
    moving := d.chgPlace }

/-- The state after MODIFY. Credits are refilled at the old shares up to now. -/
def State.modifyStand (s : State) (d : StandDesc) (x : StandS) : State :=
  let s1 := s.refillStands
  let s2 := { s1 with nvm := s1.nvm.modStand d.stand.val (fun y => y.modified d) }
  if d.chgPlace then s2.moveRows (d.rows ^^^ x.rows) else s2

/-- The first reason that applies to a MODIFY. -/
def State.modifyReason (s : State) (f : Frame) (d : StandDesc) : Option Nat :=
  if f.rsvd || !(descModify d) then some 9
  else match s.nvm.stand d.stand.val with
    | none => some 2
    | some x =>
      let y := x.modified d
      if x.state != .active || (d.chgPlace && s.nvm.rowsMove) then some 3
      else if d.chgPlace && !(s.rowsOk d.stand.val d.place d.rows) then some 6
      else if (d.chgRshare || d.chgWshare) && s.nvm.shareOver d.stand.val y.rshare y.wshare then some 4
      else if !((s.modifyStand d x).capacityOk d.stand d.chgPlace) then some 5
      else if decide (x.resvGib < y.resvGib) && (s.isReadOnly || (y.firebreak && x.prot)) then some 8
      else none

/-- Carry out a MODIFY. -/
def State.runModify (s : State) (f : Frame) (d : StandDesc) : State :=
  match s.modifyReason f d, s.nvm.stand d.stand.val with
  | none, some x => ((s.modifyStand d x).journal.recheckSpare).standAnswer f none
  | c, _ => s.standAnswer f c

/-- STAND_CTL_MODIFY (R307 to R310). -/
def execStandCtlModify (f : Frame) (d : StandDesc) (s : State) : Host.Outcome State Fault Refusal :=
  .next (s.standRequest (.standCtlModify f d) f (fun s => s.runModify f d))

/-! ## The end of CREATING and CHANGING -/

/-- The regions of a stand's own domains have their size. -/
def State.regionsFull (s : State) (st : StandNo) : Bool :=
  (s.ownDoms st).all (fun d => decide (s.regionSize d ≤ (s.media.domS d).region.length))

/-- STAND_PREPARATION_DONE (R309): domains formed, foreign data gone, map regions formed. -/
def execStandPreparationDone (st : StandNo) (s : State) : Host.Outcome State Fault Refusal :=
  .next (
    match s.nvm.stand st.val with
    | none => s
    | some x =>
      let s1 := (s.ownDoms st).foldl (fun a d => a.fillRegion d) s
      if s.mgmtServes && x.state == .creating && s.settled st.val x && s1.regionsFull st then
        ({ s1 with nvm := s1.nvm.modStand st.val (fun y => { y with state := .active, moving := false }) }).journal.recheckSpare
      else s)

/-- STAND_RELOCATION_DONE (R310): nothing is left to relocate. -/
def execStandRelocationDone (st : StandNo) (s : State) : Host.Outcome State Fault Refusal :=
  .next (
    match s.nvm.stand st.val with
    | none => s
    | some x =>
      if s.mgmtServes && x.state == .changing && s.settled st.val x then
        ({ s with nvm := s.nvm.modStand st.val (fun y => { y with state := .active, moving := false }) }).journal.recheckSpare
      else s)

/-! ## DELETE (R311) -/

/-- Namespaces of a stand. -/
def NvmS.nssOf (n : NvmS) (st : Nat) : List (Nat × NsS) := n.nss.filter (fun e => e.2.stand.val == st)

/-- From here on commands to the stand's namespaces fail as for a deletion (03 R96). -/
def NvmS.failStand (n : NvmS) (st : Nat) (from0 : Qword) : NvmS :=
  { n with nss := smap (fun _ x => if x.stand.val == st && x.mode != .deleting then { x with mode := .deleting, modeFrom := from0 } else x) n.nss }

/-- The first reason that applies to a DELETE. -/
def State.deleteReason (s : State) (f : Frame) (d : StandDesc) : Option Nat :=
  if f.rsvd || !(descBare d) then some 9
  else match s.nvm.stand d.stand.val with
    | none => some 2
    | some x => if x.state != .active && x.state != .creating then some 3 else none

/-- The first step of DELETE. -/
def State.startDelete (s : State) (st : Nat) : State :=
  let n := s.nvm.modStand st (fun x => { x with state := .deleting, delStep := 1, moving := false })
  { s with nvm := n.failStand st s.host.nextAseq }

/-- Carry out a DELETE: it goes on with STAND_DELETE_RUN. -/
def State.runDelete (s : State) (f : Frame) (d : StandDesc) : State :=
  match s.deleteReason f d with
  | some c => s.standAnswer f (some c)
  | none => ((s.startDelete d.stand.val).journal).standAnswer f none

/-- STAND_CTL_DELETE (R307, R308, R311). -/
def execStandCtlDelete (f : Frame) (d : StandDesc) (s : State) : Host.Outcome State Fault Refusal :=
  .next (s.standRequest (.standCtlDelete f d) f (fun s => s.runDelete f d))

/-- Step 1 is over: earlier commands to the namespaces have completed, operations on them included. -/
def State.standQuiet (s : State) (st : Nat) : Bool :=
  (s.nvm.nssOf st).all (fun e => !(s.host.ioBefore e.1 e.2.modeFrom) && !(s.nvm.ops.any (fun o => o.2.nsids.contains e.1)))

/-- Step 2: every key is destroyed, with one event. -/
def State.standKeys (s : State) (st : Nat) : State :=
  let l := s.nvm.nssOf st
  let n := l.foldl (fun (n : NvmS) e => n.modNs e.1 (fun x => x.keyless)) s.nvm
  ({ s with nvm := n.modStand st (fun x => { x with delStep := 3 }) }).journal.record sevNotice 0x0405 st l.length

/-- Step 3: every namespace and function is detached, and each controller concerned is told. -/
def State.standDetach (s : State) (st : Nat) (x : StandS) : State :=
  let l := s.nvm.nssOf st
  let cs := l.foldl (fun a e => e.2.attached.foldl (fun b c => addOnce c b) a) x.members
  let n := l.foldl (fun (n : NvmS) e => n.modNs e.1 (fun y => { y with attached := [], detaching := [] })) s.nvm
  ({ s with nvm := n.modStand st (fun y => { y with members := [], delStep := 4 }) }).journal.nsChanged cs (l.map Prod.fst)

/-- Write points of a stand are closed. -/
def State.closePoints (s : State) (st : Nat) : State :=
  let rbs := (s.media.points.filter (fun p => p.stand.val == st)).filterMap (fun p => p.rb)
  let s1 := rbs.foldl (fun a rb => a.closeRow rb) s
  { s1 with media := { s1.media with points := s1.media.points.filter (fun p => p.stand.val != st || p.set.isSome) } }

/-- Step 4: cache entries are dropped and the granules set UNMAPPED in slices; segments and leaves go with them. -/
def State.standUnmap (s : State) (st : Nat) : State :=
  let l := (s.nvm.nssOf st).map Prod.fst
  let s1 := { s with nvm := s.nvm.modStand st (fun y => { y with delStep := 5 }) }
  if l.isEmpty then s1.closePoints st
  else
    let i := s1.nvm.newOp
    let o : SlicedOp := { kind := .delete, tag := none, nsids := l, rekey := false, begun := false, work := [], edges := [] }
    (({ s1 with nvm := { s1.nvm with ops := sput i o s1.nvm.ops } }).beginOp i o).closePoints st

/-- Step 5: the die rows become SHARED, and the stand is no more. An RMA that waited for it goes on (14 R397). -/
def State.standGone (s : State) (st : Nat) (x : StandS) : State :=
  let s1 := { s with nvm := { s.nvm with stands := sdel st s.nvm.stands } }
  let s2 := if x.firebreak then s1.moveRows x.rows else s1
  (s2.journal.recheckSpare).rmaGoOn

/-- STAND_DELETE_RUN (R311): the next step of a deletion, once the one before it is complete. -/
def execStandDeleteRun (st : StandNo) (s : State) : Host.Outcome State Fault Refusal :=
  .next (
    match s.nvm.stand st.val with
    | none => s
    | some x =>
      if !s.fwRuns || !s.mgmt.runs || x.state != .deleting then s
      else if x.delStep ≤ 2 then
        let s1 := { s with nvm := s.nvm.failStand st.val s.host.nextAseq }
        if s1.standQuiet st.val then s1.standKeys st.val else s1
      else if x.delStep = 3 then s.standDetach st.val x
      else if x.delStep = 4 then (if (s.map.grove 0).room then s.standUnmap st.val else s)
      else if (s.nvm.nssOf st.val).isEmpty then s.standGone st.val x
      else s)

/-! ## ATTACH, DETACH, QUERY (R313) -/

/-- The first reason that applies to an ATTACH. -/
def State.attachReason (s : State) (f : Frame) (a : AttachWord) : Option Nat :=
  if f.rsvd || a.rsvd then some 9
  else match s.nvm.stand a.stand.val with
    | none => some 2
    | some x =>
      if x.state == .deleting then some 3
      else match s.nvm.standOf a.cntl.val with
        | some o => if o = a.stand.val then none else some 7
        | none => none

/-- Carry out an ATTACH. -/
def State.runAttach (s : State) (f : Frame) (a : AttachWord) : State :=
  match s.attachReason f a with
  | some r => s.standAnswer f (some r)
  | none =>
    (({ s with nvm := s.nvm.modStand a.stand.val (fun x => { x with members := addOnce a.cntl.val x.members }) }).journal).standAnswer f none

/-- STAND_CTL_ATTACH (R313; 02 R43). -/
def execStandCtlAttach (f : Frame) (c : BitVec 24) (st : Byte) (s : State) : Host.Outcome State Fault Refusal :=
  .next (s.standRequest (.standCtlAttach f c st) f (fun s => s.runAttach f (.join c st)))

/-- The first reason that applies to a DETACH. -/
def State.detachReason (s : State) (f : Frame) (a : AttachWord) : Option Nat :=
  if f.rsvd || a.rsvd then some 9
  else match s.nvm.stand a.stand.val with
    | none => some 2
    | some x =>
      if x.state != .active && x.state != .changing then some 3
      else if !(x.members.contains a.cntl.val) then some 7
      else none

/-- Namespaces attached to a controller. -/
def NvmS.attachedTo (n : NvmS) (c : Nat) : List Nat := (n.nss.filter (fun e => e.2.attached.contains c)).map Prod.fst

/-- I/O of the function is still in progress on its namespaces. -/
def State.detachWaits (s : State) (c : Nat) : Bool := (s.nvm.attachedTo c).any (fun i => s.host.ioFrom i [c])

/-- The namespaces are detached, and the function leaves the stand. -/
def State.finishDetach (s : State) (f : Frame) (c : Cntl) (st : StandNo) : State :=
  let s1 := (s.nvm.attachedTo c.val).foldl (fun (a : State) i => a.detachNs i [c.val]) s
  (({ s1 with nvm := s1.nvm.modStand st.val (fun x => { x with members := x.members.filter (· != c.val) }) }).journal).standAnswer f none

/-- The detachment rule of 03 R96: from here on the function's I/O to its namespaces fails. -/
def NvmS.failFrom (n : NvmS) (c : Nat) : NvmS :=
  { n with nss := smap (fun _ x => if x.attached.contains c then { x with detaching := addOnce c x.detaching } else x) n.nss }

/-- Carry out a DETACH: it is answered once what the function has in progress has completed. -/
def State.runDetach (s : State) (i : Instr) (f : Frame) (a : AttachWord) : State :=
  match s.detachReason f a with
  | some r => s.standAnswer f (some r)
  | none =>
    if s.detachWaits a.cntl.val then { s with nvm := s.nvm.failFrom a.cntl.val, naile := { s.naile with waiting := some i } }
    else s.finishDetach f a.cntl a.stand

/-- STAND_CTL_DETACH (R313; 03 R96): run again while the port is still BUSY with it, it goes on. -/
def execStandCtlDetach (f : Frame) (c : BitVec 24) (st : Byte) (s : State) : Host.Outcome State Fault Refusal :=
  .next (
    let i : Instr := .standCtlDetach f c st
    if s.naile.waiting = some i then (if s.naileWaits then s else s.runDetach i f (.join c st))
    else s.standRequest i f (fun s => s.runDetach i f (.join c st)))

/-- Carry out a QUERY. -/
def State.runQuery (s : State) (f : Frame) (d : StandDesc) : State :=
  if f.rsvd || !(descBare d) then s.standAnswer f (some 9)
  else match s.nvm.stand d.stand.val with
    | none => s.standAnswer f (some 2)
    | some x => s.naileOk f 0x40 64 (s.standWindow d.stand x)

/-- STAND_CTL_QUERY (R307; 02 Table 2-16). -/
def execStandCtlQuery (f : Frame) (d : StandDesc) (s : State) : Host.Outcome State Fault Refusal :=
  .next (s.standRequest (.standCtlQuery f d) f (fun s => s.runQuery f d))

end Sys2Proof.Machine
end

