-- ==== Sys2Proof/Machine/UpdateOps.lean ====
section
/-! DEFINITION. Updates through the Naile port (16 R453 to R461): target areas, the checks of a header, sectors, the end of an update,
and commits. -/

namespace Sys2Proof.Machine

/-! ## Areas (Table 16-8 UPDAREA; R456) -/

/-- UPDAREA 00h and 01h are slots A and B, 02h and 03h the configuration slots, 04h the spare. -/
abbrev areaSpare : Nat := 4

/-- The target area of an update (R456). -/
def State.targetArea (s : State) (target : Nat) : Nat :=
  if target = 0 then
    if s.inRecovery then (match s.nor.selector with
      | some x => 1 - x.boot % 2
      | none => 1)
    else 1 - s.nor.booted % 2
  else if target = 1 then
    (match s.nor.applied with
    | some w => 2 + (1 - w % 2)
    | none => 2 + (1 - s.nor.cfgSel))
  else areaSpare

/-- The selector as IMAGE_BEGIN leaves it: where it names the target area, it is rewritten to name the booted slot or the applied
configuration slot (R456). -/
def NorS.steerAway (n : NorS) (area : Nat) : NorS :=
  match n.selector with
  | none => n
  | some x =>
    if area = x.boot % 2 then n.writeSelector n.booted (x.cfg % 2)
    else if area = 2 + x.cfg % 2 then n.writeSelector (x.boot % 2) (n.applied.getD (x.cfg % 2))
    else n

/-- Longest streams: an image of 8 MiB of load segments, a configuration of 1,048,576 bytes (R455; 18 R488). -/
def maxStream (target : Nat) : Nat := if target = 1 then 1048576 else 8392704

/-- The fields of IMAGE_BEGIN are in range. -/
def beginOk (target length : Nat) : Bool := decide (target ≤ 2 ∧ 4096 ≤ length ∧ length ≤ maxStream target)

/-! ## The header check (R457 step 3) -/

/-- The check of an image header: the failure code, or none. -/
def State.checkImageHeader (s : State) (h : ImageHeader) (length : Nat) : Option Nat :=
  if !headerForm h || 4096 + h.mgmtLen + h.ftlLen + h.unitLen ≠ length then some nfHeader
  else if !s.fuses.imageKeyOk h then some nfKey
  else if !(h.ecdsaOk && h.lmsOk) then some nfSignature
  else if h.release < s.nor.floorNow then some nfReleaseFloor
  else if h.svn < s.fuses.svn then some nfSvnFloor
  else none

/-- The check of a configuration header: form, CHIPID, key and signatures (18 Table 18-4 checks 1 to 4). -/
def State.checkConfigHeader (s : State) (h : SweazHeader) (length : Nat) : Option Nat :=
  if 4096 + h.length ≠ length then some nfHeader
  else match s.fuses.headChecks h h.digest with
    | some 1 => some nfHeader
    | some 2 => some nfHeader
    | some 3 => some nfKey
    | some 4 => some nfSignature
    | _ => none

/-- The check of the header of a stream; one of another kind than the target is malformed. -/
def State.checkHeader (s : State) (target length : Nat) (h : Option StreamHeader) : Option Nat :=
  match h with
  | some (.image x) => if target = 1 then some nfHeader else s.checkImageHeader x length
  | some (.config x) => if target = 1 then s.checkConfigHeader x length else some nfHeader
  | none => some nfHeader

/-! ## What the areas hold -/

/-- Change the contents of an area. -/
def NorS.setArea (n : NorS) (area : Nat) (hdr : Option StreamHeader) (complete : Bool) : NorS :=
  let img : ImgSlot :=
    match hdr with
    | some (.image h) => { hdr := some h, complete := complete, digest := h.digest }
    | _ => { hdr := none, complete := complete, digest := 0 }
  let cfg : CfgSlot :=
    match hdr with
    | some (.config h) => { hdr := some h, complete := complete, digest := h.digest }
    | _ => { hdr := none, complete := complete, digest := 0 }
  match area with
  | 0 => { n with slotA := img }
  | 1 => { n with slotB := img }
  | 2 => { n with cfg0 := cfg }
  | 3 => { n with cfg1 := cfg }
  | _ => { n with spare := img }

/-- An update ends without success: its area is protected again and its sector flags stay as they are (R446, R457). -/
def State.abandonUpdate (s : State) : State := { s with nor := { s.nor with upd := Update.none, unprotected := none } }

/-! ## Sectors (R454) -/

/-- Stream bytes in a sector. -/
abbrev sectorBytes : Nat := 65520

/-- The controller sends nothing to a protected sector: the operation fails with NOR, and the sector's NOR byte address is recorded (R453). The
update whose sector it was is abandoned. -/
def State.norRefuse (s : State) : State :=
  s.abandonUpdate.record sevError 0x1201 (s.nor.areaBase s.nor.upd.area + 65536 * s.nor.upd.sectors)

/-- The sectors of the update's area are not write-protected. -/
def NorS.mayWrite (n : NorS) : Bool := n.unprotected == some n.upd.area

/-- A sector buffer is full: its write begins, and the area's first sector is no longer complete. -/
def NorS.beginWrite (n : NorS) : NorS :=
  if sectorBytes ≤ n.upd.buffered && n.upd.sectors == 0 then n.setArea n.upd.area none false else n

/-- A sector has been written and read back; the first carries the header. -/
def NorS.sectorDone (n : NorS) : NorS :=
  let u := n.upd
  let n1 := if u.sectors = 0 then n.setArea u.area u.hdr false else n
  { n1 with upd := { u with buffered := u.buffered - sectorBytes, sectors := u.sectors + 1, retried := false } }

/-- A chunk is answered with the bytes received so far. -/
def State.chunkOk (s : State) (f : Frame) : State :=
  s.naileOk f 0x11 4 s.nor.upd.received

/-- A chunk whose bytes are in the buffers: it is answered, unless no buffer is free. -/
def State.chunkIn (s : State) (f : Frame) : State :=
  if 2 * sectorBytes ≤ s.nor.upd.buffered then { s with naile := { s.naile with chunk := some f } }
  else s.chunkOk f

/-! ## Commits (R461, R462) -/

/-- FORMAT of the configuration in a slot. -/
def NorS.formatIn (n : NorS) (w : Nat) : Option Nat := (n.cfg w).image.map (fun h => h.format)

/-- CFGDEF: the CFGFMT of the image that a choice names and the FORMAT of its configuration differ. -/
def NorS.cfgDef (n : NorS) (boot cfg : Nat) : Bool := ((n.slot boot).hdr.map (fun h => h.cfgFmt)) != n.formatIn cfg

/-- MGMTNOW or FTLNOW cannot be honoured (R462; for management also while STBY reads FAULTY, 15 R433). -/
def State.cannotActivate (s : State) (h : ImageHeader) (mgmtNow ftlNow : Bool) : Bool :=
  (mgmtNow || ftlNow) &&
    (s.inRecovery ||
      (match s.nor.applied with
      | some w => (s.nor.formatIn w).any (fun x => x != h.cfgFmt)
      | none => false) ||
      (ftlNow && h.ftlIf != s.mgmt.ftlIf) || (mgmtNow && decide (s.mgmt.stby = 2)))

/-- The parts of a committed image that take effect at once (R462). -/
def State.activate (s : State) (h : ImageHeader) (mgmtNow ftlNow : Bool) : State :=
  let s0 := { s with nor := { s.nor with upd := { Update.none with state := if mgmtNow || ftlNow then 3 else 0, area := s.nor.upd.area } } }
  if mgmtNow then
    let m := { s0.mgmt with standbyRel := h.release, standbySvn := h.svn, rolloutNext := if ftlNow then some h.release else none }
    ({ s0 with mgmt := m }).askHandover hoActivation (some h.release)
  else if ftlNow then { s0 with mgmt := s0.mgmt.startRollout h.release s0.now }
  else s0

/-- The answer of a commit. -/
def State.commitOk (s : State) (f : Frame) (cfgDef : Bool) : State := s.naileOk f 0x13 1 (bitIf cfgDef 0)

end Sys2Proof.Machine
end

