-- ==== Sys2Proof/Machine/Update.lean ====
section
/-! DEFINITION. The rows of images and the NOR (16 R453 to R466): updates, commits, the release floor and the recovery spare. -/

namespace Sys2Proof.Machine

/-! ## Updates -/

/-- What IMAGE_BEGIN does. -/
def State.runImageBegin (s : State) (f : Frame) (target length : Nat) : State :=
  if !beginOk target length then s.naileFail f 0 nfField 0
  else if s.nor.upd.state = 1 ∨ s.nor.upd.state = 3 then s.naileFail f 0 nfBusy 0
  else
    let area := s.targetArea target
    let u := { Update.none with state := 1, area := area, target := target, length := length, lastFrame := s.now }
    ({ s with nor := { (s.nor.steerAway area) with upd := u } }).naileOk f 0x10 1 area

/-- IMAGE_BEGIN (R456, R457). -/
def execImageBegin (f : Frame) (target length : Nat) (s : State) : Host.Outcome State Fault Refusal :=
  .next (s.request (.imageBegin f target length) f .image (fun s => s.runImageBegin f target length))

/-- What IMAGE_CHUNK does: the stream in order, the header check before anything is written, full buffers to the NOR. -/
def State.runImageChunk (s : State) (f : Frame) (offset count : Nat) (hdr : Option StreamHeader) (norFails : Bool) : State :=
  let u := s.nor.upd
  if count = 0 ∨ 4092 < count then s.naileFail f 0 nfField 0
  else if u.state ≠ 1 ∨ offset ≠ u.received then s.naileFail f 0 nfSequence 0
  else if u.length < u.received + count then s.naileFail f 0 nfField 0
  else
    let u1 := { u with received := u.received + count, buffered := u.buffered + count }
    if u.received < 4096 ∧ 4096 ≤ u1.received then
      match s.checkHeader u.target u.length hdr with
      | some c => s.abandonUpdate.naileFail f 0 c 0
      | none => ({ s with nor := { s.nor with upd := { u1 with hdr := hdr }, unprotected := some u.area } }).chunkIn f
    else
      let n := { s.nor with upd := u1 }
      if norFails ∧ sectorBytes ≤ u1.buffered then ({ s with nor := n.beginWrite }).abandonUpdate.naileFail f 0 nfNor 0
      else ({ s with nor := n.beginWrite }).chunkIn f

/-- IMAGE_CHUNK (R457). -/
def execImageChunk (f : Frame) (offset count : Nat) (hdr : Option StreamHeader) (norFails : Bool) (s : State) :
    Host.Outcome State Fault Refusal :=
  .next (s.request (.imageChunk f offset count hdr norFails) f .image
    (fun s => s.runImageChunk f offset count hdr norFails))

/-- A sector operation ends after its update has been abandoned: a chunk that waited for it finds no update. -/
def State.lateSector (s : State) : State :=
  match s.naile.chunk with
  | some f => s.naileFail f 0 (if s.served .image then nfSequence else nfNotServed) 0
  | none => s

/-- A sector operation of the update ends (R453, R454, R457). -/
def State.sectorEnds (s : State) (ok : Bool) : State :=
  if !s.nor.mayWrite then
    match s.naile.chunk with
    | some f => s.norRefuse.naileFail f 0 nfNor 0
    | none => s.norRefuse
  else if ok then
    let s1 := { s with nor := s.nor.sectorDone }
    match s.naile.chunk with
    | some f => s1.chunkIn f
    | none => s1
  else if !s.nor.upd.retried then { s with nor := { s.nor with upd := { s.nor.upd with retried := true } } }
  else match s.naile.chunk with
    | some f => s.abandonUpdate.naileFail f 0 nfNor 0
    | none => s.abandonUpdate

/-- NOR_SECTOR_WRITTEN (R454, R457): a full buffer is in the NOR, and a chunk that waited for it is answered. A failure is retried once;
a second abandons the update with NOR. -/
def execNorSectorWritten (ok : Bool) (s : State) : Host.Outcome State Fault Refusal :=
  .next (if s.responder = .none then s
    else if s.nor.upd.state ≠ 1 then s.lateSector
    else if s.nor.upd.buffered < sectorBytes then s
    else s.sectorEnds ok)

/-- Checks 7 to 9 of a configuration of the running FORMAT, made at IMAGE_END (18 R492). -/
def State.configFits (s : State) (h : Option StreamHeader) : Bool :=
  match h with
  | some (.config x) =>
    if x.format = s.mgmt.cfgFmt ∧ !s.inRecovery then
      match s.fuses.checkArea x with
      | .accepted => true
      | _ => false
    else true
  | _ => true

/-- What IMAGE_END does: the last sector, protection (R453), the read-back and the digest. -/
def State.runImageEnd (s : State) (f : Frame) (norFails digestOk : Bool) : State :=
  let u := s.nor.upd
  if u.state ≠ 1 then s.naileFail f 0 nfSequence 0
  else if u.hdr.isNone then s.abandonUpdate.naileFail f 0 nfDigest 0
  else if !s.nor.mayWrite then s.norRefuse.naileFail f 0 nfNor 0
  else
    let torn := { s with nor := s.nor.setArea u.area (if u.sectors = 0 then none else u.hdr) false }
    if norFails ∧ u.buffered ≠ 0 then torn.abandonUpdate.naileFail f 0 nfNor 0
    else if u.received ≠ u.length ∨ !digestOk then
      ({ s with nor := s.nor.setArea u.area u.hdr false }).abandonUpdate.naileFail f 0 nfDigest 0
    else if !s.configFits u.hdr then
      ({ s with nor := s.nor.setArea u.area u.hdr false }).abandonUpdate.naileFail f 0 nfField 0
    else
      let n := s.nor.setArea u.area u.hdr true
      ({ s with nor := { n with unprotected := none, upd := { Update.none with state := 2, area := u.area, target := u.target, hdr := u.hdr } } }).naileOk
        f 0x12 0 0

/-- IMAGE_END (R457; 18 R492). -/
def execImageEnd (f : Frame) (norFails digestOk : Bool) (s : State) : Host.Outcome State Fault Refusal :=
  .next (s.request (.imageEnd f norFails digestOk) f .image (fun s => s.runImageEnd f norFails digestOk))

/-- UPDATE_TIMEOUT (Table 16-15): no frame for SVC_UPDATE_TIMEOUT_S abandons an update. -/
def execUpdateTimeout (s : State) : Host.Outcome State Fault Refusal :=
  .next (if s.nor.upd.state = 1 ∧ s.nor.upd.lastFrame + s.par P.SVC_UPDATE_TIMEOUT_S * 1000000000 ≤ s.now then s.abandonUpdate else s)

/-! ## Commits -/

/-- What IMAGE_COMMIT with OP 01h does. -/
def State.runCommitImage (s : State) (f : Frame) (mgmtNow ftlNow : Bool) : State :=
  let u := s.nor.upd
  if s.nor.activating then s.naileFail f 0 nfBusy 0
  else if u.state ≠ 2 ∨ 1 < u.area then s.naileFail f 0 nfNoImage 0
  else match (s.nor.slot u.area).hdr with
    | none => s.naileFail f 0 nfNoImage 0
    | some h =>
      if s.cannotActivate h mgmtNow ftlNow then s.naileFail f 0 nfActivation 0
      else
        let s1 := { s with nor := s.nor.writeSelector u.area s.nor.cfgSel }
        (s1.commitOk f (s1.nor.cfgDef u.area s.nor.cfgSel)).activate h mgmtNow ftlNow

/-- COMMIT_IMAGE (R461, R462). -/
def execCommitImage (f : Frame) (mgmtNow ftlNow : Bool) (s : State) : Host.Outcome State Fault Refusal :=
  .next (s.request (.commitImage f mgmtNow ftlNow) f (.commit 1) (fun s => s.runCommitImage f mgmtNow ftlNow))

/-- What IMAGE_COMMIT with OP 02h does. -/
def State.runCommitConfiguration (s : State) (f : Frame) (mgmtNow ftlNow : Bool) : State :=
  let u := s.nor.upd
  if mgmtNow || ftlNow then s.naileFail f 0 nfField 0
  else if s.nor.activating then s.naileFail f 0 nfBusy 0
  else if u.state ≠ 2 ∨ u.area < 2 ∨ 3 < u.area then s.naileFail f 0 nfNoImage 0
  else
    let w := u.area - 2
    let s1 := { s with nor := { (s.nor.writeSelector s.nor.bootSel w) with upd := Update.none } }
    s1.commitOk f (s1.nor.cfgDef s.nor.bootSel w)

/-- COMMIT_CONFIGURATION (R461, R462). -/
def execCommitConfiguration (f : Frame) (mgmtNow ftlNow : Bool) (s : State) : Host.Outcome State Fault Refusal :=
  .next (s.request (.commitConfiguration f mgmtNow ftlNow) f (.commit 2)
    (fun s => s.runCommitConfiguration f mgmtNow ftlNow))

/-- What IMAGE_COMMIT with OP 03h does: the floor becomes the booted release, where every complex and grove runs it. -/
def State.runRaiseFloor (s : State) (f : Frame) : State :=
  if s.nor.activating then s.naileFail f 0 nfBusy 0
  else if s.mgmt.mgmtRel ≠ s.mgmt.bootRel ∨ s.mgmt.groveRel.toList.any (fun r => r != s.mgmt.bootRel) then s.naileFail f 0 nfNoImage 0
  else
    let s1 := { s with nor := { s.nor with floor := BitVec.ofNat 32 s.mgmt.bootRel, floorBad := false } }
    (s1.record sevNotice 0x1202 s.mgmt.bootRel).commitOk f (s1.nor.cfgDef s.nor.bootSel s.nor.cfgSel)

/-- RAISE_RELEASE_FLOOR (R458). -/
def execRaiseReleaseFloor (f : Frame) (s : State) : Host.Outcome State Fault Refusal :=
  .next (s.request (.raiseReleaseFloor f) f (.commit 3) (fun s => s.runRaiseFloor f))

/-- What IMAGE_COMMIT with OP 04h does: the spare is checked against the current floors and copied into the target slot. -/
def State.runRestoreSpare (s : State) (f : Frame) (norFails : Bool) : State :=
  if s.nor.upd.state = 1 ∨ s.nor.upd.state = 3 then s.naileFail f 0 nfBusy 0
  else match s.nor.spare.hdr with
    | none => s.naileFail f 0 nfNoImage 0
    | some h =>
      if !s.nor.spare.complete then s.naileFail f 0 nfNoImage 0
      else match s.checkImageHeader h (4096 + h.mgmtLen + h.ftlLen + h.unitLen) with
        | some c => s.naileFail f 0 c 0
        | none =>
          let area := s.targetArea 0
          let s0 := { s with nor := s.nor.steerAway area }
          if norFails then ({ s0 with nor := s0.nor.setArea area none false }).abandonUpdate.naileFail f 0 nfNor 0
          else if s.nor.spare.digest ≠ h.digest then
            ({ s0 with nor := s0.nor.setArea area (some (.image h)) false }).abandonUpdate.naileFail f 0 nfDigest 0
          else
            let n := s0.nor.setArea area (some (.image h)) true
            let s1 := { s0 with nor := { n with upd := { Update.none with state := 2, area := area, hdr := some (.image h) } } }
            s1.commitOk f (s1.nor.cfgDef s1.nor.bootSel s1.nor.cfgSel)

/-- RESTORE_SPARE (R465). -/
def execRestoreSpare (f : Frame) (norFails : Bool) (s : State) : Host.Outcome State Fault Refusal :=
  .next (s.request (.restoreSpare f norFails) f (.commit 4) (fun s => s.runRestoreSpare f norFails))

end Sys2Proof.Machine
end

