-- ==== Sys2Proof/Machine/Resume.lean ====
section
/-! DEFINITION. Naile requests that stayed BUSY and run later (16 R449; 15 R431): at takeover, when a halted core resumes, and at the
entry to MGMT_LOST. -/

namespace Sys2Proof.Machine

/-- A request as the port executes it: its frame, its transaction and its work. -/
structure Req where
  frame : Frame
  tx : Tx
  run : State → State

/-- An action parameter as a request. -/
def actionReq (f : Frame) (id v : Nat) (a : Action) : Req := { frame := f, tx := .reconfig, run := fun s => s.runAction f id v a }

/-- A STAND_CTL as a request; its reserved fields are its own check. -/
def standReq (f : Frame) (run : State → State) : Req := { frame := { f with rsvd := false }, tx := .stand, run := run }

/-- The request of a Naile command; none for a command of another kind. -/
def reqOf (i : Instr) : Option Req :=
  match i with
  | .mapLeaseRekey f v => some (actionReq f P.MAP_LEASE_REKEY v actRekey)
  | .medReadOnlyRelease f v => some (actionReq f P.MED_READ_ONLY_RELEASE v (actRelease v))
  | .chnDegradedClear f v => some (actionReq f P.CHN_DEGRADED_CLEAR v (actDegraded v))
  | .drmRetrainNow f v => some (actionReq f P.DRM_RETRAIN_NOW v (actRetrain v))
  | .plpTestNow f v huLow => some (actionReq f P.PLP_TEST_NOW v (actTest huLow))
  | .mgtHandoverNow f v => some (actionReq f P.MGT_HANDOVER_NOW v actHandover)
  | .secLifecycleAdvance f v => some (actionReq f P.SEC_LIFECYCLE_ADVANCE v actSeal)
  | .secSvnCommit f v => some (actionReq f P.SEC_SVN_COMMIT v actSvn)
  | .standCtlCreate f d => some (standReq f (fun s => s.runCreate f d))
  | .standCtlModify f d => some (standReq f (fun s => s.runModify f d))
  | .standCtlDelete f d => some (standReq f (fun s => s.runDelete f d))
  | .standCtlAttach f c st => some (standReq f (fun s => s.runAttach f (.join c st)))
  | .standCtlDetach f c st => some (standReq f (fun s => s.runDetach (.standCtlDetach f c st) f (.join c st)))
  | .standCtlQuery f d => some (standReq f (fun s => s.runQuery f d))
  | .reconfig f r => some { frame := f, tx := .reconfig, run := fun s => s.runReconfig f r }
  | .paramRead f id inst => some { frame := f, tx := .param, run := fun s => s.runParamRead f id inst }
  | .statusWindowRead f id inst => some { frame := f, tx := .param, run := fun s => s.runWindowRead f id inst }
  | .imageBegin f target length => some { frame := f, tx := .image, run := fun s => s.runImageBegin f target length }
  | .imageChunk f offset count h n => some { frame := f, tx := .image, run := fun s => s.runImageChunk f offset count h n }
  | .imageEnd f n d => some { frame := f, tx := .image, run := fun s => s.runImageEnd f n d }
  | .commitImage f m x => some { frame := f, tx := .commit 1, run := fun s => s.runCommitImage f m x }
  | .commitConfiguration f m x => some { frame := f, tx := .commit 2, run := fun s => s.runCommitConfiguration f m x }
  | .raiseReleaseFloor f => some { frame := f, tx := .commit 3, run := fun s => s.runRaiseFloor f }
  | .restoreSpare f n => some { frame := f, tx := .commit 4, run := fun s => s.runRestoreSpare f n }
  | .tallyRead f tier count start => some { frame := f, tx := .tally tier, run := fun s => s.runTallyRead f tier count start }
  | .healthRead f page => some { frame := f, tx := .health, run := fun s => s.runHealthRead f page }
  | .rawDiag f p offset length => some { frame := f, tx := .raw, run := fun s => s.runRawDiag f p offset length }
  | .recoveryStatus f => some { frame := f, tx := .recovery, run := fun s => s.runRecoveryStatus f }
  | .unknownType f _ => some { frame := { f with rsvd := false }, tx := .recovery, run := fun s => s.naileFail f 0 nfType 0 }
  | .debugTokenChallenge f => some { frame := f, tx := .debug, run := fun s => s.runChallenge f }
  | .debugTokenOpen f t => some { frame := f, tx := .debug, run := fun s => s.runOpen f t }
  | .debugTokenClose f => some { frame := f, tx := .debug, run := fun s => s.runClose f }
  | _ => none

/-- The request that waits runs, if nothing holds it any more. -/
def State.resumeWaiting (s : State) : State :=
  if s.naileWaits then s
  else match s.naile.waiting.bind reqOf with
    | none => s
    | some q => ({ s with naile := { s.naile with waiting := none } }).runRequest q.frame q.tx q.run

end Sys2Proof.Machine
end

