-- ==== Sys2Proof/Machine/Mgmt.lean ====
section
/-! DEFINITION. The rows of the management complexes (15 R423 to R438), and how a debug session ends or reaches into the part (14 R414,
R416). -/

namespace Sys2Proof.Machine

/-- MGMT_CHECKPOINT (R423): every MGT_CHECKPOINT_MS the active complex writes the older copy and its pointer. -/
def execMgmtCheckpoint (s : State) : Host.Outcome State Fault Refusal :=
  .next (if s.mgmtServes && !s.mgmtHalted && decide (s.mgmt.ckptAt + s.par P.MGT_CHECKPOINT_MS * 1000000 ≤ s.now) then
    let s1 := s.checkpoint
    { s1 with mgmt := { s1.mgmt with ckptAt := s.now } }
  else s)

/-- WATCHDOG_EXPIRY (R428, R433): the heartbeat has lapsed. The watchdog does not count while a session holds the complex (14 R414). -/
def execWatchdogExpiry (s : State) : Host.Outcome State Fault Refusal :=
  .next (if s.mayLapse && !s.mgmtHalted then (s.failOver hoWatchdog).resumeWaiting else s)

/-- MGMT_FAULT (R428, R433): a parity error in the complex's SRAM, or a fatal core exception. -/
def execMgmtFault (_k : MgmtFaultKind) (s : State) : Host.Outcome State Fault Refusal :=
  .next (if s.mayLapse then (s.failOver hoFault).resumeWaiting else s)

/-- A handover can go on: firmware runs, and no halted core holds it (14 R414). -/
def State.handoverRuns (s : State) : Bool :=
  (s.dev.phase == .booting || s.dev.phase == .running) && !s.dev.halted && !s.mgmtHalted && decide (s.pwr.ps ≤ 2)

/-- TAKEOVER (R430, R431): the new complex takes over, and what waited for it runs. -/
def execTakeover (s : State) : Host.Outcome State Fault Refusal :=
  .next (match s.mgmt.handover with
    | none => s
    | some h => if s.handoverRuns then (s.handoverDone h).resumeWaiting else s)

/-- HANDOVER_TIMEOUT (R433): the handover has failed, with the result of LASTRESULT: 1 boot failed, 2 restore failed, 3 timeout,
which takes 60 ms. -/
def execHandoverTimeout (result : Nat) (s : State) : Host.Outcome State Fault Refusal :=
  .next (match s.mgmt.handover with
    | none => s
    | some h => if s.handoverRuns && decide (1 ≤ result ∧ result ≤ 3) && (result != 3 || decide (h.since + 60000000 ≤ s.now)) then (s.handoverFails h result).resumeWaiting else s)

/-- The standby self-test is due: NATIVE mode, and none since start-up or an interval ago (R435). -/
def State.standbyDue (s : State) : Bool :=
  s.par P.MGT_STANDBY_TEST_MODE == 0 &&
    (s.mgmt.stbyTime == 0 || decide (s.mgmt.stbyTime + s.par P.MGT_STANDBY_TEST_INTERVAL_H * 3600000000000 ≤ s.now))

/-- STANDBY_SELF_TEST (R435): its failure bits decide STBY; a test that a handover meets is abandoned (Table 15-3). -/
def execStandbySelfTest (failBits : BitVec 4) (s : State) : Host.Outcome State Fault Refusal :=
  .next (if s.mayLapse && !s.mgmtHalted && s.mgmt.handover.isNone && s.standbyDue then
    let pass := decide (failBits = 0)
    let m := { s.mgmt with stby := if pass then 1 else 2, stbyFail := failBits.toNat, stbyTime := s.now }
    ({ s with mgmt := m }).record (if pass then sevInfo else sevError) 0x1102 failBits.toNat
  else s)

/-! ## Rollout -/

/-- GROVE_RESTART (R436, R437): the next grove of the rollout goes down, once MGT_GROVE_GAP_MS has passed since the last came back. -/
def execGroveRestart (g : Grove) (s : State) : Host.Outcome State Fault Refusal :=
  .next (match s.mgmt.rollout with
    | none => s
    | some r =>
      let due := (r.next = 0 && !r.back) || decide (r.since + s.par P.MGT_GROVE_GAP_MS * 1000000 ≤ s.now)
      if s.mediaRuns && s.mgmt.runs && s.mgmt.handover.isNone && !s.restartRuns && due && s.mgmt.nextGrove r == some g.val &&
          s.dev.mapDone.getLsbD g.val then s.groveDown g
      else s)

/-- The grove is restarting on firmware, and not rebuilding its map. -/
def State.groveBoots (s : State) (g : Grove) : Bool :=
  s.fwRuns && (s.map.grove g).restarting && s.dev.mapDone.getLsbD g.val

/-- The release that a restarting grove comes up with: the previous one when it goes back. -/
def State.groveTarget (s : State) (g : Grove) : Nat :=
  match s.mgmt.rollout with
  | none => vget s.mgmt.groveRel g.val 0
  | some r => if r.back then r.previous else r.release

/-- GROVE_RESTART_COMPLETE (R437; 18 R503): the grove serves again, with values staged for it applied. -/
def execGroveRestartComplete (g : Grove) (s : State) : Host.Outcome State Fault Refusal :=
  .next (if s.groveBoots g then
    let s1 := { s with params := s.params.takeStaged (3 + g.val) }
    (s1.groveBack g (s.groveTarget g)).rolloutGoOn g.val
  else s)

/-- GROVE_RESTART_TIMEOUT (R438): a grove that has not come back within 40 ms restarts once more with the previous release and the rollout stops; a grove that fails with
that release too rebuilds its map. -/
def execGroveRestartTimeout (g : Grove) (s : State) : Host.Outcome State Fault Refusal :=
  .next (if s.groveBoots g && decide ((s.map.grove g).downAt + 40000000 ≤ s.now) then
    match s.mgmt.rollout with
    | none => s.groveRebuilds g (vget s.mgmt.groveRel g.val 0)
    | some r =>
      if r.back then (s.groveRebuilds g r.previous).rolloutGoOn g.val
      else
        let s1 := s.rolloutStops g.val r
        { s1 with mgmt := { s1.mgmt with groveRetry := s1.mgmt.groveRetry ||| groveBit g.val }
                  map := s1.map.modGrove g (fun m => { m with downAt := s.now }) }
  else s)

/-! ## The debug session (14 R414, R416) -/

/-- SESSION_LIFETIME_EXPIRY (14 R414): the session closes as if by CLOSE; a request that a halted core held runs. -/
def execSessionLifetimeExpiry (s : State) : Host.Outcome State Fault Refusal :=
  .next (match s.sec.session with
    | none => s
    | some x =>
      if x.opened + x.lifetimeS * 1000000000 ≤ s.now then (s.closeSession 2).resumeWaiting else s)

/-- The PERM bit that a reach needs (14 Table 14-12). -/
def permBit : DapReach → Nat
  | .haltMgmt => 0
  | .resumeMgmt => 0
  | .readMgmt => 1
  | .writeMgmt => 2
  | .readWindow _ => 3
  | .haltFtl => 4
  | .resumeFtl => 4
  | .readFtl => 4
  | .readLanding _ => 6
  | .readDram _ => 6

/-- The session has this reach: its PERM bit, in RECOVERY the ROM's state alone (14 Table 14-15). -/
def State.reaches (s : State) (x : Session) (r : DapReach) : Bool :=
  x.perm.getLsbD (permBit r) && (!s.inRecovery || permBit r == 1)

/-- Device ID of a function (02 Table 2-2). -/
def deviceId (c : Cntl) : Nat := if c.isPF then 0x0640 else 0x0641

/-- What a BAR0 offset reaches (02 Table 2-3). -/
inductive BarTarget where
  | registers | doorbell (queue : Nat) (head : Bool) | msixTable (vector : Nat) | msixPba | nothing
  deriving DecidableEq, Repr

/-- The BAR0 layout: 64 KiB of a PF with 1,025 queue pairs and its MSI-X table at 8000h, 16 KiB of a VF with 1,024 pairs and its table at
3000h. Doorbells stand 4 bytes apart, tail before head (CAP.DSTRD 0). -/
def barTarget (c : Cntl) (off : Nat) : BarTarget :=
  let pairs := if c.isPF then 1025 else 1024
  let table := if c.isPF then 0x8000 else 0x3000
  let pba := if c.isPF then 0xE000 else 0x3800
  let size := if c.isPF then 0x10000 else 0x4000
  if off < 0x1000 then .registers
  else if off < 0x1000 + 8 * pairs then .doorbell ((off - 0x1000) / 8) (decide ((off - 0x1000) / 4 % 2 = 1))
  else if table ≤ off ∧ off < table + 16 * vectors c then .msixTable ((off - table) / 16)
  else if pba ≤ off ∧ off < size then .msixPba
  else .nothing

/-- The value of a register read through its window, its low 32 bits. CAP[31:0] holds MQES 4,095, CQR 1, AMS 0 and TO 16 at the places
of NVMe Base 2.0 (02 Table 2-6; log entry 13); VS is 00020000h (R49). CAP[63:32] holds
NSSRS 0 (R47), MPSMIN 0 for 4 KiB (Table 2-6) and the NVM command set bit of NVMe Base 2.0. The PCIe words hold what Tables 2-1 and 2-2 state at
the places of PCIe Base 6.0 (log entry 13): Max Payload Size Supported 1,024, the link's ceiling and ASPM L1, 127 VFs, offset and stride 1. -/
def State.regValue (s : State) (r : RegId) : Dword :=
  match r with
  | .intms c => (s.host.func c.val).intMask
  | .intmc c => (s.host.func c.val).intMask
  | .cc c => (s.host.func c.val).cc
  | .csts c => s.csts (s.host.func c.val)
  | .aqa c => (s.host.func c.val).aqa
  | .asq c => (s.host.func c.val).asq.truncate 32
  | .acq c => (s.host.func c.val).acq.truncate 32
  | .devCtl c => (s.host.func c.val).devCtl
  | .sriovCtl p => BitVec.ofNat 32 (bitIf (s.host.port p).vfEnable 0)
  | .cap _ => 0x10010FFF
  | .vs _ => 0x00020000
  | .rstCause => s.dev.rstCause
  | .rstBootStatus => s.dev.bootStatus
  | .secstat => s.secstat
  | .clkCtrlStatus => s.dev.clkCtrl
  | .capHigh _ => 0x00000020
  | .pciId c => BitVec.ofNat 32 (s.fuses.vendorId.toNat + deviceId c * 65536)
  | .pciSubsystem _ => BitVec.ofNat 32 (s.fuses.subVendor.toNat + s.fuses.subsystem.toNat * 65536)
  | .devCap _ => 0x00000003
  | .linkCap c =>
    let rate := s.parI P.HST_MAX_RATE_GTS c.port.val
    let code := if rate = 64 then 6 else if rate = 32 then 5 else if rate = 16 then 4 else 3
    BitVec.ofNat 32 (code + s.portWidth c.port * 16 + 2 * 1024)
  | .sriovVfs _ => BitVec.ofNat 32 (127 + 127 * 65536)
  | .sriovOffsets _ => BitVec.ofNat 32 (1 + 1 * 65536)

/-- A DAP read: its value, in the register that the TAP shifts out. -/
def State.dapOut (s : State) (v : Dword) : State := s.tap 0x20 v

/-- A DAP read of memory whose contents the spec does not lay out: a free value (log entry 6). -/
def State.dapFree (s : State) : State :=
  let d := s.draw
  d.2.dapOut (BitVec.ofNat 32 (Config.choice d.1 1))

/-- Set what the session holds halted. -/
def State.setHalt (s : State) (f : Session → Session) : State :=
  ({ s with sec := { s.sec with session := s.sec.session.map f } }).dapOut 0

/-- What a DAP access within reach does. -/
def State.dapRun (s : State) (r : DapReach) : State :=
  match r with
  | .haltMgmt => s.setHalt (fun x => { x with haltedMgmt := true })
  | .resumeMgmt => (s.setHalt (fun x => { x with haltedMgmt := false })).resumeWaiting
  | .haltFtl => s.setHalt (fun x => { x with haltedFtl := true })
  | .resumeFtl => s.setHalt (fun x => { x with haltedFtl := false })
  | .readMgmt => s.dapFree
  | .readFtl => s.dapFree
  | .writeMgmt => s.dapOut 0
  | .readWindow q => s.dapOut (s.regValue q)
  | .readLanding n => s.dapOut ((s.land.lineAt n).1.truncate 32)
  | .readDram a => s.dapOut ((s.dram.line a).1.truncate 32)

/-- DAP (14 R411, R416): permitted while a session is open, within its reach; an access beyond it has no effect. -/
def execDap (r : DapReach) (s : State) : Host.Outcome State Fault Refusal :=
  .next (match s.sec.session with
    | none => s.tapBypass
    | some x =>
      if !s.tapOn || s.dev.fuseFail then s.tapBypass
      else if s.reaches x r then s.dapRun r
      else s.tap 0x20 0)

end Sys2Proof.Machine
end

