-- ==== Sys2Proof/Machine/Mi.lean ====
section
/-! DEFINITION. The management bus: NVMe-MI over MCTP (02 R67) and the SMBus Address Resolution Protocol. Codes and byte places are those of
NVMe-MI 1.2 (log entry 21). -/

namespace Sys2Proof.Machine

/-- Response status Success. -/
abbrev miOk : Nat := 0x00
/-- Response status Invalid Parameter. -/
abbrev miInvalid : Nat := 0x04

/-- A response of the management endpoint. -/
def State.miReply (s : State) (status len value : Nat) : State :=
  { s with bus := { s.bus with miStatus := status, miLen := len, miValue := value } }

/-- The management bus answers: the active complex runs, awake. -/
def State.miServes (s : State) : Bool := s.mgmtServes && !s.mgmtHalted && decide (s.pwr.ps ≤ 2)

/-- Answer an MI command, where the bus answers. -/
def State.mi (s : State) (run : State → State) : State := if s.miServes then run s else s

/-- The number of a list of bytes that may include bit buckets. -/
def bytesNum (l : List (Option Byte)) : Nat := fromBytes (l.map (fun b => (b.map (fun x => x.toNat)).getD 0))

/-- A structure of n bytes: what no field covers is a free value. -/
def miStruct (which n : Nat) (l : List ByteField) : Nat := bytesNum (structBytes which 0 n l)

/-- Controllers that exist on the management bus: those whose port is out of PERST# with its link up, and of VFs those of a port with VF Enable
set (the model's choice, log entry 97). -/
def State.cntlIds (s : State) : List Nat := ((List.finRange 256).filter s.host.present).map (fun (c : Cntl) => c.val)

/-- A PCIe generation from its rate in GT/s. -/
def pcieGen (rate : Nat) : Nat := if rate = 64 then 6 else if rate = 32 then 5 else if rate = 16 then 4 else if rate = 8 then 3 else if rate = 5 then 2 else 1

/-- The SMBus address in use: HST_MB_ADDR, or what ARP has assigned (R67). -/
def State.busAddr (s : State) : Nat := (s.pwr.smbusAddr.map (fun a => a.toNat)).getD (s.par P.HST_MB_ADDR)

/-- Port information: 0 and 1 the PCIe ports, 2 the management bus, which answers the Basic Management Command. -/
def State.miPort (s : State) (x : Nat) : List ByteField :=
  if x < 2 then
    let p : Port := ⟨x % 2, by omega⟩
    let l := s.host.port p
    [(0, 1, 1), (8, 1, 3), (9, 1, 2 ^ pcieGen (s.parI P.HST_MAX_RATE_GTS x) - 1), (10, 1, if l.linkUp then pcieGen l.rate else 0),
     (11, 1, s.portWidth p), (12, 1, if l.linkUp then l.width else 0), (13, 1, x)] ++ zeros [(14, 18)]
  else [(0, 1, 2), (10, 1, s.busAddr), (12, 1, 1)] ++ zeros [(13, 19)]

/-- The commands supported, each its type (1 NVMe-MI, 2 NVM Express admin) and opcode: those of R67. -/
def miSupported : List (Nat × Nat) := [(1, 0), (1, 1), (1, 2), (1, 3), (1, 4), (1, 5), (2, 0x02), (2, 0x06), (2, 0x0A)]

/-- The structures of Read NVMe-MI Data Structure: subsystem (three ports, version 1.2), port, controller list, controller, supported
commands. -/
def State.miData (s : State) (dtyp : MiType) (x : Nat) : Option (Nat × Nat) :=
  match dtyp.toNat with
  | 0 => some (32, miStruct 0x400 32 ([(0, 1, 2), (1, 1, 1), (2, 1, 2)] ++ zeros [(3, 29)]))
  | 1 => if x ≤ 2 then some (32, miStruct (0x401 + x) 32 (s.miPort x)) else none
  | 2 => some (2 + 2 * s.cntlIds.length, ctrlListNum (s.cntlIds.filter (fun c => decide (x ≤ c))))
  | 3 => if s.cntlIds.contains x then
      some (32, miStruct 0x410 32 ([(0, 1, x / 128), (8, 2, s.fuses.vendorId.toNat), (10, 2, if x % 128 = 0 then 0x0640 else 0x0641),
        (12, 2, s.fuses.subVendor.toNat), (14, 2, s.fuses.subsystem.toNat)] ++ zeros [(1, 4), (16, 16)])) else none
  | 4 => some (20, packBits ((0, 16, 9) :: miSupported.mapIdx (fun i e => (16 + 16 * i, 16, e.1 * 8 + e.2 * 256))))
  | _ => none

/-- READ_NVME_MI_DATA_STRUCTURE. -/
def execReadNvmeMiDataStructure (dtyp : MiType) (x : Nat) (s : State) : Host.Outcome State Fault Refusal :=
  .next (s.mi (fun s => match s.miData dtyp x with
    | some d => s.miReply miOk d.1 d.2
    | none => s.miReply miInvalid 0 0))

/-- Critical Warning of the subsystem: the worst of any controller. -/
def State.subsystemWarning (s : State) : Nat := s.cntlIds.foldl (fun a c => a ||| s.critWarning c) 0

/-- Percentage Used of the subsystem. -/
def State.subsystemUsed (s : State) : Nat := s.cntlIds.foldl (fun a c => max a (s.percentUsed c)) 0

/-- NSS: the drive functions and needs no reset (bits 5 and 4) unless it is FAILED, and the links of ports 0 and 1 are active (bits 3 and 2). -/
def State.miStatus (s : State) : Nat :=
  (if s.isFailed then 0 else 0x30) + bitIf s.host.port0.linkUp 3 + bitIf s.host.port1.linkUp 2

/-- The subsystem health data: status, SMART warnings inverted, composite temperature, percentage used, composite controller status, and two
reserved bytes. -/
def State.miHealth (s : State) : Nat :=
  miStruct 0x420 8 [(0, 1, s.miStatus), (1, 1, 255 - s.subsystemWarning), (2, 1, (BitVec.ofInt 8 s.pwr.temp).toNat), (3, 1, s.subsystemUsed),
    (4, 2, s.bus.changes), (6, 2, 0)]

/-- NVM_SUBSYSTEM_HEALTH_STATUS_POLL: Clear Status clears the composite controller status. -/
def execNvmSubsystemHealthStatusPoll (clear : Bool) (s : State) : Host.Outcome State Fault Refusal :=
  .next (s.mi (fun s =>
    let s1 := s.miReply miOk 8 s.miHealth
    if clear then { s1 with bus := { s1.bus with changes := 0 } } else s1))

/-- The entry of a controller: identifier, controller status, composite temperature, percentage used, available spare, critical
warning. -/
def State.miCtrl (s : State) (c : Nat) : Nat :=
  packBits [(0, 16, c), (16, 16, (s.csts (s.host.func c)).toNat), (32, 16, (s.pwr.temp + 273).toNat), (48, 8, s.percentUsed c),
    (56, 8, s.availSpare c), (64, 8, s.critWarning c)]

/-- CONTROLLER_HEALTH_STATUS_POLL: entries of 16 bytes from the controller `start` on. -/
def execControllerHealthStatusPoll (start count : Nat) (clear : Bool) (s : State) : Host.Outcome State Fault Refusal :=
  .next (s.mi (fun s =>
    let l := (s.cntlIds.filter (fun c => decide (start ≤ c))).take count
    let s1 := s.miReply miOk (16 * l.length) (packBits (l.mapIdx (fun i c => (128 * i, 128, s.miCtrl c))))
    if clear then { s1 with bus := { s1.bus with changes := 0 } } else s1))

/-- Configuration identifiers: SMBus frequency, health status change, MCTP transmission unit size. -/
def miConfigOk (id : Byte) : Bool := decide (1 ≤ id.toNat ∧ id.toNat ≤ 3)

/-- CONFIGURATION_GET. -/
def execConfigurationGet (id : Byte) (s : State) : Host.Outcome State Fault Refusal :=
  .next (s.mi (fun s =>
    if miConfigOk id then s.miReply miOk 4 (((sget s.bus.miConfig id.toNat).map (fun x => x.toNat)).getD (Config.standardField 0x430 id.toNat).toNat)
    else s.miReply miInvalid 0 0))

/-- CONFIGURATION_SET: the value is kept; Health Status Change clears the bits it names. -/
def execConfigurationSet (id : Byte) (v : Dword) (s : State) : Host.Outcome State Fault Refusal :=
  .next (s.mi (fun s =>
    if !miConfigOk id then s.miReply miInvalid 0 0
    else
      let s1 := s.miReply miOk 0 0
      if id = 2 then { s1 with bus := { s1.bus with changes := s1.bus.changes &&& (65535 - v.toNat % 65536) } }
      else { s1 with bus := { s1.bus with miConfig := sput id.toNat v s1.bus.miConfig } }))

/-- Bytes of the Vital Product Data, which Akvel writes. -/
def vpdBytes (offset n : Nat) : Nat := fromBytes ((List.range n).map (fun i => (Config.provisioned 2 (offset + i)).toNat))

/-- VPD_READ: within 4,096 bytes. -/
def execVpdRead (offset length : Nat) (s : State) : Host.Outcome State Fault Refusal :=
  .next (s.mi (fun s =>
    if offset + length ≤ 4096 then s.miReply miOk length (vpdBytes offset length) else s.miReply miInvalid 0 0))

/-- A failed admin command: no data, and its completion status. -/
def tunnelFail (st : Status) : Nat × Nat := (0, st.sct * 256 + st.sc)

/-- What a tunnelled admin command returns: its bytes, Dword 0 and then the data of Get Features, or its completion status; none for a command that is not tunnelled. -/
def State.tunnelData (s : State) (c : Cntl) (cmd : NvmeCmd) : Option (Nat × Nat) :=
  match cmd with
  | .identify cns nsid =>
    let r := s.identData c cns nsid
    if r.1 = stOk then some (r.2.length, bytesNum r.2) else some (tunnelFail r.1)
  | .getFeatures fid v nsid =>
    match s.featureValue c fid.toNat v nsid with
    | some (d, .struct n v) => some (4 + n, d.toNat + 2 ^ 32 * v)
    | some (d, _) => some (4, d.toNat)
    | none => some (tunnelFail (noFeature fid))
  | .getLogPage lid off n =>
    match logLen c lid with
    | none => some (tunnelFail stLogPage)
    | some len =>
      if len < off then some (tunnelFail stField)
      else
        let k := min n (len - off)
        if lid = 0xC0 then
          let s1 := if off < 4096 then s.snapshot (pfPath c) else s
          some (k, bytesNum (s1.mgmt.snapBytes (pfPath c) off k))
        else some (k, bytesNum (s.logBytes c lid off k))
  | _ => none

/-- What reading through the tunnel changes: as the same command from the host. -/
def State.tunnelRead (s : State) (c : Cntl) (cmd : NvmeCmd) : State :=
  match cmd with
  | .getLogPage lid off _ =>
    if lid = 0xC0 then (if off < 4096 then s.snapshot (pfPath c) else s)
    else { s with host := s.host.modFunc c.val (fun f => f.afterLog lid) }
  | _ => s

/-- MI_ADMIN_TUNNEL: Identify, Get Log Page and Get Features alone. -/
def execMiAdminTunnel (c : Cntl) (cmd : NvmeCmd) (s : State) : Host.Outcome State Fault Refusal :=
  .next (s.mi (fun s =>
    if !s.host.present c then s.miReply miInvalid 0 0
    else match s.tunnelData c cmd with
      | some d => (s.tunnelRead c cmd).miReply miOk d.1 d.2
      | none => s.miReply miInvalid 0 0))

/-- MI opcodes that have a row of their own. -/
def miCodes : List Nat := [0x00, 0x01, 0x02, 0x03, 0x04, 0x05]

/-- MI_INVALID_PARAMETER (R67): any other MI command, Reset and VPD Write included. -/
def execMiInvalidParameter (opc : Byte) (s : State) : Host.Outcome State Fault Refusal :=
  .next (if miCodes.contains opc.toNat then s else s.mi (fun s => s.miReply miInvalid 0 0))

/-- The bytes of the Basic Management Command: status flags, SMART warnings inverted, temperature, percentage used, Vendor ID. -/
def State.basicBytes (s : State) : List ByteField :=
  [(0, 1, 6), (2, 1, 255 - s.subsystemWarning), (3, 1, (BitVec.ofInt 8 s.pwr.temp).toNat), (4, 1, s.subsystemUsed), (5, 2, 0), (8, 1, 22),
   (9, 2, s.fuses.vendorId.toNat)]

/-- BASIC_MANAGEMENT_COMMAND (R67; 15 R434): answered in MGMT_LOST too. -/
def execBasicManagementCommand (offset length : Nat) (s : State) : Host.Outcome State Fault Refusal :=
  .next (if (s.miServes || (s.fwRuns && s.mgmtLost)) && decide (s.pwr.ps ≤ 2) then
    s.miReply miOk length (bytesNum (structBytes 0x440 offset length s.basicBytes))
  else s)

/-- SMBUS_ARP (R67): the protocol assigns an address, which the AON matcher then wakes on. -/
def execSmbusArp (addr : BitVec 7) (s : State) : Host.Outcome State Fault Refusal :=
  .next (s.mi (fun s => { s with pwr := { s.pwr with smbusAddr := some addr } }))

end Sys2Proof.Machine
end

