-- ==== Sys2Proof/Machine/Power.lean ====
section
/-! DEFINITION. The commands of clocks, power states and wake (13). -/

namespace Sys2Proof.Machine

/-- CLK_CTRL_WRITE (R375): SEL is written; a write that selects the PLL while PLL_LOCK is 0 has no effect. -/
def execClkCtrlWrite (v : Dword) (s : State) : Host.Outcome State Fault Refusal :=
  .next (
    if !s.fwRuns || (!s.dev.clkCtrl.getLsbD 31 && getField v 4 14 != 0) then s
    else { s with dev := { s.dev with clkCtrl := setField s.dev.clkCtrl 4 14 (getField v 4 14) } })

/-- REFCLK_LOSS (R377): holdover, a FATAL event, the controlled stop and FAILED. In PS4 the PLL is off. -/
def execRefclkLoss (s : State) : Host.Outcome State Fault Refusal :=
  .next (
    let s1 := { s with dev := { s.dev with refclk := false } }
    if s.fwRuns && s.dev.clkCtrl.getLsbD 31 then
      let s2 := { s1 with dev := { s1.dev with clkCtrl := setField s1.dev.clkCtrl 30 1 1 } }
      (s2.recordHw srcAon sevFatal 0x0101).controlledStop none
    else s1)

/-- The thermal level (R391): PS1 from the throttle temperature, PS2 from 3 degrees above it, PS0 again 3 degrees below the
entry point of the level. -/
def State.thermalLevel (s : State) (c : Int) : Nat :=
  let t : Int := (s.par P.PWR_THROTTLE_C : Int)
  if t + 3 ≤ c then 2
  else if s.pwr.thermal = 2 ∧ t < c then 2
  else if t ≤ c then 1
  else if s.pwr.thermal = 1 ∧ t - 3 < c then 1
  else 0

/-- A change of level: SMART counts and times go on (R391). -/
def PwrS.toLevel (w : PwrS) (l now : Nat) : PwrS :=
  let spent := now - w.levelSince
  { w with
    thermal := l, levelSince := now
    transitions1 := if l = 1 then w.transitions1 + 1 else w.transitions1
    transitions2 := if l = 2 then w.transitions2 + 1 else w.transitions2
    levelTime1 := if w.thermal = 1 then w.levelTime1 + spent else w.levelTime1
    levelTime2 := if w.thermal = 2 then w.levelTime2 + spent else w.levelTime2 }

/-- A temperature as a parameter word. -/
def tempWord (c : Int) : Nat := (BitVec.ofInt 32 c).toNat

/-- TEMPERATURE_SAMPLE (R391): the level, or, once the temperature has stood at 108 degrees for 1 ms, the over-temperature stop. -/
def execTemperatureSample (c : Int) (s : State) : Host.Outcome State Fault Refusal :=
  .next (
    if !s.fwRuns then s
    else
      let l := s.thermalLevel c
      let since := if c < 108 then none else some (s.pwr.hotSince.getD s.now)
      let s1 := { s with pwr := { s.pwr with temp := c, hotSince := since } }
      if (since.map (fun t => decide (t + 1000000 ≤ s.now))).getD false then (s1.recordHw srcAon sevFatal 0x0202 (tempWord c)).controlledStop none
      else if l = s.pwr.thermal then s1
      else (({ s1 with pwr := s1.pwr.toLevel l s.now }).record sevWarning 0x0201 l (tempWord c)).recheckPower)

/-- The cap of the operational state in milliwatts (Table 13-3). -/
def powerCap (ps : Nat) : Option Nat := if ps = 1 then some 55000 else if ps = 2 then some 30000 else none

/-- The rungs held after a tick: above the cap one more, above the cap + 10% all that may be held, and one fewer at or below the cap (R382; the steps
are the model's, log entry 117). -/
def govStep (cap mw gov : Nat) : Nat :=
  if cap * 11 < mw * 10 then 4 else if cap < mw then min 4 (gov + 1) else gov - 1

/-- GOVERNOR_TICK (R382): in PS1 and PS2 work is held, the lowest rungs first, while the estimate lies above the cap; DMA contexts that waited go on
once they may. -/
def execGovernorTick (mw : Nat) (s : State) : Host.Outcome State Fault Refusal :=
  .next (
    let g := match powerCap s.pwr.ps with
      | some cap => govStep cap mw s.pwr.gov
      | none => 0
    ({ s with pwr := { s.pwr with gov := g } }).feedCtxs)

/-- LPO_CALIBRATION (R378): the internal oscillator is calibrated against the PLL while awake, every CLK_LPO_CAL_S. -/
def execLpoCalibration (s : State) : Host.Outcome State Fault Refusal :=
  .next (
    if s.fwRuns && s.par P.CLK_AON_SOURCE = 1 && s.dev.clkCtrl.getLsbD 31 &&
        decide (s.pwr.calibrated + s.par P.CLK_LPO_CAL_S * 1000000000 ≤ s.now) then { s with pwr := { s.pwr with calibrated := s.now } }
    else s)

/-- Enter the non-operational state that is chosen, or go on with its entry. -/
def State.enter (s : State) (t : Nat) : State :=
  if !s.quiet then (if s.pwr.entering then s else s.beginEntry)
  else
    let s1 := if s.pwr.entering then s else s.beginEntry
    if t = 4 then s1.enterPs4 else s1.enterPs3

/-- A page's patrol is due (R390; 06 R201, R202), or a read of it still runs. -/
def State.patrolWork (s : State) : Bool :=
  !s.flash.ops.isEmpty || s.flash.dies.any (fun e => e.2.check) ||
    s.media.doms.any (fun d => !d.disturb.isEmpty || !d.cruise.isEmpty || d.cruiseStart = 0 ||
      decide (d.cruiseStart + s.par P.MED_CRUISE_PERIOD_H * 3600000000000 ≤ s.now))

/-- POWER_STATE_ENTRY (R380, R381, R383): in MGMT_LOST the power state stays as it is, in a patrol wake too (00 Table 0-6). A patrol wake returns to
PS4 once no page is due (R390). Otherwise, with every condition held the device enters PS3 or PS4; an entry whose condition has failed is
abandoned. -/
def execPowerStateEntry (s : State) : Host.Outcome State Fault Refusal :=
  .next (
    if s.mgmtLost then s
    else if s.pwr.patrol then (if s.serving && (s.pwr.entering || !s.patrolWork) then s.enter 4 else s)
    else if s.dev.phase != .running || s.isFailed || s.dev.halted || s.pwr.ps = 4 then s
    else
      let s1 := s.restLinks
      let c := s1.chooseState
      if c < 3 then s.leaveIdle
      else if s.pwr.ps = 3 && c = 3 then s
      else s1.enter c)

/-- The matcher's addresses (R387). -/
def State.matches (s : State) (a : BitVec 7) : Bool :=
  a == 0x61 || (match s.pwr.smbusAddr with
    | some x => a == x
    | none => decide (a.toNat = s.par P.HST_MB_ADDR))

/-- SMBUS_ADDRESS_MATCH (R387): in PS4 a matching byte is acknowledged and SCL held, and a full wake runs; SCL is released
when the transaction is taken, which a wake whose checks fail may not reach in 10 ms. -/
def execSmbusAddressMatch (addr : BitVec 7) (w : WakeChecks) (s : State) : Host.Outcome State Fault Refusal :=
  .next (
    if s.matches addr && (s.asleep || s.pwr.patrol) then
      let held := s.asleep && !wakeClean w
      let s1 := s.fullWake w
      { s1 with pwr := { s1.pwr with sclHeld := held, nackRest := false } }
    else s)

/-- SMBUS_MATCH_TIMEOUT (R387): SCL is released, and the rest of the transaction is answered with NACK and FFh. -/
def execSmbusMatchTimeout (s : State) : Host.Outcome State Fault Refusal :=
  .next (if s.pwr.sclHeld then { s with pwr := { s.pwr with sclHeld := false, nackRest := true } } else s)

/-- PATROL_WAKE (R390): steps 1 to 10 of the wake with credits withheld, and cruise in PS2. -/
def execPatrolWake (w : WakeChecks) (s : State) : Host.Outcome State Fault Refusal :=
  .next (
    if s.asleep && decide (s.pwr.patrolDue ≤ s.now) then
      let s1 := s.wakeUp 2 w
      { s1 with pwr := { s1.pwr with patrol := true, patrolFrom := s.now }, host := s1.host.withhold true }
    else s)

/-- PATROL_TIMEOUT (R390): after PWR_PATROL_MAX_S the patrol ends, and the device returns to PS4 through Table 13-6; in MGMT_LOST the power state
does not change (R381). -/
def execPatrolTimeout (s : State) : Host.Outcome State Fault Refusal :=
  .next (if s.pwr.patrol && s.serving && !s.mgmtLost && decide (s.pwr.patrolFrom + s.par P.PWR_PATROL_MAX_S * 1000000000 ≤ s.now) then s.enter 4
    else s)

/-- PWR_PAD_RELEASE_WRITE (R385): a bit written 1 releases its group once the group's unit runs. -/
def execPwrPadReleaseWrite (v : Dword) (s : State) : Host.Outcome State Fault Refusal :=
  .next (
    if s.fwRuns then
      { s with dev := { s.dev with
          latchFlash := s.dev.latchFlash && !v.getLsbD 0
          latchDram := s.dev.latchDram && !(v.getLsbD 1 && s.dram.ready)
          latchGpio := s.dev.latchGpio && !v.getLsbD 2 } }
    else s)

end Sys2Proof.Machine
end

