-- ==== Sys2Proof/Machine/Reset.lean ====
section
/-! DEFINITION. The commands of reset and boot (12 R349 to R363; 09 R301). -/

namespace Sys2Proof.Machine

/-- POWER_ON_RESET_ASSERT (R349, R350): everything of the power-on column is cleared; a RESET_N held back by a dump counts
as asserted from here on. -/
def execPowerOnResetAssert (s : State) : Host.Outcome State Fault Refusal :=
  .next (
    let s1 := s.clearUnits true
    { s1 with dev := { s1.dev with por := true, porSeen := true, pin := s.dev.pin || s.dev.deferredPin, deferredPin := false } })

/-- POWER_ON_RESET_RELEASE (R352, R354): with RESET_N high as well, the release sequence runs. -/
def execPowerOnResetRelease (fuseOk : Bool) (o : OptRead) (s : State) : Host.Outcome State Fault Refusal :=
  .next (
    if !s.dev.por then s
    else
      let s1 := { s with dev := { s.dev with por := false } }
      if s.dev.pin then s1 else s1.release fuseOk o)

/-- A RESET_N pulse is taken: below 100 ns never, from 1 µs always, between the two as it falls out (R349). -/
def State.pulse (s : State) (ns : Option Nat) : Bool × State :=
  match ns with
  | none => (true, s)
  | some n =>
    if n < 100 then (false, s)
    else if 1000 ≤ n then (true, s)
    else
      let (k, s1) := s.draw
      (Config.pulseTaken k, s1)

/-- RESET_N_ASSERT (R349, R351): at once, or, while a dump runs, when it ends (Table 9-9). -/
def execResetNAssert (pulseNs : Option Nat) (s : State) : Host.Outcome State Fault Refusal :=
  .next (
    let (taken, s1) := s.pulse pulseNs
    if !taken || s1.dev.pin then s1
    else if s1.plp.dumping then { s1 with dev := { s1.dev with deferredPin := true, wasDeferred := true, deferredAt := if s1.dev.deferredPin then s1.dev.deferredAt else s1.now } }
    else s1.takePin)

/-- RESET_N_RELEASE (R352, R354): the pin reset ends; with power-on reset released as well, the release sequence runs. -/
def execResetNRelease (fuseOk : Bool) (o : OptRead) (s : State) : Host.Outcome State Fault Refusal :=
  .next (
    if !s.dev.pin then s
    else
      let s1 := { s with dev := { s.dev with pin := false } }
      if s.dev.por then s1 else s1.release fuseOk o)

/-- PLL_LOCK (R363): the ROM goes through its boot order; heartwood records may fail their checks (07 R236; 16 R458; 17 R483). -/
def execPllLock (r : RomReads) (s : State) : Host.Outcome State Fault Refusal :=
  .next (if s.dev.phase == .rom then (s.findBad r.heart).romBoot r.norAnswers else s)

/-- Start-up has finished in every unit (09 R301): DRAM, every grove's map, the replay with every replayed group on media
(09 R291), every channel's training, which runs while the device is in BOOTING (07 R225), and no RMA to resume (14 R397). -/
def State.startedUp (s : State) : Bool :=
  s.dev.phase == .booting && !s.isFailed && s.dram.ready && s.dev.mapDone == 255 && s.dev.replayDone &&
    !(s.cache.groups.any (fun e => e.2.cover.isSome)) && s.sec.target != 3 &&
    !(s.flash.chans.toList.any (fun c => c.state == .training))

/-- Every controller that the host has enabled becomes ready (02 R46). -/
def HostS.ready (h : HostS) : HostS :=
  { h with funcs := smap (fun _ f => if f.en && !f.cfs then { f with rdy := true } else f) h.funcs }

/-- STARTUP_COMPLETE (09 R301): the device leaves BOOTING. -/
def execStartupComplete (s : State) : Host.Outcome State Fault Refusal :=
  .next (
    if s.startedUp then
      let s1 := { s with dev := { s.dev with phase := .running }, host := { s.host.ready with lastTlp := s.now } }
      ((s1.recheckPlp).recheckSpare).recheckPower
    else s)

end Sys2Proof.Machine
end

