-- ==== Sys2Proof/Machine/SpdmOps.lean ====
section
/-! DEFINITION. SPDM (02 R68; 14 R408 to R410): the responder, its responses, and the measurements of 14 Table 14-9. Message codes are those of
SPDM 1.2 (log entry 20). -/

namespace Sys2Proof.Machine

/-! ## Responses -/

/-- ERROR. -/
abbrev spdmError : Nat := 0x7F
/-- Error code InvalidRequest. -/
abbrev errInvalid : Nat := 0x01
/-- Error code Busy. -/
abbrev errBusy : Nat := 0x03
/-- Error code UnexpectedRequest. -/
abbrev errUnexpected : Nat := 0x04
/-- Error code UnsupportedRequest. -/
abbrev errUnsupported : Nat := 0x07
/-- Error code VersionMismatch. -/
abbrev errVersion : Nat := 0x41

/-- A response on a connection. -/
def SpdmS.reply (c : SpdmS) (code len value : Nat) : SpdmS := { c with respCode := code, respLen := len, respValue := value }

/-- An ERROR response. -/
def SpdmS.error (c : SpdmS) (code : Nat) : SpdmS := c.reply spdmError 1 code

/-- A connection. -/
def State.conn (s : State) (k : SpdmConn) : SpdmS := s.bus.spdm[k]
/-- Replace a connection. -/
def State.setConn (s : State) (k : SpdmConn) (c : SpdmS) : State := { s with bus := { s.bus with spdm := s.bus.spdm.set k c } }

/-- The responder is reachable on a connection: connection 0 is the management bus, 1 and 2 the DOE mailboxes of the two PFs. The active
complex answers, awake. -/
def State.spdmServes (s : State) (k : SpdmConn) : Bool :=
  s.mgmtServes && !s.mgmtHalted && decide (s.pwr.ps ≤ 2) &&
    (k == 0 || s.host.present (if k == 1 then Port.pf 0 else Port.pf 1))

/-- CAPABILITIES as bytes 4 on of SPDM 1.2 lay them out: certificates, CHALLENGE and signed measurements, and no flag of secure sessions or
mutual authentication (02 R68). R68 states neither CTExponent, nor CACHE_CAP, MEAS_FRESH_CAP, CHUNK_CAP and ALIAS_CERT_CAP, nor the two sizes
that 1.2 adds: those are free values. -/
def spdmCapabilities (ver : Nat) : Nat × Nat :=
  let free := fun (k : Nat) => (Config.standardField 0x310 k).toNat
  let flags := 0x16 + (free 1 &&& 0x60021)
  if ver = 0x12 then (16, packBits [(8, 8, free 0), (32, 32, flags), (64, 32, free 2), (96, 32, free 3)])
  else (8, packBits [(8, 8, free 0), (32, 32, flags)])

/-- ALGORITHMS as bytes 4 on of SPDM 1.2 lay them out: the DMTF measurement specification, SHA-384 for measurements, ECDSA P-384, SHA-384, and
no algorithm of sessions or mutual authentication (02 R68). OtherParamsSelection is a free value. -/
def spdmAlgorithms : Nat × Nat :=
  (32, packBits [(0, 16, 36), (16, 8, 1), (24, 8, (Config.standardField 0x311 0).toNat), (32, 32, 4), (64, 32, 0x80), (96, 32, 2)])

/-- Requests after NEGOTIATE_ALGORITHMS: what a request does once the connection is negotiated; before, UnexpectedRequest. -/
def State.negotiated (s : State) (k : SpdmConn) (run : SpdmS → State) : State :=
  if !s.spdmServes k then s
  else if (s.conn k).algs then run (s.conn k)
  else s.setConn k ((s.conn k).error errUnexpected)

/-! ## The identity (R408, R410) -/

/-- Slot 0 of the certificate chain is populated: not in BLANK, not in RMA. -/
def State.slotPopulated (s : State) : Bool := s.fuses.lc == 1 || s.fuses.lc == 2

/-- Bytes of a certificate written at provisioning: 0 the identity chain, 1 the LMS certificate. -/
def provisionedBytes (which from0 n : Nat) : Nat :=
  fromBytes ((List.range n).map (fun i => (Config.provisioned which (from0 + i)).toNat))

/-- Bytes of the identity chain: its length stands in its first 4 bytes; three certificates, at most 4,092 bytes, follow (R408,
14 Table 14-4). -/
def chainLength : Nat := max 1 (min 4092 (provisionedBytes 0 0 4))

/-- The LMS certificate: CHIPID, the HSS public key and an LMS signature, 8 + 60 + 1,772 bytes (R408). -/
def State.lmsCert (s : State) : Nat := s.fuses.chipid.toNat + 2 ^ 64 * provisionedBytes 1 8 1832

/-- SHA-384 of a slot header; zero if it is malformed. -/
def slotMeasure (x : ImgSlot) : Nat :=
  match x.hdr with
  | some h => if headerForm h then (Config.sha384 2 h.body.toNat).toNat else 0
  | none => 0

/-- The lowest release running in any grove. -/
def MgmtS.ftlRel (m : MgmtS) : Nat :=
  match m.groveRel.toList with
  | [] => 0
  | x :: t => t.foldl min x

/-- The open session's PERM. -/
def State.openPerm (s : State) : Nat := (s.sec.session.map (fun x => x.perm.toNat)).getD 0

/-- Measurement `i` (Table 14-9): its bytes and value. The places of the fields in the raw blocks are the model's (log entry 20). -/
def State.measurement (s : State) (i : Nat) : Nat × Nat :=
  match i with
  | 1 => (48, (Config.sha384 1 0).toNat)
  | 2 => (48, slotMeasure s.nor.slotA)
  | 3 => (48, slotMeasure s.nor.slotB)
  | 4 => (4, s.dev.bootStatus.toNat)
  | 5 => (48, s.params.hdrHash.toNat)
  | 6 => (16, packBits [(0, 8, s.fuses.lc), (8, 8, s.fuses.svn), (16, 8, bitIf (tripleBurned s.fuses.revoke0) 0), (64, 64, s.fuses.chipid.toNat)])
  | 7 => (8, packBits [(0, 8, s.debugLevel), (16, 16, s.openPerm), (32, 32, s.sec.sessionsSincePor)])
  | 8 => (16, packBits [(0, 32, s.mgmt.mgmtRel), (32, 32, s.mgmt.ftlRel), (64, 8, s.mgmt.mgmtSvn), (96, 32, s.nor.floorNow)])
  | _ => (0, 0)

/-- All measurements, each in 64 bytes. -/
def State.allMeasurements (s : State) : Nat := packBits ((List.range 8).map (fun j => (512 * j, 512, (s.measurement (j + 1)).2)))

/-- The content that GET_MEASUREMENTS returns for an index: the number of measurements, one of them, or all. -/
def State.measured (s : State) (index : Nat) : Option (Nat × Nat) :=
  if index = 0 then some (1, 8)
  else if index ≤ 8 then some (s.measurement index)
  else if index = 255 then some (512, s.allMeasurements)
  else none

/-- The ECDSA signature of the identity key over a transcript. -/
def ecdsaSign (transcript : Nat) : Nat := (Config.signature 0 0 transcript).toNat

end Sys2Proof.Machine
end

