-- ==== Sys2Proof/Machine/Spdm.lean ====
section
/-! DEFINITION. The SPDM requests (02 R68; 14 R408 to R410). -/

namespace Sys2Proof.Machine

/-- GET_VERSION: versions 1.0 to 1.2; the connection starts afresh. -/
def execGetVersion (k : SpdmConn) (s : State) : Host.Outcome State Fault Refusal :=
  .next (if s.spdmServes k then
    s.setConn k (({ SpdmS.idle with version := true }).reply 0x04 6 (packBits [(0, 16, 0x1000), (16, 16, 0x1100), (32, 16, 0x1200)]))
  else s)

/-- GET_CAPABILITIES, after GET_VERSION: its version, 1.0 to 1.2, is the connection's from here on. -/
def execGetCapabilities (r : CapabilitiesReq) (s : State) : Host.Outcome State Fault Refusal :=
  .next (if !s.spdmServes r.conn then s
    else
      let c := s.conn r.conn
      let a := spdmCapabilities r.version.toNat
      if !c.version then s.setConn r.conn (c.error errUnexpected)
      else if r.version.toNat < 0x10 || 0x12 < r.version.toNat then s.setConn r.conn (c.error errVersion)
      else s.setConn r.conn (({ c with caps := true, algs := false, ver := r.version.toNat }).reply 0x61 a.1 a.2))

/-- NEGOTIATE_ALGORITHMS, after GET_CAPABILITIES: ECDSA P-384 and SHA-384, or none. -/
def execNegotiateAlgorithms (k : SpdmConn) (algsOk : Bool) (s : State) : Host.Outcome State Fault Refusal :=
  .next (if !s.spdmServes k then s
    else
      let c := s.conn k
      if !c.caps then s.setConn k (c.error errUnexpected)
      else if algsOk then s.setConn k (({ c with algs := true }).reply 0x63 spdmAlgorithms.1 spdmAlgorithms.2)
      else s.setConn k (c.error errInvalid))

/-- GET_DIGESTS (R408, R410): the slot mask, and slot 0's digest where it is populated. -/
def execGetDigests (k : SpdmConn) (s : State) : Host.Outcome State Fault Refusal :=
  .next (s.negotiated k (fun c =>
    if s.slotPopulated then s.setConn k (c.reply 0x01 49 (1 + 2 ^ 8 * (Config.sha384 3 0).toNat))
    else s.setConn k (c.reply 0x01 1 0)))

/-- GET_CERTIFICATE (R408): a part of slot 0's chain. -/
def execGetCertificate (k : SpdmConn) (slot offset length : Nat) (s : State) : Host.Outcome State Fault Refusal :=
  .next (s.negotiated k (fun c =>
    if slot ≠ 0 ∨ !s.slotPopulated ∨ chainLength ≤ offset then s.setConn k (c.error errInvalid)
    else
      let n := min length (chainLength - offset)
      s.setConn k (c.reply 0x02 n (provisionedBytes 0 (4 + offset) n))))

/-- CHALLENGE (R408, R410): signed with the identity ECDSA key; in RMA and BLANK UnsupportedRequest. -/
def execChallenge (k : SpdmConn) (slot transcript : Nat) (s : State) : Host.Outcome State Fault Refusal :=
  .next (s.negotiated k (fun c =>
    if !s.slotPopulated then s.setConn k (c.error errUnsupported)
    else if slot ≠ 0 then s.setConn k (c.error errInvalid)
    else s.setConn k (({ c with signed := some transcript }).reply 0x03 96 (ecdsaSign transcript))))

/-- GET_MEASUREMENTS (R410): one measurement, all, or their number; signed ones are refused in RMA and BLANK. -/
def execGetMeasurements (k : SpdmConn) (index : Nat) (signed : Bool) (transcript : Nat) (s : State) : Host.Outcome State Fault Refusal :=
  .next (s.negotiated k (fun c =>
    match s.measured index with
    | none => s.setConn k (c.error errInvalid)
    | some m =>
      if !signed then s.setConn k (c.reply 0x60 m.1 m.2)
      else if !s.slotPopulated then s.setConn k (c.error errUnsupported)
      else s.setConn k (({ c with signed := some transcript }).reply 0x60 (m.1 + 96) (m.2 + 2 ^ (8 * m.1) * ecdsaSign transcript))))

/-- GET_LMS_CERT (R409): the LMS certificate of R408. -/
def execGetLmsCert (k : SpdmConn) (s : State) : Host.Outcome State Fault Refusal :=
  .next (s.negotiated k (fun c => s.setConn k (c.reply 0x7E 1840 s.lmsCert)))

/-- GET_LMS_SIG (R406, R407, R409): the HSS signature over what the newest ECDSA signature of this connection covered, once. -/
def execGetLmsSig (k : SpdmConn) (s : State) : Host.Outcome State Fault Refusal :=
  .next (s.negotiated k (fun c =>
    match c.signed with
    | none => s.setConn k (c.error errUnexpected)
    | some t =>
      if s.sec.lmsStop ≠ 0 then s.noteLmsStop.setConn k (c.error errUnsupported)
      else if s.par P.SEC_LMS_PER_HOUR ≤ s.lmsInHour.length then s.setConn k (c.error errBusy)
      else
        let g := s.signHss
        g.2.setConn k (({ c with signed := none }).reply 0x7E 3124 (Config.signature 1 g.1 t).toNat)))

/-- Request codes that have a row of their own: GET_DIGESTS, GET_CERTIFICATE, CHALLENGE, GET_VERSION, GET_MEASUREMENTS, GET_CAPABILITIES,
NEGOTIATE_ALGORITHMS and VENDOR_DEFINED_REQUEST. -/
def spdmCodes : List Nat := [0x81, 0x82, 0x83, 0x84, 0xE0, 0xE1, 0xE3, 0xFE]

/-- Any other SPDM request (02 R68) receives UnsupportedRequest. -/
def execSpdmUnsupportedRequest (k : SpdmConn) (code : Byte) (s : State) : Host.Outcome State Fault Refusal :=
  .next (if spdmCodes.contains code.toNat || !s.spdmServes k then s else s.setConn k ((s.conn k).error errUnsupported))

end Sys2Proof.Machine
end

