-- ==== Sys2Proof/Machine/Tally.lean ====
section
/-! DEFINITION. The rows of the Tally (17 R472, R475, R479). -/

namespace Sys2Proof.Machine

/-- Some unit can record: the release sequence has loaded the counter (R470). -/
def State.recordsTaken (s : State) : Bool := s.dev.phase != .inReset && s.dev.phase != .stopped

/-- TALLY_RECORD (R472): a record passes intake. SEV 7 is never written (R468). -/
def execTallyRecord (x : TallyIn) (s : State) : Host.Outcome State Fault Refusal :=
  .next (if s.recordsTaken ∧ x.sev ≤ 6 then s.submit x else s)

/-- A code has been quiet for TLY_BURST / TLY_RATE_PER_S seconds with occurrences suppressed (R475). -/
def State.quietDue (s : State) (b : Bucket) : Bool :=
  b.suppressed != 0 &&
    decide (s.par P.TLY_BURST * 1000000000 ≤ (s.now - b.lastAny) * s.par P.TLY_RATE_PER_S)

/-- TALLY_CODE_QUIET (R475): one SUPPRESSED record, and the code's count starts again. -/
def execTallyCodeQuiet (code : Nat) (s : State) : Host.Outcome State Fault Refusal :=
  .next (match sget s.tally.buckets code with
    | none => s
    | some b =>
      if s.recordsTaken && s.quietDue b then
        let clear := fun (x : Bucket) => { x with suppressed := 0, firstNs := 0, lastNs := 0, lastP0 := 0, maxSev := 0 }
        ({ s with tally := { s.tally with buckets := smod code clear s.tally.buckets } }).recordHw srcTally b.maxSev 0x1301 code
          b.suppressed ((b.lastNs - b.firstNs) / 1000000) b.lastP0.toNat
      else s)

/-- Copy one record to the persistent tier. -/
def TallyS.copyOne (t : TallyS) (persistMin : Nat) (now : Qword) (x : TRec) : TallyS :=
  let p := Tier.store tierCap t.tier { x with awaiting := false }
  let t1 := { t with tier := p.tier }
  if p.stored && x.code != 0x1304 then t1.report true persistMin now tierPersistent else t1

/-- Copy every record that awaits the tier, in TSEQ order (R479). -/
def TallyS.copyAwaiting (t : TallyS) (persistMin : Nat) (now : Qword) : TallyS :=
  let xs := t.ring.recs.filter (fun r => r.awaiting)
  let t1 := { t with ring := { t.ring with recs := t.ring.recs.map (fun (r : TRec) => { r with awaiting := false }) } }
  xs.foldl (fun a x => a.copyOne persistMin now x) t1.start

/-- TALLY_TIER_COPY (R479): the engine runs again; it reserves numbers, and copies what awaits the tier. -/
def execTallyTierCopy (s : State) : Host.Outcome State Fault Refusal :=
  .next (if s.engineRuns then
    { s with tally := s.tally.copyAwaiting (s.par P.TLY_PERSIST_MIN) s.time.ns }
  else s)

end Sys2Proof.Machine
end

