-- ==== Sys2Proof/Machine/Dispatch.lean ====
section
/-! DEFINITION. Which meaning each command has: one arm per constructor of Instr. -/

namespace Sys2Proof.Machine

def exec (i : Instr) (s : State) : Host.Outcome State Fault Refusal :=
  match i with
  | .perstAssert p => Sys2Proof.Machine.execPerstAssert p s
  | .perstDeassert p w => Sys2Proof.Machine.execPerstDeassert p w s
  | .hotReset p => Sys2Proof.Machine.execHotReset p s
  | .dataLinkDown p => Sys2Proof.Machine.execDataLinkDown p s
  | .linkUp p width rate => Sys2Proof.Machine.execLinkUp p width rate s
  | .configurationRequest c => Sys2Proof.Machine.execConfigurationRequest c s
  | .linkL1Exit p w => Sys2Proof.Machine.execLinkL1Exit p w s
  | .functionLevelReset c => Sys2Proof.Machine.execFunctionLevelReset c s
  | .ccEnSet c asqs acqs => Sys2Proof.Machine.execCcEnSet c asqs acqs s
  | .ccEnClear c => Sys2Proof.Machine.execCcEnClear c s
  | .sqTailDoorbell c sq tail entries => Sys2Proof.Machine.execSqTailDoorbell c sq tail entries s
  | .cqHeadDoorbell c cq head => Sys2Proof.Machine.execCqHeadDoorbell c cq head s
  | .tagAvailable c sq => Sys2Proof.Machine.execTagAvailable c sq s
  | .poisonedCompletion r => Sys2Proof.Machine.execPoisonedCompletion r s
  | .completionTimeout r => Sys2Proof.Machine.execCompletionTimeout r s
  | .registerWrite r v => Sys2Proof.Machine.execRegisterWrite r v s
  | .keepAliveTimeout c => Sys2Proof.Machine.execKeepAliveTimeout c s
  | .orderedCommandBegin tag => Sys2Proof.Machine.execOrderedCommandBegin tag s
  | .nextDispatch pipe d => Sys2Proof.Machine.execNextDispatch pipe d s
  | .deleteIoSq tag => Sys2Proof.Machine.execDeleteIoSq tag s
  | .createIoSq tag => Sys2Proof.Machine.execCreateIoSq tag s
  | .deleteIoCq tag => Sys2Proof.Machine.execDeleteIoCq tag s
  | .createIoCq tag => Sys2Proof.Machine.execCreateIoCq tag s
  | .getLogPage tag => Sys2Proof.Machine.execGetLogPage tag s
  | .identify tag => Sys2Proof.Machine.execIdentify tag s
  | .abort tag => Sys2Proof.Machine.execAbort tag s
  | .arbitration tag => Sys2Proof.Machine.execArbitration tag s
  | .powerManagement tag => Sys2Proof.Machine.execPowerManagement tag s
  | .temperatureThreshold tag => Sys2Proof.Machine.execTemperatureThreshold tag s
  | .volatileWriteCache tag => Sys2Proof.Machine.execVolatileWriteCache tag s
  | .numberOfQueues tag => Sys2Proof.Machine.execNumberOfQueues tag s
  | .interruptCoalescing tag => Sys2Proof.Machine.execInterruptCoalescing tag s
  | .interruptVectorConfiguration tag => Sys2Proof.Machine.execInterruptVectorConfiguration tag s
  | .writeAtomicityNormal tag => Sys2Proof.Machine.execWriteAtomicityNormal tag s
  | .asyncEventConfiguration tag => Sys2Proof.Machine.execAsyncEventConfiguration tag s
  | .timestamp tag => Sys2Proof.Machine.execTimestamp tag s
  | .keepAliveTimer tag => Sys2Proof.Machine.execKeepAliveTimer tag s
  | .hostIdentifier tag => Sys2Proof.Machine.execHostIdentifier tag s
  | .reservationNotificationMask tag => Sys2Proof.Machine.execReservationNotificationMask tag s
  | .reservationPersistence tag => Sys2Proof.Machine.execReservationPersistence tag s
  | .unsupportedFeature tag => Sys2Proof.Machine.execUnsupportedFeature tag s
  | .getFeatures tag => Sys2Proof.Machine.execGetFeatures tag s
  | .asynchronousEventRequest tag => Sys2Proof.Machine.execAsynchronousEventRequest tag s
  | .namespaceCreate tag => Sys2Proof.Machine.execNamespaceCreate tag s
  | .namespaceDelete tag => Sys2Proof.Machine.execNamespaceDelete tag s
  | .namespaceAttach tag => Sys2Proof.Machine.execNamespaceAttach tag s
  | .namespaceDetach tag => Sys2Proof.Machine.execNamespaceDetach tag s
  | .keepAlive tag => Sys2Proof.Machine.execKeepAlive tag s
  | .formatNvm tag => Sys2Proof.Machine.execFormatNvm tag s
  | .sanitizeCryptoErase tag => Sys2Proof.Machine.execSanitizeCryptoErase tag s
  | .sanitizeBlockErase tag => Sys2Proof.Machine.execSanitizeBlockErase tag s
  | .sanitizeExitFailureMode tag => Sys2Proof.Machine.execSanitizeExitFailureMode tag s
  | .sanitizeOverwrite tag => Sys2Proof.Machine.execSanitizeOverwrite tag s
  | .firmwareCommit tag => Sys2Proof.Machine.execFirmwareCommit tag s
  | .firmwareImageDownload tag => Sys2Proof.Machine.execFirmwareImageDownload tag s
  | .mapLeaseGrant tag => Sys2Proof.Machine.execMapLeaseGrant tag s
  | .mapLeaseRevoke tag => Sys2Proof.Machine.execMapLeaseRevoke tag s
  | .mapLeaseStatus tag => Sys2Proof.Machine.execMapLeaseStatus tag s
  | .standStatus tag => Sys2Proof.Machine.execStandStatus tag s
  | .invalidAdminOpcode tag => Sys2Proof.Machine.execInvalidAdminOpcode tag s
  | .flush tag => Sys2Proof.Machine.execFlush tag s
  | .write tag => Sys2Proof.Machine.execWrite tag s
  | .read tag => Sys2Proof.Machine.execRead tag s
  | .compare tag => Sys2Proof.Machine.execCompare tag s
  | .writeZeroes tag => Sys2Proof.Machine.execWriteZeroes tag s
  | .datasetManagement tag => Sys2Proof.Machine.execDatasetManagement tag s
  | .reservationRegister tag => Sys2Proof.Machine.execReservationRegister tag s
  | .reservationReport tag => Sys2Proof.Machine.execReservationReport tag s
  | .reservationAcquire tag => Sys2Proof.Machine.execReservationAcquire tag s
  | .reservationRelease tag => Sys2Proof.Machine.execReservationRelease tag s
  | .orderedWrite tag => Sys2Proof.Machine.execOrderedWrite tag s
  | .orderedRead tag => Sys2Proof.Machine.execOrderedRead tag s
  | .orderedDatasetManagement tag => Sys2Proof.Machine.execOrderedDatasetManagement tag s
  | .gatherRead tag => Sys2Proof.Machine.execGatherRead tag s
  | .invalidIoOpcode tag => Sys2Proof.Machine.execInvalidIoOpcode tag s
  | .slicedOperationStart op => Sys2Proof.Machine.execSlicedOperationStart op s
  | .slice op g => Sys2Proof.Machine.execSlice op g s
  | .dmaContextComplete ctx chain parity => Sys2Proof.Machine.execDmaContextComplete ctx chain parity s
  | .orderingToken t => Sys2Proof.Machine.execOrderingToken t s
  | .cordGrant => Sys2Proof.Machine.execCordGrant s
  | .gatherWindow tag => Sys2Proof.Machine.execGatherWindow tag s
  | .leafMiss dgn p => Sys2Proof.Machine.execLeafMiss dgn p s
  | .leaseWriteBackDone lpn => Sys2Proof.Machine.execLeaseWriteBackDone lpn s
  | .leaseFetchDone lpn reply => Sys2Proof.Machine.execLeaseFetchDone lpn reply s
  | .leaseRevokeDone p => Sys2Proof.Machine.execLeaseRevokeDone p s
  | .mapLeaseRekey f v => Sys2Proof.Machine.execMapLeaseRekey f v s
  | .journalCommitDone g => Sys2Proof.Machine.execJournalCommitDone g s
  | .checkpointSlice g => Sys2Proof.Machine.execCheckpointSlice g s
  | .mapRebuild g input => Sys2Proof.Machine.execMapRebuild g input s
  | .windrowSetPlacement st k => Sys2Proof.Machine.execWindrowSetPlacement st k s
  | .parityTransfer set => Sys2Proof.Machine.execParityTransfer set s
  | .forceWaitExpiry set => Sys2Proof.Machine.execForceWaitExpiry set s
  | .idleForceExpiry set => Sys2Proof.Machine.execIdleForceExpiry set s
  | .openIdleClose st k d => Sys2Proof.Machine.execOpenIdleClose st k d s
  | .gseqAgeLimit gseq => Sys2Proof.Machine.execGseqAgeLimit gseq s
  | .thinningSlice d st => Sys2Proof.Machine.execThinningSlice d st s
  | .victimEraseStart r n => Sys2Proof.Machine.execVictimEraseStart r n s
  | .cruiseSlice d => Sys2Proof.Machine.execCruiseSlice d s
  | .cruiseLate d => Sys2Proof.Machine.execCruiseLate d s
  | .medReadOnlyRelease f v => Sys2Proof.Machine.execMedReadOnlyRelease f v s
  | .dieQueueArrival op => Sys2Proof.Machine.execDieQueueArrival op s
  | .dieStatusPoll ch die r => Sys2Proof.Machine.execDieStatusPoll ch die r s
  | .readyBusyTimeout ch die resetReady => Sys2Proof.Machine.execReadyBusyTimeout ch die resetReady s
  | .busArbitrationPoint ch dqsLoss => Sys2Proof.Machine.execBusArbitrationPoint ch dqsLoss s
  | .hardDecodeDone op slot r => Sys2Proof.Machine.execHardDecodeDone op slot r s
  | .softDecodeDone op slot ok => Sys2Proof.Machine.execSoftDecodeDone op slot ok s
  | .programDone op ok => Sys2Proof.Machine.execProgramDone op ok s
  | .eraseDone op ok => Sys2Proof.Machine.execEraseDone op ok s
  | .channelTraining ch answers readings => Sys2Proof.Machine.execChannelTraining ch answers readings s
  | .driftTracking ch die o => Sys2Proof.Machine.execDriftTracking ch die o s
  | .liveRetrainSlice ch die o => Sys2Proof.Machine.execLiveRetrainSlice ch die o s
  | .padMonitorCheck ch stuck => Sys2Proof.Machine.execPadMonitorCheck ch stuck s
  | .rebuildSlice g => Sys2Proof.Machine.execRebuildSlice g s
  | .chnDegradedClear f v => Sys2Proof.Machine.execChnDegradedClear f v s
  | .capacitorTestStart cause huLow => Sys2Proof.Machine.execCapacitorTestStart cause huLow s
  | .plpTestNow f v huLow => Sys2Proof.Machine.execPlpTestNow f v huLow s
  | .huLowRise tMs => Sys2Proof.Machine.execHuLowRise tMs s
  | .capacitorTestTimeout => Sys2Proof.Machine.execCapacitorTestTimeout s
  | .pwrFailNFall => Sys2Proof.Machine.execPwrFailNFall s
  | .powerLossDump => Sys2Proof.Machine.execPowerLossDump s
  | .deferredResetTimeout => Sys2Proof.Machine.execDeferredResetTimeout s
  | .writeCacheReplay d => Sys2Proof.Machine.execWriteCacheReplay d s
  | .standCtlCreate f d => Sys2Proof.Machine.execStandCtlCreate f d s
  | .standCtlModify f d => Sys2Proof.Machine.execStandCtlModify f d s
  | .standCtlDelete f d => Sys2Proof.Machine.execStandCtlDelete f d s
  | .standDeleteRun st => Sys2Proof.Machine.execStandDeleteRun st s
  | .standCtlAttach f c st => Sys2Proof.Machine.execStandCtlAttach f c st s
  | .standCtlDetach f c st => Sys2Proof.Machine.execStandCtlDetach f c st s
  | .standCtlQuery f d => Sys2Proof.Machine.execStandCtlQuery f d s
  | .standPreparationDone st => Sys2Proof.Machine.execStandPreparationDone st s
  | .standRelocationDone st => Sys2Proof.Machine.execStandRelocationDone st s
  | .dramTraining failing => Sys2Proof.Machine.execDramTraining failing s
  | .dramZeroFillSlice => Sys2Proof.Machine.execDramZeroFillSlice s
  | .dramScrub line err => Sys2Proof.Machine.execDramScrub line err s
  | .dramAlert ch k again => Sys2Proof.Machine.execDramAlert ch k again s
  | .dramTemperatureChange ch temp => Sys2Proof.Machine.execDramTemperatureChange ch temp s
  | .drmRetrainNow f v => Sys2Proof.Machine.execDrmRetrainNow f v s
  | .dramLiveRetrainSlice ch o => Sys2Proof.Machine.execDramLiveRetrainSlice ch o s
  | .dramRefresh ch bank => Sys2Proof.Machine.execDramRefresh ch bank s
  | .dramActivationLimit ch bank => Sys2Proof.Machine.execDramActivationLimit ch bank s
  | .dramTokenRequest src => Sys2Proof.Machine.execDramTokenRequest src s
  | .powerOnResetAssert => Sys2Proof.Machine.execPowerOnResetAssert s
  | .powerOnResetRelease fuseOk o => Sys2Proof.Machine.execPowerOnResetRelease fuseOk o s
  | .resetNAssert pulseNs => Sys2Proof.Machine.execResetNAssert pulseNs s
  | .resetNRelease fuseOk o => Sys2Proof.Machine.execResetNRelease fuseOk o s
  | .pllLock r => Sys2Proof.Machine.execPllLock r s
  | .startupComplete => Sys2Proof.Machine.execStartupComplete s
  | .clkCtrlWrite v => Sys2Proof.Machine.execClkCtrlWrite v s
  | .refclkLoss => Sys2Proof.Machine.execRefclkLoss s
  | .temperatureSample c => Sys2Proof.Machine.execTemperatureSample c s
  | .governorTick milliwatts => Sys2Proof.Machine.execGovernorTick milliwatts s
  | .lpoCalibration => Sys2Proof.Machine.execLpoCalibration s
  | .powerStateEntry => Sys2Proof.Machine.execPowerStateEntry s
  | .smbusAddressMatch addr w => Sys2Proof.Machine.execSmbusAddressMatch addr w s
  | .smbusMatchTimeout => Sys2Proof.Machine.execSmbusMatchTimeout s
  | .patrolWake w => Sys2Proof.Machine.execPatrolWake w s
  | .patrolTimeout => Sys2Proof.Machine.execPatrolTimeout s
  | .pwrPadReleaseWrite v => Sys2Proof.Machine.execPwrPadReleaseWrite v s
  | .secLifecycleAdvance f v => Sys2Proof.Machine.execSecLifecycleAdvance f v s
  | .secSvnCommit f v => Sys2Proof.Machine.execSecSvnCommit f v s
  | .idcode => Sys2Proof.Machine.execIdcode s
  | .samplePreload => Sys2Proof.Machine.execSamplePreload s
  | .extest => Sys2Proof.Machine.execExtest s
  | .clamp => Sys2Proof.Machine.execClamp s
  | .highz => Sys2Proof.Machine.execHighz s
  | .secstat => Sys2Proof.Machine.execSecstat s
  | .dap r => Sys2Proof.Machine.execDap r s
  | .provision => Sys2Proof.Machine.execProvision s
  | .bypass code => Sys2Proof.Machine.execBypass code s
  | .debugTokenChallenge f => Sys2Proof.Machine.execDebugTokenChallenge f s
  | .debugTokenOpen f t => Sys2Proof.Machine.execDebugTokenOpen f t s
  | .debugTokenClose f => Sys2Proof.Machine.execDebugTokenClose f s
  | .sessionLifetimeExpiry => Sys2Proof.Machine.execSessionLifetimeExpiry s
  | .nonceExpiry => Sys2Proof.Machine.execNonceExpiry s
  | .getVersion k => Sys2Proof.Machine.execGetVersion k s
  | .getCapabilities r => Sys2Proof.Machine.execGetCapabilities r s
  | .negotiateAlgorithms k algsOk => Sys2Proof.Machine.execNegotiateAlgorithms k algsOk s
  | .getDigests k => Sys2Proof.Machine.execGetDigests k s
  | .getCertificate k slot offset length => Sys2Proof.Machine.execGetCertificate k slot offset length s
  | .challenge k slot transcript => Sys2Proof.Machine.execChallenge k slot transcript s
  | .getMeasurements k index signed transcript => Sys2Proof.Machine.execGetMeasurements k index signed transcript s
  | .getLmsCert k => Sys2Proof.Machine.execGetLmsCert k s
  | .getLmsSig k => Sys2Proof.Machine.execGetLmsSig k s
  | .spdmUnsupportedRequest k code => Sys2Proof.Machine.execSpdmUnsupportedRequest k code s
  | .readNvmeMiDataStructure dtyp portOrCtrl => Sys2Proof.Machine.execReadNvmeMiDataStructure dtyp portOrCtrl s
  | .nvmSubsystemHealthStatusPoll clear => Sys2Proof.Machine.execNvmSubsystemHealthStatusPoll clear s
  | .controllerHealthStatusPoll start count clear => Sys2Proof.Machine.execControllerHealthStatusPoll start count clear s
  | .configurationGet id => Sys2Proof.Machine.execConfigurationGet id s
  | .configurationSet id v => Sys2Proof.Machine.execConfigurationSet id v s
  | .vpdRead offset length => Sys2Proof.Machine.execVpdRead offset length s
  | .miAdminTunnel c cmd => Sys2Proof.Machine.execMiAdminTunnel c cmd s
  | .miInvalidParameter opc => Sys2Proof.Machine.execMiInvalidParameter opc s
  | .basicManagementCommand offset length => Sys2Proof.Machine.execBasicManagementCommand offset length s
  | .smbusArp addr => Sys2Proof.Machine.execSmbusArp addr s
  | .mgmtCheckpoint => Sys2Proof.Machine.execMgmtCheckpoint s
  | .watchdogExpiry => Sys2Proof.Machine.execWatchdogExpiry s
  | .mgmtFault k => Sys2Proof.Machine.execMgmtFault k s
  | .mgtHandoverNow f v => Sys2Proof.Machine.execMgtHandoverNow f v s
  | .handoverTimeout result => Sys2Proof.Machine.execHandoverTimeout result s
  | .standbySelfTest failBits => Sys2Proof.Machine.execStandbySelfTest failBits s
  | .groveRestart g => Sys2Proof.Machine.execGroveRestart g s
  | .groveRestartTimeout g => Sys2Proof.Machine.execGroveRestartTimeout g s
  | .readStatus => Sys2Proof.Machine.execReadStatus s
  | .readResp => Sys2Proof.Machine.execReadResp s
  | .readAlert => Sys2Proof.Machine.execReadAlert s
  | .paramRead f id inst => Sys2Proof.Machine.execParamRead f id inst s
  | .statusWindowRead f id inst => Sys2Proof.Machine.execStatusWindowRead f id inst s
  | .reconfig f r => Sys2Proof.Machine.execReconfig f r s
  | .imageBegin f target length => Sys2Proof.Machine.execImageBegin f target length s
  | .imageChunk f offset count hdr norFails => Sys2Proof.Machine.execImageChunk f offset count hdr norFails s
  | .norSectorWritten ok => Sys2Proof.Machine.execNorSectorWritten ok s
  | .imageEnd f norFails digestOk => Sys2Proof.Machine.execImageEnd f norFails digestOk s
  | .commitImage f mgmtNow ftlNow => Sys2Proof.Machine.execCommitImage f mgmtNow ftlNow s
  | .commitConfiguration f mgmtNow ftlNow => Sys2Proof.Machine.execCommitConfiguration f mgmtNow ftlNow s
  | .raiseReleaseFloor f => Sys2Proof.Machine.execRaiseReleaseFloor f s
  | .restoreSpare f norFails => Sys2Proof.Machine.execRestoreSpare f norFails s
  | .updateTimeout => Sys2Proof.Machine.execUpdateTimeout s
  | .tallyRead f tier count start => Sys2Proof.Machine.execTallyRead f tier count start s
  | .healthRead f page => Sys2Proof.Machine.execHealthRead f page s
  | .rawDiag f p offset length => Sys2Proof.Machine.execRawDiag f p offset length s
  | .recoveryStatus f => Sys2Proof.Machine.execRecoveryStatus f s
  | .unknownType f typ => Sys2Proof.Machine.execUnknownType f typ s
  | .tallyRecord x => Sys2Proof.Machine.execTallyRecord x s
  | .tallyCodeQuiet code => Sys2Proof.Machine.execTallyCodeQuiet code s
  | .tallyTierCopy => Sys2Proof.Machine.execTallyTierCopy s
  | .quiescentPointApply unit => Sys2Proof.Machine.execQuiescentPointApply unit s
  | .drainLate id inst => Sys2Proof.Machine.execDrainLate id inst s
  | .pwrFailNRise => Sys2Proof.Machine.execPwrFailNRise s
  | .writeFrame fault => Sys2Proof.Machine.execWriteFrame fault s
  | .takeover => Sys2Proof.Machine.execTakeover s
  | .groveRestartComplete g => Sys2Proof.Machine.execGroveRestartComplete g s
  | .unsupportedRequestReceived c malformed => Sys2Proof.Machine.execUnsupportedRequestReceived c malformed s
  | .interruptAggregationTime c cq => Sys2Proof.Machine.execInterruptAggregationTime c cq s

end Sys2Proof.Machine
end

