-- ==== Sys2Proof/Safety.lean ====
section
/-! DEFINITION. What the statements about this machine are stated in: the units of State and which of them a command may reach, the
lifecycle's order, and the canonical form of the addressed memories. -/

namespace Sys2Proof.Machine

/-! ## Units and reach -/

/-- The units of State: one for each of its fields. -/
inductive Part where
  | pending | time | dev | fuses | params | host | nvm | land | map | media | flash | cache | plp | dram | pwr | sec | mgmt | naile
  | nor | tally | bus | free
  deriving DecidableEq, Repr

/-- A unit holds the same in two states. -/
def Part.same (p : Part) (t s : State) : Prop :=
  match p with
  | .pending => t.pending = s.pending
  | .time => t.time = s.time
  | .dev => t.dev = s.dev
  | .fuses => t.fuses = s.fuses
  | .params => t.params = s.params
  | .host => t.host = s.host
  | .nvm => t.nvm = s.nvm
  | .land => t.land = s.land
  | .map => t.map = s.map
  | .media => t.media = s.media
  | .flash => t.flash = s.flash
  | .cache => t.cache = s.cache
  | .plp => t.plp = s.plp
  | .dram => t.dram = s.dram
  | .pwr => t.pwr = s.pwr
  | .sec => t.sec = s.sec
  | .mgmt => t.mgmt = s.mgmt
  | .naile => t.naile = s.naile
  | .nor => t.nor = s.nor
  | .tally => t.tally = s.tally
  | .bus => t.bus = s.bus
  | .free => t.free = s.free

/-- The units a command may change; every other unit is the same after it. The queue and the time are in no command's reach but those
of a reset: time passes at a tick (log entry 4), and a dump that ends takes the device through a reset. The unit `free` is the model's own
count of free values (log entry 5). -/
def reach (c : Instr) : List Part :=
  match c with
  | .perstAssert .. | .hotReset .. | .dataLinkDown .. | .functionLevelReset .. =>
    [.host, .nvm, .land, .map, .flash, .cache, .pwr, .tally]
  | .perstDeassert .. | .linkL1Exit .. | .smbusAddressMatch .. | .patrolWake .. =>
    [.dev, .host, .nvm, .land, .map, .media, .flash, .cache, .plp, .dram, .pwr, .sec, .mgmt, .naile, .nor, .tally]
  | .linkUp .. => [.host, .nvm, .pwr, .tally]
  | .configurationRequest .. | .unsupportedRequestReceived .. | .sqTailDoorbell .. => [.host, .nvm, .pwr]
  | .ccEnSet .. => [.host, .nvm, .pwr, .bus]
  | .ccEnClear .. => [.host, .nvm, .land, .map, .flash, .cache, .pwr, .tally, .bus]
  | .keepAliveTimeout .. | .interruptAggregationTime .. => [.host]
  | .registerWrite .. => [.host, .nvm, .land, .map, .cache, .pwr, .tally]
  | .cqHeadDoorbell .. | .arbitration .. | .powerManagement .. | .temperatureThreshold .. | .volatileWriteCache ..
  | .numberOfQueues .. | .interruptCoalescing .. | .interruptVectorConfiguration .. | .writeAtomicityNormal ..
  | .asyncEventConfiguration .. | .timestamp .. | .keepAliveTimer .. | .hostIdentifier ..
  | .reservationNotificationMask .. | .unsupportedFeature .. => [.host, .nvm, .land, .pwr, .tally]
  | .tagAvailable .. | .orderedCommandBegin .. | .nextDispatch .. => [.host, .nvm]
  | .createIoCq .. | .createIoSq .. | .deleteIoCq .. | .identify .. | .asynchronousEventRequest .. | .keepAlive ..
  | .getFeatures .. | .namespaceDelete .. | .formatNvm .. | .sanitizeCryptoErase .. | .sanitizeBlockErase ..
  | .sanitizeExitFailureMode .. | .sanitizeOverwrite .. | .firmwareCommit .. | .firmwareImageDownload ..
  | .invalidAdminOpcode .. | .mapLeaseGrant .. | .mapLeaseRevoke .. | .mapLeaseStatus .. | .standStatus ..
  | .reservationReport .. | .gatherRead .. | .invalidIoOpcode .. => [.host, .nvm, .land, .tally]
  | .deleteIoSq .. | .abort .. | .cordGrant .. | .write .. | .orderedWrite .. => [.host, .nvm, .land, .cache, .tally]
  | .getLogPage .. | .reservationRegister .. | .reservationRelease .. => [.host, .nvm, .land, .mgmt, .tally]
  | .reservationPersistence .. => [.host, .nvm, .land, .pwr, .mgmt, .tally]
  | .namespaceCreate .. => [.host, .nvm, .land, .map, .media, .mgmt, .tally]
  | .namespaceAttach .. | .namespaceDetach .. => [.host, .nvm, .land, .mgmt, .tally, .bus]
  | .windrowSetPlacement .. => [.land, .media, .flash, .cache, .tally]
  | .parityTransfer .. | .openIdleClose .. => [.land, .map, .media, .flash, .cache, .tally]
  | .forceWaitExpiry .. | .idleForceExpiry .. | .gseqAgeLimit .. => [.land, .media, .flash, .cache]
  | .thinningSlice .. => [.nvm, .land, .map, .media, .flash, .tally]
  | .victimEraseStart .. | .dieStatusPoll .. | .readyBusyTimeout .. | .busArbitrationPoint .. | .hardDecodeDone ..
  | .eraseDone .. | .driftTracking .. | .padMonitorCheck .. =>
    [.host, .nvm, .land, .map, .media, .flash, .cache, .plp, .mgmt, .naile, .tally, .bus, .free]
  | .cruiseSlice .. => [.land, .media, .flash]
  | .cruiseLate .. => [.media, .tally]
  | .dieQueueArrival .. => [.host, .nvm, .land, .map, .media, .flash, .cache, .naile, .tally]
  | .softDecodeDone .. => [.host, .nvm, .land, .map, .media, .flash, .cache, .tally, .free]
  | .programDone .. => [.nvm, .land, .map, .media, .flash, .cache, .tally]
  | .channelTraining .. =>
    [.dev, .params, .host, .nvm, .land, .map, .media, .flash, .cache, .plp, .mgmt, .naile, .tally, .bus, .free]
  | .liveRetrainSlice .. => [.dev, .host, .nvm, .land, .map, .media, .flash, .cache, .tally]
  | .rebuildSlice .. => [.land, .map, .media, .flash, .tally]
  | .dramTraining .. => [.dev, .dram, .mgmt, .naile, .nor, .tally]
  | .dramZeroFillSlice .. | .dramTemperatureChange .. | .dramRefresh .. | .dramActivationLimit ..
  | .dramTokenRequest .. => [.dram]
  | .dramScrub .. | .dmaContextComplete .. =>
    [.dev, .host, .nvm, .land, .map, .media, .flash, .cache, .plp, .dram, .tally, .free]
  | .dramAlert .. => [.dram, .tally]
  | .drmRetrainNow .. => [.params, .host, .nvm, .dram, .pwr, .mgmt, .naile, .nor]
  | .dramLiveRetrainSlice .. | .refclkLoss .. => [.dev, .host, .land, .plp, .dram, .mgmt, .naile, .nor, .tally]
  | .orderingToken .. => [.host, .nvm, .land, .map, .media, .flash, .cache, .plp, .dram, .tally]
  | .gatherWindow .. | .leaseWriteBackDone .. | .leaseRevokeDone .. => [.host, .nvm, .land, .map, .flash, .tally]
  | .poisonedCompletion .. | .completionTimeout .. => [.host, .nvm, .land, .map, .flash, .cache, .tally]
  | .flush .. => [.host, .nvm, .land, .media, .flash, .cache, .tally]
  | .read .. | .compare .. | .orderedRead .. | .leaseFetchDone .. =>
    [.host, .nvm, .land, .map, .media, .flash, .cache, .tally]
  | .writeZeroes .. | .datasetManagement .. | .orderedDatasetManagement .. => [.host, .nvm, .land, .map, .tally]
  | .reservationAcquire .. => [.host, .nvm, .land, .cache, .mgmt, .tally]
  | .slicedOperationStart .. | .slice .. =>
    [.host, .nvm, .land, .map, .media, .flash, .cache, .plp, .mgmt, .tally, .bus]
  | .leafMiss .. => [.dev, .host, .nvm, .land, .map, .flash, .tally, .free]
  | .mapLeaseRekey .. => [.dev, .params, .host, .nvm, .land, .map, .flash, .pwr, .mgmt, .naile, .nor, .tally]
  | .journalCommitDone .. => [.dev, .host, .nvm, .land, .map, .media, .flash, .cache, .plp, .mgmt, .tally, .bus, .free]
  | .checkpointSlice .. => [.nvm, .land, .map, .media, .flash]
  | .mapRebuild .. => [.dev, .host, .nvm, .land, .map, .media, .flash, .cache, .plp, .mgmt, .naile, .nor, .tally, .bus]
  | .medReadOnlyRelease .. => [.params, .host, .nvm, .media, .pwr, .mgmt, .naile, .nor, .tally]
  | .chnDegradedClear .. => [.params, .host, .nvm, .flash, .pwr, .mgmt, .naile, .nor]
  | .capacitorTestStart .. | .huLowRise .. | .capacitorTestTimeout .. =>
    [.host, .nvm, .land, .media, .flash, .cache, .plp, .mgmt, .naile, .tally, .bus]
  | .plpTestNow .. =>
    [.params, .host, .nvm, .land, .media, .flash, .cache, .plp, .pwr, .mgmt, .naile, .nor, .tally, .bus]
  | .pwrFailNFall .. => [.host, .nvm, .flash, .plp, .pwr]
  | .pwrFailNRise .. => [.land, .media, .flash, .plp]
  | .powerLossDump .. | .deferredResetTimeout .. | .powerOnResetAssert .. =>
    [.time, .dev, .params, .host, .nvm, .land, .map, .media, .flash, .cache, .plp, .dram, .pwr, .sec, .mgmt, .naile, .nor, .tally, .bus]
  | .writeCacheReplay .. => [.dev, .host, .nvm, .land, .media, .flash, .cache, .plp, .mgmt, .naile, .tally, .bus]
  | .reconfig .. =>
    [.dev, .fuses, .params, .host, .nvm, .land, .map, .media, .flash, .cache, .plp, .dram, .pwr, .sec, .mgmt, .naile, .nor, .tally, .bus]
  | .paramRead .. | .statusWindowRead .. | .tallyRead .. | .recoveryStatus .. | .unknownType .. | .imageBegin ..
  | .imageChunk .. | .commitConfiguration .. | .restoreSpare .. | .standCtlQuery .. =>
    [.host, .nvm, .pwr, .naile, .nor]
  | .quiescentPointApply .. => [.params, .host, .nvm, .pwr]
  | .drainLate .. | .standbySelfTest .. => [.mgmt, .naile, .tally]
  | .mgtHandoverNow .. => [.params, .host, .nvm, .pwr, .mgmt, .naile, .nor]
  | .secLifecycleAdvance .. => [.fuses, .params, .host, .nvm, .pwr, .sec, .mgmt, .naile, .nor, .tally]
  | .secSvnCommit .. => [.fuses, .params, .host, .nvm, .pwr, .mgmt, .naile, .nor, .tally]
  | .idcode .. | .clamp .. | .highz .. | .secstat .. | .bypass .. | .nonceExpiry .. => [.sec]
  | .samplePreload .. | .extest .. => [.sec, .free]
  | .provision .. => [.fuses, .sec]
  | .debugTokenChallenge .. => [.host, .nvm, .pwr, .sec, .mgmt, .naile, .nor, .tally, .free]
  | .debugTokenOpen .. => [.dev, .fuses, .host, .nvm, .land, .map, .flash, .pwr, .sec, .mgmt, .naile, .nor, .tally]
  | .debugTokenClose .. => [.host, .nvm, .pwr, .sec, .mgmt, .naile, .nor, .tally]
  | .readStatus .. | .readResp .. | .readAlert .. | .writeFrame .. => [.naile]
  | .healthRead .. | .commitImage .. | .standCtlDelete .. | .standCtlAttach .. =>
    [.host, .nvm, .pwr, .mgmt, .naile, .nor]
  | .rawDiag .. => [.host, .nvm, .flash, .pwr, .naile, .nor]
  | .norSectorWritten .. => [.mgmt, .naile, .nor, .tally]
  | .imageEnd .. | .raiseReleaseFloor .. => [.host, .nvm, .pwr, .mgmt, .naile, .nor, .tally]
  | .updateTimeout .. => [.nor]
  | .standCtlCreate .. | .standCtlModify .. =>
    [.host, .nvm, .land, .map, .media, .flash, .cache, .plp, .pwr, .mgmt, .naile, .nor, .tally]
  | .standPreparationDone .. | .standRelocationDone .. => [.nvm, .media, .mgmt, .tally]
  | .standDeleteRun .. =>
    [.dev, .fuses, .host, .nvm, .land, .map, .media, .flash, .cache, .plp, .sec, .mgmt, .naile, .tally, .bus]
  | .standCtlDetach .. => [.host, .nvm, .land, .pwr, .mgmt, .naile, .nor, .tally, .bus]
  | .mgmtCheckpoint .. => [.mgmt]
  | .watchdogExpiry .. | .mgmtFault .. | .takeover .. | .handoverTimeout .. | .sessionLifetimeExpiry .. | .dap .. =>
    [.dev, .fuses, .params, .host, .nvm, .land, .map, .media, .flash, .cache, .plp, .dram, .pwr, .sec, .mgmt, .naile, .nor, .tally, .bus, .free]
  | .groveRestart .. => [.land, .map, .media, .tally]
  | .groveRestartComplete .. => [.params, .map, .mgmt, .nor]
  | .groveRestartTimeout .. => [.dev, .map, .mgmt, .naile, .nor, .tally]
  | .readNvmeMiDataStructure .. | .nvmSubsystemHealthStatusPoll .. | .controllerHealthStatusPoll ..
  | .configurationGet .. | .configurationSet .. | .vpdRead .. | .miInvalidParameter .. | .basicManagementCommand ..
  | .getVersion .. | .getCapabilities .. | .negotiateAlgorithms .. | .getDigests .. | .getCertificate ..
  | .challenge .. | .getMeasurements .. | .getLmsCert .. | .spdmUnsupportedRequest .. => [.bus]
  | .miAdminTunnel .. => [.host, .mgmt, .bus]
  | .smbusArp .. | .lpoCalibration .. | .smbusMatchTimeout .. => [.pwr]
  | .clkCtrlWrite .. | .pwrPadReleaseWrite .. | .powerOnResetRelease .. | .resetNRelease .. => [.dev]
  | .temperatureSample .. => [.dev, .host, .nvm, .land, .plp, .dram, .pwr, .mgmt, .naile, .nor, .tally]
  | .governorTick .. => [.host, .land, .pwr]
  | .powerStateEntry .. | .patrolTimeout .. =>
    [.dev, .host, .nvm, .land, .media, .flash, .cache, .dram, .pwr, .sec, .mgmt, .naile, .nor, .tally, .bus]
  | .resetNAssert .. =>
    [.time, .dev, .params, .host, .nvm, .land, .map, .media, .flash, .cache, .plp, .dram, .pwr, .sec, .mgmt, .naile, .nor, .tally, .bus, .free]
  | .pllLock .. =>
    [.dev, .fuses, .params, .host, .nvm, .land, .map, .media, .flash, .plp, .sec, .mgmt, .naile, .nor, .tally]
  | .startupComplete .. => [.dev, .host, .nvm, .land, .media, .flash, .cache, .plp, .pwr, .mgmt, .naile, .tally, .bus]
  | .getLmsSig .. => [.sec, .mgmt, .naile, .tally, .bus]
  | .tallyRecord .. | .tallyCodeQuiet .. => [.dev, .mgmt, .naile, .nor, .tally]
  | .tallyTierCopy .. => [.tally]

/-! ## Commands that can run -/

/-- An admin command that has been accepted, with the firmware serving admin commands (03 R76; Table 3-4). -/
abbrev State.adminReady (s : State) (tag : Nat) (e : TagE) : Prop :=
  sget s.host.tags tag = some e ∧ e.sqid = 0 ∧ e.phase = .accepted ∧ s.mgmtLost = false ∧ s.adminServes = true

/-- An accepted admin command that moves data: its data pointer is legal, and it holds its cords once it has asked for them (04 R109, R114). -/
abbrev State.adminData (s : State) (tag : Nat) (e : TagE) : Prop :=
  s.adminReady tag e ∧ (adminXfer e.cmd).isNone = false ∧ adminPtr e = none ∧ (s.adminCords tag e).land.tagWaits tag = false

/-- A Set Features of one feature, not saved, that has been accepted. -/
abbrev State.setReady (s : State) (tag : Nat) (e : TagE) (fid : Byte) (v nsid : Dword) (data : BitVec 128) : Prop :=
  s.adminReady tag e ∧ e.cmd = .setFeatures fid false v nsid data

/-- An I/O command that dispatch has begun, with the device serving I/O. -/
abbrev State.ioReady (s : State) (tag : Nat) (e : TagE) : Prop :=
  sget s.host.tags tag = some e ∧ e.sqid ≠ 0 ∧ e.phase = .dispatched ∧ s.ioServed = true

/-- A command may act on a namespace: it is attached and not being detached, no long operation fails the command (03 R96), and no
reservation conflicts. -/
abbrev State.nsReady (s : State) (e : TagE) (nsid : Dword) (x : NsS) (a : Access) : Prop :=
  s.nvm.ns nsid.toNat = some x ∧ x.attached.contains e.cntl.val = true ∧ x.detaching.contains e.cntl.val = false ∧
  s.nvm.longStatus x e.aseq = none ∧ (a != .free && x.rsvBlocks (s.host.func e.cntl.val).hostId (a == .writes)) = false

/-- A Naile request that the port takes and the responder executes: not BUSY, no repetition, nothing holds it, and its transaction is
served (16 R445, R449). -/
abbrev State.takes (s : State) (f : Frame) (tx : Tx) : Prop :=
  (s.responder == .none) = false ∧ s.naile.busy = false ∧ s.naile.isRetry f = false ∧ s.acceptFrame.naileWaits = false ∧
  s.acceptFrame.served tx = true ∧ f.rsvd = false

/-- An action parameter's request that the port takes and RECONFIG's checks let through, with a value that asks for something (18 R496,
R498). -/
abbrev State.takesAction (s : State) (f : Frame) (id v : Nat) : Prop :=
  s.takes f .reconfig ∧ s.acceptFrame.refusedId [actionRec id v] = none ∧ v ≠ 0

/-! ## Invariants -/

/-- The memories are in their one canonical form: the listed lines of Landing and of DRAM have strictly rising numbers, and no listed line
of DRAM equals what an unlisted one reads as. A listed line of Landing has its valid bit set, an unlisted one has it clear (04 R108). -/
abbrev Memory.wf (s : State) : Prop :=
  sorted s.land.lines ∧ sorted s.dram.lines ∧ ∀ e ∈ s.dram.lines, e.2 ≠ (0, false)

/-- The lifecycle fuses and the transition in progress agree (14 R395 to R397): a triple has three fuses, a seal starts at PROVISIONED or
later and RMA at SEALED or later. -/
abbrev State.lifecycleOk (s : State) : Prop :=
  s.fuses.provisioned ≤ 3 ∧ s.fuses.sealedF ≤ 3 ∧ s.fuses.rma ≤ 3 ∧ (s.sec.target = 2 → 1 ≤ s.fuses.lc) ∧
  (s.sec.target = 3 → 2 ≤ s.fuses.lc)

/-- Fuses after some were burned: a burned fuse stays burned, and only the lifecycle triples, the security version, the two digest arrays and
REVOKE0 are burned in the field. -/
abbrev FuseS.burnsTo (a b : FuseS) : Prop :=
  a.provisioned ≤ b.provisioned ∧ a.sealedF ≤ b.sealedF ∧ a.rma ≤ b.rma ∧ a.svn ≤ b.svn ∧ a.revoke0 ≤ b.revoke0 ∧
  a.cfgDigest ||| b.cfgDigest = b.cfgDigest ∧ a.dbgDigest ||| b.dbgDigest = b.dbgDigest ∧
  b = { a with
    provisioned := b.provisioned
    sealedF := b.sealedF
    rma := b.rma
    svn := b.svn
    revoke0 := b.revoke0
    cfgDigest := b.cfgDigest
    dbgDigest := b.dbgDigest }

/-- A record is suppressed (17 R474): it is no duplicate, its code and severity are not exempt, and less than one token of its code is
left. -/
abbrev State.suppresses (s : State) (x : TallyIn) : Prop :=
  (∀ m l, x.mseq = some m → s.tally.lastMseq = some l → serialNewer (BitVec.ofNat 32 m) l = true) ∧ x.sev < sevCritical ∧
  x.code / 256 ≠ 0x13 ∧
  ((((sget s.tally.buckets x.code).getD (fullBucket (s.par P.TLY_BURST) s.time.ns.toNat)).refill (s.par P.TLY_RATE_PER_S)
    (s.par P.TLY_BURST) s.time.ns.toNat).take).2 = false

end Sys2Proof.Machine
end

