-- ==== Sys2Proof/Certificates/Slice0/Obligations.lean ====
section
/-! DEFINITION. The statements about this machine, for the provers. -/

open Sys2Proof Sys2Proof.Machine

/-! ## The machine as a whole -/

/-- A step takes the command at the front of the queue and runs it on the state with the queue's rest (log entry 1). -/
def Obligations.StepRunsTheFront : Prop :=
  ∀ (s : State) (c : Instr) (rest : List Instr), s.pending = c :: rest → step s = exec c { s with pending := rest }

/-- With nothing waiting, a step is one tick of the AON timekeeper and changes nothing else (log entry 4, the model's choice): none while
power-on reset is asserted, 30,517 and 37/64 ns in PS4, 1,000 ns otherwise. -/
def Obligations.EmptyQueueTicks : Prop :=
  ∀ (s : State), s.pending = [] →
    (s.dev.por = true → step s = .next s) ∧
    (s.dev.por = false → s.pwr.ps ≠ 4 → step s = .next { s with time := { s.time with ns := s.time.ns + 1000 } }) ∧
    (s.dev.por = false → s.pwr.ps = 4 → s.time.frac + 37 < 64 →
      step s = .next { s with time := { ns := s.time.ns + 30517, frac := s.time.frac + 37 } }) ∧
    (s.dev.por = false → s.pwr.ps = 4 → 64 ≤ s.time.frac + 37 → s.time.frac < 64 →
      step s = .next { s with time := { ns := s.time.ns + 30518, frac := s.time.frac - 27 } })

/-- Every command answers a next state: the block reports each error in its own state (log entry 3). -/
def Obligations.EveryCommandCompletes : Prop :=
  ∀ (c : Instr) (s : State), ∃ t, exec c s = .next t

/-- The frame of every command: a unit of State that is outside a command's reach is the same after it. -/
def Obligations.CommandsKeepToTheirReach : Prop :=
  ∀ (c : Instr) (s t : State), exec c s = .next t → ∀ p, p ∉ reach c → p.same t s


/-! ## The host ports (02) -/

/-- What a port's events do (02 R44 to R46, 12 R365, 13 R386): a reset of the link resets the port's functions and ends its lease with its own
cause; training starts once PERST# is released and ends at the narrower width and the lower rate, in FLIT mode as Table 2-1 says. -/
def Obligations.LinkEventsDo : Prop :=
  (∀ (s : State) (p : Port), exec (.perstAssert p) s =
    .next (s.portReset p 4 (fun x => { x with perst := true, linkUp := false, training := false, l1 := false }))) ∧
  (∀ (s : State) (p : Port), (s.host.port p).linkUp = true → exec (.hotReset p) s =
    .next (s.portReset p 2 (fun x => { x with linkUp := false, training := s.mayTrain, l1 := false }))) ∧
  (∀ (s : State) (p : Port), (s.host.port p).linkUp = true → exec (.dataLinkDown p) s =
    .next (s.portReset p 2 (fun x => { x with linkUp := false, training := s.mayTrain, l1 := false }))) ∧
  (∀ (s : State) (p : Port) (w : WakeChecks), (s.host.port p).perst = true → s.mayTrain = true → exec (.perstDeassert p w) s =
    .next (State.fullWake { s with host := s.host.setPort p { (s.host.port p) with perst := false, training := true } } w)) ∧
  (∀ (s : State) (p : Port) (w : WakeChecks), (s.host.port p).l1 = true → exec (.linkL1Exit p w) s =
    .next (State.fullWake { s with host := s.host.setPort p { (s.host.port p) with l1 := false } } w)) ∧
  (∀ (s : State) (p : Port) (width : Nat) (rate : LinkRate), (s.host.port p).training = true → (s.host.port p).perst = false →
    8 ≤ min width (s.portWidth p) →
    exec (.linkUp p width rate) s = .next (State.recheckPower { s with host := { (s.host.setPort p { (s.host.port p) with
      linkUp := true, training := false, width := min width (s.portWidth p),
      rate := min rate.gts (s.parI P.HST_MAX_RATE_GTS p.val), l1 := false,
      flit := linkFlit (min rate.gts (s.parI P.HST_MAX_RATE_GTS p.val)) rate.flitPartner }) with lastTlp := s.now } })) ∧
  (∀ (s : State) (c : Cntl), s.host.present c = true → exec (.configurationRequest c) s =
    .next (State.touchLink { s with host := { s.host with cfgAnswer := some (c.val, !s.dev.configured) } }))

/-- A reset of a port (02 R44, R45): every function of the port is as after its own reset, and VF Enable is clear. -/
def Obligations.PortResetClears : Prop :=
  ∀ (s : State) (p : Port) (cause : Nat) (f : PortS → PortS) (c : Cntl), c.port = p →
    ((s.portReset p cause f).host.func c.val) = FuncS.cleared ∧
    ((s.portReset p cause f).host.port p).vfEnable = false

/-- What resets and the enable bit of one controller do (02 R44 to R46; 03 R99): a function-level reset of the PF is one of the whole port, of
a VF one of that VF; enabling makes the controller ready unless the device is BOOTING, with fresh admin queues; disabling drops its
commands, and the PF's ends the lease with cause 03h. -/
def Obligations.ControllerResetsDo : Prop :=
  (∀ (s : State) (c : Cntl), s.host.present c = true → c.isPF = true → exec (.functionLevelReset c) s =
    .next (s.portReset c.port 3 (fun x => x)).touchLink) ∧
  (∀ (s : State) (c : Cntl), s.host.present c = true → c.isPF = false → exec (.functionLevelReset c) s =
    .next (s.resetFuncs (fun d => d == c) false).touchLink) ∧
  (∀ (s : State) (c : Cntl) (asqs acqs : Nat), s.host.present c = true → s.dev.configured = true → (s.host.func c.val).en = false →
    c.isPF = false →
    exec (.ccEnSet c asqs acqs) s = .next (State.touchLink (State.noteChange { s with
      host := HostS.adminQueues (s.host.setFunc c.val { (s.host.func c.val) with
        cc := (s.host.func c.val).cc ||| 1, rdy := s.serving, aqa := aqaWord asqs acqs, keepAliveFrom := s.now }) c asqs acqs } 0x20))) ∧
  (∀ (s : State) (c : Cntl), s.host.present c = true → (s.host.func c.val).en = true → c.isPF = false →
    exec (.ccEnClear c) s = .next ((s.resetFuncs (fun d => d == c) true).noteChange 0x20).touchLink) ∧
  (∀ (s : State) (c : Cntl), s.host.present c = true → (s.host.func c.val).en = true → c.isPF = true →
    exec (.ccEnClear c) s = .next (State.touchLink (State.noteChange { ((s.endLease c.port 3).resetFuncs (fun d => d == c) true) with
      pwr := (((s.endLease c.port 3).resetFuncs (fun d => d == c) true)).pwr.forget c.port } 0x20))) ∧
  (∀ (s : State) (c : Cntl), (s.host.func c.val).en = true → (s.host.func c.val).rdy = true →
    (s.host.func c.val).keepAliveHeld = false → ((s.host.func c.val).feature 0x0F).toNat ≠ 0 →
    (s.host.func c.val).keepAliveFrom + ((s.host.func c.val).feature 0x0F).toNat * 1000000 ≤ s.now →
    exec (.keepAliveTimeout c) s = .next { s with host := s.host.setFunc c.val { (s.host.func c.val) with cfs := true } })

/-- Writes of registers (00 R18; 02 R38, R40): a writable field takes the value, the interrupt mask sets or clears the bits written as 1, a
read-only register ignores the write; an Unsupported Request is only logged. -/
def Obligations.RegisterWritesDo : Prop :=
  (∀ (s : State) (c : Cntl) (v : Qword), s.host.present c = true → exec (.registerWrite (.intms c) v) s =
    .next (State.touchLink { s with host := s.host.modFunc c.val (fun f => { f with intMask := f.intMask ||| v.truncate 32 }) })) ∧
  (∀ (s : State) (c : Cntl) (v : Qword), s.host.present c = true → exec (.registerWrite (.intmc c) v) s =
    .next (State.touchLink { s with host := s.host.modFunc c.val (fun f => { f with intMask := f.intMask &&& ~~~(v.truncate 32) }) })) ∧
  (∀ (s : State) (c : Cntl) (v : Qword), s.host.present c = true → exec (.registerWrite (.devCtl c) v) s =
    .next (State.touchLink { s with host := s.host.modFunc c.val (fun f => { f with devCtl := v.truncate 32 }) })) ∧
  (∀ (s : State) (p : Port) (v : Qword), s.host.present p.pf = true → v.getLsbD 0 = true → exec (.registerWrite (.sriovCtl p) v) s =
    .next (State.touchLink { s with host := s.host.setPort p { (s.host.port p) with vfEnable := true } })) ∧
  (∀ (s : State) (r : RegId) (v : Qword), r = .rstCause ∨ r = .rstBootStatus ∨ r = .secstat ∨ r = .clkCtrlStatus →
    exec (.registerWrite r v) s = .next s) ∧
  (∀ (s : State) (c : Cntl) (r : RegId) (v : Qword), s.host.present c = true →
    r = .cap c ∨ r = .capHigh c ∨ r = .vs c ∨ r = .csts c ∨ r = .pciId c ∨ r = .pciSubsystem c ∨ r = .devCap c ∨ r = .linkCap c ∨
      (∃ p : Port, p.pf = c ∧ (r = .sriovVfs p ∨ r = .sriovOffsets p)) →
    exec (.registerWrite r v) s = .next s.touchLink) ∧
  (∀ (s : State) (c : Cntl) (m : Bool), s.host.present c = true → exec (.unsupportedRequestReceived c m) s =
    .next (State.touchLink { s with host := s.host.modFunc c.val (fun f =>
      { f with aerLog := f.aerLog ++ [if m then AerLog.malformedTlp else AerLog.unsupportedRequest] }) }))

/-- Doorbells and fetching (03 R70 to R75): new entries wait in host memory and are fetched as tags allow; the host's head frees completion
slots, what was held is posted into them, and a Flush that waited for that completes; an aggregation time that ends sends the message held back. -/
def Obligations.DoorbellsDo : Prop :=
  (∀ (s : State) (c : Cntl) (sq tail : Nat) (es : List Sqe) (q : SqS), sget s.host.sqs (qKey c.val sq) = some q →
    (s.host.func c.val).en = true → s.host.present c = true → tail < q.size → es.length = (tail + q.size - q.tail) % q.size →
    exec (.sqTailDoorbell c sq tail es) s = .next ((State.touchLink { s with host := { s.host with
      sqs := sput (qKey c.val sq) { q with tail := tail, unfetched := q.unfetched ++ es } s.host.sqs } }).fetchQueue c sq)) ∧
  (∀ (s : State) (c : Cntl) (cq head : Nat) (q : CqS), sget s.host.cqs (qKey c.val cq) = some q → s.host.present c = true →
    head < q.size → (head + q.size - q.head) % q.size ≤ q.posted.length →
    exec (.cqHeadDoorbell c cq head) s = .next (State.sweepFlushes (postHeld q.held.length (State.touchLink { s with host := { s.host with
      cqs := sput (qKey c.val cq) { q with head := head, posted := q.posted.drop ((head + q.size - q.head) % q.size) } s.host.cqs } })
      c.val cq))) ∧
  (∀ (s : State) (c : Cntl) (sq : Nat) (q : SqS), sget s.host.sqs (qKey c.val sq) = some q → q.starved = true →
    exec (.tagAvailable c sq) s = .next (s.fetchQueue c sq)) ∧
  (∀ (s : State) (c : Cntl) (cq : Nat) (q : CqS), sget s.host.cqs (qKey c.val cq) = some q → q.ien = true → q.unsignalled ≠ 0 →
    s.host.present c = true →
    exec (.interruptAggregationTime c cq) s = .next { s with host := { s.host with
      cqs := sput (qKey c.val cq) { q with unsignalled := 0, msix := q.msix + 1 } s.host.cqs, lastTlp := s.now } })

/-- Dispatch (03 R79; 10 R317): an ordered command begins once every earlier command of its queue has completed; otherwise the oldest
command of the stand whose turn it is on a pipeline begins, its charge taken from the stand's credit. -/
def Obligations.DispatchDoes : Prop :=
  (∀ (s : State) (tag : Nat) (e : TagE), sget s.host.tags tag = some e → s.ioServed = true → e.phase = .accepted →
    cmdOrdered e.cmd = true → s.host.earlier e = false →
    exec (.orderedCommandBegin tag) s = .next (s.refillStands.dispatch tag e)) ∧
  (∀ (s : State) (pipe : Fin 4) (d : Dir) (k st tag : Nat) (e : TagE), s.ioServed = true → s.govHolds 4 = false →
    s.refillStands.nextStand pipe d = some (k, st) →
    oldestTag ((s.refillStands.waitingIn pipe d).filter (fun x => s.refillStands.queueOf x.2 == st)) = some (tag, e) →
    exec (.nextDispatch pipe d) s = .next { (s.refillStands.dispatch tag e) with
      host := (s.refillStands.dispatch tag e).host.served pipe d (k, st) })


/-! ## Admin commands (02) -/

/-- Queues come and go (02 R42; NVMe Base 2.0, log entry 13): a queue whose identifier is free and allocated to the function, whose size is
within CAP.MQES and which is contiguous is created empty; a submission queue of which nothing runs, and a completion queue that no
submission queue uses, is deleted, and the tags whose entries it holds are freed. -/
def Obligations.QueueCommandsDo : Prop :=
  (∀ (s : State) (tag : Nat) (e : TagE) (qid n iv : Nat) (ien : Bool), s.adminReady tag e → e.cmd = .createIoCq qid n iv ien true →
    qid ≠ 0 → qid ≤ s.queueAlloc e.cntl → sget s.host.cqs (qKey e.cntl.val qid) = none → 1 ≤ n → n ≤ 4095 → iv < vectors e.cntl →
    exec (.createIoCq tag) s = .next (State.complete { s with
      host := { s.host with
        cqs := sput (qKey e.cntl.val qid)
          { size := n + 1, head := 0, posted := [], held := [], vector := iv, ien := ien, unsignalled := 0, msix := 0 } s.host.cqs } }
      tag stOk)) ∧
  (∀ (s : State) (tag : Nat) (e : TagE) (qid n cqid : Nat), s.adminReady tag e → e.cmd = .createIoSq qid n cqid true →
    qid ≠ 0 → qid ≤ s.queueAlloc e.cntl → sget s.host.sqs (qKey e.cntl.val qid) = none → cqid ≠ 0 → cqid ≤ s.queueAlloc e.cntl →
    (sget s.host.cqs (qKey e.cntl.val cqid)).isSome = true → 1 ≤ n → n ≤ 4095 →
    exec (.createIoSq tag) s = .next (State.complete { s with
      host := { s.host with
        sqs := sput (qKey e.cntl.val qid)
          { size := n + 1, cqid := cqid, head := 0, tail := 0, unfetched := [], ordered := none, starved := false } s.host.sqs } }
      tag stOk)) ∧
  (∀ (s : State) (tag : Nat) (e : TagE) (qid : Nat), s.adminReady tag e → e.cmd = .deleteIoSq qid → qid ≠ 0 →
    (sget s.host.sqs (qKey e.cntl.val qid)).isSome = true → s.host.ofQueue e.cntl qid = [] →
    exec (.deleteIoSq tag) s = .next (State.complete { s with
      host := { s.host with
        sqs := sdel (qKey e.cntl.val qid)
          (smod (qKey e.cntl.val qid) (fun q => { q with unfetched := [] }) s.host.sqs) } } tag stOk)) ∧
  (∀ (s t : State) (tag : Nat) (e : TagE) (qid : Nat), s.adminReady tag e → e.cmd = .deleteIoCq qid → qid ≠ 0 →
    (sget s.host.cqs (qKey e.cntl.val qid)).isSome = true →
    s.host.sqs.any (fun x => decide (x.1 / 65536 = e.cntl.val) && x.2.cqid == qid) = false →
    (((sget s.host.cqs (qKey e.cntl.val qid)).map (fun q => q.held.map Prod.fst)).getD []).foldl (fun a k => a.freeTag k) s = t →
    exec (.deleteIoCq tag) s = .next (State.complete { t with
      host := { t.host with
        cqs := sdel (qKey e.cntl.val qid) t.host.cqs } } tag stOk))

/-- Commands that only answer (02 R49, R50, R54, R62, R64): once the command holds the cords for its data (04 R109), a log page within its
length, Identify data, a feature's value, the lease and stand windows, which go to the command's buffer (04 R116). Reading page 0 of the Health Report takes a new snapshot first
(15 R439). A feature whose value is no data structure needs no cords. -/
def Obligations.InformationCommandsAnswer : Prop :=
  (∀ (s t : State) (tag : Nat) (e : TagE) (lid : Byte) (off n len : Nat), s.adminData tag e → s.adminTaken tag e = t →
    e.cmd = .getLogPage lid off n → logLen e.cntl lid = some len → off ≤ len → lid ≠ 0xC0 →
    exec (.getLogPage tag) s = .next (State.returnData { t with host := t.host.modFunc e.cntl.val (fun f => f.afterLog lid) } tag e
      (min n (len - off)) 0 (.bytes (t.logBytes e.cntl lid off (min n (len - off)))))) ∧
  (∀ (s t : State) (tag : Nat) (e : TagE) (off n : Nat), s.adminData tag e → s.adminTaken tag e = t → e.cmd = .getLogPage 0xC0 off n →
    e.cntl.isPF = true → off < 4096 →
    exec (.getLogPage tag) s = .next ((t.snapshot (pfPath e.cntl)).returnData tag e (min n (36864 - off)) 0
      (.bytes ((t.snapshot (pfPath e.cntl)).mgmt.snapBytes (pfPath e.cntl) off (min n (36864 - off)))))) ∧
  (∀ (s t : State) (tag : Nat) (e : TagE) (cns : Byte) (nsid : Dword) (l : List (Option Byte)), s.adminData tag e →
    s.adminTaken tag e = t → e.cmd = .identify cns nsid → t.identData e.cntl cns nsid = (stOk, l) →
    exec (.identify tag) s = .next (t.returnData tag e l.length 0 (.bytes l))) ∧
  (∀ (s : State) (tag : Nat) (e : TagE) (fid : Byte) (v nsid d : Dword), s.adminReady tag e →
    e.cmd = .getFeatures fid v nsid → fid ≠ 0x0E → fid ≠ 0x81 → s.featureValue e.cntl fid.toNat v nsid = some (d, .nothing) →
    exec (.getFeatures tag) s = .next (s.complete tag stOk d)) ∧
  (∀ (s t : State) (tag : Nat) (e : TagE) (fid : Byte) (v nsid d : Dword) (n w : Nat), s.adminData tag e → s.adminTaken tag e = t →
    e.cmd = .getFeatures fid v nsid → t.featureValue e.cntl fid.toNat v nsid = some (d, .struct n w) →
    exec (.getFeatures tag) s = .next (t.returnData tag e n d (.struct n w))) ∧
  (∀ (s t : State) (tag : Nat) (e : TagE), s.adminData tag e → s.adminTaken tag e = t → e.cntl.isPF = true → e.cmd = .leaseStatus false →
    exec (.mapLeaseStatus tag) s = .next (t.returnData tag e 64 0 (.struct 64 (leaseWindow (t.nvm.lease e.cntl.port))))) ∧
  (∀ (s t : State) (tag : Nat) (e : TagE) (st : StandNo) (x : StandS), s.adminData tag e → s.adminTaken tag e = t → e.cntl.isPF = true →
    e.cmd = .standStatus st false → t.nvm.stand st.val = some x →
    x.members.any (fun c => decide (c / 128 = e.cntl.port.val)) = true →
    exec (.standStatus tag) s = .next (t.returnData tag e 64 0 (.struct 64 (t.standWindow st x))))

/-- Get Log Page of an invalid LID, or of C0h by a VF, fails with SCT 1, SC 09 (02 R55). -/
def Obligations.InvalidLogPageFails : Prop :=
  ∀ (s t : State) (tag : Nat) (e : TagE) (lid : Byte) (off n : Nat), s.adminData tag e → s.adminTaken tag e = t →
    e.cmd = .getLogPage lid off n → (lid ∉ [0x01, 0x02, 0x03, 0x04, 0x05, 0x80, 0x81, 0xC0] ∨ (lid = 0xC0 ∧ e.cntl.isPF = false)) →
    exec (.getLogPage tag) s = .next (t.complete tag ⟨1, 0x09⟩)

/-- Abort, events and Keep Alive (02 R51; 03 R78, R98), in every form: a ninth concurrent Abort fails with its limit; a command that may be
aborted is, and the Abort completes with Dword 0 of 0; one that may not be, and one that is not there, leave Dword 0 of 1. An Asynchronous
Event Request completes with the oldest waiting event, else waits while fewer than 8 wait, else fails with its limit. Keep Alive starts the
timer afresh. -/
def Obligations.ControlCommandsDo : Prop :=
  (∀ (s : State) (tag sq cid : Nat) (e : TagE), s.adminReady tag e → e.cmd = .abort sq cid → 8 ≤ s.host.abortsBefore e →
    exec (.abort tag) s = .next (s.complete tag ⟨1, 0x03⟩)) ∧
  (∀ (s : State) (tag k sq cid : Nat) (e x : TagE), s.adminReady tag e → e.cmd = .abort sq cid → s.host.abortsBefore e < 8 →
    s.host.tags.find? (fun y => y.2.cntl == e.cntl && y.2.sqid == sq && y.2.cid == cid && y.1 != tag) = some (k, x) →
    x.abortable (s.host.func e.cntl.val) k = true →
    exec (.abort tag) s = .next ((State.abortTag { s with
      host := s.host.modFunc e.cntl.val
        (fun f => { f with aers := f.aers.filter (· != k) }) } k x ⟨0, 0x07⟩).complete tag stOk 0)) ∧
  (∀ (s : State) (tag k sq cid : Nat) (e x : TagE), s.adminReady tag e → e.cmd = .abort sq cid → s.host.abortsBefore e < 8 →
    s.host.tags.find? (fun y => y.2.cntl == e.cntl && y.2.sqid == sq && y.2.cid == cid && y.1 != tag) = some (k, x) →
    x.abortable (s.host.func e.cntl.val) k = false →
    exec (.abort tag) s = .next (s.complete tag stOk 1)) ∧
  (∀ (s : State) (tag sq cid : Nat) (e : TagE), s.adminReady tag e → e.cmd = .abort sq cid → s.host.abortsBefore e < 8 →
    s.host.tags.find? (fun y => y.2.cntl == e.cntl && y.2.sqid == sq && y.2.cid == cid && y.1 != tag) = none →
    exec (.abort tag) s = .next (s.complete tag stOk 1)) ∧
  (∀ (s : State) (tag : Nat) (e : TagE) (ev : AsyncEv) (rest : List AsyncEv), s.adminReady tag e → e.cmd = .asyncEventRequest →
    (s.host.func e.cntl.val).events = ev :: rest →
    exec (.asynchronousEventRequest tag) s = .next (State.complete { s with
      host := s.host.setFunc e.cntl.val
        { (s.host.func e.cntl.val) with events := rest } } tag stOk (BitVec.ofNat 32 (ev.typ + ev.info * 256 + ev.page * 65536)))) ∧
  (∀ (s : State) (tag : Nat) (e : TagE), s.adminReady tag e → e.cmd = .asyncEventRequest → (s.host.func e.cntl.val).events = [] →
    (s.host.func e.cntl.val).aers.length < 8 →
    exec (.asynchronousEventRequest tag) s = .next { s.modTag tag (fun x => { x with phase := .running }) with
      host := (s.modTag tag (fun x => { x with phase := .running })).host.setFunc e.cntl.val
        { (s.host.func e.cntl.val) with aers := (s.host.func e.cntl.val).aers ++ [tag] } }) ∧
  (∀ (s : State) (tag : Nat) (e : TagE), s.adminReady tag e → e.cmd = .asyncEventRequest → (s.host.func e.cntl.val).events = [] →
    8 ≤ (s.host.func e.cntl.val).aers.length →
    exec (.asynchronousEventRequest tag) s = .next (s.complete tag stAerLimit)) ∧
  (∀ (s : State) (tag : Nat) (e : TagE), s.adminReady tag e → e.cmd = .keepAlive →
    exec (.keepAlive tag) s = .next (State.complete { s with
      host := s.host.modFunc e.cntl.val
        (fun f => { f with keepAliveFrom := s.now }) } tag stOk))

/-- Set Features of the features that are a recorded value (02 R42, R54, R66; 03 R91; NVMe Base 2.0, log entry 13): the value is kept as far
as its field goes, the command succeeds, and the power state is chosen again (13 R380). -/
def Obligations.ValueFeaturesAreKept : Prop :=
  (∀ (s : State) (tag : Nat) (e : TagE) (v nsid : Dword) (d : BitVec 128), s.setReady tag e 0x01 v nsid d →
    exec (.arbitration tag) s = .next (s.keepFeature tag e 0x01 (v &&& 7)).recheckPower) ∧
  (∀ (s : State) (tag : Nat) (e : TagE) (v nsid : Dword) (d : BitVec 128), s.setReady tag e 0x04 v nsid d →
    getField v 16 4 = 0 → getField v 20 2 = 0 →
    exec (.temperatureThreshold tag) s = .next (s.keepFeature tag e 0x04 (v &&& 0xFFFF)).recheckPower) ∧
  (∀ (s : State) (tag : Nat) (e : TagE) (v nsid : Dword) (d : BitVec 128), s.setReady tag e 0x06 v nsid d → s.armed = false →
    exec (.volatileWriteCache tag) s = .next (s.keepFeature tag e 0x06 (v &&& 1)).recheckPower) ∧
  (∀ (s : State) (tag : Nat) (e : TagE) (v nsid : Dword) (d : BitVec 128), s.setReady tag e 0x08 v nsid d →
    exec (.interruptCoalescing tag) s = .next (s.keepFeature tag e 0x08 (v &&& 0xFFFF)).recheckPower) ∧
  (∀ (s : State) (tag : Nat) (e : TagE) (v nsid : Dword) (d : BitVec 128), s.setReady tag e 0x09 v nsid d →
    getField v 0 16 < vectors e.cntl →
    exec (.interruptVectorConfiguration tag) s =
      .next (s.keepFeature tag e (0x0900 + getField v 0 16) (v &&& 0x1FFFF)).recheckPower) ∧
  (∀ (s : State) (tag : Nat) (e : TagE) (v nsid : Dword) (d : BitVec 128), s.setReady tag e 0x0A v nsid d →
    exec (.writeAtomicityNormal tag) s = .next (s.keepFeature tag e 0x0A (v &&& 1)).recheckPower) ∧
  (∀ (s : State) (tag : Nat) (e : TagE) (v nsid : Dword) (d : BitVec 128), s.setReady tag e 0x0B v nsid d →
    exec (.asyncEventConfiguration tag) s = .next (s.keepFeature tag e 0x0B v).recheckPower)

/-- The other features (02 R42, R54, R66; 13 R380; log entry 13): a PF's power request is recorded; the queue allocation is reported whatever is
asked; the timestamp goes on from the value set; the Keep Alive timeout is kept in steps of 100 ms; the host identifier is kept; the
reservation mask and persistence are those of the namespaces named; a feature that is not there fails. -/
def Obligations.OtherFeaturesDo : Prop :=
  (∀ (s : State) (tag : Nat) (e : TagE) (v nsid : Dword) (d : BitVec 128), s.setReady tag e 0x02 v nsid d → e.cntl.isPF = true →
    getField v 0 5 ≤ 4 →
    exec (.powerManagement tag) s =
      .next ((State.complete { s with pwr := s.pwr.request e.cntl.port (getField v 0 5) } tag stOk)).recheckPower) ∧
  (∀ (s : State) (tag : Nat) (e : TagE) (v nsid : Dword) (d : BitVec 128), s.setReady tag e 0x07 v nsid d →
    getField v 0 16 ≠ 65535 → getField v 16 16 ≠ 65535 →
    s.host.cqs.any (fun x => decide (x.1 / 65536 = e.cntl.val ∧ x.1 % 65536 ≠ 0)) = false →
    exec (.numberOfQueues tag) s = .next (s.complete tag stOk (s.queuesWord e.cntl)).recheckPower) ∧
  (∀ (s t : State) (tag : Nat) (e : TagE) (v nsid : Dword) (d : BitVec 128), s.adminData tag e → s.adminTaken tag e = t →
    e.cmd = .setFeatures 0x0E false v nsid d →
    exec (.timestamp tag) s = .next ((State.complete { t with
      host := t.host.modFunc e.cntl.val (fun f =>
        { f with timestampMs := (d.toNat % 2 ^ 48 + 2 ^ 48 - t.nowMs % 2 ^ 48) % 2 ^ 48 }) } tag stOk)).recheckPower) ∧
  (∀ (s : State) (tag : Nat) (e : TagE) (v nsid : Dword) (d : BitVec 128), s.setReady tag e 0x0F v nsid d →
    exec (.keepAliveTimer tag) s = .next ((State.keepFeature { s with
      host := s.host.modFunc e.cntl.val (fun f =>
        { f with keepAliveFrom := s.now }) } tag e 0x0F (BitVec.ofNat 32 (min ((v.toNat + 99) / 100 * 100) 4294967200)))).recheckPower) ∧
  (∀ (s t : State) (tag : Nat) (e : TagE) (v nsid : Dword) (d : BitVec 128), s.adminData tag e → s.adminTaken tag e = t →
    e.cmd = .setFeatures 0x81 false v nsid d →
    exec (.hostIdentifier tag) s = .next ((State.keepFeature { t with
      host := t.host.modFunc e.cntl.val (fun f =>
        { f with hostId := if v.getLsbD 0 then d else d &&& 0xFFFFFFFFFFFFFFFF }) } tag e 0x81 (v &&& 1))).recheckPower) ∧
  (∀ (s : State) (tag : Nat) (e : TagE) (v nsid : Dword) (d : BitVec 128), s.setReady tag e 0x82 v nsid d →
    s.nvm.namedFor e.cntl.val nsid.toNat ≠ [] →
    exec (.reservationNotificationMask tag) s = .next ((State.complete { s with
      host := s.host.modFunc e.cntl.val (fun f =>
        { f with features := (s.nvm.namedFor e.cntl.val nsid.toNat).foldl (fun m n => sput (maskKey n) (v &&& 0xE) m) f.features }) }
      tag stOk)).recheckPower) ∧
  (∀ (s : State) (tag : Nat) (e : TagE) (v nsid : Dword) (d : BitVec 128), s.setReady tag e 0x83 v nsid d →
    s.nvm.namedFor e.cntl.val nsid.toNat ≠ [] →
    exec (.reservationPersistence tag) s = .next (((State.journal { s with
      nvm := (s.nvm.namedFor e.cntl.val nsid.toNat).foldl
        (fun n i => n.modNs i (fun x => { x with ptpl := v.getLsbD 0 })) s.nvm }).complete tag stOk)).recheckPower) ∧
  (∀ (s : State) (tag : Nat) (e : TagE) (fid : Byte) (sv : Bool) (v nsid : Dword) (d : BitVec 128), s.adminReady tag e →
    e.cmd = .setFeatures fid sv v nsid d → s.featureThere fid.toNat = false →
    exec (.unsupportedFeature tag) s = .next (s.complete tag stField).recheckPower)

/-- Namespace management (02 R63, R65; 03 R96; 05 R144): a namespace is created under the lowest free identifier, which Dword 0 returns
(in several commit groups where its segments are more than the ring has room for, with the completion after the last of them); a
deletion or a format begins as a long operation; attaching and detaching change the controllers at once where nothing of them runs. -/
def Obligations.NamespaceCommandsDo : Prop :=
  (∀ (s t : State) (tag : Nat) (e : TagE) (n0 : Dword) (nsze st nsid : Nat) (flbas : Byte), s.adminData tag e → s.adminTaken tag e = t →
    e.cntl.isPF = true → e.cmd = .nsManagement 0 n0 nsze flbas st → t.nvm.sanAction = 0 → t.createCheck nsze flbas st = none →
    t.nvm.freeNsid = some nsid → t.groveRestarting 0 = false →
    exec (.namespaceCreate tag) s = .next (if (t.map.grove 0).roomFor (segsFor nsze)
      then (t.createNs nsid nsze st).recheckSpare.complete tag stOk (BitVec.ofNat 32 nsid) else t.createInParts tag nsid nsze st)) ∧
  (∀ (s : State) (tag : Nat) (e : TagE) (nsid : Dword) (nsze st : Nat) (flbas : Byte) (x : NsS), s.adminReady tag e →
    e.cntl.isPF = true → e.cmd = .nsManagement 1 nsid nsze flbas st → s.nvm.sanAction = 0 → nsid.toNat ≠ nsidAll →
    s.nvm.ns nsid.toNat = some x → x.mode = .normal →
    exec (.namespaceDelete tag) s = .next (s.startOp tag .delete [nsid.toNat] true .deleting)) ∧
  (∀ (s t : State) (tag : Nat) (e : TagE) (nsid : Dword) (cs : List Nat) (x : NsS), s.adminData tag e → s.adminTaken tag e = t →
    e.cntl.isPF = true → e.cmd = .nsAttachment 0 nsid cs → t.nvm.ns nsid.toNat = some x → (x.mode == .deleting) = false →
    t.attachCheck x true cs = none →
    exec (.namespaceAttach tag) s = .next ((t.attachNs nsid.toNat cs).complete tag stOk)) ∧
  (∀ (s t : State) (tag : Nat) (e : TagE) (nsid : Dword) (cs : List Nat) (x : NsS), s.adminData tag e → s.adminTaken tag e = t →
    e.cntl.isPF = true → e.cmd = .nsAttachment 1 nsid cs → t.nvm.ns nsid.toNat = some x → (x.mode == .deleting) = false →
    t.attachCheck x false cs = none → t.host.ioFrom nsid.toNat cs = false →
    exec (.namespaceDetach tag) s = .next ((t.detachNs nsid.toNat cs).complete tag stOk)) ∧
  (∀ (s : State) (tag : Nat) (e : TagE) (nsid : Dword) (ses : Nat), s.adminReady tag e → e.cmd = .formatNvm nsid 0 ses false → ses ≤ 2 →
    s.nvm.namedFor e.cntl.val nsid.toNat ≠ [] → s.nvm.sanAction = 0 →
    (s.nvm.namedFor e.cntl.val nsid.toNat).any s.nvm.longBusy = false →
    exec (.formatNvm tag) s =
      .next (s.startOp tag .format (s.nvm.namedFor e.cntl.val nsid.toNat) (ses != 0) .formatting))

/-- Sanitize (02 R63, R66; 06 R208): crypto erase and block erase begin as one long operation on every namespace, the failure mode is left,
and overwrite fails with Invalid Field. -/
def Obligations.SanitizeCommandsDo : Prop :=
  (∀ (s : State) (tag : Nat) (e : TagE) (ause : Bool), s.adminReady tag e → e.cntl.isPF = true → e.cmd = .sanitize 4 ause →
    s.nvm.sanAction = 0 → exec (.sanitizeCryptoErase tag) s = .next (s.startSanitize tag .sanitizeCrypto 1)) ∧
  (∀ (s : State) (tag : Nat) (e : TagE) (ause : Bool), s.adminReady tag e → e.cntl.isPF = true → e.cmd = .sanitize 2 ause →
    s.nvm.sanAction = 0 → exec (.sanitizeBlockErase tag) s = .next (s.startSanitize tag .sanitizeBlock 2)) ∧
  (∀ (s : State) (tag : Nat) (e : TagE) (ause : Bool), s.adminReady tag e → e.cntl.isPF = true → e.cmd = .sanitize 1 ause →
    s.nvm.sanAction = 0 → exec (.sanitizeExitFailureMode tag) s =
      .next (State.complete { s with nvm := { s.nvm with sanFailed := false } } tag stOk)) ∧
  (∀ (s : State) (tag : Nat) (e : TagE) (ause : Bool), s.adminReady tag e → e.cntl.isPF = true → e.cmd = .sanitize 3 ause →
    s.nvm.sanAction = 0 → exec (.sanitizeOverwrite tag) s = .next (s.complete tag stField))

/-- The commands that the block does not have complete with their own status (00 R3; 02 R51, R52): Firmware Commit, Firmware Image Download,
every other admin opcode and every other I/O opcode with Invalid Command Opcode; and so does a VF's vendor command, each of the four, whose
data pointer is not looked at. -/
def Obligations.AbsentOpcodesFail : Prop :=
  (∀ (s : State) (tag : Nat) (e : TagE), s.adminReady tag e → e.cmd = .firmwareCommit →
    exec (.firmwareCommit tag) s = .next (s.complete tag ⟨0, 0x01⟩)) ∧
  (∀ (s : State) (tag : Nat) (e : TagE), s.adminReady tag e → e.cmd = .firmwareDownload →
    exec (.firmwareImageDownload tag) s = .next (s.complete tag ⟨0, 0x01⟩)) ∧
  (∀ (s : State) (tag : Nat) (e : TagE) (opc : Byte), s.adminReady tag e → e.cmd = .otherAdmin opc →
    exec (.invalidAdminOpcode tag) s = .next (s.complete tag ⟨0, 0x01⟩)) ∧
  (∀ (s : State) (tag : Nat) (e : TagE), s.adminReady tag e → vendorAdmin e.cmd = true → e.cntl.isPF = false →
    exec (.invalidAdminOpcode tag) s = .next (s.complete tag ⟨0, 0x01⟩) ∧
    exec (.mapLeaseGrant tag) s = .next (s.complete tag ⟨0, 0x01⟩) ∧
    exec (.mapLeaseRevoke tag) s = .next (s.complete tag ⟨0, 0x01⟩) ∧
    exec (.mapLeaseStatus tag) s = .next (s.complete tag ⟨0, 0x01⟩) ∧
    exec (.standStatus tag) s = .next (s.complete tag ⟨0, 0x01⟩)) ∧
  (∀ (s : State) (tag : Nat) (e : TagE) (opc : Byte), s.ioReady tag e → e.cmd = .otherIo opc →
    exec (.invalidIoOpcode tag) s = .next (s.complete tag ⟨0, 0x01⟩))

/-- Map leases (02 R61; 05 R166, R171): a grant with a legal extent list and nothing active makes the lease ACTIVE with nothing resident; a
revoke of the active lease by its own tag makes it REVOKING, and the command waits for its last access. -/
def Obligations.LeaseCommandsDo : Prop :=
  (∀ (s t : State) (tag : Nat) (e : TagE) (next : Nat) (ltag : Dword) (xs : List LeaseExtent), s.adminData tag e →
    s.adminTaken tag e = t → e.cntl.isPF = true → e.cmd = .leaseGrant next ltag xs false →
    (t.nvm.lease e.cntl.port).state = .none ∨ (t.nvm.lease e.cntl.port).state = .ended →
    t.par P.MAP_LEASE_MAX_GIB ≠ 0 → extentsSize xs ≤ t.par P.MAP_LEASE_MAX_GIB * 512 → 1 ≤ next → next ≤ 16384 → xs.length = next →
    xs.all extentOk = true → extentsOverlap xs = false →
    exec (.mapLeaseGrant tag) s = .next (State.complete { t with
      nvm := t.nvm.setLease e.cntl.port
        { (t.nvm.lease e.cntl.port) with
          state := .active, endCause := 0, ltag := ltag, size2m := extentsSize xs, extents := xs, slots := [], hand := 0,
          writing := [], fetching := [], revokeTag := none } } tag stOk)) ∧
  (∀ (s : State) (tag : Nat) (e : TagE) (ltag : Dword), s.adminReady tag e → e.cntl.isPF = true → e.cmd = .leaseRevoke ltag false →
    (s.nvm.lease e.cntl.port).state = .active → (s.nvm.lease e.cntl.port).ltag = ltag →
    exec (.mapLeaseRevoke tag) s = .next (State.modTag { s with
      nvm := s.nvm.setLease e.cntl.port
        { (s.nvm.lease e.cntl.port) with state := .revoking, revokeTag := some tag } } tag (fun x => { x with phase := .running })))


/-! ## I/O commands (01 R21 to R26; 02 R52, R53; 03 R82, R86; 04 R125) -/

/-- Reads, compares and gathers (01 R21 to R25; 02 R53; 04 R125): on a namespace that the command may use, with every field legal, the command
begins; a read with one that is not fails with that field's status. -/
def Obligations.ReadCommandsDo : Prop :=
  (∀ (s : State) (tag : Nat) (e : TagE) (f : RwFields) (x : NsS), s.ioReady tag e → e.cmd = .read f → s.nsReady e f.nsid x .reads →
    readVerdict f x false = none →
    exec (.read tag) s = .next (s.beginRead tag f)) ∧
  (∀ (s : State) (tag : Nat) (e : TagE) (f : RwFields) (x : NsS) (st : Status), s.ioReady tag e → e.cmd = .read f →
    s.nsReady e f.nsid x .reads → readVerdict f x false = some st →
    exec (.read tag) s = .next (s.complete tag st)) ∧
  (∀ (s : State) (tag : Nat) (e : TagE) (f : RwFields) (x : NsS), s.ioReady tag e → e.cmd = .orderedRead f →
    s.nsReady e f.nsid x .reads → readVerdict f x false = none →
    exec (.orderedRead tag) s = .next (s.beginRead tag f)) ∧
  (∀ (s : State) (tag : Nat) (e : TagE) (f : RwFields) (x : NsS), s.ioReady tag e → e.cmd = .compare f → s.nsReady e f.nsid x .reads →
    readVerdict f x true = none →
    exec (.compare tag) s = .next (s.beginCompare tag e f)) ∧
  (∀ (s : State) (tag : Nat) (e : TagE) (f : GatherFields) (x : NsS), s.ioReady tag e → e.cmd = .gatherRead f →
    s.nsReady e f.nsid x .reads → gatherVerdict f x (s.par P.DMA_RESHUFFLE_GBS) = none →
    exec (.gatherRead tag) s = .next (s.beginGather tag e f))

/-- The field conditions of a read or a write, in the order of 02 R53: PRINFO, STC and DTYPE fail with Invalid Field, then more than 256
blocks, then a range that runs past the namespace with LBA Out of Range. -/
def Obligations.FieldsAreCheckedInOrder : Prop :=
  ∀ (f : RwFields) (x : NsS),
    ((f.prinfo ≠ 0 ∨ f.stc = true ∨ f.dtype ≠ 0) → rwVerdict f x = some stField) ∧
    (f.prinfo = 0 → f.stc = false → f.dtype = 0 → 256 < rwLen f → rwVerdict f x = some stField) ∧
    (f.prinfo = 0 → f.stc = false → f.dtype = 0 → rwLen f ≤ 256 → x.nlb < f.slba + rwLen f → rwVerdict f x = some stRange) ∧
    (f.prinfo = 0 → f.stc = false → f.dtype = 0 → rwLen f ≤ 256 → f.slba + rwLen f ≤ x.nlb → rwVerdict f x = none)

/-- Writes and deallocations (01 R26; 02 R53; 03 R82; 06 R209): a legal write begins, charged to its stand; Write Zeroes and Dataset
Management with AD and a legal data pointer (04 R114), whose list is fetched (04 R116), deallocate their ranges, and without AD the latter
does nothing. -/
def Obligations.WriteCommandsDo : Prop :=
  (∀ (s : State) (tag : Nat) (e : TagE) (f : RwFields) (x : NsS), s.ioReady tag e → e.cmd = .write f → s.nsReady e f.nsid x .writes →
    s.writeVerdict f x = none →
    exec (.write tag) s = .next (s.beginWrite tag e f x)) ∧
  (∀ (s : State) (tag : Nat) (e : TagE) (f : RwFields) (x : NsS), s.ioReady tag e → e.cmd = .write f → s.nsReady e f.nsid x .writes →
    rwVerdict f x = none → s.writeProtected x = true →
    exec (.write tag) s = .next (s.complete tag stProtected)) ∧
  (∀ (s : State) (tag : Nat) (e : TagE) (f : RwFields) (x : NsS), s.ioReady tag e → e.cmd = .orderedWrite f →
    s.nsReady e f.nsid x .writes → s.writeVerdict f x = none →
    exec (.orderedWrite tag) s = .next (s.beginWrite tag e f x)) ∧
  (∀ (s : State) (tag : Nat) (e : TagE) (f : RwFields) (x : NsS), s.ioReady tag e → e.cmd = .writeZeroes f →
    s.nsReady e f.nsid x .writes → f.slba + rwLen f ≤ x.nlb →
    exec (.writeZeroes tag) s = .next (s.dealloc tag f.nsid.toNat x [(f.slba, rwLen f)])) ∧
  (∀ (s : State) (tag : Nat) (e : TagE) (nsid : Dword) (rs : List DsmRange) (x : NsS), s.ioReady tag e → e.cmd = .dsm nsid true rs →
    s.nsReady e nsid x .writes → dptrCheck e.ptr (16 * rs.length) true = none → rs.all (fun r => decide (r.slba + r.length ≤ x.nlb)) = true →
    exec (.datasetManagement tag) s =
      .next ((s.fetchData e (16 * rs.length)).dealloc tag nsid.toNat x (rs.map (fun r => (r.slba, r.length))))) ∧
  (∀ (s : State) (tag : Nat) (e : TagE) (nsid : Dword) (rs : List DsmRange) (x : NsS), s.ioReady tag e → e.cmd = .dsm nsid false rs →
    s.nsReady e nsid x .writes → dptrCheck e.ptr (16 * rs.length) true = none →
    exec (.datasetManagement tag) s = .next ((s.fetchData e (16 * rs.length)).complete tag stOk)) ∧
  (∀ (s : State) (tag : Nat) (e : TagE) (nsid : Dword) (rs : List DsmRange) (x : NsS), s.ioReady tag e → e.cmd = .orderedDsm nsid true rs →
    s.nsReady e nsid x .writes → dptrCheck e.ptr (16 * rs.length) true = none → rs.all (fun r => decide (r.slba + r.length ≤ x.nlb)) = true →
    exec (.orderedDatasetManagement tag) s =
      .next ((s.fetchData e (16 * rs.length)).dealloc tag nsid.toNat x (rs.map (fun r => (r.slba, r.length))))) ∧
  (∀ (s : State) (tag : Nat) (e : TagE) (nsid : Dword) (x : NsS), s.ioReady tag e → e.cmd = .flush nsid → nsid.toNat ≠ nsidAll →
    s.nsReady e nsid x .writes →
    exec (.flush tag) s = .next
      ((s.modTag tag (fun y => { y with phase := .running })).forceSets (fun w => w.holdsGroup (e.groups ++ e.heirs))).sweepTags)

/-- Reservations (02 R66; NVMe Base 2.0, log entry 13): a host without a registration registers its key; a registrant acquires a reservation
that nobody holds, and its holder releases it; the report gives the registrants; each with a legal data pointer (04 R114). -/
def Obligations.ReservationCommandsDo : Prop :=
  (∀ (s : State) (tag : Nat) (e : TagE) (nsid : Dword) (x : NsS) (ie : Bool) (pt : PtplChange) (ck nk : Qword), s.ioReady tag e →
    e.cmd = .resvRegister nsid .register ie pt ck nk → s.nsReady e nsid x .free → dptrCheck e.ptr 16 true = none →
    x.registrant (s.host.func e.cntl.val).hostId nk true = none →
    exec (.reservationRegister tag) s = .next (((s.fetchData e 16).putNs nsid.toNat { x with
      ptpl := ptplAfter x.ptpl pt, registrants := x.registrants ++ [{ hostId := (s.host.func e.cntl.val).hostId, key := nk }],
      prgen := x.prgen + 1 }).complete tag stOk)) ∧
  (∀ (s : State) (tag : Nat) (e : TagE) (nsid : Dword) (x : NsS) (ie : Bool) (ty : RsvType) (ck pk : Qword) (r : Registrant),
    s.ioReady tag e → e.cmd = .resvAcquire nsid .acquire ie ty ck pk → s.nsReady e nsid x .free → dptrCheck e.ptr 16 true = none →
    x.registrant (s.host.func e.cntl.val).hostId ck ie = some r → x.rtype = none →
    exec (.reservationAcquire tag) s = .next (((s.fetchData e 16).putNs nsid.toNat { x with
      holder := some (s.host.func e.cntl.val).hostId, rtype := some ty }).complete tag stOk)) ∧
  (∀ (s : State) (tag : Nat) (e : TagE) (nsid : Dword) (x : NsS) (ie : Bool) (ck : Qword) (r : Registrant), s.ioReady tag e →
    e.cmd = .resvRelease nsid false ie .writeExclusive ck → s.nsReady e nsid x .free → dptrCheck e.ptr 8 true = none →
    x.registrant (s.host.func e.cntl.val).hostId ck ie = some r → x.rtype = some .writeExclusive →
    x.holder = some (s.host.func e.cntl.val).hostId →
    exec (.reservationRelease tag) s = .next (((s.fetchData e 8).putNs nsid.toNat { x with holder := none, rtype := none }).complete tag stOk)) ∧
  (∀ (s : State) (tag : Nat) (e : TagE) (nsid : Dword) (x : NsS), s.ioReady tag e → e.cmd = .resvReport nsid → s.nsReady e nsid x .free →
    dptrCheck e.ptr (s.rsvStatus x (((s.host.func e.cntl.val).feature 0x81).getLsbD 0)).1 false = none →
    exec (.reservationReport tag) s = .next (s.returnData tag e (s.rsvStatus x (((s.host.func e.cntl.val).feature 0x81).getLsbD 0)).1 0
      (.struct (s.rsvStatus x (((s.host.func e.cntl.val).feature 0x81).getLsbD 0)).1
        (s.rsvStatus x (((s.host.func e.cntl.val).feature 0x81).getLsbD 0)).2)))

/-- A command posts one completion (03 R74): with room in its completion queue an entry with its identifier, status and data is
appended; in a full queue the entry and the tag are held; the Flushes that waited for this command alone complete after it (03 R88); while
FAILED holds nothing completes (Table 0-6). -/
def Obligations.CompletionPosts : Prop :=
  (∀ (s : State) (tag : Nat) (e : TagE) (q : CqS) (st : Status) (dw0 : Dword) (d : Payload) (ep : List Nat), sget s.host.tags tag = some e →
    s.isFailed = false → (e.phase == .held) = false → sget s.host.cqs (qKey e.cntl.val e.cqid) = some q → q.full = false →
    ∃ q' c, sget (s.completeOne tag st dw0 d ep).host.cqs (qKey e.cntl.val e.cqid) = some q' ∧ q'.posted = q.posted ++ [c] ∧
      c.cid = e.cid ∧ c.sqid = e.sqid ∧ c.st = st ∧ c.dw0 = dw0 ∧ c.data = d ∧ c.ep = ep) ∧
  (∀ (s : State) (tag : Nat) (e : TagE) (q : CqS) (st : Status) (dw0 : Dword) (d : Payload) (ep : List Nat), sget s.host.tags tag = some e →
    s.isFailed = false → (e.phase == .held) = false → sget s.host.cqs (qKey e.cntl.val e.cqid) = some q → q.full = true →
    sget (s.completeOne tag st dw0 d ep).host.tags tag = some { e with phase := .held } ∧
    ∃ q' c, sget (s.completeOne tag st dw0 d ep).host.cqs (qKey e.cntl.val e.cqid) = some q' ∧ q'.posted = q.posted ∧
      q'.held = q.held ++ [(tag, c)] ∧ c.cid = e.cid ∧ c.st = st) ∧
  (∀ (s : State) (tag : Nat) (st : Status) (dw0 : Dword) (d : Payload) (ep : List Nat),
    s.complete tag st dw0 d ep = (s.completeOne tag st dw0 d ep).sweepFlushes) ∧
  (∀ (s : State) (tag : Nat) (st : Status) (dw0 : Dword) (d : Payload) (ep : List Nat), s.isFailed = true → s.complete tag st dw0 d ep = s)

/-- Long operations (03 R93, R94, R96, R523; 14 R403): an operation begins once every command accepted before it has completed; its slices go
grove by grove, none of them before the gap that pending commands ask for has passed; an unmapping slice queues its commit, an erasing one
sets a row block to ERASE_PENDING; with nothing left a deletion frees its segments slice by slice (05 R144), and an operation is checked for
its end. -/
def Obligations.LongOperationsDo : Prop :=
  (∀ (s : State) (op : Nat) (o : SlicedOp), sget s.nvm.ops op = some o → s.mediaRuns = true → s.dev.phase = .running →
    o.begun = false → s.opMayBegin o = true →
    exec (.slicedOperationStart op) s = .next (s.beginOp op o)) ∧
  (∀ (s : State) (op : Nat) (g : Grove) (o : SlicedOp), sget s.nvm.ops op = some o → s.mediaRuns = true → s.dev.phase = .running →
    o.begun = true → s.groveRestarting g = false → o.left ≠ 0 → o.doneIn g = false → s.sliceHeld g (16 + op) = false →
    (o.kind ≠ .sanitizeBlock ∨ s.nvm.sanPhase ≠ 2) → s.sliceWaits op g = false →
    exec (.slice op g) s = .next (s.queueGroup g { why := .slice op, changes := [] })) ∧
  (∀ (s : State) (op : Nat) (g : Grove) (o : SlicedOp), sget s.nvm.ops op = some o → s.mediaRuns = true → s.dev.phase = .running →
    o.begun = true → s.groveRestarting g = false → o.left ≠ 0 → o.doneIn g = false → s.sliceHeld g (16 + op) = false →
    o.kind = .sanitizeBlock → s.nvm.sanPhase = 2 →
    exec (.slice op g) s = .next (s.eraseSlice op g o)) ∧
  (∀ (s : State) (op : Nat) (g : Grove) (o : SlicedOp), sget s.nvm.ops op = some o → s.mediaRuns = true → s.dev.phase = .running →
    o.begun = true → s.groveRestarting g = false → o.left ≠ 0 → s.sliceHeld g (16 + op) = true →
    exec (.slice op g) s = .next s) ∧
  (∀ (s : State) (op : Nat) (g : Grove) (o : SlicedOp), sget s.nvm.ops op = some o → s.mediaRuns = true → s.dev.phase = .running →
    o.begun = true → s.groveRestarting g = false → o.left = 0 → (o.kind ≠ .delete ∨ s.holdsSegs o.nsids = none) →
    exec (.slice op g) s = .next (s.opCheck op)) ∧
  (∀ (s : State) (op : Nat) (g : Grove) (o : SlicedOp), sget s.nvm.ops op = some o → s.mediaRuns = true → s.dev.phase = .running →
    o.begun = true → s.groveRestarting g = false → o.left = 0 → o.kind = .delete → (s.holdsSegs o.nsids).isSome = true →
    exec (.slice op g) s = .next (s.segSlice op g o))

/-- The DMA engines (01 R32; 02 R48; 04 R103 to R137; 03 R81; 11 R346): a context with an engine runs its chain by its own kind and policy and
ends, or waits for its token; one that firmware starts takes a free engine; a bad descriptor and a failed context store end it; a token answered
lets what waits for it go on, and one whose source still has writes that are held, or that a dump overtakes, is not answered; the first request
that can be met gets its cords; a gather steps through its windows; a host read that fails fails its command. -/
def Obligations.DataMovementDoes : Prop :=
  (∀ (s : State) (ctx : Fin 256) (c : CtxS) (chain : List DmaDesc) (parity : ParityEvent) (t : State) (fence notify : Bool), s.fwRuns = true →
    (sget s.land.ctxs ctx.val).isSome = true → s.ctxFor ctx.val chain = c → c.fence = false → c.engine.isSome = true →
    chainOf ctx.val chain = true → parity ≠ .contextStore →
    runChain (!c.writes) c.forward chain (s.readErrors parity) = (t, .ran fence notify) →
    (sget (t.parity ctx.val c.tag parity).land.ctxs ctx.val).isSome = true →
    exec (.dmaContextComplete ctx chain parity) s =
      .next ((t.parity ctx.val c.tag parity).chainEnds ctx.val c.tag c.engine (fence || s.fenced c) notify c.forward)) ∧
  (∀ (s : State) (ctx : Fin 256) (chain : List DmaDesc) (parity : ParityEvent) (t : State) (fence notify : Bool), s.fwRuns = true →
    sget s.land.ctxs ctx.val = none → chain ≠ [] → (s.land.freeEngine (!chainReads chain)).isSome = true → chainOf ctx.val chain = true →
    parity ≠ .contextStore → runChain (chainReads chain) (!s.retries) chain (s.readErrors parity) = (t, .ran fence notify) →
    exec (.dmaContextComplete ctx chain parity) s =
      .next ((t.parity ctx.val (chainOwner chain) parity).chainEnds ctx.val (chainOwner chain) (s.land.freeEngine (!chainReads chain)) fence
        notify (!s.retries))) ∧
  (∀ (s : State) (ctx : Fin 256) (c : CtxS) (chain : List DmaDesc) (parity : ParityEvent) (t : State) (d : DmaDesc), s.fwRuns = true →
    (sget s.land.ctxs ctx.val).isSome = true → s.ctxFor ctx.val chain = c → c.fence = false → c.engine.isSome = true →
    chainOf ctx.val chain = true → parity ≠ .contextStore →
    runChain (!c.writes) c.forward chain (s.readErrors parity) = (t, .bad d) →
    exec (.dmaContextComplete ctx chain parity) s = .next (t.descError ctx.val c.tag)) ∧
  (∀ (s : State) (ctx : Fin 256) (c : CtxS) (chain : List DmaDesc), s.fwRuns = true → (sget s.land.ctxs ctx.val).isSome = true →
    s.ctxFor ctx.val chain = c → exec (.dmaContextComplete ctx chain .contextStore) s = .next (s.contextParity ctx.val c.tag)) ∧
  (∀ (s : State) (k : TokenFor), (s.tokenSources k).any s.writesHeld = true ∨ s.plp.dumping = true → exec (.orderingToken k) s = .next s) ∧
  (∀ (s : State) (ctx : Fin 256) (c : CtxS), (s.tokenSources (.context ctx)).any s.writesHeld = false → s.plp.dumping = false →
    sget s.land.ctxs ctx.val = some c → c.fence = true →
    exec (.orderingToken (.context ctx)) s = .next ((s.reportDone ctx.val c.notify).ctxDone ctx.val)) ∧
  (∀ (s : State) (tag : Nat), (s.tokenSources (.writeData tag)).any s.writesHeld = false → s.plp.dumping = false →
    exec (.orderingToken (.writeData tag)) s = .next ((s.land.fencedOf tag).foldl State.tokenAt s)) ∧
  (∀ (s : State) (src : DramSource), s.writesHeld src = false → s.plp.dumping = false → exec (.orderingToken (.source src)) s =
    .next { s with dram := { s.dram with tokens := s.dram.tokens.filter (· != src) } }) ∧
  (∀ (s : State) (r : CordReq) (own lpn : Nat), s.nextShare = some (r, own) → r.user = .lease lpn →
    exec .cordGrant s = .next ((State.grant { s with land := { s.land with waiting := s.land.waiting.erase r } } r own).sealPage lpn)) ∧
  (∀ (s : State) (r : CordReq) (own k : Nat), s.nextShare = some (r, own) → r.user = .tag k →
    exec .cordGrant s =
      .next (((State.grant { s with land := { s.land with waiting := s.land.waiting.erase r } } r own).pullData k).readArrived k)) ∧
  (∀ (s : State) (tag : Nat) (e : TagE) (f : GatherFields) (g : GatherS) (x : NsS), sget s.host.tags tag = some e →
    e.cmd = .gatherRead f → e.gather = some g → s.nvm.ns f.nsid.toNat = some x → s.gatherReady tag e = true →
    exec (.gatherWindow tag) s = .next (s.stepGather tag e f x g)) ∧
  (∀ (s : State) (r : HostRead), exec (.poisonedCompletion r) s = .next (s.hostReadFails r .poisonedTlp)) ∧
  (∀ (s : State) (r : HostRead), exec (.completionTimeout r) s = .next (s.hostReadFails r .completionTimeout))


/-! ## The map and its leases (05) -/

/-- Leaf misses and leases (01 R21, R22; 05 R167 to R171): a miss of a page on flash makes room and is served; the accesses of a lease end as
its window says, a copy that passes every check of R169 being cached and any other discarded; a lease that waits for its last access ends with
it; a grove whose cores restart serves none of this. -/
def Obligations.LeafAndLeaseRowsDo : Prop :=
  (∀ (s : State) (dgn lpn : Nat) (p : Port) (g : LeafPage), s.map.pageOf dgn = some lpn → sget s.map.pages lpn = some g → s.fwRuns = true →
    g.cached = false → s.missServed lpn = false → s.groveRestarting (groveOf dgn) = false →
    exec (.leafMiss dgn p) s = .next ((State.evictOne { s with map := s.map.noteMiss lpn p }).serveMiss lpn p g)) ∧
  (∀ (s : State) (lpn : Nat) (p : Port) (w : Nat × Nat × Nat), s.groveRestarting (groveOf lpn) = false → s.nvm.writer lpn = some p →
    (s.nvm.lease p).writes lpn = some w → s.land.holds (.lease lpn) = true →
    exec (.leaseWriteBackDone lpn) s = .next ((s.writeBackDone p w).leaseOver p)) ∧
  (∀ (s : State) (lpn : Nat) (p : Port) (g : LeafPage) (b : Block), s.groveRestarting (groveOf lpn) = false → s.nvm.fetcher lpn = some p →
    sget s.map.pages lpn = some g → g.leased = true → g.cached = false → s.map.accepts lpn g b = true →
    exec (.leaseFetchDone lpn (some b)) s = .next ((s.fetchOk p lpn).leaseOver p)) ∧
  (∀ (s : State) (lpn : Nat) (p : Port) (g : LeafPage) (r : Option Block), s.groveRestarting (groveOf lpn) = false →
    s.nvm.fetcher lpn = some p → sget s.map.pages lpn = some g → g.leased = true → g.cached = false →
    (∀ b, r = some b → s.map.accepts lpn g b = false) →
    exec (.leaseFetchDone lpn r) s = .next ((s.discardLease p lpn).leaseOver p)) ∧
  (∀ (s : State) (lpn : Nat) (p : Port) (g : LeafPage) (r : Option Block), s.groveRestarting (groveOf lpn) = false →
    s.nvm.fetcher lpn = some p → sget s.map.pages lpn = some g → (g.leased = false ∨ g.cached = true) →
    exec (.leaseFetchDone lpn r) s = .next ((s.fetchStale p lpn).leaseOver p)) ∧
  (∀ (s : State) (p : Port), (s.nvm.lease p).state = .revoking → (s.nvm.lease p).writing.isEmpty = true →
    (s.nvm.lease p).fetching.isEmpty = true → exec (.leaseRevokeDone p) s = .next (s.endLease p ((s.nvm.lease p).ending.getD 1))) ∧
  (∀ (s : State) (lpn : Nat) (r : Option Block), s.groveRestarting (groveOf lpn) = true →
    exec (.leaseWriteBackDone lpn) s = .next s ∧ exec (.leaseFetchDone lpn r) s = .next s)

/-- A lease that ends (05 R166, R171): its state is ENDED with the cause, and nothing of it is resident or under way. -/
def Obligations.LeaseEnds : Prop :=
  ∀ (s : State) (p : Port) (cause : Nat), (s.nvm.lease p).state = .active → (s.nvm.lease p).revokeTag = none →
    ((s.endLease p cause).nvm.lease p).state = .ended ∧ ((s.endLease p cause).nvm.lease p).endCause = cause ∧
    ((s.endLease p cause).nvm.lease p).slots = [] ∧ ((s.endLease p cause).nvm.lease p).writing = [] ∧
    ((s.endLease p cause).nvm.lease p).fetching = []

/-- The journal, checkpoints and rebuilding (05 R155 to R165): the oldest group of a grove commits while the ring has room and what it lets go
on goes on, and a half that is full is programmed to the map log; a generation starts, copies its units one slice each, and ends with its
root; the wear table goes after it; a grove's map is rebuilt warm where its control data is sound and its image is still in DRAM. -/
def Obligations.JournalRowsDo : Prop :=
  (∀ (s t : State) (g : Grove) (x : CommitGroup) (rest : List CommitGroup), (s.map.grove g).groups = x :: rest →
    s.repairFirst g x = false → s.mayCommit g = true →
    State.commitGroup { s with map := s.map.modGrove g (fun m => { m with groups := rest }) } g x = t →
    (t.map.grove g).ring.length ≤ 2 * halfRing →
    exec (.journalCommitDone g) s = .next ((t.startCompact g).spill g).resumeReads) ∧
  (∀ (s : State) (g : Grove) (x : CommitGroup) (rest : List CommitGroup), (s.map.grove g).groups = x :: rest →
    s.repairFirst g x = false → s.mayCommit g = false → s.groveRestarting g = false →
    exec (.journalCommitDone g) s = .next (s.spill g)) ∧
  (∀ (s : State) (g : Grove) (x : CommitGroup) (rest : List CommitGroup), (s.map.grove g).groups = x :: rest →
    s.repairFirst g x = true → exec (.journalCommitDone g) s = .next s) ∧
  (∀ (s t : State) (g : Grove), s.mediaRuns = true → s.groveRestarting g = false → s.dev.mapDone.getLsbD g.val = true →
    (s.sliceHeld g 0 = false ∨ (s.map.grove g).logHigh = true) → s.spill g = t → (t.map.grove g).gen = none →
    (t.map.grove g).wearLeft = [] → (t.map.grove g).room = true →
    exec (.checkpointSlice g) s = .next (State.sliceEnds { t with map := t.map.genStart g } g 0)) ∧
  (∀ (s t : State) (g : Grove) (i : Nat) (rest : List Nat), s.mediaRuns = true → s.groveRestarting g = false →
    s.dev.mapDone.getLsbD g.val = true → (s.sliceHeld g 0 = false ∨ (s.map.grove g).logHigh = true) → s.spill g = t →
    (t.map.grove g).gen = none → (t.map.grove g).wearLeft = i :: rest →
    exec (.checkpointSlice g) s = .next ((t.placeUnit g 5 i).sliceEnds g 0)) ∧
  (∀ (s t : State) (g : Grove) (x : GenS) (u : Nat) (rest : List Nat), s.mediaRuns = true → s.groveRestarting g = false →
    s.dev.mapDone.getLsbD g.val = true → (s.sliceHeld g 0 = false ∨ (s.map.grove g).logHigh = true) → s.spill g = t →
    (t.map.grove g).gen = some x → x.units = u :: rest →
    exec (.checkpointSlice g) s = .next ((t.genUnit g u).sliceEnds g 0)) ∧
  (∀ (s t : State) (g : Grove) (x : GenS) (p : Ploc), s.mediaRuns = true → s.groveRestarting g = false →
    s.dev.mapDone.getLsbD g.val = true → (s.sliceHeld g 0 = false ∨ (s.map.grove g).logHigh = true) → s.spill g = t →
    (t.map.grove g).gen = some x → x.units = [] → t.unitsPending g = false → x.root = some p →
    exec (.checkpointSlice g) s = .next ((t.genEnd g x.start p).sliceEnds g 0)) ∧
  (∀ (s : State) (g : Grove) (i : RebuildInput) (w : Bool), (i.controlOk && (s.map.grove g).inDram && (s.map.grove g).ctlGood) = w →
    s.mayRebuild g w = true → exec (.mapRebuild g i) s = .next (s.rebuildGrove g w i))

/-! ## Placement and media (06) -/

/-- Windrow sets (06 R181, R185 to R188; 07 R233; 09 R282): a stand's data is placed in its write point; the parity member is transferred after the
last data member, and where that member is absent the set fails; a set is forced after its waiting time, with PLP not armed the short one and
armed the long one; an idle write point closes its row block; a group too old is placed and its sets forced. -/
def Obligations.PlacementRowsDo : Prop :=
  (∀ (s t : State) (st : StandNo) (d : DomId), s.mediaRuns = true → s.readySets st .hot = t → t.nextDom st = some d →
    (t.hotCands st).isEmpty = false →
    exec (.windrowSetPlacement st .hot) s = .next ((t.noteDom st d).placeIn st .hot d)) ∧
  (∀ (s t : State) (st : StandNo) (d : DomId), s.mediaRuns = true → s.tidyCopies.readySets st .cold = t →
    (t.domsFor st).find? (fun d => !(t.coldCands st d).isEmpty && !t.placementWaits d.grove) = some d → t.strangerCopies st = false →
    exec (.windrowSetPlacement st .cold) s = .next (t.placeIn st .cold d)) ∧
  (∀ (s : State) (st : StandNo), s.mediaRuns = true →
    exec (.windrowSetPlacement st .map) s = .next (s.readySets st .map)) ∧
  (∀ (s : State) (n : Nat) (w : WSet), s.media.wset n = some w → w.started = true → w.parityDone = false →
    (s.dataMembers w).all (fun c => w.transferred.contains c) = true →
    (s.memberPresent w.rb (s.parityOf w.rb) = true → exec (.parityTransfer n) s = .next (State.issueProgram
      { s with media := s.media.modSet n (fun x => { x with parityDone := true }) } n w (s.parityOf w.rb))) ∧
    (s.memberPresent w.rb (s.parityOf w.rb) = false → exec (.parityTransfer n) s = .next (s.failSet n))) ∧
  (∀ (s : State) (n : Nat) (w : WSet), s.media.wset n = some w → s.mediaRuns = true → s.armed = false → s.outstandingData w = true →
    w.touched + s.par P.MED_FORCE_WAIT_US * 1000 ≤ s.now →
    exec (.forceWaitExpiry n) s = .next (s.forceSet n (fun q => s.outstanding q))) ∧
  (∀ (s : State) (n : Nat) (w : WSet), s.media.wset n = some w → s.mediaRuns = true → (s.armed = true ∨ w.cls ≠ .hot) →
    w.touched + s.par P.MED_IDLE_FORCE_MS * 1000000 ≤ s.now →
    exec (.idleForceExpiry n) s = .next (s.forceSet n)) ∧
  (∀ (s : State) (st : StandNo) (k : WpClass) (d : DomId) (rb : Nat), (s.media.point st k d).rb = some rb → s.fwRuns = true →
    (s.media.point st k d).lastUse + s.par P.MED_OPEN_IDLE_S * 1000000000 ≤ s.now →
    exec (.openIdleClose st k d) s = .next (s.closeRow rb)) ∧
  (∀ (s : State) (q : Dword) (g : CGroup) (n : NsS) (d : DomId), sget s.cache.groups q.toNat = some g → s.mediaRuns = true →
    g.visible = true → 1073741824 ≤ (s.cache.nextGseq - q).toNat → s.nvm.ns g.nsid = some n →
    (s.domsFor n.stand).find? (fun d => !s.placementWaits d.grove && !(s.media.point n.stand .hot d).waiting) = some d →
    exec (.gseqAgeLimit q) s = .next ((s.placeIn n.stand .hot d).forceSets (fun w => w.holdsGroup [q]) (· == q)))

/-- Thinning, erasing and patrolling (06 R192 to R203; 08 R262; 10 R314; 03 R94): a victim in hand for relocation comes first, else the lowest row block to
relocate is taken, and neither keeps the gap of slices; below that rung a slice is held back by the gap and by the governor, and the slice
that runs starts the next gap; a row block that no read needs is erased; a patrol starts over the row blocks that hold data, and records
once that it is late. -/
def Obligations.ThinningRowsDo : Prop :=
  (∀ (s : State) (d : DomId) (st : StandNo) (v : Victim), s.mediaRuns = true → s.groveRestarting d.grove = false →
    s.dev.mapDone.getLsbD d.grove.val = true → s.thinsFor d st = true →
    ((s.media.domS d).victims.filter (fun v => v.why != .rebuild)).find? (fun v => v.why == .relocate || v.why == .move) = some v →
    exec (.thinningSlice d st) s = .next (s.victimSlice d v)) ∧
  (∀ (s : State) (d : DomId) (st : StandNo) (rb : Nat), s.mediaRuns = true → s.groveRestarting d.grove = false →
    s.dev.mapDone.getLsbD d.grove.val = true → s.thinsFor d st = true →
    ((s.media.domS d).victims.filter (fun v => v.why != .rebuild)).find? (fun v => v.why == .relocate || v.why == .move) = none →
    (s.relocations d).head? = some rb →
    exec (.thinningSlice d st) s = .next (s.takeVictim d st .relocate rb)) ∧
  (∀ (s : State) (d : DomId) (st : StandNo), s.mediaRuns = true → s.groveRestarting d.grove = false →
    s.dev.mapDone.getLsbD d.grove.val = true → s.firstRung d = false →
    (s.sliceHeld d.grove 1 = true ∨ s.govHolds (s.thinMode d).rung = true) → exec (.thinningSlice d st) s = .next s) ∧
  (∀ (s : State) (d : DomId) (st : StandNo), s.mediaRuns = true → s.groveRestarting d.grove = false →
    s.dev.mapDone.getLsbD d.grove.val = true → s.thinsFor d st = true → s.firstRung d = false → s.sliceHeld d.grove 1 = false →
    s.govHolds (s.thinMode d).rung = false →
    exec (.thinningSlice d st) s = .next ((s.thinningSlice d st).sliceEnds d.grove 1)) ∧
  (∀ (s : State) (r : DieRow) (n : Nat), s.mediaRuns = true → s.dev.phase = .running → s.readsOf (rbKey r.val (n % 16384)) = false →
    s.flash.erasing (rbKey r.val (n % 16384)) = false → recState (s.media.rbRec (rbKey r.val (n % 16384))) = rbErasePending →
    exec (.victimEraseStart r n) s = .next ((s.issueErases (rbKey r.val (n % 16384))).eraseCheck (rbKey r.val (n % 16384)))) ∧
  (∀ (s : State) (d : DomId), s.mediaRuns = true → s.checkDies d = [] → s.govHolds 6 = false → (s.media.domS d).disturb = [] → (s.media.domS d).cruise = [] →
    (s.media.domS d).cruiseStart = 0 →
    exec (.cruiseSlice d) s = .next { s with
        media := s.media.modDom d (fun y => { y with cruise := (s.patrolRbs d).filter (fun rb => decide (0 < s.media.programmed rb)), cruisePos := 0, cruiseStart := s.now, cruiseLate := false }) }) ∧
  (∀ (s : State) (d : DomId) (st : StandNo), s.fwRuns = true → (s.media.domS d).cruise.isEmpty = false → (s.media.domS d).cruiseLate = false →
    (s.media.domS d).cruiseStart + s.par P.MED_CRUISE_PERIOD_H * 4500000000000 ≤ s.now → d.owner = some st →
    exec (.cruiseLate d) s = .next (State.recordHw { s with
      media := s.media.modDom d (fun y => { y with cruiseLate := true }) } (srcFtl d.grove) sevWarning 0x0B02 d.grove.val st.val))

/-! ## Dies and channels (07, 08) -/

/-- Operations on the dies (08 R251, R257, R260, R262, R270, R275; 07 R215, R217, R229; 01 R22, R35): an operation that can be reached enters its queue; a poll selects
the die and reads RB_N, and a ready die's operation has ended; the bus moves one codeword of the read it is granted to, or one plane page of the program; a
decoded codeword reaches its consumer; a program and an erase report their status. -/
def Obligations.DieRowsDo : Prop :=
  (∀ (s : State) (i : Nat) (o : DieOp), s.flash.op i = some o → o.stage = .issued → s.opHeld o = false →
    (o.isRead && s.unreachable o) = false →
    exec (.dieQueueArrival i) s = .next (State.nextAction { s with flash := s.flash.enqueue i } o.key)) ∧
  (∀ (s t u : State) (ch : Chan) (die : DieIx) (rb : Bool), s.readRb ch.val rb = t →
    u = { t with flash := t.flash.select ch.val die.val } → (t.flash.chan ch.val).state = .active →
    (t.flash.die (dieKey ch.val die.val)).used = true → (t.flash.die (dieKey ch.val die.val)).retraining = false →
    exec (.dieStatusPoll ch die ⟨.ready, rb⟩) s =
      .next ((u.pollReady (dieKey ch.val die.val)).nextAction (dieKey ch.val die.val)) ∧
    exec (.dieStatusPoll ch die ⟨.busy, rb⟩) s = .next (u.nextAction (dieKey ch.val die.val))) ∧
  (∀ (s : State) (ch : Chan) (die : DieIx) (i : Nat) (o : DieOp) (rest : List (Nat × DieOp)),
    s.flash.ops.filter (fun e => e.2.key == dieKey ch.val die.val && e.2.stage == .onDie && !e.2.suspended &&
      !(s.flash.die (dieKey ch.val die.val)).retraining && decide (busyLimit e.2 ≤ e.2.ran + (s.now - e.2.since))) = (i, o) :: rest →
    s.resetHeld (dieKey ch.val die.val) i false = false →
    exec (.readyBusyTimeout ch die false) s = .next ((State.noteUpset
      { s with flash := s.flash.resetTarget (dieKey ch.val die.val) } ch.val die.val 2).failDie ch.val die.val)) ∧
  (∀ (s : State) (ch : Chan) (i : Nat) (o : DieOp), (s.flash.chan ch.val).state = .active → s.nextTransfer ch.val = some i →
    s.flash.op i = some o → o.isRead = true → o.moved + 1 < o.slots.length →
    exec (.busArbitrationPoint ch false) s = .next { s with
      flash := (s.flash.select ch.val o.die.val).modOp i (fun x => { x with moved := x.moved + 1 }) }) ∧
  (∀ (s : State) (ch : Chan) (i : Nat) (o : DieOp), (s.flash.chan ch.val).state = .active → s.nextTransfer ch.val = some i →
    s.flash.op i = some o → o.isRead = true → o.slots.length ≤ o.moved + 1 →
    exec (.busArbitrationPoint ch false) s =
      .next (State.readMoved { s with flash := (s.flash.select ch.val o.die.val).offBus ch i } i o)) ∧
  (∀ (s : State) (ch : Chan) (i : Nat) (o : DieOp) (dqsLoss : Bool), (s.flash.chan ch.val).state = .active → s.nextTransfer ch.val = some i →
    s.flash.op i = some o → o.isRead = false →
    exec (.busArbitrationPoint ch dqsLoss) s =
      .next (State.movePage { s with flash := s.flash.select ch.val o.die.val } ch i o)) ∧
  (∀ (s : State) (i slot n lane : Nat) (o : DieOp), s.flash.op i = some o → o.stage = .decoding → o.left.contains slot = true →
    s.opHeld o = false → n < 32 → s.par P.MED_REWRITE_THRESHOLD_PCT * s.flash.capability o.rb ≥ 100 * n →
    exec (.hardDecodeDone i slot (.decoded n lane)) s = .next ((s.track o).recovered i slot)) ∧
  (∀ (s : State) (i slot : Nat) (o : DieOp), s.flash.op i = some o → o.stage = .decoding → o.left.contains slot = true →
    s.opHeld o = false → exec (.hardDecodeDone i slot .failed) s = .next (s.climb i slot)) ∧
  (∀ (s t : State) (i slot : Nat) (o : DieOp), s.flash.softBusy.contains (i, slot) = true → s.flash.op i = some o →
    s.opHeld o = false →
    (State.track { s with flash := { s.flash with softBusy := s.flash.softBusy.filter (· != (i, slot)) } } o).recovered i slot = t →
    exec (.softDecodeDone i slot true) s = .next { t with flash := feedSoft 16 t.flash }) ∧
  (∀ (s : State) (i n : Nat) (o : DieOp), s.flash.op i = some o → o.kind = .progSlc → o.stage = .ended →
    s.opHeld o = false → o.why = .program n →
    exec (.programDone i true) s = .next ((State.verified { (s.dropOp i) with
      flash := (s.dropOp i).flash.modDie o.key (fun d => { d with recent := d.recent ++ [(o.block, o.page)] }) } n (o.ch.val % 8)).nextAction o.key)) ∧
  (∀ (s : State) (i : Nat) (o : DieOp), s.flash.op i = some o → o.kind = .erase → o.stage = .ended →
    s.opHeld o = false → s.memberPresent o.rb (o.ch.val % 8) = true →
    exec (.eraseDone i true) s = .next (((s.dropOp i).eraseCheck o.rb).nextAction o.key)) ∧
  (∀ (s : State) (i : Nat) (o : DieOp), s.flash.op i = some o → o.kind = .erase → o.stage = .ended →
    s.opHeld o = false →
    exec (.eraseDone i false) s = .next ((State.eraseCheck (State.dropOp
      { s with media := { s.media with eraseFails := addOnce (o.ch.val, o.rb) s.media.eraseFails } } i) o.rb).nextAction o.key))

/-- Channels (07 R213 to R240): a channel in training runs the present step of Table 7-4, after it has been identified; once losses cut short are
completed; without an answer it is retired with RCAUSE 04h; a due check of an idle die goes slice by slice, and its last slice passes, starts a live retrain, or is an upset;
a live retrain goes slice by slice and ends with its windows; a third stuck reading retires the channel with RCAUSE 01h; a rebuild first
writes the checkpoint units on the lost member again, and an empty bitmap ends it. -/
def Obligations.ChannelRowsDo : Prop :=
  (∀ (s : State) (ch : Chan) (as : List DieAnswer) (rs : List StepReading), s.fwRuns = true → (s.flash.chan ch.val).state = .training →
    (s.flash.chan ch.val).identified = true →
    exec (.channelTraining ch as rs) s = .next ((s.rateFallback ch.val).trainStep ch.val rs)) ∧
  (∀ (s : State) (ch : Chan) (as : List DieAnswer) (rs : List StepReading), s.fwRuns = true → (s.flash.chan ch.val).state = .training →
    (s.flash.chan ch.val).identified = false → s.lowerDone ch.val = true → answering as ≠ [] →
    exec (.channelTraining ch as rs) s =
      .next ((((s.identify ch.val as).finishLosses ch.val).rateFallback ch.val).trainStep ch.val rs)) ∧
  (∀ (s : State) (ch : Chan) (as : List DieAnswer) (rs : List StepReading), s.fwRuns = true → (s.flash.chan ch.val).state = .training →
    (s.flash.chan ch.val).identified = false → s.lowerDone ch.val = true → answering as = [] →
    exec (.channelTraining ch as rs) s = .next (s.retireChannel ch.val 4)) ∧
  (∀ (s : State) (ch : Chan) (die : DieIx) (k : Nat) (o : DriftOutcome), k = dieKey ch.val die.val → s.driftMay ch.val die.val = true →
    (s.flash.die k).drift + 1 < s.driftSlices →
    exec (.driftTracking ch die o) s = .next { s with
      flash := (s.flash.select ch.val die.val).modDie k (fun d => { d with drift := d.drift + 1 }) }) ∧
  (∀ (s : State) (ch : Chan) (die : DieIx) (k : Nat) (x : FlashS), k = dieKey ch.val die.val → s.driftMay ch.val die.val = true →
    s.driftSlices ≤ (s.flash.die k).drift + 1 →
    x = (s.flash.select ch.val die.val).modDie k (fun d => { d with drift := 0, lastCheck := s.now }) →
    exec (.driftTracking ch die .pass) s = .next { s with flash := x.passed k } ∧
    exec (.driftTracking ch die .offsetFails) s = .next { s with
      flash := (x.beginLive k).modDie k (fun d => { d with check := true }) }) ∧
  (∀ (s : State) (ch : Chan) (die : DieIx) (k : Nat), k = dieKey ch.val die.val → (s.flash.chan ch.val).state = .active →
    (s.flash.die k).retraining = true → s.l0Pending ch.val = false → (s.flash.die k).slices + 1 < 128 →
    exec (.liveRetrainSlice ch die .more) s = .next { s with
      flash := (s.flash.select ch.val die.val).modDie k (fun d => { d with slices := d.slices + 1 }) }) ∧
  (∀ (s : State) (ch : Chan) (die : DieIx) (k : Nat) (r w : List (Nat × Nat)), k = dieKey ch.val die.val →
    (s.flash.chan ch.val).state = .active → (s.flash.die k).retraining = true → s.l0Pending ch.val = false →
    (s.eyesOpen r = true → s.eyesOpen w = true →
      exec (.liveRetrainSlice ch die (.ended r w)) s = .next (s.livePasses ch.val k r w)) ∧
    ((s.eyesOpen r = false ∨ s.eyesOpen w = false) →
      exec (.liveRetrainSlice ch die (.ended r w)) s = .next (s.liveFails ch.val k)) ∧
    (128 ≤ (s.flash.die k).slices + 1 → exec (.liveRetrainSlice ch die .more) s = .next (s.liveFails ch.val k))) ∧
  (∀ (s : State) (ch : Chan), (s.flash.chan ch.val).state = .active → (s.flash.chan ch.val).stuck = 2 →
    exec (.padMonitorCheck ch true) s = .next (State.retireChannel
      { s with flash := s.flash.modChan ch.val (fun c => { c with stuck := c.stuck + 1 }) } ch.val 1)) ∧
  (∀ (s : State) (ch : Chan), (s.flash.chan ch.val).state = .active →
    exec (.padMonitorCheck ch false) s = .next { s with flash := s.flash.modChan ch.val (fun c => { c with stuck := 0 }) }) ∧
  (∀ (s : State) (g : Grove), s.mediaRuns = true → (s.flash.grove g.val).rebuild = true → (s.flash.grove g.val).bmvalid = true →
    (List.range 8).any (fun c => (s.flash.chan (g.val * 8 + c)).state == .training) = false → s.groveRestarting g = false →
    s.lostUnits.any (fun x => x.1 == g.val) = false → lowestOf (s.flash.grove g.val).bitmap = none →
    exec (.rebuildSlice g) s = .next { s with flash := s.flash.modGrove g.val (fun x => { x with rebuild := false }) }) ∧
  (∀ (s : State) (g : Grove), s.mediaRuns = true → (s.flash.grove g.val).rebuild = true → (s.flash.grove g.val).bmvalid = true →
    (List.range 8).any (fun c => (s.flash.chan (g.val * 8 + c)).state == .training) = false → s.groveRestarting g = false →
    s.lostUnits.any (fun x => x.1 == g.val) = true → exec (.rebuildSlice g) s = .next s.redoUnits) ∧
  (∀ (s : State) (g : Grove) (bit : Nat) (v : Victim), s.mediaRuns = true → (s.flash.grove g.val).rebuild = true →
    (s.flash.grove g.val).bmvalid = true →
    (List.range 8).any (fun c => (s.flash.chan (g.val * 8 + c)).state == .training) = false → s.groveRestarting g = false →
    s.lostUnits.any (fun x => x.1 == g.val) = false → lowestOf (s.flash.grove g.val).bitmap = some bit →
    (s.media.domS (s.domOf (g.val * 16 + bit / 16384))).victims.find? (fun v => v.rb == rbKey (g.val * 16 + bit / 16384) (bit % 16384)) = some v →
    exec (.rebuildSlice g) s = .next (s.victimSlice (s.domOf (g.val * 16 + bit / 16384)) v))

/-! ## Power-loss protection (09) -/

/-- The capacitor test and the dump (09 R286 to R300): a test that is due starts, and ends with what its discharge time says; PWR_FAIL_N falling
starts the filter time and stops erases; a low too short has started nothing; the dump goes through its stages; a deferred reset takes effect;
the write cache's groups are entered again. -/
def Obligations.PowerLossRowsDo : Prop :=
  (∀ (s : State) (c : CapCause) (h : Bool), s.testDue c = true → exec (.capacitorTestStart c h) s = .next (s.startTest h)) ∧
  (∀ (s : State) (t : Nat), s.plp.testing = true → s.fwRuns = true → s.par P.PLP_TEST_MIN_MS ≤ t → t ≤ s.par P.PLP_TEST_MAX_MS →
    exec (.huLowRise t) s = .next (s.testEnds 1 t)) ∧
  (∀ (s : State) (t : Nat), s.plp.testing = true → s.fwRuns = true → t < s.par P.PLP_TEST_MIN_MS →
    exec (.huLowRise t) s = .next (s.testEnds 2 t)) ∧
  (∀ (s : State), s.plp.testing = true → s.fwRuns = true →
    exec .capacitorTestTimeout s = .next (s.testEnds 3 (s.par P.PLP_TEST_MAX_MS))) ∧
  (∀ (s : State), s.plp.pwrFailN = true → s.pwr.entering = false →
    exec .pwrFailNFall s = .next { s with plp := { s.plp with pwrFailN := false, testing := false, filtering := true, fallAt := s.now }
                                          flash := s.flash.stopErases s.now }) ∧
  (∀ (s t : State), s.plp.pwrFailN = false → { s with plp := { s.plp with pwrFailN := true, filtering := false } } = t →
    (t.mediaRuns = false → exec .pwrFailNRise s = .next t) ∧
    (t.mediaRuns = true → exec .pwrFailNRise s = .next ((List.finRange 8).foldl (fun a g => a.startWaiting g)
      ((t.flash.dies.map Prod.fst).foldl (fun a k => a.nextAction k) t)))) ∧
  (∀ (s : State), s.plp.dumping = false → s.dumpMayBegin = true → exec .powerLossDump s = .next s.dropUpdate.dropHandover.dumpBegin) ∧
  (∀ (s : State), s.plp.dumping = true → s.plp.hdrDone = false → s.headersOut = false → exec .powerLossDump s = .next s.dumpHeaders) ∧
  (∀ (s : State), s.plp.dumping = true → (s.plp.hdrDone = true ∨ s.headersOut = true) → exec .powerLossDump s = .next s.dumpSlotsOut.dumpHalt.afterDump) ∧
  (∀ (s : State), s.dev.deferredPin = true → s.dev.deferredAt + 30000000 ≤ s.now → exec .deferredResetTimeout s = .next s.takePin) ∧
  (∀ (s : State) (d : ReplayDamage), s.fwRuns = true → s.dev.phase = .booting → s.dram.ready = true → 2 ≤ s.dram.filled →
    s.dev.mapDone = 255 → s.dev.replayDone = false → s.plp.replayBegun = true →
    exec (.writeCacheReplay d) s = .next (s.replayGroups d))


/-! ## Parameters and the Naile port (16, 18) -/

/-- Action parameters (18 R498): a write that RECONFIG lets through and the action does not refuse is journaled, carried out and answered; one that
the action refuses is rejected with its own ID. -/
def Obligations.ActionsDo : Prop :=
  (∀ (s : State) (f : Frame) (v : Nat), s.takesAction f P.MAP_LEASE_REKEY v →
    exec (.mapLeaseRekey f v) s = .next ((s.acceptFrame.acceptRecord.newLeaseKey).naileOk f 0x02 1 0)) ∧
  (∀ (s : State) (f : Frame) (v : Nat), s.takesAction f P.MED_READ_ONLY_RELEASE v → s.acceptFrame.releaseHeld v = false →
    exec (.medReadOnlyRelease f v) s = .next ((s.acceptFrame.acceptRecord.releaseWrites v).naileOk f 0x02 1 0)) ∧
  (∀ (s : State) (f : Frame) (v : Nat), s.takesAction f P.MED_READ_ONLY_RELEASE v → s.acceptFrame.releaseHeld v = true →
    exec (.medReadOnlyRelease f v) s = .next (s.acceptFrame.rejected f P.MED_READ_ONLY_RELEASE)) ∧
  (∀ (s : State) (f : Frame) (v : Nat), s.takesAction f P.CHN_DEGRADED_CLEAR v → (s.acceptFrame.flash.grove (v % 8)).rebuild = false →
    exec (.chnDegradedClear f v) s = .next (((actDegraded v).act s.acceptFrame.acceptRecord).naileOk f 0x02 1 0)) ∧
  (∀ (s : State) (f : Frame) (v : Nat), s.takesAction f P.CHN_DEGRADED_CLEAR v → (s.acceptFrame.flash.grove (v % 8)).rebuild = true →
    exec (.chnDegradedClear f v) s = .next (s.acceptFrame.rejected f P.CHN_DEGRADED_CLEAR)) ∧
  (∀ (s : State) (f : Frame) (v : Nat), s.takesAction f P.DRM_RETRAIN_NOW v →
    exec (.drmRetrainNow f v) s = .next (((actRetrain v).act s.acceptFrame.acceptRecord).naileOk f 0x02 1 0)) ∧
  (∀ (s : State) (f : Frame) (v : Nat) (h : Bool), s.takesAction f P.PLP_TEST_NOW v →
    exec (.plpTestNow f v h) s = .next ((s.acceptFrame.acceptRecord.startTest h).naileOk f 0x02 1 0)) ∧
  (∀ (s : State) (f : Frame) (v : Nat), s.takesAction f P.MGT_HANDOVER_NOW v → s.acceptFrame.mgmt.stby ≠ 2 →
    exec (.mgtHandoverNow f v) s = .next ((s.acceptFrame.acceptRecord.askHandover hoOperator none).naileOk f 0x02 1 0)) ∧
  (∀ (s : State) (f : Frame) (v : Nat), s.takesAction f P.MGT_HANDOVER_NOW v → s.acceptFrame.mgmt.stby = 2 →
    exec (.mgtHandoverNow f v) s = .next (s.acceptFrame.rejected f P.MGT_HANDOVER_NOW)) ∧
  (∀ (s : State) (f : Frame) (v : Nat), s.takesAction f P.SEC_LIFECYCLE_ADVANCE v →
    (s.acceptFrame.mayseal && s.acceptFrame.cfgArrayOk && s.acceptFrame.dbgArrayOk) = true →
    exec (.secLifecycleAdvance f v) s = .next ((s.acceptFrame.acceptRecord.burnSeal).naileOk f 0x02 1 0)) ∧
  (∀ (s : State) (f : Frame) (v : Nat), s.takesAction f P.SEC_LIFECYCLE_ADVANCE v →
    (s.acceptFrame.mayseal && s.acceptFrame.cfgArrayOk && s.acceptFrame.dbgArrayOk) = false →
    exec (.secLifecycleAdvance f v) s = .next (s.acceptFrame.noteConflict.rejected f P.SEC_LIFECYCLE_ADVANCE)) ∧
  (∀ (s : State) (f : Frame) (v : Nat), s.takesAction f P.SEC_SVN_COMMIT v → s.acceptFrame.fuses.svn < s.acceptFrame.mgmt.mgmtSvn →
    exec (.secSvnCommit f v) s = .next ((s.acceptFrame.acceptRecord.commitSvn).naileOk f 0x02 1 0)) ∧
  (∀ (s : State) (f : Frame) (v : Nat), s.takesAction f P.SEC_SVN_COMMIT v → s.acceptFrame.mgmt.mgmtSvn ≤ s.acceptFrame.fuses.svn →
    exec (.secSvnCommit f v) s = .next (s.acceptFrame.rejected f P.SEC_SVN_COMMIT))

/-- RECONFIG, PARAM_READ and staged values (18 R495 to R502): a well-formed record with nothing to blame is taken, whole; a record with an entry
to blame is rejected with its ID; a parameter that is there is read; a status window that is there is read; a unit takes its staged
values; a late drain is recorded. -/
def Obligations.ParameterRowsDo : Prop :=
  (∀ (s : State) (f : Frame) (r : ReconfigRec), s.takes f .reconfig → reconfigForm r = true → s.acceptFrame.refusedId r.recs = none →
    2 ≤ r.recs.length → exec (.reconfig f r) s = .next (s.acceptFrame.takeRecord f r.recs)) ∧
  (∀ (s : State) (f : Frame) (r : ReconfigRec) (x : CfgRec), s.takes f .reconfig → reconfigForm r = true →
    s.acceptFrame.refusedId r.recs = none → r.recs = [x] → actionFor x.id x.value = none →
    exec (.reconfig f r) s = .next (s.acceptFrame.takeRecord f [x])) ∧
  (∀ (s : State) (f : Frame) (r : ReconfigRec) (id : Nat), s.takes f .reconfig → reconfigForm r = true →
    s.acceptFrame.refusedId r.recs = some id → exec (.reconfig f r) s = .next (s.acceptFrame.rejected f id)) ∧
  (∀ (s : State) (f : Frame) (r : ReconfigRec), s.takes f .reconfig → reconfigForm r = false →
    exec (.reconfig f r) s = .next (s.acceptFrame.naileFail f 0 nfField 0)) ∧
  (∀ (s : State) (f : Frame) (id k : Nat) (d : PDef), s.takes f .param → paramDef id = some d → k < d.kind.count →
    exec (.paramRead f id k) s =
      .next (s.acceptFrame.naileOk f 0x01 (s.acceptFrame.paramPayload d k).1 (s.acceptFrame.paramPayload d k).2)) ∧
  (∀ (s : State) (f : Frame) (id k : Nat), s.takes f .param → paramDef id = none →
    exec (.paramRead f id k) s = .next (s.acceptFrame.naileFail f 0 nfField 0)) ∧
  (∀ (s : State) (f : Frame) (id k : Nat) (w : Nat × Nat), s.takes f .param → s.acceptFrame.window id k = some w →
    exec (.statusWindowRead f id k) s = .next (s.acceptFrame.naileOk f 0x01 w.1 w.2)) ∧
  (∀ (s : State) (f : Frame) (id k : Nat), s.takes f .param → s.acceptFrame.window id k = none →
    exec (.statusWindowRead f id k) s = .next (s.acceptFrame.naileFail f 0 nfField 0)) ∧
  (∀ (s : State) (u : Nat), s.fwRuns = true → (ofUnit u s.params.staged).isEmpty = false →
    exec (.quiescentPointApply u) s = .next (State.recheckPower { s with params := s.params.takeStaged u })) ∧
  (∀ (s : State) (id k v : Nat), s.fwRuns = true → sget s.params.staged (paramKey id k) = some v →
    exec (.drainLate id k) s = .next (s.record sevWarning 0x1403 id k))

/-- The commands of the Naile port (16 R442 to R450; 17 R481): the status byte and ERRCODE, with OVF cleared; the response; the oldest alert, which
leaves; a discarded frame; the requests that read the Tally, the health report, raw codewords and RECOVERY_STATUS; and what the requests for debug
tokens leave (14 R412, R413). -/
def Obligations.NaileRowsDo : Prop :=
  (∀ (s : State), s.responder ≠ .none →
    exec .readStatus s = .next { s with naile := { s.naile with statusOut := s.naile.statusWord, ovf := false } }) ∧
  (∀ (s : State), s.responder ≠ .none → exec .readResp s = .next { s with naile := { s.naile with respOut := s.naile.resp } }) ∧
  (∀ (s : State), s.responder ≠ .none →
    exec .readAlert s = .next { s with naile := { s.naile with alertOut := s.naile.alerts.head?, alerts := s.naile.alerts.drop 1 } }) ∧
  (∀ (s : State) (x : FrameFault), s.responder ≠ .none → (x = .busy → s.naile.busy = true) →
    exec (.writeFrame x) s = .next { s with naile := { s.naile with err := true, errcode := faultCode x } }) ∧
  (∀ (s : State) (f : Frame) (tier count start : Nat) (l : List TRec), s.takes f (.tally tier) → tier ≤ 1 → 1 ≤ count → count ≤ 128 →
    ((if tier = 0 then s.acceptFrame.tally.ring else s.acceptFrame.tally.tier).recs.filter (fromStart start)).take count = l →
    exec (.tallyRead f tier count start) s = .next (s.acceptFrame.naileOk f 0x20 (32 * l.length) (packRecs l))) ∧
  (∀ (s : State) (f : Frame), s.takes f .health →
    exec (.healthRead f 0) s = .next ((s.acceptFrame.snapshot 0).naileOk f 0x21 4096
      ((((s.acceptFrame.snapshot 0).mgmt.page 0 0).map (fun b => b.toNat)).getD 0))) ∧
  (∀ (s : State) (f : Frame) (page : Nat), s.takes f .health → 1 ≤ page → page ≤ 8 →
    exec (.healthRead f page) s =
      .next (s.acceptFrame.naileOk f 0x21 4096 (((s.acceptFrame.mgmt.page 0 page).map (fun b => b.toNat)).getD 0))) ∧
  (∀ (s : State) (f : Frame) (p : Ploc) (o n : Nat), s.takes f .raw → s.acceptFrame.rawAllowed = true → plocValid p = true → 1 ≤ n → n ≤ 4092 →
    o + n ≤ s.acceptFrame.flash.cwBytes (plocRb p) → (s.acceptFrame.members (plocRb p)).contains (plocChan p) = false →
    exec (.rawDiag f p o n) s = .next (s.acceptFrame.rawOutcome f 3)) ∧
  (∀ (s : State) (f : Frame) (p : Ploc) (o n : Nat), s.takes f .raw → s.acceptFrame.rawAllowed = true → plocValid p = true → 1 ≤ n → n ≤ 4092 →
    o + n ≤ s.acceptFrame.flash.cwBytes (plocRb p) → (s.acceptFrame.members (plocRb p)).contains (plocChan p) = true →
    s.acceptFrame.suspendedOn p (fun o => o.kind == .erase && o.block == plocBlock p) = false →
    s.acceptFrame.suspendedOn p (fun o => o.isProgram && o.inWordlines p) = false →
    exec (.rawDiag f p o n) s =
      .next (s.acceptFrame.addOp (readOp p [plocPlane p * 4 + plocSlot p] 5 (.raw f o n)))) ∧
  (∀ (s : State) (f : Frame) (p : Ploc) (o n : Nat), s.takes f .raw → s.acceptFrame.rawAllowed = false →
    exec (.rawDiag f p o n) s = .next (s.acceptFrame.naileFail f 0 nfPermission 0)) ∧
  (∀ (s : State) (f : Frame), s.takes f .recovery → s.acceptFrame.dev.phase ≠ .rom →
    exec (.recoveryStatus f) s = .next (s.acceptFrame.naileOk f 0x60 64 s.acceptFrame.recoveryWord)) ∧
  (∀ (s : State) (f : Frame) (t : Byte), knownTypes.contains t.toNat = false → s.takes { f with rsvd := false } .recovery →
    exec (.unknownType f t) s = .next (s.acceptFrame.naileFail f 0 nfType 0)) ∧
  (∀ (s : State) (f : Frame), s.takes f .debug → s.acceptFrame.tokensLocked = false →
    (∃ t n, exec (.debugTokenChallenge f) s = .next t ∧ t.sec.nonce = some (n, s.acceptFrame.now) ∧
      t.naile.resp = some { seq := f.seq, typ := 0xB0, len := 32, value := n.toNat }) ∧
    (∃ t, exec (.debugTokenClose f) s = .next t ∧ t.sec.session = none ∧
      t.naile.resp = some { seq := f.seq, typ := 0xB0, len := 0, value := 0 })) ∧
  (∀ (s : State) (f : Frame) (x : DebugToken), s.takes f .debug → s.acceptFrame.tokenRefusal x = none → x.level ≠ lvRmaAuth →
    ∃ t y, exec (.debugTokenOpen f x) s = .next t ∧ t.sec.nonce = none ∧ t.sec.session = some y ∧ y.level = x.level ∧ y.perm = x.perm ∧
      y.lifetimeS = x.lifetimeS ∧ y.opened = s.acceptFrame.now)

/-- The link checks and repetitions of a Naile request (16 R443, R445), on RECOVERY_STATUS: while BUSY the frame is discarded with ERRCODE 3; a
repetition of the last executed request is not executed again and only clears ERR and ERRCODE; without a responder nothing changes. -/
def Obligations.LinkChecksHold : Prop :=
  (∀ (s : State) (f : Frame), s.responder = .none → exec (.recoveryStatus f) s = .next s) ∧
  (∀ (s : State) (f : Frame), s.responder ≠ .none → s.naile.busy = true →
    exec (.recoveryStatus f) s = .next { s with naile := { s.naile with err := true, errcode := 3 } }) ∧
  (∀ (s : State) (f : Frame), s.responder ≠ .none → s.naile.busy = false → s.naile.isRetry f = true →
    exec (.recoveryStatus f) s = .next { s with naile := { s.naile with err := false, errcode := 0 } })

/-- An answer on the Naile port (16 R445, R446; Table 16-4): it carries the request's sequence number, and TYPE plus 80h, or FEh with class, code,
parameter and DEVSTATE where the request failed; BUSY ends, and nothing outside the port changes. -/
def Obligations.AnswersOnlyAnswer : Prop :=
  ∀ (s : State) (f : Frame) (a b c : Nat),
    s.naileOk f a b c = { s with
      naile := { s.naile with
        busy := false, resp := some { seq := f.seq, typ := a + 0x80, len := b, value := c }, last := some (f.seq, f.bytes), waiting := none,
        chunk := none } } ∧
    s.naileFail f a b c = { s with
      naile := { s.naile with
        busy := false, resp := some { seq := f.seq, typ := 0xFE, len := 8, value := a + b * 2 ^ 8 + c * 2 ^ 16 + s.devState * 2 ^ 32 },
        last := some (f.seq, f.bytes), waiting := none, chunk := none } }

/-! ## Stands (10) -/

/-- STAND_CTL and what carries it out (10 R306 to R313): with no reason to refuse it, an operation happens and is answered; a CREATE with one is
answered with it; preparations and relocations end, and deletions go through their detaching and their last step. -/
def Obligations.StandRowsDo : Prop :=
  (∀ (s : State) (f : Frame) (d : StandDesc), s.takes { f with rsvd := false } .stand → s.acceptFrame.createReason f d = none →
    exec (.standCtlCreate f d) s = .next ((s.acceptFrame.createStand d).journal.recheckSpare.standAnswer f none)) ∧
  (∀ (s : State) (f : Frame) (d : StandDesc) (c : Nat), s.takes { f with rsvd := false } .stand → s.acceptFrame.createReason f d = some c →
    exec (.standCtlCreate f d) s = .next (s.acceptFrame.naileFail f 1 c 0)) ∧
  (∀ (s : State) (f : Frame) (d : StandDesc) (x : StandS), s.takes { f with rsvd := false } .stand → s.acceptFrame.modifyReason f d = none →
    s.acceptFrame.nvm.stand d.stand.val = some x →
    exec (.standCtlModify f d) s = .next ((s.acceptFrame.modifyStand d x).journal.recheckSpare.standAnswer f none)) ∧
  (∀ (s : State) (f : Frame) (d : StandDesc), s.takes { f with rsvd := false } .stand → s.acceptFrame.deleteReason f d = none →
    exec (.standCtlDelete f d) s = .next ((s.acceptFrame.startDelete d.stand.val).journal.standAnswer f none)) ∧
  (∀ (s : State) (f : Frame) (c : BitVec 24) (st : Byte) (a : AttachWord), .join c st = a → s.takes { f with rsvd := false } .stand →
    s.acceptFrame.attachReason f a = none →
    exec (.standCtlAttach f c st) s = .next (State.standAnswer (State.journal { s.acceptFrame with
      nvm := s.acceptFrame.nvm.modStand a.stand.val (fun x => { x with members := addOnce a.cntl.val x.members }) }) f none)) ∧
  (∀ (s : State) (f : Frame) (c : BitVec 24) (st : Byte) (a : AttachWord), .join c st = a → s.naile.waiting ≠ some (.standCtlDetach f c st) →
    s.takes { f with rsvd := false } .stand → s.acceptFrame.detachReason f a = none → s.acceptFrame.detachWaits a.cntl.val = false →
    exec (.standCtlDetach f c st) s = .next (s.acceptFrame.finishDetach f a.cntl a.stand)) ∧
  (∀ (s : State) (f : Frame) (d : StandDesc) (x : StandS), s.takes { f with rsvd := false } .stand → f.rsvd = false → descBare d = true →
    s.acceptFrame.nvm.stand d.stand.val = some x →
    exec (.standCtlQuery f d) s = .next (s.acceptFrame.naileOk f 0x40 64 (s.acceptFrame.standWindow d.stand x))) ∧
  (∀ (s : State) (st : StandNo) (x : StandS), s.nvm.stand st.val = some x → s.fwRuns = true → s.mgmt.runs = true → x.state = .deleting →
    x.delStep = 3 → exec (.standDeleteRun st) s = .next (s.standDetach st.val x)) ∧
  (∀ (s : State) (st : StandNo) (x : StandS), s.nvm.stand st.val = some x → s.fwRuns = true → s.mgmt.runs = true → x.state = .deleting →
    5 ≤ x.delStep → (s.nvm.nssOf st.val).isEmpty = true → exec (.standDeleteRun st) s = .next (s.standGone st.val x)) ∧
  (∀ (s : State) (st : StandNo) (x : StandS), s.nvm.stand st.val = some x → s.mgmtServes = true → x.state = .creating → s.ownDoms st = [] →
    s.settled st.val x = true → s.domsMoved x.rows = [] →
    exec (.standPreparationDone st) s = .next (State.recheckSpare (State.journal
      { s with nvm := s.nvm.modStand st.val (fun y => { y with state := .active, moving := false }) }))) ∧
  (∀ (s : State) (st : StandNo) (x : StandS), s.nvm.stand st.val = some x → s.mgmtServes = true → x.state = .changing →
    s.settled st.val x = true →
    exec (.standRelocationDone st) s = .next (State.recheckSpare (State.journal
      { s with nvm := s.nvm.modStand st.val (fun y => { y with state := .active, moving := false }) })))

/-! ## DRAM (11) -/

/-- The DRAM subsystem (11 R327 to R346): training brings DRAM up or goes one rung down; the zero fill goes on; the patrol reads a line with the
bits that come back wrong, corrects it or loses it by its syndromes, and knows a line that carries the poison pattern; an alert is recorded,
its commands are replayed, and a retrain is asked for when a command's replays are exhausted or the alerts reach their limit; a temperature
that moved far asks for a retrain; a retrain goes on after a rest, ends or stops the device; refreshes and activations are counted; a token
is asked for. -/
def Obligations.DramRowsDo : Prop :=
  (∀ (s : State), s.fwRuns = true → s.dev.phase = .booting → s.dram.ready = false →
    exec (.dramTraining []) s = .next (s.dramUp s.dramRate)) ∧
  (∀ (s : State) (c : DramCh) (l : List DramCh) (r : Nat), s.fwRuns = true → s.dev.phase = .booting → s.dram.ready = false →
    dramLower s.dramRate = some r →
    exec (.dramTraining (c :: l)) s =
      .next (State.recordHw { s with dram := { s.dram with rate := r } } srcDram sevWarning 0x1001 r)) ∧
  (∀ (s : State) (c : DramCh) (l : List DramCh), s.fwRuns = true → s.dev.phase = .booting → s.dram.ready = false →
    dramLower s.dramRate = none → exec (.dramTraining (c :: l)) s = .next (s.recordHw srcDram sevFatal 0x1002 c.val)) ∧
  (∀ (s : State), s.dramWorks = true → s.dram.filled < 4 →
    exec .dramZeroFillSlice s = .next { s with dram := { s.dram with filled := s.dram.filled + 1 } }) ∧
  (∀ (s t u : State) (line k : Nat) (err : BitVec 640), s.dramWorks = true → inTraining line = false → line < s.dramGib * 16777216 →
    { s with dram := { s.dram with scrubbed := s.dram.scrubbed + 1 } } = t → t.draw = (k, u) →
    (((sget t.dram.lines line).map Prod.snd).getD false = false →
      (readLine k err = .clean → exec (.dramScrub line err) s = .next u) ∧
      (∀ lane, readLine k err = .corrected lane → miscorrects err lane = false →
        exec (.dramScrub line err) s = .next (u.noteCorrection (u.dramDevice line lane) (u.dramRow line))) ∧
      (∀ lane, readLine k err = .corrected lane → miscorrects err lane = true →
        exec (.dramScrub line err) s = .next ((u.noteCorrection (u.dramDevice line lane) (u.dramRow line)).spoilLine line)) ∧
      (readLine k err = .uncorrectable → exec (.dramScrub line err) s = .next (u.dramLost line))) ∧
    (((sget t.dram.lines line).map Prod.snd).getD false = true →
      exec (.dramScrub line err) s = .next (if err = 0 then u else u.dramLost line))) ∧
  (∀ (s : State) (ch : DramCh) (again : List DramReq) (l : List RetryReq), s.fwRuns = true → s.dram.ready = true →
    s.dram.selfRefresh = false → s.retryAll (s.dram.chan ch).retry again = l → l.any (fun x => x.exhausted) = false →
    (s.par P.DRM_ALERT_LIMIT ≤ (s.alertsNow ch).length ∨ (s.alertsNow ch).length + 1 < s.par P.DRM_ALERT_LIMIT) →
    exec (.dramAlert ch .writeCrc again) s = .next (State.recordHw { s with
      dram := s.dram.modChan ch.val (fun c =>
        { c with alerts := s.alertsNow ch ++ [s.now], replays := c.replays + 1, retry := l, held := [], sliceEnd := min c.sliceEnd s.now }) }
      srcDram sevNotice 0x1005 ch.val 2)) ∧
  (∀ (s t : State) (ch : DramCh) (again : List DramReq) (l : List RetryReq), s.fwRuns = true → s.dram.ready = true →
    s.dram.selfRefresh = false → s.retryAll (s.dram.chan ch).retry again = l →
    (l.any (fun x => x.exhausted) = true ∨ (s.alertsNow ch).length + 1 = s.par P.DRM_ALERT_LIMIT) →
    State.recordHw { s with
      dram := s.dram.modChan ch.val (fun c =>
        { c with alerts := s.alertsNow ch ++ [s.now], replays := c.replays + 1, retry := l, held := [], sliceEnd := min c.sliceEnd s.now }) }
      srcDram sevNotice 0x1005 ch.val 1 = t →
    exec (.dramAlert ch .commandAddress again) s = .next { t with dram := t.dram.askRetrain ch }) ∧
  (∀ (s : State) (ch : DramCh) (t : Int), tempGap t (s.dram.chan ch).lastTemp < s.par P.DRM_RETRAIN_DELTA_C →
    exec (.dramTemperatureChange ch t) s = .next { s with dram := s.dram.modChan ch.val (fun c => { c with temp := t }) }) ∧
  (∀ (s : State) (ch : DramCh) (t : Int), s.dramWorks = true → (s.dram.chan ch).lastTempRetrain = none →
    s.par P.DRM_RETRAIN_DELTA_C ≤ tempGap t (s.dram.chan ch).lastTemp →
    exec (.dramTemperatureChange ch t) s = .next { s with
      dram := DramS.askRetrain (DramS.modChan (s.dram.modChan ch.val (fun c => { c with temp := t })) ch.val
        (fun c => { c with lastTempRetrain := some s.now })) ch }) ∧
  (∀ (s : State) (ch : DramCh) (o : RetrainRun) (n : Nat), s.dramWorks = true →
    (s.dram.chan ch).retrain = some n → 0 < n → s.now < (s.dram.chan ch).sliceEnd + 200000 →
    exec (.dramLiveRetrainSlice ch o) s = .next s) ∧
  (∀ (s : State) (ch : DramCh) (held : List DramSource) (n : Nat), s.dramWorks = true → (s.dram.chan ch).retrain = some n →
    (n = 0 ∨ (s.dram.chan ch).sliceEnd + 200000 ≤ s.now) →
    (n < 63 → exec (.dramLiveRetrainSlice ch ⟨.more, held⟩) s =
      .next { s with
        dram := s.dram.modChan ch.val (fun x => { x with retrain := some (n + 1), held := held, sliceEnd := s.now + 40000 }) }) ∧
    exec (.dramLiveRetrainSlice ch ⟨.done, held⟩) s = .next { s with dram := s.dram.retrained ch.val } ∧
    exec (.dramLiveRetrainSlice ch ⟨.failed, held⟩) s =
      .next (State.controlledStop { s with dram := s.dram.modChan ch.val (fun x => { x with retrain := none }) } (some ch.val))) ∧
  (∀ (s : State) (ch : DramCh) (bank : Nat) (src : DramSource), s.dram.ready = true → s.dram.selfRefresh = false →
    exec (.dramRefresh ch bank) s =
      .next { s with dram := s.dram.modChan ch.val (fun c => { c with refreshes := c.refreshes + 1 }) } ∧
    exec (.dramActivationLimit ch bank) s =
      .next { s with dram := s.dram.modChan ch.val (fun c => { c with extra := c.extra + 1 }) } ∧
    exec (.dramTokenRequest src) s = .next { s with dram := { s.dram with tokens := addOnce src s.dram.tokens } })

/-! ## Reset and boot (12), clocks and power (13) -/

/-- Reset and boot (12 R349 to R363; 09 R301): what each edge of power-on reset and RESET_N does; a RESET_N pulse shorter than 100 ns does nothing,
one of 1 µs or longer is taken, or waits for a running dump; PLL lock runs the boot order; start-up ends when every unit has finished. -/
def Obligations.ResetRowsDo : Prop :=
  (∀ (s : State), exec .powerOnResetAssert s = .next { s.clearUnits true with
    dev := { (s.clearUnits true).dev with por := true, porSeen := true, pin := s.dev.pin || s.dev.deferredPin, deferredPin := false } }) ∧
  (∀ (s : State) (k : Bool) (o : OptRead), s.dev.por = true → s.dev.pin = true →
    exec (.powerOnResetRelease k o) s = .next { s with dev := { s.dev with por := false } }) ∧
  (∀ (s : State) (k : Bool) (o : OptRead), s.dev.por = true → s.dev.pin = false →
    exec (.powerOnResetRelease k o) s = .next (State.release { s with dev := { s.dev with por := false } } k o)) ∧
  (∀ (s : State) (n : Nat), n < 100 → exec (.resetNAssert (some n)) s = .next s) ∧
  (∀ (s : State) (n : Nat), 1000 ≤ n → s.dev.pin = false → s.plp.dumping = false →
    exec (.resetNAssert (some n)) s = .next s.takePin) ∧
  (∀ (s : State) (n : Nat), 1000 ≤ n → s.dev.pin = false → s.plp.dumping = true →
    s.dev.deferredPin = false →
    exec (.resetNAssert (some n)) s =
      .next { s with dev := { s.dev with deferredPin := true, wasDeferred := true, deferredAt := s.now } }) ∧
  (∀ (s : State) (n : Nat), 1000 ≤ n → s.dev.pin = false → s.plp.dumping = true → s.dev.deferredPin = true →
    exec (.resetNAssert (some n)) s = .next { s with dev := { s.dev with deferredPin := true, wasDeferred := true } }) ∧
  (∀ (s : State) (k : Bool) (o : OptRead), s.dev.pin = true → s.dev.por = false →
    exec (.resetNRelease k o) s = .next (State.release { s with dev := { s.dev with pin := false } } k o)) ∧
  (∀ (s : State) (r : RomReads), s.dev.phase = .rom → exec (.pllLock r) s = .next ((s.findBad r.heart).romBoot r.norAnswers)) ∧
  (∀ (s : State), s.startedUp = true →
    exec .startupComplete s = .next (State.recheckPower (State.recheckSpare (State.recheckPlp { s with
      dev := { s.dev with phase := .running }, host := { s.host.ready with lastTlp := s.now } }))))

/-- Clocks, power states and wake (13 R375 to R391): CLK_CTRL, the loss of the reference clock, temperatures and the over-temperature stop, the
governor, calibration, entry into PS4 and its abandonment, what wakes the device, and that MGMT_LOST keeps the power state. -/
def Obligations.PowerRowsDo : Prop :=
  (∀ (s : State) (v : Dword), s.fwRuns = true → s.dev.clkCtrl.getLsbD 31 = true →
    exec (.clkCtrlWrite v) s = .next { s with dev := { s.dev with clkCtrl := setField s.dev.clkCtrl 4 14 (getField v 4 14) } }) ∧
  (∀ (s : State) (v : Dword), s.dev.clkCtrl.getLsbD 31 = false → getField v 4 14 ≠ 0 → exec (.clkCtrlWrite v) s = .next s) ∧
  (∀ (s : State), s.fwRuns = true → s.dev.clkCtrl.getLsbD 31 = true →
    exec .refclkLoss s = .next (State.controlledStop (State.recordHw { s with
      dev := { s.dev with refclk := false, clkCtrl := setField s.dev.clkCtrl 30 1 1 } } srcAon sevFatal 0x0101) none)) ∧
  (∀ (s : State), s.fwRuns = false → exec .refclkLoss s = .next { s with dev := { s.dev with refclk := false } }) ∧
  (∀ (s : State) (c : Int) (n : Nat), s.fwRuns = true → s.pwr.hotSince = some n → n + 1000000 ≤ s.now → 108 ≤ c →
    exec (.temperatureSample c) s = .next (State.controlledStop
      (State.recordHw { s with pwr := { s.pwr with temp := c, hotSince := some n } } srcAon sevFatal 0x0202 (tempWord c)) none)) ∧
  (∀ (s : State) (c : Int), s.fwRuns = true → c < 108 → s.thermalLevel c = s.pwr.thermal →
    exec (.temperatureSample c) s = .next { s with pwr := { s.pwr with temp := c, hotSince := none } }) ∧
  (∀ (s : State) (mw : Nat), s.pwr.ps = 1 →
    exec (.governorTick mw) s = .next (State.feedCtxs { s with pwr := { s.pwr with gov := govStep 55000 mw s.pwr.gov } })) ∧
  (∀ (s : State) (mw : Nat), s.pwr.ps = 2 →
    exec (.governorTick mw) s = .next (State.feedCtxs { s with pwr := { s.pwr with gov := govStep 30000 mw s.pwr.gov } })) ∧
  (∀ (s : State) (mw : Nat), s.pwr.ps = 0 ∨ 3 ≤ s.pwr.ps →
    exec (.governorTick mw) s = .next (State.feedCtxs { s with pwr := { s.pwr with gov := 0 } })) ∧
  (∀ (s : State), s.fwRuns = true → s.par P.CLK_AON_SOURCE = 1 → s.dev.clkCtrl.getLsbD 31 = true →
    s.pwr.calibrated + s.par P.CLK_LPO_CAL_S * 1000000000 ≤ s.now →
    exec .lpoCalibration s = .next { s with pwr := { s.pwr with calibrated := s.now } }) ∧
  (∀ (s : State), s.mgmtLost = false → s.dev.phase = .running → s.isFailed = false → s.dev.halted = false → s.pwr.ps ≠ 4 →
    s.pwr.patrol = false → s.restLinks.chooseState < 3 →
    exec .powerStateEntry s = .next s.leaveIdle) ∧
  (∀ (s : State), s.mgmtLost = false → s.dev.phase = .running → s.isFailed = false → s.dev.halted = false → s.pwr.ps ≠ 4 →
    s.pwr.patrol = false → s.restLinks.chooseState = 4 → s.restLinks.quiet = true → s.restLinks.pwr.entering = true →
    exec .powerStateEntry s = .next s.restLinks.enterPs4) ∧
  (∀ (s : State) (a : BitVec 7) (w : WakeChecks), s.matches a = true → s.asleep = true →
    exec (.smbusAddressMatch a w) s = .next { s.fullWake w with
      pwr := { (s.fullWake w).pwr with sclHeld := !wakeClean w, nackRest := false } }) ∧
  (∀ (s : State) (a : BitVec 7) (w : WakeChecks), s.matches a = false → exec (.smbusAddressMatch a w) s = .next s) ∧
  (∀ (s : State), s.pwr.sclHeld = true →
    exec .smbusMatchTimeout s = .next { s with pwr := { s.pwr with sclHeld := false, nackRest := true } }) ∧
  (∀ (s : State) (w : WakeChecks), s.asleep = true → s.pwr.patrolDue ≤ s.now →
    exec (.patrolWake w) s = .next { s.wakeUp 2 w with
      pwr := { (s.wakeUp 2 w).pwr with patrol := true, patrolFrom := s.now }, host := (s.wakeUp 2 w).host.withhold true }) ∧
  (∀ (s : State), s.mgmtLost = false → s.pwr.patrol = true → s.serving = true → s.pwr.patrolFrom + s.par P.PWR_PATROL_MAX_S * 1000000000 ≤ s.now →
    exec .patrolTimeout s = .next (s.enter 4)) ∧
  (∀ (s : State), s.mgmtLost = false → s.pwr.patrol = true → s.serving = true → (s.pwr.entering = true ∨ s.patrolWork = false) →
    exec .powerStateEntry s = .next (s.enter 4)) ∧
  (∀ (s : State), s.mgmtLost = true → exec .powerStateEntry s = .next s ∧ exec .patrolTimeout s = .next s) ∧
  (∀ (s : State) (v : Dword), s.fwRuns = true →
    exec (.pwrPadReleaseWrite v) s = .next { s with
      dev := { s.dev with
        latchFlash := s.dev.latchFlash && !v.getLsbD 0
        latchDram := s.dev.latchDram && !(v.getLsbD 1 && s.dram.ready)
        latchGpio := s.dev.latchGpio && !v.getLsbD 2 } })

/-! ## Images (16) and the Tally (17) -/

/-- Updates and commits (16 R454 to R466): a target and length that are allowed begin an update, others fail with FIELD; a chunk of the first 4 KiB
that follows the last one is taken, and one without an update fails with SEQUENCE; a sector is written, and a first failure noted, where the layout lets the area be written; an end with
every byte received and a good digest completes the area; a silent update is abandoned; and each commit does its own. -/
def Obligations.UpdateRowsDo : Prop :=
  (∀ (s : State) (f : Frame) (g n : Nat), s.takes f .image → beginOk g n = true → s.acceptFrame.nor.upd.state ≠ 1 →
    s.acceptFrame.nor.upd.state ≠ 3 →
    exec (.imageBegin f g n) s = .next (State.naileOk { s.acceptFrame with
      nor := { (s.acceptFrame.nor.steerAway (s.acceptFrame.targetArea g)) with
        upd := { Update.none with
          state := 1, area := s.acceptFrame.targetArea g, target := g, length := n, lastFrame := s.acceptFrame.now } } }
      f 0x10 1 (s.acceptFrame.targetArea g))) ∧
  (∀ (s : State) (f : Frame) (g n : Nat), s.takes f .image → beginOk g n = false →
    exec (.imageBegin f g n) s = .next (s.acceptFrame.naileFail f 0 nfField 0)) ∧
  (∀ (s : State) (f : Frame) (o n : Nat) (h : Option StreamHeader) (u : Update), s.takes f .image → 1 ≤ n → n ≤ 4092 →
    s.acceptFrame.nor.upd = u → u.state = 1 → o = u.received → u.received + n ≤ u.length → u.received + n < 4096 →
    exec (.imageChunk f o n h false) s = .next (State.chunkIn { s.acceptFrame with
      nor := NorS.beginWrite { s.acceptFrame.nor with
        upd := { u with received := u.received + n, buffered := u.buffered + n } } } f)) ∧
  (∀ (s : State) (f : Frame) (o n : Nat) (h : Option StreamHeader) (b : Bool), s.takes f .image → 1 ≤ n → n ≤ 4092 →
    s.acceptFrame.nor.upd.state ≠ 1 → exec (.imageChunk f o n h b) s = .next (s.acceptFrame.naileFail f 0 nfSequence 0)) ∧
  (∀ (s : State), s.responder ≠ .none → s.nor.upd.state = 1 → sectorBytes ≤ s.nor.upd.buffered → s.nor.mayWrite = true →
    s.naile.chunk = none →
    exec (.norSectorWritten true) s = .next { s with nor := s.nor.sectorDone }) ∧
  (∀ (s : State) (ok : Bool), s.responder ≠ .none → s.nor.upd.state = 1 → sectorBytes ≤ s.nor.upd.buffered → s.nor.mayWrite = false →
    s.naile.chunk = none → exec (.norSectorWritten ok) s = .next s.norRefuse) ∧
  (∀ (s : State), s.responder ≠ .none → s.nor.upd.state = 1 → sectorBytes ≤ s.nor.upd.buffered → s.nor.mayWrite = true →
    s.nor.upd.retried = false →
    exec (.norSectorWritten false) s =
      .next { s with nor := { s.nor with upd := { s.nor.upd with retried := true } } }) ∧
  (∀ (s : State) (f : Frame) (u : Update), s.takes f .image → s.acceptFrame.nor.upd = u → u.state = 1 → u.hdr.isNone = false →
    u.received = u.length → s.acceptFrame.nor.mayWrite = true → s.acceptFrame.configFits u.hdr = true →
    exec (.imageEnd f false true) s = .next (State.naileOk { s.acceptFrame with
      nor := { (s.acceptFrame.nor.setArea u.area u.hdr true) with
        unprotected := none
        upd := { Update.none with state := 2, area := u.area, target := u.target, hdr := u.hdr } } } f 0x12 0 0)) ∧
  (∀ (s : State), s.nor.upd.state = 1 → s.nor.upd.lastFrame + s.par P.SVC_UPDATE_TIMEOUT_S * 1000000000 ≤ s.now →
    exec .updateTimeout s = .next s.abandonUpdate) ∧
  (∀ (s : State) (f : Frame) (m t : Bool), s.takes f (.commit 1) → s.acceptFrame.nor.activating = false →
    s.acceptFrame.nor.upd.state = 2 → s.acceptFrame.nor.upd.area ≤ 1 → (s.acceptFrame.nor.slot s.acceptFrame.nor.upd.area).hdr = none →
    exec (.commitImage f m t) s = .next (s.acceptFrame.naileFail f 0 nfNoImage 0)) ∧
  (∀ (s : State) (f : Frame) (m t : Bool) (h : ImageHeader) (a : Nat), s.takes f (.commit 1) → s.acceptFrame.nor.activating = false →
    s.acceptFrame.nor.upd.state = 2 → s.acceptFrame.nor.upd.area = a → a ≤ 1 → (s.acceptFrame.nor.slot a).hdr = some h →
    s.acceptFrame.cannotActivate h m t = false →
    exec (.commitImage f m t) s = .next (State.activate (State.commitOk
      { s.acceptFrame with nor := s.acceptFrame.nor.writeSelector a s.acceptFrame.nor.cfgSel } f
      ((s.acceptFrame.nor.writeSelector a s.acceptFrame.nor.cfgSel).cfgDef a s.acceptFrame.nor.cfgSel)) h m t)) ∧
  (∀ (s : State) (f : Frame) (a : Nat), s.takes f (.commit 2) → s.acceptFrame.nor.activating = false →
    s.acceptFrame.nor.upd.state = 2 → s.acceptFrame.nor.upd.area = a → 2 ≤ a → a ≤ 3 →
    exec (.commitConfiguration f false false) s = .next (State.commitOk { s.acceptFrame with
      nor := { (s.acceptFrame.nor.writeSelector s.acceptFrame.nor.bootSel (a - 2)) with upd := Update.none } } f
      (NorS.cfgDef { (s.acceptFrame.nor.writeSelector s.acceptFrame.nor.bootSel (a - 2)) with upd := Update.none }
        s.acceptFrame.nor.bootSel (a - 2)))) ∧
  (∀ (s : State) (f : Frame), s.takes f (.commit 3) → s.acceptFrame.nor.activating = false →
    s.acceptFrame.mgmt.mgmtRel = s.acceptFrame.mgmt.bootRel →
    s.acceptFrame.mgmt.groveRel.toList.any (fun r => r != s.acceptFrame.mgmt.bootRel) = false →
    exec (.raiseReleaseFloor f) s = .next (State.commitOk (State.record { s.acceptFrame with
      nor := { s.acceptFrame.nor with floor := BitVec.ofNat 32 s.acceptFrame.mgmt.bootRel, floorBad := false } }
      sevNotice 0x1202 s.acceptFrame.mgmt.bootRel) f
      (NorS.cfgDef { s.acceptFrame.nor with floor := BitVec.ofNat 32 s.acceptFrame.mgmt.bootRel, floorBad := false }
        s.acceptFrame.nor.bootSel s.acceptFrame.nor.cfgSel))) ∧
  (∀ (s : State) (f : Frame) (h : ImageHeader) (a : Nat) (x : NorS), s.takes f (.commit 4) → s.acceptFrame.nor.upd.state ≠ 1 → s.acceptFrame.nor.upd.state ≠ 3 →
    s.acceptFrame.nor.spare.hdr = some h → s.acceptFrame.nor.spare.complete = true →
    s.acceptFrame.checkImageHeader h (4096 + h.mgmtLen + h.ftlLen + h.unitLen) = none → s.acceptFrame.nor.spare.digest = h.digest →
    s.acceptFrame.targetArea 0 = a →
    x = { ((s.acceptFrame.nor.steerAway a).setArea a (some (.image h)) true) with
      upd := { Update.none with state := 2, area := a, hdr := some (.image h) } } →
    exec (.restoreSpare f false) s =
      .next (State.commitOk { s.acceptFrame with nor := x } f (x.cfgDef x.bootSel x.cfgSel)))

/-- The Tally (17 R472, R475, R479): a record that a unit writes passes intake; a quiet code's suppressed occurrences become one SUPPRESSED
record and its count starts again; the engine copies what awaits the tier. -/
def Obligations.TallyRowsDo : Prop :=
  (∀ (s : State) (x : TallyIn), s.recordsTaken = true → x.sev ≤ 6 → exec (.tallyRecord x) s = .next (s.submit x)) ∧
  (∀ (s : State) (c : Nat) (b : Bucket), s.recordsTaken = true → sget s.tally.buckets c = some b → b.suppressed ≠ 0 →
    s.par P.TLY_BURST * 1000000000 ≤ (s.now - b.lastAny) * s.par P.TLY_RATE_PER_S →
    exec (.tallyCodeQuiet c) s = .next (State.recordHw { s with
      tally := { s.tally with
        buckets := smod c (fun x => { x with suppressed := 0, firstNs := 0, lastNs := 0, lastP0 := 0, maxSev := 0 }) s.tally.buckets } }
      srcTally b.maxSev 0x1301 c b.suppressed ((b.lastNs - b.firstNs) / 1000000) b.lastP0.toNat)) ∧
  (∀ (s : State), s.engineRuns = true →
    exec .tallyTierCopy s = .next { s with tally := s.tally.copyAwaiting (s.par P.TLY_PERSIST_MIN) s.time.ns })

/-! ## Security (14) and management (15) -/

/-- The TAP (14 R411, Table 14-10): while it works, IDCODE and SECSTAT shift out their words; SAMPLE captures; EXTEST, CLAMP and HIGHZ act where
they are permitted, and are BYPASS where they are not; PROVISION burns the identity in BLANK alone; BYPASS shifts out 0; DAP acts while a session
is open. -/
def Obligations.TapRowsDo : Prop :=
  (∀ (s : State), s.tapOn = true →
    exec .idcode s = .next { s with sec := { s.sec with tapIr := 0x01, tapOut := s.fuses.idcode } } ∧
    exec .secstat s = .next { s with sec := { s.sec with tapIr := 0x10, tapOut := s.secstat } } ∧
    exec .samplePreload s = .next (s.tapCapture 0x02) ∧
    exec (.bypass 0xFF) s = .next { s with sec := { s.sec with tapIr := 0xFF, tapOut := 0 } }) ∧
  (∀ (s : State), s.tapOn = true → s.boundaryOk = true →
    exec .extest s = .next (s.tapCapture 0x03) ∧
    exec .clamp s = .next { s with sec := { s.sec with tapIr := 0x04, tapOut := 0 } } ∧
    exec .highz s = .next { s with sec := { s.sec with tapIr := 0x05, tapOut := 0 } }) ∧
  (∀ (s : State), s.boundaryOk = false →
    exec .extest s = .next s.tapBypass ∧ exec .clamp s = .next s.tapBypass ∧ exec .highz s = .next s.tapBypass) ∧
  (∀ (s : State), s.tapOn = true → s.lcKnown = true → s.fuses.lc = 0 →
    exec .provision s = .next { s with
      fuses := { s.fuses with provisioned := 3 }
      sec := { s.sec with tapIr := 0x30, tapOut := 0 } }) ∧
  (∀ (s : State), s.fuses.lc ≠ 0 → exec .provision s = .next s.tapBypass) ∧
  (∀ (s : State) (x : Session), s.sec.session = some x → s.tapOn = true → s.dev.fuseFail = false → s.reaches x .haltMgmt = true →
    exec (.dap .haltMgmt) s = .next { s with
      sec := { s.sec with session := some { x with haltedMgmt := true }, tapIr := 0x20, tapOut := 0 } }) ∧
  (∀ (s : State) (r : DapReach) (x : Session), s.sec.session = some x → s.tapOn = true → s.dev.fuseFail = false → s.reaches x r = true →
    exec (.dap r) s = .next (s.dapRun r)) ∧
  (∀ (s : State) (r : DapReach), s.sec.session = none → exec (.dap r) s = .next s.tapBypass)

/-- Debug tokens and what a session reaches (14 R411 to R417): a challenge gives a fresh nonce; a token with nothing against it opens its session,
or starts RMA; a refused one uses the nonce up; CLOSE and the end of the lifetime close the session, and nothing does so sooner; a nonce is
void after 60 s; refusals that have reached their limit refuse every request with 06h; a DAP access acts within the session's reach alone, and
is BYPASS without one. -/
def Obligations.TokenRowsDo : Prop :=
  (∀ (s : State) (f : Frame), s.takes f .debug → s.acceptFrame.tokensLocked = false →
    exec (.debugTokenChallenge f) s = .next (State.naileOk { s.acceptFrame.draw.2 with
      sec := { s.acceptFrame.draw.2.sec with nonce := some (Config.drbg s.acceptFrame.draw.1, s.acceptFrame.now) } }
      f 0x30 32 (Config.drbg s.acceptFrame.draw.1).toNat)) ∧
  (∀ (s : State) (f : Frame), s.takes f .debug → s.acceptFrame.tokensLocked = true →
    exec (.debugTokenChallenge f) s = .next (s.acceptFrame.refuseToken f 6)) ∧
  (∀ (s : State) (f : Frame) (t : DebugToken), s.takes f .debug → s.acceptFrame.tokenRefusal t = none → t.level ≠ lvRmaAuth →
    exec (.debugTokenOpen f t) s = .next ((State.openSession { s.acceptFrame with
      sec := { s.acceptFrame.sec with nonce := none } } t).naileOk f 0x30 8 (openedPayload t.level t.lifetimeS))) ∧
  (∀ (s : State) (f : Frame) (t : DebugToken), s.takes f .debug → s.acceptFrame.tokenRefusal t = none → t.level = lvRmaAuth →
    exec (.debugTokenOpen f t) s = .next ((State.beginRma { s.acceptFrame with
      sec := { s.acceptFrame.sec with nonce := none } }).naileOk f 0x30 8 (openedPayload t.level t.lifetimeS))) ∧
  (∀ (s : State) (f : Frame) (t : DebugToken) (c : Nat), s.takes f .debug → s.acceptFrame.tokenRefusal t = some c →
    exec (.debugTokenOpen f t) s = .next (State.refuseToken { s.acceptFrame with
      sec := { s.acceptFrame.sec with nonce := none } } f c)) ∧
  (∀ (s : State) (f : Frame), s.takes f .debug → s.acceptFrame.tokensLocked = false →
    exec (.debugTokenClose f) s = .next ((s.acceptFrame.closeSession 1).naileOk f 0x30 0 0)) ∧
  (∀ (s : State) (f : Frame), s.takes f .debug → s.acceptFrame.tokensLocked = true →
    exec (.debugTokenClose f) s = .next (s.acceptFrame.refuseToken f 6)) ∧
  (∀ (s : State) (x : Session), s.sec.session = some x → x.opened + x.lifetimeS * 1000000000 ≤ s.now →
    exec .sessionLifetimeExpiry s = .next (s.closeSession 2).resumeWaiting) ∧
  (∀ (s : State), (∀ x, s.sec.session = some x → s.now < x.opened + x.lifetimeS * 1000000000) →
    exec .sessionLifetimeExpiry s = .next s) ∧
  (∀ (s : State) (n : BitVec 256) (t : Nat), s.sec.nonce = some (n, t) → t + 60000000000 ≤ s.now →
    exec .nonceExpiry s = .next { s with sec := { s.sec with nonce := none } }) ∧
  (∀ (s : State), (∀ n t, s.sec.nonce = some (n, t) → s.now < t + 60000000000) → exec .nonceExpiry s = .next s) ∧
  (∀ (s : State) (r : DapReach) (x : Session), s.sec.session = some x → s.tapOn = true → s.dev.fuseFail = false → s.reaches x r = true →
    exec (.dap r) s = .next (s.dapRun r)) ∧
  (∀ (s : State) (r : DapReach) (x : Session), s.sec.session = some x → s.tapOn = true → s.dev.fuseFail = false → s.reaches x r = false →
    exec (.dap r) s = .next { s with sec := { s.sec with tapIr := 0x20, tapOut := 0 } }) ∧
  (∀ (s : State) (r : DapReach), (s.sec.session = none ∨ s.dev.fuseFail = true) → exec (.dap r) s = .next s.tapBypass)

/-- The management complexes and rollouts (15 R423 to R438): a checkpoint is written; a lapsed heartbeat and a fault fail over; a handover ends in a
takeover or fails; the standby test decides STBY and is recorded; a rollout's groves go down, come back, or go back. A session whose lifetime has
passed halts no core any longer, and a nonce is void after 60 s (14 R412, R414). -/
def Obligations.MgmtRowsDo : Prop :=
  (∀ (s : State), s.mgmtServes = true → s.mgmtHalted = false → s.mgmt.ckptAt + s.par P.MGT_CHECKPOINT_MS * 1000000 ≤ s.now →
    exec .mgmtCheckpoint s = .next { s.checkpoint with mgmt := { s.checkpoint.mgmt with ckptAt := s.now } }) ∧
  (∀ (s : State), s.mayLapse = true → s.mgmtHalted = false →
    exec .watchdogExpiry s = .next (s.failOver hoWatchdog).resumeWaiting) ∧
  (∀ (s : State) (k : MgmtFaultKind), s.mayLapse = true → exec (.mgmtFault k) s = .next (s.failOver hoFault).resumeWaiting) ∧
  (∀ (s : State) (h : Handover), s.mgmt.handover = some h → s.handoverRuns = true →
    exec .takeover s = .next (s.handoverDone h).resumeWaiting) ∧
  (∀ (s : State) (h : Handover) (r : Nat), s.mgmt.handover = some h → s.handoverRuns = true → 1 ≤ r → r ≤ 3 →
    (r = 3 → h.since + 60000000 ≤ s.now) →
    exec (.handoverTimeout r) s = .next (s.handoverFails h r).resumeWaiting) ∧
  (∀ (s : State), s.mayLapse = true → s.mgmtHalted = false → s.mgmt.handover = none → s.standbyDue = true →
    exec (.standbySelfTest 0) s = .next (State.record { s with
      mgmt := { s.mgmt with stby := 1, stbyFail := 0, stbyTime := s.now } } sevInfo 0x1102 0)) ∧
  (∀ (s : State) (b : BitVec 4), s.mayLapse = true → s.mgmtHalted = false → s.mgmt.handover = none → s.standbyDue = true → b ≠ 0 →
    exec (.standbySelfTest b) s = .next (State.record { s with
      mgmt := { s.mgmt with stby := 2, stbyFail := b.toNat, stbyTime := s.now } } sevError 0x1102 b.toNat)) ∧
  (∀ (s : State) (g : Grove) (r : Rollout), s.mgmt.rollout = some r → s.mediaRuns = true → s.mgmt.runs = true → s.mgmt.handover = none →
    s.restartRuns = false → r.since + s.par P.MGT_GROVE_GAP_MS * 1000000 ≤ s.now → s.mgmt.nextGrove r = some g.val →
    s.dev.mapDone.getLsbD g.val = true → exec (.groveRestart g) s = .next (s.groveDown g)) ∧
  (∀ (s : State) (g : Grove), s.groveBoots g = true →
    exec (.groveRestartComplete g) s = .next ((State.groveBack { s with params := s.params.takeStaged (3 + g.val) } g
      (s.groveTarget g)).rolloutGoOn g.val)) ∧
  (∀ (s : State) (g : Grove), s.groveBoots g = true → (s.map.grove g).downAt + 40000000 ≤ s.now → s.mgmt.rollout = none →
    exec (.groveRestartTimeout g) s = .next (s.groveRebuilds g (vget s.mgmt.groveRel g.val 0))) ∧
  (∀ (s : State) (g : Grove) (r : Rollout), s.groveBoots g = true → (s.map.grove g).downAt + 40000000 ≤ s.now →
    s.mgmt.rollout = some r → r.back = true →
    exec (.groveRestartTimeout g) s = .next ((s.groveRebuilds g r.previous).rolloutGoOn g.val)) ∧
  (∀ (s t : State) (g : Grove) (r : Rollout), s.groveBoots g = true → (s.map.grove g).downAt + 40000000 ≤ s.now →
    s.mgmt.rollout = some r → r.back = false → s.rolloutStops g.val r = t →
    exec (.groveRestartTimeout g) s = .next { t with
      mgmt := { t.mgmt with groveRetry := t.mgmt.groveRetry ||| groveBit g.val }
      map := t.map.modGrove g (fun m => { m with downAt := s.now }) }) ∧
  (∀ (s : State) (x : Session), s.sec.session = some x → x.opened + x.lifetimeS * 1000000000 ≤ s.now →
    ∃ t u : State, exec .sessionLifetimeExpiry s = .next t ∧ u.resumeWaiting = t ∧ u.sec.session = none ∧ u.mgmtHalted = false) ∧
  (∀ (s : State) (n : BitVec 256) (a : Nat), s.sec.nonce = some (n, a) → a + 60000000000 ≤ s.now →
    ∃ t : State, exec .nonceExpiry s = .next t ∧ t.sec.nonce = none ∧ t.sec.session = s.sec.session)

/-! ## SPDM (14) and the management bus (02) -/

/-- SPDM (02 R68; 14 R408 to R410): after negotiation each request gets its answer; the signature that CHALLENGE makes is remembered for one
GET_LMS_SIG; a request out of order is an UnexpectedRequest, one that is not served an UnsupportedRequest. -/
def Obligations.SpdmRowsDo : Prop :=
  (∀ (s : State) (k : SpdmConn), s.spdmServes k = true →
    exec (.getVersion k) s = .next (s.setConn k (SpdmS.reply { SpdmS.idle with version := true } 0x04 6
      (packBits [(0, 16, 0x1000), (16, 16, 0x1100), (32, 16, 0x1200)])))) ∧
  (∀ (s : State) (k : SpdmConn) (c : SpdmS) (v : Byte), s.spdmServes k = true → s.conn k = c → c.version = true →
    0x10 ≤ v.toNat → v.toNat ≤ 0x12 →
    exec (.getCapabilities ⟨k, v⟩) s = .next (s.setConn k
      (SpdmS.reply { c with caps := true, algs := false, ver := v.toNat } 0x61 (spdmCapabilities v.toNat).1 (spdmCapabilities v.toNat).2))) ∧
  (∀ (s : State) (k : SpdmConn) (c : SpdmS) (v : Byte), s.spdmServes k = true → s.conn k = c → c.version = true →
    (v.toNat < 0x10 ∨ 0x12 < v.toNat) → exec (.getCapabilities ⟨k, v⟩) s = .next (s.setConn k (c.error errVersion))) ∧
  (∀ (s : State) (k : SpdmConn) (c : SpdmS) (v : Byte), s.spdmServes k = true → s.conn k = c → c.version = false →
    exec (.getCapabilities ⟨k, v⟩) s = .next (s.setConn k (c.error errUnexpected))) ∧
  (∀ (s : State) (k : SpdmConn) (c : SpdmS), s.spdmServes k = true → s.conn k = c → c.caps = true →
    exec (.negotiateAlgorithms k true) s =
      .next (s.setConn k (SpdmS.reply { c with algs := true } 0x63 spdmAlgorithms.1 spdmAlgorithms.2))) ∧
  (∀ (s : State) (k : SpdmConn) (c : SpdmS), s.spdmServes k = true → s.conn k = c → c.algs = true → s.slotPopulated = true →
    exec (.getDigests k) s = .next (s.setConn k (c.reply 0x01 49 (1 + 2 ^ 8 * (Config.sha384 3 0).toNat))) ∧
    (∀ o n : Nat, o < chainLength → exec (.getCertificate k 0 o n) s =
      .next (s.setConn k (c.reply 0x02 (min n (chainLength - o)) (provisionedBytes 0 (4 + o) (min n (chainLength - o)))))) ∧
    (∀ t : Nat, exec (.challenge k 0 t) s =
      .next (s.setConn k (SpdmS.reply { c with signed := some t } 0x03 96 (ecdsaSign t))))) ∧
  (∀ (s : State) (k : SpdmConn) (c : SpdmS) (x t : Nat) (m : Nat × Nat), s.spdmServes k = true → s.conn k = c → c.algs = true →
    s.measured x = some m →
    exec (.getMeasurements k x false t) s = .next (s.setConn k (c.reply 0x60 m.1 m.2)) ∧
    (s.slotPopulated = false → exec (.getMeasurements k x true t) s = .next (s.setConn k (c.error errUnsupported)))) ∧
  (∀ (s : State) (k : SpdmConn) (c : SpdmS), s.spdmServes k = true → s.conn k = c → c.algs = true →
    exec (.getLmsCert k) s = .next (s.setConn k (c.reply 0x7E 1840 s.lmsCert))) ∧
  (∀ (s : State) (k : SpdmConn) (c : SpdmS) (t : Nat), s.spdmServes k = true → s.conn k = c → c.algs = true → c.signed = some t →
    s.sec.lmsStop = 0 → s.lmsInHour.length < s.par P.SEC_LMS_PER_HOUR →
    exec (.getLmsSig k) s = .next (s.signHss.2.setConn k
      (SpdmS.reply { c with signed := none } 0x7E 3124 (Config.signature 1 s.signHss.1 t).toNat))) ∧
  (∀ (s : State) (k : SpdmConn) (c : SpdmS), s.spdmServes k = true → s.conn k = c → c.algs = true → c.signed = none →
    exec (.getLmsSig k) s = .next (s.setConn k (c.error errUnexpected))) ∧
  (∀ (s : State) (k : SpdmConn) (b : Byte), spdmCodes.contains b.toNat = false → s.spdmServes k = true →
    exec (.spdmUnsupportedRequest k b) s = .next (s.setConn k ((s.conn k).error errUnsupported)))

/-- The management bus (02 R67): while it answers, each command is answered with its data; any other command, and one with a parameter that
names nothing, is answered Invalid Parameter; ARP sets the address that the matcher wakes on. -/
def Obligations.BusRowsDo : Prop :=
  (∀ (s : State) (t : MiType) (x : Nat) (d : Nat × Nat), s.miServes = true → s.miData t x = some d →
    exec (.readNvmeMiDataStructure t x) s = .next (s.miReply 0 d.1 d.2)) ∧
  (∀ (s : State) (t : MiType) (x : Nat), s.miServes = true → s.miData t x = none →
    exec (.readNvmeMiDataStructure t x) s = .next (s.miReply 4 0 0)) ∧
  (∀ (s : State), s.miServes = true → exec (.nvmSubsystemHealthStatusPoll false) s = .next (s.miReply 0 8 s.miHealth)) ∧
  (∀ (s : State) (a n : Nat) (l : List Nat), s.miServes = true → (s.cntlIds.filter (fun c => decide (a ≤ c))).take n = l →
    exec (.controllerHealthStatusPoll a n false) s =
      .next (s.miReply 0 (16 * l.length) (packBits (l.mapIdx (fun i c => (128 * i, 128, s.miCtrl c)))))) ∧
  (∀ (s : State) (i : Byte) (v : Dword), s.miServes = true → miConfigOk i = true → sget s.bus.miConfig i.toNat = some v →
    exec (.configurationGet i) s = .next (s.miReply 0 4 v.toNat)) ∧
  (∀ (s : State) (i : Byte) (v : Dword), s.miServes = true → miConfigOk i = true → i ≠ 2 →
    exec (.configurationSet i v) s = .next { s.miReply 0 0 0 with
      bus := { (s.miReply 0 0 0).bus with miConfig := sput i.toNat v (s.miReply 0 0 0).bus.miConfig } }) ∧
  (∀ (s : State) (o n : Nat), s.miServes = true → o + n ≤ 4096 → exec (.vpdRead o n) s = .next (s.miReply 0 n (vpdBytes o n))) ∧
  (∀ (s : State) (o n : Nat), s.miServes = true → 4096 < o + n → exec (.vpdRead o n) s = .next (s.miReply 4 0 0)) ∧
  (∀ (s : State) (c : Cntl) (cmd : NvmeCmd) (d : Nat × Nat), s.miServes = true → s.host.present c = true → s.tunnelData c cmd = some d →
    exec (.miAdminTunnel c cmd) s = .next ((s.tunnelRead c cmd).miReply 0 d.1 d.2)) ∧
  (∀ (s : State) (c : Cntl) (cmd : NvmeCmd), s.miServes = true → s.host.present c = true → s.tunnelData c cmd = none →
    exec (.miAdminTunnel c cmd) s = .next (s.miReply 4 0 0)) ∧
  (∀ (s : State) (b : Byte), s.miServes = true → miCodes.contains b.toNat = false →
    exec (.miInvalidParameter b) s = .next (s.miReply 4 0 0)) ∧
  (∀ (s : State) (o n : Nat), s.miServes = true → s.pwr.ps ≤ 2 →
    exec (.basicManagementCommand o n) s = .next (s.miReply 0 n (bytesNum (structBytes 0x440 o n s.basicBytes)))) ∧
  (∀ (s : State) (a : BitVec 7), s.miServes = true →
    exec (.smbusArp a) s = .next { s with pwr := { s.pwr with smbusAddr := some a } })

/-! ## Rules over all commands -/

/-- The lifecycle (14 R395): no step takes it backwards, and none takes it more than one state on. Its premise, which every step keeps, rules out
fuse counts that no triple has and transitions that have begun in a state that cannot begin them. -/
def Obligations.LifecycleStepsForward : Prop :=
  ∀ (s t : State), s.lifecycleOk → step s = .next t →
    t.lifecycleOk ∧ s.fuses.lc ≤ t.fuses.lc ∧ t.fuses.lc ≤ s.fuses.lc + 1

/-- No step takes a burned fuse back, and only the lifecycle triples, the security version, the two key digests and REVOKE0 are ever burned
(14 R395 to R397, R404, R405). -/
def Obligations.FusesOnlyBurn : Prop :=
  ∀ (s t : State), s.fuses.provisioned ≤ 3 → s.fuses.sealedF ≤ 3 → s.fuses.rma ≤ 3 → s.fuses.revoke0 ≤ 3 → step s = .next t → s.fuses.burnsTo t.fuses

/-- The lines of Landing stay in their canonical form: a line is listed while its valid bit is set (04 R108; the form itself is the model's). -/
def Obligations.LandingStaysCanonical : Prop :=
  ∀ (s t : State), sorted s.land.lines → step s = .next t → sorted t.land.lines

/-- The lines of DRAM stay in their canonical form: no listed line equals what an unlisted one reads as (the form is the model's, log entry 12). -/
def Obligations.DramStaysCanonical : Prop :=
  ∀ (s t : State), sorted s.dram.lines → (∀ e ∈ s.dram.lines, e.2 ≠ (0, false)) → step s = .next t →
    sorted t.dram.lines ∧ ∀ e ∈ t.dram.lines, e.2 ≠ (0, false)

/-- What holds right after reset: the two invariants. The lifecycle fuses and the security area that State.reset starts with are the model's
choice (log entry 7). -/
def Obligations.InvariantsHoldAtReset : Prop := Memory.wf State.reset ∧ State.reset.lifecycleOk

/-- What reset leaves (12 R350, Table 12-3; 13 Table 13-2): power-on reset asserted and nobody on the Naile port, CLK_CTRL 0 with the PLL unlocked,
Landing cleared, DRAM not trained, no debug session and no nonce, nothing staged, no update in progress, no response and no alert frame,
and no command waiting. -/
def Obligations.ResetLeaves : Prop :=
  State.reset.dev.por = true ∧ State.reset.responder = .none ∧ State.reset.dev.clkCtrl = 0 ∧ State.reset.land.lines = [] ∧
  State.reset.dram.ready = false ∧ State.reset.sec.session = none ∧ State.reset.sec.nonce = none ∧ State.reset.params.staged = [] ∧
  State.reset.nor.upd.state = 0 ∧ State.reset.naile.resp = none ∧ State.reset.naile.alerts = [] ∧ State.reset.pending = []

/-- A suppressed occurrence (17 R473) takes no TSEQ, is stored nowhere and raises no alert frame. -/
def Obligations.SuppressedIsNoRecord : Prop :=
  ∀ (s : State) (x : TallyIn), s.recordsTaken = true → s.suppresses x →
    ∃ t, exec (.tallyRecord x) s = .next t ∧ t.tally.nextTseq = s.tally.nextTseq ∧ t.tally.tseqRes = s.tally.tseqRes ∧
      t.tally.ring = s.tally.ring ∧ t.tally.tier = s.tally.tier ∧ t.naile.alerts = s.naile.alerts

/-- PARAM_READ (18 R501), on a parameter that is there: its class, its width and the value in force, which for a read-only mirror is what it
mirrors and for an action is 0; STAGED and the staged value where one is staged; and FIELD for an index out of range, FFh included. -/
def Obligations.ParamReadReturns : Prop :=
  ∀ (s : State) (f : Frame) (id k : Nat) (d : PDef), s.takes f .param → paramDef id = some d →
    (k < d.kind.count → sget s.acceptFrame.params.staged (paramKey d.id k) = none →
      exec (.paramRead f id k) s = .next (s.acceptFrame.naileOk f 0x01 (4 + d.bytes)
        (packBits [(0, 8, classCode d.cls), (16, 16, d.width), (32, 8 * d.bytes, s.acceptFrame.readValue d k)]))) ∧
    (∀ w, k < d.kind.count → sget s.acceptFrame.params.staged (paramKey d.id k) = some w →
      exec (.paramRead f id k) s = .next (s.acceptFrame.naileOk f 0x01 (4 + 2 * d.bytes)
        (packBits [(0, 8, classCode d.cls), (8, 8, 1), (16, 16, d.width), (32, 8 * d.bytes, s.acceptFrame.readValue d k),
          (32 + 8 * d.bytes, 8 * d.bytes, w)]))) ∧
    (d.kind.count ≤ k → exec (.paramRead f id k) s = .next (s.acceptFrame.naileFail f 0 nfField 0)) ∧
    (k = 255 → exec (.paramRead f id k) s = .next (s.acceptFrame.naileFail f 0 nfField 0)) ∧
    (d.access = .plain → s.acceptFrame.readValue d k = s.acceptFrame.parI d.id k) ∧
    (d.access = .action → s.acceptFrame.readValue d k = 0) ∧
    (d.access = .mirror → s.acceptFrame.readValue d k =
      if d.id = 0x0203 then s.acceptFrame.dev.padWord else s.acceptFrame.fuses.gapCycles)

/-- PARAM_READ with WINDOW set (18 R502) returns the contents of the seven status windows of Table 18-9 as they stand; any other ID, and an
instance out of range, fails with FIELD. -/
def Obligations.WindowReadReturns : Prop :=
  ∀ (s : State) (f : Frame), s.takes f .param →
    exec (.statusWindowRead f 0x01F0 0) s = .next (s.acceptFrame.naileOk f 0x01 4 s.acceptFrame.dev.clkCtrl.toNat) ∧
    exec (.statusWindowRead f 0x03F0 0) s = .next (s.acceptFrame.naileOk f 0x01 4 s.acceptFrame.dev.rstCause.toNat) ∧
    exec (.statusWindowRead f 0x03F1 0) s = .next (s.acceptFrame.naileOk f 0x01 4 s.acceptFrame.dev.bootStatus.toNat) ∧
    exec (.statusWindowRead f 0x04F0 0) s = .next (s.acceptFrame.naileOk f 0x01 4 s.acceptFrame.secstat.toNat) ∧
    exec (.statusWindowRead f 0x0AF0 0) s = .next (s.acceptFrame.naileOk f 0x01 64 (leaseWindow s.acceptFrame.nvm.lease0)) ∧
    exec (.statusWindowRead f 0x0AF0 1) s = .next (s.acceptFrame.naileOk f 0x01 64 (leaseWindow s.acceptFrame.nvm.lease1)) ∧
    exec (.statusWindowRead f 0x13F0 0) s = .next (s.acceptFrame.naileOk f 0x01 128 s.acceptFrame.tally.window) ∧
    exec (.statusWindowRead f 0x14F0 0) s = .next (s.acceptFrame.naileOk f 0x01 64 s.acceptFrame.configWindow) ∧
    (∀ id k : Nat, id ∉ ([0x01F0, 0x03F0, 0x03F1, 0x04F0, 0x0AF0, 0x13F0, 0x14F0] : List Nat) →
      exec (.statusWindowRead f id k) s = .next (s.acceptFrame.naileFail f 0 nfField 0)) ∧
    (∀ id k : Nat, 1 ≤ k → id ≠ 0x0AF0 → exec (.statusWindowRead f id k) s = .next (s.acceptFrame.naileFail f 0 nfField 0)) ∧
    (∀ k : Nat, 2 ≤ k → exec (.statusWindowRead f 0x0AF0 k) s = .next (s.acceptFrame.naileFail f 0 nfField 0))
end

