-- ==== Sys2Proof/Laws/Frame.lean ====
section
/-! SUPPORT. Frames of the shared operations, the tools: a fold keeps what each of its steps keeps, and what is kept
twice in a row is kept. -/

set_option linter.all false

namespace Sys2Proof.Machine

/-- A lemma handed to simp as a term: simp then reads the lemma's conjuncts where it stands and declares no lemma of its own for each. -/
theorem fact {p : Prop} (h : p) : p := h

theorem foldl_pending {β : Type} {f : State → β → State} (h : ∀ a x b, f a x = b → b.pending = a.pending) (l : List β) (s : State) :
    (l.foldl f s).pending = s.pending := by
  induction l generalizing s with
  | nil => rfl
  | cons x l ih => exact (ih _).trans (h _ _ _ rfl)
theorem foldlp_pending {β γ : Type} {f : State × γ → β → State × γ} (h : ∀ a x b, f a x = b → b.1.pending = a.1.pending) (l : List β) (s : State × γ) :
    (l.foldl f s).1.pending = s.1.pending := by
  induction l generalizing s with
  | nil => rfl
  | cons x l ih => exact (ih _).trans (h _ _ _ rfl)
theorem foldl_time {β : Type} {f : State → β → State} (h : ∀ a x b, f a x = b → b.time = a.time) (l : List β) (s : State) :
    (l.foldl f s).time = s.time := by
  induction l generalizing s with
  | nil => rfl
  | cons x l ih => exact (ih _).trans (h _ _ _ rfl)
theorem foldlp_time {β γ : Type} {f : State × γ → β → State × γ} (h : ∀ a x b, f a x = b → b.1.time = a.1.time) (l : List β) (s : State × γ) :
    (l.foldl f s).1.time = s.1.time := by
  induction l generalizing s with
  | nil => rfl
  | cons x l ih => exact (ih _).trans (h _ _ _ rfl)
theorem foldl_dev {β : Type} {f : State → β → State} (h : ∀ a x b, f a x = b → b.dev = a.dev) (l : List β) (s : State) :
    (l.foldl f s).dev = s.dev := by
  induction l generalizing s with
  | nil => rfl
  | cons x l ih => exact (ih _).trans (h _ _ _ rfl)
theorem foldlp_dev {β γ : Type} {f : State × γ → β → State × γ} (h : ∀ a x b, f a x = b → b.1.dev = a.1.dev) (l : List β) (s : State × γ) :
    (l.foldl f s).1.dev = s.1.dev := by
  induction l generalizing s with
  | nil => rfl
  | cons x l ih => exact (ih _).trans (h _ _ _ rfl)
theorem foldl_fuses {β : Type} {f : State → β → State} (h : ∀ a x b, f a x = b → b.fuses = a.fuses) (l : List β) (s : State) :
    (l.foldl f s).fuses = s.fuses := by
  induction l generalizing s with
  | nil => rfl
  | cons x l ih => exact (ih _).trans (h _ _ _ rfl)
theorem foldlp_fuses {β γ : Type} {f : State × γ → β → State × γ} (h : ∀ a x b, f a x = b → b.1.fuses = a.1.fuses) (l : List β) (s : State × γ) :
    (l.foldl f s).1.fuses = s.1.fuses := by
  induction l generalizing s with
  | nil => rfl
  | cons x l ih => exact (ih _).trans (h _ _ _ rfl)
theorem foldl_params {β : Type} {f : State → β → State} (h : ∀ a x b, f a x = b → b.params = a.params) (l : List β) (s : State) :
    (l.foldl f s).params = s.params := by
  induction l generalizing s with
  | nil => rfl
  | cons x l ih => exact (ih _).trans (h _ _ _ rfl)
theorem foldlp_params {β γ : Type} {f : State × γ → β → State × γ} (h : ∀ a x b, f a x = b → b.1.params = a.1.params) (l : List β) (s : State × γ) :
    (l.foldl f s).1.params = s.1.params := by
  induction l generalizing s with
  | nil => rfl
  | cons x l ih => exact (ih _).trans (h _ _ _ rfl)
theorem foldl_host {β : Type} {f : State → β → State} (h : ∀ a x b, f a x = b → b.host = a.host) (l : List β) (s : State) :
    (l.foldl f s).host = s.host := by
  induction l generalizing s with
  | nil => rfl
  | cons x l ih => exact (ih _).trans (h _ _ _ rfl)
theorem foldlp_host {β γ : Type} {f : State × γ → β → State × γ} (h : ∀ a x b, f a x = b → b.1.host = a.1.host) (l : List β) (s : State × γ) :
    (l.foldl f s).1.host = s.1.host := by
  induction l generalizing s with
  | nil => rfl
  | cons x l ih => exact (ih _).trans (h _ _ _ rfl)
theorem foldl_nvm {β : Type} {f : State → β → State} (h : ∀ a x b, f a x = b → b.nvm = a.nvm) (l : List β) (s : State) :
    (l.foldl f s).nvm = s.nvm := by
  induction l generalizing s with
  | nil => rfl
  | cons x l ih => exact (ih _).trans (h _ _ _ rfl)
theorem foldlp_nvm {β γ : Type} {f : State × γ → β → State × γ} (h : ∀ a x b, f a x = b → b.1.nvm = a.1.nvm) (l : List β) (s : State × γ) :
    (l.foldl f s).1.nvm = s.1.nvm := by
  induction l generalizing s with
  | nil => rfl
  | cons x l ih => exact (ih _).trans (h _ _ _ rfl)
theorem foldl_land {β : Type} {f : State → β → State} (h : ∀ a x b, f a x = b → b.land = a.land) (l : List β) (s : State) :
    (l.foldl f s).land = s.land := by
  induction l generalizing s with
  | nil => rfl
  | cons x l ih => exact (ih _).trans (h _ _ _ rfl)
theorem foldlp_land {β γ : Type} {f : State × γ → β → State × γ} (h : ∀ a x b, f a x = b → b.1.land = a.1.land) (l : List β) (s : State × γ) :
    (l.foldl f s).1.land = s.1.land := by
  induction l generalizing s with
  | nil => rfl
  | cons x l ih => exact (ih _).trans (h _ _ _ rfl)
theorem foldl_map {β : Type} {f : State → β → State} (h : ∀ a x b, f a x = b → b.map = a.map) (l : List β) (s : State) :
    (l.foldl f s).map = s.map := by
  induction l generalizing s with
  | nil => rfl
  | cons x l ih => exact (ih _).trans (h _ _ _ rfl)
theorem foldlp_map {β γ : Type} {f : State × γ → β → State × γ} (h : ∀ a x b, f a x = b → b.1.map = a.1.map) (l : List β) (s : State × γ) :
    (l.foldl f s).1.map = s.1.map := by
  induction l generalizing s with
  | nil => rfl
  | cons x l ih => exact (ih _).trans (h _ _ _ rfl)
theorem foldl_media {β : Type} {f : State → β → State} (h : ∀ a x b, f a x = b → b.media = a.media) (l : List β) (s : State) :
    (l.foldl f s).media = s.media := by
  induction l generalizing s with
  | nil => rfl
  | cons x l ih => exact (ih _).trans (h _ _ _ rfl)
theorem foldlp_media {β γ : Type} {f : State × γ → β → State × γ} (h : ∀ a x b, f a x = b → b.1.media = a.1.media) (l : List β) (s : State × γ) :
    (l.foldl f s).1.media = s.1.media := by
  induction l generalizing s with
  | nil => rfl
  | cons x l ih => exact (ih _).trans (h _ _ _ rfl)
theorem foldl_flash {β : Type} {f : State → β → State} (h : ∀ a x b, f a x = b → b.flash = a.flash) (l : List β) (s : State) :
    (l.foldl f s).flash = s.flash := by
  induction l generalizing s with
  | nil => rfl
  | cons x l ih => exact (ih _).trans (h _ _ _ rfl)
theorem foldlp_flash {β γ : Type} {f : State × γ → β → State × γ} (h : ∀ a x b, f a x = b → b.1.flash = a.1.flash) (l : List β) (s : State × γ) :
    (l.foldl f s).1.flash = s.1.flash := by
  induction l generalizing s with
  | nil => rfl
  | cons x l ih => exact (ih _).trans (h _ _ _ rfl)
theorem foldl_cache {β : Type} {f : State → β → State} (h : ∀ a x b, f a x = b → b.cache = a.cache) (l : List β) (s : State) :
    (l.foldl f s).cache = s.cache := by
  induction l generalizing s with
  | nil => rfl
  | cons x l ih => exact (ih _).trans (h _ _ _ rfl)
theorem foldlp_cache {β γ : Type} {f : State × γ → β → State × γ} (h : ∀ a x b, f a x = b → b.1.cache = a.1.cache) (l : List β) (s : State × γ) :
    (l.foldl f s).1.cache = s.1.cache := by
  induction l generalizing s with
  | nil => rfl
  | cons x l ih => exact (ih _).trans (h _ _ _ rfl)
theorem foldl_plp {β : Type} {f : State → β → State} (h : ∀ a x b, f a x = b → b.plp = a.plp) (l : List β) (s : State) :
    (l.foldl f s).plp = s.plp := by
  induction l generalizing s with
  | nil => rfl
  | cons x l ih => exact (ih _).trans (h _ _ _ rfl)
theorem foldlp_plp {β γ : Type} {f : State × γ → β → State × γ} (h : ∀ a x b, f a x = b → b.1.plp = a.1.plp) (l : List β) (s : State × γ) :
    (l.foldl f s).1.plp = s.1.plp := by
  induction l generalizing s with
  | nil => rfl
  | cons x l ih => exact (ih _).trans (h _ _ _ rfl)
theorem foldl_dram {β : Type} {f : State → β → State} (h : ∀ a x b, f a x = b → b.dram = a.dram) (l : List β) (s : State) :
    (l.foldl f s).dram = s.dram := by
  induction l generalizing s with
  | nil => rfl
  | cons x l ih => exact (ih _).trans (h _ _ _ rfl)
theorem foldlp_dram {β γ : Type} {f : State × γ → β → State × γ} (h : ∀ a x b, f a x = b → b.1.dram = a.1.dram) (l : List β) (s : State × γ) :
    (l.foldl f s).1.dram = s.1.dram := by
  induction l generalizing s with
  | nil => rfl
  | cons x l ih => exact (ih _).trans (h _ _ _ rfl)
theorem foldl_pwr {β : Type} {f : State → β → State} (h : ∀ a x b, f a x = b → b.pwr = a.pwr) (l : List β) (s : State) :
    (l.foldl f s).pwr = s.pwr := by
  induction l generalizing s with
  | nil => rfl
  | cons x l ih => exact (ih _).trans (h _ _ _ rfl)
theorem foldlp_pwr {β γ : Type} {f : State × γ → β → State × γ} (h : ∀ a x b, f a x = b → b.1.pwr = a.1.pwr) (l : List β) (s : State × γ) :
    (l.foldl f s).1.pwr = s.1.pwr := by
  induction l generalizing s with
  | nil => rfl
  | cons x l ih => exact (ih _).trans (h _ _ _ rfl)
theorem foldl_sec {β : Type} {f : State → β → State} (h : ∀ a x b, f a x = b → b.sec = a.sec) (l : List β) (s : State) :
    (l.foldl f s).sec = s.sec := by
  induction l generalizing s with
  | nil => rfl
  | cons x l ih => exact (ih _).trans (h _ _ _ rfl)
theorem foldlp_sec {β γ : Type} {f : State × γ → β → State × γ} (h : ∀ a x b, f a x = b → b.1.sec = a.1.sec) (l : List β) (s : State × γ) :
    (l.foldl f s).1.sec = s.1.sec := by
  induction l generalizing s with
  | nil => rfl
  | cons x l ih => exact (ih _).trans (h _ _ _ rfl)
theorem foldl_mgmt {β : Type} {f : State → β → State} (h : ∀ a x b, f a x = b → b.mgmt = a.mgmt) (l : List β) (s : State) :
    (l.foldl f s).mgmt = s.mgmt := by
  induction l generalizing s with
  | nil => rfl
  | cons x l ih => exact (ih _).trans (h _ _ _ rfl)
theorem foldlp_mgmt {β γ : Type} {f : State × γ → β → State × γ} (h : ∀ a x b, f a x = b → b.1.mgmt = a.1.mgmt) (l : List β) (s : State × γ) :
    (l.foldl f s).1.mgmt = s.1.mgmt := by
  induction l generalizing s with
  | nil => rfl
  | cons x l ih => exact (ih _).trans (h _ _ _ rfl)
theorem foldl_naile {β : Type} {f : State → β → State} (h : ∀ a x b, f a x = b → b.naile = a.naile) (l : List β) (s : State) :
    (l.foldl f s).naile = s.naile := by
  induction l generalizing s with
  | nil => rfl
  | cons x l ih => exact (ih _).trans (h _ _ _ rfl)
theorem foldlp_naile {β γ : Type} {f : State × γ → β → State × γ} (h : ∀ a x b, f a x = b → b.1.naile = a.1.naile) (l : List β) (s : State × γ) :
    (l.foldl f s).1.naile = s.1.naile := by
  induction l generalizing s with
  | nil => rfl
  | cons x l ih => exact (ih _).trans (h _ _ _ rfl)
theorem foldl_nor {β : Type} {f : State → β → State} (h : ∀ a x b, f a x = b → b.nor = a.nor) (l : List β) (s : State) :
    (l.foldl f s).nor = s.nor := by
  induction l generalizing s with
  | nil => rfl
  | cons x l ih => exact (ih _).trans (h _ _ _ rfl)
theorem foldlp_nor {β γ : Type} {f : State × γ → β → State × γ} (h : ∀ a x b, f a x = b → b.1.nor = a.1.nor) (l : List β) (s : State × γ) :
    (l.foldl f s).1.nor = s.1.nor := by
  induction l generalizing s with
  | nil => rfl
  | cons x l ih => exact (ih _).trans (h _ _ _ rfl)
theorem foldl_tally {β : Type} {f : State → β → State} (h : ∀ a x b, f a x = b → b.tally = a.tally) (l : List β) (s : State) :
    (l.foldl f s).tally = s.tally := by
  induction l generalizing s with
  | nil => rfl
  | cons x l ih => exact (ih _).trans (h _ _ _ rfl)
theorem foldlp_tally {β γ : Type} {f : State × γ → β → State × γ} (h : ∀ a x b, f a x = b → b.1.tally = a.1.tally) (l : List β) (s : State × γ) :
    (l.foldl f s).1.tally = s.1.tally := by
  induction l generalizing s with
  | nil => rfl
  | cons x l ih => exact (ih _).trans (h _ _ _ rfl)
theorem foldl_bus {β : Type} {f : State → β → State} (h : ∀ a x b, f a x = b → b.bus = a.bus) (l : List β) (s : State) :
    (l.foldl f s).bus = s.bus := by
  induction l generalizing s with
  | nil => rfl
  | cons x l ih => exact (ih _).trans (h _ _ _ rfl)
theorem foldlp_bus {β γ : Type} {f : State × γ → β → State × γ} (h : ∀ a x b, f a x = b → b.1.bus = a.1.bus) (l : List β) (s : State × γ) :
    (l.foldl f s).1.bus = s.1.bus := by
  induction l generalizing s with
  | nil => rfl
  | cons x l ih => exact (ih _).trans (h _ _ _ rfl)
theorem foldl_free {β : Type} {f : State → β → State} (h : ∀ a x b, f a x = b → b.free = a.free) (l : List β) (s : State) :
    (l.foldl f s).free = s.free := by
  induction l generalizing s with
  | nil => rfl
  | cons x l ih => exact (ih _).trans (h _ _ _ rfl)
theorem foldlp_free {β γ : Type} {f : State × γ → β → State × γ} (h : ∀ a x b, f a x = b → b.1.free = a.1.free) (l : List β) (s : State × γ) :
    (l.foldl f s).1.free = s.1.free := by
  induction l generalizing s with
  | nil => rfl
  | cons x l ih => exact (ih _).trans (h _ _ _ rfl)
theorem foldl_sec_target {β : Type} {f : State → β → State} (h : ∀ a x b, f a x = b → b.sec.target = a.sec.target) (l : List β) (s : State) :
    (l.foldl f s).sec.target = s.sec.target := by
  induction l generalizing s with
  | nil => rfl
  | cons x l ih => exact (ih _).trans (h _ _ _ rfl)
theorem foldlp_sec_target {β γ : Type} {f : State × γ → β → State × γ} (h : ∀ a x b, f a x = b → b.1.sec.target = a.1.sec.target) (l : List β) (s : State × γ) :
    (l.foldl f s).1.sec.target = s.1.sec.target := by
  induction l generalizing s with
  | nil => rfl
  | cons x l ih => exact (ih _).trans (h _ _ _ rfl)
theorem State.pending_mk (a b c d e f g h i j k l m n o p q r s t u v) : (State.mk a b c d e f g h i j k l m n o p q r s t u v).pending = a := rfl
theorem ktrans_0 {a b c : State} (h : c.pending = b.pending ∧ c.time = b.time ∧ c.dev = b.dev ∧ c.fuses = b.fuses ∧ c.params = b.params ∧ c.host = b.host ∧ c.nvm = b.nvm ∧ c.map = b.map ∧ c.media = b.media ∧ c.flash = b.flash ∧ c.cache = b.cache ∧ c.plp = b.plp ∧ c.dram = b.dram ∧ c.pwr = b.pwr ∧ c.sec = b.sec ∧ c.mgmt = b.mgmt ∧ c.naile = b.naile ∧ c.nor = b.nor ∧ c.tally = b.tally ∧ c.bus = b.bus ∧ c.free = b.free) (g : b.pending = a.pending ∧ b.time = a.time ∧ b.dev = a.dev ∧ b.fuses = a.fuses ∧ b.params = a.params ∧ b.host = a.host ∧ b.nvm = a.nvm ∧ b.map = a.map ∧ b.media = a.media ∧ b.flash = a.flash ∧ b.cache = a.cache ∧ b.plp = a.plp ∧ b.dram = a.dram ∧ b.pwr = a.pwr ∧ b.sec = a.sec ∧ b.mgmt = a.mgmt ∧ b.naile = a.naile ∧ b.nor = a.nor ∧ b.tally = a.tally ∧ b.bus = a.bus ∧ b.free = a.free) :
    c.pending = a.pending ∧ c.time = a.time ∧ c.dev = a.dev ∧ c.fuses = a.fuses ∧ c.params = a.params ∧ c.host = a.host ∧ c.nvm = a.nvm ∧ c.map = a.map ∧ c.media = a.media ∧ c.flash = a.flash ∧ c.cache = a.cache ∧ c.plp = a.plp ∧ c.dram = a.dram ∧ c.pwr = a.pwr ∧ c.sec = a.sec ∧ c.mgmt = a.mgmt ∧ c.naile = a.naile ∧ c.nor = a.nor ∧ c.tally = a.tally ∧ c.bus = a.bus ∧ c.free = a.free := by
  simp only [h, g, and_self]
theorem kfold_0 {β : Type} {f : State → β → State} (h : ∀ a x b, f a x = b → b.pending = a.pending ∧ b.time = a.time ∧ b.dev = a.dev ∧ b.fuses = a.fuses ∧ b.params = a.params ∧ b.host = a.host ∧ b.nvm = a.nvm ∧ b.map = a.map ∧ b.media = a.media ∧ b.flash = a.flash ∧ b.cache = a.cache ∧ b.plp = a.plp ∧ b.dram = a.dram ∧ b.pwr = a.pwr ∧ b.sec = a.sec ∧ b.mgmt = a.mgmt ∧ b.naile = a.naile ∧ b.nor = a.nor ∧ b.tally = a.tally ∧ b.bus = a.bus ∧ b.free = a.free)
    (l : List β) (s : State) : (l.foldl f s).pending = s.pending ∧ (l.foldl f s).time = s.time ∧ (l.foldl f s).dev = s.dev ∧ (l.foldl f s).fuses = s.fuses ∧ (l.foldl f s).params = s.params ∧ (l.foldl f s).host = s.host ∧ (l.foldl f s).nvm = s.nvm ∧ (l.foldl f s).map = s.map ∧ (l.foldl f s).media = s.media ∧ (l.foldl f s).flash = s.flash ∧ (l.foldl f s).cache = s.cache ∧ (l.foldl f s).plp = s.plp ∧ (l.foldl f s).dram = s.dram ∧ (l.foldl f s).pwr = s.pwr ∧ (l.foldl f s).sec = s.sec ∧ (l.foldl f s).mgmt = s.mgmt ∧ (l.foldl f s).naile = s.naile ∧ (l.foldl f s).nor = s.nor ∧ (l.foldl f s).tally = s.tally ∧ (l.foldl f s).bus = s.bus ∧ (l.foldl f s).free = s.free := by
  induction l generalizing s with
  | nil => and_intros <;> rfl
  | cons x l ih => exact ktrans_0 (ih _) (h _ _ _ rfl)
theorem ktrans_1 {a b c : State} (h : c.pending = b.pending ∧ c.time = b.time ∧ c.dev = b.dev ∧ c.fuses = b.fuses ∧ c.params = b.params ∧ c.host = b.host ∧ c.nvm = b.nvm ∧ c.land = b.land ∧ c.map = b.map ∧ c.cache = b.cache ∧ c.dram = b.dram ∧ c.pwr = b.pwr ∧ c.sec = b.sec ∧ c.mgmt = b.mgmt ∧ c.naile = b.naile ∧ c.nor = b.nor ∧ c.tally = b.tally ∧ c.bus = b.bus ∧ c.free = b.free) (g : b.pending = a.pending ∧ b.time = a.time ∧ b.dev = a.dev ∧ b.fuses = a.fuses ∧ b.params = a.params ∧ b.host = a.host ∧ b.nvm = a.nvm ∧ b.land = a.land ∧ b.map = a.map ∧ b.cache = a.cache ∧ b.dram = a.dram ∧ b.pwr = a.pwr ∧ b.sec = a.sec ∧ b.mgmt = a.mgmt ∧ b.naile = a.naile ∧ b.nor = a.nor ∧ b.tally = a.tally ∧ b.bus = a.bus ∧ b.free = a.free) :
    c.pending = a.pending ∧ c.time = a.time ∧ c.dev = a.dev ∧ c.fuses = a.fuses ∧ c.params = a.params ∧ c.host = a.host ∧ c.nvm = a.nvm ∧ c.land = a.land ∧ c.map = a.map ∧ c.cache = a.cache ∧ c.dram = a.dram ∧ c.pwr = a.pwr ∧ c.sec = a.sec ∧ c.mgmt = a.mgmt ∧ c.naile = a.naile ∧ c.nor = a.nor ∧ c.tally = a.tally ∧ c.bus = a.bus ∧ c.free = a.free := by
  simp only [h, g, and_self]
theorem kfold_1 {β : Type} {f : State → β → State} (h : ∀ a x b, f a x = b → b.pending = a.pending ∧ b.time = a.time ∧ b.dev = a.dev ∧ b.fuses = a.fuses ∧ b.params = a.params ∧ b.host = a.host ∧ b.nvm = a.nvm ∧ b.land = a.land ∧ b.map = a.map ∧ b.cache = a.cache ∧ b.dram = a.dram ∧ b.pwr = a.pwr ∧ b.sec = a.sec ∧ b.mgmt = a.mgmt ∧ b.naile = a.naile ∧ b.nor = a.nor ∧ b.tally = a.tally ∧ b.bus = a.bus ∧ b.free = a.free)
    (l : List β) (s : State) : (l.foldl f s).pending = s.pending ∧ (l.foldl f s).time = s.time ∧ (l.foldl f s).dev = s.dev ∧ (l.foldl f s).fuses = s.fuses ∧ (l.foldl f s).params = s.params ∧ (l.foldl f s).host = s.host ∧ (l.foldl f s).nvm = s.nvm ∧ (l.foldl f s).land = s.land ∧ (l.foldl f s).map = s.map ∧ (l.foldl f s).cache = s.cache ∧ (l.foldl f s).dram = s.dram ∧ (l.foldl f s).pwr = s.pwr ∧ (l.foldl f s).sec = s.sec ∧ (l.foldl f s).mgmt = s.mgmt ∧ (l.foldl f s).naile = s.naile ∧ (l.foldl f s).nor = s.nor ∧ (l.foldl f s).tally = s.tally ∧ (l.foldl f s).bus = s.bus ∧ (l.foldl f s).free = s.free := by
  induction l generalizing s with
  | nil => and_intros <;> rfl
  | cons x l ih => exact ktrans_1 (ih _) (h _ _ _ rfl)
theorem kflash_1 {s t : State} (y : FlashS) (h : t.pending = s.pending ∧ t.time = s.time ∧ t.dev = s.dev ∧ t.fuses = s.fuses ∧ t.params = s.params ∧ t.host = s.host ∧ t.nvm = s.nvm ∧ t.land = s.land ∧ t.map = s.map ∧ t.cache = s.cache ∧ t.dram = s.dram ∧ t.pwr = s.pwr ∧ t.sec = s.sec ∧ t.mgmt = s.mgmt ∧ t.naile = s.naile ∧ t.nor = s.nor ∧ t.tally = s.tally ∧ t.bus = s.bus ∧ t.free = s.free) :
    ({ t with flash := y } : State).pending = s.pending ∧ ({ t with flash := y } : State).time = s.time ∧ ({ t with flash := y } : State).dev = s.dev ∧ ({ t with flash := y } : State).fuses = s.fuses ∧ ({ t with flash := y } : State).params = s.params ∧ ({ t with flash := y } : State).host = s.host ∧ ({ t with flash := y } : State).nvm = s.nvm ∧ ({ t with flash := y } : State).land = s.land ∧ ({ t with flash := y } : State).map = s.map ∧ ({ t with flash := y } : State).cache = s.cache ∧ ({ t with flash := y } : State).dram = s.dram ∧ ({ t with flash := y } : State).pwr = s.pwr ∧ ({ t with flash := y } : State).sec = s.sec ∧ ({ t with flash := y } : State).mgmt = s.mgmt ∧ ({ t with flash := y } : State).naile = s.naile ∧ ({ t with flash := y } : State).nor = s.nor ∧ ({ t with flash := y } : State).tally = s.tally ∧ ({ t with flash := y } : State).bus = s.bus ∧ ({ t with flash := y } : State).free = s.free := h
theorem ktrans_2 {a b c : State} (h : c.pending = b.pending ∧ c.time = b.time ∧ c.dev = b.dev ∧ c.fuses = b.fuses ∧ c.params = b.params ∧ c.host = b.host ∧ c.nvm = b.nvm ∧ c.plp = b.plp ∧ c.dram = b.dram ∧ c.pwr = b.pwr ∧ c.sec = b.sec ∧ c.mgmt = b.mgmt ∧ c.naile = b.naile ∧ c.nor = b.nor ∧ c.bus = b.bus ∧ c.free = b.free) (g : b.pending = a.pending ∧ b.time = a.time ∧ b.dev = a.dev ∧ b.fuses = a.fuses ∧ b.params = a.params ∧ b.host = a.host ∧ b.nvm = a.nvm ∧ b.plp = a.plp ∧ b.dram = a.dram ∧ b.pwr = a.pwr ∧ b.sec = a.sec ∧ b.mgmt = a.mgmt ∧ b.naile = a.naile ∧ b.nor = a.nor ∧ b.bus = a.bus ∧ b.free = a.free) :
    c.pending = a.pending ∧ c.time = a.time ∧ c.dev = a.dev ∧ c.fuses = a.fuses ∧ c.params = a.params ∧ c.host = a.host ∧ c.nvm = a.nvm ∧ c.plp = a.plp ∧ c.dram = a.dram ∧ c.pwr = a.pwr ∧ c.sec = a.sec ∧ c.mgmt = a.mgmt ∧ c.naile = a.naile ∧ c.nor = a.nor ∧ c.bus = a.bus ∧ c.free = a.free := by
  simp only [h, g, and_self]
theorem kfold_2 {β : Type} {f : State → β → State} (h : ∀ a x b, f a x = b → b.pending = a.pending ∧ b.time = a.time ∧ b.dev = a.dev ∧ b.fuses = a.fuses ∧ b.params = a.params ∧ b.host = a.host ∧ b.nvm = a.nvm ∧ b.plp = a.plp ∧ b.dram = a.dram ∧ b.pwr = a.pwr ∧ b.sec = a.sec ∧ b.mgmt = a.mgmt ∧ b.naile = a.naile ∧ b.nor = a.nor ∧ b.bus = a.bus ∧ b.free = a.free)
    (l : List β) (s : State) : (l.foldl f s).pending = s.pending ∧ (l.foldl f s).time = s.time ∧ (l.foldl f s).dev = s.dev ∧ (l.foldl f s).fuses = s.fuses ∧ (l.foldl f s).params = s.params ∧ (l.foldl f s).host = s.host ∧ (l.foldl f s).nvm = s.nvm ∧ (l.foldl f s).plp = s.plp ∧ (l.foldl f s).dram = s.dram ∧ (l.foldl f s).pwr = s.pwr ∧ (l.foldl f s).sec = s.sec ∧ (l.foldl f s).mgmt = s.mgmt ∧ (l.foldl f s).naile = s.naile ∧ (l.foldl f s).nor = s.nor ∧ (l.foldl f s).bus = s.bus ∧ (l.foldl f s).free = s.free := by
  induction l generalizing s with
  | nil => and_intros <;> rfl
  | cons x l ih => exact ktrans_2 (ih _) (h _ _ _ rfl)
theorem kflash_2 {s t : State} (y : FlashS) (h : t.pending = s.pending ∧ t.time = s.time ∧ t.dev = s.dev ∧ t.fuses = s.fuses ∧ t.params = s.params ∧ t.host = s.host ∧ t.nvm = s.nvm ∧ t.plp = s.plp ∧ t.dram = s.dram ∧ t.pwr = s.pwr ∧ t.sec = s.sec ∧ t.mgmt = s.mgmt ∧ t.naile = s.naile ∧ t.nor = s.nor ∧ t.bus = s.bus ∧ t.free = s.free) :
    ({ t with flash := y } : State).pending = s.pending ∧ ({ t with flash := y } : State).time = s.time ∧ ({ t with flash := y } : State).dev = s.dev ∧ ({ t with flash := y } : State).fuses = s.fuses ∧ ({ t with flash := y } : State).params = s.params ∧ ({ t with flash := y } : State).host = s.host ∧ ({ t with flash := y } : State).nvm = s.nvm ∧ ({ t with flash := y } : State).plp = s.plp ∧ ({ t with flash := y } : State).dram = s.dram ∧ ({ t with flash := y } : State).pwr = s.pwr ∧ ({ t with flash := y } : State).sec = s.sec ∧ ({ t with flash := y } : State).mgmt = s.mgmt ∧ ({ t with flash := y } : State).naile = s.naile ∧ ({ t with flash := y } : State).nor = s.nor ∧ ({ t with flash := y } : State).bus = s.bus ∧ ({ t with flash := y } : State).free = s.free := h
theorem ktrans_3 {a b c : State} (h : c.pending = b.pending ∧ c.time = b.time ∧ c.dev = b.dev ∧ c.fuses = b.fuses ∧ c.params = b.params ∧ c.nvm = b.nvm ∧ c.media = b.media ∧ c.cache = b.cache ∧ c.plp = b.plp ∧ c.dram = b.dram ∧ c.pwr = b.pwr ∧ c.sec = b.sec ∧ c.mgmt = b.mgmt ∧ c.naile = b.naile ∧ c.nor = b.nor ∧ c.bus = b.bus ∧ c.free = b.free) (g : b.pending = a.pending ∧ b.time = a.time ∧ b.dev = a.dev ∧ b.fuses = a.fuses ∧ b.params = a.params ∧ b.nvm = a.nvm ∧ b.media = a.media ∧ b.cache = a.cache ∧ b.plp = a.plp ∧ b.dram = a.dram ∧ b.pwr = a.pwr ∧ b.sec = a.sec ∧ b.mgmt = a.mgmt ∧ b.naile = a.naile ∧ b.nor = a.nor ∧ b.bus = a.bus ∧ b.free = a.free) :
    c.pending = a.pending ∧ c.time = a.time ∧ c.dev = a.dev ∧ c.fuses = a.fuses ∧ c.params = a.params ∧ c.nvm = a.nvm ∧ c.media = a.media ∧ c.cache = a.cache ∧ c.plp = a.plp ∧ c.dram = a.dram ∧ c.pwr = a.pwr ∧ c.sec = a.sec ∧ c.mgmt = a.mgmt ∧ c.naile = a.naile ∧ c.nor = a.nor ∧ c.bus = a.bus ∧ c.free = a.free := by
  simp only [h, g, and_self]
theorem kfold_3 {β : Type} {f : State → β → State} (h : ∀ a x b, f a x = b → b.pending = a.pending ∧ b.time = a.time ∧ b.dev = a.dev ∧ b.fuses = a.fuses ∧ b.params = a.params ∧ b.nvm = a.nvm ∧ b.media = a.media ∧ b.cache = a.cache ∧ b.plp = a.plp ∧ b.dram = a.dram ∧ b.pwr = a.pwr ∧ b.sec = a.sec ∧ b.mgmt = a.mgmt ∧ b.naile = a.naile ∧ b.nor = a.nor ∧ b.bus = a.bus ∧ b.free = a.free)
    (l : List β) (s : State) : (l.foldl f s).pending = s.pending ∧ (l.foldl f s).time = s.time ∧ (l.foldl f s).dev = s.dev ∧ (l.foldl f s).fuses = s.fuses ∧ (l.foldl f s).params = s.params ∧ (l.foldl f s).nvm = s.nvm ∧ (l.foldl f s).media = s.media ∧ (l.foldl f s).cache = s.cache ∧ (l.foldl f s).plp = s.plp ∧ (l.foldl f s).dram = s.dram ∧ (l.foldl f s).pwr = s.pwr ∧ (l.foldl f s).sec = s.sec ∧ (l.foldl f s).mgmt = s.mgmt ∧ (l.foldl f s).naile = s.naile ∧ (l.foldl f s).nor = s.nor ∧ (l.foldl f s).bus = s.bus ∧ (l.foldl f s).free = s.free := by
  induction l generalizing s with
  | nil => and_intros <;> rfl
  | cons x l ih => exact ktrans_3 (ih _) (h _ _ _ rfl)
theorem kflash_3 {s t : State} (y : FlashS) (h : t.pending = s.pending ∧ t.time = s.time ∧ t.dev = s.dev ∧ t.fuses = s.fuses ∧ t.params = s.params ∧ t.nvm = s.nvm ∧ t.media = s.media ∧ t.cache = s.cache ∧ t.plp = s.plp ∧ t.dram = s.dram ∧ t.pwr = s.pwr ∧ t.sec = s.sec ∧ t.mgmt = s.mgmt ∧ t.naile = s.naile ∧ t.nor = s.nor ∧ t.bus = s.bus ∧ t.free = s.free) :
    ({ t with flash := y } : State).pending = s.pending ∧ ({ t with flash := y } : State).time = s.time ∧ ({ t with flash := y } : State).dev = s.dev ∧ ({ t with flash := y } : State).fuses = s.fuses ∧ ({ t with flash := y } : State).params = s.params ∧ ({ t with flash := y } : State).nvm = s.nvm ∧ ({ t with flash := y } : State).media = s.media ∧ ({ t with flash := y } : State).cache = s.cache ∧ ({ t with flash := y } : State).plp = s.plp ∧ ({ t with flash := y } : State).dram = s.dram ∧ ({ t with flash := y } : State).pwr = s.pwr ∧ ({ t with flash := y } : State).sec = s.sec ∧ ({ t with flash := y } : State).mgmt = s.mgmt ∧ ({ t with flash := y } : State).naile = s.naile ∧ ({ t with flash := y } : State).nor = s.nor ∧ ({ t with flash := y } : State).bus = s.bus ∧ ({ t with flash := y } : State).free = s.free := h
theorem ktrans_4 {a b c : State} (h : c.pending = b.pending ∧ c.time = b.time ∧ c.dev = b.dev ∧ c.fuses = b.fuses ∧ c.params = b.params ∧ c.host = b.host ∧ c.nvm = b.nvm ∧ c.land = b.land ∧ c.map = b.map ∧ c.flash = b.flash ∧ c.cache = b.cache ∧ c.dram = b.dram ∧ c.pwr = b.pwr ∧ c.sec = b.sec ∧ c.mgmt = b.mgmt ∧ c.naile = b.naile ∧ c.nor = b.nor ∧ c.tally = b.tally ∧ c.bus = b.bus ∧ c.free = b.free) (g : b.pending = a.pending ∧ b.time = a.time ∧ b.dev = a.dev ∧ b.fuses = a.fuses ∧ b.params = a.params ∧ b.host = a.host ∧ b.nvm = a.nvm ∧ b.land = a.land ∧ b.map = a.map ∧ b.flash = a.flash ∧ b.cache = a.cache ∧ b.dram = a.dram ∧ b.pwr = a.pwr ∧ b.sec = a.sec ∧ b.mgmt = a.mgmt ∧ b.naile = a.naile ∧ b.nor = a.nor ∧ b.tally = a.tally ∧ b.bus = a.bus ∧ b.free = a.free) :
    c.pending = a.pending ∧ c.time = a.time ∧ c.dev = a.dev ∧ c.fuses = a.fuses ∧ c.params = a.params ∧ c.host = a.host ∧ c.nvm = a.nvm ∧ c.land = a.land ∧ c.map = a.map ∧ c.flash = a.flash ∧ c.cache = a.cache ∧ c.dram = a.dram ∧ c.pwr = a.pwr ∧ c.sec = a.sec ∧ c.mgmt = a.mgmt ∧ c.naile = a.naile ∧ c.nor = a.nor ∧ c.tally = a.tally ∧ c.bus = a.bus ∧ c.free = a.free := by
  simp only [h, g, and_self]
theorem kfold_4 {β : Type} {f : State → β → State} (h : ∀ a x b, f a x = b → b.pending = a.pending ∧ b.time = a.time ∧ b.dev = a.dev ∧ b.fuses = a.fuses ∧ b.params = a.params ∧ b.host = a.host ∧ b.nvm = a.nvm ∧ b.land = a.land ∧ b.map = a.map ∧ b.flash = a.flash ∧ b.cache = a.cache ∧ b.dram = a.dram ∧ b.pwr = a.pwr ∧ b.sec = a.sec ∧ b.mgmt = a.mgmt ∧ b.naile = a.naile ∧ b.nor = a.nor ∧ b.tally = a.tally ∧ b.bus = a.bus ∧ b.free = a.free)
    (l : List β) (s : State) : (l.foldl f s).pending = s.pending ∧ (l.foldl f s).time = s.time ∧ (l.foldl f s).dev = s.dev ∧ (l.foldl f s).fuses = s.fuses ∧ (l.foldl f s).params = s.params ∧ (l.foldl f s).host = s.host ∧ (l.foldl f s).nvm = s.nvm ∧ (l.foldl f s).land = s.land ∧ (l.foldl f s).map = s.map ∧ (l.foldl f s).flash = s.flash ∧ (l.foldl f s).cache = s.cache ∧ (l.foldl f s).dram = s.dram ∧ (l.foldl f s).pwr = s.pwr ∧ (l.foldl f s).sec = s.sec ∧ (l.foldl f s).mgmt = s.mgmt ∧ (l.foldl f s).naile = s.naile ∧ (l.foldl f s).nor = s.nor ∧ (l.foldl f s).tally = s.tally ∧ (l.foldl f s).bus = s.bus ∧ (l.foldl f s).free = s.free := by
  induction l generalizing s with
  | nil => and_intros <;> rfl
  | cons x l ih => exact ktrans_4 (ih _) (h _ _ _ rfl)
theorem ktrans_5 {a b c : State} (h : c.pending = b.pending ∧ c.time = b.time ∧ c.dev = b.dev ∧ c.fuses = b.fuses ∧ c.params = b.params ∧ c.host = b.host ∧ c.nvm = b.nvm ∧ c.land = b.land ∧ c.map = b.map ∧ c.media = b.media ∧ c.flash = b.flash ∧ c.cache = b.cache ∧ c.dram = b.dram ∧ c.pwr = b.pwr ∧ c.sec = b.sec ∧ c.mgmt = b.mgmt ∧ c.naile = b.naile ∧ c.nor = b.nor ∧ c.tally = b.tally ∧ c.bus = b.bus ∧ c.free = b.free) (g : b.pending = a.pending ∧ b.time = a.time ∧ b.dev = a.dev ∧ b.fuses = a.fuses ∧ b.params = a.params ∧ b.host = a.host ∧ b.nvm = a.nvm ∧ b.land = a.land ∧ b.map = a.map ∧ b.media = a.media ∧ b.flash = a.flash ∧ b.cache = a.cache ∧ b.dram = a.dram ∧ b.pwr = a.pwr ∧ b.sec = a.sec ∧ b.mgmt = a.mgmt ∧ b.naile = a.naile ∧ b.nor = a.nor ∧ b.tally = a.tally ∧ b.bus = a.bus ∧ b.free = a.free) :
    c.pending = a.pending ∧ c.time = a.time ∧ c.dev = a.dev ∧ c.fuses = a.fuses ∧ c.params = a.params ∧ c.host = a.host ∧ c.nvm = a.nvm ∧ c.land = a.land ∧ c.map = a.map ∧ c.media = a.media ∧ c.flash = a.flash ∧ c.cache = a.cache ∧ c.dram = a.dram ∧ c.pwr = a.pwr ∧ c.sec = a.sec ∧ c.mgmt = a.mgmt ∧ c.naile = a.naile ∧ c.nor = a.nor ∧ c.tally = a.tally ∧ c.bus = a.bus ∧ c.free = a.free := by
  simp only [h, g, and_self]
theorem kfold_5 {β : Type} {f : State → β → State} (h : ∀ a x b, f a x = b → b.pending = a.pending ∧ b.time = a.time ∧ b.dev = a.dev ∧ b.fuses = a.fuses ∧ b.params = a.params ∧ b.host = a.host ∧ b.nvm = a.nvm ∧ b.land = a.land ∧ b.map = a.map ∧ b.media = a.media ∧ b.flash = a.flash ∧ b.cache = a.cache ∧ b.dram = a.dram ∧ b.pwr = a.pwr ∧ b.sec = a.sec ∧ b.mgmt = a.mgmt ∧ b.naile = a.naile ∧ b.nor = a.nor ∧ b.tally = a.tally ∧ b.bus = a.bus ∧ b.free = a.free)
    (l : List β) (s : State) : (l.foldl f s).pending = s.pending ∧ (l.foldl f s).time = s.time ∧ (l.foldl f s).dev = s.dev ∧ (l.foldl f s).fuses = s.fuses ∧ (l.foldl f s).params = s.params ∧ (l.foldl f s).host = s.host ∧ (l.foldl f s).nvm = s.nvm ∧ (l.foldl f s).land = s.land ∧ (l.foldl f s).map = s.map ∧ (l.foldl f s).media = s.media ∧ (l.foldl f s).flash = s.flash ∧ (l.foldl f s).cache = s.cache ∧ (l.foldl f s).dram = s.dram ∧ (l.foldl f s).pwr = s.pwr ∧ (l.foldl f s).sec = s.sec ∧ (l.foldl f s).mgmt = s.mgmt ∧ (l.foldl f s).naile = s.naile ∧ (l.foldl f s).nor = s.nor ∧ (l.foldl f s).tally = s.tally ∧ (l.foldl f s).bus = s.bus ∧ (l.foldl f s).free = s.free := by
  induction l generalizing s with
  | nil => and_intros <;> rfl
  | cons x l ih => exact ktrans_5 (ih _) (h _ _ _ rfl)
theorem ktrans_6 {a b c : State} (h : c.pending = b.pending ∧ c.time = b.time ∧ c.dev = b.dev ∧ c.fuses = b.fuses ∧ c.params = b.params ∧ c.host = b.host ∧ c.nvm = b.nvm ∧ c.land = b.land ∧ c.map = b.map ∧ c.cache = b.cache ∧ c.plp = b.plp ∧ c.dram = b.dram ∧ c.pwr = b.pwr ∧ c.sec = b.sec ∧ c.mgmt = b.mgmt ∧ c.naile = b.naile ∧ c.nor = b.nor ∧ c.bus = b.bus ∧ c.free = b.free) (g : b.pending = a.pending ∧ b.time = a.time ∧ b.dev = a.dev ∧ b.fuses = a.fuses ∧ b.params = a.params ∧ b.host = a.host ∧ b.nvm = a.nvm ∧ b.land = a.land ∧ b.map = a.map ∧ b.cache = a.cache ∧ b.plp = a.plp ∧ b.dram = a.dram ∧ b.pwr = a.pwr ∧ b.sec = a.sec ∧ b.mgmt = a.mgmt ∧ b.naile = a.naile ∧ b.nor = a.nor ∧ b.bus = a.bus ∧ b.free = a.free) :
    c.pending = a.pending ∧ c.time = a.time ∧ c.dev = a.dev ∧ c.fuses = a.fuses ∧ c.params = a.params ∧ c.host = a.host ∧ c.nvm = a.nvm ∧ c.land = a.land ∧ c.map = a.map ∧ c.cache = a.cache ∧ c.plp = a.plp ∧ c.dram = a.dram ∧ c.pwr = a.pwr ∧ c.sec = a.sec ∧ c.mgmt = a.mgmt ∧ c.naile = a.naile ∧ c.nor = a.nor ∧ c.bus = a.bus ∧ c.free = a.free := by
  simp only [h, g, and_self]
theorem kfold_6 {β : Type} {f : State → β → State} (h : ∀ a x b, f a x = b → b.pending = a.pending ∧ b.time = a.time ∧ b.dev = a.dev ∧ b.fuses = a.fuses ∧ b.params = a.params ∧ b.host = a.host ∧ b.nvm = a.nvm ∧ b.land = a.land ∧ b.map = a.map ∧ b.cache = a.cache ∧ b.plp = a.plp ∧ b.dram = a.dram ∧ b.pwr = a.pwr ∧ b.sec = a.sec ∧ b.mgmt = a.mgmt ∧ b.naile = a.naile ∧ b.nor = a.nor ∧ b.bus = a.bus ∧ b.free = a.free)
    (l : List β) (s : State) : (l.foldl f s).pending = s.pending ∧ (l.foldl f s).time = s.time ∧ (l.foldl f s).dev = s.dev ∧ (l.foldl f s).fuses = s.fuses ∧ (l.foldl f s).params = s.params ∧ (l.foldl f s).host = s.host ∧ (l.foldl f s).nvm = s.nvm ∧ (l.foldl f s).land = s.land ∧ (l.foldl f s).map = s.map ∧ (l.foldl f s).cache = s.cache ∧ (l.foldl f s).plp = s.plp ∧ (l.foldl f s).dram = s.dram ∧ (l.foldl f s).pwr = s.pwr ∧ (l.foldl f s).sec = s.sec ∧ (l.foldl f s).mgmt = s.mgmt ∧ (l.foldl f s).naile = s.naile ∧ (l.foldl f s).nor = s.nor ∧ (l.foldl f s).bus = s.bus ∧ (l.foldl f s).free = s.free := by
  induction l generalizing s with
  | nil => and_intros <;> rfl
  | cons x l ih => exact ktrans_6 (ih _) (h _ _ _ rfl)
theorem kflash_6 {s t : State} (y : FlashS) (h : t.pending = s.pending ∧ t.time = s.time ∧ t.dev = s.dev ∧ t.fuses = s.fuses ∧ t.params = s.params ∧ t.host = s.host ∧ t.nvm = s.nvm ∧ t.land = s.land ∧ t.map = s.map ∧ t.cache = s.cache ∧ t.plp = s.plp ∧ t.dram = s.dram ∧ t.pwr = s.pwr ∧ t.sec = s.sec ∧ t.mgmt = s.mgmt ∧ t.naile = s.naile ∧ t.nor = s.nor ∧ t.bus = s.bus ∧ t.free = s.free) :
    ({ t with flash := y } : State).pending = s.pending ∧ ({ t with flash := y } : State).time = s.time ∧ ({ t with flash := y } : State).dev = s.dev ∧ ({ t with flash := y } : State).fuses = s.fuses ∧ ({ t with flash := y } : State).params = s.params ∧ ({ t with flash := y } : State).host = s.host ∧ ({ t with flash := y } : State).nvm = s.nvm ∧ ({ t with flash := y } : State).land = s.land ∧ ({ t with flash := y } : State).map = s.map ∧ ({ t with flash := y } : State).cache = s.cache ∧ ({ t with flash := y } : State).plp = s.plp ∧ ({ t with flash := y } : State).dram = s.dram ∧ ({ t with flash := y } : State).pwr = s.pwr ∧ ({ t with flash := y } : State).sec = s.sec ∧ ({ t with flash := y } : State).mgmt = s.mgmt ∧ ({ t with flash := y } : State).naile = s.naile ∧ ({ t with flash := y } : State).nor = s.nor ∧ ({ t with flash := y } : State).bus = s.bus ∧ ({ t with flash := y } : State).free = s.free := h
theorem ktrans_7 {a b c : State} (h : c.pending = b.pending ∧ c.time = b.time ∧ c.dev = b.dev ∧ c.fuses = b.fuses ∧ c.params = b.params ∧ c.media = b.media ∧ c.flash = b.flash ∧ c.cache = b.cache ∧ c.plp = b.plp ∧ c.dram = b.dram ∧ c.pwr = b.pwr ∧ c.sec = b.sec ∧ c.mgmt = b.mgmt ∧ c.naile = b.naile ∧ c.nor = b.nor ∧ c.bus = b.bus ∧ c.free = b.free) (g : b.pending = a.pending ∧ b.time = a.time ∧ b.dev = a.dev ∧ b.fuses = a.fuses ∧ b.params = a.params ∧ b.media = a.media ∧ b.flash = a.flash ∧ b.cache = a.cache ∧ b.plp = a.plp ∧ b.dram = a.dram ∧ b.pwr = a.pwr ∧ b.sec = a.sec ∧ b.mgmt = a.mgmt ∧ b.naile = a.naile ∧ b.nor = a.nor ∧ b.bus = a.bus ∧ b.free = a.free) :
    c.pending = a.pending ∧ c.time = a.time ∧ c.dev = a.dev ∧ c.fuses = a.fuses ∧ c.params = a.params ∧ c.media = a.media ∧ c.flash = a.flash ∧ c.cache = a.cache ∧ c.plp = a.plp ∧ c.dram = a.dram ∧ c.pwr = a.pwr ∧ c.sec = a.sec ∧ c.mgmt = a.mgmt ∧ c.naile = a.naile ∧ c.nor = a.nor ∧ c.bus = a.bus ∧ c.free = a.free := by
  simp only [h, g, and_self]
theorem kfold_7 {β : Type} {f : State → β → State} (h : ∀ a x b, f a x = b → b.pending = a.pending ∧ b.time = a.time ∧ b.dev = a.dev ∧ b.fuses = a.fuses ∧ b.params = a.params ∧ b.media = a.media ∧ b.flash = a.flash ∧ b.cache = a.cache ∧ b.plp = a.plp ∧ b.dram = a.dram ∧ b.pwr = a.pwr ∧ b.sec = a.sec ∧ b.mgmt = a.mgmt ∧ b.naile = a.naile ∧ b.nor = a.nor ∧ b.bus = a.bus ∧ b.free = a.free)
    (l : List β) (s : State) : (l.foldl f s).pending = s.pending ∧ (l.foldl f s).time = s.time ∧ (l.foldl f s).dev = s.dev ∧ (l.foldl f s).fuses = s.fuses ∧ (l.foldl f s).params = s.params ∧ (l.foldl f s).media = s.media ∧ (l.foldl f s).flash = s.flash ∧ (l.foldl f s).cache = s.cache ∧ (l.foldl f s).plp = s.plp ∧ (l.foldl f s).dram = s.dram ∧ (l.foldl f s).pwr = s.pwr ∧ (l.foldl f s).sec = s.sec ∧ (l.foldl f s).mgmt = s.mgmt ∧ (l.foldl f s).naile = s.naile ∧ (l.foldl f s).nor = s.nor ∧ (l.foldl f s).bus = s.bus ∧ (l.foldl f s).free = s.free := by
  induction l generalizing s with
  | nil => and_intros <;> rfl
  | cons x l ih => exact ktrans_7 (ih _) (h _ _ _ rfl)
theorem ktrans_8 {a b c : State} (h : c.pending = b.pending ∧ c.time = b.time ∧ c.dev = b.dev ∧ c.fuses = b.fuses ∧ c.params = b.params ∧ c.host = b.host ∧ c.nvm = b.nvm ∧ c.map = b.map ∧ c.media = b.media ∧ c.cache = b.cache ∧ c.plp = b.plp ∧ c.dram = b.dram ∧ c.pwr = b.pwr ∧ c.sec = b.sec ∧ c.mgmt = b.mgmt ∧ c.naile = b.naile ∧ c.nor = b.nor ∧ c.tally = b.tally ∧ c.bus = b.bus ∧ c.free = b.free) (g : b.pending = a.pending ∧ b.time = a.time ∧ b.dev = a.dev ∧ b.fuses = a.fuses ∧ b.params = a.params ∧ b.host = a.host ∧ b.nvm = a.nvm ∧ b.map = a.map ∧ b.media = a.media ∧ b.cache = a.cache ∧ b.plp = a.plp ∧ b.dram = a.dram ∧ b.pwr = a.pwr ∧ b.sec = a.sec ∧ b.mgmt = a.mgmt ∧ b.naile = a.naile ∧ b.nor = a.nor ∧ b.tally = a.tally ∧ b.bus = a.bus ∧ b.free = a.free) :
    c.pending = a.pending ∧ c.time = a.time ∧ c.dev = a.dev ∧ c.fuses = a.fuses ∧ c.params = a.params ∧ c.host = a.host ∧ c.nvm = a.nvm ∧ c.map = a.map ∧ c.media = a.media ∧ c.cache = a.cache ∧ c.plp = a.plp ∧ c.dram = a.dram ∧ c.pwr = a.pwr ∧ c.sec = a.sec ∧ c.mgmt = a.mgmt ∧ c.naile = a.naile ∧ c.nor = a.nor ∧ c.tally = a.tally ∧ c.bus = a.bus ∧ c.free = a.free := by
  simp only [h, g, and_self]
theorem kfold_8 {β : Type} {f : State → β → State} (h : ∀ a x b, f a x = b → b.pending = a.pending ∧ b.time = a.time ∧ b.dev = a.dev ∧ b.fuses = a.fuses ∧ b.params = a.params ∧ b.host = a.host ∧ b.nvm = a.nvm ∧ b.map = a.map ∧ b.media = a.media ∧ b.cache = a.cache ∧ b.plp = a.plp ∧ b.dram = a.dram ∧ b.pwr = a.pwr ∧ b.sec = a.sec ∧ b.mgmt = a.mgmt ∧ b.naile = a.naile ∧ b.nor = a.nor ∧ b.tally = a.tally ∧ b.bus = a.bus ∧ b.free = a.free)
    (l : List β) (s : State) : (l.foldl f s).pending = s.pending ∧ (l.foldl f s).time = s.time ∧ (l.foldl f s).dev = s.dev ∧ (l.foldl f s).fuses = s.fuses ∧ (l.foldl f s).params = s.params ∧ (l.foldl f s).host = s.host ∧ (l.foldl f s).nvm = s.nvm ∧ (l.foldl f s).map = s.map ∧ (l.foldl f s).media = s.media ∧ (l.foldl f s).cache = s.cache ∧ (l.foldl f s).plp = s.plp ∧ (l.foldl f s).dram = s.dram ∧ (l.foldl f s).pwr = s.pwr ∧ (l.foldl f s).sec = s.sec ∧ (l.foldl f s).mgmt = s.mgmt ∧ (l.foldl f s).naile = s.naile ∧ (l.foldl f s).nor = s.nor ∧ (l.foldl f s).tally = s.tally ∧ (l.foldl f s).bus = s.bus ∧ (l.foldl f s).free = s.free := by
  induction l generalizing s with
  | nil => and_intros <;> rfl
  | cons x l ih => exact ktrans_8 (ih _) (h _ _ _ rfl)
theorem kflash_8 {s t : State} (y : FlashS) (h : t.pending = s.pending ∧ t.time = s.time ∧ t.dev = s.dev ∧ t.fuses = s.fuses ∧ t.params = s.params ∧ t.host = s.host ∧ t.nvm = s.nvm ∧ t.map = s.map ∧ t.media = s.media ∧ t.cache = s.cache ∧ t.plp = s.plp ∧ t.dram = s.dram ∧ t.pwr = s.pwr ∧ t.sec = s.sec ∧ t.mgmt = s.mgmt ∧ t.naile = s.naile ∧ t.nor = s.nor ∧ t.tally = s.tally ∧ t.bus = s.bus ∧ t.free = s.free) :
    ({ t with flash := y } : State).pending = s.pending ∧ ({ t with flash := y } : State).time = s.time ∧ ({ t with flash := y } : State).dev = s.dev ∧ ({ t with flash := y } : State).fuses = s.fuses ∧ ({ t with flash := y } : State).params = s.params ∧ ({ t with flash := y } : State).host = s.host ∧ ({ t with flash := y } : State).nvm = s.nvm ∧ ({ t with flash := y } : State).map = s.map ∧ ({ t with flash := y } : State).media = s.media ∧ ({ t with flash := y } : State).cache = s.cache ∧ ({ t with flash := y } : State).plp = s.plp ∧ ({ t with flash := y } : State).dram = s.dram ∧ ({ t with flash := y } : State).pwr = s.pwr ∧ ({ t with flash := y } : State).sec = s.sec ∧ ({ t with flash := y } : State).mgmt = s.mgmt ∧ ({ t with flash := y } : State).naile = s.naile ∧ ({ t with flash := y } : State).nor = s.nor ∧ ({ t with flash := y } : State).tally = s.tally ∧ ({ t with flash := y } : State).bus = s.bus ∧ ({ t with flash := y } : State).free = s.free := h
theorem ktrans_9 {a b c : State} (h : c.pending = b.pending ∧ c.time = b.time ∧ c.dev = b.dev ∧ c.fuses = b.fuses ∧ c.params = b.params ∧ c.plp = b.plp ∧ c.dram = b.dram ∧ c.pwr = b.pwr ∧ c.sec = b.sec ∧ c.mgmt = b.mgmt ∧ c.naile = b.naile ∧ c.nor = b.nor ∧ c.bus = b.bus ∧ c.free = b.free) (g : b.pending = a.pending ∧ b.time = a.time ∧ b.dev = a.dev ∧ b.fuses = a.fuses ∧ b.params = a.params ∧ b.plp = a.plp ∧ b.dram = a.dram ∧ b.pwr = a.pwr ∧ b.sec = a.sec ∧ b.mgmt = a.mgmt ∧ b.naile = a.naile ∧ b.nor = a.nor ∧ b.bus = a.bus ∧ b.free = a.free) :
    c.pending = a.pending ∧ c.time = a.time ∧ c.dev = a.dev ∧ c.fuses = a.fuses ∧ c.params = a.params ∧ c.plp = a.plp ∧ c.dram = a.dram ∧ c.pwr = a.pwr ∧ c.sec = a.sec ∧ c.mgmt = a.mgmt ∧ c.naile = a.naile ∧ c.nor = a.nor ∧ c.bus = a.bus ∧ c.free = a.free := by
  simp only [h, g, and_self]
theorem kfold_9 {β : Type} {f : State → β → State} (h : ∀ a x b, f a x = b → b.pending = a.pending ∧ b.time = a.time ∧ b.dev = a.dev ∧ b.fuses = a.fuses ∧ b.params = a.params ∧ b.plp = a.plp ∧ b.dram = a.dram ∧ b.pwr = a.pwr ∧ b.sec = a.sec ∧ b.mgmt = a.mgmt ∧ b.naile = a.naile ∧ b.nor = a.nor ∧ b.bus = a.bus ∧ b.free = a.free)
    (l : List β) (s : State) : (l.foldl f s).pending = s.pending ∧ (l.foldl f s).time = s.time ∧ (l.foldl f s).dev = s.dev ∧ (l.foldl f s).fuses = s.fuses ∧ (l.foldl f s).params = s.params ∧ (l.foldl f s).plp = s.plp ∧ (l.foldl f s).dram = s.dram ∧ (l.foldl f s).pwr = s.pwr ∧ (l.foldl f s).sec = s.sec ∧ (l.foldl f s).mgmt = s.mgmt ∧ (l.foldl f s).naile = s.naile ∧ (l.foldl f s).nor = s.nor ∧ (l.foldl f s).bus = s.bus ∧ (l.foldl f s).free = s.free := by
  induction l generalizing s with
  | nil => and_intros <;> rfl
  | cons x l ih => exact ktrans_9 (ih _) (h _ _ _ rfl)
theorem kflash_9 {s t : State} (y : FlashS) (h : t.pending = s.pending ∧ t.time = s.time ∧ t.dev = s.dev ∧ t.fuses = s.fuses ∧ t.params = s.params ∧ t.plp = s.plp ∧ t.dram = s.dram ∧ t.pwr = s.pwr ∧ t.sec = s.sec ∧ t.mgmt = s.mgmt ∧ t.naile = s.naile ∧ t.nor = s.nor ∧ t.bus = s.bus ∧ t.free = s.free) :
    ({ t with flash := y } : State).pending = s.pending ∧ ({ t with flash := y } : State).time = s.time ∧ ({ t with flash := y } : State).dev = s.dev ∧ ({ t with flash := y } : State).fuses = s.fuses ∧ ({ t with flash := y } : State).params = s.params ∧ ({ t with flash := y } : State).plp = s.plp ∧ ({ t with flash := y } : State).dram = s.dram ∧ ({ t with flash := y } : State).pwr = s.pwr ∧ ({ t with flash := y } : State).sec = s.sec ∧ ({ t with flash := y } : State).mgmt = s.mgmt ∧ ({ t with flash := y } : State).naile = s.naile ∧ ({ t with flash := y } : State).nor = s.nor ∧ ({ t with flash := y } : State).bus = s.bus ∧ ({ t with flash := y } : State).free = s.free := h
theorem ktrans_10 {a b c : State} (h : c.pending = b.pending ∧ c.time = b.time ∧ c.dev = b.dev ∧ c.fuses = b.fuses ∧ c.params = b.params ∧ c.host = b.host ∧ c.nvm = b.nvm ∧ c.land = b.land ∧ c.map = b.map ∧ c.media = b.media ∧ c.cache = b.cache ∧ c.plp = b.plp ∧ c.dram = b.dram ∧ c.pwr = b.pwr ∧ c.sec = b.sec ∧ c.mgmt = b.mgmt ∧ c.naile = b.naile ∧ c.nor = b.nor ∧ c.bus = b.bus) (g : b.pending = a.pending ∧ b.time = a.time ∧ b.dev = a.dev ∧ b.fuses = a.fuses ∧ b.params = a.params ∧ b.host = a.host ∧ b.nvm = a.nvm ∧ b.land = a.land ∧ b.map = a.map ∧ b.media = a.media ∧ b.cache = a.cache ∧ b.plp = a.plp ∧ b.dram = a.dram ∧ b.pwr = a.pwr ∧ b.sec = a.sec ∧ b.mgmt = a.mgmt ∧ b.naile = a.naile ∧ b.nor = a.nor ∧ b.bus = a.bus) :
    c.pending = a.pending ∧ c.time = a.time ∧ c.dev = a.dev ∧ c.fuses = a.fuses ∧ c.params = a.params ∧ c.host = a.host ∧ c.nvm = a.nvm ∧ c.land = a.land ∧ c.map = a.map ∧ c.media = a.media ∧ c.cache = a.cache ∧ c.plp = a.plp ∧ c.dram = a.dram ∧ c.pwr = a.pwr ∧ c.sec = a.sec ∧ c.mgmt = a.mgmt ∧ c.naile = a.naile ∧ c.nor = a.nor ∧ c.bus = a.bus := by
  simp only [h, g, and_self]
theorem kfold_10 {β : Type} {f : State → β → State} (h : ∀ a x b, f a x = b → b.pending = a.pending ∧ b.time = a.time ∧ b.dev = a.dev ∧ b.fuses = a.fuses ∧ b.params = a.params ∧ b.host = a.host ∧ b.nvm = a.nvm ∧ b.land = a.land ∧ b.map = a.map ∧ b.media = a.media ∧ b.cache = a.cache ∧ b.plp = a.plp ∧ b.dram = a.dram ∧ b.pwr = a.pwr ∧ b.sec = a.sec ∧ b.mgmt = a.mgmt ∧ b.naile = a.naile ∧ b.nor = a.nor ∧ b.bus = a.bus)
    (l : List β) (s : State) : (l.foldl f s).pending = s.pending ∧ (l.foldl f s).time = s.time ∧ (l.foldl f s).dev = s.dev ∧ (l.foldl f s).fuses = s.fuses ∧ (l.foldl f s).params = s.params ∧ (l.foldl f s).host = s.host ∧ (l.foldl f s).nvm = s.nvm ∧ (l.foldl f s).land = s.land ∧ (l.foldl f s).map = s.map ∧ (l.foldl f s).media = s.media ∧ (l.foldl f s).cache = s.cache ∧ (l.foldl f s).plp = s.plp ∧ (l.foldl f s).dram = s.dram ∧ (l.foldl f s).pwr = s.pwr ∧ (l.foldl f s).sec = s.sec ∧ (l.foldl f s).mgmt = s.mgmt ∧ (l.foldl f s).naile = s.naile ∧ (l.foldl f s).nor = s.nor ∧ (l.foldl f s).bus = s.bus := by
  induction l generalizing s with
  | nil => and_intros <;> rfl
  | cons x l ih => exact ktrans_10 (ih _) (h _ _ _ rfl)
theorem kflash_10 {s t : State} (y : FlashS) (h : t.pending = s.pending ∧ t.time = s.time ∧ t.dev = s.dev ∧ t.fuses = s.fuses ∧ t.params = s.params ∧ t.host = s.host ∧ t.nvm = s.nvm ∧ t.land = s.land ∧ t.map = s.map ∧ t.media = s.media ∧ t.cache = s.cache ∧ t.plp = s.plp ∧ t.dram = s.dram ∧ t.pwr = s.pwr ∧ t.sec = s.sec ∧ t.mgmt = s.mgmt ∧ t.naile = s.naile ∧ t.nor = s.nor ∧ t.bus = s.bus) :
    ({ t with flash := y } : State).pending = s.pending ∧ ({ t with flash := y } : State).time = s.time ∧ ({ t with flash := y } : State).dev = s.dev ∧ ({ t with flash := y } : State).fuses = s.fuses ∧ ({ t with flash := y } : State).params = s.params ∧ ({ t with flash := y } : State).host = s.host ∧ ({ t with flash := y } : State).nvm = s.nvm ∧ ({ t with flash := y } : State).land = s.land ∧ ({ t with flash := y } : State).map = s.map ∧ ({ t with flash := y } : State).media = s.media ∧ ({ t with flash := y } : State).cache = s.cache ∧ ({ t with flash := y } : State).plp = s.plp ∧ ({ t with flash := y } : State).dram = s.dram ∧ ({ t with flash := y } : State).pwr = s.pwr ∧ ({ t with flash := y } : State).sec = s.sec ∧ ({ t with flash := y } : State).mgmt = s.mgmt ∧ ({ t with flash := y } : State).naile = s.naile ∧ ({ t with flash := y } : State).nor = s.nor ∧ ({ t with flash := y } : State).bus = s.bus := h
theorem ktrans_11 {a b c : State} (h : c.pending = b.pending ∧ c.time = b.time ∧ c.dev = b.dev ∧ c.fuses = b.fuses ∧ c.params = b.params ∧ c.dram = b.dram ∧ c.pwr = b.pwr ∧ c.sec = b.sec ∧ c.nor = b.nor) (g : b.pending = a.pending ∧ b.time = a.time ∧ b.dev = a.dev ∧ b.fuses = a.fuses ∧ b.params = a.params ∧ b.dram = a.dram ∧ b.pwr = a.pwr ∧ b.sec = a.sec ∧ b.nor = a.nor) :
    c.pending = a.pending ∧ c.time = a.time ∧ c.dev = a.dev ∧ c.fuses = a.fuses ∧ c.params = a.params ∧ c.dram = a.dram ∧ c.pwr = a.pwr ∧ c.sec = a.sec ∧ c.nor = a.nor := by
  simp only [h, g, and_self]
theorem kfold_11 {β : Type} {f : State → β → State} (h : ∀ a x b, f a x = b → b.pending = a.pending ∧ b.time = a.time ∧ b.dev = a.dev ∧ b.fuses = a.fuses ∧ b.params = a.params ∧ b.dram = a.dram ∧ b.pwr = a.pwr ∧ b.sec = a.sec ∧ b.nor = a.nor)
    (l : List β) (s : State) : (l.foldl f s).pending = s.pending ∧ (l.foldl f s).time = s.time ∧ (l.foldl f s).dev = s.dev ∧ (l.foldl f s).fuses = s.fuses ∧ (l.foldl f s).params = s.params ∧ (l.foldl f s).dram = s.dram ∧ (l.foldl f s).pwr = s.pwr ∧ (l.foldl f s).sec = s.sec ∧ (l.foldl f s).nor = s.nor := by
  induction l generalizing s with
  | nil => and_intros <;> rfl
  | cons x l ih => exact ktrans_11 (ih _) (h _ _ _ rfl)
theorem kflash_11 {s t : State} (y : FlashS) (h : t.pending = s.pending ∧ t.time = s.time ∧ t.dev = s.dev ∧ t.fuses = s.fuses ∧ t.params = s.params ∧ t.dram = s.dram ∧ t.pwr = s.pwr ∧ t.sec = s.sec ∧ t.nor = s.nor) :
    ({ t with flash := y } : State).pending = s.pending ∧ ({ t with flash := y } : State).time = s.time ∧ ({ t with flash := y } : State).dev = s.dev ∧ ({ t with flash := y } : State).fuses = s.fuses ∧ ({ t with flash := y } : State).params = s.params ∧ ({ t with flash := y } : State).dram = s.dram ∧ ({ t with flash := y } : State).pwr = s.pwr ∧ ({ t with flash := y } : State).sec = s.sec ∧ ({ t with flash := y } : State).nor = s.nor := h
theorem ktrans_12 {a b c : State} (h : c.pending = b.pending ∧ c.time = b.time ∧ c.dev = b.dev ∧ c.fuses = b.fuses ∧ c.host = b.host ∧ c.nvm = b.nvm ∧ c.land = b.land ∧ c.map = b.map ∧ c.media = b.media ∧ c.flash = b.flash ∧ c.cache = b.cache ∧ c.plp = b.plp ∧ c.dram = b.dram ∧ c.pwr = b.pwr ∧ c.sec = b.sec ∧ c.nor = b.nor ∧ c.bus = b.bus ∧ c.free = b.free) (g : b.pending = a.pending ∧ b.time = a.time ∧ b.dev = a.dev ∧ b.fuses = a.fuses ∧ b.host = a.host ∧ b.nvm = a.nvm ∧ b.land = a.land ∧ b.map = a.map ∧ b.media = a.media ∧ b.flash = a.flash ∧ b.cache = a.cache ∧ b.plp = a.plp ∧ b.dram = a.dram ∧ b.pwr = a.pwr ∧ b.sec = a.sec ∧ b.nor = a.nor ∧ b.bus = a.bus ∧ b.free = a.free) :
    c.pending = a.pending ∧ c.time = a.time ∧ c.dev = a.dev ∧ c.fuses = a.fuses ∧ c.host = a.host ∧ c.nvm = a.nvm ∧ c.land = a.land ∧ c.map = a.map ∧ c.media = a.media ∧ c.flash = a.flash ∧ c.cache = a.cache ∧ c.plp = a.plp ∧ c.dram = a.dram ∧ c.pwr = a.pwr ∧ c.sec = a.sec ∧ c.nor = a.nor ∧ c.bus = a.bus ∧ c.free = a.free := by
  simp only [h, g, and_self]
theorem kfold_12 {β : Type} {f : State → β → State} (h : ∀ a x b, f a x = b → b.pending = a.pending ∧ b.time = a.time ∧ b.dev = a.dev ∧ b.fuses = a.fuses ∧ b.host = a.host ∧ b.nvm = a.nvm ∧ b.land = a.land ∧ b.map = a.map ∧ b.media = a.media ∧ b.flash = a.flash ∧ b.cache = a.cache ∧ b.plp = a.plp ∧ b.dram = a.dram ∧ b.pwr = a.pwr ∧ b.sec = a.sec ∧ b.nor = a.nor ∧ b.bus = a.bus ∧ b.free = a.free)
    (l : List β) (s : State) : (l.foldl f s).pending = s.pending ∧ (l.foldl f s).time = s.time ∧ (l.foldl f s).dev = s.dev ∧ (l.foldl f s).fuses = s.fuses ∧ (l.foldl f s).host = s.host ∧ (l.foldl f s).nvm = s.nvm ∧ (l.foldl f s).land = s.land ∧ (l.foldl f s).map = s.map ∧ (l.foldl f s).media = s.media ∧ (l.foldl f s).flash = s.flash ∧ (l.foldl f s).cache = s.cache ∧ (l.foldl f s).plp = s.plp ∧ (l.foldl f s).dram = s.dram ∧ (l.foldl f s).pwr = s.pwr ∧ (l.foldl f s).sec = s.sec ∧ (l.foldl f s).nor = s.nor ∧ (l.foldl f s).bus = s.bus ∧ (l.foldl f s).free = s.free := by
  induction l generalizing s with
  | nil => and_intros <;> rfl
  | cons x l ih => exact ktrans_12 (ih _) (h _ _ _ rfl)
theorem ktrans_13 {a b c : State} (h : c.pending = b.pending ∧ c.time = b.time ∧ c.dev = b.dev ∧ c.fuses = b.fuses ∧ c.params = b.params ∧ c.media = b.media ∧ c.cache = b.cache ∧ c.plp = b.plp ∧ c.dram = b.dram ∧ c.pwr = b.pwr ∧ c.sec = b.sec ∧ c.mgmt = b.mgmt ∧ c.naile = b.naile ∧ c.nor = b.nor ∧ c.bus = b.bus ∧ c.free = b.free) (g : b.pending = a.pending ∧ b.time = a.time ∧ b.dev = a.dev ∧ b.fuses = a.fuses ∧ b.params = a.params ∧ b.media = a.media ∧ b.cache = a.cache ∧ b.plp = a.plp ∧ b.dram = a.dram ∧ b.pwr = a.pwr ∧ b.sec = a.sec ∧ b.mgmt = a.mgmt ∧ b.naile = a.naile ∧ b.nor = a.nor ∧ b.bus = a.bus ∧ b.free = a.free) :
    c.pending = a.pending ∧ c.time = a.time ∧ c.dev = a.dev ∧ c.fuses = a.fuses ∧ c.params = a.params ∧ c.media = a.media ∧ c.cache = a.cache ∧ c.plp = a.plp ∧ c.dram = a.dram ∧ c.pwr = a.pwr ∧ c.sec = a.sec ∧ c.mgmt = a.mgmt ∧ c.naile = a.naile ∧ c.nor = a.nor ∧ c.bus = a.bus ∧ c.free = a.free := by
  simp only [h, g, and_self]
theorem kfold_13 {β : Type} {f : State → β → State} (h : ∀ a x b, f a x = b → b.pending = a.pending ∧ b.time = a.time ∧ b.dev = a.dev ∧ b.fuses = a.fuses ∧ b.params = a.params ∧ b.media = a.media ∧ b.cache = a.cache ∧ b.plp = a.plp ∧ b.dram = a.dram ∧ b.pwr = a.pwr ∧ b.sec = a.sec ∧ b.mgmt = a.mgmt ∧ b.naile = a.naile ∧ b.nor = a.nor ∧ b.bus = a.bus ∧ b.free = a.free)
    (l : List β) (s : State) : (l.foldl f s).pending = s.pending ∧ (l.foldl f s).time = s.time ∧ (l.foldl f s).dev = s.dev ∧ (l.foldl f s).fuses = s.fuses ∧ (l.foldl f s).params = s.params ∧ (l.foldl f s).media = s.media ∧ (l.foldl f s).cache = s.cache ∧ (l.foldl f s).plp = s.plp ∧ (l.foldl f s).dram = s.dram ∧ (l.foldl f s).pwr = s.pwr ∧ (l.foldl f s).sec = s.sec ∧ (l.foldl f s).mgmt = s.mgmt ∧ (l.foldl f s).naile = s.naile ∧ (l.foldl f s).nor = s.nor ∧ (l.foldl f s).bus = s.bus ∧ (l.foldl f s).free = s.free := by
  induction l generalizing s with
  | nil => and_intros <;> rfl
  | cons x l ih => exact ktrans_13 (ih _) (h _ _ _ rfl)
theorem kflash_13 {s t : State} (y : FlashS) (h : t.pending = s.pending ∧ t.time = s.time ∧ t.dev = s.dev ∧ t.fuses = s.fuses ∧ t.params = s.params ∧ t.media = s.media ∧ t.cache = s.cache ∧ t.plp = s.plp ∧ t.dram = s.dram ∧ t.pwr = s.pwr ∧ t.sec = s.sec ∧ t.mgmt = s.mgmt ∧ t.naile = s.naile ∧ t.nor = s.nor ∧ t.bus = s.bus ∧ t.free = s.free) :
    ({ t with flash := y } : State).pending = s.pending ∧ ({ t with flash := y } : State).time = s.time ∧ ({ t with flash := y } : State).dev = s.dev ∧ ({ t with flash := y } : State).fuses = s.fuses ∧ ({ t with flash := y } : State).params = s.params ∧ ({ t with flash := y } : State).media = s.media ∧ ({ t with flash := y } : State).cache = s.cache ∧ ({ t with flash := y } : State).plp = s.plp ∧ ({ t with flash := y } : State).dram = s.dram ∧ ({ t with flash := y } : State).pwr = s.pwr ∧ ({ t with flash := y } : State).sec = s.sec ∧ ({ t with flash := y } : State).mgmt = s.mgmt ∧ ({ t with flash := y } : State).naile = s.naile ∧ ({ t with flash := y } : State).nor = s.nor ∧ ({ t with flash := y } : State).bus = s.bus ∧ ({ t with flash := y } : State).free = s.free := h
theorem ktrans_14 {a b c : State} (h : c.pending = b.pending ∧ c.time = b.time ∧ c.dev = b.dev ∧ c.fuses = b.fuses ∧ c.params = b.params ∧ c.map = b.map ∧ c.dram = b.dram ∧ c.pwr = b.pwr ∧ c.sec = b.sec ∧ c.mgmt = b.mgmt ∧ c.naile = b.naile ∧ c.nor = b.nor ∧ c.bus = b.bus ∧ c.free = b.free) (g : b.pending = a.pending ∧ b.time = a.time ∧ b.dev = a.dev ∧ b.fuses = a.fuses ∧ b.params = a.params ∧ b.map = a.map ∧ b.dram = a.dram ∧ b.pwr = a.pwr ∧ b.sec = a.sec ∧ b.mgmt = a.mgmt ∧ b.naile = a.naile ∧ b.nor = a.nor ∧ b.bus = a.bus ∧ b.free = a.free) :
    c.pending = a.pending ∧ c.time = a.time ∧ c.dev = a.dev ∧ c.fuses = a.fuses ∧ c.params = a.params ∧ c.map = a.map ∧ c.dram = a.dram ∧ c.pwr = a.pwr ∧ c.sec = a.sec ∧ c.mgmt = a.mgmt ∧ c.naile = a.naile ∧ c.nor = a.nor ∧ c.bus = a.bus ∧ c.free = a.free := by
  simp only [h, g, and_self]
theorem kfold_14 {β : Type} {f : State → β → State} (h : ∀ a x b, f a x = b → b.pending = a.pending ∧ b.time = a.time ∧ b.dev = a.dev ∧ b.fuses = a.fuses ∧ b.params = a.params ∧ b.map = a.map ∧ b.dram = a.dram ∧ b.pwr = a.pwr ∧ b.sec = a.sec ∧ b.mgmt = a.mgmt ∧ b.naile = a.naile ∧ b.nor = a.nor ∧ b.bus = a.bus ∧ b.free = a.free)
    (l : List β) (s : State) : (l.foldl f s).pending = s.pending ∧ (l.foldl f s).time = s.time ∧ (l.foldl f s).dev = s.dev ∧ (l.foldl f s).fuses = s.fuses ∧ (l.foldl f s).params = s.params ∧ (l.foldl f s).map = s.map ∧ (l.foldl f s).dram = s.dram ∧ (l.foldl f s).pwr = s.pwr ∧ (l.foldl f s).sec = s.sec ∧ (l.foldl f s).mgmt = s.mgmt ∧ (l.foldl f s).naile = s.naile ∧ (l.foldl f s).nor = s.nor ∧ (l.foldl f s).bus = s.bus ∧ (l.foldl f s).free = s.free := by
  induction l generalizing s with
  | nil => and_intros <;> rfl
  | cons x l ih => exact ktrans_14 (ih _) (h _ _ _ rfl)
theorem kflash_14 {s t : State} (y : FlashS) (h : t.pending = s.pending ∧ t.time = s.time ∧ t.dev = s.dev ∧ t.fuses = s.fuses ∧ t.params = s.params ∧ t.map = s.map ∧ t.dram = s.dram ∧ t.pwr = s.pwr ∧ t.sec = s.sec ∧ t.mgmt = s.mgmt ∧ t.naile = s.naile ∧ t.nor = s.nor ∧ t.bus = s.bus ∧ t.free = s.free) :
    ({ t with flash := y } : State).pending = s.pending ∧ ({ t with flash := y } : State).time = s.time ∧ ({ t with flash := y } : State).dev = s.dev ∧ ({ t with flash := y } : State).fuses = s.fuses ∧ ({ t with flash := y } : State).params = s.params ∧ ({ t with flash := y } : State).map = s.map ∧ ({ t with flash := y } : State).dram = s.dram ∧ ({ t with flash := y } : State).pwr = s.pwr ∧ ({ t with flash := y } : State).sec = s.sec ∧ ({ t with flash := y } : State).mgmt = s.mgmt ∧ ({ t with flash := y } : State).naile = s.naile ∧ ({ t with flash := y } : State).nor = s.nor ∧ ({ t with flash := y } : State).bus = s.bus ∧ ({ t with flash := y } : State).free = s.free := h
theorem ktrans_15 {a b c : State} (h : c.pending = b.pending ∧ c.time = b.time ∧ c.fuses = b.fuses ∧ c.params = b.params ∧ c.media = b.media ∧ c.cache = b.cache ∧ c.plp = b.plp ∧ c.dram = b.dram ∧ c.pwr = b.pwr ∧ c.sec = b.sec ∧ c.mgmt = b.mgmt ∧ c.naile = b.naile ∧ c.nor = b.nor ∧ c.bus = b.bus ∧ c.free = b.free) (g : b.pending = a.pending ∧ b.time = a.time ∧ b.fuses = a.fuses ∧ b.params = a.params ∧ b.media = a.media ∧ b.cache = a.cache ∧ b.plp = a.plp ∧ b.dram = a.dram ∧ b.pwr = a.pwr ∧ b.sec = a.sec ∧ b.mgmt = a.mgmt ∧ b.naile = a.naile ∧ b.nor = a.nor ∧ b.bus = a.bus ∧ b.free = a.free) :
    c.pending = a.pending ∧ c.time = a.time ∧ c.fuses = a.fuses ∧ c.params = a.params ∧ c.media = a.media ∧ c.cache = a.cache ∧ c.plp = a.plp ∧ c.dram = a.dram ∧ c.pwr = a.pwr ∧ c.sec = a.sec ∧ c.mgmt = a.mgmt ∧ c.naile = a.naile ∧ c.nor = a.nor ∧ c.bus = a.bus ∧ c.free = a.free := by
  simp only [h, g, and_self]
theorem kfold_15 {β : Type} {f : State → β → State} (h : ∀ a x b, f a x = b → b.pending = a.pending ∧ b.time = a.time ∧ b.fuses = a.fuses ∧ b.params = a.params ∧ b.media = a.media ∧ b.cache = a.cache ∧ b.plp = a.plp ∧ b.dram = a.dram ∧ b.pwr = a.pwr ∧ b.sec = a.sec ∧ b.mgmt = a.mgmt ∧ b.naile = a.naile ∧ b.nor = a.nor ∧ b.bus = a.bus ∧ b.free = a.free)
    (l : List β) (s : State) : (l.foldl f s).pending = s.pending ∧ (l.foldl f s).time = s.time ∧ (l.foldl f s).fuses = s.fuses ∧ (l.foldl f s).params = s.params ∧ (l.foldl f s).media = s.media ∧ (l.foldl f s).cache = s.cache ∧ (l.foldl f s).plp = s.plp ∧ (l.foldl f s).dram = s.dram ∧ (l.foldl f s).pwr = s.pwr ∧ (l.foldl f s).sec = s.sec ∧ (l.foldl f s).mgmt = s.mgmt ∧ (l.foldl f s).naile = s.naile ∧ (l.foldl f s).nor = s.nor ∧ (l.foldl f s).bus = s.bus ∧ (l.foldl f s).free = s.free := by
  induction l generalizing s with
  | nil => and_intros <;> rfl
  | cons x l ih => exact ktrans_15 (ih _) (h _ _ _ rfl)
theorem kflash_15 {s t : State} (y : FlashS) (h : t.pending = s.pending ∧ t.time = s.time ∧ t.fuses = s.fuses ∧ t.params = s.params ∧ t.media = s.media ∧ t.cache = s.cache ∧ t.plp = s.plp ∧ t.dram = s.dram ∧ t.pwr = s.pwr ∧ t.sec = s.sec ∧ t.mgmt = s.mgmt ∧ t.naile = s.naile ∧ t.nor = s.nor ∧ t.bus = s.bus ∧ t.free = s.free) :
    ({ t with flash := y } : State).pending = s.pending ∧ ({ t with flash := y } : State).time = s.time ∧ ({ t with flash := y } : State).fuses = s.fuses ∧ ({ t with flash := y } : State).params = s.params ∧ ({ t with flash := y } : State).media = s.media ∧ ({ t with flash := y } : State).cache = s.cache ∧ ({ t with flash := y } : State).plp = s.plp ∧ ({ t with flash := y } : State).dram = s.dram ∧ ({ t with flash := y } : State).pwr = s.pwr ∧ ({ t with flash := y } : State).sec = s.sec ∧ ({ t with flash := y } : State).mgmt = s.mgmt ∧ ({ t with flash := y } : State).naile = s.naile ∧ ({ t with flash := y } : State).nor = s.nor ∧ ({ t with flash := y } : State).bus = s.bus ∧ ({ t with flash := y } : State).free = s.free := h
theorem ktrans_16 {a b c : State} (h : c.pending = b.pending ∧ c.time = b.time ∧ c.fuses = b.fuses ∧ c.params = b.params ∧ c.dram = b.dram ∧ c.pwr = b.pwr ∧ c.sec = b.sec ∧ c.nor = b.nor ∧ c.free = b.free) (g : b.pending = a.pending ∧ b.time = a.time ∧ b.fuses = a.fuses ∧ b.params = a.params ∧ b.dram = a.dram ∧ b.pwr = a.pwr ∧ b.sec = a.sec ∧ b.nor = a.nor ∧ b.free = a.free) :
    c.pending = a.pending ∧ c.time = a.time ∧ c.fuses = a.fuses ∧ c.params = a.params ∧ c.dram = a.dram ∧ c.pwr = a.pwr ∧ c.sec = a.sec ∧ c.nor = a.nor ∧ c.free = a.free := by
  simp only [h, g, and_self]
theorem kfold_16 {β : Type} {f : State → β → State} (h : ∀ a x b, f a x = b → b.pending = a.pending ∧ b.time = a.time ∧ b.fuses = a.fuses ∧ b.params = a.params ∧ b.dram = a.dram ∧ b.pwr = a.pwr ∧ b.sec = a.sec ∧ b.nor = a.nor ∧ b.free = a.free)
    (l : List β) (s : State) : (l.foldl f s).pending = s.pending ∧ (l.foldl f s).time = s.time ∧ (l.foldl f s).fuses = s.fuses ∧ (l.foldl f s).params = s.params ∧ (l.foldl f s).dram = s.dram ∧ (l.foldl f s).pwr = s.pwr ∧ (l.foldl f s).sec = s.sec ∧ (l.foldl f s).nor = s.nor ∧ (l.foldl f s).free = s.free := by
  induction l generalizing s with
  | nil => and_intros <;> rfl
  | cons x l ih => exact ktrans_16 (ih _) (h _ _ _ rfl)
theorem kflash_16 {s t : State} (y : FlashS) (h : t.pending = s.pending ∧ t.time = s.time ∧ t.fuses = s.fuses ∧ t.params = s.params ∧ t.dram = s.dram ∧ t.pwr = s.pwr ∧ t.sec = s.sec ∧ t.nor = s.nor ∧ t.free = s.free) :
    ({ t with flash := y } : State).pending = s.pending ∧ ({ t with flash := y } : State).time = s.time ∧ ({ t with flash := y } : State).fuses = s.fuses ∧ ({ t with flash := y } : State).params = s.params ∧ ({ t with flash := y } : State).dram = s.dram ∧ ({ t with flash := y } : State).pwr = s.pwr ∧ ({ t with flash := y } : State).sec = s.sec ∧ ({ t with flash := y } : State).nor = s.nor ∧ ({ t with flash := y } : State).free = s.free := h
theorem ktrans_17 {a b c : State} (h : c.pending = b.pending ∧ c.time = b.time ∧ c.dev = b.dev ∧ c.fuses = b.fuses ∧ c.params = b.params ∧ c.host = b.host ∧ c.nvm = b.nvm ∧ c.flash = b.flash ∧ c.cache = b.cache ∧ c.plp = b.plp ∧ c.dram = b.dram ∧ c.pwr = b.pwr ∧ c.sec = b.sec ∧ c.mgmt = b.mgmt ∧ c.naile = b.naile ∧ c.nor = b.nor ∧ c.bus = b.bus ∧ c.free = b.free) (g : b.pending = a.pending ∧ b.time = a.time ∧ b.dev = a.dev ∧ b.fuses = a.fuses ∧ b.params = a.params ∧ b.host = a.host ∧ b.nvm = a.nvm ∧ b.flash = a.flash ∧ b.cache = a.cache ∧ b.plp = a.plp ∧ b.dram = a.dram ∧ b.pwr = a.pwr ∧ b.sec = a.sec ∧ b.mgmt = a.mgmt ∧ b.naile = a.naile ∧ b.nor = a.nor ∧ b.bus = a.bus ∧ b.free = a.free) :
    c.pending = a.pending ∧ c.time = a.time ∧ c.dev = a.dev ∧ c.fuses = a.fuses ∧ c.params = a.params ∧ c.host = a.host ∧ c.nvm = a.nvm ∧ c.flash = a.flash ∧ c.cache = a.cache ∧ c.plp = a.plp ∧ c.dram = a.dram ∧ c.pwr = a.pwr ∧ c.sec = a.sec ∧ c.mgmt = a.mgmt ∧ c.naile = a.naile ∧ c.nor = a.nor ∧ c.bus = a.bus ∧ c.free = a.free := by
  simp only [h, g, and_self]
theorem kfold_17 {β : Type} {f : State → β → State} (h : ∀ a x b, f a x = b → b.pending = a.pending ∧ b.time = a.time ∧ b.dev = a.dev ∧ b.fuses = a.fuses ∧ b.params = a.params ∧ b.host = a.host ∧ b.nvm = a.nvm ∧ b.flash = a.flash ∧ b.cache = a.cache ∧ b.plp = a.plp ∧ b.dram = a.dram ∧ b.pwr = a.pwr ∧ b.sec = a.sec ∧ b.mgmt = a.mgmt ∧ b.naile = a.naile ∧ b.nor = a.nor ∧ b.bus = a.bus ∧ b.free = a.free)
    (l : List β) (s : State) : (l.foldl f s).pending = s.pending ∧ (l.foldl f s).time = s.time ∧ (l.foldl f s).dev = s.dev ∧ (l.foldl f s).fuses = s.fuses ∧ (l.foldl f s).params = s.params ∧ (l.foldl f s).host = s.host ∧ (l.foldl f s).nvm = s.nvm ∧ (l.foldl f s).flash = s.flash ∧ (l.foldl f s).cache = s.cache ∧ (l.foldl f s).plp = s.plp ∧ (l.foldl f s).dram = s.dram ∧ (l.foldl f s).pwr = s.pwr ∧ (l.foldl f s).sec = s.sec ∧ (l.foldl f s).mgmt = s.mgmt ∧ (l.foldl f s).naile = s.naile ∧ (l.foldl f s).nor = s.nor ∧ (l.foldl f s).bus = s.bus ∧ (l.foldl f s).free = s.free := by
  induction l generalizing s with
  | nil => and_intros <;> rfl
  | cons x l ih => exact ktrans_17 (ih _) (h _ _ _ rfl)
theorem ktrans_18 {a b c : State} (h : c.pending = b.pending ∧ c.time = b.time ∧ c.dev = b.dev ∧ c.fuses = b.fuses ∧ c.params = b.params ∧ c.host = b.host ∧ c.nvm = b.nvm ∧ c.land = b.land ∧ c.map = b.map ∧ c.media = b.media ∧ c.flash = b.flash ∧ c.cache = b.cache ∧ c.plp = b.plp ∧ c.dram = b.dram ∧ c.pwr = b.pwr ∧ c.sec = b.sec ∧ c.nor = b.nor ∧ c.bus = b.bus ∧ c.free = b.free) (g : b.pending = a.pending ∧ b.time = a.time ∧ b.dev = a.dev ∧ b.fuses = a.fuses ∧ b.params = a.params ∧ b.host = a.host ∧ b.nvm = a.nvm ∧ b.land = a.land ∧ b.map = a.map ∧ b.media = a.media ∧ b.flash = a.flash ∧ b.cache = a.cache ∧ b.plp = a.plp ∧ b.dram = a.dram ∧ b.pwr = a.pwr ∧ b.sec = a.sec ∧ b.nor = a.nor ∧ b.bus = a.bus ∧ b.free = a.free) :
    c.pending = a.pending ∧ c.time = a.time ∧ c.dev = a.dev ∧ c.fuses = a.fuses ∧ c.params = a.params ∧ c.host = a.host ∧ c.nvm = a.nvm ∧ c.land = a.land ∧ c.map = a.map ∧ c.media = a.media ∧ c.flash = a.flash ∧ c.cache = a.cache ∧ c.plp = a.plp ∧ c.dram = a.dram ∧ c.pwr = a.pwr ∧ c.sec = a.sec ∧ c.nor = a.nor ∧ c.bus = a.bus ∧ c.free = a.free := by
  simp only [h, g, and_self]
theorem kfold_18 {β : Type} {f : State → β → State} (h : ∀ a x b, f a x = b → b.pending = a.pending ∧ b.time = a.time ∧ b.dev = a.dev ∧ b.fuses = a.fuses ∧ b.params = a.params ∧ b.host = a.host ∧ b.nvm = a.nvm ∧ b.land = a.land ∧ b.map = a.map ∧ b.media = a.media ∧ b.flash = a.flash ∧ b.cache = a.cache ∧ b.plp = a.plp ∧ b.dram = a.dram ∧ b.pwr = a.pwr ∧ b.sec = a.sec ∧ b.nor = a.nor ∧ b.bus = a.bus ∧ b.free = a.free)
    (l : List β) (s : State) : (l.foldl f s).pending = s.pending ∧ (l.foldl f s).time = s.time ∧ (l.foldl f s).dev = s.dev ∧ (l.foldl f s).fuses = s.fuses ∧ (l.foldl f s).params = s.params ∧ (l.foldl f s).host = s.host ∧ (l.foldl f s).nvm = s.nvm ∧ (l.foldl f s).land = s.land ∧ (l.foldl f s).map = s.map ∧ (l.foldl f s).media = s.media ∧ (l.foldl f s).flash = s.flash ∧ (l.foldl f s).cache = s.cache ∧ (l.foldl f s).plp = s.plp ∧ (l.foldl f s).dram = s.dram ∧ (l.foldl f s).pwr = s.pwr ∧ (l.foldl f s).sec = s.sec ∧ (l.foldl f s).nor = s.nor ∧ (l.foldl f s).bus = s.bus ∧ (l.foldl f s).free = s.free := by
  induction l generalizing s with
  | nil => and_intros <;> rfl
  | cons x l ih => exact ktrans_18 (ih _) (h _ _ _ rfl)
theorem ktrans_19 {a b c : State} (h : c.pending = b.pending ∧ c.time = b.time ∧ c.dev = b.dev ∧ c.fuses = b.fuses ∧ c.params = b.params ∧ c.host = b.host ∧ c.nvm = b.nvm ∧ c.land = b.land ∧ c.map = b.map ∧ c.media = b.media ∧ c.flash = b.flash ∧ c.dram = b.dram ∧ c.pwr = b.pwr ∧ c.sec = b.sec ∧ c.nor = b.nor ∧ c.bus = b.bus ∧ c.free = b.free) (g : b.pending = a.pending ∧ b.time = a.time ∧ b.dev = a.dev ∧ b.fuses = a.fuses ∧ b.params = a.params ∧ b.host = a.host ∧ b.nvm = a.nvm ∧ b.land = a.land ∧ b.map = a.map ∧ b.media = a.media ∧ b.flash = a.flash ∧ b.dram = a.dram ∧ b.pwr = a.pwr ∧ b.sec = a.sec ∧ b.nor = a.nor ∧ b.bus = a.bus ∧ b.free = a.free) :
    c.pending = a.pending ∧ c.time = a.time ∧ c.dev = a.dev ∧ c.fuses = a.fuses ∧ c.params = a.params ∧ c.host = a.host ∧ c.nvm = a.nvm ∧ c.land = a.land ∧ c.map = a.map ∧ c.media = a.media ∧ c.flash = a.flash ∧ c.dram = a.dram ∧ c.pwr = a.pwr ∧ c.sec = a.sec ∧ c.nor = a.nor ∧ c.bus = a.bus ∧ c.free = a.free := by
  simp only [h, g, and_self]
theorem kfold_19 {β : Type} {f : State → β → State} (h : ∀ a x b, f a x = b → b.pending = a.pending ∧ b.time = a.time ∧ b.dev = a.dev ∧ b.fuses = a.fuses ∧ b.params = a.params ∧ b.host = a.host ∧ b.nvm = a.nvm ∧ b.land = a.land ∧ b.map = a.map ∧ b.media = a.media ∧ b.flash = a.flash ∧ b.dram = a.dram ∧ b.pwr = a.pwr ∧ b.sec = a.sec ∧ b.nor = a.nor ∧ b.bus = a.bus ∧ b.free = a.free)
    (l : List β) (s : State) : (l.foldl f s).pending = s.pending ∧ (l.foldl f s).time = s.time ∧ (l.foldl f s).dev = s.dev ∧ (l.foldl f s).fuses = s.fuses ∧ (l.foldl f s).params = s.params ∧ (l.foldl f s).host = s.host ∧ (l.foldl f s).nvm = s.nvm ∧ (l.foldl f s).land = s.land ∧ (l.foldl f s).map = s.map ∧ (l.foldl f s).media = s.media ∧ (l.foldl f s).flash = s.flash ∧ (l.foldl f s).dram = s.dram ∧ (l.foldl f s).pwr = s.pwr ∧ (l.foldl f s).sec = s.sec ∧ (l.foldl f s).nor = s.nor ∧ (l.foldl f s).bus = s.bus ∧ (l.foldl f s).free = s.free := by
  induction l generalizing s with
  | nil => and_intros <;> rfl
  | cons x l ih => exact ktrans_19 (ih _) (h _ _ _ rfl)
theorem ktrans_20 {a b c : State} (h : c.pending = b.pending ∧ c.time = b.time ∧ c.dev = b.dev ∧ c.fuses = b.fuses ∧ c.params = b.params ∧ c.host = b.host ∧ c.nvm = b.nvm ∧ c.map = b.map ∧ c.flash = b.flash ∧ c.cache = b.cache ∧ c.plp = b.plp ∧ c.dram = b.dram ∧ c.pwr = b.pwr ∧ c.sec = b.sec ∧ c.mgmt = b.mgmt ∧ c.naile = b.naile ∧ c.nor = b.nor ∧ c.bus = b.bus ∧ c.free = b.free) (g : b.pending = a.pending ∧ b.time = a.time ∧ b.dev = a.dev ∧ b.fuses = a.fuses ∧ b.params = a.params ∧ b.host = a.host ∧ b.nvm = a.nvm ∧ b.map = a.map ∧ b.flash = a.flash ∧ b.cache = a.cache ∧ b.plp = a.plp ∧ b.dram = a.dram ∧ b.pwr = a.pwr ∧ b.sec = a.sec ∧ b.mgmt = a.mgmt ∧ b.naile = a.naile ∧ b.nor = a.nor ∧ b.bus = a.bus ∧ b.free = a.free) :
    c.pending = a.pending ∧ c.time = a.time ∧ c.dev = a.dev ∧ c.fuses = a.fuses ∧ c.params = a.params ∧ c.host = a.host ∧ c.nvm = a.nvm ∧ c.map = a.map ∧ c.flash = a.flash ∧ c.cache = a.cache ∧ c.plp = a.plp ∧ c.dram = a.dram ∧ c.pwr = a.pwr ∧ c.sec = a.sec ∧ c.mgmt = a.mgmt ∧ c.naile = a.naile ∧ c.nor = a.nor ∧ c.bus = a.bus ∧ c.free = a.free := by
  simp only [h, g, and_self]
theorem kfold_20 {β : Type} {f : State → β → State} (h : ∀ a x b, f a x = b → b.pending = a.pending ∧ b.time = a.time ∧ b.dev = a.dev ∧ b.fuses = a.fuses ∧ b.params = a.params ∧ b.host = a.host ∧ b.nvm = a.nvm ∧ b.map = a.map ∧ b.flash = a.flash ∧ b.cache = a.cache ∧ b.plp = a.plp ∧ b.dram = a.dram ∧ b.pwr = a.pwr ∧ b.sec = a.sec ∧ b.mgmt = a.mgmt ∧ b.naile = a.naile ∧ b.nor = a.nor ∧ b.bus = a.bus ∧ b.free = a.free)
    (l : List β) (s : State) : (l.foldl f s).pending = s.pending ∧ (l.foldl f s).time = s.time ∧ (l.foldl f s).dev = s.dev ∧ (l.foldl f s).fuses = s.fuses ∧ (l.foldl f s).params = s.params ∧ (l.foldl f s).host = s.host ∧ (l.foldl f s).nvm = s.nvm ∧ (l.foldl f s).map = s.map ∧ (l.foldl f s).flash = s.flash ∧ (l.foldl f s).cache = s.cache ∧ (l.foldl f s).plp = s.plp ∧ (l.foldl f s).dram = s.dram ∧ (l.foldl f s).pwr = s.pwr ∧ (l.foldl f s).sec = s.sec ∧ (l.foldl f s).mgmt = s.mgmt ∧ (l.foldl f s).naile = s.naile ∧ (l.foldl f s).nor = s.nor ∧ (l.foldl f s).bus = s.bus ∧ (l.foldl f s).free = s.free := by
  induction l generalizing s with
  | nil => and_intros <;> rfl
  | cons x l ih => exact ktrans_20 (ih _) (h _ _ _ rfl)
theorem ktrans_21 {a b c : State} (h : c.pending = b.pending ∧ c.time = b.time ∧ c.dev = b.dev ∧ c.fuses = b.fuses ∧ c.params = b.params ∧ c.host = b.host ∧ c.nvm = b.nvm ∧ c.dram = b.dram ∧ c.pwr = b.pwr ∧ c.sec = b.sec ∧ c.mgmt = b.mgmt ∧ c.naile = b.naile ∧ c.nor = b.nor ∧ c.bus = b.bus ∧ c.free = b.free) (g : b.pending = a.pending ∧ b.time = a.time ∧ b.dev = a.dev ∧ b.fuses = a.fuses ∧ b.params = a.params ∧ b.host = a.host ∧ b.nvm = a.nvm ∧ b.dram = a.dram ∧ b.pwr = a.pwr ∧ b.sec = a.sec ∧ b.mgmt = a.mgmt ∧ b.naile = a.naile ∧ b.nor = a.nor ∧ b.bus = a.bus ∧ b.free = a.free) :
    c.pending = a.pending ∧ c.time = a.time ∧ c.dev = a.dev ∧ c.fuses = a.fuses ∧ c.params = a.params ∧ c.host = a.host ∧ c.nvm = a.nvm ∧ c.dram = a.dram ∧ c.pwr = a.pwr ∧ c.sec = a.sec ∧ c.mgmt = a.mgmt ∧ c.naile = a.naile ∧ c.nor = a.nor ∧ c.bus = a.bus ∧ c.free = a.free := by
  simp only [h, g, and_self]
theorem kfold_21 {β : Type} {f : State → β → State} (h : ∀ a x b, f a x = b → b.pending = a.pending ∧ b.time = a.time ∧ b.dev = a.dev ∧ b.fuses = a.fuses ∧ b.params = a.params ∧ b.host = a.host ∧ b.nvm = a.nvm ∧ b.dram = a.dram ∧ b.pwr = a.pwr ∧ b.sec = a.sec ∧ b.mgmt = a.mgmt ∧ b.naile = a.naile ∧ b.nor = a.nor ∧ b.bus = a.bus ∧ b.free = a.free)
    (l : List β) (s : State) : (l.foldl f s).pending = s.pending ∧ (l.foldl f s).time = s.time ∧ (l.foldl f s).dev = s.dev ∧ (l.foldl f s).fuses = s.fuses ∧ (l.foldl f s).params = s.params ∧ (l.foldl f s).host = s.host ∧ (l.foldl f s).nvm = s.nvm ∧ (l.foldl f s).dram = s.dram ∧ (l.foldl f s).pwr = s.pwr ∧ (l.foldl f s).sec = s.sec ∧ (l.foldl f s).mgmt = s.mgmt ∧ (l.foldl f s).naile = s.naile ∧ (l.foldl f s).nor = s.nor ∧ (l.foldl f s).bus = s.bus ∧ (l.foldl f s).free = s.free := by
  induction l generalizing s with
  | nil => and_intros <;> rfl
  | cons x l ih => exact ktrans_21 (ih _) (h _ _ _ rfl)
theorem kflash_21 {s t : State} (y : FlashS) (h : t.pending = s.pending ∧ t.time = s.time ∧ t.dev = s.dev ∧ t.fuses = s.fuses ∧ t.params = s.params ∧ t.host = s.host ∧ t.nvm = s.nvm ∧ t.dram = s.dram ∧ t.pwr = s.pwr ∧ t.sec = s.sec ∧ t.mgmt = s.mgmt ∧ t.naile = s.naile ∧ t.nor = s.nor ∧ t.bus = s.bus ∧ t.free = s.free) :
    ({ t with flash := y } : State).pending = s.pending ∧ ({ t with flash := y } : State).time = s.time ∧ ({ t with flash := y } : State).dev = s.dev ∧ ({ t with flash := y } : State).fuses = s.fuses ∧ ({ t with flash := y } : State).params = s.params ∧ ({ t with flash := y } : State).host = s.host ∧ ({ t with flash := y } : State).nvm = s.nvm ∧ ({ t with flash := y } : State).dram = s.dram ∧ ({ t with flash := y } : State).pwr = s.pwr ∧ ({ t with flash := y } : State).sec = s.sec ∧ ({ t with flash := y } : State).mgmt = s.mgmt ∧ ({ t with flash := y } : State).naile = s.naile ∧ ({ t with flash := y } : State).nor = s.nor ∧ ({ t with flash := y } : State).bus = s.bus ∧ ({ t with flash := y } : State).free = s.free := h

end Sys2Proof.Machine
end

