-- ==== Sys2Proof/Laws/FrameCore.lean ====
section
/-! SUPPORT. Frames of the shared operations: for each, the units of State it leaves alone. Here the core operations: the Tally, landing RAM, host tags, map, media, channels, cache, placement and reads. -/

set_option linter.all false

namespace Sys2Proof.Machine

theorem State.fail_keep (s : State) :
    (State.fail s).pending = s.pending ∧ (State.fail s).time = s.time ∧ (State.fail s).fuses = s.fuses ∧ (State.fail s).params = s.params ∧ (State.fail s).host = s.host ∧ (State.fail s).nvm = s.nvm ∧ (State.fail s).land = s.land ∧ (State.fail s).map = s.map ∧ (State.fail s).media = s.media ∧ (State.fail s).flash = s.flash ∧ (State.fail s).cache = s.cache ∧ (State.fail s).plp = s.plp ∧ (State.fail s).dram = s.dram ∧ (State.fail s).pwr = s.pwr ∧ (State.fail s).sec = s.sec ∧ (State.fail s).naile = s.naile ∧ (State.fail s).tally = s.tally ∧ (State.fail s).bus = s.bus ∧ (State.fail s).free = s.free := by
  generalize hr : State.fail s = r
  simp only [State.fail] at hr
  repeat' split at hr
  all_goals (subst hr; (simp only [and_self]))

theorem State.submit_keep (s : State) (x : TallyIn) : (s.submit x).pending = s.pending ∧ (s.submit x).time = s.time ∧ (s.submit x).fuses = s.fuses ∧ (s.submit x).params = s.params ∧ (s.submit x).host = s.host ∧ (s.submit x).nvm = s.nvm ∧ (s.submit x).land = s.land ∧ (s.submit x).map = s.map ∧ (s.submit x).media = s.media ∧ (s.submit x).flash = s.flash ∧ (s.submit x).cache = s.cache ∧ (s.submit x).plp = s.plp ∧ (s.submit x).dram = s.dram ∧ (s.submit x).pwr = s.pwr ∧ (s.submit x).sec = s.sec ∧ (s.submit x).bus = s.bus ∧ (s.submit x).free = s.free := by
  generalize hr : s.submit x = r
  simp only [State.submit] at hr
  repeat' split at hr
  all_goals (subst hr; simp only [(fact @State.fail_keep), and_self])
theorem State.submit_calm (s : State) (x : TallyIn) (h : x.sev ≠ 6) : (s.submit x).pending = s.pending ∧ (s.submit x).time = s.time ∧ (s.submit x).dev = s.dev ∧ (s.submit x).fuses = s.fuses ∧ (s.submit x).params = s.params ∧ (s.submit x).host = s.host ∧ (s.submit x).nvm = s.nvm ∧ (s.submit x).land = s.land ∧ (s.submit x).map = s.map ∧ (s.submit x).media = s.media ∧ (s.submit x).flash = s.flash ∧ (s.submit x).cache = s.cache ∧ (s.submit x).plp = s.plp ∧ (s.submit x).dram = s.dram ∧ (s.submit x).pwr = s.pwr ∧ (s.submit x).sec = s.sec ∧ (s.submit x).nor = s.nor ∧ (s.submit x).bus = s.bus ∧ (s.submit x).free = s.free := by
  generalize hr : s.submit x = r
  have h : (x.sev = sevFatal) = False := eq_false h
  simp only [State.submit, h, if_false] at hr
  repeat' split at hr
  all_goals (subst hr; simp only [and_self])
theorem State.submit_calmHw (s : State) (x : TallyIn) (h : x.sev ≠ 6) (hm : x.mseq = none) : (s.submit x).pending = s.pending ∧ (s.submit x).time = s.time ∧ (s.submit x).dev = s.dev ∧ (s.submit x).fuses = s.fuses ∧ (s.submit x).params = s.params ∧ (s.submit x).host = s.host ∧ (s.submit x).nvm = s.nvm ∧ (s.submit x).land = s.land ∧ (s.submit x).map = s.map ∧ (s.submit x).media = s.media ∧ (s.submit x).flash = s.flash ∧ (s.submit x).cache = s.cache ∧ (s.submit x).plp = s.plp ∧ (s.submit x).dram = s.dram ∧ (s.submit x).pwr = s.pwr ∧ (s.submit x).sec = s.sec ∧ (s.submit x).mgmt = s.mgmt ∧ (s.submit x).naile = s.naile ∧ (s.submit x).nor = s.nor ∧ (s.submit x).bus = s.bus ∧ (s.submit x).free = s.free := by
  generalize hr : s.submit x = r
  have h : (x.sev = sevFatal) = False := eq_false h
  simp only [State.submit, h, hm, if_false] at hr
  repeat' split at hr
  all_goals (subst hr; simp only [and_self])


theorem State.recordHw_keep (s : State) (src sev code p0 p1 p2 p3 : Nat) : (s.recordHw src sev code p0 p1 p2 p3).pending = s.pending ∧ (s.recordHw src sev code p0 p1 p2 p3).time = s.time ∧ (s.recordHw src sev code p0 p1 p2 p3).fuses = s.fuses ∧ (s.recordHw src sev code p0 p1 p2 p3).params = s.params ∧ (s.recordHw src sev code p0 p1 p2 p3).host = s.host ∧ (s.recordHw src sev code p0 p1 p2 p3).nvm = s.nvm ∧ (s.recordHw src sev code p0 p1 p2 p3).land = s.land ∧ (s.recordHw src sev code p0 p1 p2 p3).map = s.map ∧ (s.recordHw src sev code p0 p1 p2 p3).media = s.media ∧ (s.recordHw src sev code p0 p1 p2 p3).flash = s.flash ∧ (s.recordHw src sev code p0 p1 p2 p3).cache = s.cache ∧ (s.recordHw src sev code p0 p1 p2 p3).plp = s.plp ∧ (s.recordHw src sev code p0 p1 p2 p3).dram = s.dram ∧ (s.recordHw src sev code p0 p1 p2 p3).pwr = s.pwr ∧ (s.recordHw src sev code p0 p1 p2 p3).sec = s.sec ∧ (s.recordHw src sev code p0 p1 p2 p3).bus = s.bus ∧ (s.recordHw src sev code p0 p1 p2 p3).free = s.free := by
  simp only [State.recordHw, (fact @State.submit_keep), and_self]
theorem State.recordHw_calm (s : State) (src sev code p0 p1 p2 p3 : Nat) (h : sev ≠ 6) : (s.recordHw src sev code p0 p1 p2 p3).pending = s.pending ∧ (s.recordHw src sev code p0 p1 p2 p3).time = s.time ∧ (s.recordHw src sev code p0 p1 p2 p3).dev = s.dev ∧ (s.recordHw src sev code p0 p1 p2 p3).fuses = s.fuses ∧ (s.recordHw src sev code p0 p1 p2 p3).params = s.params ∧ (s.recordHw src sev code p0 p1 p2 p3).host = s.host ∧ (s.recordHw src sev code p0 p1 p2 p3).nvm = s.nvm ∧ (s.recordHw src sev code p0 p1 p2 p3).land = s.land ∧ (s.recordHw src sev code p0 p1 p2 p3).map = s.map ∧ (s.recordHw src sev code p0 p1 p2 p3).media = s.media ∧ (s.recordHw src sev code p0 p1 p2 p3).flash = s.flash ∧ (s.recordHw src sev code p0 p1 p2 p3).cache = s.cache ∧ (s.recordHw src sev code p0 p1 p2 p3).plp = s.plp ∧ (s.recordHw src sev code p0 p1 p2 p3).dram = s.dram ∧ (s.recordHw src sev code p0 p1 p2 p3).pwr = s.pwr ∧ (s.recordHw src sev code p0 p1 p2 p3).sec = s.sec ∧ (s.recordHw src sev code p0 p1 p2 p3).mgmt = s.mgmt ∧ (s.recordHw src sev code p0 p1 p2 p3).naile = s.naile ∧ (s.recordHw src sev code p0 p1 p2 p3).nor = s.nor ∧ (s.recordHw src sev code p0 p1 p2 p3).bus = s.bus ∧ (s.recordHw src sev code p0 p1 p2 p3).free = s.free :=
  State.submit_calmHw s _ h rfl


theorem State.record_keep (s : State) (sev code p0 p1 p2 p3 : Nat) : (s.record sev code p0 p1 p2 p3).pending = s.pending ∧ (s.record sev code p0 p1 p2 p3).time = s.time ∧ (s.record sev code p0 p1 p2 p3).fuses = s.fuses ∧ (s.record sev code p0 p1 p2 p3).params = s.params ∧ (s.record sev code p0 p1 p2 p3).host = s.host ∧ (s.record sev code p0 p1 p2 p3).nvm = s.nvm ∧ (s.record sev code p0 p1 p2 p3).land = s.land ∧ (s.record sev code p0 p1 p2 p3).map = s.map ∧ (s.record sev code p0 p1 p2 p3).media = s.media ∧ (s.record sev code p0 p1 p2 p3).flash = s.flash ∧ (s.record sev code p0 p1 p2 p3).cache = s.cache ∧ (s.record sev code p0 p1 p2 p3).plp = s.plp ∧ (s.record sev code p0 p1 p2 p3).dram = s.dram ∧ (s.record sev code p0 p1 p2 p3).pwr = s.pwr ∧ (s.record sev code p0 p1 p2 p3).sec = s.sec ∧ (s.record sev code p0 p1 p2 p3).bus = s.bus ∧ (s.record sev code p0 p1 p2 p3).free = s.free := by
  generalize hr : s.record sev code p0 p1 p2 p3 = r
  simp only [State.record] at hr
  split at hr
  all_goals (subst hr; simp only [(fact @State.submit_keep), and_self])
theorem State.record_calm (s : State) (sev code p0 p1 p2 p3 : Nat) (h : sev ≠ 6) : (s.record sev code p0 p1 p2 p3).pending = s.pending ∧ (s.record sev code p0 p1 p2 p3).time = s.time ∧ (s.record sev code p0 p1 p2 p3).dev = s.dev ∧ (s.record sev code p0 p1 p2 p3).fuses = s.fuses ∧ (s.record sev code p0 p1 p2 p3).params = s.params ∧ (s.record sev code p0 p1 p2 p3).host = s.host ∧ (s.record sev code p0 p1 p2 p3).nvm = s.nvm ∧ (s.record sev code p0 p1 p2 p3).land = s.land ∧ (s.record sev code p0 p1 p2 p3).map = s.map ∧ (s.record sev code p0 p1 p2 p3).media = s.media ∧ (s.record sev code p0 p1 p2 p3).flash = s.flash ∧ (s.record sev code p0 p1 p2 p3).cache = s.cache ∧ (s.record sev code p0 p1 p2 p3).plp = s.plp ∧ (s.record sev code p0 p1 p2 p3).dram = s.dram ∧ (s.record sev code p0 p1 p2 p3).pwr = s.pwr ∧ (s.record sev code p0 p1 p2 p3).sec = s.sec ∧ (s.record sev code p0 p1 p2 p3).nor = s.nor ∧ (s.record sev code p0 p1 p2 p3).bus = s.bus ∧ (s.record sev code p0 p1 p2 p3).free = s.free := by
  generalize hr : s.record sev code p0 p1 p2 p3 = r
  simp only [State.record] at hr
  split at hr
  · subst hr
    have e := fun (t : State) (q : Nat) (m : Nat) => State.submit_calm t { src := m, mseq := some q, sev := sev, code := code, p0 := BitVec.ofNat 32 p0, p1 := BitVec.ofNat 32 p1, p2 := BitVec.ofNat 32 p2, p3 := BitVec.ofNat 32 p3 } h
    simp only [e, and_self]
  · subst hr; simp only [and_self]


theorem State.recordBy_keep (s : State) (src sev code p0 p1 p2 p3 : Nat) : (s.recordBy src sev code p0 p1 p2 p3).pending = s.pending ∧ (s.recordBy src sev code p0 p1 p2 p3).time = s.time ∧ (s.recordBy src sev code p0 p1 p2 p3).fuses = s.fuses ∧ (s.recordBy src sev code p0 p1 p2 p3).params = s.params ∧ (s.recordBy src sev code p0 p1 p2 p3).host = s.host ∧ (s.recordBy src sev code p0 p1 p2 p3).nvm = s.nvm ∧ (s.recordBy src sev code p0 p1 p2 p3).land = s.land ∧ (s.recordBy src sev code p0 p1 p2 p3).map = s.map ∧ (s.recordBy src sev code p0 p1 p2 p3).media = s.media ∧ (s.recordBy src sev code p0 p1 p2 p3).flash = s.flash ∧ (s.recordBy src sev code p0 p1 p2 p3).cache = s.cache ∧ (s.recordBy src sev code p0 p1 p2 p3).plp = s.plp ∧ (s.recordBy src sev code p0 p1 p2 p3).dram = s.dram ∧ (s.recordBy src sev code p0 p1 p2 p3).pwr = s.pwr ∧ (s.recordBy src sev code p0 p1 p2 p3).sec = s.sec ∧ (s.recordBy src sev code p0 p1 p2 p3).bus = s.bus ∧ (s.recordBy src sev code p0 p1 p2 p3).free = s.free := by
  generalize hr : s.recordBy src sev code p0 p1 p2 p3 = r
  simp only [State.recordBy] at hr
  split at hr
  all_goals (subst hr; simp only [(fact @State.record_keep), (fact @State.recordHw_keep), and_self])
theorem State.recordBy_calm (s : State) (src sev code p0 p1 p2 p3 : Nat) (h : sev ≠ 6) : (s.recordBy src sev code p0 p1 p2 p3).pending = s.pending ∧ (s.recordBy src sev code p0 p1 p2 p3).time = s.time ∧ (s.recordBy src sev code p0 p1 p2 p3).dev = s.dev ∧ (s.recordBy src sev code p0 p1 p2 p3).fuses = s.fuses ∧ (s.recordBy src sev code p0 p1 p2 p3).params = s.params ∧ (s.recordBy src sev code p0 p1 p2 p3).host = s.host ∧ (s.recordBy src sev code p0 p1 p2 p3).nvm = s.nvm ∧ (s.recordBy src sev code p0 p1 p2 p3).land = s.land ∧ (s.recordBy src sev code p0 p1 p2 p3).map = s.map ∧ (s.recordBy src sev code p0 p1 p2 p3).media = s.media ∧ (s.recordBy src sev code p0 p1 p2 p3).flash = s.flash ∧ (s.recordBy src sev code p0 p1 p2 p3).cache = s.cache ∧ (s.recordBy src sev code p0 p1 p2 p3).plp = s.plp ∧ (s.recordBy src sev code p0 p1 p2 p3).dram = s.dram ∧ (s.recordBy src sev code p0 p1 p2 p3).pwr = s.pwr ∧ (s.recordBy src sev code p0 p1 p2 p3).sec = s.sec ∧ (s.recordBy src sev code p0 p1 p2 p3).nor = s.nor ∧ (s.recordBy src sev code p0 p1 p2 p3).bus = s.bus ∧ (s.recordBy src sev code p0 p1 p2 p3).free = s.free := by
  generalize hr : s.recordBy src sev code p0 p1 p2 p3 = r
  simp only [State.recordBy] at hr
  have e1 := State.record_calm s sev code p0 p1 p2 p3 h
  have e2 := State.recordHw_calm s src sev code p0 p1 p2 p3 h
  split at hr
  · subst hr; exact e1
  · subst hr; simp only [e2, and_self]


theorem State.journal_keep (s : State) :
    (State.journal s).pending = s.pending ∧ (State.journal s).time = s.time ∧ (State.journal s).dev = s.dev ∧ (State.journal s).fuses = s.fuses ∧ (State.journal s).params = s.params ∧ (State.journal s).host = s.host ∧ (State.journal s).nvm = s.nvm ∧ (State.journal s).land = s.land ∧ (State.journal s).map = s.map ∧ (State.journal s).media = s.media ∧ (State.journal s).flash = s.flash ∧ (State.journal s).cache = s.cache ∧ (State.journal s).plp = s.plp ∧ (State.journal s).dram = s.dram ∧ (State.journal s).pwr = s.pwr ∧ (State.journal s).sec = s.sec ∧ (State.journal s).naile = s.naile ∧ (State.journal s).nor = s.nor ∧ (State.journal s).tally = s.tally ∧ (State.journal s).bus = s.bus ∧ (State.journal s).free = s.free := by
  generalize hr : State.journal s = r
  simp only [State.journal] at hr
  repeat' split at hr
  all_goals (subst hr; (simp only [and_self]))

theorem State.draw_keep (s : State) : (State.draw s).2.pending = s.pending ∧ (State.draw s).2.time = s.time ∧ (State.draw s).2.dev = s.dev ∧ (State.draw s).2.fuses = s.fuses ∧ (State.draw s).2.params = s.params ∧ (State.draw s).2.host = s.host ∧ (State.draw s).2.nvm = s.nvm ∧ (State.draw s).2.land = s.land ∧ (State.draw s).2.map = s.map ∧ (State.draw s).2.media = s.media ∧ (State.draw s).2.flash = s.flash ∧ (State.draw s).2.cache = s.cache ∧ (State.draw s).2.plp = s.plp ∧ (State.draw s).2.dram = s.dram ∧ (State.draw s).2.pwr = s.pwr ∧ (State.draw s).2.sec = s.sec ∧ (State.draw s).2.mgmt = s.mgmt ∧ (State.draw s).2.naile = s.naile ∧ (State.draw s).2.nor = s.nor ∧ (State.draw s).2.tally = s.tally ∧ (State.draw s).2.bus = s.bus := by simp only [State.draw, and_self]

theorem State.takeLag_keep (s : State) (r : CordRes) :
    (State.takeLag s r).pending = s.pending ∧ (State.takeLag s r).time = s.time ∧ (State.takeLag s r).dev = s.dev ∧ (State.takeLag s r).fuses = s.fuses ∧ (State.takeLag s r).params = s.params ∧ (State.takeLag s r).host = s.host ∧ (State.takeLag s r).nvm = s.nvm ∧ (State.takeLag s r).map = s.map ∧ (State.takeLag s r).media = s.media ∧ (State.takeLag s r).flash = s.flash ∧ (State.takeLag s r).cache = s.cache ∧ (State.takeLag s r).plp = s.plp ∧ (State.takeLag s r).dram = s.dram ∧ (State.takeLag s r).pwr = s.pwr ∧ (State.takeLag s r).sec = s.sec ∧ (State.takeLag s r).mgmt = s.mgmt ∧ (State.takeLag s r).naile = s.naile ∧ (State.takeLag s r).nor = s.nor ∧ (State.takeLag s r).tally = s.tally ∧ (State.takeLag s r).bus = s.bus ∧ (State.takeLag s r).free = s.free := by
  generalize hr : State.takeLag s r = r
  simp only [State.takeLag] at hr
  repeat' split at hr
  all_goals (subst hr; (simp only [and_self]))

theorem State.takeLags_keep (s : State) : (s.takeLags).pending = s.pending ∧ (s.takeLags).time = s.time ∧ (s.takeLags).dev = s.dev ∧ (s.takeLags).fuses = s.fuses ∧ (s.takeLags).params = s.params ∧ (s.takeLags).host = s.host ∧ (s.takeLags).nvm = s.nvm ∧ (s.takeLags).map = s.map ∧ (s.takeLags).media = s.media ∧ (s.takeLags).flash = s.flash ∧ (s.takeLags).cache = s.cache ∧ (s.takeLags).plp = s.plp ∧ (s.takeLags).dram = s.dram ∧ (s.takeLags).pwr = s.pwr ∧ (s.takeLags).sec = s.sec ∧ (s.takeLags).mgmt = s.mgmt ∧ (s.takeLags).naile = s.naile ∧ (s.takeLags).nor = s.nor ∧ (s.takeLags).tally = s.tally ∧ (s.takeLags).bus = s.bus ∧ (s.takeLags).free = s.free := by
  generalize hr : s.takeLags = r
  rw [State.takeLags] at hr
  generalize allRes = l at hr
  split at hr
  · subst hr; (and_intros <;> rfl)
  · subst hr
    refine kfold_0 (fun a g b hb => ?_) _ _
    subst hb
    simp only [(fact @State.takeLag_keep), and_self]


theorem State.raiseLags_keep (old s : State) : (State.raiseLags old s).pending = s.pending ∧ (State.raiseLags old s).time = s.time ∧ (State.raiseLags old s).dev = s.dev ∧ (State.raiseLags old s).fuses = s.fuses ∧ (State.raiseLags old s).params = s.params ∧ (State.raiseLags old s).host = s.host ∧ (State.raiseLags old s).nvm = s.nvm ∧ (State.raiseLags old s).map = s.map ∧ (State.raiseLags old s).media = s.media ∧ (State.raiseLags old s).flash = s.flash ∧ (State.raiseLags old s).cache = s.cache ∧ (State.raiseLags old s).plp = s.plp ∧ (State.raiseLags old s).dram = s.dram ∧ (State.raiseLags old s).pwr = s.pwr ∧ (State.raiseLags old s).sec = s.sec ∧ (State.raiseLags old s).mgmt = s.mgmt ∧ (State.raiseLags old s).naile = s.naile ∧ (State.raiseLags old s).nor = s.nor ∧ (State.raiseLags old s).tally = s.tally ∧ (State.raiseLags old s).bus = s.bus ∧ (State.raiseLags old s).free = s.free := by
  generalize hr : State.raiseLags old s = r
  rw [State.raiseLags] at hr
  generalize allRes = l at hr
  subst hr
  simp only [(fact @State.takeLags_keep), and_self]


theorem State.grant_keep (s : State) (r : CordReq) (own : Nat) :
    (State.grant s r own).pending = s.pending ∧ (State.grant s r own).time = s.time ∧ (State.grant s r own).dev = s.dev ∧ (State.grant s r own).fuses = s.fuses ∧ (State.grant s r own).params = s.params ∧ (State.grant s r own).host = s.host ∧ (State.grant s r own).nvm = s.nvm ∧ (State.grant s r own).map = s.map ∧ (State.grant s r own).media = s.media ∧ (State.grant s r own).flash = s.flash ∧ (State.grant s r own).cache = s.cache ∧ (State.grant s r own).plp = s.plp ∧ (State.grant s r own).dram = s.dram ∧ (State.grant s r own).pwr = s.pwr ∧ (State.grant s r own).sec = s.sec ∧ (State.grant s r own).mgmt = s.mgmt ∧ (State.grant s r own).naile = s.naile ∧ (State.grant s r own).nor = s.nor ∧ (State.grant s r own).tally = s.tally ∧ (State.grant s r own).bus = s.bus ∧ (State.grant s r own).free = s.free := by
  generalize hr : State.grant s r own = r
  simp only [State.grant] at hr
  repeat' split at hr
  all_goals (subst hr; (simp only [and_self]))

theorem State.askCords_keep (s : State) (r : CordReq) :
    (State.askCords s r).pending = s.pending ∧ (State.askCords s r).time = s.time ∧ (State.askCords s r).dev = s.dev ∧ (State.askCords s r).fuses = s.fuses ∧ (State.askCords s r).params = s.params ∧ (State.askCords s r).host = s.host ∧ (State.askCords s r).nvm = s.nvm ∧ (State.askCords s r).map = s.map ∧ (State.askCords s r).media = s.media ∧ (State.askCords s r).flash = s.flash ∧ (State.askCords s r).cache = s.cache ∧ (State.askCords s r).plp = s.plp ∧ (State.askCords s r).dram = s.dram ∧ (State.askCords s r).pwr = s.pwr ∧ (State.askCords s r).sec = s.sec ∧ (State.askCords s r).mgmt = s.mgmt ∧ (State.askCords s r).naile = s.naile ∧ (State.askCords s r).nor = s.nor ∧ (State.askCords s r).tally = s.tally ∧ (State.askCords s r).bus = s.bus ∧ (State.askCords s r).free = s.free := by
  generalize hr : State.askCords s r = r
  simp only [State.askCords] at hr
  repeat' split at hr
  all_goals (subst hr; (simp only [and_self, (fact @State.grant_keep)]))

theorem State.poisonEvent_keep (s : State) (sev row dch : Nat) : (s.poisonEvent sev row dch).pending = s.pending ∧ (s.poisonEvent sev row dch).time = s.time ∧ (s.poisonEvent sev row dch).fuses = s.fuses ∧ (s.poisonEvent sev row dch).params = s.params ∧ (s.poisonEvent sev row dch).host = s.host ∧ (s.poisonEvent sev row dch).nvm = s.nvm ∧ (s.poisonEvent sev row dch).land = s.land ∧ (s.poisonEvent sev row dch).map = s.map ∧ (s.poisonEvent sev row dch).media = s.media ∧ (s.poisonEvent sev row dch).flash = s.flash ∧ (s.poisonEvent sev row dch).cache = s.cache ∧ (s.poisonEvent sev row dch).plp = s.plp ∧ (s.poisonEvent sev row dch).dram = s.dram ∧ (s.poisonEvent sev row dch).pwr = s.pwr ∧ (s.poisonEvent sev row dch).sec = s.sec ∧ (s.poisonEvent sev row dch).bus = s.bus ∧ (s.poisonEvent sev row dch).free = s.free := by
  simp only [State.poisonEvent, (fact @State.recordHw_keep), and_self]
theorem State.poisonEvent_calm (s : State) (sev row dch : Nat) (h : sev ≠ 6) : (s.poisonEvent sev row dch).pending = s.pending ∧ (s.poisonEvent sev row dch).time = s.time ∧ (s.poisonEvent sev row dch).dev = s.dev ∧ (s.poisonEvent sev row dch).fuses = s.fuses ∧ (s.poisonEvent sev row dch).params = s.params ∧ (s.poisonEvent sev row dch).host = s.host ∧ (s.poisonEvent sev row dch).nvm = s.nvm ∧ (s.poisonEvent sev row dch).land = s.land ∧ (s.poisonEvent sev row dch).map = s.map ∧ (s.poisonEvent sev row dch).media = s.media ∧ (s.poisonEvent sev row dch).flash = s.flash ∧ (s.poisonEvent sev row dch).cache = s.cache ∧ (s.poisonEvent sev row dch).plp = s.plp ∧ (s.poisonEvent sev row dch).dram = s.dram ∧ (s.poisonEvent sev row dch).pwr = s.pwr ∧ (s.poisonEvent sev row dch).sec = s.sec ∧ (s.poisonEvent sev row dch).mgmt = s.mgmt ∧ (s.poisonEvent sev row dch).naile = s.naile ∧ (s.poisonEvent sev row dch).nor = s.nor ∧ (s.poisonEvent sev row dch).bus = s.bus ∧ (s.poisonEvent sev row dch).free = s.free :=
  State.recordHw_calm _ _ _ _ _ _ _ _ h


theorem State.landFreed_keep (s : State) (l : LandS) :
    (State.landFreed s l).pending = s.pending ∧ (State.landFreed s l).time = s.time ∧ (State.landFreed s l).dev = s.dev ∧ (State.landFreed s l).fuses = s.fuses ∧ (State.landFreed s l).params = s.params ∧ (State.landFreed s l).host = s.host ∧ (State.landFreed s l).nvm = s.nvm ∧ (State.landFreed s l).map = s.map ∧ (State.landFreed s l).media = s.media ∧ (State.landFreed s l).flash = s.flash ∧ (State.landFreed s l).cache = s.cache ∧ (State.landFreed s l).plp = s.plp ∧ (State.landFreed s l).dram = s.dram ∧ (State.landFreed s l).pwr = s.pwr ∧ (State.landFreed s l).sec = s.sec ∧ (State.landFreed s l).mgmt = s.mgmt ∧ (State.landFreed s l).naile = s.naile ∧ (State.landFreed s l).nor = s.nor ∧ (State.landFreed s l).bus = s.bus ∧ (State.landFreed s l).free = s.free := by
  generalize hr : State.landFreed s l = r
  simp only [State.landFreed] at hr
  repeat' split at hr
  all_goals (subst hr; (simp only [and_self, (fact @State.recordHw_calm), (fact @State.takeLags_keep), sevDebug, sevInfo, sevNotice, sevWarning, sevError, sevCritical, ne_eq, Nat.reduceEqDiff, not_false_eq_true]))

theorem State.freeCords_keep (s : State) (u : CordUser) :
    (State.freeCords s u).pending = s.pending ∧ (State.freeCords s u).time = s.time ∧ (State.freeCords s u).dev = s.dev ∧ (State.freeCords s u).fuses = s.fuses ∧ (State.freeCords s u).params = s.params ∧ (State.freeCords s u).host = s.host ∧ (State.freeCords s u).nvm = s.nvm ∧ (State.freeCords s u).map = s.map ∧ (State.freeCords s u).media = s.media ∧ (State.freeCords s u).flash = s.flash ∧ (State.freeCords s u).cache = s.cache ∧ (State.freeCords s u).plp = s.plp ∧ (State.freeCords s u).dram = s.dram ∧ (State.freeCords s u).pwr = s.pwr ∧ (State.freeCords s u).sec = s.sec ∧ (State.freeCords s u).mgmt = s.mgmt ∧ (State.freeCords s u).naile = s.naile ∧ (State.freeCords s u).nor = s.nor ∧ (State.freeCords s u).bus = s.bus ∧ (State.freeCords s u).free = s.free := by
  generalize hr : State.freeCords s u = r
  simp only [State.freeCords] at hr
  repeat' split at hr
  all_goals (subst hr; (simp only [and_self, (fact @State.landFreed_keep)]))

theorem State.freeThese_keep (s : State) (cs : List Nat) :
    (State.freeThese s cs).pending = s.pending ∧ (State.freeThese s cs).time = s.time ∧ (State.freeThese s cs).dev = s.dev ∧ (State.freeThese s cs).fuses = s.fuses ∧ (State.freeThese s cs).params = s.params ∧ (State.freeThese s cs).host = s.host ∧ (State.freeThese s cs).nvm = s.nvm ∧ (State.freeThese s cs).map = s.map ∧ (State.freeThese s cs).media = s.media ∧ (State.freeThese s cs).flash = s.flash ∧ (State.freeThese s cs).cache = s.cache ∧ (State.freeThese s cs).plp = s.plp ∧ (State.freeThese s cs).dram = s.dram ∧ (State.freeThese s cs).pwr = s.pwr ∧ (State.freeThese s cs).sec = s.sec ∧ (State.freeThese s cs).mgmt = s.mgmt ∧ (State.freeThese s cs).naile = s.naile ∧ (State.freeThese s cs).nor = s.nor ∧ (State.freeThese s cs).bus = s.bus ∧ (State.freeThese s cs).free = s.free := by
  generalize hr : State.freeThese s cs = r
  simp only [State.freeThese] at hr
  repeat' split at hr
  all_goals (subst hr; (simp only [and_self, (fact @State.landFreed_keep)]))

theorem State.freeOne_keep (s : State) (cord : Nat) :
    (State.freeOne s cord).pending = s.pending ∧ (State.freeOne s cord).time = s.time ∧ (State.freeOne s cord).dev = s.dev ∧ (State.freeOne s cord).fuses = s.fuses ∧ (State.freeOne s cord).params = s.params ∧ (State.freeOne s cord).host = s.host ∧ (State.freeOne s cord).nvm = s.nvm ∧ (State.freeOne s cord).map = s.map ∧ (State.freeOne s cord).media = s.media ∧ (State.freeOne s cord).flash = s.flash ∧ (State.freeOne s cord).cache = s.cache ∧ (State.freeOne s cord).plp = s.plp ∧ (State.freeOne s cord).dram = s.dram ∧ (State.freeOne s cord).pwr = s.pwr ∧ (State.freeOne s cord).sec = s.sec ∧ (State.freeOne s cord).mgmt = s.mgmt ∧ (State.freeOne s cord).naile = s.naile ∧ (State.freeOne s cord).nor = s.nor ∧ (State.freeOne s cord).bus = s.bus ∧ (State.freeOne s cord).free = s.free := by
  generalize hr : State.freeOne s cord = r
  simp only [State.freeOne] at hr
  repeat' split at hr
  all_goals (subst hr; (simp only [and_self, (fact @State.freeThese_keep)]))

theorem State.refillStands_keep (s : State) :
    (State.refillStands s).pending = s.pending ∧ (State.refillStands s).time = s.time ∧ (State.refillStands s).dev = s.dev ∧ (State.refillStands s).fuses = s.fuses ∧ (State.refillStands s).params = s.params ∧ (State.refillStands s).host = s.host ∧ (State.refillStands s).land = s.land ∧ (State.refillStands s).map = s.map ∧ (State.refillStands s).media = s.media ∧ (State.refillStands s).flash = s.flash ∧ (State.refillStands s).cache = s.cache ∧ (State.refillStands s).plp = s.plp ∧ (State.refillStands s).dram = s.dram ∧ (State.refillStands s).pwr = s.pwr ∧ (State.refillStands s).sec = s.sec ∧ (State.refillStands s).mgmt = s.mgmt ∧ (State.refillStands s).naile = s.naile ∧ (State.refillStands s).nor = s.nor ∧ (State.refillStands s).tally = s.tally ∧ (State.refillStands s).bus = s.bus ∧ (State.refillStands s).free = s.free := by
  generalize hr : State.refillStands s = r
  simp only [State.refillStands] at hr
  repeat' split at hr
  all_goals (subst hr; (simp only [and_self]))

theorem State.chargeCredit_keep (s : State) (st : Nat) (d : Dir) (bytes : Nat) :
    (State.chargeCredit s st d bytes).pending = s.pending ∧ (State.chargeCredit s st d bytes).time = s.time ∧ (State.chargeCredit s st d bytes).dev = s.dev ∧ (State.chargeCredit s st d bytes).fuses = s.fuses ∧ (State.chargeCredit s st d bytes).params = s.params ∧ (State.chargeCredit s st d bytes).host = s.host ∧ (State.chargeCredit s st d bytes).land = s.land ∧ (State.chargeCredit s st d bytes).map = s.map ∧ (State.chargeCredit s st d bytes).media = s.media ∧ (State.chargeCredit s st d bytes).flash = s.flash ∧ (State.chargeCredit s st d bytes).cache = s.cache ∧ (State.chargeCredit s st d bytes).plp = s.plp ∧ (State.chargeCredit s st d bytes).dram = s.dram ∧ (State.chargeCredit s st d bytes).pwr = s.pwr ∧ (State.chargeCredit s st d bytes).sec = s.sec ∧ (State.chargeCredit s st d bytes).mgmt = s.mgmt ∧ (State.chargeCredit s st d bytes).naile = s.naile ∧ (State.chargeCredit s st d bytes).nor = s.nor ∧ (State.chargeCredit s st d bytes).tally = s.tally ∧ (State.chargeCredit s st d bytes).bus = s.bus ∧ (State.chargeCredit s st d bytes).free = s.free := by
  generalize hr : State.chargeCredit s st d bytes = r
  simp only [State.chargeCredit] at hr
  repeat' split at hr
  all_goals (subst hr; (simp only [and_self]))

theorem State.flushBegins_keep (s : State) (c : Nat) (q : Nat) (cmd : NvmeCmd) :
    (State.flushBegins s c q cmd).pending = s.pending ∧ (State.flushBegins s c q cmd).time = s.time ∧ (State.flushBegins s c q cmd).dev = s.dev ∧ (State.flushBegins s c q cmd).fuses = s.fuses ∧ (State.flushBegins s c q cmd).params = s.params ∧ (State.flushBegins s c q cmd).host = s.host ∧ (State.flushBegins s c q cmd).land = s.land ∧ (State.flushBegins s c q cmd).map = s.map ∧ (State.flushBegins s c q cmd).media = s.media ∧ (State.flushBegins s c q cmd).flash = s.flash ∧ (State.flushBegins s c q cmd).cache = s.cache ∧ (State.flushBegins s c q cmd).plp = s.plp ∧ (State.flushBegins s c q cmd).dram = s.dram ∧ (State.flushBegins s c q cmd).pwr = s.pwr ∧ (State.flushBegins s c q cmd).sec = s.sec ∧ (State.flushBegins s c q cmd).mgmt = s.mgmt ∧ (State.flushBegins s c q cmd).naile = s.naile ∧ (State.flushBegins s c q cmd).nor = s.nor ∧ (State.flushBegins s c q cmd).tally = s.tally ∧ (State.flushBegins s c q cmd).bus = s.bus ∧ (State.flushBegins s c q cmd).free = s.free := by
  generalize hr : State.flushBegins s c q cmd = r
  simp only [State.flushBegins] at hr
  repeat' split at hr
  all_goals (subst hr; (simp only [and_self, (fact @State.chargeCredit_keep)]))

theorem acceptLoop_keep n s c q : (acceptLoop n s c q).pending = s.pending ∧ (acceptLoop n s c q).time = s.time ∧ (acceptLoop n s c q).dev = s.dev ∧ (acceptLoop n s c q).fuses = s.fuses ∧ (acceptLoop n s c q).params = s.params ∧ (acceptLoop n s c q).land = s.land ∧ (acceptLoop n s c q).map = s.map ∧ (acceptLoop n s c q).media = s.media ∧ (acceptLoop n s c q).flash = s.flash ∧ (acceptLoop n s c q).cache = s.cache ∧ (acceptLoop n s c q).plp = s.plp ∧ (acceptLoop n s c q).dram = s.dram ∧ (acceptLoop n s c q).pwr = s.pwr ∧ (acceptLoop n s c q).sec = s.sec ∧ (acceptLoop n s c q).mgmt = s.mgmt ∧ (acceptLoop n s c q).naile = s.naile ∧ (acceptLoop n s c q).nor = s.nor ∧ (acceptLoop n s c q).tally = s.tally ∧ (acceptLoop n s c q).bus = s.bus ∧ (acceptLoop n s c q).free = s.free := by
  induction n generalizing s with
  | zero => simp only [acceptLoop, and_self]
  | succ n ih =>
    generalize hr : acceptLoop (n + 1) s c q = r
    simp only [acceptLoop] at hr
    repeat' split at hr
    all_goals (subst hr; first | (simp only [ih, and_self, (fact @State.flushBegins_keep)]; done) | simp only [and_self])

theorem fetchTurns_keep (n : Nat) (s : State) (c : Cntl) (qs : List Nat) : (fetchTurns n s c qs).pending = s.pending ∧ (fetchTurns n s c qs).time = s.time ∧ (fetchTurns n s c qs).dev = s.dev ∧ (fetchTurns n s c qs).fuses = s.fuses ∧ (fetchTurns n s c qs).params = s.params ∧ (fetchTurns n s c qs).land = s.land ∧ (fetchTurns n s c qs).map = s.map ∧ (fetchTurns n s c qs).media = s.media ∧ (fetchTurns n s c qs).flash = s.flash ∧ (fetchTurns n s c qs).cache = s.cache ∧ (fetchTurns n s c qs).plp = s.plp ∧ (fetchTurns n s c qs).dram = s.dram ∧ (fetchTurns n s c qs).pwr = s.pwr ∧ (fetchTurns n s c qs).sec = s.sec ∧ (fetchTurns n s c qs).mgmt = s.mgmt ∧ (fetchTurns n s c qs).naile = s.naile ∧ (fetchTurns n s c qs).nor = s.nor ∧ (fetchTurns n s c qs).tally = s.tally ∧ (fetchTurns n s c qs).bus = s.bus ∧ (fetchTurns n s c qs).free = s.free := by
  induction n generalizing s qs with
  | zero => simp only [fetchTurns, and_self]
  | succ n ih =>
    cases qs with
    | nil => simp only [fetchTurns, and_self]
    | cons q rest =>
      generalize hr : fetchTurns (n + 1) s c (q :: rest) = r
      simp only [fetchTurns] at hr
      repeat' split at hr
      all_goals (subst hr; simp only [ih, (fact @acceptLoop_keep), and_self])


theorem State.fetchQueue_keep (s : State) (c : Cntl) (q : Nat) :
    (State.fetchQueue s c q).pending = s.pending ∧ (State.fetchQueue s c q).time = s.time ∧ (State.fetchQueue s c q).dev = s.dev ∧ (State.fetchQueue s c q).fuses = s.fuses ∧ (State.fetchQueue s c q).params = s.params ∧ (State.fetchQueue s c q).land = s.land ∧ (State.fetchQueue s c q).map = s.map ∧ (State.fetchQueue s c q).media = s.media ∧ (State.fetchQueue s c q).flash = s.flash ∧ (State.fetchQueue s c q).cache = s.cache ∧ (State.fetchQueue s c q).plp = s.plp ∧ (State.fetchQueue s c q).dram = s.dram ∧ (State.fetchQueue s c q).pwr = s.pwr ∧ (State.fetchQueue s c q).sec = s.sec ∧ (State.fetchQueue s c q).mgmt = s.mgmt ∧ (State.fetchQueue s c q).naile = s.naile ∧ (State.fetchQueue s c q).nor = s.nor ∧ (State.fetchQueue s c q).tally = s.tally ∧ (State.fetchQueue s c q).bus = s.bus ∧ (State.fetchQueue s c q).free = s.free := by
  generalize hr : State.fetchQueue s c q = r
  simp only [State.fetchQueue] at hr
  repeat' split at hr
  all_goals (subst hr; (simp only [and_self, (fact @fetchTurns_keep)]))

theorem State.freeTag_keep (s : State) (tag : Nat) :
    (State.freeTag s tag).pending = s.pending ∧ (State.freeTag s tag).time = s.time ∧ (State.freeTag s tag).dev = s.dev ∧ (State.freeTag s tag).fuses = s.fuses ∧ (State.freeTag s tag).params = s.params ∧ (State.freeTag s tag).map = s.map ∧ (State.freeTag s tag).media = s.media ∧ (State.freeTag s tag).flash = s.flash ∧ (State.freeTag s tag).cache = s.cache ∧ (State.freeTag s tag).plp = s.plp ∧ (State.freeTag s tag).dram = s.dram ∧ (State.freeTag s tag).pwr = s.pwr ∧ (State.freeTag s tag).sec = s.sec ∧ (State.freeTag s tag).mgmt = s.mgmt ∧ (State.freeTag s tag).naile = s.naile ∧ (State.freeTag s tag).nor = s.nor ∧ (State.freeTag s tag).bus = s.bus ∧ (State.freeTag s tag).free = s.free := by
  generalize hr : State.freeTag s tag = r
  simp only [State.freeTag] at hr
  repeat' split at hr
  all_goals (subst hr; (simp only [and_self, (fact @State.fetchQueue_keep), (fact @State.freeCords_keep)]))

theorem State.completeOne_keep (s : State) (tag : Nat) (st : Status) (dw0 : Dword) (data : Payload) (ep : List Nat) :
    (State.completeOne s tag st dw0 data ep).pending = s.pending ∧ (State.completeOne s tag st dw0 data ep).time = s.time ∧ (State.completeOne s tag st dw0 data ep).dev = s.dev ∧ (State.completeOne s tag st dw0 data ep).fuses = s.fuses ∧ (State.completeOne s tag st dw0 data ep).params = s.params ∧ (State.completeOne s tag st dw0 data ep).map = s.map ∧ (State.completeOne s tag st dw0 data ep).media = s.media ∧ (State.completeOne s tag st dw0 data ep).flash = s.flash ∧ (State.completeOne s tag st dw0 data ep).cache = s.cache ∧ (State.completeOne s tag st dw0 data ep).plp = s.plp ∧ (State.completeOne s tag st dw0 data ep).dram = s.dram ∧ (State.completeOne s tag st dw0 data ep).pwr = s.pwr ∧ (State.completeOne s tag st dw0 data ep).sec = s.sec ∧ (State.completeOne s tag st dw0 data ep).mgmt = s.mgmt ∧ (State.completeOne s tag st dw0 data ep).naile = s.naile ∧ (State.completeOne s tag st dw0 data ep).nor = s.nor ∧ (State.completeOne s tag st dw0 data ep).bus = s.bus ∧ (State.completeOne s tag st dw0 data ep).free = s.free := by
  generalize hr : State.completeOne s tag st dw0 data ep = r
  simp only [State.completeOne] at hr
  repeat' split at hr
  all_goals (subst hr; (simp only [and_self, (fact @State.freeCords_keep), (fact @State.freeTag_keep)]))

theorem State.sweepFlushes_keep (s : State) :
    (State.sweepFlushes s).pending = s.pending ∧ (State.sweepFlushes s).time = s.time ∧ (State.sweepFlushes s).dev = s.dev ∧ (State.sweepFlushes s).fuses = s.fuses ∧ (State.sweepFlushes s).params = s.params ∧ (State.sweepFlushes s).map = s.map ∧ (State.sweepFlushes s).media = s.media ∧ (State.sweepFlushes s).flash = s.flash ∧ (State.sweepFlushes s).cache = s.cache ∧ (State.sweepFlushes s).plp = s.plp ∧ (State.sweepFlushes s).dram = s.dram ∧ (State.sweepFlushes s).pwr = s.pwr ∧ (State.sweepFlushes s).sec = s.sec ∧ (State.sweepFlushes s).mgmt = s.mgmt ∧ (State.sweepFlushes s).naile = s.naile ∧ (State.sweepFlushes s).nor = s.nor ∧ (State.sweepFlushes s).bus = s.bus ∧ (State.sweepFlushes s).free = s.free := by
  generalize hr : State.sweepFlushes s = r
  simp only [State.sweepFlushes] at hr
  repeat' split at hr
  all_goals (subst hr; (first | (simp only [and_self, (fact @State.completeOne_keep)]; done) | (and_intros <;> (repeat' first | (simp only [and_self, (fact @State.completeOne_keep)]; done) | (simp only [and_self, (fact @State.completeOne_keep)]) | (split at hb) | (subst hb; simp only [and_self, (fact @State.completeOne_keep)]) | (refine (foldl_pending (fun _ _ _ hb => ?_) _ _).trans ?_) | (refine (foldl_time (fun _ _ _ hb => ?_) _ _).trans ?_) | (refine (foldl_dev (fun _ _ _ hb => ?_) _ _).trans ?_) | (refine (foldl_fuses (fun _ _ _ hb => ?_) _ _).trans ?_) | (refine (foldl_params (fun _ _ _ hb => ?_) _ _).trans ?_) | (refine (foldl_map (fun _ _ _ hb => ?_) _ _).trans ?_) | (refine (foldl_media (fun _ _ _ hb => ?_) _ _).trans ?_) | (refine (foldl_flash (fun _ _ _ hb => ?_) _ _).trans ?_) | (refine (foldl_cache (fun _ _ _ hb => ?_) _ _).trans ?_) | (refine (foldl_plp (fun _ _ _ hb => ?_) _ _).trans ?_) | (refine (foldl_dram (fun _ _ _ hb => ?_) _ _).trans ?_) | (refine (foldl_pwr (fun _ _ _ hb => ?_) _ _).trans ?_) | (refine (foldl_sec (fun _ _ _ hb => ?_) _ _).trans ?_) | (refine (foldl_mgmt (fun _ _ _ hb => ?_) _ _).trans ?_) | (refine (foldl_naile (fun _ _ _ hb => ?_) _ _).trans ?_) | (refine (foldl_nor (fun _ _ _ hb => ?_) _ _).trans ?_) | (refine (foldl_bus (fun _ _ _ hb => ?_) _ _).trans ?_) | (refine (foldl_free (fun _ _ _ hb => ?_) _ _).trans ?_) | split))))

theorem State.complete_keep (s : State) (tag : Nat) (st : Status) (dw0 : Dword) (data : Payload) (ep : List Nat) :
    (State.complete s tag st dw0 data ep).pending = s.pending ∧ (State.complete s tag st dw0 data ep).time = s.time ∧ (State.complete s tag st dw0 data ep).dev = s.dev ∧ (State.complete s tag st dw0 data ep).fuses = s.fuses ∧ (State.complete s tag st dw0 data ep).params = s.params ∧ (State.complete s tag st dw0 data ep).map = s.map ∧ (State.complete s tag st dw0 data ep).media = s.media ∧ (State.complete s tag st dw0 data ep).flash = s.flash ∧ (State.complete s tag st dw0 data ep).cache = s.cache ∧ (State.complete s tag st dw0 data ep).plp = s.plp ∧ (State.complete s tag st dw0 data ep).dram = s.dram ∧ (State.complete s tag st dw0 data ep).pwr = s.pwr ∧ (State.complete s tag st dw0 data ep).sec = s.sec ∧ (State.complete s tag st dw0 data ep).mgmt = s.mgmt ∧ (State.complete s tag st dw0 data ep).naile = s.naile ∧ (State.complete s tag st dw0 data ep).nor = s.nor ∧ (State.complete s tag st dw0 data ep).bus = s.bus ∧ (State.complete s tag st dw0 data ep).free = s.free := by
  generalize hr : State.complete s tag st dw0 data ep = r
  simp only [State.complete] at hr
  repeat' split at hr
  all_goals (subst hr; (simp only [and_self, (fact @State.completeOne_keep), (fact @State.sweepFlushes_keep)]))

theorem State.failTag_keep (s : State) (tag : Nat) (st : Status) :
    (State.failTag s tag st).pending = s.pending ∧ (State.failTag s tag st).time = s.time ∧ (State.failTag s tag st).dev = s.dev ∧ (State.failTag s tag st).fuses = s.fuses ∧ (State.failTag s tag st).params = s.params ∧ (State.failTag s tag st).map = s.map ∧ (State.failTag s tag st).media = s.media ∧ (State.failTag s tag st).flash = s.flash ∧ (State.failTag s tag st).cache = s.cache ∧ (State.failTag s tag st).plp = s.plp ∧ (State.failTag s tag st).dram = s.dram ∧ (State.failTag s tag st).pwr = s.pwr ∧ (State.failTag s tag st).sec = s.sec ∧ (State.failTag s tag st).mgmt = s.mgmt ∧ (State.failTag s tag st).naile = s.naile ∧ (State.failTag s tag st).nor = s.nor ∧ (State.failTag s tag st).bus = s.bus ∧ (State.failTag s tag st).free = s.free := by
  generalize hr : State.failTag s tag st = r
  simp only [State.failTag] at hr
  repeat' split at hr
  all_goals (subst hr; (simp only [and_self, (fact @State.complete_keep)]))

theorem State.modTag_keep (s : State) (tag : Nat) (g : TagE → TagE) :
    (State.modTag s tag g).pending = s.pending ∧ (State.modTag s tag g).time = s.time ∧ (State.modTag s tag g).dev = s.dev ∧ (State.modTag s tag g).fuses = s.fuses ∧ (State.modTag s tag g).params = s.params ∧ (State.modTag s tag g).nvm = s.nvm ∧ (State.modTag s tag g).land = s.land ∧ (State.modTag s tag g).map = s.map ∧ (State.modTag s tag g).media = s.media ∧ (State.modTag s tag g).flash = s.flash ∧ (State.modTag s tag g).cache = s.cache ∧ (State.modTag s tag g).plp = s.plp ∧ (State.modTag s tag g).dram = s.dram ∧ (State.modTag s tag g).pwr = s.pwr ∧ (State.modTag s tag g).sec = s.sec ∧ (State.modTag s tag g).mgmt = s.mgmt ∧ (State.modTag s tag g).naile = s.naile ∧ (State.modTag s tag g).nor = s.nor ∧ (State.modTag s tag g).tally = s.tally ∧ (State.modTag s tag g).bus = s.bus ∧ (State.modTag s tag g).free = s.free := by
  generalize hr : State.modTag s tag g = r
  simp only [State.modTag] at hr
  repeat' split at hr
  all_goals (subst hr; (simp only [and_self]))

theorem State.orphan_keep (s : State) (gone : List Nat) :
    (State.orphan s gone).pending = s.pending ∧ (State.orphan s gone).time = s.time ∧ (State.orphan s gone).dev = s.dev ∧ (State.orphan s gone).fuses = s.fuses ∧ (State.orphan s gone).params = s.params ∧ (State.orphan s gone).host = s.host ∧ (State.orphan s gone).land = s.land ∧ (State.orphan s gone).media = s.media ∧ (State.orphan s gone).flash = s.flash ∧ (State.orphan s gone).cache = s.cache ∧ (State.orphan s gone).plp = s.plp ∧ (State.orphan s gone).dram = s.dram ∧ (State.orphan s gone).pwr = s.pwr ∧ (State.orphan s gone).sec = s.sec ∧ (State.orphan s gone).mgmt = s.mgmt ∧ (State.orphan s gone).naile = s.naile ∧ (State.orphan s gone).nor = s.nor ∧ (State.orphan s gone).tally = s.tally ∧ (State.orphan s gone).bus = s.bus ∧ (State.orphan s gone).free = s.free := by
  generalize hr : State.orphan s gone = r
  simp only [State.orphan] at hr
  repeat' split at hr
  all_goals (subst hr; (simp only [and_self]))

theorem State.dropCommands_keep (s : State) (p : Cntl → Bool) :
    (State.dropCommands s p).pending = s.pending ∧ (State.dropCommands s p).time = s.time ∧ (State.dropCommands s p).dev = s.dev ∧ (State.dropCommands s p).fuses = s.fuses ∧ (State.dropCommands s p).params = s.params ∧ (State.dropCommands s p).media = s.media ∧ (State.dropCommands s p).flash = s.flash ∧ (State.dropCommands s p).plp = s.plp ∧ (State.dropCommands s p).dram = s.dram ∧ (State.dropCommands s p).pwr = s.pwr ∧ (State.dropCommands s p).sec = s.sec ∧ (State.dropCommands s p).mgmt = s.mgmt ∧ (State.dropCommands s p).naile = s.naile ∧ (State.dropCommands s p).nor = s.nor ∧ (State.dropCommands s p).bus = s.bus ∧ (State.dropCommands s p).free = s.free := by
  generalize hr : State.dropCommands s p = r
  simp only [State.dropCommands] at hr
  repeat' split at hr
  all_goals (subst hr; (first | (simp only [and_self, (fact @State.freeCords_keep)]; done) | (and_intros <;> (repeat' first | (simp only [and_self, (fact @State.freeCords_keep)]; done) | (simp only [and_self, (fact @State.freeCords_keep)]) | (split at hb) | (subst hb; simp only [and_self, (fact @State.freeCords_keep)]) | (refine (foldl_pending (fun _ _ _ hb => ?_) _ _).trans ?_) | (refine (foldl_time (fun _ _ _ hb => ?_) _ _).trans ?_) | (refine (foldl_dev (fun _ _ _ hb => ?_) _ _).trans ?_) | (refine (foldl_fuses (fun _ _ _ hb => ?_) _ _).trans ?_) | (refine (foldl_params (fun _ _ _ hb => ?_) _ _).trans ?_) | (refine (foldl_media (fun _ _ _ hb => ?_) _ _).trans ?_) | (refine (foldl_flash (fun _ _ _ hb => ?_) _ _).trans ?_) | (refine (foldl_plp (fun _ _ _ hb => ?_) _ _).trans ?_) | (refine (foldl_dram (fun _ _ _ hb => ?_) _ _).trans ?_) | (refine (foldl_pwr (fun _ _ _ hb => ?_) _ _).trans ?_) | (refine (foldl_sec (fun _ _ _ hb => ?_) _ _).trans ?_) | (refine (foldl_mgmt (fun _ _ _ hb => ?_) _ _).trans ?_) | (refine (foldl_naile (fun _ _ _ hb => ?_) _ _).trans ?_) | (refine (foldl_nor (fun _ _ _ hb => ?_) _ _).trans ?_) | (refine (foldl_bus (fun _ _ _ hb => ?_) _ _).trans ?_) | (refine (foldl_free (fun _ _ _ hb => ?_) _ _).trans ?_) | split))))

theorem State.resetFuncs_keep (s : State) (p : Cntl → Bool) (keepPci : Bool) :
    (State.resetFuncs s p keepPci).pending = s.pending ∧ (State.resetFuncs s p keepPci).time = s.time ∧ (State.resetFuncs s p keepPci).dev = s.dev ∧ (State.resetFuncs s p keepPci).fuses = s.fuses ∧ (State.resetFuncs s p keepPci).params = s.params ∧ (State.resetFuncs s p keepPci).media = s.media ∧ (State.resetFuncs s p keepPci).flash = s.flash ∧ (State.resetFuncs s p keepPci).plp = s.plp ∧ (State.resetFuncs s p keepPci).dram = s.dram ∧ (State.resetFuncs s p keepPci).pwr = s.pwr ∧ (State.resetFuncs s p keepPci).sec = s.sec ∧ (State.resetFuncs s p keepPci).mgmt = s.mgmt ∧ (State.resetFuncs s p keepPci).naile = s.naile ∧ (State.resetFuncs s p keepPci).nor = s.nor ∧ (State.resetFuncs s p keepPci).bus = s.bus ∧ (State.resetFuncs s p keepPci).free = s.free := by
  generalize hr : State.resetFuncs s p keepPci = r
  simp only [State.resetFuncs] at hr
  repeat' split at hr
  all_goals (subst hr; (simp only [and_self, (fact @State.dropCommands_keep)]))

theorem State.deliverEvent_keep (s : State) (c : Nat) (ev : AsyncEv) :
    (State.deliverEvent s c ev).pending = s.pending ∧ (State.deliverEvent s c ev).time = s.time ∧ (State.deliverEvent s c ev).dev = s.dev ∧ (State.deliverEvent s c ev).fuses = s.fuses ∧ (State.deliverEvent s c ev).params = s.params ∧ (State.deliverEvent s c ev).map = s.map ∧ (State.deliverEvent s c ev).media = s.media ∧ (State.deliverEvent s c ev).flash = s.flash ∧ (State.deliverEvent s c ev).cache = s.cache ∧ (State.deliverEvent s c ev).plp = s.plp ∧ (State.deliverEvent s c ev).dram = s.dram ∧ (State.deliverEvent s c ev).pwr = s.pwr ∧ (State.deliverEvent s c ev).sec = s.sec ∧ (State.deliverEvent s c ev).mgmt = s.mgmt ∧ (State.deliverEvent s c ev).naile = s.naile ∧ (State.deliverEvent s c ev).nor = s.nor ∧ (State.deliverEvent s c ev).bus = s.bus ∧ (State.deliverEvent s c ev).free = s.free := by
  generalize hr : State.deliverEvent s c ev = r
  simp only [State.deliverEvent] at hr
  repeat' split at hr
  all_goals (subst hr; (simp only [and_self, (fact @State.complete_keep)]))

theorem State.raiseEvent_keep (s : State) (cs : List Nat) (typ : Nat) (info : Nat) (page : Nat) :
    (State.raiseEvent s cs typ info page).pending = s.pending ∧ (State.raiseEvent s cs typ info page).time = s.time ∧ (State.raiseEvent s cs typ info page).dev = s.dev ∧ (State.raiseEvent s cs typ info page).fuses = s.fuses ∧ (State.raiseEvent s cs typ info page).params = s.params ∧ (State.raiseEvent s cs typ info page).map = s.map ∧ (State.raiseEvent s cs typ info page).media = s.media ∧ (State.raiseEvent s cs typ info page).flash = s.flash ∧ (State.raiseEvent s cs typ info page).cache = s.cache ∧ (State.raiseEvent s cs typ info page).plp = s.plp ∧ (State.raiseEvent s cs typ info page).dram = s.dram ∧ (State.raiseEvent s cs typ info page).pwr = s.pwr ∧ (State.raiseEvent s cs typ info page).sec = s.sec ∧ (State.raiseEvent s cs typ info page).naile = s.naile ∧ (State.raiseEvent s cs typ info page).nor = s.nor ∧ (State.raiseEvent s cs typ info page).bus = s.bus ∧ (State.raiseEvent s cs typ info page).free = s.free := by
  generalize hr : State.raiseEvent s cs typ info page = r
  simp only [State.raiseEvent] at hr
  repeat' split at hr
  all_goals (subst hr; (first | (simp only [and_self, (fact @State.deliverEvent_keep)]; done) | (and_intros <;> (repeat' first | (simp only [and_self, (fact @State.deliverEvent_keep)]; done) | (simp only [and_self, (fact @State.deliverEvent_keep)]) | (split at hb) | (subst hb; simp only [and_self, (fact @State.deliverEvent_keep)]) | (refine (foldl_pending (fun _ _ _ hb => ?_) _ _).trans ?_) | (refine (foldl_time (fun _ _ _ hb => ?_) _ _).trans ?_) | (refine (foldl_dev (fun _ _ _ hb => ?_) _ _).trans ?_) | (refine (foldl_fuses (fun _ _ _ hb => ?_) _ _).trans ?_) | (refine (foldl_params (fun _ _ _ hb => ?_) _ _).trans ?_) | (refine (foldl_map (fun _ _ _ hb => ?_) _ _).trans ?_) | (refine (foldl_media (fun _ _ _ hb => ?_) _ _).trans ?_) | (refine (foldl_flash (fun _ _ _ hb => ?_) _ _).trans ?_) | (refine (foldl_cache (fun _ _ _ hb => ?_) _ _).trans ?_) | (refine (foldl_plp (fun _ _ _ hb => ?_) _ _).trans ?_) | (refine (foldl_dram (fun _ _ _ hb => ?_) _ _).trans ?_) | (refine (foldl_pwr (fun _ _ _ hb => ?_) _ _).trans ?_) | (refine (foldl_sec (fun _ _ _ hb => ?_) _ _).trans ?_) | (refine (foldl_naile (fun _ _ _ hb => ?_) _ _).trans ?_) | (refine (foldl_nor (fun _ _ _ hb => ?_) _ _).trans ?_) | (refine (foldl_bus (fun _ _ _ hb => ?_) _ _).trans ?_) | (refine (foldl_free (fun _ _ _ hb => ?_) _ _).trans ?_) | split))))

theorem State.noteChange_keep (s : State) (bit : Nat) :
    (State.noteChange s bit).pending = s.pending ∧ (State.noteChange s bit).time = s.time ∧ (State.noteChange s bit).dev = s.dev ∧ (State.noteChange s bit).fuses = s.fuses ∧ (State.noteChange s bit).params = s.params ∧ (State.noteChange s bit).host = s.host ∧ (State.noteChange s bit).nvm = s.nvm ∧ (State.noteChange s bit).land = s.land ∧ (State.noteChange s bit).map = s.map ∧ (State.noteChange s bit).media = s.media ∧ (State.noteChange s bit).flash = s.flash ∧ (State.noteChange s bit).cache = s.cache ∧ (State.noteChange s bit).plp = s.plp ∧ (State.noteChange s bit).dram = s.dram ∧ (State.noteChange s bit).pwr = s.pwr ∧ (State.noteChange s bit).sec = s.sec ∧ (State.noteChange s bit).mgmt = s.mgmt ∧ (State.noteChange s bit).naile = s.naile ∧ (State.noteChange s bit).nor = s.nor ∧ (State.noteChange s bit).tally = s.tally ∧ (State.noteChange s bit).free = s.free := by
  generalize hr : State.noteChange s bit = r
  simp only [State.noteChange] at hr
  repeat' split at hr
  all_goals (subst hr; (simp only [and_self]))

theorem State.nsChanged_keep (s : State) (cs : List Nat) (nsids : List Nat) :
    (State.nsChanged s cs nsids).pending = s.pending ∧ (State.nsChanged s cs nsids).time = s.time ∧ (State.nsChanged s cs nsids).dev = s.dev ∧ (State.nsChanged s cs nsids).fuses = s.fuses ∧ (State.nsChanged s cs nsids).params = s.params ∧ (State.nsChanged s cs nsids).map = s.map ∧ (State.nsChanged s cs nsids).media = s.media ∧ (State.nsChanged s cs nsids).flash = s.flash ∧ (State.nsChanged s cs nsids).cache = s.cache ∧ (State.nsChanged s cs nsids).plp = s.plp ∧ (State.nsChanged s cs nsids).dram = s.dram ∧ (State.nsChanged s cs nsids).pwr = s.pwr ∧ (State.nsChanged s cs nsids).sec = s.sec ∧ (State.nsChanged s cs nsids).naile = s.naile ∧ (State.nsChanged s cs nsids).nor = s.nor ∧ (State.nsChanged s cs nsids).free = s.free := by
  generalize hr : State.nsChanged s cs nsids = r
  simp only [State.nsChanged] at hr
  repeat' split at hr
  all_goals (subst hr; (first | (simp only [and_self, (fact @State.noteChange_keep), (fact @State.raiseEvent_keep)]; done) | (and_intros <;> (repeat' first | (simp only [and_self, (fact @State.noteChange_keep), (fact @State.raiseEvent_keep)]; done) | (simp only [and_self, (fact @State.noteChange_keep), (fact @State.raiseEvent_keep)]) | (split at hb) | (subst hb; simp only [and_self, (fact @State.noteChange_keep), (fact @State.raiseEvent_keep)]) | (refine (foldl_pending (fun _ _ _ hb => ?_) _ _).trans ?_) | (refine (foldl_time (fun _ _ _ hb => ?_) _ _).trans ?_) | (refine (foldl_dev (fun _ _ _ hb => ?_) _ _).trans ?_) | (refine (foldl_fuses (fun _ _ _ hb => ?_) _ _).trans ?_) | (refine (foldl_params (fun _ _ _ hb => ?_) _ _).trans ?_) | (refine (foldl_map (fun _ _ _ hb => ?_) _ _).trans ?_) | (refine (foldl_media (fun _ _ _ hb => ?_) _ _).trans ?_) | (refine (foldl_flash (fun _ _ _ hb => ?_) _ _).trans ?_) | (refine (foldl_cache (fun _ _ _ hb => ?_) _ _).trans ?_) | (refine (foldl_plp (fun _ _ _ hb => ?_) _ _).trans ?_) | (refine (foldl_dram (fun _ _ _ hb => ?_) _ _).trans ?_) | (refine (foldl_pwr (fun _ _ _ hb => ?_) _ _).trans ?_) | (refine (foldl_sec (fun _ _ _ hb => ?_) _ _).trans ?_) | (refine (foldl_naile (fun _ _ _ hb => ?_) _ _).trans ?_) | (refine (foldl_nor (fun _ _ _ hb => ?_) _ _).trans ?_) | (refine (foldl_free (fun _ _ _ hb => ?_) _ _).trans ?_) | split))))

theorem State.queueGroup_keep (s : State) (g : Grove) (x : CommitGroup) :
    (State.queueGroup s g x).pending = s.pending ∧ (State.queueGroup s g x).time = s.time ∧ (State.queueGroup s g x).dev = s.dev ∧ (State.queueGroup s g x).fuses = s.fuses ∧ (State.queueGroup s g x).params = s.params ∧ (State.queueGroup s g x).host = s.host ∧ (State.queueGroup s g x).nvm = s.nvm ∧ (State.queueGroup s g x).land = s.land ∧ (State.queueGroup s g x).media = s.media ∧ (State.queueGroup s g x).flash = s.flash ∧ (State.queueGroup s g x).cache = s.cache ∧ (State.queueGroup s g x).plp = s.plp ∧ (State.queueGroup s g x).dram = s.dram ∧ (State.queueGroup s g x).pwr = s.pwr ∧ (State.queueGroup s g x).sec = s.sec ∧ (State.queueGroup s g x).mgmt = s.mgmt ∧ (State.queueGroup s g x).naile = s.naile ∧ (State.queueGroup s g x).nor = s.nor ∧ (State.queueGroup s g x).tally = s.tally ∧ (State.queueGroup s g x).bus = s.bus ∧ (State.queueGroup s g x).free = s.free := by
  generalize hr : State.queueGroup s g x = r
  simp only [State.queueGroup] at hr
  repeat' split at hr
  all_goals (subst hr; (simp only [and_self]))

theorem State.queueFirst_keep (s : State) (g : Grove) (x : CommitGroup) :
    (State.queueFirst s g x).pending = s.pending ∧ (State.queueFirst s g x).time = s.time ∧ (State.queueFirst s g x).dev = s.dev ∧ (State.queueFirst s g x).fuses = s.fuses ∧ (State.queueFirst s g x).params = s.params ∧ (State.queueFirst s g x).host = s.host ∧ (State.queueFirst s g x).nvm = s.nvm ∧ (State.queueFirst s g x).land = s.land ∧ (State.queueFirst s g x).media = s.media ∧ (State.queueFirst s g x).flash = s.flash ∧ (State.queueFirst s g x).cache = s.cache ∧ (State.queueFirst s g x).plp = s.plp ∧ (State.queueFirst s g x).dram = s.dram ∧ (State.queueFirst s g x).pwr = s.pwr ∧ (State.queueFirst s g x).sec = s.sec ∧ (State.queueFirst s g x).mgmt = s.mgmt ∧ (State.queueFirst s g x).naile = s.naile ∧ (State.queueFirst s g x).nor = s.nor ∧ (State.queueFirst s g x).tally = s.tally ∧ (State.queueFirst s g x).bus = s.bus ∧ (State.queueFirst s g x).free = s.free := by
  generalize hr : State.queueFirst s g x = r
  simp only [State.queueFirst] at hr
  repeat' split at hr
  all_goals (subst hr; (simp only [and_self]))

theorem State.badPloc_keep (s : State) (dgn : Nat) :
    (State.badPloc s dgn).pending = s.pending ∧ (State.badPloc s dgn).time = s.time ∧ (State.badPloc s dgn).dev = s.dev ∧ (State.badPloc s dgn).fuses = s.fuses ∧ (State.badPloc s dgn).params = s.params ∧ (State.badPloc s dgn).host = s.host ∧ (State.badPloc s dgn).nvm = s.nvm ∧ (State.badPloc s dgn).land = s.land ∧ (State.badPloc s dgn).map = s.map ∧ (State.badPloc s dgn).media = s.media ∧ (State.badPloc s dgn).flash = s.flash ∧ (State.badPloc s dgn).cache = s.cache ∧ (State.badPloc s dgn).plp = s.plp ∧ (State.badPloc s dgn).dram = s.dram ∧ (State.badPloc s dgn).pwr = s.pwr ∧ (State.badPloc s dgn).sec = s.sec ∧ (State.badPloc s dgn).mgmt = s.mgmt ∧ (State.badPloc s dgn).naile = s.naile ∧ (State.badPloc s dgn).nor = s.nor ∧ (State.badPloc s dgn).bus = s.bus ∧ (State.badPloc s dgn).free = s.free := by
  generalize hr : State.badPloc s dgn = r
  simp only [State.badPloc] at hr
  repeat' split at hr
  all_goals (subst hr; (simp only [and_self, (fact @State.recordHw_calm), sevDebug, sevInfo, sevNotice, sevWarning, sevError, sevCritical, ne_eq, Nat.reduceEqDiff, not_false_eq_true]))

theorem State.noteBad_keep (s : State) (cs : List GranChange) :
    (State.noteBad s cs).pending = s.pending ∧ (State.noteBad s cs).time = s.time ∧ (State.noteBad s cs).dev = s.dev ∧ (State.noteBad s cs).fuses = s.fuses ∧ (State.noteBad s cs).params = s.params ∧ (State.noteBad s cs).host = s.host ∧ (State.noteBad s cs).nvm = s.nvm ∧ (State.noteBad s cs).land = s.land ∧ (State.noteBad s cs).map = s.map ∧ (State.noteBad s cs).media = s.media ∧ (State.noteBad s cs).flash = s.flash ∧ (State.noteBad s cs).cache = s.cache ∧ (State.noteBad s cs).plp = s.plp ∧ (State.noteBad s cs).dram = s.dram ∧ (State.noteBad s cs).pwr = s.pwr ∧ (State.noteBad s cs).sec = s.sec ∧ (State.noteBad s cs).mgmt = s.mgmt ∧ (State.noteBad s cs).naile = s.naile ∧ (State.noteBad s cs).nor = s.nor ∧ (State.noteBad s cs).bus = s.bus ∧ (State.noteBad s cs).free = s.free := by
  generalize hr : State.noteBad s cs = r
  simp only [State.noteBad] at hr
  repeat' split at hr
  all_goals (subst hr; (first | (simp only [and_self, (fact @State.badPloc_keep)]; done) | (and_intros <;> (repeat' first | (simp only [and_self, (fact @State.badPloc_keep)]; done) | (simp only [and_self, (fact @State.badPloc_keep)]) | (split at hb) | (subst hb; simp only [and_self, (fact @State.badPloc_keep)]) | (refine (foldl_pending (fun _ _ _ hb => ?_) _ _).trans ?_) | (refine (foldl_time (fun _ _ _ hb => ?_) _ _).trans ?_) | (refine (foldl_dev (fun _ _ _ hb => ?_) _ _).trans ?_) | (refine (foldl_fuses (fun _ _ _ hb => ?_) _ _).trans ?_) | (refine (foldl_params (fun _ _ _ hb => ?_) _ _).trans ?_) | (refine (foldl_host (fun _ _ _ hb => ?_) _ _).trans ?_) | (refine (foldl_nvm (fun _ _ _ hb => ?_) _ _).trans ?_) | (refine (foldl_land (fun _ _ _ hb => ?_) _ _).trans ?_) | (refine (foldl_map (fun _ _ _ hb => ?_) _ _).trans ?_) | (refine (foldl_media (fun _ _ _ hb => ?_) _ _).trans ?_) | (refine (foldl_flash (fun _ _ _ hb => ?_) _ _).trans ?_) | (refine (foldl_cache (fun _ _ _ hb => ?_) _ _).trans ?_) | (refine (foldl_plp (fun _ _ _ hb => ?_) _ _).trans ?_) | (refine (foldl_dram (fun _ _ _ hb => ?_) _ _).trans ?_) | (refine (foldl_pwr (fun _ _ _ hb => ?_) _ _).trans ?_) | (refine (foldl_sec (fun _ _ _ hb => ?_) _ _).trans ?_) | (refine (foldl_mgmt (fun _ _ _ hb => ?_) _ _).trans ?_) | (refine (foldl_naile (fun _ _ _ hb => ?_) _ _).trans ?_) | (refine (foldl_nor (fun _ _ _ hb => ?_) _ _).trans ?_) | (refine (foldl_bus (fun _ _ _ hb => ?_) _ _).trans ?_) | (refine (foldl_free (fun _ _ _ hb => ?_) _ _).trans ?_) | split))))

theorem State.checkShared_keep (s : State) (d : DomId) :
    (State.checkShared s d).pending = s.pending ∧ (State.checkShared s d).time = s.time ∧ (State.checkShared s d).dev = s.dev ∧ (State.checkShared s d).fuses = s.fuses ∧ (State.checkShared s d).params = s.params ∧ (State.checkShared s d).host = s.host ∧ (State.checkShared s d).nvm = s.nvm ∧ (State.checkShared s d).land = s.land ∧ (State.checkShared s d).map = s.map ∧ (State.checkShared s d).flash = s.flash ∧ (State.checkShared s d).cache = s.cache ∧ (State.checkShared s d).plp = s.plp ∧ (State.checkShared s d).dram = s.dram ∧ (State.checkShared s d).pwr = s.pwr ∧ (State.checkShared s d).sec = s.sec ∧ (State.checkShared s d).mgmt = s.mgmt ∧ (State.checkShared s d).naile = s.naile ∧ (State.checkShared s d).nor = s.nor ∧ (State.checkShared s d).bus = s.bus ∧ (State.checkShared s d).free = s.free := by
  generalize hr : State.checkShared s d = r
  simp only [State.checkShared] at hr
  repeat' split at hr
  all_goals (subst hr; (simp only [and_self, (fact @State.recordHw_calm), sevDebug, sevInfo, sevNotice, sevWarning, sevError, sevCritical, ne_eq, Nat.reduceEqDiff, not_false_eq_true]))

theorem State.checkFirebreak_keep (s : State) (d : DomId) (st : StandNo) :
    (State.checkFirebreak s d st).pending = s.pending ∧ (State.checkFirebreak s d st).time = s.time ∧ (State.checkFirebreak s d st).dev = s.dev ∧ (State.checkFirebreak s d st).fuses = s.fuses ∧ (State.checkFirebreak s d st).params = s.params ∧ (State.checkFirebreak s d st).host = s.host ∧ (State.checkFirebreak s d st).land = s.land ∧ (State.checkFirebreak s d st).map = s.map ∧ (State.checkFirebreak s d st).media = s.media ∧ (State.checkFirebreak s d st).flash = s.flash ∧ (State.checkFirebreak s d st).cache = s.cache ∧ (State.checkFirebreak s d st).plp = s.plp ∧ (State.checkFirebreak s d st).dram = s.dram ∧ (State.checkFirebreak s d st).pwr = s.pwr ∧ (State.checkFirebreak s d st).sec = s.sec ∧ (State.checkFirebreak s d st).mgmt = s.mgmt ∧ (State.checkFirebreak s d st).naile = s.naile ∧ (State.checkFirebreak s d st).nor = s.nor ∧ (State.checkFirebreak s d st).bus = s.bus ∧ (State.checkFirebreak s d st).free = s.free := by
  generalize hr : State.checkFirebreak s d st = r
  simp only [State.checkFirebreak] at hr
  repeat' split at hr
  all_goals (subst hr; (simp only [and_self, (fact @State.recordHw_calm), sevDebug, sevInfo, sevNotice, sevWarning, sevError, sevCritical, ne_eq, Nat.reduceEqDiff, not_false_eq_true]))

theorem State.recheckSpare_keep (s : State) :
    (State.recheckSpare s).pending = s.pending ∧ (State.recheckSpare s).time = s.time ∧ (State.recheckSpare s).dev = s.dev ∧ (State.recheckSpare s).fuses = s.fuses ∧ (State.recheckSpare s).params = s.params ∧ (State.recheckSpare s).host = s.host ∧ (State.recheckSpare s).land = s.land ∧ (State.recheckSpare s).map = s.map ∧ (State.recheckSpare s).flash = s.flash ∧ (State.recheckSpare s).cache = s.cache ∧ (State.recheckSpare s).plp = s.plp ∧ (State.recheckSpare s).dram = s.dram ∧ (State.recheckSpare s).pwr = s.pwr ∧ (State.recheckSpare s).sec = s.sec ∧ (State.recheckSpare s).mgmt = s.mgmt ∧ (State.recheckSpare s).naile = s.naile ∧ (State.recheckSpare s).nor = s.nor ∧ (State.recheckSpare s).bus = s.bus ∧ (State.recheckSpare s).free = s.free := by
  generalize hr : State.recheckSpare s = r
  simp only [State.recheckSpare] at hr
  repeat' split at hr
  all_goals (subst hr; (first | (simp only [and_self, (fact @State.checkFirebreak_keep), (fact @State.checkShared_keep)]; done) | (and_intros <;> (repeat' first | (simp only [and_self, (fact @State.checkFirebreak_keep), (fact @State.checkShared_keep)]; done) | (simp only [and_self, (fact @State.checkFirebreak_keep), (fact @State.checkShared_keep)]) | (split at hb) | (subst hb; simp only [and_self, (fact @State.checkFirebreak_keep), (fact @State.checkShared_keep)]) | (refine (foldl_pending (fun _ _ _ hb => ?_) _ _).trans ?_) | (refine (foldl_time (fun _ _ _ hb => ?_) _ _).trans ?_) | (refine (foldl_dev (fun _ _ _ hb => ?_) _ _).trans ?_) | (refine (foldl_fuses (fun _ _ _ hb => ?_) _ _).trans ?_) | (refine (foldl_params (fun _ _ _ hb => ?_) _ _).trans ?_) | (refine (foldl_host (fun _ _ _ hb => ?_) _ _).trans ?_) | (refine (foldl_land (fun _ _ _ hb => ?_) _ _).trans ?_) | (refine (foldl_map (fun _ _ _ hb => ?_) _ _).trans ?_) | (refine (foldl_flash (fun _ _ _ hb => ?_) _ _).trans ?_) | (refine (foldl_cache (fun _ _ _ hb => ?_) _ _).trans ?_) | (refine (foldl_plp (fun _ _ _ hb => ?_) _ _).trans ?_) | (refine (foldl_dram (fun _ _ _ hb => ?_) _ _).trans ?_) | (refine (foldl_pwr (fun _ _ _ hb => ?_) _ _).trans ?_) | (refine (foldl_sec (fun _ _ _ hb => ?_) _ _).trans ?_) | (refine (foldl_mgmt (fun _ _ _ hb => ?_) _ _).trans ?_) | (refine (foldl_naile (fun _ _ _ hb => ?_) _ _).trans ?_) | (refine (foldl_nor (fun _ _ _ hb => ?_) _ _).trans ?_) | (refine (foldl_bus (fun _ _ _ hb => ?_) _ _).trans ?_) | (refine (foldl_free (fun _ _ _ hb => ?_) _ _).trans ?_) | split))))

theorem State.setU0_keep (s : State) (ds : List DomId) :
    (State.setU0 s ds).pending = s.pending ∧ (State.setU0 s ds).time = s.time ∧ (State.setU0 s ds).dev = s.dev ∧ (State.setU0 s ds).fuses = s.fuses ∧ (State.setU0 s ds).params = s.params ∧ (State.setU0 s ds).host = s.host ∧ (State.setU0 s ds).nvm = s.nvm ∧ (State.setU0 s ds).land = s.land ∧ (State.setU0 s ds).map = s.map ∧ (State.setU0 s ds).flash = s.flash ∧ (State.setU0 s ds).cache = s.cache ∧ (State.setU0 s ds).plp = s.plp ∧ (State.setU0 s ds).dram = s.dram ∧ (State.setU0 s ds).pwr = s.pwr ∧ (State.setU0 s ds).sec = s.sec ∧ (State.setU0 s ds).mgmt = s.mgmt ∧ (State.setU0 s ds).naile = s.naile ∧ (State.setU0 s ds).nor = s.nor ∧ (State.setU0 s ds).tally = s.tally ∧ (State.setU0 s ds).bus = s.bus ∧ (State.setU0 s ds).free = s.free := by
  generalize hr : State.setU0 s ds = r
  simp only [State.setU0] at hr
  repeat' split at hr
  all_goals (subst hr; (first | (simp only [and_self]; done) | (and_intros <;> (repeat' first | (simp only [and_self]; done) | (simp only [and_self]) | (split at hb) | (subst hb; simp only [and_self]) | (refine (foldl_pending (fun _ _ _ hb => ?_) _ _).trans ?_) | (refine (foldl_time (fun _ _ _ hb => ?_) _ _).trans ?_) | (refine (foldl_dev (fun _ _ _ hb => ?_) _ _).trans ?_) | (refine (foldl_fuses (fun _ _ _ hb => ?_) _ _).trans ?_) | (refine (foldl_params (fun _ _ _ hb => ?_) _ _).trans ?_) | (refine (foldl_host (fun _ _ _ hb => ?_) _ _).trans ?_) | (refine (foldl_nvm (fun _ _ _ hb => ?_) _ _).trans ?_) | (refine (foldl_land (fun _ _ _ hb => ?_) _ _).trans ?_) | (refine (foldl_map (fun _ _ _ hb => ?_) _ _).trans ?_) | (refine (foldl_flash (fun _ _ _ hb => ?_) _ _).trans ?_) | (refine (foldl_cache (fun _ _ _ hb => ?_) _ _).trans ?_) | (refine (foldl_plp (fun _ _ _ hb => ?_) _ _).trans ?_) | (refine (foldl_dram (fun _ _ _ hb => ?_) _ _).trans ?_) | (refine (foldl_pwr (fun _ _ _ hb => ?_) _ _).trans ?_) | (refine (foldl_sec (fun _ _ _ hb => ?_) _ _).trans ?_) | (refine (foldl_mgmt (fun _ _ _ hb => ?_) _ _).trans ?_) | (refine (foldl_naile (fun _ _ _ hb => ?_) _ _).trans ?_) | (refine (foldl_nor (fun _ _ _ hb => ?_) _ _).trans ?_) | (refine (foldl_tally (fun _ _ _ hb => ?_) _ _).trans ?_) | (refine (foldl_bus (fun _ _ _ hb => ?_) _ _).trans ?_) | (refine (foldl_free (fun _ _ _ hb => ?_) _ _).trans ?_) | split))))

theorem State.takeRegion_keep (s : State) (d : DomId) :
    (State.takeRegion s d).pending = s.pending ∧ (State.takeRegion s d).time = s.time ∧ (State.takeRegion s d).dev = s.dev ∧ (State.takeRegion s d).fuses = s.fuses ∧ (State.takeRegion s d).params = s.params ∧ (State.takeRegion s d).host = s.host ∧ (State.takeRegion s d).nvm = s.nvm ∧ (State.takeRegion s d).land = s.land ∧ (State.takeRegion s d).map = s.map ∧ (State.takeRegion s d).flash = s.flash ∧ (State.takeRegion s d).cache = s.cache ∧ (State.takeRegion s d).plp = s.plp ∧ (State.takeRegion s d).dram = s.dram ∧ (State.takeRegion s d).pwr = s.pwr ∧ (State.takeRegion s d).sec = s.sec ∧ (State.takeRegion s d).mgmt = s.mgmt ∧ (State.takeRegion s d).naile = s.naile ∧ (State.takeRegion s d).nor = s.nor ∧ (State.takeRegion s d).tally = s.tally ∧ (State.takeRegion s d).bus = s.bus ∧ (State.takeRegion s d).free = s.free := by
  generalize hr : State.takeRegion s d = r
  simp only [State.takeRegion] at hr
  repeat' split at hr
  all_goals (subst hr; (simp only [and_self]))

theorem State.fillRegion_keep (s : State) (d : DomId) :
    (State.fillRegion s d).pending = s.pending ∧ (State.fillRegion s d).time = s.time ∧ (State.fillRegion s d).dev = s.dev ∧ (State.fillRegion s d).fuses = s.fuses ∧ (State.fillRegion s d).params = s.params ∧ (State.fillRegion s d).host = s.host ∧ (State.fillRegion s d).nvm = s.nvm ∧ (State.fillRegion s d).land = s.land ∧ (State.fillRegion s d).map = s.map ∧ (State.fillRegion s d).flash = s.flash ∧ (State.fillRegion s d).cache = s.cache ∧ (State.fillRegion s d).plp = s.plp ∧ (State.fillRegion s d).dram = s.dram ∧ (State.fillRegion s d).pwr = s.pwr ∧ (State.fillRegion s d).sec = s.sec ∧ (State.fillRegion s d).mgmt = s.mgmt ∧ (State.fillRegion s d).naile = s.naile ∧ (State.fillRegion s d).nor = s.nor ∧ (State.fillRegion s d).tally = s.tally ∧ (State.fillRegion s d).bus = s.bus ∧ (State.fillRegion s d).free = s.free := by
  generalize hr : State.fillRegion s d = r
  simp only [State.fillRegion] at hr
  repeat' split at hr
  all_goals (subst hr; (first | (simp only [and_self, (fact @State.takeRegion_keep)]; done) | (and_intros <;> (repeat' first | (simp only [and_self, (fact @State.takeRegion_keep)]; done) | (simp only [and_self, (fact @State.takeRegion_keep)]) | (split at hb) | (subst hb; simp only [and_self, (fact @State.takeRegion_keep)]) | (refine (foldl_pending (fun _ _ _ hb => ?_) _ _).trans ?_) | (refine (foldl_time (fun _ _ _ hb => ?_) _ _).trans ?_) | (refine (foldl_dev (fun _ _ _ hb => ?_) _ _).trans ?_) | (refine (foldl_fuses (fun _ _ _ hb => ?_) _ _).trans ?_) | (refine (foldl_params (fun _ _ _ hb => ?_) _ _).trans ?_) | (refine (foldl_host (fun _ _ _ hb => ?_) _ _).trans ?_) | (refine (foldl_nvm (fun _ _ _ hb => ?_) _ _).trans ?_) | (refine (foldl_land (fun _ _ _ hb => ?_) _ _).trans ?_) | (refine (foldl_map (fun _ _ _ hb => ?_) _ _).trans ?_) | (refine (foldl_flash (fun _ _ _ hb => ?_) _ _).trans ?_) | (refine (foldl_cache (fun _ _ _ hb => ?_) _ _).trans ?_) | (refine (foldl_plp (fun _ _ _ hb => ?_) _ _).trans ?_) | (refine (foldl_dram (fun _ _ _ hb => ?_) _ _).trans ?_) | (refine (foldl_pwr (fun _ _ _ hb => ?_) _ _).trans ?_) | (refine (foldl_sec (fun _ _ _ hb => ?_) _ _).trans ?_) | (refine (foldl_mgmt (fun _ _ _ hb => ?_) _ _).trans ?_) | (refine (foldl_naile (fun _ _ _ hb => ?_) _ _).trans ?_) | (refine (foldl_nor (fun _ _ _ hb => ?_) _ _).trans ?_) | (refine (foldl_tally (fun _ _ _ hb => ?_) _ _).trans ?_) | (refine (foldl_bus (fun _ _ _ hb => ?_) _ _).trans ?_) | (refine (foldl_free (fun _ _ _ hb => ?_) _ _).trans ?_) | split))))

theorem State.refillRegions_keep (s : State) (gone : List Nat) :
    (State.refillRegions s gone).pending = s.pending ∧ (State.refillRegions s gone).time = s.time ∧ (State.refillRegions s gone).dev = s.dev ∧ (State.refillRegions s gone).fuses = s.fuses ∧ (State.refillRegions s gone).params = s.params ∧ (State.refillRegions s gone).host = s.host ∧ (State.refillRegions s gone).nvm = s.nvm ∧ (State.refillRegions s gone).land = s.land ∧ (State.refillRegions s gone).map = s.map ∧ (State.refillRegions s gone).flash = s.flash ∧ (State.refillRegions s gone).cache = s.cache ∧ (State.refillRegions s gone).plp = s.plp ∧ (State.refillRegions s gone).dram = s.dram ∧ (State.refillRegions s gone).pwr = s.pwr ∧ (State.refillRegions s gone).sec = s.sec ∧ (State.refillRegions s gone).mgmt = s.mgmt ∧ (State.refillRegions s gone).naile = s.naile ∧ (State.refillRegions s gone).nor = s.nor ∧ (State.refillRegions s gone).tally = s.tally ∧ (State.refillRegions s gone).bus = s.bus ∧ (State.refillRegions s gone).free = s.free := by
  generalize hr : State.refillRegions s gone = r
  simp only [State.refillRegions] at hr
  repeat' split at hr
  all_goals (subst hr; (first | (simp only [and_self, (fact @State.fillRegion_keep)]; done) | (and_intros <;> (repeat' first | (simp only [and_self, (fact @State.fillRegion_keep)]; done) | (simp only [and_self, (fact @State.fillRegion_keep)]) | (split at hb) | (subst hb; simp only [and_self, (fact @State.fillRegion_keep)]) | (refine (foldl_pending (fun _ _ _ hb => ?_) _ _).trans ?_) | (refine (foldl_time (fun _ _ _ hb => ?_) _ _).trans ?_) | (refine (foldl_dev (fun _ _ _ hb => ?_) _ _).trans ?_) | (refine (foldl_fuses (fun _ _ _ hb => ?_) _ _).trans ?_) | (refine (foldl_params (fun _ _ _ hb => ?_) _ _).trans ?_) | (refine (foldl_host (fun _ _ _ hb => ?_) _ _).trans ?_) | (refine (foldl_nvm (fun _ _ _ hb => ?_) _ _).trans ?_) | (refine (foldl_land (fun _ _ _ hb => ?_) _ _).trans ?_) | (refine (foldl_map (fun _ _ _ hb => ?_) _ _).trans ?_) | (refine (foldl_flash (fun _ _ _ hb => ?_) _ _).trans ?_) | (refine (foldl_cache (fun _ _ _ hb => ?_) _ _).trans ?_) | (refine (foldl_plp (fun _ _ _ hb => ?_) _ _).trans ?_) | (refine (foldl_dram (fun _ _ _ hb => ?_) _ _).trans ?_) | (refine (foldl_pwr (fun _ _ _ hb => ?_) _ _).trans ?_) | (refine (foldl_sec (fun _ _ _ hb => ?_) _ _).trans ?_) | (refine (foldl_mgmt (fun _ _ _ hb => ?_) _ _).trans ?_) | (refine (foldl_naile (fun _ _ _ hb => ?_) _ _).trans ?_) | (refine (foldl_nor (fun _ _ _ hb => ?_) _ _).trans ?_) | (refine (foldl_tally (fun _ _ _ hb => ?_) _ _).trans ?_) | (refine (foldl_bus (fun _ _ _ hb => ?_) _ _).trans ?_) | (refine (foldl_free (fun _ _ _ hb => ?_) _ _).trans ?_) | split))))

theorem State.retireFew_keep (s : State) (rbs : List Nat) :
    (State.retireFew s rbs).pending = s.pending ∧ (State.retireFew s rbs).time = s.time ∧ (State.retireFew s rbs).dev = s.dev ∧ (State.retireFew s rbs).fuses = s.fuses ∧ (State.retireFew s rbs).params = s.params ∧ (State.retireFew s rbs).host = s.host ∧ (State.retireFew s rbs).nvm = s.nvm ∧ (State.retireFew s rbs).land = s.land ∧ (State.retireFew s rbs).map = s.map ∧ (State.retireFew s rbs).flash = s.flash ∧ (State.retireFew s rbs).cache = s.cache ∧ (State.retireFew s rbs).plp = s.plp ∧ (State.retireFew s rbs).dram = s.dram ∧ (State.retireFew s rbs).pwr = s.pwr ∧ (State.retireFew s rbs).sec = s.sec ∧ (State.retireFew s rbs).mgmt = s.mgmt ∧ (State.retireFew s rbs).naile = s.naile ∧ (State.retireFew s rbs).nor = s.nor ∧ (State.retireFew s rbs).tally = s.tally ∧ (State.retireFew s rbs).bus = s.bus ∧ (State.retireFew s rbs).free = s.free := by
  generalize hr : State.retireFew s rbs = r
  simp only [State.retireFew] at hr
  repeat' split at hr
  all_goals (subst hr; (first | (simp only [and_self, (fact @State.refillRegions_keep)]; done) | (and_intros <;> (repeat' first | (simp only [and_self, (fact @State.refillRegions_keep)]; done) | (simp only [and_self, (fact @State.refillRegions_keep)]) | (split at hb) | (subst hb; simp only [and_self, (fact @State.refillRegions_keep)]) | (refine (foldl_pending (fun _ _ _ hb => ?_) _ _).trans ?_) | (refine (foldl_time (fun _ _ _ hb => ?_) _ _).trans ?_) | (refine (foldl_dev (fun _ _ _ hb => ?_) _ _).trans ?_) | (refine (foldl_fuses (fun _ _ _ hb => ?_) _ _).trans ?_) | (refine (foldl_params (fun _ _ _ hb => ?_) _ _).trans ?_) | (refine (foldl_host (fun _ _ _ hb => ?_) _ _).trans ?_) | (refine (foldl_nvm (fun _ _ _ hb => ?_) _ _).trans ?_) | (refine (foldl_land (fun _ _ _ hb => ?_) _ _).trans ?_) | (refine (foldl_map (fun _ _ _ hb => ?_) _ _).trans ?_) | (refine (foldl_flash (fun _ _ _ hb => ?_) _ _).trans ?_) | (refine (foldl_cache (fun _ _ _ hb => ?_) _ _).trans ?_) | (refine (foldl_plp (fun _ _ _ hb => ?_) _ _).trans ?_) | (refine (foldl_dram (fun _ _ _ hb => ?_) _ _).trans ?_) | (refine (foldl_pwr (fun _ _ _ hb => ?_) _ _).trans ?_) | (refine (foldl_sec (fun _ _ _ hb => ?_) _ _).trans ?_) | (refine (foldl_mgmt (fun _ _ _ hb => ?_) _ _).trans ?_) | (refine (foldl_naile (fun _ _ _ hb => ?_) _ _).trans ?_) | (refine (foldl_nor (fun _ _ _ hb => ?_) _ _).trans ?_) | (refine (foldl_tally (fun _ _ _ hb => ?_) _ _).trans ?_) | (refine (foldl_bus (fun _ _ _ hb => ?_) _ _).trans ?_) | (refine (foldl_free (fun _ _ _ hb => ?_) _ _).trans ?_) | split))))

theorem State.openRb_keep (s : State) (st : StandNo) (k : WpClass) (rb : Nat) :
    (State.openRb s st k rb).pending = s.pending ∧ (State.openRb s st k rb).time = s.time ∧ (State.openRb s st k rb).dev = s.dev ∧ (State.openRb s st k rb).fuses = s.fuses ∧ (State.openRb s st k rb).params = s.params ∧ (State.openRb s st k rb).host = s.host ∧ (State.openRb s st k rb).nvm = s.nvm ∧ (State.openRb s st k rb).land = s.land ∧ (State.openRb s st k rb).map = s.map ∧ (State.openRb s st k rb).cache = s.cache ∧ (State.openRb s st k rb).plp = s.plp ∧ (State.openRb s st k rb).dram = s.dram ∧ (State.openRb s st k rb).pwr = s.pwr ∧ (State.openRb s st k rb).sec = s.sec ∧ (State.openRb s st k rb).mgmt = s.mgmt ∧ (State.openRb s st k rb).naile = s.naile ∧ (State.openRb s st k rb).nor = s.nor ∧ (State.openRb s st k rb).tally = s.tally ∧ (State.openRb s st k rb).bus = s.bus ∧ (State.openRb s st k rb).free = s.free := by
  generalize hr : State.openRb s st k rb = r
  simp only [State.openRb] at hr
  repeat' split at hr
  all_goals (subst hr; (simp only [and_self]))

theorem State.closeRb_keep (s : State) (rb : Nat) :
    (State.closeRb s rb).pending = s.pending ∧ (State.closeRb s rb).time = s.time ∧ (State.closeRb s rb).dev = s.dev ∧ (State.closeRb s rb).fuses = s.fuses ∧ (State.closeRb s rb).params = s.params ∧ (State.closeRb s rb).host = s.host ∧ (State.closeRb s rb).nvm = s.nvm ∧ (State.closeRb s rb).land = s.land ∧ (State.closeRb s rb).map = s.map ∧ (State.closeRb s rb).flash = s.flash ∧ (State.closeRb s rb).cache = s.cache ∧ (State.closeRb s rb).plp = s.plp ∧ (State.closeRb s rb).dram = s.dram ∧ (State.closeRb s rb).pwr = s.pwr ∧ (State.closeRb s rb).sec = s.sec ∧ (State.closeRb s rb).mgmt = s.mgmt ∧ (State.closeRb s rb).naile = s.naile ∧ (State.closeRb s rb).nor = s.nor ∧ (State.closeRb s rb).tally = s.tally ∧ (State.closeRb s rb).bus = s.bus ∧ (State.closeRb s rb).free = s.free := by
  generalize hr : State.closeRb s rb = r
  simp only [State.closeRb] at hr
  repeat' split at hr
  all_goals (subst hr; (simp only [and_self]))

theorem State.beginWear_keep (s : State) (g : Grove) :
    (State.beginWear s g).pending = s.pending ∧ (State.beginWear s g).time = s.time ∧ (State.beginWear s g).dev = s.dev ∧ (State.beginWear s g).fuses = s.fuses ∧ (State.beginWear s g).params = s.params ∧ (State.beginWear s g).host = s.host ∧ (State.beginWear s g).nvm = s.nvm ∧ (State.beginWear s g).land = s.land ∧ (State.beginWear s g).flash = s.flash ∧ (State.beginWear s g).cache = s.cache ∧ (State.beginWear s g).plp = s.plp ∧ (State.beginWear s g).dram = s.dram ∧ (State.beginWear s g).pwr = s.pwr ∧ (State.beginWear s g).sec = s.sec ∧ (State.beginWear s g).mgmt = s.mgmt ∧ (State.beginWear s g).naile = s.naile ∧ (State.beginWear s g).nor = s.nor ∧ (State.beginWear s g).tally = s.tally ∧ (State.beginWear s g).bus = s.bus ∧ (State.beginWear s g).free = s.free := by
  generalize hr : State.beginWear s g = r
  simp only [State.beginWear] at hr
  repeat' split at hr
  all_goals (subst hr; (simp only [and_self]))

theorem State.rewriteThese_keep (s : State) (all : List (Nat × Nat)) :
    (State.rewriteThese s all).pending = s.pending ∧ (State.rewriteThese s all).time = s.time ∧ (State.rewriteThese s all).dev = s.dev ∧ (State.rewriteThese s all).fuses = s.fuses ∧ (State.rewriteThese s all).params = s.params ∧ (State.rewriteThese s all).host = s.host ∧ (State.rewriteThese s all).nvm = s.nvm ∧ (State.rewriteThese s all).land = s.land ∧ (State.rewriteThese s all).flash = s.flash ∧ (State.rewriteThese s all).cache = s.cache ∧ (State.rewriteThese s all).plp = s.plp ∧ (State.rewriteThese s all).dram = s.dram ∧ (State.rewriteThese s all).pwr = s.pwr ∧ (State.rewriteThese s all).sec = s.sec ∧ (State.rewriteThese s all).mgmt = s.mgmt ∧ (State.rewriteThese s all).naile = s.naile ∧ (State.rewriteThese s all).nor = s.nor ∧ (State.rewriteThese s all).tally = s.tally ∧ (State.rewriteThese s all).bus = s.bus ∧ (State.rewriteThese s all).free = s.free := by
  generalize hr : State.rewriteThese s all = r
  simp only [State.rewriteThese] at hr
  repeat' split at hr
  all_goals (subst hr; (first | (simp only [and_self, (fact @State.beginWear_keep)]; done) | (and_intros <;> (repeat' first | (simp only [and_self, (fact @State.beginWear_keep)]; done) | (simp only [and_self, (fact @State.beginWear_keep)]) | (split at hb) | (subst hb; simp only [and_self, (fact @State.beginWear_keep)]) | (refine (foldl_pending (fun _ _ _ hb => ?_) _ _).trans ?_) | (refine (foldl_time (fun _ _ _ hb => ?_) _ _).trans ?_) | (refine (foldl_dev (fun _ _ _ hb => ?_) _ _).trans ?_) | (refine (foldl_fuses (fun _ _ _ hb => ?_) _ _).trans ?_) | (refine (foldl_params (fun _ _ _ hb => ?_) _ _).trans ?_) | (refine (foldl_host (fun _ _ _ hb => ?_) _ _).trans ?_) | (refine (foldl_nvm (fun _ _ _ hb => ?_) _ _).trans ?_) | (refine (foldl_land (fun _ _ _ hb => ?_) _ _).trans ?_) | (refine (foldl_flash (fun _ _ _ hb => ?_) _ _).trans ?_) | (refine (foldl_cache (fun _ _ _ hb => ?_) _ _).trans ?_) | (refine (foldl_plp (fun _ _ _ hb => ?_) _ _).trans ?_) | (refine (foldl_dram (fun _ _ _ hb => ?_) _ _).trans ?_) | (refine (foldl_pwr (fun _ _ _ hb => ?_) _ _).trans ?_) | (refine (foldl_sec (fun _ _ _ hb => ?_) _ _).trans ?_) | (refine (foldl_mgmt (fun _ _ _ hb => ?_) _ _).trans ?_) | (refine (foldl_naile (fun _ _ _ hb => ?_) _ _).trans ?_) | (refine (foldl_nor (fun _ _ _ hb => ?_) _ _).trans ?_) | (refine (foldl_tally (fun _ _ _ hb => ?_) _ _).trans ?_) | (refine (foldl_bus (fun _ _ _ hb => ?_) _ _).trans ?_) | (refine (foldl_free (fun _ _ _ hb => ?_) _ _).trans ?_) | split))))

theorem State.rewriteUnits_keep (s : State) (rb : Nat) :
    (State.rewriteUnits s rb).pending = s.pending ∧ (State.rewriteUnits s rb).time = s.time ∧ (State.rewriteUnits s rb).dev = s.dev ∧ (State.rewriteUnits s rb).fuses = s.fuses ∧ (State.rewriteUnits s rb).params = s.params ∧ (State.rewriteUnits s rb).host = s.host ∧ (State.rewriteUnits s rb).nvm = s.nvm ∧ (State.rewriteUnits s rb).land = s.land ∧ (State.rewriteUnits s rb).flash = s.flash ∧ (State.rewriteUnits s rb).cache = s.cache ∧ (State.rewriteUnits s rb).plp = s.plp ∧ (State.rewriteUnits s rb).dram = s.dram ∧ (State.rewriteUnits s rb).pwr = s.pwr ∧ (State.rewriteUnits s rb).sec = s.sec ∧ (State.rewriteUnits s rb).mgmt = s.mgmt ∧ (State.rewriteUnits s rb).naile = s.naile ∧ (State.rewriteUnits s rb).nor = s.nor ∧ (State.rewriteUnits s rb).tally = s.tally ∧ (State.rewriteUnits s rb).bus = s.bus ∧ (State.rewriteUnits s rb).free = s.free := by
  generalize hr : State.rewriteUnits s rb = r
  simp only [State.rewriteUnits] at hr
  repeat' split at hr
  all_goals (subst hr; (simp only [and_self, (fact @State.rewriteThese_keep)]))

theorem State.addDebt_keep (s : State) (st : StandNo) (d : DomId) (v : Rat) :
    (State.addDebt s st d v).pending = s.pending ∧ (State.addDebt s st d v).time = s.time ∧ (State.addDebt s st d v).dev = s.dev ∧ (State.addDebt s st d v).fuses = s.fuses ∧ (State.addDebt s st d v).params = s.params ∧ (State.addDebt s st d v).host = s.host ∧ (State.addDebt s st d v).nvm = s.nvm ∧ (State.addDebt s st d v).land = s.land ∧ (State.addDebt s st d v).map = s.map ∧ (State.addDebt s st d v).flash = s.flash ∧ (State.addDebt s st d v).cache = s.cache ∧ (State.addDebt s st d v).plp = s.plp ∧ (State.addDebt s st d v).dram = s.dram ∧ (State.addDebt s st d v).pwr = s.pwr ∧ (State.addDebt s st d v).sec = s.sec ∧ (State.addDebt s st d v).mgmt = s.mgmt ∧ (State.addDebt s st d v).naile = s.naile ∧ (State.addDebt s st d v).nor = s.nor ∧ (State.addDebt s st d v).tally = s.tally ∧ (State.addDebt s st d v).bus = s.bus ∧ (State.addDebt s st d v).free = s.free := by
  generalize hr : State.addDebt s st d v = r
  simp only [State.addDebt] at hr
  repeat' split at hr
  all_goals (subst hr; (simp only [and_self]))

theorem State.clearDebts_keep (s : State) :
    (State.clearDebts s).pending = s.pending ∧ (State.clearDebts s).time = s.time ∧ (State.clearDebts s).dev = s.dev ∧ (State.clearDebts s).fuses = s.fuses ∧ (State.clearDebts s).params = s.params ∧ (State.clearDebts s).host = s.host ∧ (State.clearDebts s).nvm = s.nvm ∧ (State.clearDebts s).land = s.land ∧ (State.clearDebts s).map = s.map ∧ (State.clearDebts s).flash = s.flash ∧ (State.clearDebts s).cache = s.cache ∧ (State.clearDebts s).plp = s.plp ∧ (State.clearDebts s).dram = s.dram ∧ (State.clearDebts s).pwr = s.pwr ∧ (State.clearDebts s).sec = s.sec ∧ (State.clearDebts s).mgmt = s.mgmt ∧ (State.clearDebts s).naile = s.naile ∧ (State.clearDebts s).nor = s.nor ∧ (State.clearDebts s).tally = s.tally ∧ (State.clearDebts s).bus = s.bus ∧ (State.clearDebts s).free = s.free := by
  generalize hr : State.clearDebts s = r
  simp only [State.clearDebts] at hr
  repeat' split at hr
  all_goals (subst hr; (simp only [and_self]))

theorem State.erasePending_keep (s : State) (rb : Nat) :
    (State.erasePending s rb).pending = s.pending ∧ (State.erasePending s rb).time = s.time ∧ (State.erasePending s rb).dev = s.dev ∧ (State.erasePending s rb).fuses = s.fuses ∧ (State.erasePending s rb).params = s.params ∧ (State.erasePending s rb).host = s.host ∧ (State.erasePending s rb).nvm = s.nvm ∧ (State.erasePending s rb).land = s.land ∧ (State.erasePending s rb).map = s.map ∧ (State.erasePending s rb).cache = s.cache ∧ (State.erasePending s rb).plp = s.plp ∧ (State.erasePending s rb).dram = s.dram ∧ (State.erasePending s rb).pwr = s.pwr ∧ (State.erasePending s rb).sec = s.sec ∧ (State.erasePending s rb).mgmt = s.mgmt ∧ (State.erasePending s rb).naile = s.naile ∧ (State.erasePending s rb).nor = s.nor ∧ (State.erasePending s rb).tally = s.tally ∧ (State.erasePending s rb).bus = s.bus ∧ (State.erasePending s rb).free = s.free := by
  generalize hr : State.erasePending s rb = r
  simp only [State.erasePending] at hr
  repeat' split at hr
  all_goals (subst hr; (simp only [and_self]))

theorem State.takeVictim_keep (s : State) (d : DomId) (charge : StandNo) (why : CopyWhy) (rb : Nat) :
    (State.takeVictim s d charge why rb).pending = s.pending ∧ (State.takeVictim s d charge why rb).time = s.time ∧ (State.takeVictim s d charge why rb).dev = s.dev ∧ (State.takeVictim s d charge why rb).fuses = s.fuses ∧ (State.takeVictim s d charge why rb).params = s.params ∧ (State.takeVictim s d charge why rb).host = s.host ∧ (State.takeVictim s d charge why rb).nvm = s.nvm ∧ (State.takeVictim s d charge why rb).land = s.land ∧ (State.takeVictim s d charge why rb).map = s.map ∧ (State.takeVictim s d charge why rb).cache = s.cache ∧ (State.takeVictim s d charge why rb).plp = s.plp ∧ (State.takeVictim s d charge why rb).dram = s.dram ∧ (State.takeVictim s d charge why rb).pwr = s.pwr ∧ (State.takeVictim s d charge why rb).sec = s.sec ∧ (State.takeVictim s d charge why rb).mgmt = s.mgmt ∧ (State.takeVictim s d charge why rb).naile = s.naile ∧ (State.takeVictim s d charge why rb).nor = s.nor ∧ (State.takeVictim s d charge why rb).tally = s.tally ∧ (State.takeVictim s d charge why rb).bus = s.bus ∧ (State.takeVictim s d charge why rb).free = s.free := by
  generalize hr : State.takeVictim s d charge why rb = r
  simp only [State.takeVictim] at hr
  repeat' split at hr
  all_goals (subst hr; (simp only [and_self, (fact @State.erasePending_keep)]))

theorem State.wantRelocation_keep (s : State) (rb : Nat) :
    (State.wantRelocation s rb).pending = s.pending ∧ (State.wantRelocation s rb).time = s.time ∧ (State.wantRelocation s rb).dev = s.dev ∧ (State.wantRelocation s rb).fuses = s.fuses ∧ (State.wantRelocation s rb).params = s.params ∧ (State.wantRelocation s rb).host = s.host ∧ (State.wantRelocation s rb).nvm = s.nvm ∧ (State.wantRelocation s rb).land = s.land ∧ (State.wantRelocation s rb).map = s.map ∧ (State.wantRelocation s rb).flash = s.flash ∧ (State.wantRelocation s rb).cache = s.cache ∧ (State.wantRelocation s rb).plp = s.plp ∧ (State.wantRelocation s rb).dram = s.dram ∧ (State.wantRelocation s rb).pwr = s.pwr ∧ (State.wantRelocation s rb).sec = s.sec ∧ (State.wantRelocation s rb).mgmt = s.mgmt ∧ (State.wantRelocation s rb).naile = s.naile ∧ (State.wantRelocation s rb).nor = s.nor ∧ (State.wantRelocation s rb).tally = s.tally ∧ (State.wantRelocation s rb).bus = s.bus ∧ (State.wantRelocation s rb).free = s.free := by
  generalize hr : State.wantRelocation s rb = r
  simp only [State.wantRelocation] at hr
  repeat' split at hr
  all_goals (subst hr; (simp only [and_self]))

theorem State.addOp_keep (s : State) (o : DieOp) :
    (State.addOp s o).pending = s.pending ∧ (State.addOp s o).time = s.time ∧ (State.addOp s o).dev = s.dev ∧ (State.addOp s o).fuses = s.fuses ∧ (State.addOp s o).params = s.params ∧ (State.addOp s o).host = s.host ∧ (State.addOp s o).nvm = s.nvm ∧ (State.addOp s o).land = s.land ∧ (State.addOp s o).map = s.map ∧ (State.addOp s o).media = s.media ∧ (State.addOp s o).cache = s.cache ∧ (State.addOp s o).plp = s.plp ∧ (State.addOp s o).dram = s.dram ∧ (State.addOp s o).pwr = s.pwr ∧ (State.addOp s o).sec = s.sec ∧ (State.addOp s o).mgmt = s.mgmt ∧ (State.addOp s o).naile = s.naile ∧ (State.addOp s o).nor = s.nor ∧ (State.addOp s o).tally = s.tally ∧ (State.addOp s o).bus = s.bus ∧ (State.addOp s o).free = s.free := by
  generalize hr : State.addOp s o = r
  simp only [State.addOp] at hr
  repeat' split at hr
  all_goals (subst hr; (simp only [and_self]))

theorem State.issueRead_keep (s : State) (o : DieOp) (l0 : Bool) (port : Option Port) :
    (State.issueRead s o l0 port).pending = s.pending ∧ (State.issueRead s o l0 port).time = s.time ∧ (State.issueRead s o l0 port).dev = s.dev ∧ (State.issueRead s o l0 port).fuses = s.fuses ∧ (State.issueRead s o l0 port).params = s.params ∧ (State.issueRead s o l0 port).host = s.host ∧ (State.issueRead s o l0 port).nvm = s.nvm ∧ (State.issueRead s o l0 port).map = s.map ∧ (State.issueRead s o l0 port).media = s.media ∧ (State.issueRead s o l0 port).cache = s.cache ∧ (State.issueRead s o l0 port).plp = s.plp ∧ (State.issueRead s o l0 port).dram = s.dram ∧ (State.issueRead s o l0 port).pwr = s.pwr ∧ (State.issueRead s o l0 port).sec = s.sec ∧ (State.issueRead s o l0 port).mgmt = s.mgmt ∧ (State.issueRead s o l0 port).naile = s.naile ∧ (State.issueRead s o l0 port).nor = s.nor ∧ (State.issueRead s o l0 port).tally = s.tally ∧ (State.issueRead s o l0 port).bus = s.bus ∧ (State.issueRead s o l0 port).free = s.free := by
  generalize hr : State.issueRead s o l0 port = r
  simp only [State.issueRead] at hr
  repeat' split at hr
  all_goals (subst hr; (simp only [and_self, (fact @State.addOp_keep), (fact @State.askCords_keep)]))

theorem State.issueErases_keep (s : State) (rb : Nat) :
    (State.issueErases s rb).pending = s.pending ∧ (State.issueErases s rb).time = s.time ∧ (State.issueErases s rb).dev = s.dev ∧ (State.issueErases s rb).fuses = s.fuses ∧ (State.issueErases s rb).params = s.params ∧ (State.issueErases s rb).host = s.host ∧ (State.issueErases s rb).nvm = s.nvm ∧ (State.issueErases s rb).land = s.land ∧ (State.issueErases s rb).map = s.map ∧ (State.issueErases s rb).media = s.media ∧ (State.issueErases s rb).cache = s.cache ∧ (State.issueErases s rb).plp = s.plp ∧ (State.issueErases s rb).dram = s.dram ∧ (State.issueErases s rb).pwr = s.pwr ∧ (State.issueErases s rb).sec = s.sec ∧ (State.issueErases s rb).mgmt = s.mgmt ∧ (State.issueErases s rb).naile = s.naile ∧ (State.issueErases s rb).nor = s.nor ∧ (State.issueErases s rb).tally = s.tally ∧ (State.issueErases s rb).bus = s.bus ∧ (State.issueErases s rb).free = s.free := by
  generalize hr : State.issueErases s rb = r
  simp only [State.issueErases] at hr
  repeat' split at hr
  all_goals (subst hr; (first | (simp only [and_self, (fact @State.addOp_keep)]; done) | (and_intros <;> (repeat' first | (simp only [and_self, (fact @State.addOp_keep)]; done) | (simp only [and_self, (fact @State.addOp_keep)]) | (split at hb) | (subst hb; simp only [and_self, (fact @State.addOp_keep)]) | (refine (foldl_pending (fun _ _ _ hb => ?_) _ _).trans ?_) | (refine (foldl_time (fun _ _ _ hb => ?_) _ _).trans ?_) | (refine (foldl_dev (fun _ _ _ hb => ?_) _ _).trans ?_) | (refine (foldl_fuses (fun _ _ _ hb => ?_) _ _).trans ?_) | (refine (foldl_params (fun _ _ _ hb => ?_) _ _).trans ?_) | (refine (foldl_host (fun _ _ _ hb => ?_) _ _).trans ?_) | (refine (foldl_nvm (fun _ _ _ hb => ?_) _ _).trans ?_) | (refine (foldl_land (fun _ _ _ hb => ?_) _ _).trans ?_) | (refine (foldl_map (fun _ _ _ hb => ?_) _ _).trans ?_) | (refine (foldl_media (fun _ _ _ hb => ?_) _ _).trans ?_) | (refine (foldl_cache (fun _ _ _ hb => ?_) _ _).trans ?_) | (refine (foldl_plp (fun _ _ _ hb => ?_) _ _).trans ?_) | (refine (foldl_dram (fun _ _ _ hb => ?_) _ _).trans ?_) | (refine (foldl_pwr (fun _ _ _ hb => ?_) _ _).trans ?_) | (refine (foldl_sec (fun _ _ _ hb => ?_) _ _).trans ?_) | (refine (foldl_mgmt (fun _ _ _ hb => ?_) _ _).trans ?_) | (refine (foldl_naile (fun _ _ _ hb => ?_) _ _).trans ?_) | (refine (foldl_nor (fun _ _ _ hb => ?_) _ _).trans ?_) | (refine (foldl_tally (fun _ _ _ hb => ?_) _ _).trans ?_) | (refine (foldl_bus (fun _ _ _ hb => ?_) _ _).trans ?_) | (refine (foldl_free (fun _ _ _ hb => ?_) _ _).trans ?_) | split))))

theorem State.dropOp_keep (s : State) (i : Nat) :
    (State.dropOp s i).pending = s.pending ∧ (State.dropOp s i).time = s.time ∧ (State.dropOp s i).dev = s.dev ∧ (State.dropOp s i).fuses = s.fuses ∧ (State.dropOp s i).params = s.params ∧ (State.dropOp s i).host = s.host ∧ (State.dropOp s i).nvm = s.nvm ∧ (State.dropOp s i).map = s.map ∧ (State.dropOp s i).media = s.media ∧ (State.dropOp s i).cache = s.cache ∧ (State.dropOp s i).plp = s.plp ∧ (State.dropOp s i).dram = s.dram ∧ (State.dropOp s i).pwr = s.pwr ∧ (State.dropOp s i).sec = s.sec ∧ (State.dropOp s i).mgmt = s.mgmt ∧ (State.dropOp s i).naile = s.naile ∧ (State.dropOp s i).nor = s.nor ∧ (State.dropOp s i).bus = s.bus ∧ (State.dropOp s i).free = s.free := by
  generalize hr : State.dropOp s i = r
  simp only [State.dropOp] at hr
  repeat' split at hr
  all_goals (subst hr; (simp only [and_self, (fact @State.freeCords_keep)]))

theorem State.readLeaf_keep (s : State) (lpn : Nat) :
    (State.readLeaf s lpn).pending = s.pending ∧ (State.readLeaf s lpn).time = s.time ∧ (State.readLeaf s lpn).dev = s.dev ∧ (State.readLeaf s lpn).fuses = s.fuses ∧ (State.readLeaf s lpn).params = s.params ∧ (State.readLeaf s lpn).host = s.host ∧ (State.readLeaf s lpn).nvm = s.nvm ∧ (State.readLeaf s lpn).media = s.media ∧ (State.readLeaf s lpn).cache = s.cache ∧ (State.readLeaf s lpn).plp = s.plp ∧ (State.readLeaf s lpn).dram = s.dram ∧ (State.readLeaf s lpn).pwr = s.pwr ∧ (State.readLeaf s lpn).sec = s.sec ∧ (State.readLeaf s lpn).mgmt = s.mgmt ∧ (State.readLeaf s lpn).naile = s.naile ∧ (State.readLeaf s lpn).nor = s.nor ∧ (State.readLeaf s lpn).tally = s.tally ∧ (State.readLeaf s lpn).bus = s.bus ∧ (State.readLeaf s lpn).free = s.free := by
  generalize hr : State.readLeaf s lpn = r
  simp only [State.readLeaf] at hr
  repeat' split at hr
  all_goals (subst hr; (simp only [and_self, (fact @State.issueRead_keep)]))

theorem State.markAbsent_keep (s : State) (ch : Nat) (die : Option Nat) :
    (State.markAbsent s ch die).pending = s.pending ∧ (State.markAbsent s ch die).time = s.time ∧ (State.markAbsent s ch die).dev = s.dev ∧ (State.markAbsent s ch die).fuses = s.fuses ∧ (State.markAbsent s ch die).params = s.params ∧ (State.markAbsent s ch die).host = s.host ∧ (State.markAbsent s ch die).nvm = s.nvm ∧ (State.markAbsent s ch die).land = s.land ∧ (State.markAbsent s ch die).map = s.map ∧ (State.markAbsent s ch die).flash = s.flash ∧ (State.markAbsent s ch die).cache = s.cache ∧ (State.markAbsent s ch die).plp = s.plp ∧ (State.markAbsent s ch die).dram = s.dram ∧ (State.markAbsent s ch die).pwr = s.pwr ∧ (State.markAbsent s ch die).sec = s.sec ∧ (State.markAbsent s ch die).mgmt = s.mgmt ∧ (State.markAbsent s ch die).naile = s.naile ∧ (State.markAbsent s ch die).nor = s.nor ∧ (State.markAbsent s ch die).tally = s.tally ∧ (State.markAbsent s ch die).bus = s.bus ∧ (State.markAbsent s ch die).free = s.free := by
  generalize hr : State.markAbsent s ch die = r
  simp only [State.markAbsent] at hr
  repeat' split at hr
  all_goals (subst hr; (first | (simp only [and_self, (fact @State.retireFew_keep)]; done) | (and_intros <;> (repeat' first | (simp only [and_self, (fact @State.retireFew_keep)]; done) | (simp only [and_self, (fact @State.retireFew_keep)]) | (split at hb) | (subst hb; simp only [and_self, (fact @State.retireFew_keep)]) | (refine (foldl_pending (fun _ _ _ hb => ?_) _ _).trans ?_) | (refine (foldl_time (fun _ _ _ hb => ?_) _ _).trans ?_) | (refine (foldl_dev (fun _ _ _ hb => ?_) _ _).trans ?_) | (refine (foldl_fuses (fun _ _ _ hb => ?_) _ _).trans ?_) | (refine (foldl_params (fun _ _ _ hb => ?_) _ _).trans ?_) | (refine (foldl_host (fun _ _ _ hb => ?_) _ _).trans ?_) | (refine (foldl_nvm (fun _ _ _ hb => ?_) _ _).trans ?_) | (refine (foldl_land (fun _ _ _ hb => ?_) _ _).trans ?_) | (refine (foldl_map (fun _ _ _ hb => ?_) _ _).trans ?_) | (refine (foldl_flash (fun _ _ _ hb => ?_) _ _).trans ?_) | (refine (foldl_cache (fun _ _ _ hb => ?_) _ _).trans ?_) | (refine (foldl_plp (fun _ _ _ hb => ?_) _ _).trans ?_) | (refine (foldl_dram (fun _ _ _ hb => ?_) _ _).trans ?_) | (refine (foldl_pwr (fun _ _ _ hb => ?_) _ _).trans ?_) | (refine (foldl_sec (fun _ _ _ hb => ?_) _ _).trans ?_) | (refine (foldl_mgmt (fun _ _ _ hb => ?_) _ _).trans ?_) | (refine (foldl_naile (fun _ _ _ hb => ?_) _ _).trans ?_) | (refine (foldl_nor (fun _ _ _ hb => ?_) _ _).trans ?_) | (refine (foldl_tally (fun _ _ _ hb => ?_) _ _).trans ?_) | (refine (foldl_bus (fun _ _ _ hb => ?_) _ _).trans ?_) | (refine (foldl_free (fun _ _ _ hb => ?_) _ _).trans ?_) | split))))

theorem State.endLease_keep (s : State) (p : Port) (cause : Nat) :
    (State.endLease s p cause).pending = s.pending ∧ (State.endLease s p cause).time = s.time ∧ (State.endLease s p cause).dev = s.dev ∧ (State.endLease s p cause).fuses = s.fuses ∧ (State.endLease s p cause).params = s.params ∧ (State.endLease s p cause).media = s.media ∧ (State.endLease s p cause).cache = s.cache ∧ (State.endLease s p cause).plp = s.plp ∧ (State.endLease s p cause).dram = s.dram ∧ (State.endLease s p cause).pwr = s.pwr ∧ (State.endLease s p cause).sec = s.sec ∧ (State.endLease s p cause).mgmt = s.mgmt ∧ (State.endLease s p cause).naile = s.naile ∧ (State.endLease s p cause).nor = s.nor ∧ (State.endLease s p cause).bus = s.bus ∧ (State.endLease s p cause).free = s.free := by
  generalize hr : State.endLease s p cause = r
  simp only [State.endLease] at hr
  repeat' split at hr
  all_goals (subst hr; (first | (simp only [and_self, (fact @State.complete_keep), (fact @State.readLeaf_keep)]; done) | (and_intros <;> (repeat' first | (simp only [and_self, (fact @State.complete_keep), (fact @State.readLeaf_keep)]; done) | (simp only [and_self, (fact @State.complete_keep), (fact @State.readLeaf_keep)]) | (split at hb) | (subst hb; simp only [and_self, (fact @State.complete_keep), (fact @State.readLeaf_keep)]) | (refine (foldl_pending (fun _ _ _ hb => ?_) _ _).trans ?_) | (refine (foldl_time (fun _ _ _ hb => ?_) _ _).trans ?_) | (refine (foldl_dev (fun _ _ _ hb => ?_) _ _).trans ?_) | (refine (foldl_fuses (fun _ _ _ hb => ?_) _ _).trans ?_) | (refine (foldl_params (fun _ _ _ hb => ?_) _ _).trans ?_) | (refine (foldl_media (fun _ _ _ hb => ?_) _ _).trans ?_) | (refine (foldl_cache (fun _ _ _ hb => ?_) _ _).trans ?_) | (refine (foldl_plp (fun _ _ _ hb => ?_) _ _).trans ?_) | (refine (foldl_dram (fun _ _ _ hb => ?_) _ _).trans ?_) | (refine (foldl_pwr (fun _ _ _ hb => ?_) _ _).trans ?_) | (refine (foldl_sec (fun _ _ _ hb => ?_) _ _).trans ?_) | (refine (foldl_mgmt (fun _ _ _ hb => ?_) _ _).trans ?_) | (refine (foldl_naile (fun _ _ _ hb => ?_) _ _).trans ?_) | (refine (foldl_nor (fun _ _ _ hb => ?_) _ _).trans ?_) | (refine (foldl_bus (fun _ _ _ hb => ?_) _ _).trans ?_) | (refine (foldl_free (fun _ _ _ hb => ?_) _ _).trans ?_) | split))))

theorem State.stopLease_keep (s : State) (p : Port) (cause : Nat) :
    (State.stopLease s p cause).pending = s.pending ∧ (State.stopLease s p cause).time = s.time ∧ (State.stopLease s p cause).dev = s.dev ∧ (State.stopLease s p cause).fuses = s.fuses ∧ (State.stopLease s p cause).params = s.params ∧ (State.stopLease s p cause).media = s.media ∧ (State.stopLease s p cause).cache = s.cache ∧ (State.stopLease s p cause).plp = s.plp ∧ (State.stopLease s p cause).dram = s.dram ∧ (State.stopLease s p cause).pwr = s.pwr ∧ (State.stopLease s p cause).sec = s.sec ∧ (State.stopLease s p cause).mgmt = s.mgmt ∧ (State.stopLease s p cause).naile = s.naile ∧ (State.stopLease s p cause).nor = s.nor ∧ (State.stopLease s p cause).bus = s.bus ∧ (State.stopLease s p cause).free = s.free := by
  generalize hr : State.stopLease s p cause = r
  simp only [State.stopLease] at hr
  repeat' split at hr
  all_goals (subst hr; (simp only [and_self, (fact @State.endLease_keep)]))

theorem State.leaseOver_keep (s : State) (p : Port) :
    (State.leaseOver s p).pending = s.pending ∧ (State.leaseOver s p).time = s.time ∧ (State.leaseOver s p).dev = s.dev ∧ (State.leaseOver s p).fuses = s.fuses ∧ (State.leaseOver s p).params = s.params ∧ (State.leaseOver s p).media = s.media ∧ (State.leaseOver s p).cache = s.cache ∧ (State.leaseOver s p).plp = s.plp ∧ (State.leaseOver s p).dram = s.dram ∧ (State.leaseOver s p).pwr = s.pwr ∧ (State.leaseOver s p).sec = s.sec ∧ (State.leaseOver s p).mgmt = s.mgmt ∧ (State.leaseOver s p).naile = s.naile ∧ (State.leaseOver s p).nor = s.nor ∧ (State.leaseOver s p).bus = s.bus ∧ (State.leaseOver s p).free = s.free := by
  generalize hr : State.leaseOver s p = r
  simp only [State.leaseOver] at hr
  repeat' split at hr
  all_goals (subst hr; (simp only [and_self, (fact @State.endLease_keep)]))

theorem State.addGroup_keep {s : State} {nsid keyGen : Nat} {bs : List (Nat × Block)} {tag cntl : Option Nat} {cover : Option (Nat × Nat)}
    {b : State × Dword} (h : s.addGroup nsid keyGen bs tag cntl cover = some b) : b.1 = { s with cache := b.1.cache } := by
  simp only [State.addGroup] at h
  split at h
  · cases h
  · injection h with h
    subst h
    rfl


theorem State.addGroups_keep {s : State} {nsid keyGen : Nat} {tag cntl : Option Nat} {l : List (List (Nat × Block))}
    {b : State × List Dword} (h : s.addGroups nsid keyGen tag cntl l = some b) : b.1 = { s with cache := b.1.cache } := by
  induction l generalizing s b with
  | nil =>
    simp only [State.addGroups] at h
    injection h with h
    subst h
    rfl
  | cons x t ih =>
    simp only [State.addGroups] at h
    split at h
    · cases h
    · next s1 q h1 =>
      split at h
      · cases h
      · next s2 qs h2 =>
        injection h with h
        subst h
        have e1 := State.addGroup_keep h1
        have e2 := ih h2
        dsimp only at e1 e2 ⊢
        rw [e2, e1]


theorem State.sweepOnce_keep (s : State) :
    (State.sweepOnce s).pending = s.pending ∧ (State.sweepOnce s).time = s.time ∧ (State.sweepOnce s).dev = s.dev ∧ (State.sweepOnce s).fuses = s.fuses ∧ (State.sweepOnce s).params = s.params ∧ (State.sweepOnce s).map = s.map ∧ (State.sweepOnce s).media = s.media ∧ (State.sweepOnce s).flash = s.flash ∧ (State.sweepOnce s).cache = s.cache ∧ (State.sweepOnce s).plp = s.plp ∧ (State.sweepOnce s).dram = s.dram ∧ (State.sweepOnce s).pwr = s.pwr ∧ (State.sweepOnce s).sec = s.sec ∧ (State.sweepOnce s).mgmt = s.mgmt ∧ (State.sweepOnce s).naile = s.naile ∧ (State.sweepOnce s).nor = s.nor ∧ (State.sweepOnce s).bus = s.bus ∧ (State.sweepOnce s).free = s.free := by
  generalize hr : State.sweepOnce s = r
  simp only [State.sweepOnce] at hr
  repeat' split at hr
  all_goals (subst hr; (first | (simp only [and_self, (fact @State.complete_keep)]; done) | (and_intros <;> (repeat' first | (simp only [and_self, (fact @State.complete_keep)]; done) | (simp only [and_self, (fact @State.complete_keep)]) | (split at hb) | (subst hb; simp only [and_self, (fact @State.complete_keep)]) | (refine (foldl_pending (fun _ _ _ hb => ?_) _ _).trans ?_) | (refine (foldl_time (fun _ _ _ hb => ?_) _ _).trans ?_) | (refine (foldl_dev (fun _ _ _ hb => ?_) _ _).trans ?_) | (refine (foldl_fuses (fun _ _ _ hb => ?_) _ _).trans ?_) | (refine (foldl_params (fun _ _ _ hb => ?_) _ _).trans ?_) | (refine (foldl_map (fun _ _ _ hb => ?_) _ _).trans ?_) | (refine (foldl_media (fun _ _ _ hb => ?_) _ _).trans ?_) | (refine (foldl_flash (fun _ _ _ hb => ?_) _ _).trans ?_) | (refine (foldl_cache (fun _ _ _ hb => ?_) _ _).trans ?_) | (refine (foldl_plp (fun _ _ _ hb => ?_) _ _).trans ?_) | (refine (foldl_dram (fun _ _ _ hb => ?_) _ _).trans ?_) | (refine (foldl_pwr (fun _ _ _ hb => ?_) _ _).trans ?_) | (refine (foldl_sec (fun _ _ _ hb => ?_) _ _).trans ?_) | (refine (foldl_mgmt (fun _ _ _ hb => ?_) _ _).trans ?_) | (refine (foldl_naile (fun _ _ _ hb => ?_) _ _).trans ?_) | (refine (foldl_nor (fun _ _ _ hb => ?_) _ _).trans ?_) | (refine (foldl_bus (fun _ _ _ hb => ?_) _ _).trans ?_) | (refine (foldl_free (fun _ _ _ hb => ?_) _ _).trans ?_) | split))))

theorem State.sweepTags_keep (s : State) :
    (State.sweepTags s).pending = s.pending ∧ (State.sweepTags s).time = s.time ∧ (State.sweepTags s).dev = s.dev ∧ (State.sweepTags s).fuses = s.fuses ∧ (State.sweepTags s).params = s.params ∧ (State.sweepTags s).map = s.map ∧ (State.sweepTags s).media = s.media ∧ (State.sweepTags s).flash = s.flash ∧ (State.sweepTags s).cache = s.cache ∧ (State.sweepTags s).plp = s.plp ∧ (State.sweepTags s).dram = s.dram ∧ (State.sweepTags s).pwr = s.pwr ∧ (State.sweepTags s).sec = s.sec ∧ (State.sweepTags s).mgmt = s.mgmt ∧ (State.sweepTags s).naile = s.naile ∧ (State.sweepTags s).nor = s.nor ∧ (State.sweepTags s).bus = s.bus ∧ (State.sweepTags s).free = s.free := by
  generalize hr : State.sweepTags s = r
  simp only [State.sweepTags] at hr
  repeat' split at hr
  all_goals (subst hr; (simp only [and_self, (fact @State.sweepOnce_keep)]))

theorem State.eraseReplayed_keep (s : State) : (s.eraseReplayed).pending = s.pending ∧ (s.eraseReplayed).time = s.time ∧ (s.eraseReplayed).dev = s.dev ∧ (s.eraseReplayed).fuses = s.fuses ∧ (s.eraseReplayed).params = s.params ∧ (s.eraseReplayed).host = s.host ∧ (s.eraseReplayed).nvm = s.nvm ∧ (s.eraseReplayed).land = s.land ∧ (s.eraseReplayed).map = s.map ∧ (s.eraseReplayed).cache = s.cache ∧ (s.eraseReplayed).dram = s.dram ∧ (s.eraseReplayed).pwr = s.pwr ∧ (s.eraseReplayed).sec = s.sec ∧ (s.eraseReplayed).mgmt = s.mgmt ∧ (s.eraseReplayed).naile = s.naile ∧ (s.eraseReplayed).nor = s.nor ∧ (s.eraseReplayed).tally = s.tally ∧ (s.eraseReplayed).bus = s.bus ∧ (s.eraseReplayed).free = s.free := by
  rw [State.eraseReplayed]
  refine kfold_1 (fun a g b hb => ?_) _ _
  subst hb
  refine kfold_1 (fun a w b hb => ?_) _ _
  dsimp only at hb
  generalize hd : (if w = 0 then (vget a.plp.sets g { a := DumpSet.absent, b := DumpSet.absent }).a
    else (vget a.plp.sets g { a := DumpSet.absent, b := DumpSet.absent }).b) = d at hb
  split at hb
  · subst hb
    refine ktrans_1 (kfold_1 (fun a x b hb => ?_) _ _) (by and_intros <;> rfl)
    subst hb
    simp only [(fact @State.issueErases_keep), and_self]
  · subst hb; (and_intros <;> rfl)


theorem State.freeGroups_keep (s : State) :
    (State.freeGroups s).pending = s.pending ∧ (State.freeGroups s).time = s.time ∧ (State.freeGroups s).dev = s.dev ∧ (State.freeGroups s).fuses = s.fuses ∧ (State.freeGroups s).params = s.params ∧ (State.freeGroups s).map = s.map ∧ (State.freeGroups s).dram = s.dram ∧ (State.freeGroups s).pwr = s.pwr ∧ (State.freeGroups s).sec = s.sec ∧ (State.freeGroups s).mgmt = s.mgmt ∧ (State.freeGroups s).naile = s.naile ∧ (State.freeGroups s).nor = s.nor ∧ (State.freeGroups s).bus = s.bus ∧ (State.freeGroups s).free = s.free := by
  generalize hr : State.freeGroups s = r
  simp only [State.freeGroups] at hr
  repeat' split at hr
  all_goals (subst hr; (simp only [and_self, (fact @State.eraseReplayed_keep), (fact @State.sweepTags_keep)]))

theorem State.ackPoisoned_keep (s : State) (nsid : Nat) (lba : Nat) (gseq : Nat) :
    (State.ackPoisoned s nsid lba gseq).pending = s.pending ∧ (State.ackPoisoned s nsid lba gseq).time = s.time ∧ (State.ackPoisoned s nsid lba gseq).dev = s.dev ∧ (State.ackPoisoned s nsid lba gseq).fuses = s.fuses ∧ (State.ackPoisoned s nsid lba gseq).params = s.params ∧ (State.ackPoisoned s nsid lba gseq).nvm = s.nvm ∧ (State.ackPoisoned s nsid lba gseq).land = s.land ∧ (State.ackPoisoned s nsid lba gseq).map = s.map ∧ (State.ackPoisoned s nsid lba gseq).media = s.media ∧ (State.ackPoisoned s nsid lba gseq).flash = s.flash ∧ (State.ackPoisoned s nsid lba gseq).cache = s.cache ∧ (State.ackPoisoned s nsid lba gseq).plp = s.plp ∧ (State.ackPoisoned s nsid lba gseq).dram = s.dram ∧ (State.ackPoisoned s nsid lba gseq).pwr = s.pwr ∧ (State.ackPoisoned s nsid lba gseq).sec = s.sec ∧ (State.ackPoisoned s nsid lba gseq).mgmt = s.mgmt ∧ (State.ackPoisoned s nsid lba gseq).naile = s.naile ∧ (State.ackPoisoned s nsid lba gseq).nor = s.nor ∧ (State.ackPoisoned s nsid lba gseq).bus = s.bus ∧ (State.ackPoisoned s nsid lba gseq).free = s.free := by
  generalize hr : State.ackPoisoned s nsid lba gseq = r
  simp only [State.ackPoisoned] at hr
  repeat' split at hr
  all_goals (subst hr; (simp only [and_self, (fact @State.recordHw_calm), sevDebug, sevInfo, sevNotice, sevWarning, sevError, sevCritical, ne_eq, Nat.reduceEqDiff, not_false_eq_true]))

theorem State.slotLostAt_keep (s : State) (q : Nat) (g : CGroup) (lba : Nat) :
    (State.slotLostAt s q g lba).pending = s.pending ∧ (State.slotLostAt s q g lba).time = s.time ∧ (State.slotLostAt s q g lba).dev = s.dev ∧ (State.slotLostAt s q g lba).fuses = s.fuses ∧ (State.slotLostAt s q g lba).params = s.params ∧ (State.slotLostAt s q g lba).nvm = s.nvm ∧ (State.slotLostAt s q g lba).land = s.land ∧ (State.slotLostAt s q g lba).map = s.map ∧ (State.slotLostAt s q g lba).media = s.media ∧ (State.slotLostAt s q g lba).flash = s.flash ∧ (State.slotLostAt s q g lba).cache = s.cache ∧ (State.slotLostAt s q g lba).plp = s.plp ∧ (State.slotLostAt s q g lba).dram = s.dram ∧ (State.slotLostAt s q g lba).pwr = s.pwr ∧ (State.slotLostAt s q g lba).sec = s.sec ∧ (State.slotLostAt s q g lba).mgmt = s.mgmt ∧ (State.slotLostAt s q g lba).naile = s.naile ∧ (State.slotLostAt s q g lba).nor = s.nor ∧ (State.slotLostAt s q g lba).bus = s.bus ∧ (State.slotLostAt s q g lba).free = s.free := by
  generalize hr : State.slotLostAt s q g lba = r
  simp only [State.slotLostAt] at hr
  repeat' split at hr
  all_goals (subst hr; (simp only [and_self, (fact @State.ackPoisoned_keep), (fact @State.modTag_keep)]))

theorem State.poisonSlot_keep (s : State) (q : Nat) (slot : Nat) :
    (State.poisonSlot s q slot).pending = s.pending ∧ (State.poisonSlot s q slot).time = s.time ∧ (State.poisonSlot s q slot).dev = s.dev ∧ (State.poisonSlot s q slot).fuses = s.fuses ∧ (State.poisonSlot s q slot).params = s.params ∧ (State.poisonSlot s q slot).nvm = s.nvm ∧ (State.poisonSlot s q slot).land = s.land ∧ (State.poisonSlot s q slot).map = s.map ∧ (State.poisonSlot s q slot).media = s.media ∧ (State.poisonSlot s q slot).flash = s.flash ∧ (State.poisonSlot s q slot).plp = s.plp ∧ (State.poisonSlot s q slot).dram = s.dram ∧ (State.poisonSlot s q slot).pwr = s.pwr ∧ (State.poisonSlot s q slot).sec = s.sec ∧ (State.poisonSlot s q slot).mgmt = s.mgmt ∧ (State.poisonSlot s q slot).naile = s.naile ∧ (State.poisonSlot s q slot).nor = s.nor ∧ (State.poisonSlot s q slot).bus = s.bus ∧ (State.poisonSlot s q slot).free = s.free := by
  generalize hr : State.poisonSlot s q slot = r
  simp only [State.poisonSlot] at hr
  repeat' split at hr
  all_goals (subst hr; (simp only [and_self, (fact @State.slotLostAt_keep)]))

theorem State.returnCharge_keep (s : State) (st : Nat) (n : Nat) :
    (State.returnCharge s st n).pending = s.pending ∧ (State.returnCharge s st n).time = s.time ∧ (State.returnCharge s st n).dev = s.dev ∧ (State.returnCharge s st n).fuses = s.fuses ∧ (State.returnCharge s st n).params = s.params ∧ (State.returnCharge s st n).host = s.host ∧ (State.returnCharge s st n).land = s.land ∧ (State.returnCharge s st n).map = s.map ∧ (State.returnCharge s st n).media = s.media ∧ (State.returnCharge s st n).flash = s.flash ∧ (State.returnCharge s st n).cache = s.cache ∧ (State.returnCharge s st n).plp = s.plp ∧ (State.returnCharge s st n).dram = s.dram ∧ (State.returnCharge s st n).pwr = s.pwr ∧ (State.returnCharge s st n).sec = s.sec ∧ (State.returnCharge s st n).mgmt = s.mgmt ∧ (State.returnCharge s st n).naile = s.naile ∧ (State.returnCharge s st n).nor = s.nor ∧ (State.returnCharge s st n).tally = s.tally ∧ (State.returnCharge s st n).bus = s.bus ∧ (State.returnCharge s st n).free = s.free := by
  generalize hr : State.returnCharge s st n = r
  simp only [State.returnCharge] at hr
  repeat' split at hr
  all_goals (subst hr; (simp only [and_self]))

theorem State.dropCopies_keep (s : State) (ps : List Ploc) :
    (State.dropCopies s ps).pending = s.pending ∧ (State.dropCopies s ps).time = s.time ∧ (State.dropCopies s ps).dev = s.dev ∧ (State.dropCopies s ps).fuses = s.fuses ∧ (State.dropCopies s ps).params = s.params ∧ (State.dropCopies s ps).host = s.host ∧ (State.dropCopies s ps).nvm = s.nvm ∧ (State.dropCopies s ps).map = s.map ∧ (State.dropCopies s ps).media = s.media ∧ (State.dropCopies s ps).flash = s.flash ∧ (State.dropCopies s ps).cache = s.cache ∧ (State.dropCopies s ps).plp = s.plp ∧ (State.dropCopies s ps).dram = s.dram ∧ (State.dropCopies s ps).pwr = s.pwr ∧ (State.dropCopies s ps).sec = s.sec ∧ (State.dropCopies s ps).mgmt = s.mgmt ∧ (State.dropCopies s ps).naile = s.naile ∧ (State.dropCopies s ps).nor = s.nor ∧ (State.dropCopies s ps).bus = s.bus ∧ (State.dropCopies s ps).free = s.free := by
  generalize hr : State.dropCopies s ps = r
  simp only [State.dropCopies] at hr
  repeat' split at hr
  all_goals (subst hr; (simp only [and_self, (fact @State.freeThese_keep)]))

theorem State.giveBack_keep (s : State) (items : List Item) :
    (State.giveBack s items).pending = s.pending ∧ (State.giveBack s items).time = s.time ∧ (State.giveBack s items).dev = s.dev ∧ (State.giveBack s items).fuses = s.fuses ∧ (State.giveBack s items).params = s.params ∧ (State.giveBack s items).host = s.host ∧ (State.giveBack s items).nvm = s.nvm ∧ (State.giveBack s items).map = s.map ∧ (State.giveBack s items).flash = s.flash ∧ (State.giveBack s items).cache = s.cache ∧ (State.giveBack s items).plp = s.plp ∧ (State.giveBack s items).dram = s.dram ∧ (State.giveBack s items).pwr = s.pwr ∧ (State.giveBack s items).sec = s.sec ∧ (State.giveBack s items).mgmt = s.mgmt ∧ (State.giveBack s items).naile = s.naile ∧ (State.giveBack s items).nor = s.nor ∧ (State.giveBack s items).bus = s.bus ∧ (State.giveBack s items).free = s.free := by
  generalize hr : State.giveBack s items = r
  simp only [State.giveBack] at hr
  repeat' split at hr
  all_goals (subst hr; (simp only [and_self, (fact @State.dropCopies_keep)]))

theorem State.beginSet_keep (s : State) (st : StandNo) (k : WpClass) (d : DomId) :
    (State.beginSet s st k d).pending = s.pending ∧ (State.beginSet s st k d).time = s.time ∧ (State.beginSet s st k d).dev = s.dev ∧ (State.beginSet s st k d).fuses = s.fuses ∧ (State.beginSet s st k d).params = s.params ∧ (State.beginSet s st k d).host = s.host ∧ (State.beginSet s st k d).nvm = s.nvm ∧ (State.beginSet s st k d).land = s.land ∧ (State.beginSet s st k d).map = s.map ∧ (State.beginSet s st k d).cache = s.cache ∧ (State.beginSet s st k d).plp = s.plp ∧ (State.beginSet s st k d).dram = s.dram ∧ (State.beginSet s st k d).pwr = s.pwr ∧ (State.beginSet s st k d).sec = s.sec ∧ (State.beginSet s st k d).mgmt = s.mgmt ∧ (State.beginSet s st k d).naile = s.naile ∧ (State.beginSet s st k d).nor = s.nor ∧ (State.beginSet s st k d).tally = s.tally ∧ (State.beginSet s st k d).bus = s.bus ∧ (State.beginSet s st k d).free = s.free := by
  generalize hr : State.beginSet s st k d = r
  simp only [State.beginSet] at hr
  repeat' split at hr
  all_goals (subst hr; (simp only [and_self, (fact @State.openRb_keep)]))

theorem State.askMember_keep (s : State) (n : Nat) (rb : Nat) (c : Nat) (pages : Nat) :
    (State.askMember s n rb c pages).pending = s.pending ∧ (State.askMember s n rb c pages).time = s.time ∧ (State.askMember s n rb c pages).dev = s.dev ∧ (State.askMember s n rb c pages).fuses = s.fuses ∧ (State.askMember s n rb c pages).params = s.params ∧ (State.askMember s n rb c pages).host = s.host ∧ (State.askMember s n rb c pages).nvm = s.nvm ∧ (State.askMember s n rb c pages).map = s.map ∧ (State.askMember s n rb c pages).media = s.media ∧ (State.askMember s n rb c pages).flash = s.flash ∧ (State.askMember s n rb c pages).cache = s.cache ∧ (State.askMember s n rb c pages).plp = s.plp ∧ (State.askMember s n rb c pages).dram = s.dram ∧ (State.askMember s n rb c pages).pwr = s.pwr ∧ (State.askMember s n rb c pages).sec = s.sec ∧ (State.askMember s n rb c pages).mgmt = s.mgmt ∧ (State.askMember s n rb c pages).naile = s.naile ∧ (State.askMember s n rb c pages).nor = s.nor ∧ (State.askMember s n rb c pages).tally = s.tally ∧ (State.askMember s n rb c pages).bus = s.bus ∧ (State.askMember s n rb c pages).free = s.free := by
  generalize hr : State.askMember s n rb c pages = r
  simp only [State.askMember] at hr
  repeat' split at hr
  all_goals (subst hr; (first | (simp only [and_self, (fact @State.askCords_keep)]; done) | (and_intros <;> (repeat' first | (simp only [and_self, (fact @State.askCords_keep)]; done) | (simp only [and_self, (fact @State.askCords_keep)]) | (split at hb) | (subst hb; simp only [and_self, (fact @State.askCords_keep)]) | (refine (foldl_pending (fun _ _ _ hb => ?_) _ _).trans ?_) | (refine (foldl_time (fun _ _ _ hb => ?_) _ _).trans ?_) | (refine (foldl_dev (fun _ _ _ hb => ?_) _ _).trans ?_) | (refine (foldl_fuses (fun _ _ _ hb => ?_) _ _).trans ?_) | (refine (foldl_params (fun _ _ _ hb => ?_) _ _).trans ?_) | (refine (foldl_host (fun _ _ _ hb => ?_) _ _).trans ?_) | (refine (foldl_nvm (fun _ _ _ hb => ?_) _ _).trans ?_) | (refine (foldl_map (fun _ _ _ hb => ?_) _ _).trans ?_) | (refine (foldl_media (fun _ _ _ hb => ?_) _ _).trans ?_) | (refine (foldl_flash (fun _ _ _ hb => ?_) _ _).trans ?_) | (refine (foldl_cache (fun _ _ _ hb => ?_) _ _).trans ?_) | (refine (foldl_plp (fun _ _ _ hb => ?_) _ _).trans ?_) | (refine (foldl_dram (fun _ _ _ hb => ?_) _ _).trans ?_) | (refine (foldl_pwr (fun _ _ _ hb => ?_) _ _).trans ?_) | (refine (foldl_sec (fun _ _ _ hb => ?_) _ _).trans ?_) | (refine (foldl_mgmt (fun _ _ _ hb => ?_) _ _).trans ?_) | (refine (foldl_naile (fun _ _ _ hb => ?_) _ _).trans ?_) | (refine (foldl_nor (fun _ _ _ hb => ?_) _ _).trans ?_) | (refine (foldl_tally (fun _ _ _ hb => ?_) _ _).trans ?_) | (refine (foldl_bus (fun _ _ _ hb => ?_) _ _).trans ?_) | (refine (foldl_free (fun _ _ _ hb => ?_) _ _).trans ?_) | split))))

theorem State.issueProgram_keep (s : State) (n : Nat) (w : WSet) (c : Nat) :
    (State.issueProgram s n w c).pending = s.pending ∧ (State.issueProgram s n w c).time = s.time ∧ (State.issueProgram s n w c).dev = s.dev ∧ (State.issueProgram s n w c).fuses = s.fuses ∧ (State.issueProgram s n w c).params = s.params ∧ (State.issueProgram s n w c).host = s.host ∧ (State.issueProgram s n w c).nvm = s.nvm ∧ (State.issueProgram s n w c).map = s.map ∧ (State.issueProgram s n w c).media = s.media ∧ (State.issueProgram s n w c).cache = s.cache ∧ (State.issueProgram s n w c).plp = s.plp ∧ (State.issueProgram s n w c).dram = s.dram ∧ (State.issueProgram s n w c).pwr = s.pwr ∧ (State.issueProgram s n w c).sec = s.sec ∧ (State.issueProgram s n w c).mgmt = s.mgmt ∧ (State.issueProgram s n w c).naile = s.naile ∧ (State.issueProgram s n w c).nor = s.nor ∧ (State.issueProgram s n w c).tally = s.tally ∧ (State.issueProgram s n w c).bus = s.bus ∧ (State.issueProgram s n w c).free = s.free := by
  generalize hr : State.issueProgram s n w c = r
  simp only [State.issueProgram] at hr
  repeat' split at hr
  all_goals (subst hr; (simp only [and_self, (fact @State.addOp_keep), (fact @State.askMember_keep)]))

theorem State.hotDebt_keep (s : State) (w : WSet) :
    (State.hotDebt s w).pending = s.pending ∧ (State.hotDebt s w).time = s.time ∧ (State.hotDebt s w).dev = s.dev ∧ (State.hotDebt s w).fuses = s.fuses ∧ (State.hotDebt s w).params = s.params ∧ (State.hotDebt s w).host = s.host ∧ (State.hotDebt s w).nvm = s.nvm ∧ (State.hotDebt s w).land = s.land ∧ (State.hotDebt s w).map = s.map ∧ (State.hotDebt s w).flash = s.flash ∧ (State.hotDebt s w).cache = s.cache ∧ (State.hotDebt s w).plp = s.plp ∧ (State.hotDebt s w).dram = s.dram ∧ (State.hotDebt s w).pwr = s.pwr ∧ (State.hotDebt s w).sec = s.sec ∧ (State.hotDebt s w).mgmt = s.mgmt ∧ (State.hotDebt s w).naile = s.naile ∧ (State.hotDebt s w).nor = s.nor ∧ (State.hotDebt s w).tally = s.tally ∧ (State.hotDebt s w).bus = s.bus ∧ (State.hotDebt s w).free = s.free := by
  generalize hr : State.hotDebt s w = r
  simp only [State.hotDebt] at hr
  repeat' split at hr
  all_goals (subst hr; (simp only [and_self, (fact @State.addDebt_keep)]))

theorem State.countShare_keep (s : State) (w : WSet) :
    (State.countShare s w).pending = s.pending ∧ (State.countShare s w).time = s.time ∧ (State.countShare s w).dev = s.dev ∧ (State.countShare s w).fuses = s.fuses ∧ (State.countShare s w).params = s.params ∧ (State.countShare s w).host = s.host ∧ (State.countShare s w).nvm = s.nvm ∧ (State.countShare s w).land = s.land ∧ (State.countShare s w).map = s.map ∧ (State.countShare s w).flash = s.flash ∧ (State.countShare s w).cache = s.cache ∧ (State.countShare s w).plp = s.plp ∧ (State.countShare s w).dram = s.dram ∧ (State.countShare s w).pwr = s.pwr ∧ (State.countShare s w).sec = s.sec ∧ (State.countShare s w).mgmt = s.mgmt ∧ (State.countShare s w).naile = s.naile ∧ (State.countShare s w).nor = s.nor ∧ (State.countShare s w).tally = s.tally ∧ (State.countShare s w).bus = s.bus ∧ (State.countShare s w).free = s.free := by
  generalize hr : State.countShare s w = r
  simp only [State.countShare] at hr
  repeat' split at hr
  all_goals (subst hr; (simp only [and_self]))

theorem State.startSet_keep (s : State) (n : Nat) :
    (State.startSet s n).pending = s.pending ∧ (State.startSet s n).time = s.time ∧ (State.startSet s n).dev = s.dev ∧ (State.startSet s n).fuses = s.fuses ∧ (State.startSet s n).params = s.params ∧ (State.startSet s n).host = s.host ∧ (State.startSet s n).nvm = s.nvm ∧ (State.startSet s n).map = s.map ∧ (State.startSet s n).cache = s.cache ∧ (State.startSet s n).plp = s.plp ∧ (State.startSet s n).dram = s.dram ∧ (State.startSet s n).pwr = s.pwr ∧ (State.startSet s n).sec = s.sec ∧ (State.startSet s n).mgmt = s.mgmt ∧ (State.startSet s n).naile = s.naile ∧ (State.startSet s n).nor = s.nor ∧ (State.startSet s n).tally = s.tally ∧ (State.startSet s n).bus = s.bus ∧ (State.startSet s n).free = s.free := by
  generalize hr : State.startSet s n = r
  simp only [State.startSet] at hr
  repeat' split at hr
  all_goals (subst hr; (first | (simp only [and_self, (fact @State.countShare_keep), (fact @State.hotDebt_keep), (fact @State.issueProgram_keep)]; done) | (and_intros <;> (repeat' first | (simp only [and_self, (fact @State.countShare_keep), (fact @State.hotDebt_keep), (fact @State.issueProgram_keep)]; done) | (simp only [and_self, (fact @State.countShare_keep), (fact @State.hotDebt_keep), (fact @State.issueProgram_keep)]) | (split at hb) | (subst hb; simp only [and_self, (fact @State.countShare_keep), (fact @State.hotDebt_keep), (fact @State.issueProgram_keep)]) | (refine (foldl_pending (fun _ _ _ hb => ?_) _ _).trans ?_) | (refine (foldl_time (fun _ _ _ hb => ?_) _ _).trans ?_) | (refine (foldl_dev (fun _ _ _ hb => ?_) _ _).trans ?_) | (refine (foldl_fuses (fun _ _ _ hb => ?_) _ _).trans ?_) | (refine (foldl_params (fun _ _ _ hb => ?_) _ _).trans ?_) | (refine (foldl_host (fun _ _ _ hb => ?_) _ _).trans ?_) | (refine (foldl_nvm (fun _ _ _ hb => ?_) _ _).trans ?_) | (refine (foldl_map (fun _ _ _ hb => ?_) _ _).trans ?_) | (refine (foldl_cache (fun _ _ _ hb => ?_) _ _).trans ?_) | (refine (foldl_plp (fun _ _ _ hb => ?_) _ _).trans ?_) | (refine (foldl_dram (fun _ _ _ hb => ?_) _ _).trans ?_) | (refine (foldl_pwr (fun _ _ _ hb => ?_) _ _).trans ?_) | (refine (foldl_sec (fun _ _ _ hb => ?_) _ _).trans ?_) | (refine (foldl_mgmt (fun _ _ _ hb => ?_) _ _).trans ?_) | (refine (foldl_naile (fun _ _ _ hb => ?_) _ _).trans ?_) | (refine (foldl_nor (fun _ _ _ hb => ?_) _ _).trans ?_) | (refine (foldl_tally (fun _ _ _ hb => ?_) _ _).trans ?_) | (refine (foldl_bus (fun _ _ _ hb => ?_) _ _).trans ?_) | (refine (foldl_free (fun _ _ _ hb => ?_) _ _).trans ?_) | split))))

theorem State.startIfReady_keep (s : State) (n : Nat) :
    (State.startIfReady s n).pending = s.pending ∧ (State.startIfReady s n).time = s.time ∧ (State.startIfReady s n).dev = s.dev ∧ (State.startIfReady s n).fuses = s.fuses ∧ (State.startIfReady s n).params = s.params ∧ (State.startIfReady s n).host = s.host ∧ (State.startIfReady s n).nvm = s.nvm ∧ (State.startIfReady s n).map = s.map ∧ (State.startIfReady s n).cache = s.cache ∧ (State.startIfReady s n).plp = s.plp ∧ (State.startIfReady s n).dram = s.dram ∧ (State.startIfReady s n).pwr = s.pwr ∧ (State.startIfReady s n).sec = s.sec ∧ (State.startIfReady s n).mgmt = s.mgmt ∧ (State.startIfReady s n).naile = s.naile ∧ (State.startIfReady s n).nor = s.nor ∧ (State.startIfReady s n).tally = s.tally ∧ (State.startIfReady s n).bus = s.bus ∧ (State.startIfReady s n).free = s.free := by
  generalize hr : State.startIfReady s n = r
  simp only [State.startIfReady] at hr
  repeat' split at hr
  all_goals (subst hr; (simp only [and_self, (fact @State.startSet_keep)]))

theorem State.startWaiting_keep (s : State) (g : Grove) :
    (State.startWaiting s g).pending = s.pending ∧ (State.startWaiting s g).time = s.time ∧ (State.startWaiting s g).dev = s.dev ∧ (State.startWaiting s g).fuses = s.fuses ∧ (State.startWaiting s g).params = s.params ∧ (State.startWaiting s g).host = s.host ∧ (State.startWaiting s g).nvm = s.nvm ∧ (State.startWaiting s g).map = s.map ∧ (State.startWaiting s g).cache = s.cache ∧ (State.startWaiting s g).plp = s.plp ∧ (State.startWaiting s g).dram = s.dram ∧ (State.startWaiting s g).pwr = s.pwr ∧ (State.startWaiting s g).sec = s.sec ∧ (State.startWaiting s g).mgmt = s.mgmt ∧ (State.startWaiting s g).naile = s.naile ∧ (State.startWaiting s g).nor = s.nor ∧ (State.startWaiting s g).tally = s.tally ∧ (State.startWaiting s g).bus = s.bus ∧ (State.startWaiting s g).free = s.free := by
  generalize hr : State.startWaiting s g = r
  simp only [State.startWaiting] at hr
  repeat' split at hr
  all_goals (subst hr; (first | (simp only [and_self, (fact @State.startIfReady_keep)]; done) | (and_intros <;> (repeat' first | (simp only [and_self, (fact @State.startIfReady_keep)]; done) | (simp only [and_self, (fact @State.startIfReady_keep)]) | (split at hb) | (subst hb; simp only [and_self, (fact @State.startIfReady_keep)]) | (refine (foldl_pending (fun _ _ _ hb => ?_) _ _).trans ?_) | (refine (foldl_time (fun _ _ _ hb => ?_) _ _).trans ?_) | (refine (foldl_dev (fun _ _ _ hb => ?_) _ _).trans ?_) | (refine (foldl_fuses (fun _ _ _ hb => ?_) _ _).trans ?_) | (refine (foldl_params (fun _ _ _ hb => ?_) _ _).trans ?_) | (refine (foldl_host (fun _ _ _ hb => ?_) _ _).trans ?_) | (refine (foldl_nvm (fun _ _ _ hb => ?_) _ _).trans ?_) | (refine (foldl_map (fun _ _ _ hb => ?_) _ _).trans ?_) | (refine (foldl_cache (fun _ _ _ hb => ?_) _ _).trans ?_) | (refine (foldl_plp (fun _ _ _ hb => ?_) _ _).trans ?_) | (refine (foldl_dram (fun _ _ _ hb => ?_) _ _).trans ?_) | (refine (foldl_pwr (fun _ _ _ hb => ?_) _ _).trans ?_) | (refine (foldl_sec (fun _ _ _ hb => ?_) _ _).trans ?_) | (refine (foldl_mgmt (fun _ _ _ hb => ?_) _ _).trans ?_) | (refine (foldl_naile (fun _ _ _ hb => ?_) _ _).trans ?_) | (refine (foldl_nor (fun _ _ _ hb => ?_) _ _).trans ?_) | (refine (foldl_tally (fun _ _ _ hb => ?_) _ _).trans ?_) | (refine (foldl_bus (fun _ _ _ hb => ?_) _ _).trans ?_) | (refine (foldl_free (fun _ _ _ hb => ?_) _ _).trans ?_) | split))))

theorem State.placeOnce_keep (s : State) (st : StandNo) (k : WpClass) (d : DomId) :
    (State.placeOnce s st k d).pending = s.pending ∧ (State.placeOnce s st k d).time = s.time ∧ (State.placeOnce s st k d).dev = s.dev ∧ (State.placeOnce s st k d).fuses = s.fuses ∧ (State.placeOnce s st k d).params = s.params ∧ (State.placeOnce s st k d).host = s.host ∧ (State.placeOnce s st k d).nvm = s.nvm ∧ (State.placeOnce s st k d).map = s.map ∧ (State.placeOnce s st k d).plp = s.plp ∧ (State.placeOnce s st k d).dram = s.dram ∧ (State.placeOnce s st k d).pwr = s.pwr ∧ (State.placeOnce s st k d).sec = s.sec ∧ (State.placeOnce s st k d).mgmt = s.mgmt ∧ (State.placeOnce s st k d).naile = s.naile ∧ (State.placeOnce s st k d).nor = s.nor ∧ (State.placeOnce s st k d).tally = s.tally ∧ (State.placeOnce s st k d).bus = s.bus ∧ (State.placeOnce s st k d).free = s.free := by
  generalize hr : State.placeOnce s st k d = r
  simp only [State.placeOnce] at hr
  repeat' split at hr
  all_goals (subst hr; (simp only [and_self, (fact @State.beginSet_keep), (fact @State.startIfReady_keep)]))

theorem State.forceRounds_keep (st : StandNo) (k : WpClass) (d : DomId) (cov : Dword → Bool) (n : Nat) (s : State) :
    (State.forceRounds st k d cov n s).pending = s.pending ∧ (State.forceRounds st k d cov n s).time = s.time ∧ (State.forceRounds st k d cov n s).dev = s.dev ∧ (State.forceRounds st k d cov n s).fuses = s.fuses ∧ (State.forceRounds st k d cov n s).params = s.params ∧ (State.forceRounds st k d cov n s).host = s.host ∧ (State.forceRounds st k d cov n s).nvm = s.nvm ∧ (State.forceRounds st k d cov n s).map = s.map ∧ (State.forceRounds st k d cov n s).plp = s.plp ∧ (State.forceRounds st k d cov n s).dram = s.dram ∧ (State.forceRounds st k d cov n s).pwr = s.pwr ∧ (State.forceRounds st k d cov n s).sec = s.sec ∧ (State.forceRounds st k d cov n s).mgmt = s.mgmt ∧ (State.forceRounds st k d cov n s).naile = s.naile ∧ (State.forceRounds st k d cov n s).nor = s.nor ∧ (State.forceRounds st k d cov n s).tally = s.tally ∧ (State.forceRounds st k d cov n s).bus = s.bus ∧ (State.forceRounds st k d cov n s).free = s.free := by
  induction n generalizing s with
  | zero => (and_intros <;> rfl)
  | succ n ih =>
    generalize hr : State.forceRounds st k d cov (n + 1) s = r
    unfold State.forceRounds at hr
    split at hr
    · subst hr; (and_intros <;> rfl)
    · extract_lets s1 s2 at hr
      have h1 : s1.pending = s.pending ∧ s1.time = s.time ∧ s1.dev = s.dev ∧ s1.fuses = s.fuses ∧ s1.params = s.params ∧ s1.host = s.host ∧ s1.nvm = s.nvm ∧ s1.map = s.map ∧ s1.plp = s.plp ∧ s1.dram = s.dram ∧ s1.pwr = s.pwr ∧ s1.sec = s.sec ∧ s1.mgmt = s.mgmt ∧ s1.naile = s.naile ∧ s1.nor = s.nor ∧ s1.tally = s.tally ∧ s1.bus = s.bus ∧ s1.free = s.free := by simp only [s1, (fact @State.placeOnce_keep), and_self]
      have h2 : s2.pending = s1.pending ∧ s2.time = s1.time ∧ s2.dev = s1.dev ∧ s2.fuses = s1.fuses ∧ s2.params = s1.params ∧ s2.host = s1.host ∧ s2.nvm = s1.nvm ∧ s2.map = s1.map ∧ s2.plp = s1.plp ∧ s2.dram = s1.dram ∧ s2.pwr = s1.pwr ∧ s2.sec = s1.sec ∧ s2.mgmt = s1.mgmt ∧ s2.naile = s1.naile ∧ s2.nor = s1.nor ∧ s2.tally = s1.tally ∧ s2.bus = s1.bus ∧ s2.free = s1.free := by
        simp only [s2]
        split <;> first | (and_intros <;> rfl) | simp only [(fact @State.startSet_keep), and_self]
      clear_value s1 s2
      split at hr
      all_goals (subst hr; simp only [ih, h2, h1, and_self])


theorem State.placeIn_keep (s : State) (st : StandNo) (k : WpClass) (d : DomId) : (s.placeIn st k d).pending = s.pending ∧ (s.placeIn st k d).time = s.time ∧ (s.placeIn st k d).dev = s.dev ∧ (s.placeIn st k d).fuses = s.fuses ∧ (s.placeIn st k d).params = s.params ∧ (s.placeIn st k d).host = s.host ∧ (s.placeIn st k d).nvm = s.nvm ∧ (s.placeIn st k d).map = s.map ∧ (s.placeIn st k d).plp = s.plp ∧ (s.placeIn st k d).dram = s.dram ∧ (s.placeIn st k d).pwr = s.pwr ∧ (s.placeIn st k d).sec = s.sec ∧ (s.placeIn st k d).mgmt = s.mgmt ∧ (s.placeIn st k d).naile = s.naile ∧ (s.placeIn st k d).nor = s.nor ∧ (s.placeIn st k d).tally = s.tally ∧ (s.placeIn st k d).bus = s.bus ∧ (s.placeIn st k d).free = s.free := by
  generalize hr : s.placeIn st k d = r
  unfold State.placeIn at hr
  have h1 := State.placeOnce_keep s st k d
  generalize s.placeOnce st k d = s1 at h1 hr
  dsimp only at hr
  split at hr
  all_goals (subst hr; simp only [(fact @State.forceRounds_keep), h1, and_self])


theorem State.forceSet_keep (s : State) (n : Nat) (cov : Dword → Bool) : (s.forceSet n cov).pending = s.pending ∧ (s.forceSet n cov).time = s.time ∧ (s.forceSet n cov).dev = s.dev ∧ (s.forceSet n cov).fuses = s.fuses ∧ (s.forceSet n cov).params = s.params ∧ (s.forceSet n cov).host = s.host ∧ (s.forceSet n cov).nvm = s.nvm ∧ (s.forceSet n cov).map = s.map ∧ (s.forceSet n cov).plp = s.plp ∧ (s.forceSet n cov).dram = s.dram ∧ (s.forceSet n cov).pwr = s.pwr ∧ (s.forceSet n cov).sec = s.sec ∧ (s.forceSet n cov).mgmt = s.mgmt ∧ (s.forceSet n cov).naile = s.naile ∧ (s.forceSet n cov).nor = s.nor ∧ (s.forceSet n cov).tally = s.tally ∧ (s.forceSet n cov).bus = s.bus ∧ (s.forceSet n cov).free = s.free := by
  generalize hr : s.forceSet n cov = r
  rw [State.forceSet] at hr
  split at hr
  · subst hr; (and_intros <;> rfl)
  · dsimp only at hr
    split at hr
    all_goals (subst hr; simp only [(fact @State.forceRounds_keep), (fact @State.startSet_keep), (fact @State.placeIn_keep), and_self])


theorem State.forceSets_keep (s : State) (p : WSet → Bool) (cov : Dword → Bool) :
    (State.forceSets s p cov).pending = s.pending ∧ (State.forceSets s p cov).time = s.time ∧ (State.forceSets s p cov).dev = s.dev ∧ (State.forceSets s p cov).fuses = s.fuses ∧ (State.forceSets s p cov).params = s.params ∧ (State.forceSets s p cov).host = s.host ∧ (State.forceSets s p cov).nvm = s.nvm ∧ (State.forceSets s p cov).map = s.map ∧ (State.forceSets s p cov).plp = s.plp ∧ (State.forceSets s p cov).dram = s.dram ∧ (State.forceSets s p cov).pwr = s.pwr ∧ (State.forceSets s p cov).sec = s.sec ∧ (State.forceSets s p cov).mgmt = s.mgmt ∧ (State.forceSets s p cov).naile = s.naile ∧ (State.forceSets s p cov).nor = s.nor ∧ (State.forceSets s p cov).tally = s.tally ∧ (State.forceSets s p cov).bus = s.bus ∧ (State.forceSets s p cov).free = s.free := by
  generalize hr : State.forceSets s p cov = r
  simp only [State.forceSets] at hr
  repeat' split at hr
  all_goals (subst hr; (first | (simp only [and_self, (fact @State.forceSet_keep)]; done) | (and_intros <;> (repeat' first | (simp only [and_self, (fact @State.forceSet_keep)]; done) | (simp only [and_self, (fact @State.forceSet_keep)]) | (split at hb) | (subst hb; simp only [and_self, (fact @State.forceSet_keep)]) | (refine (foldl_pending (fun _ _ _ hb => ?_) _ _).trans ?_) | (refine (foldl_time (fun _ _ _ hb => ?_) _ _).trans ?_) | (refine (foldl_dev (fun _ _ _ hb => ?_) _ _).trans ?_) | (refine (foldl_fuses (fun _ _ _ hb => ?_) _ _).trans ?_) | (refine (foldl_params (fun _ _ _ hb => ?_) _ _).trans ?_) | (refine (foldl_host (fun _ _ _ hb => ?_) _ _).trans ?_) | (refine (foldl_nvm (fun _ _ _ hb => ?_) _ _).trans ?_) | (refine (foldl_map (fun _ _ _ hb => ?_) _ _).trans ?_) | (refine (foldl_plp (fun _ _ _ hb => ?_) _ _).trans ?_) | (refine (foldl_dram (fun _ _ _ hb => ?_) _ _).trans ?_) | (refine (foldl_pwr (fun _ _ _ hb => ?_) _ _).trans ?_) | (refine (foldl_sec (fun _ _ _ hb => ?_) _ _).trans ?_) | (refine (foldl_mgmt (fun _ _ _ hb => ?_) _ _).trans ?_) | (refine (foldl_naile (fun _ _ _ hb => ?_) _ _).trans ?_) | (refine (foldl_nor (fun _ _ _ hb => ?_) _ _).trans ?_) | (refine (foldl_tally (fun _ _ _ hb => ?_) _ _).trans ?_) | (refine (foldl_bus (fun _ _ _ hb => ?_) _ _).trans ?_) | (refine (foldl_free (fun _ _ _ hb => ?_) _ _).trans ?_) | split))))

theorem State.abandonSet_keep (s : State) (n : Nat) :
    (State.abandonSet s n).pending = s.pending ∧ (State.abandonSet s n).time = s.time ∧ (State.abandonSet s n).dev = s.dev ∧ (State.abandonSet s n).fuses = s.fuses ∧ (State.abandonSet s n).params = s.params ∧ (State.abandonSet s n).host = s.host ∧ (State.abandonSet s n).nvm = s.nvm ∧ (State.abandonSet s n).plp = s.plp ∧ (State.abandonSet s n).dram = s.dram ∧ (State.abandonSet s n).pwr = s.pwr ∧ (State.abandonSet s n).sec = s.sec ∧ (State.abandonSet s n).mgmt = s.mgmt ∧ (State.abandonSet s n).naile = s.naile ∧ (State.abandonSet s n).nor = s.nor ∧ (State.abandonSet s n).bus = s.bus ∧ (State.abandonSet s n).free = s.free := by
  generalize hr : State.abandonSet s n = r
  simp only [State.abandonSet] at hr
  repeat' split at hr
  all_goals (subst hr; (first | (simp only [and_self, (fact @State.dropOp_keep), (fact @State.freeCords_keep), (fact @State.giveBack_keep)]; done) | (and_intros <;> (repeat' first | (simp only [and_self, (fact @State.dropOp_keep), (fact @State.freeCords_keep), (fact @State.giveBack_keep)]; done) | (simp only [and_self, (fact @State.dropOp_keep), (fact @State.freeCords_keep), (fact @State.giveBack_keep)]) | (split at hb) | (subst hb; simp only [and_self, (fact @State.dropOp_keep), (fact @State.freeCords_keep), (fact @State.giveBack_keep)]) | (refine (foldl_pending (fun _ _ _ hb => ?_) _ _).trans ?_) | (refine (foldl_time (fun _ _ _ hb => ?_) _ _).trans ?_) | (refine (foldl_dev (fun _ _ _ hb => ?_) _ _).trans ?_) | (refine (foldl_fuses (fun _ _ _ hb => ?_) _ _).trans ?_) | (refine (foldl_params (fun _ _ _ hb => ?_) _ _).trans ?_) | (refine (foldl_host (fun _ _ _ hb => ?_) _ _).trans ?_) | (refine (foldl_nvm (fun _ _ _ hb => ?_) _ _).trans ?_) | (refine (foldl_plp (fun _ _ _ hb => ?_) _ _).trans ?_) | (refine (foldl_dram (fun _ _ _ hb => ?_) _ _).trans ?_) | (refine (foldl_pwr (fun _ _ _ hb => ?_) _ _).trans ?_) | (refine (foldl_sec (fun _ _ _ hb => ?_) _ _).trans ?_) | (refine (foldl_mgmt (fun _ _ _ hb => ?_) _ _).trans ?_) | (refine (foldl_naile (fun _ _ _ hb => ?_) _ _).trans ?_) | (refine (foldl_nor (fun _ _ _ hb => ?_) _ _).trans ?_) | (refine (foldl_bus (fun _ _ _ hb => ?_) _ _).trans ?_) | (refine (foldl_free (fun _ _ _ hb => ?_) _ _).trans ?_) | split))))

theorem State.closeRow_keep (s : State) (rb : Nat) :
    (State.closeRow s rb).pending = s.pending ∧ (State.closeRow s rb).time = s.time ∧ (State.closeRow s rb).dev = s.dev ∧ (State.closeRow s rb).fuses = s.fuses ∧ (State.closeRow s rb).params = s.params ∧ (State.closeRow s rb).host = s.host ∧ (State.closeRow s rb).nvm = s.nvm ∧ (State.closeRow s rb).plp = s.plp ∧ (State.closeRow s rb).dram = s.dram ∧ (State.closeRow s rb).pwr = s.pwr ∧ (State.closeRow s rb).sec = s.sec ∧ (State.closeRow s rb).mgmt = s.mgmt ∧ (State.closeRow s rb).naile = s.naile ∧ (State.closeRow s rb).nor = s.nor ∧ (State.closeRow s rb).bus = s.bus ∧ (State.closeRow s rb).free = s.free := by
  generalize hr : State.closeRow s rb = r
  simp only [State.closeRow] at hr
  repeat' split at hr
  all_goals (subst hr; (first | (simp only [and_self, (fact @State.abandonSet_keep), (fact @State.closeRb_keep)]; done) | (and_intros <;> (repeat' first | (simp only [and_self, (fact @State.abandonSet_keep), (fact @State.closeRb_keep)]; done) | (simp only [and_self, (fact @State.abandonSet_keep), (fact @State.closeRb_keep)]) | (split at hb) | (subst hb; simp only [and_self, (fact @State.abandonSet_keep), (fact @State.closeRb_keep)]) | (refine (foldl_pending (fun _ _ _ hb => ?_) _ _).trans ?_) | (refine (foldl_time (fun _ _ _ hb => ?_) _ _).trans ?_) | (refine (foldl_dev (fun _ _ _ hb => ?_) _ _).trans ?_) | (refine (foldl_fuses (fun _ _ _ hb => ?_) _ _).trans ?_) | (refine (foldl_params (fun _ _ _ hb => ?_) _ _).trans ?_) | (refine (foldl_host (fun _ _ _ hb => ?_) _ _).trans ?_) | (refine (foldl_nvm (fun _ _ _ hb => ?_) _ _).trans ?_) | (refine (foldl_plp (fun _ _ _ hb => ?_) _ _).trans ?_) | (refine (foldl_dram (fun _ _ _ hb => ?_) _ _).trans ?_) | (refine (foldl_pwr (fun _ _ _ hb => ?_) _ _).trans ?_) | (refine (foldl_sec (fun _ _ _ hb => ?_) _ _).trans ?_) | (refine (foldl_mgmt (fun _ _ _ hb => ?_) _ _).trans ?_) | (refine (foldl_naile (fun _ _ _ hb => ?_) _ _).trans ?_) | (refine (foldl_nor (fun _ _ _ hb => ?_) _ _).trans ?_) | (refine (foldl_bus (fun _ _ _ hb => ?_) _ _).trans ?_) | (refine (foldl_free (fun _ _ _ hb => ?_) _ _).trans ?_) | split))))

theorem State.failSet_keep (s : State) (n : Nat) :
    (State.failSet s n).pending = s.pending ∧ (State.failSet s n).time = s.time ∧ (State.failSet s n).dev = s.dev ∧ (State.failSet s n).fuses = s.fuses ∧ (State.failSet s n).params = s.params ∧ (State.failSet s n).host = s.host ∧ (State.failSet s n).nvm = s.nvm ∧ (State.failSet s n).plp = s.plp ∧ (State.failSet s n).dram = s.dram ∧ (State.failSet s n).pwr = s.pwr ∧ (State.failSet s n).sec = s.sec ∧ (State.failSet s n).mgmt = s.mgmt ∧ (State.failSet s n).naile = s.naile ∧ (State.failSet s n).nor = s.nor ∧ (State.failSet s n).bus = s.bus ∧ (State.failSet s n).free = s.free := by
  generalize hr : State.failSet s n = r
  simp only [State.failSet] at hr
  repeat' split at hr
  all_goals (subst hr; (simp only [and_self, (fact @State.abandonSet_keep), (fact @State.closeRow_keep), (fact @State.startWaiting_keep)]))

theorem State.spillCheck_keep (s : State) (g : Grove) :
    (State.spillCheck s g).pending = s.pending ∧ (State.spillCheck s g).time = s.time ∧ (State.spillCheck s g).dev = s.dev ∧ (State.spillCheck s g).fuses = s.fuses ∧ (State.spillCheck s g).params = s.params ∧ (State.spillCheck s g).host = s.host ∧ (State.spillCheck s g).nvm = s.nvm ∧ (State.spillCheck s g).land = s.land ∧ (State.spillCheck s g).media = s.media ∧ (State.spillCheck s g).flash = s.flash ∧ (State.spillCheck s g).cache = s.cache ∧ (State.spillCheck s g).plp = s.plp ∧ (State.spillCheck s g).dram = s.dram ∧ (State.spillCheck s g).pwr = s.pwr ∧ (State.spillCheck s g).sec = s.sec ∧ (State.spillCheck s g).mgmt = s.mgmt ∧ (State.spillCheck s g).naile = s.naile ∧ (State.spillCheck s g).nor = s.nor ∧ (State.spillCheck s g).tally = s.tally ∧ (State.spillCheck s g).bus = s.bus ∧ (State.spillCheck s g).free = s.free := by
  generalize hr : State.spillCheck s g = r
  simp only [State.spillCheck] at hr
  repeat' split at hr
  all_goals (subst hr; (simp only [and_self]))

theorem State.wearCheck_keep (s : State) (g : Grove) :
    (State.wearCheck s g).pending = s.pending ∧ (State.wearCheck s g).time = s.time ∧ (State.wearCheck s g).dev = s.dev ∧ (State.wearCheck s g).fuses = s.fuses ∧ (State.wearCheck s g).params = s.params ∧ (State.wearCheck s g).host = s.host ∧ (State.wearCheck s g).nvm = s.nvm ∧ (State.wearCheck s g).land = s.land ∧ (State.wearCheck s g).cache = s.cache ∧ (State.wearCheck s g).plp = s.plp ∧ (State.wearCheck s g).dram = s.dram ∧ (State.wearCheck s g).pwr = s.pwr ∧ (State.wearCheck s g).sec = s.sec ∧ (State.wearCheck s g).mgmt = s.mgmt ∧ (State.wearCheck s g).naile = s.naile ∧ (State.wearCheck s g).nor = s.nor ∧ (State.wearCheck s g).tally = s.tally ∧ (State.wearCheck s g).bus = s.bus ∧ (State.wearCheck s g).free = s.free := by
  generalize hr : State.wearCheck s g = r
  simp only [State.wearCheck] at hr
  repeat' split at hr
  all_goals (subst hr; (first | (simp only [and_self]; done) | (and_intros <;> (repeat' first | (simp only [and_self]; done) | (simp only [and_self]) | (split at hb) | (subst hb; simp only [and_self]) | (refine (foldl_pending (fun _ _ _ hb => ?_) _ _).trans ?_) | (refine (foldl_time (fun _ _ _ hb => ?_) _ _).trans ?_) | (refine (foldl_dev (fun _ _ _ hb => ?_) _ _).trans ?_) | (refine (foldl_fuses (fun _ _ _ hb => ?_) _ _).trans ?_) | (refine (foldl_params (fun _ _ _ hb => ?_) _ _).trans ?_) | (refine (foldl_host (fun _ _ _ hb => ?_) _ _).trans ?_) | (refine (foldl_nvm (fun _ _ _ hb => ?_) _ _).trans ?_) | (refine (foldl_land (fun _ _ _ hb => ?_) _ _).trans ?_) | (refine (foldl_cache (fun _ _ _ hb => ?_) _ _).trans ?_) | (refine (foldl_plp (fun _ _ _ hb => ?_) _ _).trans ?_) | (refine (foldl_dram (fun _ _ _ hb => ?_) _ _).trans ?_) | (refine (foldl_pwr (fun _ _ _ hb => ?_) _ _).trans ?_) | (refine (foldl_sec (fun _ _ _ hb => ?_) _ _).trans ?_) | (refine (foldl_mgmt (fun _ _ _ hb => ?_) _ _).trans ?_) | (refine (foldl_naile (fun _ _ _ hb => ?_) _ _).trans ?_) | (refine (foldl_nor (fun _ _ _ hb => ?_) _ _).trans ?_) | (refine (foldl_tally (fun _ _ _ hb => ?_) _ _).trans ?_) | (refine (foldl_bus (fun _ _ _ hb => ?_) _ _).trans ?_) | (refine (foldl_free (fun _ _ _ hb => ?_) _ _).trans ?_) | split))))

theorem State.completeSet_keep (s : State) (n : Nat) : (s.completeSet n).pending = s.pending ∧ (s.completeSet n).time = s.time ∧ (s.completeSet n).dev = s.dev ∧ (s.completeSet n).fuses = s.fuses ∧ (s.completeSet n).params = s.params ∧ (s.completeSet n).host = s.host ∧ (s.completeSet n).nvm = s.nvm ∧ (s.completeSet n).plp = s.plp ∧ (s.completeSet n).dram = s.dram ∧ (s.completeSet n).pwr = s.pwr ∧ (s.completeSet n).sec = s.sec ∧ (s.completeSet n).mgmt = s.mgmt ∧ (s.completeSet n).naile = s.naile ∧ (s.completeSet n).nor = s.nor ∧ (s.completeSet n).bus = s.bus ∧ (s.completeSet n).free = s.free := by
  generalize hr : s.completeSet n = r
  unfold State.completeSet at hr
  split at hr
  · subst hr; (and_intros <;> rfl)
  next w _ =>
    extract_lets content named gs x1 media x2 s1 s2 s3 at hr
    have h1 : s1.pending = s.pending ∧ s1.time = s.time ∧ s1.dev = s.dev ∧ s1.fuses = s.fuses ∧ s1.params = s.params ∧ s1.host = s.host ∧ s1.nvm = s.nvm ∧ s1.plp = s.plp ∧ s1.dram = s.dram ∧ s1.pwr = s.pwr ∧ s1.sec = s.sec ∧ s1.mgmt = s.mgmt ∧ s1.naile = s.naile ∧ s1.nor = s.nor ∧ s1.bus = s.bus ∧ s1.free = s.free := by
      simp only [s1, (fact @State.freeCords_keep), and_self]
    have h2 : s2.pending = s1.pending ∧ s2.time = s1.time ∧ s2.dev = s1.dev ∧ s2.fuses = s1.fuses ∧ s2.params = s1.params ∧ s2.host = s1.host ∧ s2.nvm = s1.nvm ∧ s2.plp = s1.plp ∧ s2.dram = s1.dram ∧ s2.pwr = s1.pwr ∧ s2.sec = s1.sec ∧ s2.mgmt = s1.mgmt ∧ s2.naile = s1.naile ∧ s2.nor = s1.nor ∧ s2.bus = s1.bus ∧ s2.free = s1.free :=
      kfold_2 (fun a g b hb => by subst hb; simp only [(fact @State.queueGroup_keep), and_self]) _ _
    have h3 : s3.pending = s2.pending ∧ s3.time = s2.time ∧ s3.dev = s2.dev ∧ s3.fuses = s2.fuses ∧ s3.params = s2.params ∧ s3.host = s2.host ∧ s3.nvm = s2.nvm ∧ s3.plp = s2.plp ∧ s3.dram = s2.dram ∧ s3.pwr = s2.pwr ∧ s3.sec = s2.sec ∧ s3.mgmt = s2.mgmt ∧ s3.naile = s2.naile ∧ s3.nor = s2.nor ∧ s3.bus = s2.bus ∧ s3.free = s2.free := by
      simp only [s3]
      split <;> simp only [(fact @State.closeRow_keep), and_self]
    clear_value s1 s2 s3
    split at hr
    · subst hr
      refine ktrans_2 (kfold_2 (fun a g b hb => by subst hb; simp only [(fact @State.spillCheck_keep), (fact @State.wearCheck_keep), and_self]) _ _) (ktrans_2 h3 (ktrans_2 h2 h1))
    · subst hr; exact ktrans_2 h3 (ktrans_2 h2 h1)


theorem takeLook_keep (tag slba : Nat) (a : State × List (Ploc × Nat)) (r : Nat × Resolved) : (takeLook tag slba a r).1.pending = a.1.pending ∧ (takeLook tag slba a r).1.time = a.1.time ∧ (takeLook tag slba a r).1.dev = a.1.dev ∧ (takeLook tag slba a r).1.fuses = a.1.fuses ∧ (takeLook tag slba a r).1.params = a.1.params ∧ (takeLook tag slba a r).1.nvm = a.1.nvm ∧ (takeLook tag slba a r).1.land = a.1.land ∧ (takeLook tag slba a r).1.map = a.1.map ∧ (takeLook tag slba a r).1.media = a.1.media ∧ (takeLook tag slba a r).1.flash = a.1.flash ∧ (takeLook tag slba a r).1.cache = a.1.cache ∧ (takeLook tag slba a r).1.plp = a.1.plp ∧ (takeLook tag slba a r).1.dram = a.1.dram ∧ (takeLook tag slba a r).1.pwr = a.1.pwr ∧ (takeLook tag slba a r).1.sec = a.1.sec ∧ (takeLook tag slba a r).1.mgmt = a.1.mgmt ∧ (takeLook tag slba a r).1.naile = a.1.naile ∧ (takeLook tag slba a r).1.nor = a.1.nor ∧ (takeLook tag slba a r).1.bus = a.1.bus ∧ (takeLook tag slba a r).1.free = a.1.free := by
  generalize hr : takeLook tag slba a r = q
  simp only [takeLook] at hr
  repeat' split at hr
  all_goals (subst hr; simp only [(fact @State.modTag_keep), (fact @State.badPloc_keep), and_self])


theorem unitStep_keep (tag nsid slba : Nat) (n : NsS) (t : TagE) (a : State × List (Ploc × Nat)) (ls : List Nat) : (unitStep tag nsid slba n t a ls).1.pending = a.1.pending ∧ (unitStep tag nsid slba n t a ls).1.time = a.1.time ∧ (unitStep tag nsid slba n t a ls).1.dev = a.1.dev ∧ (unitStep tag nsid slba n t a ls).1.fuses = a.1.fuses ∧ (unitStep tag nsid slba n t a ls).1.params = a.1.params ∧ (unitStep tag nsid slba n t a ls).1.nvm = a.1.nvm ∧ (unitStep tag nsid slba n t a ls).1.land = a.1.land ∧ (unitStep tag nsid slba n t a ls).1.media = a.1.media ∧ (unitStep tag nsid slba n t a ls).1.flash = a.1.flash ∧ (unitStep tag nsid slba n t a ls).1.cache = a.1.cache ∧ (unitStep tag nsid slba n t a ls).1.plp = a.1.plp ∧ (unitStep tag nsid slba n t a ls).1.dram = a.1.dram ∧ (unitStep tag nsid slba n t a ls).1.pwr = a.1.pwr ∧ (unitStep tag nsid slba n t a ls).1.sec = a.1.sec ∧ (unitStep tag nsid slba n t a ls).1.mgmt = a.1.mgmt ∧ (unitStep tag nsid slba n t a ls).1.naile = a.1.naile ∧ (unitStep tag nsid slba n t a ls).1.nor = a.1.nor ∧ (unitStep tag nsid slba n t a ls).1.bus = a.1.bus ∧ (unitStep tag nsid slba n t a ls).1.free = a.1.free := by
  have h : ∀ (l : List (Nat × Resolved)) (b : State × List (Ploc × Nat)), (l.foldl (takeLook tag slba) b).1.pending = b.1.pending ∧ (l.foldl (takeLook tag slba) b).1.time = b.1.time ∧ (l.foldl (takeLook tag slba) b).1.dev = b.1.dev ∧ (l.foldl (takeLook tag slba) b).1.fuses = b.1.fuses ∧ (l.foldl (takeLook tag slba) b).1.params = b.1.params ∧ (l.foldl (takeLook tag slba) b).1.nvm = b.1.nvm ∧ (l.foldl (takeLook tag slba) b).1.land = b.1.land ∧ (l.foldl (takeLook tag slba) b).1.media = b.1.media ∧ (l.foldl (takeLook tag slba) b).1.flash = b.1.flash ∧ (l.foldl (takeLook tag slba) b).1.cache = b.1.cache ∧ (l.foldl (takeLook tag slba) b).1.plp = b.1.plp ∧ (l.foldl (takeLook tag slba) b).1.dram = b.1.dram ∧ (l.foldl (takeLook tag slba) b).1.pwr = b.1.pwr ∧ (l.foldl (takeLook tag slba) b).1.sec = b.1.sec ∧ (l.foldl (takeLook tag slba) b).1.mgmt = b.1.mgmt ∧ (l.foldl (takeLook tag slba) b).1.naile = b.1.naile ∧ (l.foldl (takeLook tag slba) b).1.nor = b.1.nor ∧ (l.foldl (takeLook tag slba) b).1.bus = b.1.bus ∧ (l.foldl (takeLook tag slba) b).1.free = b.1.free := by
    intro l
    induction l with
    | nil => intro b; (and_intros <;> rfl)
    | cons x l ih => intro b; simp only [List.foldl_cons, ih, (fact @takeLook_keep), and_self]
  generalize hr : unitStep tag nsid slba n t a ls = q
  simp only [unitStep] at hr
  repeat' split at hr
  · subst hr; (and_intros <;> rfl)
  · subst hr; exact h _ _
  · subst hr; (and_intros <;> rfl)


theorem State.askTag_keep (s : State) (tag : Nat) (n : Nat) (p : Port) (l0 : Bool) (charged : Option Port) :
    (State.askTag s tag n p l0 charged).pending = s.pending ∧ (State.askTag s tag n p l0 charged).time = s.time ∧ (State.askTag s tag n p l0 charged).dev = s.dev ∧ (State.askTag s tag n p l0 charged).fuses = s.fuses ∧ (State.askTag s tag n p l0 charged).params = s.params ∧ (State.askTag s tag n p l0 charged).host = s.host ∧ (State.askTag s tag n p l0 charged).nvm = s.nvm ∧ (State.askTag s tag n p l0 charged).map = s.map ∧ (State.askTag s tag n p l0 charged).media = s.media ∧ (State.askTag s tag n p l0 charged).flash = s.flash ∧ (State.askTag s tag n p l0 charged).cache = s.cache ∧ (State.askTag s tag n p l0 charged).plp = s.plp ∧ (State.askTag s tag n p l0 charged).dram = s.dram ∧ (State.askTag s tag n p l0 charged).pwr = s.pwr ∧ (State.askTag s tag n p l0 charged).sec = s.sec ∧ (State.askTag s tag n p l0 charged).mgmt = s.mgmt ∧ (State.askTag s tag n p l0 charged).naile = s.naile ∧ (State.askTag s tag n p l0 charged).nor = s.nor ∧ (State.askTag s tag n p l0 charged).tally = s.tally ∧ (State.askTag s tag n p l0 charged).bus = s.bus ∧ (State.askTag s tag n p l0 charged).free = s.free := by
  generalize hr : State.askTag s tag n p l0 charged = r
  simp only [State.askTag] at hr
  repeat' split at hr
  all_goals (subst hr; (first | (simp only [and_self, (fact @State.askCords_keep)]; done) | (and_intros <;> (repeat' first | (simp only [and_self, (fact @State.askCords_keep)]; done) | (simp only [and_self, (fact @State.askCords_keep)]) | (split at hb) | (subst hb; simp only [and_self, (fact @State.askCords_keep)]) | (refine (foldl_pending (fun _ _ _ hb => ?_) _ _).trans ?_) | (refine (foldl_time (fun _ _ _ hb => ?_) _ _).trans ?_) | (refine (foldl_dev (fun _ _ _ hb => ?_) _ _).trans ?_) | (refine (foldl_fuses (fun _ _ _ hb => ?_) _ _).trans ?_) | (refine (foldl_params (fun _ _ _ hb => ?_) _ _).trans ?_) | (refine (foldl_host (fun _ _ _ hb => ?_) _ _).trans ?_) | (refine (foldl_nvm (fun _ _ _ hb => ?_) _ _).trans ?_) | (refine (foldl_map (fun _ _ _ hb => ?_) _ _).trans ?_) | (refine (foldl_media (fun _ _ _ hb => ?_) _ _).trans ?_) | (refine (foldl_flash (fun _ _ _ hb => ?_) _ _).trans ?_) | (refine (foldl_cache (fun _ _ _ hb => ?_) _ _).trans ?_) | (refine (foldl_plp (fun _ _ _ hb => ?_) _ _).trans ?_) | (refine (foldl_dram (fun _ _ _ hb => ?_) _ _).trans ?_) | (refine (foldl_pwr (fun _ _ _ hb => ?_) _ _).trans ?_) | (refine (foldl_sec (fun _ _ _ hb => ?_) _ _).trans ?_) | (refine (foldl_mgmt (fun _ _ _ hb => ?_) _ _).trans ?_) | (refine (foldl_naile (fun _ _ _ hb => ?_) _ _).trans ?_) | (refine (foldl_nor (fun _ _ _ hb => ?_) _ _).trans ?_) | (refine (foldl_tally (fun _ _ _ hb => ?_) _ _).trans ?_) | (refine (foldl_bus (fun _ _ _ hb => ?_) _ _).trans ?_) | (refine (foldl_free (fun _ _ _ hb => ?_) _ _).trans ?_) | split))))

theorem State.resolveBlocks_keep (s : State) (tag : Nat) (t : TagE) (f : RwFields) (n : NsS) : (s.resolveBlocks tag t f n).pending = s.pending ∧ (s.resolveBlocks tag t f n).time = s.time ∧ (s.resolveBlocks tag t f n).dev = s.dev ∧ (s.resolveBlocks tag t f n).fuses = s.fuses ∧ (s.resolveBlocks tag t f n).params = s.params ∧ (s.resolveBlocks tag t f n).nvm = s.nvm ∧ (s.resolveBlocks tag t f n).media = s.media ∧ (s.resolveBlocks tag t f n).cache = s.cache ∧ (s.resolveBlocks tag t f n).plp = s.plp ∧ (s.resolveBlocks tag t f n).dram = s.dram ∧ (s.resolveBlocks tag t f n).pwr = s.pwr ∧ (s.resolveBlocks tag t f n).sec = s.sec ∧ (s.resolveBlocks tag t f n).mgmt = s.mgmt ∧ (s.resolveBlocks tag t f n).naile = s.naile ∧ (s.resolveBlocks tag t f n).nor = s.nor ∧ (s.resolveBlocks tag t f n).bus = s.bus ∧ (s.resolveBlocks tag t f n).free = s.free := by
  generalize hr : s.resolveBlocks tag t f n = r
  unfold State.resolveBlocks at hr
  extract_lets busy cls dest q now at hr
  have h : ∀ (l : List (List Nat)) (a : State × List (Ploc × Nat)), (l.foldl (unitStep tag f.nsid.toNat f.slba n t) a).1.pending = a.1.pending ∧ (l.foldl (unitStep tag f.nsid.toNat f.slba n t) a).1.time = a.1.time ∧ (l.foldl (unitStep tag f.nsid.toNat f.slba n t) a).1.dev = a.1.dev ∧ (l.foldl (unitStep tag f.nsid.toNat f.slba n t) a).1.fuses = a.1.fuses ∧ (l.foldl (unitStep tag f.nsid.toNat f.slba n t) a).1.params = a.1.params ∧ (l.foldl (unitStep tag f.nsid.toNat f.slba n t) a).1.nvm = a.1.nvm ∧ (l.foldl (unitStep tag f.nsid.toNat f.slba n t) a).1.media = a.1.media ∧ (l.foldl (unitStep tag f.nsid.toNat f.slba n t) a).1.cache = a.1.cache ∧ (l.foldl (unitStep tag f.nsid.toNat f.slba n t) a).1.plp = a.1.plp ∧ (l.foldl (unitStep tag f.nsid.toNat f.slba n t) a).1.dram = a.1.dram ∧ (l.foldl (unitStep tag f.nsid.toNat f.slba n t) a).1.pwr = a.1.pwr ∧ (l.foldl (unitStep tag f.nsid.toNat f.slba n t) a).1.sec = a.1.sec ∧ (l.foldl (unitStep tag f.nsid.toNat f.slba n t) a).1.mgmt = a.1.mgmt ∧ (l.foldl (unitStep tag f.nsid.toNat f.slba n t) a).1.naile = a.1.naile ∧ (l.foldl (unitStep tag f.nsid.toNat f.slba n t) a).1.nor = a.1.nor ∧ (l.foldl (unitStep tag f.nsid.toNat f.slba n t) a).1.bus = a.1.bus ∧ (l.foldl (unitStep tag f.nsid.toNat f.slba n t) a).1.free = a.1.free := by
    intro l
    induction l with
    | nil => intro a; (and_intros <;> rfl)
    | cons x l ih => intro a; simp only [List.foldl_cons, ih, (fact @unitStep_keep), and_self]
  have h1 : q.1.pending = s.pending ∧ q.1.time = s.time ∧ q.1.dev = s.dev ∧ q.1.fuses = s.fuses ∧ q.1.params = s.params ∧ q.1.nvm = s.nvm ∧ q.1.media = s.media ∧ q.1.cache = s.cache ∧ q.1.plp = s.plp ∧ q.1.dram = s.dram ∧ q.1.pwr = s.pwr ∧ q.1.sec = s.sec ∧ q.1.mgmt = s.mgmt ∧ q.1.naile = s.naile ∧ q.1.nor = s.nor ∧ q.1.bus = s.bus ∧ q.1.free = s.free := h _ _
  clear_value q
  have h2 := State.askTag_keep q.1 tag now t.cntl.port (decide (cls = 0)) dest
  generalize q.1.askTag tag now t.cntl.port (decide (cls = 0)) dest = s2 at h2 hr
  subst hr
  refine ktrans_3 (kfold_3 (fun a e b hb => by subst hb; simp only [(fact @State.issueRead_keep), and_self]) _ _) (ktrans_3 (by simp only [h2, and_self]) h1)


theorem State.resolveRead_keep (s : State) (tag : Nat) :
    (State.resolveRead s tag).pending = s.pending ∧ (State.resolveRead s tag).time = s.time ∧ (State.resolveRead s tag).dev = s.dev ∧ (State.resolveRead s tag).fuses = s.fuses ∧ (State.resolveRead s tag).params = s.params ∧ (State.resolveRead s tag).nvm = s.nvm ∧ (State.resolveRead s tag).plp = s.plp ∧ (State.resolveRead s tag).dram = s.dram ∧ (State.resolveRead s tag).pwr = s.pwr ∧ (State.resolveRead s tag).sec = s.sec ∧ (State.resolveRead s tag).mgmt = s.mgmt ∧ (State.resolveRead s tag).naile = s.naile ∧ (State.resolveRead s tag).nor = s.nor ∧ (State.resolveRead s tag).bus = s.bus ∧ (State.resolveRead s tag).free = s.free := by
  generalize hr : State.resolveRead s tag = r
  simp only [State.resolveRead] at hr
  repeat' split at hr
  all_goals (subst hr; (simp only [and_self, (fact @State.forceSets_keep), (fact @State.modTag_keep), (fact @State.resolveBlocks_keep)]))

theorem startCtxs_keep n s tag : (startCtxs n s tag).pending = s.pending ∧ (startCtxs n s tag).time = s.time ∧ (startCtxs n s tag).dev = s.dev ∧ (startCtxs n s tag).fuses = s.fuses ∧ (startCtxs n s tag).params = s.params ∧ (startCtxs n s tag).nvm = s.nvm ∧ (startCtxs n s tag).map = s.map ∧ (startCtxs n s tag).media = s.media ∧ (startCtxs n s tag).flash = s.flash ∧ (startCtxs n s tag).cache = s.cache ∧ (startCtxs n s tag).plp = s.plp ∧ (startCtxs n s tag).dram = s.dram ∧ (startCtxs n s tag).pwr = s.pwr ∧ (startCtxs n s tag).sec = s.sec ∧ (startCtxs n s tag).mgmt = s.mgmt ∧ (startCtxs n s tag).naile = s.naile ∧ (startCtxs n s tag).nor = s.nor ∧ (startCtxs n s tag).tally = s.tally ∧ (startCtxs n s tag).bus = s.bus ∧ (startCtxs n s tag).free = s.free := by
  induction n generalizing s with
  | zero => simp only [startCtxs, and_self]
  | succ n ih =>
    generalize hr : startCtxs (n + 1) s tag = r
    simp only [startCtxs] at hr
    repeat' split at hr
    all_goals (subst hr; first | (simp only [ih, and_self, (fact @State.modTag_keep)]; done) | simp only [and_self])

theorem State.beginTransfer_keep (s : State) (tag : Nat) (blocks : Nat) :
    (State.beginTransfer s tag blocks).pending = s.pending ∧ (State.beginTransfer s tag blocks).time = s.time ∧ (State.beginTransfer s tag blocks).dev = s.dev ∧ (State.beginTransfer s tag blocks).fuses = s.fuses ∧ (State.beginTransfer s tag blocks).params = s.params ∧ (State.beginTransfer s tag blocks).nvm = s.nvm ∧ (State.beginTransfer s tag blocks).map = s.map ∧ (State.beginTransfer s tag blocks).media = s.media ∧ (State.beginTransfer s tag blocks).flash = s.flash ∧ (State.beginTransfer s tag blocks).cache = s.cache ∧ (State.beginTransfer s tag blocks).plp = s.plp ∧ (State.beginTransfer s tag blocks).dram = s.dram ∧ (State.beginTransfer s tag blocks).pwr = s.pwr ∧ (State.beginTransfer s tag blocks).sec = s.sec ∧ (State.beginTransfer s tag blocks).mgmt = s.mgmt ∧ (State.beginTransfer s tag blocks).naile = s.naile ∧ (State.beginTransfer s tag blocks).nor = s.nor ∧ (State.beginTransfer s tag blocks).tally = s.tally ∧ (State.beginTransfer s tag blocks).bus = s.bus ∧ (State.beginTransfer s tag blocks).free = s.free := by
  generalize hr : State.beginTransfer s tag blocks = r
  simp only [State.beginTransfer] at hr
  repeat' split at hr
  all_goals (subst hr; (simp only [and_self, (fact @State.modTag_keep), (fact @startCtxs_keep)]))

theorem State.loadCords_keep (s : State) (tag : Nat) (t : TagE) (f : RwFields) :
    (State.loadCords s tag t f).pending = s.pending ∧ (State.loadCords s tag t f).time = s.time ∧ (State.loadCords s tag t f).dev = s.dev ∧ (State.loadCords s tag t f).fuses = s.fuses ∧ (State.loadCords s tag t f).params = s.params ∧ (State.loadCords s tag t f).nvm = s.nvm ∧ (State.loadCords s tag t f).map = s.map ∧ (State.loadCords s tag t f).media = s.media ∧ (State.loadCords s tag t f).flash = s.flash ∧ (State.loadCords s tag t f).cache = s.cache ∧ (State.loadCords s tag t f).plp = s.plp ∧ (State.loadCords s tag t f).dram = s.dram ∧ (State.loadCords s tag t f).pwr = s.pwr ∧ (State.loadCords s tag t f).sec = s.sec ∧ (State.loadCords s tag t f).mgmt = s.mgmt ∧ (State.loadCords s tag t f).naile = s.naile ∧ (State.loadCords s tag t f).nor = s.nor ∧ (State.loadCords s tag t f).tally = s.tally ∧ (State.loadCords s tag t f).bus = s.bus ∧ (State.loadCords s tag t f).free = s.free := by
  generalize hr : State.loadCords s tag t f = r
  simp only [State.loadCords] at hr
  repeat' split at hr
  all_goals (subst hr; (first | (simp only [and_self, (fact @State.modTag_keep)]; done) | (and_intros <;> (repeat' first | (simp only [and_self, (fact @State.modTag_keep)]; done) | (simp only [and_self, (fact @State.modTag_keep)]) | (split at hb) | (subst hb; simp only [and_self, (fact @State.modTag_keep)]) | (refine (foldl_pending (fun _ _ _ hb => ?_) _ _).trans ?_) | (refine (foldl_time (fun _ _ _ hb => ?_) _ _).trans ?_) | (refine (foldl_dev (fun _ _ _ hb => ?_) _ _).trans ?_) | (refine (foldl_fuses (fun _ _ _ hb => ?_) _ _).trans ?_) | (refine (foldl_params (fun _ _ _ hb => ?_) _ _).trans ?_) | (refine (foldl_nvm (fun _ _ _ hb => ?_) _ _).trans ?_) | (refine (foldl_map (fun _ _ _ hb => ?_) _ _).trans ?_) | (refine (foldl_media (fun _ _ _ hb => ?_) _ _).trans ?_) | (refine (foldl_flash (fun _ _ _ hb => ?_) _ _).trans ?_) | (refine (foldl_cache (fun _ _ _ hb => ?_) _ _).trans ?_) | (refine (foldl_plp (fun _ _ _ hb => ?_) _ _).trans ?_) | (refine (foldl_dram (fun _ _ _ hb => ?_) _ _).trans ?_) | (refine (foldl_pwr (fun _ _ _ hb => ?_) _ _).trans ?_) | (refine (foldl_sec (fun _ _ _ hb => ?_) _ _).trans ?_) | (refine (foldl_mgmt (fun _ _ _ hb => ?_) _ _).trans ?_) | (refine (foldl_naile (fun _ _ _ hb => ?_) _ _).trans ?_) | (refine (foldl_nor (fun _ _ _ hb => ?_) _ _).trans ?_) | (refine (foldl_tally (fun _ _ _ hb => ?_) _ _).trans ?_) | (refine (foldl_bus (fun _ _ _ hb => ?_) _ _).trans ?_) | (refine (foldl_free (fun _ _ _ hb => ?_) _ _).trans ?_) | split))))

theorem State.loadCompare_keep (s : State) (tag : Nat) (f : RwFields) :
    (State.loadCompare s tag f).pending = s.pending ∧ (State.loadCompare s tag f).time = s.time ∧ (State.loadCompare s tag f).dev = s.dev ∧ (State.loadCompare s tag f).fuses = s.fuses ∧ (State.loadCompare s tag f).params = s.params ∧ (State.loadCompare s tag f).host = s.host ∧ (State.loadCompare s tag f).nvm = s.nvm ∧ (State.loadCompare s tag f).map = s.map ∧ (State.loadCompare s tag f).media = s.media ∧ (State.loadCompare s tag f).flash = s.flash ∧ (State.loadCompare s tag f).cache = s.cache ∧ (State.loadCompare s tag f).plp = s.plp ∧ (State.loadCompare s tag f).dram = s.dram ∧ (State.loadCompare s tag f).pwr = s.pwr ∧ (State.loadCompare s tag f).sec = s.sec ∧ (State.loadCompare s tag f).mgmt = s.mgmt ∧ (State.loadCompare s tag f).naile = s.naile ∧ (State.loadCompare s tag f).nor = s.nor ∧ (State.loadCompare s tag f).tally = s.tally ∧ (State.loadCompare s tag f).bus = s.bus ∧ (State.loadCompare s tag f).free = s.free := by
  generalize hr : State.loadCompare s tag f = r
  simp only [State.loadCompare] at hr
  repeat' split at hr
  all_goals (subst hr; (simp only [and_self]))

theorem State.readArrived_keep (s : State) (tag : Nat) :
    (State.readArrived s tag).pending = s.pending ∧ (State.readArrived s tag).time = s.time ∧ (State.readArrived s tag).dev = s.dev ∧ (State.readArrived s tag).fuses = s.fuses ∧ (State.readArrived s tag).params = s.params ∧ (State.readArrived s tag).map = s.map ∧ (State.readArrived s tag).media = s.media ∧ (State.readArrived s tag).flash = s.flash ∧ (State.readArrived s tag).cache = s.cache ∧ (State.readArrived s tag).plp = s.plp ∧ (State.readArrived s tag).dram = s.dram ∧ (State.readArrived s tag).pwr = s.pwr ∧ (State.readArrived s tag).sec = s.sec ∧ (State.readArrived s tag).mgmt = s.mgmt ∧ (State.readArrived s tag).naile = s.naile ∧ (State.readArrived s tag).nor = s.nor ∧ (State.readArrived s tag).bus = s.bus ∧ (State.readArrived s tag).free = s.free := by
  generalize hr : State.readArrived s tag = r
  simp only [State.readArrived] at hr
  repeat' split at hr
  all_goals (subst hr; (simp only [and_self, (fact @State.beginTransfer_keep), (fact @State.failTag_keep), (fact @State.loadCompare_keep), (fact @State.loadCords_keep)]))

theorem State.continueRead_keep (s : State) (tag : Nat) :
    (State.continueRead s tag).pending = s.pending ∧ (State.continueRead s tag).time = s.time ∧ (State.continueRead s tag).dev = s.dev ∧ (State.continueRead s tag).fuses = s.fuses ∧ (State.continueRead s tag).params = s.params ∧ (State.continueRead s tag).plp = s.plp ∧ (State.continueRead s tag).dram = s.dram ∧ (State.continueRead s tag).pwr = s.pwr ∧ (State.continueRead s tag).sec = s.sec ∧ (State.continueRead s tag).mgmt = s.mgmt ∧ (State.continueRead s tag).naile = s.naile ∧ (State.continueRead s tag).nor = s.nor ∧ (State.continueRead s tag).bus = s.bus ∧ (State.continueRead s tag).free = s.free := by
  generalize hr : State.continueRead s tag = r
  simp only [State.continueRead] at hr
  repeat' split at hr
  all_goals (subst hr; (simp only [and_self, (fact @State.readArrived_keep), (fact @State.resolveRead_keep)]))

theorem State.resumeReads_keep (s : State) :
    (State.resumeReads s).pending = s.pending ∧ (State.resumeReads s).time = s.time ∧ (State.resumeReads s).dev = s.dev ∧ (State.resumeReads s).fuses = s.fuses ∧ (State.resumeReads s).params = s.params ∧ (State.resumeReads s).plp = s.plp ∧ (State.resumeReads s).dram = s.dram ∧ (State.resumeReads s).pwr = s.pwr ∧ (State.resumeReads s).sec = s.sec ∧ (State.resumeReads s).mgmt = s.mgmt ∧ (State.resumeReads s).naile = s.naile ∧ (State.resumeReads s).nor = s.nor ∧ (State.resumeReads s).bus = s.bus ∧ (State.resumeReads s).free = s.free := by
  generalize hr : State.resumeReads s = r
  simp only [State.resumeReads] at hr
  repeat' split at hr
  all_goals (subst hr; (first | (simp only [and_self, (fact @State.continueRead_keep)]; done) | (and_intros <;> (repeat' first | (simp only [and_self, (fact @State.continueRead_keep)]; done) | (simp only [and_self, (fact @State.continueRead_keep)]) | (split at hb) | (subst hb; simp only [and_self, (fact @State.continueRead_keep)]) | (refine (foldl_pending (fun _ _ _ hb => ?_) _ _).trans ?_) | (refine (foldl_time (fun _ _ _ hb => ?_) _ _).trans ?_) | (refine (foldl_dev (fun _ _ _ hb => ?_) _ _).trans ?_) | (refine (foldl_fuses (fun _ _ _ hb => ?_) _ _).trans ?_) | (refine (foldl_params (fun _ _ _ hb => ?_) _ _).trans ?_) | (refine (foldl_plp (fun _ _ _ hb => ?_) _ _).trans ?_) | (refine (foldl_dram (fun _ _ _ hb => ?_) _ _).trans ?_) | (refine (foldl_pwr (fun _ _ _ hb => ?_) _ _).trans ?_) | (refine (foldl_sec (fun _ _ _ hb => ?_) _ _).trans ?_) | (refine (foldl_mgmt (fun _ _ _ hb => ?_) _ _).trans ?_) | (refine (foldl_naile (fun _ _ _ hb => ?_) _ _).trans ?_) | (refine (foldl_nor (fun _ _ _ hb => ?_) _ _).trans ?_) | (refine (foldl_bus (fun _ _ _ hb => ?_) _ _).trans ?_) | (refine (foldl_free (fun _ _ _ hb => ?_) _ _).trans ?_) | split))))

theorem State.sliceEnds_keep (s : State) (g : Grove) (k : Nat) :
    (State.sliceEnds s g k).pending = s.pending ∧ (State.sliceEnds s g k).time = s.time ∧ (State.sliceEnds s g k).dev = s.dev ∧ (State.sliceEnds s g k).fuses = s.fuses ∧ (State.sliceEnds s g k).params = s.params ∧ (State.sliceEnds s g k).host = s.host ∧ (State.sliceEnds s g k).land = s.land ∧ (State.sliceEnds s g k).map = s.map ∧ (State.sliceEnds s g k).media = s.media ∧ (State.sliceEnds s g k).flash = s.flash ∧ (State.sliceEnds s g k).cache = s.cache ∧ (State.sliceEnds s g k).plp = s.plp ∧ (State.sliceEnds s g k).dram = s.dram ∧ (State.sliceEnds s g k).pwr = s.pwr ∧ (State.sliceEnds s g k).sec = s.sec ∧ (State.sliceEnds s g k).mgmt = s.mgmt ∧ (State.sliceEnds s g k).naile = s.naile ∧ (State.sliceEnds s g k).nor = s.nor ∧ (State.sliceEnds s g k).tally = s.tally ∧ (State.sliceEnds s g k).bus = s.bus ∧ (State.sliceEnds s g k).free = s.free := by
  generalize hr : State.sliceEnds s g k = r
  simp only [State.sliceEnds] at hr
  repeat' split at hr
  all_goals (subst hr; (simp only [and_self]))

theorem State.feedCtxs_keep (s : State) :
    (State.feedCtxs s).pending = s.pending ∧ (State.feedCtxs s).time = s.time ∧ (State.feedCtxs s).dev = s.dev ∧ (State.feedCtxs s).fuses = s.fuses ∧ (State.feedCtxs s).params = s.params ∧ (State.feedCtxs s).nvm = s.nvm ∧ (State.feedCtxs s).map = s.map ∧ (State.feedCtxs s).media = s.media ∧ (State.feedCtxs s).flash = s.flash ∧ (State.feedCtxs s).cache = s.cache ∧ (State.feedCtxs s).plp = s.plp ∧ (State.feedCtxs s).dram = s.dram ∧ (State.feedCtxs s).pwr = s.pwr ∧ (State.feedCtxs s).sec = s.sec ∧ (State.feedCtxs s).mgmt = s.mgmt ∧ (State.feedCtxs s).naile = s.naile ∧ (State.feedCtxs s).nor = s.nor ∧ (State.feedCtxs s).tally = s.tally ∧ (State.feedCtxs s).bus = s.bus ∧ (State.feedCtxs s).free = s.free := by
  generalize hr : State.feedCtxs s = r
  simp only [State.feedCtxs] at hr
  repeat' split at hr
  all_goals (subst hr; (first | (simp only [and_self, (fact @startCtxs_keep)]; done) | (and_intros <;> (repeat' first | (simp only [and_self, (fact @startCtxs_keep)]; done) | (simp only [and_self, (fact @startCtxs_keep)]) | (split at hb) | (subst hb; simp only [and_self, (fact @startCtxs_keep)]) | (refine (foldl_pending (fun _ _ _ hb => ?_) _ _).trans ?_) | (refine (foldl_time (fun _ _ _ hb => ?_) _ _).trans ?_) | (refine (foldl_dev (fun _ _ _ hb => ?_) _ _).trans ?_) | (refine (foldl_fuses (fun _ _ _ hb => ?_) _ _).trans ?_) | (refine (foldl_params (fun _ _ _ hb => ?_) _ _).trans ?_) | (refine (foldl_nvm (fun _ _ _ hb => ?_) _ _).trans ?_) | (refine (foldl_map (fun _ _ _ hb => ?_) _ _).trans ?_) | (refine (foldl_media (fun _ _ _ hb => ?_) _ _).trans ?_) | (refine (foldl_flash (fun _ _ _ hb => ?_) _ _).trans ?_) | (refine (foldl_cache (fun _ _ _ hb => ?_) _ _).trans ?_) | (refine (foldl_plp (fun _ _ _ hb => ?_) _ _).trans ?_) | (refine (foldl_dram (fun _ _ _ hb => ?_) _ _).trans ?_) | (refine (foldl_pwr (fun _ _ _ hb => ?_) _ _).trans ?_) | (refine (foldl_sec (fun _ _ _ hb => ?_) _ _).trans ?_) | (refine (foldl_mgmt (fun _ _ _ hb => ?_) _ _).trans ?_) | (refine (foldl_naile (fun _ _ _ hb => ?_) _ _).trans ?_) | (refine (foldl_nor (fun _ _ _ hb => ?_) _ _).trans ?_) | (refine (foldl_tally (fun _ _ _ hb => ?_) _ _).trans ?_) | (refine (foldl_bus (fun _ _ _ hb => ?_) _ _).trans ?_) | (refine (foldl_free (fun _ _ _ hb => ?_) _ _).trans ?_) | split))))

end Sys2Proof.Machine
end

