-- ==== Sys2Proof/Laws/FrameMedia.lean ====
section
/-! SUPPORT. Frames of the shared operations: for each, the units of State it leaves alone. Here power-loss protection, responses, start-up, dies and faults of the channels. -/

set_option linter.all false

namespace Sys2Proof.Machine

theorem State.makeSet_keep (s : State) (g : Nat) (w : Nat) (r : Nat) (run : Nat × Nat) :
    (State.makeSet s g w r run).pending = s.pending ∧ (State.makeSet s g w r run).time = s.time ∧ (State.makeSet s g w r run).dev = s.dev ∧ (State.makeSet s g w r run).fuses = s.fuses ∧ (State.makeSet s g w r run).params = s.params ∧ (State.makeSet s g w r run).host = s.host ∧ (State.makeSet s g w r run).nvm = s.nvm ∧ (State.makeSet s g w r run).land = s.land ∧ (State.makeSet s g w r run).map = s.map ∧ (State.makeSet s g w r run).flash = s.flash ∧ (State.makeSet s g w r run).cache = s.cache ∧ (State.makeSet s g w r run).dram = s.dram ∧ (State.makeSet s g w r run).pwr = s.pwr ∧ (State.makeSet s g w r run).sec = s.sec ∧ (State.makeSet s g w r run).mgmt = s.mgmt ∧ (State.makeSet s g w r run).naile = s.naile ∧ (State.makeSet s g w r run).nor = s.nor ∧ (State.makeSet s g w r run).tally = s.tally ∧ (State.makeSet s g w r run).bus = s.bus ∧ (State.makeSet s g w r run).free = s.free := by
  generalize hr : State.makeSet s g w r run = r
  simp only [State.makeSet] at hr
  repeat' split at hr
  all_goals (subst hr; (first | (simp only [and_self]; done) | (and_intros <;> (repeat' first | (simp only [and_self]; done) | (simp only [and_self]) | (split at hb) | (subst hb; simp only [and_self]) | (refine (foldl_pending (fun _ _ _ hb => ?_) _ _).trans ?_) | (refine (foldl_time (fun _ _ _ hb => ?_) _ _).trans ?_) | (refine (foldl_dev (fun _ _ _ hb => ?_) _ _).trans ?_) | (refine (foldl_fuses (fun _ _ _ hb => ?_) _ _).trans ?_) | (refine (foldl_params (fun _ _ _ hb => ?_) _ _).trans ?_) | (refine (foldl_host (fun _ _ _ hb => ?_) _ _).trans ?_) | (refine (foldl_nvm (fun _ _ _ hb => ?_) _ _).trans ?_) | (refine (foldl_land (fun _ _ _ hb => ?_) _ _).trans ?_) | (refine (foldl_map (fun _ _ _ hb => ?_) _ _).trans ?_) | (refine (foldl_flash (fun _ _ _ hb => ?_) _ _).trans ?_) | (refine (foldl_cache (fun _ _ _ hb => ?_) _ _).trans ?_) | (refine (foldl_dram (fun _ _ _ hb => ?_) _ _).trans ?_) | (refine (foldl_pwr (fun _ _ _ hb => ?_) _ _).trans ?_) | (refine (foldl_sec (fun _ _ _ hb => ?_) _ _).trans ?_) | (refine (foldl_mgmt (fun _ _ _ hb => ?_) _ _).trans ?_) | (refine (foldl_naile (fun _ _ _ hb => ?_) _ _).trans ?_) | (refine (foldl_nor (fun _ _ _ hb => ?_) _ _).trans ?_) | (refine (foldl_tally (fun _ _ _ hb => ?_) _ _).trans ?_) | (refine (foldl_bus (fun _ _ _ hb => ?_) _ _).trans ?_) | (refine (foldl_free (fun _ _ _ hb => ?_) _ _).trans ?_) | split))))

theorem State.dropSet_keep (s : State) (g : Nat) (w : Nat) :
    (State.dropSet s g w).pending = s.pending ∧ (State.dropSet s g w).time = s.time ∧ (State.dropSet s g w).dev = s.dev ∧ (State.dropSet s g w).fuses = s.fuses ∧ (State.dropSet s g w).params = s.params ∧ (State.dropSet s g w).host = s.host ∧ (State.dropSet s g w).nvm = s.nvm ∧ (State.dropSet s g w).land = s.land ∧ (State.dropSet s g w).map = s.map ∧ (State.dropSet s g w).flash = s.flash ∧ (State.dropSet s g w).cache = s.cache ∧ (State.dropSet s g w).dram = s.dram ∧ (State.dropSet s g w).pwr = s.pwr ∧ (State.dropSet s g w).sec = s.sec ∧ (State.dropSet s g w).mgmt = s.mgmt ∧ (State.dropSet s g w).naile = s.naile ∧ (State.dropSet s g w).nor = s.nor ∧ (State.dropSet s g w).tally = s.tally ∧ (State.dropSet s g w).bus = s.bus ∧ (State.dropSet s g w).free = s.free := by
  generalize hr : State.dropSet s g w = r
  simp only [State.dropSet] at hr
  repeat' split at hr
  all_goals (subst hr; (first | (simp only [and_self]; done) | (and_intros <;> (repeat' first | (simp only [and_self]; done) | (simp only [and_self]) | (split at hb) | (subst hb; simp only [and_self]) | (refine (foldl_pending (fun _ _ _ hb => ?_) _ _).trans ?_) | (refine (foldl_time (fun _ _ _ hb => ?_) _ _).trans ?_) | (refine (foldl_dev (fun _ _ _ hb => ?_) _ _).trans ?_) | (refine (foldl_fuses (fun _ _ _ hb => ?_) _ _).trans ?_) | (refine (foldl_params (fun _ _ _ hb => ?_) _ _).trans ?_) | (refine (foldl_host (fun _ _ _ hb => ?_) _ _).trans ?_) | (refine (foldl_nvm (fun _ _ _ hb => ?_) _ _).trans ?_) | (refine (foldl_land (fun _ _ _ hb => ?_) _ _).trans ?_) | (refine (foldl_map (fun _ _ _ hb => ?_) _ _).trans ?_) | (refine (foldl_flash (fun _ _ _ hb => ?_) _ _).trans ?_) | (refine (foldl_cache (fun _ _ _ hb => ?_) _ _).trans ?_) | (refine (foldl_dram (fun _ _ _ hb => ?_) _ _).trans ?_) | (refine (foldl_pwr (fun _ _ _ hb => ?_) _ _).trans ?_) | (refine (foldl_sec (fun _ _ _ hb => ?_) _ _).trans ?_) | (refine (foldl_mgmt (fun _ _ _ hb => ?_) _ _).trans ?_) | (refine (foldl_naile (fun _ _ _ hb => ?_) _ _).trans ?_) | (refine (foldl_nor (fun _ _ _ hb => ?_) _ _).trans ?_) | (refine (foldl_tally (fun _ _ _ hb => ?_) _ _).trans ?_) | (refine (foldl_bus (fun _ _ _ hb => ?_) _ _).trans ?_) | (refine (foldl_free (fun _ _ _ hb => ?_) _ _).trans ?_) | split))))

theorem State.dropSpent_keep (s : State) (g : Nat) :
    (State.dropSpent s g).pending = s.pending ∧ (State.dropSpent s g).time = s.time ∧ (State.dropSpent s g).dev = s.dev ∧ (State.dropSpent s g).fuses = s.fuses ∧ (State.dropSpent s g).params = s.params ∧ (State.dropSpent s g).host = s.host ∧ (State.dropSpent s g).nvm = s.nvm ∧ (State.dropSpent s g).land = s.land ∧ (State.dropSpent s g).map = s.map ∧ (State.dropSpent s g).flash = s.flash ∧ (State.dropSpent s g).cache = s.cache ∧ (State.dropSpent s g).dram = s.dram ∧ (State.dropSpent s g).pwr = s.pwr ∧ (State.dropSpent s g).sec = s.sec ∧ (State.dropSpent s g).mgmt = s.mgmt ∧ (State.dropSpent s g).naile = s.naile ∧ (State.dropSpent s g).nor = s.nor ∧ (State.dropSpent s g).tally = s.tally ∧ (State.dropSpent s g).bus = s.bus ∧ (State.dropSpent s g).free = s.free := by
  generalize hr : State.dropSpent s g = r
  simp only [State.dropSpent] at hr
  repeat' split at hr
  all_goals (subst hr; (first | (simp only [and_self, (fact @State.dropSet_keep)]; done) | (and_intros <;> (repeat' first | (simp only [and_self, (fact @State.dropSet_keep)]; done) | (simp only [and_self, (fact @State.dropSet_keep)]) | (split at hb) | (subst hb; simp only [and_self, (fact @State.dropSet_keep)]) | (refine (foldl_pending (fun _ _ _ hb => ?_) _ _).trans ?_) | (refine (foldl_time (fun _ _ _ hb => ?_) _ _).trans ?_) | (refine (foldl_dev (fun _ _ _ hb => ?_) _ _).trans ?_) | (refine (foldl_fuses (fun _ _ _ hb => ?_) _ _).trans ?_) | (refine (foldl_params (fun _ _ _ hb => ?_) _ _).trans ?_) | (refine (foldl_host (fun _ _ _ hb => ?_) _ _).trans ?_) | (refine (foldl_nvm (fun _ _ _ hb => ?_) _ _).trans ?_) | (refine (foldl_land (fun _ _ _ hb => ?_) _ _).trans ?_) | (refine (foldl_map (fun _ _ _ hb => ?_) _ _).trans ?_) | (refine (foldl_flash (fun _ _ _ hb => ?_) _ _).trans ?_) | (refine (foldl_cache (fun _ _ _ hb => ?_) _ _).trans ?_) | (refine (foldl_dram (fun _ _ _ hb => ?_) _ _).trans ?_) | (refine (foldl_pwr (fun _ _ _ hb => ?_) _ _).trans ?_) | (refine (foldl_sec (fun _ _ _ hb => ?_) _ _).trans ?_) | (refine (foldl_mgmt (fun _ _ _ hb => ?_) _ _).trans ?_) | (refine (foldl_naile (fun _ _ _ hb => ?_) _ _).trans ?_) | (refine (foldl_nor (fun _ _ _ hb => ?_) _ _).trans ?_) | (refine (foldl_tally (fun _ _ _ hb => ?_) _ _).trans ?_) | (refine (foldl_bus (fun _ _ _ hb => ?_) _ _).trans ?_) | (refine (foldl_free (fun _ _ _ hb => ?_) _ _).trans ?_) | split))))

theorem State.chooseDumpSets_keep (s : State) (g : Nat) :
    (State.chooseDumpSets s g).pending = s.pending ∧ (State.chooseDumpSets s g).time = s.time ∧ (State.chooseDumpSets s g).dev = s.dev ∧ (State.chooseDumpSets s g).fuses = s.fuses ∧ (State.chooseDumpSets s g).params = s.params ∧ (State.chooseDumpSets s g).host = s.host ∧ (State.chooseDumpSets s g).nvm = s.nvm ∧ (State.chooseDumpSets s g).land = s.land ∧ (State.chooseDumpSets s g).map = s.map ∧ (State.chooseDumpSets s g).flash = s.flash ∧ (State.chooseDumpSets s g).cache = s.cache ∧ (State.chooseDumpSets s g).dram = s.dram ∧ (State.chooseDumpSets s g).pwr = s.pwr ∧ (State.chooseDumpSets s g).sec = s.sec ∧ (State.chooseDumpSets s g).mgmt = s.mgmt ∧ (State.chooseDumpSets s g).naile = s.naile ∧ (State.chooseDumpSets s g).nor = s.nor ∧ (State.chooseDumpSets s g).tally = s.tally ∧ (State.chooseDumpSets s g).bus = s.bus ∧ (State.chooseDumpSets s g).free = s.free := by
  generalize hr : State.chooseDumpSets s g = r
  simp only [State.chooseDumpSets] at hr
  repeat' split at hr
  all_goals (subst hr; (first | (simp only [and_self, (fact @State.makeSet_keep)]; done) | (and_intros <;> (repeat' first | (simp only [and_self, (fact @State.makeSet_keep)]; done) | (simp only [and_self, (fact @State.makeSet_keep)]) | (split at hb) | (subst hb; simp only [and_self, (fact @State.makeSet_keep)]) | (refine (foldl_pending (fun _ _ _ hb => ?_) _ _).trans ?_) | (refine (foldl_time (fun _ _ _ hb => ?_) _ _).trans ?_) | (refine (foldl_dev (fun _ _ _ hb => ?_) _ _).trans ?_) | (refine (foldl_fuses (fun _ _ _ hb => ?_) _ _).trans ?_) | (refine (foldl_params (fun _ _ _ hb => ?_) _ _).trans ?_) | (refine (foldl_host (fun _ _ _ hb => ?_) _ _).trans ?_) | (refine (foldl_nvm (fun _ _ _ hb => ?_) _ _).trans ?_) | (refine (foldl_land (fun _ _ _ hb => ?_) _ _).trans ?_) | (refine (foldl_map (fun _ _ _ hb => ?_) _ _).trans ?_) | (refine (foldl_flash (fun _ _ _ hb => ?_) _ _).trans ?_) | (refine (foldl_cache (fun _ _ _ hb => ?_) _ _).trans ?_) | (refine (foldl_dram (fun _ _ _ hb => ?_) _ _).trans ?_) | (refine (foldl_pwr (fun _ _ _ hb => ?_) _ _).trans ?_) | (refine (foldl_sec (fun _ _ _ hb => ?_) _ _).trans ?_) | (refine (foldl_mgmt (fun _ _ _ hb => ?_) _ _).trans ?_) | (refine (foldl_naile (fun _ _ _ hb => ?_) _ _).trans ?_) | (refine (foldl_nor (fun _ _ _ hb => ?_) _ _).trans ?_) | (refine (foldl_tally (fun _ _ _ hb => ?_) _ _).trans ?_) | (refine (foldl_bus (fun _ _ _ hb => ?_) _ _).trans ?_) | (refine (foldl_free (fun _ _ _ hb => ?_) _ _).trans ?_) | split))))

theorem State.extendSet_keep (s : State) (g : Nat) (w : Nat) :
    (State.extendSet s g w).pending = s.pending ∧ (State.extendSet s g w).time = s.time ∧ (State.extendSet s g w).dev = s.dev ∧ (State.extendSet s g w).fuses = s.fuses ∧ (State.extendSet s g w).params = s.params ∧ (State.extendSet s g w).host = s.host ∧ (State.extendSet s g w).nvm = s.nvm ∧ (State.extendSet s g w).land = s.land ∧ (State.extendSet s g w).map = s.map ∧ (State.extendSet s g w).flash = s.flash ∧ (State.extendSet s g w).cache = s.cache ∧ (State.extendSet s g w).dram = s.dram ∧ (State.extendSet s g w).pwr = s.pwr ∧ (State.extendSet s g w).sec = s.sec ∧ (State.extendSet s g w).mgmt = s.mgmt ∧ (State.extendSet s g w).naile = s.naile ∧ (State.extendSet s g w).nor = s.nor ∧ (State.extendSet s g w).tally = s.tally ∧ (State.extendSet s g w).bus = s.bus ∧ (State.extendSet s g w).free = s.free := by
  generalize hr : State.extendSet s g w = r
  simp only [State.extendSet] at hr
  repeat' split at hr
  all_goals (subst hr; (simp only [and_self]))

theorem State.plpTo_keep (s : State) (st : PlpState) :
    (State.plpTo s st).pending = s.pending ∧ (State.plpTo s st).time = s.time ∧ (State.plpTo s st).dev = s.dev ∧ (State.plpTo s st).fuses = s.fuses ∧ (State.plpTo s st).params = s.params ∧ (State.plpTo s st).map = s.map ∧ (State.plpTo s st).dram = s.dram ∧ (State.plpTo s st).pwr = s.pwr ∧ (State.plpTo s st).sec = s.sec ∧ (State.plpTo s st).nor = s.nor ∧ (State.plpTo s st).free = s.free := by
  generalize hr : State.plpTo s st = r
  simp only [State.plpTo] at hr
  repeat' split at hr
  all_goals (subst hr; (simp only [and_self, (fact @State.forceSets_keep), (fact @State.nsChanged_keep), (fact @State.record_calm), sevDebug, sevInfo, sevNotice, sevWarning, sevError, sevCritical, ne_eq, Nat.reduceEqDiff, not_false_eq_true]))

theorem State.recheckPlp_keep (s : State) :
    (State.recheckPlp s).pending = s.pending ∧ (State.recheckPlp s).time = s.time ∧ (State.recheckPlp s).dev = s.dev ∧ (State.recheckPlp s).fuses = s.fuses ∧ (State.recheckPlp s).params = s.params ∧ (State.recheckPlp s).map = s.map ∧ (State.recheckPlp s).dram = s.dram ∧ (State.recheckPlp s).pwr = s.pwr ∧ (State.recheckPlp s).sec = s.sec ∧ (State.recheckPlp s).nor = s.nor ∧ (State.recheckPlp s).free = s.free := by
  generalize hr : State.recheckPlp s = r
  simp only [State.recheckPlp] at hr
  repeat' split at hr
  all_goals (subst hr; (simp only [and_self, (fact @State.plpTo_keep)]))

theorem State.extendSets_keep (s : State) : (s.extendSets).pending = s.pending ∧ (s.extendSets).time = s.time ∧ (s.extendSets).dev = s.dev ∧ (s.extendSets).fuses = s.fuses ∧ (s.extendSets).params = s.params ∧ (s.extendSets).host = s.host ∧ (s.extendSets).nvm = s.nvm ∧ (s.extendSets).land = s.land ∧ (s.extendSets).map = s.map ∧ (s.extendSets).flash = s.flash ∧ (s.extendSets).cache = s.cache ∧ (s.extendSets).dram = s.dram ∧ (s.extendSets).pwr = s.pwr ∧ (s.extendSets).sec = s.sec ∧ (s.extendSets).mgmt = s.mgmt ∧ (s.extendSets).naile = s.naile ∧ (s.extendSets).nor = s.nor ∧ (s.extendSets).tally = s.tally ∧ (s.extendSets).bus = s.bus ∧ (s.extendSets).free = s.free := by
  generalize hr : s.extendSets = r
  rw [State.extendSets] at hr
  subst hr
  refine kfold_4 (fun a g b hb => ?_) _ _
  subst hb
  refine kfold_4 (fun a g b hb => ?_) _ _
  subst hb
  simp only [(fact @State.extendSet_keep), and_self]


theorem State.replaceSets_keep (s : State) : (s.replaceSets).pending = s.pending ∧ (s.replaceSets).time = s.time ∧ (s.replaceSets).dev = s.dev ∧ (s.replaceSets).fuses = s.fuses ∧ (s.replaceSets).params = s.params ∧ (s.replaceSets).host = s.host ∧ (s.replaceSets).nvm = s.nvm ∧ (s.replaceSets).land = s.land ∧ (s.replaceSets).map = s.map ∧ (s.replaceSets).flash = s.flash ∧ (s.replaceSets).cache = s.cache ∧ (s.replaceSets).dram = s.dram ∧ (s.replaceSets).pwr = s.pwr ∧ (s.replaceSets).sec = s.sec ∧ (s.replaceSets).mgmt = s.mgmt ∧ (s.replaceSets).naile = s.naile ∧ (s.replaceSets).nor = s.nor ∧ (s.replaceSets).tally = s.tally ∧ (s.replaceSets).bus = s.bus ∧ (s.replaceSets).free = s.free := by
  rw [State.replaceSets]
  split
  · refine kfold_4 (fun a g b hb => ?_) _ _
    subst hb
    simp only [(fact @State.chooseDumpSets_keep), (fact @State.dropSpent_keep), and_self]
  · (and_intros <;> rfl)


theorem State.recheckDumps_keep (s : State) : (s.recheckDumps).pending = s.pending ∧ (s.recheckDumps).time = s.time ∧ (s.recheckDumps).dev = s.dev ∧ (s.recheckDumps).fuses = s.fuses ∧ (s.recheckDumps).params = s.params ∧ (s.recheckDumps).map = s.map ∧ (s.recheckDumps).dram = s.dram ∧ (s.recheckDumps).pwr = s.pwr ∧ (s.recheckDumps).sec = s.sec ∧ (s.recheckDumps).nor = s.nor ∧ (s.recheckDumps).free = s.free := by
  rw [State.recheckDumps]
  simp only [(fact @State.recheckPlp_keep), (fact @State.extendSets_keep), (fact @State.replaceSets_keep), and_self]


theorem State.dumpHeader_keep (s : State) (p : SlabPlace) :
    (State.dumpHeader s p).pending = s.pending ∧ (State.dumpHeader s p).time = s.time ∧ (State.dumpHeader s p).dev = s.dev ∧ (State.dumpHeader s p).fuses = s.fuses ∧ (State.dumpHeader s p).params = s.params ∧ (State.dumpHeader s p).host = s.host ∧ (State.dumpHeader s p).nvm = s.nvm ∧ (State.dumpHeader s p).land = s.land ∧ (State.dumpHeader s p).map = s.map ∧ (State.dumpHeader s p).media = s.media ∧ (State.dumpHeader s p).flash = s.flash ∧ (State.dumpHeader s p).cache = s.cache ∧ (State.dumpHeader s p).dram = s.dram ∧ (State.dumpHeader s p).pwr = s.pwr ∧ (State.dumpHeader s p).sec = s.sec ∧ (State.dumpHeader s p).mgmt = s.mgmt ∧ (State.dumpHeader s p).naile = s.naile ∧ (State.dumpHeader s p).nor = s.nor ∧ (State.dumpHeader s p).tally = s.tally ∧ (State.dumpHeader s p).bus = s.bus ∧ (State.dumpHeader s p).free = s.free := by
  generalize hr : State.dumpHeader s p = r
  simp only [State.dumpHeader] at hr
  repeat' split at hr
  all_goals (subst hr; (simp only [and_self]))

theorem State.takeSet_keep (s : State) (g : Nat) :
    (State.takeSet s g).pending = s.pending ∧ (State.takeSet s g).time = s.time ∧ (State.takeSet s g).dev = s.dev ∧ (State.takeSet s g).fuses = s.fuses ∧ (State.takeSet s g).params = s.params ∧ (State.takeSet s g).host = s.host ∧ (State.takeSet s g).nvm = s.nvm ∧ (State.takeSet s g).land = s.land ∧ (State.takeSet s g).map = s.map ∧ (State.takeSet s g).media = s.media ∧ (State.takeSet s g).flash = s.flash ∧ (State.takeSet s g).cache = s.cache ∧ (State.takeSet s g).dram = s.dram ∧ (State.takeSet s g).pwr = s.pwr ∧ (State.takeSet s g).sec = s.sec ∧ (State.takeSet s g).mgmt = s.mgmt ∧ (State.takeSet s g).naile = s.naile ∧ (State.takeSet s g).nor = s.nor ∧ (State.takeSet s g).tally = s.tally ∧ (State.takeSet s g).bus = s.bus ∧ (State.takeSet s g).free = s.free := by
  generalize hr : State.takeSet s g = r
  simp only [State.takeSet] at hr
  repeat' split at hr
  all_goals (subst hr; (simp only [and_self]))

theorem State.askDump_keep (s : State) (g : Nat) : (s.askDump g).pending = s.pending ∧ (s.askDump g).time = s.time ∧ (s.askDump g).dev = s.dev ∧ (s.askDump g).fuses = s.fuses ∧ (s.askDump g).params = s.params ∧ (s.askDump g).host = s.host ∧ (s.askDump g).nvm = s.nvm ∧ (s.askDump g).map = s.map ∧ (s.askDump g).media = s.media ∧ (s.askDump g).flash = s.flash ∧ (s.askDump g).cache = s.cache ∧ (s.askDump g).plp = s.plp ∧ (s.askDump g).dram = s.dram ∧ (s.askDump g).pwr = s.pwr ∧ (s.askDump g).sec = s.sec ∧ (s.askDump g).mgmt = s.mgmt ∧ (s.askDump g).naile = s.naile ∧ (s.askDump g).nor = s.nor ∧ (s.askDump g).tally = s.tally ∧ (s.askDump g).bus = s.bus ∧ (s.askDump g).free = s.free := by
  rw [State.askDump]
  split
  · (and_intros <;> rfl)
  · refine kfold_0 (fun a c b hb => ?_) _ _
    subst hb
    refine kfold_0 (fun a c b hb => ?_) _ _
    subst hb
    simp only [(fact @State.askCords_keep), and_self]


theorem State.dumpBegin_keep (s : State) :
    (State.dumpBegin s).pending = s.pending ∧ (State.dumpBegin s).time = s.time ∧ (State.dumpBegin s).dev = s.dev ∧ (State.dumpBegin s).fuses = s.fuses ∧ (State.dumpBegin s).params = s.params ∧ (State.dumpBegin s).nvm = s.nvm ∧ (State.dumpBegin s).map = s.map ∧ (State.dumpBegin s).media = s.media ∧ (State.dumpBegin s).flash = s.flash ∧ (State.dumpBegin s).cache = s.cache ∧ (State.dumpBegin s).dram = s.dram ∧ (State.dumpBegin s).pwr = s.pwr ∧ (State.dumpBegin s).sec = s.sec ∧ (State.dumpBegin s).mgmt = s.mgmt ∧ (State.dumpBegin s).naile = s.naile ∧ (State.dumpBegin s).nor = s.nor ∧ (State.dumpBegin s).tally = s.tally ∧ (State.dumpBegin s).bus = s.bus ∧ (State.dumpBegin s).free = s.free := by
  generalize hr : State.dumpBegin s = r
  simp only [State.dumpBegin] at hr
  repeat' split at hr
  all_goals (subst hr; (first | (simp only [and_self, (fact @State.askDump_keep), (fact @State.takeSet_keep)]; done) | (and_intros <;> (repeat' first | (simp only [and_self, (fact @State.askDump_keep), (fact @State.takeSet_keep)]; done) | (simp only [and_self, (fact @State.askDump_keep), (fact @State.takeSet_keep)]) | (split at hb) | (subst hb; simp only [and_self, (fact @State.askDump_keep), (fact @State.takeSet_keep)]) | (refine (foldl_pending (fun _ _ _ hb => ?_) _ _).trans ?_) | (refine (foldl_time (fun _ _ _ hb => ?_) _ _).trans ?_) | (refine (foldl_dev (fun _ _ _ hb => ?_) _ _).trans ?_) | (refine (foldl_fuses (fun _ _ _ hb => ?_) _ _).trans ?_) | (refine (foldl_params (fun _ _ _ hb => ?_) _ _).trans ?_) | (refine (foldl_nvm (fun _ _ _ hb => ?_) _ _).trans ?_) | (refine (foldl_map (fun _ _ _ hb => ?_) _ _).trans ?_) | (refine (foldl_media (fun _ _ _ hb => ?_) _ _).trans ?_) | (refine (foldl_flash (fun _ _ _ hb => ?_) _ _).trans ?_) | (refine (foldl_cache (fun _ _ _ hb => ?_) _ _).trans ?_) | (refine (foldl_dram (fun _ _ _ hb => ?_) _ _).trans ?_) | (refine (foldl_pwr (fun _ _ _ hb => ?_) _ _).trans ?_) | (refine (foldl_sec (fun _ _ _ hb => ?_) _ _).trans ?_) | (refine (foldl_mgmt (fun _ _ _ hb => ?_) _ _).trans ?_) | (refine (foldl_naile (fun _ _ _ hb => ?_) _ _).trans ?_) | (refine (foldl_nor (fun _ _ _ hb => ?_) _ _).trans ?_) | (refine (foldl_tally (fun _ _ _ hb => ?_) _ _).trans ?_) | (refine (foldl_bus (fun _ _ _ hb => ?_) _ _).trans ?_) | (refine (foldl_free (fun _ _ _ hb => ?_) _ _).trans ?_) | split))))

theorem State.dumpHeaders_keep (s : State) : (s.dumpHeaders).pending = s.pending ∧ (s.dumpHeaders).time = s.time ∧ (s.dumpHeaders).dev = s.dev ∧ (s.dumpHeaders).fuses = s.fuses ∧ (s.dumpHeaders).params = s.params ∧ (s.dumpHeaders).host = s.host ∧ (s.dumpHeaders).nvm = s.nvm ∧ (s.dumpHeaders).land = s.land ∧ (s.dumpHeaders).map = s.map ∧ (s.dumpHeaders).media = s.media ∧ (s.dumpHeaders).flash = s.flash ∧ (s.dumpHeaders).cache = s.cache ∧ (s.dumpHeaders).dram = s.dram ∧ (s.dumpHeaders).pwr = s.pwr ∧ (s.dumpHeaders).sec = s.sec ∧ (s.dumpHeaders).mgmt = s.mgmt ∧ (s.dumpHeaders).naile = s.naile ∧ (s.dumpHeaders).nor = s.nor ∧ (s.dumpHeaders).tally = s.tally ∧ (s.dumpHeaders).bus = s.bus ∧ (s.dumpHeaders).free = s.free := by
  rw [State.dumpHeaders]
  split
  · (and_intros <;> rfl)
  · extract_lets plan s1
    have h : s1.pending = s.pending ∧ s1.time = s.time ∧ s1.dev = s.dev ∧ s1.fuses = s.fuses ∧ s1.params = s.params ∧ s1.host = s.host ∧ s1.nvm = s.nvm ∧ s1.land = s.land ∧ s1.map = s.map ∧ s1.media = s.media ∧ s1.flash = s.flash ∧ s1.cache = s.cache ∧ s1.dram = s.dram ∧ s1.pwr = s.pwr ∧ s1.sec = s.sec ∧ s1.mgmt = s.mgmt ∧ s1.naile = s.naile ∧ s1.nor = s.nor ∧ s1.tally = s.tally ∧ s1.bus = s.bus ∧ s1.free = s.free := kfold_5 (fun a g b hb => by subst hb; simp only [(fact @State.dumpHeader_keep), and_self]) _ _
    clear_value s1
    simp only [h, and_self]


theorem State.dumpSlotsOut_keep (s : State) :
    (State.dumpSlotsOut s).pending = s.pending ∧ (State.dumpSlotsOut s).time = s.time ∧ (State.dumpSlotsOut s).dev = s.dev ∧ (State.dumpSlotsOut s).fuses = s.fuses ∧ (State.dumpSlotsOut s).params = s.params ∧ (State.dumpSlotsOut s).host = s.host ∧ (State.dumpSlotsOut s).nvm = s.nvm ∧ (State.dumpSlotsOut s).map = s.map ∧ (State.dumpSlotsOut s).media = s.media ∧ (State.dumpSlotsOut s).flash = s.flash ∧ (State.dumpSlotsOut s).cache = s.cache ∧ (State.dumpSlotsOut s).dram = s.dram ∧ (State.dumpSlotsOut s).pwr = s.pwr ∧ (State.dumpSlotsOut s).sec = s.sec ∧ (State.dumpSlotsOut s).mgmt = s.mgmt ∧ (State.dumpSlotsOut s).naile = s.naile ∧ (State.dumpSlotsOut s).nor = s.nor ∧ (State.dumpSlotsOut s).bus = s.bus ∧ (State.dumpSlotsOut s).free = s.free := by
  generalize hr : State.dumpSlotsOut s = r
  simp only [State.dumpSlotsOut] at hr
  repeat' split at hr
  all_goals (subst hr; (first | (simp only [and_self, (fact @State.freeCords_keep)]; done) | (and_intros <;> (repeat' first | (simp only [and_self, (fact @State.freeCords_keep)]; done) | (simp only [and_self, (fact @State.freeCords_keep)]) | (split at hb) | (subst hb; simp only [and_self, (fact @State.freeCords_keep)]) | (refine (foldl_pending (fun _ _ _ hb => ?_) _ _).trans ?_) | (refine (foldl_time (fun _ _ _ hb => ?_) _ _).trans ?_) | (refine (foldl_dev (fun _ _ _ hb => ?_) _ _).trans ?_) | (refine (foldl_fuses (fun _ _ _ hb => ?_) _ _).trans ?_) | (refine (foldl_params (fun _ _ _ hb => ?_) _ _).trans ?_) | (refine (foldl_host (fun _ _ _ hb => ?_) _ _).trans ?_) | (refine (foldl_nvm (fun _ _ _ hb => ?_) _ _).trans ?_) | (refine (foldl_map (fun _ _ _ hb => ?_) _ _).trans ?_) | (refine (foldl_media (fun _ _ _ hb => ?_) _ _).trans ?_) | (refine (foldl_flash (fun _ _ _ hb => ?_) _ _).trans ?_) | (refine (foldl_cache (fun _ _ _ hb => ?_) _ _).trans ?_) | (refine (foldl_dram (fun _ _ _ hb => ?_) _ _).trans ?_) | (refine (foldl_pwr (fun _ _ _ hb => ?_) _ _).trans ?_) | (refine (foldl_sec (fun _ _ _ hb => ?_) _ _).trans ?_) | (refine (foldl_mgmt (fun _ _ _ hb => ?_) _ _).trans ?_) | (refine (foldl_naile (fun _ _ _ hb => ?_) _ _).trans ?_) | (refine (foldl_nor (fun _ _ _ hb => ?_) _ _).trans ?_) | (refine (foldl_bus (fun _ _ _ hb => ?_) _ _).trans ?_) | (refine (foldl_free (fun _ _ _ hb => ?_) _ _).trans ?_) | split))))

theorem State.selfRefresh_keep (s : State) :
    (State.selfRefresh s).pending = s.pending ∧ (State.selfRefresh s).time = s.time ∧ (State.selfRefresh s).fuses = s.fuses ∧ (State.selfRefresh s).params = s.params ∧ (State.selfRefresh s).host = s.host ∧ (State.selfRefresh s).nvm = s.nvm ∧ (State.selfRefresh s).land = s.land ∧ (State.selfRefresh s).map = s.map ∧ (State.selfRefresh s).media = s.media ∧ (State.selfRefresh s).flash = s.flash ∧ (State.selfRefresh s).cache = s.cache ∧ (State.selfRefresh s).plp = s.plp ∧ (State.selfRefresh s).pwr = s.pwr ∧ (State.selfRefresh s).sec = s.sec ∧ (State.selfRefresh s).mgmt = s.mgmt ∧ (State.selfRefresh s).naile = s.naile ∧ (State.selfRefresh s).nor = s.nor ∧ (State.selfRefresh s).tally = s.tally ∧ (State.selfRefresh s).bus = s.bus ∧ (State.selfRefresh s).free = s.free := by
  generalize hr : State.selfRefresh s = r
  simp only [State.selfRefresh] at hr
  repeat' split at hr
  all_goals (subst hr; (simp only [and_self]))

theorem State.latchPads_keep (s : State) :
    (State.latchPads s).pending = s.pending ∧ (State.latchPads s).time = s.time ∧ (State.latchPads s).fuses = s.fuses ∧ (State.latchPads s).params = s.params ∧ (State.latchPads s).host = s.host ∧ (State.latchPads s).nvm = s.nvm ∧ (State.latchPads s).land = s.land ∧ (State.latchPads s).map = s.map ∧ (State.latchPads s).media = s.media ∧ (State.latchPads s).flash = s.flash ∧ (State.latchPads s).cache = s.cache ∧ (State.latchPads s).plp = s.plp ∧ (State.latchPads s).pwr = s.pwr ∧ (State.latchPads s).sec = s.sec ∧ (State.latchPads s).mgmt = s.mgmt ∧ (State.latchPads s).naile = s.naile ∧ (State.latchPads s).nor = s.nor ∧ (State.latchPads s).tally = s.tally ∧ (State.latchPads s).bus = s.bus ∧ (State.latchPads s).free = s.free := by
  generalize hr : State.latchPads s = r
  simp only [State.latchPads] at hr
  repeat' split at hr
  all_goals (subst hr; (simp only [and_self, (fact @State.selfRefresh_keep)]))

theorem State.dumpHalt_keep (s : State) :
    (State.dumpHalt s).pending = s.pending ∧ (State.dumpHalt s).time = s.time ∧ (State.dumpHalt s).fuses = s.fuses ∧ (State.dumpHalt s).params = s.params ∧ (State.dumpHalt s).host = s.host ∧ (State.dumpHalt s).nvm = s.nvm ∧ (State.dumpHalt s).land = s.land ∧ (State.dumpHalt s).map = s.map ∧ (State.dumpHalt s).media = s.media ∧ (State.dumpHalt s).flash = s.flash ∧ (State.dumpHalt s).cache = s.cache ∧ (State.dumpHalt s).plp = s.plp ∧ (State.dumpHalt s).pwr = s.pwr ∧ (State.dumpHalt s).sec = s.sec ∧ (State.dumpHalt s).mgmt = s.mgmt ∧ (State.dumpHalt s).naile = s.naile ∧ (State.dumpHalt s).nor = s.nor ∧ (State.dumpHalt s).tally = s.tally ∧ (State.dumpHalt s).bus = s.bus ∧ (State.dumpHalt s).free = s.free := by
  generalize hr : State.dumpHalt s = r
  simp only [State.dumpHalt] at hr
  repeat' split at hr
  all_goals (subst hr; (simp only [and_self, (fact @State.latchPads_keep)]))

theorem State.dumpAll_keep (s : State) :
    (State.dumpAll s).pending = s.pending ∧ (State.dumpAll s).time = s.time ∧ (State.dumpAll s).dev = s.dev ∧ (State.dumpAll s).fuses = s.fuses ∧ (State.dumpAll s).params = s.params ∧ (State.dumpAll s).nvm = s.nvm ∧ (State.dumpAll s).map = s.map ∧ (State.dumpAll s).media = s.media ∧ (State.dumpAll s).flash = s.flash ∧ (State.dumpAll s).cache = s.cache ∧ (State.dumpAll s).dram = s.dram ∧ (State.dumpAll s).pwr = s.pwr ∧ (State.dumpAll s).sec = s.sec ∧ (State.dumpAll s).mgmt = s.mgmt ∧ (State.dumpAll s).naile = s.naile ∧ (State.dumpAll s).nor = s.nor ∧ (State.dumpAll s).bus = s.bus ∧ (State.dumpAll s).free = s.free := by
  generalize hr : State.dumpAll s = r
  simp only [State.dumpAll] at hr
  repeat' split at hr
  all_goals (subst hr; (simp only [and_self, (fact @State.dumpBegin_keep), (fact @State.dumpHeaders_keep), (fact @State.dumpSlotsOut_keep)]))

theorem State.controlledStop_keep (s : State) (dramCh : Option Nat) :
    (State.controlledStop s dramCh).pending = s.pending ∧ (State.controlledStop s dramCh).time = s.time ∧ (State.controlledStop s dramCh).fuses = s.fuses ∧ (State.controlledStop s dramCh).params = s.params ∧ (State.controlledStop s dramCh).nvm = s.nvm ∧ (State.controlledStop s dramCh).map = s.map ∧ (State.controlledStop s dramCh).media = s.media ∧ (State.controlledStop s dramCh).flash = s.flash ∧ (State.controlledStop s dramCh).cache = s.cache ∧ (State.controlledStop s dramCh).pwr = s.pwr ∧ (State.controlledStop s dramCh).sec = s.sec ∧ (State.controlledStop s dramCh).bus = s.bus ∧ (State.controlledStop s dramCh).free = s.free := by
  generalize hr : State.controlledStop s dramCh = r
  simp only [State.controlledStop] at hr
  repeat' split at hr
  all_goals (subst hr; (simp only [and_self, (fact @State.dumpAll_keep), (fact @State.fail_keep), (fact @State.latchPads_keep), (fact @State.recordHw_keep)]))

theorem State.closeSession_keep (s : State) (cause : Nat) :
    (State.closeSession s cause).pending = s.pending ∧ (State.closeSession s cause).time = s.time ∧ (State.closeSession s cause).dev = s.dev ∧ (State.closeSession s cause).fuses = s.fuses ∧ (State.closeSession s cause).params = s.params ∧ (State.closeSession s cause).host = s.host ∧ (State.closeSession s cause).nvm = s.nvm ∧ (State.closeSession s cause).land = s.land ∧ (State.closeSession s cause).map = s.map ∧ (State.closeSession s cause).media = s.media ∧ (State.closeSession s cause).flash = s.flash ∧ (State.closeSession s cause).cache = s.cache ∧ (State.closeSession s cause).plp = s.plp ∧ (State.closeSession s cause).dram = s.dram ∧ (State.closeSession s cause).pwr = s.pwr ∧ (State.closeSession s cause).nor = s.nor ∧ (State.closeSession s cause).bus = s.bus ∧ (State.closeSession s cause).free = s.free ∧ (State.closeSession s cause).sec.target = s.sec.target := by
  generalize hr : State.closeSession s cause = r
  simp only [State.closeSession] at hr
  repeat' split at hr
  all_goals (subst hr; (simp only [and_self, (fact @State.recordBy_calm), sevDebug, sevInfo, sevNotice, sevWarning, sevError, sevCritical, ne_eq, Nat.reduceEqDiff, not_false_eq_true]))

theorem State.checkpoint_keep (s : State) :
    (State.checkpoint s).pending = s.pending ∧ (State.checkpoint s).time = s.time ∧ (State.checkpoint s).dev = s.dev ∧ (State.checkpoint s).fuses = s.fuses ∧ (State.checkpoint s).params = s.params ∧ (State.checkpoint s).host = s.host ∧ (State.checkpoint s).nvm = s.nvm ∧ (State.checkpoint s).land = s.land ∧ (State.checkpoint s).map = s.map ∧ (State.checkpoint s).media = s.media ∧ (State.checkpoint s).flash = s.flash ∧ (State.checkpoint s).cache = s.cache ∧ (State.checkpoint s).plp = s.plp ∧ (State.checkpoint s).dram = s.dram ∧ (State.checkpoint s).pwr = s.pwr ∧ (State.checkpoint s).sec = s.sec ∧ (State.checkpoint s).naile = s.naile ∧ (State.checkpoint s).nor = s.nor ∧ (State.checkpoint s).tally = s.tally ∧ (State.checkpoint s).bus = s.bus ∧ (State.checkpoint s).free = s.free := by
  generalize hr : State.checkpoint s = r
  simp only [State.checkpoint] at hr
  repeat' split at hr
  all_goals (subst hr; (simp only [and_self]))

theorem State.resumeFetch_keep (s : State) :
    (State.resumeFetch s).pending = s.pending ∧ (State.resumeFetch s).time = s.time ∧ (State.resumeFetch s).dev = s.dev ∧ (State.resumeFetch s).fuses = s.fuses ∧ (State.resumeFetch s).params = s.params ∧ (State.resumeFetch s).land = s.land ∧ (State.resumeFetch s).map = s.map ∧ (State.resumeFetch s).media = s.media ∧ (State.resumeFetch s).flash = s.flash ∧ (State.resumeFetch s).cache = s.cache ∧ (State.resumeFetch s).plp = s.plp ∧ (State.resumeFetch s).dram = s.dram ∧ (State.resumeFetch s).pwr = s.pwr ∧ (State.resumeFetch s).sec = s.sec ∧ (State.resumeFetch s).mgmt = s.mgmt ∧ (State.resumeFetch s).naile = s.naile ∧ (State.resumeFetch s).nor = s.nor ∧ (State.resumeFetch s).tally = s.tally ∧ (State.resumeFetch s).bus = s.bus ∧ (State.resumeFetch s).free = s.free := by
  generalize hr : State.resumeFetch s = r
  simp only [State.resumeFetch] at hr
  repeat' split at hr
  all_goals (subst hr; (first | (simp only [and_self, (fact @State.fetchQueue_keep)]; done) | (and_intros <;> (repeat' first | (simp only [and_self, (fact @State.fetchQueue_keep)]; done) | (simp only [and_self, (fact @State.fetchQueue_keep)]) | (split at hb) | (subst hb; simp only [and_self, (fact @State.fetchQueue_keep)]) | (refine (foldl_pending (fun _ _ _ hb => ?_) _ _).trans ?_) | (refine (foldl_time (fun _ _ _ hb => ?_) _ _).trans ?_) | (refine (foldl_dev (fun _ _ _ hb => ?_) _ _).trans ?_) | (refine (foldl_fuses (fun _ _ _ hb => ?_) _ _).trans ?_) | (refine (foldl_params (fun _ _ _ hb => ?_) _ _).trans ?_) | (refine (foldl_land (fun _ _ _ hb => ?_) _ _).trans ?_) | (refine (foldl_map (fun _ _ _ hb => ?_) _ _).trans ?_) | (refine (foldl_media (fun _ _ _ hb => ?_) _ _).trans ?_) | (refine (foldl_flash (fun _ _ _ hb => ?_) _ _).trans ?_) | (refine (foldl_cache (fun _ _ _ hb => ?_) _ _).trans ?_) | (refine (foldl_plp (fun _ _ _ hb => ?_) _ _).trans ?_) | (refine (foldl_dram (fun _ _ _ hb => ?_) _ _).trans ?_) | (refine (foldl_pwr (fun _ _ _ hb => ?_) _ _).trans ?_) | (refine (foldl_sec (fun _ _ _ hb => ?_) _ _).trans ?_) | (refine (foldl_mgmt (fun _ _ _ hb => ?_) _ _).trans ?_) | (refine (foldl_naile (fun _ _ _ hb => ?_) _ _).trans ?_) | (refine (foldl_nor (fun _ _ _ hb => ?_) _ _).trans ?_) | (refine (foldl_tally (fun _ _ _ hb => ?_) _ _).trans ?_) | (refine (foldl_bus (fun _ _ _ hb => ?_) _ _).trans ?_) | (refine (foldl_free (fun _ _ _ hb => ?_) _ _).trans ?_) | split))))

theorem State.leaveIdle_keep (s : State) :
    (State.leaveIdle s).pending = s.pending ∧ (State.leaveIdle s).time = s.time ∧ (State.leaveIdle s).dev = s.dev ∧ (State.leaveIdle s).fuses = s.fuses ∧ (State.leaveIdle s).params = s.params ∧ (State.leaveIdle s).land = s.land ∧ (State.leaveIdle s).map = s.map ∧ (State.leaveIdle s).media = s.media ∧ (State.leaveIdle s).flash = s.flash ∧ (State.leaveIdle s).cache = s.cache ∧ (State.leaveIdle s).plp = s.plp ∧ (State.leaveIdle s).dram = s.dram ∧ (State.leaveIdle s).sec = s.sec ∧ (State.leaveIdle s).mgmt = s.mgmt ∧ (State.leaveIdle s).naile = s.naile ∧ (State.leaveIdle s).nor = s.nor ∧ (State.leaveIdle s).tally = s.tally ∧ (State.leaveIdle s).bus = s.bus ∧ (State.leaveIdle s).free = s.free := by
  generalize hr : State.leaveIdle s = r
  simp only [State.leaveIdle] at hr
  repeat' split at hr
  all_goals (subst hr; (simp only [and_self, (fact @State.resumeFetch_keep)]))

theorem State.recheckPower_keep (s : State) :
    (State.recheckPower s).pending = s.pending ∧ (State.recheckPower s).time = s.time ∧ (State.recheckPower s).dev = s.dev ∧ (State.recheckPower s).fuses = s.fuses ∧ (State.recheckPower s).params = s.params ∧ (State.recheckPower s).land = s.land ∧ (State.recheckPower s).map = s.map ∧ (State.recheckPower s).media = s.media ∧ (State.recheckPower s).flash = s.flash ∧ (State.recheckPower s).cache = s.cache ∧ (State.recheckPower s).plp = s.plp ∧ (State.recheckPower s).dram = s.dram ∧ (State.recheckPower s).sec = s.sec ∧ (State.recheckPower s).mgmt = s.mgmt ∧ (State.recheckPower s).naile = s.naile ∧ (State.recheckPower s).nor = s.nor ∧ (State.recheckPower s).tally = s.tally ∧ (State.recheckPower s).bus = s.bus ∧ (State.recheckPower s).free = s.free := by
  generalize hr : State.recheckPower s = r
  simp only [State.recheckPower] at hr
  repeat' split at hr
  all_goals (subst hr; (simp only [and_self, (fact @State.leaveIdle_keep)]))

theorem State.touchLink_keep (s : State) :
    (State.touchLink s).pending = s.pending ∧ (State.touchLink s).time = s.time ∧ (State.touchLink s).dev = s.dev ∧ (State.touchLink s).fuses = s.fuses ∧ (State.touchLink s).params = s.params ∧ (State.touchLink s).land = s.land ∧ (State.touchLink s).map = s.map ∧ (State.touchLink s).media = s.media ∧ (State.touchLink s).flash = s.flash ∧ (State.touchLink s).cache = s.cache ∧ (State.touchLink s).plp = s.plp ∧ (State.touchLink s).dram = s.dram ∧ (State.touchLink s).sec = s.sec ∧ (State.touchLink s).mgmt = s.mgmt ∧ (State.touchLink s).naile = s.naile ∧ (State.touchLink s).nor = s.nor ∧ (State.touchLink s).tally = s.tally ∧ (State.touchLink s).bus = s.bus ∧ (State.touchLink s).free = s.free := by
  generalize hr : State.touchLink s = r
  simp only [State.touchLink] at hr
  repeat' split at hr
  all_goals (subst hr; (simp only [and_self, (fact @State.recheckPower_keep)]))

theorem State.restLinks_keep (s : State) :
    (State.restLinks s).pending = s.pending ∧ (State.restLinks s).time = s.time ∧ (State.restLinks s).dev = s.dev ∧ (State.restLinks s).fuses = s.fuses ∧ (State.restLinks s).params = s.params ∧ (State.restLinks s).nvm = s.nvm ∧ (State.restLinks s).land = s.land ∧ (State.restLinks s).map = s.map ∧ (State.restLinks s).media = s.media ∧ (State.restLinks s).flash = s.flash ∧ (State.restLinks s).cache = s.cache ∧ (State.restLinks s).plp = s.plp ∧ (State.restLinks s).dram = s.dram ∧ (State.restLinks s).pwr = s.pwr ∧ (State.restLinks s).sec = s.sec ∧ (State.restLinks s).mgmt = s.mgmt ∧ (State.restLinks s).naile = s.naile ∧ (State.restLinks s).nor = s.nor ∧ (State.restLinks s).tally = s.tally ∧ (State.restLinks s).bus = s.bus ∧ (State.restLinks s).free = s.free := by
  generalize hr : State.restLinks s = r
  simp only [State.restLinks] at hr
  repeat' split at hr
  all_goals (subst hr; (simp only [and_self]))

theorem State.beginEntry_keep (s : State) :
    (State.beginEntry s).pending = s.pending ∧ (State.beginEntry s).time = s.time ∧ (State.beginEntry s).dev = s.dev ∧ (State.beginEntry s).fuses = s.fuses ∧ (State.beginEntry s).params = s.params ∧ (State.beginEntry s).nvm = s.nvm ∧ (State.beginEntry s).map = s.map ∧ (State.beginEntry s).plp = s.plp ∧ (State.beginEntry s).dram = s.dram ∧ (State.beginEntry s).sec = s.sec ∧ (State.beginEntry s).mgmt = s.mgmt ∧ (State.beginEntry s).naile = s.naile ∧ (State.beginEntry s).nor = s.nor ∧ (State.beginEntry s).tally = s.tally ∧ (State.beginEntry s).bus = s.bus ∧ (State.beginEntry s).free = s.free := by
  generalize hr : State.beginEntry s = r
  simp only [State.beginEntry] at hr
  repeat' split at hr
  all_goals (subst hr; (simp only [and_self, (fact @State.forceSets_keep)]))

theorem State.dropUpdate_keep (s : State) :
    (State.dropUpdate s).pending = s.pending ∧ (State.dropUpdate s).time = s.time ∧ (State.dropUpdate s).dev = s.dev ∧ (State.dropUpdate s).fuses = s.fuses ∧ (State.dropUpdate s).params = s.params ∧ (State.dropUpdate s).host = s.host ∧ (State.dropUpdate s).nvm = s.nvm ∧ (State.dropUpdate s).land = s.land ∧ (State.dropUpdate s).map = s.map ∧ (State.dropUpdate s).media = s.media ∧ (State.dropUpdate s).flash = s.flash ∧ (State.dropUpdate s).cache = s.cache ∧ (State.dropUpdate s).plp = s.plp ∧ (State.dropUpdate s).dram = s.dram ∧ (State.dropUpdate s).pwr = s.pwr ∧ (State.dropUpdate s).sec = s.sec ∧ (State.dropUpdate s).mgmt = s.mgmt ∧ (State.dropUpdate s).naile = s.naile ∧ (State.dropUpdate s).tally = s.tally ∧ (State.dropUpdate s).bus = s.bus ∧ (State.dropUpdate s).free = s.free := by
  generalize hr : State.dropUpdate s = r
  simp only [State.dropUpdate] at hr
  repeat' split at hr
  all_goals (subst hr; (simp only [and_self]))

theorem State.enterPs3_keep (s : State) :
    (State.enterPs3 s).pending = s.pending ∧ (State.enterPs3 s).time = s.time ∧ (State.enterPs3 s).dev = s.dev ∧ (State.enterPs3 s).fuses = s.fuses ∧ (State.enterPs3 s).params = s.params ∧ (State.enterPs3 s).host = s.host ∧ (State.enterPs3 s).nvm = s.nvm ∧ (State.enterPs3 s).land = s.land ∧ (State.enterPs3 s).map = s.map ∧ (State.enterPs3 s).media = s.media ∧ (State.enterPs3 s).flash = s.flash ∧ (State.enterPs3 s).cache = s.cache ∧ (State.enterPs3 s).plp = s.plp ∧ (State.enterPs3 s).dram = s.dram ∧ (State.enterPs3 s).nor = s.nor ∧ (State.enterPs3 s).bus = s.bus ∧ (State.enterPs3 s).free = s.free ∧ (State.enterPs3 s).sec.target = s.sec.target := by
  generalize hr : State.enterPs3 s = r
  simp only [State.enterPs3] at hr
  repeat' split at hr
  all_goals (subst hr; (simp only [and_self, (fact @State.checkpoint_keep), (fact @State.closeSession_keep)]))

theorem State.losePowered_keep (s : State) :
    (State.losePowered s).pending = s.pending ∧ (State.losePowered s).time = s.time ∧ (State.losePowered s).dev = s.dev ∧ (State.losePowered s).fuses = s.fuses ∧ (State.losePowered s).params = s.params ∧ (State.losePowered s).host = s.host ∧ (State.losePowered s).map = s.map ∧ (State.losePowered s).media = s.media ∧ (State.losePowered s).cache = s.cache ∧ (State.losePowered s).plp = s.plp ∧ (State.losePowered s).dram = s.dram ∧ (State.losePowered s).pwr = s.pwr ∧ (State.losePowered s).nor = s.nor ∧ (State.losePowered s).tally = s.tally ∧ (State.losePowered s).free = s.free ∧ (State.losePowered s).sec.target = s.sec.target := by
  generalize hr : State.losePowered s = r
  simp only [State.losePowered] at hr
  repeat' split at hr
  all_goals (subst hr; (simp only [and_self]))

theorem State.enterPs4_keep (s : State) :
    (State.enterPs4 s).pending = s.pending ∧ (State.enterPs4 s).time = s.time ∧ (State.enterPs4 s).fuses = s.fuses ∧ (State.enterPs4 s).params = s.params ∧ (State.enterPs4 s).host = s.host ∧ (State.enterPs4 s).map = s.map ∧ (State.enterPs4 s).media = s.media ∧ (State.enterPs4 s).cache = s.cache ∧ (State.enterPs4 s).plp = s.plp ∧ (State.enterPs4 s).free = s.free ∧ (State.enterPs4 s).sec.target = s.sec.target := by
  generalize hr : State.enterPs4 s = r
  simp only [State.enterPs4] at hr
  repeat' split at hr
  all_goals (subst hr; (simp only [and_self, (fact @State.checkpoint_keep), (fact @State.closeSession_keep), (fact @State.dropUpdate_keep), (fact @State.losePowered_keep), (fact @State.selfRefresh_keep)]))

theorem State.naileOk_keep (s : State) (f : Frame) (typ : Nat) (len : Nat) (value : Nat) :
    (State.naileOk s f typ len value).pending = s.pending ∧ (State.naileOk s f typ len value).time = s.time ∧ (State.naileOk s f typ len value).dev = s.dev ∧ (State.naileOk s f typ len value).fuses = s.fuses ∧ (State.naileOk s f typ len value).params = s.params ∧ (State.naileOk s f typ len value).host = s.host ∧ (State.naileOk s f typ len value).nvm = s.nvm ∧ (State.naileOk s f typ len value).land = s.land ∧ (State.naileOk s f typ len value).map = s.map ∧ (State.naileOk s f typ len value).media = s.media ∧ (State.naileOk s f typ len value).flash = s.flash ∧ (State.naileOk s f typ len value).cache = s.cache ∧ (State.naileOk s f typ len value).plp = s.plp ∧ (State.naileOk s f typ len value).dram = s.dram ∧ (State.naileOk s f typ len value).pwr = s.pwr ∧ (State.naileOk s f typ len value).sec = s.sec ∧ (State.naileOk s f typ len value).mgmt = s.mgmt ∧ (State.naileOk s f typ len value).nor = s.nor ∧ (State.naileOk s f typ len value).tally = s.tally ∧ (State.naileOk s f typ len value).bus = s.bus ∧ (State.naileOk s f typ len value).free = s.free := by
  generalize hr : State.naileOk s f typ len value = r
  simp only [State.naileOk] at hr
  repeat' split at hr
  all_goals (subst hr; (simp only [and_self]))

theorem State.naileFail_keep (s : State) (f : Frame) (cls : Nat) (code : Nat) (param : Nat) :
    (State.naileFail s f cls code param).pending = s.pending ∧ (State.naileFail s f cls code param).time = s.time ∧ (State.naileFail s f cls code param).dev = s.dev ∧ (State.naileFail s f cls code param).fuses = s.fuses ∧ (State.naileFail s f cls code param).params = s.params ∧ (State.naileFail s f cls code param).host = s.host ∧ (State.naileFail s f cls code param).nvm = s.nvm ∧ (State.naileFail s f cls code param).land = s.land ∧ (State.naileFail s f cls code param).map = s.map ∧ (State.naileFail s f cls code param).media = s.media ∧ (State.naileFail s f cls code param).flash = s.flash ∧ (State.naileFail s f cls code param).cache = s.cache ∧ (State.naileFail s f cls code param).plp = s.plp ∧ (State.naileFail s f cls code param).dram = s.dram ∧ (State.naileFail s f cls code param).pwr = s.pwr ∧ (State.naileFail s f cls code param).sec = s.sec ∧ (State.naileFail s f cls code param).mgmt = s.mgmt ∧ (State.naileFail s f cls code param).nor = s.nor ∧ (State.naileFail s f cls code param).tally = s.tally ∧ (State.naileFail s f cls code param).bus = s.bus ∧ (State.naileFail s f cls code param).free = s.free := by
  generalize hr : State.naileFail s f cls code param = r
  simp only [State.naileFail] at hr
  repeat' split at hr
  all_goals (subst hr; (simp only [and_self]))

theorem State.rawOutcome_keep (s : State) (f : Frame) (outcome : Nat) :
    (State.rawOutcome s f outcome).pending = s.pending ∧ (State.rawOutcome s f outcome).time = s.time ∧ (State.rawOutcome s f outcome).dev = s.dev ∧ (State.rawOutcome s f outcome).fuses = s.fuses ∧ (State.rawOutcome s f outcome).params = s.params ∧ (State.rawOutcome s f outcome).host = s.host ∧ (State.rawOutcome s f outcome).nvm = s.nvm ∧ (State.rawOutcome s f outcome).land = s.land ∧ (State.rawOutcome s f outcome).map = s.map ∧ (State.rawOutcome s f outcome).media = s.media ∧ (State.rawOutcome s f outcome).flash = s.flash ∧ (State.rawOutcome s f outcome).cache = s.cache ∧ (State.rawOutcome s f outcome).plp = s.plp ∧ (State.rawOutcome s f outcome).dram = s.dram ∧ (State.rawOutcome s f outcome).pwr = s.pwr ∧ (State.rawOutcome s f outcome).sec = s.sec ∧ (State.rawOutcome s f outcome).mgmt = s.mgmt ∧ (State.rawOutcome s f outcome).nor = s.nor ∧ (State.rawOutcome s f outcome).tally = s.tally ∧ (State.rawOutcome s f outcome).bus = s.bus ∧ (State.rawOutcome s f outcome).free = s.free := by
  generalize hr : State.rawOutcome s f outcome = r
  simp only [State.rawOutcome] at hr
  repeat' split at hr
  all_goals (subst hr; (simp only [and_self, (fact @State.naileOk_keep)]))


theorem State.acceptFrame_keep (s : State) :
    (State.acceptFrame s).pending = s.pending ∧ (State.acceptFrame s).time = s.time ∧ (State.acceptFrame s).dev = s.dev ∧ (State.acceptFrame s).fuses = s.fuses ∧ (State.acceptFrame s).params = s.params ∧ (State.acceptFrame s).land = s.land ∧ (State.acceptFrame s).map = s.map ∧ (State.acceptFrame s).media = s.media ∧ (State.acceptFrame s).flash = s.flash ∧ (State.acceptFrame s).cache = s.cache ∧ (State.acceptFrame s).plp = s.plp ∧ (State.acceptFrame s).dram = s.dram ∧ (State.acceptFrame s).sec = s.sec ∧ (State.acceptFrame s).mgmt = s.mgmt ∧ (State.acceptFrame s).tally = s.tally ∧ (State.acceptFrame s).bus = s.bus ∧ (State.acceptFrame s).free = s.free := by
  generalize hr : State.acceptFrame s = r
  simp only [State.acceptFrame] at hr
  repeat' split at hr
  all_goals (subst hr; (simp only [and_self, (fact @State.leaveIdle_keep)]))


theorem State.clearUnits_keep (s : State) (por : Bool) :
    (State.clearUnits s por).pending = s.pending ∧ (State.clearUnits s por).fuses = s.fuses ∧ (State.clearUnits s por).free = s.free ∧ (State.clearUnits s por).sec.target = s.sec.target := by
  generalize hr : State.clearUnits s por = r
  simp only [State.clearUnits] at hr
  repeat' split at hr
  all_goals (subst hr; (simp only [and_self, SecS.afterReset]))

theorem State.release_keep (s : State) (fuseOk : Bool) (o : OptRead) :
    (State.release s fuseOk o).pending = s.pending ∧ (State.release s fuseOk o).time = s.time ∧ (State.release s fuseOk o).fuses = s.fuses ∧ (State.release s fuseOk o).params = s.params ∧ (State.release s fuseOk o).host = s.host ∧ (State.release s fuseOk o).nvm = s.nvm ∧ (State.release s fuseOk o).land = s.land ∧ (State.release s fuseOk o).map = s.map ∧ (State.release s fuseOk o).media = s.media ∧ (State.release s fuseOk o).flash = s.flash ∧ (State.release s fuseOk o).cache = s.cache ∧ (State.release s fuseOk o).plp = s.plp ∧ (State.release s fuseOk o).dram = s.dram ∧ (State.release s fuseOk o).pwr = s.pwr ∧ (State.release s fuseOk o).sec = s.sec ∧ (State.release s fuseOk o).mgmt = s.mgmt ∧ (State.release s fuseOk o).naile = s.naile ∧ (State.release s fuseOk o).nor = s.nor ∧ (State.release s fuseOk o).tally = s.tally ∧ (State.release s fuseOk o).bus = s.bus ∧ (State.release s fuseOk o).free = s.free := by
  generalize hr : State.release s fuseOk o = r
  simp only [State.release] at hr
  repeat' split at hr
  all_goals (subst hr; (simp only [and_self]))

theorem State.applyCfg_keep (s : State) (c : CfgChoice) :
    (State.applyCfg s c).pending = s.pending ∧ (State.applyCfg s c).time = s.time ∧ (State.applyCfg s c).dev = s.dev ∧ (State.applyCfg s c).fuses = s.fuses ∧ (State.applyCfg s c).host = s.host ∧ (State.applyCfg s c).nvm = s.nvm ∧ (State.applyCfg s c).land = s.land ∧ (State.applyCfg s c).map = s.map ∧ (State.applyCfg s c).media = s.media ∧ (State.applyCfg s c).flash = s.flash ∧ (State.applyCfg s c).cache = s.cache ∧ (State.applyCfg s c).plp = s.plp ∧ (State.applyCfg s c).dram = s.dram ∧ (State.applyCfg s c).pwr = s.pwr ∧ (State.applyCfg s c).sec = s.sec ∧ (State.applyCfg s c).mgmt = s.mgmt ∧ (State.applyCfg s c).naile = s.naile ∧ (State.applyCfg s c).tally = s.tally ∧ (State.applyCfg s c).bus = s.bus ∧ (State.applyCfg s c).free = s.free := by
  generalize hr : State.applyCfg s c = r
  simp only [State.applyCfg] at hr
  repeat' split at hr
  all_goals (subst hr; (simp only [and_self]))

theorem State.burnSeal_keep (s : State) :
    (State.burnSeal s).pending = s.pending ∧ (State.burnSeal s).time = s.time ∧ (State.burnSeal s).dev = s.dev ∧ (State.burnSeal s).params = s.params ∧ (State.burnSeal s).host = s.host ∧ (State.burnSeal s).nvm = s.nvm ∧ (State.burnSeal s).land = s.land ∧ (State.burnSeal s).map = s.map ∧ (State.burnSeal s).media = s.media ∧ (State.burnSeal s).flash = s.flash ∧ (State.burnSeal s).cache = s.cache ∧ (State.burnSeal s).plp = s.plp ∧ (State.burnSeal s).dram = s.dram ∧ (State.burnSeal s).pwr = s.pwr ∧ (State.burnSeal s).mgmt = s.mgmt ∧ (State.burnSeal s).naile = s.naile ∧ (State.burnSeal s).nor = s.nor ∧ (State.burnSeal s).tally = s.tally ∧ (State.burnSeal s).bus = s.bus ∧ (State.burnSeal s).free = s.free := by
  generalize hr : State.burnSeal s = r
  simp only [State.burnSeal] at hr
  repeat' split at hr
  all_goals (subst hr; (simp only [and_self]))

theorem State.newLeaseKey_keep (s : State) :
    (State.newLeaseKey s).pending = s.pending ∧ (State.newLeaseKey s).time = s.time ∧ (State.newLeaseKey s).fuses = s.fuses ∧ (State.newLeaseKey s).params = s.params ∧ (State.newLeaseKey s).media = s.media ∧ (State.newLeaseKey s).cache = s.cache ∧ (State.newLeaseKey s).plp = s.plp ∧ (State.newLeaseKey s).dram = s.dram ∧ (State.newLeaseKey s).pwr = s.pwr ∧ (State.newLeaseKey s).sec = s.sec ∧ (State.newLeaseKey s).mgmt = s.mgmt ∧ (State.newLeaseKey s).naile = s.naile ∧ (State.newLeaseKey s).nor = s.nor ∧ (State.newLeaseKey s).bus = s.bus ∧ (State.newLeaseKey s).free = s.free := by
  generalize hr : State.newLeaseKey s = r
  simp only [State.newLeaseKey] at hr
  repeat' split at hr
  all_goals (subst hr; (simp only [and_self, (fact @State.stopLease_keep)]))

theorem State.rmaFinish_keep (s : State) :
    (State.rmaFinish s).pending = s.pending ∧ (State.rmaFinish s).time = s.time ∧ (State.rmaFinish s).params = s.params ∧ (State.rmaFinish s).media = s.media ∧ (State.rmaFinish s).cache = s.cache ∧ (State.rmaFinish s).plp = s.plp ∧ (State.rmaFinish s).dram = s.dram ∧ (State.rmaFinish s).pwr = s.pwr ∧ (State.rmaFinish s).nor = s.nor ∧ (State.rmaFinish s).bus = s.bus ∧ (State.rmaFinish s).free = s.free := by
  generalize hr : State.rmaFinish s = r
  simp only [State.rmaFinish] at hr
  repeat' split at hr
  all_goals (subst hr; (simp only [and_self, (fact @State.newLeaseKey_keep), (fact @State.record_calm), sevDebug, sevInfo, sevNotice, sevWarning, sevError, sevCritical, ne_eq, Nat.reduceEqDiff, not_false_eq_true]))

theorem State.rmaGoOn_keep (s : State) :
    (State.rmaGoOn s).pending = s.pending ∧ (State.rmaGoOn s).time = s.time ∧ (State.rmaGoOn s).params = s.params ∧ (State.rmaGoOn s).media = s.media ∧ (State.rmaGoOn s).cache = s.cache ∧ (State.rmaGoOn s).plp = s.plp ∧ (State.rmaGoOn s).dram = s.dram ∧ (State.rmaGoOn s).pwr = s.pwr ∧ (State.rmaGoOn s).nor = s.nor ∧ (State.rmaGoOn s).bus = s.bus ∧ (State.rmaGoOn s).free = s.free := by
  generalize hr : State.rmaGoOn s = r
  simp only [State.rmaGoOn] at hr
  repeat' split at hr
  all_goals (subst hr; (simp only [and_self, (fact @State.rmaFinish_keep)]))

theorem State.resumeIntent_keep (s : State) :
    (State.resumeIntent s).pending = s.pending ∧ (State.resumeIntent s).time = s.time ∧ (State.resumeIntent s).params = s.params ∧ (State.resumeIntent s).media = s.media ∧ (State.resumeIntent s).cache = s.cache ∧ (State.resumeIntent s).plp = s.plp ∧ (State.resumeIntent s).dram = s.dram ∧ (State.resumeIntent s).pwr = s.pwr ∧ (State.resumeIntent s).nor = s.nor ∧ (State.resumeIntent s).bus = s.bus ∧ (State.resumeIntent s).free = s.free := by
  generalize hr : State.resumeIntent s = r
  simp only [State.resumeIntent] at hr
  repeat' split at hr
  all_goals (subst hr; (simp only [and_self, (fact @State.burnSeal_keep), (fact @State.rmaGoOn_keep)]))

theorem State.recordStart_keep (s : State) :
    (State.recordStart s).pending = s.pending ∧ (State.recordStart s).time = s.time ∧ (State.recordStart s).dev = s.dev ∧ (State.recordStart s).fuses = s.fuses ∧ (State.recordStart s).params = s.params ∧ (State.recordStart s).host = s.host ∧ (State.recordStart s).nvm = s.nvm ∧ (State.recordStart s).land = s.land ∧ (State.recordStart s).map = s.map ∧ (State.recordStart s).media = s.media ∧ (State.recordStart s).flash = s.flash ∧ (State.recordStart s).cache = s.cache ∧ (State.recordStart s).plp = s.plp ∧ (State.recordStart s).dram = s.dram ∧ (State.recordStart s).pwr = s.pwr ∧ (State.recordStart s).sec = s.sec ∧ (State.recordStart s).mgmt = s.mgmt ∧ (State.recordStart s).naile = s.naile ∧ (State.recordStart s).nor = s.nor ∧ (State.recordStart s).bus = s.bus ∧ (State.recordStart s).free = s.free := by
  generalize hr : State.recordStart s = r
  simp only [State.recordStart] at hr
  repeat' split at hr
  all_goals (subst hr; (simp only [and_self, (fact @State.recordHw_calm), sevDebug, sevInfo, sevNotice, sevWarning, sevError, sevCritical, ne_eq, Nat.reduceEqDiff, not_false_eq_true]))

theorem State.recordTally_keep (s : State) (t : TallyS) :
    (State.recordTally s t).pending = s.pending ∧ (State.recordTally s t).time = s.time ∧ (State.recordTally s t).dev = s.dev ∧ (State.recordTally s t).fuses = s.fuses ∧ (State.recordTally s t).params = s.params ∧ (State.recordTally s t).host = s.host ∧ (State.recordTally s t).nvm = s.nvm ∧ (State.recordTally s t).land = s.land ∧ (State.recordTally s t).map = s.map ∧ (State.recordTally s t).media = s.media ∧ (State.recordTally s t).flash = s.flash ∧ (State.recordTally s t).cache = s.cache ∧ (State.recordTally s t).plp = s.plp ∧ (State.recordTally s t).dram = s.dram ∧ (State.recordTally s t).pwr = s.pwr ∧ (State.recordTally s t).sec = s.sec ∧ (State.recordTally s t).mgmt = s.mgmt ∧ (State.recordTally s t).naile = s.naile ∧ (State.recordTally s t).nor = s.nor ∧ (State.recordTally s t).bus = s.bus ∧ (State.recordTally s t).free = s.free := by
  generalize hr : State.recordTally s t = r
  simp only [State.recordTally] at hr
  repeat' split at hr
  all_goals (subst hr; (simp only [and_self, (fact @State.recordHw_calm), sevDebug, sevInfo, sevNotice, sevWarning, sevError, sevCritical, ne_eq, Nat.reduceEqDiff, not_false_eq_true]))

theorem State.recordSlot_keep (s : State) (w : Nat) :
    (State.recordSlot s w).pending = s.pending ∧ (State.recordSlot s w).time = s.time ∧ (State.recordSlot s w).dev = s.dev ∧ (State.recordSlot s w).fuses = s.fuses ∧ (State.recordSlot s w).params = s.params ∧ (State.recordSlot s w).host = s.host ∧ (State.recordSlot s w).nvm = s.nvm ∧ (State.recordSlot s w).land = s.land ∧ (State.recordSlot s w).map = s.map ∧ (State.recordSlot s w).media = s.media ∧ (State.recordSlot s w).flash = s.flash ∧ (State.recordSlot s w).cache = s.cache ∧ (State.recordSlot s w).plp = s.plp ∧ (State.recordSlot s w).dram = s.dram ∧ (State.recordSlot s w).pwr = s.pwr ∧ (State.recordSlot s w).sec = s.sec ∧ (State.recordSlot s w).nor = s.nor ∧ (State.recordSlot s w).bus = s.bus ∧ (State.recordSlot s w).free = s.free := by
  generalize hr : State.recordSlot s w = r
  simp only [State.recordSlot] at hr
  repeat' split at hr
  all_goals (subst hr; (simp only [and_self, (fact @State.record_calm), sevDebug, sevInfo, sevNotice, sevWarning, sevError, sevCritical, ne_eq, Nat.reduceEqDiff, not_false_eq_true]))

theorem State.recordBoot_keep (s : State) (c : CfgChoice) :
    (State.recordBoot s c).pending = s.pending ∧ (State.recordBoot s c).time = s.time ∧ (State.recordBoot s c).fuses = s.fuses ∧ (State.recordBoot s c).params = s.params ∧ (State.recordBoot s c).host = s.host ∧ (State.recordBoot s c).nvm = s.nvm ∧ (State.recordBoot s c).land = s.land ∧ (State.recordBoot s c).map = s.map ∧ (State.recordBoot s c).media = s.media ∧ (State.recordBoot s c).flash = s.flash ∧ (State.recordBoot s c).cache = s.cache ∧ (State.recordBoot s c).plp = s.plp ∧ (State.recordBoot s c).dram = s.dram ∧ (State.recordBoot s c).pwr = s.pwr ∧ (State.recordBoot s c).sec = s.sec ∧ (State.recordBoot s c).nor = s.nor ∧ (State.recordBoot s c).bus = s.bus ∧ (State.recordBoot s c).free = s.free := by
  generalize hr : State.recordBoot s c = r
  simp only [State.recordBoot] at hr
  repeat' split at hr
  all_goals (subst hr; (first | (simp only [and_self, (fact @State.recordHw_calm), (fact @State.recordSlot_keep), (fact @State.record_calm), sevDebug, sevInfo, sevNotice, sevWarning, sevError, sevCritical, ne_eq, Nat.reduceEqDiff, not_false_eq_true]; done) | (and_intros <;> (repeat' first | (simp only [and_self, (fact @State.recordHw_calm), (fact @State.recordSlot_keep), (fact @State.record_calm), sevDebug, sevInfo, sevNotice, sevWarning, sevError, sevCritical, ne_eq, Nat.reduceEqDiff, not_false_eq_true]; done) | (simp only [and_self, (fact @State.recordHw_calm), (fact @State.recordSlot_keep), (fact @State.record_calm), sevDebug, sevInfo, sevNotice, sevWarning, sevError, sevCritical, ne_eq, Nat.reduceEqDiff, not_false_eq_true]) | (split at hb) | (subst hb; simp only [and_self, (fact @State.recordHw_calm), (fact @State.recordSlot_keep), (fact @State.record_calm), sevDebug, sevInfo, sevNotice, sevWarning, sevError, sevCritical, ne_eq, Nat.reduceEqDiff, not_false_eq_true]) | (refine (foldl_pending (fun _ _ _ hb => ?_) _ _).trans ?_) | (refine (foldl_time (fun _ _ _ hb => ?_) _ _).trans ?_) | (refine (foldl_fuses (fun _ _ _ hb => ?_) _ _).trans ?_) | (refine (foldl_params (fun _ _ _ hb => ?_) _ _).trans ?_) | (refine (foldl_host (fun _ _ _ hb => ?_) _ _).trans ?_) | (refine (foldl_nvm (fun _ _ _ hb => ?_) _ _).trans ?_) | (refine (foldl_land (fun _ _ _ hb => ?_) _ _).trans ?_) | (refine (foldl_map (fun _ _ _ hb => ?_) _ _).trans ?_) | (refine (foldl_media (fun _ _ _ hb => ?_) _ _).trans ?_) | (refine (foldl_flash (fun _ _ _ hb => ?_) _ _).trans ?_) | (refine (foldl_cache (fun _ _ _ hb => ?_) _ _).trans ?_) | (refine (foldl_plp (fun _ _ _ hb => ?_) _ _).trans ?_) | (refine (foldl_dram (fun _ _ _ hb => ?_) _ _).trans ?_) | (refine (foldl_pwr (fun _ _ _ hb => ?_) _ _).trans ?_) | (refine (foldl_sec (fun _ _ _ hb => ?_) _ _).trans ?_) | (refine (foldl_nor (fun _ _ _ hb => ?_) _ _).trans ?_) | (refine (foldl_bus (fun _ _ _ hb => ?_) _ _).trans ?_) | (refine (foldl_free (fun _ _ _ hb => ?_) _ _).trans ?_) | split))))

theorem State.checkRecord_keep (s : State) (ch : Nat) :
    (State.checkRecord s ch).pending = s.pending ∧ (State.checkRecord s ch).time = s.time ∧ (State.checkRecord s ch).dev = s.dev ∧ (State.checkRecord s ch).fuses = s.fuses ∧ (State.checkRecord s ch).params = s.params ∧ (State.checkRecord s ch).host = s.host ∧ (State.checkRecord s ch).nvm = s.nvm ∧ (State.checkRecord s ch).land = s.land ∧ (State.checkRecord s ch).map = s.map ∧ (State.checkRecord s ch).cache = s.cache ∧ (State.checkRecord s ch).plp = s.plp ∧ (State.checkRecord s ch).dram = s.dram ∧ (State.checkRecord s ch).pwr = s.pwr ∧ (State.checkRecord s ch).sec = s.sec ∧ (State.checkRecord s ch).mgmt = s.mgmt ∧ (State.checkRecord s ch).naile = s.naile ∧ (State.checkRecord s ch).nor = s.nor ∧ (State.checkRecord s ch).bus = s.bus ∧ (State.checkRecord s ch).free = s.free := by
  generalize hr : State.checkRecord s ch = r
  simp only [State.checkRecord] at hr
  repeat' split at hr
  all_goals (subst hr; (simp only [and_self, (fact @State.markAbsent_keep), (fact @State.recordHw_calm), sevDebug, sevInfo, sevNotice, sevWarning, sevError, sevCritical, ne_eq, Nat.reduceEqDiff, not_false_eq_true]))

theorem State.checkRecords_keep (s : State) : (s.checkRecords).pending = s.pending ∧ (s.checkRecords).time = s.time ∧ (s.checkRecords).dev = s.dev ∧ (s.checkRecords).fuses = s.fuses ∧ (s.checkRecords).params = s.params ∧ (s.checkRecords).host = s.host ∧ (s.checkRecords).nvm = s.nvm ∧ (s.checkRecords).land = s.land ∧ (s.checkRecords).map = s.map ∧ (s.checkRecords).cache = s.cache ∧ (s.checkRecords).plp = s.plp ∧ (s.checkRecords).dram = s.dram ∧ (s.checkRecords).pwr = s.pwr ∧ (s.checkRecords).sec = s.sec ∧ (s.checkRecords).mgmt = s.mgmt ∧ (s.checkRecords).naile = s.naile ∧ (s.checkRecords).nor = s.nor ∧ (s.checkRecords).bus = s.bus ∧ (s.checkRecords).free = s.free := by
  rw [State.checkRecords]
  generalize List.range 64 = l
  refine kfold_6 (fun a g b hb => ?_) _ _
  subst hb
  simp only [(fact @State.checkRecord_keep), and_self]


theorem State.startFirmware_keep (s : State) (w : Nat) (h : ImageHeader) :
    (State.startFirmware s w h).pending = s.pending ∧ (State.startFirmware s w h).time = s.time ∧ (State.startFirmware s w h).cache = s.cache ∧ (State.startFirmware s w h).dram = s.dram ∧ (State.startFirmware s w h).pwr = s.pwr ∧ (State.startFirmware s w h).bus = s.bus ∧ (State.startFirmware s w h).free = s.free := by
  generalize hr : State.startFirmware s w h = r
  simp only [State.startFirmware] at hr
  repeat' split at hr
  all_goals (subst hr; (simp only [and_self, SecS.countReset, (fact @State.applyCfg_keep), (fact @State.checkRecords_keep), (fact @State.recordBoot_keep), (fact @State.recordStart_keep), (fact @State.recordTally_keep), (fact @State.resumeIntent_keep)]))

theorem State.enterRecovery_keep (s : State) (why : Nat) :
    (State.enterRecovery s why).pending = s.pending ∧ (State.enterRecovery s why).time = s.time ∧ (State.enterRecovery s why).fuses = s.fuses ∧ (State.enterRecovery s why).params = s.params ∧ (State.enterRecovery s why).nvm = s.nvm ∧ (State.enterRecovery s why).land = s.land ∧ (State.enterRecovery s why).map = s.map ∧ (State.enterRecovery s why).media = s.media ∧ (State.enterRecovery s why).flash = s.flash ∧ (State.enterRecovery s why).cache = s.cache ∧ (State.enterRecovery s why).plp = s.plp ∧ (State.enterRecovery s why).dram = s.dram ∧ (State.enterRecovery s why).pwr = s.pwr ∧ (State.enterRecovery s why).sec = s.sec ∧ (State.enterRecovery s why).mgmt = s.mgmt ∧ (State.enterRecovery s why).naile = s.naile ∧ (State.enterRecovery s why).nor = s.nor ∧ (State.enterRecovery s why).bus = s.bus ∧ (State.enterRecovery s why).free = s.free := by
  generalize hr : State.enterRecovery s why = r
  simp only [State.enterRecovery] at hr
  repeat' split at hr
  all_goals (subst hr; (simp only [and_self, (fact @State.recordHw_calm), sevDebug, sevInfo, sevNotice, sevWarning, sevError, sevCritical, ne_eq, Nat.reduceEqDiff, not_false_eq_true]))

theorem State.pllLocked_keep (s : State) :
    (State.pllLocked s).pending = s.pending ∧ (State.pllLocked s).time = s.time ∧ (State.pllLocked s).fuses = s.fuses ∧ (State.pllLocked s).params = s.params ∧ (State.pllLocked s).host = s.host ∧ (State.pllLocked s).nvm = s.nvm ∧ (State.pllLocked s).land = s.land ∧ (State.pllLocked s).map = s.map ∧ (State.pllLocked s).media = s.media ∧ (State.pllLocked s).flash = s.flash ∧ (State.pllLocked s).cache = s.cache ∧ (State.pllLocked s).plp = s.plp ∧ (State.pllLocked s).dram = s.dram ∧ (State.pllLocked s).pwr = s.pwr ∧ (State.pllLocked s).sec = s.sec ∧ (State.pllLocked s).mgmt = s.mgmt ∧ (State.pllLocked s).naile = s.naile ∧ (State.pllLocked s).nor = s.nor ∧ (State.pllLocked s).tally = s.tally ∧ (State.pllLocked s).bus = s.bus ∧ (State.pllLocked s).free = s.free := by
  generalize hr : State.pllLocked s = r
  simp only [State.pllLocked] at hr
  repeat' split at hr
  all_goals (subst hr; (simp only [and_self]))

theorem State.trainPorts_keep (s : State) :
    (State.trainPorts s).pending = s.pending ∧ (State.trainPorts s).time = s.time ∧ (State.trainPorts s).dev = s.dev ∧ (State.trainPorts s).fuses = s.fuses ∧ (State.trainPorts s).params = s.params ∧ (State.trainPorts s).nvm = s.nvm ∧ (State.trainPorts s).land = s.land ∧ (State.trainPorts s).map = s.map ∧ (State.trainPorts s).media = s.media ∧ (State.trainPorts s).flash = s.flash ∧ (State.trainPorts s).cache = s.cache ∧ (State.trainPorts s).plp = s.plp ∧ (State.trainPorts s).dram = s.dram ∧ (State.trainPorts s).pwr = s.pwr ∧ (State.trainPorts s).sec = s.sec ∧ (State.trainPorts s).mgmt = s.mgmt ∧ (State.trainPorts s).naile = s.naile ∧ (State.trainPorts s).nor = s.nor ∧ (State.trainPorts s).tally = s.tally ∧ (State.trainPorts s).bus = s.bus ∧ (State.trainPorts s).free = s.free := by
  generalize hr : State.trainPorts s = r
  simp only [State.trainPorts] at hr
  repeat' split at hr
  all_goals (subst hr; (simp only [and_self]))

theorem State.noteSlots_keep (s : State) (t : Nat × Option Nat) :
    (State.noteSlots s t).pending = s.pending ∧ (State.noteSlots s t).time = s.time ∧ (State.noteSlots s t).fuses = s.fuses ∧ (State.noteSlots s t).params = s.params ∧ (State.noteSlots s t).host = s.host ∧ (State.noteSlots s t).nvm = s.nvm ∧ (State.noteSlots s t).land = s.land ∧ (State.noteSlots s t).map = s.map ∧ (State.noteSlots s t).media = s.media ∧ (State.noteSlots s t).flash = s.flash ∧ (State.noteSlots s t).cache = s.cache ∧ (State.noteSlots s t).plp = s.plp ∧ (State.noteSlots s t).dram = s.dram ∧ (State.noteSlots s t).pwr = s.pwr ∧ (State.noteSlots s t).sec = s.sec ∧ (State.noteSlots s t).mgmt = s.mgmt ∧ (State.noteSlots s t).naile = s.naile ∧ (State.noteSlots s t).nor = s.nor ∧ (State.noteSlots s t).tally = s.tally ∧ (State.noteSlots s t).bus = s.bus ∧ (State.noteSlots s t).free = s.free := by
  generalize hr : State.noteSlots s t = r
  simp only [State.noteSlots] at hr
  repeat' split at hr
  all_goals (subst hr; (simp only [and_self]))

theorem State.bootFrom_keep (s : State) (slot : Option Nat) :
    (State.bootFrom s slot).pending = s.pending ∧ (State.bootFrom s slot).time = s.time ∧ (State.bootFrom s slot).cache = s.cache ∧ (State.bootFrom s slot).dram = s.dram ∧ (State.bootFrom s slot).pwr = s.pwr ∧ (State.bootFrom s slot).bus = s.bus ∧ (State.bootFrom s slot).free = s.free := by
  generalize hr : State.bootFrom s slot = r
  simp only [State.bootFrom] at hr
  repeat' split at hr
  all_goals (subst hr; (simp only [and_self, (fact @State.enterRecovery_keep), (fact @State.startFirmware_keep)]))

theorem State.bootSlots_keep (s : State) (norAnswers : Bool) :
    (State.bootSlots s norAnswers).pending = s.pending ∧ (State.bootSlots s norAnswers).time = s.time ∧ (State.bootSlots s norAnswers).cache = s.cache ∧ (State.bootSlots s norAnswers).dram = s.dram ∧ (State.bootSlots s norAnswers).pwr = s.pwr ∧ (State.bootSlots s norAnswers).bus = s.bus ∧ (State.bootSlots s norAnswers).free = s.free := by
  generalize hr : State.bootSlots s norAnswers = r
  simp only [State.bootSlots] at hr
  repeat' split at hr
  all_goals (subst hr; (simp only [and_self, (fact @State.bootFrom_keep), (fact @State.noteSlots_keep)]))

theorem State.badTables_keep (s : State) (b : HeartBad) :
    (State.badTables s b).pending = s.pending ∧ (State.badTables s b).time = s.time ∧ (State.badTables s b).fuses = s.fuses ∧ (State.badTables s b).params = s.params ∧ (State.badTables s b).host = s.host ∧ (State.badTables s b).nvm = s.nvm ∧ (State.badTables s b).land = s.land ∧ (State.badTables s b).map = s.map ∧ (State.badTables s b).cache = s.cache ∧ (State.badTables s b).dram = s.dram ∧ (State.badTables s b).pwr = s.pwr ∧ (State.badTables s b).sec = s.sec ∧ (State.badTables s b).mgmt = s.mgmt ∧ (State.badTables s b).naile = s.naile ∧ (State.badTables s b).nor = s.nor ∧ (State.badTables s b).tally = s.tally ∧ (State.badTables s b).bus = s.bus ∧ (State.badTables s b).free = s.free := by
  generalize hr : State.badTables s b = r
  simp only [State.badTables] at hr
  repeat' split at hr
  all_goals (subst hr; (first | (simp only [and_self]; done) | (and_intros <;> (repeat' first | (simp only [and_self]; done) | (simp only [and_self]) | (split at hb) | (subst hb; simp only [and_self]) | (refine (foldl_pending (fun _ _ _ hb => ?_) _ _).trans ?_) | (refine (foldl_time (fun _ _ _ hb => ?_) _ _).trans ?_) | (refine (foldl_fuses (fun _ _ _ hb => ?_) _ _).trans ?_) | (refine (foldl_params (fun _ _ _ hb => ?_) _ _).trans ?_) | (refine (foldl_host (fun _ _ _ hb => ?_) _ _).trans ?_) | (refine (foldl_nvm (fun _ _ _ hb => ?_) _ _).trans ?_) | (refine (foldl_land (fun _ _ _ hb => ?_) _ _).trans ?_) | (refine (foldl_map (fun _ _ _ hb => ?_) _ _).trans ?_) | (refine (foldl_cache (fun _ _ _ hb => ?_) _ _).trans ?_) | (refine (foldl_dram (fun _ _ _ hb => ?_) _ _).trans ?_) | (refine (foldl_pwr (fun _ _ _ hb => ?_) _ _).trans ?_) | (refine (foldl_sec (fun _ _ _ hb => ?_) _ _).trans ?_) | (refine (foldl_mgmt (fun _ _ _ hb => ?_) _ _).trans ?_) | (refine (foldl_naile (fun _ _ _ hb => ?_) _ _).trans ?_) | (refine (foldl_nor (fun _ _ _ hb => ?_) _ _).trans ?_) | (refine (foldl_tally (fun _ _ _ hb => ?_) _ _).trans ?_) | (refine (foldl_bus (fun _ _ _ hb => ?_) _ _).trans ?_) | (refine (foldl_free (fun _ _ _ hb => ?_) _ _).trans ?_) | split))))

theorem State.findBad_keep (s0 : State) (b : HeartBad) :
    (State.findBad s0 b).pending = s0.pending ∧ (State.findBad s0 b).time = s0.time ∧ (State.findBad s0 b).fuses = s0.fuses ∧ (State.findBad s0 b).params = s0.params ∧ (State.findBad s0 b).host = s0.host ∧ (State.findBad s0 b).nvm = s0.nvm ∧ (State.findBad s0 b).land = s0.land ∧ (State.findBad s0 b).map = s0.map ∧ (State.findBad s0 b).cache = s0.cache ∧ (State.findBad s0 b).dram = s0.dram ∧ (State.findBad s0 b).pwr = s0.pwr ∧ (State.findBad s0 b).mgmt = s0.mgmt ∧ (State.findBad s0 b).naile = s0.naile ∧ (State.findBad s0 b).bus = s0.bus ∧ (State.findBad s0 b).free = s0.free ∧ (State.findBad s0 b).sec.target = s0.sec.target := by
  generalize hr : State.findBad s0 b = r
  simp only [State.findBad] at hr
  repeat' split at hr
  all_goals (subst hr; (first | (simp only [and_self, (fact @State.badTables_keep)]; done) | (and_intros <;> (repeat' first | (simp only [and_self, (fact @State.badTables_keep)]; done) | (simp only [and_self, (fact @State.badTables_keep)]) | (split at hb) | (subst hb; simp only [and_self, (fact @State.badTables_keep)]) | (refine (foldl_pending (fun _ _ _ hb => ?_) _ _).trans ?_) | (refine (foldl_time (fun _ _ _ hb => ?_) _ _).trans ?_) | (refine (foldl_fuses (fun _ _ _ hb => ?_) _ _).trans ?_) | (refine (foldl_params (fun _ _ _ hb => ?_) _ _).trans ?_) | (refine (foldl_host (fun _ _ _ hb => ?_) _ _).trans ?_) | (refine (foldl_nvm (fun _ _ _ hb => ?_) _ _).trans ?_) | (refine (foldl_land (fun _ _ _ hb => ?_) _ _).trans ?_) | (refine (foldl_map (fun _ _ _ hb => ?_) _ _).trans ?_) | (refine (foldl_cache (fun _ _ _ hb => ?_) _ _).trans ?_) | (refine (foldl_dram (fun _ _ _ hb => ?_) _ _).trans ?_) | (refine (foldl_pwr (fun _ _ _ hb => ?_) _ _).trans ?_) | (refine (foldl_mgmt (fun _ _ _ hb => ?_) _ _).trans ?_) | (refine (foldl_naile (fun _ _ _ hb => ?_) _ _).trans ?_) | (refine (foldl_bus (fun _ _ _ hb => ?_) _ _).trans ?_) | (refine (foldl_free (fun _ _ _ hb => ?_) _ _).trans ?_) | (refine (foldl_sec_target (fun _ _ _ hb => ?_) _ _).trans ?_) | split))))

theorem State.readLayout_keep (s : State) (norAnswers : Bool) :
    (State.readLayout s norAnswers).pending = s.pending ∧ (State.readLayout s norAnswers).time = s.time ∧ (State.readLayout s norAnswers).dev = s.dev ∧ (State.readLayout s norAnswers).fuses = s.fuses ∧ (State.readLayout s norAnswers).params = s.params ∧ (State.readLayout s norAnswers).host = s.host ∧ (State.readLayout s norAnswers).nvm = s.nvm ∧ (State.readLayout s norAnswers).land = s.land ∧ (State.readLayout s norAnswers).map = s.map ∧ (State.readLayout s norAnswers).media = s.media ∧ (State.readLayout s norAnswers).flash = s.flash ∧ (State.readLayout s norAnswers).cache = s.cache ∧ (State.readLayout s norAnswers).plp = s.plp ∧ (State.readLayout s norAnswers).dram = s.dram ∧ (State.readLayout s norAnswers).pwr = s.pwr ∧ (State.readLayout s norAnswers).sec = s.sec ∧ (State.readLayout s norAnswers).mgmt = s.mgmt ∧ (State.readLayout s norAnswers).naile = s.naile ∧ (State.readLayout s norAnswers).tally = s.tally ∧ (State.readLayout s norAnswers).bus = s.bus ∧ (State.readLayout s norAnswers).free = s.free := by
  generalize hr : State.readLayout s norAnswers = r
  simp only [State.readLayout] at hr
  repeat' split at hr
  all_goals (subst hr; (simp only [and_self]))

theorem State.romBoot_keep (s0 : State) (norAnswers : Bool) :
    (State.romBoot s0 norAnswers).pending = s0.pending ∧ (State.romBoot s0 norAnswers).time = s0.time ∧ (State.romBoot s0 norAnswers).cache = s0.cache ∧ (State.romBoot s0 norAnswers).dram = s0.dram ∧ (State.romBoot s0 norAnswers).pwr = s0.pwr ∧ (State.romBoot s0 norAnswers).bus = s0.bus ∧ (State.romBoot s0 norAnswers).free = s0.free := by
  generalize hr : State.romBoot s0 norAnswers = r
  simp only [State.romBoot] at hr
  repeat' split at hr
  all_goals (subst hr; (simp only [and_self, (fact @State.bootSlots_keep), (fact @State.enterRecovery_keep), (fact @State.pllLocked_keep), (fact @State.readLayout_keep), (fact @State.trainPorts_keep)]))

theorem State.issueOp_keep (s : State) (i : Nat) (nested : Bool) :
    (State.issueOp s i nested).pending = s.pending ∧ (State.issueOp s i nested).time = s.time ∧ (State.issueOp s i nested).dev = s.dev ∧ (State.issueOp s i nested).fuses = s.fuses ∧ (State.issueOp s i nested).params = s.params ∧ (State.issueOp s i nested).host = s.host ∧ (State.issueOp s i nested).nvm = s.nvm ∧ (State.issueOp s i nested).land = s.land ∧ (State.issueOp s i nested).map = s.map ∧ (State.issueOp s i nested).media = s.media ∧ (State.issueOp s i nested).cache = s.cache ∧ (State.issueOp s i nested).plp = s.plp ∧ (State.issueOp s i nested).dram = s.dram ∧ (State.issueOp s i nested).pwr = s.pwr ∧ (State.issueOp s i nested).sec = s.sec ∧ (State.issueOp s i nested).mgmt = s.mgmt ∧ (State.issueOp s i nested).naile = s.naile ∧ (State.issueOp s i nested).nor = s.nor ∧ (State.issueOp s i nested).tally = s.tally ∧ (State.issueOp s i nested).bus = s.bus ∧ (State.issueOp s i nested).free = s.free := by
  generalize hr : State.issueOp s i nested = r
  simp only [State.issueOp] at hr
  repeat' split at hr
  all_goals (subst hr; (simp only [and_self]))

theorem State.suspend_keep (s : State) (k : Nat) (i : Nat) :
    (State.suspend s k i).pending = s.pending ∧ (State.suspend s k i).time = s.time ∧ (State.suspend s k i).dev = s.dev ∧ (State.suspend s k i).fuses = s.fuses ∧ (State.suspend s k i).params = s.params ∧ (State.suspend s k i).host = s.host ∧ (State.suspend s k i).nvm = s.nvm ∧ (State.suspend s k i).land = s.land ∧ (State.suspend s k i).map = s.map ∧ (State.suspend s k i).media = s.media ∧ (State.suspend s k i).cache = s.cache ∧ (State.suspend s k i).plp = s.plp ∧ (State.suspend s k i).dram = s.dram ∧ (State.suspend s k i).pwr = s.pwr ∧ (State.suspend s k i).sec = s.sec ∧ (State.suspend s k i).mgmt = s.mgmt ∧ (State.suspend s k i).naile = s.naile ∧ (State.suspend s k i).nor = s.nor ∧ (State.suspend s k i).tally = s.tally ∧ (State.suspend s k i).bus = s.bus ∧ (State.suspend s k i).free = s.free := by
  generalize hr : State.suspend s k i = r
  simp only [State.suspend] at hr
  repeat' split at hr
  all_goals (subst hr; (simp only [and_self]))

theorem State.resume_keep (s : State) (k : Nat) (i : Nat) :
    (State.resume s k i).pending = s.pending ∧ (State.resume s k i).time = s.time ∧ (State.resume s k i).dev = s.dev ∧ (State.resume s k i).fuses = s.fuses ∧ (State.resume s k i).params = s.params ∧ (State.resume s k i).host = s.host ∧ (State.resume s k i).nvm = s.nvm ∧ (State.resume s k i).land = s.land ∧ (State.resume s k i).map = s.map ∧ (State.resume s k i).media = s.media ∧ (State.resume s k i).cache = s.cache ∧ (State.resume s k i).plp = s.plp ∧ (State.resume s k i).dram = s.dram ∧ (State.resume s k i).pwr = s.pwr ∧ (State.resume s k i).sec = s.sec ∧ (State.resume s k i).mgmt = s.mgmt ∧ (State.resume s k i).naile = s.naile ∧ (State.resume s k i).nor = s.nor ∧ (State.resume s k i).tally = s.tally ∧ (State.resume s k i).bus = s.bus ∧ (State.resume s k i).free = s.free := by
  generalize hr : State.resume s k i = r
  simp only [State.resume] at hr
  repeat' split at hr
  all_goals (subst hr; (simp only [and_self]))

theorem State.nextAction_keep (s : State) (k : Nat) :
    (State.nextAction s k).pending = s.pending ∧ (State.nextAction s k).time = s.time ∧ (State.nextAction s k).dev = s.dev ∧ (State.nextAction s k).fuses = s.fuses ∧ (State.nextAction s k).params = s.params ∧ (State.nextAction s k).host = s.host ∧ (State.nextAction s k).nvm = s.nvm ∧ (State.nextAction s k).land = s.land ∧ (State.nextAction s k).map = s.map ∧ (State.nextAction s k).media = s.media ∧ (State.nextAction s k).cache = s.cache ∧ (State.nextAction s k).plp = s.plp ∧ (State.nextAction s k).dram = s.dram ∧ (State.nextAction s k).pwr = s.pwr ∧ (State.nextAction s k).sec = s.sec ∧ (State.nextAction s k).mgmt = s.mgmt ∧ (State.nextAction s k).naile = s.naile ∧ (State.nextAction s k).nor = s.nor ∧ (State.nextAction s k).tally = s.tally ∧ (State.nextAction s k).bus = s.bus ∧ (State.nextAction s k).free = s.free := by
  generalize hr : State.nextAction s k = r
  simp only [State.nextAction] at hr
  repeat' split at hr
  all_goals (subst hr; (simp only [and_self, (fact @State.issueOp_keep), (fact @State.resume_keep), (fact @State.suspend_keep)]))

theorem State.noteUpset_keep (s : State) (ch : Nat) (die : Nat) (row : Nat) :
    (State.noteUpset s ch die row).pending = s.pending ∧ (State.noteUpset s ch die row).time = s.time ∧ (State.noteUpset s ch die row).dev = s.dev ∧ (State.noteUpset s ch die row).fuses = s.fuses ∧ (State.noteUpset s ch die row).params = s.params ∧ (State.noteUpset s ch die row).host = s.host ∧ (State.noteUpset s ch die row).nvm = s.nvm ∧ (State.noteUpset s ch die row).land = s.land ∧ (State.noteUpset s ch die row).map = s.map ∧ (State.noteUpset s ch die row).media = s.media ∧ (State.noteUpset s ch die row).cache = s.cache ∧ (State.noteUpset s ch die row).plp = s.plp ∧ (State.noteUpset s ch die row).dram = s.dram ∧ (State.noteUpset s ch die row).pwr = s.pwr ∧ (State.noteUpset s ch die row).sec = s.sec ∧ (State.noteUpset s ch die row).mgmt = s.mgmt ∧ (State.noteUpset s ch die row).naile = s.naile ∧ (State.noteUpset s ch die row).nor = s.nor ∧ (State.noteUpset s ch die row).bus = s.bus ∧ (State.noteUpset s ch die row).free = s.free := by
  generalize hr : State.noteUpset s ch die row = r
  simp only [State.noteUpset] at hr
  repeat' split at hr
  all_goals (subst hr; (simp only [and_self, (fact @State.recordHw_calm), sevDebug, sevInfo, sevNotice, sevWarning, sevError, sevCritical, ne_eq, Nat.reduceEqDiff, not_false_eq_true]))

theorem State.badCopy_keep (s : State) (p : Ploc) :
    (State.badCopy s p).pending = s.pending ∧ (State.badCopy s p).time = s.time ∧ (State.badCopy s p).dev = s.dev ∧ (State.badCopy s p).fuses = s.fuses ∧ (State.badCopy s p).params = s.params ∧ (State.badCopy s p).host = s.host ∧ (State.badCopy s p).nvm = s.nvm ∧ (State.badCopy s p).map = s.map ∧ (State.badCopy s p).flash = s.flash ∧ (State.badCopy s p).cache = s.cache ∧ (State.badCopy s p).plp = s.plp ∧ (State.badCopy s p).dram = s.dram ∧ (State.badCopy s p).pwr = s.pwr ∧ (State.badCopy s p).sec = s.sec ∧ (State.badCopy s p).mgmt = s.mgmt ∧ (State.badCopy s p).naile = s.naile ∧ (State.badCopy s p).nor = s.nor ∧ (State.badCopy s p).bus = s.bus ∧ (State.badCopy s p).free = s.free := by
  generalize hr : State.badCopy s p = r
  simp only [State.badCopy] at hr
  repeat' split at hr
  all_goals (subst hr; (simp only [and_self, (fact @State.dropCopies_keep), (fact @State.poisonEvent_calm), sevDebug, sevInfo, sevNotice, sevWarning, sevError, sevCritical, ne_eq, Nat.reduceEqDiff, not_false_eq_true]))

theorem State.dropBadCopies_keep (s : State) (n : Nat) (ps : List Ploc) :
    (State.dropBadCopies s n ps).pending = s.pending ∧ (State.dropBadCopies s n ps).time = s.time ∧ (State.dropBadCopies s n ps).dev = s.dev ∧ (State.dropBadCopies s n ps).fuses = s.fuses ∧ (State.dropBadCopies s n ps).params = s.params ∧ (State.dropBadCopies s n ps).host = s.host ∧ (State.dropBadCopies s n ps).nvm = s.nvm ∧ (State.dropBadCopies s n ps).map = s.map ∧ (State.dropBadCopies s n ps).flash = s.flash ∧ (State.dropBadCopies s n ps).cache = s.cache ∧ (State.dropBadCopies s n ps).plp = s.plp ∧ (State.dropBadCopies s n ps).dram = s.dram ∧ (State.dropBadCopies s n ps).pwr = s.pwr ∧ (State.dropBadCopies s n ps).sec = s.sec ∧ (State.dropBadCopies s n ps).mgmt = s.mgmt ∧ (State.dropBadCopies s n ps).naile = s.naile ∧ (State.dropBadCopies s n ps).nor = s.nor ∧ (State.dropBadCopies s n ps).bus = s.bus ∧ (State.dropBadCopies s n ps).free = s.free := by
  generalize hr : State.dropBadCopies s n ps = r
  simp only [State.dropBadCopies] at hr
  repeat' split at hr
  all_goals (subst hr; (first | (simp only [and_self, (fact @State.badCopy_keep)]; done) | (and_intros <;> (repeat' first | (simp only [and_self, (fact @State.badCopy_keep)]; done) | (simp only [and_self, (fact @State.badCopy_keep)]) | (split at hb) | (subst hb; simp only [and_self, (fact @State.badCopy_keep)]) | (refine (foldl_pending (fun _ _ _ hb => ?_) _ _).trans ?_) | (refine (foldl_time (fun _ _ _ hb => ?_) _ _).trans ?_) | (refine (foldl_dev (fun _ _ _ hb => ?_) _ _).trans ?_) | (refine (foldl_fuses (fun _ _ _ hb => ?_) _ _).trans ?_) | (refine (foldl_params (fun _ _ _ hb => ?_) _ _).trans ?_) | (refine (foldl_host (fun _ _ _ hb => ?_) _ _).trans ?_) | (refine (foldl_nvm (fun _ _ _ hb => ?_) _ _).trans ?_) | (refine (foldl_map (fun _ _ _ hb => ?_) _ _).trans ?_) | (refine (foldl_flash (fun _ _ _ hb => ?_) _ _).trans ?_) | (refine (foldl_cache (fun _ _ _ hb => ?_) _ _).trans ?_) | (refine (foldl_plp (fun _ _ _ hb => ?_) _ _).trans ?_) | (refine (foldl_dram (fun _ _ _ hb => ?_) _ _).trans ?_) | (refine (foldl_pwr (fun _ _ _ hb => ?_) _ _).trans ?_) | (refine (foldl_sec (fun _ _ _ hb => ?_) _ _).trans ?_) | (refine (foldl_mgmt (fun _ _ _ hb => ?_) _ _).trans ?_) | (refine (foldl_naile (fun _ _ _ hb => ?_) _ _).trans ?_) | (refine (foldl_nor (fun _ _ _ hb => ?_) _ _).trans ?_) | (refine (foldl_bus (fun _ _ _ hb => ?_) _ _).trans ?_) | (refine (foldl_free (fun _ _ _ hb => ?_) _ _).trans ?_) | split))))

theorem State.stageMember_keep (s : State) (n : Nat) (ch : Chan) :
    (State.stageMember s n ch).pending = s.pending ∧ (State.stageMember s n ch).time = s.time ∧ (State.stageMember s n ch).dev = s.dev ∧ (State.stageMember s n ch).fuses = s.fuses ∧ (State.stageMember s n ch).params = s.params ∧ (State.stageMember s n ch).host = s.host ∧ (State.stageMember s n ch).nvm = s.nvm ∧ (State.stageMember s n ch).map = s.map ∧ (State.stageMember s n ch).flash = s.flash ∧ (State.stageMember s n ch).cache = s.cache ∧ (State.stageMember s n ch).plp = s.plp ∧ (State.stageMember s n ch).dram = s.dram ∧ (State.stageMember s n ch).pwr = s.pwr ∧ (State.stageMember s n ch).sec = s.sec ∧ (State.stageMember s n ch).mgmt = s.mgmt ∧ (State.stageMember s n ch).naile = s.naile ∧ (State.stageMember s n ch).nor = s.nor ∧ (State.stageMember s n ch).bus = s.bus ∧ (State.stageMember s n ch).free = s.free := by
  generalize hr : State.stageMember s n ch = r
  simp only [State.stageMember] at hr
  repeat' split at hr
  all_goals (subst hr; (first | (simp only [and_self, (fact @State.dropBadCopies_keep), (fact @State.dropCopies_keep)]; done) | (and_intros <;> (repeat' first | (simp only [and_self, (fact @State.dropBadCopies_keep), (fact @State.dropCopies_keep)]; done) | (simp only [and_self, (fact @State.dropBadCopies_keep), (fact @State.dropCopies_keep)]) | (split at hb) | (subst hb; simp only [and_self, (fact @State.dropBadCopies_keep), (fact @State.dropCopies_keep)]) | (refine (foldl_pending (fun _ _ _ hb => ?_) _ _).trans ?_) | (refine (foldl_time (fun _ _ _ hb => ?_) _ _).trans ?_) | (refine (foldl_dev (fun _ _ _ hb => ?_) _ _).trans ?_) | (refine (foldl_fuses (fun _ _ _ hb => ?_) _ _).trans ?_) | (refine (foldl_params (fun _ _ _ hb => ?_) _ _).trans ?_) | (refine (foldl_host (fun _ _ _ hb => ?_) _ _).trans ?_) | (refine (foldl_nvm (fun _ _ _ hb => ?_) _ _).trans ?_) | (refine (foldl_map (fun _ _ _ hb => ?_) _ _).trans ?_) | (refine (foldl_flash (fun _ _ _ hb => ?_) _ _).trans ?_) | (refine (foldl_cache (fun _ _ _ hb => ?_) _ _).trans ?_) | (refine (foldl_plp (fun _ _ _ hb => ?_) _ _).trans ?_) | (refine (foldl_dram (fun _ _ _ hb => ?_) _ _).trans ?_) | (refine (foldl_pwr (fun _ _ _ hb => ?_) _ _).trans ?_) | (refine (foldl_sec (fun _ _ _ hb => ?_) _ _).trans ?_) | (refine (foldl_mgmt (fun _ _ _ hb => ?_) _ _).trans ?_) | (refine (foldl_naile (fun _ _ _ hb => ?_) _ _).trans ?_) | (refine (foldl_nor (fun _ _ _ hb => ?_) _ _).trans ?_) | (refine (foldl_bus (fun _ _ _ hb => ?_) _ _).trans ?_) | (refine (foldl_free (fun _ _ _ hb => ?_) _ _).trans ?_) | split))))

theorem State.refetch_keep (s : State) (n : Nat) (ch : Chan) (p : Ploc) :
    (State.refetch s n ch p).pending = s.pending ∧ (State.refetch s n ch p).time = s.time ∧ (State.refetch s n ch p).dev = s.dev ∧ (State.refetch s n ch p).fuses = s.fuses ∧ (State.refetch s n ch p).params = s.params ∧ (State.refetch s n ch p).nvm = s.nvm ∧ (State.refetch s n ch p).map = s.map ∧ (State.refetch s n ch p).flash = s.flash ∧ (State.refetch s n ch p).plp = s.plp ∧ (State.refetch s n ch p).dram = s.dram ∧ (State.refetch s n ch p).pwr = s.pwr ∧ (State.refetch s n ch p).sec = s.sec ∧ (State.refetch s n ch p).mgmt = s.mgmt ∧ (State.refetch s n ch p).naile = s.naile ∧ (State.refetch s n ch p).nor = s.nor ∧ (State.refetch s n ch p).bus = s.bus ∧ (State.refetch s n ch p).free = s.free := by
  generalize hr : State.refetch s n ch p = r
  simp only [State.refetch] at hr
  repeat' split at hr
  all_goals (subst hr; (simp only [and_self, (fact @State.badCopy_keep), (fact @State.poisonEvent_calm), (fact @State.poisonSlot_keep), sevDebug, sevInfo, sevNotice, sevWarning, sevError, sevCritical, ne_eq, Nat.reduceEqDiff, not_false_eq_true]))

theorem State.sendPage_keep (s : State) (n : Nat) (ch : Chan) :
    (State.sendPage s n ch).pending = s.pending ∧ (State.sendPage s n ch).time = s.time ∧ (State.sendPage s n ch).dev = s.dev ∧ (State.sendPage s n ch).fuses = s.fuses ∧ (State.sendPage s n ch).params = s.params ∧ (State.sendPage s n ch).nvm = s.nvm ∧ (State.sendPage s n ch).map = s.map ∧ (State.sendPage s n ch).flash = s.flash ∧ (State.sendPage s n ch).plp = s.plp ∧ (State.sendPage s n ch).dram = s.dram ∧ (State.sendPage s n ch).pwr = s.pwr ∧ (State.sendPage s n ch).sec = s.sec ∧ (State.sendPage s n ch).mgmt = s.mgmt ∧ (State.sendPage s n ch).naile = s.naile ∧ (State.sendPage s n ch).nor = s.nor ∧ (State.sendPage s n ch).bus = s.bus ∧ (State.sendPage s n ch).free = s.free := by
  have k : ∀ (l : List (Ploc × Nat)) (a : State), (l.foldl (fun (a : State) (e : Ploc × Nat) => a.refetch n ch e.1) a).pending = a.pending ∧ (l.foldl (fun (a : State) (e : Ploc × Nat) => a.refetch n ch e.1) a).time = a.time ∧ (l.foldl (fun (a : State) (e : Ploc × Nat) => a.refetch n ch e.1) a).dev = a.dev ∧ (l.foldl (fun (a : State) (e : Ploc × Nat) => a.refetch n ch e.1) a).fuses = a.fuses ∧ (l.foldl (fun (a : State) (e : Ploc × Nat) => a.refetch n ch e.1) a).params = a.params ∧ (l.foldl (fun (a : State) (e : Ploc × Nat) => a.refetch n ch e.1) a).nvm = a.nvm ∧ (l.foldl (fun (a : State) (e : Ploc × Nat) => a.refetch n ch e.1) a).map = a.map ∧ (l.foldl (fun (a : State) (e : Ploc × Nat) => a.refetch n ch e.1) a).flash = a.flash ∧ (l.foldl (fun (a : State) (e : Ploc × Nat) => a.refetch n ch e.1) a).plp = a.plp ∧ (l.foldl (fun (a : State) (e : Ploc × Nat) => a.refetch n ch e.1) a).dram = a.dram ∧ (l.foldl (fun (a : State) (e : Ploc × Nat) => a.refetch n ch e.1) a).pwr = a.pwr ∧ (l.foldl (fun (a : State) (e : Ploc × Nat) => a.refetch n ch e.1) a).sec = a.sec ∧ (l.foldl (fun (a : State) (e : Ploc × Nat) => a.refetch n ch e.1) a).mgmt = a.mgmt ∧ (l.foldl (fun (a : State) (e : Ploc × Nat) => a.refetch n ch e.1) a).naile = a.naile ∧ (l.foldl (fun (a : State) (e : Ploc × Nat) => a.refetch n ch e.1) a).nor = a.nor ∧ (l.foldl (fun (a : State) (e : Ploc × Nat) => a.refetch n ch e.1) a).bus = a.bus ∧ (l.foldl (fun (a : State) (e : Ploc × Nat) => a.refetch n ch e.1) a).free = a.free := by
    intro l
    induction l with
    | nil => intro a; simp only [List.foldl_nil, and_self]
    | cons x t ih => intro a; simp only [List.foldl_cons, ih, (fact @State.refetch_keep), and_self]
  simp only [State.sendPage, (fact @State.freeThese_keep), k, and_self]

theorem State.tidyCopies_keep (s : State) :
    (State.tidyCopies s).pending = s.pending ∧ (State.tidyCopies s).time = s.time ∧ (State.tidyCopies s).dev = s.dev ∧ (State.tidyCopies s).fuses = s.fuses ∧ (State.tidyCopies s).params = s.params ∧ (State.tidyCopies s).host = s.host ∧ (State.tidyCopies s).nvm = s.nvm ∧ (State.tidyCopies s).map = s.map ∧ (State.tidyCopies s).flash = s.flash ∧ (State.tidyCopies s).cache = s.cache ∧ (State.tidyCopies s).plp = s.plp ∧ (State.tidyCopies s).dram = s.dram ∧ (State.tidyCopies s).pwr = s.pwr ∧ (State.tidyCopies s).sec = s.sec ∧ (State.tidyCopies s).mgmt = s.mgmt ∧ (State.tidyCopies s).naile = s.naile ∧ (State.tidyCopies s).nor = s.nor ∧ (State.tidyCopies s).bus = s.bus ∧ (State.tidyCopies s).free = s.free := by
  generalize hr : State.tidyCopies s = r
  simp only [State.tidyCopies] at hr
  repeat' split at hr
  all_goals (subst hr; (first | (simp only [and_self, (fact @State.badCopy_keep), (fact @State.dropCopies_keep), (fact @State.freeThese_keep)]; done) | (and_intros <;> (repeat' first | (simp only [and_self, (fact @State.badCopy_keep), (fact @State.dropCopies_keep), (fact @State.freeThese_keep)]; done) | (simp only [and_self, (fact @State.badCopy_keep), (fact @State.dropCopies_keep), (fact @State.freeThese_keep)]) | (split at hb) | (subst hb; simp only [and_self, (fact @State.badCopy_keep), (fact @State.dropCopies_keep), (fact @State.freeThese_keep)]) | (refine (foldl_pending (fun _ _ _ hb => ?_) _ _).trans ?_) | (refine (foldl_time (fun _ _ _ hb => ?_) _ _).trans ?_) | (refine (foldl_dev (fun _ _ _ hb => ?_) _ _).trans ?_) | (refine (foldl_fuses (fun _ _ _ hb => ?_) _ _).trans ?_) | (refine (foldl_params (fun _ _ _ hb => ?_) _ _).trans ?_) | (refine (foldl_host (fun _ _ _ hb => ?_) _ _).trans ?_) | (refine (foldl_nvm (fun _ _ _ hb => ?_) _ _).trans ?_) | (refine (foldl_map (fun _ _ _ hb => ?_) _ _).trans ?_) | (refine (foldl_flash (fun _ _ _ hb => ?_) _ _).trans ?_) | (refine (foldl_cache (fun _ _ _ hb => ?_) _ _).trans ?_) | (refine (foldl_plp (fun _ _ _ hb => ?_) _ _).trans ?_) | (refine (foldl_dram (fun _ _ _ hb => ?_) _ _).trans ?_) | (refine (foldl_pwr (fun _ _ _ hb => ?_) _ _).trans ?_) | (refine (foldl_sec (fun _ _ _ hb => ?_) _ _).trans ?_) | (refine (foldl_mgmt (fun _ _ _ hb => ?_) _ _).trans ?_) | (refine (foldl_naile (fun _ _ _ hb => ?_) _ _).trans ?_) | (refine (foldl_nor (fun _ _ _ hb => ?_) _ _).trans ?_) | (refine (foldl_bus (fun _ _ _ hb => ?_) _ _).trans ?_) | (refine (foldl_free (fun _ _ _ hb => ?_) _ _).trans ?_) | split))))

theorem State.forceLast_keep (s : State) :
    (State.forceLast s).pending = s.pending ∧ (State.forceLast s).time = s.time ∧ (State.forceLast s).dev = s.dev ∧ (State.forceLast s).fuses = s.fuses ∧ (State.forceLast s).params = s.params ∧ (State.forceLast s).host = s.host ∧ (State.forceLast s).nvm = s.nvm ∧ (State.forceLast s).map = s.map ∧ (State.forceLast s).plp = s.plp ∧ (State.forceLast s).dram = s.dram ∧ (State.forceLast s).pwr = s.pwr ∧ (State.forceLast s).sec = s.sec ∧ (State.forceLast s).mgmt = s.mgmt ∧ (State.forceLast s).naile = s.naile ∧ (State.forceLast s).nor = s.nor ∧ (State.forceLast s).bus = s.bus ∧ (State.forceLast s).free = s.free := by
  generalize hr : State.forceLast s = r
  simp only [State.forceLast] at hr
  repeat' split at hr
  all_goals (subst hr; (simp only [and_self, (fact @State.forceSets_keep), (fact @State.tidyCopies_keep)]))

theorem State.rawData_keep (s : State) (f : Frame) (p : Ploc) (offset : Nat) (length : Nat) :
    (State.rawData s f p offset length).pending = s.pending ∧ (State.rawData s f p offset length).time = s.time ∧ (State.rawData s f p offset length).dev = s.dev ∧ (State.rawData s f p offset length).fuses = s.fuses ∧ (State.rawData s f p offset length).params = s.params ∧ (State.rawData s f p offset length).host = s.host ∧ (State.rawData s f p offset length).nvm = s.nvm ∧ (State.rawData s f p offset length).land = s.land ∧ (State.rawData s f p offset length).map = s.map ∧ (State.rawData s f p offset length).media = s.media ∧ (State.rawData s f p offset length).flash = s.flash ∧ (State.rawData s f p offset length).cache = s.cache ∧ (State.rawData s f p offset length).plp = s.plp ∧ (State.rawData s f p offset length).dram = s.dram ∧ (State.rawData s f p offset length).pwr = s.pwr ∧ (State.rawData s f p offset length).sec = s.sec ∧ (State.rawData s f p offset length).mgmt = s.mgmt ∧ (State.rawData s f p offset length).nor = s.nor ∧ (State.rawData s f p offset length).tally = s.tally ∧ (State.rawData s f p offset length).bus = s.bus ∧ (State.rawData s f p offset length).free = s.free := by
  generalize hr : State.rawData s f p offset length = r
  simp only [State.rawData] at hr
  repeat' split at hr
  all_goals (subst hr; (simp only [and_self, (fact @State.naileOk_keep)]))

theorem State.queueChanges_keep (s : State) (why : GroupWhy) (cs : List GranChange) :
    (State.queueChanges s why cs).pending = s.pending ∧ (State.queueChanges s why cs).time = s.time ∧ (State.queueChanges s why cs).dev = s.dev ∧ (State.queueChanges s why cs).fuses = s.fuses ∧ (State.queueChanges s why cs).params = s.params ∧ (State.queueChanges s why cs).host = s.host ∧ (State.queueChanges s why cs).nvm = s.nvm ∧ (State.queueChanges s why cs).land = s.land ∧ (State.queueChanges s why cs).media = s.media ∧ (State.queueChanges s why cs).flash = s.flash ∧ (State.queueChanges s why cs).cache = s.cache ∧ (State.queueChanges s why cs).plp = s.plp ∧ (State.queueChanges s why cs).dram = s.dram ∧ (State.queueChanges s why cs).pwr = s.pwr ∧ (State.queueChanges s why cs).sec = s.sec ∧ (State.queueChanges s why cs).mgmt = s.mgmt ∧ (State.queueChanges s why cs).naile = s.naile ∧ (State.queueChanges s why cs).nor = s.nor ∧ (State.queueChanges s why cs).tally = s.tally ∧ (State.queueChanges s why cs).bus = s.bus ∧ (State.queueChanges s why cs).free = s.free := by
  generalize hr : State.queueChanges s why cs = r
  simp only [State.queueChanges] at hr
  repeat' split at hr
  all_goals (subst hr; (first | (simp only [and_self, (fact @State.queueGroup_keep)]; done) | (and_intros <;> (repeat' first | (simp only [and_self, (fact @State.queueGroup_keep)]; done) | (simp only [and_self, (fact @State.queueGroup_keep)]) | (split at hb) | (subst hb; simp only [and_self, (fact @State.queueGroup_keep)]) | (refine (foldl_pending (fun _ _ _ hb => ?_) _ _).trans ?_) | (refine (foldl_time (fun _ _ _ hb => ?_) _ _).trans ?_) | (refine (foldl_dev (fun _ _ _ hb => ?_) _ _).trans ?_) | (refine (foldl_fuses (fun _ _ _ hb => ?_) _ _).trans ?_) | (refine (foldl_params (fun _ _ _ hb => ?_) _ _).trans ?_) | (refine (foldl_host (fun _ _ _ hb => ?_) _ _).trans ?_) | (refine (foldl_nvm (fun _ _ _ hb => ?_) _ _).trans ?_) | (refine (foldl_land (fun _ _ _ hb => ?_) _ _).trans ?_) | (refine (foldl_media (fun _ _ _ hb => ?_) _ _).trans ?_) | (refine (foldl_flash (fun _ _ _ hb => ?_) _ _).trans ?_) | (refine (foldl_cache (fun _ _ _ hb => ?_) _ _).trans ?_) | (refine (foldl_plp (fun _ _ _ hb => ?_) _ _).trans ?_) | (refine (foldl_dram (fun _ _ _ hb => ?_) _ _).trans ?_) | (refine (foldl_pwr (fun _ _ _ hb => ?_) _ _).trans ?_) | (refine (foldl_sec (fun _ _ _ hb => ?_) _ _).trans ?_) | (refine (foldl_mgmt (fun _ _ _ hb => ?_) _ _).trans ?_) | (refine (foldl_naile (fun _ _ _ hb => ?_) _ _).trans ?_) | (refine (foldl_nor (fun _ _ _ hb => ?_) _ _).trans ?_) | (refine (foldl_tally (fun _ _ _ hb => ?_) _ _).trans ?_) | (refine (foldl_bus (fun _ _ _ hb => ?_) _ _).trans ?_) | (refine (foldl_free (fun _ _ _ hb => ?_) _ _).trans ?_) | split))))

theorem State.poisonAt_keep (s : State) (p : Ploc) :
    (State.poisonAt s p).pending = s.pending ∧ (State.poisonAt s p).time = s.time ∧ (State.poisonAt s p).dev = s.dev ∧ (State.poisonAt s p).fuses = s.fuses ∧ (State.poisonAt s p).params = s.params ∧ (State.poisonAt s p).host = s.host ∧ (State.poisonAt s p).nvm = s.nvm ∧ (State.poisonAt s p).land = s.land ∧ (State.poisonAt s p).media = s.media ∧ (State.poisonAt s p).flash = s.flash ∧ (State.poisonAt s p).cache = s.cache ∧ (State.poisonAt s p).plp = s.plp ∧ (State.poisonAt s p).dram = s.dram ∧ (State.poisonAt s p).pwr = s.pwr ∧ (State.poisonAt s p).sec = s.sec ∧ (State.poisonAt s p).mgmt = s.mgmt ∧ (State.poisonAt s p).naile = s.naile ∧ (State.poisonAt s p).nor = s.nor ∧ (State.poisonAt s p).tally = s.tally ∧ (State.poisonAt s p).bus = s.bus ∧ (State.poisonAt s p).free = s.free := by
  generalize hr : State.poisonAt s p = r
  simp only [State.poisonAt] at hr
  repeat' split at hr
  all_goals (subst hr; (simp only [and_self, (fact @State.queueChanges_keep)]))

theorem State.poisonLeafPage_keep (s : State) (lpn : Nat) :
    (State.poisonLeafPage s lpn).pending = s.pending ∧ (State.poisonLeafPage s lpn).time = s.time ∧ (State.poisonLeafPage s lpn).dev = s.dev ∧ (State.poisonLeafPage s lpn).fuses = s.fuses ∧ (State.poisonLeafPage s lpn).params = s.params ∧ (State.poisonLeafPage s lpn).host = s.host ∧ (State.poisonLeafPage s lpn).nvm = s.nvm ∧ (State.poisonLeafPage s lpn).land = s.land ∧ (State.poisonLeafPage s lpn).media = s.media ∧ (State.poisonLeafPage s lpn).flash = s.flash ∧ (State.poisonLeafPage s lpn).cache = s.cache ∧ (State.poisonLeafPage s lpn).plp = s.plp ∧ (State.poisonLeafPage s lpn).dram = s.dram ∧ (State.poisonLeafPage s lpn).pwr = s.pwr ∧ (State.poisonLeafPage s lpn).sec = s.sec ∧ (State.poisonLeafPage s lpn).mgmt = s.mgmt ∧ (State.poisonLeafPage s lpn).naile = s.naile ∧ (State.poisonLeafPage s lpn).nor = s.nor ∧ (State.poisonLeafPage s lpn).tally = s.tally ∧ (State.poisonLeafPage s lpn).bus = s.bus ∧ (State.poisonLeafPage s lpn).free = s.free := by
  generalize hr : State.poisonLeafPage s lpn = r
  simp only [State.poisonLeafPage] at hr
  repeat' split at hr
  all_goals (subst hr; (simp only [and_self, (fact @State.queueChanges_keep)]))

theorem State.repaired_keep (s : State) (g : Grove) (key : Nat) :
    (State.repaired s g key).pending = s.pending ∧ (State.repaired s g key).time = s.time ∧ (State.repaired s g key).dev = s.dev ∧ (State.repaired s g key).fuses = s.fuses ∧ (State.repaired s g key).params = s.params ∧ (State.repaired s g key).host = s.host ∧ (State.repaired s g key).nvm = s.nvm ∧ (State.repaired s g key).land = s.land ∧ (State.repaired s g key).media = s.media ∧ (State.repaired s g key).flash = s.flash ∧ (State.repaired s g key).cache = s.cache ∧ (State.repaired s g key).plp = s.plp ∧ (State.repaired s g key).dram = s.dram ∧ (State.repaired s g key).pwr = s.pwr ∧ (State.repaired s g key).sec = s.sec ∧ (State.repaired s g key).mgmt = s.mgmt ∧ (State.repaired s g key).naile = s.naile ∧ (State.repaired s g key).nor = s.nor ∧ (State.repaired s g key).tally = s.tally ∧ (State.repaired s g key).bus = s.bus ∧ (State.repaired s g key).free = s.free := by
  generalize hr : State.repaired s g key = r
  simp only [State.repaired] at hr
  repeat' split at hr
  all_goals (subst hr; (simp only [and_self]))

theorem State.slabLost_keep (s : State) (g : Grove) (key : Nat) :
    (State.slabLost s g key).pending = s.pending ∧ (State.slabLost s g key).time = s.time ∧ (State.slabLost s g key).dev = s.dev ∧ (State.slabLost s g key).fuses = s.fuses ∧ (State.slabLost s g key).params = s.params ∧ (State.slabLost s g key).host = s.host ∧ (State.slabLost s g key).nvm = s.nvm ∧ (State.slabLost s g key).land = s.land ∧ (State.slabLost s g key).media = s.media ∧ (State.slabLost s g key).flash = s.flash ∧ (State.slabLost s g key).cache = s.cache ∧ (State.slabLost s g key).plp = s.plp ∧ (State.slabLost s g key).dram = s.dram ∧ (State.slabLost s g key).pwr = s.pwr ∧ (State.slabLost s g key).sec = s.sec ∧ (State.slabLost s g key).mgmt = s.mgmt ∧ (State.slabLost s g key).naile = s.naile ∧ (State.slabLost s g key).nor = s.nor ∧ (State.slabLost s g key).bus = s.bus ∧ (State.slabLost s g key).free = s.free := by
  generalize hr : State.slabLost s g key = r
  simp only [State.slabLost] at hr
  repeat' split at hr
  all_goals (subst hr; (simp only [and_self, (fact @State.queueFirst_keep), (fact @State.recordHw_calm), (fact @State.repaired_keep), sevDebug, sevInfo, sevNotice, sevWarning, sevError, sevCritical, ne_eq, Nat.reduceEqDiff, not_false_eq_true]))

theorem State.lostRepaired_keep (s : State) (g : Grove) :
    (State.lostRepaired s g).pending = s.pending ∧ (State.lostRepaired s g).time = s.time ∧ (State.lostRepaired s g).dev = s.dev ∧ (State.lostRepaired s g).fuses = s.fuses ∧ (State.lostRepaired s g).params = s.params ∧ (State.lostRepaired s g).host = s.host ∧ (State.lostRepaired s g).nvm = s.nvm ∧ (State.lostRepaired s g).land = s.land ∧ (State.lostRepaired s g).media = s.media ∧ (State.lostRepaired s g).flash = s.flash ∧ (State.lostRepaired s g).cache = s.cache ∧ (State.lostRepaired s g).plp = s.plp ∧ (State.lostRepaired s g).dram = s.dram ∧ (State.lostRepaired s g).pwr = s.pwr ∧ (State.lostRepaired s g).sec = s.sec ∧ (State.lostRepaired s g).mgmt = s.mgmt ∧ (State.lostRepaired s g).naile = s.naile ∧ (State.lostRepaired s g).nor = s.nor ∧ (State.lostRepaired s g).tally = s.tally ∧ (State.lostRepaired s g).bus = s.bus ∧ (State.lostRepaired s g).free = s.free := by
  generalize hr : State.lostRepaired s g = r
  simp only [State.lostRepaired] at hr
  repeat' split at hr
  all_goals (subst hr; (simp only [and_self]))

theorem State.donePos_keep (s : State) (i : Nat) (pos : Nat) :
    (State.donePos s i pos).pending = s.pending ∧ (State.donePos s i pos).time = s.time ∧ (State.donePos s i pos).dev = s.dev ∧ (State.donePos s i pos).fuses = s.fuses ∧ (State.donePos s i pos).params = s.params ∧ (State.donePos s i pos).host = s.host ∧ (State.donePos s i pos).nvm = s.nvm ∧ (State.donePos s i pos).map = s.map ∧ (State.donePos s i pos).media = s.media ∧ (State.donePos s i pos).cache = s.cache ∧ (State.donePos s i pos).plp = s.plp ∧ (State.donePos s i pos).dram = s.dram ∧ (State.donePos s i pos).pwr = s.pwr ∧ (State.donePos s i pos).sec = s.sec ∧ (State.donePos s i pos).mgmt = s.mgmt ∧ (State.donePos s i pos).naile = s.naile ∧ (State.donePos s i pos).nor = s.nor ∧ (State.donePos s i pos).bus = s.bus ∧ (State.donePos s i pos).free = s.free := by
  generalize hr : State.donePos s i pos = r
  simp only [State.donePos] at hr
  repeat' split at hr
  all_goals (subst hr; (simp only [and_self, (fact @State.dropOp_keep)]))

theorem State.issueFor_keep (s : State) (o : DieOp) (w : OpFor) :
    (State.issueFor s o w).pending = s.pending ∧ (State.issueFor s o w).time = s.time ∧ (State.issueFor s o w).dev = s.dev ∧ (State.issueFor s o w).fuses = s.fuses ∧ (State.issueFor s o w).params = s.params ∧ (State.issueFor s o w).host = s.host ∧ (State.issueFor s o w).nvm = s.nvm ∧ (State.issueFor s o w).map = s.map ∧ (State.issueFor s o w).media = s.media ∧ (State.issueFor s o w).cache = s.cache ∧ (State.issueFor s o w).plp = s.plp ∧ (State.issueFor s o w).dram = s.dram ∧ (State.issueFor s o w).pwr = s.pwr ∧ (State.issueFor s o w).sec = s.sec ∧ (State.issueFor s o w).mgmt = s.mgmt ∧ (State.issueFor s o w).naile = s.naile ∧ (State.issueFor s o w).nor = s.nor ∧ (State.issueFor s o w).tally = s.tally ∧ (State.issueFor s o w).bus = s.bus ∧ (State.issueFor s o w).free = s.free := by
  generalize hr : State.issueFor s o w = r
  simp only [State.issueFor] at hr
  repeat' split at hr
  all_goals (subst hr; (simp only [and_self, (fact @State.issueRead_keep)]))

theorem State.forkPos_keep (s : State) (i : Nat) (pos : Nat) (step : Nat) (stage : OpStage) :
    (State.forkPos s i pos step stage).pending = s.pending ∧ (State.forkPos s i pos step stage).time = s.time ∧ (State.forkPos s i pos step stage).dev = s.dev ∧ (State.forkPos s i pos step stage).fuses = s.fuses ∧ (State.forkPos s i pos step stage).params = s.params ∧ (State.forkPos s i pos step stage).host = s.host ∧ (State.forkPos s i pos step stage).nvm = s.nvm ∧ (State.forkPos s i pos step stage).map = s.map ∧ (State.forkPos s i pos step stage).media = s.media ∧ (State.forkPos s i pos step stage).cache = s.cache ∧ (State.forkPos s i pos step stage).plp = s.plp ∧ (State.forkPos s i pos step stage).dram = s.dram ∧ (State.forkPos s i pos step stage).pwr = s.pwr ∧ (State.forkPos s i pos step stage).sec = s.sec ∧ (State.forkPos s i pos step stage).mgmt = s.mgmt ∧ (State.forkPos s i pos step stage).naile = s.naile ∧ (State.forkPos s i pos step stage).nor = s.nor ∧ (State.forkPos s i pos step stage).bus = s.bus ∧ (State.forkPos s i pos step stage).free = s.free := by
  generalize hr : State.forkPos s i pos step stage = r
  simp only [State.forkPos] at hr
  repeat' split at hr
  all_goals (subst hr; (simp only [and_self, (fact @State.donePos_keep), (fact @State.issueFor_keep)]))

theorem State.landCw_keep (s : State) (cord : Option Nat) (b : Option Block) :
    (State.landCw s cord b).pending = s.pending ∧ (State.landCw s cord b).time = s.time ∧ (State.landCw s cord b).dev = s.dev ∧ (State.landCw s cord b).fuses = s.fuses ∧ (State.landCw s cord b).params = s.params ∧ (State.landCw s cord b).host = s.host ∧ (State.landCw s cord b).nvm = s.nvm ∧ (State.landCw s cord b).map = s.map ∧ (State.landCw s cord b).media = s.media ∧ (State.landCw s cord b).flash = s.flash ∧ (State.landCw s cord b).cache = s.cache ∧ (State.landCw s cord b).plp = s.plp ∧ (State.landCw s cord b).dram = s.dram ∧ (State.landCw s cord b).pwr = s.pwr ∧ (State.landCw s cord b).sec = s.sec ∧ (State.landCw s cord b).mgmt = s.mgmt ∧ (State.landCw s cord b).naile = s.naile ∧ (State.landCw s cord b).nor = s.nor ∧ (State.landCw s cord b).tally = s.tally ∧ (State.landCw s cord b).bus = s.bus ∧ (State.landCw s cord b).free = s.free := by
  generalize hr : State.landCw s cord b = r
  simp only [State.landCw] at hr
  repeat' split at hr
  all_goals (subst hr; (simp only [and_self]))

theorem State.toTag_keep (s : State) (tag : Nat) (lba : Nat) (r : Option Block) :
    (State.toTag s tag lba r).pending = s.pending ∧ (State.toTag s tag lba r).time = s.time ∧ (State.toTag s tag lba r).dev = s.dev ∧ (State.toTag s tag lba r).fuses = s.fuses ∧ (State.toTag s tag lba r).params = s.params ∧ (State.toTag s tag lba r).map = s.map ∧ (State.toTag s tag lba r).media = s.media ∧ (State.toTag s tag lba r).flash = s.flash ∧ (State.toTag s tag lba r).cache = s.cache ∧ (State.toTag s tag lba r).plp = s.plp ∧ (State.toTag s tag lba r).dram = s.dram ∧ (State.toTag s tag lba r).pwr = s.pwr ∧ (State.toTag s tag lba r).sec = s.sec ∧ (State.toTag s tag lba r).mgmt = s.mgmt ∧ (State.toTag s tag lba r).naile = s.naile ∧ (State.toTag s tag lba r).nor = s.nor ∧ (State.toTag s tag lba r).bus = s.bus ∧ (State.toTag s tag lba r).free = s.free := by
  generalize hr : State.toTag s tag lba r = r
  simp only [State.toTag] at hr
  repeat' split at hr
  all_goals (subst hr; (simp only [and_self, (fact @State.modTag_keep), (fact @State.readArrived_keep)]))

theorem State.deliverData_keep (s : State) (i : Nat) (pos : Nat) :
    (State.deliverData s i pos).pending = s.pending ∧ (State.deliverData s i pos).time = s.time ∧ (State.deliverData s i pos).dev = s.dev ∧ (State.deliverData s i pos).fuses = s.fuses ∧ (State.deliverData s i pos).params = s.params ∧ (State.deliverData s i pos).plp = s.plp ∧ (State.deliverData s i pos).dram = s.dram ∧ (State.deliverData s i pos).pwr = s.pwr ∧ (State.deliverData s i pos).sec = s.sec ∧ (State.deliverData s i pos).mgmt = s.mgmt ∧ (State.deliverData s i pos).naile = s.naile ∧ (State.deliverData s i pos).nor = s.nor ∧ (State.deliverData s i pos).bus = s.bus ∧ (State.deliverData s i pos).free = s.free := by
  generalize hr : State.deliverData s i pos = r
  simp only [State.deliverData] at hr
  repeat' split at hr
  all_goals (subst hr; (simp only [and_self, (fact @State.donePos_keep), (fact @State.forceLast_keep), (fact @State.landCw_keep), (fact @State.modTag_keep), (fact @State.poisonEvent_calm), (fact @State.repaired_keep), (fact @State.resumeReads_keep), (fact @State.toTag_keep), sevDebug, sevInfo, sevNotice, sevWarning, sevError, sevCritical, ne_eq, Nat.reduceEqDiff, not_false_eq_true]))

theorem State.stepSix_keep (s : State) (o : DieOp) :
    (State.stepSix s o).pending = s.pending ∧ (State.stepSix s o).time = s.time ∧ (State.stepSix s o).dev = s.dev ∧ (State.stepSix s o).fuses = s.fuses ∧ (State.stepSix s o).params = s.params ∧ (State.stepSix s o).host = s.host ∧ (State.stepSix s o).nvm = s.nvm ∧ (State.stepSix s o).land = s.land ∧ (State.stepSix s o).map = s.map ∧ (State.stepSix s o).media = s.media ∧ (State.stepSix s o).cache = s.cache ∧ (State.stepSix s o).plp = s.plp ∧ (State.stepSix s o).dram = s.dram ∧ (State.stepSix s o).pwr = s.pwr ∧ (State.stepSix s o).sec = s.sec ∧ (State.stepSix s o).mgmt = s.mgmt ∧ (State.stepSix s o).naile = s.naile ∧ (State.stepSix s o).nor = s.nor ∧ (State.stepSix s o).bus = s.bus ∧ (State.stepSix s o).free = s.free := by
  generalize hr : State.stepSix s o = r
  simp only [State.stepSix] at hr
  repeat' split at hr
  all_goals (subst hr; (simp only [and_self, (fact @State.recordHw_calm), sevDebug, sevInfo, sevNotice, sevWarning, sevError, sevCritical, ne_eq, Nat.reduceEqDiff, not_false_eq_true]))

theorem State.leafFaults_keep (s : State) (lpn : Nat) : (s.leafFaults lpn).pending = s.pending ∧ (s.leafFaults lpn).time = s.time ∧ (s.leafFaults lpn).dev = s.dev ∧ (s.leafFaults lpn).fuses = s.fuses ∧ (s.leafFaults lpn).params = s.params ∧ (s.leafFaults lpn).media = s.media ∧ (s.leafFaults lpn).flash = s.flash ∧ (s.leafFaults lpn).cache = s.cache ∧ (s.leafFaults lpn).plp = s.plp ∧ (s.leafFaults lpn).dram = s.dram ∧ (s.leafFaults lpn).pwr = s.pwr ∧ (s.leafFaults lpn).sec = s.sec ∧ (s.leafFaults lpn).mgmt = s.mgmt ∧ (s.leafFaults lpn).naile = s.naile ∧ (s.leafFaults lpn).nor = s.nor ∧ (s.leafFaults lpn).bus = s.bus ∧ (s.leafFaults lpn).free = s.free := by
  rw [State.leafFaults]
  refine ktrans_7 (kfold_7 (fun a e b hb => ?_) _ _) (by and_intros <;> rfl)
  subst hb
  refine kfold_7 (fun a l b hb => ?_) _ _
  subst hb
  simp only [(fact @State.toTag_keep), and_self]


theorem State.readSlab_keep (s : State) (g : Grove) (key : Nat) :
    (State.readSlab s g key).pending = s.pending ∧ (State.readSlab s g key).time = s.time ∧ (State.readSlab s g key).dev = s.dev ∧ (State.readSlab s g key).fuses = s.fuses ∧ (State.readSlab s g key).params = s.params ∧ (State.readSlab s g key).host = s.host ∧ (State.readSlab s g key).nvm = s.nvm ∧ (State.readSlab s g key).map = s.map ∧ (State.readSlab s g key).media = s.media ∧ (State.readSlab s g key).cache = s.cache ∧ (State.readSlab s g key).plp = s.plp ∧ (State.readSlab s g key).dram = s.dram ∧ (State.readSlab s g key).pwr = s.pwr ∧ (State.readSlab s g key).sec = s.sec ∧ (State.readSlab s g key).mgmt = s.mgmt ∧ (State.readSlab s g key).naile = s.naile ∧ (State.readSlab s g key).nor = s.nor ∧ (State.readSlab s g key).tally = s.tally ∧ (State.readSlab s g key).bus = s.bus ∧ (State.readSlab s g key).free = s.free := by
  generalize hr : State.readSlab s g key = r
  simp only [State.readSlab] at hr
  repeat' split at hr
  all_goals (subst hr; (simp only [and_self, (fact @State.issueRead_keep)]))

theorem State.uncorrectable_keep (s : State) (i pos : Nat) :
    (s.uncorrectable i pos).pending = s.pending ∧ (s.uncorrectable i pos).time = s.time ∧ (s.uncorrectable i pos).dev = s.dev ∧ (s.uncorrectable i pos).fuses = s.fuses ∧ (s.uncorrectable i pos).params = s.params ∧ (s.uncorrectable i pos).plp = s.plp ∧ (s.uncorrectable i pos).dram = s.dram ∧ (s.uncorrectable i pos).pwr = s.pwr ∧ (s.uncorrectable i pos).sec = s.sec ∧ (s.uncorrectable i pos).mgmt = s.mgmt ∧ (s.uncorrectable i pos).naile = s.naile ∧ (s.uncorrectable i pos).nor = s.nor ∧ (s.uncorrectable i pos).bus = s.bus ∧ (s.uncorrectable i pos).free = s.free := by
  generalize hr : s.uncorrectable i pos = r
  unfold State.uncorrectable at hr
  split at hr
  · subst hr; (and_intros <;> rfl)
  next o _ =>
    extract_lets p s2 s3 s4 at hr
    have h1 : s2.pending = s.pending ∧ s2.time = s.time ∧ s2.dev = s.dev ∧ s2.fuses = s.fuses ∧ s2.params = s.params ∧ s2.plp = s.plp ∧ s2.dram = s.dram ∧ s2.pwr = s.pwr ∧ s2.sec = s.sec ∧ s2.mgmt = s.mgmt ∧ s2.naile = s.naile ∧ s2.nor = s.nor ∧ s2.bus = s.bus ∧ s2.free = s.free := by simp only [s2, (fact @State.stepSix_keep), and_self]
    have h2 : s3.pending = s2.pending ∧ s3.time = s2.time ∧ s3.dev = s2.dev ∧ s3.fuses = s2.fuses ∧ s3.params = s2.params ∧ s3.plp = s2.plp ∧ s3.dram = s2.dram ∧ s3.pwr = s2.pwr ∧ s3.sec = s2.sec ∧ s3.mgmt = s2.mgmt ∧ s3.naile = s2.naile ∧ s3.nor = s2.nor ∧ s3.bus = s2.bus ∧ s3.free = s2.free := by
      simp only [s3, (fact @State.wantRelocation_keep)]
      split <;> simp only [(fact @State.poisonAt_keep), and_self]
    have h3 : s4.pending = s3.pending ∧ s4.time = s3.time ∧ s4.dev = s3.dev ∧ s4.fuses = s3.fuses ∧ s4.params = s3.params ∧ s4.plp = s3.plp ∧ s4.dram = s3.dram ∧ s4.pwr = s3.pwr ∧ s4.sec = s3.sec ∧ s4.mgmt = s3.mgmt ∧ s4.naile = s3.naile ∧ s4.nor = s3.nor ∧ s4.bus = s3.bus ∧ s4.free = s3.free := by simp only [s4, (fact @State.donePos_keep), and_self]
    simp only [h1] at h2
    simp only [h2] at h3
    repeat' split at hr
    all_goals (subst hr; simp only [(fact @State.toTag_keep), (fact @State.leafFaults_keep), (fact @State.readSlab_keep), (fact @State.poisonLeafPage_keep), (fact @State.slabLost_keep), (fact @State.resumeReads_keep), (fact @State.forceLast_keep), (fact @State.recordHw_calm), (fact @State.donePos_keep), sevInfo, sevNotice, sevWarning, sevError, sevCritical, ne_eq, Nat.reduceEqDiff, not_false_eq_true, h2, h3, and_self])


theorem State.beginRecon_keep (s : State) (i : Nat) (o : DieOp) :
    (State.beginRecon s i o).pending = s.pending ∧ (State.beginRecon s i o).time = s.time ∧ (State.beginRecon s i o).dev = s.dev ∧ (State.beginRecon s i o).fuses = s.fuses ∧ (State.beginRecon s i o).params = s.params ∧ (State.beginRecon s i o).host = s.host ∧ (State.beginRecon s i o).nvm = s.nvm ∧ (State.beginRecon s i o).land = s.land ∧ (State.beginRecon s i o).map = s.map ∧ (State.beginRecon s i o).media = s.media ∧ (State.beginRecon s i o).cache = s.cache ∧ (State.beginRecon s i o).plp = s.plp ∧ (State.beginRecon s i o).dram = s.dram ∧ (State.beginRecon s i o).pwr = s.pwr ∧ (State.beginRecon s i o).sec = s.sec ∧ (State.beginRecon s i o).mgmt = s.mgmt ∧ (State.beginRecon s i o).naile = s.naile ∧ (State.beginRecon s i o).nor = s.nor ∧ (State.beginRecon s i o).bus = s.bus ∧ (State.beginRecon s i o).free = s.free := by
  generalize hr : State.beginRecon s i o = r
  simp only [State.beginRecon] at hr
  repeat' split at hr
  all_goals (subst hr; (simp only [and_self, (fact @State.recordHw_calm), sevDebug, sevInfo, sevNotice, sevWarning, sevError, sevCritical, ne_eq, Nat.reduceEqDiff, not_false_eq_true]))

theorem State.reconRead_keep (s : State) (i : Nat) (o : DieOp) (pos x : Nat) :
    (s.reconRead i o pos x).pending = s.pending ∧ (s.reconRead i o pos x).time = s.time ∧ (s.reconRead i o pos x).dev = s.dev ∧ (s.reconRead i o pos x).fuses = s.fuses ∧ (s.reconRead i o pos x).params = s.params ∧ (s.reconRead i o pos x).host = s.host ∧ (s.reconRead i o pos x).nvm = s.nvm ∧ (s.reconRead i o pos x).map = s.map ∧ (s.reconRead i o pos x).media = s.media ∧ (s.reconRead i o pos x).cache = s.cache ∧ (s.reconRead i o pos x).plp = s.plp ∧ (s.reconRead i o pos x).dram = s.dram ∧ (s.reconRead i o pos x).pwr = s.pwr ∧ (s.reconRead i o pos x).sec = s.sec ∧ (s.reconRead i o pos x).mgmt = s.mgmt ∧ (s.reconRead i o pos x).naile = s.naile ∧ (s.reconRead i o pos x).nor = s.nor ∧ (s.reconRead i o pos x).tally = s.tally ∧ (s.reconRead i o pos x).bus = s.bus ∧ (s.reconRead i o pos x).free = s.free := by
  rw [State.reconRead]
  exact kflash_8 _ (by simp only [(fact @State.issueFor_keep), and_self])


theorem State.waitChannels_keep (s : State) (i : Nat) :
    (State.waitChannels s i).pending = s.pending ∧ (State.waitChannels s i).time = s.time ∧ (State.waitChannels s i).dev = s.dev ∧ (State.waitChannels s i).fuses = s.fuses ∧ (State.waitChannels s i).params = s.params ∧ (State.waitChannels s i).host = s.host ∧ (State.waitChannels s i).nvm = s.nvm ∧ (State.waitChannels s i).land = s.land ∧ (State.waitChannels s i).map = s.map ∧ (State.waitChannels s i).media = s.media ∧ (State.waitChannels s i).cache = s.cache ∧ (State.waitChannels s i).plp = s.plp ∧ (State.waitChannels s i).dram = s.dram ∧ (State.waitChannels s i).pwr = s.pwr ∧ (State.waitChannels s i).sec = s.sec ∧ (State.waitChannels s i).mgmt = s.mgmt ∧ (State.waitChannels s i).naile = s.naile ∧ (State.waitChannels s i).nor = s.nor ∧ (State.waitChannels s i).tally = s.tally ∧ (State.waitChannels s i).bus = s.bus ∧ (State.waitChannels s i).free = s.free := by
  generalize hr : State.waitChannels s i = r
  simp only [State.waitChannels] at hr
  repeat' split at hr
  all_goals (subst hr; (simp only [and_self]))

theorem State.noWay_keep (s : State) (i : Nat) (pos : Nat) :
    (State.noWay s i pos).pending = s.pending ∧ (State.noWay s i pos).time = s.time ∧ (State.noWay s i pos).dev = s.dev ∧ (State.noWay s i pos).fuses = s.fuses ∧ (State.noWay s i pos).params = s.params ∧ (State.noWay s i pos).plp = s.plp ∧ (State.noWay s i pos).dram = s.dram ∧ (State.noWay s i pos).pwr = s.pwr ∧ (State.noWay s i pos).sec = s.sec ∧ (State.noWay s i pos).mgmt = s.mgmt ∧ (State.noWay s i pos).naile = s.naile ∧ (State.noWay s i pos).nor = s.nor ∧ (State.noWay s i pos).bus = s.bus ∧ (State.noWay s i pos).free = s.free := by
  generalize hr : State.noWay s i pos = r
  simp only [State.noWay] at hr
  repeat' split at hr
  all_goals (subst hr; (simp only [and_self, (fact @State.uncorrectable_keep), (fact @State.waitChannels_keep)]))

theorem State.startRecon_keep (s : State) (i : Nat) : (s.startRecon i).pending = s.pending ∧ (s.startRecon i).time = s.time ∧ (s.startRecon i).dev = s.dev ∧ (s.startRecon i).fuses = s.fuses ∧ (s.startRecon i).params = s.params ∧ (s.startRecon i).plp = s.plp ∧ (s.startRecon i).dram = s.dram ∧ (s.startRecon i).pwr = s.pwr ∧ (s.startRecon i).sec = s.sec ∧ (s.startRecon i).mgmt = s.mgmt ∧ (s.startRecon i).naile = s.naile ∧ (s.startRecon i).nor = s.nor ∧ (s.startRecon i).bus = s.bus ∧ (s.startRecon i).free = s.free := by
  generalize hr : s.startRecon i = r
  simp only [State.startRecon] at hr
  repeat' split at hr
  all_goals (subst hr; first
    | (simp only [(fact @State.noWay_keep), (fact @State.waitChannels_keep), (fact @State.beginRecon_keep), and_self]; done)
    | (refine ktrans_9 (kfold_9 (fun a x b hb => ?_) _ _) (by simp only [(fact @State.beginRecon_keep), and_self])
       subst hb
       simp only [(fact @State.reconRead_keep), and_self]))


theorem State.reconAll_keep (s : State) (i : Nat) : (s.reconAll i).pending = s.pending ∧ (s.reconAll i).time = s.time ∧ (s.reconAll i).dev = s.dev ∧ (s.reconAll i).fuses = s.fuses ∧ (s.reconAll i).params = s.params ∧ (s.reconAll i).plp = s.plp ∧ (s.reconAll i).dram = s.dram ∧ (s.reconAll i).pwr = s.pwr ∧ (s.reconAll i).sec = s.sec ∧ (s.reconAll i).mgmt = s.mgmt ∧ (s.reconAll i).naile = s.naile ∧ (s.reconAll i).nor = s.nor ∧ (s.reconAll i).bus = s.bus ∧ (s.reconAll i).free = s.free := by
  generalize hr : s.reconAll i = r
  simp only [State.reconAll] at hr
  split at hr
  · subst hr; (and_intros <;> rfl)
  · subst hr
    refine ktrans_9 (kfold_9 (fun a g b hb => ?_) _ _) (by and_intros <;> rfl)
    subst hb
    simp only [(fact @State.startRecon_keep), (fact @State.forkPos_keep), and_self]


theorem State.dropRecon_keep (s : State) (parent : Nat) (pos : Nat) :
    (State.dropRecon s parent pos).pending = s.pending ∧ (State.dropRecon s parent pos).time = s.time ∧ (State.dropRecon s parent pos).dev = s.dev ∧ (State.dropRecon s parent pos).fuses = s.fuses ∧ (State.dropRecon s parent pos).params = s.params ∧ (State.dropRecon s parent pos).host = s.host ∧ (State.dropRecon s parent pos).nvm = s.nvm ∧ (State.dropRecon s parent pos).map = s.map ∧ (State.dropRecon s parent pos).media = s.media ∧ (State.dropRecon s parent pos).cache = s.cache ∧ (State.dropRecon s parent pos).plp = s.plp ∧ (State.dropRecon s parent pos).dram = s.dram ∧ (State.dropRecon s parent pos).pwr = s.pwr ∧ (State.dropRecon s parent pos).sec = s.sec ∧ (State.dropRecon s parent pos).mgmt = s.mgmt ∧ (State.dropRecon s parent pos).naile = s.naile ∧ (State.dropRecon s parent pos).nor = s.nor ∧ (State.dropRecon s parent pos).bus = s.bus ∧ (State.dropRecon s parent pos).free = s.free := by
  generalize hr : State.dropRecon s parent pos = r
  simp only [State.dropRecon] at hr
  repeat' split at hr
  all_goals (subst hr; (first | (simp only [and_self, (fact @State.dropOp_keep)]; done) | (and_intros <;> (repeat' first | (simp only [and_self, (fact @State.dropOp_keep)]; done) | (simp only [and_self, (fact @State.dropOp_keep)]) | (split at hb) | (subst hb; simp only [and_self, (fact @State.dropOp_keep)]) | (refine (foldl_pending (fun _ _ _ hb => ?_) _ _).trans ?_) | (refine (foldl_time (fun _ _ _ hb => ?_) _ _).trans ?_) | (refine (foldl_dev (fun _ _ _ hb => ?_) _ _).trans ?_) | (refine (foldl_fuses (fun _ _ _ hb => ?_) _ _).trans ?_) | (refine (foldl_params (fun _ _ _ hb => ?_) _ _).trans ?_) | (refine (foldl_host (fun _ _ _ hb => ?_) _ _).trans ?_) | (refine (foldl_nvm (fun _ _ _ hb => ?_) _ _).trans ?_) | (refine (foldl_map (fun _ _ _ hb => ?_) _ _).trans ?_) | (refine (foldl_media (fun _ _ _ hb => ?_) _ _).trans ?_) | (refine (foldl_cache (fun _ _ _ hb => ?_) _ _).trans ?_) | (refine (foldl_plp (fun _ _ _ hb => ?_) _ _).trans ?_) | (refine (foldl_dram (fun _ _ _ hb => ?_) _ _).trans ?_) | (refine (foldl_pwr (fun _ _ _ hb => ?_) _ _).trans ?_) | (refine (foldl_sec (fun _ _ _ hb => ?_) _ _).trans ?_) | (refine (foldl_mgmt (fun _ _ _ hb => ?_) _ _).trans ?_) | (refine (foldl_naile (fun _ _ _ hb => ?_) _ _).trans ?_) | (refine (foldl_nor (fun _ _ _ hb => ?_) _ _).trans ?_) | (refine (foldl_bus (fun _ _ _ hb => ?_) _ _).trans ?_) | (refine (foldl_free (fun _ _ _ hb => ?_) _ _).trans ?_) | split))))

theorem State.reconFailed_keep (s : State) (parent : Nat) (pos : Nat) (fault : Bool) :
    (State.reconFailed s parent pos fault).pending = s.pending ∧ (State.reconFailed s parent pos fault).time = s.time ∧ (State.reconFailed s parent pos fault).dev = s.dev ∧ (State.reconFailed s parent pos fault).fuses = s.fuses ∧ (State.reconFailed s parent pos fault).params = s.params ∧ (State.reconFailed s parent pos fault).plp = s.plp ∧ (State.reconFailed s parent pos fault).dram = s.dram ∧ (State.reconFailed s parent pos fault).pwr = s.pwr ∧ (State.reconFailed s parent pos fault).sec = s.sec ∧ (State.reconFailed s parent pos fault).mgmt = s.mgmt ∧ (State.reconFailed s parent pos fault).naile = s.naile ∧ (State.reconFailed s parent pos fault).nor = s.nor ∧ (State.reconFailed s parent pos fault).bus = s.bus ∧ (State.reconFailed s parent pos fault).free = s.free := by
  generalize hr : State.reconFailed s parent pos fault = r
  simp only [State.reconFailed] at hr
  repeat' split at hr
  all_goals (subst hr; (simp only [and_self, (fact @State.dropRecon_keep), (fact @State.noWay_keep)]))

theorem State.reconWaits_keep (s : State) (parent : Nat) (pos : Nat) :
    (State.reconWaits s parent pos).pending = s.pending ∧ (State.reconWaits s parent pos).time = s.time ∧ (State.reconWaits s parent pos).dev = s.dev ∧ (State.reconWaits s parent pos).fuses = s.fuses ∧ (State.reconWaits s parent pos).params = s.params ∧ (State.reconWaits s parent pos).host = s.host ∧ (State.reconWaits s parent pos).nvm = s.nvm ∧ (State.reconWaits s parent pos).map = s.map ∧ (State.reconWaits s parent pos).media = s.media ∧ (State.reconWaits s parent pos).cache = s.cache ∧ (State.reconWaits s parent pos).plp = s.plp ∧ (State.reconWaits s parent pos).dram = s.dram ∧ (State.reconWaits s parent pos).pwr = s.pwr ∧ (State.reconWaits s parent pos).sec = s.sec ∧ (State.reconWaits s parent pos).mgmt = s.mgmt ∧ (State.reconWaits s parent pos).naile = s.naile ∧ (State.reconWaits s parent pos).nor = s.nor ∧ (State.reconWaits s parent pos).bus = s.bus ∧ (State.reconWaits s parent pos).free = s.free := by
  generalize hr : State.reconWaits s parent pos = r
  simp only [State.reconWaits] at hr
  repeat' split at hr
  all_goals (subst hr; (simp only [and_self, (fact @State.dropRecon_keep), (fact @State.waitChannels_keep)]))

theorem State.recovered_keep (s : State) (i : Nat) (pos : Nat) :
    (State.recovered s i pos).pending = s.pending ∧ (State.recovered s i pos).time = s.time ∧ (State.recovered s i pos).dev = s.dev ∧ (State.recovered s i pos).fuses = s.fuses ∧ (State.recovered s i pos).params = s.params ∧ (State.recovered s i pos).plp = s.plp ∧ (State.recovered s i pos).dram = s.dram ∧ (State.recovered s i pos).pwr = s.pwr ∧ (State.recovered s i pos).sec = s.sec ∧ (State.recovered s i pos).mgmt = s.mgmt ∧ (State.recovered s i pos).naile = s.naile ∧ (State.recovered s i pos).nor = s.nor ∧ (State.recovered s i pos).bus = s.bus ∧ (State.recovered s i pos).free = s.free := by
  generalize hr : State.recovered s i pos = r
  simp only [State.recovered] at hr
  repeat' split at hr
  all_goals (subst hr; (simp only [and_self, (fact @State.deliverData_keep), (fact @State.donePos_keep), (fact @State.reconFailed_keep), (fact @State.wantRelocation_keep)]))

theorem State.climb_keep (s : State) (i : Nat) (pos : Nat) :
    (State.climb s i pos).pending = s.pending ∧ (State.climb s i pos).time = s.time ∧ (State.climb s i pos).dev = s.dev ∧ (State.climb s i pos).fuses = s.fuses ∧ (State.climb s i pos).params = s.params ∧ (State.climb s i pos).plp = s.plp ∧ (State.climb s i pos).dram = s.dram ∧ (State.climb s i pos).pwr = s.pwr ∧ (State.climb s i pos).sec = s.sec ∧ (State.climb s i pos).mgmt = s.mgmt ∧ (State.climb s i pos).naile = s.naile ∧ (State.climb s i pos).nor = s.nor ∧ (State.climb s i pos).bus = s.bus ∧ (State.climb s i pos).free = s.free := by
  generalize hr : State.climb s i pos = r
  simp only [State.climb] at hr
  repeat' split at hr
  all_goals (subst hr; (simp only [and_self, (fact @State.forkPos_keep), (fact @State.reconFailed_keep), (fact @State.startRecon_keep), (fact @State.stepSix_keep)]))

theorem State.markBlock_keep (s : State) (bit : Nat) :
    (State.markBlock s bit).pending = s.pending ∧ (State.markBlock s bit).time = s.time ∧ (State.markBlock s bit).dev = s.dev ∧ (State.markBlock s bit).fuses = s.fuses ∧ (State.markBlock s bit).params = s.params ∧ (State.markBlock s bit).host = s.host ∧ (State.markBlock s bit).nvm = s.nvm ∧ (State.markBlock s bit).land = s.land ∧ (State.markBlock s bit).map = s.map ∧ (State.markBlock s bit).media = s.media ∧ (State.markBlock s bit).cache = s.cache ∧ (State.markBlock s bit).plp = s.plp ∧ (State.markBlock s bit).dram = s.dram ∧ (State.markBlock s bit).pwr = s.pwr ∧ (State.markBlock s bit).sec = s.sec ∧ (State.markBlock s bit).mgmt = s.mgmt ∧ (State.markBlock s bit).naile = s.naile ∧ (State.markBlock s bit).nor = s.nor ∧ (State.markBlock s bit).tally = s.tally ∧ (State.markBlock s bit).bus = s.bus := by
  generalize hr : State.markBlock s bit = r
  simp only [State.markBlock] at hr
  repeat' split at hr
  all_goals (subst hr; (simp only [and_self, (fact @State.draw_keep)]))

theorem State.retireBlocks_keep (s : State) (rb : Nat) (cs : List Nat) :
    (s.retireBlocks rb cs).pending = s.pending ∧ (s.retireBlocks rb cs).time = s.time ∧ (s.retireBlocks rb cs).dev = s.dev ∧ (s.retireBlocks rb cs).fuses = s.fuses ∧ (s.retireBlocks rb cs).params = s.params ∧ (s.retireBlocks rb cs).host = s.host ∧ (s.retireBlocks rb cs).nvm = s.nvm ∧ (s.retireBlocks rb cs).land = s.land ∧ (s.retireBlocks rb cs).map = s.map ∧ (s.retireBlocks rb cs).media = s.media ∧ (s.retireBlocks rb cs).cache = s.cache ∧ (s.retireBlocks rb cs).plp = s.plp ∧ (s.retireBlocks rb cs).dram = s.dram ∧ (s.retireBlocks rb cs).pwr = s.pwr ∧ (s.retireBlocks rb cs).sec = s.sec ∧ (s.retireBlocks rb cs).mgmt = s.mgmt ∧ (s.retireBlocks rb cs).naile = s.naile ∧ (s.retireBlocks rb cs).nor = s.nor ∧ (s.retireBlocks rb cs).bus = s.bus := by
  generalize hr : s.retireBlocks rb cs = r
  rw [State.retireBlocks] at hr
  subst hr
  refine kfold_10 (fun a g b hb => ?_) _ _
  subst hb
  simp only [(fact @State.markBlock_keep), (fact @State.recordHw_calm), sevInfo, sevNotice, sevWarning, sevError, sevCritical, ne_eq, Nat.reduceEqDiff, not_false_eq_true, and_self]


theorem State.freeDumpSets_keep (s : State) :
    (State.freeDumpSets s).pending = s.pending ∧ (State.freeDumpSets s).time = s.time ∧ (State.freeDumpSets s).dev = s.dev ∧ (State.freeDumpSets s).fuses = s.fuses ∧ (State.freeDumpSets s).params = s.params ∧ (State.freeDumpSets s).map = s.map ∧ (State.freeDumpSets s).dram = s.dram ∧ (State.freeDumpSets s).pwr = s.pwr ∧ (State.freeDumpSets s).sec = s.sec ∧ (State.freeDumpSets s).nor = s.nor ∧ (State.freeDumpSets s).free = s.free := by
  generalize hr : State.freeDumpSets s = r
  simp only [State.freeDumpSets] at hr
  repeat' split at hr
  all_goals (subst hr; (simp only [and_self, (fact @State.recheckDumps_keep), (fact @State.recheckPlp_keep)]))

theorem State.finishErase_keep (s : State) (rb : Nat) :
    (State.finishErase s rb).pending = s.pending ∧ (State.finishErase s rb).time = s.time ∧ (State.finishErase s rb).dev = s.dev ∧ (State.finishErase s rb).fuses = s.fuses ∧ (State.finishErase s rb).params = s.params ∧ (State.finishErase s rb).dram = s.dram ∧ (State.finishErase s rb).pwr = s.pwr ∧ (State.finishErase s rb).sec = s.sec ∧ (State.finishErase s rb).nor = s.nor := by
  generalize hr : State.finishErase s rb = r
  simp only [State.finishErase] at hr
  repeat' split at hr
  all_goals (subst hr; (first | (simp only [and_self, (fact @State.beginWear_keep), (fact @State.clearDebts_keep), (fact @State.freeDumpSets_keep), (fact @State.recheckSpare_keep), (fact @State.refillRegions_keep), (fact @State.retireBlocks_keep)]; done) | (and_intros <;> (repeat' first | (simp only [and_self, (fact @State.beginWear_keep), (fact @State.clearDebts_keep), (fact @State.freeDumpSets_keep), (fact @State.recheckSpare_keep), (fact @State.refillRegions_keep), (fact @State.retireBlocks_keep)]; done) | (simp only [and_self, (fact @State.beginWear_keep), (fact @State.clearDebts_keep), (fact @State.freeDumpSets_keep), (fact @State.recheckSpare_keep), (fact @State.refillRegions_keep), (fact @State.retireBlocks_keep)]) | (split at hb) | (subst hb; simp only [and_self, (fact @State.beginWear_keep), (fact @State.clearDebts_keep), (fact @State.freeDumpSets_keep), (fact @State.recheckSpare_keep), (fact @State.refillRegions_keep), (fact @State.retireBlocks_keep)]) | (refine (foldl_pending (fun _ _ _ hb => ?_) _ _).trans ?_) | (refine (foldl_time (fun _ _ _ hb => ?_) _ _).trans ?_) | (refine (foldl_dev (fun _ _ _ hb => ?_) _ _).trans ?_) | (refine (foldl_fuses (fun _ _ _ hb => ?_) _ _).trans ?_) | (refine (foldl_params (fun _ _ _ hb => ?_) _ _).trans ?_) | (refine (foldl_dram (fun _ _ _ hb => ?_) _ _).trans ?_) | (refine (foldl_pwr (fun _ _ _ hb => ?_) _ _).trans ?_) | (refine (foldl_sec (fun _ _ _ hb => ?_) _ _).trans ?_) | (refine (foldl_nor (fun _ _ _ hb => ?_) _ _).trans ?_) | split))))

theorem State.eraseCheck_keep (s : State) (rb : Nat) :
    (State.eraseCheck s rb).pending = s.pending ∧ (State.eraseCheck s rb).time = s.time ∧ (State.eraseCheck s rb).dev = s.dev ∧ (State.eraseCheck s rb).fuses = s.fuses ∧ (State.eraseCheck s rb).params = s.params ∧ (State.eraseCheck s rb).dram = s.dram ∧ (State.eraseCheck s rb).pwr = s.pwr ∧ (State.eraseCheck s rb).sec = s.sec ∧ (State.eraseCheck s rb).nor = s.nor := by
  generalize hr : State.eraseCheck s rb = r
  simp only [State.eraseCheck] at hr
  repeat' split at hr
  all_goals (subst hr; (simp only [and_self, (fact @State.finishErase_keep)]))

theorem State.enterTraining_keep (s : State) (ch : Nat) (down : Bool) :
    (State.enterTraining s ch down).pending = s.pending ∧ (State.enterTraining s ch down).time = s.time ∧ (State.enterTraining s ch down).dev = s.dev ∧ (State.enterTraining s ch down).fuses = s.fuses ∧ (State.enterTraining s ch down).params = s.params ∧ (State.enterTraining s ch down).plp = s.plp ∧ (State.enterTraining s ch down).dram = s.dram ∧ (State.enterTraining s ch down).pwr = s.pwr ∧ (State.enterTraining s ch down).sec = s.sec ∧ (State.enterTraining s ch down).mgmt = s.mgmt ∧ (State.enterTraining s ch down).naile = s.naile ∧ (State.enterTraining s ch down).nor = s.nor ∧ (State.enterTraining s ch down).bus = s.bus ∧ (State.enterTraining s ch down).free = s.free := by
  generalize hr : State.enterTraining s ch down = r
  simp only [State.enterTraining] at hr
  repeat' split at hr
  all_goals (subst hr; (first | (simp only [and_self, (fact @State.reconAll_keep), (fact @State.recordHw_calm), sevDebug, sevInfo, sevNotice, sevWarning, sevError, sevCritical, ne_eq, Nat.reduceEqDiff, not_false_eq_true]; done) | (and_intros <;> (repeat' first | (simp only [and_self, (fact @State.reconAll_keep), (fact @State.recordHw_calm), sevDebug, sevInfo, sevNotice, sevWarning, sevError, sevCritical, ne_eq, Nat.reduceEqDiff, not_false_eq_true]; done) | (simp only [and_self, (fact @State.reconAll_keep), (fact @State.recordHw_calm), sevDebug, sevInfo, sevNotice, sevWarning, sevError, sevCritical, ne_eq, Nat.reduceEqDiff, not_false_eq_true]) | (split at hb) | (subst hb; simp only [and_self, (fact @State.reconAll_keep), (fact @State.recordHw_calm), sevDebug, sevInfo, sevNotice, sevWarning, sevError, sevCritical, ne_eq, Nat.reduceEqDiff, not_false_eq_true]) | (refine (foldl_pending (fun _ _ _ hb => ?_) _ _).trans ?_) | (refine (foldl_time (fun _ _ _ hb => ?_) _ _).trans ?_) | (refine (foldl_dev (fun _ _ _ hb => ?_) _ _).trans ?_) | (refine (foldl_fuses (fun _ _ _ hb => ?_) _ _).trans ?_) | (refine (foldl_params (fun _ _ _ hb => ?_) _ _).trans ?_) | (refine (foldl_plp (fun _ _ _ hb => ?_) _ _).trans ?_) | (refine (foldl_dram (fun _ _ _ hb => ?_) _ _).trans ?_) | (refine (foldl_pwr (fun _ _ _ hb => ?_) _ _).trans ?_) | (refine (foldl_sec (fun _ _ _ hb => ?_) _ _).trans ?_) | (refine (foldl_mgmt (fun _ _ _ hb => ?_) _ _).trans ?_) | (refine (foldl_naile (fun _ _ _ hb => ?_) _ _).trans ?_) | (refine (foldl_nor (fun _ _ _ hb => ?_) _ _).trans ?_) | (refine (foldl_bus (fun _ _ _ hb => ?_) _ _).trans ?_) | (refine (foldl_free (fun _ _ _ hb => ?_) _ _).trans ?_) | split))))

theorem State.beginTraining_keep (s : State) (ch : Nat) (down : Bool) :
    (State.beginTraining s ch down).pending = s.pending ∧ (State.beginTraining s ch down).time = s.time ∧ (State.beginTraining s ch down).dev = s.dev ∧ (State.beginTraining s ch down).fuses = s.fuses ∧ (State.beginTraining s ch down).params = s.params ∧ (State.beginTraining s ch down).plp = s.plp ∧ (State.beginTraining s ch down).dram = s.dram ∧ (State.beginTraining s ch down).pwr = s.pwr ∧ (State.beginTraining s ch down).sec = s.sec ∧ (State.beginTraining s ch down).mgmt = s.mgmt ∧ (State.beginTraining s ch down).naile = s.naile ∧ (State.beginTraining s ch down).nor = s.nor ∧ (State.beginTraining s ch down).bus = s.bus ∧ (State.beginTraining s ch down).free = s.free := by
  generalize hr : State.beginTraining s ch down = r
  simp only [State.beginTraining] at hr
  repeat' split at hr
  all_goals (subst hr; (simp only [and_self, (fact @State.enterTraining_keep)]))

theorem State.nextTurn_keep (s : State) (g : Nat) :
    (State.nextTurn s g).pending = s.pending ∧ (State.nextTurn s g).time = s.time ∧ (State.nextTurn s g).dev = s.dev ∧ (State.nextTurn s g).fuses = s.fuses ∧ (State.nextTurn s g).params = s.params ∧ (State.nextTurn s g).plp = s.plp ∧ (State.nextTurn s g).dram = s.dram ∧ (State.nextTurn s g).pwr = s.pwr ∧ (State.nextTurn s g).sec = s.sec ∧ (State.nextTurn s g).mgmt = s.mgmt ∧ (State.nextTurn s g).naile = s.naile ∧ (State.nextTurn s g).nor = s.nor ∧ (State.nextTurn s g).bus = s.bus ∧ (State.nextTurn s g).free = s.free := by
  generalize hr : State.nextTurn s g = r
  simp only [State.nextTurn] at hr
  repeat' split at hr
  all_goals (subst hr; (simp only [and_self, (fact @State.enterTraining_keep)]))

theorem State.stepDown_keep (s : State) (ch : Nat) : (s.stepDown ch).pending = s.pending ∧ (s.stepDown ch).time = s.time ∧ (s.stepDown ch).dev = s.dev ∧ (s.stepDown ch).fuses = s.fuses ∧ (s.stepDown ch).params = s.params ∧ (s.stepDown ch).plp = s.plp ∧ (s.stepDown ch).dram = s.dram ∧ (s.stepDown ch).pwr = s.pwr ∧ (s.stepDown ch).sec = s.sec ∧ (s.stepDown ch).mgmt = s.mgmt ∧ (s.stepDown ch).naile = s.naile ∧ (s.stepDown ch).nor = s.nor ∧ (s.stepDown ch).bus = s.bus ∧ (s.stepDown ch).free = s.free := by
  generalize hr : s.stepDown ch = r
  unfold State.stepDown at hr
  dsimp only at hr
  split at hr
  all_goals (subst hr; simp only [(fact @State.beginTraining_keep), and_self])


theorem State.climbAfresh_keep (s : State) (i : Nat) :
    (State.climbAfresh s i).pending = s.pending ∧ (State.climbAfresh s i).time = s.time ∧ (State.climbAfresh s i).dev = s.dev ∧ (State.climbAfresh s i).fuses = s.fuses ∧ (State.climbAfresh s i).params = s.params ∧ (State.climbAfresh s i).plp = s.plp ∧ (State.climbAfresh s i).dram = s.dram ∧ (State.climbAfresh s i).pwr = s.pwr ∧ (State.climbAfresh s i).sec = s.sec ∧ (State.climbAfresh s i).mgmt = s.mgmt ∧ (State.climbAfresh s i).naile = s.naile ∧ (State.climbAfresh s i).nor = s.nor ∧ (State.climbAfresh s i).bus = s.bus ∧ (State.climbAfresh s i).free = s.free := by
  generalize hr : State.climbAfresh s i = r
  simp only [State.climbAfresh] at hr
  repeat' split at hr
  all_goals (subst hr; (simp only [and_self, (fact @State.startRecon_keep)]))

theorem State.wakeWaiting_keep (s : State) : (s.wakeWaiting).pending = s.pending ∧ (s.wakeWaiting).time = s.time ∧ (s.wakeWaiting).dev = s.dev ∧ (s.wakeWaiting).fuses = s.fuses ∧ (s.wakeWaiting).params = s.params ∧ (s.wakeWaiting).plp = s.plp ∧ (s.wakeWaiting).dram = s.dram ∧ (s.wakeWaiting).pwr = s.pwr ∧ (s.wakeWaiting).sec = s.sec ∧ (s.wakeWaiting).mgmt = s.mgmt ∧ (s.wakeWaiting).naile = s.naile ∧ (s.wakeWaiting).nor = s.nor ∧ (s.wakeWaiting).bus = s.bus ∧ (s.wakeWaiting).free = s.free := by
  rw [State.wakeWaiting]
  refine kfold_9 (fun a e b hb => ?_) _ _
  subst hb
  split
  · split <;> simp only [(fact @State.climbAfresh_keep), (fact @State.reconWaits_keep), and_self]
  · simp only [(fact @State.climbAfresh_keep), and_self]


theorem State.redoUnits_keep (s : State) :
    (State.redoUnits s).pending = s.pending ∧ (State.redoUnits s).time = s.time ∧ (State.redoUnits s).dev = s.dev ∧ (State.redoUnits s).fuses = s.fuses ∧ (State.redoUnits s).params = s.params ∧ (State.redoUnits s).host = s.host ∧ (State.redoUnits s).nvm = s.nvm ∧ (State.redoUnits s).land = s.land ∧ (State.redoUnits s).flash = s.flash ∧ (State.redoUnits s).cache = s.cache ∧ (State.redoUnits s).plp = s.plp ∧ (State.redoUnits s).dram = s.dram ∧ (State.redoUnits s).pwr = s.pwr ∧ (State.redoUnits s).sec = s.sec ∧ (State.redoUnits s).mgmt = s.mgmt ∧ (State.redoUnits s).naile = s.naile ∧ (State.redoUnits s).nor = s.nor ∧ (State.redoUnits s).tally = s.tally ∧ (State.redoUnits s).bus = s.bus ∧ (State.redoUnits s).free = s.free := by
  generalize hr : State.redoUnits s = r
  simp only [State.redoUnits] at hr
  repeat' split at hr
  all_goals (subst hr; (simp only [and_self, (fact @State.rewriteThese_keep)]))

theorem State.rawGone_keep (s : State) (i : Nat) :
    (State.rawGone s i).pending = s.pending ∧ (State.rawGone s i).time = s.time ∧ (State.rawGone s i).dev = s.dev ∧ (State.rawGone s i).fuses = s.fuses ∧ (State.rawGone s i).params = s.params ∧ (State.rawGone s i).host = s.host ∧ (State.rawGone s i).nvm = s.nvm ∧ (State.rawGone s i).map = s.map ∧ (State.rawGone s i).media = s.media ∧ (State.rawGone s i).cache = s.cache ∧ (State.rawGone s i).plp = s.plp ∧ (State.rawGone s i).dram = s.dram ∧ (State.rawGone s i).pwr = s.pwr ∧ (State.rawGone s i).sec = s.sec ∧ (State.rawGone s i).mgmt = s.mgmt ∧ (State.rawGone s i).nor = s.nor ∧ (State.rawGone s i).bus = s.bus ∧ (State.rawGone s i).free = s.free := by
  generalize hr : State.rawGone s i = r
  simp only [State.rawGone] at hr
  repeat' split at hr
  all_goals (subst hr; (simp only [and_self, (fact @State.dropOp_keep), (fact @State.rawOutcome_keep)]))

theorem State.withdrawOps_keep (s : State) (ch : Nat) (die : Option Nat) :
    (State.withdrawOps s ch die).pending = s.pending ∧ (State.withdrawOps s ch die).time = s.time ∧ (State.withdrawOps s ch die).dev = s.dev ∧ (State.withdrawOps s ch die).fuses = s.fuses ∧ (State.withdrawOps s ch die).params = s.params ∧ (State.withdrawOps s ch die).dram = s.dram ∧ (State.withdrawOps s ch die).pwr = s.pwr ∧ (State.withdrawOps s ch die).sec = s.sec ∧ (State.withdrawOps s ch die).nor = s.nor := by
  generalize hr : State.withdrawOps s ch die = r
  simp only [State.withdrawOps] at hr
  repeat' split at hr
  all_goals (subst hr; (first | (simp only [and_self, (fact @State.dropOp_keep), (fact @State.eraseCheck_keep), (fact @State.failSet_keep), (fact @State.rawGone_keep), (fact @State.reconAll_keep), (fact @State.reconWaits_keep)]; done) | (and_intros <;> (repeat' first | (simp only [and_self, (fact @State.dropOp_keep), (fact @State.eraseCheck_keep), (fact @State.failSet_keep), (fact @State.rawGone_keep), (fact @State.reconAll_keep), (fact @State.reconWaits_keep)]; done) | (simp only [and_self, (fact @State.dropOp_keep), (fact @State.eraseCheck_keep), (fact @State.failSet_keep), (fact @State.rawGone_keep), (fact @State.reconAll_keep), (fact @State.reconWaits_keep)]) | (split at hb) | (subst hb; simp only [and_self, (fact @State.dropOp_keep), (fact @State.eraseCheck_keep), (fact @State.failSet_keep), (fact @State.rawGone_keep), (fact @State.reconAll_keep), (fact @State.reconWaits_keep)]) | (refine (foldl_pending (fun _ _ _ hb => ?_) _ _).trans ?_) | (refine (foldl_time (fun _ _ _ hb => ?_) _ _).trans ?_) | (refine (foldl_dev (fun _ _ _ hb => ?_) _ _).trans ?_) | (refine (foldl_fuses (fun _ _ _ hb => ?_) _ _).trans ?_) | (refine (foldl_params (fun _ _ _ hb => ?_) _ _).trans ?_) | (refine (foldl_dram (fun _ _ _ hb => ?_) _ _).trans ?_) | (refine (foldl_pwr (fun _ _ _ hb => ?_) _ _).trans ?_) | (refine (foldl_sec (fun _ _ _ hb => ?_) _ _).trans ?_) | (refine (foldl_nor (fun _ _ _ hb => ?_) _ _).trans ?_) | split))))

theorem State.closeGrove_keep (s : State) (g : Nat) :
    (State.closeGrove s g).pending = s.pending ∧ (State.closeGrove s g).time = s.time ∧ (State.closeGrove s g).dev = s.dev ∧ (State.closeGrove s g).fuses = s.fuses ∧ (State.closeGrove s g).params = s.params ∧ (State.closeGrove s g).host = s.host ∧ (State.closeGrove s g).nvm = s.nvm ∧ (State.closeGrove s g).plp = s.plp ∧ (State.closeGrove s g).dram = s.dram ∧ (State.closeGrove s g).pwr = s.pwr ∧ (State.closeGrove s g).sec = s.sec ∧ (State.closeGrove s g).mgmt = s.mgmt ∧ (State.closeGrove s g).naile = s.naile ∧ (State.closeGrove s g).nor = s.nor ∧ (State.closeGrove s g).bus = s.bus ∧ (State.closeGrove s g).free = s.free := by
  generalize hr : State.closeGrove s g = r
  simp only [State.closeGrove] at hr
  repeat' split at hr
  all_goals (subst hr; (first | (simp only [and_self, (fact @State.abandonSet_keep), (fact @State.closeRow_keep)]; done) | (and_intros <;> (repeat' first | (simp only [and_self, (fact @State.abandonSet_keep), (fact @State.closeRow_keep)]; done) | (simp only [and_self, (fact @State.abandonSet_keep), (fact @State.closeRow_keep)]) | (split at hb) | (subst hb; simp only [and_self, (fact @State.abandonSet_keep), (fact @State.closeRow_keep)]) | (refine (foldl_pending (fun _ _ _ hb => ?_) _ _).trans ?_) | (refine (foldl_time (fun _ _ _ hb => ?_) _ _).trans ?_) | (refine (foldl_dev (fun _ _ _ hb => ?_) _ _).trans ?_) | (refine (foldl_fuses (fun _ _ _ hb => ?_) _ _).trans ?_) | (refine (foldl_params (fun _ _ _ hb => ?_) _ _).trans ?_) | (refine (foldl_host (fun _ _ _ hb => ?_) _ _).trans ?_) | (refine (foldl_nvm (fun _ _ _ hb => ?_) _ _).trans ?_) | (refine (foldl_plp (fun _ _ _ hb => ?_) _ _).trans ?_) | (refine (foldl_dram (fun _ _ _ hb => ?_) _ _).trans ?_) | (refine (foldl_pwr (fun _ _ _ hb => ?_) _ _).trans ?_) | (refine (foldl_sec (fun _ _ _ hb => ?_) _ _).trans ?_) | (refine (foldl_mgmt (fun _ _ _ hb => ?_) _ _).trans ?_) | (refine (foldl_naile (fun _ _ _ hb => ?_) _ _).trans ?_) | (refine (foldl_nor (fun _ _ _ hb => ?_) _ _).trans ?_) | (refine (foldl_bus (fun _ _ _ hb => ?_) _ _).trans ?_) | (refine (foldl_free (fun _ _ _ hb => ?_) _ _).trans ?_) | split))))

theorem State.loseTwice_keep (s : State) (g : Nat) (rbs : List Nat) :
    (State.loseTwice s g rbs).pending = s.pending ∧ (State.loseTwice s g rbs).time = s.time ∧ (State.loseTwice s g rbs).dev = s.dev ∧ (State.loseTwice s g rbs).fuses = s.fuses ∧ (State.loseTwice s g rbs).params = s.params ∧ (State.loseTwice s g rbs).host = s.host ∧ (State.loseTwice s g rbs).nvm = s.nvm ∧ (State.loseTwice s g rbs).land = s.land ∧ (State.loseTwice s g rbs).media = s.media ∧ (State.loseTwice s g rbs).cache = s.cache ∧ (State.loseTwice s g rbs).plp = s.plp ∧ (State.loseTwice s g rbs).dram = s.dram ∧ (State.loseTwice s g rbs).pwr = s.pwr ∧ (State.loseTwice s g rbs).sec = s.sec ∧ (State.loseTwice s g rbs).mgmt = s.mgmt ∧ (State.loseTwice s g rbs).naile = s.naile ∧ (State.loseTwice s g rbs).nor = s.nor ∧ (State.loseTwice s g rbs).bus = s.bus ∧ (State.loseTwice s g rbs).free = s.free := by
  generalize hr : State.loseTwice s g rbs = r
  simp only [State.loseTwice] at hr
  repeat' split at hr
  all_goals (subst hr; (simp only [and_self, (fact @State.queueChanges_keep), (fact @State.recordHw_calm), sevDebug, sevInfo, sevNotice, sevWarning, sevError, sevCritical, ne_eq, Nat.reduceEqDiff, not_false_eq_true]))

theorem State.writeBitmap_keep (s : State) (g : Nat) (bm : List Nat) :
    (State.writeBitmap s g bm).pending = s.pending ∧ (State.writeBitmap s g bm).time = s.time ∧ (State.writeBitmap s g bm).dev = s.dev ∧ (State.writeBitmap s g bm).fuses = s.fuses ∧ (State.writeBitmap s g bm).params = s.params ∧ (State.writeBitmap s g bm).host = s.host ∧ (State.writeBitmap s g bm).nvm = s.nvm ∧ (State.writeBitmap s g bm).land = s.land ∧ (State.writeBitmap s g bm).map = s.map ∧ (State.writeBitmap s g bm).cache = s.cache ∧ (State.writeBitmap s g bm).plp = s.plp ∧ (State.writeBitmap s g bm).dram = s.dram ∧ (State.writeBitmap s g bm).pwr = s.pwr ∧ (State.writeBitmap s g bm).sec = s.sec ∧ (State.writeBitmap s g bm).mgmt = s.mgmt ∧ (State.writeBitmap s g bm).naile = s.naile ∧ (State.writeBitmap s g bm).nor = s.nor ∧ (State.writeBitmap s g bm).tally = s.tally ∧ (State.writeBitmap s g bm).bus = s.bus ∧ (State.writeBitmap s g bm).free = s.free := by
  generalize hr : State.writeBitmap s g bm = r
  simp only [State.writeBitmap] at hr
  repeat' split at hr
  all_goals (subst hr; (simp only [and_self]))

theorem State.noteRebuild_keep (s : State) (g : Nat) (set : List Nat) :
    (State.noteRebuild s g set).pending = s.pending ∧ (State.noteRebuild s g set).time = s.time ∧ (State.noteRebuild s g set).dev = s.dev ∧ (State.noteRebuild s g set).fuses = s.fuses ∧ (State.noteRebuild s g set).params = s.params ∧ (State.noteRebuild s g set).host = s.host ∧ (State.noteRebuild s g set).nvm = s.nvm ∧ (State.noteRebuild s g set).land = s.land ∧ (State.noteRebuild s g set).cache = s.cache ∧ (State.noteRebuild s g set).plp = s.plp ∧ (State.noteRebuild s g set).dram = s.dram ∧ (State.noteRebuild s g set).pwr = s.pwr ∧ (State.noteRebuild s g set).sec = s.sec ∧ (State.noteRebuild s g set).mgmt = s.mgmt ∧ (State.noteRebuild s g set).naile = s.naile ∧ (State.noteRebuild s g set).nor = s.nor ∧ (State.noteRebuild s g set).bus = s.bus ∧ (State.noteRebuild s g set).free = s.free := by
  generalize hr : State.noteRebuild s g set = r
  simp only [State.noteRebuild] at hr
  repeat' split at hr
  all_goals (subst hr; (first | (simp only [and_self, (fact @State.loseTwice_keep), (fact @State.writeBitmap_keep)]; done) | (and_intros <;> (repeat' first | (simp only [and_self, (fact @State.loseTwice_keep), (fact @State.writeBitmap_keep)]; done) | (simp only [and_self, (fact @State.loseTwice_keep), (fact @State.writeBitmap_keep)]) | (split at hb) | (subst hb; simp only [and_self, (fact @State.loseTwice_keep), (fact @State.writeBitmap_keep)]) | (refine (foldl_pending (fun _ _ _ hb => ?_) _ _).trans ?_) | (refine (foldl_time (fun _ _ _ hb => ?_) _ _).trans ?_) | (refine (foldl_dev (fun _ _ _ hb => ?_) _ _).trans ?_) | (refine (foldl_fuses (fun _ _ _ hb => ?_) _ _).trans ?_) | (refine (foldl_params (fun _ _ _ hb => ?_) _ _).trans ?_) | (refine (foldl_host (fun _ _ _ hb => ?_) _ _).trans ?_) | (refine (foldl_nvm (fun _ _ _ hb => ?_) _ _).trans ?_) | (refine (foldl_land (fun _ _ _ hb => ?_) _ _).trans ?_) | (refine (foldl_cache (fun _ _ _ hb => ?_) _ _).trans ?_) | (refine (foldl_plp (fun _ _ _ hb => ?_) _ _).trans ?_) | (refine (foldl_dram (fun _ _ _ hb => ?_) _ _).trans ?_) | (refine (foldl_pwr (fun _ _ _ hb => ?_) _ _).trans ?_) | (refine (foldl_sec (fun _ _ _ hb => ?_) _ _).trans ?_) | (refine (foldl_mgmt (fun _ _ _ hb => ?_) _ _).trans ?_) | (refine (foldl_naile (fun _ _ _ hb => ?_) _ _).trans ?_) | (refine (foldl_nor (fun _ _ _ hb => ?_) _ _).trans ?_) | (refine (foldl_bus (fun _ _ _ hb => ?_) _ _).trans ?_) | (refine (foldl_free (fun _ _ _ hb => ?_) _ _).trans ?_) | split))))

theorem State.afterLoss_keep (s : State) (ch : Nat) (die : Option Nat) (set : List Nat) :
    (State.afterLoss s ch die set).pending = s.pending ∧ (State.afterLoss s ch die set).time = s.time ∧ (State.afterLoss s ch die set).dev = s.dev ∧ (State.afterLoss s ch die set).fuses = s.fuses ∧ (State.afterLoss s ch die set).params = s.params ∧ (State.afterLoss s ch die set).dram = s.dram ∧ (State.afterLoss s ch die set).pwr = s.pwr ∧ (State.afterLoss s ch die set).sec = s.sec ∧ (State.afterLoss s ch die set).nor = s.nor ∧ (State.afterLoss s ch die set).free = s.free := by
  generalize hr : State.afterLoss s ch die set = r
  simp only [State.afterLoss] at hr
  repeat' split at hr
  all_goals (subst hr; (simp only [and_self, (fact @State.markAbsent_keep), (fact @State.noteRebuild_keep), (fact @State.recheckDumps_keep), (fact @State.recheckSpare_keep), (fact @State.redoUnits_keep)]))

theorem State.retireChannel_keep (s : State) (ch : Nat) (cause : Nat) :
    (State.retireChannel s ch cause).pending = s.pending ∧ (State.retireChannel s ch cause).time = s.time ∧ (State.retireChannel s ch cause).dev = s.dev ∧ (State.retireChannel s ch cause).fuses = s.fuses ∧ (State.retireChannel s ch cause).params = s.params ∧ (State.retireChannel s ch cause).dram = s.dram ∧ (State.retireChannel s ch cause).pwr = s.pwr ∧ (State.retireChannel s ch cause).sec = s.sec ∧ (State.retireChannel s ch cause).nor = s.nor := by
  generalize hr : State.retireChannel s ch cause = r
  simp only [State.retireChannel] at hr
  repeat' split at hr
  all_goals (subst hr; (simp only [and_self, (fact @State.afterLoss_keep), (fact @State.closeGrove_keep), (fact @State.nextTurn_keep), (fact @State.recordHw_calm), (fact @State.wakeWaiting_keep), (fact @State.withdrawOps_keep), sevDebug, sevInfo, sevNotice, sevWarning, sevError, sevCritical, ne_eq, Nat.reduceEqDiff, not_false_eq_true]))

theorem State.failDie_keep (s : State) (ch : Nat) (die : Nat) :
    (State.failDie s ch die).pending = s.pending ∧ (State.failDie s ch die).time = s.time ∧ (State.failDie s ch die).dev = s.dev ∧ (State.failDie s ch die).fuses = s.fuses ∧ (State.failDie s ch die).params = s.params ∧ (State.failDie s ch die).dram = s.dram ∧ (State.failDie s ch die).pwr = s.pwr ∧ (State.failDie s ch die).sec = s.sec ∧ (State.failDie s ch die).nor = s.nor := by
  generalize hr : State.failDie s ch die = r
  simp only [State.failDie] at hr
  repeat' split at hr
  all_goals (subst hr; (simp only [and_self, (fact @State.afterLoss_keep), (fact @State.closeGrove_keep), (fact @State.recordHw_calm), (fact @State.wakeWaiting_keep), (fact @State.withdrawOps_keep), sevDebug, sevInfo, sevNotice, sevWarning, sevError, sevCritical, ne_eq, Nat.reduceEqDiff, not_false_eq_true]))

theorem State.countFault_keep (s : State) (ch : Nat) (die : Nat) :
    (State.countFault s ch die).pending = s.pending ∧ (State.countFault s ch die).time = s.time ∧ (State.countFault s ch die).dev = s.dev ∧ (State.countFault s ch die).fuses = s.fuses ∧ (State.countFault s ch die).params = s.params ∧ (State.countFault s ch die).dram = s.dram ∧ (State.countFault s ch die).pwr = s.pwr ∧ (State.countFault s ch die).sec = s.sec ∧ (State.countFault s ch die).nor = s.nor := by
  generalize hr : State.countFault s ch die = r
  simp only [State.countFault] at hr
  repeat' split at hr
  all_goals (subst hr; (first | (simp only [and_self, (fact @State.failDie_keep), (fact @State.retireChannel_keep)]; done) | (and_intros <;> (repeat' first | (simp only [and_self, (fact @State.failDie_keep), (fact @State.retireChannel_keep)]; done) | (simp only [and_self, (fact @State.failDie_keep), (fact @State.retireChannel_keep)]) | (split at hb) | (subst hb; simp only [and_self, (fact @State.failDie_keep), (fact @State.retireChannel_keep)]) | (refine (foldl_pending (fun _ _ _ hb => ?_) _ _).trans ?_) | (refine (foldl_time (fun _ _ _ hb => ?_) _ _).trans ?_) | (refine (foldl_dev (fun _ _ _ hb => ?_) _ _).trans ?_) | (refine (foldl_fuses (fun _ _ _ hb => ?_) _ _).trans ?_) | (refine (foldl_params (fun _ _ _ hb => ?_) _ _).trans ?_) | (refine (foldl_dram (fun _ _ _ hb => ?_) _ _).trans ?_) | (refine (foldl_pwr (fun _ _ _ hb => ?_) _ _).trans ?_) | (refine (foldl_sec (fun _ _ _ hb => ?_) _ _).trans ?_) | (refine (foldl_nor (fun _ _ _ hb => ?_) _ _).trans ?_) | split))))

theorem State.channelFault_keep (s : State) (i : Nat) :
    (State.channelFault s i).pending = s.pending ∧ (State.channelFault s i).time = s.time ∧ (State.channelFault s i).dev = s.dev ∧ (State.channelFault s i).fuses = s.fuses ∧ (State.channelFault s i).params = s.params ∧ (State.channelFault s i).dram = s.dram ∧ (State.channelFault s i).pwr = s.pwr ∧ (State.channelFault s i).sec = s.sec ∧ (State.channelFault s i).nor = s.nor := by
  generalize hr : State.channelFault s i = r
  simp only [State.channelFault] at hr
  repeat' split at hr
  all_goals (subst hr; (simp only [and_self, (fact @State.countFault_keep), (fact @State.dropOp_keep), (fact @State.failSet_keep), (fact @State.rawGone_keep), (fact @State.reconAll_keep), (fact @State.reconFailed_keep)]))

theorem State.upset_keep (s : State) (i row : Nat) : (s.upset i row).pending = s.pending ∧ (s.upset i row).time = s.time ∧ (s.upset i row).dev = s.dev ∧ (s.upset i row).fuses = s.fuses ∧ (s.upset i row).params = s.params ∧ (s.upset i row).dram = s.dram ∧ (s.upset i row).pwr = s.pwr ∧ (s.upset i row).sec = s.sec ∧ (s.upset i row).nor = s.nor := by
  generalize hr : s.upset i row = r
  simp only [State.upset] at hr
  split at hr
  · subst hr; (and_intros <;> rfl)
  next o _ =>
    have h1 := State.noteUpset_keep s o.ch.val o.die.val row
    split at hr
    · subst hr; simp only [(fact @State.channelFault_keep), h1, and_self]
    · subst hr; exact kflash_11 _ (by simp only [h1, and_self])


end Sys2Proof.Machine
end

