-- ==== Sys2Proof/Laws/FrameBoot.lean ====
section
/-! SUPPORT. Frames of the shared operations: for each, the units of State it leaves alone. Here wake, the stands, host ports, admin and I/O commands, and the channels. -/

set_option linter.all false

namespace Sys2Proof.Machine

theorem State.checkDigest_keep (s : State) (ok : Bool) :
    (State.checkDigest s ok).pending = s.pending ∧ (State.checkDigest s ok).time = s.time ∧ (State.checkDigest s ok).fuses = s.fuses ∧ (State.checkDigest s ok).params = s.params ∧ (State.checkDigest s ok).host = s.host ∧ (State.checkDigest s ok).nvm = s.nvm ∧ (State.checkDigest s ok).land = s.land ∧ (State.checkDigest s ok).map = s.map ∧ (State.checkDigest s ok).media = s.media ∧ (State.checkDigest s ok).flash = s.flash ∧ (State.checkDigest s ok).cache = s.cache ∧ (State.checkDigest s ok).plp = s.plp ∧ (State.checkDigest s ok).dram = s.dram ∧ (State.checkDigest s ok).pwr = s.pwr ∧ (State.checkDigest s ok).sec = s.sec ∧ (State.checkDigest s ok).bus = s.bus ∧ (State.checkDigest s ok).free = s.free := by
  generalize hr : State.checkDigest s ok = r
  simp only [State.checkDigest] at hr
  repeat' split at hr
  all_goals (subst hr; (simp only [and_self, (fact @State.record_keep)]))

theorem State.checkBulk_keep (s : State) (ok : Bool) :
    (State.checkBulk s ok).pending = s.pending ∧ (State.checkBulk s ok).time = s.time ∧ (State.checkBulk s ok).dev = s.dev ∧ (State.checkBulk s ok).fuses = s.fuses ∧ (State.checkBulk s ok).params = s.params ∧ (State.checkBulk s ok).media = s.media ∧ (State.checkBulk s ok).cache = s.cache ∧ (State.checkBulk s ok).plp = s.plp ∧ (State.checkBulk s ok).dram = s.dram ∧ (State.checkBulk s ok).pwr = s.pwr ∧ (State.checkBulk s ok).sec = s.sec ∧ (State.checkBulk s ok).nor = s.nor ∧ (State.checkBulk s ok).bus = s.bus ∧ (State.checkBulk s ok).free = s.free := by
  generalize hr : State.checkBulk s ok = r
  simp only [State.checkBulk] at hr
  repeat' split at hr
  all_goals (subst hr; (simp only [and_self, (fact @State.endLease_keep), (fact @State.record_calm), sevDebug, sevInfo, sevNotice, sevWarning, sevError, sevCritical, ne_eq, Nat.reduceEqDiff, not_false_eq_true]))

theorem State.checkGrove_keep (s : State) (g : Grove) :
    (State.checkGrove s g).pending = s.pending ∧ (State.checkGrove s g).time = s.time ∧ (State.checkGrove s g).fuses = s.fuses ∧ (State.checkGrove s g).params = s.params ∧ (State.checkGrove s g).host = s.host ∧ (State.checkGrove s g).nvm = s.nvm ∧ (State.checkGrove s g).land = s.land ∧ (State.checkGrove s g).media = s.media ∧ (State.checkGrove s g).flash = s.flash ∧ (State.checkGrove s g).cache = s.cache ∧ (State.checkGrove s g).plp = s.plp ∧ (State.checkGrove s g).dram = s.dram ∧ (State.checkGrove s g).pwr = s.pwr ∧ (State.checkGrove s g).sec = s.sec ∧ (State.checkGrove s g).nor = s.nor ∧ (State.checkGrove s g).bus = s.bus ∧ (State.checkGrove s g).free = s.free := by
  generalize hr : State.checkGrove s g = r
  simp only [State.checkGrove] at hr
  repeat' split at hr
  all_goals (subst hr; (simp only [and_self, (fact @State.record_calm), sevDebug, sevInfo, sevNotice, sevWarning, sevError, sevCritical, ne_eq, Nat.reduceEqDiff, not_false_eq_true]))

theorem State.checkChannel_keep (s : State) (c : Chan) :
    (State.checkChannel s c).pending = s.pending ∧ (State.checkChannel s c).time = s.time ∧ (State.checkChannel s c).dev = s.dev ∧ (State.checkChannel s c).fuses = s.fuses ∧ (State.checkChannel s c).params = s.params ∧ (State.checkChannel s c).plp = s.plp ∧ (State.checkChannel s c).dram = s.dram ∧ (State.checkChannel s c).pwr = s.pwr ∧ (State.checkChannel s c).sec = s.sec ∧ (State.checkChannel s c).nor = s.nor ∧ (State.checkChannel s c).bus = s.bus ∧ (State.checkChannel s c).free = s.free := by
  generalize hr : State.checkChannel s c = r
  simp only [State.checkChannel] at hr
  repeat' split at hr
  all_goals (subst hr; (simp only [and_self, (fact @State.beginTraining_keep), (fact @State.record_calm), sevDebug, sevInfo, sevNotice, sevWarning, sevError, sevCritical, ne_eq, Nat.reduceEqDiff, not_false_eq_true]))

theorem State.checkDram_keep (s : State) (ok : Bool) :
    (State.checkDram s ok).pending = s.pending ∧ (State.checkDram s ok).time = s.time ∧ (State.checkDram s ok).fuses = s.fuses ∧ (State.checkDram s ok).params = s.params ∧ (State.checkDram s ok).nvm = s.nvm ∧ (State.checkDram s ok).map = s.map ∧ (State.checkDram s ok).media = s.media ∧ (State.checkDram s ok).flash = s.flash ∧ (State.checkDram s ok).cache = s.cache ∧ (State.checkDram s ok).pwr = s.pwr ∧ (State.checkDram s ok).sec = s.sec ∧ (State.checkDram s ok).bus = s.bus ∧ (State.checkDram s ok).free = s.free := by
  generalize hr : State.checkDram s ok = r
  simp only [State.checkDram] at hr
  repeat' split at hr
  all_goals (subst hr; (simp only [and_self, (fact @State.controlledStop_keep), (fact @State.record_calm), sevDebug, sevInfo, sevNotice, sevWarning, sevError, sevCritical, ne_eq, Nat.reduceEqDiff, not_false_eq_true]))

theorem State.wakeUp_keep (s : State) (ps : Nat) (w : WakeChecks) :
    (State.wakeUp s ps w).pending = s.pending ∧ (State.wakeUp s ps w).time = s.time ∧ (State.wakeUp s ps w).fuses = s.fuses ∧ (State.wakeUp s ps w).params = s.params ∧ (State.wakeUp s ps w).bus = s.bus ∧ (State.wakeUp s ps w).free = s.free ∧ (State.wakeUp s ps w).sec.target = s.sec.target := by
  generalize hr : State.wakeUp s ps w = r
  simp only [State.wakeUp] at hr
  repeat' split at hr
  all_goals (subst hr; (first | (simp only [and_self, (fact @State.checkBulk_keep), (fact @State.checkChannel_keep), (fact @State.checkDigest_keep), (fact @State.checkDram_keep), (fact @State.checkGrove_keep)]; done) | (and_intros <;> (repeat' first | (simp only [and_self, (fact @State.checkBulk_keep), (fact @State.checkChannel_keep), (fact @State.checkDigest_keep), (fact @State.checkDram_keep), (fact @State.checkGrove_keep)]; done) | (simp only [and_self, (fact @State.checkBulk_keep), (fact @State.checkChannel_keep), (fact @State.checkDigest_keep), (fact @State.checkDram_keep), (fact @State.checkGrove_keep)]) | (split at hb) | (subst hb; simp only [and_self, (fact @State.checkBulk_keep), (fact @State.checkChannel_keep), (fact @State.checkDigest_keep), (fact @State.checkDram_keep), (fact @State.checkGrove_keep)]) | (refine (foldl_pending (fun _ _ _ hb => ?_) _ _).trans ?_) | (refine (foldl_time (fun _ _ _ hb => ?_) _ _).trans ?_) | (refine (foldl_fuses (fun _ _ _ hb => ?_) _ _).trans ?_) | (refine (foldl_params (fun _ _ _ hb => ?_) _ _).trans ?_) | (refine (foldl_bus (fun _ _ _ hb => ?_) _ _).trans ?_) | (refine (foldl_free (fun _ _ _ hb => ?_) _ _).trans ?_) | (refine (foldl_sec_target (fun _ _ _ hb => ?_) _ _).trans ?_) | split))))

theorem State.wakeEnd_keep (s : State) :
    (State.wakeEnd s).pending = s.pending ∧ (State.wakeEnd s).time = s.time ∧ (State.wakeEnd s).fuses = s.fuses ∧ (State.wakeEnd s).params = s.params ∧ (State.wakeEnd s).land = s.land ∧ (State.wakeEnd s).map = s.map ∧ (State.wakeEnd s).media = s.media ∧ (State.wakeEnd s).flash = s.flash ∧ (State.wakeEnd s).cache = s.cache ∧ (State.wakeEnd s).plp = s.plp ∧ (State.wakeEnd s).dram = s.dram ∧ (State.wakeEnd s).sec = s.sec ∧ (State.wakeEnd s).mgmt = s.mgmt ∧ (State.wakeEnd s).naile = s.naile ∧ (State.wakeEnd s).nor = s.nor ∧ (State.wakeEnd s).tally = s.tally ∧ (State.wakeEnd s).bus = s.bus ∧ (State.wakeEnd s).free = s.free := by
  generalize hr : State.wakeEnd s = r
  simp only [State.wakeEnd] at hr
  repeat' split at hr
  all_goals (subst hr; (simp only [and_self, (fact @State.resumeFetch_keep)]))

theorem State.fullWake_keep (s : State) (w : WakeChecks) :
    (State.fullWake s w).pending = s.pending ∧ (State.fullWake s w).time = s.time ∧ (State.fullWake s w).fuses = s.fuses ∧ (State.fullWake s w).params = s.params ∧ (State.fullWake s w).bus = s.bus ∧ (State.fullWake s w).free = s.free ∧ (State.fullWake s w).sec.target = s.sec.target := by
  generalize hr : State.fullWake s w = r
  simp only [State.fullWake] at hr
  repeat' split at hr
  all_goals (subst hr; (simp only [and_self, (fact @State.leaveIdle_keep), (fact @State.recheckPower_keep), (fact @State.wakeEnd_keep), (fact @State.wakeUp_keep)]))

theorem State.takePin_keep (s : State) :
    (State.takePin s).pending = s.pending ∧ (State.takePin s).fuses = s.fuses ∧ (State.takePin s).free = s.free ∧ (State.takePin s).sec.target = s.sec.target := by
  generalize hr : State.takePin s = r
  simp only [State.takePin] at hr
  repeat' split at hr
  all_goals (subst hr; (simp only [and_self, (fact @State.clearUnits_keep)]))

theorem State.dispatch_keep (s : State) (tag : Nat) (t : TagE) :
    (State.dispatch s tag t).pending = s.pending ∧ (State.dispatch s tag t).time = s.time ∧ (State.dispatch s tag t).dev = s.dev ∧ (State.dispatch s tag t).fuses = s.fuses ∧ (State.dispatch s tag t).params = s.params ∧ (State.dispatch s tag t).land = s.land ∧ (State.dispatch s tag t).map = s.map ∧ (State.dispatch s tag t).media = s.media ∧ (State.dispatch s tag t).flash = s.flash ∧ (State.dispatch s tag t).cache = s.cache ∧ (State.dispatch s tag t).plp = s.plp ∧ (State.dispatch s tag t).dram = s.dram ∧ (State.dispatch s tag t).pwr = s.pwr ∧ (State.dispatch s tag t).sec = s.sec ∧ (State.dispatch s tag t).mgmt = s.mgmt ∧ (State.dispatch s tag t).naile = s.naile ∧ (State.dispatch s tag t).nor = s.nor ∧ (State.dispatch s tag t).tally = s.tally ∧ (State.dispatch s tag t).bus = s.bus ∧ (State.dispatch s tag t).free = s.free := by
  generalize hr : State.dispatch s tag t = r
  simp only [State.dispatch] at hr
  repeat' split at hr
  all_goals (subst hr; (simp only [and_self, (fact @State.chargeCredit_keep), (fact @State.modTag_keep)]))

theorem State.portReset_keep (s : State) (p : Port) (cause : Nat) (f : PortS → PortS) :
    (State.portReset s p cause f).pending = s.pending ∧ (State.portReset s p cause f).time = s.time ∧ (State.portReset s p cause f).dev = s.dev ∧ (State.portReset s p cause f).fuses = s.fuses ∧ (State.portReset s p cause f).params = s.params ∧ (State.portReset s p cause f).media = s.media ∧ (State.portReset s p cause f).plp = s.plp ∧ (State.portReset s p cause f).dram = s.dram ∧ (State.portReset s p cause f).sec = s.sec ∧ (State.portReset s p cause f).mgmt = s.mgmt ∧ (State.portReset s p cause f).naile = s.naile ∧ (State.portReset s p cause f).nor = s.nor ∧ (State.portReset s p cause f).bus = s.bus ∧ (State.portReset s p cause f).free = s.free := by
  generalize hr : State.portReset s p cause f = r
  simp only [State.portReset] at hr
  repeat' split at hr
  all_goals (subst hr; (simp only [and_self, (fact @State.endLease_keep), (fact @State.recheckPower_keep), (fact @State.resetFuncs_keep)]))















theorem postHeld_keep n s c q : (postHeld n s c q).pending = s.pending ∧ (postHeld n s c q).time = s.time ∧ (postHeld n s c q).dev = s.dev ∧ (postHeld n s c q).fuses = s.fuses ∧ (postHeld n s c q).params = s.params ∧ (postHeld n s c q).map = s.map ∧ (postHeld n s c q).media = s.media ∧ (postHeld n s c q).flash = s.flash ∧ (postHeld n s c q).cache = s.cache ∧ (postHeld n s c q).plp = s.plp ∧ (postHeld n s c q).dram = s.dram ∧ (postHeld n s c q).pwr = s.pwr ∧ (postHeld n s c q).sec = s.sec ∧ (postHeld n s c q).mgmt = s.mgmt ∧ (postHeld n s c q).naile = s.naile ∧ (postHeld n s c q).nor = s.nor ∧ (postHeld n s c q).bus = s.bus ∧ (postHeld n s c q).free = s.free := by
  induction n generalizing s with
  | zero => simp only [postHeld, and_self]
  | succ n ih =>
    generalize hr : postHeld (n + 1) s c q = r
    simp only [postHeld] at hr
    repeat' split at hr
    all_goals (subst hr; first | (simp only [ih, and_self, (fact @State.freeTag_keep)]; done) | simp only [and_self])






theorem State.snapshot_keep (s : State) (path : Nat) :
    (State.snapshot s path).pending = s.pending ∧ (State.snapshot s path).time = s.time ∧ (State.snapshot s path).dev = s.dev ∧ (State.snapshot s path).fuses = s.fuses ∧ (State.snapshot s path).params = s.params ∧ (State.snapshot s path).host = s.host ∧ (State.snapshot s path).nvm = s.nvm ∧ (State.snapshot s path).land = s.land ∧ (State.snapshot s path).map = s.map ∧ (State.snapshot s path).media = s.media ∧ (State.snapshot s path).flash = s.flash ∧ (State.snapshot s path).cache = s.cache ∧ (State.snapshot s path).plp = s.plp ∧ (State.snapshot s path).dram = s.dram ∧ (State.snapshot s path).pwr = s.pwr ∧ (State.snapshot s path).sec = s.sec ∧ (State.snapshot s path).naile = s.naile ∧ (State.snapshot s path).nor = s.nor ∧ (State.snapshot s path).tally = s.tally ∧ (State.snapshot s path).bus = s.bus ∧ (State.snapshot s path).free = s.free := by
  generalize hr : State.snapshot s path = r
  simp only [State.snapshot] at hr
  repeat' split at hr
  all_goals (subst hr; (simp only [and_self]))

theorem State.issueTlps_keep (s : State) (p : Port) (l : List Tlp) :
    (State.issueTlps s p l).pending = s.pending ∧ (State.issueTlps s p l).time = s.time ∧ (State.issueTlps s p l).dev = s.dev ∧ (State.issueTlps s p l).fuses = s.fuses ∧ (State.issueTlps s p l).params = s.params ∧ (State.issueTlps s p l).nvm = s.nvm ∧ (State.issueTlps s p l).map = s.map ∧ (State.issueTlps s p l).media = s.media ∧ (State.issueTlps s p l).flash = s.flash ∧ (State.issueTlps s p l).cache = s.cache ∧ (State.issueTlps s p l).plp = s.plp ∧ (State.issueTlps s p l).dram = s.dram ∧ (State.issueTlps s p l).pwr = s.pwr ∧ (State.issueTlps s p l).sec = s.sec ∧ (State.issueTlps s p l).mgmt = s.mgmt ∧ (State.issueTlps s p l).naile = s.naile ∧ (State.issueTlps s p l).nor = s.nor ∧ (State.issueTlps s p l).tally = s.tally ∧ (State.issueTlps s p l).bus = s.bus ∧ (State.issueTlps s p l).free = s.free := by
  generalize hr : State.issueTlps s p l = r
  simp only [State.issueTlps] at hr
  repeat' split at hr
  all_goals (subst hr; (simp only [and_self]))

theorem State.fetchData_keep (s : State) (t : TagE) (len : Nat) :
    (State.fetchData s t len).pending = s.pending ∧ (State.fetchData s t len).time = s.time ∧ (State.fetchData s t len).dev = s.dev ∧ (State.fetchData s t len).fuses = s.fuses ∧ (State.fetchData s t len).params = s.params ∧ (State.fetchData s t len).nvm = s.nvm ∧ (State.fetchData s t len).map = s.map ∧ (State.fetchData s t len).media = s.media ∧ (State.fetchData s t len).flash = s.flash ∧ (State.fetchData s t len).cache = s.cache ∧ (State.fetchData s t len).plp = s.plp ∧ (State.fetchData s t len).dram = s.dram ∧ (State.fetchData s t len).pwr = s.pwr ∧ (State.fetchData s t len).sec = s.sec ∧ (State.fetchData s t len).mgmt = s.mgmt ∧ (State.fetchData s t len).naile = s.naile ∧ (State.fetchData s t len).nor = s.nor ∧ (State.fetchData s t len).tally = s.tally ∧ (State.fetchData s t len).bus = s.bus ∧ (State.fetchData s t len).free = s.free := by
  generalize hr : State.fetchData s t len = r
  simp only [State.fetchData] at hr
  repeat' split at hr
  all_goals (subst hr; (simp only [and_self, (fact @State.issueTlps_keep)]))

theorem State.returnData_keep (s : State) (tag : Nat) (t : TagE) (len : Nat) (dw0 : Dword) (data : Payload) :
    (State.returnData s tag t len dw0 data).pending = s.pending ∧ (State.returnData s tag t len dw0 data).time = s.time ∧ (State.returnData s tag t len dw0 data).dev = s.dev ∧ (State.returnData s tag t len dw0 data).fuses = s.fuses ∧ (State.returnData s tag t len dw0 data).params = s.params ∧ (State.returnData s tag t len dw0 data).map = s.map ∧ (State.returnData s tag t len dw0 data).media = s.media ∧ (State.returnData s tag t len dw0 data).flash = s.flash ∧ (State.returnData s tag t len dw0 data).cache = s.cache ∧ (State.returnData s tag t len dw0 data).plp = s.plp ∧ (State.returnData s tag t len dw0 data).dram = s.dram ∧ (State.returnData s tag t len dw0 data).pwr = s.pwr ∧ (State.returnData s tag t len dw0 data).sec = s.sec ∧ (State.returnData s tag t len dw0 data).mgmt = s.mgmt ∧ (State.returnData s tag t len dw0 data).naile = s.naile ∧ (State.returnData s tag t len dw0 data).nor = s.nor ∧ (State.returnData s tag t len dw0 data).bus = s.bus ∧ (State.returnData s tag t len dw0 data).free = s.free := by
  generalize hr : State.returnData s tag t len dw0 data = r
  simp only [State.returnData] at hr
  repeat' split at hr
  all_goals (subst hr; (simp only [and_self, (fact @State.complete_keep), (fact @State.issueTlps_keep)]))

theorem State.adminCords_keep (s : State) (tag : Nat) (t : TagE) :
    (State.adminCords s tag t).pending = s.pending ∧ (State.adminCords s tag t).time = s.time ∧ (State.adminCords s tag t).dev = s.dev ∧ (State.adminCords s tag t).fuses = s.fuses ∧ (State.adminCords s tag t).params = s.params ∧ (State.adminCords s tag t).host = s.host ∧ (State.adminCords s tag t).nvm = s.nvm ∧ (State.adminCords s tag t).map = s.map ∧ (State.adminCords s tag t).media = s.media ∧ (State.adminCords s tag t).flash = s.flash ∧ (State.adminCords s tag t).cache = s.cache ∧ (State.adminCords s tag t).plp = s.plp ∧ (State.adminCords s tag t).dram = s.dram ∧ (State.adminCords s tag t).pwr = s.pwr ∧ (State.adminCords s tag t).sec = s.sec ∧ (State.adminCords s tag t).mgmt = s.mgmt ∧ (State.adminCords s tag t).naile = s.naile ∧ (State.adminCords s tag t).nor = s.nor ∧ (State.adminCords s tag t).tally = s.tally ∧ (State.adminCords s tag t).bus = s.bus ∧ (State.adminCords s tag t).free = s.free := by
  generalize hr : State.adminCords s tag t = r
  simp only [State.adminCords] at hr
  repeat' split at hr
  all_goals (subst hr; (simp only [and_self, (fact @State.askTag_keep)]))

theorem State.adminTaken_keep (s : State) (tag : Nat) (t : TagE) :
    (State.adminTaken s tag t).pending = s.pending ∧ (State.adminTaken s tag t).time = s.time ∧ (State.adminTaken s tag t).dev = s.dev ∧ (State.adminTaken s tag t).fuses = s.fuses ∧ (State.adminTaken s tag t).params = s.params ∧ (State.adminTaken s tag t).nvm = s.nvm ∧ (State.adminTaken s tag t).map = s.map ∧ (State.adminTaken s tag t).media = s.media ∧ (State.adminTaken s tag t).flash = s.flash ∧ (State.adminTaken s tag t).cache = s.cache ∧ (State.adminTaken s tag t).plp = s.plp ∧ (State.adminTaken s tag t).dram = s.dram ∧ (State.adminTaken s tag t).pwr = s.pwr ∧ (State.adminTaken s tag t).sec = s.sec ∧ (State.adminTaken s tag t).mgmt = s.mgmt ∧ (State.adminTaken s tag t).naile = s.naile ∧ (State.adminTaken s tag t).nor = s.nor ∧ (State.adminTaken s tag t).tally = s.tally ∧ (State.adminTaken s tag t).bus = s.bus ∧ (State.adminTaken s tag t).free = s.free := by
  generalize hr : State.adminTaken s tag t = r
  simp only [State.adminTaken] at hr
  repeat' split at hr
  all_goals (subst hr; (simp only [and_self, (fact @State.adminCords_keep), (fact @State.fetchData_keep)]))





theorem State.startOp_keep (s : State) (tag : Nat) (kind : SliceKind) (nsids : List Nat) (rekey : Bool) (mode : NsMode) :
    (State.startOp s tag kind nsids rekey mode).pending = s.pending ∧ (State.startOp s tag kind nsids rekey mode).time = s.time ∧ (State.startOp s tag kind nsids rekey mode).dev = s.dev ∧ (State.startOp s tag kind nsids rekey mode).fuses = s.fuses ∧ (State.startOp s tag kind nsids rekey mode).params = s.params ∧ (State.startOp s tag kind nsids rekey mode).land = s.land ∧ (State.startOp s tag kind nsids rekey mode).map = s.map ∧ (State.startOp s tag kind nsids rekey mode).media = s.media ∧ (State.startOp s tag kind nsids rekey mode).flash = s.flash ∧ (State.startOp s tag kind nsids rekey mode).cache = s.cache ∧ (State.startOp s tag kind nsids rekey mode).plp = s.plp ∧ (State.startOp s tag kind nsids rekey mode).dram = s.dram ∧ (State.startOp s tag kind nsids rekey mode).pwr = s.pwr ∧ (State.startOp s tag kind nsids rekey mode).sec = s.sec ∧ (State.startOp s tag kind nsids rekey mode).mgmt = s.mgmt ∧ (State.startOp s tag kind nsids rekey mode).naile = s.naile ∧ (State.startOp s tag kind nsids rekey mode).nor = s.nor ∧ (State.startOp s tag kind nsids rekey mode).tally = s.tally ∧ (State.startOp s tag kind nsids rekey mode).bus = s.bus ∧ (State.startOp s tag kind nsids rekey mode).free = s.free := by
  generalize hr : State.startOp s tag kind nsids rekey mode = r
  simp only [State.startOp] at hr
  repeat' split at hr
  all_goals (subst hr; (simp only [and_self, (fact @State.modTag_keep)]))

theorem State.createNs_keep (s : State) (nsid : Nat) (nsze : Nat) (st : Nat) :
    (State.createNs s nsid nsze st).pending = s.pending ∧ (State.createNs s nsid nsze st).time = s.time ∧ (State.createNs s nsid nsze st).dev = s.dev ∧ (State.createNs s nsid nsze st).fuses = s.fuses ∧ (State.createNs s nsid nsze st).params = s.params ∧ (State.createNs s nsid nsze st).host = s.host ∧ (State.createNs s nsid nsze st).land = s.land ∧ (State.createNs s nsid nsze st).media = s.media ∧ (State.createNs s nsid nsze st).flash = s.flash ∧ (State.createNs s nsid nsze st).cache = s.cache ∧ (State.createNs s nsid nsze st).plp = s.plp ∧ (State.createNs s nsid nsze st).dram = s.dram ∧ (State.createNs s nsid nsze st).pwr = s.pwr ∧ (State.createNs s nsid nsze st).sec = s.sec ∧ (State.createNs s nsid nsze st).naile = s.naile ∧ (State.createNs s nsid nsze st).nor = s.nor ∧ (State.createNs s nsid nsze st).tally = s.tally ∧ (State.createNs s nsid nsze st).bus = s.bus ∧ (State.createNs s nsid nsze st).free = s.free := by
  generalize hr : State.createNs s nsid nsze st = r
  simp only [State.createNs] at hr
  repeat' split at hr
  all_goals (subst hr; (simp only [and_self, (fact @State.journal_keep)]))

theorem State.attachNs_keep (s : State) (nsid : Nat) (cs : List Nat) :
    (State.attachNs s nsid cs).pending = s.pending ∧ (State.attachNs s nsid cs).time = s.time ∧ (State.attachNs s nsid cs).dev = s.dev ∧ (State.attachNs s nsid cs).fuses = s.fuses ∧ (State.attachNs s nsid cs).params = s.params ∧ (State.attachNs s nsid cs).map = s.map ∧ (State.attachNs s nsid cs).media = s.media ∧ (State.attachNs s nsid cs).flash = s.flash ∧ (State.attachNs s nsid cs).cache = s.cache ∧ (State.attachNs s nsid cs).plp = s.plp ∧ (State.attachNs s nsid cs).dram = s.dram ∧ (State.attachNs s nsid cs).pwr = s.pwr ∧ (State.attachNs s nsid cs).sec = s.sec ∧ (State.attachNs s nsid cs).naile = s.naile ∧ (State.attachNs s nsid cs).nor = s.nor ∧ (State.attachNs s nsid cs).free = s.free := by
  generalize hr : State.attachNs s nsid cs = r
  simp only [State.attachNs] at hr
  repeat' split at hr
  all_goals (subst hr; (first | (simp only [and_self, (fact @State.journal_keep), (fact @State.nsChanged_keep)]; done) | (and_intros <;> (repeat' first | (simp only [and_self, (fact @State.journal_keep), (fact @State.nsChanged_keep)]; done) | (simp only [and_self, (fact @State.journal_keep), (fact @State.nsChanged_keep)]) | (split at hb) | (subst hb; simp only [and_self, (fact @State.journal_keep), (fact @State.nsChanged_keep)]) | (refine (foldl_pending (fun _ _ _ hb => ?_) _ _).trans ?_) | (refine (foldl_time (fun _ _ _ hb => ?_) _ _).trans ?_) | (refine (foldl_dev (fun _ _ _ hb => ?_) _ _).trans ?_) | (refine (foldl_fuses (fun _ _ _ hb => ?_) _ _).trans ?_) | (refine (foldl_params (fun _ _ _ hb => ?_) _ _).trans ?_) | (refine (foldl_map (fun _ _ _ hb => ?_) _ _).trans ?_) | (refine (foldl_media (fun _ _ _ hb => ?_) _ _).trans ?_) | (refine (foldl_flash (fun _ _ _ hb => ?_) _ _).trans ?_) | (refine (foldl_cache (fun _ _ _ hb => ?_) _ _).trans ?_) | (refine (foldl_plp (fun _ _ _ hb => ?_) _ _).trans ?_) | (refine (foldl_dram (fun _ _ _ hb => ?_) _ _).trans ?_) | (refine (foldl_pwr (fun _ _ _ hb => ?_) _ _).trans ?_) | (refine (foldl_sec (fun _ _ _ hb => ?_) _ _).trans ?_) | (refine (foldl_naile (fun _ _ _ hb => ?_) _ _).trans ?_) | (refine (foldl_nor (fun _ _ _ hb => ?_) _ _).trans ?_) | (refine (foldl_free (fun _ _ _ hb => ?_) _ _).trans ?_) | split))))

theorem State.detachNs_keep (s : State) (nsid : Nat) (cs : List Nat) :
    (State.detachNs s nsid cs).pending = s.pending ∧ (State.detachNs s nsid cs).time = s.time ∧ (State.detachNs s nsid cs).dev = s.dev ∧ (State.detachNs s nsid cs).fuses = s.fuses ∧ (State.detachNs s nsid cs).params = s.params ∧ (State.detachNs s nsid cs).map = s.map ∧ (State.detachNs s nsid cs).media = s.media ∧ (State.detachNs s nsid cs).flash = s.flash ∧ (State.detachNs s nsid cs).cache = s.cache ∧ (State.detachNs s nsid cs).plp = s.plp ∧ (State.detachNs s nsid cs).dram = s.dram ∧ (State.detachNs s nsid cs).pwr = s.pwr ∧ (State.detachNs s nsid cs).sec = s.sec ∧ (State.detachNs s nsid cs).naile = s.naile ∧ (State.detachNs s nsid cs).nor = s.nor ∧ (State.detachNs s nsid cs).free = s.free := by
  generalize hr : State.detachNs s nsid cs = r
  simp only [State.detachNs] at hr
  repeat' split at hr
  all_goals (subst hr; (simp only [and_self, (fact @State.journal_keep), (fact @State.nsChanged_keep)]))


theorem State.keepFeature_keep (s : State) (tag : Nat) (t : TagE) (key : Nat) (v : Dword) (dw0 : Dword) :
    (State.keepFeature s tag t key v dw0).pending = s.pending ∧ (State.keepFeature s tag t key v dw0).time = s.time ∧ (State.keepFeature s tag t key v dw0).dev = s.dev ∧ (State.keepFeature s tag t key v dw0).fuses = s.fuses ∧ (State.keepFeature s tag t key v dw0).params = s.params ∧ (State.keepFeature s tag t key v dw0).map = s.map ∧ (State.keepFeature s tag t key v dw0).media = s.media ∧ (State.keepFeature s tag t key v dw0).flash = s.flash ∧ (State.keepFeature s tag t key v dw0).cache = s.cache ∧ (State.keepFeature s tag t key v dw0).plp = s.plp ∧ (State.keepFeature s tag t key v dw0).dram = s.dram ∧ (State.keepFeature s tag t key v dw0).pwr = s.pwr ∧ (State.keepFeature s tag t key v dw0).sec = s.sec ∧ (State.keepFeature s tag t key v dw0).mgmt = s.mgmt ∧ (State.keepFeature s tag t key v dw0).naile = s.naile ∧ (State.keepFeature s tag t key v dw0).nor = s.nor ∧ (State.keepFeature s tag t key v dw0).bus = s.bus ∧ (State.keepFeature s tag t key v dw0).free = s.free := by
  generalize hr : State.keepFeature s tag t key v dw0 = r
  simp only [State.keepFeature] at hr
  repeat' split at hr
  all_goals (subst hr; (simp only [and_self, (fact @State.complete_keep)]))




theorem State.beginRead_keep (s : State) (tag : Nat) (f : RwFields) :
    (State.beginRead s tag f).pending = s.pending ∧ (State.beginRead s tag f).time = s.time ∧ (State.beginRead s tag f).dev = s.dev ∧ (State.beginRead s tag f).fuses = s.fuses ∧ (State.beginRead s tag f).params = s.params ∧ (State.beginRead s tag f).plp = s.plp ∧ (State.beginRead s tag f).dram = s.dram ∧ (State.beginRead s tag f).pwr = s.pwr ∧ (State.beginRead s tag f).sec = s.sec ∧ (State.beginRead s tag f).mgmt = s.mgmt ∧ (State.beginRead s tag f).naile = s.naile ∧ (State.beginRead s tag f).nor = s.nor ∧ (State.beginRead s tag f).bus = s.bus ∧ (State.beginRead s tag f).free = s.free := by
  generalize hr : State.beginRead s tag f = r
  simp only [State.beginRead] at hr
  repeat' split at hr
  all_goals (subst hr; (simp only [and_self, (fact @State.continueRead_keep), (fact @State.modTag_keep)]))

theorem State.doRead_keep (s : State) (tag : Nat) (t : TagE) (f : RwFields) :
    (State.doRead s tag t f).pending = s.pending ∧ (State.doRead s tag t f).time = s.time ∧ (State.doRead s tag t f).dev = s.dev ∧ (State.doRead s tag t f).fuses = s.fuses ∧ (State.doRead s tag t f).params = s.params ∧ (State.doRead s tag t f).plp = s.plp ∧ (State.doRead s tag t f).dram = s.dram ∧ (State.doRead s tag t f).pwr = s.pwr ∧ (State.doRead s tag t f).sec = s.sec ∧ (State.doRead s tag t f).mgmt = s.mgmt ∧ (State.doRead s tag t f).naile = s.naile ∧ (State.doRead s tag t f).nor = s.nor ∧ (State.doRead s tag t f).bus = s.bus ∧ (State.doRead s tag t f).free = s.free := by
  generalize hr : State.doRead s tag t f = r
  simp only [State.doRead, State.onNs] at hr
  repeat' split at hr
  all_goals (subst hr; (simp only [and_self, (fact @State.beginRead_keep), (fact @State.complete_keep)]))

theorem State.writeGroups_keep {s : State} {tag : Nat} {c : Cntl} {f : RwFields} {x : NsS} {b : State × List Dword}
    (h : s.writeGroups tag c f x = some b) : b.1 = { s with cache := b.1.cache } := by
  simp only [State.writeGroups] at h
  exact State.addGroups_keep h


theorem State.charge_keep (s : State) (st : Nat) (n : Nat) :
    (State.charge s st n).pending = s.pending ∧ (State.charge s st n).time = s.time ∧ (State.charge s st n).dev = s.dev ∧ (State.charge s st n).fuses = s.fuses ∧ (State.charge s st n).params = s.params ∧ (State.charge s st n).host = s.host ∧ (State.charge s st n).land = s.land ∧ (State.charge s st n).map = s.map ∧ (State.charge s st n).media = s.media ∧ (State.charge s st n).flash = s.flash ∧ (State.charge s st n).cache = s.cache ∧ (State.charge s st n).plp = s.plp ∧ (State.charge s st n).dram = s.dram ∧ (State.charge s st n).pwr = s.pwr ∧ (State.charge s st n).sec = s.sec ∧ (State.charge s st n).mgmt = s.mgmt ∧ (State.charge s st n).naile = s.naile ∧ (State.charge s st n).nor = s.nor ∧ (State.charge s st n).tally = s.tally ∧ (State.charge s st n).bus = s.bus ∧ (State.charge s st n).free = s.free := by
  generalize hr : State.charge s st n = r
  simp only [State.charge] at hr
  repeat' split at hr
  all_goals (subst hr; (simp only [and_self]))

theorem State.failWrite_keep (s : State) (tag : Nat) (st : Status) :
    (State.failWrite s tag st).pending = s.pending ∧ (State.failWrite s tag st).time = s.time ∧ (State.failWrite s tag st).dev = s.dev ∧ (State.failWrite s tag st).fuses = s.fuses ∧ (State.failWrite s tag st).params = s.params ∧ (State.failWrite s tag st).map = s.map ∧ (State.failWrite s tag st).media = s.media ∧ (State.failWrite s tag st).flash = s.flash ∧ (State.failWrite s tag st).plp = s.plp ∧ (State.failWrite s tag st).dram = s.dram ∧ (State.failWrite s tag st).pwr = s.pwr ∧ (State.failWrite s tag st).sec = s.sec ∧ (State.failWrite s tag st).mgmt = s.mgmt ∧ (State.failWrite s tag st).naile = s.naile ∧ (State.failWrite s tag st).nor = s.nor ∧ (State.failWrite s tag st).bus = s.bus ∧ (State.failWrite s tag st).free = s.free := by
  generalize hr : State.failWrite s tag st = r
  simp only [State.failWrite] at hr
  repeat' split at hr
  all_goals (subst hr; (simp only [and_self, (fact @State.complete_keep), (fact @State.feedCtxs_keep), (fact @State.modTag_keep), (fact @State.returnCharge_keep)]))

theorem State.abortTag_keep (s : State) (k : Nat) (x : TagE) (st : Status) :
    (State.abortTag s k x st).pending = s.pending ∧ (State.abortTag s k x st).time = s.time ∧ (State.abortTag s k x st).dev = s.dev ∧ (State.abortTag s k x st).fuses = s.fuses ∧ (State.abortTag s k x st).params = s.params ∧ (State.abortTag s k x st).map = s.map ∧ (State.abortTag s k x st).media = s.media ∧ (State.abortTag s k x st).flash = s.flash ∧ (State.abortTag s k x st).plp = s.plp ∧ (State.abortTag s k x st).dram = s.dram ∧ (State.abortTag s k x st).pwr = s.pwr ∧ (State.abortTag s k x st).sec = s.sec ∧ (State.abortTag s k x st).mgmt = s.mgmt ∧ (State.abortTag s k x st).naile = s.naile ∧ (State.abortTag s k x st).nor = s.nor ∧ (State.abortTag s k x st).bus = s.bus ∧ (State.abortTag s k x st).free = s.free := by
  generalize hr : State.abortTag s k x st = r
  simp only [State.abortTag] at hr
  repeat' split at hr
  all_goals (subst hr; (simp only [and_self, (fact @State.complete_keep), (fact @State.failWrite_keep)]))

theorem State.pullWrite_keep (s : State) (tag : Nat) (_t : TagE) (f : RwFields) :
    (State.pullWrite s tag _t f).pending = s.pending ∧ (State.pullWrite s tag _t f).time = s.time ∧ (State.pullWrite s tag _t f).dev = s.dev ∧ (State.pullWrite s tag _t f).fuses = s.fuses ∧ (State.pullWrite s tag _t f).params = s.params ∧ (State.pullWrite s tag _t f).map = s.map ∧ (State.pullWrite s tag _t f).media = s.media ∧ (State.pullWrite s tag _t f).flash = s.flash ∧ (State.pullWrite s tag _t f).plp = s.plp ∧ (State.pullWrite s tag _t f).dram = s.dram ∧ (State.pullWrite s tag _t f).pwr = s.pwr ∧ (State.pullWrite s tag _t f).sec = s.sec ∧ (State.pullWrite s tag _t f).mgmt = s.mgmt ∧ (State.pullWrite s tag _t f).naile = s.naile ∧ (State.pullWrite s tag _t f).nor = s.nor ∧ (State.pullWrite s tag _t f).bus = s.bus ∧ (State.pullWrite s tag _t f).free = s.free := by
  generalize hr : State.pullWrite s tag _t f = r
  simp only [State.pullWrite] at hr
  repeat' split at hr
  all_goals (subst hr; (simp only [and_self, (fact @State.beginTransfer_keep), (fact @State.failWrite_keep), (fact @State.modTag_keep)]))

theorem State.pullData_keep (s : State) (tag : Nat) :
    (State.pullData s tag).pending = s.pending ∧ (State.pullData s tag).time = s.time ∧ (State.pullData s tag).dev = s.dev ∧ (State.pullData s tag).fuses = s.fuses ∧ (State.pullData s tag).params = s.params ∧ (State.pullData s tag).map = s.map ∧ (State.pullData s tag).media = s.media ∧ (State.pullData s tag).flash = s.flash ∧ (State.pullData s tag).plp = s.plp ∧ (State.pullData s tag).dram = s.dram ∧ (State.pullData s tag).pwr = s.pwr ∧ (State.pullData s tag).sec = s.sec ∧ (State.pullData s tag).mgmt = s.mgmt ∧ (State.pullData s tag).naile = s.naile ∧ (State.pullData s tag).nor = s.nor ∧ (State.pullData s tag).bus = s.bus ∧ (State.pullData s tag).free = s.free := by
  generalize hr : State.pullData s tag = r
  simp only [State.pullData] at hr
  repeat' split at hr
  all_goals (subst hr; (simp only [and_self, (fact @State.pullWrite_keep)]))

theorem State.beginWrite_keep (s : State) (tag : Nat) (t : TagE) (f : RwFields) (x : NsS) :
    (s.beginWrite tag t f x).pending = s.pending ∧ (s.beginWrite tag t f x).time = s.time ∧ (s.beginWrite tag t f x).dev = s.dev ∧ (s.beginWrite tag t f x).fuses = s.fuses ∧ (s.beginWrite tag t f x).params = s.params ∧ (s.beginWrite tag t f x).map = s.map ∧ (s.beginWrite tag t f x).media = s.media ∧ (s.beginWrite tag t f x).flash = s.flash ∧ (s.beginWrite tag t f x).plp = s.plp ∧ (s.beginWrite tag t f x).dram = s.dram ∧ (s.beginWrite tag t f x).pwr = s.pwr ∧ (s.beginWrite tag t f x).sec = s.sec ∧ (s.beginWrite tag t f x).mgmt = s.mgmt ∧ (s.beginWrite tag t f x).naile = s.naile ∧ (s.beginWrite tag t f x).nor = s.nor ∧ (s.beginWrite tag t f x).bus = s.bus ∧ (s.beginWrite tag t f x).free = s.free := by
  generalize hr : s.beginWrite tag t f x = r
  simp only [State.beginWrite] at hr
  repeat' split at hr
  · subst hr; (and_intros <;> rfl)
  all_goals
    next s1 qs h1 _ =>
      have e := State.writeGroups_keep h1
      dsimp only at e
      subst hr
      simp only [(fact @State.pullData_keep), (fact @State.askTag_keep), (fact @State.modTag_keep), (fact @State.charge_keep)]
      rw [e]
      (and_intros <;> rfl)


theorem State.doWrite_keep (s : State) (tag : Nat) (t : TagE) (f : RwFields) :
    (State.doWrite s tag t f).pending = s.pending ∧ (State.doWrite s tag t f).time = s.time ∧ (State.doWrite s tag t f).dev = s.dev ∧ (State.doWrite s tag t f).fuses = s.fuses ∧ (State.doWrite s tag t f).params = s.params ∧ (State.doWrite s tag t f).map = s.map ∧ (State.doWrite s tag t f).media = s.media ∧ (State.doWrite s tag t f).flash = s.flash ∧ (State.doWrite s tag t f).plp = s.plp ∧ (State.doWrite s tag t f).dram = s.dram ∧ (State.doWrite s tag t f).pwr = s.pwr ∧ (State.doWrite s tag t f).sec = s.sec ∧ (State.doWrite s tag t f).mgmt = s.mgmt ∧ (State.doWrite s tag t f).naile = s.naile ∧ (State.doWrite s tag t f).nor = s.nor ∧ (State.doWrite s tag t f).bus = s.bus ∧ (State.doWrite s tag t f).free = s.free := by
  generalize hr : State.doWrite s tag t f = r
  simp only [State.doWrite, State.onNs] at hr
  repeat' split at hr
  all_goals (subst hr; (simp only [and_self, (fact @State.beginWrite_keep), (fact @State.complete_keep)]))

theorem State.inheritFlushes_keep (s : State) :
    (State.inheritFlushes s).pending = s.pending ∧ (State.inheritFlushes s).time = s.time ∧ (State.inheritFlushes s).dev = s.dev ∧ (State.inheritFlushes s).fuses = s.fuses ∧ (State.inheritFlushes s).params = s.params ∧ (State.inheritFlushes s).nvm = s.nvm ∧ (State.inheritFlushes s).map = s.map ∧ (State.inheritFlushes s).plp = s.plp ∧ (State.inheritFlushes s).dram = s.dram ∧ (State.inheritFlushes s).pwr = s.pwr ∧ (State.inheritFlushes s).sec = s.sec ∧ (State.inheritFlushes s).mgmt = s.mgmt ∧ (State.inheritFlushes s).naile = s.naile ∧ (State.inheritFlushes s).nor = s.nor ∧ (State.inheritFlushes s).tally = s.tally ∧ (State.inheritFlushes s).bus = s.bus ∧ (State.inheritFlushes s).free = s.free := by
  generalize hr : State.inheritFlushes s = r
  simp only [State.inheritFlushes] at hr
  repeat' split at hr
  all_goals (subst hr; (simp only [and_self, (fact @State.forceSets_keep)]))

theorem State.publishWrite_keep (s : State) (tag : Nat) (t : TagE) :
    (State.publishWrite s tag t).pending = s.pending ∧ (State.publishWrite s tag t).time = s.time ∧ (State.publishWrite s tag t).dev = s.dev ∧ (State.publishWrite s tag t).fuses = s.fuses ∧ (State.publishWrite s tag t).params = s.params ∧ (State.publishWrite s tag t).map = s.map ∧ (State.publishWrite s tag t).dram = s.dram ∧ (State.publishWrite s tag t).pwr = s.pwr ∧ (State.publishWrite s tag t).sec = s.sec ∧ (State.publishWrite s tag t).mgmt = s.mgmt ∧ (State.publishWrite s tag t).naile = s.naile ∧ (State.publishWrite s tag t).nor = s.nor ∧ (State.publishWrite s tag t).bus = s.bus ∧ (State.publishWrite s tag t).free = s.free := by
  generalize hr : State.publishWrite s tag t = r
  simp only [State.publishWrite] at hr
  repeat' split at hr
  all_goals (subst hr; (simp only [and_self, (fact @State.complete_keep), (fact @State.freeCords_keep), (fact @State.freeGroups_keep), (fact @State.inheritFlushes_keep), (fact @State.modTag_keep), (fact @State.recheckSpare_keep), (fact @State.returnCharge_keep)]))

theorem State.addCommits_keep (s : State) (tag : Nat) (n : Nat) :
    (State.addCommits s tag n).pending = s.pending ∧ (State.addCommits s tag n).time = s.time ∧ (State.addCommits s tag n).dev = s.dev ∧ (State.addCommits s tag n).fuses = s.fuses ∧ (State.addCommits s tag n).params = s.params ∧ (State.addCommits s tag n).nvm = s.nvm ∧ (State.addCommits s tag n).land = s.land ∧ (State.addCommits s tag n).map = s.map ∧ (State.addCommits s tag n).media = s.media ∧ (State.addCommits s tag n).flash = s.flash ∧ (State.addCommits s tag n).cache = s.cache ∧ (State.addCommits s tag n).plp = s.plp ∧ (State.addCommits s tag n).dram = s.dram ∧ (State.addCommits s tag n).pwr = s.pwr ∧ (State.addCommits s tag n).sec = s.sec ∧ (State.addCommits s tag n).mgmt = s.mgmt ∧ (State.addCommits s tag n).naile = s.naile ∧ (State.addCommits s tag n).nor = s.nor ∧ (State.addCommits s tag n).tally = s.tally ∧ (State.addCommits s tag n).bus = s.bus ∧ (State.addCommits s tag n).free = s.free := by
  generalize hr : State.addCommits s tag n = r
  simp only [State.addCommits] at hr
  repeat' split at hr
  all_goals (subst hr; (simp only [and_self, (fact @State.modTag_keep)]))

theorem State.dealloc_keep (s : State) (tag : Nat) (nsid : Nat) (x : NsS) (rs : List LbaRange) :
    (State.dealloc s tag nsid x rs).pending = s.pending ∧ (State.dealloc s tag nsid x rs).time = s.time ∧ (State.dealloc s tag nsid x rs).dev = s.dev ∧ (State.dealloc s tag nsid x rs).fuses = s.fuses ∧ (State.dealloc s tag nsid x rs).params = s.params ∧ (State.dealloc s tag nsid x rs).media = s.media ∧ (State.dealloc s tag nsid x rs).flash = s.flash ∧ (State.dealloc s tag nsid x rs).cache = s.cache ∧ (State.dealloc s tag nsid x rs).plp = s.plp ∧ (State.dealloc s tag nsid x rs).dram = s.dram ∧ (State.dealloc s tag nsid x rs).pwr = s.pwr ∧ (State.dealloc s tag nsid x rs).sec = s.sec ∧ (State.dealloc s tag nsid x rs).mgmt = s.mgmt ∧ (State.dealloc s tag nsid x rs).naile = s.naile ∧ (State.dealloc s tag nsid x rs).nor = s.nor ∧ (State.dealloc s tag nsid x rs).bus = s.bus ∧ (State.dealloc s tag nsid x rs).free = s.free := by
  generalize hr : State.dealloc s tag nsid x rs = r
  simp only [State.dealloc] at hr
  repeat' split at hr
  all_goals (subst hr; (simp only [and_self, (fact @State.addCommits_keep), (fact @State.complete_keep), (fact @State.modTag_keep), (fact @State.queueChanges_keep)]))

theorem State.doDsm_keep (s : State) (tag : Nat) (t : TagE) (nsid : Dword) (ad : Bool) (ranges : List DsmRange) :
    (State.doDsm s tag t nsid ad ranges).pending = s.pending ∧ (State.doDsm s tag t nsid ad ranges).time = s.time ∧ (State.doDsm s tag t nsid ad ranges).dev = s.dev ∧ (State.doDsm s tag t nsid ad ranges).fuses = s.fuses ∧ (State.doDsm s tag t nsid ad ranges).params = s.params ∧ (State.doDsm s tag t nsid ad ranges).media = s.media ∧ (State.doDsm s tag t nsid ad ranges).flash = s.flash ∧ (State.doDsm s tag t nsid ad ranges).cache = s.cache ∧ (State.doDsm s tag t nsid ad ranges).plp = s.plp ∧ (State.doDsm s tag t nsid ad ranges).dram = s.dram ∧ (State.doDsm s tag t nsid ad ranges).pwr = s.pwr ∧ (State.doDsm s tag t nsid ad ranges).sec = s.sec ∧ (State.doDsm s tag t nsid ad ranges).mgmt = s.mgmt ∧ (State.doDsm s tag t nsid ad ranges).naile = s.naile ∧ (State.doDsm s tag t nsid ad ranges).nor = s.nor ∧ (State.doDsm s tag t nsid ad ranges).bus = s.bus ∧ (State.doDsm s tag t nsid ad ranges).free = s.free := by
  generalize hr : State.doDsm s tag t nsid ad ranges = r
  simp only [State.doDsm, State.onNs, State.withPtr] at hr
  repeat' split at hr
  all_goals (subst hr; (simp only [and_self, (fact @State.complete_keep), (fact @State.dealloc_keep), (fact @State.fetchData_keep)]))

theorem State.rsvNotify_keep (s : State) (nsid : Nat) (typ : Nat) (x : NsS) (hosts : List (BitVec 128)) :
    (State.rsvNotify s nsid typ x hosts).pending = s.pending ∧ (State.rsvNotify s nsid typ x hosts).time = s.time ∧ (State.rsvNotify s nsid typ x hosts).dev = s.dev ∧ (State.rsvNotify s nsid typ x hosts).fuses = s.fuses ∧ (State.rsvNotify s nsid typ x hosts).params = s.params ∧ (State.rsvNotify s nsid typ x hosts).map = s.map ∧ (State.rsvNotify s nsid typ x hosts).media = s.media ∧ (State.rsvNotify s nsid typ x hosts).flash = s.flash ∧ (State.rsvNotify s nsid typ x hosts).cache = s.cache ∧ (State.rsvNotify s nsid typ x hosts).plp = s.plp ∧ (State.rsvNotify s nsid typ x hosts).dram = s.dram ∧ (State.rsvNotify s nsid typ x hosts).pwr = s.pwr ∧ (State.rsvNotify s nsid typ x hosts).sec = s.sec ∧ (State.rsvNotify s nsid typ x hosts).naile = s.naile ∧ (State.rsvNotify s nsid typ x hosts).nor = s.nor ∧ (State.rsvNotify s nsid typ x hosts).bus = s.bus ∧ (State.rsvNotify s nsid typ x hosts).free = s.free := by
  generalize hr : State.rsvNotify s nsid typ x hosts = r
  simp only [State.rsvNotify] at hr
  repeat' split at hr
  all_goals (subst hr; (first | (simp only [and_self, (fact @State.raiseEvent_keep)]; done) | (and_intros <;> (repeat' first | (simp only [and_self, (fact @State.raiseEvent_keep)]; done) | (simp only [and_self, (fact @State.raiseEvent_keep)]) | (split at hb) | (subst hb; simp only [and_self, (fact @State.raiseEvent_keep)]) | (refine (foldl_pending (fun _ _ _ hb => ?_) _ _).trans ?_) | (refine (foldl_time (fun _ _ _ hb => ?_) _ _).trans ?_) | (refine (foldl_dev (fun _ _ _ hb => ?_) _ _).trans ?_) | (refine (foldl_fuses (fun _ _ _ hb => ?_) _ _).trans ?_) | (refine (foldl_params (fun _ _ _ hb => ?_) _ _).trans ?_) | (refine (foldl_map (fun _ _ _ hb => ?_) _ _).trans ?_) | (refine (foldl_media (fun _ _ _ hb => ?_) _ _).trans ?_) | (refine (foldl_flash (fun _ _ _ hb => ?_) _ _).trans ?_) | (refine (foldl_cache (fun _ _ _ hb => ?_) _ _).trans ?_) | (refine (foldl_plp (fun _ _ _ hb => ?_) _ _).trans ?_) | (refine (foldl_dram (fun _ _ _ hb => ?_) _ _).trans ?_) | (refine (foldl_pwr (fun _ _ _ hb => ?_) _ _).trans ?_) | (refine (foldl_sec (fun _ _ _ hb => ?_) _ _).trans ?_) | (refine (foldl_naile (fun _ _ _ hb => ?_) _ _).trans ?_) | (refine (foldl_nor (fun _ _ _ hb => ?_) _ _).trans ?_) | (refine (foldl_bus (fun _ _ _ hb => ?_) _ _).trans ?_) | (refine (foldl_free (fun _ _ _ hb => ?_) _ _).trans ?_) | split))))

theorem State.putNs_keep (s : State) (nsid : Nat) (x : NsS) :
    (State.putNs s nsid x).pending = s.pending ∧ (State.putNs s nsid x).time = s.time ∧ (State.putNs s nsid x).dev = s.dev ∧ (State.putNs s nsid x).fuses = s.fuses ∧ (State.putNs s nsid x).params = s.params ∧ (State.putNs s nsid x).host = s.host ∧ (State.putNs s nsid x).land = s.land ∧ (State.putNs s nsid x).map = s.map ∧ (State.putNs s nsid x).media = s.media ∧ (State.putNs s nsid x).flash = s.flash ∧ (State.putNs s nsid x).cache = s.cache ∧ (State.putNs s nsid x).plp = s.plp ∧ (State.putNs s nsid x).dram = s.dram ∧ (State.putNs s nsid x).pwr = s.pwr ∧ (State.putNs s nsid x).sec = s.sec ∧ (State.putNs s nsid x).mgmt = s.mgmt ∧ (State.putNs s nsid x).naile = s.naile ∧ (State.putNs s nsid x).nor = s.nor ∧ (State.putNs s nsid x).tally = s.tally ∧ (State.putNs s nsid x).bus = s.bus ∧ (State.putNs s nsid x).free = s.free := by
  generalize hr : State.putNs s nsid x = r
  simp only [State.putNs] at hr
  repeat' split at hr
  all_goals (subst hr; (simp only [and_self]))

theorem State.doRegister_keep (s : State) (tag : Nat) (h : BitVec 128) (nsid : Nat) (x : NsS) (act : RregAction) (iekey : Bool) (ptpl : PtplChange) (crkey : Qword) (nrkey : Qword) :
    (State.doRegister s tag h nsid x act iekey ptpl crkey nrkey).pending = s.pending ∧ (State.doRegister s tag h nsid x act iekey ptpl crkey nrkey).time = s.time ∧ (State.doRegister s tag h nsid x act iekey ptpl crkey nrkey).dev = s.dev ∧ (State.doRegister s tag h nsid x act iekey ptpl crkey nrkey).fuses = s.fuses ∧ (State.doRegister s tag h nsid x act iekey ptpl crkey nrkey).params = s.params ∧ (State.doRegister s tag h nsid x act iekey ptpl crkey nrkey).map = s.map ∧ (State.doRegister s tag h nsid x act iekey ptpl crkey nrkey).media = s.media ∧ (State.doRegister s tag h nsid x act iekey ptpl crkey nrkey).flash = s.flash ∧ (State.doRegister s tag h nsid x act iekey ptpl crkey nrkey).cache = s.cache ∧ (State.doRegister s tag h nsid x act iekey ptpl crkey nrkey).plp = s.plp ∧ (State.doRegister s tag h nsid x act iekey ptpl crkey nrkey).dram = s.dram ∧ (State.doRegister s tag h nsid x act iekey ptpl crkey nrkey).pwr = s.pwr ∧ (State.doRegister s tag h nsid x act iekey ptpl crkey nrkey).sec = s.sec ∧ (State.doRegister s tag h nsid x act iekey ptpl crkey nrkey).naile = s.naile ∧ (State.doRegister s tag h nsid x act iekey ptpl crkey nrkey).nor = s.nor ∧ (State.doRegister s tag h nsid x act iekey ptpl crkey nrkey).bus = s.bus ∧ (State.doRegister s tag h nsid x act iekey ptpl crkey nrkey).free = s.free := by
  generalize hr : State.doRegister s tag h nsid x act iekey ptpl crkey nrkey = r
  simp only [State.doRegister] at hr
  repeat' split at hr
  all_goals (subst hr; (simp only [and_self, (fact @State.complete_keep), (fact @State.putNs_keep), (fact @State.rsvNotify_keep)]))

theorem State.abortOf_keep (s : State) (nsid : Nat) (hosts : List (BitVec 128)) :
    (State.abortOf s nsid hosts).pending = s.pending ∧ (State.abortOf s nsid hosts).time = s.time ∧ (State.abortOf s nsid hosts).dev = s.dev ∧ (State.abortOf s nsid hosts).fuses = s.fuses ∧ (State.abortOf s nsid hosts).params = s.params ∧ (State.abortOf s nsid hosts).map = s.map ∧ (State.abortOf s nsid hosts).media = s.media ∧ (State.abortOf s nsid hosts).flash = s.flash ∧ (State.abortOf s nsid hosts).plp = s.plp ∧ (State.abortOf s nsid hosts).dram = s.dram ∧ (State.abortOf s nsid hosts).pwr = s.pwr ∧ (State.abortOf s nsid hosts).sec = s.sec ∧ (State.abortOf s nsid hosts).mgmt = s.mgmt ∧ (State.abortOf s nsid hosts).naile = s.naile ∧ (State.abortOf s nsid hosts).nor = s.nor ∧ (State.abortOf s nsid hosts).bus = s.bus ∧ (State.abortOf s nsid hosts).free = s.free := by
  generalize hr : State.abortOf s nsid hosts = r
  simp only [State.abortOf] at hr
  repeat' split at hr
  all_goals (subst hr; (first | (simp only [and_self, (fact @State.abortTag_keep)]; done) | (and_intros <;> (repeat' first | (simp only [and_self, (fact @State.abortTag_keep)]; done) | (simp only [and_self, (fact @State.abortTag_keep)]) | (split at hb) | (subst hb; simp only [and_self, (fact @State.abortTag_keep)]) | (refine (foldl_pending (fun _ _ _ hb => ?_) _ _).trans ?_) | (refine (foldl_time (fun _ _ _ hb => ?_) _ _).trans ?_) | (refine (foldl_dev (fun _ _ _ hb => ?_) _ _).trans ?_) | (refine (foldl_fuses (fun _ _ _ hb => ?_) _ _).trans ?_) | (refine (foldl_params (fun _ _ _ hb => ?_) _ _).trans ?_) | (refine (foldl_map (fun _ _ _ hb => ?_) _ _).trans ?_) | (refine (foldl_media (fun _ _ _ hb => ?_) _ _).trans ?_) | (refine (foldl_flash (fun _ _ _ hb => ?_) _ _).trans ?_) | (refine (foldl_plp (fun _ _ _ hb => ?_) _ _).trans ?_) | (refine (foldl_dram (fun _ _ _ hb => ?_) _ _).trans ?_) | (refine (foldl_pwr (fun _ _ _ hb => ?_) _ _).trans ?_) | (refine (foldl_sec (fun _ _ _ hb => ?_) _ _).trans ?_) | (refine (foldl_mgmt (fun _ _ _ hb => ?_) _ _).trans ?_) | (refine (foldl_naile (fun _ _ _ hb => ?_) _ _).trans ?_) | (refine (foldl_nor (fun _ _ _ hb => ?_) _ _).trans ?_) | (refine (foldl_bus (fun _ _ _ hb => ?_) _ _).trans ?_) | (refine (foldl_free (fun _ _ _ hb => ?_) _ _).trans ?_) | split))))

theorem State.doAcquire_keep (s : State) (tag : Nat) (h : BitVec 128) (nsid : Nat) (x : NsS) (act : RacqAction) (iekey : Bool) (rtype : RsvType) (crkey : Qword) (prkey : Qword) :
    (State.doAcquire s tag h nsid x act iekey rtype crkey prkey).pending = s.pending ∧ (State.doAcquire s tag h nsid x act iekey rtype crkey prkey).time = s.time ∧ (State.doAcquire s tag h nsid x act iekey rtype crkey prkey).dev = s.dev ∧ (State.doAcquire s tag h nsid x act iekey rtype crkey prkey).fuses = s.fuses ∧ (State.doAcquire s tag h nsid x act iekey rtype crkey prkey).params = s.params ∧ (State.doAcquire s tag h nsid x act iekey rtype crkey prkey).map = s.map ∧ (State.doAcquire s tag h nsid x act iekey rtype crkey prkey).media = s.media ∧ (State.doAcquire s tag h nsid x act iekey rtype crkey prkey).flash = s.flash ∧ (State.doAcquire s tag h nsid x act iekey rtype crkey prkey).plp = s.plp ∧ (State.doAcquire s tag h nsid x act iekey rtype crkey prkey).dram = s.dram ∧ (State.doAcquire s tag h nsid x act iekey rtype crkey prkey).pwr = s.pwr ∧ (State.doAcquire s tag h nsid x act iekey rtype crkey prkey).sec = s.sec ∧ (State.doAcquire s tag h nsid x act iekey rtype crkey prkey).naile = s.naile ∧ (State.doAcquire s tag h nsid x act iekey rtype crkey prkey).nor = s.nor ∧ (State.doAcquire s tag h nsid x act iekey rtype crkey prkey).bus = s.bus ∧ (State.doAcquire s tag h nsid x act iekey rtype crkey prkey).free = s.free := by
  generalize hr : State.doAcquire s tag h nsid x act iekey rtype crkey prkey = r
  simp only [State.doAcquire] at hr
  repeat' split at hr
  all_goals (subst hr; (simp only [and_self, (fact @State.abortOf_keep), (fact @State.complete_keep), (fact @State.putNs_keep), (fact @State.rsvNotify_keep)]))

theorem State.doRelease_keep (s : State) (tag : Nat) (h : BitVec 128) (nsid : Nat) (x : NsS) (clear : Bool) (iekey : Bool) (rtype : RsvType) (crkey : Qword) :
    (State.doRelease s tag h nsid x clear iekey rtype crkey).pending = s.pending ∧ (State.doRelease s tag h nsid x clear iekey rtype crkey).time = s.time ∧ (State.doRelease s tag h nsid x clear iekey rtype crkey).dev = s.dev ∧ (State.doRelease s tag h nsid x clear iekey rtype crkey).fuses = s.fuses ∧ (State.doRelease s tag h nsid x clear iekey rtype crkey).params = s.params ∧ (State.doRelease s tag h nsid x clear iekey rtype crkey).map = s.map ∧ (State.doRelease s tag h nsid x clear iekey rtype crkey).media = s.media ∧ (State.doRelease s tag h nsid x clear iekey rtype crkey).flash = s.flash ∧ (State.doRelease s tag h nsid x clear iekey rtype crkey).cache = s.cache ∧ (State.doRelease s tag h nsid x clear iekey rtype crkey).plp = s.plp ∧ (State.doRelease s tag h nsid x clear iekey rtype crkey).dram = s.dram ∧ (State.doRelease s tag h nsid x clear iekey rtype crkey).pwr = s.pwr ∧ (State.doRelease s tag h nsid x clear iekey rtype crkey).sec = s.sec ∧ (State.doRelease s tag h nsid x clear iekey rtype crkey).naile = s.naile ∧ (State.doRelease s tag h nsid x clear iekey rtype crkey).nor = s.nor ∧ (State.doRelease s tag h nsid x clear iekey rtype crkey).bus = s.bus ∧ (State.doRelease s tag h nsid x clear iekey rtype crkey).free = s.free := by
  generalize hr : State.doRelease s tag h nsid x clear iekey rtype crkey = r
  simp only [State.doRelease] at hr
  repeat' split at hr
  all_goals (subst hr; (simp only [and_self, (fact @State.complete_keep), (fact @State.putNs_keep), (fact @State.rsvNotify_keep)]))


























theorem State.createInParts_keep (s : State) (tag : Nat) (nsid : Nat) (nsze : Nat) (st : Nat) :
    (State.createInParts s tag nsid nsze st).pending = s.pending ∧ (State.createInParts s tag nsid nsze st).time = s.time ∧ (State.createInParts s tag nsid nsze st).dev = s.dev ∧ (State.createInParts s tag nsid nsze st).fuses = s.fuses ∧ (State.createInParts s tag nsid nsze st).params = s.params ∧ (State.createInParts s tag nsid nsze st).land = s.land ∧ (State.createInParts s tag nsid nsze st).media = s.media ∧ (State.createInParts s tag nsid nsze st).flash = s.flash ∧ (State.createInParts s tag nsid nsze st).cache = s.cache ∧ (State.createInParts s tag nsid nsze st).plp = s.plp ∧ (State.createInParts s tag nsid nsze st).dram = s.dram ∧ (State.createInParts s tag nsid nsze st).pwr = s.pwr ∧ (State.createInParts s tag nsid nsze st).sec = s.sec ∧ (State.createInParts s tag nsid nsze st).naile = s.naile ∧ (State.createInParts s tag nsid nsze st).nor = s.nor ∧ (State.createInParts s tag nsid nsze st).tally = s.tally ∧ (State.createInParts s tag nsid nsze st).bus = s.bus ∧ (State.createInParts s tag nsid nsze st).free = s.free := by
  generalize hr : State.createInParts s tag nsid nsze st = r
  simp only [State.createInParts] at hr
  repeat' split at hr
  all_goals (subst hr; (first | (simp only [and_self, (fact @State.createNs_keep), (fact @State.modTag_keep), (fact @State.queueGroup_keep)]; done) | (and_intros <;> (repeat' first | (simp only [and_self, (fact @State.createNs_keep), (fact @State.modTag_keep), (fact @State.queueGroup_keep)]; done) | (simp only [and_self, (fact @State.createNs_keep), (fact @State.modTag_keep), (fact @State.queueGroup_keep)]) | (split at hb) | (subst hb; simp only [and_self, (fact @State.createNs_keep), (fact @State.modTag_keep), (fact @State.queueGroup_keep)]) | (refine (foldl_pending (fun _ _ _ hb => ?_) _ _).trans ?_) | (refine (foldl_time (fun _ _ _ hb => ?_) _ _).trans ?_) | (refine (foldl_dev (fun _ _ _ hb => ?_) _ _).trans ?_) | (refine (foldl_fuses (fun _ _ _ hb => ?_) _ _).trans ?_) | (refine (foldl_params (fun _ _ _ hb => ?_) _ _).trans ?_) | (refine (foldl_land (fun _ _ _ hb => ?_) _ _).trans ?_) | (refine (foldl_media (fun _ _ _ hb => ?_) _ _).trans ?_) | (refine (foldl_flash (fun _ _ _ hb => ?_) _ _).trans ?_) | (refine (foldl_cache (fun _ _ _ hb => ?_) _ _).trans ?_) | (refine (foldl_plp (fun _ _ _ hb => ?_) _ _).trans ?_) | (refine (foldl_dram (fun _ _ _ hb => ?_) _ _).trans ?_) | (refine (foldl_pwr (fun _ _ _ hb => ?_) _ _).trans ?_) | (refine (foldl_sec (fun _ _ _ hb => ?_) _ _).trans ?_) | (refine (foldl_naile (fun _ _ _ hb => ?_) _ _).trans ?_) | (refine (foldl_nor (fun _ _ _ hb => ?_) _ _).trans ?_) | (refine (foldl_tally (fun _ _ _ hb => ?_) _ _).trans ?_) | (refine (foldl_bus (fun _ _ _ hb => ?_) _ _).trans ?_) | (refine (foldl_free (fun _ _ _ hb => ?_) _ _).trans ?_) | split))))






theorem State.startSanitize_keep (s : State) (tag : Nat) (kind : SliceKind) (action : Nat) :
    (State.startSanitize s tag kind action).pending = s.pending ∧ (State.startSanitize s tag kind action).time = s.time ∧ (State.startSanitize s tag kind action).dev = s.dev ∧ (State.startSanitize s tag kind action).fuses = s.fuses ∧ (State.startSanitize s tag kind action).params = s.params ∧ (State.startSanitize s tag kind action).land = s.land ∧ (State.startSanitize s tag kind action).map = s.map ∧ (State.startSanitize s tag kind action).media = s.media ∧ (State.startSanitize s tag kind action).flash = s.flash ∧ (State.startSanitize s tag kind action).cache = s.cache ∧ (State.startSanitize s tag kind action).plp = s.plp ∧ (State.startSanitize s tag kind action).dram = s.dram ∧ (State.startSanitize s tag kind action).pwr = s.pwr ∧ (State.startSanitize s tag kind action).sec = s.sec ∧ (State.startSanitize s tag kind action).mgmt = s.mgmt ∧ (State.startSanitize s tag kind action).naile = s.naile ∧ (State.startSanitize s tag kind action).nor = s.nor ∧ (State.startSanitize s tag kind action).tally = s.tally ∧ (State.startSanitize s tag kind action).bus = s.bus ∧ (State.startSanitize s tag kind action).free = s.free := by
  generalize hr : State.startSanitize s tag kind action = r
  simp only [State.startSanitize] at hr
  repeat' split at hr
  all_goals (subst hr; (simp only [and_self, (fact @State.startOp_keep)]))













theorem State.noteDom_keep (s : State) (st : StandNo) (d : DomId) :
    (State.noteDom s st d).pending = s.pending ∧ (State.noteDom s st d).time = s.time ∧ (State.noteDom s st d).dev = s.dev ∧ (State.noteDom s st d).fuses = s.fuses ∧ (State.noteDom s st d).params = s.params ∧ (State.noteDom s st d).host = s.host ∧ (State.noteDom s st d).nvm = s.nvm ∧ (State.noteDom s st d).land = s.land ∧ (State.noteDom s st d).map = s.map ∧ (State.noteDom s st d).flash = s.flash ∧ (State.noteDom s st d).cache = s.cache ∧ (State.noteDom s st d).plp = s.plp ∧ (State.noteDom s st d).dram = s.dram ∧ (State.noteDom s st d).pwr = s.pwr ∧ (State.noteDom s st d).sec = s.sec ∧ (State.noteDom s st d).mgmt = s.mgmt ∧ (State.noteDom s st d).naile = s.naile ∧ (State.noteDom s st d).nor = s.nor ∧ (State.noteDom s st d).tally = s.tally ∧ (State.noteDom s st d).bus = s.bus ∧ (State.noteDom s st d).free = s.free := by
  generalize hr : State.noteDom s st d = r
  simp only [State.noteDom] at hr
  repeat' split at hr
  all_goals (subst hr; (simp only [and_self]))

theorem State.readySets_keep (s : State) (st : StandNo) (k : WpClass) :
    (State.readySets s st k).pending = s.pending ∧ (State.readySets s st k).time = s.time ∧ (State.readySets s st k).dev = s.dev ∧ (State.readySets s st k).fuses = s.fuses ∧ (State.readySets s st k).params = s.params ∧ (State.readySets s st k).host = s.host ∧ (State.readySets s st k).nvm = s.nvm ∧ (State.readySets s st k).map = s.map ∧ (State.readySets s st k).cache = s.cache ∧ (State.readySets s st k).plp = s.plp ∧ (State.readySets s st k).dram = s.dram ∧ (State.readySets s st k).pwr = s.pwr ∧ (State.readySets s st k).sec = s.sec ∧ (State.readySets s st k).mgmt = s.mgmt ∧ (State.readySets s st k).naile = s.naile ∧ (State.readySets s st k).nor = s.nor ∧ (State.readySets s st k).tally = s.tally ∧ (State.readySets s st k).bus = s.bus ∧ (State.readySets s st k).free = s.free := by
  generalize hr : State.readySets s st k = r
  simp only [State.readySets] at hr
  repeat' split at hr
  all_goals (subst hr; (first | (simp only [and_self, (fact @State.startIfReady_keep)]; done) | (and_intros <;> (repeat' first | (simp only [and_self, (fact @State.startIfReady_keep)]; done) | (simp only [and_self, (fact @State.startIfReady_keep)]) | (split at hb) | (subst hb; simp only [and_self, (fact @State.startIfReady_keep)]) | (refine (foldl_pending (fun _ _ _ hb => ?_) _ _).trans ?_) | (refine (foldl_time (fun _ _ _ hb => ?_) _ _).trans ?_) | (refine (foldl_dev (fun _ _ _ hb => ?_) _ _).trans ?_) | (refine (foldl_fuses (fun _ _ _ hb => ?_) _ _).trans ?_) | (refine (foldl_params (fun _ _ _ hb => ?_) _ _).trans ?_) | (refine (foldl_host (fun _ _ _ hb => ?_) _ _).trans ?_) | (refine (foldl_nvm (fun _ _ _ hb => ?_) _ _).trans ?_) | (refine (foldl_map (fun _ _ _ hb => ?_) _ _).trans ?_) | (refine (foldl_cache (fun _ _ _ hb => ?_) _ _).trans ?_) | (refine (foldl_plp (fun _ _ _ hb => ?_) _ _).trans ?_) | (refine (foldl_dram (fun _ _ _ hb => ?_) _ _).trans ?_) | (refine (foldl_pwr (fun _ _ _ hb => ?_) _ _).trans ?_) | (refine (foldl_sec (fun _ _ _ hb => ?_) _ _).trans ?_) | (refine (foldl_mgmt (fun _ _ _ hb => ?_) _ _).trans ?_) | (refine (foldl_naile (fun _ _ _ hb => ?_) _ _).trans ?_) | (refine (foldl_nor (fun _ _ _ hb => ?_) _ _).trans ?_) | (refine (foldl_tally (fun _ _ _ hb => ?_) _ _).trans ?_) | (refine (foldl_bus (fun _ _ _ hb => ?_) _ _).trans ?_) | (refine (foldl_free (fun _ _ _ hb => ?_) _ _).trans ?_) | split))))







theorem State.dropVictim_keep (s : State) (d : DomId) (rb : Nat) :
    (State.dropVictim s d rb).pending = s.pending ∧ (State.dropVictim s d rb).time = s.time ∧ (State.dropVictim s d rb).dev = s.dev ∧ (State.dropVictim s d rb).fuses = s.fuses ∧ (State.dropVictim s d rb).params = s.params ∧ (State.dropVictim s d rb).host = s.host ∧ (State.dropVictim s d rb).nvm = s.nvm ∧ (State.dropVictim s d rb).map = s.map ∧ (State.dropVictim s d rb).flash = s.flash ∧ (State.dropVictim s d rb).cache = s.cache ∧ (State.dropVictim s d rb).plp = s.plp ∧ (State.dropVictim s d rb).dram = s.dram ∧ (State.dropVictim s d rb).pwr = s.pwr ∧ (State.dropVictim s d rb).sec = s.sec ∧ (State.dropVictim s d rb).mgmt = s.mgmt ∧ (State.dropVictim s d rb).naile = s.naile ∧ (State.dropVictim s d rb).nor = s.nor ∧ (State.dropVictim s d rb).bus = s.bus ∧ (State.dropVictim s d rb).free = s.free := by
  generalize hr : State.dropVictim s d rb = r
  simp only [State.dropVictim] at hr
  repeat' split at hr
  all_goals (subst hr; (simp only [and_self, (fact @State.dropCopies_keep), (fact @State.freeCords_keep)]))

theorem State.backToClosed_keep (s : State) (d : DomId) (rb : Nat) :
    (State.backToClosed s d rb).pending = s.pending ∧ (State.backToClosed s d rb).time = s.time ∧ (State.backToClosed s d rb).dev = s.dev ∧ (State.backToClosed s d rb).fuses = s.fuses ∧ (State.backToClosed s d rb).params = s.params ∧ (State.backToClosed s d rb).host = s.host ∧ (State.backToClosed s d rb).nvm = s.nvm ∧ (State.backToClosed s d rb).map = s.map ∧ (State.backToClosed s d rb).flash = s.flash ∧ (State.backToClosed s d rb).cache = s.cache ∧ (State.backToClosed s d rb).plp = s.plp ∧ (State.backToClosed s d rb).dram = s.dram ∧ (State.backToClosed s d rb).pwr = s.pwr ∧ (State.backToClosed s d rb).sec = s.sec ∧ (State.backToClosed s d rb).mgmt = s.mgmt ∧ (State.backToClosed s d rb).naile = s.naile ∧ (State.backToClosed s d rb).nor = s.nor ∧ (State.backToClosed s d rb).bus = s.bus ∧ (State.backToClosed s d rb).free = s.free := by
  generalize hr : State.backToClosed s d rb = r
  simp only [State.backToClosed] at hr
  repeat' split at hr
  all_goals (subst hr; (simp only [and_self, (fact @State.dropVictim_keep)]))

theorem State.notCopied_keep (s : State) (d : DomId) (rb : Nat) :
    (State.notCopied s d rb).pending = s.pending ∧ (State.notCopied s d rb).time = s.time ∧ (State.notCopied s d rb).dev = s.dev ∧ (State.notCopied s d rb).fuses = s.fuses ∧ (State.notCopied s d rb).params = s.params ∧ (State.notCopied s d rb).host = s.host ∧ (State.notCopied s d rb).nvm = s.nvm ∧ (State.notCopied s d rb).map = s.map ∧ (State.notCopied s d rb).flash = s.flash ∧ (State.notCopied s d rb).cache = s.cache ∧ (State.notCopied s d rb).plp = s.plp ∧ (State.notCopied s d rb).dram = s.dram ∧ (State.notCopied s d rb).pwr = s.pwr ∧ (State.notCopied s d rb).sec = s.sec ∧ (State.notCopied s d rb).mgmt = s.mgmt ∧ (State.notCopied s d rb).naile = s.naile ∧ (State.notCopied s d rb).nor = s.nor ∧ (State.notCopied s d rb).bus = s.bus ∧ (State.notCopied s d rb).free = s.free := by
  generalize hr : State.notCopied s d rb = r
  simp only [State.notCopied] at hr
  repeat' split at hr
  all_goals (subst hr; (simp only [and_self, (fact @State.backToClosed_keep)]))

theorem State.victimSlice_keep (s0 : State) (d : DomId) (v0 : Victim) :
    (State.victimSlice s0 d v0).pending = s0.pending ∧ (State.victimSlice s0 d v0).time = s0.time ∧ (State.victimSlice s0 d v0).dev = s0.dev ∧ (State.victimSlice s0 d v0).fuses = s0.fuses ∧ (State.victimSlice s0 d v0).params = s0.params ∧ (State.victimSlice s0 d v0).host = s0.host ∧ (State.victimSlice s0 d v0).nvm = s0.nvm ∧ (State.victimSlice s0 d v0).cache = s0.cache ∧ (State.victimSlice s0 d v0).plp = s0.plp ∧ (State.victimSlice s0 d v0).dram = s0.dram ∧ (State.victimSlice s0 d v0).pwr = s0.pwr ∧ (State.victimSlice s0 d v0).sec = s0.sec ∧ (State.victimSlice s0 d v0).mgmt = s0.mgmt ∧ (State.victimSlice s0 d v0).naile = s0.naile ∧ (State.victimSlice s0 d v0).nor = s0.nor ∧ (State.victimSlice s0 d v0).bus = s0.bus ∧ (State.victimSlice s0 d v0).free = s0.free := by
  generalize hr : State.victimSlice s0 d v0 = r
  simp only [State.victimSlice] at hr
  repeat' split at hr
  all_goals (subst hr; (simp only [and_self, (fact @State.dropVictim_keep), (fact @State.erasePending_keep), (fact @State.issueRead_keep), (fact @State.notCopied_keep), (fact @State.rewriteUnits_keep), (fact @State.tidyCopies_keep)]))

theorem State.giveUp_keep (s : State) (rb : Nat) :
    (State.giveUp s rb).pending = s.pending ∧ (State.giveUp s rb).time = s.time ∧ (State.giveUp s rb).dev = s.dev ∧ (State.giveUp s rb).fuses = s.fuses ∧ (State.giveUp s rb).params = s.params ∧ (State.giveUp s rb).host = s.host ∧ (State.giveUp s rb).nvm = s.nvm ∧ (State.giveUp s rb).land = s.land ∧ (State.giveUp s rb).map = s.map ∧ (State.giveUp s rb).cache = s.cache ∧ (State.giveUp s rb).plp = s.plp ∧ (State.giveUp s rb).dram = s.dram ∧ (State.giveUp s rb).pwr = s.pwr ∧ (State.giveUp s rb).sec = s.sec ∧ (State.giveUp s rb).mgmt = s.mgmt ∧ (State.giveUp s rb).naile = s.naile ∧ (State.giveUp s rb).nor = s.nor ∧ (State.giveUp s rb).tally = s.tally ∧ (State.giveUp s rb).bus = s.bus ∧ (State.giveUp s rb).free = s.free := by
  generalize hr : State.giveUp s rb = r
  simp only [State.giveUp] at hr
  repeat' split at hr
  all_goals (subst hr; (simp only [and_self, (fact @State.erasePending_keep)]))

theorem State.thinningSlice_keep (s : State) (d : DomId) (st : StandNo) :
    (State.thinningSlice s d st).pending = s.pending ∧ (State.thinningSlice s d st).time = s.time ∧ (State.thinningSlice s d st).dev = s.dev ∧ (State.thinningSlice s d st).fuses = s.fuses ∧ (State.thinningSlice s d st).params = s.params ∧ (State.thinningSlice s d st).host = s.host ∧ (State.thinningSlice s d st).nvm = s.nvm ∧ (State.thinningSlice s d st).cache = s.cache ∧ (State.thinningSlice s d st).plp = s.plp ∧ (State.thinningSlice s d st).dram = s.dram ∧ (State.thinningSlice s d st).pwr = s.pwr ∧ (State.thinningSlice s d st).sec = s.sec ∧ (State.thinningSlice s d st).mgmt = s.mgmt ∧ (State.thinningSlice s d st).naile = s.naile ∧ (State.thinningSlice s d st).nor = s.nor ∧ (State.thinningSlice s d st).bus = s.bus ∧ (State.thinningSlice s d st).free = s.free := by
  generalize hr : State.thinningSlice s d st = r
  simp only [State.thinningSlice] at hr
  repeat' split at hr
  all_goals (subst hr; (simp only [and_self, (fact @State.giveUp_keep), (fact @State.takeVictim_keep), (fact @State.victimSlice_keep)]))





theorem State.countRead_keep (s : State) (o : DieOp) :
    (State.countRead s o).pending = s.pending ∧ (State.countRead s o).time = s.time ∧ (State.countRead s o).dev = s.dev ∧ (State.countRead s o).fuses = s.fuses ∧ (State.countRead s o).params = s.params ∧ (State.countRead s o).host = s.host ∧ (State.countRead s o).nvm = s.nvm ∧ (State.countRead s o).land = s.land ∧ (State.countRead s o).map = s.map ∧ (State.countRead s o).flash = s.flash ∧ (State.countRead s o).cache = s.cache ∧ (State.countRead s o).plp = s.plp ∧ (State.countRead s o).dram = s.dram ∧ (State.countRead s o).pwr = s.pwr ∧ (State.countRead s o).sec = s.sec ∧ (State.countRead s o).mgmt = s.mgmt ∧ (State.countRead s o).naile = s.naile ∧ (State.countRead s o).nor = s.nor ∧ (State.countRead s o).tally = s.tally ∧ (State.countRead s o).bus = s.bus ∧ (State.countRead s o).free = s.free := by
  generalize hr : State.countRead s o = r
  simp only [State.countRead] at hr
  repeat' split at hr
  all_goals (subst hr; (simp only [and_self]))

theorem State.track_keep (s : State) (o : DieOp) :
    (State.track s o).pending = s.pending ∧ (State.track s o).time = s.time ∧ (State.track s o).dev = s.dev ∧ (State.track s o).fuses = s.fuses ∧ (State.track s o).params = s.params ∧ (State.track s o).host = s.host ∧ (State.track s o).nvm = s.nvm ∧ (State.track s o).land = s.land ∧ (State.track s o).map = s.map ∧ (State.track s o).media = s.media ∧ (State.track s o).cache = s.cache ∧ (State.track s o).plp = s.plp ∧ (State.track s o).dram = s.dram ∧ (State.track s o).pwr = s.pwr ∧ (State.track s o).sec = s.sec ∧ (State.track s o).mgmt = s.mgmt ∧ (State.track s o).naile = s.naile ∧ (State.track s o).nor = s.nor ∧ (State.track s o).tally = s.tally ∧ (State.track s o).bus = s.bus := by
  generalize hr : State.track s o = r
  simp only [State.track] at hr
  repeat' split at hr
  all_goals (subst hr; (first | (simp only [and_self, (fact @State.draw_keep)]; done) | (and_intros <;> (repeat' first | (simp only [and_self, (fact @State.draw_keep)]; done) | (simp only [and_self, (fact @State.draw_keep)]) | (split at hb) | (subst hb; simp only [and_self, (fact @State.draw_keep)]) | (refine (foldl_pending (fun _ _ _ hb => ?_) _ _).trans ?_) | (refine (foldl_time (fun _ _ _ hb => ?_) _ _).trans ?_) | (refine (foldl_dev (fun _ _ _ hb => ?_) _ _).trans ?_) | (refine (foldl_fuses (fun _ _ _ hb => ?_) _ _).trans ?_) | (refine (foldl_params (fun _ _ _ hb => ?_) _ _).trans ?_) | (refine (foldl_host (fun _ _ _ hb => ?_) _ _).trans ?_) | (refine (foldl_nvm (fun _ _ _ hb => ?_) _ _).trans ?_) | (refine (foldl_land (fun _ _ _ hb => ?_) _ _).trans ?_) | (refine (foldl_map (fun _ _ _ hb => ?_) _ _).trans ?_) | (refine (foldl_media (fun _ _ _ hb => ?_) _ _).trans ?_) | (refine (foldl_cache (fun _ _ _ hb => ?_) _ _).trans ?_) | (refine (foldl_plp (fun _ _ _ hb => ?_) _ _).trans ?_) | (refine (foldl_dram (fun _ _ _ hb => ?_) _ _).trans ?_) | (refine (foldl_pwr (fun _ _ _ hb => ?_) _ _).trans ?_) | (refine (foldl_sec (fun _ _ _ hb => ?_) _ _).trans ?_) | (refine (foldl_mgmt (fun _ _ _ hb => ?_) _ _).trans ?_) | (refine (foldl_naile (fun _ _ _ hb => ?_) _ _).trans ?_) | (refine (foldl_nor (fun _ _ _ hb => ?_) _ _).trans ?_) | (refine (foldl_tally (fun _ _ _ hb => ?_) _ _).trans ?_) | (refine (foldl_bus (fun _ _ _ hb => ?_) _ _).trans ?_) | split))))


theorem State.pollReady_keep (s : State) (k : Nat) :
    (State.pollReady s k).pending = s.pending ∧ (State.pollReady s k).time = s.time ∧ (State.pollReady s k).dev = s.dev ∧ (State.pollReady s k).fuses = s.fuses ∧ (State.pollReady s k).params = s.params ∧ (State.pollReady s k).host = s.host ∧ (State.pollReady s k).nvm = s.nvm ∧ (State.pollReady s k).land = s.land ∧ (State.pollReady s k).map = s.map ∧ (State.pollReady s k).media = s.media ∧ (State.pollReady s k).cache = s.cache ∧ (State.pollReady s k).plp = s.plp ∧ (State.pollReady s k).dram = s.dram ∧ (State.pollReady s k).pwr = s.pwr ∧ (State.pollReady s k).sec = s.sec ∧ (State.pollReady s k).mgmt = s.mgmt ∧ (State.pollReady s k).naile = s.naile ∧ (State.pollReady s k).nor = s.nor ∧ (State.pollReady s k).tally = s.tally ∧ (State.pollReady s k).bus = s.bus ∧ (State.pollReady s k).free = s.free := by
  generalize hr : State.pollReady s k = r
  simp only [State.pollReady] at hr
  repeat' split at hr
  all_goals (subst hr; (first | (simp only [and_self]; done) | (and_intros <;> (repeat' first | (simp only [and_self]; done) | (simp only [and_self]) | (split at hb) | (subst hb; simp only [and_self]) | (refine (foldl_pending (fun _ _ _ hb => ?_) _ _).trans ?_) | (refine (foldl_time (fun _ _ _ hb => ?_) _ _).trans ?_) | (refine (foldl_dev (fun _ _ _ hb => ?_) _ _).trans ?_) | (refine (foldl_fuses (fun _ _ _ hb => ?_) _ _).trans ?_) | (refine (foldl_params (fun _ _ _ hb => ?_) _ _).trans ?_) | (refine (foldl_host (fun _ _ _ hb => ?_) _ _).trans ?_) | (refine (foldl_nvm (fun _ _ _ hb => ?_) _ _).trans ?_) | (refine (foldl_land (fun _ _ _ hb => ?_) _ _).trans ?_) | (refine (foldl_map (fun _ _ _ hb => ?_) _ _).trans ?_) | (refine (foldl_media (fun _ _ _ hb => ?_) _ _).trans ?_) | (refine (foldl_cache (fun _ _ _ hb => ?_) _ _).trans ?_) | (refine (foldl_plp (fun _ _ _ hb => ?_) _ _).trans ?_) | (refine (foldl_dram (fun _ _ _ hb => ?_) _ _).trans ?_) | (refine (foldl_pwr (fun _ _ _ hb => ?_) _ _).trans ?_) | (refine (foldl_sec (fun _ _ _ hb => ?_) _ _).trans ?_) | (refine (foldl_mgmt (fun _ _ _ hb => ?_) _ _).trans ?_) | (refine (foldl_naile (fun _ _ _ hb => ?_) _ _).trans ?_) | (refine (foldl_nor (fun _ _ _ hb => ?_) _ _).trans ?_) | (refine (foldl_tally (fun _ _ _ hb => ?_) _ _).trans ?_) | (refine (foldl_bus (fun _ _ _ hb => ?_) _ _).trans ?_) | (refine (foldl_free (fun _ _ _ hb => ?_) _ _).trans ?_) | split))))

theorem State.readRb_keep (s : State) (ch : Nat) (rbN : Bool) :
    (State.readRb s ch rbN).pending = s.pending ∧ (State.readRb s ch rbN).time = s.time ∧ (State.readRb s ch rbN).dev = s.dev ∧ (State.readRb s ch rbN).fuses = s.fuses ∧ (State.readRb s ch rbN).params = s.params ∧ (State.readRb s ch rbN).host = s.host ∧ (State.readRb s ch rbN).nvm = s.nvm ∧ (State.readRb s ch rbN).land = s.land ∧ (State.readRb s ch rbN).map = s.map ∧ (State.readRb s ch rbN).media = s.media ∧ (State.readRb s ch rbN).cache = s.cache ∧ (State.readRb s ch rbN).plp = s.plp ∧ (State.readRb s ch rbN).dram = s.dram ∧ (State.readRb s ch rbN).pwr = s.pwr ∧ (State.readRb s ch rbN).sec = s.sec ∧ (State.readRb s ch rbN).mgmt = s.mgmt ∧ (State.readRb s ch rbN).naile = s.naile ∧ (State.readRb s ch rbN).nor = s.nor ∧ (State.readRb s ch rbN).tally = s.tally ∧ (State.readRb s ch rbN).bus = s.bus ∧ (State.readRb s ch rbN).free = s.free := by
  generalize hr : State.readRb s ch rbN = r
  simp only [State.readRb] at hr
  repeat' split at hr
  all_goals (subst hr; (simp only [and_self]))


theorem State.interruptPrograms_keep (s : State) (ks : List Nat) :
    (State.interruptPrograms s ks).pending = s.pending ∧ (State.interruptPrograms s ks).time = s.time ∧ (State.interruptPrograms s ks).dev = s.dev ∧ (State.interruptPrograms s ks).fuses = s.fuses ∧ (State.interruptPrograms s ks).params = s.params ∧ (State.interruptPrograms s ks).dram = s.dram ∧ (State.interruptPrograms s ks).pwr = s.pwr ∧ (State.interruptPrograms s ks).sec = s.sec ∧ (State.interruptPrograms s ks).nor = s.nor := by
  generalize hr : State.interruptPrograms s ks = r
  simp only [State.interruptPrograms] at hr
  repeat' split at hr
  all_goals (subst hr; (first | (simp only [and_self, (fact @State.channelFault_keep)]; done) | (and_intros <;> (repeat' first | (simp only [and_self, (fact @State.channelFault_keep)]; done) | (simp only [and_self, (fact @State.channelFault_keep)]) | (split at hb) | (subst hb; simp only [and_self, (fact @State.channelFault_keep)]) | (refine (foldl_pending (fun _ _ _ hb => ?_) _ _).trans ?_) | (refine (foldl_time (fun _ _ _ hb => ?_) _ _).trans ?_) | (refine (foldl_dev (fun _ _ _ hb => ?_) _ _).trans ?_) | (refine (foldl_fuses (fun _ _ _ hb => ?_) _ _).trans ?_) | (refine (foldl_params (fun _ _ _ hb => ?_) _ _).trans ?_) | (refine (foldl_dram (fun _ _ _ hb => ?_) _ _).trans ?_) | (refine (foldl_pwr (fun _ _ _ hb => ?_) _ _).trans ?_) | (refine (foldl_sec (fun _ _ _ hb => ?_) _ _).trans ?_) | (refine (foldl_nor (fun _ _ _ hb => ?_) _ _).trans ?_) | split))))


theorem State.readMoved_keep (s0 : State) (i : Nat) (o : DieOp) :
    (State.readMoved s0 i o).pending = s0.pending ∧ (State.readMoved s0 i o).time = s0.time ∧ (State.readMoved s0 i o).dev = s0.dev ∧ (State.readMoved s0 i o).fuses = s0.fuses ∧ (State.readMoved s0 i o).params = s0.params ∧ (State.readMoved s0 i o).host = s0.host ∧ (State.readMoved s0 i o).nvm = s0.nvm ∧ (State.readMoved s0 i o).map = s0.map ∧ (State.readMoved s0 i o).cache = s0.cache ∧ (State.readMoved s0 i o).plp = s0.plp ∧ (State.readMoved s0 i o).dram = s0.dram ∧ (State.readMoved s0 i o).pwr = s0.pwr ∧ (State.readMoved s0 i o).sec = s0.sec ∧ (State.readMoved s0 i o).mgmt = s0.mgmt ∧ (State.readMoved s0 i o).nor = s0.nor ∧ (State.readMoved s0 i o).bus = s0.bus ∧ (State.readMoved s0 i o).free = s0.free := by
  generalize hr : State.readMoved s0 i o = r
  simp only [State.readMoved] at hr
  repeat' split at hr
  all_goals (subst hr; (simp only [and_self, (fact @State.countRead_keep), (fact @State.dropOp_keep), (fact @State.rawData_keep)]))

theorem State.moveCodeword_keep (s : State) (ch : Chan) (i : Nat) (o : DieOp) (dqsLoss : Bool) :
    (State.moveCodeword s ch i o dqsLoss).pending = s.pending ∧ (State.moveCodeword s ch i o dqsLoss).time = s.time ∧ (State.moveCodeword s ch i o dqsLoss).dev = s.dev ∧ (State.moveCodeword s ch i o dqsLoss).fuses = s.fuses ∧ (State.moveCodeword s ch i o dqsLoss).params = s.params ∧ (State.moveCodeword s ch i o dqsLoss).dram = s.dram ∧ (State.moveCodeword s ch i o dqsLoss).pwr = s.pwr ∧ (State.moveCodeword s ch i o dqsLoss).sec = s.sec ∧ (State.moveCodeword s ch i o dqsLoss).nor = s.nor := by
  generalize hr : State.moveCodeword s ch i o dqsLoss = r
  simp only [State.moveCodeword] at hr
  repeat' split at hr
  all_goals (subst hr; (simp only [and_self, (fact @State.readMoved_keep), (fact @State.upset_keep)]))

theorem State.movePage_keep (s : State) (ch : Chan) (i : Nat) (o : DieOp) :
    (State.movePage s ch i o).pending = s.pending ∧ (State.movePage s ch i o).time = s.time ∧ (State.movePage s ch i o).dev = s.dev ∧ (State.movePage s ch i o).fuses = s.fuses ∧ (State.movePage s ch i o).params = s.params ∧ (State.movePage s ch i o).nvm = s.nvm ∧ (State.movePage s ch i o).map = s.map ∧ (State.movePage s ch i o).plp = s.plp ∧ (State.movePage s ch i o).dram = s.dram ∧ (State.movePage s ch i o).pwr = s.pwr ∧ (State.movePage s ch i o).sec = s.sec ∧ (State.movePage s ch i o).mgmt = s.mgmt ∧ (State.movePage s ch i o).naile = s.naile ∧ (State.movePage s ch i o).nor = s.nor ∧ (State.movePage s ch i o).bus = s.bus ∧ (State.movePage s ch i o).free = s.free := by
  generalize hr : State.movePage s ch i o = r
  simp only [State.movePage] at hr
  repeat' split at hr
  all_goals (subst hr; (simp only [and_self, (fact @State.sendPage_keep), (fact @State.stageMember_keep), (fact @State.startWaiting_keep)]))




theorem State.coldDebt_keep (s : State) (w : WSet) :
    (State.coldDebt s w).pending = s.pending ∧ (State.coldDebt s w).time = s.time ∧ (State.coldDebt s w).dev = s.dev ∧ (State.coldDebt s w).fuses = s.fuses ∧ (State.coldDebt s w).params = s.params ∧ (State.coldDebt s w).host = s.host ∧ (State.coldDebt s w).land = s.land ∧ (State.coldDebt s w).map = s.map ∧ (State.coldDebt s w).flash = s.flash ∧ (State.coldDebt s w).cache = s.cache ∧ (State.coldDebt s w).plp = s.plp ∧ (State.coldDebt s w).dram = s.dram ∧ (State.coldDebt s w).pwr = s.pwr ∧ (State.coldDebt s w).sec = s.sec ∧ (State.coldDebt s w).mgmt = s.mgmt ∧ (State.coldDebt s w).naile = s.naile ∧ (State.coldDebt s w).nor = s.nor ∧ (State.coldDebt s w).tally = s.tally ∧ (State.coldDebt s w).bus = s.bus ∧ (State.coldDebt s w).free = s.free := by
  generalize hr : State.coldDebt s w = r
  simp only [State.coldDebt] at hr
  repeat' split at hr
  all_goals (subst hr; (simp only [and_self, (fact @State.addDebt_keep), (fact @State.chargeCredit_keep)]))

theorem State.condemn_keep (s : State) (o : DieOp) :
    (State.condemn s o).pending = s.pending ∧ (State.condemn s o).time = s.time ∧ (State.condemn s o).dev = s.dev ∧ (State.condemn s o).fuses = s.fuses ∧ (State.condemn s o).params = s.params ∧ (State.condemn s o).host = s.host ∧ (State.condemn s o).nvm = s.nvm ∧ (State.condemn s o).land = s.land ∧ (State.condemn s o).map = s.map ∧ (State.condemn s o).cache = s.cache ∧ (State.condemn s o).plp = s.plp ∧ (State.condemn s o).dram = s.dram ∧ (State.condemn s o).pwr = s.pwr ∧ (State.condemn s o).sec = s.sec ∧ (State.condemn s o).mgmt = s.mgmt ∧ (State.condemn s o).naile = s.naile ∧ (State.condemn s o).nor = s.nor ∧ (State.condemn s o).bus = s.bus ∧ (State.condemn s o).free = s.free := by
  generalize hr : State.condemn s o = r
  simp only [State.condemn] at hr
  repeat' split at hr
  all_goals (subst hr; (simp only [and_self, (fact @State.recordHw_calm), (fact @State.wantRelocation_keep), sevDebug, sevInfo, sevNotice, sevWarning, sevError, sevCritical, ne_eq, Nat.reduceEqDiff, not_false_eq_true]))

theorem State.verified_keep (s : State) (n c : Nat) : (s.verified n c).pending = s.pending ∧ (s.verified n c).time = s.time ∧ (s.verified n c).dev = s.dev ∧ (s.verified n c).fuses = s.fuses ∧ (s.verified n c).params = s.params ∧ (s.verified n c).host = s.host ∧ (s.verified n c).plp = s.plp ∧ (s.verified n c).dram = s.dram ∧ (s.verified n c).pwr = s.pwr ∧ (s.verified n c).sec = s.sec ∧ (s.verified n c).mgmt = s.mgmt ∧ (s.verified n c).naile = s.naile ∧ (s.verified n c).nor = s.nor ∧ (s.verified n c).bus = s.bus ∧ (s.verified n c).free = s.free := by
  generalize hr : s.verified n c = r
  simp only [State.verified] at hr
  repeat' split at hr
  all_goals (subst hr; simp only [(fact @State.completeSet_keep), (fact @State.coldDebt_keep), and_self])




theorem State.factoryMarks_keep (s : State) (ch : Nat) (a : DieAnswer) :
    (State.factoryMarks s ch a).pending = s.pending ∧ (State.factoryMarks s ch a).time = s.time ∧ (State.factoryMarks s ch a).dev = s.dev ∧ (State.factoryMarks s ch a).fuses = s.fuses ∧ (State.factoryMarks s ch a).params = s.params ∧ (State.factoryMarks s ch a).host = s.host ∧ (State.factoryMarks s ch a).nvm = s.nvm ∧ (State.factoryMarks s ch a).land = s.land ∧ (State.factoryMarks s ch a).map = s.map ∧ (State.factoryMarks s ch a).cache = s.cache ∧ (State.factoryMarks s ch a).plp = s.plp ∧ (State.factoryMarks s ch a).dram = s.dram ∧ (State.factoryMarks s ch a).pwr = s.pwr ∧ (State.factoryMarks s ch a).sec = s.sec ∧ (State.factoryMarks s ch a).mgmt = s.mgmt ∧ (State.factoryMarks s ch a).naile = s.naile ∧ (State.factoryMarks s ch a).nor = s.nor ∧ (State.factoryMarks s ch a).tally = s.tally ∧ (State.factoryMarks s ch a).bus = s.bus ∧ (State.factoryMarks s ch a).free = s.free := by
  generalize hr : State.factoryMarks s ch a = r
  simp only [State.factoryMarks] at hr
  repeat' split at hr
  all_goals (subst hr; (first | (simp only [and_self]; done) | (and_intros <;> (repeat' first | (simp only [and_self]; done) | (simp only [and_self]) | (split at hb) | (subst hb; simp only [and_self]) | (refine (foldl_pending (fun _ _ _ hb => ?_) _ _).trans ?_) | (refine (foldl_time (fun _ _ _ hb => ?_) _ _).trans ?_) | (refine (foldl_dev (fun _ _ _ hb => ?_) _ _).trans ?_) | (refine (foldl_fuses (fun _ _ _ hb => ?_) _ _).trans ?_) | (refine (foldl_params (fun _ _ _ hb => ?_) _ _).trans ?_) | (refine (foldl_host (fun _ _ _ hb => ?_) _ _).trans ?_) | (refine (foldl_nvm (fun _ _ _ hb => ?_) _ _).trans ?_) | (refine (foldl_land (fun _ _ _ hb => ?_) _ _).trans ?_) | (refine (foldl_map (fun _ _ _ hb => ?_) _ _).trans ?_) | (refine (foldl_cache (fun _ _ _ hb => ?_) _ _).trans ?_) | (refine (foldl_plp (fun _ _ _ hb => ?_) _ _).trans ?_) | (refine (foldl_dram (fun _ _ _ hb => ?_) _ _).trans ?_) | (refine (foldl_pwr (fun _ _ _ hb => ?_) _ _).trans ?_) | (refine (foldl_sec (fun _ _ _ hb => ?_) _ _).trans ?_) | (refine (foldl_mgmt (fun _ _ _ hb => ?_) _ _).trans ?_) | (refine (foldl_naile (fun _ _ _ hb => ?_) _ _).trans ?_) | (refine (foldl_nor (fun _ _ _ hb => ?_) _ _).trans ?_) | (refine (foldl_tally (fun _ _ _ hb => ?_) _ _).trans ?_) | (refine (foldl_bus (fun _ _ _ hb => ?_) _ _).trans ?_) | (refine (foldl_free (fun _ _ _ hb => ?_) _ _).trans ?_) | split))))

theorem State.dieNotUsed_keep (s : State) (ch : Nat) (a : DieAnswer) (why : Nat) :
    (State.dieNotUsed s ch a why).pending = s.pending ∧ (State.dieNotUsed s ch a why).time = s.time ∧ (State.dieNotUsed s ch a why).dev = s.dev ∧ (State.dieNotUsed s ch a why).fuses = s.fuses ∧ (State.dieNotUsed s ch a why).params = s.params ∧ (State.dieNotUsed s ch a why).host = s.host ∧ (State.dieNotUsed s ch a why).nvm = s.nvm ∧ (State.dieNotUsed s ch a why).land = s.land ∧ (State.dieNotUsed s ch a why).map = s.map ∧ (State.dieNotUsed s ch a why).media = s.media ∧ (State.dieNotUsed s ch a why).flash = s.flash ∧ (State.dieNotUsed s ch a why).cache = s.cache ∧ (State.dieNotUsed s ch a why).plp = s.plp ∧ (State.dieNotUsed s ch a why).dram = s.dram ∧ (State.dieNotUsed s ch a why).pwr = s.pwr ∧ (State.dieNotUsed s ch a why).sec = s.sec ∧ (State.dieNotUsed s ch a why).mgmt = s.mgmt ∧ (State.dieNotUsed s ch a why).naile = s.naile ∧ (State.dieNotUsed s ch a why).nor = s.nor ∧ (State.dieNotUsed s ch a why).bus = s.bus ∧ (State.dieNotUsed s ch a why).free = s.free := by
  generalize hr : State.dieNotUsed s ch a why = r
  simp only [State.dieNotUsed] at hr
  repeat' split at hr
  all_goals (subst hr; (simp only [and_self, (fact @State.recordHw_calm), sevDebug, sevInfo, sevNotice, sevWarning, sevError, sevCritical, ne_eq, Nat.reduceEqDiff, not_false_eq_true]))

theorem State.identify_keep (s : State) (ch : Nat) (answers : List DieAnswer) :
    (s.identify ch answers).pending = s.pending ∧ (s.identify ch answers).time = s.time ∧ (s.identify ch answers).dev = s.dev ∧ (s.identify ch answers).fuses = s.fuses ∧ (s.identify ch answers).params = s.params ∧ (s.identify ch answers).dram = s.dram ∧ (s.identify ch answers).pwr = s.pwr ∧ (s.identify ch answers).sec = s.sec ∧ (s.identify ch answers).nor = s.nor := by
  generalize hr : s.identify ch answers = r
  simp only [State.identify] at hr
  have hn : ∀ k (l : List DieAnswer) (a : State), (l.foldl (fun (a : State) x => a.dieNotUsed ch x k) a).pending = a.pending ∧ (l.foldl (fun (a : State) x => a.dieNotUsed ch x k) a).time = a.time ∧ (l.foldl (fun (a : State) x => a.dieNotUsed ch x k) a).dev = a.dev ∧ (l.foldl (fun (a : State) x => a.dieNotUsed ch x k) a).fuses = a.fuses ∧ (l.foldl (fun (a : State) x => a.dieNotUsed ch x k) a).params = a.params ∧ (l.foldl (fun (a : State) x => a.dieNotUsed ch x k) a).dram = a.dram ∧ (l.foldl (fun (a : State) x => a.dieNotUsed ch x k) a).pwr = a.pwr ∧ (l.foldl (fun (a : State) x => a.dieNotUsed ch x k) a).sec = a.sec ∧ (l.foldl (fun (a : State) x => a.dieNotUsed ch x k) a).nor = a.nor := fun k l a =>
    kfold_11 (fun a g b hb => by subst hb; simp only [(fact @State.dieNotUsed_keep), and_self]) l a
  have hu : ∀ (l : List DieAnswer) (a : State), (l.foldl (fun (a : State) x => { a with flash := a.flash.useDie ch x }) a).pending = a.pending ∧ (l.foldl (fun (a : State) x => { a with flash := a.flash.useDie ch x }) a).time = a.time ∧ (l.foldl (fun (a : State) x => { a with flash := a.flash.useDie ch x }) a).dev = a.dev ∧ (l.foldl (fun (a : State) x => { a with flash := a.flash.useDie ch x }) a).fuses = a.fuses ∧ (l.foldl (fun (a : State) x => { a with flash := a.flash.useDie ch x }) a).params = a.params ∧ (l.foldl (fun (a : State) x => { a with flash := a.flash.useDie ch x }) a).dram = a.dram ∧ (l.foldl (fun (a : State) x => { a with flash := a.flash.useDie ch x }) a).pwr = a.pwr ∧ (l.foldl (fun (a : State) x => { a with flash := a.flash.useDie ch x }) a).sec = a.sec ∧ (l.foldl (fun (a : State) x => { a with flash := a.flash.useDie ch x }) a).nor = a.nor := fun l a =>
    kfold_11 (fun a g b hb => by subst hb; (and_intros <;> rfl)) l a
  have hm : ∀ (l : List DieAnswer) (a : State), (l.foldl (fun (a : State) x => State.factoryMarks { a with flash := a.flash.useDie ch x } ch x) a).pending = a.pending ∧ (l.foldl (fun (a : State) x => State.factoryMarks { a with flash := a.flash.useDie ch x } ch x) a).time = a.time ∧ (l.foldl (fun (a : State) x => State.factoryMarks { a with flash := a.flash.useDie ch x } ch x) a).dev = a.dev ∧ (l.foldl (fun (a : State) x => State.factoryMarks { a with flash := a.flash.useDie ch x } ch x) a).fuses = a.fuses ∧ (l.foldl (fun (a : State) x => State.factoryMarks { a with flash := a.flash.useDie ch x } ch x) a).params = a.params ∧ (l.foldl (fun (a : State) x => State.factoryMarks { a with flash := a.flash.useDie ch x } ch x) a).dram = a.dram ∧ (l.foldl (fun (a : State) x => State.factoryMarks { a with flash := a.flash.useDie ch x } ch x) a).pwr = a.pwr ∧ (l.foldl (fun (a : State) x => State.factoryMarks { a with flash := a.flash.useDie ch x } ch x) a).sec = a.sec ∧ (l.foldl (fun (a : State) x => State.factoryMarks { a with flash := a.flash.useDie ch x } ch x) a).nor = a.nor := fun l a =>
    kfold_11 (fun a g b hb => by subst hb; simp only [(fact @State.factoryMarks_keep), and_self]) l a
  have hf : ∀ (l : List Nat) (a : State), (l.foldl (fun (a : State) d => a.failDie ch d) a).pending = a.pending ∧ (l.foldl (fun (a : State) d => a.failDie ch d) a).time = a.time ∧ (l.foldl (fun (a : State) d => a.failDie ch d) a).dev = a.dev ∧ (l.foldl (fun (a : State) d => a.failDie ch d) a).fuses = a.fuses ∧ (l.foldl (fun (a : State) d => a.failDie ch d) a).params = a.params ∧ (l.foldl (fun (a : State) d => a.failDie ch d) a).dram = a.dram ∧ (l.foldl (fun (a : State) d => a.failDie ch d) a).pwr = a.pwr ∧ (l.foldl (fun (a : State) d => a.failDie ch d) a).sec = a.sec ∧ (l.foldl (fun (a : State) d => a.failDie ch d) a).nor = a.nor := fun l a =>
    kfold_11 (fun a g b hb => by subst hb; simp only [(fact @State.failDie_keep), and_self]) l a
  split at hr
  · subst hr
    exact ktrans_11 (hm _ _) (ktrans_11 (hn _ _ _) (by and_intros <;> rfl))
  · subst hr
    exact ktrans_11 (hf _ _) (ktrans_11 (hu _ _) (ktrans_11 (hn _ _ _) (by and_intros <;> rfl)))


theorem State.rowFallback_keep (s : State) (r : Nat) :
    (State.rowFallback s r).pending = s.pending ∧ (State.rowFallback s r).time = s.time ∧ (State.rowFallback s r).dev = s.dev ∧ (State.rowFallback s r).fuses = s.fuses ∧ (State.rowFallback s r).host = s.host ∧ (State.rowFallback s r).nvm = s.nvm ∧ (State.rowFallback s r).land = s.land ∧ (State.rowFallback s r).map = s.map ∧ (State.rowFallback s r).media = s.media ∧ (State.rowFallback s r).flash = s.flash ∧ (State.rowFallback s r).cache = s.cache ∧ (State.rowFallback s r).plp = s.plp ∧ (State.rowFallback s r).dram = s.dram ∧ (State.rowFallback s r).pwr = s.pwr ∧ (State.rowFallback s r).sec = s.sec ∧ (State.rowFallback s r).nor = s.nor ∧ (State.rowFallback s r).bus = s.bus ∧ (State.rowFallback s r).free = s.free := by
  generalize hr : State.rowFallback s r = r
  simp only [State.rowFallback] at hr
  repeat' split at hr
  all_goals (subst hr; (simp only [and_self, (fact @State.record_calm), sevDebug, sevInfo, sevNotice, sevWarning, sevError, sevCritical, ne_eq, Nat.reduceEqDiff, not_false_eq_true]))

theorem State.rateFallback_keep (s : State) (ch : Nat) : (s.rateFallback ch).pending = s.pending ∧ (s.rateFallback ch).time = s.time ∧ (s.rateFallback ch).dev = s.dev ∧ (s.rateFallback ch).fuses = s.fuses ∧ (s.rateFallback ch).host = s.host ∧ (s.rateFallback ch).nvm = s.nvm ∧ (s.rateFallback ch).land = s.land ∧ (s.rateFallback ch).map = s.map ∧ (s.rateFallback ch).media = s.media ∧ (s.rateFallback ch).flash = s.flash ∧ (s.rateFallback ch).cache = s.cache ∧ (s.rateFallback ch).plp = s.plp ∧ (s.rateFallback ch).dram = s.dram ∧ (s.rateFallback ch).pwr = s.pwr ∧ (s.rateFallback ch).sec = s.sec ∧ (s.rateFallback ch).nor = s.nor ∧ (s.rateFallback ch).bus = s.bus ∧ (s.rateFallback ch).free = s.free := by
  generalize hr : s.rateFallback ch = r
  rw [State.rateFallback] at hr
  subst hr
  refine kfold_12 (fun a g b hb => ?_) _ _
  subst hb
  simp only [(fact @State.rowFallback_keep), and_self]


theorem State.finishLosses_keep (s : State) (ch : Nat) :
    (State.finishLosses s ch).pending = s.pending ∧ (State.finishLosses s ch).time = s.time ∧ (State.finishLosses s ch).dev = s.dev ∧ (State.finishLosses s ch).fuses = s.fuses ∧ (State.finishLosses s ch).params = s.params ∧ (State.finishLosses s ch).host = s.host ∧ (State.finishLosses s ch).nvm = s.nvm ∧ (State.finishLosses s ch).land = s.land ∧ (State.finishLosses s ch).map = s.map ∧ (State.finishLosses s ch).flash = s.flash ∧ (State.finishLosses s ch).cache = s.cache ∧ (State.finishLosses s ch).plp = s.plp ∧ (State.finishLosses s ch).dram = s.dram ∧ (State.finishLosses s ch).pwr = s.pwr ∧ (State.finishLosses s ch).sec = s.sec ∧ (State.finishLosses s ch).mgmt = s.mgmt ∧ (State.finishLosses s ch).naile = s.naile ∧ (State.finishLosses s ch).nor = s.nor ∧ (State.finishLosses s ch).tally = s.tally ∧ (State.finishLosses s ch).bus = s.bus ∧ (State.finishLosses s ch).free = s.free := by
  generalize hr : State.finishLosses s ch = r
  simp only [State.finishLosses] at hr
  repeat' split at hr
  all_goals (subst hr; (first | (simp only [and_self, (fact @State.markAbsent_keep)]; done) | (and_intros <;> (repeat' first | (simp only [and_self, (fact @State.markAbsent_keep)]; done) | (simp only [and_self, (fact @State.markAbsent_keep)]) | (split at hb) | (subst hb; simp only [and_self, (fact @State.markAbsent_keep)]) | (refine (foldl_pending (fun _ _ _ hb => ?_) _ _).trans ?_) | (refine (foldl_time (fun _ _ _ hb => ?_) _ _).trans ?_) | (refine (foldl_dev (fun _ _ _ hb => ?_) _ _).trans ?_) | (refine (foldl_fuses (fun _ _ _ hb => ?_) _ _).trans ?_) | (refine (foldl_params (fun _ _ _ hb => ?_) _ _).trans ?_) | (refine (foldl_host (fun _ _ _ hb => ?_) _ _).trans ?_) | (refine (foldl_nvm (fun _ _ _ hb => ?_) _ _).trans ?_) | (refine (foldl_land (fun _ _ _ hb => ?_) _ _).trans ?_) | (refine (foldl_map (fun _ _ _ hb => ?_) _ _).trans ?_) | (refine (foldl_flash (fun _ _ _ hb => ?_) _ _).trans ?_) | (refine (foldl_cache (fun _ _ _ hb => ?_) _ _).trans ?_) | (refine (foldl_plp (fun _ _ _ hb => ?_) _ _).trans ?_) | (refine (foldl_dram (fun _ _ _ hb => ?_) _ _).trans ?_) | (refine (foldl_pwr (fun _ _ _ hb => ?_) _ _).trans ?_) | (refine (foldl_sec (fun _ _ _ hb => ?_) _ _).trans ?_) | (refine (foldl_mgmt (fun _ _ _ hb => ?_) _ _).trans ?_) | (refine (foldl_naile (fun _ _ _ hb => ?_) _ _).trans ?_) | (refine (foldl_nor (fun _ _ _ hb => ?_) _ _).trans ?_) | (refine (foldl_tally (fun _ _ _ hb => ?_) _ _).trans ?_) | (refine (foldl_bus (fun _ _ _ hb => ?_) _ _).trans ?_) | (refine (foldl_free (fun _ _ _ hb => ?_) _ _).trans ?_) | split))))

theorem State.setDies_keep (s : State) (ch : Nat) (step : Nat) (rs : List StepReading) :
    (State.setDies s ch step rs).pending = s.pending ∧ (State.setDies s ch step rs).time = s.time ∧ (State.setDies s ch step rs).dev = s.dev ∧ (State.setDies s ch step rs).fuses = s.fuses ∧ (State.setDies s ch step rs).params = s.params ∧ (State.setDies s ch step rs).host = s.host ∧ (State.setDies s ch step rs).nvm = s.nvm ∧ (State.setDies s ch step rs).land = s.land ∧ (State.setDies s ch step rs).map = s.map ∧ (State.setDies s ch step rs).media = s.media ∧ (State.setDies s ch step rs).cache = s.cache ∧ (State.setDies s ch step rs).plp = s.plp ∧ (State.setDies s ch step rs).dram = s.dram ∧ (State.setDies s ch step rs).pwr = s.pwr ∧ (State.setDies s ch step rs).sec = s.sec ∧ (State.setDies s ch step rs).mgmt = s.mgmt ∧ (State.setDies s ch step rs).naile = s.naile ∧ (State.setDies s ch step rs).nor = s.nor ∧ (State.setDies s ch step rs).tally = s.tally ∧ (State.setDies s ch step rs).bus = s.bus := by
  generalize hr : State.setDies s ch step rs = r
  simp only [State.setDies] at hr
  repeat' split at hr
  all_goals (subst hr; (first | (simp only [and_self, (fact @State.draw_keep)]; done) | (and_intros <;> (repeat' first | (simp only [and_self, (fact @State.draw_keep)]; done) | (simp only [and_self, (fact @State.draw_keep)]) | (split at hb) | (subst hb; simp only [and_self, (fact @State.draw_keep)]) | (refine (foldl_pending (fun _ _ _ hb => ?_) _ _).trans ?_) | (refine (foldl_time (fun _ _ _ hb => ?_) _ _).trans ?_) | (refine (foldl_dev (fun _ _ _ hb => ?_) _ _).trans ?_) | (refine (foldl_fuses (fun _ _ _ hb => ?_) _ _).trans ?_) | (refine (foldl_params (fun _ _ _ hb => ?_) _ _).trans ?_) | (refine (foldl_host (fun _ _ _ hb => ?_) _ _).trans ?_) | (refine (foldl_nvm (fun _ _ _ hb => ?_) _ _).trans ?_) | (refine (foldl_land (fun _ _ _ hb => ?_) _ _).trans ?_) | (refine (foldl_map (fun _ _ _ hb => ?_) _ _).trans ?_) | (refine (foldl_media (fun _ _ _ hb => ?_) _ _).trans ?_) | (refine (foldl_cache (fun _ _ _ hb => ?_) _ _).trans ?_) | (refine (foldl_plp (fun _ _ _ hb => ?_) _ _).trans ?_) | (refine (foldl_dram (fun _ _ _ hb => ?_) _ _).trans ?_) | (refine (foldl_pwr (fun _ _ _ hb => ?_) _ _).trans ?_) | (refine (foldl_sec (fun _ _ _ hb => ?_) _ _).trans ?_) | (refine (foldl_mgmt (fun _ _ _ hb => ?_) _ _).trans ?_) | (refine (foldl_naile (fun _ _ _ hb => ?_) _ _).trans ?_) | (refine (foldl_nor (fun _ _ _ hb => ?_) _ _).trans ?_) | (refine (foldl_tally (fun _ _ _ hb => ?_) _ _).trans ?_) | (refine (foldl_bus (fun _ _ _ hb => ?_) _ _).trans ?_) | split))))

theorem State.keepSettings_keep (s : State) (ch : Nat) :
    (State.keepSettings s ch).pending = s.pending ∧ (State.keepSettings s ch).time = s.time ∧ (State.keepSettings s ch).fuses = s.fuses ∧ (State.keepSettings s ch).params = s.params ∧ (State.keepSettings s ch).host = s.host ∧ (State.keepSettings s ch).nvm = s.nvm ∧ (State.keepSettings s ch).land = s.land ∧ (State.keepSettings s ch).map = s.map ∧ (State.keepSettings s ch).media = s.media ∧ (State.keepSettings s ch).cache = s.cache ∧ (State.keepSettings s ch).plp = s.plp ∧ (State.keepSettings s ch).dram = s.dram ∧ (State.keepSettings s ch).pwr = s.pwr ∧ (State.keepSettings s ch).sec = s.sec ∧ (State.keepSettings s ch).mgmt = s.mgmt ∧ (State.keepSettings s ch).naile = s.naile ∧ (State.keepSettings s ch).nor = s.nor ∧ (State.keepSettings s ch).tally = s.tally ∧ (State.keepSettings s ch).bus = s.bus ∧ (State.keepSettings s ch).free = s.free := by
  generalize hr : State.keepSettings s ch = r
  simp only [State.keepSettings] at hr
  repeat' split at hr
  all_goals (subst hr; (first | (simp only [and_self]; done) | (and_intros <;> (repeat' first | (simp only [and_self]; done) | (simp only [and_self]) | (split at hb) | (subst hb; simp only [and_self]) | (refine (foldl_pending (fun _ _ _ hb => ?_) _ _).trans ?_) | (refine (foldl_time (fun _ _ _ hb => ?_) _ _).trans ?_) | (refine (foldl_fuses (fun _ _ _ hb => ?_) _ _).trans ?_) | (refine (foldl_params (fun _ _ _ hb => ?_) _ _).trans ?_) | (refine (foldl_host (fun _ _ _ hb => ?_) _ _).trans ?_) | (refine (foldl_nvm (fun _ _ _ hb => ?_) _ _).trans ?_) | (refine (foldl_land (fun _ _ _ hb => ?_) _ _).trans ?_) | (refine (foldl_map (fun _ _ _ hb => ?_) _ _).trans ?_) | (refine (foldl_media (fun _ _ _ hb => ?_) _ _).trans ?_) | (refine (foldl_cache (fun _ _ _ hb => ?_) _ _).trans ?_) | (refine (foldl_plp (fun _ _ _ hb => ?_) _ _).trans ?_) | (refine (foldl_dram (fun _ _ _ hb => ?_) _ _).trans ?_) | (refine (foldl_pwr (fun _ _ _ hb => ?_) _ _).trans ?_) | (refine (foldl_sec (fun _ _ _ hb => ?_) _ _).trans ?_) | (refine (foldl_mgmt (fun _ _ _ hb => ?_) _ _).trans ?_) | (refine (foldl_naile (fun _ _ _ hb => ?_) _ _).trans ?_) | (refine (foldl_nor (fun _ _ _ hb => ?_) _ _).trans ?_) | (refine (foldl_tally (fun _ _ _ hb => ?_) _ _).trans ?_) | (refine (foldl_bus (fun _ _ _ hb => ?_) _ _).trans ?_) | (refine (foldl_free (fun _ _ _ hb => ?_) _ _).trans ?_) | split))))

theorem State.trainPass_keep (s : State) (ch : Nat) :
    (State.trainPass s ch).pending = s.pending ∧ (State.trainPass s ch).time = s.time ∧ (State.trainPass s ch).fuses = s.fuses ∧ (State.trainPass s ch).params = s.params ∧ (State.trainPass s ch).plp = s.plp ∧ (State.trainPass s ch).dram = s.dram ∧ (State.trainPass s ch).pwr = s.pwr ∧ (State.trainPass s ch).sec = s.sec ∧ (State.trainPass s ch).mgmt = s.mgmt ∧ (State.trainPass s ch).naile = s.naile ∧ (State.trainPass s ch).nor = s.nor ∧ (State.trainPass s ch).bus = s.bus ∧ (State.trainPass s ch).free = s.free := by
  generalize hr : State.trainPass s ch = r
  simp only [State.trainPass] at hr
  repeat' split at hr
  all_goals (subst hr; (first | (simp only [and_self, (fact @State.keepSettings_keep), (fact @State.nextTurn_keep), (fact @State.resumeReads_keep), (fact @State.wakeWaiting_keep)]; done) | (and_intros <;> (repeat' first | (simp only [and_self, (fact @State.keepSettings_keep), (fact @State.nextTurn_keep), (fact @State.resumeReads_keep), (fact @State.wakeWaiting_keep)]; done) | (simp only [and_self, (fact @State.keepSettings_keep), (fact @State.nextTurn_keep), (fact @State.resumeReads_keep), (fact @State.wakeWaiting_keep)]) | (split at hb) | (subst hb; simp only [and_self, (fact @State.keepSettings_keep), (fact @State.nextTurn_keep), (fact @State.resumeReads_keep), (fact @State.wakeWaiting_keep)]) | (refine (foldl_pending (fun _ _ _ hb => ?_) _ _).trans ?_) | (refine (foldl_time (fun _ _ _ hb => ?_) _ _).trans ?_) | (refine (foldl_fuses (fun _ _ _ hb => ?_) _ _).trans ?_) | (refine (foldl_params (fun _ _ _ hb => ?_) _ _).trans ?_) | (refine (foldl_plp (fun _ _ _ hb => ?_) _ _).trans ?_) | (refine (foldl_dram (fun _ _ _ hb => ?_) _ _).trans ?_) | (refine (foldl_pwr (fun _ _ _ hb => ?_) _ _).trans ?_) | (refine (foldl_sec (fun _ _ _ hb => ?_) _ _).trans ?_) | (refine (foldl_mgmt (fun _ _ _ hb => ?_) _ _).trans ?_) | (refine (foldl_naile (fun _ _ _ hb => ?_) _ _).trans ?_) | (refine (foldl_nor (fun _ _ _ hb => ?_) _ _).trans ?_) | (refine (foldl_bus (fun _ _ _ hb => ?_) _ _).trans ?_) | (refine (foldl_free (fun _ _ _ hb => ?_) _ _).trans ?_) | split))))

theorem State.trainFail_keep (s0 : State) (ch : Nat) (bad : List Nat) :
    (State.trainFail s0 ch bad).pending = s0.pending ∧ (State.trainFail s0 ch bad).time = s0.time ∧ (State.trainFail s0 ch bad).dev = s0.dev ∧ (State.trainFail s0 ch bad).fuses = s0.fuses ∧ (State.trainFail s0 ch bad).params = s0.params ∧ (State.trainFail s0 ch bad).dram = s0.dram ∧ (State.trainFail s0 ch bad).pwr = s0.pwr ∧ (State.trainFail s0 ch bad).sec = s0.sec ∧ (State.trainFail s0 ch bad).nor = s0.nor := by
  generalize hr : State.trainFail s0 ch bad = r
  simp only [State.trainFail] at hr
  repeat' split at hr
  all_goals (subst hr; (first | (simp only [and_self, (fact @State.failDie_keep), (fact @State.retireChannel_keep), (fact @State.stepDown_keep)]; done) | (and_intros <;> (repeat' first | (simp only [and_self, (fact @State.failDie_keep), (fact @State.retireChannel_keep), (fact @State.stepDown_keep)]; done) | (simp only [and_self, (fact @State.failDie_keep), (fact @State.retireChannel_keep), (fact @State.stepDown_keep)]) | (split at hb) | (subst hb; simp only [and_self, (fact @State.failDie_keep), (fact @State.retireChannel_keep), (fact @State.stepDown_keep)]) | (refine (foldl_pending (fun _ _ _ hb => ?_) _ _).trans ?_) | (refine (foldl_time (fun _ _ _ hb => ?_) _ _).trans ?_) | (refine (foldl_dev (fun _ _ _ hb => ?_) _ _).trans ?_) | (refine (foldl_fuses (fun _ _ _ hb => ?_) _ _).trans ?_) | (refine (foldl_params (fun _ _ _ hb => ?_) _ _).trans ?_) | (refine (foldl_dram (fun _ _ _ hb => ?_) _ _).trans ?_) | (refine (foldl_pwr (fun _ _ _ hb => ?_) _ _).trans ?_) | (refine (foldl_sec (fun _ _ _ hb => ?_) _ _).trans ?_) | (refine (foldl_nor (fun _ _ _ hb => ?_) _ _).trans ?_) | split))))

theorem State.trainStep_keep (s0 : State) (ch : Nat) (rs : List StepReading) :
    (State.trainStep s0 ch rs).pending = s0.pending ∧ (State.trainStep s0 ch rs).time = s0.time ∧ (State.trainStep s0 ch rs).fuses = s0.fuses ∧ (State.trainStep s0 ch rs).params = s0.params ∧ (State.trainStep s0 ch rs).dram = s0.dram ∧ (State.trainStep s0 ch rs).pwr = s0.pwr ∧ (State.trainStep s0 ch rs).sec = s0.sec ∧ (State.trainStep s0 ch rs).nor = s0.nor := by
  generalize hr : State.trainStep s0 ch rs = r
  simp only [State.trainStep] at hr
  repeat' split at hr
  all_goals (subst hr; (first | (simp only [and_self, (fact @State.setDies_keep), (fact @State.trainFail_keep), (fact @State.trainPass_keep)]; done) | (and_intros <;> (repeat' first | (simp only [and_self, (fact @State.setDies_keep), (fact @State.trainFail_keep), (fact @State.trainPass_keep)]; done) | (simp only [and_self, (fact @State.setDies_keep), (fact @State.trainFail_keep), (fact @State.trainPass_keep)]) | (split at hb) | (subst hb; simp only [and_self, (fact @State.setDies_keep), (fact @State.trainFail_keep), (fact @State.trainPass_keep)]) | (refine (foldl_pending (fun _ _ _ hb => ?_) _ _).trans ?_) | (refine (foldl_time (fun _ _ _ hb => ?_) _ _).trans ?_) | (refine (foldl_fuses (fun _ _ _ hb => ?_) _ _).trans ?_) | (refine (foldl_params (fun _ _ _ hb => ?_) _ _).trans ?_) | (refine (foldl_dram (fun _ _ _ hb => ?_) _ _).trans ?_) | (refine (foldl_pwr (fun _ _ _ hb => ?_) _ _).trans ?_) | (refine (foldl_sec (fun _ _ _ hb => ?_) _ _).trans ?_) | (refine (foldl_nor (fun _ _ _ hb => ?_) _ _).trans ?_) | split))))



theorem State.liveFails_keep (s : State) (ch : Nat) (k : Nat) :
    (State.liveFails s ch k).pending = s.pending ∧ (State.liveFails s ch k).time = s.time ∧ (State.liveFails s ch k).dev = s.dev ∧ (State.liveFails s ch k).fuses = s.fuses ∧ (State.liveFails s ch k).params = s.params ∧ (State.liveFails s ch k).plp = s.plp ∧ (State.liveFails s ch k).dram = s.dram ∧ (State.liveFails s ch k).pwr = s.pwr ∧ (State.liveFails s ch k).sec = s.sec ∧ (State.liveFails s ch k).mgmt = s.mgmt ∧ (State.liveFails s ch k).naile = s.naile ∧ (State.liveFails s ch k).nor = s.nor ∧ (State.liveFails s ch k).bus = s.bus ∧ (State.liveFails s ch k).free = s.free := by
  generalize hr : State.liveFails s ch k = r
  simp only [State.liveFails] at hr
  repeat' split at hr
  all_goals (subst hr; (simp only [and_self, (fact @State.stepDown_keep)]))

theorem State.livePasses_keep (s : State) (ch : Nat) (k : Nat) (read : List (Nat × Nat)) (write : List (Nat × Nat)) :
    (State.livePasses s ch k read write).pending = s.pending ∧ (State.livePasses s ch k read write).time = s.time ∧ (State.livePasses s ch k read write).fuses = s.fuses ∧ (State.livePasses s ch k read write).params = s.params ∧ (State.livePasses s ch k read write).host = s.host ∧ (State.livePasses s ch k read write).nvm = s.nvm ∧ (State.livePasses s ch k read write).land = s.land ∧ (State.livePasses s ch k read write).map = s.map ∧ (State.livePasses s ch k read write).media = s.media ∧ (State.livePasses s ch k read write).cache = s.cache ∧ (State.livePasses s ch k read write).plp = s.plp ∧ (State.livePasses s ch k read write).dram = s.dram ∧ (State.livePasses s ch k read write).pwr = s.pwr ∧ (State.livePasses s ch k read write).sec = s.sec ∧ (State.livePasses s ch k read write).mgmt = s.mgmt ∧ (State.livePasses s ch k read write).naile = s.naile ∧ (State.livePasses s ch k read write).nor = s.nor ∧ (State.livePasses s ch k read write).tally = s.tally ∧ (State.livePasses s ch k read write).bus = s.bus ∧ (State.livePasses s ch k read write).free = s.free := by
  generalize hr : State.livePasses s ch k read write = r
  simp only [State.livePasses] at hr
  repeat' split at hr
  all_goals (subst hr; (simp only [and_self, (fact @State.keepSettings_keep), (fact @State.nextAction_keep)]))




end Sys2Proof.Machine
end

