-- ==== Sys2Proof/Laws/FrameHost.lean ====
section
/-! SUPPORT. Frames of the shared operations: for each, the units of State it leaves alone. Here gather, data movement, actions, DRAM, slices and the rebuilding of the map. -/

set_option linter.all false

namespace Sys2Proof.Machine

theorem State.modGather_keep (s : State) (tag : Nat) (g : GatherS → GatherS) :
    (State.modGather s tag g).pending = s.pending ∧ (State.modGather s tag g).time = s.time ∧ (State.modGather s tag g).dev = s.dev ∧ (State.modGather s tag g).fuses = s.fuses ∧ (State.modGather s tag g).params = s.params ∧ (State.modGather s tag g).nvm = s.nvm ∧ (State.modGather s tag g).land = s.land ∧ (State.modGather s tag g).map = s.map ∧ (State.modGather s tag g).media = s.media ∧ (State.modGather s tag g).flash = s.flash ∧ (State.modGather s tag g).cache = s.cache ∧ (State.modGather s tag g).plp = s.plp ∧ (State.modGather s tag g).dram = s.dram ∧ (State.modGather s tag g).pwr = s.pwr ∧ (State.modGather s tag g).sec = s.sec ∧ (State.modGather s tag g).mgmt = s.mgmt ∧ (State.modGather s tag g).naile = s.naile ∧ (State.modGather s tag g).nor = s.nor ∧ (State.modGather s tag g).tally = s.tally ∧ (State.modGather s tag g).bus = s.bus ∧ (State.modGather s tag g).free = s.free := by
  generalize hr : State.modGather s tag g = r
  simp only [State.modGather] at hr
  repeat' split at hr
  all_goals (subst hr; (simp only [and_self, (fact @State.modTag_keep)]))

theorem State.cachedToGather_keep (s : State) (tag : Nat) (lba : Nat) (b : Block) (bad : List Nat) :
    (State.cachedToGather s tag lba b bad).pending = s.pending ∧ (State.cachedToGather s tag lba b bad).time = s.time ∧ (State.cachedToGather s tag lba b bad).dev = s.dev ∧ (State.cachedToGather s tag lba b bad).fuses = s.fuses ∧ (State.cachedToGather s tag lba b bad).params = s.params ∧ (State.cachedToGather s tag lba b bad).map = s.map ∧ (State.cachedToGather s tag lba b bad).media = s.media ∧ (State.cachedToGather s tag lba b bad).flash = s.flash ∧ (State.cachedToGather s tag lba b bad).cache = s.cache ∧ (State.cachedToGather s tag lba b bad).plp = s.plp ∧ (State.cachedToGather s tag lba b bad).dram = s.dram ∧ (State.cachedToGather s tag lba b bad).pwr = s.pwr ∧ (State.cachedToGather s tag lba b bad).sec = s.sec ∧ (State.cachedToGather s tag lba b bad).mgmt = s.mgmt ∧ (State.cachedToGather s tag lba b bad).naile = s.naile ∧ (State.cachedToGather s tag lba b bad).nor = s.nor ∧ (State.cachedToGather s tag lba b bad).bus = s.bus ∧ (State.cachedToGather s tag lba b bad).free = s.free := by
  generalize hr : State.cachedToGather s tag lba b bad = r
  simp only [State.cachedToGather] at hr
  repeat' split at hr
  all_goals (subst hr; (simp only [and_self, (fact @State.toTag_keep)]))

theorem gatherLook_keep (tag : Nat) (a : State × List (Ploc × Nat)) (r : Nat × Resolved) : (gatherLook tag a r).1.pending = a.1.pending ∧ (gatherLook tag a r).1.time = a.1.time ∧ (gatherLook tag a r).1.dev = a.1.dev ∧ (gatherLook tag a r).1.fuses = a.1.fuses ∧ (gatherLook tag a r).1.params = a.1.params ∧ (gatherLook tag a r).1.map = a.1.map ∧ (gatherLook tag a r).1.media = a.1.media ∧ (gatherLook tag a r).1.flash = a.1.flash ∧ (gatherLook tag a r).1.cache = a.1.cache ∧ (gatherLook tag a r).1.plp = a.1.plp ∧ (gatherLook tag a r).1.dram = a.1.dram ∧ (gatherLook tag a r).1.pwr = a.1.pwr ∧ (gatherLook tag a r).1.sec = a.1.sec ∧ (gatherLook tag a r).1.mgmt = a.1.mgmt ∧ (gatherLook tag a r).1.naile = a.1.naile ∧ (gatherLook tag a r).1.nor = a.1.nor ∧ (gatherLook tag a r).1.bus = a.1.bus ∧ (gatherLook tag a r).1.free = a.1.free := by
  generalize hr : gatherLook tag a r = q
  simp only [gatherLook] at hr
  repeat' split at hr
  all_goals (subst hr; simp only [(fact @State.modTag_keep), (fact @State.toTag_keep), (fact @State.cachedToGather_keep), (fact @State.badPloc_keep), and_self])


theorem gatherUnit_keep (tag nsid : Nat) (n : NsS) (t : TagE) (a : State × List (Ploc × Nat)) (ls : List Nat) : (gatherUnit tag nsid n t a ls).1.pending = a.1.pending ∧ (gatherUnit tag nsid n t a ls).1.time = a.1.time ∧ (gatherUnit tag nsid n t a ls).1.dev = a.1.dev ∧ (gatherUnit tag nsid n t a ls).1.fuses = a.1.fuses ∧ (gatherUnit tag nsid n t a ls).1.params = a.1.params ∧ (gatherUnit tag nsid n t a ls).1.media = a.1.media ∧ (gatherUnit tag nsid n t a ls).1.flash = a.1.flash ∧ (gatherUnit tag nsid n t a ls).1.cache = a.1.cache ∧ (gatherUnit tag nsid n t a ls).1.plp = a.1.plp ∧ (gatherUnit tag nsid n t a ls).1.dram = a.1.dram ∧ (gatherUnit tag nsid n t a ls).1.pwr = a.1.pwr ∧ (gatherUnit tag nsid n t a ls).1.sec = a.1.sec ∧ (gatherUnit tag nsid n t a ls).1.mgmt = a.1.mgmt ∧ (gatherUnit tag nsid n t a ls).1.naile = a.1.naile ∧ (gatherUnit tag nsid n t a ls).1.nor = a.1.nor ∧ (gatherUnit tag nsid n t a ls).1.bus = a.1.bus ∧ (gatherUnit tag nsid n t a ls).1.free = a.1.free := by
  have h : ∀ (l : List (Nat × Resolved)) (b : State × List (Ploc × Nat)), (l.foldl (gatherLook tag) b).1.pending = b.1.pending ∧ (l.foldl (gatherLook tag) b).1.time = b.1.time ∧ (l.foldl (gatherLook tag) b).1.dev = b.1.dev ∧ (l.foldl (gatherLook tag) b).1.fuses = b.1.fuses ∧ (l.foldl (gatherLook tag) b).1.params = b.1.params ∧ (l.foldl (gatherLook tag) b).1.media = b.1.media ∧ (l.foldl (gatherLook tag) b).1.flash = b.1.flash ∧ (l.foldl (gatherLook tag) b).1.cache = b.1.cache ∧ (l.foldl (gatherLook tag) b).1.plp = b.1.plp ∧ (l.foldl (gatherLook tag) b).1.dram = b.1.dram ∧ (l.foldl (gatherLook tag) b).1.pwr = b.1.pwr ∧ (l.foldl (gatherLook tag) b).1.sec = b.1.sec ∧ (l.foldl (gatherLook tag) b).1.mgmt = b.1.mgmt ∧ (l.foldl (gatherLook tag) b).1.naile = b.1.naile ∧ (l.foldl (gatherLook tag) b).1.nor = b.1.nor ∧ (l.foldl (gatherLook tag) b).1.bus = b.1.bus ∧ (l.foldl (gatherLook tag) b).1.free = b.1.free := by
    intro l
    induction l with
    | nil => intro b; (and_intros <;> rfl)
    | cons x l ih => intro b; simp only [List.foldl_cons, ih, (fact @gatherLook_keep), and_self]
  generalize hr : gatherUnit tag nsid n t a ls = q
  simp only [gatherUnit] at hr
  repeat' split at hr
  · subst hr; (and_intros <;> rfl)
  · subst hr; exact h _ _
  · subst hr; (and_intros <;> rfl)


theorem State.placeWindow_keep (s : State) (tag : Nat) (t : TagE) (table : List Nat) :
    (State.placeWindow s tag t table).pending = s.pending ∧ (State.placeWindow s tag t table).time = s.time ∧ (State.placeWindow s tag t table).dev = s.dev ∧ (State.placeWindow s tag t table).fuses = s.fuses ∧ (State.placeWindow s tag t table).params = s.params ∧ (State.placeWindow s tag t table).nvm = s.nvm ∧ (State.placeWindow s tag t table).land = s.land ∧ (State.placeWindow s tag t table).map = s.map ∧ (State.placeWindow s tag t table).media = s.media ∧ (State.placeWindow s tag t table).flash = s.flash ∧ (State.placeWindow s tag t table).cache = s.cache ∧ (State.placeWindow s tag t table).plp = s.plp ∧ (State.placeWindow s tag t table).dram = s.dram ∧ (State.placeWindow s tag t table).pwr = s.pwr ∧ (State.placeWindow s tag t table).sec = s.sec ∧ (State.placeWindow s tag t table).mgmt = s.mgmt ∧ (State.placeWindow s tag t table).naile = s.naile ∧ (State.placeWindow s tag t table).nor = s.nor ∧ (State.placeWindow s tag t table).tally = s.tally ∧ (State.placeWindow s tag t table).bus = s.bus ∧ (State.placeWindow s tag t table).free = s.free := by
  generalize hr : State.placeWindow s tag t table = r
  simp only [State.placeWindow] at hr
  repeat' split at hr
  all_goals (subst hr; (first | (simp only [and_self, (fact @State.modTag_keep)]; done) | (and_intros <;> (repeat' first | (simp only [and_self, (fact @State.modTag_keep)]; done) | (simp only [and_self, (fact @State.modTag_keep)]) | (split at hb) | (subst hb; simp only [and_self, (fact @State.modTag_keep)]) | (refine (foldl_pending (fun _ _ _ hb => ?_) _ _).trans ?_) | (refine (foldl_time (fun _ _ _ hb => ?_) _ _).trans ?_) | (refine (foldl_dev (fun _ _ _ hb => ?_) _ _).trans ?_) | (refine (foldl_fuses (fun _ _ _ hb => ?_) _ _).trans ?_) | (refine (foldl_params (fun _ _ _ hb => ?_) _ _).trans ?_) | (refine (foldl_nvm (fun _ _ _ hb => ?_) _ _).trans ?_) | (refine (foldl_land (fun _ _ _ hb => ?_) _ _).trans ?_) | (refine (foldl_map (fun _ _ _ hb => ?_) _ _).trans ?_) | (refine (foldl_media (fun _ _ _ hb => ?_) _ _).trans ?_) | (refine (foldl_flash (fun _ _ _ hb => ?_) _ _).trans ?_) | (refine (foldl_cache (fun _ _ _ hb => ?_) _ _).trans ?_) | (refine (foldl_plp (fun _ _ _ hb => ?_) _ _).trans ?_) | (refine (foldl_dram (fun _ _ _ hb => ?_) _ _).trans ?_) | (refine (foldl_pwr (fun _ _ _ hb => ?_) _ _).trans ?_) | (refine (foldl_sec (fun _ _ _ hb => ?_) _ _).trans ?_) | (refine (foldl_mgmt (fun _ _ _ hb => ?_) _ _).trans ?_) | (refine (foldl_naile (fun _ _ _ hb => ?_) _ _).trans ?_) | (refine (foldl_nor (fun _ _ _ hb => ?_) _ _).trans ?_) | (refine (foldl_tally (fun _ _ _ hb => ?_) _ _).trans ?_) | (refine (foldl_bus (fun _ _ _ hb => ?_) _ _).trans ?_) | (refine (foldl_free (fun _ _ _ hb => ?_) _ _).trans ?_) | split))))

theorem State.resolveWindow_keep (s : State) (tag : Nat) (t : TagE) (f : GatherFields) (x : NsS) :
    (s.resolveWindow tag t f x).pending = s.pending ∧ (s.resolveWindow tag t f x).time = s.time ∧ (s.resolveWindow tag t f x).dev = s.dev ∧ (s.resolveWindow tag t f x).fuses = s.fuses ∧ (s.resolveWindow tag t f x).params = s.params ∧ (s.resolveWindow tag t f x).media = s.media ∧ (s.resolveWindow tag t f x).cache = s.cache ∧ (s.resolveWindow tag t f x).plp = s.plp ∧ (s.resolveWindow tag t f x).dram = s.dram ∧ (s.resolveWindow tag t f x).pwr = s.pwr ∧ (s.resolveWindow tag t f x).sec = s.sec ∧ (s.resolveWindow tag t f x).mgmt = s.mgmt ∧ (s.resolveWindow tag t f x).naile = s.naile ∧ (s.resolveWindow tag t f x).nor = s.nor ∧ (s.resolveWindow tag t f x).bus = s.bus ∧ (s.resolveWindow tag t f x).free = s.free := by
  generalize hr : s.resolveWindow tag t f x = r
  unfold State.resolveWindow at hr
  extract_lets busy q at hr
  have h : ∀ (l : List (List Nat)) (a : State × List (Ploc × Nat)), (l.foldl (gatherUnit tag f.nsid.toNat x t) a).1.pending = a.1.pending ∧ (l.foldl (gatherUnit tag f.nsid.toNat x t) a).1.time = a.1.time ∧ (l.foldl (gatherUnit tag f.nsid.toNat x t) a).1.dev = a.1.dev ∧ (l.foldl (gatherUnit tag f.nsid.toNat x t) a).1.fuses = a.1.fuses ∧ (l.foldl (gatherUnit tag f.nsid.toNat x t) a).1.params = a.1.params ∧ (l.foldl (gatherUnit tag f.nsid.toNat x t) a).1.media = a.1.media ∧ (l.foldl (gatherUnit tag f.nsid.toNat x t) a).1.cache = a.1.cache ∧ (l.foldl (gatherUnit tag f.nsid.toNat x t) a).1.plp = a.1.plp ∧ (l.foldl (gatherUnit tag f.nsid.toNat x t) a).1.dram = a.1.dram ∧ (l.foldl (gatherUnit tag f.nsid.toNat x t) a).1.pwr = a.1.pwr ∧ (l.foldl (gatherUnit tag f.nsid.toNat x t) a).1.sec = a.1.sec ∧ (l.foldl (gatherUnit tag f.nsid.toNat x t) a).1.mgmt = a.1.mgmt ∧ (l.foldl (gatherUnit tag f.nsid.toNat x t) a).1.naile = a.1.naile ∧ (l.foldl (gatherUnit tag f.nsid.toNat x t) a).1.nor = a.1.nor ∧ (l.foldl (gatherUnit tag f.nsid.toNat x t) a).1.bus = a.1.bus ∧ (l.foldl (gatherUnit tag f.nsid.toNat x t) a).1.free = a.1.free := by
    intro l
    induction l with
    | nil => intro a; (and_intros <;> rfl)
    | cons x l ih => intro a; simp only [List.foldl_cons, ih, (fact @gatherUnit_keep), and_self]
  have h1 : q.1.pending = s.pending ∧ q.1.time = s.time ∧ q.1.dev = s.dev ∧ q.1.fuses = s.fuses ∧ q.1.params = s.params ∧ q.1.media = s.media ∧ q.1.cache = s.cache ∧ q.1.plp = s.plp ∧ q.1.dram = s.dram ∧ q.1.pwr = s.pwr ∧ q.1.sec = s.sec ∧ q.1.mgmt = s.mgmt ∧ q.1.naile = s.naile ∧ q.1.nor = s.nor ∧ q.1.bus = s.bus ∧ q.1.free = s.free := h _ _
  clear_value q
  subst hr
  exact ktrans_13 (kfold_13 (fun a e b hb => by subst hb; simp only [(fact @State.addOp_keep), and_self]) _ _) h1


theorem State.keepTable_keep (s : State) (tag : Nat) (table : List Nat) :
    (State.keepTable s tag table).pending = s.pending ∧ (State.keepTable s tag table).time = s.time ∧ (State.keepTable s tag table).dev = s.dev ∧ (State.keepTable s tag table).fuses = s.fuses ∧ (State.keepTable s tag table).params = s.params ∧ (State.keepTable s tag table).host = s.host ∧ (State.keepTable s tag table).nvm = s.nvm ∧ (State.keepTable s tag table).map = s.map ∧ (State.keepTable s tag table).media = s.media ∧ (State.keepTable s tag table).flash = s.flash ∧ (State.keepTable s tag table).cache = s.cache ∧ (State.keepTable s tag table).plp = s.plp ∧ (State.keepTable s tag table).dram = s.dram ∧ (State.keepTable s tag table).pwr = s.pwr ∧ (State.keepTable s tag table).sec = s.sec ∧ (State.keepTable s tag table).mgmt = s.mgmt ∧ (State.keepTable s tag table).naile = s.naile ∧ (State.keepTable s tag table).nor = s.nor ∧ (State.keepTable s tag table).bus = s.bus ∧ (State.keepTable s tag table).free = s.free := by
  generalize hr : State.keepTable s tag table = r
  simp only [State.keepTable] at hr
  repeat' split at hr
  all_goals (subst hr; (simp only [and_self, (fact @State.freeThese_keep)]))

theorem State.openWindow_keep (s : State) (tag : Nat) (t : TagE) (f : GatherFields) (g : GatherS) :
    (State.openWindow s tag t f g).pending = s.pending ∧ (State.openWindow s tag t f g).time = s.time ∧ (State.openWindow s tag t f g).dev = s.dev ∧ (State.openWindow s tag t f g).fuses = s.fuses ∧ (State.openWindow s tag t f g).params = s.params ∧ (State.openWindow s tag t f g).nvm = s.nvm ∧ (State.openWindow s tag t f g).map = s.map ∧ (State.openWindow s tag t f g).media = s.media ∧ (State.openWindow s tag t f g).flash = s.flash ∧ (State.openWindow s tag t f g).cache = s.cache ∧ (State.openWindow s tag t f g).plp = s.plp ∧ (State.openWindow s tag t f g).dram = s.dram ∧ (State.openWindow s tag t f g).pwr = s.pwr ∧ (State.openWindow s tag t f g).sec = s.sec ∧ (State.openWindow s tag t f g).mgmt = s.mgmt ∧ (State.openWindow s tag t f g).naile = s.naile ∧ (State.openWindow s tag t f g).nor = s.nor ∧ (State.openWindow s tag t f g).tally = s.tally ∧ (State.openWindow s tag t f g).bus = s.bus ∧ (State.openWindow s tag t f g).free = s.free := by
  generalize hr : State.openWindow s tag t f g = r
  simp only [State.openWindow] at hr
  repeat' split at hr
  all_goals (subst hr; (simp only [and_self, (fact @State.askCords_keep), (fact @State.modTag_keep)]))

theorem State.closeWindow_keep (s : State) (tag : Nat) (t : TagE) (f : GatherFields) (g : GatherS) (bad : Bool) :
    (State.closeWindow s tag t f g bad).pending = s.pending ∧ (State.closeWindow s tag t f g bad).time = s.time ∧ (State.closeWindow s tag t f g bad).dev = s.dev ∧ (State.closeWindow s tag t f g bad).fuses = s.fuses ∧ (State.closeWindow s tag t f g bad).params = s.params ∧ (State.closeWindow s tag t f g bad).map = s.map ∧ (State.closeWindow s tag t f g bad).media = s.media ∧ (State.closeWindow s tag t f g bad).flash = s.flash ∧ (State.closeWindow s tag t f g bad).cache = s.cache ∧ (State.closeWindow s tag t f g bad).plp = s.plp ∧ (State.closeWindow s tag t f g bad).dram = s.dram ∧ (State.closeWindow s tag t f g bad).pwr = s.pwr ∧ (State.closeWindow s tag t f g bad).sec = s.sec ∧ (State.closeWindow s tag t f g bad).mgmt = s.mgmt ∧ (State.closeWindow s tag t f g bad).naile = s.naile ∧ (State.closeWindow s tag t f g bad).nor = s.nor ∧ (State.closeWindow s tag t f g bad).bus = s.bus ∧ (State.closeWindow s tag t f g bad).free = s.free := by
  generalize hr : State.closeWindow s tag t f g bad = r
  simp only [State.closeWindow] at hr
  repeat' split at hr
  all_goals (subst hr; (first | (simp only [and_self, (fact @State.chargeCredit_keep), (fact @State.keepTable_keep), (fact @State.modGather_keep)]; done) | (and_intros <;> (repeat' first | (simp only [and_self, (fact @State.chargeCredit_keep), (fact @State.keepTable_keep), (fact @State.modGather_keep)]; done) | (simp only [and_self, (fact @State.chargeCredit_keep), (fact @State.keepTable_keep), (fact @State.modGather_keep)]) | (split at hb) | (subst hb; simp only [and_self, (fact @State.chargeCredit_keep), (fact @State.keepTable_keep), (fact @State.modGather_keep)]) | (refine (foldl_pending (fun _ _ _ hb => ?_) _ _).trans ?_) | (refine (foldl_time (fun _ _ _ hb => ?_) _ _).trans ?_) | (refine (foldl_dev (fun _ _ _ hb => ?_) _ _).trans ?_) | (refine (foldl_fuses (fun _ _ _ hb => ?_) _ _).trans ?_) | (refine (foldl_params (fun _ _ _ hb => ?_) _ _).trans ?_) | (refine (foldl_map (fun _ _ _ hb => ?_) _ _).trans ?_) | (refine (foldl_media (fun _ _ _ hb => ?_) _ _).trans ?_) | (refine (foldl_flash (fun _ _ _ hb => ?_) _ _).trans ?_) | (refine (foldl_cache (fun _ _ _ hb => ?_) _ _).trans ?_) | (refine (foldl_plp (fun _ _ _ hb => ?_) _ _).trans ?_) | (refine (foldl_dram (fun _ _ _ hb => ?_) _ _).trans ?_) | (refine (foldl_pwr (fun _ _ _ hb => ?_) _ _).trans ?_) | (refine (foldl_sec (fun _ _ _ hb => ?_) _ _).trans ?_) | (refine (foldl_mgmt (fun _ _ _ hb => ?_) _ _).trans ?_) | (refine (foldl_naile (fun _ _ _ hb => ?_) _ _).trans ?_) | (refine (foldl_nor (fun _ _ _ hb => ?_) _ _).trans ?_) | (refine (foldl_bus (fun _ _ _ hb => ?_) _ _).trans ?_) | (refine (foldl_free (fun _ _ _ hb => ?_) _ _).trans ?_) | split))))

theorem State.beginGather_keep (s : State) (tag : Nat) (t : TagE) (f : GatherFields) :
    (State.beginGather s tag t f).pending = s.pending ∧ (State.beginGather s tag t f).time = s.time ∧ (State.beginGather s tag t f).dev = s.dev ∧ (State.beginGather s tag t f).fuses = s.fuses ∧ (State.beginGather s tag t f).params = s.params ∧ (State.beginGather s tag t f).nvm = s.nvm ∧ (State.beginGather s tag t f).map = s.map ∧ (State.beginGather s tag t f).media = s.media ∧ (State.beginGather s tag t f).flash = s.flash ∧ (State.beginGather s tag t f).cache = s.cache ∧ (State.beginGather s tag t f).plp = s.plp ∧ (State.beginGather s tag t f).dram = s.dram ∧ (State.beginGather s tag t f).pwr = s.pwr ∧ (State.beginGather s tag t f).sec = s.sec ∧ (State.beginGather s tag t f).mgmt = s.mgmt ∧ (State.beginGather s tag t f).naile = s.naile ∧ (State.beginGather s tag t f).nor = s.nor ∧ (State.beginGather s tag t f).tally = s.tally ∧ (State.beginGather s tag t f).bus = s.bus ∧ (State.beginGather s tag t f).free = s.free := by
  generalize hr : State.beginGather s tag t f = r
  simp only [State.beginGather] at hr
  repeat' split at hr
  all_goals (subst hr; (simp only [and_self, (fact @State.askCords_keep), (fact @State.issueTlps_keep), (fact @State.modTag_keep)]))

theorem State.poisonWindow_keep (s : State) (tag : Nat) (t : TagE) (g : GatherS) (bad : List Nat) :
    (State.poisonWindow s tag t g bad).pending = s.pending ∧ (State.poisonWindow s tag t g bad).time = s.time ∧ (State.poisonWindow s tag t g bad).dev = s.dev ∧ (State.poisonWindow s tag t g bad).fuses = s.fuses ∧ (State.poisonWindow s tag t g bad).params = s.params ∧ (State.poisonWindow s tag t g bad).map = s.map ∧ (State.poisonWindow s tag t g bad).media = s.media ∧ (State.poisonWindow s tag t g bad).flash = s.flash ∧ (State.poisonWindow s tag t g bad).cache = s.cache ∧ (State.poisonWindow s tag t g bad).plp = s.plp ∧ (State.poisonWindow s tag t g bad).dram = s.dram ∧ (State.poisonWindow s tag t g bad).pwr = s.pwr ∧ (State.poisonWindow s tag t g bad).sec = s.sec ∧ (State.poisonWindow s tag t g bad).mgmt = s.mgmt ∧ (State.poisonWindow s tag t g bad).naile = s.naile ∧ (State.poisonWindow s tag t g bad).nor = s.nor ∧ (State.poisonWindow s tag t g bad).bus = s.bus ∧ (State.poisonWindow s tag t g bad).free = s.free := by
  generalize hr : State.poisonWindow s tag t g bad = r
  simp only [State.poisonWindow] at hr
  repeat' split at hr
  all_goals (subst hr; (first | (simp only [and_self, (fact @State.askCords_keep), (fact @State.failTag_keep), (fact @State.freeThese_keep), (fact @State.modTag_keep), (fact @State.poisonEvent_calm), sevDebug, sevInfo, sevNotice, sevWarning, sevError, sevCritical, ne_eq, Nat.reduceEqDiff, not_false_eq_true]; done) | (and_intros <;> (repeat' first | (simp only [and_self, (fact @State.askCords_keep), (fact @State.failTag_keep), (fact @State.freeThese_keep), (fact @State.modTag_keep), (fact @State.poisonEvent_calm), sevDebug, sevInfo, sevNotice, sevWarning, sevError, sevCritical, ne_eq, Nat.reduceEqDiff, not_false_eq_true]; done) | (simp only [and_self, (fact @State.askCords_keep), (fact @State.failTag_keep), (fact @State.freeThese_keep), (fact @State.modTag_keep), (fact @State.poisonEvent_calm), sevDebug, sevInfo, sevNotice, sevWarning, sevError, sevCritical, ne_eq, Nat.reduceEqDiff, not_false_eq_true]) | (split at hb) | (subst hb; simp only [and_self, (fact @State.askCords_keep), (fact @State.failTag_keep), (fact @State.freeThese_keep), (fact @State.modTag_keep), (fact @State.poisonEvent_calm), sevDebug, sevInfo, sevNotice, sevWarning, sevError, sevCritical, ne_eq, Nat.reduceEqDiff, not_false_eq_true]) | (refine (foldl_pending (fun _ _ _ hb => ?_) _ _).trans ?_) | (refine (foldl_time (fun _ _ _ hb => ?_) _ _).trans ?_) | (refine (foldl_dev (fun _ _ _ hb => ?_) _ _).trans ?_) | (refine (foldl_fuses (fun _ _ _ hb => ?_) _ _).trans ?_) | (refine (foldl_params (fun _ _ _ hb => ?_) _ _).trans ?_) | (refine (foldl_map (fun _ _ _ hb => ?_) _ _).trans ?_) | (refine (foldl_media (fun _ _ _ hb => ?_) _ _).trans ?_) | (refine (foldl_flash (fun _ _ _ hb => ?_) _ _).trans ?_) | (refine (foldl_cache (fun _ _ _ hb => ?_) _ _).trans ?_) | (refine (foldl_plp (fun _ _ _ hb => ?_) _ _).trans ?_) | (refine (foldl_dram (fun _ _ _ hb => ?_) _ _).trans ?_) | (refine (foldl_pwr (fun _ _ _ hb => ?_) _ _).trans ?_) | (refine (foldl_sec (fun _ _ _ hb => ?_) _ _).trans ?_) | (refine (foldl_mgmt (fun _ _ _ hb => ?_) _ _).trans ?_) | (refine (foldl_naile (fun _ _ _ hb => ?_) _ _).trans ?_) | (refine (foldl_nor (fun _ _ _ hb => ?_) _ _).trans ?_) | (refine (foldl_bus (fun _ _ _ hb => ?_) _ _).trans ?_) | (refine (foldl_free (fun _ _ _ hb => ?_) _ _).trans ?_) | split))))

theorem State.windowEnds_keep (s : State) (tag : Nat) (t : TagE) (f : GatherFields) (g : GatherS) (bad : Bool) :
    (State.windowEnds s tag t f g bad).pending = s.pending ∧ (State.windowEnds s tag t f g bad).time = s.time ∧ (State.windowEnds s tag t f g bad).dev = s.dev ∧ (State.windowEnds s tag t f g bad).fuses = s.fuses ∧ (State.windowEnds s tag t f g bad).params = s.params ∧ (State.windowEnds s tag t f g bad).map = s.map ∧ (State.windowEnds s tag t f g bad).media = s.media ∧ (State.windowEnds s tag t f g bad).flash = s.flash ∧ (State.windowEnds s tag t f g bad).cache = s.cache ∧ (State.windowEnds s tag t f g bad).plp = s.plp ∧ (State.windowEnds s tag t f g bad).dram = s.dram ∧ (State.windowEnds s tag t f g bad).pwr = s.pwr ∧ (State.windowEnds s tag t f g bad).sec = s.sec ∧ (State.windowEnds s tag t f g bad).mgmt = s.mgmt ∧ (State.windowEnds s tag t f g bad).naile = s.naile ∧ (State.windowEnds s tag t f g bad).nor = s.nor ∧ (State.windowEnds s tag t f g bad).bus = s.bus ∧ (State.windowEnds s tag t f g bad).free = s.free := by
  generalize hr : State.windowEnds s tag t f g bad = r
  simp only [State.windowEnds] at hr
  repeat' split at hr
  all_goals (subst hr; (simp only [and_self, (fact @State.beginTransfer_keep), (fact @State.closeWindow_keep), (fact @State.openWindow_keep)]))

theorem State.stepGather_keep (s : State) (tag : Nat) (t : TagE) (f : GatherFields) (x : NsS) (g : GatherS) :
    (State.stepGather s tag t f x g).pending = s.pending ∧ (State.stepGather s tag t f x g).time = s.time ∧ (State.stepGather s tag t f x g).dev = s.dev ∧ (State.stepGather s tag t f x g).fuses = s.fuses ∧ (State.stepGather s tag t f x g).params = s.params ∧ (State.stepGather s tag t f x g).media = s.media ∧ (State.stepGather s tag t f x g).cache = s.cache ∧ (State.stepGather s tag t f x g).plp = s.plp ∧ (State.stepGather s tag t f x g).dram = s.dram ∧ (State.stepGather s tag t f x g).pwr = s.pwr ∧ (State.stepGather s tag t f x g).sec = s.sec ∧ (State.stepGather s tag t f x g).mgmt = s.mgmt ∧ (State.stepGather s tag t f x g).naile = s.naile ∧ (State.stepGather s tag t f x g).nor = s.nor ∧ (State.stepGather s tag t f x g).bus = s.bus ∧ (State.stepGather s tag t f x g).free = s.free := by
  generalize hr : State.stepGather s tag t f x g = r
  simp only [State.stepGather] at hr
  repeat' split at hr
  all_goals (subst hr; (simp only [and_self, (fact @State.failTag_keep), (fact @State.modGather_keep), (fact @State.openWindow_keep), (fact @State.placeWindow_keep), (fact @State.poisonEvent_calm), (fact @State.poisonWindow_keep), (fact @State.resolveWindow_keep), (fact @State.windowEnds_keep), sevDebug, sevInfo, sevNotice, sevWarning, sevError, sevCritical, ne_eq, Nat.reduceEqDiff, not_false_eq_true]))

theorem State.moveDesc_keep (s : State) (d : DmaDesc) (forward : Bool) :
    (State.moveDesc s d forward).pending = s.pending ∧ (State.moveDesc s d forward).time = s.time ∧ (State.moveDesc s d forward).dev = s.dev ∧ (State.moveDesc s d forward).fuses = s.fuses ∧ (State.moveDesc s d forward).params = s.params ∧ (State.moveDesc s d forward).nvm = s.nvm ∧ (State.moveDesc s d forward).map = s.map ∧ (State.moveDesc s d forward).media = s.media ∧ (State.moveDesc s d forward).flash = s.flash ∧ (State.moveDesc s d forward).cache = s.cache ∧ (State.moveDesc s d forward).plp = s.plp ∧ (State.moveDesc s d forward).pwr = s.pwr ∧ (State.moveDesc s d forward).sec = s.sec ∧ (State.moveDesc s d forward).mgmt = s.mgmt ∧ (State.moveDesc s d forward).naile = s.naile ∧ (State.moveDesc s d forward).nor = s.nor ∧ (State.moveDesc s d forward).tally = s.tally ∧ (State.moveDesc s d forward).bus = s.bus := by
  generalize hr : State.moveDesc s d forward = r
  simp only [State.moveDesc] at hr
  repeat' split at hr
  all_goals (subst hr; (first | (simp only [and_self, (fact @State.draw_keep), (fact @State.issueTlps_keep)]; done) | (and_intros <;> (repeat' first | (simp only [and_self, (fact @State.draw_keep), (fact @State.issueTlps_keep)]; done) | (simp only [and_self, (fact @State.draw_keep), (fact @State.issueTlps_keep)]) | (split at hb) | (subst hb; simp only [and_self, (fact @State.draw_keep), (fact @State.issueTlps_keep)]) | (refine (foldl_pending (fun _ _ _ hb => ?_) _ _).trans ?_) | (refine (foldl_time (fun _ _ _ hb => ?_) _ _).trans ?_) | (refine (foldl_dev (fun _ _ _ hb => ?_) _ _).trans ?_) | (refine (foldl_fuses (fun _ _ _ hb => ?_) _ _).trans ?_) | (refine (foldl_params (fun _ _ _ hb => ?_) _ _).trans ?_) | (refine (foldl_nvm (fun _ _ _ hb => ?_) _ _).trans ?_) | (refine (foldl_map (fun _ _ _ hb => ?_) _ _).trans ?_) | (refine (foldl_media (fun _ _ _ hb => ?_) _ _).trans ?_) | (refine (foldl_flash (fun _ _ _ hb => ?_) _ _).trans ?_) | (refine (foldl_cache (fun _ _ _ hb => ?_) _ _).trans ?_) | (refine (foldl_plp (fun _ _ _ hb => ?_) _ _).trans ?_) | (refine (foldl_pwr (fun _ _ _ hb => ?_) _ _).trans ?_) | (refine (foldl_sec (fun _ _ _ hb => ?_) _ _).trans ?_) | (refine (foldl_mgmt (fun _ _ _ hb => ?_) _ _).trans ?_) | (refine (foldl_naile (fun _ _ _ hb => ?_) _ _).trans ?_) | (refine (foldl_nor (fun _ _ _ hb => ?_) _ _).trans ?_) | (refine (foldl_tally (fun _ _ _ hb => ?_) _ _).trans ?_) | (refine (foldl_bus (fun _ _ _ hb => ?_) _ _).trans ?_) | split))))

theorem runChain_keep (reads forward : Bool) (l : List DmaDesc) (s : State) :
    (runChain reads forward l s).1.pending = s.pending ∧ (runChain reads forward l s).1.time = s.time ∧ (runChain reads forward l s).1.dev = s.dev ∧ (runChain reads forward l s).1.fuses = s.fuses ∧ (runChain reads forward l s).1.params = s.params ∧ (runChain reads forward l s).1.nvm = s.nvm ∧ (runChain reads forward l s).1.map = s.map ∧ (runChain reads forward l s).1.media = s.media ∧ (runChain reads forward l s).1.flash = s.flash ∧ (runChain reads forward l s).1.cache = s.cache ∧ (runChain reads forward l s).1.plp = s.plp ∧ (runChain reads forward l s).1.pwr = s.pwr ∧ (runChain reads forward l s).1.sec = s.sec ∧ (runChain reads forward l s).1.mgmt = s.mgmt ∧ (runChain reads forward l s).1.naile = s.naile ∧ (runChain reads forward l s).1.nor = s.nor ∧ (runChain reads forward l s).1.tally = s.tally ∧ (runChain reads forward l s).1.bus = s.bus := by
  induction l generalizing s with
  | nil => (and_intros <;> rfl)
  | cons d t ih =>
    generalize hr : runChain reads forward (d :: t) s = r
    simp only [runChain] at hr
    repeat' split at hr
    all_goals (subst hr; simp only [ih, (fact @State.moveDesc_keep), and_self])


theorem State.dropCtxs_keep (s : State) (tag : Nat) :
    (State.dropCtxs s tag).pending = s.pending ∧ (State.dropCtxs s tag).time = s.time ∧ (State.dropCtxs s tag).dev = s.dev ∧ (State.dropCtxs s tag).fuses = s.fuses ∧ (State.dropCtxs s tag).params = s.params ∧ (State.dropCtxs s tag).nvm = s.nvm ∧ (State.dropCtxs s tag).map = s.map ∧ (State.dropCtxs s tag).media = s.media ∧ (State.dropCtxs s tag).flash = s.flash ∧ (State.dropCtxs s tag).cache = s.cache ∧ (State.dropCtxs s tag).plp = s.plp ∧ (State.dropCtxs s tag).dram = s.dram ∧ (State.dropCtxs s tag).pwr = s.pwr ∧ (State.dropCtxs s tag).sec = s.sec ∧ (State.dropCtxs s tag).mgmt = s.mgmt ∧ (State.dropCtxs s tag).naile = s.naile ∧ (State.dropCtxs s tag).nor = s.nor ∧ (State.dropCtxs s tag).tally = s.tally ∧ (State.dropCtxs s tag).bus = s.bus ∧ (State.dropCtxs s tag).free = s.free := by
  generalize hr : State.dropCtxs s tag = r
  simp only [State.dropCtxs] at hr
  repeat' split at hr
  all_goals (subst hr; (simp only [and_self, (fact @State.modTag_keep)]))

theorem State.failAny_keep (s : State) (tag : Nat) (st : Status) :
    (State.failAny s tag st).pending = s.pending ∧ (State.failAny s tag st).time = s.time ∧ (State.failAny s tag st).dev = s.dev ∧ (State.failAny s tag st).fuses = s.fuses ∧ (State.failAny s tag st).params = s.params ∧ (State.failAny s tag st).media = s.media ∧ (State.failAny s tag st).flash = s.flash ∧ (State.failAny s tag st).plp = s.plp ∧ (State.failAny s tag st).dram = s.dram ∧ (State.failAny s tag st).pwr = s.pwr ∧ (State.failAny s tag st).sec = s.sec ∧ (State.failAny s tag st).mgmt = s.mgmt ∧ (State.failAny s tag st).naile = s.naile ∧ (State.failAny s tag st).nor = s.nor ∧ (State.failAny s tag st).bus = s.bus ∧ (State.failAny s tag st).free = s.free := by
  generalize hr : State.failAny s tag st = r
  simp only [State.failAny] at hr
  repeat' split at hr
  all_goals (subst hr; (simp only [and_self, (fact @State.complete_keep), (fact @State.dropCtxs_keep), (fact @State.failWrite_keep), (fact @State.feedCtxs_keep), (fact @State.orphan_keep)]))

theorem State.landingParity_keep (s : State) (cord : Nat) (line : Nat) (bad : Bool) :
    (State.landingParity s cord line bad).pending = s.pending ∧ (State.landingParity s cord line bad).time = s.time ∧ (State.landingParity s cord line bad).dev = s.dev ∧ (State.landingParity s cord line bad).fuses = s.fuses ∧ (State.landingParity s cord line bad).params = s.params ∧ (State.landingParity s cord line bad).host = s.host ∧ (State.landingParity s cord line bad).nvm = s.nvm ∧ (State.landingParity s cord line bad).map = s.map ∧ (State.landingParity s cord line bad).media = s.media ∧ (State.landingParity s cord line bad).flash = s.flash ∧ (State.landingParity s cord line bad).cache = s.cache ∧ (State.landingParity s cord line bad).plp = s.plp ∧ (State.landingParity s cord line bad).dram = s.dram ∧ (State.landingParity s cord line bad).pwr = s.pwr ∧ (State.landingParity s cord line bad).sec = s.sec ∧ (State.landingParity s cord line bad).mgmt = s.mgmt ∧ (State.landingParity s cord line bad).naile = s.naile ∧ (State.landingParity s cord line bad).nor = s.nor ∧ (State.landingParity s cord line bad).tally = s.tally ∧ (State.landingParity s cord line bad).bus = s.bus ∧ (State.landingParity s cord line bad).free = s.free := by
  generalize hr : State.landingParity s cord line bad = r
  simp only [State.landingParity] at hr
  repeat' split at hr
  all_goals (subst hr; (simp only [and_self]))

theorem State.rereadBlocks_keep (s : State) (tag : Nat) (t : TagE) (f : RwFields) (bad : List Nat) :
    (State.rereadBlocks s tag t f bad).pending = s.pending ∧ (State.rereadBlocks s tag t f bad).time = s.time ∧ (State.rereadBlocks s tag t f bad).dev = s.dev ∧ (State.rereadBlocks s tag t f bad).fuses = s.fuses ∧ (State.rereadBlocks s tag t f bad).params = s.params ∧ (State.rereadBlocks s tag t f bad).plp = s.plp ∧ (State.rereadBlocks s tag t f bad).dram = s.dram ∧ (State.rereadBlocks s tag t f bad).pwr = s.pwr ∧ (State.rereadBlocks s tag t f bad).sec = s.sec ∧ (State.rereadBlocks s tag t f bad).mgmt = s.mgmt ∧ (State.rereadBlocks s tag t f bad).naile = s.naile ∧ (State.rereadBlocks s tag t f bad).nor = s.nor ∧ (State.rereadBlocks s tag t f bad).bus = s.bus ∧ (State.rereadBlocks s tag t f bad).free = s.free := by
  generalize hr : State.rereadBlocks s tag t f bad = r
  simp only [State.rereadBlocks] at hr
  repeat' split at hr
  all_goals (subst hr; (first | (simp only [and_self, (fact @State.askTag_keep), (fact @State.continueRead_keep), (fact @State.freeThese_keep), (fact @State.modTag_keep)]; done) | (and_intros <;> (repeat' first | (simp only [and_self, (fact @State.askTag_keep), (fact @State.continueRead_keep), (fact @State.freeThese_keep), (fact @State.modTag_keep)]; done) | (simp only [and_self, (fact @State.askTag_keep), (fact @State.continueRead_keep), (fact @State.freeThese_keep), (fact @State.modTag_keep)]) | (split at hb) | (subst hb; simp only [and_self, (fact @State.askTag_keep), (fact @State.continueRead_keep), (fact @State.freeThese_keep), (fact @State.modTag_keep)]) | (refine (foldl_pending (fun _ _ _ hb => ?_) _ _).trans ?_) | (refine (foldl_time (fun _ _ _ hb => ?_) _ _).trans ?_) | (refine (foldl_dev (fun _ _ _ hb => ?_) _ _).trans ?_) | (refine (foldl_fuses (fun _ _ _ hb => ?_) _ _).trans ?_) | (refine (foldl_params (fun _ _ _ hb => ?_) _ _).trans ?_) | (refine (foldl_plp (fun _ _ _ hb => ?_) _ _).trans ?_) | (refine (foldl_dram (fun _ _ _ hb => ?_) _ _).trans ?_) | (refine (foldl_pwr (fun _ _ _ hb => ?_) _ _).trans ?_) | (refine (foldl_sec (fun _ _ _ hb => ?_) _ _).trans ?_) | (refine (foldl_mgmt (fun _ _ _ hb => ?_) _ _).trans ?_) | (refine (foldl_naile (fun _ _ _ hb => ?_) _ _).trans ?_) | (refine (foldl_nor (fun _ _ _ hb => ?_) _ _).trans ?_) | (refine (foldl_bus (fun _ _ _ hb => ?_) _ _).trans ?_) | (refine (foldl_free (fun _ _ _ hb => ?_) _ _).trans ?_) | split))))

theorem State.poisonRead_keep (s : State) (tag : Nat) (t : TagE) (f : RwFields) (forward : Bool) (bad : List Nat) :
    (State.poisonRead s tag t f forward bad).pending = s.pending ∧ (State.poisonRead s tag t f forward bad).time = s.time ∧ (State.poisonRead s tag t f forward bad).dev = s.dev ∧ (State.poisonRead s tag t f forward bad).fuses = s.fuses ∧ (State.poisonRead s tag t f forward bad).params = s.params ∧ (State.poisonRead s tag t f forward bad).plp = s.plp ∧ (State.poisonRead s tag t f forward bad).dram = s.dram ∧ (State.poisonRead s tag t f forward bad).pwr = s.pwr ∧ (State.poisonRead s tag t f forward bad).sec = s.sec ∧ (State.poisonRead s tag t f forward bad).mgmt = s.mgmt ∧ (State.poisonRead s tag t f forward bad).naile = s.naile ∧ (State.poisonRead s tag t f forward bad).nor = s.nor ∧ (State.poisonRead s tag t f forward bad).bus = s.bus ∧ (State.poisonRead s tag t f forward bad).free = s.free := by
  generalize hr : State.poisonRead s tag t f forward bad = r
  simp only [State.poisonRead] at hr
  repeat' split at hr
  all_goals (subst hr; (simp only [and_self, (fact @State.complete_keep), (fact @State.issueTlps_keep), (fact @State.poisonEvent_calm), (fact @State.rereadBlocks_keep), sevDebug, sevInfo, sevNotice, sevWarning, sevError, sevCritical, ne_eq, Nat.reduceEqDiff, not_false_eq_true]))

theorem State.retireTag_keep (s : State) (tag : Nat) :
    (State.retireTag s tag).pending = s.pending ∧ (State.retireTag s tag).time = s.time ∧ (State.retireTag s tag).dev = s.dev ∧ (State.retireTag s tag).fuses = s.fuses ∧ (State.retireTag s tag).params = s.params ∧ (State.retireTag s tag).media = s.media ∧ (State.retireTag s tag).flash = s.flash ∧ (State.retireTag s tag).plp = s.plp ∧ (State.retireTag s tag).dram = s.dram ∧ (State.retireTag s tag).pwr = s.pwr ∧ (State.retireTag s tag).sec = s.sec ∧ (State.retireTag s tag).mgmt = s.mgmt ∧ (State.retireTag s tag).naile = s.naile ∧ (State.retireTag s tag).nor = s.nor ∧ (State.retireTag s tag).bus = s.bus ∧ (State.retireTag s tag).free = s.free := by
  generalize hr : State.retireTag s tag = r
  simp only [State.retireTag] at hr
  repeat' split at hr
  all_goals (subst hr; (simp only [and_self, (fact @State.dropCtxs_keep), (fact @State.feedCtxs_keep), (fact @State.freeCords_keep), (fact @State.orphan_keep), (fact @State.returnCharge_keep), (fact @State.sweepFlushes_keep)]))

theorem State.contextParity_keep (s : State) (n : Nat) (owner : Option Nat) :
    (State.contextParity s n owner).pending = s.pending ∧ (State.contextParity s n owner).time = s.time ∧ (State.contextParity s n owner).dev = s.dev ∧ (State.contextParity s n owner).fuses = s.fuses ∧ (State.contextParity s n owner).params = s.params ∧ (State.contextParity s n owner).media = s.media ∧ (State.contextParity s n owner).flash = s.flash ∧ (State.contextParity s n owner).plp = s.plp ∧ (State.contextParity s n owner).dram = s.dram ∧ (State.contextParity s n owner).pwr = s.pwr ∧ (State.contextParity s n owner).sec = s.sec ∧ (State.contextParity s n owner).mgmt = s.mgmt ∧ (State.contextParity s n owner).naile = s.naile ∧ (State.contextParity s n owner).nor = s.nor ∧ (State.contextParity s n owner).bus = s.bus ∧ (State.contextParity s n owner).free = s.free := by
  generalize hr : State.contextParity s n owner = r
  simp only [State.contextParity] at hr
  repeat' split at hr
  all_goals (subst hr; (simp only [and_self, (fact @State.failAny_keep), (fact @State.feedCtxs_keep), (fact @State.modTag_keep), (fact @State.recordHw_calm), sevDebug, sevInfo, sevNotice, sevWarning, sevError, sevCritical, ne_eq, Nat.reduceEqDiff, not_false_eq_true]))

theorem State.dieQueueParity_keep (s : State) (i : Nat) :
    (State.dieQueueParity s i).pending = s.pending ∧ (State.dieQueueParity s i).time = s.time ∧ (State.dieQueueParity s i).dev = s.dev ∧ (State.dieQueueParity s i).fuses = s.fuses ∧ (State.dieQueueParity s i).params = s.params ∧ (State.dieQueueParity s i).host = s.host ∧ (State.dieQueueParity s i).nvm = s.nvm ∧ (State.dieQueueParity s i).land = s.land ∧ (State.dieQueueParity s i).map = s.map ∧ (State.dieQueueParity s i).media = s.media ∧ (State.dieQueueParity s i).cache = s.cache ∧ (State.dieQueueParity s i).plp = s.plp ∧ (State.dieQueueParity s i).dram = s.dram ∧ (State.dieQueueParity s i).pwr = s.pwr ∧ (State.dieQueueParity s i).sec = s.sec ∧ (State.dieQueueParity s i).mgmt = s.mgmt ∧ (State.dieQueueParity s i).naile = s.naile ∧ (State.dieQueueParity s i).nor = s.nor ∧ (State.dieQueueParity s i).bus = s.bus ∧ (State.dieQueueParity s i).free = s.free := by
  generalize hr : State.dieQueueParity s i = r
  simp only [State.dieQueueParity] at hr
  repeat' split at hr
  all_goals (subst hr; (simp only [and_self, (fact @State.recordHw_calm), sevDebug, sevInfo, sevNotice, sevWarning, sevError, sevCritical, ne_eq, Nat.reduceEqDiff, not_false_eq_true]))

theorem State.parity_keep (s : State) (n : Nat) (owner : Option Nat) (p : ParityEvent) :
    (State.parity s n owner p).pending = s.pending ∧ (State.parity s n owner p).time = s.time ∧ (State.parity s n owner p).dev = s.dev ∧ (State.parity s n owner p).fuses = s.fuses ∧ (State.parity s n owner p).params = s.params ∧ (State.parity s n owner p).media = s.media ∧ (State.parity s n owner p).plp = s.plp ∧ (State.parity s n owner p).dram = s.dram ∧ (State.parity s n owner p).pwr = s.pwr ∧ (State.parity s n owner p).sec = s.sec ∧ (State.parity s n owner p).mgmt = s.mgmt ∧ (State.parity s n owner p).naile = s.naile ∧ (State.parity s n owner p).nor = s.nor ∧ (State.parity s n owner p).bus = s.bus ∧ (State.parity s n owner p).free = s.free := by
  generalize hr : State.parity s n owner p = r
  simp only [State.parity] at hr
  repeat' split at hr
  all_goals (subst hr; (simp only [and_self, (fact @State.contextParity_keep), (fact @State.dieQueueParity_keep), (fact @State.failAny_keep), (fact @State.landingParity_keep), (fact @State.recordHw_calm), (fact @State.retireTag_keep), sevDebug, sevInfo, sevNotice, sevWarning, sevError, sevCritical, ne_eq, Nat.reduceEqDiff, not_false_eq_true]))

theorem State.noteReread_keep (s : State) (t : TagE) (row : Nat) :
    (State.noteReread s t row).pending = s.pending ∧ (State.noteReread s t row).time = s.time ∧ (State.noteReread s t row).dev = s.dev ∧ (State.noteReread s t row).fuses = s.fuses ∧ (State.noteReread s t row).params = s.params ∧ (State.noteReread s t row).host = s.host ∧ (State.noteReread s t row).nvm = s.nvm ∧ (State.noteReread s t row).land = s.land ∧ (State.noteReread s t row).map = s.map ∧ (State.noteReread s t row).media = s.media ∧ (State.noteReread s t row).flash = s.flash ∧ (State.noteReread s t row).cache = s.cache ∧ (State.noteReread s t row).plp = s.plp ∧ (State.noteReread s t row).dram = s.dram ∧ (State.noteReread s t row).pwr = s.pwr ∧ (State.noteReread s t row).sec = s.sec ∧ (State.noteReread s t row).mgmt = s.mgmt ∧ (State.noteReread s t row).naile = s.naile ∧ (State.noteReread s t row).nor = s.nor ∧ (State.noteReread s t row).bus = s.bus ∧ (State.noteReread s t row).free = s.free := by
  generalize hr : State.noteReread s t row = r
  simp only [State.noteReread] at hr
  repeat' split at hr
  all_goals (subst hr; (simp only [and_self, (fact @State.poisonEvent_calm), sevDebug, sevInfo, sevNotice, sevWarning, sevError, sevCritical, ne_eq, Nat.reduceEqDiff, not_false_eq_true]))

theorem State.delivered_keep (s : State) (tag : Nat) (t : TagE) (f : RwFields) :
    (State.delivered s tag t f).pending = s.pending ∧ (State.delivered s tag t f).time = s.time ∧ (State.delivered s tag t f).dev = s.dev ∧ (State.delivered s tag t f).fuses = s.fuses ∧ (State.delivered s tag t f).params = s.params ∧ (State.delivered s tag t f).map = s.map ∧ (State.delivered s tag t f).media = s.media ∧ (State.delivered s tag t f).flash = s.flash ∧ (State.delivered s tag t f).cache = s.cache ∧ (State.delivered s tag t f).plp = s.plp ∧ (State.delivered s tag t f).dram = s.dram ∧ (State.delivered s tag t f).pwr = s.pwr ∧ (State.delivered s tag t f).sec = s.sec ∧ (State.delivered s tag t f).mgmt = s.mgmt ∧ (State.delivered s tag t f).naile = s.naile ∧ (State.delivered s tag t f).nor = s.nor ∧ (State.delivered s tag t f).bus = s.bus ∧ (State.delivered s tag t f).free = s.free := by
  generalize hr : State.delivered s tag t f = r
  simp only [State.delivered] at hr
  repeat' split at hr
  all_goals (subst hr; (simp only [and_self, (fact @State.noteReread_keep), (fact @State.returnData_keep)]))

theorem State.compared_keep (s : State) (tag : Nat) (t : TagE) (f : RwFields) :
    (State.compared s tag t f).pending = s.pending ∧ (State.compared s tag t f).time = s.time ∧ (State.compared s tag t f).dev = s.dev ∧ (State.compared s tag t f).fuses = s.fuses ∧ (State.compared s tag t f).params = s.params ∧ (State.compared s tag t f).plp = s.plp ∧ (State.compared s tag t f).dram = s.dram ∧ (State.compared s tag t f).pwr = s.pwr ∧ (State.compared s tag t f).sec = s.sec ∧ (State.compared s tag t f).mgmt = s.mgmt ∧ (State.compared s tag t f).naile = s.naile ∧ (State.compared s tag t f).nor = s.nor ∧ (State.compared s tag t f).bus = s.bus ∧ (State.compared s tag t f).free = s.free := by
  generalize hr : State.compared s tag t f = r
  simp only [State.compared] at hr
  repeat' split at hr
  all_goals (subst hr; (simp only [and_self, (fact @State.complete_keep), (fact @State.noteReread_keep), (fact @State.poisonEvent_calm), (fact @State.poisonRead_keep), sevDebug, sevInfo, sevNotice, sevWarning, sevError, sevCritical, ne_eq, Nat.reduceEqDiff, not_false_eq_true]))

theorem State.pulled_keep (s : State) (tag : Nat) (t : TagE) (f : RwFields) :
    (State.pulled s tag t f).pending = s.pending ∧ (State.pulled s tag t f).time = s.time ∧ (State.pulled s tag t f).dev = s.dev ∧ (State.pulled s tag t f).fuses = s.fuses ∧ (State.pulled s tag t f).params = s.params ∧ (State.pulled s tag t f).map = s.map ∧ (State.pulled s tag t f).dram = s.dram ∧ (State.pulled s tag t f).pwr = s.pwr ∧ (State.pulled s tag t f).sec = s.sec ∧ (State.pulled s tag t f).mgmt = s.mgmt ∧ (State.pulled s tag t f).naile = s.naile ∧ (State.pulled s tag t f).nor = s.nor ∧ (State.pulled s tag t f).bus = s.bus ∧ (State.pulled s tag t f).free = s.free := by
  generalize hr : State.pulled s tag t f = r
  simp only [State.pulled] at hr
  repeat' split at hr
  all_goals (subst hr; (simp only [and_self, (fact @State.beginTransfer_keep), (fact @State.failWrite_keep), (fact @State.modTag_keep), (fact @State.poisonEvent_calm), (fact @State.publishWrite_keep), sevDebug, sevInfo, sevNotice, sevWarning, sevError, sevCritical, ne_eq, Nat.reduceEqDiff, not_false_eq_true]))

theorem State.readMovedOut_keep (s : State) (tag : Nat) (t : TagE) (f : RwFields) (forward : Bool) :
    (State.readMovedOut s tag t f forward).pending = s.pending ∧ (State.readMovedOut s tag t f forward).time = s.time ∧ (State.readMovedOut s tag t f forward).dev = s.dev ∧ (State.readMovedOut s tag t f forward).fuses = s.fuses ∧ (State.readMovedOut s tag t f forward).params = s.params ∧ (State.readMovedOut s tag t f forward).plp = s.plp ∧ (State.readMovedOut s tag t f forward).dram = s.dram ∧ (State.readMovedOut s tag t f forward).pwr = s.pwr ∧ (State.readMovedOut s tag t f forward).sec = s.sec ∧ (State.readMovedOut s tag t f forward).mgmt = s.mgmt ∧ (State.readMovedOut s tag t f forward).naile = s.naile ∧ (State.readMovedOut s tag t f forward).nor = s.nor ∧ (State.readMovedOut s tag t f forward).bus = s.bus ∧ (State.readMovedOut s tag t f forward).free = s.free := by
  generalize hr : State.readMovedOut s tag t f forward = r
  simp only [State.readMovedOut] at hr
  repeat' split at hr
  all_goals (subst hr; (simp only [and_self, (fact @State.delivered_keep), (fact @State.poisonRead_keep)]))

theorem State.gatherOut_keep (s : State) (tag : Nat) (t : TagE) (f : GatherFields) (g : GatherS) :
    (State.gatherOut s tag t f g).pending = s.pending ∧ (State.gatherOut s tag t f g).time = s.time ∧ (State.gatherOut s tag t f g).dev = s.dev ∧ (State.gatherOut s tag t f g).fuses = s.fuses ∧ (State.gatherOut s tag t f g).params = s.params ∧ (State.gatherOut s tag t f g).map = s.map ∧ (State.gatherOut s tag t f g).media = s.media ∧ (State.gatherOut s tag t f g).flash = s.flash ∧ (State.gatherOut s tag t f g).cache = s.cache ∧ (State.gatherOut s tag t f g).plp = s.plp ∧ (State.gatherOut s tag t f g).dram = s.dram ∧ (State.gatherOut s tag t f g).pwr = s.pwr ∧ (State.gatherOut s tag t f g).sec = s.sec ∧ (State.gatherOut s tag t f g).mgmt = s.mgmt ∧ (State.gatherOut s tag t f g).naile = s.naile ∧ (State.gatherOut s tag t f g).nor = s.nor ∧ (State.gatherOut s tag t f g).bus = s.bus ∧ (State.gatherOut s tag t f g).free = s.free := by
  generalize hr : State.gatherOut s tag t f g = r
  simp only [State.gatherOut] at hr
  repeat' split at hr
  all_goals (subst hr; (simp only [and_self, (fact @State.complete_keep), (fact @State.issueTlps_keep), (fact @State.noteReread_keep), (fact @State.returnData_keep)]))

theorem State.transferDone_keep (s : State) (tag : Nat) (forward : Bool) :
    (State.transferDone s tag forward).pending = s.pending ∧ (State.transferDone s tag forward).time = s.time ∧ (State.transferDone s tag forward).dev = s.dev ∧ (State.transferDone s tag forward).fuses = s.fuses ∧ (State.transferDone s tag forward).params = s.params ∧ (State.transferDone s tag forward).dram = s.dram ∧ (State.transferDone s tag forward).pwr = s.pwr ∧ (State.transferDone s tag forward).sec = s.sec ∧ (State.transferDone s tag forward).mgmt = s.mgmt ∧ (State.transferDone s tag forward).naile = s.naile ∧ (State.transferDone s tag forward).nor = s.nor ∧ (State.transferDone s tag forward).bus = s.bus ∧ (State.transferDone s tag forward).free = s.free := by
  generalize hr : State.transferDone s tag forward = r
  simp only [State.transferDone] at hr
  repeat' split at hr
  all_goals (subst hr; (simp only [and_self, (fact @State.compared_keep), (fact @State.gatherOut_keep), (fact @State.pulled_keep), (fact @State.readMovedOut_keep)]))

theorem State.ctxDone_keep (s : State) (n : Nat) :
    (State.ctxDone s n).pending = s.pending ∧ (State.ctxDone s n).time = s.time ∧ (State.ctxDone s n).dev = s.dev ∧ (State.ctxDone s n).fuses = s.fuses ∧ (State.ctxDone s n).params = s.params ∧ (State.ctxDone s n).dram = s.dram ∧ (State.ctxDone s n).pwr = s.pwr ∧ (State.ctxDone s n).sec = s.sec ∧ (State.ctxDone s n).mgmt = s.mgmt ∧ (State.ctxDone s n).naile = s.naile ∧ (State.ctxDone s n).nor = s.nor ∧ (State.ctxDone s n).bus = s.bus ∧ (State.ctxDone s n).free = s.free := by
  generalize hr : State.ctxDone s n = r
  simp only [State.ctxDone] at hr
  repeat' split at hr
  all_goals (subst hr; (simp only [and_self, (fact @State.feedCtxs_keep), (fact @State.transferDone_keep)]))

theorem State.descError_keep (s : State) (n : Nat) (owner : Option Nat) :
    (State.descError s n owner).pending = s.pending ∧ (State.descError s n owner).time = s.time ∧ (State.descError s n owner).dev = s.dev ∧ (State.descError s n owner).fuses = s.fuses ∧ (State.descError s n owner).params = s.params ∧ (State.descError s n owner).media = s.media ∧ (State.descError s n owner).flash = s.flash ∧ (State.descError s n owner).plp = s.plp ∧ (State.descError s n owner).dram = s.dram ∧ (State.descError s n owner).pwr = s.pwr ∧ (State.descError s n owner).sec = s.sec ∧ (State.descError s n owner).mgmt = s.mgmt ∧ (State.descError s n owner).naile = s.naile ∧ (State.descError s n owner).nor = s.nor ∧ (State.descError s n owner).bus = s.bus ∧ (State.descError s n owner).free = s.free := by
  generalize hr : State.descError s n owner = r
  simp only [State.descError] at hr
  repeat' split at hr
  all_goals (subst hr; (simp only [and_self, (fact @State.failAny_keep), (fact @State.feedCtxs_keep), (fact @State.recordHw_calm), sevDebug, sevInfo, sevNotice, sevWarning, sevError, sevCritical, ne_eq, Nat.reduceEqDiff, not_false_eq_true]))

theorem State.rejected_keep (s : State) (f : Frame) (id : Nat) :
    (State.rejected s f id).pending = s.pending ∧ (State.rejected s f id).time = s.time ∧ (State.rejected s f id).dev = s.dev ∧ (State.rejected s f id).fuses = s.fuses ∧ (State.rejected s f id).params = s.params ∧ (State.rejected s f id).host = s.host ∧ (State.rejected s f id).nvm = s.nvm ∧ (State.rejected s f id).land = s.land ∧ (State.rejected s f id).map = s.map ∧ (State.rejected s f id).media = s.media ∧ (State.rejected s f id).flash = s.flash ∧ (State.rejected s f id).cache = s.cache ∧ (State.rejected s f id).plp = s.plp ∧ (State.rejected s f id).dram = s.dram ∧ (State.rejected s f id).pwr = s.pwr ∧ (State.rejected s f id).sec = s.sec ∧ (State.rejected s f id).mgmt = s.mgmt ∧ (State.rejected s f id).nor = s.nor ∧ (State.rejected s f id).tally = s.tally ∧ (State.rejected s f id).bus = s.bus ∧ (State.rejected s f id).free = s.free := by
  generalize hr : State.rejected s f id = r
  simp only [State.rejected] at hr
  repeat' split at hr
  all_goals (subst hr; (simp only [and_self, (fact @State.naileFail_keep)]))

theorem State.acceptRecord_keep (s : State) :
    (State.acceptRecord s).pending = s.pending ∧ (State.acceptRecord s).time = s.time ∧ (State.acceptRecord s).dev = s.dev ∧ (State.acceptRecord s).fuses = s.fuses ∧ (State.acceptRecord s).host = s.host ∧ (State.acceptRecord s).nvm = s.nvm ∧ (State.acceptRecord s).land = s.land ∧ (State.acceptRecord s).map = s.map ∧ (State.acceptRecord s).media = s.media ∧ (State.acceptRecord s).flash = s.flash ∧ (State.acceptRecord s).cache = s.cache ∧ (State.acceptRecord s).plp = s.plp ∧ (State.acceptRecord s).dram = s.dram ∧ (State.acceptRecord s).pwr = s.pwr ∧ (State.acceptRecord s).sec = s.sec ∧ (State.acceptRecord s).naile = s.naile ∧ (State.acceptRecord s).nor = s.nor ∧ (State.acceptRecord s).tally = s.tally ∧ (State.acceptRecord s).bus = s.bus ∧ (State.acceptRecord s).free = s.free := by
  generalize hr : State.acceptRecord s = r
  simp only [State.acceptRecord] at hr
  repeat' split at hr
  all_goals (subst hr; (simp only [and_self, (fact @State.journal_keep)]))

def Quiet3 (f : State → State) : Prop := ∀ s, (f s).pending = s.pending ∧ (f s).time = s.time ∧ (f s).free = s.free
theorem State.runAction_keep2 (s : State) (f : Frame) (id v : Nat) (a : Action) (ha : Quiet3 a.act) (hn : Quiet3 a.noted) :
    (s.runAction f id v a).pending = s.pending ∧ (s.runAction f id v a).time = s.time ∧ (s.runAction f id v a).free = s.free := by
  simp only [Quiet3] at ha hn
  generalize hr : s.runAction f id v a = r
  simp only [State.runAction] at hr
  repeat' split at hr
  all_goals (subst hr; simp only [(fact @State.rejected_keep), (fact @State.naileOk_keep), (fact @State.acceptRecord_keep), ha, hn, and_self])



theorem State.dramUp_keep (s : State) (r : Nat) :
    (State.dramUp s r).pending = s.pending ∧ (State.dramUp s r).time = s.time ∧ (State.dramUp s r).fuses = s.fuses ∧ (State.dramUp s r).params = s.params ∧ (State.dramUp s r).host = s.host ∧ (State.dramUp s r).nvm = s.nvm ∧ (State.dramUp s r).land = s.land ∧ (State.dramUp s r).map = s.map ∧ (State.dramUp s r).media = s.media ∧ (State.dramUp s r).flash = s.flash ∧ (State.dramUp s r).cache = s.cache ∧ (State.dramUp s r).plp = s.plp ∧ (State.dramUp s r).pwr = s.pwr ∧ (State.dramUp s r).sec = s.sec ∧ (State.dramUp s r).mgmt = s.mgmt ∧ (State.dramUp s r).naile = s.naile ∧ (State.dramUp s r).nor = s.nor ∧ (State.dramUp s r).tally = s.tally ∧ (State.dramUp s r).bus = s.bus ∧ (State.dramUp s r).free = s.free := by
  generalize hr : State.dramUp s r = r
  simp only [State.dramUp] at hr
  repeat' split at hr
  all_goals (subst hr; (simp only [and_self]))



theorem State.groupLost_keep (s : State) (q : Nat) (g : CGroup) (lba : Nat) :
    (State.groupLost s q g lba).pending = s.pending ∧ (State.groupLost s q g lba).time = s.time ∧ (State.groupLost s q g lba).dev = s.dev ∧ (State.groupLost s q g lba).fuses = s.fuses ∧ (State.groupLost s q g lba).params = s.params ∧ (State.groupLost s q g lba).map = s.map ∧ (State.groupLost s q g lba).media = s.media ∧ (State.groupLost s q g lba).flash = s.flash ∧ (State.groupLost s q g lba).plp = s.plp ∧ (State.groupLost s q g lba).dram = s.dram ∧ (State.groupLost s q g lba).pwr = s.pwr ∧ (State.groupLost s q g lba).sec = s.sec ∧ (State.groupLost s q g lba).mgmt = s.mgmt ∧ (State.groupLost s q g lba).naile = s.naile ∧ (State.groupLost s q g lba).nor = s.nor ∧ (State.groupLost s q g lba).bus = s.bus ∧ (State.groupLost s q g lba).free = s.free := by
  generalize hr : State.groupLost s q g lba = r
  simp only [State.groupLost] at hr
  repeat' split at hr
  all_goals (subst hr; (simp only [and_self, (fact @State.failWrite_keep), (fact @State.slotLostAt_keep)]))

theorem State.loseSlots_keep (s : State) (slab : Nat) (p : Nat → Bool) : (s.loseSlots slab p).pending = s.pending ∧ (s.loseSlots slab p).time = s.time ∧ (s.loseSlots slab p).dev = s.dev ∧ (s.loseSlots slab p).fuses = s.fuses ∧ (s.loseSlots slab p).params = s.params ∧ (s.loseSlots slab p).map = s.map ∧ (s.loseSlots slab p).dram = s.dram ∧ (s.loseSlots slab p).pwr = s.pwr ∧ (s.loseSlots slab p).sec = s.sec ∧ (s.loseSlots slab p).mgmt = s.mgmt ∧ (s.loseSlots slab p).naile = s.naile ∧ (s.loseSlots slab p).nor = s.nor ∧ (s.loseSlots slab p).bus = s.bus ∧ (s.loseSlots slab p).free = s.free := by
  rw [State.loseSlots]
  simp only [(fact @State.freeGroups_keep)]
  refine ktrans_14 (kfold_14 (fun a l b hb => ?_) _ _) (by and_intros <;> rfl)
  subst hb
  simp only [(fact @State.groupLost_keep), and_self]


theorem State.reloadCounts_keep (s : State) (g : Nat) :
    (State.reloadCounts s g).pending = s.pending ∧ (State.reloadCounts s g).time = s.time ∧ (State.reloadCounts s g).dev = s.dev ∧ (State.reloadCounts s g).fuses = s.fuses ∧ (State.reloadCounts s g).params = s.params ∧ (State.reloadCounts s g).host = s.host ∧ (State.reloadCounts s g).nvm = s.nvm ∧ (State.reloadCounts s g).land = s.land ∧ (State.reloadCounts s g).map = s.map ∧ (State.reloadCounts s g).cache = s.cache ∧ (State.reloadCounts s g).plp = s.plp ∧ (State.reloadCounts s g).dram = s.dram ∧ (State.reloadCounts s g).pwr = s.pwr ∧ (State.reloadCounts s g).sec = s.sec ∧ (State.reloadCounts s g).mgmt = s.mgmt ∧ (State.reloadCounts s g).naile = s.naile ∧ (State.reloadCounts s g).nor = s.nor ∧ (State.reloadCounts s g).tally = s.tally ∧ (State.reloadCounts s g).bus = s.bus ∧ (State.reloadCounts s g).free = s.free := by
  generalize hr : State.reloadCounts s g = r
  simp only [State.reloadCounts] at hr
  repeat' split at hr
  all_goals (subst hr; (first | (simp only [and_self]; done) | (and_intros <;> (repeat' first | (simp only [and_self]; done) | (simp only [and_self]) | (split at hb) | (subst hb; simp only [and_self]) | (refine (foldl_pending (fun _ _ _ hb => ?_) _ _).trans ?_) | (refine (foldl_time (fun _ _ _ hb => ?_) _ _).trans ?_) | (refine (foldl_dev (fun _ _ _ hb => ?_) _ _).trans ?_) | (refine (foldl_fuses (fun _ _ _ hb => ?_) _ _).trans ?_) | (refine (foldl_params (fun _ _ _ hb => ?_) _ _).trans ?_) | (refine (foldl_host (fun _ _ _ hb => ?_) _ _).trans ?_) | (refine (foldl_nvm (fun _ _ _ hb => ?_) _ _).trans ?_) | (refine (foldl_land (fun _ _ _ hb => ?_) _ _).trans ?_) | (refine (foldl_map (fun _ _ _ hb => ?_) _ _).trans ?_) | (refine (foldl_cache (fun _ _ _ hb => ?_) _ _).trans ?_) | (refine (foldl_plp (fun _ _ _ hb => ?_) _ _).trans ?_) | (refine (foldl_dram (fun _ _ _ hb => ?_) _ _).trans ?_) | (refine (foldl_pwr (fun _ _ _ hb => ?_) _ _).trans ?_) | (refine (foldl_sec (fun _ _ _ hb => ?_) _ _).trans ?_) | (refine (foldl_mgmt (fun _ _ _ hb => ?_) _ _).trans ?_) | (refine (foldl_naile (fun _ _ _ hb => ?_) _ _).trans ?_) | (refine (foldl_nor (fun _ _ _ hb => ?_) _ _).trans ?_) | (refine (foldl_tally (fun _ _ _ hb => ?_) _ _).trans ?_) | (refine (foldl_bus (fun _ _ _ hb => ?_) _ _).trans ?_) | (refine (foldl_free (fun _ _ _ hb => ?_) _ _).trans ?_) | split))))

theorem State.mapError_keep (s : State) (sev row g : Nat) : (s.mapError sev row g).pending = s.pending ∧ (s.mapError sev row g).time = s.time ∧ (s.mapError sev row g).fuses = s.fuses ∧ (s.mapError sev row g).params = s.params ∧ (s.mapError sev row g).host = s.host ∧ (s.mapError sev row g).nvm = s.nvm ∧ (s.mapError sev row g).land = s.land ∧ (s.mapError sev row g).map = s.map ∧ (s.mapError sev row g).media = s.media ∧ (s.mapError sev row g).flash = s.flash ∧ (s.mapError sev row g).cache = s.cache ∧ (s.mapError sev row g).plp = s.plp ∧ (s.mapError sev row g).dram = s.dram ∧ (s.mapError sev row g).pwr = s.pwr ∧ (s.mapError sev row g).sec = s.sec ∧ (s.mapError sev row g).bus = s.bus ∧ (s.mapError sev row g).free = s.free := by
  simp only [State.mapError, (fact @State.recordHw_keep), and_self]
theorem State.mapError_calm (s : State) (sev row g : Nat) (h : sev ≠ 6) : (s.mapError sev row g).pending = s.pending ∧ (s.mapError sev row g).time = s.time ∧ (s.mapError sev row g).dev = s.dev ∧ (s.mapError sev row g).fuses = s.fuses ∧ (s.mapError sev row g).params = s.params ∧ (s.mapError sev row g).host = s.host ∧ (s.mapError sev row g).nvm = s.nvm ∧ (s.mapError sev row g).land = s.land ∧ (s.mapError sev row g).map = s.map ∧ (s.mapError sev row g).media = s.media ∧ (s.mapError sev row g).flash = s.flash ∧ (s.mapError sev row g).cache = s.cache ∧ (s.mapError sev row g).plp = s.plp ∧ (s.mapError sev row g).dram = s.dram ∧ (s.mapError sev row g).pwr = s.pwr ∧ (s.mapError sev row g).sec = s.sec ∧ (s.mapError sev row g).mgmt = s.mgmt ∧ (s.mapError sev row g).naile = s.naile ∧ (s.mapError sev row g).nor = s.nor ∧ (s.mapError sev row g).bus = s.bus ∧ (s.mapError sev row g).free = s.free :=
  State.recordHw_calm _ _ _ _ _ _ _ _ h


theorem State.loseWorking_keep (s : State) (c : Nat) :
    (State.loseWorking s c).pending = s.pending ∧ (State.loseWorking s c).time = s.time ∧ (State.loseWorking s c).dev = s.dev ∧ (State.loseWorking s c).fuses = s.fuses ∧ (State.loseWorking s c).params = s.params ∧ (State.loseWorking s c).dram = s.dram ∧ (State.loseWorking s c).pwr = s.pwr ∧ (State.loseWorking s c).sec = s.sec ∧ (State.loseWorking s c).mgmt = s.mgmt ∧ (State.loseWorking s c).naile = s.naile ∧ (State.loseWorking s c).nor = s.nor ∧ (State.loseWorking s c).bus = s.bus ∧ (State.loseWorking s c).free = s.free := by
  generalize hr : State.loseWorking s c = r
  simp only [State.loseWorking] at hr
  repeat' split at hr
  all_goals (subst hr; (simp only [and_self, (fact @State.loseSlots_keep), (fact @State.mapError_calm), (fact @State.reloadCounts_keep), sevDebug, sevInfo, sevNotice, sevWarning, sevError, sevCritical, ne_eq, Nat.reduceEqDiff, not_false_eq_true]))

theorem State.loseLeaf_keep (s : State) (c : Nat) :
    (State.loseLeaf s c).pending = s.pending ∧ (State.loseLeaf s c).time = s.time ∧ (State.loseLeaf s c).dev = s.dev ∧ (State.loseLeaf s c).fuses = s.fuses ∧ (State.loseLeaf s c).params = s.params ∧ (State.loseLeaf s c).host = s.host ∧ (State.loseLeaf s c).nvm = s.nvm ∧ (State.loseLeaf s c).land = s.land ∧ (State.loseLeaf s c).media = s.media ∧ (State.loseLeaf s c).flash = s.flash ∧ (State.loseLeaf s c).cache = s.cache ∧ (State.loseLeaf s c).plp = s.plp ∧ (State.loseLeaf s c).dram = s.dram ∧ (State.loseLeaf s c).pwr = s.pwr ∧ (State.loseLeaf s c).sec = s.sec ∧ (State.loseLeaf s c).mgmt = s.mgmt ∧ (State.loseLeaf s c).naile = s.naile ∧ (State.loseLeaf s c).nor = s.nor ∧ (State.loseLeaf s c).bus = s.bus ∧ (State.loseLeaf s c).free = s.free := by
  generalize hr : State.loseLeaf s c = r
  simp only [State.loseLeaf] at hr
  repeat' split at hr
  all_goals (subst hr; (simp only [and_self, (fact @State.mapError_calm), sevDebug, sevInfo, sevNotice, sevWarning, sevError, sevCritical, ne_eq, Nat.reduceEqDiff, not_false_eq_true]))

theorem State.repairSlab_keep (s : State) (g : Grove) (key : Nat) :
    (State.repairSlab s g key).pending = s.pending ∧ (State.repairSlab s g key).time = s.time ∧ (State.repairSlab s g key).dev = s.dev ∧ (State.repairSlab s g key).fuses = s.fuses ∧ (State.repairSlab s g key).params = s.params ∧ (State.repairSlab s g key).host = s.host ∧ (State.repairSlab s g key).nvm = s.nvm ∧ (State.repairSlab s g key).media = s.media ∧ (State.repairSlab s g key).cache = s.cache ∧ (State.repairSlab s g key).plp = s.plp ∧ (State.repairSlab s g key).dram = s.dram ∧ (State.repairSlab s g key).pwr = s.pwr ∧ (State.repairSlab s g key).sec = s.sec ∧ (State.repairSlab s g key).mgmt = s.mgmt ∧ (State.repairSlab s g key).naile = s.naile ∧ (State.repairSlab s g key).nor = s.nor ∧ (State.repairSlab s g key).tally = s.tally ∧ (State.repairSlab s g key).bus = s.bus ∧ (State.repairSlab s g key).free = s.free := by
  generalize hr : State.repairSlab s g key = r
  simp only [State.repairSlab] at hr
  repeat' split at hr
  all_goals (subst hr; (simp only [and_self, (fact @State.readSlab_keep)]))

theorem State.loseMap_keep (s : State) (c : Nat) :
    (State.loseMap s c).pending = s.pending ∧ (State.loseMap s c).time = s.time ∧ (State.loseMap s c).fuses = s.fuses ∧ (State.loseMap s c).params = s.params ∧ (State.loseMap s c).media = s.media ∧ (State.loseMap s c).cache = s.cache ∧ (State.loseMap s c).plp = s.plp ∧ (State.loseMap s c).dram = s.dram ∧ (State.loseMap s c).pwr = s.pwr ∧ (State.loseMap s c).sec = s.sec ∧ (State.loseMap s c).mgmt = s.mgmt ∧ (State.loseMap s c).naile = s.naile ∧ (State.loseMap s c).nor = s.nor ∧ (State.loseMap s c).bus = s.bus ∧ (State.loseMap s c).free = s.free := by
  generalize hr : State.loseMap s c = r
  simp only [State.loseMap] at hr
  repeat' split at hr
  all_goals (subst hr; (simp only [and_self, (fact @State.mapError_calm), (fact @State.newLeaseKey_keep), (fact @State.repairSlab_keep), sevDebug, sevInfo, sevNotice, sevWarning, sevError, sevCritical, ne_eq, Nat.reduceEqDiff, not_false_eq_true]))

theorem State.loseLine_keep (s : State) (line : Nat) :
    (State.loseLine s line).pending = s.pending ∧ (State.loseLine s line).time = s.time ∧ (State.loseLine s line).fuses = s.fuses ∧ (State.loseLine s line).params = s.params ∧ (State.loseLine s line).dram = s.dram ∧ (State.loseLine s line).pwr = s.pwr ∧ (State.loseLine s line).sec = s.sec ∧ (State.loseLine s line).mgmt = s.mgmt ∧ (State.loseLine s line).naile = s.naile ∧ (State.loseLine s line).nor = s.nor ∧ (State.loseLine s line).bus = s.bus := by
  generalize hr : State.loseLine s line = r
  simp only [State.loseLine] at hr
  repeat' split at hr
  all_goals (subst hr; (simp only [and_self, (fact @State.draw_keep), (fact @State.loseLeaf_keep), (fact @State.loseMap_keep), (fact @State.loseSlots_keep), (fact @State.loseWorking_keep)]))

theorem State.dramLost_keep (s : State) (line : Nat) :
    (State.dramLost s line).pending = s.pending ∧ (State.dramLost s line).time = s.time ∧ (State.dramLost s line).fuses = s.fuses ∧ (State.dramLost s line).params = s.params ∧ (State.dramLost s line).pwr = s.pwr ∧ (State.dramLost s line).sec = s.sec ∧ (State.dramLost s line).mgmt = s.mgmt ∧ (State.dramLost s line).naile = s.naile ∧ (State.dramLost s line).nor = s.nor ∧ (State.dramLost s line).bus = s.bus := by
  generalize hr : State.dramLost s line = r
  simp only [State.dramLost] at hr
  repeat' split at hr
  all_goals (subst hr; (simp only [and_self, (fact @State.loseLine_keep), (fact @State.recordHw_calm), sevDebug, sevInfo, sevNotice, sevWarning, sevError, sevCritical, ne_eq, Nat.reduceEqDiff, not_false_eq_true]))

theorem State.noteCorrection_keep (s : State) (dev : Nat) (row : Nat) :
    (State.noteCorrection s dev row).pending = s.pending ∧ (State.noteCorrection s dev row).time = s.time ∧ (State.noteCorrection s dev row).dev = s.dev ∧ (State.noteCorrection s dev row).fuses = s.fuses ∧ (State.noteCorrection s dev row).params = s.params ∧ (State.noteCorrection s dev row).host = s.host ∧ (State.noteCorrection s dev row).nvm = s.nvm ∧ (State.noteCorrection s dev row).land = s.land ∧ (State.noteCorrection s dev row).map = s.map ∧ (State.noteCorrection s dev row).media = s.media ∧ (State.noteCorrection s dev row).flash = s.flash ∧ (State.noteCorrection s dev row).cache = s.cache ∧ (State.noteCorrection s dev row).plp = s.plp ∧ (State.noteCorrection s dev row).pwr = s.pwr ∧ (State.noteCorrection s dev row).sec = s.sec ∧ (State.noteCorrection s dev row).mgmt = s.mgmt ∧ (State.noteCorrection s dev row).naile = s.naile ∧ (State.noteCorrection s dev row).nor = s.nor ∧ (State.noteCorrection s dev row).bus = s.bus ∧ (State.noteCorrection s dev row).free = s.free := by
  generalize hr : State.noteCorrection s dev row = r
  simp only [State.noteCorrection] at hr
  repeat' split at hr
  all_goals (subst hr; (simp only [and_self, (fact @State.recordHw_calm), sevDebug, sevInfo, sevNotice, sevWarning, sevError, sevCritical, ne_eq, Nat.reduceEqDiff, not_false_eq_true]))

theorem State.spoilLine_keep (s : State) (line : Nat) :
    (State.spoilLine s line).pending = s.pending ∧ (State.spoilLine s line).time = s.time ∧ (State.spoilLine s line).dev = s.dev ∧ (State.spoilLine s line).fuses = s.fuses ∧ (State.spoilLine s line).params = s.params ∧ (State.spoilLine s line).host = s.host ∧ (State.spoilLine s line).nvm = s.nvm ∧ (State.spoilLine s line).land = s.land ∧ (State.spoilLine s line).map = s.map ∧ (State.spoilLine s line).media = s.media ∧ (State.spoilLine s line).flash = s.flash ∧ (State.spoilLine s line).plp = s.plp ∧ (State.spoilLine s line).pwr = s.pwr ∧ (State.spoilLine s line).sec = s.sec ∧ (State.spoilLine s line).mgmt = s.mgmt ∧ (State.spoilLine s line).naile = s.naile ∧ (State.spoilLine s line).nor = s.nor ∧ (State.spoilLine s line).tally = s.tally ∧ (State.spoilLine s line).bus = s.bus := by
  generalize hr : State.spoilLine s line = r
  simp only [State.spoilLine] at hr
  repeat' split at hr
  all_goals (subst hr; (simp only [and_self, (fact @State.draw_keep)]))

theorem State.lineRead_keep (s : State) (line : Nat) (err : BitVec 640) :
    (State.lineRead s line err).pending = s.pending ∧ (State.lineRead s line err).time = s.time ∧ (State.lineRead s line err).fuses = s.fuses ∧ (State.lineRead s line err).params = s.params ∧ (State.lineRead s line err).pwr = s.pwr ∧ (State.lineRead s line err).sec = s.sec ∧ (State.lineRead s line err).mgmt = s.mgmt ∧ (State.lineRead s line err).naile = s.naile ∧ (State.lineRead s line err).nor = s.nor ∧ (State.lineRead s line err).bus = s.bus := by
  generalize hr : State.lineRead s line err = r
  simp only [State.lineRead] at hr
  repeat' split at hr
  all_goals (subst hr; (simp only [and_self, (fact @State.dramLost_keep), (fact @State.draw_keep), (fact @State.noteCorrection_keep), (fact @State.spoilLine_keep)]))









theorem State.reportDone_keep (s : State) (n : Nat) (notify : Bool) :
    (State.reportDone s n notify).pending = s.pending ∧ (State.reportDone s n notify).time = s.time ∧ (State.reportDone s n notify).dev = s.dev ∧ (State.reportDone s n notify).fuses = s.fuses ∧ (State.reportDone s n notify).params = s.params ∧ (State.reportDone s n notify).host = s.host ∧ (State.reportDone s n notify).nvm = s.nvm ∧ (State.reportDone s n notify).map = s.map ∧ (State.reportDone s n notify).media = s.media ∧ (State.reportDone s n notify).flash = s.flash ∧ (State.reportDone s n notify).cache = s.cache ∧ (State.reportDone s n notify).plp = s.plp ∧ (State.reportDone s n notify).dram = s.dram ∧ (State.reportDone s n notify).pwr = s.pwr ∧ (State.reportDone s n notify).sec = s.sec ∧ (State.reportDone s n notify).mgmt = s.mgmt ∧ (State.reportDone s n notify).naile = s.naile ∧ (State.reportDone s n notify).nor = s.nor ∧ (State.reportDone s n notify).tally = s.tally ∧ (State.reportDone s n notify).bus = s.bus ∧ (State.reportDone s n notify).free = s.free := by
  generalize hr : State.reportDone s n notify = r
  simp only [State.reportDone] at hr
  repeat' split at hr
  all_goals (subst hr; (simp only [and_self]))

theorem State.chainEnds_keep (s : State) (n : Nat) (owner : Option Nat) (ran : Option Nat) (fence : Bool) (notify : Bool) (forward : Bool) :
    (State.chainEnds s n owner ran fence notify forward).pending = s.pending ∧ (State.chainEnds s n owner ran fence notify forward).time = s.time ∧ (State.chainEnds s n owner ran fence notify forward).dev = s.dev ∧ (State.chainEnds s n owner ran fence notify forward).fuses = s.fuses ∧ (State.chainEnds s n owner ran fence notify forward).params = s.params ∧ (State.chainEnds s n owner ran fence notify forward).dram = s.dram ∧ (State.chainEnds s n owner ran fence notify forward).pwr = s.pwr ∧ (State.chainEnds s n owner ran fence notify forward).sec = s.sec ∧ (State.chainEnds s n owner ran fence notify forward).mgmt = s.mgmt ∧ (State.chainEnds s n owner ran fence notify forward).naile = s.naile ∧ (State.chainEnds s n owner ran fence notify forward).nor = s.nor ∧ (State.chainEnds s n owner ran fence notify forward).bus = s.bus ∧ (State.chainEnds s n owner ran fence notify forward).free = s.free := by
  generalize hr : State.chainEnds s n owner ran fence notify forward = r
  simp only [State.chainEnds] at hr
  repeat' split at hr
  all_goals (subst hr; (simp only [and_self, (fact @State.ctxDone_keep), (fact @State.reportDone_keep)]))

theorem State.readErrors_keep (s : State) (p : ParityEvent) :
    (State.readErrors s p).pending = s.pending ∧ (State.readErrors s p).time = s.time ∧ (State.readErrors s p).fuses = s.fuses ∧ (State.readErrors s p).params = s.params ∧ (State.readErrors s p).pwr = s.pwr ∧ (State.readErrors s p).sec = s.sec ∧ (State.readErrors s p).mgmt = s.mgmt ∧ (State.readErrors s p).naile = s.naile ∧ (State.readErrors s p).nor = s.nor ∧ (State.readErrors s p).bus = s.bus := by
  generalize hr : State.readErrors s p = r
  simp only [State.readErrors] at hr
  repeat' split at hr
  all_goals (subst hr; (simp only [and_self, (fact @State.lineRead_keep)]))


theorem State.tokenAt_keep (s : State) (n : Nat) :
    (State.tokenAt s n).pending = s.pending ∧ (State.tokenAt s n).time = s.time ∧ (State.tokenAt s n).dev = s.dev ∧ (State.tokenAt s n).fuses = s.fuses ∧ (State.tokenAt s n).params = s.params ∧ (State.tokenAt s n).dram = s.dram ∧ (State.tokenAt s n).pwr = s.pwr ∧ (State.tokenAt s n).sec = s.sec ∧ (State.tokenAt s n).mgmt = s.mgmt ∧ (State.tokenAt s n).naile = s.naile ∧ (State.tokenAt s n).nor = s.nor ∧ (State.tokenAt s n).bus = s.bus ∧ (State.tokenAt s n).free = s.free := by
  generalize hr : State.tokenAt s n = r
  simp only [State.tokenAt] at hr
  repeat' split at hr
  all_goals (subst hr; (simp only [and_self, (fact @State.ctxDone_keep), (fact @State.reportDone_keep)]))


theorem State.sealPage_keep (s : State) (lpn : Nat) :
    (State.sealPage s lpn).pending = s.pending ∧ (State.sealPage s lpn).time = s.time ∧ (State.sealPage s lpn).dev = s.dev ∧ (State.sealPage s lpn).fuses = s.fuses ∧ (State.sealPage s lpn).params = s.params ∧ (State.sealPage s lpn).host = s.host ∧ (State.sealPage s lpn).nvm = s.nvm ∧ (State.sealPage s lpn).map = s.map ∧ (State.sealPage s lpn).media = s.media ∧ (State.sealPage s lpn).flash = s.flash ∧ (State.sealPage s lpn).cache = s.cache ∧ (State.sealPage s lpn).plp = s.plp ∧ (State.sealPage s lpn).dram = s.dram ∧ (State.sealPage s lpn).pwr = s.pwr ∧ (State.sealPage s lpn).sec = s.sec ∧ (State.sealPage s lpn).mgmt = s.mgmt ∧ (State.sealPage s lpn).naile = s.naile ∧ (State.sealPage s lpn).nor = s.nor ∧ (State.sealPage s lpn).tally = s.tally ∧ (State.sealPage s lpn).bus = s.bus ∧ (State.sealPage s lpn).free = s.free := by
  generalize hr : State.sealPage s lpn = r
  simp only [State.sealPage] at hr
  repeat' split at hr
  all_goals (subst hr; (simp only [and_self]))



theorem State.aer_keep (s : State) (c : Nat) (a : AerLog) :
    (State.aer s c a).pending = s.pending ∧ (State.aer s c a).time = s.time ∧ (State.aer s c a).dev = s.dev ∧ (State.aer s c a).fuses = s.fuses ∧ (State.aer s c a).params = s.params ∧ (State.aer s c a).nvm = s.nvm ∧ (State.aer s c a).land = s.land ∧ (State.aer s c a).map = s.map ∧ (State.aer s c a).media = s.media ∧ (State.aer s c a).flash = s.flash ∧ (State.aer s c a).cache = s.cache ∧ (State.aer s c a).plp = s.plp ∧ (State.aer s c a).dram = s.dram ∧ (State.aer s c a).pwr = s.pwr ∧ (State.aer s c a).sec = s.sec ∧ (State.aer s c a).mgmt = s.mgmt ∧ (State.aer s c a).naile = s.naile ∧ (State.aer s c a).nor = s.nor ∧ (State.aer s c a).tally = s.tally ∧ (State.aer s c a).bus = s.bus ∧ (State.aer s c a).free = s.free := by
  generalize hr : State.aer s c a = r
  simp only [State.aer] at hr
  repeat' split at hr
  all_goals (subst hr; (simp only [and_self]))

theorem State.discardLease_keep (s : State) (p : Port) (lpn : Nat) :
    (State.discardLease s p lpn).pending = s.pending ∧ (State.discardLease s p lpn).time = s.time ∧ (State.discardLease s p lpn).dev = s.dev ∧ (State.discardLease s p lpn).fuses = s.fuses ∧ (State.discardLease s p lpn).params = s.params ∧ (State.discardLease s p lpn).host = s.host ∧ (State.discardLease s p lpn).media = s.media ∧ (State.discardLease s p lpn).cache = s.cache ∧ (State.discardLease s p lpn).plp = s.plp ∧ (State.discardLease s p lpn).dram = s.dram ∧ (State.discardLease s p lpn).pwr = s.pwr ∧ (State.discardLease s p lpn).sec = s.sec ∧ (State.discardLease s p lpn).mgmt = s.mgmt ∧ (State.discardLease s p lpn).naile = s.naile ∧ (State.discardLease s p lpn).nor = s.nor ∧ (State.discardLease s p lpn).bus = s.bus ∧ (State.discardLease s p lpn).free = s.free := by
  generalize hr : State.discardLease s p lpn = r
  simp only [State.discardLease] at hr
  repeat' split at hr
  all_goals (subst hr; (simp only [and_self, (fact @State.freeCords_keep), (fact @State.readLeaf_keep), (fact @State.recordHw_calm), sevDebug, sevInfo, sevNotice, sevWarning, sevError, sevCritical, ne_eq, Nat.reduceEqDiff, not_false_eq_true]))

theorem State.hostTagFails_keep (s : State) (tag : Nat) (r : HostRead) (a : AerLog) :
    (State.hostTagFails s tag r a).pending = s.pending ∧ (State.hostTagFails s tag r a).time = s.time ∧ (State.hostTagFails s tag r a).dev = s.dev ∧ (State.hostTagFails s tag r a).fuses = s.fuses ∧ (State.hostTagFails s tag r a).params = s.params ∧ (State.hostTagFails s tag r a).media = s.media ∧ (State.hostTagFails s tag r a).flash = s.flash ∧ (State.hostTagFails s tag r a).plp = s.plp ∧ (State.hostTagFails s tag r a).dram = s.dram ∧ (State.hostTagFails s tag r a).pwr = s.pwr ∧ (State.hostTagFails s tag r a).sec = s.sec ∧ (State.hostTagFails s tag r a).mgmt = s.mgmt ∧ (State.hostTagFails s tag r a).naile = s.naile ∧ (State.hostTagFails s tag r a).nor = s.nor ∧ (State.hostTagFails s tag r a).bus = s.bus ∧ (State.hostTagFails s tag r a).free = s.free := by
  generalize hr : State.hostTagFails s tag r a = r
  simp only [State.hostTagFails] at hr
  repeat' split at hr
  all_goals (subst hr; (simp only [and_self, (fact @State.aer_keep), (fact @State.failAny_keep)]))

theorem State.cfsOf_keep (s : State) (c : Cntl) :
    (State.cfsOf s c).pending = s.pending ∧ (State.cfsOf s c).time = s.time ∧ (State.cfsOf s c).dev = s.dev ∧ (State.cfsOf s c).fuses = s.fuses ∧ (State.cfsOf s c).params = s.params ∧ (State.cfsOf s c).nvm = s.nvm ∧ (State.cfsOf s c).land = s.land ∧ (State.cfsOf s c).map = s.map ∧ (State.cfsOf s c).media = s.media ∧ (State.cfsOf s c).flash = s.flash ∧ (State.cfsOf s c).cache = s.cache ∧ (State.cfsOf s c).plp = s.plp ∧ (State.cfsOf s c).dram = s.dram ∧ (State.cfsOf s c).pwr = s.pwr ∧ (State.cfsOf s c).sec = s.sec ∧ (State.cfsOf s c).mgmt = s.mgmt ∧ (State.cfsOf s c).naile = s.naile ∧ (State.cfsOf s c).nor = s.nor ∧ (State.cfsOf s c).tally = s.tally ∧ (State.cfsOf s c).bus = s.bus ∧ (State.cfsOf s c).free = s.free := by
  generalize hr : State.cfsOf s c = r
  simp only [State.cfsOf] at hr
  repeat' split at hr
  all_goals (subst hr; (simp only [and_self]))

theorem State.hostReadFails_keep (s : State) (r : HostRead) (a : AerLog) :
    (State.hostReadFails s r a).pending = s.pending ∧ (State.hostReadFails s r a).time = s.time ∧ (State.hostReadFails s r a).dev = s.dev ∧ (State.hostReadFails s r a).fuses = s.fuses ∧ (State.hostReadFails s r a).params = s.params ∧ (State.hostReadFails s r a).media = s.media ∧ (State.hostReadFails s r a).plp = s.plp ∧ (State.hostReadFails s r a).dram = s.dram ∧ (State.hostReadFails s r a).pwr = s.pwr ∧ (State.hostReadFails s r a).sec = s.sec ∧ (State.hostReadFails s r a).mgmt = s.mgmt ∧ (State.hostReadFails s r a).naile = s.naile ∧ (State.hostReadFails s r a).nor = s.nor ∧ (State.hostReadFails s r a).bus = s.bus ∧ (State.hostReadFails s r a).free = s.free := by
  generalize hr : State.hostReadFails s r a = r
  simp only [State.hostReadFails] at hr
  repeat' split at hr
  all_goals (subst hr; (simp only [and_self, (fact @State.aer_keep), (fact @State.cfsOf_keep), (fact @State.discardLease_keep), (fact @State.hostTagFails_keep)]))






theorem State.beginCompare_keep (s : State) (tag : Nat) (t : TagE) (f : RwFields) :
    (State.beginCompare s tag t f).pending = s.pending ∧ (State.beginCompare s tag t f).time = s.time ∧ (State.beginCompare s tag t f).dev = s.dev ∧ (State.beginCompare s tag t f).fuses = s.fuses ∧ (State.beginCompare s tag t f).params = s.params ∧ (State.beginCompare s tag t f).plp = s.plp ∧ (State.beginCompare s tag t f).dram = s.dram ∧ (State.beginCompare s tag t f).pwr = s.pwr ∧ (State.beginCompare s tag t f).sec = s.sec ∧ (State.beginCompare s tag t f).mgmt = s.mgmt ∧ (State.beginCompare s tag t f).naile = s.naile ∧ (State.beginCompare s tag t f).nor = s.nor ∧ (State.beginCompare s tag t f).bus = s.bus ∧ (State.beginCompare s tag t f).free = s.free := by
  generalize hr : State.beginCompare s tag t f = r
  simp only [State.beginCompare] at hr
  repeat' split at hr
  all_goals (subst hr; (simp only [and_self, (fact @State.askTag_keep), (fact @State.continueRead_keep), (fact @State.modTag_keep)]))













theorem State.opKeys_keep (s : State) (o : SlicedOp) :
    (State.opKeys s o).pending = s.pending ∧ (State.opKeys s o).time = s.time ∧ (State.opKeys s o).dev = s.dev ∧ (State.opKeys s o).fuses = s.fuses ∧ (State.opKeys s o).params = s.params ∧ (State.opKeys s o).host = s.host ∧ (State.opKeys s o).land = s.land ∧ (State.opKeys s o).map = s.map ∧ (State.opKeys s o).media = s.media ∧ (State.opKeys s o).flash = s.flash ∧ (State.opKeys s o).cache = s.cache ∧ (State.opKeys s o).plp = s.plp ∧ (State.opKeys s o).dram = s.dram ∧ (State.opKeys s o).pwr = s.pwr ∧ (State.opKeys s o).sec = s.sec ∧ (State.opKeys s o).mgmt = s.mgmt ∧ (State.opKeys s o).naile = s.naile ∧ (State.opKeys s o).nor = s.nor ∧ (State.opKeys s o).tally = s.tally ∧ (State.opKeys s o).bus = s.bus ∧ (State.opKeys s o).free = s.free := by
  generalize hr : State.opKeys s o = r
  simp only [State.opKeys] at hr
  repeat' split at hr
  all_goals (subst hr; (first | (simp only [and_self]; done) | (and_intros <;> (repeat' first | (simp only [and_self]; done) | (simp only [and_self]) | (split at hb) | (subst hb; simp only [and_self]) | (refine (foldl_pending (fun _ _ _ hb => ?_) _ _).trans ?_) | (refine (foldl_time (fun _ _ _ hb => ?_) _ _).trans ?_) | (refine (foldl_dev (fun _ _ _ hb => ?_) _ _).trans ?_) | (refine (foldl_fuses (fun _ _ _ hb => ?_) _ _).trans ?_) | (refine (foldl_params (fun _ _ _ hb => ?_) _ _).trans ?_) | (refine (foldl_host (fun _ _ _ hb => ?_) _ _).trans ?_) | (refine (foldl_land (fun _ _ _ hb => ?_) _ _).trans ?_) | (refine (foldl_map (fun _ _ _ hb => ?_) _ _).trans ?_) | (refine (foldl_media (fun _ _ _ hb => ?_) _ _).trans ?_) | (refine (foldl_flash (fun _ _ _ hb => ?_) _ _).trans ?_) | (refine (foldl_cache (fun _ _ _ hb => ?_) _ _).trans ?_) | (refine (foldl_plp (fun _ _ _ hb => ?_) _ _).trans ?_) | (refine (foldl_dram (fun _ _ _ hb => ?_) _ _).trans ?_) | (refine (foldl_pwr (fun _ _ _ hb => ?_) _ _).trans ?_) | (refine (foldl_sec (fun _ _ _ hb => ?_) _ _).trans ?_) | (refine (foldl_mgmt (fun _ _ _ hb => ?_) _ _).trans ?_) | (refine (foldl_naile (fun _ _ _ hb => ?_) _ _).trans ?_) | (refine (foldl_nor (fun _ _ _ hb => ?_) _ _).trans ?_) | (refine (foldl_tally (fun _ _ _ hb => ?_) _ _).trans ?_) | (refine (foldl_bus (fun _ _ _ hb => ?_) _ _).trans ?_) | (refine (foldl_free (fun _ _ _ hb => ?_) _ _).trans ?_) | split))))

theorem State.opCache_keep (s : State) (o : SlicedOp) :
    (State.opCache s o).pending = s.pending ∧ (State.opCache s o).time = s.time ∧ (State.opCache s o).dev = s.dev ∧ (State.opCache s o).fuses = s.fuses ∧ (State.opCache s o).params = s.params ∧ (State.opCache s o).host = s.host ∧ (State.opCache s o).nvm = s.nvm ∧ (State.opCache s o).land = s.land ∧ (State.opCache s o).map = s.map ∧ (State.opCache s o).media = s.media ∧ (State.opCache s o).flash = s.flash ∧ (State.opCache s o).plp = s.plp ∧ (State.opCache s o).dram = s.dram ∧ (State.opCache s o).pwr = s.pwr ∧ (State.opCache s o).sec = s.sec ∧ (State.opCache s o).mgmt = s.mgmt ∧ (State.opCache s o).naile = s.naile ∧ (State.opCache s o).nor = s.nor ∧ (State.opCache s o).tally = s.tally ∧ (State.opCache s o).bus = s.bus ∧ (State.opCache s o).free = s.free := by
  generalize hr : State.opCache s o = r
  simp only [State.opCache] at hr
  repeat' split at hr
  all_goals (subst hr; (first | (simp only [and_self]; done) | (and_intros <;> (repeat' first | (simp only [and_self]; done) | (simp only [and_self]) | (split at hb) | (subst hb; simp only [and_self]) | (refine (foldl_pending (fun _ _ _ hb => ?_) _ _).trans ?_) | (refine (foldl_time (fun _ _ _ hb => ?_) _ _).trans ?_) | (refine (foldl_dev (fun _ _ _ hb => ?_) _ _).trans ?_) | (refine (foldl_fuses (fun _ _ _ hb => ?_) _ _).trans ?_) | (refine (foldl_params (fun _ _ _ hb => ?_) _ _).trans ?_) | (refine (foldl_host (fun _ _ _ hb => ?_) _ _).trans ?_) | (refine (foldl_nvm (fun _ _ _ hb => ?_) _ _).trans ?_) | (refine (foldl_land (fun _ _ _ hb => ?_) _ _).trans ?_) | (refine (foldl_map (fun _ _ _ hb => ?_) _ _).trans ?_) | (refine (foldl_media (fun _ _ _ hb => ?_) _ _).trans ?_) | (refine (foldl_flash (fun _ _ _ hb => ?_) _ _).trans ?_) | (refine (foldl_plp (fun _ _ _ hb => ?_) _ _).trans ?_) | (refine (foldl_dram (fun _ _ _ hb => ?_) _ _).trans ?_) | (refine (foldl_pwr (fun _ _ _ hb => ?_) _ _).trans ?_) | (refine (foldl_sec (fun _ _ _ hb => ?_) _ _).trans ?_) | (refine (foldl_mgmt (fun _ _ _ hb => ?_) _ _).trans ?_) | (refine (foldl_naile (fun _ _ _ hb => ?_) _ _).trans ?_) | (refine (foldl_nor (fun _ _ _ hb => ?_) _ _).trans ?_) | (refine (foldl_tally (fun _ _ _ hb => ?_) _ _).trans ?_) | (refine (foldl_bus (fun _ _ _ hb => ?_) _ _).trans ?_) | (refine (foldl_free (fun _ _ _ hb => ?_) _ _).trans ?_) | split))))

theorem State.dropPlacement_keep (s : State) : (s.dropPlacement).pending = s.pending ∧ (s.dropPlacement).time = s.time ∧ (s.dropPlacement).dev = s.dev ∧ (s.dropPlacement).fuses = s.fuses ∧ (s.dropPlacement).params = s.params ∧ (s.dropPlacement).host = s.host ∧ (s.dropPlacement).nvm = s.nvm ∧ (s.dropPlacement).plp = s.plp ∧ (s.dropPlacement).dram = s.dram ∧ (s.dropPlacement).pwr = s.pwr ∧ (s.dropPlacement).sec = s.sec ∧ (s.dropPlacement).mgmt = s.mgmt ∧ (s.dropPlacement).naile = s.naile ∧ (s.dropPlacement).nor = s.nor ∧ (s.dropPlacement).bus = s.bus ∧ (s.dropPlacement).free = s.free := by
  generalize hr : s.dropPlacement = r
  unfold State.dropPlacement at hr
  extract_lets s1 s2 x1 at hr
  have h1 : s1.pending = s.pending ∧ s1.time = s.time ∧ s1.dev = s.dev ∧ s1.fuses = s.fuses ∧ s1.params = s.params ∧ s1.host = s.host ∧ s1.nvm = s.nvm ∧ s1.plp = s.plp ∧ s1.dram = s.dram ∧ s1.pwr = s.pwr ∧ s1.sec = s.sec ∧ s1.mgmt = s.mgmt ∧ s1.naile = s.naile ∧ s1.nor = s.nor ∧ s1.bus = s.bus ∧ s1.free = s.free := kfold_2 (fun a n b hb => by subst hb; simp only [(fact @State.abandonSet_keep), and_self]) _ _
  have h2 : s2.pending = s1.pending ∧ s2.time = s1.time ∧ s2.dev = s1.dev ∧ s2.fuses = s1.fuses ∧ s2.params = s1.params ∧ s2.host = s1.host ∧ s2.nvm = s1.nvm ∧ s2.plp = s1.plp ∧ s2.dram = s1.dram ∧ s2.pwr = s1.pwr ∧ s2.sec = s1.sec ∧ s2.mgmt = s1.mgmt ∧ s2.naile = s1.naile ∧ s2.nor = s1.nor ∧ s2.bus = s1.bus ∧ s2.free = s1.free := kfold_2 (fun a d b hb => by
    subst hb
    exact kfold_2 (fun a v b hb => by subst hb; simp only [(fact @State.dropVictim_keep), and_self]) _ _) _ _
  clear_value s1 s2
  subst hr
  exact ktrans_2 (kfold_2 (fun a n b hb => by subst hb; simp only [(fact @State.closeRow_keep), and_self]) _ _) (ktrans_2 (by exact h2) h1)


theorem State.beginErase_keep (s : State) (i : Nat) :
    (State.beginErase s i).pending = s.pending ∧ (State.beginErase s i).time = s.time ∧ (State.beginErase s i).dev = s.dev ∧ (State.beginErase s i).fuses = s.fuses ∧ (State.beginErase s i).params = s.params ∧ (State.beginErase s i).host = s.host ∧ (State.beginErase s i).dram = s.dram ∧ (State.beginErase s i).pwr = s.pwr ∧ (State.beginErase s i).sec = s.sec ∧ (State.beginErase s i).mgmt = s.mgmt ∧ (State.beginErase s i).naile = s.naile ∧ (State.beginErase s i).nor = s.nor ∧ (State.beginErase s i).bus = s.bus ∧ (State.beginErase s i).free = s.free := by
  generalize hr : State.beginErase s i = r
  simp only [State.beginErase] at hr
  repeat' split at hr
  all_goals (subst hr; (simp only [and_self, (fact @State.dropPlacement_keep)]))

theorem State.deallocDone_keep (s : State) (tag : Nat) :
    (State.deallocDone s tag).pending = s.pending ∧ (State.deallocDone s tag).time = s.time ∧ (State.deallocDone s tag).dev = s.dev ∧ (State.deallocDone s tag).fuses = s.fuses ∧ (State.deallocDone s tag).params = s.params ∧ (State.deallocDone s tag).map = s.map ∧ (State.deallocDone s tag).media = s.media ∧ (State.deallocDone s tag).flash = s.flash ∧ (State.deallocDone s tag).cache = s.cache ∧ (State.deallocDone s tag).plp = s.plp ∧ (State.deallocDone s tag).dram = s.dram ∧ (State.deallocDone s tag).pwr = s.pwr ∧ (State.deallocDone s tag).sec = s.sec ∧ (State.deallocDone s tag).mgmt = s.mgmt ∧ (State.deallocDone s tag).naile = s.naile ∧ (State.deallocDone s tag).nor = s.nor ∧ (State.deallocDone s tag).bus = s.bus ∧ (State.deallocDone s tag).free = s.free := by
  generalize hr : State.deallocDone s tag = r
  simp only [State.deallocDone] at hr
  repeat' split at hr
  all_goals (subst hr; (simp only [and_self, (fact @State.complete_keep)]))

theorem State.opComplete_keep (s : State) (o : SlicedOp) :
    (State.opComplete s o).pending = s.pending ∧ (State.opComplete s o).time = s.time ∧ (State.opComplete s o).dev = s.dev ∧ (State.opComplete s o).fuses = s.fuses ∧ (State.opComplete s o).params = s.params ∧ (State.opComplete s o).map = s.map ∧ (State.opComplete s o).media = s.media ∧ (State.opComplete s o).flash = s.flash ∧ (State.opComplete s o).cache = s.cache ∧ (State.opComplete s o).plp = s.plp ∧ (State.opComplete s o).dram = s.dram ∧ (State.opComplete s o).pwr = s.pwr ∧ (State.opComplete s o).sec = s.sec ∧ (State.opComplete s o).mgmt = s.mgmt ∧ (State.opComplete s o).naile = s.naile ∧ (State.opComplete s o).nor = s.nor ∧ (State.opComplete s o).bus = s.bus ∧ (State.opComplete s o).free = s.free := by
  generalize hr : State.opComplete s o = r
  simp only [State.opComplete] at hr
  repeat' split at hr
  all_goals (subst hr; (simp only [and_self, (fact @State.complete_keep)]))

theorem State.freeSomeSegs_keep (s : State) (nsids : List Nat) :
    (State.freeSomeSegs s nsids).pending = s.pending ∧ (State.freeSomeSegs s nsids).time = s.time ∧ (State.freeSomeSegs s nsids).dev = s.dev ∧ (State.freeSomeSegs s nsids).fuses = s.fuses ∧ (State.freeSomeSegs s nsids).params = s.params ∧ (State.freeSomeSegs s nsids).host = s.host ∧ (State.freeSomeSegs s nsids).land = s.land ∧ (State.freeSomeSegs s nsids).media = s.media ∧ (State.freeSomeSegs s nsids).flash = s.flash ∧ (State.freeSomeSegs s nsids).cache = s.cache ∧ (State.freeSomeSegs s nsids).plp = s.plp ∧ (State.freeSomeSegs s nsids).dram = s.dram ∧ (State.freeSomeSegs s nsids).pwr = s.pwr ∧ (State.freeSomeSegs s nsids).sec = s.sec ∧ (State.freeSomeSegs s nsids).mgmt = s.mgmt ∧ (State.freeSomeSegs s nsids).naile = s.naile ∧ (State.freeSomeSegs s nsids).nor = s.nor ∧ (State.freeSomeSegs s nsids).tally = s.tally ∧ (State.freeSomeSegs s nsids).bus = s.bus ∧ (State.freeSomeSegs s nsids).free = s.free := by
  generalize hr : State.freeSomeSegs s nsids = r
  simp only [State.freeSomeSegs] at hr
  repeat' split at hr
  all_goals (subst hr; (simp only [and_self]))

theorem State.freeNs_keep (s : State) (nsid : Nat) :
    (State.freeNs s nsid).pending = s.pending ∧ (State.freeNs s nsid).time = s.time ∧ (State.freeNs s nsid).dev = s.dev ∧ (State.freeNs s nsid).fuses = s.fuses ∧ (State.freeNs s nsid).params = s.params ∧ (State.freeNs s nsid).map = s.map ∧ (State.freeNs s nsid).media = s.media ∧ (State.freeNs s nsid).flash = s.flash ∧ (State.freeNs s nsid).cache = s.cache ∧ (State.freeNs s nsid).plp = s.plp ∧ (State.freeNs s nsid).dram = s.dram ∧ (State.freeNs s nsid).pwr = s.pwr ∧ (State.freeNs s nsid).sec = s.sec ∧ (State.freeNs s nsid).naile = s.naile ∧ (State.freeNs s nsid).nor = s.nor ∧ (State.freeNs s nsid).free = s.free := by
  generalize hr : State.freeNs s nsid = r
  simp only [State.freeNs] at hr
  repeat' split at hr
  all_goals (subst hr; (simp only [and_self, (fact @State.nsChanged_keep)]))

theorem State.sanitizeEnds_keep (s : State) (o : SlicedOp) :
    (State.sanitizeEnds s o).pending = s.pending ∧ (State.sanitizeEnds s o).time = s.time ∧ (State.sanitizeEnds s o).dev = s.dev ∧ (State.sanitizeEnds s o).fuses = s.fuses ∧ (State.sanitizeEnds s o).params = s.params ∧ (State.sanitizeEnds s o).map = s.map ∧ (State.sanitizeEnds s o).media = s.media ∧ (State.sanitizeEnds s o).flash = s.flash ∧ (State.sanitizeEnds s o).cache = s.cache ∧ (State.sanitizeEnds s o).plp = s.plp ∧ (State.sanitizeEnds s o).dram = s.dram ∧ (State.sanitizeEnds s o).pwr = s.pwr ∧ (State.sanitizeEnds s o).sec = s.sec ∧ (State.sanitizeEnds s o).naile = s.naile ∧ (State.sanitizeEnds s o).nor = s.nor ∧ (State.sanitizeEnds s o).bus = s.bus ∧ (State.sanitizeEnds s o).free = s.free := by
  generalize hr : State.sanitizeEnds s o = r
  simp only [State.sanitizeEnds] at hr
  repeat' split at hr
  all_goals (subst hr; (simp only [and_self, (fact @State.raiseEvent_keep)]))

theorem State.endOp_keep (s : State) (i : Nat) (o : SlicedOp) :
    (State.endOp s i o).pending = s.pending ∧ (State.endOp s i o).time = s.time ∧ (State.endOp s i o).dev = s.dev ∧ (State.endOp s i o).fuses = s.fuses ∧ (State.endOp s i o).params = s.params ∧ (State.endOp s i o).map = s.map ∧ (State.endOp s i o).flash = s.flash ∧ (State.endOp s i o).cache = s.cache ∧ (State.endOp s i o).plp = s.plp ∧ (State.endOp s i o).dram = s.dram ∧ (State.endOp s i o).pwr = s.pwr ∧ (State.endOp s i o).sec = s.sec ∧ (State.endOp s i o).naile = s.naile ∧ (State.endOp s i o).nor = s.nor ∧ (State.endOp s i o).free = s.free := by
  generalize hr : State.endOp s i o = r
  simp only [State.endOp] at hr
  repeat' split at hr
  all_goals (subst hr; (first | (simp only [and_self, (fact @State.deallocDone_keep), (fact @State.freeNs_keep), (fact @State.journal_keep), (fact @State.opComplete_keep), (fact @State.recheckSpare_keep), (fact @State.sanitizeEnds_keep)]; done) | (and_intros <;> (repeat' first | (simp only [and_self, (fact @State.deallocDone_keep), (fact @State.freeNs_keep), (fact @State.journal_keep), (fact @State.opComplete_keep), (fact @State.recheckSpare_keep), (fact @State.sanitizeEnds_keep)]; done) | (simp only [and_self, (fact @State.deallocDone_keep), (fact @State.freeNs_keep), (fact @State.journal_keep), (fact @State.opComplete_keep), (fact @State.recheckSpare_keep), (fact @State.sanitizeEnds_keep)]) | (split at hb) | (subst hb; simp only [and_self, (fact @State.deallocDone_keep), (fact @State.freeNs_keep), (fact @State.journal_keep), (fact @State.opComplete_keep), (fact @State.recheckSpare_keep), (fact @State.sanitizeEnds_keep)]) | (refine (foldl_pending (fun _ _ _ hb => ?_) _ _).trans ?_) | (refine (foldl_time (fun _ _ _ hb => ?_) _ _).trans ?_) | (refine (foldl_dev (fun _ _ _ hb => ?_) _ _).trans ?_) | (refine (foldl_fuses (fun _ _ _ hb => ?_) _ _).trans ?_) | (refine (foldl_params (fun _ _ _ hb => ?_) _ _).trans ?_) | (refine (foldl_map (fun _ _ _ hb => ?_) _ _).trans ?_) | (refine (foldl_flash (fun _ _ _ hb => ?_) _ _).trans ?_) | (refine (foldl_cache (fun _ _ _ hb => ?_) _ _).trans ?_) | (refine (foldl_plp (fun _ _ _ hb => ?_) _ _).trans ?_) | (refine (foldl_dram (fun _ _ _ hb => ?_) _ _).trans ?_) | (refine (foldl_pwr (fun _ _ _ hb => ?_) _ _).trans ?_) | (refine (foldl_sec (fun _ _ _ hb => ?_) _ _).trans ?_) | (refine (foldl_naile (fun _ _ _ hb => ?_) _ _).trans ?_) | (refine (foldl_nor (fun _ _ _ hb => ?_) _ _).trans ?_) | (refine (foldl_free (fun _ _ _ hb => ?_) _ _).trans ?_) | split))))

theorem State.opCheck_keep (s : State) (i : Nat) :
    (State.opCheck s i).pending = s.pending ∧ (State.opCheck s i).time = s.time ∧ (State.opCheck s i).dev = s.dev ∧ (State.opCheck s i).fuses = s.fuses ∧ (State.opCheck s i).params = s.params ∧ (State.opCheck s i).dram = s.dram ∧ (State.opCheck s i).pwr = s.pwr ∧ (State.opCheck s i).sec = s.sec ∧ (State.opCheck s i).naile = s.naile ∧ (State.opCheck s i).nor = s.nor ∧ (State.opCheck s i).free = s.free := by
  generalize hr : State.opCheck s i = r
  simp only [State.opCheck] at hr
  repeat' split at hr
  all_goals (subst hr; (simp only [and_self, (fact @State.beginErase_keep), (fact @State.endOp_keep)]))

theorem State.beginOp_keep (s : State) (i : Nat) (o : SlicedOp) :
    (State.beginOp s i o).pending = s.pending ∧ (State.beginOp s i o).time = s.time ∧ (State.beginOp s i o).dev = s.dev ∧ (State.beginOp s i o).fuses = s.fuses ∧ (State.beginOp s i o).params = s.params ∧ (State.beginOp s i o).dram = s.dram ∧ (State.beginOp s i o).pwr = s.pwr ∧ (State.beginOp s i o).sec = s.sec ∧ (State.beginOp s i o).naile = s.naile ∧ (State.beginOp s i o).nor = s.nor ∧ (State.beginOp s i o).free = s.free := by
  generalize hr : State.beginOp s i o = r
  simp only [State.beginOp] at hr
  repeat' split at hr
  all_goals (subst hr; (simp only [and_self, (fact @State.freeGroups_keep), (fact @State.opCache_keep), (fact @State.opCheck_keep), (fact @State.opKeys_keep)]))

theorem State.commitUnmaps_keep (s : State) (g : Grove) (cs : List GranChange) :
    (State.commitUnmaps s g cs).pending = s.pending ∧ (State.commitUnmaps s g cs).time = s.time ∧ (State.commitUnmaps s g cs).dev = s.dev ∧ (State.commitUnmaps s g cs).fuses = s.fuses ∧ (State.commitUnmaps s g cs).params = s.params ∧ (State.commitUnmaps s g cs).host = s.host ∧ (State.commitUnmaps s g cs).nvm = s.nvm ∧ (State.commitUnmaps s g cs).land = s.land ∧ (State.commitUnmaps s g cs).media = s.media ∧ (State.commitUnmaps s g cs).flash = s.flash ∧ (State.commitUnmaps s g cs).plp = s.plp ∧ (State.commitUnmaps s g cs).dram = s.dram ∧ (State.commitUnmaps s g cs).pwr = s.pwr ∧ (State.commitUnmaps s g cs).sec = s.sec ∧ (State.commitUnmaps s g cs).mgmt = s.mgmt ∧ (State.commitUnmaps s g cs).naile = s.naile ∧ (State.commitUnmaps s g cs).nor = s.nor ∧ (State.commitUnmaps s g cs).bus = s.bus ∧ (State.commitUnmaps s g cs).free = s.free := by
  generalize hr : State.commitUnmaps s g cs = r
  simp only [State.commitUnmaps] at hr
  repeat' split at hr
  all_goals (subst hr; (first | (simp only [and_self, (fact @State.noteBad_keep)]; done) | (and_intros <;> (repeat' first | (simp only [and_self, (fact @State.noteBad_keep)]; done) | (simp only [and_self, (fact @State.noteBad_keep)]) | (split at hb) | (subst hb; simp only [and_self, (fact @State.noteBad_keep)]) | (refine (foldl_pending (fun _ _ _ hb => ?_) _ _).trans ?_) | (refine (foldl_time (fun _ _ _ hb => ?_) _ _).trans ?_) | (refine (foldl_dev (fun _ _ _ hb => ?_) _ _).trans ?_) | (refine (foldl_fuses (fun _ _ _ hb => ?_) _ _).trans ?_) | (refine (foldl_params (fun _ _ _ hb => ?_) _ _).trans ?_) | (refine (foldl_host (fun _ _ _ hb => ?_) _ _).trans ?_) | (refine (foldl_nvm (fun _ _ _ hb => ?_) _ _).trans ?_) | (refine (foldl_land (fun _ _ _ hb => ?_) _ _).trans ?_) | (refine (foldl_media (fun _ _ _ hb => ?_) _ _).trans ?_) | (refine (foldl_flash (fun _ _ _ hb => ?_) _ _).trans ?_) | (refine (foldl_plp (fun _ _ _ hb => ?_) _ _).trans ?_) | (refine (foldl_dram (fun _ _ _ hb => ?_) _ _).trans ?_) | (refine (foldl_pwr (fun _ _ _ hb => ?_) _ _).trans ?_) | (refine (foldl_sec (fun _ _ _ hb => ?_) _ _).trans ?_) | (refine (foldl_mgmt (fun _ _ _ hb => ?_) _ _).trans ?_) | (refine (foldl_naile (fun _ _ _ hb => ?_) _ _).trans ?_) | (refine (foldl_nor (fun _ _ _ hb => ?_) _ _).trans ?_) | (refine (foldl_bus (fun _ _ _ hb => ?_) _ _).trans ?_) | (refine (foldl_free (fun _ _ _ hb => ?_) _ _).trans ?_) | split))))

theorem State.commitEdges_keep (s : State) (i : Nat) (g : Grove) (o : SlicedOp) :
    (State.commitEdges s i g o).pending = s.pending ∧ (State.commitEdges s i g o).time = s.time ∧ (State.commitEdges s i g o).dev = s.dev ∧ (State.commitEdges s i g o).fuses = s.fuses ∧ (State.commitEdges s i g o).params = s.params ∧ (State.commitEdges s i g o).dram = s.dram ∧ (State.commitEdges s i g o).pwr = s.pwr ∧ (State.commitEdges s i g o).sec = s.sec ∧ (State.commitEdges s i g o).naile = s.naile ∧ (State.commitEdges s i g o).nor = s.nor ∧ (State.commitEdges s i g o).free = s.free := by
  generalize hr : State.commitEdges s i g o = r
  simp only [State.commitEdges] at hr
  repeat' split at hr
  all_goals (subst hr; (simp only [and_self, (fact @State.commitUnmaps_keep), (fact @State.freeGroups_keep), (fact @State.opCheck_keep)]))

theorem State.commitRange_keep (s : State) (i : Nat) (g : Grove) :
    (State.commitRange s i g).pending = s.pending ∧ (State.commitRange s i g).time = s.time ∧ (State.commitRange s i g).dev = s.dev ∧ (State.commitRange s i g).fuses = s.fuses ∧ (State.commitRange s i g).params = s.params ∧ (State.commitRange s i g).dram = s.dram ∧ (State.commitRange s i g).pwr = s.pwr ∧ (State.commitRange s i g).sec = s.sec ∧ (State.commitRange s i g).naile = s.naile ∧ (State.commitRange s i g).nor = s.nor ∧ (State.commitRange s i g).free = s.free := by
  generalize hr : State.commitRange s i g = r
  simp only [State.commitRange] at hr
  repeat' split at hr
  all_goals (subst hr; (first | (simp only [and_self, (fact @State.freeGroups_keep), (fact @State.opCheck_keep)]; done) | (and_intros <;> (repeat' first | (simp only [and_self, (fact @State.freeGroups_keep), (fact @State.opCheck_keep)]; done) | (simp only [and_self, (fact @State.freeGroups_keep), (fact @State.opCheck_keep)]) | (split at hb) | (subst hb; simp only [and_self, (fact @State.freeGroups_keep), (fact @State.opCheck_keep)]) | (refine (foldl_pending (fun _ _ _ hb => ?_) _ _).trans ?_) | (refine (foldl_time (fun _ _ _ hb => ?_) _ _).trans ?_) | (refine (foldl_dev (fun _ _ _ hb => ?_) _ _).trans ?_) | (refine (foldl_fuses (fun _ _ _ hb => ?_) _ _).trans ?_) | (refine (foldl_params (fun _ _ _ hb => ?_) _ _).trans ?_) | (refine (foldl_dram (fun _ _ _ hb => ?_) _ _).trans ?_) | (refine (foldl_pwr (fun _ _ _ hb => ?_) _ _).trans ?_) | (refine (foldl_sec (fun _ _ _ hb => ?_) _ _).trans ?_) | (refine (foldl_naile (fun _ _ _ hb => ?_) _ _).trans ?_) | (refine (foldl_nor (fun _ _ _ hb => ?_) _ _).trans ?_) | (refine (foldl_free (fun _ _ _ hb => ?_) _ _).trans ?_) | split))))

theorem State.commitSlice_keep (s : State) (i : Nat) (g : Grove) :
    (State.commitSlice s i g).pending = s.pending ∧ (State.commitSlice s i g).time = s.time ∧ (State.commitSlice s i g).dev = s.dev ∧ (State.commitSlice s i g).fuses = s.fuses ∧ (State.commitSlice s i g).params = s.params ∧ (State.commitSlice s i g).dram = s.dram ∧ (State.commitSlice s i g).pwr = s.pwr ∧ (State.commitSlice s i g).sec = s.sec ∧ (State.commitSlice s i g).naile = s.naile ∧ (State.commitSlice s i g).nor = s.nor ∧ (State.commitSlice s i g).free = s.free := by
  generalize hr : State.commitSlice s i g = r
  simp only [State.commitSlice] at hr
  repeat' split at hr
  all_goals (subst hr; (simp only [and_self, (fact @State.commitEdges_keep), (fact @State.commitRange_keep), (fact @State.sliceEnds_keep)]))

theorem State.segSlice_keep (s : State) (i : Nat) (g : Grove) (o : SlicedOp) :
    (State.segSlice s i g o).pending = s.pending ∧ (State.segSlice s i g o).time = s.time ∧ (State.segSlice s i g o).dev = s.dev ∧ (State.segSlice s i g o).fuses = s.fuses ∧ (State.segSlice s i g o).params = s.params ∧ (State.segSlice s i g o).dram = s.dram ∧ (State.segSlice s i g o).pwr = s.pwr ∧ (State.segSlice s i g o).sec = s.sec ∧ (State.segSlice s i g o).naile = s.naile ∧ (State.segSlice s i g o).nor = s.nor ∧ (State.segSlice s i g o).free = s.free := by
  generalize hr : State.segSlice s i g o = r
  simp only [State.segSlice] at hr
  repeat' split at hr
  all_goals (subst hr; (simp only [and_self, (fact @State.freeSomeSegs_keep), (fact @State.opCheck_keep), (fact @State.sliceEnds_keep)]))

theorem State.eraseSlice_keep (s : State) (i : Nat) (g : Grove) (o : SlicedOp) :
    (State.eraseSlice s i g o).pending = s.pending ∧ (State.eraseSlice s i g o).time = s.time ∧ (State.eraseSlice s i g o).dev = s.dev ∧ (State.eraseSlice s i g o).fuses = s.fuses ∧ (State.eraseSlice s i g o).params = s.params ∧ (State.eraseSlice s i g o).dram = s.dram ∧ (State.eraseSlice s i g o).pwr = s.pwr ∧ (State.eraseSlice s i g o).sec = s.sec ∧ (State.eraseSlice s i g o).naile = s.naile ∧ (State.eraseSlice s i g o).nor = s.nor ∧ (State.eraseSlice s i g o).free = s.free := by
  generalize hr : State.eraseSlice s i g o = r
  simp only [State.eraseSlice] at hr
  repeat' split at hr
  all_goals (subst hr; (simp only [and_self, (fact @State.opCheck_keep), (fact @State.sliceEnds_keep)]))



theorem State.leaseXfer_keep (s : State) (p : Port) (lpn : Nat) (slot : Nat) (reads : Bool) :
    (State.leaseXfer s p lpn slot reads).pending = s.pending ∧ (State.leaseXfer s p lpn slot reads).time = s.time ∧ (State.leaseXfer s p lpn slot reads).dev = s.dev ∧ (State.leaseXfer s p lpn slot reads).fuses = s.fuses ∧ (State.leaseXfer s p lpn slot reads).params = s.params ∧ (State.leaseXfer s p lpn slot reads).host = s.host ∧ (State.leaseXfer s p lpn slot reads).nvm = s.nvm ∧ (State.leaseXfer s p lpn slot reads).map = s.map ∧ (State.leaseXfer s p lpn slot reads).media = s.media ∧ (State.leaseXfer s p lpn slot reads).flash = s.flash ∧ (State.leaseXfer s p lpn slot reads).cache = s.cache ∧ (State.leaseXfer s p lpn slot reads).plp = s.plp ∧ (State.leaseXfer s p lpn slot reads).dram = s.dram ∧ (State.leaseXfer s p lpn slot reads).pwr = s.pwr ∧ (State.leaseXfer s p lpn slot reads).sec = s.sec ∧ (State.leaseXfer s p lpn slot reads).mgmt = s.mgmt ∧ (State.leaseXfer s p lpn slot reads).naile = s.naile ∧ (State.leaseXfer s p lpn slot reads).nor = s.nor ∧ (State.leaseXfer s p lpn slot reads).tally = s.tally ∧ (State.leaseXfer s p lpn slot reads).bus = s.bus ∧ (State.leaseXfer s p lpn slot reads).free = s.free := by
  generalize hr : State.leaseXfer s p lpn slot reads = r
  simp only [State.leaseXfer] at hr
  repeat' split at hr
  all_goals (subst hr; (simp only [and_self, (fact @State.askCords_keep)]))

theorem State.writeBack_keep (s : State) (lpn : Nat) (g : LeafPage) :
    (State.writeBack s lpn g).pending = s.pending ∧ (State.writeBack s lpn g).time = s.time ∧ (State.writeBack s lpn g).fuses = s.fuses ∧ (State.writeBack s lpn g).params = s.params ∧ (State.writeBack s lpn g).media = s.media ∧ (State.writeBack s lpn g).cache = s.cache ∧ (State.writeBack s lpn g).plp = s.plp ∧ (State.writeBack s lpn g).dram = s.dram ∧ (State.writeBack s lpn g).pwr = s.pwr ∧ (State.writeBack s lpn g).sec = s.sec ∧ (State.writeBack s lpn g).mgmt = s.mgmt ∧ (State.writeBack s lpn g).naile = s.naile ∧ (State.writeBack s lpn g).nor = s.nor ∧ (State.writeBack s lpn g).bus = s.bus ∧ (State.writeBack s lpn g).free = s.free := by
  generalize hr : State.writeBack s lpn g = r
  simp only [State.writeBack] at hr
  repeat' split at hr
  all_goals (subst hr; (simp only [and_self, (fact @State.leaseXfer_keep), (fact @State.newLeaseKey_keep), (fact @State.sealPage_keep)]))

theorem State.evictOne_keep (s : State) :
    (State.evictOne s).pending = s.pending ∧ (State.evictOne s).time = s.time ∧ (State.evictOne s).fuses = s.fuses ∧ (State.evictOne s).params = s.params ∧ (State.evictOne s).media = s.media ∧ (State.evictOne s).cache = s.cache ∧ (State.evictOne s).plp = s.plp ∧ (State.evictOne s).dram = s.dram ∧ (State.evictOne s).pwr = s.pwr ∧ (State.evictOne s).sec = s.sec ∧ (State.evictOne s).mgmt = s.mgmt ∧ (State.evictOne s).naile = s.naile ∧ (State.evictOne s).nor = s.nor ∧ (State.evictOne s).bus = s.bus := by
  generalize hr : State.evictOne s = r
  simp only [State.evictOne] at hr
  repeat' split at hr
  all_goals (subst hr; (simp only [and_self, (fact @State.draw_keep), (fact @State.writeBack_keep)]))

theorem State.serveMiss_keep (s : State) (lpn : Nat) (p : Port) (g : LeafPage) :
    (State.serveMiss s lpn p g).pending = s.pending ∧ (State.serveMiss s lpn p g).time = s.time ∧ (State.serveMiss s lpn p g).dev = s.dev ∧ (State.serveMiss s lpn p g).fuses = s.fuses ∧ (State.serveMiss s lpn p g).params = s.params ∧ (State.serveMiss s lpn p g).host = s.host ∧ (State.serveMiss s lpn p g).media = s.media ∧ (State.serveMiss s lpn p g).cache = s.cache ∧ (State.serveMiss s lpn p g).plp = s.plp ∧ (State.serveMiss s lpn p g).dram = s.dram ∧ (State.serveMiss s lpn p g).pwr = s.pwr ∧ (State.serveMiss s lpn p g).sec = s.sec ∧ (State.serveMiss s lpn p g).mgmt = s.mgmt ∧ (State.serveMiss s lpn p g).naile = s.naile ∧ (State.serveMiss s lpn p g).nor = s.nor ∧ (State.serveMiss s lpn p g).tally = s.tally ∧ (State.serveMiss s lpn p g).bus = s.bus ∧ (State.serveMiss s lpn p g).free = s.free := by
  generalize hr : State.serveMiss s lpn p g = r
  simp only [State.serveMiss] at hr
  repeat' split at hr
  all_goals (subst hr; (simp only [and_self, (fact @State.leaseXfer_keep), (fact @State.readLeaf_keep)]))

theorem State.writeBackDone_keep (s : State) (p : Port) (w : Nat × Nat × Nat) :
    (State.writeBackDone s p w).pending = s.pending ∧ (State.writeBackDone s p w).time = s.time ∧ (State.writeBackDone s p w).dev = s.dev ∧ (State.writeBackDone s p w).fuses = s.fuses ∧ (State.writeBackDone s p w).params = s.params ∧ (State.writeBackDone s p w).host = s.host ∧ (State.writeBackDone s p w).media = s.media ∧ (State.writeBackDone s p w).flash = s.flash ∧ (State.writeBackDone s p w).cache = s.cache ∧ (State.writeBackDone s p w).plp = s.plp ∧ (State.writeBackDone s p w).dram = s.dram ∧ (State.writeBackDone s p w).pwr = s.pwr ∧ (State.writeBackDone s p w).sec = s.sec ∧ (State.writeBackDone s p w).mgmt = s.mgmt ∧ (State.writeBackDone s p w).naile = s.naile ∧ (State.writeBackDone s p w).nor = s.nor ∧ (State.writeBackDone s p w).bus = s.bus ∧ (State.writeBackDone s p w).free = s.free := by
  generalize hr : State.writeBackDone s p w = r
  simp only [State.writeBackDone] at hr
  repeat' split at hr
  all_goals (subst hr; (simp only [and_self, (fact @State.freeCords_keep)]))

theorem State.fetchOk_keep (s : State) (p : Port) (lpn : Nat) :
    (State.fetchOk s p lpn).pending = s.pending ∧ (State.fetchOk s p lpn).time = s.time ∧ (State.fetchOk s p lpn).dev = s.dev ∧ (State.fetchOk s p lpn).fuses = s.fuses ∧ (State.fetchOk s p lpn).params = s.params ∧ (State.fetchOk s p lpn).plp = s.plp ∧ (State.fetchOk s p lpn).dram = s.dram ∧ (State.fetchOk s p lpn).pwr = s.pwr ∧ (State.fetchOk s p lpn).sec = s.sec ∧ (State.fetchOk s p lpn).mgmt = s.mgmt ∧ (State.fetchOk s p lpn).naile = s.naile ∧ (State.fetchOk s p lpn).nor = s.nor ∧ (State.fetchOk s p lpn).bus = s.bus ∧ (State.fetchOk s p lpn).free = s.free := by
  generalize hr : State.fetchOk s p lpn = r
  simp only [State.fetchOk] at hr
  repeat' split at hr
  all_goals (subst hr; (simp only [and_self, (fact @State.freeCords_keep), (fact @State.resumeReads_keep)]))

theorem State.fetchStale_keep (s : State) (p : Port) (lpn : Nat) :
    (State.fetchStale s p lpn).pending = s.pending ∧ (State.fetchStale s p lpn).time = s.time ∧ (State.fetchStale s p lpn).dev = s.dev ∧ (State.fetchStale s p lpn).fuses = s.fuses ∧ (State.fetchStale s p lpn).params = s.params ∧ (State.fetchStale s p lpn).host = s.host ∧ (State.fetchStale s p lpn).media = s.media ∧ (State.fetchStale s p lpn).cache = s.cache ∧ (State.fetchStale s p lpn).plp = s.plp ∧ (State.fetchStale s p lpn).dram = s.dram ∧ (State.fetchStale s p lpn).pwr = s.pwr ∧ (State.fetchStale s p lpn).sec = s.sec ∧ (State.fetchStale s p lpn).mgmt = s.mgmt ∧ (State.fetchStale s p lpn).naile = s.naile ∧ (State.fetchStale s p lpn).nor = s.nor ∧ (State.fetchStale s p lpn).bus = s.bus ∧ (State.fetchStale s p lpn).free = s.free := by
  generalize hr : State.fetchStale s p lpn = r
  simp only [State.fetchStale] at hr
  repeat' split at hr
  all_goals (subst hr; (simp only [and_self, (fact @State.freeCords_keep), (fact @State.readLeaf_keep)]))

theorem State.endSet_keep (s : State) (n : Nat) :
    (State.endSet s n).pending = s.pending ∧ (State.endSet s n).time = s.time ∧ (State.endSet s n).dev = s.dev ∧ (State.endSet s n).fuses = s.fuses ∧ (State.endSet s n).params = s.params ∧ (State.endSet s n).host = s.host ∧ (State.endSet s n).nvm = s.nvm ∧ (State.endSet s n).land = s.land ∧ (State.endSet s n).map = s.map ∧ (State.endSet s n).flash = s.flash ∧ (State.endSet s n).cache = s.cache ∧ (State.endSet s n).plp = s.plp ∧ (State.endSet s n).dram = s.dram ∧ (State.endSet s n).pwr = s.pwr ∧ (State.endSet s n).sec = s.sec ∧ (State.endSet s n).mgmt = s.mgmt ∧ (State.endSet s n).naile = s.naile ∧ (State.endSet s n).nor = s.nor ∧ (State.endSet s n).tally = s.tally ∧ (State.endSet s n).bus = s.bus ∧ (State.endSet s n).free = s.free := by
  generalize hr : State.endSet s n = r
  simp only [State.endSet] at hr
  repeat' split at hr
  all_goals (subst hr; (simp only [and_self]))

theorem State.commitSet_keep (s : State) (n : Nat) (g : Grove) :
    (State.commitSet s n g).pending = s.pending ∧ (State.commitSet s n g).time = s.time ∧ (State.commitSet s n g).dev = s.dev ∧ (State.commitSet s n g).fuses = s.fuses ∧ (State.commitSet s n g).params = s.params ∧ (State.commitSet s n g).dram = s.dram ∧ (State.commitSet s n g).pwr = s.pwr ∧ (State.commitSet s n g).sec = s.sec ∧ (State.commitSet s n g).mgmt = s.mgmt ∧ (State.commitSet s n g).naile = s.naile ∧ (State.commitSet s n g).nor = s.nor ∧ (State.commitSet s n g).bus = s.bus ∧ (State.commitSet s n g).free = s.free := by
  generalize hr : State.commitSet s n g = r
  simp only [State.commitSet] at hr
  repeat' split at hr
  all_goals (subst hr; (simp only [and_self, (fact @State.endSet_keep), (fact @State.freeGroups_keep), (fact @State.noteBad_keep)]))

theorem State.commitDealloc_keep (s : State) (tag : Option Nat) (g : Grove) (cs : List GranChange) :
    (State.commitDealloc s tag g cs).pending = s.pending ∧ (State.commitDealloc s tag g cs).time = s.time ∧ (State.commitDealloc s tag g cs).dev = s.dev ∧ (State.commitDealloc s tag g cs).fuses = s.fuses ∧ (State.commitDealloc s tag g cs).params = s.params ∧ (State.commitDealloc s tag g cs).dram = s.dram ∧ (State.commitDealloc s tag g cs).pwr = s.pwr ∧ (State.commitDealloc s tag g cs).sec = s.sec ∧ (State.commitDealloc s tag g cs).mgmt = s.mgmt ∧ (State.commitDealloc s tag g cs).naile = s.naile ∧ (State.commitDealloc s tag g cs).nor = s.nor ∧ (State.commitDealloc s tag g cs).bus = s.bus ∧ (State.commitDealloc s tag g cs).free = s.free := by
  generalize hr : State.commitDealloc s tag g cs = r
  simp only [State.commitDealloc] at hr
  repeat' split at hr
  all_goals (subst hr; (simp only [and_self, (fact @State.commitUnmaps_keep), (fact @State.deallocDone_keep), (fact @State.freeGroups_keep), (fact @State.modTag_keep)]))

theorem State.commitCompact_keep (s : State) (g : Grove) (cs : List GranChange) :
    (State.commitCompact s g cs).pending = s.pending ∧ (State.commitCompact s g cs).time = s.time ∧ (State.commitCompact s g cs).dev = s.dev ∧ (State.commitCompact s g cs).fuses = s.fuses ∧ (State.commitCompact s g cs).params = s.params ∧ (State.commitCompact s g cs).host = s.host ∧ (State.commitCompact s g cs).nvm = s.nvm ∧ (State.commitCompact s g cs).land = s.land ∧ (State.commitCompact s g cs).media = s.media ∧ (State.commitCompact s g cs).flash = s.flash ∧ (State.commitCompact s g cs).cache = s.cache ∧ (State.commitCompact s g cs).plp = s.plp ∧ (State.commitCompact s g cs).dram = s.dram ∧ (State.commitCompact s g cs).pwr = s.pwr ∧ (State.commitCompact s g cs).sec = s.sec ∧ (State.commitCompact s g cs).mgmt = s.mgmt ∧ (State.commitCompact s g cs).naile = s.naile ∧ (State.commitCompact s g cs).nor = s.nor ∧ (State.commitCompact s g cs).tally = s.tally ∧ (State.commitCompact s g cs).bus = s.bus ∧ (State.commitCompact s g cs).free = s.free := by
  generalize hr : State.commitCompact s g cs = r
  simp only [State.commitCompact] at hr
  repeat' split at hr
  all_goals (subst hr; (first | (simp only [and_self]; done) | (and_intros <;> (repeat' first | (simp only [and_self]; done) | (simp only [and_self]) | (split at hb) | (subst hb; simp only [and_self]) | (refine (foldl_pending (fun _ _ _ hb => ?_) _ _).trans ?_) | (refine (foldl_time (fun _ _ _ hb => ?_) _ _).trans ?_) | (refine (foldl_dev (fun _ _ _ hb => ?_) _ _).trans ?_) | (refine (foldl_fuses (fun _ _ _ hb => ?_) _ _).trans ?_) | (refine (foldl_params (fun _ _ _ hb => ?_) _ _).trans ?_) | (refine (foldl_host (fun _ _ _ hb => ?_) _ _).trans ?_) | (refine (foldl_nvm (fun _ _ _ hb => ?_) _ _).trans ?_) | (refine (foldl_land (fun _ _ _ hb => ?_) _ _).trans ?_) | (refine (foldl_media (fun _ _ _ hb => ?_) _ _).trans ?_) | (refine (foldl_flash (fun _ _ _ hb => ?_) _ _).trans ?_) | (refine (foldl_cache (fun _ _ _ hb => ?_) _ _).trans ?_) | (refine (foldl_plp (fun _ _ _ hb => ?_) _ _).trans ?_) | (refine (foldl_dram (fun _ _ _ hb => ?_) _ _).trans ?_) | (refine (foldl_pwr (fun _ _ _ hb => ?_) _ _).trans ?_) | (refine (foldl_sec (fun _ _ _ hb => ?_) _ _).trans ?_) | (refine (foldl_mgmt (fun _ _ _ hb => ?_) _ _).trans ?_) | (refine (foldl_naile (fun _ _ _ hb => ?_) _ _).trans ?_) | (refine (foldl_nor (fun _ _ _ hb => ?_) _ _).trans ?_) | (refine (foldl_tally (fun _ _ _ hb => ?_) _ _).trans ?_) | (refine (foldl_bus (fun _ _ _ hb => ?_) _ _).trans ?_) | (refine (foldl_free (fun _ _ _ hb => ?_) _ _).trans ?_) | split))))

theorem State.recordsDone_keep (s : State) (tag : Nat) (rs : List JRec) :
    (State.recordsDone s tag rs).pending = s.pending ∧ (State.recordsDone s tag rs).time = s.time ∧ (State.recordsDone s tag rs).dev = s.dev ∧ (State.recordsDone s tag rs).fuses = s.fuses ∧ (State.recordsDone s tag rs).params = s.params ∧ (State.recordsDone s tag rs).map = s.map ∧ (State.recordsDone s tag rs).flash = s.flash ∧ (State.recordsDone s tag rs).cache = s.cache ∧ (State.recordsDone s tag rs).plp = s.plp ∧ (State.recordsDone s tag rs).dram = s.dram ∧ (State.recordsDone s tag rs).pwr = s.pwr ∧ (State.recordsDone s tag rs).sec = s.sec ∧ (State.recordsDone s tag rs).mgmt = s.mgmt ∧ (State.recordsDone s tag rs).naile = s.naile ∧ (State.recordsDone s tag rs).nor = s.nor ∧ (State.recordsDone s tag rs).bus = s.bus ∧ (State.recordsDone s tag rs).free = s.free := by
  generalize hr : State.recordsDone s tag rs = r
  simp only [State.recordsDone] at hr
  repeat' split at hr
  all_goals (subst hr; (simp only [and_self, (fact @State.complete_keep), (fact @State.recheckSpare_keep)]))

theorem State.commitGroup_keep (s : State) (g : Grove) (x : CommitGroup) :
    (State.commitGroup s g x).pending = s.pending ∧ (State.commitGroup s g x).time = s.time ∧ (State.commitGroup s g x).dev = s.dev ∧ (State.commitGroup s g x).fuses = s.fuses ∧ (State.commitGroup s g x).params = s.params ∧ (State.commitGroup s g x).dram = s.dram ∧ (State.commitGroup s g x).pwr = s.pwr ∧ (State.commitGroup s g x).sec = s.sec ∧ (State.commitGroup s g x).naile = s.naile ∧ (State.commitGroup s g x).nor = s.nor ∧ (State.commitGroup s g x).free = s.free := by
  generalize hr : State.commitGroup s g x = r
  simp only [State.commitGroup] at hr
  repeat' split at hr
  all_goals (subst hr; (simp only [and_self, (fact @State.commitCompact_keep), (fact @State.commitDealloc_keep), (fact @State.commitSet_keep), (fact @State.commitSlice_keep), (fact @State.lostRepaired_keep), (fact @State.modTag_keep), (fact @State.noteBad_keep), (fact @State.recordsDone_keep)]))

theorem State.startCompact_keep (s : State) (g : Grove) :
    (State.startCompact s g).pending = s.pending ∧ (State.startCompact s g).time = s.time ∧ (State.startCompact s g).fuses = s.fuses ∧ (State.startCompact s g).params = s.params ∧ (State.startCompact s g).media = s.media ∧ (State.startCompact s g).cache = s.cache ∧ (State.startCompact s g).plp = s.plp ∧ (State.startCompact s g).dram = s.dram ∧ (State.startCompact s g).pwr = s.pwr ∧ (State.startCompact s g).sec = s.sec ∧ (State.startCompact s g).mgmt = s.mgmt ∧ (State.startCompact s g).naile = s.naile ∧ (State.startCompact s g).nor = s.nor ∧ (State.startCompact s g).bus = s.bus := by
  generalize hr : State.startCompact s g = r
  simp only [State.startCompact] at hr
  repeat' split at hr
  all_goals (subst hr; (simp only [and_self, (fact @State.evictOne_keep), (fact @State.queueGroup_keep), (fact @State.readLeaf_keep)]))

theorem State.placeUnit_keep (s : State) (g : Grove) (kind : Nat) (id : Nat) :
    (State.placeUnit s g kind id).pending = s.pending ∧ (State.placeUnit s g kind id).time = s.time ∧ (State.placeUnit s g kind id).dev = s.dev ∧ (State.placeUnit s g kind id).fuses = s.fuses ∧ (State.placeUnit s g kind id).params = s.params ∧ (State.placeUnit s g kind id).host = s.host ∧ (State.placeUnit s g kind id).nvm = s.nvm ∧ (State.placeUnit s g kind id).cache = s.cache ∧ (State.placeUnit s g kind id).plp = s.plp ∧ (State.placeUnit s g kind id).dram = s.dram ∧ (State.placeUnit s g kind id).pwr = s.pwr ∧ (State.placeUnit s g kind id).sec = s.sec ∧ (State.placeUnit s g kind id).mgmt = s.mgmt ∧ (State.placeUnit s g kind id).naile = s.naile ∧ (State.placeUnit s g kind id).nor = s.nor ∧ (State.placeUnit s g kind id).tally = s.tally ∧ (State.placeUnit s g kind id).bus = s.bus ∧ (State.placeUnit s g kind id).free = s.free := by
  generalize hr : State.placeUnit s g kind id = r
  simp only [State.placeUnit] at hr
  repeat' split at hr
  all_goals (subst hr; (simp only [and_self, (fact @State.beginSet_keep), (fact @State.startIfReady_keep), (fact @State.startSet_keep)]))

theorem State.startSpill_keep (s : State) (g : Grove) :
    (State.startSpill s g).pending = s.pending ∧ (State.startSpill s g).time = s.time ∧ (State.startSpill s g).dev = s.dev ∧ (State.startSpill s g).fuses = s.fuses ∧ (State.startSpill s g).params = s.params ∧ (State.startSpill s g).host = s.host ∧ (State.startSpill s g).nvm = s.nvm ∧ (State.startSpill s g).land = s.land ∧ (State.startSpill s g).media = s.media ∧ (State.startSpill s g).flash = s.flash ∧ (State.startSpill s g).cache = s.cache ∧ (State.startSpill s g).plp = s.plp ∧ (State.startSpill s g).dram = s.dram ∧ (State.startSpill s g).pwr = s.pwr ∧ (State.startSpill s g).sec = s.sec ∧ (State.startSpill s g).mgmt = s.mgmt ∧ (State.startSpill s g).naile = s.naile ∧ (State.startSpill s g).nor = s.nor ∧ (State.startSpill s g).tally = s.tally ∧ (State.startSpill s g).bus = s.bus ∧ (State.startSpill s g).free = s.free := by
  generalize hr : State.startSpill s g = r
  simp only [State.startSpill] at hr
  repeat' split at hr
  all_goals (subst hr; (simp only [and_self]))

theorem feedSpill_keep (g : Grove) (n : Nat) (s : State) : (feedSpill g n s).pending = s.pending ∧ (feedSpill g n s).time = s.time ∧ (feedSpill g n s).dev = s.dev ∧ (feedSpill g n s).fuses = s.fuses ∧ (feedSpill g n s).params = s.params ∧ (feedSpill g n s).host = s.host ∧ (feedSpill g n s).nvm = s.nvm ∧ (feedSpill g n s).cache = s.cache ∧ (feedSpill g n s).plp = s.plp ∧ (feedSpill g n s).dram = s.dram ∧ (feedSpill g n s).pwr = s.pwr ∧ (feedSpill g n s).sec = s.sec ∧ (feedSpill g n s).mgmt = s.mgmt ∧ (feedSpill g n s).naile = s.naile ∧ (feedSpill g n s).nor = s.nor ∧ (feedSpill g n s).tally = s.tally ∧ (feedSpill g n s).bus = s.bus ∧ (feedSpill g n s).free = s.free := by
  induction n generalizing s with
  | zero => (and_intros <;> rfl)
  | succ n ih =>
    generalize hr : feedSpill g (n + 1) s = r
    rw [feedSpill] at hr
    split at hr
    · subst hr; (and_intros <;> rfl)
    · dsimp only at hr
      split at hr
      all_goals (subst hr; simp only [ih, (fact @State.placeUnit_keep), and_self])


theorem State.spill_keep (s : State) (g : Grove) : (s.spill g).pending = s.pending ∧ (s.spill g).time = s.time ∧ (s.spill g).dev = s.dev ∧ (s.spill g).fuses = s.fuses ∧ (s.spill g).params = s.params ∧ (s.spill g).host = s.host ∧ (s.spill g).nvm = s.nvm ∧ (s.spill g).cache = s.cache ∧ (s.spill g).plp = s.plp ∧ (s.spill g).dram = s.dram ∧ (s.spill g).pwr = s.pwr ∧ (s.spill g).sec = s.sec ∧ (s.spill g).mgmt = s.mgmt ∧ (s.spill g).naile = s.naile ∧ (s.spill g).nor = s.nor ∧ (s.spill g).tally = s.tally ∧ (s.spill g).bus = s.bus ∧ (s.spill g).free = s.free := by
  rw [State.spill]
  split <;> simp only [(fact @feedSpill_keep), (fact @State.startSpill_keep), and_self]


theorem State.genEnd_keep (s : State) (g : Grove) (start : Qword) (root : Ploc) :
    (State.genEnd s g start root).pending = s.pending ∧ (State.genEnd s g start root).time = s.time ∧ (State.genEnd s g start root).dev = s.dev ∧ (State.genEnd s g start root).fuses = s.fuses ∧ (State.genEnd s g start root).params = s.params ∧ (State.genEnd s g start root).host = s.host ∧ (State.genEnd s g start root).nvm = s.nvm ∧ (State.genEnd s g start root).land = s.land ∧ (State.genEnd s g start root).flash = s.flash ∧ (State.genEnd s g start root).cache = s.cache ∧ (State.genEnd s g start root).plp = s.plp ∧ (State.genEnd s g start root).dram = s.dram ∧ (State.genEnd s g start root).pwr = s.pwr ∧ (State.genEnd s g start root).sec = s.sec ∧ (State.genEnd s g start root).mgmt = s.mgmt ∧ (State.genEnd s g start root).naile = s.naile ∧ (State.genEnd s g start root).nor = s.nor ∧ (State.genEnd s g start root).tally = s.tally ∧ (State.genEnd s g start root).bus = s.bus ∧ (State.genEnd s g start root).free = s.free := by
  generalize hr : State.genEnd s g start root = r
  simp only [State.genEnd] at hr
  repeat' split at hr
  all_goals (subst hr; (simp only [and_self, (fact @State.beginWear_keep)]))

theorem State.replayRec_keep (s : State) (g : Grove) (r : JRec) :
    (State.replayRec s g r).pending = s.pending ∧ (State.replayRec s g r).time = s.time ∧ (State.replayRec s g r).dev = s.dev ∧ (State.replayRec s g r).fuses = s.fuses ∧ (State.replayRec s g r).params = s.params ∧ (State.replayRec s g r).host = s.host ∧ (State.replayRec s g r).nvm = s.nvm ∧ (State.replayRec s g r).land = s.land ∧ (State.replayRec s g r).media = s.media ∧ (State.replayRec s g r).flash = s.flash ∧ (State.replayRec s g r).cache = s.cache ∧ (State.replayRec s g r).plp = s.plp ∧ (State.replayRec s g r).dram = s.dram ∧ (State.replayRec s g r).pwr = s.pwr ∧ (State.replayRec s g r).sec = s.sec ∧ (State.replayRec s g r).mgmt = s.mgmt ∧ (State.replayRec s g r).naile = s.naile ∧ (State.replayRec s g r).nor = s.nor ∧ (State.replayRec s g r).tally = s.tally ∧ (State.replayRec s g r).bus = s.bus ∧ (State.replayRec s g r).free = s.free := by
  generalize hr : State.replayRec s g r = r
  simp only [State.replayRec] at hr
  repeat' split at hr
  all_goals (subst hr; (simp only [and_self]))

theorem State.coldRebuild_keep (s : State) (g : Grove) (start : Qword) : (s.coldRebuild g start).pending = s.pending ∧ (s.coldRebuild g start).time = s.time ∧ (s.coldRebuild g start).fuses = s.fuses ∧ (s.coldRebuild g start).params = s.params ∧ (s.coldRebuild g start).media = s.media ∧ (s.coldRebuild g start).cache = s.cache ∧ (s.coldRebuild g start).plp = s.plp ∧ (s.coldRebuild g start).dram = s.dram ∧ (s.coldRebuild g start).pwr = s.pwr ∧ (s.coldRebuild g start).sec = s.sec ∧ (s.coldRebuild g start).mgmt = s.mgmt ∧ (s.coldRebuild g start).naile = s.naile ∧ (s.coldRebuild g start).nor = s.nor ∧ (s.coldRebuild g start).bus = s.bus ∧ (s.coldRebuild g start).free = s.free := by
  generalize hr : s.coldRebuild g start = r
  unfold State.coldRebuild at hr
  extract_lets s1 s2 s3 m at hr
  have h1 : s1.pending = s.pending ∧ s1.time = s.time ∧ s1.fuses = s.fuses ∧ s1.params = s.params ∧ s1.media = s.media ∧ s1.cache = s.cache ∧ s1.plp = s.plp ∧ s1.dram = s.dram ∧ s1.pwr = s.pwr ∧ s1.sec = s.sec ∧ s1.mgmt = s.mgmt ∧ s1.naile = s.naile ∧ s1.nor = s.nor ∧ s1.bus = s.bus ∧ s1.free = s.free := by
    simp only [s1]
    split <;> simp only [(fact @State.newLeaseKey_keep), and_self]
  have h2 : s2.pending = s1.pending ∧ s2.time = s1.time ∧ s2.fuses = s1.fuses ∧ s2.params = s1.params ∧ s2.media = s1.media ∧ s2.cache = s1.cache ∧ s2.plp = s1.plp ∧ s2.dram = s1.dram ∧ s2.pwr = s1.pwr ∧ s2.sec = s1.sec ∧ s2.mgmt = s1.mgmt ∧ s2.naile = s1.naile ∧ s2.nor = s1.nor ∧ s2.bus = s1.bus ∧ s2.free = s1.free := (by and_intros <;> rfl)
  have h3 : s3.pending = s2.pending ∧ s3.time = s2.time ∧ s3.fuses = s2.fuses ∧ s3.params = s2.params ∧ s3.media = s2.media ∧ s3.cache = s2.cache ∧ s3.plp = s2.plp ∧ s3.dram = s2.dram ∧ s3.pwr = s2.pwr ∧ s3.sec = s2.sec ∧ s3.mgmt = s2.mgmt ∧ s3.naile = s2.naile ∧ s3.nor = s2.nor ∧ s3.bus = s2.bus ∧ s3.free = s2.free := kfold_15 (fun a r b hb => by subst hb; simp only [(fact @State.replayRec_keep), and_self]) _ _
  clear_value s1 s2 s3 m
  subst hr
  exact ktrans_15 (by exact h3) (ktrans_15 h2 h1)


theorem State.warmRebuild_keep (s : State) (g : Grove) :
    (State.warmRebuild s g).pending = s.pending ∧ (State.warmRebuild s g).time = s.time ∧ (State.warmRebuild s g).dev = s.dev ∧ (State.warmRebuild s g).fuses = s.fuses ∧ (State.warmRebuild s g).params = s.params ∧ (State.warmRebuild s g).host = s.host ∧ (State.warmRebuild s g).nvm = s.nvm ∧ (State.warmRebuild s g).land = s.land ∧ (State.warmRebuild s g).media = s.media ∧ (State.warmRebuild s g).flash = s.flash ∧ (State.warmRebuild s g).cache = s.cache ∧ (State.warmRebuild s g).plp = s.plp ∧ (State.warmRebuild s g).dram = s.dram ∧ (State.warmRebuild s g).pwr = s.pwr ∧ (State.warmRebuild s g).sec = s.sec ∧ (State.warmRebuild s g).mgmt = s.mgmt ∧ (State.warmRebuild s g).naile = s.naile ∧ (State.warmRebuild s g).nor = s.nor ∧ (State.warmRebuild s g).tally = s.tally ∧ (State.warmRebuild s g).bus = s.bus ∧ (State.warmRebuild s g).free = s.free := by
  generalize hr : State.warmRebuild s g = r
  simp only [State.warmRebuild] at hr
  repeat' split at hr
  all_goals (subst hr; (first | (simp only [and_self, (fact @State.replayRec_keep)]; done) | (and_intros <;> (repeat' first | (simp only [and_self, (fact @State.replayRec_keep)]; done) | (simp only [and_self, (fact @State.replayRec_keep)]) | (split at hb) | (subst hb; simp only [and_self, (fact @State.replayRec_keep)]) | (refine (foldl_pending (fun _ _ _ hb => ?_) _ _).trans ?_) | (refine (foldl_time (fun _ _ _ hb => ?_) _ _).trans ?_) | (refine (foldl_dev (fun _ _ _ hb => ?_) _ _).trans ?_) | (refine (foldl_fuses (fun _ _ _ hb => ?_) _ _).trans ?_) | (refine (foldl_params (fun _ _ _ hb => ?_) _ _).trans ?_) | (refine (foldl_host (fun _ _ _ hb => ?_) _ _).trans ?_) | (refine (foldl_nvm (fun _ _ _ hb => ?_) _ _).trans ?_) | (refine (foldl_land (fun _ _ _ hb => ?_) _ _).trans ?_) | (refine (foldl_media (fun _ _ _ hb => ?_) _ _).trans ?_) | (refine (foldl_flash (fun _ _ _ hb => ?_) _ _).trans ?_) | (refine (foldl_cache (fun _ _ _ hb => ?_) _ _).trans ?_) | (refine (foldl_plp (fun _ _ _ hb => ?_) _ _).trans ?_) | (refine (foldl_dram (fun _ _ _ hb => ?_) _ _).trans ?_) | (refine (foldl_pwr (fun _ _ _ hb => ?_) _ _).trans ?_) | (refine (foldl_sec (fun _ _ _ hb => ?_) _ _).trans ?_) | (refine (foldl_mgmt (fun _ _ _ hb => ?_) _ _).trans ?_) | (refine (foldl_naile (fun _ _ _ hb => ?_) _ _).trans ?_) | (refine (foldl_nor (fun _ _ _ hb => ?_) _ _).trans ?_) | (refine (foldl_tally (fun _ _ _ hb => ?_) _ _).trans ?_) | (refine (foldl_bus (fun _ _ _ hb => ?_) _ _).trans ?_) | (refine (foldl_free (fun _ _ _ hb => ?_) _ _).trans ?_) | split))))

theorem State.scanRb_keep (s : State) (rb : Nat) :
    (State.scanRb s rb).pending = s.pending ∧ (State.scanRb s rb).time = s.time ∧ (State.scanRb s rb).dev = s.dev ∧ (State.scanRb s rb).fuses = s.fuses ∧ (State.scanRb s rb).params = s.params ∧ (State.scanRb s rb).host = s.host ∧ (State.scanRb s rb).nvm = s.nvm ∧ (State.scanRb s rb).plp = s.plp ∧ (State.scanRb s rb).dram = s.dram ∧ (State.scanRb s rb).pwr = s.pwr ∧ (State.scanRb s rb).sec = s.sec ∧ (State.scanRb s rb).mgmt = s.mgmt ∧ (State.scanRb s rb).naile = s.naile ∧ (State.scanRb s rb).nor = s.nor ∧ (State.scanRb s rb).bus = s.bus ∧ (State.scanRb s rb).free = s.free := by
  generalize hr : State.scanRb s rb = r
  simp only [State.scanRb] at hr
  repeat' split at hr
  all_goals (subst hr; (simp only [and_self, (fact @State.closeRow_keep), (fact @State.recordHw_calm), sevDebug, sevInfo, sevNotice, sevWarning, sevError, sevCritical, ne_eq, Nat.reduceEqDiff, not_false_eq_true]))

theorem State.checkOpen_keep (s : State) (rb : Nat) :
    (State.checkOpen s rb).pending = s.pending ∧ (State.checkOpen s rb).time = s.time ∧ (State.checkOpen s rb).dev = s.dev ∧ (State.checkOpen s rb).fuses = s.fuses ∧ (State.checkOpen s rb).params = s.params ∧ (State.checkOpen s rb).host = s.host ∧ (State.checkOpen s rb).nvm = s.nvm ∧ (State.checkOpen s rb).map = s.map ∧ (State.checkOpen s rb).media = s.media ∧ (State.checkOpen s rb).cache = s.cache ∧ (State.checkOpen s rb).plp = s.plp ∧ (State.checkOpen s rb).dram = s.dram ∧ (State.checkOpen s rb).pwr = s.pwr ∧ (State.checkOpen s rb).sec = s.sec ∧ (State.checkOpen s rb).mgmt = s.mgmt ∧ (State.checkOpen s rb).naile = s.naile ∧ (State.checkOpen s rb).nor = s.nor ∧ (State.checkOpen s rb).tally = s.tally ∧ (State.checkOpen s rb).bus = s.bus ∧ (State.checkOpen s rb).free = s.free := by
  generalize hr : State.checkOpen s rb = r
  simp only [State.checkOpen] at hr
  repeat' split at hr
  all_goals (subst hr; (first | (simp only [and_self, (fact @State.issueRead_keep)]; done) | (and_intros <;> (repeat' first | (simp only [and_self, (fact @State.issueRead_keep)]; done) | (simp only [and_self, (fact @State.issueRead_keep)]) | (split at hb) | (subst hb; simp only [and_self, (fact @State.issueRead_keep)]) | (refine (foldl_pending (fun _ _ _ hb => ?_) _ _).trans ?_) | (refine (foldl_time (fun _ _ _ hb => ?_) _ _).trans ?_) | (refine (foldl_dev (fun _ _ _ hb => ?_) _ _).trans ?_) | (refine (foldl_fuses (fun _ _ _ hb => ?_) _ _).trans ?_) | (refine (foldl_params (fun _ _ _ hb => ?_) _ _).trans ?_) | (refine (foldl_host (fun _ _ _ hb => ?_) _ _).trans ?_) | (refine (foldl_nvm (fun _ _ _ hb => ?_) _ _).trans ?_) | (refine (foldl_map (fun _ _ _ hb => ?_) _ _).trans ?_) | (refine (foldl_media (fun _ _ _ hb => ?_) _ _).trans ?_) | (refine (foldl_cache (fun _ _ _ hb => ?_) _ _).trans ?_) | (refine (foldl_plp (fun _ _ _ hb => ?_) _ _).trans ?_) | (refine (foldl_dram (fun _ _ _ hb => ?_) _ _).trans ?_) | (refine (foldl_pwr (fun _ _ _ hb => ?_) _ _).trans ?_) | (refine (foldl_sec (fun _ _ _ hb => ?_) _ _).trans ?_) | (refine (foldl_mgmt (fun _ _ _ hb => ?_) _ _).trans ?_) | (refine (foldl_naile (fun _ _ _ hb => ?_) _ _).trans ?_) | (refine (foldl_nor (fun _ _ _ hb => ?_) _ _).trans ?_) | (refine (foldl_tally (fun _ _ _ hb => ?_) _ _).trans ?_) | (refine (foldl_bus (fun _ _ _ hb => ?_) _ _).trans ?_) | (refine (foldl_free (fun _ _ _ hb => ?_) _ _).trans ?_) | split))))

theorem State.finishRetirement_keep (s : State) (bit : Nat) :
    (State.finishRetirement s bit).pending = s.pending ∧ (State.finishRetirement s bit).time = s.time ∧ (State.finishRetirement s bit).dev = s.dev ∧ (State.finishRetirement s bit).fuses = s.fuses ∧ (State.finishRetirement s bit).params = s.params ∧ (State.finishRetirement s bit).host = s.host ∧ (State.finishRetirement s bit).nvm = s.nvm ∧ (State.finishRetirement s bit).land = s.land ∧ (State.finishRetirement s bit).map = s.map ∧ (State.finishRetirement s bit).flash = s.flash ∧ (State.finishRetirement s bit).cache = s.cache ∧ (State.finishRetirement s bit).plp = s.plp ∧ (State.finishRetirement s bit).dram = s.dram ∧ (State.finishRetirement s bit).pwr = s.pwr ∧ (State.finishRetirement s bit).sec = s.sec ∧ (State.finishRetirement s bit).mgmt = s.mgmt ∧ (State.finishRetirement s bit).naile = s.naile ∧ (State.finishRetirement s bit).nor = s.nor ∧ (State.finishRetirement s bit).tally = s.tally ∧ (State.finishRetirement s bit).bus = s.bus ∧ (State.finishRetirement s bit).free = s.free := by
  generalize hr : State.finishRetirement s bit = r
  simp only [State.finishRetirement] at hr
  repeat' split at hr
  all_goals (subst hr; (simp only [and_self]))

theorem State.finishRetirements_keep (s : State) (g : Grove) :
    (State.finishRetirements s g).pending = s.pending ∧ (State.finishRetirements s g).time = s.time ∧ (State.finishRetirements s g).dev = s.dev ∧ (State.finishRetirements s g).fuses = s.fuses ∧ (State.finishRetirements s g).params = s.params ∧ (State.finishRetirements s g).host = s.host ∧ (State.finishRetirements s g).nvm = s.nvm ∧ (State.finishRetirements s g).land = s.land ∧ (State.finishRetirements s g).map = s.map ∧ (State.finishRetirements s g).flash = s.flash ∧ (State.finishRetirements s g).cache = s.cache ∧ (State.finishRetirements s g).plp = s.plp ∧ (State.finishRetirements s g).dram = s.dram ∧ (State.finishRetirements s g).pwr = s.pwr ∧ (State.finishRetirements s g).sec = s.sec ∧ (State.finishRetirements s g).mgmt = s.mgmt ∧ (State.finishRetirements s g).naile = s.naile ∧ (State.finishRetirements s g).nor = s.nor ∧ (State.finishRetirements s g).tally = s.tally ∧ (State.finishRetirements s g).bus = s.bus ∧ (State.finishRetirements s g).free = s.free := by
  generalize hr : State.finishRetirements s g = r
  simp only [State.finishRetirements] at hr
  repeat' split at hr
  all_goals (subst hr; (first | (simp only [and_self, (fact @State.finishRetirement_keep)]; done) | (and_intros <;> (repeat' first | (simp only [and_self, (fact @State.finishRetirement_keep)]; done) | (simp only [and_self, (fact @State.finishRetirement_keep)]) | (split at hb) | (subst hb; simp only [and_self, (fact @State.finishRetirement_keep)]) | (refine (foldl_pending (fun _ _ _ hb => ?_) _ _).trans ?_) | (refine (foldl_time (fun _ _ _ hb => ?_) _ _).trans ?_) | (refine (foldl_dev (fun _ _ _ hb => ?_) _ _).trans ?_) | (refine (foldl_fuses (fun _ _ _ hb => ?_) _ _).trans ?_) | (refine (foldl_params (fun _ _ _ hb => ?_) _ _).trans ?_) | (refine (foldl_host (fun _ _ _ hb => ?_) _ _).trans ?_) | (refine (foldl_nvm (fun _ _ _ hb => ?_) _ _).trans ?_) | (refine (foldl_land (fun _ _ _ hb => ?_) _ _).trans ?_) | (refine (foldl_map (fun _ _ _ hb => ?_) _ _).trans ?_) | (refine (foldl_flash (fun _ _ _ hb => ?_) _ _).trans ?_) | (refine (foldl_cache (fun _ _ _ hb => ?_) _ _).trans ?_) | (refine (foldl_plp (fun _ _ _ hb => ?_) _ _).trans ?_) | (refine (foldl_dram (fun _ _ _ hb => ?_) _ _).trans ?_) | (refine (foldl_pwr (fun _ _ _ hb => ?_) _ _).trans ?_) | (refine (foldl_sec (fun _ _ _ hb => ?_) _ _).trans ?_) | (refine (foldl_mgmt (fun _ _ _ hb => ?_) _ _).trans ?_) | (refine (foldl_naile (fun _ _ _ hb => ?_) _ _).trans ?_) | (refine (foldl_nor (fun _ _ _ hb => ?_) _ _).trans ?_) | (refine (foldl_tally (fun _ _ _ hb => ?_) _ _).trans ?_) | (refine (foldl_bus (fun _ _ _ hb => ?_) _ _).trans ?_) | (refine (foldl_free (fun _ _ _ hb => ?_) _ _).trans ?_) | split))))

theorem State.scanGrove_keep (s : State) (g : Grove) :
    (State.scanGrove s g).pending = s.pending ∧ (State.scanGrove s g).time = s.time ∧ (State.scanGrove s g).dev = s.dev ∧ (State.scanGrove s g).fuses = s.fuses ∧ (State.scanGrove s g).params = s.params ∧ (State.scanGrove s g).host = s.host ∧ (State.scanGrove s g).nvm = s.nvm ∧ (State.scanGrove s g).plp = s.plp ∧ (State.scanGrove s g).dram = s.dram ∧ (State.scanGrove s g).pwr = s.pwr ∧ (State.scanGrove s g).sec = s.sec ∧ (State.scanGrove s g).mgmt = s.mgmt ∧ (State.scanGrove s g).naile = s.naile ∧ (State.scanGrove s g).nor = s.nor ∧ (State.scanGrove s g).bus = s.bus ∧ (State.scanGrove s g).free = s.free := by
  generalize hr : State.scanGrove s g = r
  simp only [State.scanGrove] at hr
  repeat' split at hr
  all_goals (subst hr; (first | (simp only [and_self, (fact @State.checkOpen_keep), (fact @State.retireFew_keep), (fact @State.scanRb_keep)]; done) | (and_intros <;> (repeat' first | (simp only [and_self, (fact @State.checkOpen_keep), (fact @State.retireFew_keep), (fact @State.scanRb_keep)]; done) | (simp only [and_self, (fact @State.checkOpen_keep), (fact @State.retireFew_keep), (fact @State.scanRb_keep)]) | (split at hb) | (subst hb; simp only [and_self, (fact @State.checkOpen_keep), (fact @State.retireFew_keep), (fact @State.scanRb_keep)]) | (refine (foldl_pending (fun _ _ _ hb => ?_) _ _).trans ?_) | (refine (foldl_time (fun _ _ _ hb => ?_) _ _).trans ?_) | (refine (foldl_dev (fun _ _ _ hb => ?_) _ _).trans ?_) | (refine (foldl_fuses (fun _ _ _ hb => ?_) _ _).trans ?_) | (refine (foldl_params (fun _ _ _ hb => ?_) _ _).trans ?_) | (refine (foldl_host (fun _ _ _ hb => ?_) _ _).trans ?_) | (refine (foldl_nvm (fun _ _ _ hb => ?_) _ _).trans ?_) | (refine (foldl_plp (fun _ _ _ hb => ?_) _ _).trans ?_) | (refine (foldl_dram (fun _ _ _ hb => ?_) _ _).trans ?_) | (refine (foldl_pwr (fun _ _ _ hb => ?_) _ _).trans ?_) | (refine (foldl_sec (fun _ _ _ hb => ?_) _ _).trans ?_) | (refine (foldl_mgmt (fun _ _ _ hb => ?_) _ _).trans ?_) | (refine (foldl_naile (fun _ _ _ hb => ?_) _ _).trans ?_) | (refine (foldl_nor (fun _ _ _ hb => ?_) _ _).trans ?_) | (refine (foldl_bus (fun _ _ _ hb => ?_) _ _).trans ?_) | (refine (foldl_free (fun _ _ _ hb => ?_) _ _).trans ?_) | split))))

theorem State.halfReads_keep (s : State) :
    (State.halfReads s).pending = s.pending ∧ (State.halfReads s).time = s.time ∧ (State.halfReads s).dev = s.dev ∧ (State.halfReads s).fuses = s.fuses ∧ (State.halfReads s).params = s.params ∧ (State.halfReads s).host = s.host ∧ (State.halfReads s).nvm = s.nvm ∧ (State.halfReads s).land = s.land ∧ (State.halfReads s).map = s.map ∧ (State.halfReads s).flash = s.flash ∧ (State.halfReads s).cache = s.cache ∧ (State.halfReads s).plp = s.plp ∧ (State.halfReads s).dram = s.dram ∧ (State.halfReads s).pwr = s.pwr ∧ (State.halfReads s).sec = s.sec ∧ (State.halfReads s).mgmt = s.mgmt ∧ (State.halfReads s).naile = s.naile ∧ (State.halfReads s).nor = s.nor ∧ (State.halfReads s).tally = s.tally ∧ (State.halfReads s).bus = s.bus ∧ (State.halfReads s).free = s.free := by
  generalize hr : State.halfReads s = r
  simp only [State.halfReads] at hr
  repeat' split at hr
  all_goals (subst hr; (simp only [and_self]))

theorem State.loseRates_keep (s : State) (g : Grove) (offset : Nat) (bad : List Nat) :
    (State.loseRates s g offset bad).pending = s.pending ∧ (State.loseRates s g offset bad).time = s.time ∧ (State.loseRates s g offset bad).dev = s.dev ∧ (State.loseRates s g offset bad).fuses = s.fuses ∧ (State.loseRates s g offset bad).params = s.params ∧ (State.loseRates s g offset bad).host = s.host ∧ (State.loseRates s g offset bad).nvm = s.nvm ∧ (State.loseRates s g offset bad).land = s.land ∧ (State.loseRates s g offset bad).media = s.media ∧ (State.loseRates s g offset bad).flash = s.flash ∧ (State.loseRates s g offset bad).cache = s.cache ∧ (State.loseRates s g offset bad).plp = s.plp ∧ (State.loseRates s g offset bad).dram = s.dram ∧ (State.loseRates s g offset bad).pwr = s.pwr ∧ (State.loseRates s g offset bad).sec = s.sec ∧ (State.loseRates s g offset bad).mgmt = s.mgmt ∧ (State.loseRates s g offset bad).naile = s.naile ∧ (State.loseRates s g offset bad).nor = s.nor ∧ (State.loseRates s g offset bad).tally = s.tally ∧ (State.loseRates s g offset bad).bus = s.bus ∧ (State.loseRates s g offset bad).free = s.free := by
  generalize hr : State.loseRates s g offset bad = r
  simp only [State.loseRates] at hr
  repeat' split at hr
  all_goals (subst hr; (simp only [and_self, (fact @State.queueChanges_keep)]))

theorem State.repairBitmap_keep (s : State) (g : Grove) (bad : List Nat) (b : Nat × Nat) :
    (State.repairBitmap s g bad b).pending = s.pending ∧ (State.repairBitmap s g bad b).time = s.time ∧ (State.repairBitmap s g bad b).dev = s.dev ∧ (State.repairBitmap s g bad b).fuses = s.fuses ∧ (State.repairBitmap s g bad b).params = s.params ∧ (State.repairBitmap s g bad b).host = s.host ∧ (State.repairBitmap s g bad b).nvm = s.nvm ∧ (State.repairBitmap s g bad b).land = s.land ∧ (State.repairBitmap s g bad b).media = s.media ∧ (State.repairBitmap s g bad b).cache = s.cache ∧ (State.repairBitmap s g bad b).plp = s.plp ∧ (State.repairBitmap s g bad b).dram = s.dram ∧ (State.repairBitmap s g bad b).pwr = s.pwr ∧ (State.repairBitmap s g bad b).sec = s.sec ∧ (State.repairBitmap s g bad b).mgmt = s.mgmt ∧ (State.repairBitmap s g bad b).naile = s.naile ∧ (State.repairBitmap s g bad b).nor = s.nor ∧ (State.repairBitmap s g bad b).bus = s.bus ∧ (State.repairBitmap s g bad b).free = s.free := by
  generalize hr : State.repairBitmap s g bad b = r
  simp only [State.repairBitmap] at hr
  repeat' split at hr
  all_goals (subst hr; (first | (simp only [and_self, (fact @State.loseRates_keep), (fact @State.recordHw_calm), sevDebug, sevInfo, sevNotice, sevWarning, sevError, sevCritical, ne_eq, Nat.reduceEqDiff, not_false_eq_true]; done) | (and_intros <;> (repeat' first | (simp only [and_self, (fact @State.loseRates_keep), (fact @State.recordHw_calm), sevDebug, sevInfo, sevNotice, sevWarning, sevError, sevCritical, ne_eq, Nat.reduceEqDiff, not_false_eq_true]; done) | (simp only [and_self, (fact @State.loseRates_keep), (fact @State.recordHw_calm), sevDebug, sevInfo, sevNotice, sevWarning, sevError, sevCritical, ne_eq, Nat.reduceEqDiff, not_false_eq_true]) | (split at hb) | (subst hb; simp only [and_self, (fact @State.loseRates_keep), (fact @State.recordHw_calm), sevDebug, sevInfo, sevNotice, sevWarning, sevError, sevCritical, ne_eq, Nat.reduceEqDiff, not_false_eq_true]) | (refine (foldl_pending (fun _ _ _ hb => ?_) _ _).trans ?_) | (refine (foldl_time (fun _ _ _ hb => ?_) _ _).trans ?_) | (refine (foldl_dev (fun _ _ _ hb => ?_) _ _).trans ?_) | (refine (foldl_fuses (fun _ _ _ hb => ?_) _ _).trans ?_) | (refine (foldl_params (fun _ _ _ hb => ?_) _ _).trans ?_) | (refine (foldl_host (fun _ _ _ hb => ?_) _ _).trans ?_) | (refine (foldl_nvm (fun _ _ _ hb => ?_) _ _).trans ?_) | (refine (foldl_land (fun _ _ _ hb => ?_) _ _).trans ?_) | (refine (foldl_media (fun _ _ _ hb => ?_) _ _).trans ?_) | (refine (foldl_cache (fun _ _ _ hb => ?_) _ _).trans ?_) | (refine (foldl_plp (fun _ _ _ hb => ?_) _ _).trans ?_) | (refine (foldl_dram (fun _ _ _ hb => ?_) _ _).trans ?_) | (refine (foldl_pwr (fun _ _ _ hb => ?_) _ _).trans ?_) | (refine (foldl_sec (fun _ _ _ hb => ?_) _ _).trans ?_) | (refine (foldl_mgmt (fun _ _ _ hb => ?_) _ _).trans ?_) | (refine (foldl_naile (fun _ _ _ hb => ?_) _ _).trans ?_) | (refine (foldl_nor (fun _ _ _ hb => ?_) _ _).trans ?_) | (refine (foldl_bus (fun _ _ _ hb => ?_) _ _).trans ?_) | (refine (foldl_free (fun _ _ _ hb => ?_) _ _).trans ?_) | split))))

theorem State.formDomains_keep (s : State) (g : Grove) :
    (State.formDomains s g).pending = s.pending ∧ (State.formDomains s g).time = s.time ∧ (State.formDomains s g).dev = s.dev ∧ (State.formDomains s g).fuses = s.fuses ∧ (State.formDomains s g).params = s.params ∧ (State.formDomains s g).host = s.host ∧ (State.formDomains s g).nvm = s.nvm ∧ (State.formDomains s g).land = s.land ∧ (State.formDomains s g).map = s.map ∧ (State.formDomains s g).flash = s.flash ∧ (State.formDomains s g).cache = s.cache ∧ (State.formDomains s g).plp = s.plp ∧ (State.formDomains s g).dram = s.dram ∧ (State.formDomains s g).pwr = s.pwr ∧ (State.formDomains s g).sec = s.sec ∧ (State.formDomains s g).mgmt = s.mgmt ∧ (State.formDomains s g).naile = s.naile ∧ (State.formDomains s g).nor = s.nor ∧ (State.formDomains s g).tally = s.tally ∧ (State.formDomains s g).bus = s.bus ∧ (State.formDomains s g).free = s.free := by
  generalize hr : State.formDomains s g = r
  simp only [State.formDomains] at hr
  repeat' split at hr
  all_goals (subst hr; (first | (simp only [and_self, (fact @State.fillRegion_keep)]; done) | (and_intros <;> (repeat' first | (simp only [and_self, (fact @State.fillRegion_keep)]; done) | (simp only [and_self, (fact @State.fillRegion_keep)]) | (split at hb) | (subst hb; simp only [and_self, (fact @State.fillRegion_keep)]) | (refine (foldl_pending (fun _ _ _ hb => ?_) _ _).trans ?_) | (refine (foldl_time (fun _ _ _ hb => ?_) _ _).trans ?_) | (refine (foldl_dev (fun _ _ _ hb => ?_) _ _).trans ?_) | (refine (foldl_fuses (fun _ _ _ hb => ?_) _ _).trans ?_) | (refine (foldl_params (fun _ _ _ hb => ?_) _ _).trans ?_) | (refine (foldl_host (fun _ _ _ hb => ?_) _ _).trans ?_) | (refine (foldl_nvm (fun _ _ _ hb => ?_) _ _).trans ?_) | (refine (foldl_land (fun _ _ _ hb => ?_) _ _).trans ?_) | (refine (foldl_map (fun _ _ _ hb => ?_) _ _).trans ?_) | (refine (foldl_flash (fun _ _ _ hb => ?_) _ _).trans ?_) | (refine (foldl_cache (fun _ _ _ hb => ?_) _ _).trans ?_) | (refine (foldl_plp (fun _ _ _ hb => ?_) _ _).trans ?_) | (refine (foldl_dram (fun _ _ _ hb => ?_) _ _).trans ?_) | (refine (foldl_pwr (fun _ _ _ hb => ?_) _ _).trans ?_) | (refine (foldl_sec (fun _ _ _ hb => ?_) _ _).trans ?_) | (refine (foldl_mgmt (fun _ _ _ hb => ?_) _ _).trans ?_) | (refine (foldl_naile (fun _ _ _ hb => ?_) _ _).trans ?_) | (refine (foldl_nor (fun _ _ _ hb => ?_) _ _).trans ?_) | (refine (foldl_tally (fun _ _ _ hb => ?_) _ _).trans ?_) | (refine (foldl_bus (fun _ _ _ hb => ?_) _ _).trans ?_) | (refine (foldl_free (fun _ _ _ hb => ?_) _ _).trans ?_) | split))))

theorem State.firstU0_keep (s : State) :
    (State.firstU0 s).pending = s.pending ∧ (State.firstU0 s).time = s.time ∧ (State.firstU0 s).dev = s.dev ∧ (State.firstU0 s).fuses = s.fuses ∧ (State.firstU0 s).params = s.params ∧ (State.firstU0 s).host = s.host ∧ (State.firstU0 s).nvm = s.nvm ∧ (State.firstU0 s).land = s.land ∧ (State.firstU0 s).map = s.map ∧ (State.firstU0 s).flash = s.flash ∧ (State.firstU0 s).cache = s.cache ∧ (State.firstU0 s).plp = s.plp ∧ (State.firstU0 s).dram = s.dram ∧ (State.firstU0 s).pwr = s.pwr ∧ (State.firstU0 s).sec = s.sec ∧ (State.firstU0 s).mgmt = s.mgmt ∧ (State.firstU0 s).naile = s.naile ∧ (State.firstU0 s).nor = s.nor ∧ (State.firstU0 s).tally = s.tally ∧ (State.firstU0 s).bus = s.bus ∧ (State.firstU0 s).free = s.free := by
  generalize hr : State.firstU0 s = r
  simp only [State.firstU0] at hr
  repeat' split at hr
  all_goals (subst hr; (simp only [and_self, (fact @State.setU0_keep)]))

theorem State.regenKey_keep (s : State) (nsid : Nat) (x : NsS) :
    (State.regenKey s nsid x).pending = s.pending ∧ (State.regenKey s nsid x).time = s.time ∧ (State.regenKey s nsid x).dev = s.dev ∧ (State.regenKey s nsid x).fuses = s.fuses ∧ (State.regenKey s nsid x).params = s.params ∧ (State.regenKey s nsid x).host = s.host ∧ (State.regenKey s nsid x).land = s.land ∧ (State.regenKey s nsid x).media = s.media ∧ (State.regenKey s nsid x).flash = s.flash ∧ (State.regenKey s nsid x).cache = s.cache ∧ (State.regenKey s nsid x).plp = s.plp ∧ (State.regenKey s nsid x).dram = s.dram ∧ (State.regenKey s nsid x).pwr = s.pwr ∧ (State.regenKey s nsid x).sec = s.sec ∧ (State.regenKey s nsid x).nor = s.nor ∧ (State.regenKey s nsid x).bus = s.bus ∧ (State.regenKey s nsid x).free = s.free := by
  generalize hr : State.regenKey s nsid x = r
  simp only [State.regenKey] at hr
  repeat' split at hr
  all_goals (subst hr; (first | (simp only [and_self, (fact @State.queueGroup_keep), (fact @State.record_calm), sevDebug, sevInfo, sevNotice, sevWarning, sevError, sevCritical, ne_eq, Nat.reduceEqDiff, not_false_eq_true]; done) | (and_intros <;> (repeat' first | (simp only [and_self, (fact @State.queueGroup_keep), (fact @State.record_calm), sevDebug, sevInfo, sevNotice, sevWarning, sevError, sevCritical, ne_eq, Nat.reduceEqDiff, not_false_eq_true]; done) | (simp only [and_self, (fact @State.queueGroup_keep), (fact @State.record_calm), sevDebug, sevInfo, sevNotice, sevWarning, sevError, sevCritical, ne_eq, Nat.reduceEqDiff, not_false_eq_true]) | (split at hb) | (subst hb; simp only [and_self, (fact @State.queueGroup_keep), (fact @State.record_calm), sevDebug, sevInfo, sevNotice, sevWarning, sevError, sevCritical, ne_eq, Nat.reduceEqDiff, not_false_eq_true]) | (refine (foldl_pending (fun _ _ _ hb => ?_) _ _).trans ?_) | (refine (foldl_time (fun _ _ _ hb => ?_) _ _).trans ?_) | (refine (foldl_dev (fun _ _ _ hb => ?_) _ _).trans ?_) | (refine (foldl_fuses (fun _ _ _ hb => ?_) _ _).trans ?_) | (refine (foldl_params (fun _ _ _ hb => ?_) _ _).trans ?_) | (refine (foldl_host (fun _ _ _ hb => ?_) _ _).trans ?_) | (refine (foldl_land (fun _ _ _ hb => ?_) _ _).trans ?_) | (refine (foldl_media (fun _ _ _ hb => ?_) _ _).trans ?_) | (refine (foldl_flash (fun _ _ _ hb => ?_) _ _).trans ?_) | (refine (foldl_cache (fun _ _ _ hb => ?_) _ _).trans ?_) | (refine (foldl_plp (fun _ _ _ hb => ?_) _ _).trans ?_) | (refine (foldl_dram (fun _ _ _ hb => ?_) _ _).trans ?_) | (refine (foldl_pwr (fun _ _ _ hb => ?_) _ _).trans ?_) | (refine (foldl_sec (fun _ _ _ hb => ?_) _ _).trans ?_) | (refine (foldl_nor (fun _ _ _ hb => ?_) _ _).trans ?_) | (refine (foldl_bus (fun _ _ _ hb => ?_) _ _).trans ?_) | (refine (foldl_free (fun _ _ _ hb => ?_) _ _).trans ?_) | split))))

theorem State.sizeLeafCache_keep (s : State) :
    (State.sizeLeafCache s).pending = s.pending ∧ (State.sizeLeafCache s).time = s.time ∧ (State.sizeLeafCache s).dev = s.dev ∧ (State.sizeLeafCache s).fuses = s.fuses ∧ (State.sizeLeafCache s).params = s.params ∧ (State.sizeLeafCache s).host = s.host ∧ (State.sizeLeafCache s).nvm = s.nvm ∧ (State.sizeLeafCache s).land = s.land ∧ (State.sizeLeafCache s).media = s.media ∧ (State.sizeLeafCache s).flash = s.flash ∧ (State.sizeLeafCache s).cache = s.cache ∧ (State.sizeLeafCache s).plp = s.plp ∧ (State.sizeLeafCache s).dram = s.dram ∧ (State.sizeLeafCache s).pwr = s.pwr ∧ (State.sizeLeafCache s).sec = s.sec ∧ (State.sizeLeafCache s).nor = s.nor ∧ (State.sizeLeafCache s).bus = s.bus ∧ (State.sizeLeafCache s).free = s.free := by
  generalize hr : State.sizeLeafCache s = r
  simp only [State.sizeLeafCache] at hr
  repeat' split at hr
  all_goals (subst hr; (simp only [and_self, (fact @State.record_calm), sevDebug, sevInfo, sevNotice, sevWarning, sevError, sevCritical, ne_eq, Nat.reduceEqDiff, not_false_eq_true]))

theorem State.mapsDone_keep (s : State) :
    (State.mapsDone s).pending = s.pending ∧ (State.mapsDone s).time = s.time ∧ (State.mapsDone s).dev = s.dev ∧ (State.mapsDone s).fuses = s.fuses ∧ (State.mapsDone s).params = s.params ∧ (State.mapsDone s).dram = s.dram ∧ (State.mapsDone s).pwr = s.pwr ∧ (State.mapsDone s).sec = s.sec ∧ (State.mapsDone s).nor = s.nor ∧ (State.mapsDone s).free = s.free := by
  generalize hr : State.mapsDone s = r
  simp only [State.mapsDone] at hr
  repeat' split at hr
  all_goals (subst hr; (first | (simp only [and_self, (fact @State.extendSets_keep), (fact @State.firstU0_keep), (fact @State.recheckPlp_keep), (fact @State.regenKey_keep), (fact @State.replaceSets_keep), (fact @State.sizeLeafCache_keep)]; done) | (and_intros <;> (repeat' first | (simp only [and_self, (fact @State.extendSets_keep), (fact @State.firstU0_keep), (fact @State.recheckPlp_keep), (fact @State.regenKey_keep), (fact @State.replaceSets_keep), (fact @State.sizeLeafCache_keep)]; done) | (simp only [and_self, (fact @State.extendSets_keep), (fact @State.firstU0_keep), (fact @State.recheckPlp_keep), (fact @State.regenKey_keep), (fact @State.replaceSets_keep), (fact @State.sizeLeafCache_keep)]) | (split at hb) | (subst hb; simp only [and_self, (fact @State.extendSets_keep), (fact @State.firstU0_keep), (fact @State.recheckPlp_keep), (fact @State.regenKey_keep), (fact @State.replaceSets_keep), (fact @State.sizeLeafCache_keep)]) | (refine (foldl_pending (fun _ _ _ hb => ?_) _ _).trans ?_) | (refine (foldl_time (fun _ _ _ hb => ?_) _ _).trans ?_) | (refine (foldl_dev (fun _ _ _ hb => ?_) _ _).trans ?_) | (refine (foldl_fuses (fun _ _ _ hb => ?_) _ _).trans ?_) | (refine (foldl_params (fun _ _ _ hb => ?_) _ _).trans ?_) | (refine (foldl_dram (fun _ _ _ hb => ?_) _ _).trans ?_) | (refine (foldl_pwr (fun _ _ _ hb => ?_) _ _).trans ?_) | (refine (foldl_sec (fun _ _ _ hb => ?_) _ _).trans ?_) | (refine (foldl_nor (fun _ _ _ hb => ?_) _ _).trans ?_) | (refine (foldl_free (fun _ _ _ hb => ?_) _ _).trans ?_) | split))))

theorem State.rebuilt_keep (s : State) (g : Grove) :
    (State.rebuilt s g).pending = s.pending ∧ (State.rebuilt s g).time = s.time ∧ (State.rebuilt s g).fuses = s.fuses ∧ (State.rebuilt s g).params = s.params ∧ (State.rebuilt s g).dram = s.dram ∧ (State.rebuilt s g).pwr = s.pwr ∧ (State.rebuilt s g).sec = s.sec ∧ (State.rebuilt s g).nor = s.nor ∧ (State.rebuilt s g).free = s.free := by
  generalize hr : State.rebuilt s g = r
  simp only [State.rebuilt] at hr
  repeat' split at hr
  all_goals (subst hr; (simp only [and_self, (fact @State.mapsDone_keep), (fact @State.redoUnits_keep)]))

theorem State.mapFatal_keep (s : State) (g : Grove) (q : Nat) :
    (State.mapFatal s g q).pending = s.pending ∧ (State.mapFatal s g q).time = s.time ∧ (State.mapFatal s g q).fuses = s.fuses ∧ (State.mapFatal s g q).params = s.params ∧ (State.mapFatal s g q).host = s.host ∧ (State.mapFatal s g q).nvm = s.nvm ∧ (State.mapFatal s g q).land = s.land ∧ (State.mapFatal s g q).map = s.map ∧ (State.mapFatal s g q).media = s.media ∧ (State.mapFatal s g q).flash = s.flash ∧ (State.mapFatal s g q).cache = s.cache ∧ (State.mapFatal s g q).plp = s.plp ∧ (State.mapFatal s g q).dram = s.dram ∧ (State.mapFatal s g q).pwr = s.pwr ∧ (State.mapFatal s g q).sec = s.sec ∧ (State.mapFatal s g q).bus = s.bus ∧ (State.mapFatal s g q).free = s.free := by
  generalize hr : State.mapFatal s g q = r
  simp only [State.mapFatal] at hr
  repeat' split at hr
  all_goals (subst hr; (simp only [and_self, (fact @State.recordHw_keep)]))

theorem State.olderWear_keep (s : State) (g : Grove) :
    (State.olderWear s g).pending = s.pending ∧ (State.olderWear s g).time = s.time ∧ (State.olderWear s g).dev = s.dev ∧ (State.olderWear s g).fuses = s.fuses ∧ (State.olderWear s g).params = s.params ∧ (State.olderWear s g).host = s.host ∧ (State.olderWear s g).nvm = s.nvm ∧ (State.olderWear s g).land = s.land ∧ (State.olderWear s g).map = s.map ∧ (State.olderWear s g).flash = s.flash ∧ (State.olderWear s g).cache = s.cache ∧ (State.olderWear s g).plp = s.plp ∧ (State.olderWear s g).dram = s.dram ∧ (State.olderWear s g).pwr = s.pwr ∧ (State.olderWear s g).sec = s.sec ∧ (State.olderWear s g).mgmt = s.mgmt ∧ (State.olderWear s g).naile = s.naile ∧ (State.olderWear s g).nor = s.nor ∧ (State.olderWear s g).tally = s.tally ∧ (State.olderWear s g).bus = s.bus ∧ (State.olderWear s g).free = s.free := by
  generalize hr : State.olderWear s g = r
  simp only [State.olderWear] at hr
  repeat' split at hr
  all_goals (subst hr; (first | (simp only [and_self]; done) | (and_intros <;> (repeat' first | (simp only [and_self]; done) | (simp only [and_self]) | (split at hb) | (subst hb; simp only [and_self]) | (refine (foldl_pending (fun _ _ _ hb => ?_) _ _).trans ?_) | (refine (foldl_time (fun _ _ _ hb => ?_) _ _).trans ?_) | (refine (foldl_dev (fun _ _ _ hb => ?_) _ _).trans ?_) | (refine (foldl_fuses (fun _ _ _ hb => ?_) _ _).trans ?_) | (refine (foldl_params (fun _ _ _ hb => ?_) _ _).trans ?_) | (refine (foldl_host (fun _ _ _ hb => ?_) _ _).trans ?_) | (refine (foldl_nvm (fun _ _ _ hb => ?_) _ _).trans ?_) | (refine (foldl_land (fun _ _ _ hb => ?_) _ _).trans ?_) | (refine (foldl_map (fun _ _ _ hb => ?_) _ _).trans ?_) | (refine (foldl_flash (fun _ _ _ hb => ?_) _ _).trans ?_) | (refine (foldl_cache (fun _ _ _ hb => ?_) _ _).trans ?_) | (refine (foldl_plp (fun _ _ _ hb => ?_) _ _).trans ?_) | (refine (foldl_dram (fun _ _ _ hb => ?_) _ _).trans ?_) | (refine (foldl_pwr (fun _ _ _ hb => ?_) _ _).trans ?_) | (refine (foldl_sec (fun _ _ _ hb => ?_) _ _).trans ?_) | (refine (foldl_mgmt (fun _ _ _ hb => ?_) _ _).trans ?_) | (refine (foldl_naile (fun _ _ _ hb => ?_) _ _).trans ?_) | (refine (foldl_nor (fun _ _ _ hb => ?_) _ _).trans ?_) | (refine (foldl_tally (fun _ _ _ hb => ?_) _ _).trans ?_) | (refine (foldl_bus (fun _ _ _ hb => ?_) _ _).trans ?_) | (refine (foldl_free (fun _ _ _ hb => ?_) _ _).trans ?_) | split))))

theorem State.recomputeRebuild_keep (s : State) (g : Grove) :
    (State.recomputeRebuild s g).pending = s.pending ∧ (State.recomputeRebuild s g).time = s.time ∧ (State.recomputeRebuild s g).dev = s.dev ∧ (State.recomputeRebuild s g).fuses = s.fuses ∧ (State.recomputeRebuild s g).params = s.params ∧ (State.recomputeRebuild s g).host = s.host ∧ (State.recomputeRebuild s g).nvm = s.nvm ∧ (State.recomputeRebuild s g).land = s.land ∧ (State.recomputeRebuild s g).cache = s.cache ∧ (State.recomputeRebuild s g).plp = s.plp ∧ (State.recomputeRebuild s g).dram = s.dram ∧ (State.recomputeRebuild s g).pwr = s.pwr ∧ (State.recomputeRebuild s g).sec = s.sec ∧ (State.recomputeRebuild s g).mgmt = s.mgmt ∧ (State.recomputeRebuild s g).naile = s.naile ∧ (State.recomputeRebuild s g).nor = s.nor ∧ (State.recomputeRebuild s g).bus = s.bus ∧ (State.recomputeRebuild s g).free = s.free := by
  generalize hr : State.recomputeRebuild s g = r
  simp only [State.recomputeRebuild] at hr
  repeat' split at hr
  all_goals (subst hr; (simp only [and_self, (fact @State.loseTwice_keep), (fact @State.writeBitmap_keep)]))

theorem State.rebuildFrom_keep (s : State) (g : Grove) (warm : Bool) (start : Qword) (i : RebuildInput) :
    (s.rebuildFrom g warm start i).pending = s.pending ∧ (s.rebuildFrom g warm start i).time = s.time ∧ (s.rebuildFrom g warm start i).fuses = s.fuses ∧ (s.rebuildFrom g warm start i).params = s.params ∧ (s.rebuildFrom g warm start i).dram = s.dram ∧ (s.rebuildFrom g warm start i).pwr = s.pwr ∧ (s.rebuildFrom g warm start i).sec = s.sec ∧ (s.rebuildFrom g warm start i).nor = s.nor ∧ (s.rebuildFrom g warm start i).free = s.free := by
  generalize hr : s.rebuildFrom g warm start i = r
  unfold State.rebuildFrom at hr
  extract_lets s0 s1 s2 s3 s4 at hr
  have h0 : s0.pending = s.pending ∧ s0.time = s.time ∧ s0.fuses = s.fuses ∧ s0.params = s.params ∧ s0.dram = s.dram ∧ s0.pwr = s.pwr ∧ s0.sec = s.sec ∧ s0.nor = s.nor ∧ s0.free = s.free := by
    simp only [s0]
    split <;> simp only [(fact @State.warmRebuild_keep), (fact @State.coldRebuild_keep), and_self]
  have h1 : s1.pending = s0.pending ∧ s1.time = s0.time ∧ s1.fuses = s0.fuses ∧ s1.params = s0.params ∧ s1.dram = s0.dram ∧ s1.pwr = s0.pwr ∧ s1.sec = s0.sec ∧ s1.nor = s0.nor ∧ s1.free = s0.free := (by and_intros <;> rfl)
  have h2 : s2.pending = s1.pending ∧ s2.time = s1.time ∧ s2.fuses = s1.fuses ∧ s2.params = s1.params ∧ s2.dram = s1.dram ∧ s2.pwr = s1.pwr ∧ s2.sec = s1.sec ∧ s2.nor = s1.nor ∧ s2.free = s1.free := kfold_16 (fun a x b hb => by subst hb; simp only [(fact @State.repairBitmap_keep), and_self]) _ _
  have h3 : s3.pending = s2.pending ∧ s3.time = s2.time ∧ s3.fuses = s2.fuses ∧ s3.params = s2.params ∧ s3.dram = s2.dram ∧ s3.pwr = s2.pwr ∧ s3.sec = s2.sec ∧ s3.nor = s2.nor ∧ s3.free = s2.free := by simp only [s3, (fact @State.recomputeRebuild_keep), (fact @State.scanGrove_keep), (fact @State.finishRetirements_keep), and_self]
  have h4 : s4.pending = s3.pending ∧ s4.time = s3.time ∧ s4.fuses = s3.fuses ∧ s4.params = s3.params ∧ s4.dram = s3.dram ∧ s4.pwr = s3.pwr ∧ s4.sec = s3.sec ∧ s4.nor = s3.nor ∧ s4.free = s3.free := by
    simp only [s4]
    split
    · simp only [(fact @State.halfReads_keep)]
      split <;> simp only [(fact @State.olderWear_keep), and_self]
    · (and_intros <;> rfl)
  clear_value s0 s1 s2 s3 s4
  subst hr
  simp only [(fact @State.rebuilt_keep), (fact @State.formDomains_keep), h4, h3, h2, h1, h0, and_self]


theorem State.rebuildGrove_keep (s : State) (g : Grove) (warm : Bool) (i : RebuildInput) :
    (s.rebuildGrove g warm i).pending = s.pending ∧ (s.rebuildGrove g warm i).time = s.time ∧ (s.rebuildGrove g warm i).fuses = s.fuses ∧ (s.rebuildGrove g warm i).params = s.params ∧ (s.rebuildGrove g warm i).dram = s.dram ∧ (s.rebuildGrove g warm i).pwr = s.pwr ∧ (s.rebuildGrove g warm i).sec = s.sec ∧ (s.rebuildGrove g warm i).free = s.free := by
  have hz : ∀ q r, s.mapFatal g q = r → r.pending = s.pending ∧ r.time = s.time ∧ r.fuses = s.fuses ∧ r.params = s.params ∧ r.dram = s.dram ∧ r.pwr = s.pwr ∧ r.sec = s.sec ∧ r.free = s.free := fun q r h => by
    subst h
    simp only [(fact @State.mapFatal_keep), and_self]
  have hy : ∀ m w st r, State.rebuildFrom { s with map := m } g w st i = r → r.pending = s.pending ∧ r.time = s.time ∧ r.fuses = s.fuses ∧ r.params = s.params ∧ r.dram = s.dram ∧ r.pwr = s.pwr ∧ r.sec = s.sec ∧ r.free = s.free := fun m w st r h => by
    subst h
    simp only [(fact @State.rebuildFrom_keep), and_self]
  generalize hr : s.rebuildGrove g warm i = r
  unfold State.rebuildGrove at hr
  extract_lets x at hr
  split at hr
  · exact hz _ _ hr
  next y _ _ =>
    extract_lets s0 at hr
    split at hr
    · exact hy _ _ _ _ hr
    · split at hr
      · exact hz _ _ hr
      · split at hr
        · exact hz _ _ hr
        · exact hy _ _ _ _ hr


end Sys2Proof.Machine
end

