-- ==== Sys2Proof/Laws/FrameRest.lean ====
section
/-! SUPPORT. Frames of the shared operations: for each, the units of State it leaves alone. Here map rows, management, updates, parameters, persistence, security and the clock. -/

set_option linter.all false

namespace Sys2Proof.Machine



theorem State.fetchDone_keep (s : State) (p : Port) (lpn : Nat) (reply : Option Block) :
    (State.fetchDone s p lpn reply).pending = s.pending ∧ (State.fetchDone s p lpn reply).time = s.time ∧ (State.fetchDone s p lpn reply).dev = s.dev ∧ (State.fetchDone s p lpn reply).fuses = s.fuses ∧ (State.fetchDone s p lpn reply).params = s.params ∧ (State.fetchDone s p lpn reply).plp = s.plp ∧ (State.fetchDone s p lpn reply).dram = s.dram ∧ (State.fetchDone s p lpn reply).pwr = s.pwr ∧ (State.fetchDone s p lpn reply).sec = s.sec ∧ (State.fetchDone s p lpn reply).mgmt = s.mgmt ∧ (State.fetchDone s p lpn reply).naile = s.naile ∧ (State.fetchDone s p lpn reply).nor = s.nor ∧ (State.fetchDone s p lpn reply).bus = s.bus ∧ (State.fetchDone s p lpn reply).free = s.free := by
  generalize hr : State.fetchDone s p lpn reply = r
  simp only [State.fetchDone] at hr
  repeat' split at hr
  all_goals (subst hr; (simp only [and_self, (fact @State.discardLease_keep), (fact @State.fetchOk_keep), (fact @State.fetchStale_keep)]))





theorem State.genUnit_keep (s : State) (g : Grove) (u : Nat) :
    (State.genUnit s g u).pending = s.pending ∧ (State.genUnit s g u).time = s.time ∧ (State.genUnit s g u).dev = s.dev ∧ (State.genUnit s g u).fuses = s.fuses ∧ (State.genUnit s g u).params = s.params ∧ (State.genUnit s g u).host = s.host ∧ (State.genUnit s g u).nvm = s.nvm ∧ (State.genUnit s g u).cache = s.cache ∧ (State.genUnit s g u).plp = s.plp ∧ (State.genUnit s g u).dram = s.dram ∧ (State.genUnit s g u).pwr = s.pwr ∧ (State.genUnit s g u).sec = s.sec ∧ (State.genUnit s g u).mgmt = s.mgmt ∧ (State.genUnit s g u).naile = s.naile ∧ (State.genUnit s g u).nor = s.nor ∧ (State.genUnit s g u).tally = s.tally ∧ (State.genUnit s g u).bus = s.bus ∧ (State.genUnit s g u).free = s.free := by
  generalize hr : State.genUnit s g u = r
  simp only [State.genUnit] at hr
  repeat' split at hr
  all_goals (subst hr; (simp only [and_self, (fact @State.placeUnit_keep), (fact @State.readLeaf_keep)]))

theorem State.checkpointSlice_keep (s0 : State) (g : Grove) :
    (State.checkpointSlice s0 g).pending = s0.pending ∧ (State.checkpointSlice s0 g).time = s0.time ∧ (State.checkpointSlice s0 g).dev = s0.dev ∧ (State.checkpointSlice s0 g).fuses = s0.fuses ∧ (State.checkpointSlice s0 g).params = s0.params ∧ (State.checkpointSlice s0 g).host = s0.host ∧ (State.checkpointSlice s0 g).nvm = s0.nvm ∧ (State.checkpointSlice s0 g).cache = s0.cache ∧ (State.checkpointSlice s0 g).plp = s0.plp ∧ (State.checkpointSlice s0 g).dram = s0.dram ∧ (State.checkpointSlice s0 g).pwr = s0.pwr ∧ (State.checkpointSlice s0 g).sec = s0.sec ∧ (State.checkpointSlice s0 g).mgmt = s0.mgmt ∧ (State.checkpointSlice s0 g).naile = s0.naile ∧ (State.checkpointSlice s0 g).nor = s0.nor ∧ (State.checkpointSlice s0 g).tally = s0.tally ∧ (State.checkpointSlice s0 g).bus = s0.bus ∧ (State.checkpointSlice s0 g).free = s0.free := by
  generalize hr : State.checkpointSlice s0 g = r
  simp only [State.checkpointSlice] at hr
  repeat' split at hr
  all_goals (subst hr; (simp only [and_self, (fact @State.genEnd_keep), (fact @State.genUnit_keep), (fact @State.placeUnit_keep), (fact @State.spill_keep)]))



theorem State.releaseWrites_keep (s : State) (v : Nat) :
    (State.releaseWrites s v).pending = s.pending ∧ (State.releaseWrites s v).time = s.time ∧ (State.releaseWrites s v).dev = s.dev ∧ (State.releaseWrites s v).fuses = s.fuses ∧ (State.releaseWrites s v).params = s.params ∧ (State.releaseWrites s v).host = s.host ∧ (State.releaseWrites s v).land = s.land ∧ (State.releaseWrites s v).map = s.map ∧ (State.releaseWrites s v).flash = s.flash ∧ (State.releaseWrites s v).cache = s.cache ∧ (State.releaseWrites s v).plp = s.plp ∧ (State.releaseWrites s v).dram = s.dram ∧ (State.releaseWrites s v).pwr = s.pwr ∧ (State.releaseWrites s v).sec = s.sec ∧ (State.releaseWrites s v).nor = s.nor ∧ (State.releaseWrites s v).bus = s.bus ∧ (State.releaseWrites s v).free = s.free := by
  generalize hr : State.releaseWrites s v = r
  simp only [State.releaseWrites] at hr
  repeat' split at hr
  all_goals (subst hr; (simp only [and_self, (fact @State.record_calm), sevDebug, sevInfo, sevNotice, sevWarning, sevError, sevCritical, ne_eq, Nat.reduceEqDiff, not_false_eq_true]))



theorem State.endActivation_keep (s : State) :
    (State.endActivation s).pending = s.pending ∧ (State.endActivation s).time = s.time ∧ (State.endActivation s).dev = s.dev ∧ (State.endActivation s).fuses = s.fuses ∧ (State.endActivation s).params = s.params ∧ (State.endActivation s).host = s.host ∧ (State.endActivation s).nvm = s.nvm ∧ (State.endActivation s).land = s.land ∧ (State.endActivation s).map = s.map ∧ (State.endActivation s).media = s.media ∧ (State.endActivation s).flash = s.flash ∧ (State.endActivation s).cache = s.cache ∧ (State.endActivation s).plp = s.plp ∧ (State.endActivation s).dram = s.dram ∧ (State.endActivation s).pwr = s.pwr ∧ (State.endActivation s).sec = s.sec ∧ (State.endActivation s).mgmt = s.mgmt ∧ (State.endActivation s).naile = s.naile ∧ (State.endActivation s).tally = s.tally ∧ (State.endActivation s).bus = s.bus ∧ (State.endActivation s).free = s.free := by
  generalize hr : State.endActivation s = r
  simp only [State.endActivation] at hr
  repeat' split at hr
  all_goals (subst hr; (simp only [and_self]))

theorem State.activationFails_keep (s : State) (part : Nat) (release : Nat) :
    (State.activationFails s part release).pending = s.pending ∧ (State.activationFails s part release).time = s.time ∧ (State.activationFails s part release).dev = s.dev ∧ (State.activationFails s part release).fuses = s.fuses ∧ (State.activationFails s part release).params = s.params ∧ (State.activationFails s part release).host = s.host ∧ (State.activationFails s part release).nvm = s.nvm ∧ (State.activationFails s part release).land = s.land ∧ (State.activationFails s part release).map = s.map ∧ (State.activationFails s part release).media = s.media ∧ (State.activationFails s part release).flash = s.flash ∧ (State.activationFails s part release).cache = s.cache ∧ (State.activationFails s part release).plp = s.plp ∧ (State.activationFails s part release).dram = s.dram ∧ (State.activationFails s part release).pwr = s.pwr ∧ (State.activationFails s part release).sec = s.sec ∧ (State.activationFails s part release).bus = s.bus ∧ (State.activationFails s part release).free = s.free := by
  generalize hr : State.activationFails s part release = r
  simp only [State.activationFails] at hr
  repeat' split at hr
  all_goals (subst hr; (simp only [and_self, (fact @State.record_calm), sevDebug, sevInfo, sevNotice, sevWarning, sevError, sevCritical, ne_eq, Nat.reduceEqDiff, not_false_eq_true]))

theorem State.groveDown_keep (s : State) (g : Grove) : (s.groveDown g).pending = s.pending ∧ (s.groveDown g).time = s.time ∧ (s.groveDown g).dev = s.dev ∧ (s.groveDown g).fuses = s.fuses ∧ (s.groveDown g).params = s.params ∧ (s.groveDown g).host = s.host ∧ (s.groveDown g).nvm = s.nvm ∧ (s.groveDown g).flash = s.flash ∧ (s.groveDown g).cache = s.cache ∧ (s.groveDown g).plp = s.plp ∧ (s.groveDown g).dram = s.dram ∧ (s.groveDown g).pwr = s.pwr ∧ (s.groveDown g).sec = s.sec ∧ (s.groveDown g).mgmt = s.mgmt ∧ (s.groveDown g).naile = s.naile ∧ (s.groveDown g).nor = s.nor ∧ (s.groveDown g).bus = s.bus ∧ (s.groveDown g).free = s.free := by
  generalize hr : s.groveDown g = r
  simp only [State.groveDown] at hr
  subst hr
  refine kfold_17 (fun a d b hb => ?_) _ _
  subst hb
  refine kfold_17 (fun a v b hb => ?_) _ _
  subst hb
  simp only [(fact @State.backToClosed_keep), and_self]


theorem State.groveBack_keep (s : State) (g : Grove) (release : Nat) :
    (State.groveBack s g release).pending = s.pending ∧ (State.groveBack s g release).time = s.time ∧ (State.groveBack s g release).dev = s.dev ∧ (State.groveBack s g release).fuses = s.fuses ∧ (State.groveBack s g release).params = s.params ∧ (State.groveBack s g release).host = s.host ∧ (State.groveBack s g release).nvm = s.nvm ∧ (State.groveBack s g release).land = s.land ∧ (State.groveBack s g release).media = s.media ∧ (State.groveBack s g release).flash = s.flash ∧ (State.groveBack s g release).cache = s.cache ∧ (State.groveBack s g release).plp = s.plp ∧ (State.groveBack s g release).dram = s.dram ∧ (State.groveBack s g release).pwr = s.pwr ∧ (State.groveBack s g release).sec = s.sec ∧ (State.groveBack s g release).naile = s.naile ∧ (State.groveBack s g release).nor = s.nor ∧ (State.groveBack s g release).tally = s.tally ∧ (State.groveBack s g release).bus = s.bus ∧ (State.groveBack s g release).free = s.free := by
  generalize hr : State.groveBack s g release = r
  simp only [State.groveBack] at hr
  repeat' split at hr
  all_goals (subst hr; (simp only [and_self]))

theorem State.rolloutGoOn_keep (s : State) (g : Nat) :
    (State.rolloutGoOn s g).pending = s.pending ∧ (State.rolloutGoOn s g).time = s.time ∧ (State.rolloutGoOn s g).dev = s.dev ∧ (State.rolloutGoOn s g).fuses = s.fuses ∧ (State.rolloutGoOn s g).params = s.params ∧ (State.rolloutGoOn s g).host = s.host ∧ (State.rolloutGoOn s g).nvm = s.nvm ∧ (State.rolloutGoOn s g).land = s.land ∧ (State.rolloutGoOn s g).map = s.map ∧ (State.rolloutGoOn s g).media = s.media ∧ (State.rolloutGoOn s g).flash = s.flash ∧ (State.rolloutGoOn s g).cache = s.cache ∧ (State.rolloutGoOn s g).plp = s.plp ∧ (State.rolloutGoOn s g).dram = s.dram ∧ (State.rolloutGoOn s g).pwr = s.pwr ∧ (State.rolloutGoOn s g).sec = s.sec ∧ (State.rolloutGoOn s g).naile = s.naile ∧ (State.rolloutGoOn s g).tally = s.tally ∧ (State.rolloutGoOn s g).bus = s.bus ∧ (State.rolloutGoOn s g).free = s.free := by
  generalize hr : State.rolloutGoOn s g = r
  simp only [State.rolloutGoOn] at hr
  repeat' split at hr
  all_goals (subst hr; (simp only [and_self, (fact @State.endActivation_keep)]))

theorem State.rolloutStops_keep (s : State) (g : Nat) (r : Rollout) :
    (State.rolloutStops s g r).pending = s.pending ∧ (State.rolloutStops s g r).time = s.time ∧ (State.rolloutStops s g r).dev = s.dev ∧ (State.rolloutStops s g r).fuses = s.fuses ∧ (State.rolloutStops s g r).params = s.params ∧ (State.rolloutStops s g r).host = s.host ∧ (State.rolloutStops s g r).nvm = s.nvm ∧ (State.rolloutStops s g r).land = s.land ∧ (State.rolloutStops s g r).map = s.map ∧ (State.rolloutStops s g r).media = s.media ∧ (State.rolloutStops s g r).flash = s.flash ∧ (State.rolloutStops s g r).cache = s.cache ∧ (State.rolloutStops s g r).plp = s.plp ∧ (State.rolloutStops s g r).dram = s.dram ∧ (State.rolloutStops s g r).pwr = s.pwr ∧ (State.rolloutStops s g r).sec = s.sec ∧ (State.rolloutStops s g r).bus = s.bus ∧ (State.rolloutStops s g r).free = s.free := by
  generalize hr : State.rolloutStops s g r = r
  simp only [State.rolloutStops] at hr
  repeat' split at hr
  all_goals (subst hr; (simp only [and_self, (fact @State.activationFails_keep), (fact @State.record_calm), sevDebug, sevInfo, sevNotice, sevWarning, sevError, sevCritical, ne_eq, Nat.reduceEqDiff, not_false_eq_true]))

theorem State.groveRebuilds_keep (s : State) (g : Grove) (release : Nat) :
    (State.groveRebuilds s g release).pending = s.pending ∧ (State.groveRebuilds s g release).time = s.time ∧ (State.groveRebuilds s g release).fuses = s.fuses ∧ (State.groveRebuilds s g release).params = s.params ∧ (State.groveRebuilds s g release).host = s.host ∧ (State.groveRebuilds s g release).nvm = s.nvm ∧ (State.groveRebuilds s g release).land = s.land ∧ (State.groveRebuilds s g release).media = s.media ∧ (State.groveRebuilds s g release).flash = s.flash ∧ (State.groveRebuilds s g release).cache = s.cache ∧ (State.groveRebuilds s g release).plp = s.plp ∧ (State.groveRebuilds s g release).dram = s.dram ∧ (State.groveRebuilds s g release).pwr = s.pwr ∧ (State.groveRebuilds s g release).sec = s.sec ∧ (State.groveRebuilds s g release).naile = s.naile ∧ (State.groveRebuilds s g release).nor = s.nor ∧ (State.groveRebuilds s g release).tally = s.tally ∧ (State.groveRebuilds s g release).bus = s.bus ∧ (State.groveRebuilds s g release).free = s.free := by
  generalize hr : State.groveRebuilds s g release = r
  simp only [State.groveRebuilds] at hr
  repeat' split at hr
  all_goals (subst hr; (simp only [and_self]))

theorem State.loseMgmt_keep (s : State) :
    (State.loseMgmt s).pending = s.pending ∧ (State.loseMgmt s).time = s.time ∧ (State.loseMgmt s).dev = s.dev ∧ (State.loseMgmt s).fuses = s.fuses ∧ (State.loseMgmt s).params = s.params ∧ (State.loseMgmt s).media = s.media ∧ (State.loseMgmt s).flash = s.flash ∧ (State.loseMgmt s).cache = s.cache ∧ (State.loseMgmt s).plp = s.plp ∧ (State.loseMgmt s).dram = s.dram ∧ (State.loseMgmt s).pwr = s.pwr ∧ (State.loseMgmt s).sec = s.sec ∧ (State.loseMgmt s).naile = s.naile ∧ (State.loseMgmt s).bus = s.bus ∧ (State.loseMgmt s).free = s.free := by
  generalize hr : State.loseMgmt s = r
  simp only [State.loseMgmt] at hr
  repeat' split at hr
  all_goals (subst hr; (first | (simp only [and_self, (fact @State.complete_keep), (fact @State.orphan_keep)]; done) | (and_intros <;> (repeat' first | (simp only [and_self, (fact @State.complete_keep), (fact @State.orphan_keep)]; done) | (simp only [and_self, (fact @State.complete_keep), (fact @State.orphan_keep)]) | (split at hb) | (subst hb; simp only [and_self, (fact @State.complete_keep), (fact @State.orphan_keep)]) | (refine (foldl_pending (fun _ _ _ hb => ?_) _ _).trans ?_) | (refine (foldl_time (fun _ _ _ hb => ?_) _ _).trans ?_) | (refine (foldl_dev (fun _ _ _ hb => ?_) _ _).trans ?_) | (refine (foldl_fuses (fun _ _ _ hb => ?_) _ _).trans ?_) | (refine (foldl_params (fun _ _ _ hb => ?_) _ _).trans ?_) | (refine (foldl_media (fun _ _ _ hb => ?_) _ _).trans ?_) | (refine (foldl_flash (fun _ _ _ hb => ?_) _ _).trans ?_) | (refine (foldl_cache (fun _ _ _ hb => ?_) _ _).trans ?_) | (refine (foldl_plp (fun _ _ _ hb => ?_) _ _).trans ?_) | (refine (foldl_dram (fun _ _ _ hb => ?_) _ _).trans ?_) | (refine (foldl_pwr (fun _ _ _ hb => ?_) _ _).trans ?_) | (refine (foldl_sec (fun _ _ _ hb => ?_) _ _).trans ?_) | (refine (foldl_naile (fun _ _ _ hb => ?_) _ _).trans ?_) | (refine (foldl_bus (fun _ _ _ hb => ?_) _ _).trans ?_) | (refine (foldl_free (fun _ _ _ hb => ?_) _ _).trans ?_) | split))))

theorem State.beginHandover_keep (s : State) (cause : Nat) (oldRuns : Bool) (release : Option Nat) :
    (State.beginHandover s cause oldRuns release).pending = s.pending ∧ (State.beginHandover s cause oldRuns release).time = s.time ∧ (State.beginHandover s cause oldRuns release).dev = s.dev ∧ (State.beginHandover s cause oldRuns release).fuses = s.fuses ∧ (State.beginHandover s cause oldRuns release).params = s.params ∧ (State.beginHandover s cause oldRuns release).land = s.land ∧ (State.beginHandover s cause oldRuns release).map = s.map ∧ (State.beginHandover s cause oldRuns release).media = s.media ∧ (State.beginHandover s cause oldRuns release).flash = s.flash ∧ (State.beginHandover s cause oldRuns release).cache = s.cache ∧ (State.beginHandover s cause oldRuns release).plp = s.plp ∧ (State.beginHandover s cause oldRuns release).dram = s.dram ∧ (State.beginHandover s cause oldRuns release).sec = s.sec ∧ (State.beginHandover s cause oldRuns release).naile = s.naile ∧ (State.beginHandover s cause oldRuns release).nor = s.nor ∧ (State.beginHandover s cause oldRuns release).tally = s.tally ∧ (State.beginHandover s cause oldRuns release).bus = s.bus ∧ (State.beginHandover s cause oldRuns release).free = s.free := by
  generalize hr : State.beginHandover s cause oldRuns release = r
  simp only [State.beginHandover] at hr
  repeat' split at hr
  all_goals (subst hr; (simp only [and_self, (fact @State.leaveIdle_keep)]))

theorem State.askHandover_keep (s : State) (cause : Nat) (release : Option Nat) :
    (State.askHandover s cause release).pending = s.pending ∧ (State.askHandover s cause release).time = s.time ∧ (State.askHandover s cause release).dev = s.dev ∧ (State.askHandover s cause release).fuses = s.fuses ∧ (State.askHandover s cause release).params = s.params ∧ (State.askHandover s cause release).land = s.land ∧ (State.askHandover s cause release).map = s.map ∧ (State.askHandover s cause release).media = s.media ∧ (State.askHandover s cause release).flash = s.flash ∧ (State.askHandover s cause release).cache = s.cache ∧ (State.askHandover s cause release).plp = s.plp ∧ (State.askHandover s cause release).dram = s.dram ∧ (State.askHandover s cause release).sec = s.sec ∧ (State.askHandover s cause release).naile = s.naile ∧ (State.askHandover s cause release).nor = s.nor ∧ (State.askHandover s cause release).tally = s.tally ∧ (State.askHandover s cause release).bus = s.bus ∧ (State.askHandover s cause release).free = s.free := by
  generalize hr : State.askHandover s cause release = r
  simp only [State.askHandover] at hr
  repeat' split at hr
  all_goals (subst hr; (simp only [and_self, (fact @State.beginHandover_keep)]))

theorem State.failOver_keep (s : State) (cause : Nat) :
    (State.failOver s cause).pending = s.pending ∧ (State.failOver s cause).time = s.time ∧ (State.failOver s cause).dev = s.dev ∧ (State.failOver s cause).fuses = s.fuses ∧ (State.failOver s cause).params = s.params ∧ (State.failOver s cause).media = s.media ∧ (State.failOver s cause).flash = s.flash ∧ (State.failOver s cause).cache = s.cache ∧ (State.failOver s cause).plp = s.plp ∧ (State.failOver s cause).dram = s.dram ∧ (State.failOver s cause).sec = s.sec ∧ (State.failOver s cause).naile = s.naile ∧ (State.failOver s cause).bus = s.bus ∧ (State.failOver s cause).free = s.free := by
  generalize hr : State.failOver s cause = r
  simp only [State.failOver] at hr
  repeat' split at hr
  all_goals (subst hr; (simp only [and_self, (fact @State.beginHandover_keep), (fact @State.leaveIdle_keep), (fact @State.loseMgmt_keep)]))

theorem State.handoverFails_keep (s : State) (h : Handover) (result : Nat) :
    (State.handoverFails s h result).pending = s.pending ∧ (State.handoverFails s h result).time = s.time ∧ (State.handoverFails s h result).dev = s.dev ∧ (State.handoverFails s h result).fuses = s.fuses ∧ (State.handoverFails s h result).params = s.params ∧ (State.handoverFails s h result).media = s.media ∧ (State.handoverFails s h result).flash = s.flash ∧ (State.handoverFails s h result).cache = s.cache ∧ (State.handoverFails s h result).plp = s.plp ∧ (State.handoverFails s h result).dram = s.dram ∧ (State.handoverFails s h result).pwr = s.pwr ∧ (State.handoverFails s h result).sec = s.sec ∧ (State.handoverFails s h result).bus = s.bus ∧ (State.handoverFails s h result).free = s.free := by
  generalize hr : State.handoverFails s h result = r
  simp only [State.handoverFails] at hr
  repeat' split at hr
  all_goals (subst hr; (simp only [and_self, (fact @State.activationFails_keep), (fact @State.loseMgmt_keep), (fact @State.recordBy_calm), sevDebug, sevInfo, sevNotice, sevWarning, sevError, sevCritical, ne_eq, Nat.reduceEqDiff, not_false_eq_true]))

theorem State.reEmit_keep (s : State) :
    (State.reEmit s).pending = s.pending ∧ (State.reEmit s).time = s.time ∧ (State.reEmit s).fuses = s.fuses ∧ (State.reEmit s).params = s.params ∧ (State.reEmit s).host = s.host ∧ (State.reEmit s).nvm = s.nvm ∧ (State.reEmit s).land = s.land ∧ (State.reEmit s).map = s.map ∧ (State.reEmit s).media = s.media ∧ (State.reEmit s).flash = s.flash ∧ (State.reEmit s).cache = s.cache ∧ (State.reEmit s).plp = s.plp ∧ (State.reEmit s).dram = s.dram ∧ (State.reEmit s).pwr = s.pwr ∧ (State.reEmit s).sec = s.sec ∧ (State.reEmit s).bus = s.bus ∧ (State.reEmit s).free = s.free := by
  generalize hr : State.reEmit s = r
  simp only [State.reEmit] at hr
  repeat' split at hr
  all_goals (subst hr; (first | (simp only [and_self, (fact @State.submit_keep)]; done) | (and_intros <;> (repeat' first | (simp only [and_self, (fact @State.submit_keep)]; done) | (simp only [and_self, (fact @State.submit_keep)]) | (split at hb) | (subst hb; simp only [and_self, (fact @State.submit_keep)]) | (refine (foldl_pending (fun _ _ _ hb => ?_) _ _).trans ?_) | (refine (foldl_time (fun _ _ _ hb => ?_) _ _).trans ?_) | (refine (foldl_fuses (fun _ _ _ hb => ?_) _ _).trans ?_) | (refine (foldl_params (fun _ _ _ hb => ?_) _ _).trans ?_) | (refine (foldl_host (fun _ _ _ hb => ?_) _ _).trans ?_) | (refine (foldl_nvm (fun _ _ _ hb => ?_) _ _).trans ?_) | (refine (foldl_land (fun _ _ _ hb => ?_) _ _).trans ?_) | (refine (foldl_map (fun _ _ _ hb => ?_) _ _).trans ?_) | (refine (foldl_media (fun _ _ _ hb => ?_) _ _).trans ?_) | (refine (foldl_flash (fun _ _ _ hb => ?_) _ _).trans ?_) | (refine (foldl_cache (fun _ _ _ hb => ?_) _ _).trans ?_) | (refine (foldl_plp (fun _ _ _ hb => ?_) _ _).trans ?_) | (refine (foldl_dram (fun _ _ _ hb => ?_) _ _).trans ?_) | (refine (foldl_pwr (fun _ _ _ hb => ?_) _ _).trans ?_) | (refine (foldl_sec (fun _ _ _ hb => ?_) _ _).trans ?_) | (refine (foldl_bus (fun _ _ _ hb => ?_) _ _).trans ?_) | (refine (foldl_free (fun _ _ _ hb => ?_) _ _).trans ?_) | split))))

theorem State.dropReceiving_keep (s : State) :
    (State.dropReceiving s).pending = s.pending ∧ (State.dropReceiving s).time = s.time ∧ (State.dropReceiving s).dev = s.dev ∧ (State.dropReceiving s).fuses = s.fuses ∧ (State.dropReceiving s).params = s.params ∧ (State.dropReceiving s).host = s.host ∧ (State.dropReceiving s).nvm = s.nvm ∧ (State.dropReceiving s).land = s.land ∧ (State.dropReceiving s).map = s.map ∧ (State.dropReceiving s).media = s.media ∧ (State.dropReceiving s).flash = s.flash ∧ (State.dropReceiving s).cache = s.cache ∧ (State.dropReceiving s).plp = s.plp ∧ (State.dropReceiving s).dram = s.dram ∧ (State.dropReceiving s).pwr = s.pwr ∧ (State.dropReceiving s).sec = s.sec ∧ (State.dropReceiving s).mgmt = s.mgmt ∧ (State.dropReceiving s).naile = s.naile ∧ (State.dropReceiving s).tally = s.tally ∧ (State.dropReceiving s).bus = s.bus ∧ (State.dropReceiving s).free = s.free := by
  generalize hr : State.dropReceiving s = r
  simp only [State.dropReceiving] at hr
  repeat' split at hr
  all_goals (subst hr; (simp only [and_self]))

theorem State.handoverDone_keep (s : State) (h : Handover) :
    (State.handoverDone s h).pending = s.pending ∧ (State.handoverDone s h).time = s.time ∧ (State.handoverDone s h).fuses = s.fuses ∧ (State.handoverDone s h).params = s.params ∧ (State.handoverDone s h).nvm = s.nvm ∧ (State.handoverDone s h).land = s.land ∧ (State.handoverDone s h).map = s.map ∧ (State.handoverDone s h).media = s.media ∧ (State.handoverDone s h).flash = s.flash ∧ (State.handoverDone s h).cache = s.cache ∧ (State.handoverDone s h).plp = s.plp ∧ (State.handoverDone s h).dram = s.dram ∧ (State.handoverDone s h).pwr = s.pwr ∧ (State.handoverDone s h).bus = s.bus ∧ (State.handoverDone s h).free = s.free ∧ (State.handoverDone s h).sec.target = s.sec.target := by
  generalize hr : State.handoverDone s h = r
  simp only [State.handoverDone] at hr
  repeat' split at hr
  all_goals (subst hr; (simp only [and_self, (fact @State.closeSession_keep), (fact @State.dropReceiving_keep), (fact @State.endActivation_keep), (fact @State.reEmit_keep)]))

theorem State.noteEpoch_keep (s : State) (rs : List CfgRec) :
    (State.noteEpoch s rs).pending = s.pending ∧ (State.noteEpoch s rs).time = s.time ∧ (State.noteEpoch s rs).dev = s.dev ∧ (State.noteEpoch s rs).fuses = s.fuses ∧ (State.noteEpoch s rs).params = s.params ∧ (State.noteEpoch s rs).host = s.host ∧ (State.noteEpoch s rs).nvm = s.nvm ∧ (State.noteEpoch s rs).land = s.land ∧ (State.noteEpoch s rs).map = s.map ∧ (State.noteEpoch s rs).media = s.media ∧ (State.noteEpoch s rs).flash = s.flash ∧ (State.noteEpoch s rs).cache = s.cache ∧ (State.noteEpoch s rs).plp = s.plp ∧ (State.noteEpoch s rs).dram = s.dram ∧ (State.noteEpoch s rs).pwr = s.pwr ∧ (State.noteEpoch s rs).sec = s.sec ∧ (State.noteEpoch s rs).mgmt = s.mgmt ∧ (State.noteEpoch s rs).naile = s.naile ∧ (State.noteEpoch s rs).nor = s.nor ∧ (State.noteEpoch s rs).bus = s.bus ∧ (State.noteEpoch s rs).free = s.free := by
  generalize hr : State.noteEpoch s rs = r
  simp only [State.noteEpoch] at hr
  repeat' split at hr
  all_goals (subst hr; (simp only [and_self, (fact @State.recordHw_calm), sevDebug, sevInfo, sevNotice, sevWarning, sevError, sevCritical, ne_eq, Nat.reduceEqDiff, not_false_eq_true]))

theorem State.valuesTaken_keep (s : State) (rs : List CfgRec) (oldRate : Nat) (oldBurst : Nat) :
    (State.valuesTaken s rs oldRate oldBurst).pending = s.pending ∧ (State.valuesTaken s rs oldRate oldBurst).time = s.time ∧ (State.valuesTaken s rs oldRate oldBurst).dev = s.dev ∧ (State.valuesTaken s rs oldRate oldBurst).fuses = s.fuses ∧ (State.valuesTaken s rs oldRate oldBurst).params = s.params ∧ (State.valuesTaken s rs oldRate oldBurst).land = s.land ∧ (State.valuesTaken s rs oldRate oldBurst).map = s.map ∧ (State.valuesTaken s rs oldRate oldBurst).flash = s.flash ∧ (State.valuesTaken s rs oldRate oldBurst).cache = s.cache ∧ (State.valuesTaken s rs oldRate oldBurst).plp = s.plp ∧ (State.valuesTaken s rs oldRate oldBurst).dram = s.dram ∧ (State.valuesTaken s rs oldRate oldBurst).sec = s.sec ∧ (State.valuesTaken s rs oldRate oldBurst).mgmt = s.mgmt ∧ (State.valuesTaken s rs oldRate oldBurst).naile = s.naile ∧ (State.valuesTaken s rs oldRate oldBurst).nor = s.nor ∧ (State.valuesTaken s rs oldRate oldBurst).bus = s.bus ∧ (State.valuesTaken s rs oldRate oldBurst).free = s.free := by
  generalize hr : State.valuesTaken s rs oldRate oldBurst = r
  simp only [State.valuesTaken] at hr
  repeat' split at hr
  all_goals (subst hr; (simp only [and_self, (fact @State.clearDebts_keep), (fact @State.noteEpoch_keep), (fact @State.recheckPower_keep), (fact @State.recheckSpare_keep)]))

theorem State.takeRecord_keep (s : State) (f : Frame) (rs : List CfgRec) :
    (State.takeRecord s f rs).pending = s.pending ∧ (State.takeRecord s f rs).time = s.time ∧ (State.takeRecord s f rs).dev = s.dev ∧ (State.takeRecord s f rs).fuses = s.fuses ∧ (State.takeRecord s f rs).map = s.map ∧ (State.takeRecord s f rs).flash = s.flash ∧ (State.takeRecord s f rs).cache = s.cache ∧ (State.takeRecord s f rs).plp = s.plp ∧ (State.takeRecord s f rs).dram = s.dram ∧ (State.takeRecord s f rs).sec = s.sec ∧ (State.takeRecord s f rs).nor = s.nor ∧ (State.takeRecord s f rs).bus = s.bus ∧ (State.takeRecord s f rs).free = s.free := by
  generalize hr : State.takeRecord s f rs = r
  simp only [State.takeRecord] at hr
  repeat' split at hr
  all_goals (subst hr; (simp only [and_self, (fact @State.acceptRecord_keep), (fact @State.naileOk_keep), (fact @State.raiseLags_keep), (fact @State.valuesTaken_keep)]))

theorem State.noteConflict_keep (s : State) :
    (State.noteConflict s).pending = s.pending ∧ (State.noteConflict s).time = s.time ∧ (State.noteConflict s).dev = s.dev ∧ (State.noteConflict s).fuses = s.fuses ∧ (State.noteConflict s).params = s.params ∧ (State.noteConflict s).host = s.host ∧ (State.noteConflict s).nvm = s.nvm ∧ (State.noteConflict s).land = s.land ∧ (State.noteConflict s).map = s.map ∧ (State.noteConflict s).media = s.media ∧ (State.noteConflict s).flash = s.flash ∧ (State.noteConflict s).cache = s.cache ∧ (State.noteConflict s).plp = s.plp ∧ (State.noteConflict s).dram = s.dram ∧ (State.noteConflict s).pwr = s.pwr ∧ (State.noteConflict s).sec = s.sec ∧ (State.noteConflict s).nor = s.nor ∧ (State.noteConflict s).bus = s.bus ∧ (State.noteConflict s).free = s.free := by
  generalize hr : State.noteConflict s = r
  simp only [State.noteConflict] at hr
  repeat' split at hr
  all_goals (subst hr; (simp only [and_self, (fact @State.record_calm), sevDebug, sevInfo, sevNotice, sevWarning, sevError, sevCritical, ne_eq, Nat.reduceEqDiff, not_false_eq_true]))

theorem State.commitSvn_keep (s : State) :
    (State.commitSvn s).pending = s.pending ∧ (State.commitSvn s).time = s.time ∧ (State.commitSvn s).dev = s.dev ∧ (State.commitSvn s).params = s.params ∧ (State.commitSvn s).host = s.host ∧ (State.commitSvn s).nvm = s.nvm ∧ (State.commitSvn s).land = s.land ∧ (State.commitSvn s).map = s.map ∧ (State.commitSvn s).media = s.media ∧ (State.commitSvn s).flash = s.flash ∧ (State.commitSvn s).cache = s.cache ∧ (State.commitSvn s).plp = s.plp ∧ (State.commitSvn s).dram = s.dram ∧ (State.commitSvn s).pwr = s.pwr ∧ (State.commitSvn s).sec = s.sec ∧ (State.commitSvn s).nor = s.nor ∧ (State.commitSvn s).bus = s.bus ∧ (State.commitSvn s).free = s.free := by
  generalize hr : State.commitSvn s = r
  simp only [State.commitSvn] at hr
  repeat' split at hr
  all_goals (subst hr; (simp only [and_self, (fact @State.record_calm), sevDebug, sevInfo, sevNotice, sevWarning, sevError, sevCritical, ne_eq, Nat.reduceEqDiff, not_false_eq_true]))

theorem State.beginRma_keep (s : State) :
    (State.beginRma s).pending = s.pending ∧ (State.beginRma s).time = s.time ∧ (State.beginRma s).params = s.params ∧ (State.beginRma s).media = s.media ∧ (State.beginRma s).cache = s.cache ∧ (State.beginRma s).plp = s.plp ∧ (State.beginRma s).dram = s.dram ∧ (State.beginRma s).pwr = s.pwr ∧ (State.beginRma s).nor = s.nor ∧ (State.beginRma s).bus = s.bus ∧ (State.beginRma s).free = s.free := by
  generalize hr : State.beginRma s = r
  simp only [State.beginRma] at hr
  repeat' split at hr
  all_goals (subst hr; (simp only [and_self, (fact @State.closeSession_keep), (fact @State.record_calm), (fact @State.rmaGoOn_keep), sevDebug, sevInfo, sevNotice, sevWarning, sevError, sevCritical, ne_eq, Nat.reduceEqDiff, not_false_eq_true]))

theorem State.refuseToken_keep (s : State) (f : Frame) (code : Nat) :
    (State.refuseToken s f code).pending = s.pending ∧ (State.refuseToken s f code).time = s.time ∧ (State.refuseToken s f code).dev = s.dev ∧ (State.refuseToken s f code).fuses = s.fuses ∧ (State.refuseToken s f code).params = s.params ∧ (State.refuseToken s f code).host = s.host ∧ (State.refuseToken s f code).nvm = s.nvm ∧ (State.refuseToken s f code).land = s.land ∧ (State.refuseToken s f code).map = s.map ∧ (State.refuseToken s f code).media = s.media ∧ (State.refuseToken s f code).flash = s.flash ∧ (State.refuseToken s f code).cache = s.cache ∧ (State.refuseToken s f code).plp = s.plp ∧ (State.refuseToken s f code).dram = s.dram ∧ (State.refuseToken s f code).pwr = s.pwr ∧ (State.refuseToken s f code).nor = s.nor ∧ (State.refuseToken s f code).bus = s.bus ∧ (State.refuseToken s f code).free = s.free ∧ (State.refuseToken s f code).sec.target = s.sec.target := by
  generalize hr : State.refuseToken s f code = r
  simp only [State.refuseToken] at hr
  repeat' split at hr
  all_goals (subst hr; (simp only [and_self, (fact @State.naileFail_keep), (fact @State.recordBy_calm), sevDebug, sevInfo, sevNotice, sevWarning, sevError, sevCritical, ne_eq, Nat.reduceEqDiff, not_false_eq_true]))

theorem State.openSession_keep (s : State) (t : DebugToken) :
    (State.openSession s t).pending = s.pending ∧ (State.openSession s t).time = s.time ∧ (State.openSession s t).dev = s.dev ∧ (State.openSession s t).fuses = s.fuses ∧ (State.openSession s t).params = s.params ∧ (State.openSession s t).host = s.host ∧ (State.openSession s t).nvm = s.nvm ∧ (State.openSession s t).land = s.land ∧ (State.openSession s t).map = s.map ∧ (State.openSession s t).media = s.media ∧ (State.openSession s t).flash = s.flash ∧ (State.openSession s t).cache = s.cache ∧ (State.openSession s t).plp = s.plp ∧ (State.openSession s t).dram = s.dram ∧ (State.openSession s t).pwr = s.pwr ∧ (State.openSession s t).nor = s.nor ∧ (State.openSession s t).bus = s.bus ∧ (State.openSession s t).free = s.free ∧ (State.openSession s t).sec.target = s.sec.target := by
  generalize hr : State.openSession s t = r
  simp only [State.openSession] at hr
  repeat' split at hr
  all_goals (subst hr; (simp only [and_self, (fact @State.recordBy_calm), sevDebug, sevInfo, sevNotice, sevWarning, sevError, sevCritical, ne_eq, Nat.reduceEqDiff, not_false_eq_true]))

theorem State.noteLmsStop_keep (s : State) :
    (State.noteLmsStop s).pending = s.pending ∧ (State.noteLmsStop s).time = s.time ∧ (State.noteLmsStop s).dev = s.dev ∧ (State.noteLmsStop s).fuses = s.fuses ∧ (State.noteLmsStop s).params = s.params ∧ (State.noteLmsStop s).host = s.host ∧ (State.noteLmsStop s).nvm = s.nvm ∧ (State.noteLmsStop s).land = s.land ∧ (State.noteLmsStop s).map = s.map ∧ (State.noteLmsStop s).media = s.media ∧ (State.noteLmsStop s).flash = s.flash ∧ (State.noteLmsStop s).cache = s.cache ∧ (State.noteLmsStop s).plp = s.plp ∧ (State.noteLmsStop s).dram = s.dram ∧ (State.noteLmsStop s).pwr = s.pwr ∧ (State.noteLmsStop s).nor = s.nor ∧ (State.noteLmsStop s).bus = s.bus ∧ (State.noteLmsStop s).free = s.free ∧ (State.noteLmsStop s).sec.target = s.sec.target := by
  generalize hr : State.noteLmsStop s = r
  simp only [State.noteLmsStop] at hr
  repeat' split at hr
  all_goals (subst hr; (simp only [and_self, (fact @State.record_calm), sevDebug, sevInfo, sevNotice, sevWarning, sevError, sevCritical, ne_eq, Nat.reduceEqDiff, not_false_eq_true]))


theorem State.testEnds_keep (s : State) (result : Nat) (t : Nat) :
    (State.testEnds s result t).pending = s.pending ∧ (State.testEnds s result t).time = s.time ∧ (State.testEnds s result t).dev = s.dev ∧ (State.testEnds s result t).fuses = s.fuses ∧ (State.testEnds s result t).params = s.params ∧ (State.testEnds s result t).map = s.map ∧ (State.testEnds s result t).dram = s.dram ∧ (State.testEnds s result t).pwr = s.pwr ∧ (State.testEnds s result t).sec = s.sec ∧ (State.testEnds s result t).nor = s.nor ∧ (State.testEnds s result t).free = s.free := by
  generalize hr : State.testEnds s result t = r
  simp only [State.testEnds] at hr
  repeat' split at hr
  all_goals (subst hr; (simp only [and_self, (fact @State.recheckPlp_keep), (fact @State.record_calm), sevDebug, sevInfo, sevNotice, sevWarning, sevError, sevCritical, ne_eq, Nat.reduceEqDiff, not_false_eq_true]))

theorem State.startTest_keep (s : State) (huLow : Bool) :
    (State.startTest s huLow).pending = s.pending ∧ (State.startTest s huLow).time = s.time ∧ (State.startTest s huLow).dev = s.dev ∧ (State.startTest s huLow).fuses = s.fuses ∧ (State.startTest s huLow).params = s.params ∧ (State.startTest s huLow).map = s.map ∧ (State.startTest s huLow).dram = s.dram ∧ (State.startTest s huLow).pwr = s.pwr ∧ (State.startTest s huLow).sec = s.sec ∧ (State.startTest s huLow).nor = s.nor ∧ (State.startTest s huLow).free = s.free := by
  generalize hr : State.startTest s huLow = r
  simp only [State.startTest] at hr
  repeat' split at hr
  all_goals (subst hr; (simp only [and_self, (fact @State.testEnds_keep)]))







theorem State.afterDump_keep (s : State) :
    (State.afterDump s).pending = s.pending ∧ (State.afterDump s).fuses = s.fuses ∧ (State.afterDump s).free = s.free ∧ (State.afterDump s).sec.target = s.sec.target := by
  generalize hr : State.afterDump s = r
  simp only [State.afterDump] at hr
  repeat' split at hr
  all_goals (subst hr; (simp only [and_self, (fact @State.takePin_keep)]))

theorem State.dropHandover_keep (s : State) :
    (State.dropHandover s).pending = s.pending ∧ (State.dropHandover s).time = s.time ∧ (State.dropHandover s).dev = s.dev ∧ (State.dropHandover s).fuses = s.fuses ∧ (State.dropHandover s).params = s.params ∧ (State.dropHandover s).host = s.host ∧ (State.dropHandover s).nvm = s.nvm ∧ (State.dropHandover s).land = s.land ∧ (State.dropHandover s).map = s.map ∧ (State.dropHandover s).media = s.media ∧ (State.dropHandover s).flash = s.flash ∧ (State.dropHandover s).cache = s.cache ∧ (State.dropHandover s).plp = s.plp ∧ (State.dropHandover s).dram = s.dram ∧ (State.dropHandover s).pwr = s.pwr ∧ (State.dropHandover s).sec = s.sec ∧ (State.dropHandover s).naile = s.naile ∧ (State.dropHandover s).nor = s.nor ∧ (State.dropHandover s).tally = s.tally ∧ (State.dropHandover s).bus = s.bus ∧ (State.dropHandover s).free = s.free := by
  generalize hr : State.dropHandover s = r
  simp only [State.dropHandover] at hr
  repeat' split at hr
  all_goals (subst hr; (simp only [and_self]))



theorem State.torn_keep (s : State) (why : Nat) (slab : Nat) :
    (State.torn s why slab).pending = s.pending ∧ (State.torn s why slab).time = s.time ∧ (State.torn s why slab).dev = s.dev ∧ (State.torn s why slab).fuses = s.fuses ∧ (State.torn s why slab).params = s.params ∧ (State.torn s why slab).host = s.host ∧ (State.torn s why slab).nvm = s.nvm ∧ (State.torn s why slab).land = s.land ∧ (State.torn s why slab).map = s.map ∧ (State.torn s why slab).media = s.media ∧ (State.torn s why slab).flash = s.flash ∧ (State.torn s why slab).cache = s.cache ∧ (State.torn s why slab).dram = s.dram ∧ (State.torn s why slab).pwr = s.pwr ∧ (State.torn s why slab).sec = s.sec ∧ (State.torn s why slab).nor = s.nor ∧ (State.torn s why slab).bus = s.bus ∧ (State.torn s why slab).free = s.free := by
  generalize hr : State.torn s why slab = r
  simp only [State.torn] at hr
  repeat' split at hr
  all_goals (subst hr; (simp only [and_self, (fact @State.record_calm), sevDebug, sevInfo, sevNotice, sevWarning, sevError, sevCritical, ne_eq, Nat.reduceEqDiff, not_false_eq_true]))

theorem State.enterGroup_keep {s : State} {nsid : Nat} {ys : List CSlot} {cover : Nat × Nat} {b : State}
    (h : s.enterGroup nsid ys cover = some b) : b = { s with cache := b.cache } := by
  simp only [State.enterGroup] at h
  split at h
  · cases h
  · injection h with h
    subst h
    rfl


theorem enterItems_keep (d : ReplayDamage) (l : List ReplayItem) (s : State) :
    (enterItems d l s).1 = { s with cache := (enterItems d l s).1.cache } := by
  induction l generalizing s with
  | nil => rfl
  | cons x t ih =>
    generalize hr : enterItems d (x :: t) s = r
    simp only [enterItems] at hr
    split at hr
    · subst hr; rfl
    · next s1 h1 =>
      subst hr
      dsimp only
      have e : s1 = { s with cache := s1.cache } := by
        split at h1
        · injection h1 with h1; subst h1; rfl
        · exact State.enterGroup_keep h1
      have e2 := ih s1
      generalize enterItems d t s1 = r at e2
      obtain ⟨r, l⟩ := r
      dsimp only at e2 ⊢
      rw [e2, e]


theorem State.reportLost_keep (s : State) (d : ReplayDamage) (xs : List ReplayItem) : (s.reportLost d xs).pending = s.pending ∧ (s.reportLost d xs).time = s.time ∧ (s.reportLost d xs).dev = s.dev ∧ (s.reportLost d xs).fuses = s.fuses ∧ (s.reportLost d xs).params = s.params ∧ (s.reportLost d xs).host = s.host ∧ (s.reportLost d xs).nvm = s.nvm ∧ (s.reportLost d xs).land = s.land ∧ (s.reportLost d xs).map = s.map ∧ (s.reportLost d xs).media = s.media ∧ (s.reportLost d xs).flash = s.flash ∧ (s.reportLost d xs).cache = s.cache ∧ (s.reportLost d xs).plp = s.plp ∧ (s.reportLost d xs).dram = s.dram ∧ (s.reportLost d xs).pwr = s.pwr ∧ (s.reportLost d xs).sec = s.sec ∧ (s.reportLost d xs).nor = s.nor ∧ (s.reportLost d xs).bus = s.bus ∧ (s.reportLost d xs).free = s.free := by
  have h1 : ∀ (a : State) (k : Nat × Nat × Nat × Bool) (n c : Nat), (if n = 0 then a else a.record sevCritical 0x0E06 c k.2.2.1 n).pending = a.pending ∧ (if n = 0 then a else a.record sevCritical 0x0E06 c k.2.2.1 n).time = a.time ∧ (if n = 0 then a else a.record sevCritical 0x0E06 c k.2.2.1 n).dev = a.dev ∧ (if n = 0 then a else a.record sevCritical 0x0E06 c k.2.2.1 n).fuses = a.fuses ∧ (if n = 0 then a else a.record sevCritical 0x0E06 c k.2.2.1 n).params = a.params ∧ (if n = 0 then a else a.record sevCritical 0x0E06 c k.2.2.1 n).host = a.host ∧ (if n = 0 then a else a.record sevCritical 0x0E06 c k.2.2.1 n).nvm = a.nvm ∧ (if n = 0 then a else a.record sevCritical 0x0E06 c k.2.2.1 n).land = a.land ∧ (if n = 0 then a else a.record sevCritical 0x0E06 c k.2.2.1 n).map = a.map ∧ (if n = 0 then a else a.record sevCritical 0x0E06 c k.2.2.1 n).media = a.media ∧ (if n = 0 then a else a.record sevCritical 0x0E06 c k.2.2.1 n).flash = a.flash ∧ (if n = 0 then a else a.record sevCritical 0x0E06 c k.2.2.1 n).cache = a.cache ∧ (if n = 0 then a else a.record sevCritical 0x0E06 c k.2.2.1 n).plp = a.plp ∧ (if n = 0 then a else a.record sevCritical 0x0E06 c k.2.2.1 n).dram = a.dram ∧ (if n = 0 then a else a.record sevCritical 0x0E06 c k.2.2.1 n).pwr = a.pwr ∧ (if n = 0 then a else a.record sevCritical 0x0E06 c k.2.2.1 n).sec = a.sec ∧ (if n = 0 then a else a.record sevCritical 0x0E06 c k.2.2.1 n).nor = a.nor ∧ (if n = 0 then a else a.record sevCritical 0x0E06 c k.2.2.1 n).bus = a.bus ∧ (if n = 0 then a else a.record sevCritical 0x0E06 c k.2.2.1 n).free = a.free := by
    intro a k n c
    split
    · (and_intros <;> rfl)
    · simp only [(fact @State.record_calm), sevInfo, sevNotice, sevWarning, sevError, sevCritical, ne_eq, Nat.reduceEqDiff, not_false_eq_true, and_self]
  have h2 : ∀ (a : State) (n : Nat) (o : Option Nat), (match o with
      | some l => a.recordHw srcDma sevError 0x0803 n (l % 4294967296) (l / 4294967296)
      | none => a).pending = a.pending ∧ (match o with
      | some l => a.recordHw srcDma sevError 0x0803 n (l % 4294967296) (l / 4294967296)
      | none => a).time = a.time ∧ (match o with
      | some l => a.recordHw srcDma sevError 0x0803 n (l % 4294967296) (l / 4294967296)
      | none => a).dev = a.dev ∧ (match o with
      | some l => a.recordHw srcDma sevError 0x0803 n (l % 4294967296) (l / 4294967296)
      | none => a).fuses = a.fuses ∧ (match o with
      | some l => a.recordHw srcDma sevError 0x0803 n (l % 4294967296) (l / 4294967296)
      | none => a).params = a.params ∧ (match o with
      | some l => a.recordHw srcDma sevError 0x0803 n (l % 4294967296) (l / 4294967296)
      | none => a).host = a.host ∧ (match o with
      | some l => a.recordHw srcDma sevError 0x0803 n (l % 4294967296) (l / 4294967296)
      | none => a).nvm = a.nvm ∧ (match o with
      | some l => a.recordHw srcDma sevError 0x0803 n (l % 4294967296) (l / 4294967296)
      | none => a).land = a.land ∧ (match o with
      | some l => a.recordHw srcDma sevError 0x0803 n (l % 4294967296) (l / 4294967296)
      | none => a).map = a.map ∧ (match o with
      | some l => a.recordHw srcDma sevError 0x0803 n (l % 4294967296) (l / 4294967296)
      | none => a).media = a.media ∧ (match o with
      | some l => a.recordHw srcDma sevError 0x0803 n (l % 4294967296) (l / 4294967296)
      | none => a).flash = a.flash ∧ (match o with
      | some l => a.recordHw srcDma sevError 0x0803 n (l % 4294967296) (l / 4294967296)
      | none => a).cache = a.cache ∧ (match o with
      | some l => a.recordHw srcDma sevError 0x0803 n (l % 4294967296) (l / 4294967296)
      | none => a).plp = a.plp ∧ (match o with
      | some l => a.recordHw srcDma sevError 0x0803 n (l % 4294967296) (l / 4294967296)
      | none => a).dram = a.dram ∧ (match o with
      | some l => a.recordHw srcDma sevError 0x0803 n (l % 4294967296) (l / 4294967296)
      | none => a).pwr = a.pwr ∧ (match o with
      | some l => a.recordHw srcDma sevError 0x0803 n (l % 4294967296) (l / 4294967296)
      | none => a).sec = a.sec ∧ (match o with
      | some l => a.recordHw srcDma sevError 0x0803 n (l % 4294967296) (l / 4294967296)
      | none => a).nor = a.nor ∧ (match o with
      | some l => a.recordHw srcDma sevError 0x0803 n (l % 4294967296) (l / 4294967296)
      | none => a).bus = a.bus ∧ (match o with
      | some l => a.recordHw srcDma sevError 0x0803 n (l % 4294967296) (l / 4294967296)
      | none => a).free = a.free := by
    intro a n o
    cases o with
    | some l => simp only [(fact @State.recordHw_calm), sevInfo, sevNotice, sevWarning, sevError, sevCritical, ne_eq, Nat.reduceEqDiff, not_false_eq_true, and_self]
    | none => (and_intros <;> rfl)
  exact ktrans_18 (kfold_18 (fun a x b hb => hb ▸ h2 _ _ _) _ _) (kfold_18 (fun a k b hb => hb ▸ h1 _ _ _ _) _ _)


theorem State.replayGroups_keep (s : State) (d : ReplayDamage) :
    (s.replayGroups d).pending = s.pending ∧ (s.replayGroups d).time = s.time ∧ (s.replayGroups d).fuses = s.fuses ∧ (s.replayGroups d).params = s.params ∧ (s.replayGroups d).map = s.map ∧ (s.replayGroups d).dram = s.dram ∧ (s.replayGroups d).pwr = s.pwr ∧ (s.replayGroups d).sec = s.sec ∧ (s.replayGroups d).nor = s.nor ∧ (s.replayGroups d).free = s.free := by
  generalize hr : s.replayGroups d = r
  simp only [State.replayGroups] at hr
  have e := enterItems_keep d (s.plp.replayItems.drop s.plp.replayed) s
  generalize enterItems d (s.plp.replayItems.drop s.plp.replayed) s = q at e hr
  obtain ⟨s1, l⟩ := q
  dsimp only at e hr
  rw [e] at hr
  repeat' split at hr
  all_goals (subst hr; simp only [(fact @State.recheckPlp_keep), (fact @State.eraseReplayed_keep), (fact @State.freeGroups_keep), (fact @State.reportLost_keep), and_self])


theorem State.checkHeld_keep (s : State) (d : ReplayDamage) : (s.checkHeld d).pending = s.pending ∧ (s.checkHeld d).time = s.time ∧ (s.checkHeld d).dev = s.dev ∧ (s.checkHeld d).fuses = s.fuses ∧ (s.checkHeld d).params = s.params ∧ (s.checkHeld d).host = s.host ∧ (s.checkHeld d).nvm = s.nvm ∧ (s.checkHeld d).land = s.land ∧ (s.checkHeld d).map = s.map ∧ (s.checkHeld d).media = s.media ∧ (s.checkHeld d).flash = s.flash ∧ (s.checkHeld d).dram = s.dram ∧ (s.checkHeld d).pwr = s.pwr ∧ (s.checkHeld d).sec = s.sec ∧ (s.checkHeld d).nor = s.nor ∧ (s.checkHeld d).bus = s.bus ∧ (s.checkHeld d).free = s.free := by
  generalize hr : s.checkHeld d = r
  simp only [State.checkHeld] at hr
  subst hr
  have h1 : ∀ (l : List (Nat × Bool)) (a : State), (l.foldl (fun (a : State) (e : Nat × Bool) => a.torn 1 e.1) a).pending = a.pending ∧ (l.foldl (fun (a : State) (e : Nat × Bool) => a.torn 1 e.1) a).time = a.time ∧ (l.foldl (fun (a : State) (e : Nat × Bool) => a.torn 1 e.1) a).dev = a.dev ∧ (l.foldl (fun (a : State) (e : Nat × Bool) => a.torn 1 e.1) a).fuses = a.fuses ∧ (l.foldl (fun (a : State) (e : Nat × Bool) => a.torn 1 e.1) a).params = a.params ∧ (l.foldl (fun (a : State) (e : Nat × Bool) => a.torn 1 e.1) a).host = a.host ∧ (l.foldl (fun (a : State) (e : Nat × Bool) => a.torn 1 e.1) a).nvm = a.nvm ∧ (l.foldl (fun (a : State) (e : Nat × Bool) => a.torn 1 e.1) a).land = a.land ∧ (l.foldl (fun (a : State) (e : Nat × Bool) => a.torn 1 e.1) a).map = a.map ∧ (l.foldl (fun (a : State) (e : Nat × Bool) => a.torn 1 e.1) a).media = a.media ∧ (l.foldl (fun (a : State) (e : Nat × Bool) => a.torn 1 e.1) a).flash = a.flash ∧ (l.foldl (fun (a : State) (e : Nat × Bool) => a.torn 1 e.1) a).dram = a.dram ∧ (l.foldl (fun (a : State) (e : Nat × Bool) => a.torn 1 e.1) a).pwr = a.pwr ∧ (l.foldl (fun (a : State) (e : Nat × Bool) => a.torn 1 e.1) a).sec = a.sec ∧ (l.foldl (fun (a : State) (e : Nat × Bool) => a.torn 1 e.1) a).nor = a.nor ∧ (l.foldl (fun (a : State) (e : Nat × Bool) => a.torn 1 e.1) a).bus = a.bus ∧ (l.foldl (fun (a : State) (e : Nat × Bool) => a.torn 1 e.1) a).free = a.free := fun l a =>
    kfold_19 (fun a g b hb => by subst hb; simp only [(fact @State.torn_keep), and_self]) l a
  have h2 : ∀ (l : List (Nat × Nat)) (a : State), (l.foldl (fun (a : State) (x : Nat × Nat) => a.recordHw srcDma sevError 0x0803 x.1 (x.2 % 4294967296) (x.2 / 4294967296)) a).pending = a.pending ∧ (l.foldl (fun (a : State) (x : Nat × Nat) => a.recordHw srcDma sevError 0x0803 x.1 (x.2 % 4294967296) (x.2 / 4294967296)) a).time = a.time ∧ (l.foldl (fun (a : State) (x : Nat × Nat) => a.recordHw srcDma sevError 0x0803 x.1 (x.2 % 4294967296) (x.2 / 4294967296)) a).dev = a.dev ∧ (l.foldl (fun (a : State) (x : Nat × Nat) => a.recordHw srcDma sevError 0x0803 x.1 (x.2 % 4294967296) (x.2 / 4294967296)) a).fuses = a.fuses ∧ (l.foldl (fun (a : State) (x : Nat × Nat) => a.recordHw srcDma sevError 0x0803 x.1 (x.2 % 4294967296) (x.2 / 4294967296)) a).params = a.params ∧ (l.foldl (fun (a : State) (x : Nat × Nat) => a.recordHw srcDma sevError 0x0803 x.1 (x.2 % 4294967296) (x.2 / 4294967296)) a).host = a.host ∧ (l.foldl (fun (a : State) (x : Nat × Nat) => a.recordHw srcDma sevError 0x0803 x.1 (x.2 % 4294967296) (x.2 / 4294967296)) a).nvm = a.nvm ∧ (l.foldl (fun (a : State) (x : Nat × Nat) => a.recordHw srcDma sevError 0x0803 x.1 (x.2 % 4294967296) (x.2 / 4294967296)) a).land = a.land ∧ (l.foldl (fun (a : State) (x : Nat × Nat) => a.recordHw srcDma sevError 0x0803 x.1 (x.2 % 4294967296) (x.2 / 4294967296)) a).map = a.map ∧ (l.foldl (fun (a : State) (x : Nat × Nat) => a.recordHw srcDma sevError 0x0803 x.1 (x.2 % 4294967296) (x.2 / 4294967296)) a).media = a.media ∧ (l.foldl (fun (a : State) (x : Nat × Nat) => a.recordHw srcDma sevError 0x0803 x.1 (x.2 % 4294967296) (x.2 / 4294967296)) a).flash = a.flash ∧ (l.foldl (fun (a : State) (x : Nat × Nat) => a.recordHw srcDma sevError 0x0803 x.1 (x.2 % 4294967296) (x.2 / 4294967296)) a).dram = a.dram ∧ (l.foldl (fun (a : State) (x : Nat × Nat) => a.recordHw srcDma sevError 0x0803 x.1 (x.2 % 4294967296) (x.2 / 4294967296)) a).pwr = a.pwr ∧ (l.foldl (fun (a : State) (x : Nat × Nat) => a.recordHw srcDma sevError 0x0803 x.1 (x.2 % 4294967296) (x.2 / 4294967296)) a).sec = a.sec ∧ (l.foldl (fun (a : State) (x : Nat × Nat) => a.recordHw srcDma sevError 0x0803 x.1 (x.2 % 4294967296) (x.2 / 4294967296)) a).nor = a.nor ∧ (l.foldl (fun (a : State) (x : Nat × Nat) => a.recordHw srcDma sevError 0x0803 x.1 (x.2 % 4294967296) (x.2 / 4294967296)) a).bus = a.bus ∧ (l.foldl (fun (a : State) (x : Nat × Nat) => a.recordHw srcDma sevError 0x0803 x.1 (x.2 % 4294967296) (x.2 / 4294967296)) a).free = a.free := fun l a =>
    kfold_19 (fun a g b hb => by subst hb; simp only [(fact @State.recordHw_calm), sevInfo, sevNotice, sevWarning, sevError, sevCritical, ne_eq, Nat.reduceEqDiff, not_false_eq_true, and_self]) l a
  exact ktrans_19 (h1 _ _) (ktrans_19 (h2 _ _) (by and_intros <;> rfl))


theorem State.chooseReplay_keep (s : State) (d : ReplayDamage) :
    (State.chooseReplay s d).pending = s.pending ∧ (State.chooseReplay s d).time = s.time ∧ (State.chooseReplay s d).dev = s.dev ∧ (State.chooseReplay s d).fuses = s.fuses ∧ (State.chooseReplay s d).params = s.params ∧ (State.chooseReplay s d).host = s.host ∧ (State.chooseReplay s d).nvm = s.nvm ∧ (State.chooseReplay s d).land = s.land ∧ (State.chooseReplay s d).map = s.map ∧ (State.chooseReplay s d).media = s.media ∧ (State.chooseReplay s d).flash = s.flash ∧ (State.chooseReplay s d).dram = s.dram ∧ (State.chooseReplay s d).pwr = s.pwr ∧ (State.chooseReplay s d).sec = s.sec ∧ (State.chooseReplay s d).nor = s.nor ∧ (State.chooseReplay s d).bus = s.bus ∧ (State.chooseReplay s d).free = s.free := by
  generalize hr : State.chooseReplay s d = r
  simp only [State.chooseReplay] at hr
  repeat' split at hr
  all_goals (subst hr; (simp only [and_self, (fact @State.checkHeld_keep), (fact @State.torn_keep)]))


theorem actionFor_keep2 {id v : Nat} {a : Action} (h : actionFor id v = some a) :
    Quiet3 a.act ∧ Quiet3 a.noted := by
  simp only [actionFor] at h
  repeat' split at h
  all_goals
    first
    | (cases h; done)
    | (injection h with h; subst h
       refine ⟨fun s => ?_, fun s => ?_⟩ <;>
       simp only [actRekey, actRelease, actDegraded, actRetrain, actTest, actTestNow, actHandover, actSeal, actSvn, (fact @State.newLeaseKey_keep), (fact @State.releaseWrites_keep),
         (fact @State.startTest_keep), (fact @State.askHandover_keep), (fact @State.burnSeal_keep), (fact @State.noteConflict_keep), (fact @State.commitSvn_keep), id_eq, and_self])
theorem State.runReconfig_keep2 (s : State) (f : Frame) (r : ReconfigRec) :
    (s.runReconfig f r).pending = s.pending ∧ (s.runReconfig f r).time = s.time ∧ (s.runReconfig f r).free = s.free := by
  generalize hq : s.runReconfig f r = q
  simp only [State.runReconfig] at hq
  repeat' split at hq
  all_goals
    first
    | (subst hq; simp only [(fact @State.rejected_keep), (fact @State.naileFail_keep), (fact @State.takeRecord_keep), and_self]; done)
    | (have h := ‹actionFor _ _ = some _›
       subst hq
       exact State.runAction_keep2 _ _ _ _ _ (actionFor_keep2 h).1 (actionFor_keep2 h).2)



theorem State.runParamRead_keep (s : State) (f : Frame) (id : Nat) (inst : Nat) :
    (State.runParamRead s f id inst).pending = s.pending ∧ (State.runParamRead s f id inst).time = s.time ∧ (State.runParamRead s f id inst).dev = s.dev ∧ (State.runParamRead s f id inst).fuses = s.fuses ∧ (State.runParamRead s f id inst).params = s.params ∧ (State.runParamRead s f id inst).host = s.host ∧ (State.runParamRead s f id inst).nvm = s.nvm ∧ (State.runParamRead s f id inst).land = s.land ∧ (State.runParamRead s f id inst).map = s.map ∧ (State.runParamRead s f id inst).media = s.media ∧ (State.runParamRead s f id inst).flash = s.flash ∧ (State.runParamRead s f id inst).cache = s.cache ∧ (State.runParamRead s f id inst).plp = s.plp ∧ (State.runParamRead s f id inst).dram = s.dram ∧ (State.runParamRead s f id inst).pwr = s.pwr ∧ (State.runParamRead s f id inst).sec = s.sec ∧ (State.runParamRead s f id inst).mgmt = s.mgmt ∧ (State.runParamRead s f id inst).nor = s.nor ∧ (State.runParamRead s f id inst).tally = s.tally ∧ (State.runParamRead s f id inst).bus = s.bus ∧ (State.runParamRead s f id inst).free = s.free := by
  generalize hr : State.runParamRead s f id inst = r
  simp only [State.runParamRead] at hr
  repeat' split at hr
  all_goals (subst hr; (simp only [and_self, (fact @State.naileFail_keep), (fact @State.naileOk_keep)]))


theorem State.runWindowRead_keep (s : State) (f : Frame) (id : Nat) (inst : Nat) :
    (State.runWindowRead s f id inst).pending = s.pending ∧ (State.runWindowRead s f id inst).time = s.time ∧ (State.runWindowRead s f id inst).dev = s.dev ∧ (State.runWindowRead s f id inst).fuses = s.fuses ∧ (State.runWindowRead s f id inst).params = s.params ∧ (State.runWindowRead s f id inst).host = s.host ∧ (State.runWindowRead s f id inst).nvm = s.nvm ∧ (State.runWindowRead s f id inst).land = s.land ∧ (State.runWindowRead s f id inst).map = s.map ∧ (State.runWindowRead s f id inst).media = s.media ∧ (State.runWindowRead s f id inst).flash = s.flash ∧ (State.runWindowRead s f id inst).cache = s.cache ∧ (State.runWindowRead s f id inst).plp = s.plp ∧ (State.runWindowRead s f id inst).dram = s.dram ∧ (State.runWindowRead s f id inst).pwr = s.pwr ∧ (State.runWindowRead s f id inst).sec = s.sec ∧ (State.runWindowRead s f id inst).mgmt = s.mgmt ∧ (State.runWindowRead s f id inst).nor = s.nor ∧ (State.runWindowRead s f id inst).tally = s.tally ∧ (State.runWindowRead s f id inst).bus = s.bus ∧ (State.runWindowRead s f id inst).free = s.free := by
  generalize hr : State.runWindowRead s f id inst = r
  simp only [State.runWindowRead] at hr
  repeat' split at hr
  all_goals (subst hr; (simp only [and_self, (fact @State.naileFail_keep), (fact @State.naileOk_keep)]))







theorem State.tap_keep (s : State) (ir : Byte) (out : Dword) :
    (State.tap s ir out).pending = s.pending ∧ (State.tap s ir out).time = s.time ∧ (State.tap s ir out).dev = s.dev ∧ (State.tap s ir out).fuses = s.fuses ∧ (State.tap s ir out).params = s.params ∧ (State.tap s ir out).host = s.host ∧ (State.tap s ir out).nvm = s.nvm ∧ (State.tap s ir out).land = s.land ∧ (State.tap s ir out).map = s.map ∧ (State.tap s ir out).media = s.media ∧ (State.tap s ir out).flash = s.flash ∧ (State.tap s ir out).cache = s.cache ∧ (State.tap s ir out).plp = s.plp ∧ (State.tap s ir out).dram = s.dram ∧ (State.tap s ir out).pwr = s.pwr ∧ (State.tap s ir out).mgmt = s.mgmt ∧ (State.tap s ir out).naile = s.naile ∧ (State.tap s ir out).nor = s.nor ∧ (State.tap s ir out).tally = s.tally ∧ (State.tap s ir out).bus = s.bus ∧ (State.tap s ir out).free = s.free ∧ (State.tap s ir out).sec.target = s.sec.target := by
  generalize hr : State.tap s ir out = r
  simp only [State.tap] at hr
  repeat' split at hr
  all_goals (subst hr; (simp only [and_self]))

theorem State.tapBypass_keep (s : State) :
    (State.tapBypass s).pending = s.pending ∧ (State.tapBypass s).time = s.time ∧ (State.tapBypass s).dev = s.dev ∧ (State.tapBypass s).fuses = s.fuses ∧ (State.tapBypass s).params = s.params ∧ (State.tapBypass s).host = s.host ∧ (State.tapBypass s).nvm = s.nvm ∧ (State.tapBypass s).land = s.land ∧ (State.tapBypass s).map = s.map ∧ (State.tapBypass s).media = s.media ∧ (State.tapBypass s).flash = s.flash ∧ (State.tapBypass s).cache = s.cache ∧ (State.tapBypass s).plp = s.plp ∧ (State.tapBypass s).dram = s.dram ∧ (State.tapBypass s).pwr = s.pwr ∧ (State.tapBypass s).mgmt = s.mgmt ∧ (State.tapBypass s).naile = s.naile ∧ (State.tapBypass s).nor = s.nor ∧ (State.tapBypass s).tally = s.tally ∧ (State.tapBypass s).bus = s.bus ∧ (State.tapBypass s).free = s.free ∧ (State.tapBypass s).sec.target = s.sec.target := by
  generalize hr : State.tapBypass s = r
  simp only [State.tapBypass] at hr
  repeat' split at hr
  all_goals (subst hr; (simp only [and_self, (fact @State.tap_keep)]))

theorem State.tapCapture_keep (s : State) (ir : Byte) :
    (State.tapCapture s ir).pending = s.pending ∧ (State.tapCapture s ir).time = s.time ∧ (State.tapCapture s ir).dev = s.dev ∧ (State.tapCapture s ir).fuses = s.fuses ∧ (State.tapCapture s ir).params = s.params ∧ (State.tapCapture s ir).host = s.host ∧ (State.tapCapture s ir).nvm = s.nvm ∧ (State.tapCapture s ir).land = s.land ∧ (State.tapCapture s ir).map = s.map ∧ (State.tapCapture s ir).media = s.media ∧ (State.tapCapture s ir).flash = s.flash ∧ (State.tapCapture s ir).cache = s.cache ∧ (State.tapCapture s ir).plp = s.plp ∧ (State.tapCapture s ir).dram = s.dram ∧ (State.tapCapture s ir).pwr = s.pwr ∧ (State.tapCapture s ir).mgmt = s.mgmt ∧ (State.tapCapture s ir).naile = s.naile ∧ (State.tapCapture s ir).nor = s.nor ∧ (State.tapCapture s ir).tally = s.tally ∧ (State.tapCapture s ir).bus = s.bus ∧ (State.tapCapture s ir).sec.target = s.sec.target := by
  generalize hr : State.tapCapture s ir = r
  simp only [State.tapCapture] at hr
  repeat' split at hr
  all_goals (subst hr; (simp only [and_self, (fact @State.draw_keep), (fact @State.tap_keep)]))









theorem State.runChallenge_keep (s : State) (f : Frame) :
    (State.runChallenge s f).pending = s.pending ∧ (State.runChallenge s f).time = s.time ∧ (State.runChallenge s f).dev = s.dev ∧ (State.runChallenge s f).fuses = s.fuses ∧ (State.runChallenge s f).params = s.params ∧ (State.runChallenge s f).host = s.host ∧ (State.runChallenge s f).nvm = s.nvm ∧ (State.runChallenge s f).land = s.land ∧ (State.runChallenge s f).map = s.map ∧ (State.runChallenge s f).media = s.media ∧ (State.runChallenge s f).flash = s.flash ∧ (State.runChallenge s f).cache = s.cache ∧ (State.runChallenge s f).plp = s.plp ∧ (State.runChallenge s f).dram = s.dram ∧ (State.runChallenge s f).pwr = s.pwr ∧ (State.runChallenge s f).nor = s.nor ∧ (State.runChallenge s f).bus = s.bus ∧ (State.runChallenge s f).sec.target = s.sec.target := by
  generalize hr : State.runChallenge s f = r
  simp only [State.runChallenge] at hr
  repeat' split at hr
  all_goals (subst hr; (simp only [and_self, (fact @State.draw_keep), (fact @State.naileOk_keep), (fact @State.refuseToken_keep)]))


theorem State.runOpen_keep (s : State) (f : Frame) (t : DebugToken) :
    (State.runOpen s f t).pending = s.pending ∧ (State.runOpen s f t).time = s.time ∧ (State.runOpen s f t).params = s.params ∧ (State.runOpen s f t).media = s.media ∧ (State.runOpen s f t).cache = s.cache ∧ (State.runOpen s f t).plp = s.plp ∧ (State.runOpen s f t).dram = s.dram ∧ (State.runOpen s f t).pwr = s.pwr ∧ (State.runOpen s f t).nor = s.nor ∧ (State.runOpen s f t).bus = s.bus ∧ (State.runOpen s f t).free = s.free := by
  generalize hr : State.runOpen s f t = r
  simp only [State.runOpen] at hr
  repeat' split at hr
  all_goals (subst hr; (simp only [and_self, (fact @State.beginRma_keep), (fact @State.naileOk_keep), (fact @State.openSession_keep), (fact @State.refuseToken_keep)]))


theorem State.runClose_keep (s : State) (f : Frame) :
    (State.runClose s f).pending = s.pending ∧ (State.runClose s f).time = s.time ∧ (State.runClose s f).dev = s.dev ∧ (State.runClose s f).fuses = s.fuses ∧ (State.runClose s f).params = s.params ∧ (State.runClose s f).host = s.host ∧ (State.runClose s f).nvm = s.nvm ∧ (State.runClose s f).land = s.land ∧ (State.runClose s f).map = s.map ∧ (State.runClose s f).media = s.media ∧ (State.runClose s f).flash = s.flash ∧ (State.runClose s f).cache = s.cache ∧ (State.runClose s f).plp = s.plp ∧ (State.runClose s f).dram = s.dram ∧ (State.runClose s f).pwr = s.pwr ∧ (State.runClose s f).nor = s.nor ∧ (State.runClose s f).bus = s.bus ∧ (State.runClose s f).free = s.free ∧ (State.runClose s f).sec.target = s.sec.target := by
  generalize hr : State.runClose s f = r
  simp only [State.runClose] at hr
  repeat' split at hr
  all_goals (subst hr; (simp only [and_self, (fact @State.closeSession_keep), (fact @State.naileOk_keep), (fact @State.refuseToken_keep)]))







theorem State.runTallyRead_keep (s : State) (f : Frame) (tier : Nat) (count : Nat) (start : Nat) :
    (State.runTallyRead s f tier count start).pending = s.pending ∧ (State.runTallyRead s f tier count start).time = s.time ∧ (State.runTallyRead s f tier count start).dev = s.dev ∧ (State.runTallyRead s f tier count start).fuses = s.fuses ∧ (State.runTallyRead s f tier count start).params = s.params ∧ (State.runTallyRead s f tier count start).host = s.host ∧ (State.runTallyRead s f tier count start).nvm = s.nvm ∧ (State.runTallyRead s f tier count start).land = s.land ∧ (State.runTallyRead s f tier count start).map = s.map ∧ (State.runTallyRead s f tier count start).media = s.media ∧ (State.runTallyRead s f tier count start).flash = s.flash ∧ (State.runTallyRead s f tier count start).cache = s.cache ∧ (State.runTallyRead s f tier count start).plp = s.plp ∧ (State.runTallyRead s f tier count start).dram = s.dram ∧ (State.runTallyRead s f tier count start).pwr = s.pwr ∧ (State.runTallyRead s f tier count start).sec = s.sec ∧ (State.runTallyRead s f tier count start).mgmt = s.mgmt ∧ (State.runTallyRead s f tier count start).nor = s.nor ∧ (State.runTallyRead s f tier count start).tally = s.tally ∧ (State.runTallyRead s f tier count start).bus = s.bus ∧ (State.runTallyRead s f tier count start).free = s.free := by
  generalize hr : State.runTallyRead s f tier count start = r
  simp only [State.runTallyRead] at hr
  repeat' split at hr
  all_goals (subst hr; (simp only [and_self, (fact @State.naileFail_keep), (fact @State.naileOk_keep)]))


theorem State.runHealthRead_keep (s : State) (f : Frame) (page : Nat) :
    (State.runHealthRead s f page).pending = s.pending ∧ (State.runHealthRead s f page).time = s.time ∧ (State.runHealthRead s f page).dev = s.dev ∧ (State.runHealthRead s f page).fuses = s.fuses ∧ (State.runHealthRead s f page).params = s.params ∧ (State.runHealthRead s f page).host = s.host ∧ (State.runHealthRead s f page).nvm = s.nvm ∧ (State.runHealthRead s f page).land = s.land ∧ (State.runHealthRead s f page).map = s.map ∧ (State.runHealthRead s f page).media = s.media ∧ (State.runHealthRead s f page).flash = s.flash ∧ (State.runHealthRead s f page).cache = s.cache ∧ (State.runHealthRead s f page).plp = s.plp ∧ (State.runHealthRead s f page).dram = s.dram ∧ (State.runHealthRead s f page).pwr = s.pwr ∧ (State.runHealthRead s f page).sec = s.sec ∧ (State.runHealthRead s f page).nor = s.nor ∧ (State.runHealthRead s f page).tally = s.tally ∧ (State.runHealthRead s f page).bus = s.bus ∧ (State.runHealthRead s f page).free = s.free := by
  generalize hr : State.runHealthRead s f page = r
  simp only [State.runHealthRead] at hr
  repeat' split at hr
  all_goals (subst hr; (simp only [and_self, (fact @State.naileFail_keep), (fact @State.naileOk_keep), (fact @State.snapshot_keep)]))


theorem State.runRawDiag_keep (s : State) (f : Frame) (p : Ploc) (offset : Nat) (length : Nat) :
    (State.runRawDiag s f p offset length).pending = s.pending ∧ (State.runRawDiag s f p offset length).time = s.time ∧ (State.runRawDiag s f p offset length).dev = s.dev ∧ (State.runRawDiag s f p offset length).fuses = s.fuses ∧ (State.runRawDiag s f p offset length).params = s.params ∧ (State.runRawDiag s f p offset length).host = s.host ∧ (State.runRawDiag s f p offset length).nvm = s.nvm ∧ (State.runRawDiag s f p offset length).land = s.land ∧ (State.runRawDiag s f p offset length).map = s.map ∧ (State.runRawDiag s f p offset length).media = s.media ∧ (State.runRawDiag s f p offset length).cache = s.cache ∧ (State.runRawDiag s f p offset length).plp = s.plp ∧ (State.runRawDiag s f p offset length).dram = s.dram ∧ (State.runRawDiag s f p offset length).pwr = s.pwr ∧ (State.runRawDiag s f p offset length).sec = s.sec ∧ (State.runRawDiag s f p offset length).mgmt = s.mgmt ∧ (State.runRawDiag s f p offset length).nor = s.nor ∧ (State.runRawDiag s f p offset length).tally = s.tally ∧ (State.runRawDiag s f p offset length).bus = s.bus ∧ (State.runRawDiag s f p offset length).free = s.free := by
  generalize hr : State.runRawDiag s f p offset length = r
  simp only [State.runRawDiag] at hr
  repeat' split at hr
  all_goals (subst hr; (simp only [and_self, (fact @State.addOp_keep), (fact @State.naileFail_keep), (fact @State.rawOutcome_keep)]))


theorem State.runRecoveryStatus_keep (s : State) (f : Frame) :
    (State.runRecoveryStatus s f).pending = s.pending ∧ (State.runRecoveryStatus s f).time = s.time ∧ (State.runRecoveryStatus s f).dev = s.dev ∧ (State.runRecoveryStatus s f).fuses = s.fuses ∧ (State.runRecoveryStatus s f).params = s.params ∧ (State.runRecoveryStatus s f).host = s.host ∧ (State.runRecoveryStatus s f).nvm = s.nvm ∧ (State.runRecoveryStatus s f).land = s.land ∧ (State.runRecoveryStatus s f).map = s.map ∧ (State.runRecoveryStatus s f).media = s.media ∧ (State.runRecoveryStatus s f).flash = s.flash ∧ (State.runRecoveryStatus s f).cache = s.cache ∧ (State.runRecoveryStatus s f).plp = s.plp ∧ (State.runRecoveryStatus s f).dram = s.dram ∧ (State.runRecoveryStatus s f).pwr = s.pwr ∧ (State.runRecoveryStatus s f).sec = s.sec ∧ (State.runRecoveryStatus s f).mgmt = s.mgmt ∧ (State.runRecoveryStatus s f).nor = s.nor ∧ (State.runRecoveryStatus s f).tally = s.tally ∧ (State.runRecoveryStatus s f).bus = s.bus ∧ (State.runRecoveryStatus s f).free = s.free := by
  generalize hr : State.runRecoveryStatus s f = r
  simp only [State.runRecoveryStatus] at hr
  repeat' split at hr
  all_goals (subst hr; (simp only [and_self, (fact @State.naileOk_keep)]))



theorem State.abandonUpdate_keep (s : State) :
    (State.abandonUpdate s).pending = s.pending ∧ (State.abandonUpdate s).time = s.time ∧ (State.abandonUpdate s).dev = s.dev ∧ (State.abandonUpdate s).fuses = s.fuses ∧ (State.abandonUpdate s).params = s.params ∧ (State.abandonUpdate s).host = s.host ∧ (State.abandonUpdate s).nvm = s.nvm ∧ (State.abandonUpdate s).land = s.land ∧ (State.abandonUpdate s).map = s.map ∧ (State.abandonUpdate s).media = s.media ∧ (State.abandonUpdate s).flash = s.flash ∧ (State.abandonUpdate s).cache = s.cache ∧ (State.abandonUpdate s).plp = s.plp ∧ (State.abandonUpdate s).dram = s.dram ∧ (State.abandonUpdate s).pwr = s.pwr ∧ (State.abandonUpdate s).sec = s.sec ∧ (State.abandonUpdate s).mgmt = s.mgmt ∧ (State.abandonUpdate s).naile = s.naile ∧ (State.abandonUpdate s).tally = s.tally ∧ (State.abandonUpdate s).bus = s.bus ∧ (State.abandonUpdate s).free = s.free := by
  generalize hr : State.abandonUpdate s = r
  simp only [State.abandonUpdate] at hr
  repeat' split at hr
  all_goals (subst hr; (simp only [and_self]))

theorem State.norRefuse_keep (s : State) :
    (State.norRefuse s).pending = s.pending ∧ (State.norRefuse s).time = s.time ∧ (State.norRefuse s).dev = s.dev ∧ (State.norRefuse s).fuses = s.fuses ∧ (State.norRefuse s).params = s.params ∧ (State.norRefuse s).host = s.host ∧ (State.norRefuse s).nvm = s.nvm ∧ (State.norRefuse s).land = s.land ∧ (State.norRefuse s).map = s.map ∧ (State.norRefuse s).media = s.media ∧ (State.norRefuse s).flash = s.flash ∧ (State.norRefuse s).cache = s.cache ∧ (State.norRefuse s).plp = s.plp ∧ (State.norRefuse s).dram = s.dram ∧ (State.norRefuse s).pwr = s.pwr ∧ (State.norRefuse s).sec = s.sec ∧ (State.norRefuse s).bus = s.bus ∧ (State.norRefuse s).free = s.free := by
  generalize hr : State.norRefuse s = r
  simp only [State.norRefuse] at hr
  repeat' split at hr
  all_goals (subst hr; (simp only [and_self, (fact @State.abandonUpdate_keep), (fact @State.record_calm), sevDebug, sevInfo, sevNotice, sevWarning, sevError, sevCritical, ne_eq, Nat.reduceEqDiff, not_false_eq_true]))

theorem State.chunkOk_keep (s : State) (f : Frame) :
    (State.chunkOk s f).pending = s.pending ∧ (State.chunkOk s f).time = s.time ∧ (State.chunkOk s f).dev = s.dev ∧ (State.chunkOk s f).fuses = s.fuses ∧ (State.chunkOk s f).params = s.params ∧ (State.chunkOk s f).host = s.host ∧ (State.chunkOk s f).nvm = s.nvm ∧ (State.chunkOk s f).land = s.land ∧ (State.chunkOk s f).map = s.map ∧ (State.chunkOk s f).media = s.media ∧ (State.chunkOk s f).flash = s.flash ∧ (State.chunkOk s f).cache = s.cache ∧ (State.chunkOk s f).plp = s.plp ∧ (State.chunkOk s f).dram = s.dram ∧ (State.chunkOk s f).pwr = s.pwr ∧ (State.chunkOk s f).sec = s.sec ∧ (State.chunkOk s f).mgmt = s.mgmt ∧ (State.chunkOk s f).nor = s.nor ∧ (State.chunkOk s f).tally = s.tally ∧ (State.chunkOk s f).bus = s.bus ∧ (State.chunkOk s f).free = s.free := by
  generalize hr : State.chunkOk s f = r
  simp only [State.chunkOk] at hr
  repeat' split at hr
  all_goals (subst hr; (simp only [and_self, (fact @State.naileOk_keep)]))

theorem State.chunkIn_keep (s : State) (f : Frame) :
    (State.chunkIn s f).pending = s.pending ∧ (State.chunkIn s f).time = s.time ∧ (State.chunkIn s f).dev = s.dev ∧ (State.chunkIn s f).fuses = s.fuses ∧ (State.chunkIn s f).params = s.params ∧ (State.chunkIn s f).host = s.host ∧ (State.chunkIn s f).nvm = s.nvm ∧ (State.chunkIn s f).land = s.land ∧ (State.chunkIn s f).map = s.map ∧ (State.chunkIn s f).media = s.media ∧ (State.chunkIn s f).flash = s.flash ∧ (State.chunkIn s f).cache = s.cache ∧ (State.chunkIn s f).plp = s.plp ∧ (State.chunkIn s f).dram = s.dram ∧ (State.chunkIn s f).pwr = s.pwr ∧ (State.chunkIn s f).sec = s.sec ∧ (State.chunkIn s f).mgmt = s.mgmt ∧ (State.chunkIn s f).nor = s.nor ∧ (State.chunkIn s f).tally = s.tally ∧ (State.chunkIn s f).bus = s.bus ∧ (State.chunkIn s f).free = s.free := by
  generalize hr : State.chunkIn s f = r
  simp only [State.chunkIn] at hr
  repeat' split at hr
  all_goals (subst hr; (simp only [and_self, (fact @State.chunkOk_keep)]))

theorem State.activate_keep (s : State) (h : ImageHeader) (mgmtNow : Bool) (ftlNow : Bool) :
    (State.activate s h mgmtNow ftlNow).pending = s.pending ∧ (State.activate s h mgmtNow ftlNow).time = s.time ∧ (State.activate s h mgmtNow ftlNow).dev = s.dev ∧ (State.activate s h mgmtNow ftlNow).fuses = s.fuses ∧ (State.activate s h mgmtNow ftlNow).params = s.params ∧ (State.activate s h mgmtNow ftlNow).land = s.land ∧ (State.activate s h mgmtNow ftlNow).map = s.map ∧ (State.activate s h mgmtNow ftlNow).media = s.media ∧ (State.activate s h mgmtNow ftlNow).flash = s.flash ∧ (State.activate s h mgmtNow ftlNow).cache = s.cache ∧ (State.activate s h mgmtNow ftlNow).plp = s.plp ∧ (State.activate s h mgmtNow ftlNow).dram = s.dram ∧ (State.activate s h mgmtNow ftlNow).sec = s.sec ∧ (State.activate s h mgmtNow ftlNow).naile = s.naile ∧ (State.activate s h mgmtNow ftlNow).tally = s.tally ∧ (State.activate s h mgmtNow ftlNow).bus = s.bus ∧ (State.activate s h mgmtNow ftlNow).free = s.free := by
  generalize hr : State.activate s h mgmtNow ftlNow = r
  simp only [State.activate] at hr
  repeat' split at hr
  all_goals (subst hr; (simp only [and_self, (fact @State.askHandover_keep)]))

theorem State.commitOk_keep (s : State) (f : Frame) (cfgDef : Bool) :
    (State.commitOk s f cfgDef).pending = s.pending ∧ (State.commitOk s f cfgDef).time = s.time ∧ (State.commitOk s f cfgDef).dev = s.dev ∧ (State.commitOk s f cfgDef).fuses = s.fuses ∧ (State.commitOk s f cfgDef).params = s.params ∧ (State.commitOk s f cfgDef).host = s.host ∧ (State.commitOk s f cfgDef).nvm = s.nvm ∧ (State.commitOk s f cfgDef).land = s.land ∧ (State.commitOk s f cfgDef).map = s.map ∧ (State.commitOk s f cfgDef).media = s.media ∧ (State.commitOk s f cfgDef).flash = s.flash ∧ (State.commitOk s f cfgDef).cache = s.cache ∧ (State.commitOk s f cfgDef).plp = s.plp ∧ (State.commitOk s f cfgDef).dram = s.dram ∧ (State.commitOk s f cfgDef).pwr = s.pwr ∧ (State.commitOk s f cfgDef).sec = s.sec ∧ (State.commitOk s f cfgDef).mgmt = s.mgmt ∧ (State.commitOk s f cfgDef).nor = s.nor ∧ (State.commitOk s f cfgDef).tally = s.tally ∧ (State.commitOk s f cfgDef).bus = s.bus ∧ (State.commitOk s f cfgDef).free = s.free := by
  generalize hr : State.commitOk s f cfgDef = r
  simp only [State.commitOk] at hr
  repeat' split at hr
  all_goals (subst hr; (simp only [and_self, (fact @State.naileOk_keep)]))

theorem State.runImageBegin_keep (s : State) (f : Frame) (target : Nat) (length : Nat) :
    (State.runImageBegin s f target length).pending = s.pending ∧ (State.runImageBegin s f target length).time = s.time ∧ (State.runImageBegin s f target length).dev = s.dev ∧ (State.runImageBegin s f target length).fuses = s.fuses ∧ (State.runImageBegin s f target length).params = s.params ∧ (State.runImageBegin s f target length).host = s.host ∧ (State.runImageBegin s f target length).nvm = s.nvm ∧ (State.runImageBegin s f target length).land = s.land ∧ (State.runImageBegin s f target length).map = s.map ∧ (State.runImageBegin s f target length).media = s.media ∧ (State.runImageBegin s f target length).flash = s.flash ∧ (State.runImageBegin s f target length).cache = s.cache ∧ (State.runImageBegin s f target length).plp = s.plp ∧ (State.runImageBegin s f target length).dram = s.dram ∧ (State.runImageBegin s f target length).pwr = s.pwr ∧ (State.runImageBegin s f target length).sec = s.sec ∧ (State.runImageBegin s f target length).mgmt = s.mgmt ∧ (State.runImageBegin s f target length).tally = s.tally ∧ (State.runImageBegin s f target length).bus = s.bus ∧ (State.runImageBegin s f target length).free = s.free := by
  generalize hr : State.runImageBegin s f target length = r
  simp only [State.runImageBegin] at hr
  repeat' split at hr
  all_goals (subst hr; (simp only [and_self, (fact @State.naileFail_keep), (fact @State.naileOk_keep)]))


theorem State.runImageChunk_keep (s : State) (f : Frame) (offset : Nat) (count : Nat) (hdr : Option StreamHeader) (norFails : Bool) :
    (State.runImageChunk s f offset count hdr norFails).pending = s.pending ∧ (State.runImageChunk s f offset count hdr norFails).time = s.time ∧ (State.runImageChunk s f offset count hdr norFails).dev = s.dev ∧ (State.runImageChunk s f offset count hdr norFails).fuses = s.fuses ∧ (State.runImageChunk s f offset count hdr norFails).params = s.params ∧ (State.runImageChunk s f offset count hdr norFails).host = s.host ∧ (State.runImageChunk s f offset count hdr norFails).nvm = s.nvm ∧ (State.runImageChunk s f offset count hdr norFails).land = s.land ∧ (State.runImageChunk s f offset count hdr norFails).map = s.map ∧ (State.runImageChunk s f offset count hdr norFails).media = s.media ∧ (State.runImageChunk s f offset count hdr norFails).flash = s.flash ∧ (State.runImageChunk s f offset count hdr norFails).cache = s.cache ∧ (State.runImageChunk s f offset count hdr norFails).plp = s.plp ∧ (State.runImageChunk s f offset count hdr norFails).dram = s.dram ∧ (State.runImageChunk s f offset count hdr norFails).pwr = s.pwr ∧ (State.runImageChunk s f offset count hdr norFails).sec = s.sec ∧ (State.runImageChunk s f offset count hdr norFails).mgmt = s.mgmt ∧ (State.runImageChunk s f offset count hdr norFails).tally = s.tally ∧ (State.runImageChunk s f offset count hdr norFails).bus = s.bus ∧ (State.runImageChunk s f offset count hdr norFails).free = s.free := by
  generalize hr : State.runImageChunk s f offset count hdr norFails = r
  simp only [State.runImageChunk] at hr
  repeat' split at hr
  all_goals (subst hr; (simp only [and_self, (fact @State.abandonUpdate_keep), (fact @State.chunkIn_keep), (fact @State.naileFail_keep)]))


theorem State.lateSector_keep (s : State) :
    (State.lateSector s).pending = s.pending ∧ (State.lateSector s).time = s.time ∧ (State.lateSector s).dev = s.dev ∧ (State.lateSector s).fuses = s.fuses ∧ (State.lateSector s).params = s.params ∧ (State.lateSector s).host = s.host ∧ (State.lateSector s).nvm = s.nvm ∧ (State.lateSector s).land = s.land ∧ (State.lateSector s).map = s.map ∧ (State.lateSector s).media = s.media ∧ (State.lateSector s).flash = s.flash ∧ (State.lateSector s).cache = s.cache ∧ (State.lateSector s).plp = s.plp ∧ (State.lateSector s).dram = s.dram ∧ (State.lateSector s).pwr = s.pwr ∧ (State.lateSector s).sec = s.sec ∧ (State.lateSector s).mgmt = s.mgmt ∧ (State.lateSector s).nor = s.nor ∧ (State.lateSector s).tally = s.tally ∧ (State.lateSector s).bus = s.bus ∧ (State.lateSector s).free = s.free := by
  generalize hr : State.lateSector s = r
  simp only [State.lateSector] at hr
  repeat' split at hr
  all_goals (subst hr; (simp only [and_self, (fact @State.naileFail_keep)]))

theorem State.sectorEnds_keep (s : State) (ok : Bool) :
    (State.sectorEnds s ok).pending = s.pending ∧ (State.sectorEnds s ok).time = s.time ∧ (State.sectorEnds s ok).dev = s.dev ∧ (State.sectorEnds s ok).fuses = s.fuses ∧ (State.sectorEnds s ok).params = s.params ∧ (State.sectorEnds s ok).host = s.host ∧ (State.sectorEnds s ok).nvm = s.nvm ∧ (State.sectorEnds s ok).land = s.land ∧ (State.sectorEnds s ok).map = s.map ∧ (State.sectorEnds s ok).media = s.media ∧ (State.sectorEnds s ok).flash = s.flash ∧ (State.sectorEnds s ok).cache = s.cache ∧ (State.sectorEnds s ok).plp = s.plp ∧ (State.sectorEnds s ok).dram = s.dram ∧ (State.sectorEnds s ok).pwr = s.pwr ∧ (State.sectorEnds s ok).sec = s.sec ∧ (State.sectorEnds s ok).bus = s.bus ∧ (State.sectorEnds s ok).free = s.free := by
  generalize hr : State.sectorEnds s ok = r
  simp only [State.sectorEnds] at hr
  repeat' split at hr
  all_goals (subst hr; (simp only [and_self, (fact @State.abandonUpdate_keep), (fact @State.chunkIn_keep), (fact @State.naileFail_keep), (fact @State.norRefuse_keep)]))


theorem State.runImageEnd_keep (s : State) (f : Frame) (norFails : Bool) (digestOk : Bool) :
    (State.runImageEnd s f norFails digestOk).pending = s.pending ∧ (State.runImageEnd s f norFails digestOk).time = s.time ∧ (State.runImageEnd s f norFails digestOk).dev = s.dev ∧ (State.runImageEnd s f norFails digestOk).fuses = s.fuses ∧ (State.runImageEnd s f norFails digestOk).params = s.params ∧ (State.runImageEnd s f norFails digestOk).host = s.host ∧ (State.runImageEnd s f norFails digestOk).nvm = s.nvm ∧ (State.runImageEnd s f norFails digestOk).land = s.land ∧ (State.runImageEnd s f norFails digestOk).map = s.map ∧ (State.runImageEnd s f norFails digestOk).media = s.media ∧ (State.runImageEnd s f norFails digestOk).flash = s.flash ∧ (State.runImageEnd s f norFails digestOk).cache = s.cache ∧ (State.runImageEnd s f norFails digestOk).plp = s.plp ∧ (State.runImageEnd s f norFails digestOk).dram = s.dram ∧ (State.runImageEnd s f norFails digestOk).pwr = s.pwr ∧ (State.runImageEnd s f norFails digestOk).sec = s.sec ∧ (State.runImageEnd s f norFails digestOk).bus = s.bus ∧ (State.runImageEnd s f norFails digestOk).free = s.free := by
  generalize hr : State.runImageEnd s f norFails digestOk = r
  simp only [State.runImageEnd] at hr
  repeat' split at hr
  all_goals (subst hr; (simp only [and_self, (fact @State.abandonUpdate_keep), (fact @State.naileFail_keep), (fact @State.naileOk_keep), (fact @State.norRefuse_keep)]))



theorem State.runCommitImage_keep (s : State) (f : Frame) (mgmtNow : Bool) (ftlNow : Bool) :
    (State.runCommitImage s f mgmtNow ftlNow).pending = s.pending ∧ (State.runCommitImage s f mgmtNow ftlNow).time = s.time ∧ (State.runCommitImage s f mgmtNow ftlNow).dev = s.dev ∧ (State.runCommitImage s f mgmtNow ftlNow).fuses = s.fuses ∧ (State.runCommitImage s f mgmtNow ftlNow).params = s.params ∧ (State.runCommitImage s f mgmtNow ftlNow).land = s.land ∧ (State.runCommitImage s f mgmtNow ftlNow).map = s.map ∧ (State.runCommitImage s f mgmtNow ftlNow).media = s.media ∧ (State.runCommitImage s f mgmtNow ftlNow).flash = s.flash ∧ (State.runCommitImage s f mgmtNow ftlNow).cache = s.cache ∧ (State.runCommitImage s f mgmtNow ftlNow).plp = s.plp ∧ (State.runCommitImage s f mgmtNow ftlNow).dram = s.dram ∧ (State.runCommitImage s f mgmtNow ftlNow).sec = s.sec ∧ (State.runCommitImage s f mgmtNow ftlNow).tally = s.tally ∧ (State.runCommitImage s f mgmtNow ftlNow).bus = s.bus ∧ (State.runCommitImage s f mgmtNow ftlNow).free = s.free := by
  generalize hr : State.runCommitImage s f mgmtNow ftlNow = r
  simp only [State.runCommitImage] at hr
  repeat' split at hr
  all_goals (subst hr; (simp only [and_self, (fact @State.activate_keep), (fact @State.commitOk_keep), (fact @State.naileFail_keep)]))


theorem State.runCommitConfiguration_keep (s : State) (f : Frame) (mgmtNow : Bool) (ftlNow : Bool) :
    (State.runCommitConfiguration s f mgmtNow ftlNow).pending = s.pending ∧ (State.runCommitConfiguration s f mgmtNow ftlNow).time = s.time ∧ (State.runCommitConfiguration s f mgmtNow ftlNow).dev = s.dev ∧ (State.runCommitConfiguration s f mgmtNow ftlNow).fuses = s.fuses ∧ (State.runCommitConfiguration s f mgmtNow ftlNow).params = s.params ∧ (State.runCommitConfiguration s f mgmtNow ftlNow).host = s.host ∧ (State.runCommitConfiguration s f mgmtNow ftlNow).nvm = s.nvm ∧ (State.runCommitConfiguration s f mgmtNow ftlNow).land = s.land ∧ (State.runCommitConfiguration s f mgmtNow ftlNow).map = s.map ∧ (State.runCommitConfiguration s f mgmtNow ftlNow).media = s.media ∧ (State.runCommitConfiguration s f mgmtNow ftlNow).flash = s.flash ∧ (State.runCommitConfiguration s f mgmtNow ftlNow).cache = s.cache ∧ (State.runCommitConfiguration s f mgmtNow ftlNow).plp = s.plp ∧ (State.runCommitConfiguration s f mgmtNow ftlNow).dram = s.dram ∧ (State.runCommitConfiguration s f mgmtNow ftlNow).pwr = s.pwr ∧ (State.runCommitConfiguration s f mgmtNow ftlNow).sec = s.sec ∧ (State.runCommitConfiguration s f mgmtNow ftlNow).mgmt = s.mgmt ∧ (State.runCommitConfiguration s f mgmtNow ftlNow).tally = s.tally ∧ (State.runCommitConfiguration s f mgmtNow ftlNow).bus = s.bus ∧ (State.runCommitConfiguration s f mgmtNow ftlNow).free = s.free := by
  generalize hr : State.runCommitConfiguration s f mgmtNow ftlNow = r
  simp only [State.runCommitConfiguration] at hr
  repeat' split at hr
  all_goals (subst hr; (simp only [and_self, (fact @State.commitOk_keep), (fact @State.naileFail_keep)]))


theorem State.runRaiseFloor_keep (s : State) (f : Frame) :
    (State.runRaiseFloor s f).pending = s.pending ∧ (State.runRaiseFloor s f).time = s.time ∧ (State.runRaiseFloor s f).dev = s.dev ∧ (State.runRaiseFloor s f).fuses = s.fuses ∧ (State.runRaiseFloor s f).params = s.params ∧ (State.runRaiseFloor s f).host = s.host ∧ (State.runRaiseFloor s f).nvm = s.nvm ∧ (State.runRaiseFloor s f).land = s.land ∧ (State.runRaiseFloor s f).map = s.map ∧ (State.runRaiseFloor s f).media = s.media ∧ (State.runRaiseFloor s f).flash = s.flash ∧ (State.runRaiseFloor s f).cache = s.cache ∧ (State.runRaiseFloor s f).plp = s.plp ∧ (State.runRaiseFloor s f).dram = s.dram ∧ (State.runRaiseFloor s f).pwr = s.pwr ∧ (State.runRaiseFloor s f).sec = s.sec ∧ (State.runRaiseFloor s f).bus = s.bus ∧ (State.runRaiseFloor s f).free = s.free := by
  generalize hr : State.runRaiseFloor s f = r
  simp only [State.runRaiseFloor] at hr
  repeat' split at hr
  all_goals (subst hr; (simp only [and_self, (fact @State.commitOk_keep), (fact @State.naileFail_keep), (fact @State.record_calm), sevDebug, sevInfo, sevNotice, sevWarning, sevError, sevCritical, ne_eq, Nat.reduceEqDiff, not_false_eq_true]))


theorem State.runRestoreSpare_keep (s : State) (f : Frame) (norFails : Bool) :
    (State.runRestoreSpare s f norFails).pending = s.pending ∧ (State.runRestoreSpare s f norFails).time = s.time ∧ (State.runRestoreSpare s f norFails).dev = s.dev ∧ (State.runRestoreSpare s f norFails).fuses = s.fuses ∧ (State.runRestoreSpare s f norFails).params = s.params ∧ (State.runRestoreSpare s f norFails).host = s.host ∧ (State.runRestoreSpare s f norFails).nvm = s.nvm ∧ (State.runRestoreSpare s f norFails).land = s.land ∧ (State.runRestoreSpare s f norFails).map = s.map ∧ (State.runRestoreSpare s f norFails).media = s.media ∧ (State.runRestoreSpare s f norFails).flash = s.flash ∧ (State.runRestoreSpare s f norFails).cache = s.cache ∧ (State.runRestoreSpare s f norFails).plp = s.plp ∧ (State.runRestoreSpare s f norFails).dram = s.dram ∧ (State.runRestoreSpare s f norFails).pwr = s.pwr ∧ (State.runRestoreSpare s f norFails).sec = s.sec ∧ (State.runRestoreSpare s f norFails).mgmt = s.mgmt ∧ (State.runRestoreSpare s f norFails).tally = s.tally ∧ (State.runRestoreSpare s f norFails).bus = s.bus ∧ (State.runRestoreSpare s f norFails).free = s.free := by
  generalize hr : State.runRestoreSpare s f norFails = r
  simp only [State.runRestoreSpare] at hr
  repeat' split at hr
  all_goals (subst hr; (simp only [and_self, (fact @State.abandonUpdate_keep), (fact @State.commitOk_keep), (fact @State.naileFail_keep)]))


theorem State.closeStrays_keep (s : State) :
    (State.closeStrays s).pending = s.pending ∧ (State.closeStrays s).time = s.time ∧ (State.closeStrays s).dev = s.dev ∧ (State.closeStrays s).fuses = s.fuses ∧ (State.closeStrays s).params = s.params ∧ (State.closeStrays s).host = s.host ∧ (State.closeStrays s).nvm = s.nvm ∧ (State.closeStrays s).plp = s.plp ∧ (State.closeStrays s).dram = s.dram ∧ (State.closeStrays s).pwr = s.pwr ∧ (State.closeStrays s).sec = s.sec ∧ (State.closeStrays s).mgmt = s.mgmt ∧ (State.closeStrays s).naile = s.naile ∧ (State.closeStrays s).nor = s.nor ∧ (State.closeStrays s).bus = s.bus ∧ (State.closeStrays s).free = s.free := by
  generalize hr : State.closeStrays s = r
  simp only [State.closeStrays] at hr
  repeat' split at hr
  all_goals (subst hr; (first | (simp only [and_self, (fact @State.closeRow_keep)]; done) | (and_intros <;> (repeat' first | (simp only [and_self, (fact @State.closeRow_keep)]; done) | (simp only [and_self, (fact @State.closeRow_keep)]) | (split at hb) | (subst hb; simp only [and_self, (fact @State.closeRow_keep)]) | (refine (foldl_pending (fun _ _ _ hb => ?_) _ _).trans ?_) | (refine (foldl_time (fun _ _ _ hb => ?_) _ _).trans ?_) | (refine (foldl_dev (fun _ _ _ hb => ?_) _ _).trans ?_) | (refine (foldl_fuses (fun _ _ _ hb => ?_) _ _).trans ?_) | (refine (foldl_params (fun _ _ _ hb => ?_) _ _).trans ?_) | (refine (foldl_host (fun _ _ _ hb => ?_) _ _).trans ?_) | (refine (foldl_nvm (fun _ _ _ hb => ?_) _ _).trans ?_) | (refine (foldl_plp (fun _ _ _ hb => ?_) _ _).trans ?_) | (refine (foldl_dram (fun _ _ _ hb => ?_) _ _).trans ?_) | (refine (foldl_pwr (fun _ _ _ hb => ?_) _ _).trans ?_) | (refine (foldl_sec (fun _ _ _ hb => ?_) _ _).trans ?_) | (refine (foldl_mgmt (fun _ _ _ hb => ?_) _ _).trans ?_) | (refine (foldl_naile (fun _ _ _ hb => ?_) _ _).trans ?_) | (refine (foldl_nor (fun _ _ _ hb => ?_) _ _).trans ?_) | (refine (foldl_bus (fun _ _ _ hb => ?_) _ _).trans ?_) | (refine (foldl_free (fun _ _ _ hb => ?_) _ _).trans ?_) | split))))

theorem State.moveRegions_keep (s : State) :
    (State.moveRegions s).pending = s.pending ∧ (State.moveRegions s).time = s.time ∧ (State.moveRegions s).dev = s.dev ∧ (State.moveRegions s).fuses = s.fuses ∧ (State.moveRegions s).params = s.params ∧ (State.moveRegions s).host = s.host ∧ (State.moveRegions s).nvm = s.nvm ∧ (State.moveRegions s).land = s.land ∧ (State.moveRegions s).map = s.map ∧ (State.moveRegions s).flash = s.flash ∧ (State.moveRegions s).cache = s.cache ∧ (State.moveRegions s).plp = s.plp ∧ (State.moveRegions s).dram = s.dram ∧ (State.moveRegions s).pwr = s.pwr ∧ (State.moveRegions s).sec = s.sec ∧ (State.moveRegions s).mgmt = s.mgmt ∧ (State.moveRegions s).naile = s.naile ∧ (State.moveRegions s).nor = s.nor ∧ (State.moveRegions s).tally = s.tally ∧ (State.moveRegions s).bus = s.bus ∧ (State.moveRegions s).free = s.free := by
  generalize hr : State.moveRegions s = r
  simp only [State.moveRegions] at hr
  repeat' split at hr
  all_goals (subst hr; (first | (simp only [and_self]; done) | (and_intros <;> (repeat' first | (simp only [and_self]; done) | (simp only [and_self]) | (split at hb) | (subst hb; simp only [and_self]) | (refine (foldl_pending (fun _ _ _ hb => ?_) _ _).trans ?_) | (refine (foldl_time (fun _ _ _ hb => ?_) _ _).trans ?_) | (refine (foldl_dev (fun _ _ _ hb => ?_) _ _).trans ?_) | (refine (foldl_fuses (fun _ _ _ hb => ?_) _ _).trans ?_) | (refine (foldl_params (fun _ _ _ hb => ?_) _ _).trans ?_) | (refine (foldl_host (fun _ _ _ hb => ?_) _ _).trans ?_) | (refine (foldl_nvm (fun _ _ _ hb => ?_) _ _).trans ?_) | (refine (foldl_land (fun _ _ _ hb => ?_) _ _).trans ?_) | (refine (foldl_map (fun _ _ _ hb => ?_) _ _).trans ?_) | (refine (foldl_flash (fun _ _ _ hb => ?_) _ _).trans ?_) | (refine (foldl_cache (fun _ _ _ hb => ?_) _ _).trans ?_) | (refine (foldl_plp (fun _ _ _ hb => ?_) _ _).trans ?_) | (refine (foldl_dram (fun _ _ _ hb => ?_) _ _).trans ?_) | (refine (foldl_pwr (fun _ _ _ hb => ?_) _ _).trans ?_) | (refine (foldl_sec (fun _ _ _ hb => ?_) _ _).trans ?_) | (refine (foldl_mgmt (fun _ _ _ hb => ?_) _ _).trans ?_) | (refine (foldl_naile (fun _ _ _ hb => ?_) _ _).trans ?_) | (refine (foldl_nor (fun _ _ _ hb => ?_) _ _).trans ?_) | (refine (foldl_tally (fun _ _ _ hb => ?_) _ _).trans ?_) | (refine (foldl_bus (fun _ _ _ hb => ?_) _ _).trans ?_) | (refine (foldl_free (fun _ _ _ hb => ?_) _ _).trans ?_) | split))))

theorem State.moveVictims_keep (s : State) : (s.moveVictims).pending = s.pending ∧ (s.moveVictims).time = s.time ∧ (s.moveVictims).dev = s.dev ∧ (s.moveVictims).fuses = s.fuses ∧ (s.moveVictims).params = s.params ∧ (s.moveVictims).host = s.host ∧ (s.moveVictims).nvm = s.nvm ∧ (s.moveVictims).map = s.map ∧ (s.moveVictims).flash = s.flash ∧ (s.moveVictims).cache = s.cache ∧ (s.moveVictims).plp = s.plp ∧ (s.moveVictims).dram = s.dram ∧ (s.moveVictims).pwr = s.pwr ∧ (s.moveVictims).sec = s.sec ∧ (s.moveVictims).mgmt = s.mgmt ∧ (s.moveVictims).naile = s.naile ∧ (s.moveVictims).nor = s.nor ∧ (s.moveVictims).bus = s.bus ∧ (s.moveVictims).free = s.free := by
  generalize hr : s.moveVictims = r
  rw [State.moveVictims] at hr
  subst hr
  refine kfold_20 (fun a g b hb => ?_) _ _
  subst hb
  refine kfold_20 (fun a v b hb => ?_) _ _
  subst hb
  simp only [(fact @State.backToClosed_keep), and_self]


theorem State.dropDump_keep (s : State) (g : Nat) (w : Nat) :
    (State.dropDump s g w).pending = s.pending ∧ (State.dropDump s g w).time = s.time ∧ (State.dropDump s g w).dev = s.dev ∧ (State.dropDump s g w).fuses = s.fuses ∧ (State.dropDump s g w).params = s.params ∧ (State.dropDump s g w).host = s.host ∧ (State.dropDump s g w).nvm = s.nvm ∧ (State.dropDump s g w).land = s.land ∧ (State.dropDump s g w).map = s.map ∧ (State.dropDump s g w).flash = s.flash ∧ (State.dropDump s g w).cache = s.cache ∧ (State.dropDump s g w).dram = s.dram ∧ (State.dropDump s g w).pwr = s.pwr ∧ (State.dropDump s g w).sec = s.sec ∧ (State.dropDump s g w).mgmt = s.mgmt ∧ (State.dropDump s g w).naile = s.naile ∧ (State.dropDump s g w).nor = s.nor ∧ (State.dropDump s g w).tally = s.tally ∧ (State.dropDump s g w).bus = s.bus ∧ (State.dropDump s g w).free = s.free := by
  generalize hr : State.dropDump s g w = r
  simp only [State.dropDump] at hr
  repeat' split at hr
  all_goals (subst hr; (simp only [and_self, (fact @State.dropSet_keep)]))

theorem State.moveDumps_keep (s : State) : (s.moveDumps).pending = s.pending ∧ (s.moveDumps).time = s.time ∧ (s.moveDumps).dev = s.dev ∧ (s.moveDumps).fuses = s.fuses ∧ (s.moveDumps).params = s.params ∧ (s.moveDumps).host = s.host ∧ (s.moveDumps).nvm = s.nvm ∧ (s.moveDumps).land = s.land ∧ (s.moveDumps).map = s.map ∧ (s.moveDumps).flash = s.flash ∧ (s.moveDumps).cache = s.cache ∧ (s.moveDumps).dram = s.dram ∧ (s.moveDumps).pwr = s.pwr ∧ (s.moveDumps).sec = s.sec ∧ (s.moveDumps).mgmt = s.mgmt ∧ (s.moveDumps).naile = s.naile ∧ (s.moveDumps).nor = s.nor ∧ (s.moveDumps).tally = s.tally ∧ (s.moveDumps).bus = s.bus ∧ (s.moveDumps).free = s.free := by
  rw [State.moveDumps]
  generalize List.range 8 = l
  have h := kfold_4 (f := fun (a : State) (g : Nat) => ((a.dropDump g 0).dropDump g 1).chooseDumpSets g)
    (fun a g b hb => by subst hb; simp only [(fact @State.chooseDumpSets_keep), (fact @State.dropDump_keep), and_self]) l s
  simp only [(fact @State.extendSets_keep), h, and_self]


theorem State.noteU0_keep (s : State) (d : DomId) :
    (State.noteU0 s d).pending = s.pending ∧ (State.noteU0 s d).time = s.time ∧ (State.noteU0 s d).dev = s.dev ∧ (State.noteU0 s d).fuses = s.fuses ∧ (State.noteU0 s d).params = s.params ∧ (State.noteU0 s d).host = s.host ∧ (State.noteU0 s d).nvm = s.nvm ∧ (State.noteU0 s d).land = s.land ∧ (State.noteU0 s d).map = s.map ∧ (State.noteU0 s d).flash = s.flash ∧ (State.noteU0 s d).cache = s.cache ∧ (State.noteU0 s d).plp = s.plp ∧ (State.noteU0 s d).dram = s.dram ∧ (State.noteU0 s d).pwr = s.pwr ∧ (State.noteU0 s d).sec = s.sec ∧ (State.noteU0 s d).mgmt = s.mgmt ∧ (State.noteU0 s d).naile = s.naile ∧ (State.noteU0 s d).nor = s.nor ∧ (State.noteU0 s d).tally = s.tally ∧ (State.noteU0 s d).bus = s.bus ∧ (State.noteU0 s d).free = s.free := by
  generalize hr : State.noteU0 s d = r
  simp only [State.noteU0] at hr
  repeat' split at hr
  all_goals (subst hr; (simp only [and_self]))

theorem State.dirtyStrays_keep (s : State) :
    (State.dirtyStrays s).pending = s.pending ∧ (State.dirtyStrays s).time = s.time ∧ (State.dirtyStrays s).dev = s.dev ∧ (State.dirtyStrays s).fuses = s.fuses ∧ (State.dirtyStrays s).params = s.params ∧ (State.dirtyStrays s).host = s.host ∧ (State.dirtyStrays s).nvm = s.nvm ∧ (State.dirtyStrays s).land = s.land ∧ (State.dirtyStrays s).flash = s.flash ∧ (State.dirtyStrays s).cache = s.cache ∧ (State.dirtyStrays s).plp = s.plp ∧ (State.dirtyStrays s).dram = s.dram ∧ (State.dirtyStrays s).pwr = s.pwr ∧ (State.dirtyStrays s).sec = s.sec ∧ (State.dirtyStrays s).mgmt = s.mgmt ∧ (State.dirtyStrays s).naile = s.naile ∧ (State.dirtyStrays s).nor = s.nor ∧ (State.dirtyStrays s).tally = s.tally ∧ (State.dirtyStrays s).bus = s.bus ∧ (State.dirtyStrays s).free = s.free := by
  generalize hr : State.dirtyStrays s = r
  simp only [State.dirtyStrays] at hr
  repeat' split at hr
  all_goals (subst hr; (first | (simp only [and_self, (fact @State.rewriteUnits_keep)]; done) | (and_intros <;> (repeat' first | (simp only [and_self, (fact @State.rewriteUnits_keep)]; done) | (simp only [and_self, (fact @State.rewriteUnits_keep)]) | (split at hb) | (subst hb; simp only [and_self, (fact @State.rewriteUnits_keep)]) | (refine (foldl_pending (fun _ _ _ hb => ?_) _ _).trans ?_) | (refine (foldl_time (fun _ _ _ hb => ?_) _ _).trans ?_) | (refine (foldl_dev (fun _ _ _ hb => ?_) _ _).trans ?_) | (refine (foldl_fuses (fun _ _ _ hb => ?_) _ _).trans ?_) | (refine (foldl_params (fun _ _ _ hb => ?_) _ _).trans ?_) | (refine (foldl_host (fun _ _ _ hb => ?_) _ _).trans ?_) | (refine (foldl_nvm (fun _ _ _ hb => ?_) _ _).trans ?_) | (refine (foldl_land (fun _ _ _ hb => ?_) _ _).trans ?_) | (refine (foldl_flash (fun _ _ _ hb => ?_) _ _).trans ?_) | (refine (foldl_cache (fun _ _ _ hb => ?_) _ _).trans ?_) | (refine (foldl_plp (fun _ _ _ hb => ?_) _ _).trans ?_) | (refine (foldl_dram (fun _ _ _ hb => ?_) _ _).trans ?_) | (refine (foldl_pwr (fun _ _ _ hb => ?_) _ _).trans ?_) | (refine (foldl_sec (fun _ _ _ hb => ?_) _ _).trans ?_) | (refine (foldl_mgmt (fun _ _ _ hb => ?_) _ _).trans ?_) | (refine (foldl_naile (fun _ _ _ hb => ?_) _ _).trans ?_) | (refine (foldl_nor (fun _ _ _ hb => ?_) _ _).trans ?_) | (refine (foldl_tally (fun _ _ _ hb => ?_) _ _).trans ?_) | (refine (foldl_bus (fun _ _ _ hb => ?_) _ _).trans ?_) | (refine (foldl_free (fun _ _ _ hb => ?_) _ _).trans ?_) | split))))

theorem State.moveRows_keep (s : State) (rows : BitVec 128) :
    (s.moveRows rows).pending = s.pending ∧ (s.moveRows rows).time = s.time ∧ (s.moveRows rows).dev = s.dev ∧ (s.moveRows rows).fuses = s.fuses ∧ (s.moveRows rows).params = s.params ∧ (s.moveRows rows).host = s.host ∧ (s.moveRows rows).nvm = s.nvm ∧ (s.moveRows rows).dram = s.dram ∧ (s.moveRows rows).pwr = s.pwr ∧ (s.moveRows rows).sec = s.sec ∧ (s.moveRows rows).mgmt = s.mgmt ∧ (s.moveRows rows).naile = s.naile ∧ (s.moveRows rows).nor = s.nor ∧ (s.moveRows rows).bus = s.bus ∧ (s.moveRows rows).free = s.free := by
  generalize hr : s.moveRows rows = r
  unfold State.moveRows at hr
  extract_lets s1 s2 s3 at hr
  have h1 : s1.pending = s.pending ∧ s1.time = s.time ∧ s1.dev = s.dev ∧ s1.fuses = s.fuses ∧ s1.params = s.params ∧ s1.host = s.host ∧ s1.nvm = s.nvm ∧ s1.dram = s.dram ∧ s1.pwr = s.pwr ∧ s1.sec = s.sec ∧ s1.mgmt = s.mgmt ∧ s1.naile = s.naile ∧ s1.nor = s.nor ∧ s1.bus = s.bus ∧ s1.free = s.free := by simp only [s1, (fact @State.moveDumps_keep), (fact @State.moveVictims_keep), (fact @State.moveRegions_keep), and_self]
  have h2 : s2.pending = s1.pending ∧ s2.time = s1.time ∧ s2.dev = s1.dev ∧ s2.fuses = s1.fuses ∧ s2.params = s1.params ∧ s2.host = s1.host ∧ s2.nvm = s1.nvm ∧ s2.dram = s1.dram ∧ s2.pwr = s1.pwr ∧ s2.sec = s1.sec ∧ s2.mgmt = s1.mgmt ∧ s2.naile = s1.naile ∧ s2.nor = s1.nor ∧ s2.bus = s1.bus ∧ s2.free = s1.free := kfold_21 (fun a g b hb => by subst hb; simp only [(fact @State.fillRegion_keep), and_self]) _ _
  have h3 : s3.pending = s2.pending ∧ s3.time = s2.time ∧ s3.dev = s2.dev ∧ s3.fuses = s2.fuses ∧ s3.params = s2.params ∧ s3.host = s2.host ∧ s3.nvm = s2.nvm ∧ s3.dram = s2.dram ∧ s3.pwr = s2.pwr ∧ s3.sec = s2.sec ∧ s3.mgmt = s2.mgmt ∧ s3.naile = s2.naile ∧ s3.nor = s2.nor ∧ s3.bus = s2.bus ∧ s3.free = s2.free := kfold_21 (fun a g b hb => by subst hb; simp only [(fact @State.noteU0_keep), and_self]) _ _
  clear_value s1 s2 s3
  subst hr
  simp only [(fact @State.clearDebts_keep), (fact @State.dirtyStrays_keep), (fact @State.closeStrays_keep), h3, h2, h1, and_self]


theorem State.standAnswer_keep (s : State) (f : Frame) (o : Option Nat) :
    (s.standAnswer f o).pending = s.pending ∧ (s.standAnswer f o).time = s.time ∧ (s.standAnswer f o).dev = s.dev ∧ (s.standAnswer f o).fuses = s.fuses ∧ (s.standAnswer f o).params = s.params ∧ (s.standAnswer f o).host = s.host ∧ (s.standAnswer f o).nvm = s.nvm ∧ (s.standAnswer f o).land = s.land ∧ (s.standAnswer f o).map = s.map ∧ (s.standAnswer f o).media = s.media ∧ (s.standAnswer f o).flash = s.flash ∧ (s.standAnswer f o).cache = s.cache ∧ (s.standAnswer f o).plp = s.plp ∧ (s.standAnswer f o).dram = s.dram ∧ (s.standAnswer f o).pwr = s.pwr ∧ (s.standAnswer f o).sec = s.sec ∧ (s.standAnswer f o).mgmt = s.mgmt ∧ (s.standAnswer f o).nor = s.nor ∧ (s.standAnswer f o).tally = s.tally ∧ (s.standAnswer f o).bus = s.bus ∧ (s.standAnswer f o).free = s.free := by
  cases o <;> simp only [State.standAnswer, (fact @State.naileOk_keep), (fact @State.naileFail_keep), and_self]



theorem State.createStand_keep (s : State) (d : StandDesc) :
    (State.createStand s d).pending = s.pending ∧ (State.createStand s d).time = s.time ∧ (State.createStand s d).dev = s.dev ∧ (State.createStand s d).fuses = s.fuses ∧ (State.createStand s d).params = s.params ∧ (State.createStand s d).host = s.host ∧ (State.createStand s d).dram = s.dram ∧ (State.createStand s d).pwr = s.pwr ∧ (State.createStand s d).sec = s.sec ∧ (State.createStand s d).mgmt = s.mgmt ∧ (State.createStand s d).naile = s.naile ∧ (State.createStand s d).nor = s.nor ∧ (State.createStand s d).bus = s.bus ∧ (State.createStand s d).free = s.free := by
  generalize hr : State.createStand s d = r
  simp only [State.createStand] at hr
  repeat' split at hr
  all_goals (subst hr; (simp only [and_self, (fact @State.moveRows_keep)]))

theorem State.runCreate_keep (s : State) (f : Frame) (d : StandDesc) :
    (State.runCreate s f d).pending = s.pending ∧ (State.runCreate s f d).time = s.time ∧ (State.runCreate s f d).dev = s.dev ∧ (State.runCreate s f d).fuses = s.fuses ∧ (State.runCreate s f d).params = s.params ∧ (State.runCreate s f d).host = s.host ∧ (State.runCreate s f d).dram = s.dram ∧ (State.runCreate s f d).pwr = s.pwr ∧ (State.runCreate s f d).sec = s.sec ∧ (State.runCreate s f d).nor = s.nor ∧ (State.runCreate s f d).bus = s.bus ∧ (State.runCreate s f d).free = s.free := by
  generalize hr : State.runCreate s f d = r
  simp only [State.runCreate] at hr
  repeat' split at hr
  all_goals (subst hr; (simp only [and_self, (fact @State.createStand_keep), (fact @State.journal_keep), (fact @State.recheckSpare_keep), (fact @State.standAnswer_keep)]))


theorem State.modifyStand_keep (s : State) (d : StandDesc) (x : StandS) :
    (State.modifyStand s d x).pending = s.pending ∧ (State.modifyStand s d x).time = s.time ∧ (State.modifyStand s d x).dev = s.dev ∧ (State.modifyStand s d x).fuses = s.fuses ∧ (State.modifyStand s d x).params = s.params ∧ (State.modifyStand s d x).host = s.host ∧ (State.modifyStand s d x).dram = s.dram ∧ (State.modifyStand s d x).pwr = s.pwr ∧ (State.modifyStand s d x).sec = s.sec ∧ (State.modifyStand s d x).mgmt = s.mgmt ∧ (State.modifyStand s d x).naile = s.naile ∧ (State.modifyStand s d x).nor = s.nor ∧ (State.modifyStand s d x).bus = s.bus ∧ (State.modifyStand s d x).free = s.free := by
  generalize hr : State.modifyStand s d x = r
  simp only [State.modifyStand] at hr
  repeat' split at hr
  all_goals (subst hr; (simp only [and_self, (fact @State.moveRows_keep), (fact @State.refillStands_keep)]))

theorem State.runModify_keep (s : State) (f : Frame) (d : StandDesc) :
    (State.runModify s f d).pending = s.pending ∧ (State.runModify s f d).time = s.time ∧ (State.runModify s f d).dev = s.dev ∧ (State.runModify s f d).fuses = s.fuses ∧ (State.runModify s f d).params = s.params ∧ (State.runModify s f d).host = s.host ∧ (State.runModify s f d).dram = s.dram ∧ (State.runModify s f d).pwr = s.pwr ∧ (State.runModify s f d).sec = s.sec ∧ (State.runModify s f d).nor = s.nor ∧ (State.runModify s f d).bus = s.bus ∧ (State.runModify s f d).free = s.free := by
  generalize hr : State.runModify s f d = r
  simp only [State.runModify] at hr
  repeat' split at hr
  all_goals (subst hr; (simp only [and_self, (fact @State.journal_keep), (fact @State.modifyStand_keep), (fact @State.recheckSpare_keep), (fact @State.standAnswer_keep)]))




theorem State.startDelete_keep (s : State) (st : Nat) :
    (State.startDelete s st).pending = s.pending ∧ (State.startDelete s st).time = s.time ∧ (State.startDelete s st).dev = s.dev ∧ (State.startDelete s st).fuses = s.fuses ∧ (State.startDelete s st).params = s.params ∧ (State.startDelete s st).host = s.host ∧ (State.startDelete s st).land = s.land ∧ (State.startDelete s st).map = s.map ∧ (State.startDelete s st).media = s.media ∧ (State.startDelete s st).flash = s.flash ∧ (State.startDelete s st).cache = s.cache ∧ (State.startDelete s st).plp = s.plp ∧ (State.startDelete s st).dram = s.dram ∧ (State.startDelete s st).pwr = s.pwr ∧ (State.startDelete s st).sec = s.sec ∧ (State.startDelete s st).mgmt = s.mgmt ∧ (State.startDelete s st).naile = s.naile ∧ (State.startDelete s st).nor = s.nor ∧ (State.startDelete s st).tally = s.tally ∧ (State.startDelete s st).bus = s.bus ∧ (State.startDelete s st).free = s.free := by
  generalize hr : State.startDelete s st = r
  simp only [State.startDelete] at hr
  repeat' split at hr
  all_goals (subst hr; (simp only [and_self]))

theorem State.runDelete_keep (s : State) (f : Frame) (d : StandDesc) :
    (State.runDelete s f d).pending = s.pending ∧ (State.runDelete s f d).time = s.time ∧ (State.runDelete s f d).dev = s.dev ∧ (State.runDelete s f d).fuses = s.fuses ∧ (State.runDelete s f d).params = s.params ∧ (State.runDelete s f d).host = s.host ∧ (State.runDelete s f d).land = s.land ∧ (State.runDelete s f d).map = s.map ∧ (State.runDelete s f d).media = s.media ∧ (State.runDelete s f d).flash = s.flash ∧ (State.runDelete s f d).cache = s.cache ∧ (State.runDelete s f d).plp = s.plp ∧ (State.runDelete s f d).dram = s.dram ∧ (State.runDelete s f d).pwr = s.pwr ∧ (State.runDelete s f d).sec = s.sec ∧ (State.runDelete s f d).nor = s.nor ∧ (State.runDelete s f d).tally = s.tally ∧ (State.runDelete s f d).bus = s.bus ∧ (State.runDelete s f d).free = s.free := by
  generalize hr : State.runDelete s f d = r
  simp only [State.runDelete] at hr
  repeat' split at hr
  all_goals (subst hr; (simp only [and_self, (fact @State.journal_keep), (fact @State.standAnswer_keep), (fact @State.startDelete_keep)]))


theorem State.standKeys_keep (s : State) (st : Nat) :
    (State.standKeys s st).pending = s.pending ∧ (State.standKeys s st).time = s.time ∧ (State.standKeys s st).dev = s.dev ∧ (State.standKeys s st).fuses = s.fuses ∧ (State.standKeys s st).params = s.params ∧ (State.standKeys s st).host = s.host ∧ (State.standKeys s st).land = s.land ∧ (State.standKeys s st).map = s.map ∧ (State.standKeys s st).media = s.media ∧ (State.standKeys s st).flash = s.flash ∧ (State.standKeys s st).cache = s.cache ∧ (State.standKeys s st).plp = s.plp ∧ (State.standKeys s st).dram = s.dram ∧ (State.standKeys s st).pwr = s.pwr ∧ (State.standKeys s st).sec = s.sec ∧ (State.standKeys s st).nor = s.nor ∧ (State.standKeys s st).bus = s.bus ∧ (State.standKeys s st).free = s.free := by
  generalize hr : State.standKeys s st = r
  simp only [State.standKeys] at hr
  repeat' split at hr
  all_goals (subst hr; (first | (simp only [and_self, (fact @State.journal_keep), (fact @State.record_calm), sevDebug, sevInfo, sevNotice, sevWarning, sevError, sevCritical, ne_eq, Nat.reduceEqDiff, not_false_eq_true]; done) | (and_intros <;> (repeat' first | (simp only [and_self, (fact @State.journal_keep), (fact @State.record_calm), sevDebug, sevInfo, sevNotice, sevWarning, sevError, sevCritical, ne_eq, Nat.reduceEqDiff, not_false_eq_true]; done) | (simp only [and_self, (fact @State.journal_keep), (fact @State.record_calm), sevDebug, sevInfo, sevNotice, sevWarning, sevError, sevCritical, ne_eq, Nat.reduceEqDiff, not_false_eq_true]) | (split at hb) | (subst hb; simp only [and_self, (fact @State.journal_keep), (fact @State.record_calm), sevDebug, sevInfo, sevNotice, sevWarning, sevError, sevCritical, ne_eq, Nat.reduceEqDiff, not_false_eq_true]) | (refine (foldl_pending (fun _ _ _ hb => ?_) _ _).trans ?_) | (refine (foldl_time (fun _ _ _ hb => ?_) _ _).trans ?_) | (refine (foldl_dev (fun _ _ _ hb => ?_) _ _).trans ?_) | (refine (foldl_fuses (fun _ _ _ hb => ?_) _ _).trans ?_) | (refine (foldl_params (fun _ _ _ hb => ?_) _ _).trans ?_) | (refine (foldl_host (fun _ _ _ hb => ?_) _ _).trans ?_) | (refine (foldl_land (fun _ _ _ hb => ?_) _ _).trans ?_) | (refine (foldl_map (fun _ _ _ hb => ?_) _ _).trans ?_) | (refine (foldl_media (fun _ _ _ hb => ?_) _ _).trans ?_) | (refine (foldl_flash (fun _ _ _ hb => ?_) _ _).trans ?_) | (refine (foldl_cache (fun _ _ _ hb => ?_) _ _).trans ?_) | (refine (foldl_plp (fun _ _ _ hb => ?_) _ _).trans ?_) | (refine (foldl_dram (fun _ _ _ hb => ?_) _ _).trans ?_) | (refine (foldl_pwr (fun _ _ _ hb => ?_) _ _).trans ?_) | (refine (foldl_sec (fun _ _ _ hb => ?_) _ _).trans ?_) | (refine (foldl_nor (fun _ _ _ hb => ?_) _ _).trans ?_) | (refine (foldl_bus (fun _ _ _ hb => ?_) _ _).trans ?_) | (refine (foldl_free (fun _ _ _ hb => ?_) _ _).trans ?_) | split))))

theorem State.standDetach_keep (s : State) (st : Nat) (x : StandS) :
    (State.standDetach s st x).pending = s.pending ∧ (State.standDetach s st x).time = s.time ∧ (State.standDetach s st x).dev = s.dev ∧ (State.standDetach s st x).fuses = s.fuses ∧ (State.standDetach s st x).params = s.params ∧ (State.standDetach s st x).map = s.map ∧ (State.standDetach s st x).media = s.media ∧ (State.standDetach s st x).flash = s.flash ∧ (State.standDetach s st x).cache = s.cache ∧ (State.standDetach s st x).plp = s.plp ∧ (State.standDetach s st x).dram = s.dram ∧ (State.standDetach s st x).pwr = s.pwr ∧ (State.standDetach s st x).sec = s.sec ∧ (State.standDetach s st x).naile = s.naile ∧ (State.standDetach s st x).nor = s.nor ∧ (State.standDetach s st x).free = s.free := by
  generalize hr : State.standDetach s st x = r
  simp only [State.standDetach] at hr
  repeat' split at hr
  all_goals (subst hr; (first | (simp only [and_self, (fact @State.journal_keep), (fact @State.nsChanged_keep)]; done) | (and_intros <;> (repeat' first | (simp only [and_self, (fact @State.journal_keep), (fact @State.nsChanged_keep)]; done) | (simp only [and_self, (fact @State.journal_keep), (fact @State.nsChanged_keep)]) | (split at hb) | (subst hb; simp only [and_self, (fact @State.journal_keep), (fact @State.nsChanged_keep)]) | (refine (foldl_pending (fun _ _ _ hb => ?_) _ _).trans ?_) | (refine (foldl_time (fun _ _ _ hb => ?_) _ _).trans ?_) | (refine (foldl_dev (fun _ _ _ hb => ?_) _ _).trans ?_) | (refine (foldl_fuses (fun _ _ _ hb => ?_) _ _).trans ?_) | (refine (foldl_params (fun _ _ _ hb => ?_) _ _).trans ?_) | (refine (foldl_map (fun _ _ _ hb => ?_) _ _).trans ?_) | (refine (foldl_media (fun _ _ _ hb => ?_) _ _).trans ?_) | (refine (foldl_flash (fun _ _ _ hb => ?_) _ _).trans ?_) | (refine (foldl_cache (fun _ _ _ hb => ?_) _ _).trans ?_) | (refine (foldl_plp (fun _ _ _ hb => ?_) _ _).trans ?_) | (refine (foldl_dram (fun _ _ _ hb => ?_) _ _).trans ?_) | (refine (foldl_pwr (fun _ _ _ hb => ?_) _ _).trans ?_) | (refine (foldl_sec (fun _ _ _ hb => ?_) _ _).trans ?_) | (refine (foldl_naile (fun _ _ _ hb => ?_) _ _).trans ?_) | (refine (foldl_nor (fun _ _ _ hb => ?_) _ _).trans ?_) | (refine (foldl_free (fun _ _ _ hb => ?_) _ _).trans ?_) | split))))

theorem State.closePoints_keep (s : State) (st : Nat) :
    (State.closePoints s st).pending = s.pending ∧ (State.closePoints s st).time = s.time ∧ (State.closePoints s st).dev = s.dev ∧ (State.closePoints s st).fuses = s.fuses ∧ (State.closePoints s st).params = s.params ∧ (State.closePoints s st).host = s.host ∧ (State.closePoints s st).nvm = s.nvm ∧ (State.closePoints s st).plp = s.plp ∧ (State.closePoints s st).dram = s.dram ∧ (State.closePoints s st).pwr = s.pwr ∧ (State.closePoints s st).sec = s.sec ∧ (State.closePoints s st).mgmt = s.mgmt ∧ (State.closePoints s st).naile = s.naile ∧ (State.closePoints s st).nor = s.nor ∧ (State.closePoints s st).bus = s.bus ∧ (State.closePoints s st).free = s.free := by
  generalize hr : State.closePoints s st = r
  simp only [State.closePoints] at hr
  repeat' split at hr
  all_goals (subst hr; (first | (simp only [and_self, (fact @State.closeRow_keep)]; done) | (and_intros <;> (repeat' first | (simp only [and_self, (fact @State.closeRow_keep)]; done) | (simp only [and_self, (fact @State.closeRow_keep)]) | (split at hb) | (subst hb; simp only [and_self, (fact @State.closeRow_keep)]) | (refine (foldl_pending (fun _ _ _ hb => ?_) _ _).trans ?_) | (refine (foldl_time (fun _ _ _ hb => ?_) _ _).trans ?_) | (refine (foldl_dev (fun _ _ _ hb => ?_) _ _).trans ?_) | (refine (foldl_fuses (fun _ _ _ hb => ?_) _ _).trans ?_) | (refine (foldl_params (fun _ _ _ hb => ?_) _ _).trans ?_) | (refine (foldl_host (fun _ _ _ hb => ?_) _ _).trans ?_) | (refine (foldl_nvm (fun _ _ _ hb => ?_) _ _).trans ?_) | (refine (foldl_plp (fun _ _ _ hb => ?_) _ _).trans ?_) | (refine (foldl_dram (fun _ _ _ hb => ?_) _ _).trans ?_) | (refine (foldl_pwr (fun _ _ _ hb => ?_) _ _).trans ?_) | (refine (foldl_sec (fun _ _ _ hb => ?_) _ _).trans ?_) | (refine (foldl_mgmt (fun _ _ _ hb => ?_) _ _).trans ?_) | (refine (foldl_naile (fun _ _ _ hb => ?_) _ _).trans ?_) | (refine (foldl_nor (fun _ _ _ hb => ?_) _ _).trans ?_) | (refine (foldl_bus (fun _ _ _ hb => ?_) _ _).trans ?_) | (refine (foldl_free (fun _ _ _ hb => ?_) _ _).trans ?_) | split))))

theorem State.standUnmap_keep (s : State) (st : Nat) :
    (State.standUnmap s st).pending = s.pending ∧ (State.standUnmap s st).time = s.time ∧ (State.standUnmap s st).dev = s.dev ∧ (State.standUnmap s st).fuses = s.fuses ∧ (State.standUnmap s st).params = s.params ∧ (State.standUnmap s st).dram = s.dram ∧ (State.standUnmap s st).pwr = s.pwr ∧ (State.standUnmap s st).sec = s.sec ∧ (State.standUnmap s st).naile = s.naile ∧ (State.standUnmap s st).nor = s.nor ∧ (State.standUnmap s st).free = s.free := by
  generalize hr : State.standUnmap s st = r
  simp only [State.standUnmap] at hr
  repeat' split at hr
  all_goals (subst hr; (simp only [and_self, (fact @State.beginOp_keep), (fact @State.closePoints_keep)]))

theorem State.standGone_keep (s : State) (st : Nat) (x : StandS) :
    (State.standGone s st x).pending = s.pending ∧ (State.standGone s st x).time = s.time ∧ (State.standGone s st x).params = s.params ∧ (State.standGone s st x).dram = s.dram ∧ (State.standGone s st x).pwr = s.pwr ∧ (State.standGone s st x).nor = s.nor ∧ (State.standGone s st x).bus = s.bus ∧ (State.standGone s st x).free = s.free := by
  generalize hr : State.standGone s st x = r
  simp only [State.standGone] at hr
  repeat' split at hr
  all_goals (subst hr; (simp only [and_self, (fact @State.journal_keep), (fact @State.moveRows_keep), (fact @State.recheckSpare_keep), (fact @State.rmaGoOn_keep)]))


theorem State.runAttach_keep (s : State) (f : Frame) (a : AttachWord) :
    (State.runAttach s f a).pending = s.pending ∧ (State.runAttach s f a).time = s.time ∧ (State.runAttach s f a).dev = s.dev ∧ (State.runAttach s f a).fuses = s.fuses ∧ (State.runAttach s f a).params = s.params ∧ (State.runAttach s f a).host = s.host ∧ (State.runAttach s f a).land = s.land ∧ (State.runAttach s f a).map = s.map ∧ (State.runAttach s f a).media = s.media ∧ (State.runAttach s f a).flash = s.flash ∧ (State.runAttach s f a).cache = s.cache ∧ (State.runAttach s f a).plp = s.plp ∧ (State.runAttach s f a).dram = s.dram ∧ (State.runAttach s f a).pwr = s.pwr ∧ (State.runAttach s f a).sec = s.sec ∧ (State.runAttach s f a).nor = s.nor ∧ (State.runAttach s f a).tally = s.tally ∧ (State.runAttach s f a).bus = s.bus ∧ (State.runAttach s f a).free = s.free := by
  generalize hr : State.runAttach s f a = r
  simp only [State.runAttach] at hr
  repeat' split at hr
  all_goals (subst hr; (simp only [and_self, (fact @State.journal_keep), (fact @State.standAnswer_keep)]))


theorem State.finishDetach_keep (s : State) (f : Frame) (c : Cntl) (st : StandNo) :
    (State.finishDetach s f c st).pending = s.pending ∧ (State.finishDetach s f c st).time = s.time ∧ (State.finishDetach s f c st).dev = s.dev ∧ (State.finishDetach s f c st).fuses = s.fuses ∧ (State.finishDetach s f c st).params = s.params ∧ (State.finishDetach s f c st).map = s.map ∧ (State.finishDetach s f c st).media = s.media ∧ (State.finishDetach s f c st).flash = s.flash ∧ (State.finishDetach s f c st).cache = s.cache ∧ (State.finishDetach s f c st).plp = s.plp ∧ (State.finishDetach s f c st).dram = s.dram ∧ (State.finishDetach s f c st).pwr = s.pwr ∧ (State.finishDetach s f c st).sec = s.sec ∧ (State.finishDetach s f c st).nor = s.nor ∧ (State.finishDetach s f c st).free = s.free := by
  generalize hr : State.finishDetach s f c st = r
  simp only [State.finishDetach] at hr
  repeat' split at hr
  all_goals (subst hr; (first | (simp only [and_self, (fact @State.detachNs_keep), (fact @State.journal_keep), (fact @State.standAnswer_keep)]; done) | (and_intros <;> (repeat' first | (simp only [and_self, (fact @State.detachNs_keep), (fact @State.journal_keep), (fact @State.standAnswer_keep)]; done) | (simp only [and_self, (fact @State.detachNs_keep), (fact @State.journal_keep), (fact @State.standAnswer_keep)]) | (split at hb) | (subst hb; simp only [and_self, (fact @State.detachNs_keep), (fact @State.journal_keep), (fact @State.standAnswer_keep)]) | (refine (foldl_pending (fun _ _ _ hb => ?_) _ _).trans ?_) | (refine (foldl_time (fun _ _ _ hb => ?_) _ _).trans ?_) | (refine (foldl_dev (fun _ _ _ hb => ?_) _ _).trans ?_) | (refine (foldl_fuses (fun _ _ _ hb => ?_) _ _).trans ?_) | (refine (foldl_params (fun _ _ _ hb => ?_) _ _).trans ?_) | (refine (foldl_map (fun _ _ _ hb => ?_) _ _).trans ?_) | (refine (foldl_media (fun _ _ _ hb => ?_) _ _).trans ?_) | (refine (foldl_flash (fun _ _ _ hb => ?_) _ _).trans ?_) | (refine (foldl_cache (fun _ _ _ hb => ?_) _ _).trans ?_) | (refine (foldl_plp (fun _ _ _ hb => ?_) _ _).trans ?_) | (refine (foldl_dram (fun _ _ _ hb => ?_) _ _).trans ?_) | (refine (foldl_pwr (fun _ _ _ hb => ?_) _ _).trans ?_) | (refine (foldl_sec (fun _ _ _ hb => ?_) _ _).trans ?_) | (refine (foldl_nor (fun _ _ _ hb => ?_) _ _).trans ?_) | (refine (foldl_free (fun _ _ _ hb => ?_) _ _).trans ?_) | split))))

theorem State.runDetach_keep (s : State) (i : Instr) (f : Frame) (a : AttachWord) :
    (State.runDetach s i f a).pending = s.pending ∧ (State.runDetach s i f a).time = s.time ∧ (State.runDetach s i f a).dev = s.dev ∧ (State.runDetach s i f a).fuses = s.fuses ∧ (State.runDetach s i f a).params = s.params ∧ (State.runDetach s i f a).map = s.map ∧ (State.runDetach s i f a).media = s.media ∧ (State.runDetach s i f a).flash = s.flash ∧ (State.runDetach s i f a).cache = s.cache ∧ (State.runDetach s i f a).plp = s.plp ∧ (State.runDetach s i f a).dram = s.dram ∧ (State.runDetach s i f a).pwr = s.pwr ∧ (State.runDetach s i f a).sec = s.sec ∧ (State.runDetach s i f a).nor = s.nor ∧ (State.runDetach s i f a).free = s.free := by
  generalize hr : State.runDetach s i f a = r
  simp only [State.runDetach] at hr
  repeat' split at hr
  all_goals (subst hr; (simp only [and_self, (fact @State.finishDetach_keep), (fact @State.standAnswer_keep)]))


theorem State.runQuery_keep (s : State) (f : Frame) (d : StandDesc) :
    (State.runQuery s f d).pending = s.pending ∧ (State.runQuery s f d).time = s.time ∧ (State.runQuery s f d).dev = s.dev ∧ (State.runQuery s f d).fuses = s.fuses ∧ (State.runQuery s f d).params = s.params ∧ (State.runQuery s f d).host = s.host ∧ (State.runQuery s f d).nvm = s.nvm ∧ (State.runQuery s f d).land = s.land ∧ (State.runQuery s f d).map = s.map ∧ (State.runQuery s f d).media = s.media ∧ (State.runQuery s f d).flash = s.flash ∧ (State.runQuery s f d).cache = s.cache ∧ (State.runQuery s f d).plp = s.plp ∧ (State.runQuery s f d).dram = s.dram ∧ (State.runQuery s f d).pwr = s.pwr ∧ (State.runQuery s f d).sec = s.sec ∧ (State.runQuery s f d).mgmt = s.mgmt ∧ (State.runQuery s f d).nor = s.nor ∧ (State.runQuery s f d).tally = s.tally ∧ (State.runQuery s f d).bus = s.bus ∧ (State.runQuery s f d).free = s.free := by
  generalize hr : State.runQuery s f d = r
  simp only [State.runQuery] at hr
  repeat' split at hr
  all_goals (subst hr; (simp only [and_self, (fact @State.naileOk_keep), (fact @State.standAnswer_keep)]))


theorem reqOf_keep2 {i : Instr} {q : Req} (h : reqOf i = some q) (s : State) : (q.run s).pending = s.pending ∧ (q.run s).time = s.time := by
  unfold reqOf at h
  split at h
  all_goals
    first
    | (cases h; done)
    | (injection h with h
       subst h
       first
       | (simp only [(fact @State.runReconfig_keep2), and_self]; done)
       | (refine (fun h => ⟨h.1, h.2.1⟩) (State.runAction_keep2 _ _ _ _ _ (fun s => ?_) (fun s => ?_)) <;>
          simp only [actRekey, actRelease, actDegraded, actRetrain, actTest, actTestNow, actHandover, actSeal, actSvn, (fact @State.newLeaseKey_keep), (fact @State.releaseWrites_keep),
         (fact @State.startTest_keep), (fact @State.askHandover_keep), (fact @State.burnSeal_keep), (fact @State.noteConflict_keep), (fact @State.commitSvn_keep), id_eq, and_self]; done)
       | (simp only [standReq, (fact @State.runCreate_keep), (fact @State.runModify_keep), (fact @State.runDelete_keep), (fact @State.runAttach_keep), (fact @State.runDetach_keep),
          (fact @State.runQuery_keep), (fact @State.runParamRead_keep), (fact @State.runWindowRead_keep), (fact @State.runImageBegin_keep), (fact @State.runImageChunk_keep),
          (fact @State.runImageEnd_keep), (fact @State.runCommitImage_keep), (fact @State.runCommitConfiguration_keep), (fact @State.runRaiseFloor_keep),
          (fact @State.runRestoreSpare_keep), (fact @State.runTallyRead_keep), (fact @State.runHealthRead_keep), (fact @State.runRawDiag_keep), (fact @State.runRecoveryStatus_keep),
          (fact @State.naileFail_keep), (fact @State.runChallenge_keep), (fact @State.runOpen_keep), (fact @State.runClose_keep), and_self]; done))
theorem State.resumeWaiting_keep (s : State) : (s.resumeWaiting).pending = s.pending ∧ (s.resumeWaiting).time = s.time := by
  generalize hr : s.resumeWaiting = r
  simp only [State.resumeWaiting, State.runRequest] at hr
  repeat' split at hr
  · subst hr; exact ⟨rfl, rfl⟩
  · subst hr; exact ⟨rfl, rfl⟩
  all_goals
    next h =>
      first
      | (subst hr; simp only [(fact @State.naileFail_keep), and_self]; done)
      | (obtain ⟨i, _, hi⟩ := Option.bind_eq_some_iff.mp ‹s.naile.waiting.bind reqOf = some _›
         subst hr
         exact reqOf_keep2 hi _)












theorem State.dapOut_keep (s : State) (v : Dword) :
    (State.dapOut s v).pending = s.pending ∧ (State.dapOut s v).time = s.time ∧ (State.dapOut s v).dev = s.dev ∧ (State.dapOut s v).fuses = s.fuses ∧ (State.dapOut s v).params = s.params ∧ (State.dapOut s v).host = s.host ∧ (State.dapOut s v).nvm = s.nvm ∧ (State.dapOut s v).land = s.land ∧ (State.dapOut s v).map = s.map ∧ (State.dapOut s v).media = s.media ∧ (State.dapOut s v).flash = s.flash ∧ (State.dapOut s v).cache = s.cache ∧ (State.dapOut s v).plp = s.plp ∧ (State.dapOut s v).dram = s.dram ∧ (State.dapOut s v).pwr = s.pwr ∧ (State.dapOut s v).mgmt = s.mgmt ∧ (State.dapOut s v).naile = s.naile ∧ (State.dapOut s v).nor = s.nor ∧ (State.dapOut s v).tally = s.tally ∧ (State.dapOut s v).bus = s.bus ∧ (State.dapOut s v).free = s.free ∧ (State.dapOut s v).sec.target = s.sec.target := by
  generalize hr : State.dapOut s v = r
  simp only [State.dapOut] at hr
  repeat' split at hr
  all_goals (subst hr; (simp only [and_self, (fact @State.tap_keep)]))

theorem State.dapFree_keep (s : State) :
    (State.dapFree s).pending = s.pending ∧ (State.dapFree s).time = s.time ∧ (State.dapFree s).dev = s.dev ∧ (State.dapFree s).fuses = s.fuses ∧ (State.dapFree s).params = s.params ∧ (State.dapFree s).host = s.host ∧ (State.dapFree s).nvm = s.nvm ∧ (State.dapFree s).land = s.land ∧ (State.dapFree s).map = s.map ∧ (State.dapFree s).media = s.media ∧ (State.dapFree s).flash = s.flash ∧ (State.dapFree s).cache = s.cache ∧ (State.dapFree s).plp = s.plp ∧ (State.dapFree s).dram = s.dram ∧ (State.dapFree s).pwr = s.pwr ∧ (State.dapFree s).mgmt = s.mgmt ∧ (State.dapFree s).naile = s.naile ∧ (State.dapFree s).nor = s.nor ∧ (State.dapFree s).tally = s.tally ∧ (State.dapFree s).bus = s.bus ∧ (State.dapFree s).sec.target = s.sec.target := by
  generalize hr : State.dapFree s = r
  simp only [State.dapFree] at hr
  repeat' split at hr
  all_goals (subst hr; (simp only [and_self, (fact @State.dapOut_keep), (fact @State.draw_keep)]))

theorem State.setHalt_keep (s : State) (f : Session → Session) :
    (State.setHalt s f).pending = s.pending ∧ (State.setHalt s f).time = s.time ∧ (State.setHalt s f).dev = s.dev ∧ (State.setHalt s f).fuses = s.fuses ∧ (State.setHalt s f).params = s.params ∧ (State.setHalt s f).host = s.host ∧ (State.setHalt s f).nvm = s.nvm ∧ (State.setHalt s f).land = s.land ∧ (State.setHalt s f).map = s.map ∧ (State.setHalt s f).media = s.media ∧ (State.setHalt s f).flash = s.flash ∧ (State.setHalt s f).cache = s.cache ∧ (State.setHalt s f).plp = s.plp ∧ (State.setHalt s f).dram = s.dram ∧ (State.setHalt s f).pwr = s.pwr ∧ (State.setHalt s f).mgmt = s.mgmt ∧ (State.setHalt s f).naile = s.naile ∧ (State.setHalt s f).nor = s.nor ∧ (State.setHalt s f).tally = s.tally ∧ (State.setHalt s f).bus = s.bus ∧ (State.setHalt s f).free = s.free ∧ (State.setHalt s f).sec.target = s.sec.target := by
  generalize hr : State.setHalt s f = r
  simp only [State.setHalt] at hr
  repeat' split at hr
  all_goals (subst hr; (simp only [and_self, (fact @State.dapOut_keep)]))

theorem State.dapRun_keep (s : State) (r : DapReach) :
    (State.dapRun s r).pending = s.pending ∧ (State.dapRun s r).time = s.time := by
  generalize hr : State.dapRun s r = r
  simp only [State.dapRun] at hr
  repeat' split at hr
  all_goals (subst hr; (simp only [and_self, (fact @State.dapFree_keep), (fact @State.dapOut_keep), (fact @State.resumeWaiting_keep), (fact @State.setHalt_keep)]))


theorem State.miReply_keep (s : State) (status : Nat) (len : Nat) (value : Nat) :
    (State.miReply s status len value).pending = s.pending ∧ (State.miReply s status len value).time = s.time ∧ (State.miReply s status len value).dev = s.dev ∧ (State.miReply s status len value).fuses = s.fuses ∧ (State.miReply s status len value).params = s.params ∧ (State.miReply s status len value).host = s.host ∧ (State.miReply s status len value).nvm = s.nvm ∧ (State.miReply s status len value).land = s.land ∧ (State.miReply s status len value).map = s.map ∧ (State.miReply s status len value).media = s.media ∧ (State.miReply s status len value).flash = s.flash ∧ (State.miReply s status len value).cache = s.cache ∧ (State.miReply s status len value).plp = s.plp ∧ (State.miReply s status len value).dram = s.dram ∧ (State.miReply s status len value).pwr = s.pwr ∧ (State.miReply s status len value).sec = s.sec ∧ (State.miReply s status len value).mgmt = s.mgmt ∧ (State.miReply s status len value).naile = s.naile ∧ (State.miReply s status len value).nor = s.nor ∧ (State.miReply s status len value).tally = s.tally ∧ (State.miReply s status len value).free = s.free := by
  generalize hr : State.miReply s status len value = r
  simp only [State.miReply] at hr
  repeat' split at hr
  all_goals (subst hr; (simp only [and_self]))








theorem State.tunnelRead_keep (s : State) (c : Cntl) (cmd : NvmeCmd) :
    (State.tunnelRead s c cmd).pending = s.pending ∧ (State.tunnelRead s c cmd).time = s.time ∧ (State.tunnelRead s c cmd).dev = s.dev ∧ (State.tunnelRead s c cmd).fuses = s.fuses ∧ (State.tunnelRead s c cmd).params = s.params ∧ (State.tunnelRead s c cmd).nvm = s.nvm ∧ (State.tunnelRead s c cmd).land = s.land ∧ (State.tunnelRead s c cmd).map = s.map ∧ (State.tunnelRead s c cmd).media = s.media ∧ (State.tunnelRead s c cmd).flash = s.flash ∧ (State.tunnelRead s c cmd).cache = s.cache ∧ (State.tunnelRead s c cmd).plp = s.plp ∧ (State.tunnelRead s c cmd).dram = s.dram ∧ (State.tunnelRead s c cmd).pwr = s.pwr ∧ (State.tunnelRead s c cmd).sec = s.sec ∧ (State.tunnelRead s c cmd).naile = s.naile ∧ (State.tunnelRead s c cmd).nor = s.nor ∧ (State.tunnelRead s c cmd).tally = s.tally ∧ (State.tunnelRead s c cmd).bus = s.bus ∧ (State.tunnelRead s c cmd).free = s.free := by
  generalize hr : State.tunnelRead s c cmd = r
  simp only [State.tunnelRead] at hr
  repeat' split at hr
  all_goals (subst hr; (simp only [and_self, (fact @State.snapshot_keep)]))










theorem State.enter_keep (s : State) (t : Nat) :
    (State.enter s t).pending = s.pending ∧ (State.enter s t).time = s.time ∧ (State.enter s t).fuses = s.fuses ∧ (State.enter s t).params = s.params ∧ (State.enter s t).map = s.map ∧ (State.enter s t).plp = s.plp ∧ (State.enter s t).free = s.free ∧ (State.enter s t).sec.target = s.sec.target := by
  generalize hr : State.enter s t = r
  simp only [State.enter] at hr
  repeat' split at hr
  all_goals (subst hr; (simp only [and_self, (fact @State.beginEntry_keep), (fact @State.enterPs3_keep), (fact @State.enterPs4_keep)]))









theorem State.pulse_keep (s : State) (ns : Option Nat) : (s.pulse ns).2.pending = s.pending ∧ (s.pulse ns).2.time = s.time ∧ (s.pulse ns).2.dev = s.dev ∧ (s.pulse ns).2.fuses = s.fuses ∧ (s.pulse ns).2.params = s.params ∧ (s.pulse ns).2.host = s.host ∧ (s.pulse ns).2.nvm = s.nvm ∧ (s.pulse ns).2.land = s.land ∧ (s.pulse ns).2.map = s.map ∧ (s.pulse ns).2.media = s.media ∧ (s.pulse ns).2.flash = s.flash ∧ (s.pulse ns).2.cache = s.cache ∧ (s.pulse ns).2.plp = s.plp ∧ (s.pulse ns).2.dram = s.dram ∧ (s.pulse ns).2.pwr = s.pwr ∧ (s.pulse ns).2.sec = s.sec ∧ (s.pulse ns).2.mgmt = s.mgmt ∧ (s.pulse ns).2.naile = s.naile ∧ (s.pulse ns).2.nor = s.nor ∧ (s.pulse ns).2.tally = s.tally ∧ (s.pulse ns).2.bus = s.bus := by
  generalize hr : s.pulse ns = r
  simp only [State.pulse] at hr
  repeat' split at hr
  all_goals (subst hr; simp only [(fact @State.draw_keep), and_self])






theorem State.setConn_keep (s : State) (k : SpdmConn) (c : SpdmS) :
    (State.setConn s k c).pending = s.pending ∧ (State.setConn s k c).time = s.time ∧ (State.setConn s k c).dev = s.dev ∧ (State.setConn s k c).fuses = s.fuses ∧ (State.setConn s k c).params = s.params ∧ (State.setConn s k c).host = s.host ∧ (State.setConn s k c).nvm = s.nvm ∧ (State.setConn s k c).land = s.land ∧ (State.setConn s k c).map = s.map ∧ (State.setConn s k c).media = s.media ∧ (State.setConn s k c).flash = s.flash ∧ (State.setConn s k c).cache = s.cache ∧ (State.setConn s k c).plp = s.plp ∧ (State.setConn s k c).dram = s.dram ∧ (State.setConn s k c).pwr = s.pwr ∧ (State.setConn s k c).sec = s.sec ∧ (State.setConn s k c).mgmt = s.mgmt ∧ (State.setConn s k c).naile = s.naile ∧ (State.setConn s k c).nor = s.nor ∧ (State.setConn s k c).tally = s.tally ∧ (State.setConn s k c).free = s.free := by
  generalize hr : State.setConn s k c = r
  simp only [State.setConn] at hr
  repeat' split at hr
  all_goals (subst hr; (simp only [and_self]))















theorem tick_keep (s : State) :
    (tick s).pending = s.pending ∧ (tick s).dev = s.dev ∧ (tick s).fuses = s.fuses ∧ (tick s).params = s.params ∧ (tick s).host = s.host ∧ (tick s).nvm = s.nvm ∧ (tick s).land = s.land ∧ (tick s).map = s.map ∧ (tick s).media = s.media ∧ (tick s).flash = s.flash ∧ (tick s).cache = s.cache ∧ (tick s).plp = s.plp ∧ (tick s).dram = s.dram ∧ (tick s).pwr = s.pwr ∧ (tick s).sec = s.sec ∧ (tick s).mgmt = s.mgmt ∧ (tick s).naile = s.naile ∧ (tick s).nor = s.nor ∧ (tick s).tally = s.tally ∧ (tick s).bus = s.bus ∧ (tick s).free = s.free := by
  generalize hr : tick s = r
  simp only [tick] at hr
  repeat' split at hr
  all_goals (subst hr; (simp only [and_self]))

end Sys2Proof.Machine
end

