-- ==== Sys2Proof/Laws/FrameExec.lean ====
section
/-! SUPPORT. Frames of the commands: for each meaning, the units of State that its next state shares with the state
before. -/

set_option linter.all false

namespace Sys2Proof.Machine

theorem kxtrans_0 {a b c : State} (h : c.pending = b.pending ∧ c.time = b.time ∧ c.dev = b.dev ∧ c.fuses = b.fuses ∧ c.params = b.params ∧ c.dram = b.dram ∧ c.pwr = b.pwr ∧ c.sec = b.sec ∧ c.nor = b.nor) (g : b.pending = a.pending ∧ b.time = a.time ∧ b.dev = a.dev ∧ b.fuses = a.fuses ∧ b.params = a.params ∧ b.dram = a.dram ∧ b.pwr = a.pwr ∧ b.sec = a.sec ∧ b.nor = a.nor) :
    c.pending = a.pending ∧ c.time = a.time ∧ c.dev = a.dev ∧ c.fuses = a.fuses ∧ c.params = a.params ∧ c.dram = a.dram ∧ c.pwr = a.pwr ∧ c.sec = a.sec ∧ c.nor = a.nor := by
  simp only [h, g, and_self]
theorem kxfold_0 {β : Type} {f : State → β → State} (h : ∀ a x b, f a x = b → b.pending = a.pending ∧ b.time = a.time ∧ b.dev = a.dev ∧ b.fuses = a.fuses ∧ b.params = a.params ∧ b.dram = a.dram ∧ b.pwr = a.pwr ∧ b.sec = a.sec ∧ b.nor = a.nor)
    (l : List β) (s : State) : (l.foldl f s).pending = s.pending ∧ (l.foldl f s).time = s.time ∧ (l.foldl f s).dev = s.dev ∧ (l.foldl f s).fuses = s.fuses ∧ (l.foldl f s).params = s.params ∧ (l.foldl f s).dram = s.dram ∧ (l.foldl f s).pwr = s.pwr ∧ (l.foldl f s).sec = s.sec ∧ (l.foldl f s).nor = s.nor := by
  induction l generalizing s with
  | nil => and_intros <;> rfl
  | cons x l ih => exact kxtrans_0 (ih _) (h _ _ _ rfl)
theorem kxflash_0 {s t : State} (y : FlashS) (h : t.pending = s.pending ∧ t.time = s.time ∧ t.dev = s.dev ∧ t.fuses = s.fuses ∧ t.params = s.params ∧ t.dram = s.dram ∧ t.pwr = s.pwr ∧ t.sec = s.sec ∧ t.nor = s.nor) :
    ({ t with flash := y } : State).pending = s.pending ∧ ({ t with flash := y } : State).time = s.time ∧ ({ t with flash := y } : State).dev = s.dev ∧ ({ t with flash := y } : State).fuses = s.fuses ∧ ({ t with flash := y } : State).params = s.params ∧ ({ t with flash := y } : State).dram = s.dram ∧ ({ t with flash := y } : State).pwr = s.pwr ∧ ({ t with flash := y } : State).sec = s.sec ∧ ({ t with flash := y } : State).nor = s.nor := h
theorem kxtrans_1 {a b c : State} (h : c.pending = b.pending ∧ c.time = b.time ∧ c.dev = b.dev ∧ c.fuses = b.fuses ∧ c.params = b.params ∧ c.host = b.host ∧ c.nvm = b.nvm ∧ c.map = b.map ∧ c.cache = b.cache ∧ c.dram = b.dram ∧ c.pwr = b.pwr ∧ c.sec = b.sec ∧ c.mgmt = b.mgmt ∧ c.naile = b.naile ∧ c.nor = b.nor ∧ c.tally = b.tally ∧ c.bus = b.bus ∧ c.free = b.free) (g : b.pending = a.pending ∧ b.time = a.time ∧ b.dev = a.dev ∧ b.fuses = a.fuses ∧ b.params = a.params ∧ b.host = a.host ∧ b.nvm = a.nvm ∧ b.map = a.map ∧ b.cache = a.cache ∧ b.dram = a.dram ∧ b.pwr = a.pwr ∧ b.sec = a.sec ∧ b.mgmt = a.mgmt ∧ b.naile = a.naile ∧ b.nor = a.nor ∧ b.tally = a.tally ∧ b.bus = a.bus ∧ b.free = a.free) :
    c.pending = a.pending ∧ c.time = a.time ∧ c.dev = a.dev ∧ c.fuses = a.fuses ∧ c.params = a.params ∧ c.host = a.host ∧ c.nvm = a.nvm ∧ c.map = a.map ∧ c.cache = a.cache ∧ c.dram = a.dram ∧ c.pwr = a.pwr ∧ c.sec = a.sec ∧ c.mgmt = a.mgmt ∧ c.naile = a.naile ∧ c.nor = a.nor ∧ c.tally = a.tally ∧ c.bus = a.bus ∧ c.free = a.free := by
  simp only [h, g, and_self]
theorem kxfold_1 {β : Type} {f : State → β → State} (h : ∀ a x b, f a x = b → b.pending = a.pending ∧ b.time = a.time ∧ b.dev = a.dev ∧ b.fuses = a.fuses ∧ b.params = a.params ∧ b.host = a.host ∧ b.nvm = a.nvm ∧ b.map = a.map ∧ b.cache = a.cache ∧ b.dram = a.dram ∧ b.pwr = a.pwr ∧ b.sec = a.sec ∧ b.mgmt = a.mgmt ∧ b.naile = a.naile ∧ b.nor = a.nor ∧ b.tally = a.tally ∧ b.bus = a.bus ∧ b.free = a.free)
    (l : List β) (s : State) : (l.foldl f s).pending = s.pending ∧ (l.foldl f s).time = s.time ∧ (l.foldl f s).dev = s.dev ∧ (l.foldl f s).fuses = s.fuses ∧ (l.foldl f s).params = s.params ∧ (l.foldl f s).host = s.host ∧ (l.foldl f s).nvm = s.nvm ∧ (l.foldl f s).map = s.map ∧ (l.foldl f s).cache = s.cache ∧ (l.foldl f s).dram = s.dram ∧ (l.foldl f s).pwr = s.pwr ∧ (l.foldl f s).sec = s.sec ∧ (l.foldl f s).mgmt = s.mgmt ∧ (l.foldl f s).naile = s.naile ∧ (l.foldl f s).nor = s.nor ∧ (l.foldl f s).tally = s.tally ∧ (l.foldl f s).bus = s.bus ∧ (l.foldl f s).free = s.free := by
  induction l generalizing s with
  | nil => and_intros <;> rfl
  | cons x l ih => exact kxtrans_1 (ih _) (h _ _ _ rfl)
theorem kxflash_1 {s t : State} (y : FlashS) (h : t.pending = s.pending ∧ t.time = s.time ∧ t.dev = s.dev ∧ t.fuses = s.fuses ∧ t.params = s.params ∧ t.host = s.host ∧ t.nvm = s.nvm ∧ t.map = s.map ∧ t.cache = s.cache ∧ t.dram = s.dram ∧ t.pwr = s.pwr ∧ t.sec = s.sec ∧ t.mgmt = s.mgmt ∧ t.naile = s.naile ∧ t.nor = s.nor ∧ t.tally = s.tally ∧ t.bus = s.bus ∧ t.free = s.free) :
    ({ t with flash := y } : State).pending = s.pending ∧ ({ t with flash := y } : State).time = s.time ∧ ({ t with flash := y } : State).dev = s.dev ∧ ({ t with flash := y } : State).fuses = s.fuses ∧ ({ t with flash := y } : State).params = s.params ∧ ({ t with flash := y } : State).host = s.host ∧ ({ t with flash := y } : State).nvm = s.nvm ∧ ({ t with flash := y } : State).map = s.map ∧ ({ t with flash := y } : State).cache = s.cache ∧ ({ t with flash := y } : State).dram = s.dram ∧ ({ t with flash := y } : State).pwr = s.pwr ∧ ({ t with flash := y } : State).sec = s.sec ∧ ({ t with flash := y } : State).mgmt = s.mgmt ∧ ({ t with flash := y } : State).naile = s.naile ∧ ({ t with flash := y } : State).nor = s.nor ∧ ({ t with flash := y } : State).tally = s.tally ∧ ({ t with flash := y } : State).bus = s.bus ∧ ({ t with flash := y } : State).free = s.free := h

theorem State.adminGate_ind {P : State → Prop} {s : State} {tag : Nat} {run : State → TagE → State} (hs : P s)
    (hc : ∀ st, P (s.complete tag st)) (hr : ∀ t, P (run s t)) : P (s.adminGate tag run) := by
  unfold State.adminGate
  repeat' split
  all_goals first | exact hs | exact hc _ | exact hr _

theorem State.withData_ind {P : State → Prop} {s : State} {tag : Nat} {t : TagE} {run : State → TagE → State}
    (hc : ∀ st, P (s.complete tag st)) (hx : P (s.adminCords tag t)) (hr : P (run s t)) (hy : P (run (s.adminTaken tag t) t)) :
    P (s.withData tag t run) := by
  unfold State.withData
  dsimp only
  repeat' split
  all_goals first | exact hc _ | exact hx | exact hr | exact hy

/-- What an admin command leaves: the state before, its completion by the gate, the request for its cords, or what its own meaning makes of
the state, with or without those cords and what has been fetched into them. -/
theorem State.admin_ind {P : State → Prop} {s : State} {tag : Nat} {run : State → TagE → State} (hs : P s)
    (hc : ∀ st, P (s.complete tag st)) (hx : ∀ t, P (s.adminCords tag t)) (hr : ∀ t, P (run s t))
    (hy : ∀ t, P (run (s.adminTaken tag t) t)) : P (s.admin tag run) :=
  State.adminGate_ind hs hc fun _ => State.withData_ind hc (hx _) (hr _) (hy _)

/-- The same of a command of the PF alone. -/
theorem State.adminPf_ind {P : State → Prop} {s : State} {tag : Nat} {run : State → TagE → State} (hs : P s)
    (hc : ∀ st, P (s.complete tag st)) (hx : ∀ t, P (s.adminCords tag t)) (hr : ∀ t, P (run s t))
    (hy : ∀ t, P (run (s.adminTaken tag t) t)) : P (s.adminPf tag run) :=
  State.adminGate_ind hs hc fun t => by
    beta_reduce
    split
    · exact State.withData_ind hc (hx _) (hr _) (hy _)
    · exact hc _

theorem execPerstAssert_keep (p : Port) (s : State) {t' : State} (h : execPerstAssert p s = .next t') :
    t'.pending = s.pending ∧ t'.time = s.time ∧ t'.dev = s.dev ∧ t'.fuses = s.fuses ∧ t'.params = s.params ∧ t'.media = s.media ∧ t'.plp = s.plp ∧ t'.dram = s.dram ∧ t'.sec = s.sec ∧ t'.mgmt = s.mgmt ∧ t'.naile = s.naile ∧ t'.nor = s.nor ∧ t'.bus = s.bus ∧ t'.free = s.free := by
  simp only [execPerstAssert] at h
  injection h with h
  repeat' split at h
  all_goals (subst h; (simp only [and_self, (fact @State.portReset_keep)]))

theorem execPerstDeassert_keep (p : Port) (w : WakeChecks) (s : State) {t' : State} (h : execPerstDeassert p w s = .next t') :
    t'.pending = s.pending ∧ t'.time = s.time ∧ t'.fuses = s.fuses ∧ t'.params = s.params ∧ t'.bus = s.bus ∧ t'.free = s.free := by
  simp only [execPerstDeassert] at h
  injection h with h
  repeat' split at h
  all_goals (subst h; (simp only [and_self, (fact @State.fullWake_keep)]))

theorem execHotReset_keep (p : Port) (s : State) {t' : State} (h : execHotReset p s = .next t') :
    t'.pending = s.pending ∧ t'.time = s.time ∧ t'.dev = s.dev ∧ t'.fuses = s.fuses ∧ t'.params = s.params ∧ t'.media = s.media ∧ t'.plp = s.plp ∧ t'.dram = s.dram ∧ t'.sec = s.sec ∧ t'.mgmt = s.mgmt ∧ t'.naile = s.naile ∧ t'.nor = s.nor ∧ t'.bus = s.bus ∧ t'.free = s.free := by
  simp only [execHotReset] at h
  injection h with h
  repeat' split at h
  all_goals (subst h; (simp only [and_self, (fact @State.portReset_keep)]))

theorem execDataLinkDown_keep (p : Port) (s : State) {t' : State} (h : execDataLinkDown p s = .next t') :
    t'.pending = s.pending ∧ t'.time = s.time ∧ t'.dev = s.dev ∧ t'.fuses = s.fuses ∧ t'.params = s.params ∧ t'.media = s.media ∧ t'.plp = s.plp ∧ t'.dram = s.dram ∧ t'.sec = s.sec ∧ t'.mgmt = s.mgmt ∧ t'.naile = s.naile ∧ t'.nor = s.nor ∧ t'.bus = s.bus ∧ t'.free = s.free := by
  simp only [execDataLinkDown] at h
  injection h with h
  repeat' split at h
  all_goals (subst h; (simp only [and_self, (fact @State.portReset_keep)]))

theorem execLinkUp_keep (p : Port) (width : Nat) (rate : LinkRate) (s : State) {t' : State} (h : execLinkUp p width rate s = .next t') :
    t'.pending = s.pending ∧ t'.time = s.time ∧ t'.dev = s.dev ∧ t'.fuses = s.fuses ∧ t'.params = s.params ∧ t'.land = s.land ∧ t'.map = s.map ∧ t'.media = s.media ∧ t'.flash = s.flash ∧ t'.cache = s.cache ∧ t'.plp = s.plp ∧ t'.dram = s.dram ∧ t'.sec = s.sec ∧ t'.mgmt = s.mgmt ∧ t'.naile = s.naile ∧ t'.nor = s.nor ∧ t'.bus = s.bus ∧ t'.free = s.free := by
  simp only [execLinkUp] at h
  injection h with h
  repeat' split at h
  all_goals (subst h; (simp only [and_self, (fact @State.recheckPower_keep), (fact @State.recordHw_calm), sevDebug, sevInfo, sevNotice, sevWarning, sevError, sevCritical, ne_eq, Nat.reduceEqDiff, not_false_eq_true]))

theorem execConfigurationRequest_keep (c : Cntl) (s : State) {t' : State} (h : execConfigurationRequest c s = .next t') :
    t'.pending = s.pending ∧ t'.time = s.time ∧ t'.dev = s.dev ∧ t'.fuses = s.fuses ∧ t'.params = s.params ∧ t'.land = s.land ∧ t'.map = s.map ∧ t'.media = s.media ∧ t'.flash = s.flash ∧ t'.cache = s.cache ∧ t'.plp = s.plp ∧ t'.dram = s.dram ∧ t'.sec = s.sec ∧ t'.mgmt = s.mgmt ∧ t'.naile = s.naile ∧ t'.nor = s.nor ∧ t'.tally = s.tally ∧ t'.bus = s.bus ∧ t'.free = s.free := by
  simp only [execConfigurationRequest] at h
  injection h with h
  repeat' split at h
  all_goals (subst h; (simp only [and_self, (fact @State.touchLink_keep)]))

theorem execLinkL1Exit_keep (p : Port) (w : WakeChecks) (s : State) {t' : State} (h : execLinkL1Exit p w s = .next t') :
    t'.pending = s.pending ∧ t'.time = s.time ∧ t'.fuses = s.fuses ∧ t'.params = s.params ∧ t'.bus = s.bus ∧ t'.free = s.free := by
  simp only [execLinkL1Exit] at h
  injection h with h
  repeat' split at h
  all_goals (subst h; (simp only [and_self, (fact @State.fullWake_keep)]))

theorem execFunctionLevelReset_keep (c : Cntl) (s : State) {t' : State} (h : execFunctionLevelReset c s = .next t') :
    t'.pending = s.pending ∧ t'.time = s.time ∧ t'.dev = s.dev ∧ t'.fuses = s.fuses ∧ t'.params = s.params ∧ t'.media = s.media ∧ t'.plp = s.plp ∧ t'.dram = s.dram ∧ t'.sec = s.sec ∧ t'.mgmt = s.mgmt ∧ t'.naile = s.naile ∧ t'.nor = s.nor ∧ t'.bus = s.bus ∧ t'.free = s.free := by
  simp only [execFunctionLevelReset] at h
  injection h with h
  repeat' split at h
  all_goals (subst h; (simp only [and_self, (fact @State.portReset_keep), (fact @State.resetFuncs_keep), (fact @State.touchLink_keep)]))

theorem execCcEnSet_keep (c : Cntl) (asqs : Nat) (acqs : Nat) (s : State) {t' : State} (h : execCcEnSet c asqs acqs s = .next t') :
    t'.pending = s.pending ∧ t'.time = s.time ∧ t'.dev = s.dev ∧ t'.fuses = s.fuses ∧ t'.params = s.params ∧ t'.land = s.land ∧ t'.map = s.map ∧ t'.media = s.media ∧ t'.flash = s.flash ∧ t'.cache = s.cache ∧ t'.plp = s.plp ∧ t'.dram = s.dram ∧ t'.sec = s.sec ∧ t'.mgmt = s.mgmt ∧ t'.naile = s.naile ∧ t'.nor = s.nor ∧ t'.tally = s.tally ∧ t'.free = s.free := by
  simp only [execCcEnSet] at h
  injection h with h
  repeat' split at h
  all_goals (subst h; (simp only [and_self, (fact @State.noteChange_keep), (fact @State.touchLink_keep)]))

theorem execCcEnClear_keep (c : Cntl) (s : State) {t' : State} (h : execCcEnClear c s = .next t') :
    t'.pending = s.pending ∧ t'.time = s.time ∧ t'.dev = s.dev ∧ t'.fuses = s.fuses ∧ t'.params = s.params ∧ t'.media = s.media ∧ t'.plp = s.plp ∧ t'.dram = s.dram ∧ t'.sec = s.sec ∧ t'.mgmt = s.mgmt ∧ t'.naile = s.naile ∧ t'.nor = s.nor ∧ t'.free = s.free := by
  simp only [execCcEnClear] at h
  injection h with h
  repeat' split at h
  all_goals (subst h; (simp only [and_self, (fact @State.endLease_keep), (fact @State.noteChange_keep), (fact @State.resetFuncs_keep), (fact @State.touchLink_keep)]))

theorem execKeepAliveTimeout_keep (c : Cntl) (s : State) {t' : State} (h : execKeepAliveTimeout c s = .next t') :
    t'.pending = s.pending ∧ t'.time = s.time ∧ t'.dev = s.dev ∧ t'.fuses = s.fuses ∧ t'.params = s.params ∧ t'.nvm = s.nvm ∧ t'.land = s.land ∧ t'.map = s.map ∧ t'.media = s.media ∧ t'.flash = s.flash ∧ t'.cache = s.cache ∧ t'.plp = s.plp ∧ t'.dram = s.dram ∧ t'.pwr = s.pwr ∧ t'.sec = s.sec ∧ t'.mgmt = s.mgmt ∧ t'.naile = s.naile ∧ t'.nor = s.nor ∧ t'.tally = s.tally ∧ t'.bus = s.bus ∧ t'.free = s.free := by
  simp only [execKeepAliveTimeout] at h
  injection h with h
  repeat' split at h
  all_goals (subst h; (simp only [and_self]))

theorem execRegisterWrite_keep (r : RegId) (v : Qword) (s : State) {t' : State} (h : execRegisterWrite r v s = .next t') :
    t'.pending = s.pending ∧ t'.time = s.time ∧ t'.dev = s.dev ∧ t'.fuses = s.fuses ∧ t'.params = s.params ∧ t'.media = s.media ∧ t'.flash = s.flash ∧ t'.plp = s.plp ∧ t'.dram = s.dram ∧ t'.sec = s.sec ∧ t'.mgmt = s.mgmt ∧ t'.naile = s.naile ∧ t'.nor = s.nor ∧ t'.bus = s.bus ∧ t'.free = s.free := by
  simp only [execRegisterWrite] at h
  injection h with h
  repeat' split at h
  all_goals (subst h; (simp only [and_self, (fact @State.resetFuncs_keep), (fact @State.touchLink_keep)]))

theorem execUnsupportedRequestReceived_keep (c : Cntl) (malformed : Bool) (s : State) {t' : State} (h : execUnsupportedRequestReceived c malformed s = .next t') :
    t'.pending = s.pending ∧ t'.time = s.time ∧ t'.dev = s.dev ∧ t'.fuses = s.fuses ∧ t'.params = s.params ∧ t'.land = s.land ∧ t'.map = s.map ∧ t'.media = s.media ∧ t'.flash = s.flash ∧ t'.cache = s.cache ∧ t'.plp = s.plp ∧ t'.dram = s.dram ∧ t'.sec = s.sec ∧ t'.mgmt = s.mgmt ∧ t'.naile = s.naile ∧ t'.nor = s.nor ∧ t'.tally = s.tally ∧ t'.bus = s.bus ∧ t'.free = s.free := by
  simp only [execUnsupportedRequestReceived] at h
  injection h with h
  repeat' split at h
  all_goals (subst h; (simp only [and_self, (fact @State.touchLink_keep)]))

theorem execSqTailDoorbell_keep (c : Cntl) (sq : Nat) (tail : Nat) (entries : List Sqe) (s : State) {t' : State} (h : execSqTailDoorbell c sq tail entries s = .next t') :
    t'.pending = s.pending ∧ t'.time = s.time ∧ t'.dev = s.dev ∧ t'.fuses = s.fuses ∧ t'.params = s.params ∧ t'.land = s.land ∧ t'.map = s.map ∧ t'.media = s.media ∧ t'.flash = s.flash ∧ t'.cache = s.cache ∧ t'.plp = s.plp ∧ t'.dram = s.dram ∧ t'.sec = s.sec ∧ t'.mgmt = s.mgmt ∧ t'.naile = s.naile ∧ t'.nor = s.nor ∧ t'.tally = s.tally ∧ t'.bus = s.bus ∧ t'.free = s.free := by
  simp only [execSqTailDoorbell] at h
  injection h with h
  repeat' split at h
  all_goals (subst h; (simp only [and_self, (fact @State.fetchQueue_keep), (fact @State.touchLink_keep)]))

theorem execCqHeadDoorbell_keep (c : Cntl) (cq : Nat) (head : Nat) (s : State) {t' : State} (h : execCqHeadDoorbell c cq head s = .next t') :
    t'.pending = s.pending ∧ t'.time = s.time ∧ t'.dev = s.dev ∧ t'.fuses = s.fuses ∧ t'.params = s.params ∧ t'.map = s.map ∧ t'.media = s.media ∧ t'.flash = s.flash ∧ t'.cache = s.cache ∧ t'.plp = s.plp ∧ t'.dram = s.dram ∧ t'.sec = s.sec ∧ t'.mgmt = s.mgmt ∧ t'.naile = s.naile ∧ t'.nor = s.nor ∧ t'.bus = s.bus ∧ t'.free = s.free := by
  simp only [execCqHeadDoorbell] at h
  injection h with h
  repeat' split at h
  all_goals (subst h; (simp only [and_self, (fact @State.sweepFlushes_keep), (fact @State.touchLink_keep), (fact @postHeld_keep)]))

theorem execTagAvailable_keep (c : Cntl) (sq : Nat) (s : State) {t' : State} (h : execTagAvailable c sq s = .next t') :
    t'.pending = s.pending ∧ t'.time = s.time ∧ t'.dev = s.dev ∧ t'.fuses = s.fuses ∧ t'.params = s.params ∧ t'.land = s.land ∧ t'.map = s.map ∧ t'.media = s.media ∧ t'.flash = s.flash ∧ t'.cache = s.cache ∧ t'.plp = s.plp ∧ t'.dram = s.dram ∧ t'.pwr = s.pwr ∧ t'.sec = s.sec ∧ t'.mgmt = s.mgmt ∧ t'.naile = s.naile ∧ t'.nor = s.nor ∧ t'.tally = s.tally ∧ t'.bus = s.bus ∧ t'.free = s.free := by
  simp only [execTagAvailable] at h
  injection h with h
  repeat' split at h
  all_goals (subst h; (simp only [and_self, (fact @State.fetchQueue_keep)]))

theorem execInterruptAggregationTime_keep (c : Cntl) (cq : Nat) (s : State) {t' : State} (h : execInterruptAggregationTime c cq s = .next t') :
    t'.pending = s.pending ∧ t'.time = s.time ∧ t'.dev = s.dev ∧ t'.fuses = s.fuses ∧ t'.params = s.params ∧ t'.nvm = s.nvm ∧ t'.land = s.land ∧ t'.map = s.map ∧ t'.media = s.media ∧ t'.flash = s.flash ∧ t'.cache = s.cache ∧ t'.plp = s.plp ∧ t'.dram = s.dram ∧ t'.pwr = s.pwr ∧ t'.sec = s.sec ∧ t'.mgmt = s.mgmt ∧ t'.naile = s.naile ∧ t'.nor = s.nor ∧ t'.tally = s.tally ∧ t'.bus = s.bus ∧ t'.free = s.free := by
  simp only [execInterruptAggregationTime] at h
  injection h with h
  repeat' split at h
  all_goals (subst h; (simp only [and_self]))

theorem execOrderedCommandBegin_keep (tag : Nat) (s : State) {t' : State} (h : execOrderedCommandBegin tag s = .next t') :
    t'.pending = s.pending ∧ t'.time = s.time ∧ t'.dev = s.dev ∧ t'.fuses = s.fuses ∧ t'.params = s.params ∧ t'.land = s.land ∧ t'.map = s.map ∧ t'.media = s.media ∧ t'.flash = s.flash ∧ t'.cache = s.cache ∧ t'.plp = s.plp ∧ t'.dram = s.dram ∧ t'.pwr = s.pwr ∧ t'.sec = s.sec ∧ t'.mgmt = s.mgmt ∧ t'.naile = s.naile ∧ t'.nor = s.nor ∧ t'.tally = s.tally ∧ t'.bus = s.bus ∧ t'.free = s.free := by
  simp only [execOrderedCommandBegin] at h
  injection h with h
  repeat' split at h
  all_goals (subst h; (simp only [and_self, (fact @State.dispatch_keep), (fact @State.refillStands_keep)]))

theorem execNextDispatch_keep (pipe : Fin 4) (d : Dir) (s : State) {t' : State} (h : execNextDispatch pipe d s = .next t') :
    t'.pending = s.pending ∧ t'.time = s.time ∧ t'.dev = s.dev ∧ t'.fuses = s.fuses ∧ t'.params = s.params ∧ t'.land = s.land ∧ t'.map = s.map ∧ t'.media = s.media ∧ t'.flash = s.flash ∧ t'.cache = s.cache ∧ t'.plp = s.plp ∧ t'.dram = s.dram ∧ t'.pwr = s.pwr ∧ t'.sec = s.sec ∧ t'.mgmt = s.mgmt ∧ t'.naile = s.naile ∧ t'.nor = s.nor ∧ t'.tally = s.tally ∧ t'.bus = s.bus ∧ t'.free = s.free := by
  simp only [execNextDispatch] at h
  injection h with h
  repeat' split at h
  all_goals (subst h; (simp only [and_self, (fact @State.dispatch_keep), (fact @State.refillStands_keep)]))

theorem execCreateIoCq_keep (tag : Nat) (s : State) {t' : State} (h : execCreateIoCq tag s = .next t') :
    t'.pending = s.pending ∧ t'.time = s.time ∧ t'.dev = s.dev ∧ t'.fuses = s.fuses ∧ t'.params = s.params ∧ t'.map = s.map ∧ t'.media = s.media ∧ t'.flash = s.flash ∧ t'.cache = s.cache ∧ t'.plp = s.plp ∧ t'.dram = s.dram ∧ t'.pwr = s.pwr ∧ t'.sec = s.sec ∧ t'.mgmt = s.mgmt ∧ t'.naile = s.naile ∧ t'.nor = s.nor ∧ t'.bus = s.bus ∧ t'.free = s.free := by
  unfold execCreateIoCq at h
  injection h with h
  subst h
  refine State.admin_ind (P := fun (a : State) => a.pending = s.pending ∧ a.time = s.time ∧ a.dev = s.dev ∧ a.fuses = s.fuses ∧ a.params = s.params ∧ a.map = s.map ∧ a.media = s.media ∧ a.flash = s.flash ∧ a.cache = s.cache ∧ a.plp = s.plp ∧ a.dram = s.dram ∧ a.pwr = s.pwr ∧ a.sec = s.sec ∧ a.mgmt = s.mgmt ∧ a.naile = s.naile ∧ a.nor = s.nor ∧ a.bus = s.bus ∧ a.free = s.free) (by and_intros <;> rfl) (fun _ => ?_) (fun _ => ?_) (fun _ => ?_) (fun _ => ?_)
  all_goals
    try dsimp only
    repeat' split
    all_goals (simp only [and_self, (fact @State.adminCords_keep), (fact @State.adminTaken_keep), (fact @State.complete_keep)])

theorem execCreateIoSq_keep (tag : Nat) (s : State) {t' : State} (h : execCreateIoSq tag s = .next t') :
    t'.pending = s.pending ∧ t'.time = s.time ∧ t'.dev = s.dev ∧ t'.fuses = s.fuses ∧ t'.params = s.params ∧ t'.map = s.map ∧ t'.media = s.media ∧ t'.flash = s.flash ∧ t'.cache = s.cache ∧ t'.plp = s.plp ∧ t'.dram = s.dram ∧ t'.pwr = s.pwr ∧ t'.sec = s.sec ∧ t'.mgmt = s.mgmt ∧ t'.naile = s.naile ∧ t'.nor = s.nor ∧ t'.bus = s.bus ∧ t'.free = s.free := by
  unfold execCreateIoSq at h
  injection h with h
  subst h
  refine State.admin_ind (P := fun (a : State) => a.pending = s.pending ∧ a.time = s.time ∧ a.dev = s.dev ∧ a.fuses = s.fuses ∧ a.params = s.params ∧ a.map = s.map ∧ a.media = s.media ∧ a.flash = s.flash ∧ a.cache = s.cache ∧ a.plp = s.plp ∧ a.dram = s.dram ∧ a.pwr = s.pwr ∧ a.sec = s.sec ∧ a.mgmt = s.mgmt ∧ a.naile = s.naile ∧ a.nor = s.nor ∧ a.bus = s.bus ∧ a.free = s.free) (by and_intros <;> rfl) (fun _ => ?_) (fun _ => ?_) (fun _ => ?_) (fun _ => ?_)
  all_goals
    try dsimp only
    repeat' split
    all_goals (simp only [and_self, (fact @State.adminCords_keep), (fact @State.adminTaken_keep), (fact @State.complete_keep)])

theorem execDeleteIoSq_keep (tag : Nat) (s : State) {t' : State} (h : execDeleteIoSq tag s = .next t') :
    t'.pending = s.pending ∧ t'.time = s.time ∧ t'.dev = s.dev ∧ t'.fuses = s.fuses ∧ t'.params = s.params ∧ t'.map = s.map ∧ t'.media = s.media ∧ t'.flash = s.flash ∧ t'.plp = s.plp ∧ t'.dram = s.dram ∧ t'.pwr = s.pwr ∧ t'.sec = s.sec ∧ t'.mgmt = s.mgmt ∧ t'.naile = s.naile ∧ t'.nor = s.nor ∧ t'.bus = s.bus ∧ t'.free = s.free := by
  unfold execDeleteIoSq at h
  injection h with h
  subst h
  refine State.admin_ind (P := fun (a : State) => a.pending = s.pending ∧ a.time = s.time ∧ a.dev = s.dev ∧ a.fuses = s.fuses ∧ a.params = s.params ∧ a.map = s.map ∧ a.media = s.media ∧ a.flash = s.flash ∧ a.plp = s.plp ∧ a.dram = s.dram ∧ a.pwr = s.pwr ∧ a.sec = s.sec ∧ a.mgmt = s.mgmt ∧ a.naile = s.naile ∧ a.nor = s.nor ∧ a.bus = s.bus ∧ a.free = s.free) (by and_intros <;> rfl) (fun _ => ?_) (fun _ => ?_) (fun _ => ?_) (fun _ => ?_)
  all_goals
    try dsimp only
    repeat' split
    all_goals (first | (simp only [and_self, (fact @State.abortTag_keep), (fact @State.adminCords_keep), (fact @State.adminTaken_keep), (fact @State.complete_keep), (fact @State.modTag_keep)]; done) | (and_intros <;> (repeat' first | (simp only [and_self, (fact @State.abortTag_keep), (fact @State.adminCords_keep), (fact @State.adminTaken_keep), (fact @State.complete_keep), (fact @State.modTag_keep)]; done) | (simp only [and_self, (fact @State.abortTag_keep), (fact @State.adminCords_keep), (fact @State.adminTaken_keep), (fact @State.complete_keep), (fact @State.modTag_keep)]) | (split at hb) | (subst hb; simp only [and_self, (fact @State.abortTag_keep), (fact @State.adminCords_keep), (fact @State.adminTaken_keep), (fact @State.complete_keep), (fact @State.modTag_keep)]) | (refine (foldl_pending (fun _ _ _ hb => ?_) _ _).trans ?_) | (refine (foldl_time (fun _ _ _ hb => ?_) _ _).trans ?_) | (refine (foldl_dev (fun _ _ _ hb => ?_) _ _).trans ?_) | (refine (foldl_fuses (fun _ _ _ hb => ?_) _ _).trans ?_) | (refine (foldl_params (fun _ _ _ hb => ?_) _ _).trans ?_) | (refine (foldl_map (fun _ _ _ hb => ?_) _ _).trans ?_) | (refine (foldl_media (fun _ _ _ hb => ?_) _ _).trans ?_) | (refine (foldl_flash (fun _ _ _ hb => ?_) _ _).trans ?_) | (refine (foldl_plp (fun _ _ _ hb => ?_) _ _).trans ?_) | (refine (foldl_dram (fun _ _ _ hb => ?_) _ _).trans ?_) | (refine (foldl_pwr (fun _ _ _ hb => ?_) _ _).trans ?_) | (refine (foldl_sec (fun _ _ _ hb => ?_) _ _).trans ?_) | (refine (foldl_mgmt (fun _ _ _ hb => ?_) _ _).trans ?_) | (refine (foldl_naile (fun _ _ _ hb => ?_) _ _).trans ?_) | (refine (foldl_nor (fun _ _ _ hb => ?_) _ _).trans ?_) | (refine (foldl_bus (fun _ _ _ hb => ?_) _ _).trans ?_) | (refine (foldl_free (fun _ _ _ hb => ?_) _ _).trans ?_) | split)))

theorem execDeleteIoCq_keep (tag : Nat) (s : State) {t' : State} (h : execDeleteIoCq tag s = .next t') :
    t'.pending = s.pending ∧ t'.time = s.time ∧ t'.dev = s.dev ∧ t'.fuses = s.fuses ∧ t'.params = s.params ∧ t'.map = s.map ∧ t'.media = s.media ∧ t'.flash = s.flash ∧ t'.cache = s.cache ∧ t'.plp = s.plp ∧ t'.dram = s.dram ∧ t'.pwr = s.pwr ∧ t'.sec = s.sec ∧ t'.mgmt = s.mgmt ∧ t'.naile = s.naile ∧ t'.nor = s.nor ∧ t'.bus = s.bus ∧ t'.free = s.free := by
  unfold execDeleteIoCq at h
  injection h with h
  subst h
  refine State.admin_ind (P := fun (a : State) => a.pending = s.pending ∧ a.time = s.time ∧ a.dev = s.dev ∧ a.fuses = s.fuses ∧ a.params = s.params ∧ a.map = s.map ∧ a.media = s.media ∧ a.flash = s.flash ∧ a.cache = s.cache ∧ a.plp = s.plp ∧ a.dram = s.dram ∧ a.pwr = s.pwr ∧ a.sec = s.sec ∧ a.mgmt = s.mgmt ∧ a.naile = s.naile ∧ a.nor = s.nor ∧ a.bus = s.bus ∧ a.free = s.free) (by and_intros <;> rfl) (fun _ => ?_) (fun _ => ?_) (fun _ => ?_) (fun _ => ?_)
  all_goals
    try dsimp only
    repeat' split
    all_goals (first | (simp only [and_self, (fact @State.adminCords_keep), (fact @State.adminTaken_keep), (fact @State.complete_keep), (fact @State.freeTag_keep)]; done) | (and_intros <;> (repeat' first | (simp only [and_self, (fact @State.adminCords_keep), (fact @State.adminTaken_keep), (fact @State.complete_keep), (fact @State.freeTag_keep)]; done) | (simp only [and_self, (fact @State.adminCords_keep), (fact @State.adminTaken_keep), (fact @State.complete_keep), (fact @State.freeTag_keep)]) | (split at hb) | (subst hb; simp only [and_self, (fact @State.adminCords_keep), (fact @State.adminTaken_keep), (fact @State.complete_keep), (fact @State.freeTag_keep)]) | (refine (foldl_pending (fun _ _ _ hb => ?_) _ _).trans ?_) | (refine (foldl_time (fun _ _ _ hb => ?_) _ _).trans ?_) | (refine (foldl_dev (fun _ _ _ hb => ?_) _ _).trans ?_) | (refine (foldl_fuses (fun _ _ _ hb => ?_) _ _).trans ?_) | (refine (foldl_params (fun _ _ _ hb => ?_) _ _).trans ?_) | (refine (foldl_map (fun _ _ _ hb => ?_) _ _).trans ?_) | (refine (foldl_media (fun _ _ _ hb => ?_) _ _).trans ?_) | (refine (foldl_flash (fun _ _ _ hb => ?_) _ _).trans ?_) | (refine (foldl_cache (fun _ _ _ hb => ?_) _ _).trans ?_) | (refine (foldl_plp (fun _ _ _ hb => ?_) _ _).trans ?_) | (refine (foldl_dram (fun _ _ _ hb => ?_) _ _).trans ?_) | (refine (foldl_pwr (fun _ _ _ hb => ?_) _ _).trans ?_) | (refine (foldl_sec (fun _ _ _ hb => ?_) _ _).trans ?_) | (refine (foldl_mgmt (fun _ _ _ hb => ?_) _ _).trans ?_) | (refine (foldl_naile (fun _ _ _ hb => ?_) _ _).trans ?_) | (refine (foldl_nor (fun _ _ _ hb => ?_) _ _).trans ?_) | (refine (foldl_bus (fun _ _ _ hb => ?_) _ _).trans ?_) | (refine (foldl_free (fun _ _ _ hb => ?_) _ _).trans ?_) | split)))

theorem execGetLogPage_keep (tag : Nat) (s : State) {t' : State} (h : execGetLogPage tag s = .next t') :
    t'.pending = s.pending ∧ t'.time = s.time ∧ t'.dev = s.dev ∧ t'.fuses = s.fuses ∧ t'.params = s.params ∧ t'.map = s.map ∧ t'.media = s.media ∧ t'.flash = s.flash ∧ t'.cache = s.cache ∧ t'.plp = s.plp ∧ t'.dram = s.dram ∧ t'.pwr = s.pwr ∧ t'.sec = s.sec ∧ t'.naile = s.naile ∧ t'.nor = s.nor ∧ t'.bus = s.bus ∧ t'.free = s.free := by
  unfold execGetLogPage at h
  injection h with h
  subst h
  refine State.admin_ind (P := fun (a : State) => a.pending = s.pending ∧ a.time = s.time ∧ a.dev = s.dev ∧ a.fuses = s.fuses ∧ a.params = s.params ∧ a.map = s.map ∧ a.media = s.media ∧ a.flash = s.flash ∧ a.cache = s.cache ∧ a.plp = s.plp ∧ a.dram = s.dram ∧ a.pwr = s.pwr ∧ a.sec = s.sec ∧ a.naile = s.naile ∧ a.nor = s.nor ∧ a.bus = s.bus ∧ a.free = s.free) (by and_intros <;> rfl) (fun _ => ?_) (fun _ => ?_) (fun _ => ?_) (fun _ => ?_)
  all_goals
    try dsimp only
    repeat' split
    all_goals (simp only [and_self, (fact @State.adminCords_keep), (fact @State.adminTaken_keep), (fact @State.complete_keep), (fact @State.returnData_keep), (fact @State.snapshot_keep)])

theorem execIdentify_keep (tag : Nat) (s : State) {t' : State} (h : execIdentify tag s = .next t') :
    t'.pending = s.pending ∧ t'.time = s.time ∧ t'.dev = s.dev ∧ t'.fuses = s.fuses ∧ t'.params = s.params ∧ t'.map = s.map ∧ t'.media = s.media ∧ t'.flash = s.flash ∧ t'.cache = s.cache ∧ t'.plp = s.plp ∧ t'.dram = s.dram ∧ t'.pwr = s.pwr ∧ t'.sec = s.sec ∧ t'.mgmt = s.mgmt ∧ t'.naile = s.naile ∧ t'.nor = s.nor ∧ t'.bus = s.bus ∧ t'.free = s.free := by
  unfold execIdentify at h
  injection h with h
  subst h
  refine State.admin_ind (P := fun (a : State) => a.pending = s.pending ∧ a.time = s.time ∧ a.dev = s.dev ∧ a.fuses = s.fuses ∧ a.params = s.params ∧ a.map = s.map ∧ a.media = s.media ∧ a.flash = s.flash ∧ a.cache = s.cache ∧ a.plp = s.plp ∧ a.dram = s.dram ∧ a.pwr = s.pwr ∧ a.sec = s.sec ∧ a.mgmt = s.mgmt ∧ a.naile = s.naile ∧ a.nor = s.nor ∧ a.bus = s.bus ∧ a.free = s.free) (by and_intros <;> rfl) (fun _ => ?_) (fun _ => ?_) (fun _ => ?_) (fun _ => ?_)
  all_goals
    try dsimp only
    repeat' split
    all_goals (simp only [and_self, (fact @State.adminCords_keep), (fact @State.adminTaken_keep), (fact @State.complete_keep), (fact @State.returnData_keep)])

theorem execAbort_keep (tag : Nat) (s : State) {t' : State} (h : execAbort tag s = .next t') :
    t'.pending = s.pending ∧ t'.time = s.time ∧ t'.dev = s.dev ∧ t'.fuses = s.fuses ∧ t'.params = s.params ∧ t'.map = s.map ∧ t'.media = s.media ∧ t'.flash = s.flash ∧ t'.plp = s.plp ∧ t'.dram = s.dram ∧ t'.pwr = s.pwr ∧ t'.sec = s.sec ∧ t'.mgmt = s.mgmt ∧ t'.naile = s.naile ∧ t'.nor = s.nor ∧ t'.bus = s.bus ∧ t'.free = s.free := by
  unfold execAbort at h
  injection h with h
  subst h
  refine State.admin_ind (P := fun (a : State) => a.pending = s.pending ∧ a.time = s.time ∧ a.dev = s.dev ∧ a.fuses = s.fuses ∧ a.params = s.params ∧ a.map = s.map ∧ a.media = s.media ∧ a.flash = s.flash ∧ a.plp = s.plp ∧ a.dram = s.dram ∧ a.pwr = s.pwr ∧ a.sec = s.sec ∧ a.mgmt = s.mgmt ∧ a.naile = s.naile ∧ a.nor = s.nor ∧ a.bus = s.bus ∧ a.free = s.free) (by and_intros <;> rfl) (fun _ => ?_) (fun _ => ?_) (fun _ => ?_) (fun _ => ?_)
  all_goals
    try dsimp only
    repeat' split
    all_goals (simp only [and_self, (fact @State.abortTag_keep), (fact @State.adminCords_keep), (fact @State.adminTaken_keep), (fact @State.complete_keep)])

theorem execAsynchronousEventRequest_keep (tag : Nat) (s : State) {t' : State} (h : execAsynchronousEventRequest tag s = .next t') :
    t'.pending = s.pending ∧ t'.time = s.time ∧ t'.dev = s.dev ∧ t'.fuses = s.fuses ∧ t'.params = s.params ∧ t'.map = s.map ∧ t'.media = s.media ∧ t'.flash = s.flash ∧ t'.cache = s.cache ∧ t'.plp = s.plp ∧ t'.dram = s.dram ∧ t'.pwr = s.pwr ∧ t'.sec = s.sec ∧ t'.mgmt = s.mgmt ∧ t'.naile = s.naile ∧ t'.nor = s.nor ∧ t'.bus = s.bus ∧ t'.free = s.free := by
  unfold execAsynchronousEventRequest at h
  injection h with h
  subst h
  refine State.admin_ind (P := fun (a : State) => a.pending = s.pending ∧ a.time = s.time ∧ a.dev = s.dev ∧ a.fuses = s.fuses ∧ a.params = s.params ∧ a.map = s.map ∧ a.media = s.media ∧ a.flash = s.flash ∧ a.cache = s.cache ∧ a.plp = s.plp ∧ a.dram = s.dram ∧ a.pwr = s.pwr ∧ a.sec = s.sec ∧ a.mgmt = s.mgmt ∧ a.naile = s.naile ∧ a.nor = s.nor ∧ a.bus = s.bus ∧ a.free = s.free) (by and_intros <;> rfl) (fun _ => ?_) (fun _ => ?_) (fun _ => ?_) (fun _ => ?_)
  all_goals
    try dsimp only
    repeat' split
    all_goals (simp only [and_self, (fact @State.adminCords_keep), (fact @State.adminTaken_keep), (fact @State.complete_keep), (fact @State.modTag_keep)])

theorem execKeepAlive_keep (tag : Nat) (s : State) {t' : State} (h : execKeepAlive tag s = .next t') :
    t'.pending = s.pending ∧ t'.time = s.time ∧ t'.dev = s.dev ∧ t'.fuses = s.fuses ∧ t'.params = s.params ∧ t'.map = s.map ∧ t'.media = s.media ∧ t'.flash = s.flash ∧ t'.cache = s.cache ∧ t'.plp = s.plp ∧ t'.dram = s.dram ∧ t'.pwr = s.pwr ∧ t'.sec = s.sec ∧ t'.mgmt = s.mgmt ∧ t'.naile = s.naile ∧ t'.nor = s.nor ∧ t'.bus = s.bus ∧ t'.free = s.free := by
  unfold execKeepAlive at h
  injection h with h
  subst h
  refine State.admin_ind (P := fun (a : State) => a.pending = s.pending ∧ a.time = s.time ∧ a.dev = s.dev ∧ a.fuses = s.fuses ∧ a.params = s.params ∧ a.map = s.map ∧ a.media = s.media ∧ a.flash = s.flash ∧ a.cache = s.cache ∧ a.plp = s.plp ∧ a.dram = s.dram ∧ a.pwr = s.pwr ∧ a.sec = s.sec ∧ a.mgmt = s.mgmt ∧ a.naile = s.naile ∧ a.nor = s.nor ∧ a.bus = s.bus ∧ a.free = s.free) (by and_intros <;> rfl) (fun _ => ?_) (fun _ => ?_) (fun _ => ?_) (fun _ => ?_)
  all_goals
    try dsimp only
    repeat' split
    all_goals (simp only [and_self, (fact @State.adminCords_keep), (fact @State.adminTaken_keep), (fact @State.complete_keep)])

theorem execArbitration_keep (tag : Nat) (s : State) {t' : State} (h : execArbitration tag s = .next t') :
    t'.pending = s.pending ∧ t'.time = s.time ∧ t'.dev = s.dev ∧ t'.fuses = s.fuses ∧ t'.params = s.params ∧ t'.map = s.map ∧ t'.media = s.media ∧ t'.flash = s.flash ∧ t'.cache = s.cache ∧ t'.plp = s.plp ∧ t'.dram = s.dram ∧ t'.sec = s.sec ∧ t'.mgmt = s.mgmt ∧ t'.naile = s.naile ∧ t'.nor = s.nor ∧ t'.bus = s.bus ∧ t'.free = s.free := by
  unfold execArbitration State.setFeature at h
  injection h with h
  subst h
  refine State.admin_ind (P := fun (a : State) => a.pending = s.pending ∧ a.time = s.time ∧ a.dev = s.dev ∧ a.fuses = s.fuses ∧ a.params = s.params ∧ a.map = s.map ∧ a.media = s.media ∧ a.flash = s.flash ∧ a.cache = s.cache ∧ a.plp = s.plp ∧ a.dram = s.dram ∧ a.sec = s.sec ∧ a.mgmt = s.mgmt ∧ a.naile = s.naile ∧ a.nor = s.nor ∧ a.bus = s.bus ∧ a.free = s.free) (by and_intros <;> rfl) (fun _ => ?_) (fun _ => ?_) (fun _ => ?_) (fun _ => ?_)
  all_goals
    try dsimp only
    repeat' split
    all_goals (simp only [and_self, (fact @State.adminCords_keep), (fact @State.adminTaken_keep), (fact @State.complete_keep), (fact @State.keepFeature_keep), (fact @State.recheckPower_keep)])

theorem execPowerManagement_keep (tag : Nat) (s : State) {t' : State} (h : execPowerManagement tag s = .next t') :
    t'.pending = s.pending ∧ t'.time = s.time ∧ t'.dev = s.dev ∧ t'.fuses = s.fuses ∧ t'.params = s.params ∧ t'.map = s.map ∧ t'.media = s.media ∧ t'.flash = s.flash ∧ t'.cache = s.cache ∧ t'.plp = s.plp ∧ t'.dram = s.dram ∧ t'.sec = s.sec ∧ t'.mgmt = s.mgmt ∧ t'.naile = s.naile ∧ t'.nor = s.nor ∧ t'.bus = s.bus ∧ t'.free = s.free := by
  unfold execPowerManagement State.setFeature at h
  injection h with h
  subst h
  refine State.admin_ind (P := fun (a : State) => a.pending = s.pending ∧ a.time = s.time ∧ a.dev = s.dev ∧ a.fuses = s.fuses ∧ a.params = s.params ∧ a.map = s.map ∧ a.media = s.media ∧ a.flash = s.flash ∧ a.cache = s.cache ∧ a.plp = s.plp ∧ a.dram = s.dram ∧ a.sec = s.sec ∧ a.mgmt = s.mgmt ∧ a.naile = s.naile ∧ a.nor = s.nor ∧ a.bus = s.bus ∧ a.free = s.free) (by and_intros <;> rfl) (fun _ => ?_) (fun _ => ?_) (fun _ => ?_) (fun _ => ?_)
  all_goals
    try dsimp only
    repeat' split
    all_goals (simp only [and_self, (fact @State.adminCords_keep), (fact @State.adminTaken_keep), (fact @State.complete_keep), (fact @State.recheckPower_keep)])

theorem execTemperatureThreshold_keep (tag : Nat) (s : State) {t' : State} (h : execTemperatureThreshold tag s = .next t') :
    t'.pending = s.pending ∧ t'.time = s.time ∧ t'.dev = s.dev ∧ t'.fuses = s.fuses ∧ t'.params = s.params ∧ t'.map = s.map ∧ t'.media = s.media ∧ t'.flash = s.flash ∧ t'.cache = s.cache ∧ t'.plp = s.plp ∧ t'.dram = s.dram ∧ t'.sec = s.sec ∧ t'.mgmt = s.mgmt ∧ t'.naile = s.naile ∧ t'.nor = s.nor ∧ t'.bus = s.bus ∧ t'.free = s.free := by
  unfold execTemperatureThreshold State.setFeature at h
  injection h with h
  subst h
  refine State.admin_ind (P := fun (a : State) => a.pending = s.pending ∧ a.time = s.time ∧ a.dev = s.dev ∧ a.fuses = s.fuses ∧ a.params = s.params ∧ a.map = s.map ∧ a.media = s.media ∧ a.flash = s.flash ∧ a.cache = s.cache ∧ a.plp = s.plp ∧ a.dram = s.dram ∧ a.sec = s.sec ∧ a.mgmt = s.mgmt ∧ a.naile = s.naile ∧ a.nor = s.nor ∧ a.bus = s.bus ∧ a.free = s.free) (by and_intros <;> rfl) (fun _ => ?_) (fun _ => ?_) (fun _ => ?_) (fun _ => ?_)
  all_goals
    try dsimp only
    repeat' split
    all_goals (simp only [and_self, (fact @State.adminCords_keep), (fact @State.adminTaken_keep), (fact @State.complete_keep), (fact @State.keepFeature_keep), (fact @State.recheckPower_keep)])

theorem execVolatileWriteCache_keep (tag : Nat) (s : State) {t' : State} (h : execVolatileWriteCache tag s = .next t') :
    t'.pending = s.pending ∧ t'.time = s.time ∧ t'.dev = s.dev ∧ t'.fuses = s.fuses ∧ t'.params = s.params ∧ t'.map = s.map ∧ t'.media = s.media ∧ t'.flash = s.flash ∧ t'.cache = s.cache ∧ t'.plp = s.plp ∧ t'.dram = s.dram ∧ t'.sec = s.sec ∧ t'.mgmt = s.mgmt ∧ t'.naile = s.naile ∧ t'.nor = s.nor ∧ t'.bus = s.bus ∧ t'.free = s.free := by
  unfold execVolatileWriteCache State.setFeature at h
  injection h with h
  subst h
  refine State.admin_ind (P := fun (a : State) => a.pending = s.pending ∧ a.time = s.time ∧ a.dev = s.dev ∧ a.fuses = s.fuses ∧ a.params = s.params ∧ a.map = s.map ∧ a.media = s.media ∧ a.flash = s.flash ∧ a.cache = s.cache ∧ a.plp = s.plp ∧ a.dram = s.dram ∧ a.sec = s.sec ∧ a.mgmt = s.mgmt ∧ a.naile = s.naile ∧ a.nor = s.nor ∧ a.bus = s.bus ∧ a.free = s.free) (by and_intros <;> rfl) (fun _ => ?_) (fun _ => ?_) (fun _ => ?_) (fun _ => ?_)
  all_goals
    try dsimp only
    repeat' split
    all_goals (simp only [and_self, (fact @State.adminCords_keep), (fact @State.adminTaken_keep), (fact @State.complete_keep), (fact @State.keepFeature_keep), (fact @State.recheckPower_keep)])

theorem execNumberOfQueues_keep (tag : Nat) (s : State) {t' : State} (h : execNumberOfQueues tag s = .next t') : t'.pending = s.pending ∧ t'.time = s.time ∧ t'.dev = s.dev ∧ t'.fuses = s.fuses ∧ t'.params = s.params ∧ t'.map = s.map ∧ t'.media = s.media ∧ t'.flash = s.flash ∧ t'.cache = s.cache ∧ t'.plp = s.plp ∧ t'.dram = s.dram ∧ t'.sec = s.sec ∧ t'.mgmt = s.mgmt ∧ t'.naile = s.naile ∧ t'.nor = s.nor ∧ t'.bus = s.bus ∧ t'.free = s.free := by
  unfold execNumberOfQueues State.setFeature at h
  injection h with h
  subst h
  refine State.admin_ind (P := fun (a : State) => a.pending = s.pending ∧ a.time = s.time ∧ a.dev = s.dev ∧ a.fuses = s.fuses ∧ a.params = s.params ∧ a.map = s.map ∧ a.media = s.media ∧ a.flash = s.flash ∧ a.cache = s.cache ∧ a.plp = s.plp ∧ a.dram = s.dram ∧ a.sec = s.sec ∧ a.mgmt = s.mgmt ∧ a.naile = s.naile ∧ a.nor = s.nor ∧ a.bus = s.bus ∧ a.free = s.free) (by and_intros <;> rfl) (fun _ => ?_) (fun _ => ?_) (fun _ => ?_) (fun _ => ?_)
  · simp only [(fact @State.complete_keep), and_self]
  · simp only [(fact @State.adminCords_keep), (fact @State.adminTaken_keep), and_self]
  all_goals
    dsimp only
    repeat' split
    all_goals simp only [(fact @State.recheckPower_keep), (fact @State.complete_keep), (fact @State.adminCords_keep), (fact @State.adminTaken_keep), and_self]

theorem execInterruptCoalescing_keep (tag : Nat) (s : State) {t' : State} (h : execInterruptCoalescing tag s = .next t') :
    t'.pending = s.pending ∧ t'.time = s.time ∧ t'.dev = s.dev ∧ t'.fuses = s.fuses ∧ t'.params = s.params ∧ t'.map = s.map ∧ t'.media = s.media ∧ t'.flash = s.flash ∧ t'.cache = s.cache ∧ t'.plp = s.plp ∧ t'.dram = s.dram ∧ t'.sec = s.sec ∧ t'.mgmt = s.mgmt ∧ t'.naile = s.naile ∧ t'.nor = s.nor ∧ t'.bus = s.bus ∧ t'.free = s.free := by
  unfold execInterruptCoalescing State.setFeature at h
  injection h with h
  subst h
  refine State.admin_ind (P := fun (a : State) => a.pending = s.pending ∧ a.time = s.time ∧ a.dev = s.dev ∧ a.fuses = s.fuses ∧ a.params = s.params ∧ a.map = s.map ∧ a.media = s.media ∧ a.flash = s.flash ∧ a.cache = s.cache ∧ a.plp = s.plp ∧ a.dram = s.dram ∧ a.sec = s.sec ∧ a.mgmt = s.mgmt ∧ a.naile = s.naile ∧ a.nor = s.nor ∧ a.bus = s.bus ∧ a.free = s.free) (by and_intros <;> rfl) (fun _ => ?_) (fun _ => ?_) (fun _ => ?_) (fun _ => ?_)
  all_goals
    try dsimp only
    repeat' split
    all_goals (simp only [and_self, (fact @State.adminCords_keep), (fact @State.adminTaken_keep), (fact @State.complete_keep), (fact @State.keepFeature_keep), (fact @State.recheckPower_keep)])

theorem execInterruptVectorConfiguration_keep (tag : Nat) (s : State) {t' : State} (h : execInterruptVectorConfiguration tag s = .next t') :
    t'.pending = s.pending ∧ t'.time = s.time ∧ t'.dev = s.dev ∧ t'.fuses = s.fuses ∧ t'.params = s.params ∧ t'.map = s.map ∧ t'.media = s.media ∧ t'.flash = s.flash ∧ t'.cache = s.cache ∧ t'.plp = s.plp ∧ t'.dram = s.dram ∧ t'.sec = s.sec ∧ t'.mgmt = s.mgmt ∧ t'.naile = s.naile ∧ t'.nor = s.nor ∧ t'.bus = s.bus ∧ t'.free = s.free := by
  unfold execInterruptVectorConfiguration State.setFeature at h
  injection h with h
  subst h
  refine State.admin_ind (P := fun (a : State) => a.pending = s.pending ∧ a.time = s.time ∧ a.dev = s.dev ∧ a.fuses = s.fuses ∧ a.params = s.params ∧ a.map = s.map ∧ a.media = s.media ∧ a.flash = s.flash ∧ a.cache = s.cache ∧ a.plp = s.plp ∧ a.dram = s.dram ∧ a.sec = s.sec ∧ a.mgmt = s.mgmt ∧ a.naile = s.naile ∧ a.nor = s.nor ∧ a.bus = s.bus ∧ a.free = s.free) (by and_intros <;> rfl) (fun _ => ?_) (fun _ => ?_) (fun _ => ?_) (fun _ => ?_)
  all_goals
    try dsimp only
    repeat' split
    all_goals (simp only [and_self, (fact @State.adminCords_keep), (fact @State.adminTaken_keep), (fact @State.complete_keep), (fact @State.keepFeature_keep), (fact @State.recheckPower_keep)])

theorem execWriteAtomicityNormal_keep (tag : Nat) (s : State) {t' : State} (h : execWriteAtomicityNormal tag s = .next t') :
    t'.pending = s.pending ∧ t'.time = s.time ∧ t'.dev = s.dev ∧ t'.fuses = s.fuses ∧ t'.params = s.params ∧ t'.map = s.map ∧ t'.media = s.media ∧ t'.flash = s.flash ∧ t'.cache = s.cache ∧ t'.plp = s.plp ∧ t'.dram = s.dram ∧ t'.sec = s.sec ∧ t'.mgmt = s.mgmt ∧ t'.naile = s.naile ∧ t'.nor = s.nor ∧ t'.bus = s.bus ∧ t'.free = s.free := by
  unfold execWriteAtomicityNormal State.setFeature at h
  injection h with h
  subst h
  refine State.admin_ind (P := fun (a : State) => a.pending = s.pending ∧ a.time = s.time ∧ a.dev = s.dev ∧ a.fuses = s.fuses ∧ a.params = s.params ∧ a.map = s.map ∧ a.media = s.media ∧ a.flash = s.flash ∧ a.cache = s.cache ∧ a.plp = s.plp ∧ a.dram = s.dram ∧ a.sec = s.sec ∧ a.mgmt = s.mgmt ∧ a.naile = s.naile ∧ a.nor = s.nor ∧ a.bus = s.bus ∧ a.free = s.free) (by and_intros <;> rfl) (fun _ => ?_) (fun _ => ?_) (fun _ => ?_) (fun _ => ?_)
  all_goals
    try dsimp only
    repeat' split
    all_goals (simp only [and_self, (fact @State.adminCords_keep), (fact @State.adminTaken_keep), (fact @State.complete_keep), (fact @State.keepFeature_keep), (fact @State.recheckPower_keep)])

theorem execAsyncEventConfiguration_keep (tag : Nat) (s : State) {t' : State} (h : execAsyncEventConfiguration tag s = .next t') :
    t'.pending = s.pending ∧ t'.time = s.time ∧ t'.dev = s.dev ∧ t'.fuses = s.fuses ∧ t'.params = s.params ∧ t'.map = s.map ∧ t'.media = s.media ∧ t'.flash = s.flash ∧ t'.cache = s.cache ∧ t'.plp = s.plp ∧ t'.dram = s.dram ∧ t'.sec = s.sec ∧ t'.mgmt = s.mgmt ∧ t'.naile = s.naile ∧ t'.nor = s.nor ∧ t'.bus = s.bus ∧ t'.free = s.free := by
  unfold execAsyncEventConfiguration State.setFeature at h
  injection h with h
  subst h
  refine State.admin_ind (P := fun (a : State) => a.pending = s.pending ∧ a.time = s.time ∧ a.dev = s.dev ∧ a.fuses = s.fuses ∧ a.params = s.params ∧ a.map = s.map ∧ a.media = s.media ∧ a.flash = s.flash ∧ a.cache = s.cache ∧ a.plp = s.plp ∧ a.dram = s.dram ∧ a.sec = s.sec ∧ a.mgmt = s.mgmt ∧ a.naile = s.naile ∧ a.nor = s.nor ∧ a.bus = s.bus ∧ a.free = s.free) (by and_intros <;> rfl) (fun _ => ?_) (fun _ => ?_) (fun _ => ?_) (fun _ => ?_)
  all_goals
    try dsimp only
    repeat' split
    all_goals (simp only [and_self, (fact @State.adminCords_keep), (fact @State.adminTaken_keep), (fact @State.complete_keep), (fact @State.keepFeature_keep), (fact @State.recheckPower_keep)])

theorem execTimestamp_keep (tag : Nat) (s : State) {t' : State} (h : execTimestamp tag s = .next t') :
    t'.pending = s.pending ∧ t'.time = s.time ∧ t'.dev = s.dev ∧ t'.fuses = s.fuses ∧ t'.params = s.params ∧ t'.map = s.map ∧ t'.media = s.media ∧ t'.flash = s.flash ∧ t'.cache = s.cache ∧ t'.plp = s.plp ∧ t'.dram = s.dram ∧ t'.sec = s.sec ∧ t'.mgmt = s.mgmt ∧ t'.naile = s.naile ∧ t'.nor = s.nor ∧ t'.bus = s.bus ∧ t'.free = s.free := by
  unfold execTimestamp State.setFeature at h
  injection h with h
  subst h
  refine State.admin_ind (P := fun (a : State) => a.pending = s.pending ∧ a.time = s.time ∧ a.dev = s.dev ∧ a.fuses = s.fuses ∧ a.params = s.params ∧ a.map = s.map ∧ a.media = s.media ∧ a.flash = s.flash ∧ a.cache = s.cache ∧ a.plp = s.plp ∧ a.dram = s.dram ∧ a.sec = s.sec ∧ a.mgmt = s.mgmt ∧ a.naile = s.naile ∧ a.nor = s.nor ∧ a.bus = s.bus ∧ a.free = s.free) (by and_intros <;> rfl) (fun _ => ?_) (fun _ => ?_) (fun _ => ?_) (fun _ => ?_)
  all_goals
    try dsimp only
    repeat' split
    all_goals (simp only [and_self, (fact @State.adminCords_keep), (fact @State.adminTaken_keep), (fact @State.complete_keep), (fact @State.recheckPower_keep)])

theorem execKeepAliveTimer_keep (tag : Nat) (s : State) {t' : State} (h : execKeepAliveTimer tag s = .next t') :
    t'.pending = s.pending ∧ t'.time = s.time ∧ t'.dev = s.dev ∧ t'.fuses = s.fuses ∧ t'.params = s.params ∧ t'.map = s.map ∧ t'.media = s.media ∧ t'.flash = s.flash ∧ t'.cache = s.cache ∧ t'.plp = s.plp ∧ t'.dram = s.dram ∧ t'.sec = s.sec ∧ t'.mgmt = s.mgmt ∧ t'.naile = s.naile ∧ t'.nor = s.nor ∧ t'.bus = s.bus ∧ t'.free = s.free := by
  unfold execKeepAliveTimer State.setFeature at h
  injection h with h
  subst h
  refine State.admin_ind (P := fun (a : State) => a.pending = s.pending ∧ a.time = s.time ∧ a.dev = s.dev ∧ a.fuses = s.fuses ∧ a.params = s.params ∧ a.map = s.map ∧ a.media = s.media ∧ a.flash = s.flash ∧ a.cache = s.cache ∧ a.plp = s.plp ∧ a.dram = s.dram ∧ a.sec = s.sec ∧ a.mgmt = s.mgmt ∧ a.naile = s.naile ∧ a.nor = s.nor ∧ a.bus = s.bus ∧ a.free = s.free) (by and_intros <;> rfl) (fun _ => ?_) (fun _ => ?_) (fun _ => ?_) (fun _ => ?_)
  all_goals
    try dsimp only
    repeat' split
    all_goals (simp only [and_self, (fact @State.adminCords_keep), (fact @State.adminTaken_keep), (fact @State.complete_keep), (fact @State.keepFeature_keep), (fact @State.recheckPower_keep)])

theorem execHostIdentifier_keep (tag : Nat) (s : State) {t' : State} (h : execHostIdentifier tag s = .next t') :
    t'.pending = s.pending ∧ t'.time = s.time ∧ t'.dev = s.dev ∧ t'.fuses = s.fuses ∧ t'.params = s.params ∧ t'.map = s.map ∧ t'.media = s.media ∧ t'.flash = s.flash ∧ t'.cache = s.cache ∧ t'.plp = s.plp ∧ t'.dram = s.dram ∧ t'.sec = s.sec ∧ t'.mgmt = s.mgmt ∧ t'.naile = s.naile ∧ t'.nor = s.nor ∧ t'.bus = s.bus ∧ t'.free = s.free := by
  unfold execHostIdentifier State.setFeature at h
  injection h with h
  subst h
  refine State.admin_ind (P := fun (a : State) => a.pending = s.pending ∧ a.time = s.time ∧ a.dev = s.dev ∧ a.fuses = s.fuses ∧ a.params = s.params ∧ a.map = s.map ∧ a.media = s.media ∧ a.flash = s.flash ∧ a.cache = s.cache ∧ a.plp = s.plp ∧ a.dram = s.dram ∧ a.sec = s.sec ∧ a.mgmt = s.mgmt ∧ a.naile = s.naile ∧ a.nor = s.nor ∧ a.bus = s.bus ∧ a.free = s.free) (by and_intros <;> rfl) (fun _ => ?_) (fun _ => ?_) (fun _ => ?_) (fun _ => ?_)
  all_goals
    try dsimp only
    repeat' split
    all_goals (simp only [and_self, (fact @State.adminCords_keep), (fact @State.adminTaken_keep), (fact @State.complete_keep), (fact @State.keepFeature_keep), (fact @State.recheckPower_keep)])

theorem execReservationNotificationMask_keep (tag : Nat) (s : State) {t' : State} (h : execReservationNotificationMask tag s = .next t') :
    t'.pending = s.pending ∧ t'.time = s.time ∧ t'.dev = s.dev ∧ t'.fuses = s.fuses ∧ t'.params = s.params ∧ t'.map = s.map ∧ t'.media = s.media ∧ t'.flash = s.flash ∧ t'.cache = s.cache ∧ t'.plp = s.plp ∧ t'.dram = s.dram ∧ t'.sec = s.sec ∧ t'.mgmt = s.mgmt ∧ t'.naile = s.naile ∧ t'.nor = s.nor ∧ t'.bus = s.bus ∧ t'.free = s.free := by
  unfold execReservationNotificationMask State.setFeature at h
  injection h with h
  subst h
  refine State.admin_ind (P := fun (a : State) => a.pending = s.pending ∧ a.time = s.time ∧ a.dev = s.dev ∧ a.fuses = s.fuses ∧ a.params = s.params ∧ a.map = s.map ∧ a.media = s.media ∧ a.flash = s.flash ∧ a.cache = s.cache ∧ a.plp = s.plp ∧ a.dram = s.dram ∧ a.sec = s.sec ∧ a.mgmt = s.mgmt ∧ a.naile = s.naile ∧ a.nor = s.nor ∧ a.bus = s.bus ∧ a.free = s.free) (by and_intros <;> rfl) (fun _ => ?_) (fun _ => ?_) (fun _ => ?_) (fun _ => ?_)
  all_goals
    try dsimp only
    repeat' split
    all_goals (first | (simp only [and_self, (fact @State.adminCords_keep), (fact @State.adminTaken_keep), (fact @State.complete_keep), (fact @State.recheckPower_keep)]; done) | (and_intros <;> (repeat' first | (simp only [and_self, (fact @State.adminCords_keep), (fact @State.adminTaken_keep), (fact @State.complete_keep), (fact @State.recheckPower_keep)]; done) | (simp only [and_self, (fact @State.adminCords_keep), (fact @State.adminTaken_keep), (fact @State.complete_keep), (fact @State.recheckPower_keep)]) | (split at hb) | (subst hb; simp only [and_self, (fact @State.adminCords_keep), (fact @State.adminTaken_keep), (fact @State.complete_keep), (fact @State.recheckPower_keep)]) | (refine (foldl_pending (fun _ _ _ hb => ?_) _ _).trans ?_) | (refine (foldl_time (fun _ _ _ hb => ?_) _ _).trans ?_) | (refine (foldl_dev (fun _ _ _ hb => ?_) _ _).trans ?_) | (refine (foldl_fuses (fun _ _ _ hb => ?_) _ _).trans ?_) | (refine (foldl_params (fun _ _ _ hb => ?_) _ _).trans ?_) | (refine (foldl_map (fun _ _ _ hb => ?_) _ _).trans ?_) | (refine (foldl_media (fun _ _ _ hb => ?_) _ _).trans ?_) | (refine (foldl_flash (fun _ _ _ hb => ?_) _ _).trans ?_) | (refine (foldl_cache (fun _ _ _ hb => ?_) _ _).trans ?_) | (refine (foldl_plp (fun _ _ _ hb => ?_) _ _).trans ?_) | (refine (foldl_dram (fun _ _ _ hb => ?_) _ _).trans ?_) | (refine (foldl_sec (fun _ _ _ hb => ?_) _ _).trans ?_) | (refine (foldl_mgmt (fun _ _ _ hb => ?_) _ _).trans ?_) | (refine (foldl_naile (fun _ _ _ hb => ?_) _ _).trans ?_) | (refine (foldl_nor (fun _ _ _ hb => ?_) _ _).trans ?_) | (refine (foldl_bus (fun _ _ _ hb => ?_) _ _).trans ?_) | (refine (foldl_free (fun _ _ _ hb => ?_) _ _).trans ?_) | split)))

theorem execReservationPersistence_keep (tag : Nat) (s : State) {t' : State} (h : execReservationPersistence tag s = .next t') :
    t'.pending = s.pending ∧ t'.time = s.time ∧ t'.dev = s.dev ∧ t'.fuses = s.fuses ∧ t'.params = s.params ∧ t'.map = s.map ∧ t'.media = s.media ∧ t'.flash = s.flash ∧ t'.cache = s.cache ∧ t'.plp = s.plp ∧ t'.dram = s.dram ∧ t'.sec = s.sec ∧ t'.naile = s.naile ∧ t'.nor = s.nor ∧ t'.bus = s.bus ∧ t'.free = s.free := by
  unfold execReservationPersistence State.setFeature at h
  injection h with h
  subst h
  refine State.admin_ind (P := fun (a : State) => a.pending = s.pending ∧ a.time = s.time ∧ a.dev = s.dev ∧ a.fuses = s.fuses ∧ a.params = s.params ∧ a.map = s.map ∧ a.media = s.media ∧ a.flash = s.flash ∧ a.cache = s.cache ∧ a.plp = s.plp ∧ a.dram = s.dram ∧ a.sec = s.sec ∧ a.naile = s.naile ∧ a.nor = s.nor ∧ a.bus = s.bus ∧ a.free = s.free) (by and_intros <;> rfl) (fun _ => ?_) (fun _ => ?_) (fun _ => ?_) (fun _ => ?_)
  all_goals
    try dsimp only
    repeat' split
    all_goals (first | (simp only [and_self, (fact @State.adminCords_keep), (fact @State.adminTaken_keep), (fact @State.complete_keep), (fact @State.journal_keep), (fact @State.recheckPower_keep)]; done) | (and_intros <;> (repeat' first | (simp only [and_self, (fact @State.adminCords_keep), (fact @State.adminTaken_keep), (fact @State.complete_keep), (fact @State.journal_keep), (fact @State.recheckPower_keep)]; done) | (simp only [and_self, (fact @State.adminCords_keep), (fact @State.adminTaken_keep), (fact @State.complete_keep), (fact @State.journal_keep), (fact @State.recheckPower_keep)]) | (split at hb) | (subst hb; simp only [and_self, (fact @State.adminCords_keep), (fact @State.adminTaken_keep), (fact @State.complete_keep), (fact @State.journal_keep), (fact @State.recheckPower_keep)]) | (refine (foldl_pending (fun _ _ _ hb => ?_) _ _).trans ?_) | (refine (foldl_time (fun _ _ _ hb => ?_) _ _).trans ?_) | (refine (foldl_dev (fun _ _ _ hb => ?_) _ _).trans ?_) | (refine (foldl_fuses (fun _ _ _ hb => ?_) _ _).trans ?_) | (refine (foldl_params (fun _ _ _ hb => ?_) _ _).trans ?_) | (refine (foldl_map (fun _ _ _ hb => ?_) _ _).trans ?_) | (refine (foldl_media (fun _ _ _ hb => ?_) _ _).trans ?_) | (refine (foldl_flash (fun _ _ _ hb => ?_) _ _).trans ?_) | (refine (foldl_cache (fun _ _ _ hb => ?_) _ _).trans ?_) | (refine (foldl_plp (fun _ _ _ hb => ?_) _ _).trans ?_) | (refine (foldl_dram (fun _ _ _ hb => ?_) _ _).trans ?_) | (refine (foldl_sec (fun _ _ _ hb => ?_) _ _).trans ?_) | (refine (foldl_naile (fun _ _ _ hb => ?_) _ _).trans ?_) | (refine (foldl_nor (fun _ _ _ hb => ?_) _ _).trans ?_) | (refine (foldl_bus (fun _ _ _ hb => ?_) _ _).trans ?_) | (refine (foldl_free (fun _ _ _ hb => ?_) _ _).trans ?_) | split)))

theorem execUnsupportedFeature_keep (tag : Nat) (s : State) {t' : State} (h : execUnsupportedFeature tag s = .next t') :
    t'.pending = s.pending ∧ t'.time = s.time ∧ t'.dev = s.dev ∧ t'.fuses = s.fuses ∧ t'.params = s.params ∧ t'.map = s.map ∧ t'.media = s.media ∧ t'.flash = s.flash ∧ t'.cache = s.cache ∧ t'.plp = s.plp ∧ t'.dram = s.dram ∧ t'.sec = s.sec ∧ t'.mgmt = s.mgmt ∧ t'.naile = s.naile ∧ t'.nor = s.nor ∧ t'.bus = s.bus ∧ t'.free = s.free := by
  unfold execUnsupportedFeature at h
  injection h with h
  subst h
  refine State.admin_ind (P := fun (a : State) => a.pending = s.pending ∧ a.time = s.time ∧ a.dev = s.dev ∧ a.fuses = s.fuses ∧ a.params = s.params ∧ a.map = s.map ∧ a.media = s.media ∧ a.flash = s.flash ∧ a.cache = s.cache ∧ a.plp = s.plp ∧ a.dram = s.dram ∧ a.sec = s.sec ∧ a.mgmt = s.mgmt ∧ a.naile = s.naile ∧ a.nor = s.nor ∧ a.bus = s.bus ∧ a.free = s.free) (by and_intros <;> rfl) (fun _ => ?_) (fun _ => ?_) (fun _ => ?_) (fun _ => ?_)
  all_goals
    try dsimp only
    repeat' split
    all_goals (simp only [and_self, (fact @State.adminCords_keep), (fact @State.adminTaken_keep), (fact @State.complete_keep), (fact @State.recheckPower_keep)])

theorem execGetFeatures_keep (tag : Nat) (s : State) {t' : State} (h : execGetFeatures tag s = .next t') :
    t'.pending = s.pending ∧ t'.time = s.time ∧ t'.dev = s.dev ∧ t'.fuses = s.fuses ∧ t'.params = s.params ∧ t'.map = s.map ∧ t'.media = s.media ∧ t'.flash = s.flash ∧ t'.cache = s.cache ∧ t'.plp = s.plp ∧ t'.dram = s.dram ∧ t'.pwr = s.pwr ∧ t'.sec = s.sec ∧ t'.mgmt = s.mgmt ∧ t'.naile = s.naile ∧ t'.nor = s.nor ∧ t'.bus = s.bus ∧ t'.free = s.free := by
  unfold execGetFeatures at h
  injection h with h
  subst h
  refine State.admin_ind (P := fun (a : State) => a.pending = s.pending ∧ a.time = s.time ∧ a.dev = s.dev ∧ a.fuses = s.fuses ∧ a.params = s.params ∧ a.map = s.map ∧ a.media = s.media ∧ a.flash = s.flash ∧ a.cache = s.cache ∧ a.plp = s.plp ∧ a.dram = s.dram ∧ a.pwr = s.pwr ∧ a.sec = s.sec ∧ a.mgmt = s.mgmt ∧ a.naile = s.naile ∧ a.nor = s.nor ∧ a.bus = s.bus ∧ a.free = s.free) (by and_intros <;> rfl) (fun _ => ?_) (fun _ => ?_) (fun _ => ?_) (fun _ => ?_)
  all_goals
    try dsimp only
    repeat' split
    all_goals (simp only [and_self, (fact @State.adminCords_keep), (fact @State.adminTaken_keep), (fact @State.complete_keep), (fact @State.returnData_keep)])

theorem execNamespaceCreate_keep (tag : Nat) (s : State) {t' : State} (h : execNamespaceCreate tag s = .next t') :
    t'.pending = s.pending ∧ t'.time = s.time ∧ t'.dev = s.dev ∧ t'.fuses = s.fuses ∧ t'.params = s.params ∧ t'.flash = s.flash ∧ t'.cache = s.cache ∧ t'.plp = s.plp ∧ t'.dram = s.dram ∧ t'.pwr = s.pwr ∧ t'.sec = s.sec ∧ t'.naile = s.naile ∧ t'.nor = s.nor ∧ t'.bus = s.bus ∧ t'.free = s.free := by
  unfold execNamespaceCreate at h
  injection h with h
  subst h
  refine State.adminPf_ind (P := fun (a : State) => a.pending = s.pending ∧ a.time = s.time ∧ a.dev = s.dev ∧ a.fuses = s.fuses ∧ a.params = s.params ∧ a.flash = s.flash ∧ a.cache = s.cache ∧ a.plp = s.plp ∧ a.dram = s.dram ∧ a.pwr = s.pwr ∧ a.sec = s.sec ∧ a.naile = s.naile ∧ a.nor = s.nor ∧ a.bus = s.bus ∧ a.free = s.free) (by and_intros <;> rfl) (fun _ => ?_) (fun _ => ?_) (fun _ => ?_) (fun _ => ?_)
  all_goals
    try dsimp only
    repeat' split
    all_goals (simp only [and_self, (fact @State.adminCords_keep), (fact @State.adminTaken_keep), (fact @State.complete_keep), (fact @State.createInParts_keep), (fact @State.createNs_keep), (fact @State.recheckSpare_keep)])

theorem execNamespaceDelete_keep (tag : Nat) (s : State) {t' : State} (h : execNamespaceDelete tag s = .next t') :
    t'.pending = s.pending ∧ t'.time = s.time ∧ t'.dev = s.dev ∧ t'.fuses = s.fuses ∧ t'.params = s.params ∧ t'.map = s.map ∧ t'.media = s.media ∧ t'.flash = s.flash ∧ t'.cache = s.cache ∧ t'.plp = s.plp ∧ t'.dram = s.dram ∧ t'.pwr = s.pwr ∧ t'.sec = s.sec ∧ t'.mgmt = s.mgmt ∧ t'.naile = s.naile ∧ t'.nor = s.nor ∧ t'.bus = s.bus ∧ t'.free = s.free := by
  unfold execNamespaceDelete at h
  injection h with h
  subst h
  refine State.adminPf_ind (P := fun (a : State) => a.pending = s.pending ∧ a.time = s.time ∧ a.dev = s.dev ∧ a.fuses = s.fuses ∧ a.params = s.params ∧ a.map = s.map ∧ a.media = s.media ∧ a.flash = s.flash ∧ a.cache = s.cache ∧ a.plp = s.plp ∧ a.dram = s.dram ∧ a.pwr = s.pwr ∧ a.sec = s.sec ∧ a.mgmt = s.mgmt ∧ a.naile = s.naile ∧ a.nor = s.nor ∧ a.bus = s.bus ∧ a.free = s.free) (by and_intros <;> rfl) (fun _ => ?_) (fun _ => ?_) (fun _ => ?_) (fun _ => ?_)
  all_goals
    try dsimp only
    repeat' split
    all_goals (simp only [and_self, (fact @State.adminCords_keep), (fact @State.adminTaken_keep), (fact @State.complete_keep), (fact @State.startOp_keep)])

theorem execNamespaceAttach_keep (tag : Nat) (s : State) {t' : State} (h : execNamespaceAttach tag s = .next t') :
    t'.pending = s.pending ∧ t'.time = s.time ∧ t'.dev = s.dev ∧ t'.fuses = s.fuses ∧ t'.params = s.params ∧ t'.map = s.map ∧ t'.media = s.media ∧ t'.flash = s.flash ∧ t'.cache = s.cache ∧ t'.plp = s.plp ∧ t'.dram = s.dram ∧ t'.pwr = s.pwr ∧ t'.sec = s.sec ∧ t'.naile = s.naile ∧ t'.nor = s.nor ∧ t'.free = s.free := by
  unfold execNamespaceAttach at h
  injection h with h
  subst h
  refine State.adminPf_ind (P := fun (a : State) => a.pending = s.pending ∧ a.time = s.time ∧ a.dev = s.dev ∧ a.fuses = s.fuses ∧ a.params = s.params ∧ a.map = s.map ∧ a.media = s.media ∧ a.flash = s.flash ∧ a.cache = s.cache ∧ a.plp = s.plp ∧ a.dram = s.dram ∧ a.pwr = s.pwr ∧ a.sec = s.sec ∧ a.naile = s.naile ∧ a.nor = s.nor ∧ a.free = s.free) (by and_intros <;> rfl) (fun _ => ?_) (fun _ => ?_) (fun _ => ?_) (fun _ => ?_)
  all_goals
    try dsimp only
    repeat' split
    all_goals (simp only [and_self, (fact @State.adminCords_keep), (fact @State.adminTaken_keep), (fact @State.attachNs_keep), (fact @State.complete_keep)])

theorem execNamespaceDetach_keep (tag : Nat) (s : State) {t' : State} (h : execNamespaceDetach tag s = .next t') :
    t'.pending = s.pending ∧ t'.time = s.time ∧ t'.dev = s.dev ∧ t'.fuses = s.fuses ∧ t'.params = s.params ∧ t'.map = s.map ∧ t'.media = s.media ∧ t'.flash = s.flash ∧ t'.cache = s.cache ∧ t'.plp = s.plp ∧ t'.dram = s.dram ∧ t'.pwr = s.pwr ∧ t'.sec = s.sec ∧ t'.naile = s.naile ∧ t'.nor = s.nor ∧ t'.free = s.free := by
  unfold execNamespaceDetach at h
  injection h with h
  subst h
  refine State.adminPf_ind (P := fun (a : State) => a.pending = s.pending ∧ a.time = s.time ∧ a.dev = s.dev ∧ a.fuses = s.fuses ∧ a.params = s.params ∧ a.map = s.map ∧ a.media = s.media ∧ a.flash = s.flash ∧ a.cache = s.cache ∧ a.plp = s.plp ∧ a.dram = s.dram ∧ a.pwr = s.pwr ∧ a.sec = s.sec ∧ a.naile = s.naile ∧ a.nor = s.nor ∧ a.free = s.free) (by and_intros <;> rfl) (fun _ => ?_) (fun _ => ?_) (fun _ => ?_) (fun _ => ?_)
  all_goals
    try dsimp only
    repeat' split
    all_goals (first | (simp only [and_self, (fact @State.adminCords_keep), (fact @State.adminTaken_keep), (fact @State.complete_keep), (fact @State.detachNs_keep), (fact @State.modTag_keep)]; done) | (and_intros <;> (repeat' first | (simp only [and_self, (fact @State.adminCords_keep), (fact @State.adminTaken_keep), (fact @State.complete_keep), (fact @State.detachNs_keep), (fact @State.modTag_keep)]; done) | (simp only [and_self, (fact @State.adminCords_keep), (fact @State.adminTaken_keep), (fact @State.complete_keep), (fact @State.detachNs_keep), (fact @State.modTag_keep)]) | (split at hb) | (subst hb; simp only [and_self, (fact @State.adminCords_keep), (fact @State.adminTaken_keep), (fact @State.complete_keep), (fact @State.detachNs_keep), (fact @State.modTag_keep)]) | (refine (foldl_pending (fun _ _ _ hb => ?_) _ _).trans ?_) | (refine (foldl_time (fun _ _ _ hb => ?_) _ _).trans ?_) | (refine (foldl_dev (fun _ _ _ hb => ?_) _ _).trans ?_) | (refine (foldl_fuses (fun _ _ _ hb => ?_) _ _).trans ?_) | (refine (foldl_params (fun _ _ _ hb => ?_) _ _).trans ?_) | (refine (foldl_map (fun _ _ _ hb => ?_) _ _).trans ?_) | (refine (foldl_media (fun _ _ _ hb => ?_) _ _).trans ?_) | (refine (foldl_flash (fun _ _ _ hb => ?_) _ _).trans ?_) | (refine (foldl_cache (fun _ _ _ hb => ?_) _ _).trans ?_) | (refine (foldl_plp (fun _ _ _ hb => ?_) _ _).trans ?_) | (refine (foldl_dram (fun _ _ _ hb => ?_) _ _).trans ?_) | (refine (foldl_pwr (fun _ _ _ hb => ?_) _ _).trans ?_) | (refine (foldl_sec (fun _ _ _ hb => ?_) _ _).trans ?_) | (refine (foldl_naile (fun _ _ _ hb => ?_) _ _).trans ?_) | (refine (foldl_nor (fun _ _ _ hb => ?_) _ _).trans ?_) | (refine (foldl_free (fun _ _ _ hb => ?_) _ _).trans ?_) | split)))

theorem execFormatNvm_keep (tag : Nat) (s : State) {t' : State} (h : execFormatNvm tag s = .next t') :
    t'.pending = s.pending ∧ t'.time = s.time ∧ t'.dev = s.dev ∧ t'.fuses = s.fuses ∧ t'.params = s.params ∧ t'.map = s.map ∧ t'.media = s.media ∧ t'.flash = s.flash ∧ t'.cache = s.cache ∧ t'.plp = s.plp ∧ t'.dram = s.dram ∧ t'.pwr = s.pwr ∧ t'.sec = s.sec ∧ t'.mgmt = s.mgmt ∧ t'.naile = s.naile ∧ t'.nor = s.nor ∧ t'.bus = s.bus ∧ t'.free = s.free := by
  unfold execFormatNvm at h
  injection h with h
  subst h
  refine State.admin_ind (P := fun (a : State) => a.pending = s.pending ∧ a.time = s.time ∧ a.dev = s.dev ∧ a.fuses = s.fuses ∧ a.params = s.params ∧ a.map = s.map ∧ a.media = s.media ∧ a.flash = s.flash ∧ a.cache = s.cache ∧ a.plp = s.plp ∧ a.dram = s.dram ∧ a.pwr = s.pwr ∧ a.sec = s.sec ∧ a.mgmt = s.mgmt ∧ a.naile = s.naile ∧ a.nor = s.nor ∧ a.bus = s.bus ∧ a.free = s.free) (by and_intros <;> rfl) (fun _ => ?_) (fun _ => ?_) (fun _ => ?_) (fun _ => ?_)
  all_goals
    try dsimp only
    repeat' split
    all_goals (simp only [and_self, (fact @State.adminCords_keep), (fact @State.adminTaken_keep), (fact @State.complete_keep), (fact @State.startOp_keep)])

theorem execSanitizeCryptoErase_keep (tag : Nat) (s : State) {t' : State} (h : execSanitizeCryptoErase tag s = .next t') :
    t'.pending = s.pending ∧ t'.time = s.time ∧ t'.dev = s.dev ∧ t'.fuses = s.fuses ∧ t'.params = s.params ∧ t'.map = s.map ∧ t'.media = s.media ∧ t'.flash = s.flash ∧ t'.cache = s.cache ∧ t'.plp = s.plp ∧ t'.dram = s.dram ∧ t'.pwr = s.pwr ∧ t'.sec = s.sec ∧ t'.mgmt = s.mgmt ∧ t'.naile = s.naile ∧ t'.nor = s.nor ∧ t'.bus = s.bus ∧ t'.free = s.free := by
  unfold execSanitizeCryptoErase State.sanitize at h
  injection h with h
  subst h
  refine State.adminPf_ind (P := fun (a : State) => a.pending = s.pending ∧ a.time = s.time ∧ a.dev = s.dev ∧ a.fuses = s.fuses ∧ a.params = s.params ∧ a.map = s.map ∧ a.media = s.media ∧ a.flash = s.flash ∧ a.cache = s.cache ∧ a.plp = s.plp ∧ a.dram = s.dram ∧ a.pwr = s.pwr ∧ a.sec = s.sec ∧ a.mgmt = s.mgmt ∧ a.naile = s.naile ∧ a.nor = s.nor ∧ a.bus = s.bus ∧ a.free = s.free) (by and_intros <;> rfl) (fun _ => ?_) (fun _ => ?_) (fun _ => ?_) (fun _ => ?_)
  all_goals
    try dsimp only
    repeat' split
    all_goals (simp only [and_self, (fact @State.adminCords_keep), (fact @State.adminTaken_keep), (fact @State.complete_keep), (fact @State.startSanitize_keep)])

theorem execSanitizeBlockErase_keep (tag : Nat) (s : State) {t' : State} (h : execSanitizeBlockErase tag s = .next t') :
    t'.pending = s.pending ∧ t'.time = s.time ∧ t'.dev = s.dev ∧ t'.fuses = s.fuses ∧ t'.params = s.params ∧ t'.map = s.map ∧ t'.media = s.media ∧ t'.flash = s.flash ∧ t'.cache = s.cache ∧ t'.plp = s.plp ∧ t'.dram = s.dram ∧ t'.pwr = s.pwr ∧ t'.sec = s.sec ∧ t'.mgmt = s.mgmt ∧ t'.naile = s.naile ∧ t'.nor = s.nor ∧ t'.bus = s.bus ∧ t'.free = s.free := by
  unfold execSanitizeBlockErase State.sanitize at h
  injection h with h
  subst h
  refine State.adminPf_ind (P := fun (a : State) => a.pending = s.pending ∧ a.time = s.time ∧ a.dev = s.dev ∧ a.fuses = s.fuses ∧ a.params = s.params ∧ a.map = s.map ∧ a.media = s.media ∧ a.flash = s.flash ∧ a.cache = s.cache ∧ a.plp = s.plp ∧ a.dram = s.dram ∧ a.pwr = s.pwr ∧ a.sec = s.sec ∧ a.mgmt = s.mgmt ∧ a.naile = s.naile ∧ a.nor = s.nor ∧ a.bus = s.bus ∧ a.free = s.free) (by and_intros <;> rfl) (fun _ => ?_) (fun _ => ?_) (fun _ => ?_) (fun _ => ?_)
  all_goals
    try dsimp only
    repeat' split
    all_goals (simp only [and_self, (fact @State.adminCords_keep), (fact @State.adminTaken_keep), (fact @State.complete_keep), (fact @State.startSanitize_keep)])

theorem execSanitizeExitFailureMode_keep (tag : Nat) (s : State) {t' : State} (h : execSanitizeExitFailureMode tag s = .next t') :
    t'.pending = s.pending ∧ t'.time = s.time ∧ t'.dev = s.dev ∧ t'.fuses = s.fuses ∧ t'.params = s.params ∧ t'.map = s.map ∧ t'.media = s.media ∧ t'.flash = s.flash ∧ t'.cache = s.cache ∧ t'.plp = s.plp ∧ t'.dram = s.dram ∧ t'.pwr = s.pwr ∧ t'.sec = s.sec ∧ t'.mgmt = s.mgmt ∧ t'.naile = s.naile ∧ t'.nor = s.nor ∧ t'.bus = s.bus ∧ t'.free = s.free := by
  unfold execSanitizeExitFailureMode State.sanitize at h
  injection h with h
  subst h
  refine State.adminPf_ind (P := fun (a : State) => a.pending = s.pending ∧ a.time = s.time ∧ a.dev = s.dev ∧ a.fuses = s.fuses ∧ a.params = s.params ∧ a.map = s.map ∧ a.media = s.media ∧ a.flash = s.flash ∧ a.cache = s.cache ∧ a.plp = s.plp ∧ a.dram = s.dram ∧ a.pwr = s.pwr ∧ a.sec = s.sec ∧ a.mgmt = s.mgmt ∧ a.naile = s.naile ∧ a.nor = s.nor ∧ a.bus = s.bus ∧ a.free = s.free) (by and_intros <;> rfl) (fun _ => ?_) (fun _ => ?_) (fun _ => ?_) (fun _ => ?_)
  all_goals
    try dsimp only
    repeat' split
    all_goals (simp only [and_self, (fact @State.adminCords_keep), (fact @State.adminTaken_keep), (fact @State.complete_keep)])

theorem execSanitizeOverwrite_keep (tag : Nat) (s : State) {t' : State} (h : execSanitizeOverwrite tag s = .next t') :
    t'.pending = s.pending ∧ t'.time = s.time ∧ t'.dev = s.dev ∧ t'.fuses = s.fuses ∧ t'.params = s.params ∧ t'.map = s.map ∧ t'.media = s.media ∧ t'.flash = s.flash ∧ t'.cache = s.cache ∧ t'.plp = s.plp ∧ t'.dram = s.dram ∧ t'.pwr = s.pwr ∧ t'.sec = s.sec ∧ t'.mgmt = s.mgmt ∧ t'.naile = s.naile ∧ t'.nor = s.nor ∧ t'.bus = s.bus ∧ t'.free = s.free := by
  unfold execSanitizeOverwrite at h
  injection h with h
  subst h
  refine State.adminPf_ind (P := fun (a : State) => a.pending = s.pending ∧ a.time = s.time ∧ a.dev = s.dev ∧ a.fuses = s.fuses ∧ a.params = s.params ∧ a.map = s.map ∧ a.media = s.media ∧ a.flash = s.flash ∧ a.cache = s.cache ∧ a.plp = s.plp ∧ a.dram = s.dram ∧ a.pwr = s.pwr ∧ a.sec = s.sec ∧ a.mgmt = s.mgmt ∧ a.naile = s.naile ∧ a.nor = s.nor ∧ a.bus = s.bus ∧ a.free = s.free) (by and_intros <;> rfl) (fun _ => ?_) (fun _ => ?_) (fun _ => ?_) (fun _ => ?_)
  all_goals
    try dsimp only
    repeat' split
    all_goals (simp only [and_self, (fact @State.adminCords_keep), (fact @State.adminTaken_keep), (fact @State.complete_keep)])

theorem execFirmwareCommit_keep (tag : Nat) (s : State) {t' : State} (h : execFirmwareCommit tag s = .next t') :
    t'.pending = s.pending ∧ t'.time = s.time ∧ t'.dev = s.dev ∧ t'.fuses = s.fuses ∧ t'.params = s.params ∧ t'.map = s.map ∧ t'.media = s.media ∧ t'.flash = s.flash ∧ t'.cache = s.cache ∧ t'.plp = s.plp ∧ t'.dram = s.dram ∧ t'.pwr = s.pwr ∧ t'.sec = s.sec ∧ t'.mgmt = s.mgmt ∧ t'.naile = s.naile ∧ t'.nor = s.nor ∧ t'.bus = s.bus ∧ t'.free = s.free := by
  unfold execFirmwareCommit at h
  injection h with h
  subst h
  refine State.admin_ind (P := fun (a : State) => a.pending = s.pending ∧ a.time = s.time ∧ a.dev = s.dev ∧ a.fuses = s.fuses ∧ a.params = s.params ∧ a.map = s.map ∧ a.media = s.media ∧ a.flash = s.flash ∧ a.cache = s.cache ∧ a.plp = s.plp ∧ a.dram = s.dram ∧ a.pwr = s.pwr ∧ a.sec = s.sec ∧ a.mgmt = s.mgmt ∧ a.naile = s.naile ∧ a.nor = s.nor ∧ a.bus = s.bus ∧ a.free = s.free) (by and_intros <;> rfl) (fun _ => ?_) (fun _ => ?_) (fun _ => ?_) (fun _ => ?_)
  all_goals
    try dsimp only
    repeat' split
    all_goals (simp only [and_self, (fact @State.adminCords_keep), (fact @State.adminTaken_keep), (fact @State.complete_keep)])

theorem execFirmwareImageDownload_keep (tag : Nat) (s : State) {t' : State} (h : execFirmwareImageDownload tag s = .next t') :
    t'.pending = s.pending ∧ t'.time = s.time ∧ t'.dev = s.dev ∧ t'.fuses = s.fuses ∧ t'.params = s.params ∧ t'.map = s.map ∧ t'.media = s.media ∧ t'.flash = s.flash ∧ t'.cache = s.cache ∧ t'.plp = s.plp ∧ t'.dram = s.dram ∧ t'.pwr = s.pwr ∧ t'.sec = s.sec ∧ t'.mgmt = s.mgmt ∧ t'.naile = s.naile ∧ t'.nor = s.nor ∧ t'.bus = s.bus ∧ t'.free = s.free := by
  unfold execFirmwareImageDownload at h
  injection h with h
  subst h
  refine State.admin_ind (P := fun (a : State) => a.pending = s.pending ∧ a.time = s.time ∧ a.dev = s.dev ∧ a.fuses = s.fuses ∧ a.params = s.params ∧ a.map = s.map ∧ a.media = s.media ∧ a.flash = s.flash ∧ a.cache = s.cache ∧ a.plp = s.plp ∧ a.dram = s.dram ∧ a.pwr = s.pwr ∧ a.sec = s.sec ∧ a.mgmt = s.mgmt ∧ a.naile = s.naile ∧ a.nor = s.nor ∧ a.bus = s.bus ∧ a.free = s.free) (by and_intros <;> rfl) (fun _ => ?_) (fun _ => ?_) (fun _ => ?_) (fun _ => ?_)
  all_goals
    try dsimp only
    repeat' split
    all_goals (simp only [and_self, (fact @State.adminCords_keep), (fact @State.adminTaken_keep), (fact @State.complete_keep)])

theorem execInvalidAdminOpcode_keep (tag : Nat) (s : State) {t' : State} (h : execInvalidAdminOpcode tag s = .next t') :
    t'.pending = s.pending ∧ t'.time = s.time ∧ t'.dev = s.dev ∧ t'.fuses = s.fuses ∧ t'.params = s.params ∧ t'.map = s.map ∧ t'.media = s.media ∧ t'.flash = s.flash ∧ t'.cache = s.cache ∧ t'.plp = s.plp ∧ t'.dram = s.dram ∧ t'.pwr = s.pwr ∧ t'.sec = s.sec ∧ t'.mgmt = s.mgmt ∧ t'.naile = s.naile ∧ t'.nor = s.nor ∧ t'.bus = s.bus ∧ t'.free = s.free := by
  simp only [execInvalidAdminOpcode, State.adminGate] at h
  injection h with h
  repeat' split at h
  all_goals (subst h; (simp only [and_self, (fact @State.complete_keep)]))

theorem execMapLeaseGrant_keep (tag : Nat) (s : State) {t' : State} (h : execMapLeaseGrant tag s = .next t') :
    t'.pending = s.pending ∧ t'.time = s.time ∧ t'.dev = s.dev ∧ t'.fuses = s.fuses ∧ t'.params = s.params ∧ t'.map = s.map ∧ t'.media = s.media ∧ t'.flash = s.flash ∧ t'.cache = s.cache ∧ t'.plp = s.plp ∧ t'.dram = s.dram ∧ t'.pwr = s.pwr ∧ t'.sec = s.sec ∧ t'.mgmt = s.mgmt ∧ t'.naile = s.naile ∧ t'.nor = s.nor ∧ t'.bus = s.bus ∧ t'.free = s.free := by
  unfold execMapLeaseGrant at h
  injection h with h
  subst h
  refine State.adminPf_ind (P := fun (a : State) => a.pending = s.pending ∧ a.time = s.time ∧ a.dev = s.dev ∧ a.fuses = s.fuses ∧ a.params = s.params ∧ a.map = s.map ∧ a.media = s.media ∧ a.flash = s.flash ∧ a.cache = s.cache ∧ a.plp = s.plp ∧ a.dram = s.dram ∧ a.pwr = s.pwr ∧ a.sec = s.sec ∧ a.mgmt = s.mgmt ∧ a.naile = s.naile ∧ a.nor = s.nor ∧ a.bus = s.bus ∧ a.free = s.free) (by and_intros <;> rfl) (fun _ => ?_) (fun _ => ?_) (fun _ => ?_) (fun _ => ?_)
  all_goals
    try dsimp only
    repeat' split
    all_goals (simp only [and_self, (fact @State.adminCords_keep), (fact @State.adminTaken_keep), (fact @State.complete_keep)])

theorem execMapLeaseRevoke_keep (tag : Nat) (s : State) {t' : State} (h : execMapLeaseRevoke tag s = .next t') : t'.pending = s.pending ∧ t'.time = s.time ∧ t'.dev = s.dev ∧ t'.fuses = s.fuses ∧ t'.params = s.params ∧ t'.map = s.map ∧ t'.media = s.media ∧ t'.flash = s.flash ∧ t'.cache = s.cache ∧ t'.plp = s.plp ∧ t'.dram = s.dram ∧ t'.pwr = s.pwr ∧ t'.sec = s.sec ∧ t'.mgmt = s.mgmt ∧ t'.naile = s.naile ∧ t'.nor = s.nor ∧ t'.bus = s.bus ∧ t'.free = s.free := by
  unfold execMapLeaseRevoke at h
  injection h with h
  subst h
  refine State.adminPf_ind (P := fun (a : State) => a.pending = s.pending ∧ a.time = s.time ∧ a.dev = s.dev ∧ a.fuses = s.fuses ∧ a.params = s.params ∧ a.map = s.map ∧ a.media = s.media ∧ a.flash = s.flash ∧ a.cache = s.cache ∧ a.plp = s.plp ∧ a.dram = s.dram ∧ a.pwr = s.pwr ∧ a.sec = s.sec ∧ a.mgmt = s.mgmt ∧ a.naile = s.naile ∧ a.nor = s.nor ∧ a.bus = s.bus ∧ a.free = s.free) (by and_intros <;> rfl) (fun _ => ?_) (fun _ => ?_) (fun _ => ?_) (fun _ => ?_)
  · simp only [(fact @State.complete_keep), and_self]
  · simp only [(fact @State.adminCords_keep), (fact @State.adminTaken_keep), and_self]
  all_goals
    dsimp only
    repeat' split
    all_goals simp only [(fact @State.complete_keep), (fact @State.modTag_keep), (fact @State.adminCords_keep), (fact @State.adminTaken_keep), and_self]

theorem execMapLeaseStatus_keep (tag : Nat) (s : State) {t' : State} (h : execMapLeaseStatus tag s = .next t') :
    t'.pending = s.pending ∧ t'.time = s.time ∧ t'.dev = s.dev ∧ t'.fuses = s.fuses ∧ t'.params = s.params ∧ t'.map = s.map ∧ t'.media = s.media ∧ t'.flash = s.flash ∧ t'.cache = s.cache ∧ t'.plp = s.plp ∧ t'.dram = s.dram ∧ t'.pwr = s.pwr ∧ t'.sec = s.sec ∧ t'.mgmt = s.mgmt ∧ t'.naile = s.naile ∧ t'.nor = s.nor ∧ t'.bus = s.bus ∧ t'.free = s.free := by
  unfold execMapLeaseStatus at h
  injection h with h
  subst h
  refine State.adminPf_ind (P := fun (a : State) => a.pending = s.pending ∧ a.time = s.time ∧ a.dev = s.dev ∧ a.fuses = s.fuses ∧ a.params = s.params ∧ a.map = s.map ∧ a.media = s.media ∧ a.flash = s.flash ∧ a.cache = s.cache ∧ a.plp = s.plp ∧ a.dram = s.dram ∧ a.pwr = s.pwr ∧ a.sec = s.sec ∧ a.mgmt = s.mgmt ∧ a.naile = s.naile ∧ a.nor = s.nor ∧ a.bus = s.bus ∧ a.free = s.free) (by and_intros <;> rfl) (fun _ => ?_) (fun _ => ?_) (fun _ => ?_) (fun _ => ?_)
  all_goals
    try dsimp only
    repeat' split
    all_goals (simp only [and_self, (fact @State.adminCords_keep), (fact @State.adminTaken_keep), (fact @State.complete_keep), (fact @State.returnData_keep)])

theorem execStandStatus_keep (tag : Nat) (s : State) {t' : State} (h : execStandStatus tag s = .next t') :
    t'.pending = s.pending ∧ t'.time = s.time ∧ t'.dev = s.dev ∧ t'.fuses = s.fuses ∧ t'.params = s.params ∧ t'.map = s.map ∧ t'.media = s.media ∧ t'.flash = s.flash ∧ t'.cache = s.cache ∧ t'.plp = s.plp ∧ t'.dram = s.dram ∧ t'.pwr = s.pwr ∧ t'.sec = s.sec ∧ t'.mgmt = s.mgmt ∧ t'.naile = s.naile ∧ t'.nor = s.nor ∧ t'.bus = s.bus ∧ t'.free = s.free := by
  unfold execStandStatus at h
  injection h with h
  subst h
  refine State.adminPf_ind (P := fun (a : State) => a.pending = s.pending ∧ a.time = s.time ∧ a.dev = s.dev ∧ a.fuses = s.fuses ∧ a.params = s.params ∧ a.map = s.map ∧ a.media = s.media ∧ a.flash = s.flash ∧ a.cache = s.cache ∧ a.plp = s.plp ∧ a.dram = s.dram ∧ a.pwr = s.pwr ∧ a.sec = s.sec ∧ a.mgmt = s.mgmt ∧ a.naile = s.naile ∧ a.nor = s.nor ∧ a.bus = s.bus ∧ a.free = s.free) (by and_intros <;> rfl) (fun _ => ?_) (fun _ => ?_) (fun _ => ?_) (fun _ => ?_)
  all_goals
    try dsimp only
    repeat' split
    all_goals (simp only [and_self, (fact @State.adminCords_keep), (fact @State.adminTaken_keep), (fact @State.complete_keep), (fact @State.returnData_keep)])

theorem execWindrowSetPlacement_keep (st : StandNo) (k : WpClass) (s : State) {t' : State} (h : execWindrowSetPlacement st k s = .next t') :
    t'.pending = s.pending ∧ t'.time = s.time ∧ t'.dev = s.dev ∧ t'.fuses = s.fuses ∧ t'.params = s.params ∧ t'.host = s.host ∧ t'.nvm = s.nvm ∧ t'.map = s.map ∧ t'.plp = s.plp ∧ t'.dram = s.dram ∧ t'.pwr = s.pwr ∧ t'.sec = s.sec ∧ t'.mgmt = s.mgmt ∧ t'.naile = s.naile ∧ t'.nor = s.nor ∧ t'.bus = s.bus ∧ t'.free = s.free := by
  simp only [execWindrowSetPlacement] at h
  injection h with h
  repeat' split at h
  all_goals (subst h; (simp only [and_self, (fact @State.noteDom_keep), (fact @State.placeIn_keep), (fact @State.readySets_keep), (fact @State.tidyCopies_keep)]))

theorem execParityTransfer_keep (n : Nat) (s : State) {t' : State} (h : execParityTransfer n s = .next t') :
    t'.pending = s.pending ∧ t'.time = s.time ∧ t'.dev = s.dev ∧ t'.fuses = s.fuses ∧ t'.params = s.params ∧ t'.host = s.host ∧ t'.nvm = s.nvm ∧ t'.plp = s.plp ∧ t'.dram = s.dram ∧ t'.pwr = s.pwr ∧ t'.sec = s.sec ∧ t'.mgmt = s.mgmt ∧ t'.naile = s.naile ∧ t'.nor = s.nor ∧ t'.bus = s.bus ∧ t'.free = s.free := by
  simp only [execParityTransfer] at h
  injection h with h
  repeat' split at h
  all_goals (subst h; (simp only [and_self, (fact @State.failSet_keep), (fact @State.issueProgram_keep)]))

theorem execForceWaitExpiry_keep (n : Nat) (s : State) {t' : State} (h : execForceWaitExpiry n s = .next t') :
    t'.pending = s.pending ∧ t'.time = s.time ∧ t'.dev = s.dev ∧ t'.fuses = s.fuses ∧ t'.params = s.params ∧ t'.host = s.host ∧ t'.nvm = s.nvm ∧ t'.map = s.map ∧ t'.plp = s.plp ∧ t'.dram = s.dram ∧ t'.pwr = s.pwr ∧ t'.sec = s.sec ∧ t'.mgmt = s.mgmt ∧ t'.naile = s.naile ∧ t'.nor = s.nor ∧ t'.tally = s.tally ∧ t'.bus = s.bus ∧ t'.free = s.free := by
  simp only [execForceWaitExpiry] at h
  injection h with h
  repeat' split at h
  all_goals (subst h; (simp only [and_self, (fact @State.forceSet_keep)]))

theorem execIdleForceExpiry_keep (n : Nat) (s : State) {t' : State} (h : execIdleForceExpiry n s = .next t') :
    t'.pending = s.pending ∧ t'.time = s.time ∧ t'.dev = s.dev ∧ t'.fuses = s.fuses ∧ t'.params = s.params ∧ t'.host = s.host ∧ t'.nvm = s.nvm ∧ t'.map = s.map ∧ t'.plp = s.plp ∧ t'.dram = s.dram ∧ t'.pwr = s.pwr ∧ t'.sec = s.sec ∧ t'.mgmt = s.mgmt ∧ t'.naile = s.naile ∧ t'.nor = s.nor ∧ t'.tally = s.tally ∧ t'.bus = s.bus ∧ t'.free = s.free := by
  simp only [execIdleForceExpiry] at h
  injection h with h
  repeat' split at h
  all_goals (subst h; (simp only [and_self, (fact @State.forceSet_keep)]))

theorem execOpenIdleClose_keep (st : StandNo) (k : WpClass) (d : DomId) (s : State) {t' : State} (h : execOpenIdleClose st k d s = .next t') :
    t'.pending = s.pending ∧ t'.time = s.time ∧ t'.dev = s.dev ∧ t'.fuses = s.fuses ∧ t'.params = s.params ∧ t'.host = s.host ∧ t'.nvm = s.nvm ∧ t'.plp = s.plp ∧ t'.dram = s.dram ∧ t'.pwr = s.pwr ∧ t'.sec = s.sec ∧ t'.mgmt = s.mgmt ∧ t'.naile = s.naile ∧ t'.nor = s.nor ∧ t'.bus = s.bus ∧ t'.free = s.free := by
  simp only [execOpenIdleClose] at h
  injection h with h
  repeat' split at h
  all_goals (subst h; (simp only [and_self, (fact @State.closeRow_keep)]))

theorem execGseqAgeLimit_keep (q : Dword) (s : State) {t' : State} (h : execGseqAgeLimit q s = .next t') :
    t'.pending = s.pending ∧ t'.time = s.time ∧ t'.dev = s.dev ∧ t'.fuses = s.fuses ∧ t'.params = s.params ∧ t'.host = s.host ∧ t'.nvm = s.nvm ∧ t'.map = s.map ∧ t'.plp = s.plp ∧ t'.dram = s.dram ∧ t'.pwr = s.pwr ∧ t'.sec = s.sec ∧ t'.mgmt = s.mgmt ∧ t'.naile = s.naile ∧ t'.nor = s.nor ∧ t'.tally = s.tally ∧ t'.bus = s.bus ∧ t'.free = s.free := by
  simp only [execGseqAgeLimit] at h
  injection h with h
  repeat' split at h
  all_goals (subst h; (simp only [and_self, (fact @State.forceSets_keep), (fact @State.placeIn_keep)]))

theorem execThinningSlice_keep (d : DomId) (st : StandNo) (s : State) {t' : State} (h : execThinningSlice d st s = .next t') :
    t'.pending = s.pending ∧ t'.time = s.time ∧ t'.dev = s.dev ∧ t'.fuses = s.fuses ∧ t'.params = s.params ∧ t'.host = s.host ∧ t'.cache = s.cache ∧ t'.plp = s.plp ∧ t'.dram = s.dram ∧ t'.pwr = s.pwr ∧ t'.sec = s.sec ∧ t'.mgmt = s.mgmt ∧ t'.naile = s.naile ∧ t'.nor = s.nor ∧ t'.bus = s.bus ∧ t'.free = s.free := by
  simp only [execThinningSlice] at h
  injection h with h
  repeat' split at h
  all_goals (subst h; (simp only [and_self, (fact @State.sliceEnds_keep), (fact @State.thinningSlice_keep)]))

theorem execVictimEraseStart_keep (r : DieRow) (n : Nat) (s : State) {t' : State} (h : execVictimEraseStart r n s = .next t') :
    t'.pending = s.pending ∧ t'.time = s.time ∧ t'.dev = s.dev ∧ t'.fuses = s.fuses ∧ t'.params = s.params ∧ t'.dram = s.dram ∧ t'.pwr = s.pwr ∧ t'.sec = s.sec ∧ t'.nor = s.nor := by
  simp only [execVictimEraseStart] at h
  injection h with h
  repeat' split at h
  all_goals (subst h; (simp only [and_self, (fact @State.eraseCheck_keep), (fact @State.issueErases_keep)]))

theorem execCruiseSlice_keep (d : DomId) (s : State) {t' : State} (h : execCruiseSlice d s = .next t') :
    t'.pending = s.pending ∧ t'.time = s.time ∧ t'.dev = s.dev ∧ t'.fuses = s.fuses ∧ t'.params = s.params ∧ t'.host = s.host ∧ t'.nvm = s.nvm ∧ t'.map = s.map ∧ t'.cache = s.cache ∧ t'.plp = s.plp ∧ t'.dram = s.dram ∧ t'.pwr = s.pwr ∧ t'.sec = s.sec ∧ t'.mgmt = s.mgmt ∧ t'.naile = s.naile ∧ t'.nor = s.nor ∧ t'.tally = s.tally ∧ t'.bus = s.bus ∧ t'.free = s.free := by
  simp only [execCruiseSlice] at h
  injection h with h
  repeat' split at h
  all_goals (subst h; (first | (simp only [and_self, (fact @State.issueRead_keep)]; done) | (and_intros <;> (repeat' first | (simp only [and_self, (fact @State.issueRead_keep)]; done) | (simp only [and_self, (fact @State.issueRead_keep)]) | (split at hb) | (subst hb; simp only [and_self, (fact @State.issueRead_keep)]) | (refine (foldl_pending (fun _ _ _ hb => ?_) _ _).trans ?_) | (refine (foldl_time (fun _ _ _ hb => ?_) _ _).trans ?_) | (refine (foldl_dev (fun _ _ _ hb => ?_) _ _).trans ?_) | (refine (foldl_fuses (fun _ _ _ hb => ?_) _ _).trans ?_) | (refine (foldl_params (fun _ _ _ hb => ?_) _ _).trans ?_) | (refine (foldl_host (fun _ _ _ hb => ?_) _ _).trans ?_) | (refine (foldl_nvm (fun _ _ _ hb => ?_) _ _).trans ?_) | (refine (foldl_map (fun _ _ _ hb => ?_) _ _).trans ?_) | (refine (foldl_cache (fun _ _ _ hb => ?_) _ _).trans ?_) | (refine (foldl_plp (fun _ _ _ hb => ?_) _ _).trans ?_) | (refine (foldl_dram (fun _ _ _ hb => ?_) _ _).trans ?_) | (refine (foldl_pwr (fun _ _ _ hb => ?_) _ _).trans ?_) | (refine (foldl_sec (fun _ _ _ hb => ?_) _ _).trans ?_) | (refine (foldl_mgmt (fun _ _ _ hb => ?_) _ _).trans ?_) | (refine (foldl_naile (fun _ _ _ hb => ?_) _ _).trans ?_) | (refine (foldl_nor (fun _ _ _ hb => ?_) _ _).trans ?_) | (refine (foldl_tally (fun _ _ _ hb => ?_) _ _).trans ?_) | (refine (foldl_bus (fun _ _ _ hb => ?_) _ _).trans ?_) | (refine (foldl_free (fun _ _ _ hb => ?_) _ _).trans ?_) | split))))

theorem execCruiseLate_keep (d : DomId) (s : State) {t' : State} (h : execCruiseLate d s = .next t') :
    t'.pending = s.pending ∧ t'.time = s.time ∧ t'.dev = s.dev ∧ t'.fuses = s.fuses ∧ t'.params = s.params ∧ t'.host = s.host ∧ t'.nvm = s.nvm ∧ t'.land = s.land ∧ t'.map = s.map ∧ t'.flash = s.flash ∧ t'.cache = s.cache ∧ t'.plp = s.plp ∧ t'.dram = s.dram ∧ t'.pwr = s.pwr ∧ t'.sec = s.sec ∧ t'.mgmt = s.mgmt ∧ t'.naile = s.naile ∧ t'.nor = s.nor ∧ t'.bus = s.bus ∧ t'.free = s.free := by
  simp only [execCruiseLate] at h
  injection h with h
  repeat' split at h
  all_goals (subst h; (simp only [and_self, (fact @State.recordHw_calm), sevDebug, sevInfo, sevNotice, sevWarning, sevError, sevCritical, ne_eq, Nat.reduceEqDiff, not_false_eq_true]))

theorem execDieQueueArrival_keep (i : Nat) (s : State) {t' : State} (h : execDieQueueArrival i s = .next t') :
    t'.pending = s.pending ∧ t'.time = s.time ∧ t'.dev = s.dev ∧ t'.fuses = s.fuses ∧ t'.params = s.params ∧ t'.plp = s.plp ∧ t'.dram = s.dram ∧ t'.pwr = s.pwr ∧ t'.sec = s.sec ∧ t'.mgmt = s.mgmt ∧ t'.nor = s.nor ∧ t'.bus = s.bus ∧ t'.free = s.free := by
  simp only [execDieQueueArrival] at h
  injection h with h
  repeat' split at h
  all_goals (subst h; (simp only [and_self, (fact @State.nextAction_keep), (fact @State.rawGone_keep), (fact @State.reconAll_keep)]))

theorem execDieStatusPoll_keep (ch : Chan) (die : DieIx) (r : Poll) (s0 : State) {t' : State} (h : execDieStatusPoll ch die r s0 = .next t') :
    t'.pending = s0.pending ∧ t'.time = s0.time ∧ t'.dev = s0.dev ∧ t'.fuses = s0.fuses ∧ t'.params = s0.params ∧ t'.dram = s0.dram ∧ t'.pwr = s0.pwr ∧ t'.sec = s0.sec ∧ t'.nor = s0.nor := by
  have g : ∀ (t r : State) (y : FlashS), { t with flash := y } = r → t.pending = s0.pending ∧ t.time = s0.time ∧ t.dev = s0.dev ∧ t.fuses = s0.fuses ∧ t.params = s0.params ∧ t.dram = s0.dram ∧ t.pwr = s0.pwr ∧ t.sec = s0.sec ∧ t.nor = s0.nor → r.pending = s0.pending ∧ r.time = s0.time ∧ r.dev = s0.dev ∧ r.fuses = s0.fuses ∧ r.params = s0.params ∧ r.dram = s0.dram ∧ r.pwr = s0.pwr ∧ r.sec = s0.sec ∧ r.nor = s0.nor := fun t r y e h => by
    subst e
    exact h
  simp only [execDieStatusPoll] at h
  injection h with h
  have h1 : (s0.readRb ch.val r.rbN).pending = s0.pending ∧ (s0.readRb ch.val r.rbN).time = s0.time ∧ (s0.readRb ch.val r.rbN).dev = s0.dev ∧ (s0.readRb ch.val r.rbN).fuses = s0.fuses ∧ (s0.readRb ch.val r.rbN).params = s0.params ∧ (s0.readRb ch.val r.rbN).dram = s0.dram ∧ (s0.readRb ch.val r.rbN).pwr = s0.pwr ∧ (s0.readRb ch.val r.rbN).sec = s0.sec ∧ (s0.readRb ch.val r.rbN).nor = s0.nor := by simp only [(fact @State.readRb_keep), and_self]
  generalize s0.readRb ch.val r.rbN = s1 at h1 h
  split at h
  · generalize FlashS.select _ _ _ = fl at h
    have h2 := g s1 _ fl rfl h1
    generalize { s1 with flash := fl } = s at h2 h
    split at h
    · subst h; simp only [(fact @State.nextAction_keep), h2, and_self]
    · subst h; simp only [(fact @State.nextAction_keep), (fact @State.pollReady_keep), h2, and_self]
    · split at h
      · split at h
        · subst h; exact h2
        · subst h; simp only [(fact @State.upset_keep), h2, and_self]
      · have h3 : (s.noteUpset ch.val die.val 1).pending = s0.pending ∧ (s.noteUpset ch.val die.val 1).time = s0.time ∧ (s.noteUpset ch.val die.val 1).dev = s0.dev ∧ (s.noteUpset ch.val die.val 1).fuses = s0.fuses ∧ (s.noteUpset ch.val die.val 1).params = s0.params ∧ (s.noteUpset ch.val die.val 1).dram = s0.dram ∧ (s.noteUpset ch.val die.val 1).pwr = s0.pwr ∧ (s.noteUpset ch.val die.val 1).sec = s0.sec ∧ (s.noteUpset ch.val die.val 1).nor = s0.nor := by simp only [(fact @State.noteUpset_keep), h2, and_self]
        generalize s.noteUpset ch.val die.val 1 = x at h3 h
        exact g _ _ _ h h3
  · subst h; exact h1

theorem execReadyBusyTimeout_keep (ch : Chan) (die : DieIx) (resetReady : Bool) (s : State) {t' : State} (h : execReadyBusyTimeout ch die resetReady s = .next t') : t'.pending = s.pending ∧ t'.time = s.time ∧ t'.dev = s.dev ∧ t'.fuses = s.fuses ∧ t'.params = s.params ∧ t'.dram = s.dram ∧ t'.pwr = s.pwr ∧ t'.sec = s.sec ∧ t'.nor = s.nor := by
  simp only [execReadyBusyTimeout] at h
  injection h with h
  generalize List.filter _ _ = late at h
  split at h
  · subst h; (and_intros <;> rfl)
  · next i o _ =>
    split at h
    · subst h; (and_intros <;> rfl)
    · split at h
      · subst h; simp only [(fact @State.failDie_keep), (fact @State.noteUpset_keep), and_self]
      · generalize FlashS.resetTarget _ _ = fl at h
        have h1 : (if o.isProgram = true then State.noteUpset { s with flash := fl } ch.val die.val 2 else State.upset { s with flash := fl } i 2).pending = s.pending ∧ (if o.isProgram = true then State.noteUpset { s with flash := fl } ch.val die.val 2 else State.upset { s with flash := fl } i 2).time = s.time ∧ (if o.isProgram = true then State.noteUpset { s with flash := fl } ch.val die.val 2 else State.upset { s with flash := fl } i 2).dev = s.dev ∧ (if o.isProgram = true then State.noteUpset { s with flash := fl } ch.val die.val 2 else State.upset { s with flash := fl } i 2).fuses = s.fuses ∧ (if o.isProgram = true then State.noteUpset { s with flash := fl } ch.val die.val 2 else State.upset { s with flash := fl } i 2).params = s.params ∧ (if o.isProgram = true then State.noteUpset { s with flash := fl } ch.val die.val 2 else State.upset { s with flash := fl } i 2).dram = s.dram ∧ (if o.isProgram = true then State.noteUpset { s with flash := fl } ch.val die.val 2 else State.upset { s with flash := fl } i 2).pwr = s.pwr ∧ (if o.isProgram = true then State.noteUpset { s with flash := fl } ch.val die.val 2 else State.upset { s with flash := fl } i 2).sec = s.sec ∧ (if o.isProgram = true then State.noteUpset { s with flash := fl } ch.val die.val 2 else State.upset { s with flash := fl } i 2).nor = s.nor := by
          split <;> simp only [(fact @State.noteUpset_keep), (fact @State.upset_keep), and_self]
        generalize (if o.isProgram = true then State.noteUpset { s with flash := fl } ch.val die.val 2 else State.upset { s with flash := fl } i 2) = s1 at h1 h
        subst h
        refine kxtrans_0 (kxfold_0 (fun a e b hb => ?_) _ _) (by simp only [(fact @State.interruptPrograms_keep), h1, and_self])
        subst hb
        (and_intros <;> rfl)

theorem execBusArbitrationPoint_keep (ch : Chan) (dqsLoss : Bool) (s : State) {t' : State} (h : execBusArbitrationPoint ch dqsLoss s = .next t') :
    t'.pending = s.pending ∧ t'.time = s.time ∧ t'.dev = s.dev ∧ t'.fuses = s.fuses ∧ t'.params = s.params ∧ t'.dram = s.dram ∧ t'.pwr = s.pwr ∧ t'.sec = s.sec ∧ t'.nor = s.nor := by
  simp only [execBusArbitrationPoint] at h
  injection h with h
  repeat' split at h
  all_goals (subst h; (simp only [and_self, (fact @State.moveCodeword_keep), (fact @State.movePage_keep)]))

theorem execHardDecodeDone_keep (i : Nat) (slot : Nat) (r : HardResult) (s : State) {t' : State} (h : execHardDecodeDone i slot r s = .next t') :
    t'.pending = s.pending ∧ t'.time = s.time ∧ t'.dev = s.dev ∧ t'.fuses = s.fuses ∧ t'.params = s.params ∧ t'.dram = s.dram ∧ t'.pwr = s.pwr ∧ t'.sec = s.sec ∧ t'.nor = s.nor := by
  simp only [execHardDecodeDone] at h
  injection h with h
  repeat' split at h
  all_goals (subst h; (simp only [and_self, (fact @State.climb_keep), (fact @State.recovered_keep), (fact @State.track_keep), (fact @State.upset_keep), (fact @State.wantRelocation_keep)]))

theorem execSoftDecodeDone_keep (i : Nat) (slot : Nat) (ok : Bool) (s : State) {t' : State} (h : execSoftDecodeDone i slot ok s = .next t') :
    t'.pending = s.pending ∧ t'.time = s.time ∧ t'.dev = s.dev ∧ t'.fuses = s.fuses ∧ t'.params = s.params ∧ t'.plp = s.plp ∧ t'.dram = s.dram ∧ t'.pwr = s.pwr ∧ t'.sec = s.sec ∧ t'.mgmt = s.mgmt ∧ t'.naile = s.naile ∧ t'.nor = s.nor ∧ t'.bus = s.bus := by
  simp only [execSoftDecodeDone] at h
  injection h with h
  repeat' split at h
  all_goals (subst h; (simp only [and_self, (fact @State.climb_keep), (fact @State.recovered_keep), (fact @State.track_keep)]))

theorem execProgramDone_keep (i : Nat) (ok : Bool) (s : State) {t' : State} (h : execProgramDone i ok s = .next t') :
    t'.pending = s.pending ∧ t'.time = s.time ∧ t'.dev = s.dev ∧ t'.fuses = s.fuses ∧ t'.params = s.params ∧ t'.host = s.host ∧ t'.plp = s.plp ∧ t'.dram = s.dram ∧ t'.pwr = s.pwr ∧ t'.sec = s.sec ∧ t'.mgmt = s.mgmt ∧ t'.naile = s.naile ∧ t'.nor = s.nor ∧ t'.bus = s.bus ∧ t'.free = s.free := by
  simp only [execProgramDone] at h
  injection h with h
  repeat' split at h
  all_goals (subst h; (simp only [and_self, (fact @State.condemn_keep), (fact @State.dropOp_keep), (fact @State.failSet_keep), (fact @State.nextAction_keep), (fact @State.verified_keep)]))

theorem execEraseDone_keep (i : Nat) (ok : Bool) (s : State) {t' : State} (h : execEraseDone i ok s = .next t') :
    t'.pending = s.pending ∧ t'.time = s.time ∧ t'.dev = s.dev ∧ t'.fuses = s.fuses ∧ t'.params = s.params ∧ t'.dram = s.dram ∧ t'.pwr = s.pwr ∧ t'.sec = s.sec ∧ t'.nor = s.nor := by
  simp only [execEraseDone] at h
  injection h with h
  repeat' split at h
  all_goals (subst h; (simp only [and_self, (fact @State.dropOp_keep), (fact @State.eraseCheck_keep), (fact @State.nextAction_keep)]))

theorem execChannelTraining_keep (ch : Chan) (answers : List DieAnswer) (readings : List StepReading) (s : State) {t' : State} (h : execChannelTraining ch answers readings s = .next t') :
    t'.pending = s.pending ∧ t'.time = s.time ∧ t'.fuses = s.fuses ∧ t'.dram = s.dram ∧ t'.pwr = s.pwr ∧ t'.sec = s.sec ∧ t'.nor = s.nor := by
  simp only [execChannelTraining] at h
  injection h with h
  repeat' split at h
  all_goals (subst h; (simp only [and_self, (fact @State.finishLosses_keep), (fact @State.identify_keep), (fact @State.rateFallback_keep), (fact @State.retireChannel_keep), (fact @State.trainStep_keep)]))

theorem execDriftTracking_keep (ch : Chan) (die : DieIx) (o : DriftOutcome) (s : State) {t' : State} (h : execDriftTracking ch die o s = .next t') : t'.pending = s.pending ∧ t'.time = s.time ∧ t'.dev = s.dev ∧ t'.fuses = s.fuses ∧ t'.params = s.params ∧ t'.dram = s.dram ∧ t'.pwr = s.pwr ∧ t'.sec = s.sec ∧ t'.nor = s.nor := by
  have g1 : ∀ (t r : State), State.countFault t ch.val die.val = r → t.pending = s.pending ∧ t.time = s.time ∧ t.dev = s.dev ∧ t.fuses = s.fuses ∧ t.params = s.params ∧ t.dram = s.dram ∧ t.pwr = s.pwr ∧ t.sec = s.sec ∧ t.nor = s.nor → r.pending = s.pending ∧ r.time = s.time ∧ r.dev = s.dev ∧ r.fuses = s.fuses ∧ r.params = s.params ∧ r.dram = s.dram ∧ r.pwr = s.pwr ∧ r.sec = s.sec ∧ r.nor = s.nor := fun t r e h => by
    subst e
    exact kxtrans_0 (State.countFault_keep _ _ _) h
  have g : ∀ (t r : State) (y : FlashS), { t with flash := y } = r → t.pending = s.pending ∧ t.time = s.time ∧ t.dev = s.dev ∧ t.fuses = s.fuses ∧ t.params = s.params ∧ t.dram = s.dram ∧ t.pwr = s.pwr ∧ t.sec = s.sec ∧ t.nor = s.nor → r.pending = s.pending ∧ r.time = s.time ∧ r.dev = s.dev ∧ r.fuses = s.fuses ∧ r.params = s.params ∧ r.dram = s.dram ∧ r.pwr = s.pwr ∧ r.sec = s.sec ∧ r.nor = s.nor := fun t r y e h => by
    subst e
    exact h
  have h0 : ∀ (y z : FlashS), ({ (State.noteUpset { s with flash := y } ch.val die.val 4) with flash := z }).pending = s.pending ∧ ({ (State.noteUpset { s with flash := y } ch.val die.val 4) with flash := z }).time = s.time ∧ ({ (State.noteUpset { s with flash := y } ch.val die.val 4) with flash := z }).dev = s.dev ∧ ({ (State.noteUpset { s with flash := y } ch.val die.val 4) with flash := z }).fuses = s.fuses ∧ ({ (State.noteUpset { s with flash := y } ch.val die.val 4) with flash := z }).params = s.params ∧ ({ (State.noteUpset { s with flash := y } ch.val die.val 4) with flash := z }).dram = s.dram ∧ ({ (State.noteUpset { s with flash := y } ch.val die.val 4) with flash := z }).pwr = s.pwr ∧ ({ (State.noteUpset { s with flash := y } ch.val die.val 4) with flash := z }).sec = s.sec ∧ ({ (State.noteUpset { s with flash := y } ch.val die.val 4) with flash := z }).nor = s.nor := fun y z => by
    refine g (State.noteUpset { s with flash := y } ch.val die.val 4) _ z rfl ?_
    simp only [(fact @State.noteUpset_keep), and_self]
  simp only [execDriftTracking] at h
  injection h with h
  split at h
  · subst h; (and_intros <;> rfl)
  · split at h
    · exact g _ _ _ h (by and_intros <;> rfl)
    · split at h
      · exact g _ _ _ h (by and_intros <;> rfl)
      · exact g _ _ _ h (by and_intros <;> rfl)
      · split at h
        · exact g1 _ _ h (h0 _ _)
        · subst h; exact h0 _ _

theorem execLiveRetrainSlice_keep (ch : Chan) (die : DieIx) (o : LiveSlice) (s : State) {t' : State} (h : execLiveRetrainSlice ch die o s = .next t') :
    t'.pending = s.pending ∧ t'.time = s.time ∧ t'.fuses = s.fuses ∧ t'.params = s.params ∧ t'.plp = s.plp ∧ t'.dram = s.dram ∧ t'.pwr = s.pwr ∧ t'.sec = s.sec ∧ t'.mgmt = s.mgmt ∧ t'.naile = s.naile ∧ t'.nor = s.nor ∧ t'.bus = s.bus ∧ t'.free = s.free := by
  simp only [execLiveRetrainSlice] at h
  injection h with h
  repeat' split at h
  all_goals (subst h; (simp only [and_self, (fact @State.liveFails_keep), (fact @State.livePasses_keep)]))

theorem execPadMonitorCheck_keep (ch : Chan) (stuck : Bool) (s : State) {t' : State} (h : execPadMonitorCheck ch stuck s = .next t') :
    t'.pending = s.pending ∧ t'.time = s.time ∧ t'.dev = s.dev ∧ t'.fuses = s.fuses ∧ t'.params = s.params ∧ t'.dram = s.dram ∧ t'.pwr = s.pwr ∧ t'.sec = s.sec ∧ t'.nor = s.nor := by
  simp only [execPadMonitorCheck] at h
  injection h with h
  repeat' split at h
  all_goals (subst h; (simp only [and_self, (fact @State.retireChannel_keep)]))

theorem execRebuildSlice_keep (g : Grove) (s : State) {t' : State} (h : execRebuildSlice g s = .next t') :
    t'.pending = s.pending ∧ t'.time = s.time ∧ t'.dev = s.dev ∧ t'.fuses = s.fuses ∧ t'.params = s.params ∧ t'.host = s.host ∧ t'.nvm = s.nvm ∧ t'.cache = s.cache ∧ t'.plp = s.plp ∧ t'.dram = s.dram ∧ t'.pwr = s.pwr ∧ t'.sec = s.sec ∧ t'.mgmt = s.mgmt ∧ t'.naile = s.naile ∧ t'.nor = s.nor ∧ t'.bus = s.bus ∧ t'.free = s.free := by
  simp only [execRebuildSlice] at h
  injection h with h
  repeat' split at h
  all_goals (subst h; (simp only [and_self, (fact @State.redoUnits_keep), (fact @State.takeVictim_keep), (fact @State.victimSlice_keep)]))

theorem execDramTraining_keep (failing : List DramCh) (s : State) {t' : State} (h : execDramTraining failing s = .next t') :
    t'.pending = s.pending ∧ t'.time = s.time ∧ t'.fuses = s.fuses ∧ t'.params = s.params ∧ t'.host = s.host ∧ t'.nvm = s.nvm ∧ t'.land = s.land ∧ t'.map = s.map ∧ t'.media = s.media ∧ t'.flash = s.flash ∧ t'.cache = s.cache ∧ t'.plp = s.plp ∧ t'.pwr = s.pwr ∧ t'.sec = s.sec ∧ t'.bus = s.bus ∧ t'.free = s.free := by
  simp only [execDramTraining] at h
  injection h with h
  repeat' split at h
  all_goals (subst h; (simp only [and_self, (fact @State.dramUp_keep), (fact @State.recordHw_keep)]))

theorem execDramZeroFillSlice_keep (s : State) {t' : State} (h : execDramZeroFillSlice s = .next t') :
    t'.pending = s.pending ∧ t'.time = s.time ∧ t'.dev = s.dev ∧ t'.fuses = s.fuses ∧ t'.params = s.params ∧ t'.host = s.host ∧ t'.nvm = s.nvm ∧ t'.land = s.land ∧ t'.map = s.map ∧ t'.media = s.media ∧ t'.flash = s.flash ∧ t'.cache = s.cache ∧ t'.plp = s.plp ∧ t'.pwr = s.pwr ∧ t'.sec = s.sec ∧ t'.mgmt = s.mgmt ∧ t'.naile = s.naile ∧ t'.nor = s.nor ∧ t'.tally = s.tally ∧ t'.bus = s.bus ∧ t'.free = s.free := by
  simp only [execDramZeroFillSlice] at h
  injection h with h
  repeat' split at h
  all_goals (subst h; (simp only [and_self]))

theorem execDramScrub_keep (line : Nat) (err : BitVec 640) (s : State) {t' : State} (h : execDramScrub line err s = .next t') :
    t'.pending = s.pending ∧ t'.time = s.time ∧ t'.fuses = s.fuses ∧ t'.params = s.params ∧ t'.pwr = s.pwr ∧ t'.sec = s.sec ∧ t'.mgmt = s.mgmt ∧ t'.naile = s.naile ∧ t'.nor = s.nor ∧ t'.bus = s.bus := by
  simp only [execDramScrub] at h
  injection h with h
  repeat' split at h
  all_goals (subst h; (simp only [and_self, (fact @State.lineRead_keep)]))

theorem execDramAlert_keep (ch : DramCh) (k : AlertKind) (again : List DramReq) (s : State) {t' : State} (h : execDramAlert ch k again s = .next t') : t'.pending = s.pending ∧ t'.time = s.time ∧ t'.dev = s.dev ∧ t'.fuses = s.fuses ∧ t'.params = s.params ∧ t'.host = s.host ∧ t'.nvm = s.nvm ∧ t'.land = s.land ∧ t'.map = s.map ∧ t'.media = s.media ∧ t'.flash = s.flash ∧ t'.cache = s.cache ∧ t'.plp = s.plp ∧ t'.pwr = s.pwr ∧ t'.sec = s.sec ∧ t'.mgmt = s.mgmt ∧ t'.naile = s.naile ∧ t'.nor = s.nor ∧ t'.bus = s.bus ∧ t'.free = s.free := by
  have g : ∀ (t r : State) (y : DramS), { t with dram := y } = r → t.pending = s.pending ∧ t.time = s.time ∧ t.dev = s.dev ∧ t.fuses = s.fuses ∧ t.params = s.params ∧ t.host = s.host ∧ t.nvm = s.nvm ∧ t.land = s.land ∧ t.map = s.map ∧ t.media = s.media ∧ t.flash = s.flash ∧ t.cache = s.cache ∧ t.plp = s.plp ∧ t.pwr = s.pwr ∧ t.sec = s.sec ∧ t.mgmt = s.mgmt ∧ t.naile = s.naile ∧ t.nor = s.nor ∧ t.bus = s.bus ∧ t.free = s.free → r.pending = s.pending ∧ r.time = s.time ∧ r.dev = s.dev ∧ r.fuses = s.fuses ∧ r.params = s.params ∧ r.host = s.host ∧ r.nvm = s.nvm ∧ r.land = s.land ∧ r.map = s.map ∧ r.media = s.media ∧ r.flash = s.flash ∧ r.cache = s.cache ∧ r.plp = s.plp ∧ r.pwr = s.pwr ∧ r.sec = s.sec ∧ r.mgmt = s.mgmt ∧ r.naile = s.naile ∧ r.nor = s.nor ∧ r.bus = s.bus ∧ r.free = s.free := fun t r y e h => by
    subst e
    exact h
  unfold execDramAlert at h
  injection h with h
  extract_lets old code retry d s1 limit at h
  have h1 : s1.pending = s.pending ∧ s1.time = s.time ∧ s1.dev = s.dev ∧ s1.fuses = s.fuses ∧ s1.params = s.params ∧ s1.host = s.host ∧ s1.nvm = s.nvm ∧ s1.land = s.land ∧ s1.map = s.map ∧ s1.media = s.media ∧ s1.flash = s.flash ∧ s1.cache = s.cache ∧ s1.plp = s.plp ∧ s1.pwr = s.pwr ∧ s1.sec = s.sec ∧ s1.mgmt = s.mgmt ∧ s1.naile = s.naile ∧ s1.nor = s.nor ∧ s1.bus = s.bus ∧ s1.free = s.free := by
    simp only [s1, (fact @State.recordHw_calm), sevInfo, sevNotice, sevWarning, sevError, sevCritical, ne_eq, Nat.reduceEqDiff, not_false_eq_true, and_self]
  split at h
  · subst h; (and_intros <;> rfl)
  · split at h
    · exact g _ _ _ h h1
    · subst h; exact h1

theorem execDramTemperatureChange_keep (ch : DramCh) (temp : Int) (s : State) {t' : State} (h : execDramTemperatureChange ch temp s = .next t') :
    t'.pending = s.pending ∧ t'.time = s.time ∧ t'.dev = s.dev ∧ t'.fuses = s.fuses ∧ t'.params = s.params ∧ t'.host = s.host ∧ t'.nvm = s.nvm ∧ t'.land = s.land ∧ t'.map = s.map ∧ t'.media = s.media ∧ t'.flash = s.flash ∧ t'.cache = s.cache ∧ t'.plp = s.plp ∧ t'.pwr = s.pwr ∧ t'.sec = s.sec ∧ t'.mgmt = s.mgmt ∧ t'.naile = s.naile ∧ t'.nor = s.nor ∧ t'.tally = s.tally ∧ t'.bus = s.bus ∧ t'.free = s.free := by
  simp only [execDramTemperatureChange] at h
  injection h with h
  repeat' split at h
  all_goals (subst h; (simp only [and_self]))

theorem execDrmRetrainNow_keep (f : Frame) (v : Nat) (s : State) {t' : State} (h : execDrmRetrainNow f v s = .next t') :
    t'.pending = s.pending ∧ t'.time = s.time ∧ t'.dev = s.dev ∧ t'.fuses = s.fuses ∧ t'.land = s.land ∧ t'.map = s.map ∧ t'.media = s.media ∧ t'.flash = s.flash ∧ t'.cache = s.cache ∧ t'.plp = s.plp ∧ t'.sec = s.sec ∧ t'.tally = s.tally ∧ t'.bus = s.bus ∧ t'.free = s.free := by
  simp only [execDrmRetrainNow, State.actionRequest, State.runAction, State.runRequest, State.request] at h
  injection h with h
  repeat' split at h
  all_goals (subst h; (simp only [and_self, actRetrain, id_eq, (fact @State.acceptFrame_keep), (fact @State.acceptRecord_keep), (fact @State.naileFail_keep), (fact @State.naileOk_keep), (fact @State.rejected_keep), sevDebug, sevInfo, sevNotice, sevWarning, sevError, sevCritical, ne_eq, Nat.reduceEqDiff, not_false_eq_true]))

theorem execDramLiveRetrainSlice_keep (ch : DramCh) (o : RetrainRun) (s : State) {t' : State} (h : execDramLiveRetrainSlice ch o s = .next t') :
    t'.pending = s.pending ∧ t'.time = s.time ∧ t'.fuses = s.fuses ∧ t'.params = s.params ∧ t'.nvm = s.nvm ∧ t'.map = s.map ∧ t'.media = s.media ∧ t'.flash = s.flash ∧ t'.cache = s.cache ∧ t'.pwr = s.pwr ∧ t'.sec = s.sec ∧ t'.bus = s.bus ∧ t'.free = s.free := by
  simp only [execDramLiveRetrainSlice] at h
  injection h with h
  repeat' split at h
  all_goals (subst h; (simp only [and_self, (fact @State.controlledStop_keep)]))

theorem execDramRefresh_keep (ch : DramCh) (bank : Nat) (s : State) {t' : State} (h : execDramRefresh ch bank s = .next t') :
    t'.pending = s.pending ∧ t'.time = s.time ∧ t'.dev = s.dev ∧ t'.fuses = s.fuses ∧ t'.params = s.params ∧ t'.host = s.host ∧ t'.nvm = s.nvm ∧ t'.land = s.land ∧ t'.map = s.map ∧ t'.media = s.media ∧ t'.flash = s.flash ∧ t'.cache = s.cache ∧ t'.plp = s.plp ∧ t'.pwr = s.pwr ∧ t'.sec = s.sec ∧ t'.mgmt = s.mgmt ∧ t'.naile = s.naile ∧ t'.nor = s.nor ∧ t'.tally = s.tally ∧ t'.bus = s.bus ∧ t'.free = s.free := by
  simp only [execDramRefresh] at h
  injection h with h
  repeat' split at h
  all_goals (subst h; (simp only [and_self]))

theorem execDramActivationLimit_keep (ch : DramCh) (bank : Nat) (s : State) {t' : State} (h : execDramActivationLimit ch bank s = .next t') :
    t'.pending = s.pending ∧ t'.time = s.time ∧ t'.dev = s.dev ∧ t'.fuses = s.fuses ∧ t'.params = s.params ∧ t'.host = s.host ∧ t'.nvm = s.nvm ∧ t'.land = s.land ∧ t'.map = s.map ∧ t'.media = s.media ∧ t'.flash = s.flash ∧ t'.cache = s.cache ∧ t'.plp = s.plp ∧ t'.pwr = s.pwr ∧ t'.sec = s.sec ∧ t'.mgmt = s.mgmt ∧ t'.naile = s.naile ∧ t'.nor = s.nor ∧ t'.tally = s.tally ∧ t'.bus = s.bus ∧ t'.free = s.free := by
  simp only [execDramActivationLimit] at h
  injection h with h
  repeat' split at h
  all_goals (subst h; (simp only [and_self]))

theorem execDramTokenRequest_keep (src : DramSource) (s : State) {t' : State} (h : execDramTokenRequest src s = .next t') :
    t'.pending = s.pending ∧ t'.time = s.time ∧ t'.dev = s.dev ∧ t'.fuses = s.fuses ∧ t'.params = s.params ∧ t'.host = s.host ∧ t'.nvm = s.nvm ∧ t'.land = s.land ∧ t'.map = s.map ∧ t'.media = s.media ∧ t'.flash = s.flash ∧ t'.cache = s.cache ∧ t'.plp = s.plp ∧ t'.pwr = s.pwr ∧ t'.sec = s.sec ∧ t'.mgmt = s.mgmt ∧ t'.naile = s.naile ∧ t'.nor = s.nor ∧ t'.tally = s.tally ∧ t'.bus = s.bus ∧ t'.free = s.free := by
  simp only [execDramTokenRequest] at h
  injection h with h
  repeat' split at h
  all_goals (subst h; (simp only [and_self]))

theorem execDmaContextComplete_keep (ctx : Fin 256) (chain : List DmaDesc) (parity : ParityEvent) (s : State) {t' : State} (h : execDmaContextComplete ctx chain parity s = .next t') :
    t'.pending = s.pending ∧ t'.time = s.time ∧ t'.fuses = s.fuses ∧ t'.params = s.params ∧ t'.pwr = s.pwr ∧ t'.sec = s.sec ∧ t'.mgmt = s.mgmt ∧ t'.naile = s.naile ∧ t'.nor = s.nor ∧ t'.bus = s.bus := by
  simp only [execDmaContextComplete] at h
  injection h with h
  repeat' split at h
  all_goals (subst h; (simp only [and_self, (fact @State.chainEnds_keep), (fact @State.contextParity_keep), (fact @State.descError_keep), (fact @State.parity_keep), (fact @State.readErrors_keep), (fact @runChain_keep)]))

theorem execOrderingToken_keep (k : TokenFor) (s : State) {t' : State} (h : execOrderingToken k s = .next t') :
    t'.pending = s.pending ∧ t'.time = s.time ∧ t'.dev = s.dev ∧ t'.fuses = s.fuses ∧ t'.params = s.params ∧ t'.pwr = s.pwr ∧ t'.sec = s.sec ∧ t'.mgmt = s.mgmt ∧ t'.naile = s.naile ∧ t'.nor = s.nor ∧ t'.bus = s.bus ∧ t'.free = s.free := by
  simp only [execOrderingToken] at h
  injection h with h
  repeat' split at h
  all_goals (subst h; (first | (simp only [and_self, (fact @State.tokenAt_keep)]; done) | (and_intros <;> (repeat' first | (simp only [and_self, (fact @State.tokenAt_keep)]; done) | (simp only [and_self, (fact @State.tokenAt_keep)]) | (split at hb) | (subst hb; simp only [and_self, (fact @State.tokenAt_keep)]) | (refine (foldl_pending (fun _ _ _ hb => ?_) _ _).trans ?_) | (refine (foldl_time (fun _ _ _ hb => ?_) _ _).trans ?_) | (refine (foldl_dev (fun _ _ _ hb => ?_) _ _).trans ?_) | (refine (foldl_fuses (fun _ _ _ hb => ?_) _ _).trans ?_) | (refine (foldl_params (fun _ _ _ hb => ?_) _ _).trans ?_) | (refine (foldl_pwr (fun _ _ _ hb => ?_) _ _).trans ?_) | (refine (foldl_sec (fun _ _ _ hb => ?_) _ _).trans ?_) | (refine (foldl_mgmt (fun _ _ _ hb => ?_) _ _).trans ?_) | (refine (foldl_naile (fun _ _ _ hb => ?_) _ _).trans ?_) | (refine (foldl_nor (fun _ _ _ hb => ?_) _ _).trans ?_) | (refine (foldl_bus (fun _ _ _ hb => ?_) _ _).trans ?_) | (refine (foldl_free (fun _ _ _ hb => ?_) _ _).trans ?_) | split))))

theorem execCordGrant_keep (s : State) {t' : State} (h : execCordGrant s = .next t') :
    t'.pending = s.pending ∧ t'.time = s.time ∧ t'.dev = s.dev ∧ t'.fuses = s.fuses ∧ t'.params = s.params ∧ t'.map = s.map ∧ t'.media = s.media ∧ t'.flash = s.flash ∧ t'.plp = s.plp ∧ t'.dram = s.dram ∧ t'.pwr = s.pwr ∧ t'.sec = s.sec ∧ t'.mgmt = s.mgmt ∧ t'.naile = s.naile ∧ t'.nor = s.nor ∧ t'.bus = s.bus ∧ t'.free = s.free := by
  simp only [execCordGrant] at h
  injection h with h
  repeat' split at h
  all_goals (subst h; (simp only [and_self, (fact @State.grant_keep), (fact @State.pullData_keep), (fact @State.readArrived_keep), (fact @State.sealPage_keep)]))

theorem execGatherWindow_keep (tag : Nat) (s : State) {t' : State} (h : execGatherWindow tag s = .next t') :
    t'.pending = s.pending ∧ t'.time = s.time ∧ t'.dev = s.dev ∧ t'.fuses = s.fuses ∧ t'.params = s.params ∧ t'.media = s.media ∧ t'.cache = s.cache ∧ t'.plp = s.plp ∧ t'.dram = s.dram ∧ t'.pwr = s.pwr ∧ t'.sec = s.sec ∧ t'.mgmt = s.mgmt ∧ t'.naile = s.naile ∧ t'.nor = s.nor ∧ t'.bus = s.bus ∧ t'.free = s.free := by
  simp only [execGatherWindow] at h
  injection h with h
  repeat' split at h
  all_goals (subst h; (simp only [and_self, (fact @State.stepGather_keep)]))

theorem execPoisonedCompletion_keep (r : HostRead) (s : State) {t' : State} (h : execPoisonedCompletion r s = .next t') :
    t'.pending = s.pending ∧ t'.time = s.time ∧ t'.dev = s.dev ∧ t'.fuses = s.fuses ∧ t'.params = s.params ∧ t'.media = s.media ∧ t'.plp = s.plp ∧ t'.dram = s.dram ∧ t'.pwr = s.pwr ∧ t'.sec = s.sec ∧ t'.mgmt = s.mgmt ∧ t'.naile = s.naile ∧ t'.nor = s.nor ∧ t'.bus = s.bus ∧ t'.free = s.free := by
  simp only [execPoisonedCompletion] at h
  injection h with h
  repeat' split at h
  all_goals (subst h; (simp only [and_self, (fact @State.hostReadFails_keep)]))

theorem execCompletionTimeout_keep (r : HostRead) (s : State) {t' : State} (h : execCompletionTimeout r s = .next t') :
    t'.pending = s.pending ∧ t'.time = s.time ∧ t'.dev = s.dev ∧ t'.fuses = s.fuses ∧ t'.params = s.params ∧ t'.media = s.media ∧ t'.plp = s.plp ∧ t'.dram = s.dram ∧ t'.pwr = s.pwr ∧ t'.sec = s.sec ∧ t'.mgmt = s.mgmt ∧ t'.naile = s.naile ∧ t'.nor = s.nor ∧ t'.bus = s.bus ∧ t'.free = s.free := by
  simp only [execCompletionTimeout] at h
  injection h with h
  repeat' split at h
  all_goals (subst h; (simp only [and_self, (fact @State.hostReadFails_keep)]))

theorem execFlush_keep (tag : Nat) (s : State) {t' : State} (h : execFlush tag s = .next t') :
    t'.pending = s.pending ∧ t'.time = s.time ∧ t'.dev = s.dev ∧ t'.fuses = s.fuses ∧ t'.params = s.params ∧ t'.map = s.map ∧ t'.plp = s.plp ∧ t'.dram = s.dram ∧ t'.pwr = s.pwr ∧ t'.sec = s.sec ∧ t'.mgmt = s.mgmt ∧ t'.naile = s.naile ∧ t'.nor = s.nor ∧ t'.bus = s.bus ∧ t'.free = s.free := by
  simp only [execFlush, State.io, State.onNs] at h
  injection h with h
  repeat' split at h
  all_goals (subst h; (simp only [and_self, (fact @State.complete_keep), (fact @State.forceSets_keep), (fact @State.modTag_keep), (fact @State.sweepTags_keep)]))

theorem execWrite_keep (tag : Nat) (s : State) {t' : State} (h : execWrite tag s = .next t') :
    t'.pending = s.pending ∧ t'.time = s.time ∧ t'.dev = s.dev ∧ t'.fuses = s.fuses ∧ t'.params = s.params ∧ t'.map = s.map ∧ t'.media = s.media ∧ t'.flash = s.flash ∧ t'.plp = s.plp ∧ t'.dram = s.dram ∧ t'.pwr = s.pwr ∧ t'.sec = s.sec ∧ t'.mgmt = s.mgmt ∧ t'.naile = s.naile ∧ t'.nor = s.nor ∧ t'.bus = s.bus ∧ t'.free = s.free := by
  simp only [execWrite, State.io] at h
  injection h with h
  repeat' split at h
  all_goals (subst h; (simp only [and_self, (fact @State.doWrite_keep)]))

theorem execRead_keep (tag : Nat) (s : State) {t' : State} (h : execRead tag s = .next t') :
    t'.pending = s.pending ∧ t'.time = s.time ∧ t'.dev = s.dev ∧ t'.fuses = s.fuses ∧ t'.params = s.params ∧ t'.plp = s.plp ∧ t'.dram = s.dram ∧ t'.pwr = s.pwr ∧ t'.sec = s.sec ∧ t'.mgmt = s.mgmt ∧ t'.naile = s.naile ∧ t'.nor = s.nor ∧ t'.bus = s.bus ∧ t'.free = s.free := by
  simp only [execRead, State.io] at h
  injection h with h
  repeat' split at h
  all_goals (subst h; (simp only [and_self, (fact @State.doRead_keep)]))

theorem execCompare_keep (tag : Nat) (s : State) {t' : State} (h : execCompare tag s = .next t') :
    t'.pending = s.pending ∧ t'.time = s.time ∧ t'.dev = s.dev ∧ t'.fuses = s.fuses ∧ t'.params = s.params ∧ t'.plp = s.plp ∧ t'.dram = s.dram ∧ t'.pwr = s.pwr ∧ t'.sec = s.sec ∧ t'.mgmt = s.mgmt ∧ t'.naile = s.naile ∧ t'.nor = s.nor ∧ t'.bus = s.bus ∧ t'.free = s.free := by
  simp only [execCompare, State.io, State.onNs] at h
  injection h with h
  repeat' split at h
  all_goals (subst h; (simp only [and_self, (fact @State.beginCompare_keep), (fact @State.complete_keep)]))

theorem execWriteZeroes_keep (tag : Nat) (s : State) {t' : State} (h : execWriteZeroes tag s = .next t') :
    t'.pending = s.pending ∧ t'.time = s.time ∧ t'.dev = s.dev ∧ t'.fuses = s.fuses ∧ t'.params = s.params ∧ t'.media = s.media ∧ t'.flash = s.flash ∧ t'.cache = s.cache ∧ t'.plp = s.plp ∧ t'.dram = s.dram ∧ t'.pwr = s.pwr ∧ t'.sec = s.sec ∧ t'.mgmt = s.mgmt ∧ t'.naile = s.naile ∧ t'.nor = s.nor ∧ t'.bus = s.bus ∧ t'.free = s.free := by
  simp only [execWriteZeroes, State.io, State.onNs] at h
  injection h with h
  repeat' split at h
  all_goals (subst h; (simp only [and_self, (fact @State.complete_keep), (fact @State.dealloc_keep)]))

theorem execDatasetManagement_keep (tag : Nat) (s : State) {t' : State} (h : execDatasetManagement tag s = .next t') :
    t'.pending = s.pending ∧ t'.time = s.time ∧ t'.dev = s.dev ∧ t'.fuses = s.fuses ∧ t'.params = s.params ∧ t'.media = s.media ∧ t'.flash = s.flash ∧ t'.cache = s.cache ∧ t'.plp = s.plp ∧ t'.dram = s.dram ∧ t'.pwr = s.pwr ∧ t'.sec = s.sec ∧ t'.mgmt = s.mgmt ∧ t'.naile = s.naile ∧ t'.nor = s.nor ∧ t'.bus = s.bus ∧ t'.free = s.free := by
  simp only [execDatasetManagement, State.io] at h
  injection h with h
  repeat' split at h
  all_goals (subst h; (simp only [and_self, (fact @State.doDsm_keep)]))

theorem execReservationRegister_keep (tag : Nat) (s : State) {t' : State} (h : execReservationRegister tag s = .next t') :
    t'.pending = s.pending ∧ t'.time = s.time ∧ t'.dev = s.dev ∧ t'.fuses = s.fuses ∧ t'.params = s.params ∧ t'.map = s.map ∧ t'.media = s.media ∧ t'.flash = s.flash ∧ t'.cache = s.cache ∧ t'.plp = s.plp ∧ t'.dram = s.dram ∧ t'.pwr = s.pwr ∧ t'.sec = s.sec ∧ t'.naile = s.naile ∧ t'.nor = s.nor ∧ t'.bus = s.bus ∧ t'.free = s.free := by
  simp only [execReservationRegister, State.io, State.onNs, State.withPtr] at h
  injection h with h
  repeat' split at h
  all_goals (subst h; (simp only [and_self, (fact @State.complete_keep), (fact @State.doRegister_keep), (fact @State.fetchData_keep)]))

theorem execReservationReport_keep (tag : Nat) (s : State) {t' : State} (h : execReservationReport tag s = .next t') :
    t'.pending = s.pending ∧ t'.time = s.time ∧ t'.dev = s.dev ∧ t'.fuses = s.fuses ∧ t'.params = s.params ∧ t'.map = s.map ∧ t'.media = s.media ∧ t'.flash = s.flash ∧ t'.cache = s.cache ∧ t'.plp = s.plp ∧ t'.dram = s.dram ∧ t'.pwr = s.pwr ∧ t'.sec = s.sec ∧ t'.mgmt = s.mgmt ∧ t'.naile = s.naile ∧ t'.nor = s.nor ∧ t'.bus = s.bus ∧ t'.free = s.free := by
  simp only [execReservationReport, State.io, State.onNs, State.withPtr] at h
  injection h with h
  repeat' split at h
  all_goals (subst h; (simp only [and_self, (fact @State.complete_keep), (fact @State.fetchData_keep), (fact @State.returnData_keep)]))

theorem execReservationAcquire_keep (tag : Nat) (s : State) {t' : State} (h : execReservationAcquire tag s = .next t') :
    t'.pending = s.pending ∧ t'.time = s.time ∧ t'.dev = s.dev ∧ t'.fuses = s.fuses ∧ t'.params = s.params ∧ t'.map = s.map ∧ t'.media = s.media ∧ t'.flash = s.flash ∧ t'.plp = s.plp ∧ t'.dram = s.dram ∧ t'.pwr = s.pwr ∧ t'.sec = s.sec ∧ t'.naile = s.naile ∧ t'.nor = s.nor ∧ t'.bus = s.bus ∧ t'.free = s.free := by
  simp only [execReservationAcquire, State.io, State.onNs, State.withPtr] at h
  injection h with h
  repeat' split at h
  all_goals (subst h; (simp only [and_self, (fact @State.complete_keep), (fact @State.doAcquire_keep), (fact @State.fetchData_keep)]))

theorem execReservationRelease_keep (tag : Nat) (s : State) {t' : State} (h : execReservationRelease tag s = .next t') :
    t'.pending = s.pending ∧ t'.time = s.time ∧ t'.dev = s.dev ∧ t'.fuses = s.fuses ∧ t'.params = s.params ∧ t'.map = s.map ∧ t'.media = s.media ∧ t'.flash = s.flash ∧ t'.cache = s.cache ∧ t'.plp = s.plp ∧ t'.dram = s.dram ∧ t'.pwr = s.pwr ∧ t'.sec = s.sec ∧ t'.naile = s.naile ∧ t'.nor = s.nor ∧ t'.bus = s.bus ∧ t'.free = s.free := by
  simp only [execReservationRelease, State.io, State.onNs, State.withPtr] at h
  injection h with h
  repeat' split at h
  all_goals (subst h; (simp only [and_self, (fact @State.complete_keep), (fact @State.doRelease_keep), (fact @State.fetchData_keep)]))

theorem execOrderedWrite_keep (tag : Nat) (s : State) {t' : State} (h : execOrderedWrite tag s = .next t') :
    t'.pending = s.pending ∧ t'.time = s.time ∧ t'.dev = s.dev ∧ t'.fuses = s.fuses ∧ t'.params = s.params ∧ t'.map = s.map ∧ t'.media = s.media ∧ t'.flash = s.flash ∧ t'.plp = s.plp ∧ t'.dram = s.dram ∧ t'.pwr = s.pwr ∧ t'.sec = s.sec ∧ t'.mgmt = s.mgmt ∧ t'.naile = s.naile ∧ t'.nor = s.nor ∧ t'.bus = s.bus ∧ t'.free = s.free := by
  simp only [execOrderedWrite, State.io] at h
  injection h with h
  repeat' split at h
  all_goals (subst h; (simp only [and_self, (fact @State.doWrite_keep)]))

theorem execOrderedRead_keep (tag : Nat) (s : State) {t' : State} (h : execOrderedRead tag s = .next t') :
    t'.pending = s.pending ∧ t'.time = s.time ∧ t'.dev = s.dev ∧ t'.fuses = s.fuses ∧ t'.params = s.params ∧ t'.plp = s.plp ∧ t'.dram = s.dram ∧ t'.pwr = s.pwr ∧ t'.sec = s.sec ∧ t'.mgmt = s.mgmt ∧ t'.naile = s.naile ∧ t'.nor = s.nor ∧ t'.bus = s.bus ∧ t'.free = s.free := by
  simp only [execOrderedRead, State.io] at h
  injection h with h
  repeat' split at h
  all_goals (subst h; (simp only [and_self, (fact @State.doRead_keep)]))

theorem execOrderedDatasetManagement_keep (tag : Nat) (s : State) {t' : State} (h : execOrderedDatasetManagement tag s = .next t') :
    t'.pending = s.pending ∧ t'.time = s.time ∧ t'.dev = s.dev ∧ t'.fuses = s.fuses ∧ t'.params = s.params ∧ t'.media = s.media ∧ t'.flash = s.flash ∧ t'.cache = s.cache ∧ t'.plp = s.plp ∧ t'.dram = s.dram ∧ t'.pwr = s.pwr ∧ t'.sec = s.sec ∧ t'.mgmt = s.mgmt ∧ t'.naile = s.naile ∧ t'.nor = s.nor ∧ t'.bus = s.bus ∧ t'.free = s.free := by
  simp only [execOrderedDatasetManagement, State.io] at h
  injection h with h
  repeat' split at h
  all_goals (subst h; (simp only [and_self, (fact @State.doDsm_keep)]))

theorem execGatherRead_keep (tag : Nat) (s : State) {t' : State} (h : execGatherRead tag s = .next t') :
    t'.pending = s.pending ∧ t'.time = s.time ∧ t'.dev = s.dev ∧ t'.fuses = s.fuses ∧ t'.params = s.params ∧ t'.map = s.map ∧ t'.media = s.media ∧ t'.flash = s.flash ∧ t'.cache = s.cache ∧ t'.plp = s.plp ∧ t'.dram = s.dram ∧ t'.pwr = s.pwr ∧ t'.sec = s.sec ∧ t'.mgmt = s.mgmt ∧ t'.naile = s.naile ∧ t'.nor = s.nor ∧ t'.bus = s.bus ∧ t'.free = s.free := by
  simp only [execGatherRead, State.io, State.onNs] at h
  injection h with h
  repeat' split at h
  all_goals (subst h; (simp only [and_self, (fact @State.beginGather_keep), (fact @State.complete_keep)]))

theorem execInvalidIoOpcode_keep (tag : Nat) (s : State) {t' : State} (h : execInvalidIoOpcode tag s = .next t') :
    t'.pending = s.pending ∧ t'.time = s.time ∧ t'.dev = s.dev ∧ t'.fuses = s.fuses ∧ t'.params = s.params ∧ t'.map = s.map ∧ t'.media = s.media ∧ t'.flash = s.flash ∧ t'.cache = s.cache ∧ t'.plp = s.plp ∧ t'.dram = s.dram ∧ t'.pwr = s.pwr ∧ t'.sec = s.sec ∧ t'.mgmt = s.mgmt ∧ t'.naile = s.naile ∧ t'.nor = s.nor ∧ t'.bus = s.bus ∧ t'.free = s.free := by
  simp only [execInvalidIoOpcode, State.io] at h
  injection h with h
  repeat' split at h
  all_goals (subst h; (simp only [and_self, (fact @State.complete_keep)]))

theorem execSlicedOperationStart_keep (op : Nat) (s : State) {t' : State} (h : execSlicedOperationStart op s = .next t') :
    t'.pending = s.pending ∧ t'.time = s.time ∧ t'.dev = s.dev ∧ t'.fuses = s.fuses ∧ t'.params = s.params ∧ t'.dram = s.dram ∧ t'.pwr = s.pwr ∧ t'.sec = s.sec ∧ t'.naile = s.naile ∧ t'.nor = s.nor ∧ t'.free = s.free := by
  simp only [execSlicedOperationStart] at h
  injection h with h
  repeat' split at h
  all_goals (subst h; (simp only [and_self, (fact @State.beginOp_keep)]))

theorem execSlice_keep (op : Nat) (g : Grove) (s : State) {t' : State} (h : execSlice op g s = .next t') :
    t'.pending = s.pending ∧ t'.time = s.time ∧ t'.dev = s.dev ∧ t'.fuses = s.fuses ∧ t'.params = s.params ∧ t'.dram = s.dram ∧ t'.pwr = s.pwr ∧ t'.sec = s.sec ∧ t'.naile = s.naile ∧ t'.nor = s.nor ∧ t'.free = s.free := by
  simp only [execSlice] at h
  injection h with h
  repeat' split at h
  all_goals (subst h; (simp only [and_self, (fact @State.eraseSlice_keep), (fact @State.opCheck_keep), (fact @State.queueGroup_keep), (fact @State.segSlice_keep)]))

theorem execLeafMiss_keep (dgn : Nat) (p : Port) (s : State) {t' : State} (h : execLeafMiss dgn p s = .next t') :
    t'.pending = s.pending ∧ t'.time = s.time ∧ t'.fuses = s.fuses ∧ t'.params = s.params ∧ t'.media = s.media ∧ t'.cache = s.cache ∧ t'.plp = s.plp ∧ t'.dram = s.dram ∧ t'.pwr = s.pwr ∧ t'.sec = s.sec ∧ t'.mgmt = s.mgmt ∧ t'.naile = s.naile ∧ t'.nor = s.nor ∧ t'.bus = s.bus := by
  simp only [execLeafMiss] at h
  injection h with h
  repeat' split at h
  all_goals (subst h; (simp only [and_self, (fact @State.evictOne_keep), (fact @State.serveMiss_keep)]))

theorem execLeaseWriteBackDone_keep (lpn : Nat) (s : State) {t' : State} (h : execLeaseWriteBackDone lpn s = .next t') :
    t'.pending = s.pending ∧ t'.time = s.time ∧ t'.dev = s.dev ∧ t'.fuses = s.fuses ∧ t'.params = s.params ∧ t'.media = s.media ∧ t'.cache = s.cache ∧ t'.plp = s.plp ∧ t'.dram = s.dram ∧ t'.pwr = s.pwr ∧ t'.sec = s.sec ∧ t'.mgmt = s.mgmt ∧ t'.naile = s.naile ∧ t'.nor = s.nor ∧ t'.bus = s.bus ∧ t'.free = s.free := by
  simp only [execLeaseWriteBackDone] at h
  injection h with h
  repeat' split at h
  all_goals (subst h; (simp only [and_self, (fact @State.leaseOver_keep), (fact @State.writeBackDone_keep)]))

theorem execLeaseFetchDone_keep (lpn : Nat) (reply : Option Block) (s : State) {t' : State} (h : execLeaseFetchDone lpn reply s = .next t') :
    t'.pending = s.pending ∧ t'.time = s.time ∧ t'.dev = s.dev ∧ t'.fuses = s.fuses ∧ t'.params = s.params ∧ t'.plp = s.plp ∧ t'.dram = s.dram ∧ t'.pwr = s.pwr ∧ t'.sec = s.sec ∧ t'.mgmt = s.mgmt ∧ t'.naile = s.naile ∧ t'.nor = s.nor ∧ t'.bus = s.bus ∧ t'.free = s.free := by
  simp only [execLeaseFetchDone] at h
  injection h with h
  repeat' split at h
  all_goals (subst h; (simp only [and_self, (fact @State.fetchDone_keep), (fact @State.leaseOver_keep)]))

theorem execLeaseRevokeDone_keep (p : Port) (s : State) {t' : State} (h : execLeaseRevokeDone p s = .next t') :
    t'.pending = s.pending ∧ t'.time = s.time ∧ t'.dev = s.dev ∧ t'.fuses = s.fuses ∧ t'.params = s.params ∧ t'.media = s.media ∧ t'.cache = s.cache ∧ t'.plp = s.plp ∧ t'.dram = s.dram ∧ t'.pwr = s.pwr ∧ t'.sec = s.sec ∧ t'.mgmt = s.mgmt ∧ t'.naile = s.naile ∧ t'.nor = s.nor ∧ t'.bus = s.bus ∧ t'.free = s.free := by
  simp only [execLeaseRevokeDone] at h
  injection h with h
  repeat' split at h
  all_goals (subst h; (simp only [and_self, (fact @State.endLease_keep)]))

theorem execMapLeaseRekey_keep (f : Frame) (v : Nat) (s : State) {t' : State} (h : execMapLeaseRekey f v s = .next t') :
    t'.pending = s.pending ∧ t'.time = s.time ∧ t'.fuses = s.fuses ∧ t'.media = s.media ∧ t'.cache = s.cache ∧ t'.plp = s.plp ∧ t'.dram = s.dram ∧ t'.sec = s.sec ∧ t'.bus = s.bus ∧ t'.free = s.free := by
  simp only [execMapLeaseRekey, State.actionRequest, State.runAction, State.runRequest, State.request] at h
  injection h with h
  repeat' split at h
  all_goals (subst h; (simp only [and_self, actRekey, id_eq, (fact @State.acceptFrame_keep), (fact @State.acceptRecord_keep), (fact @State.naileFail_keep), (fact @State.naileOk_keep), (fact @State.newLeaseKey_keep), (fact @State.rejected_keep), sevDebug, sevInfo, sevNotice, sevWarning, sevError, sevCritical, ne_eq, Nat.reduceEqDiff, not_false_eq_true]))

theorem execJournalCommitDone_keep (g : Grove) (s : State) {t' : State} (h : execJournalCommitDone g s = .next t') :
    t'.pending = s.pending ∧ t'.time = s.time ∧ t'.fuses = s.fuses ∧ t'.params = s.params ∧ t'.dram = s.dram ∧ t'.pwr = s.pwr ∧ t'.sec = s.sec ∧ t'.naile = s.naile ∧ t'.nor = s.nor := by
  simp only [execJournalCommitDone] at h
  injection h with h
  repeat' split at h
  all_goals (subst h; (simp only [and_self, (fact @State.commitGroup_keep), (fact @State.resumeReads_keep), (fact @State.spill_keep), (fact @State.startCompact_keep)]))

theorem execCheckpointSlice_keep (g : Grove) (s : State) {t' : State} (h : execCheckpointSlice g s = .next t') :
    t'.pending = s.pending ∧ t'.time = s.time ∧ t'.dev = s.dev ∧ t'.fuses = s.fuses ∧ t'.params = s.params ∧ t'.host = s.host ∧ t'.cache = s.cache ∧ t'.plp = s.plp ∧ t'.dram = s.dram ∧ t'.pwr = s.pwr ∧ t'.sec = s.sec ∧ t'.mgmt = s.mgmt ∧ t'.naile = s.naile ∧ t'.nor = s.nor ∧ t'.tally = s.tally ∧ t'.bus = s.bus ∧ t'.free = s.free := by
  simp only [execCheckpointSlice] at h
  injection h with h
  repeat' split at h
  all_goals (subst h; (simp only [and_self, (fact @State.checkpointSlice_keep), (fact @State.sliceEnds_keep)]))

theorem execMapRebuild_keep (g : Grove) (i : RebuildInput) (s : State) {t' : State} (h : execMapRebuild g i s = .next t') :
    t'.pending = s.pending ∧ t'.time = s.time ∧ t'.fuses = s.fuses ∧ t'.params = s.params ∧ t'.dram = s.dram ∧ t'.pwr = s.pwr ∧ t'.sec = s.sec ∧ t'.free = s.free := by
  simp only [execMapRebuild] at h
  injection h with h
  repeat' split at h
  all_goals (subst h; (simp only [and_self, (fact @State.rebuildGrove_keep)]))

theorem execMedReadOnlyRelease_keep (f : Frame) (v : Nat) (s : State) {t' : State} (h : execMedReadOnlyRelease f v s = .next t') :
    t'.pending = s.pending ∧ t'.time = s.time ∧ t'.dev = s.dev ∧ t'.fuses = s.fuses ∧ t'.land = s.land ∧ t'.map = s.map ∧ t'.flash = s.flash ∧ t'.cache = s.cache ∧ t'.plp = s.plp ∧ t'.dram = s.dram ∧ t'.sec = s.sec ∧ t'.bus = s.bus ∧ t'.free = s.free := by
  simp only [execMedReadOnlyRelease, State.actionRequest, State.runAction, State.runRequest, State.request] at h
  injection h with h
  repeat' split at h
  all_goals (subst h; (simp only [and_self, actRelease, id_eq, (fact @State.acceptFrame_keep), (fact @State.acceptRecord_keep), (fact @State.naileFail_keep), (fact @State.naileOk_keep), (fact @State.rejected_keep), (fact @State.releaseWrites_keep), sevDebug, sevInfo, sevNotice, sevWarning, sevError, sevCritical, ne_eq, Nat.reduceEqDiff, not_false_eq_true]))

theorem execChnDegradedClear_keep (f : Frame) (v : Nat) (s : State) {t' : State} (h : execChnDegradedClear f v s = .next t') :
    t'.pending = s.pending ∧ t'.time = s.time ∧ t'.dev = s.dev ∧ t'.fuses = s.fuses ∧ t'.land = s.land ∧ t'.map = s.map ∧ t'.media = s.media ∧ t'.cache = s.cache ∧ t'.plp = s.plp ∧ t'.dram = s.dram ∧ t'.sec = s.sec ∧ t'.tally = s.tally ∧ t'.bus = s.bus ∧ t'.free = s.free := by
  simp only [execChnDegradedClear, State.actionRequest, State.runAction, State.runRequest, State.request] at h
  injection h with h
  repeat' split at h
  all_goals (subst h; (simp only [and_self, actDegraded, id_eq, (fact @State.acceptFrame_keep), (fact @State.acceptRecord_keep), (fact @State.naileFail_keep), (fact @State.naileOk_keep), (fact @State.rejected_keep), sevDebug, sevInfo, sevNotice, sevWarning, sevError, sevCritical, ne_eq, Nat.reduceEqDiff, not_false_eq_true]))

theorem execCapacitorTestStart_keep (cause : CapCause) (huLow : Bool) (s : State) {t' : State} (h : execCapacitorTestStart cause huLow s = .next t') :
    t'.pending = s.pending ∧ t'.time = s.time ∧ t'.dev = s.dev ∧ t'.fuses = s.fuses ∧ t'.params = s.params ∧ t'.map = s.map ∧ t'.dram = s.dram ∧ t'.pwr = s.pwr ∧ t'.sec = s.sec ∧ t'.nor = s.nor ∧ t'.free = s.free := by
  simp only [execCapacitorTestStart] at h
  injection h with h
  repeat' split at h
  all_goals (subst h; (simp only [and_self, (fact @State.startTest_keep)]))

theorem execPlpTestNow_keep (f : Frame) (v : Nat) (huLow : Bool) (s : State) {t' : State} (h : execPlpTestNow f v huLow s = .next t') :
    t'.pending = s.pending ∧ t'.time = s.time ∧ t'.dev = s.dev ∧ t'.fuses = s.fuses ∧ t'.map = s.map ∧ t'.dram = s.dram ∧ t'.sec = s.sec ∧ t'.free = s.free := by
  simp only [execPlpTestNow, State.actionRequest, State.runAction, State.runRequest, State.request] at h
  injection h with h
  repeat' split at h
  all_goals (subst h; (simp only [and_self, actTest, id_eq, (fact @State.acceptFrame_keep), (fact @State.acceptRecord_keep), (fact @State.naileFail_keep), (fact @State.naileOk_keep), (fact @State.rejected_keep), (fact @State.startTest_keep), sevDebug, sevInfo, sevNotice, sevWarning, sevError, sevCritical, ne_eq, Nat.reduceEqDiff, not_false_eq_true]))

theorem execHuLowRise_keep (tMs : Nat) (s : State) {t' : State} (h : execHuLowRise tMs s = .next t') :
    t'.pending = s.pending ∧ t'.time = s.time ∧ t'.dev = s.dev ∧ t'.fuses = s.fuses ∧ t'.params = s.params ∧ t'.map = s.map ∧ t'.dram = s.dram ∧ t'.pwr = s.pwr ∧ t'.sec = s.sec ∧ t'.nor = s.nor ∧ t'.free = s.free := by
  simp only [execHuLowRise] at h
  injection h with h
  repeat' split at h
  all_goals (subst h; (simp only [and_self, (fact @State.testEnds_keep)]))

theorem execCapacitorTestTimeout_keep (s : State) {t' : State} (h : execCapacitorTestTimeout s = .next t') :
    t'.pending = s.pending ∧ t'.time = s.time ∧ t'.dev = s.dev ∧ t'.fuses = s.fuses ∧ t'.params = s.params ∧ t'.map = s.map ∧ t'.dram = s.dram ∧ t'.pwr = s.pwr ∧ t'.sec = s.sec ∧ t'.nor = s.nor ∧ t'.free = s.free := by
  simp only [execCapacitorTestTimeout] at h
  injection h with h
  repeat' split at h
  all_goals (subst h; (simp only [and_self, (fact @State.testEnds_keep)]))

theorem execPwrFailNFall_keep (s : State) {t' : State} (h : execPwrFailNFall s = .next t') :
    t'.pending = s.pending ∧ t'.time = s.time ∧ t'.dev = s.dev ∧ t'.fuses = s.fuses ∧ t'.params = s.params ∧ t'.land = s.land ∧ t'.map = s.map ∧ t'.media = s.media ∧ t'.cache = s.cache ∧ t'.dram = s.dram ∧ t'.sec = s.sec ∧ t'.mgmt = s.mgmt ∧ t'.naile = s.naile ∧ t'.nor = s.nor ∧ t'.tally = s.tally ∧ t'.bus = s.bus ∧ t'.free = s.free := by
  simp only [execPwrFailNFall] at h
  injection h with h
  repeat' split at h
  all_goals (subst h; (simp only [and_self, (fact @State.leaveIdle_keep)]))

theorem execPwrFailNRise_keep (s : State) {t' : State} (h : execPwrFailNRise s = .next t') : t'.pending = s.pending ∧ t'.time = s.time ∧ t'.dev = s.dev ∧ t'.fuses = s.fuses ∧ t'.params = s.params ∧ t'.host = s.host ∧ t'.nvm = s.nvm ∧ t'.map = s.map ∧ t'.cache = s.cache ∧ t'.dram = s.dram ∧ t'.pwr = s.pwr ∧ t'.sec = s.sec ∧ t'.mgmt = s.mgmt ∧ t'.naile = s.naile ∧ t'.nor = s.nor ∧ t'.tally = s.tally ∧ t'.bus = s.bus ∧ t'.free = s.free := by
  simp only [execPwrFailNRise] at h
  injection h with h
  split at h
  · subst h; (and_intros <;> rfl)
  · split at h
    · subst h
      refine kxtrans_1 (kxfold_1 (fun a g b hb => ?_) _ _) (kxtrans_1 (kxfold_1 (fun a g b hb => ?_) _ _) (by and_intros <;> rfl))
      · subst hb; simp only [(fact @State.startWaiting_keep), and_self]
      · subst hb; simp only [(fact @State.nextAction_keep), and_self]
    · subst h; (and_intros <;> rfl)

theorem execPowerLossDump_keep (s : State) {t' : State} (h : execPowerLossDump s = .next t') :
    t'.pending = s.pending ∧ t'.fuses = s.fuses ∧ t'.free = s.free := by
  simp only [execPowerLossDump] at h
  injection h with h
  repeat' split at h
  all_goals (subst h; (simp only [and_self, (fact @State.afterDump_keep), (fact @State.dropHandover_keep), (fact @State.dropUpdate_keep), (fact @State.dumpBegin_keep), (fact @State.dumpHalt_keep), (fact @State.dumpHeaders_keep), (fact @State.dumpSlotsOut_keep)]))

theorem execDeferredResetTimeout_keep (s : State) {t' : State} (h : execDeferredResetTimeout s = .next t') :
    t'.pending = s.pending ∧ t'.fuses = s.fuses ∧ t'.free = s.free := by
  simp only [execDeferredResetTimeout] at h
  injection h with h
  repeat' split at h
  all_goals (subst h; (simp only [and_self, (fact @State.takePin_keep)]))

theorem execWriteCacheReplay_keep (d : ReplayDamage) (s : State) {t' : State} (h : execWriteCacheReplay d s = .next t') :
    t'.pending = s.pending ∧ t'.time = s.time ∧ t'.fuses = s.fuses ∧ t'.params = s.params ∧ t'.map = s.map ∧ t'.dram = s.dram ∧ t'.pwr = s.pwr ∧ t'.sec = s.sec ∧ t'.nor = s.nor ∧ t'.free = s.free := by
  simp only [execWriteCacheReplay] at h
  injection h with h
  repeat' split at h
  all_goals (subst h; (simp only [and_self, (fact @State.chooseReplay_keep), (fact @State.replayGroups_keep)]))

theorem execReconfig_keep (f : Frame) (r : ReconfigRec) (s : State) {t' : State} (h : execReconfig f r s = .next t') : t'.pending = s.pending ∧ t'.time = s.time ∧ t'.free = s.free := by
  simp only [execReconfig, State.runRequest, State.request] at h
  injection h with h
  repeat' split at h
  all_goals (subst h; simp only [and_self, (fact @State.acceptFrame_keep), (fact @State.naileFail_keep), (fact @State.runReconfig_keep2)])

theorem execParamRead_keep (f : Frame) (id : Nat) (inst : Nat) (s : State) {t' : State} (h : execParamRead f id inst s = .next t') :
    t'.pending = s.pending ∧ t'.time = s.time ∧ t'.dev = s.dev ∧ t'.fuses = s.fuses ∧ t'.params = s.params ∧ t'.land = s.land ∧ t'.map = s.map ∧ t'.media = s.media ∧ t'.flash = s.flash ∧ t'.cache = s.cache ∧ t'.plp = s.plp ∧ t'.dram = s.dram ∧ t'.sec = s.sec ∧ t'.mgmt = s.mgmt ∧ t'.tally = s.tally ∧ t'.bus = s.bus ∧ t'.free = s.free := by
  simp only [execParamRead, State.runRequest, State.request] at h
  injection h with h
  repeat' split at h
  all_goals (subst h; (simp only [and_self, (fact @State.acceptFrame_keep), (fact @State.naileFail_keep), (fact @State.runParamRead_keep)]))

theorem execStatusWindowRead_keep (f : Frame) (id : Nat) (inst : Nat) (s : State) {t' : State} (h : execStatusWindowRead f id inst s = .next t') :
    t'.pending = s.pending ∧ t'.time = s.time ∧ t'.dev = s.dev ∧ t'.fuses = s.fuses ∧ t'.params = s.params ∧ t'.land = s.land ∧ t'.map = s.map ∧ t'.media = s.media ∧ t'.flash = s.flash ∧ t'.cache = s.cache ∧ t'.plp = s.plp ∧ t'.dram = s.dram ∧ t'.sec = s.sec ∧ t'.mgmt = s.mgmt ∧ t'.tally = s.tally ∧ t'.bus = s.bus ∧ t'.free = s.free := by
  simp only [execStatusWindowRead, State.runRequest, State.request] at h
  injection h with h
  repeat' split at h
  all_goals (subst h; (simp only [and_self, (fact @State.acceptFrame_keep), (fact @State.naileFail_keep), (fact @State.runWindowRead_keep)]))

theorem execQuiescentPointApply_keep (unit : Nat) (s : State) {t' : State} (h : execQuiescentPointApply unit s = .next t') :
    t'.pending = s.pending ∧ t'.time = s.time ∧ t'.dev = s.dev ∧ t'.fuses = s.fuses ∧ t'.land = s.land ∧ t'.map = s.map ∧ t'.media = s.media ∧ t'.flash = s.flash ∧ t'.cache = s.cache ∧ t'.plp = s.plp ∧ t'.dram = s.dram ∧ t'.sec = s.sec ∧ t'.mgmt = s.mgmt ∧ t'.naile = s.naile ∧ t'.nor = s.nor ∧ t'.tally = s.tally ∧ t'.bus = s.bus ∧ t'.free = s.free := by
  simp only [execQuiescentPointApply] at h
  injection h with h
  repeat' split at h
  all_goals (subst h; (simp only [and_self, (fact @State.recheckPower_keep)]))

theorem execDrainLate_keep (id : Nat) (inst : Nat) (s : State) {t' : State} (h : execDrainLate id inst s = .next t') :
    t'.pending = s.pending ∧ t'.time = s.time ∧ t'.dev = s.dev ∧ t'.fuses = s.fuses ∧ t'.params = s.params ∧ t'.host = s.host ∧ t'.nvm = s.nvm ∧ t'.land = s.land ∧ t'.map = s.map ∧ t'.media = s.media ∧ t'.flash = s.flash ∧ t'.cache = s.cache ∧ t'.plp = s.plp ∧ t'.dram = s.dram ∧ t'.pwr = s.pwr ∧ t'.sec = s.sec ∧ t'.nor = s.nor ∧ t'.bus = s.bus ∧ t'.free = s.free := by
  simp only [execDrainLate] at h
  injection h with h
  repeat' split at h
  all_goals (subst h; (simp only [and_self, (fact @State.record_calm), sevDebug, sevInfo, sevNotice, sevWarning, sevError, sevCritical, ne_eq, Nat.reduceEqDiff, not_false_eq_true]))

theorem execMgtHandoverNow_keep (f : Frame) (v : Nat) (s : State) {t' : State} (h : execMgtHandoverNow f v s = .next t') :
    t'.pending = s.pending ∧ t'.time = s.time ∧ t'.dev = s.dev ∧ t'.fuses = s.fuses ∧ t'.land = s.land ∧ t'.map = s.map ∧ t'.media = s.media ∧ t'.flash = s.flash ∧ t'.cache = s.cache ∧ t'.plp = s.plp ∧ t'.dram = s.dram ∧ t'.sec = s.sec ∧ t'.tally = s.tally ∧ t'.bus = s.bus ∧ t'.free = s.free := by
  simp only [execMgtHandoverNow, State.actionRequest, State.runAction, State.runRequest, State.request] at h
  injection h with h
  repeat' split at h
  all_goals (subst h; (simp only [and_self, actHandover, id_eq, (fact @State.acceptFrame_keep), (fact @State.acceptRecord_keep), (fact @State.askHandover_keep), (fact @State.naileFail_keep), (fact @State.naileOk_keep), (fact @State.rejected_keep), sevDebug, sevInfo, sevNotice, sevWarning, sevError, sevCritical, ne_eq, Nat.reduceEqDiff, not_false_eq_true]))

theorem execSecLifecycleAdvance_keep (f : Frame) (v : Nat) (s : State) {t' : State} (h : execSecLifecycleAdvance f v s = .next t') :
    t'.pending = s.pending ∧ t'.time = s.time ∧ t'.dev = s.dev ∧ t'.land = s.land ∧ t'.map = s.map ∧ t'.media = s.media ∧ t'.flash = s.flash ∧ t'.cache = s.cache ∧ t'.plp = s.plp ∧ t'.dram = s.dram ∧ t'.bus = s.bus ∧ t'.free = s.free := by
  simp only [execSecLifecycleAdvance, State.actionRequest, State.runAction, State.runRequest, State.request] at h
  injection h with h
  repeat' split at h
  all_goals (subst h; (simp only [and_self, actSeal, id_eq, (fact @State.acceptFrame_keep), (fact @State.acceptRecord_keep), (fact @State.burnSeal_keep), (fact @State.naileFail_keep), (fact @State.naileOk_keep), (fact @State.noteConflict_keep), (fact @State.rejected_keep), sevDebug, sevInfo, sevNotice, sevWarning, sevError, sevCritical, ne_eq, Nat.reduceEqDiff, not_false_eq_true]))

theorem execSecSvnCommit_keep (f : Frame) (v : Nat) (s : State) {t' : State} (h : execSecSvnCommit f v s = .next t') :
    t'.pending = s.pending ∧ t'.time = s.time ∧ t'.dev = s.dev ∧ t'.land = s.land ∧ t'.map = s.map ∧ t'.media = s.media ∧ t'.flash = s.flash ∧ t'.cache = s.cache ∧ t'.plp = s.plp ∧ t'.dram = s.dram ∧ t'.sec = s.sec ∧ t'.bus = s.bus ∧ t'.free = s.free := by
  simp only [execSecSvnCommit, State.actionRequest, State.runAction, State.runRequest, State.request] at h
  injection h with h
  repeat' split at h
  all_goals (subst h; (simp only [and_self, actSvn, id_eq, (fact @State.acceptFrame_keep), (fact @State.acceptRecord_keep), (fact @State.commitSvn_keep), (fact @State.naileFail_keep), (fact @State.naileOk_keep), (fact @State.rejected_keep), sevDebug, sevInfo, sevNotice, sevWarning, sevError, sevCritical, ne_eq, Nat.reduceEqDiff, not_false_eq_true]))

theorem execIdcode_keep (s : State) {t' : State} (h : execIdcode s = .next t') :
    t'.pending = s.pending ∧ t'.time = s.time ∧ t'.dev = s.dev ∧ t'.fuses = s.fuses ∧ t'.params = s.params ∧ t'.host = s.host ∧ t'.nvm = s.nvm ∧ t'.land = s.land ∧ t'.map = s.map ∧ t'.media = s.media ∧ t'.flash = s.flash ∧ t'.cache = s.cache ∧ t'.plp = s.plp ∧ t'.dram = s.dram ∧ t'.pwr = s.pwr ∧ t'.mgmt = s.mgmt ∧ t'.naile = s.naile ∧ t'.nor = s.nor ∧ t'.tally = s.tally ∧ t'.bus = s.bus ∧ t'.free = s.free := by
  simp only [execIdcode] at h
  injection h with h
  repeat' split at h
  all_goals (subst h; (simp only [and_self, (fact @State.tap_keep)]))

theorem execSamplePreload_keep (s : State) {t' : State} (h : execSamplePreload s = .next t') :
    t'.pending = s.pending ∧ t'.time = s.time ∧ t'.dev = s.dev ∧ t'.fuses = s.fuses ∧ t'.params = s.params ∧ t'.host = s.host ∧ t'.nvm = s.nvm ∧ t'.land = s.land ∧ t'.map = s.map ∧ t'.media = s.media ∧ t'.flash = s.flash ∧ t'.cache = s.cache ∧ t'.plp = s.plp ∧ t'.dram = s.dram ∧ t'.pwr = s.pwr ∧ t'.mgmt = s.mgmt ∧ t'.naile = s.naile ∧ t'.nor = s.nor ∧ t'.tally = s.tally ∧ t'.bus = s.bus := by
  simp only [execSamplePreload] at h
  injection h with h
  repeat' split at h
  all_goals (subst h; (simp only [and_self, (fact @State.tapCapture_keep)]))

theorem execExtest_keep (s : State) {t' : State} (h : execExtest s = .next t') :
    t'.pending = s.pending ∧ t'.time = s.time ∧ t'.dev = s.dev ∧ t'.fuses = s.fuses ∧ t'.params = s.params ∧ t'.host = s.host ∧ t'.nvm = s.nvm ∧ t'.land = s.land ∧ t'.map = s.map ∧ t'.media = s.media ∧ t'.flash = s.flash ∧ t'.cache = s.cache ∧ t'.plp = s.plp ∧ t'.dram = s.dram ∧ t'.pwr = s.pwr ∧ t'.mgmt = s.mgmt ∧ t'.naile = s.naile ∧ t'.nor = s.nor ∧ t'.tally = s.tally ∧ t'.bus = s.bus := by
  simp only [execExtest] at h
  injection h with h
  repeat' split at h
  all_goals (subst h; (simp only [and_self, (fact @State.tapBypass_keep), (fact @State.tapCapture_keep)]))

theorem execClamp_keep (s : State) {t' : State} (h : execClamp s = .next t') :
    t'.pending = s.pending ∧ t'.time = s.time ∧ t'.dev = s.dev ∧ t'.fuses = s.fuses ∧ t'.params = s.params ∧ t'.host = s.host ∧ t'.nvm = s.nvm ∧ t'.land = s.land ∧ t'.map = s.map ∧ t'.media = s.media ∧ t'.flash = s.flash ∧ t'.cache = s.cache ∧ t'.plp = s.plp ∧ t'.dram = s.dram ∧ t'.pwr = s.pwr ∧ t'.mgmt = s.mgmt ∧ t'.naile = s.naile ∧ t'.nor = s.nor ∧ t'.tally = s.tally ∧ t'.bus = s.bus ∧ t'.free = s.free := by
  simp only [execClamp] at h
  injection h with h
  repeat' split at h
  all_goals (subst h; (simp only [and_self, (fact @State.tapBypass_keep), (fact @State.tap_keep)]))

theorem execHighz_keep (s : State) {t' : State} (h : execHighz s = .next t') :
    t'.pending = s.pending ∧ t'.time = s.time ∧ t'.dev = s.dev ∧ t'.fuses = s.fuses ∧ t'.params = s.params ∧ t'.host = s.host ∧ t'.nvm = s.nvm ∧ t'.land = s.land ∧ t'.map = s.map ∧ t'.media = s.media ∧ t'.flash = s.flash ∧ t'.cache = s.cache ∧ t'.plp = s.plp ∧ t'.dram = s.dram ∧ t'.pwr = s.pwr ∧ t'.mgmt = s.mgmt ∧ t'.naile = s.naile ∧ t'.nor = s.nor ∧ t'.tally = s.tally ∧ t'.bus = s.bus ∧ t'.free = s.free := by
  simp only [execHighz] at h
  injection h with h
  repeat' split at h
  all_goals (subst h; (simp only [and_self, (fact @State.tapBypass_keep), (fact @State.tap_keep)]))

theorem execSecstat_keep (s : State) {t' : State} (h : execSecstat s = .next t') :
    t'.pending = s.pending ∧ t'.time = s.time ∧ t'.dev = s.dev ∧ t'.fuses = s.fuses ∧ t'.params = s.params ∧ t'.host = s.host ∧ t'.nvm = s.nvm ∧ t'.land = s.land ∧ t'.map = s.map ∧ t'.media = s.media ∧ t'.flash = s.flash ∧ t'.cache = s.cache ∧ t'.plp = s.plp ∧ t'.dram = s.dram ∧ t'.pwr = s.pwr ∧ t'.mgmt = s.mgmt ∧ t'.naile = s.naile ∧ t'.nor = s.nor ∧ t'.tally = s.tally ∧ t'.bus = s.bus ∧ t'.free = s.free := by
  simp only [execSecstat] at h
  injection h with h
  repeat' split at h
  all_goals (subst h; (simp only [and_self, (fact @State.tap_keep)]))

theorem execProvision_keep (s : State) {t' : State} (h : execProvision s = .next t') :
    t'.pending = s.pending ∧ t'.time = s.time ∧ t'.dev = s.dev ∧ t'.params = s.params ∧ t'.host = s.host ∧ t'.nvm = s.nvm ∧ t'.land = s.land ∧ t'.map = s.map ∧ t'.media = s.media ∧ t'.flash = s.flash ∧ t'.cache = s.cache ∧ t'.plp = s.plp ∧ t'.dram = s.dram ∧ t'.pwr = s.pwr ∧ t'.mgmt = s.mgmt ∧ t'.naile = s.naile ∧ t'.nor = s.nor ∧ t'.tally = s.tally ∧ t'.bus = s.bus ∧ t'.free = s.free := by
  simp only [execProvision] at h
  injection h with h
  repeat' split at h
  all_goals (subst h; (simp only [and_self, (fact @State.tapBypass_keep), (fact @State.tap_keep)]))

theorem execBypass_keep (code : Byte) (s : State) {t' : State} (h : execBypass code s = .next t') :
    t'.pending = s.pending ∧ t'.time = s.time ∧ t'.dev = s.dev ∧ t'.fuses = s.fuses ∧ t'.params = s.params ∧ t'.host = s.host ∧ t'.nvm = s.nvm ∧ t'.land = s.land ∧ t'.map = s.map ∧ t'.media = s.media ∧ t'.flash = s.flash ∧ t'.cache = s.cache ∧ t'.plp = s.plp ∧ t'.dram = s.dram ∧ t'.pwr = s.pwr ∧ t'.mgmt = s.mgmt ∧ t'.naile = s.naile ∧ t'.nor = s.nor ∧ t'.tally = s.tally ∧ t'.bus = s.bus ∧ t'.free = s.free := by
  simp only [execBypass] at h
  injection h with h
  repeat' split at h
  all_goals (subst h; (simp only [and_self, (fact @State.tapBypass_keep)]))

theorem execDebugTokenChallenge_keep (f : Frame) (s : State) {t' : State} (h : execDebugTokenChallenge f s = .next t') :
    t'.pending = s.pending ∧ t'.time = s.time ∧ t'.dev = s.dev ∧ t'.fuses = s.fuses ∧ t'.params = s.params ∧ t'.land = s.land ∧ t'.map = s.map ∧ t'.media = s.media ∧ t'.flash = s.flash ∧ t'.cache = s.cache ∧ t'.plp = s.plp ∧ t'.dram = s.dram ∧ t'.bus = s.bus := by
  simp only [execDebugTokenChallenge, State.runRequest, State.request] at h
  injection h with h
  repeat' split at h
  all_goals (subst h; (simp only [and_self, (fact @State.acceptFrame_keep), (fact @State.naileFail_keep), (fact @State.runChallenge_keep)]))

theorem execDebugTokenOpen_keep (f : Frame) (t : DebugToken) (s : State) {t' : State} (h : execDebugTokenOpen f t s = .next t') :
    t'.pending = s.pending ∧ t'.time = s.time ∧ t'.params = s.params ∧ t'.media = s.media ∧ t'.cache = s.cache ∧ t'.plp = s.plp ∧ t'.dram = s.dram ∧ t'.bus = s.bus ∧ t'.free = s.free := by
  simp only [execDebugTokenOpen, State.runRequest, State.request] at h
  injection h with h
  repeat' split at h
  all_goals (subst h; (simp only [and_self, (fact @State.acceptFrame_keep), (fact @State.naileFail_keep), (fact @State.runOpen_keep)]))

theorem execDebugTokenClose_keep (f : Frame) (s : State) {t' : State} (h : execDebugTokenClose f s = .next t') :
    t'.pending = s.pending ∧ t'.time = s.time ∧ t'.dev = s.dev ∧ t'.fuses = s.fuses ∧ t'.params = s.params ∧ t'.land = s.land ∧ t'.map = s.map ∧ t'.media = s.media ∧ t'.flash = s.flash ∧ t'.cache = s.cache ∧ t'.plp = s.plp ∧ t'.dram = s.dram ∧ t'.bus = s.bus ∧ t'.free = s.free := by
  simp only [execDebugTokenClose, State.runRequest, State.request] at h
  injection h with h
  repeat' split at h
  all_goals (subst h; (simp only [and_self, (fact @State.acceptFrame_keep), (fact @State.naileFail_keep), (fact @State.runClose_keep)]))

theorem execNonceExpiry_keep (s : State) {t' : State} (h : execNonceExpiry s = .next t') :
    t'.pending = s.pending ∧ t'.time = s.time ∧ t'.dev = s.dev ∧ t'.fuses = s.fuses ∧ t'.params = s.params ∧ t'.host = s.host ∧ t'.nvm = s.nvm ∧ t'.land = s.land ∧ t'.map = s.map ∧ t'.media = s.media ∧ t'.flash = s.flash ∧ t'.cache = s.cache ∧ t'.plp = s.plp ∧ t'.dram = s.dram ∧ t'.pwr = s.pwr ∧ t'.mgmt = s.mgmt ∧ t'.naile = s.naile ∧ t'.nor = s.nor ∧ t'.tally = s.tally ∧ t'.bus = s.bus ∧ t'.free = s.free := by
  simp only [execNonceExpiry] at h
  injection h with h
  repeat' split at h
  all_goals (subst h; (simp only [and_self]))

theorem execReadStatus_keep (s : State) {t' : State} (h : execReadStatus s = .next t') :
    t'.pending = s.pending ∧ t'.time = s.time ∧ t'.dev = s.dev ∧ t'.fuses = s.fuses ∧ t'.params = s.params ∧ t'.host = s.host ∧ t'.nvm = s.nvm ∧ t'.land = s.land ∧ t'.map = s.map ∧ t'.media = s.media ∧ t'.flash = s.flash ∧ t'.cache = s.cache ∧ t'.plp = s.plp ∧ t'.dram = s.dram ∧ t'.pwr = s.pwr ∧ t'.sec = s.sec ∧ t'.mgmt = s.mgmt ∧ t'.nor = s.nor ∧ t'.tally = s.tally ∧ t'.bus = s.bus ∧ t'.free = s.free := by
  simp only [execReadStatus] at h
  injection h with h
  repeat' split at h
  all_goals (subst h; (simp only [and_self]))

theorem execReadResp_keep (s : State) {t' : State} (h : execReadResp s = .next t') :
    t'.pending = s.pending ∧ t'.time = s.time ∧ t'.dev = s.dev ∧ t'.fuses = s.fuses ∧ t'.params = s.params ∧ t'.host = s.host ∧ t'.nvm = s.nvm ∧ t'.land = s.land ∧ t'.map = s.map ∧ t'.media = s.media ∧ t'.flash = s.flash ∧ t'.cache = s.cache ∧ t'.plp = s.plp ∧ t'.dram = s.dram ∧ t'.pwr = s.pwr ∧ t'.sec = s.sec ∧ t'.mgmt = s.mgmt ∧ t'.nor = s.nor ∧ t'.tally = s.tally ∧ t'.bus = s.bus ∧ t'.free = s.free := by
  simp only [execReadResp] at h
  injection h with h
  repeat' split at h
  all_goals (subst h; (simp only [and_self]))

theorem execReadAlert_keep (s : State) {t' : State} (h : execReadAlert s = .next t') :
    t'.pending = s.pending ∧ t'.time = s.time ∧ t'.dev = s.dev ∧ t'.fuses = s.fuses ∧ t'.params = s.params ∧ t'.host = s.host ∧ t'.nvm = s.nvm ∧ t'.land = s.land ∧ t'.map = s.map ∧ t'.media = s.media ∧ t'.flash = s.flash ∧ t'.cache = s.cache ∧ t'.plp = s.plp ∧ t'.dram = s.dram ∧ t'.pwr = s.pwr ∧ t'.sec = s.sec ∧ t'.mgmt = s.mgmt ∧ t'.nor = s.nor ∧ t'.tally = s.tally ∧ t'.bus = s.bus ∧ t'.free = s.free := by
  simp only [execReadAlert] at h
  injection h with h
  repeat' split at h
  all_goals (subst h; (simp only [and_self]))

theorem execWriteFrame_keep (fault : FrameFault) (s : State) {t' : State} (h : execWriteFrame fault s = .next t') :
    t'.pending = s.pending ∧ t'.time = s.time ∧ t'.dev = s.dev ∧ t'.fuses = s.fuses ∧ t'.params = s.params ∧ t'.host = s.host ∧ t'.nvm = s.nvm ∧ t'.land = s.land ∧ t'.map = s.map ∧ t'.media = s.media ∧ t'.flash = s.flash ∧ t'.cache = s.cache ∧ t'.plp = s.plp ∧ t'.dram = s.dram ∧ t'.pwr = s.pwr ∧ t'.sec = s.sec ∧ t'.mgmt = s.mgmt ∧ t'.nor = s.nor ∧ t'.tally = s.tally ∧ t'.bus = s.bus ∧ t'.free = s.free := by
  simp only [execWriteFrame] at h
  injection h with h
  repeat' split at h
  all_goals (subst h; (simp only [and_self]))

theorem execTallyRead_keep (f : Frame) (tier : Nat) (count : Nat) (start : Nat) (s : State) {t' : State} (h : execTallyRead f tier count start s = .next t') :
    t'.pending = s.pending ∧ t'.time = s.time ∧ t'.dev = s.dev ∧ t'.fuses = s.fuses ∧ t'.params = s.params ∧ t'.land = s.land ∧ t'.map = s.map ∧ t'.media = s.media ∧ t'.flash = s.flash ∧ t'.cache = s.cache ∧ t'.plp = s.plp ∧ t'.dram = s.dram ∧ t'.sec = s.sec ∧ t'.mgmt = s.mgmt ∧ t'.tally = s.tally ∧ t'.bus = s.bus ∧ t'.free = s.free := by
  simp only [execTallyRead, State.runRequest, State.request] at h
  injection h with h
  repeat' split at h
  all_goals (subst h; (simp only [and_self, (fact @State.acceptFrame_keep), (fact @State.naileFail_keep), (fact @State.runTallyRead_keep)]))

theorem execHealthRead_keep (f : Frame) (page : Nat) (s : State) {t' : State} (h : execHealthRead f page s = .next t') :
    t'.pending = s.pending ∧ t'.time = s.time ∧ t'.dev = s.dev ∧ t'.fuses = s.fuses ∧ t'.params = s.params ∧ t'.land = s.land ∧ t'.map = s.map ∧ t'.media = s.media ∧ t'.flash = s.flash ∧ t'.cache = s.cache ∧ t'.plp = s.plp ∧ t'.dram = s.dram ∧ t'.sec = s.sec ∧ t'.tally = s.tally ∧ t'.bus = s.bus ∧ t'.free = s.free := by
  simp only [execHealthRead, State.runRequest, State.request] at h
  injection h with h
  repeat' split at h
  all_goals (subst h; (simp only [and_self, (fact @State.acceptFrame_keep), (fact @State.naileFail_keep), (fact @State.runHealthRead_keep)]))

theorem execRawDiag_keep (f : Frame) (p : Ploc) (offset : Nat) (length : Nat) (s : State) {t' : State} (h : execRawDiag f p offset length s = .next t') :
    t'.pending = s.pending ∧ t'.time = s.time ∧ t'.dev = s.dev ∧ t'.fuses = s.fuses ∧ t'.params = s.params ∧ t'.land = s.land ∧ t'.map = s.map ∧ t'.media = s.media ∧ t'.cache = s.cache ∧ t'.plp = s.plp ∧ t'.dram = s.dram ∧ t'.sec = s.sec ∧ t'.mgmt = s.mgmt ∧ t'.tally = s.tally ∧ t'.bus = s.bus ∧ t'.free = s.free := by
  simp only [execRawDiag, State.runRequest, State.request] at h
  injection h with h
  repeat' split at h
  all_goals (subst h; (simp only [and_self, (fact @State.acceptFrame_keep), (fact @State.naileFail_keep), (fact @State.runRawDiag_keep)]))

theorem execRecoveryStatus_keep (f : Frame) (s : State) {t' : State} (h : execRecoveryStatus f s = .next t') :
    t'.pending = s.pending ∧ t'.time = s.time ∧ t'.dev = s.dev ∧ t'.fuses = s.fuses ∧ t'.params = s.params ∧ t'.land = s.land ∧ t'.map = s.map ∧ t'.media = s.media ∧ t'.flash = s.flash ∧ t'.cache = s.cache ∧ t'.plp = s.plp ∧ t'.dram = s.dram ∧ t'.sec = s.sec ∧ t'.mgmt = s.mgmt ∧ t'.tally = s.tally ∧ t'.bus = s.bus ∧ t'.free = s.free := by
  simp only [execRecoveryStatus, State.runRequest, State.request] at h
  injection h with h
  repeat' split at h
  all_goals (subst h; (simp only [and_self, (fact @State.acceptFrame_keep), (fact @State.naileFail_keep), (fact @State.runRecoveryStatus_keep)]))

theorem execUnknownType_keep (f : Frame) (typ : Byte) (s : State) {t' : State} (h : execUnknownType f typ s = .next t') :
    t'.pending = s.pending ∧ t'.time = s.time ∧ t'.dev = s.dev ∧ t'.fuses = s.fuses ∧ t'.params = s.params ∧ t'.land = s.land ∧ t'.map = s.map ∧ t'.media = s.media ∧ t'.flash = s.flash ∧ t'.cache = s.cache ∧ t'.plp = s.plp ∧ t'.dram = s.dram ∧ t'.sec = s.sec ∧ t'.mgmt = s.mgmt ∧ t'.tally = s.tally ∧ t'.bus = s.bus ∧ t'.free = s.free := by
  simp only [execUnknownType, State.runRequest, State.request] at h
  injection h with h
  repeat' split at h
  all_goals (subst h; (simp only [and_self, (fact @State.acceptFrame_keep), (fact @State.naileFail_keep)]))

theorem execImageBegin_keep (f : Frame) (target : Nat) (length : Nat) (s : State) {t' : State} (h : execImageBegin f target length s = .next t') :
    t'.pending = s.pending ∧ t'.time = s.time ∧ t'.dev = s.dev ∧ t'.fuses = s.fuses ∧ t'.params = s.params ∧ t'.land = s.land ∧ t'.map = s.map ∧ t'.media = s.media ∧ t'.flash = s.flash ∧ t'.cache = s.cache ∧ t'.plp = s.plp ∧ t'.dram = s.dram ∧ t'.sec = s.sec ∧ t'.mgmt = s.mgmt ∧ t'.tally = s.tally ∧ t'.bus = s.bus ∧ t'.free = s.free := by
  simp only [execImageBegin, State.runRequest, State.request] at h
  injection h with h
  repeat' split at h
  all_goals (subst h; (simp only [and_self, (fact @State.acceptFrame_keep), (fact @State.naileFail_keep), (fact @State.runImageBegin_keep)]))

theorem execImageChunk_keep (f : Frame) (offset : Nat) (count : Nat) (hdr : Option StreamHeader) (norFails : Bool) (s : State) {t' : State} (h : execImageChunk f offset count hdr norFails s = .next t') :
    t'.pending = s.pending ∧ t'.time = s.time ∧ t'.dev = s.dev ∧ t'.fuses = s.fuses ∧ t'.params = s.params ∧ t'.land = s.land ∧ t'.map = s.map ∧ t'.media = s.media ∧ t'.flash = s.flash ∧ t'.cache = s.cache ∧ t'.plp = s.plp ∧ t'.dram = s.dram ∧ t'.sec = s.sec ∧ t'.mgmt = s.mgmt ∧ t'.tally = s.tally ∧ t'.bus = s.bus ∧ t'.free = s.free := by
  simp only [execImageChunk, State.runRequest, State.request] at h
  injection h with h
  repeat' split at h
  all_goals (subst h; (simp only [and_self, (fact @State.acceptFrame_keep), (fact @State.naileFail_keep), (fact @State.runImageChunk_keep)]))

theorem execNorSectorWritten_keep (ok : Bool) (s : State) {t' : State} (h : execNorSectorWritten ok s = .next t') :
    t'.pending = s.pending ∧ t'.time = s.time ∧ t'.dev = s.dev ∧ t'.fuses = s.fuses ∧ t'.params = s.params ∧ t'.host = s.host ∧ t'.nvm = s.nvm ∧ t'.land = s.land ∧ t'.map = s.map ∧ t'.media = s.media ∧ t'.flash = s.flash ∧ t'.cache = s.cache ∧ t'.plp = s.plp ∧ t'.dram = s.dram ∧ t'.pwr = s.pwr ∧ t'.sec = s.sec ∧ t'.bus = s.bus ∧ t'.free = s.free := by
  simp only [execNorSectorWritten] at h
  injection h with h
  repeat' split at h
  all_goals (subst h; (simp only [and_self, (fact @State.lateSector_keep), (fact @State.sectorEnds_keep)]))

theorem execImageEnd_keep (f : Frame) (norFails : Bool) (digestOk : Bool) (s : State) {t' : State} (h : execImageEnd f norFails digestOk s = .next t') :
    t'.pending = s.pending ∧ t'.time = s.time ∧ t'.dev = s.dev ∧ t'.fuses = s.fuses ∧ t'.params = s.params ∧ t'.land = s.land ∧ t'.map = s.map ∧ t'.media = s.media ∧ t'.flash = s.flash ∧ t'.cache = s.cache ∧ t'.plp = s.plp ∧ t'.dram = s.dram ∧ t'.sec = s.sec ∧ t'.bus = s.bus ∧ t'.free = s.free := by
  simp only [execImageEnd, State.runRequest, State.request] at h
  injection h with h
  repeat' split at h
  all_goals (subst h; (simp only [and_self, (fact @State.acceptFrame_keep), (fact @State.naileFail_keep), (fact @State.runImageEnd_keep)]))

theorem execUpdateTimeout_keep (s : State) {t' : State} (h : execUpdateTimeout s = .next t') :
    t'.pending = s.pending ∧ t'.time = s.time ∧ t'.dev = s.dev ∧ t'.fuses = s.fuses ∧ t'.params = s.params ∧ t'.host = s.host ∧ t'.nvm = s.nvm ∧ t'.land = s.land ∧ t'.map = s.map ∧ t'.media = s.media ∧ t'.flash = s.flash ∧ t'.cache = s.cache ∧ t'.plp = s.plp ∧ t'.dram = s.dram ∧ t'.pwr = s.pwr ∧ t'.sec = s.sec ∧ t'.mgmt = s.mgmt ∧ t'.naile = s.naile ∧ t'.tally = s.tally ∧ t'.bus = s.bus ∧ t'.free = s.free := by
  simp only [execUpdateTimeout] at h
  injection h with h
  repeat' split at h
  all_goals (subst h; (simp only [and_self, (fact @State.abandonUpdate_keep)]))

theorem execCommitImage_keep (f : Frame) (mgmtNow : Bool) (ftlNow : Bool) (s : State) {t' : State} (h : execCommitImage f mgmtNow ftlNow s = .next t') :
    t'.pending = s.pending ∧ t'.time = s.time ∧ t'.dev = s.dev ∧ t'.fuses = s.fuses ∧ t'.params = s.params ∧ t'.land = s.land ∧ t'.map = s.map ∧ t'.media = s.media ∧ t'.flash = s.flash ∧ t'.cache = s.cache ∧ t'.plp = s.plp ∧ t'.dram = s.dram ∧ t'.sec = s.sec ∧ t'.tally = s.tally ∧ t'.bus = s.bus ∧ t'.free = s.free := by
  simp only [execCommitImage, State.runRequest, State.request] at h
  injection h with h
  repeat' split at h
  all_goals (subst h; (simp only [and_self, (fact @State.acceptFrame_keep), (fact @State.naileFail_keep), (fact @State.runCommitImage_keep)]))

theorem execCommitConfiguration_keep (f : Frame) (mgmtNow : Bool) (ftlNow : Bool) (s : State) {t' : State} (h : execCommitConfiguration f mgmtNow ftlNow s = .next t') :
    t'.pending = s.pending ∧ t'.time = s.time ∧ t'.dev = s.dev ∧ t'.fuses = s.fuses ∧ t'.params = s.params ∧ t'.land = s.land ∧ t'.map = s.map ∧ t'.media = s.media ∧ t'.flash = s.flash ∧ t'.cache = s.cache ∧ t'.plp = s.plp ∧ t'.dram = s.dram ∧ t'.sec = s.sec ∧ t'.mgmt = s.mgmt ∧ t'.tally = s.tally ∧ t'.bus = s.bus ∧ t'.free = s.free := by
  simp only [execCommitConfiguration, State.runRequest, State.request] at h
  injection h with h
  repeat' split at h
  all_goals (subst h; (simp only [and_self, (fact @State.acceptFrame_keep), (fact @State.naileFail_keep), (fact @State.runCommitConfiguration_keep)]))

theorem execRaiseReleaseFloor_keep (f : Frame) (s : State) {t' : State} (h : execRaiseReleaseFloor f s = .next t') :
    t'.pending = s.pending ∧ t'.time = s.time ∧ t'.dev = s.dev ∧ t'.fuses = s.fuses ∧ t'.params = s.params ∧ t'.land = s.land ∧ t'.map = s.map ∧ t'.media = s.media ∧ t'.flash = s.flash ∧ t'.cache = s.cache ∧ t'.plp = s.plp ∧ t'.dram = s.dram ∧ t'.sec = s.sec ∧ t'.bus = s.bus ∧ t'.free = s.free := by
  simp only [execRaiseReleaseFloor, State.runRequest, State.request] at h
  injection h with h
  repeat' split at h
  all_goals (subst h; (simp only [and_self, (fact @State.acceptFrame_keep), (fact @State.naileFail_keep), (fact @State.runRaiseFloor_keep)]))

theorem execRestoreSpare_keep (f : Frame) (norFails : Bool) (s : State) {t' : State} (h : execRestoreSpare f norFails s = .next t') :
    t'.pending = s.pending ∧ t'.time = s.time ∧ t'.dev = s.dev ∧ t'.fuses = s.fuses ∧ t'.params = s.params ∧ t'.land = s.land ∧ t'.map = s.map ∧ t'.media = s.media ∧ t'.flash = s.flash ∧ t'.cache = s.cache ∧ t'.plp = s.plp ∧ t'.dram = s.dram ∧ t'.sec = s.sec ∧ t'.mgmt = s.mgmt ∧ t'.tally = s.tally ∧ t'.bus = s.bus ∧ t'.free = s.free := by
  simp only [execRestoreSpare, State.runRequest, State.request] at h
  injection h with h
  repeat' split at h
  all_goals (subst h; (simp only [and_self, (fact @State.acceptFrame_keep), (fact @State.naileFail_keep), (fact @State.runRestoreSpare_keep)]))

theorem execStandCtlCreate_keep (f : Frame) (d : StandDesc) (s : State) {t' : State} (h : execStandCtlCreate f d s = .next t') :
    t'.pending = s.pending ∧ t'.time = s.time ∧ t'.dev = s.dev ∧ t'.fuses = s.fuses ∧ t'.params = s.params ∧ t'.dram = s.dram ∧ t'.sec = s.sec ∧ t'.bus = s.bus ∧ t'.free = s.free := by
  simp only [execStandCtlCreate, State.runRequest, State.request, State.standRequest] at h
  injection h with h
  repeat' split at h
  all_goals (subst h; (simp only [and_self, (fact @State.acceptFrame_keep), (fact @State.naileFail_keep), (fact @State.runCreate_keep)]))

theorem execStandCtlModify_keep (f : Frame) (d : StandDesc) (s : State) {t' : State} (h : execStandCtlModify f d s = .next t') :
    t'.pending = s.pending ∧ t'.time = s.time ∧ t'.dev = s.dev ∧ t'.fuses = s.fuses ∧ t'.params = s.params ∧ t'.dram = s.dram ∧ t'.sec = s.sec ∧ t'.bus = s.bus ∧ t'.free = s.free := by
  simp only [execStandCtlModify, State.runRequest, State.request, State.standRequest] at h
  injection h with h
  repeat' split at h
  all_goals (subst h; (simp only [and_self, (fact @State.acceptFrame_keep), (fact @State.naileFail_keep), (fact @State.runModify_keep)]))

theorem execStandPreparationDone_keep (st : StandNo) (s : State) {t' : State} (h : execStandPreparationDone st s = .next t') :
    t'.pending = s.pending ∧ t'.time = s.time ∧ t'.dev = s.dev ∧ t'.fuses = s.fuses ∧ t'.params = s.params ∧ t'.host = s.host ∧ t'.land = s.land ∧ t'.map = s.map ∧ t'.flash = s.flash ∧ t'.cache = s.cache ∧ t'.plp = s.plp ∧ t'.dram = s.dram ∧ t'.pwr = s.pwr ∧ t'.sec = s.sec ∧ t'.naile = s.naile ∧ t'.nor = s.nor ∧ t'.bus = s.bus ∧ t'.free = s.free := by
  simp only [execStandPreparationDone] at h
  injection h with h
  repeat' split at h
  all_goals (subst h; (first | (simp only [and_self, (fact @State.fillRegion_keep), (fact @State.journal_keep), (fact @State.recheckSpare_keep)]; done) | (and_intros <;> (repeat' first | (simp only [and_self, (fact @State.fillRegion_keep), (fact @State.journal_keep), (fact @State.recheckSpare_keep)]; done) | (simp only [and_self, (fact @State.fillRegion_keep), (fact @State.journal_keep), (fact @State.recheckSpare_keep)]) | (split at hb) | (subst hb; simp only [and_self, (fact @State.fillRegion_keep), (fact @State.journal_keep), (fact @State.recheckSpare_keep)]) | (refine (foldl_pending (fun _ _ _ hb => ?_) _ _).trans ?_) | (refine (foldl_time (fun _ _ _ hb => ?_) _ _).trans ?_) | (refine (foldl_dev (fun _ _ _ hb => ?_) _ _).trans ?_) | (refine (foldl_fuses (fun _ _ _ hb => ?_) _ _).trans ?_) | (refine (foldl_params (fun _ _ _ hb => ?_) _ _).trans ?_) | (refine (foldl_host (fun _ _ _ hb => ?_) _ _).trans ?_) | (refine (foldl_land (fun _ _ _ hb => ?_) _ _).trans ?_) | (refine (foldl_map (fun _ _ _ hb => ?_) _ _).trans ?_) | (refine (foldl_flash (fun _ _ _ hb => ?_) _ _).trans ?_) | (refine (foldl_cache (fun _ _ _ hb => ?_) _ _).trans ?_) | (refine (foldl_plp (fun _ _ _ hb => ?_) _ _).trans ?_) | (refine (foldl_dram (fun _ _ _ hb => ?_) _ _).trans ?_) | (refine (foldl_pwr (fun _ _ _ hb => ?_) _ _).trans ?_) | (refine (foldl_sec (fun _ _ _ hb => ?_) _ _).trans ?_) | (refine (foldl_naile (fun _ _ _ hb => ?_) _ _).trans ?_) | (refine (foldl_nor (fun _ _ _ hb => ?_) _ _).trans ?_) | (refine (foldl_bus (fun _ _ _ hb => ?_) _ _).trans ?_) | (refine (foldl_free (fun _ _ _ hb => ?_) _ _).trans ?_) | split))))

theorem execStandRelocationDone_keep (st : StandNo) (s : State) {t' : State} (h : execStandRelocationDone st s = .next t') :
    t'.pending = s.pending ∧ t'.time = s.time ∧ t'.dev = s.dev ∧ t'.fuses = s.fuses ∧ t'.params = s.params ∧ t'.host = s.host ∧ t'.land = s.land ∧ t'.map = s.map ∧ t'.flash = s.flash ∧ t'.cache = s.cache ∧ t'.plp = s.plp ∧ t'.dram = s.dram ∧ t'.pwr = s.pwr ∧ t'.sec = s.sec ∧ t'.naile = s.naile ∧ t'.nor = s.nor ∧ t'.bus = s.bus ∧ t'.free = s.free := by
  simp only [execStandRelocationDone] at h
  injection h with h
  repeat' split at h
  all_goals (subst h; (simp only [and_self, (fact @State.journal_keep), (fact @State.recheckSpare_keep)]))

theorem execStandCtlDelete_keep (f : Frame) (d : StandDesc) (s : State) {t' : State} (h : execStandCtlDelete f d s = .next t') :
    t'.pending = s.pending ∧ t'.time = s.time ∧ t'.dev = s.dev ∧ t'.fuses = s.fuses ∧ t'.params = s.params ∧ t'.land = s.land ∧ t'.map = s.map ∧ t'.media = s.media ∧ t'.flash = s.flash ∧ t'.cache = s.cache ∧ t'.plp = s.plp ∧ t'.dram = s.dram ∧ t'.sec = s.sec ∧ t'.tally = s.tally ∧ t'.bus = s.bus ∧ t'.free = s.free := by
  simp only [execStandCtlDelete, State.runRequest, State.request, State.standRequest] at h
  injection h with h
  repeat' split at h
  all_goals (subst h; (simp only [and_self, (fact @State.acceptFrame_keep), (fact @State.naileFail_keep), (fact @State.runDelete_keep)]))

theorem execStandDeleteRun_keep (st : StandNo) (s : State) {t' : State} (h : execStandDeleteRun st s = .next t') :
    t'.pending = s.pending ∧ t'.time = s.time ∧ t'.params = s.params ∧ t'.dram = s.dram ∧ t'.pwr = s.pwr ∧ t'.nor = s.nor ∧ t'.free = s.free := by
  simp only [execStandDeleteRun] at h
  injection h with h
  repeat' split at h
  all_goals (subst h; (simp only [and_self, (fact @State.standDetach_keep), (fact @State.standGone_keep), (fact @State.standKeys_keep), (fact @State.standUnmap_keep)]))

theorem execStandCtlAttach_keep (f : Frame) (c : BitVec 24) (st : Byte) (s : State) {t' : State} (h : execStandCtlAttach f c st s = .next t') :
    t'.pending = s.pending ∧ t'.time = s.time ∧ t'.dev = s.dev ∧ t'.fuses = s.fuses ∧ t'.params = s.params ∧ t'.land = s.land ∧ t'.map = s.map ∧ t'.media = s.media ∧ t'.flash = s.flash ∧ t'.cache = s.cache ∧ t'.plp = s.plp ∧ t'.dram = s.dram ∧ t'.sec = s.sec ∧ t'.tally = s.tally ∧ t'.bus = s.bus ∧ t'.free = s.free := by
  simp only [execStandCtlAttach, State.runRequest, State.request, State.standRequest] at h
  injection h with h
  repeat' split at h
  all_goals (subst h; (simp only [and_self, (fact @State.acceptFrame_keep), (fact @State.naileFail_keep), (fact @State.runAttach_keep)]))

theorem execStandCtlDetach_keep (f : Frame) (c : BitVec 24) (st : Byte) (s : State) {t' : State} (h : execStandCtlDetach f c st s = .next t') :
    t'.pending = s.pending ∧ t'.time = s.time ∧ t'.dev = s.dev ∧ t'.fuses = s.fuses ∧ t'.params = s.params ∧ t'.map = s.map ∧ t'.media = s.media ∧ t'.flash = s.flash ∧ t'.cache = s.cache ∧ t'.plp = s.plp ∧ t'.dram = s.dram ∧ t'.sec = s.sec ∧ t'.free = s.free := by
  simp only [execStandCtlDetach, State.runRequest, State.request, State.standRequest] at h
  injection h with h
  repeat' split at h
  all_goals (subst h; (simp only [and_self, (fact @State.acceptFrame_keep), (fact @State.naileFail_keep), (fact @State.runDetach_keep)]))

theorem execStandCtlQuery_keep (f : Frame) (d : StandDesc) (s : State) {t' : State} (h : execStandCtlQuery f d s = .next t') :
    t'.pending = s.pending ∧ t'.time = s.time ∧ t'.dev = s.dev ∧ t'.fuses = s.fuses ∧ t'.params = s.params ∧ t'.land = s.land ∧ t'.map = s.map ∧ t'.media = s.media ∧ t'.flash = s.flash ∧ t'.cache = s.cache ∧ t'.plp = s.plp ∧ t'.dram = s.dram ∧ t'.sec = s.sec ∧ t'.mgmt = s.mgmt ∧ t'.tally = s.tally ∧ t'.bus = s.bus ∧ t'.free = s.free := by
  simp only [execStandCtlQuery, State.runRequest, State.request, State.standRequest] at h
  injection h with h
  repeat' split at h
  all_goals (subst h; (simp only [and_self, (fact @State.acceptFrame_keep), (fact @State.naileFail_keep), (fact @State.runQuery_keep)]))

theorem execMgmtCheckpoint_keep (s : State) {t' : State} (h : execMgmtCheckpoint s = .next t') :
    t'.pending = s.pending ∧ t'.time = s.time ∧ t'.dev = s.dev ∧ t'.fuses = s.fuses ∧ t'.params = s.params ∧ t'.host = s.host ∧ t'.nvm = s.nvm ∧ t'.land = s.land ∧ t'.map = s.map ∧ t'.media = s.media ∧ t'.flash = s.flash ∧ t'.cache = s.cache ∧ t'.plp = s.plp ∧ t'.dram = s.dram ∧ t'.pwr = s.pwr ∧ t'.sec = s.sec ∧ t'.naile = s.naile ∧ t'.nor = s.nor ∧ t'.tally = s.tally ∧ t'.bus = s.bus ∧ t'.free = s.free := by
  simp only [execMgmtCheckpoint] at h
  injection h with h
  repeat' split at h
  all_goals (subst h; (simp only [and_self, (fact @State.checkpoint_keep)]))

theorem execWatchdogExpiry_keep (s : State) {t' : State} (h : execWatchdogExpiry s = .next t') :
    t'.pending = s.pending ∧ t'.time = s.time := by
  simp only [execWatchdogExpiry] at h
  injection h with h
  repeat' split at h
  all_goals (subst h; (simp only [and_self, (fact @State.failOver_keep), (fact @State.resumeWaiting_keep)]))

theorem execMgmtFault_keep (_k : MgmtFaultKind) (s : State) {t' : State} (h : execMgmtFault _k s = .next t') :
    t'.pending = s.pending ∧ t'.time = s.time := by
  simp only [execMgmtFault] at h
  injection h with h
  repeat' split at h
  all_goals (subst h; (simp only [and_self, (fact @State.failOver_keep), (fact @State.resumeWaiting_keep)]))

theorem execTakeover_keep (s : State) {t' : State} (h : execTakeover s = .next t') :
    t'.pending = s.pending ∧ t'.time = s.time := by
  simp only [execTakeover] at h
  injection h with h
  repeat' split at h
  all_goals (subst h; (simp only [and_self, (fact @State.handoverDone_keep), (fact @State.resumeWaiting_keep)]))

theorem execHandoverTimeout_keep (result : Nat) (s : State) {t' : State} (h : execHandoverTimeout result s = .next t') :
    t'.pending = s.pending ∧ t'.time = s.time := by
  simp only [execHandoverTimeout] at h
  injection h with h
  repeat' split at h
  all_goals (subst h; (simp only [and_self, (fact @State.handoverFails_keep), (fact @State.resumeWaiting_keep)]))

theorem execStandbySelfTest_keep (failBits : BitVec 4) (s : State) {t' : State} (h : execStandbySelfTest failBits s = .next t') :
    t'.pending = s.pending ∧ t'.time = s.time ∧ t'.dev = s.dev ∧ t'.fuses = s.fuses ∧ t'.params = s.params ∧ t'.host = s.host ∧ t'.nvm = s.nvm ∧ t'.land = s.land ∧ t'.map = s.map ∧ t'.media = s.media ∧ t'.flash = s.flash ∧ t'.cache = s.cache ∧ t'.plp = s.plp ∧ t'.dram = s.dram ∧ t'.pwr = s.pwr ∧ t'.sec = s.sec ∧ t'.nor = s.nor ∧ t'.bus = s.bus ∧ t'.free = s.free := by
  simp only [execStandbySelfTest] at h
  injection h with h
  repeat' split at h
  all_goals (subst h; (simp only [and_self, (fact @State.record_calm), sevDebug, sevInfo, sevNotice, sevWarning, sevError, sevCritical, ne_eq, Nat.reduceEqDiff, not_false_eq_true]))

theorem execGroveRestart_keep (g : Grove) (s : State) {t' : State} (h : execGroveRestart g s = .next t') :
    t'.pending = s.pending ∧ t'.time = s.time ∧ t'.dev = s.dev ∧ t'.fuses = s.fuses ∧ t'.params = s.params ∧ t'.host = s.host ∧ t'.nvm = s.nvm ∧ t'.flash = s.flash ∧ t'.cache = s.cache ∧ t'.plp = s.plp ∧ t'.dram = s.dram ∧ t'.pwr = s.pwr ∧ t'.sec = s.sec ∧ t'.mgmt = s.mgmt ∧ t'.naile = s.naile ∧ t'.nor = s.nor ∧ t'.bus = s.bus ∧ t'.free = s.free := by
  simp only [execGroveRestart] at h
  injection h with h
  repeat' split at h
  all_goals (subst h; (simp only [and_self, (fact @State.groveDown_keep)]))

theorem execGroveRestartComplete_keep (g : Grove) (s : State) {t' : State} (h : execGroveRestartComplete g s = .next t') :
    t'.pending = s.pending ∧ t'.time = s.time ∧ t'.dev = s.dev ∧ t'.fuses = s.fuses ∧ t'.host = s.host ∧ t'.nvm = s.nvm ∧ t'.land = s.land ∧ t'.media = s.media ∧ t'.flash = s.flash ∧ t'.cache = s.cache ∧ t'.plp = s.plp ∧ t'.dram = s.dram ∧ t'.pwr = s.pwr ∧ t'.sec = s.sec ∧ t'.naile = s.naile ∧ t'.tally = s.tally ∧ t'.bus = s.bus ∧ t'.free = s.free := by
  simp only [execGroveRestartComplete] at h
  injection h with h
  repeat' split at h
  all_goals (subst h; (simp only [and_self, (fact @State.groveBack_keep), (fact @State.rolloutGoOn_keep)]))

theorem execGroveRestartTimeout_keep (g : Grove) (s : State) {t' : State} (h : execGroveRestartTimeout g s = .next t') :
    t'.pending = s.pending ∧ t'.time = s.time ∧ t'.fuses = s.fuses ∧ t'.params = s.params ∧ t'.host = s.host ∧ t'.nvm = s.nvm ∧ t'.land = s.land ∧ t'.media = s.media ∧ t'.flash = s.flash ∧ t'.cache = s.cache ∧ t'.plp = s.plp ∧ t'.dram = s.dram ∧ t'.pwr = s.pwr ∧ t'.sec = s.sec ∧ t'.bus = s.bus ∧ t'.free = s.free := by
  simp only [execGroveRestartTimeout] at h
  injection h with h
  repeat' split at h
  all_goals (subst h; (simp only [and_self, (fact @State.groveRebuilds_keep), (fact @State.rolloutGoOn_keep), (fact @State.rolloutStops_keep)]))

theorem execSessionLifetimeExpiry_keep (s : State) {t' : State} (h : execSessionLifetimeExpiry s = .next t') :
    t'.pending = s.pending ∧ t'.time = s.time := by
  simp only [execSessionLifetimeExpiry] at h
  injection h with h
  repeat' split at h
  all_goals (subst h; (simp only [and_self, (fact @State.closeSession_keep), (fact @State.resumeWaiting_keep)]))

theorem execDap_keep (r : DapReach) (s : State) {t' : State} (h : execDap r s = .next t') :
    t'.pending = s.pending ∧ t'.time = s.time := by
  simp only [execDap] at h
  injection h with h
  repeat' split at h
  all_goals (subst h; (simp only [and_self, (fact @State.dapRun_keep), (fact @State.tapBypass_keep), (fact @State.tap_keep)]))

theorem execReadNvmeMiDataStructure_keep (dtyp : MiType) (x : Nat) (s : State) {t' : State} (h : execReadNvmeMiDataStructure dtyp x s = .next t') :
    t'.pending = s.pending ∧ t'.time = s.time ∧ t'.dev = s.dev ∧ t'.fuses = s.fuses ∧ t'.params = s.params ∧ t'.host = s.host ∧ t'.nvm = s.nvm ∧ t'.land = s.land ∧ t'.map = s.map ∧ t'.media = s.media ∧ t'.flash = s.flash ∧ t'.cache = s.cache ∧ t'.plp = s.plp ∧ t'.dram = s.dram ∧ t'.pwr = s.pwr ∧ t'.sec = s.sec ∧ t'.mgmt = s.mgmt ∧ t'.naile = s.naile ∧ t'.nor = s.nor ∧ t'.tally = s.tally ∧ t'.free = s.free := by
  simp only [execReadNvmeMiDataStructure, State.mi] at h
  injection h with h
  repeat' split at h
  all_goals (subst h; (simp only [and_self, (fact @State.miReply_keep)]))

theorem execNvmSubsystemHealthStatusPoll_keep (clear : Bool) (s : State) {t' : State} (h : execNvmSubsystemHealthStatusPoll clear s = .next t') :
    t'.pending = s.pending ∧ t'.time = s.time ∧ t'.dev = s.dev ∧ t'.fuses = s.fuses ∧ t'.params = s.params ∧ t'.host = s.host ∧ t'.nvm = s.nvm ∧ t'.land = s.land ∧ t'.map = s.map ∧ t'.media = s.media ∧ t'.flash = s.flash ∧ t'.cache = s.cache ∧ t'.plp = s.plp ∧ t'.dram = s.dram ∧ t'.pwr = s.pwr ∧ t'.sec = s.sec ∧ t'.mgmt = s.mgmt ∧ t'.naile = s.naile ∧ t'.nor = s.nor ∧ t'.tally = s.tally ∧ t'.free = s.free := by
  simp only [execNvmSubsystemHealthStatusPoll, State.mi] at h
  injection h with h
  repeat' split at h
  all_goals (subst h; (simp only [and_self, (fact @State.miReply_keep)]))

theorem execControllerHealthStatusPoll_keep (start : Nat) (count : Nat) (clear : Bool) (s : State) {t' : State} (h : execControllerHealthStatusPoll start count clear s = .next t') :
    t'.pending = s.pending ∧ t'.time = s.time ∧ t'.dev = s.dev ∧ t'.fuses = s.fuses ∧ t'.params = s.params ∧ t'.host = s.host ∧ t'.nvm = s.nvm ∧ t'.land = s.land ∧ t'.map = s.map ∧ t'.media = s.media ∧ t'.flash = s.flash ∧ t'.cache = s.cache ∧ t'.plp = s.plp ∧ t'.dram = s.dram ∧ t'.pwr = s.pwr ∧ t'.sec = s.sec ∧ t'.mgmt = s.mgmt ∧ t'.naile = s.naile ∧ t'.nor = s.nor ∧ t'.tally = s.tally ∧ t'.free = s.free := by
  simp only [execControllerHealthStatusPoll, State.mi] at h
  injection h with h
  repeat' split at h
  all_goals (subst h; (simp only [and_self, (fact @State.miReply_keep)]))

theorem execConfigurationGet_keep (id : Byte) (s : State) {t' : State} (h : execConfigurationGet id s = .next t') :
    t'.pending = s.pending ∧ t'.time = s.time ∧ t'.dev = s.dev ∧ t'.fuses = s.fuses ∧ t'.params = s.params ∧ t'.host = s.host ∧ t'.nvm = s.nvm ∧ t'.land = s.land ∧ t'.map = s.map ∧ t'.media = s.media ∧ t'.flash = s.flash ∧ t'.cache = s.cache ∧ t'.plp = s.plp ∧ t'.dram = s.dram ∧ t'.pwr = s.pwr ∧ t'.sec = s.sec ∧ t'.mgmt = s.mgmt ∧ t'.naile = s.naile ∧ t'.nor = s.nor ∧ t'.tally = s.tally ∧ t'.free = s.free := by
  simp only [execConfigurationGet, State.mi] at h
  injection h with h
  repeat' split at h
  all_goals (subst h; (simp only [and_self, (fact @State.miReply_keep)]))

theorem execConfigurationSet_keep (id : Byte) (v : Dword) (s : State) {t' : State} (h : execConfigurationSet id v s = .next t') :
    t'.pending = s.pending ∧ t'.time = s.time ∧ t'.dev = s.dev ∧ t'.fuses = s.fuses ∧ t'.params = s.params ∧ t'.host = s.host ∧ t'.nvm = s.nvm ∧ t'.land = s.land ∧ t'.map = s.map ∧ t'.media = s.media ∧ t'.flash = s.flash ∧ t'.cache = s.cache ∧ t'.plp = s.plp ∧ t'.dram = s.dram ∧ t'.pwr = s.pwr ∧ t'.sec = s.sec ∧ t'.mgmt = s.mgmt ∧ t'.naile = s.naile ∧ t'.nor = s.nor ∧ t'.tally = s.tally ∧ t'.free = s.free := by
  simp only [execConfigurationSet, State.mi] at h
  injection h with h
  repeat' split at h
  all_goals (subst h; (simp only [and_self, (fact @State.miReply_keep)]))

theorem execVpdRead_keep (offset : Nat) (length : Nat) (s : State) {t' : State} (h : execVpdRead offset length s = .next t') :
    t'.pending = s.pending ∧ t'.time = s.time ∧ t'.dev = s.dev ∧ t'.fuses = s.fuses ∧ t'.params = s.params ∧ t'.host = s.host ∧ t'.nvm = s.nvm ∧ t'.land = s.land ∧ t'.map = s.map ∧ t'.media = s.media ∧ t'.flash = s.flash ∧ t'.cache = s.cache ∧ t'.plp = s.plp ∧ t'.dram = s.dram ∧ t'.pwr = s.pwr ∧ t'.sec = s.sec ∧ t'.mgmt = s.mgmt ∧ t'.naile = s.naile ∧ t'.nor = s.nor ∧ t'.tally = s.tally ∧ t'.free = s.free := by
  simp only [execVpdRead, State.mi] at h
  injection h with h
  repeat' split at h
  all_goals (subst h; (simp only [and_self, (fact @State.miReply_keep)]))

theorem execMiAdminTunnel_keep (c : Cntl) (cmd : NvmeCmd) (s : State) {t' : State} (h : execMiAdminTunnel c cmd s = .next t') :
    t'.pending = s.pending ∧ t'.time = s.time ∧ t'.dev = s.dev ∧ t'.fuses = s.fuses ∧ t'.params = s.params ∧ t'.nvm = s.nvm ∧ t'.land = s.land ∧ t'.map = s.map ∧ t'.media = s.media ∧ t'.flash = s.flash ∧ t'.cache = s.cache ∧ t'.plp = s.plp ∧ t'.dram = s.dram ∧ t'.pwr = s.pwr ∧ t'.sec = s.sec ∧ t'.naile = s.naile ∧ t'.nor = s.nor ∧ t'.tally = s.tally ∧ t'.free = s.free := by
  simp only [execMiAdminTunnel, State.mi] at h
  injection h with h
  repeat' split at h
  all_goals (subst h; (simp only [and_self, (fact @State.miReply_keep), (fact @State.tunnelRead_keep)]))

theorem execMiInvalidParameter_keep (opc : Byte) (s : State) {t' : State} (h : execMiInvalidParameter opc s = .next t') :
    t'.pending = s.pending ∧ t'.time = s.time ∧ t'.dev = s.dev ∧ t'.fuses = s.fuses ∧ t'.params = s.params ∧ t'.host = s.host ∧ t'.nvm = s.nvm ∧ t'.land = s.land ∧ t'.map = s.map ∧ t'.media = s.media ∧ t'.flash = s.flash ∧ t'.cache = s.cache ∧ t'.plp = s.plp ∧ t'.dram = s.dram ∧ t'.pwr = s.pwr ∧ t'.sec = s.sec ∧ t'.mgmt = s.mgmt ∧ t'.naile = s.naile ∧ t'.nor = s.nor ∧ t'.tally = s.tally ∧ t'.free = s.free := by
  simp only [execMiInvalidParameter, State.mi] at h
  injection h with h
  repeat' split at h
  all_goals (subst h; (simp only [and_self, (fact @State.miReply_keep)]))

theorem execBasicManagementCommand_keep (offset : Nat) (length : Nat) (s : State) {t' : State} (h : execBasicManagementCommand offset length s = .next t') :
    t'.pending = s.pending ∧ t'.time = s.time ∧ t'.dev = s.dev ∧ t'.fuses = s.fuses ∧ t'.params = s.params ∧ t'.host = s.host ∧ t'.nvm = s.nvm ∧ t'.land = s.land ∧ t'.map = s.map ∧ t'.media = s.media ∧ t'.flash = s.flash ∧ t'.cache = s.cache ∧ t'.plp = s.plp ∧ t'.dram = s.dram ∧ t'.pwr = s.pwr ∧ t'.sec = s.sec ∧ t'.mgmt = s.mgmt ∧ t'.naile = s.naile ∧ t'.nor = s.nor ∧ t'.tally = s.tally ∧ t'.free = s.free := by
  simp only [execBasicManagementCommand] at h
  injection h with h
  repeat' split at h
  all_goals (subst h; (simp only [and_self, (fact @State.miReply_keep)]))

theorem execSmbusArp_keep (addr : BitVec 7) (s : State) {t' : State} (h : execSmbusArp addr s = .next t') :
    t'.pending = s.pending ∧ t'.time = s.time ∧ t'.dev = s.dev ∧ t'.fuses = s.fuses ∧ t'.params = s.params ∧ t'.host = s.host ∧ t'.nvm = s.nvm ∧ t'.land = s.land ∧ t'.map = s.map ∧ t'.media = s.media ∧ t'.flash = s.flash ∧ t'.cache = s.cache ∧ t'.plp = s.plp ∧ t'.dram = s.dram ∧ t'.sec = s.sec ∧ t'.mgmt = s.mgmt ∧ t'.naile = s.naile ∧ t'.nor = s.nor ∧ t'.tally = s.tally ∧ t'.bus = s.bus ∧ t'.free = s.free := by
  simp only [execSmbusArp, State.mi] at h
  injection h with h
  repeat' split at h
  all_goals (subst h; (simp only [and_self]))

theorem execClkCtrlWrite_keep (v : Dword) (s : State) {t' : State} (h : execClkCtrlWrite v s = .next t') :
    t'.pending = s.pending ∧ t'.time = s.time ∧ t'.fuses = s.fuses ∧ t'.params = s.params ∧ t'.host = s.host ∧ t'.nvm = s.nvm ∧ t'.land = s.land ∧ t'.map = s.map ∧ t'.media = s.media ∧ t'.flash = s.flash ∧ t'.cache = s.cache ∧ t'.plp = s.plp ∧ t'.dram = s.dram ∧ t'.pwr = s.pwr ∧ t'.sec = s.sec ∧ t'.mgmt = s.mgmt ∧ t'.naile = s.naile ∧ t'.nor = s.nor ∧ t'.tally = s.tally ∧ t'.bus = s.bus ∧ t'.free = s.free := by
  simp only [execClkCtrlWrite] at h
  injection h with h
  repeat' split at h
  all_goals (subst h; (simp only [and_self]))

theorem execRefclkLoss_keep (s : State) {t' : State} (h : execRefclkLoss s = .next t') :
    t'.pending = s.pending ∧ t'.time = s.time ∧ t'.fuses = s.fuses ∧ t'.params = s.params ∧ t'.nvm = s.nvm ∧ t'.map = s.map ∧ t'.media = s.media ∧ t'.flash = s.flash ∧ t'.cache = s.cache ∧ t'.pwr = s.pwr ∧ t'.sec = s.sec ∧ t'.bus = s.bus ∧ t'.free = s.free := by
  simp only [execRefclkLoss] at h
  injection h with h
  repeat' split at h
  all_goals (subst h; (simp only [and_self, (fact @State.controlledStop_keep), (fact @State.recordHw_keep)]))

theorem execTemperatureSample_keep (c : Int) (s : State) {t' : State} (h : execTemperatureSample c s = .next t') :
    t'.pending = s.pending ∧ t'.time = s.time ∧ t'.fuses = s.fuses ∧ t'.params = s.params ∧ t'.map = s.map ∧ t'.media = s.media ∧ t'.flash = s.flash ∧ t'.cache = s.cache ∧ t'.sec = s.sec ∧ t'.bus = s.bus ∧ t'.free = s.free := by
  simp only [execTemperatureSample] at h
  injection h with h
  repeat' split at h
  all_goals (subst h; (simp only [and_self, (fact @State.controlledStop_keep), (fact @State.recheckPower_keep), (fact @State.recordHw_keep), (fact @State.record_keep)]))

theorem execGovernorTick_keep (mw : Nat) (s : State) {t' : State} (h : execGovernorTick mw s = .next t') :
    t'.pending = s.pending ∧ t'.time = s.time ∧ t'.dev = s.dev ∧ t'.fuses = s.fuses ∧ t'.params = s.params ∧ t'.nvm = s.nvm ∧ t'.map = s.map ∧ t'.media = s.media ∧ t'.flash = s.flash ∧ t'.cache = s.cache ∧ t'.plp = s.plp ∧ t'.dram = s.dram ∧ t'.sec = s.sec ∧ t'.mgmt = s.mgmt ∧ t'.naile = s.naile ∧ t'.nor = s.nor ∧ t'.tally = s.tally ∧ t'.bus = s.bus ∧ t'.free = s.free := by
  simp only [execGovernorTick] at h
  injection h with h
  repeat' split at h
  all_goals (subst h; (simp only [and_self, (fact @State.feedCtxs_keep)]))

theorem execLpoCalibration_keep (s : State) {t' : State} (h : execLpoCalibration s = .next t') :
    t'.pending = s.pending ∧ t'.time = s.time ∧ t'.dev = s.dev ∧ t'.fuses = s.fuses ∧ t'.params = s.params ∧ t'.host = s.host ∧ t'.nvm = s.nvm ∧ t'.land = s.land ∧ t'.map = s.map ∧ t'.media = s.media ∧ t'.flash = s.flash ∧ t'.cache = s.cache ∧ t'.plp = s.plp ∧ t'.dram = s.dram ∧ t'.sec = s.sec ∧ t'.mgmt = s.mgmt ∧ t'.naile = s.naile ∧ t'.nor = s.nor ∧ t'.tally = s.tally ∧ t'.bus = s.bus ∧ t'.free = s.free := by
  simp only [execLpoCalibration] at h
  injection h with h
  repeat' split at h
  all_goals (subst h; (simp only [and_self]))

theorem execPowerStateEntry_keep (s : State) {t' : State} (h : execPowerStateEntry s = .next t') :
    t'.pending = s.pending ∧ t'.time = s.time ∧ t'.fuses = s.fuses ∧ t'.params = s.params ∧ t'.map = s.map ∧ t'.plp = s.plp ∧ t'.free = s.free := by
  simp only [execPowerStateEntry] at h
  injection h with h
  repeat' split at h
  all_goals (subst h; (simp only [and_self, (fact @State.enter_keep), (fact @State.leaveIdle_keep), (fact @State.restLinks_keep)]))

theorem execSmbusAddressMatch_keep (addr : BitVec 7) (w : WakeChecks) (s : State) {t' : State} (h : execSmbusAddressMatch addr w s = .next t') :
    t'.pending = s.pending ∧ t'.time = s.time ∧ t'.fuses = s.fuses ∧ t'.params = s.params ∧ t'.bus = s.bus ∧ t'.free = s.free := by
  simp only [execSmbusAddressMatch] at h
  injection h with h
  repeat' split at h
  all_goals (subst h; (simp only [and_self, (fact @State.fullWake_keep)]))

theorem execSmbusMatchTimeout_keep (s : State) {t' : State} (h : execSmbusMatchTimeout s = .next t') :
    t'.pending = s.pending ∧ t'.time = s.time ∧ t'.dev = s.dev ∧ t'.fuses = s.fuses ∧ t'.params = s.params ∧ t'.host = s.host ∧ t'.nvm = s.nvm ∧ t'.land = s.land ∧ t'.map = s.map ∧ t'.media = s.media ∧ t'.flash = s.flash ∧ t'.cache = s.cache ∧ t'.plp = s.plp ∧ t'.dram = s.dram ∧ t'.sec = s.sec ∧ t'.mgmt = s.mgmt ∧ t'.naile = s.naile ∧ t'.nor = s.nor ∧ t'.tally = s.tally ∧ t'.bus = s.bus ∧ t'.free = s.free := by
  simp only [execSmbusMatchTimeout] at h
  injection h with h
  repeat' split at h
  all_goals (subst h; (simp only [and_self]))

theorem execPatrolWake_keep (w : WakeChecks) (s : State) {t' : State} (h : execPatrolWake w s = .next t') :
    t'.pending = s.pending ∧ t'.time = s.time ∧ t'.fuses = s.fuses ∧ t'.params = s.params ∧ t'.bus = s.bus ∧ t'.free = s.free := by
  simp only [execPatrolWake] at h
  injection h with h
  repeat' split at h
  all_goals (subst h; (simp only [and_self, (fact @State.wakeUp_keep)]))

theorem execPatrolTimeout_keep (s : State) {t' : State} (h : execPatrolTimeout s = .next t') :
    t'.pending = s.pending ∧ t'.time = s.time ∧ t'.fuses = s.fuses ∧ t'.params = s.params ∧ t'.map = s.map ∧ t'.plp = s.plp ∧ t'.free = s.free := by
  simp only [execPatrolTimeout] at h
  injection h with h
  repeat' split at h
  all_goals (subst h; (simp only [and_self, (fact @State.enter_keep)]))

theorem execPwrPadReleaseWrite_keep (v : Dword) (s : State) {t' : State} (h : execPwrPadReleaseWrite v s = .next t') :
    t'.pending = s.pending ∧ t'.time = s.time ∧ t'.fuses = s.fuses ∧ t'.params = s.params ∧ t'.host = s.host ∧ t'.nvm = s.nvm ∧ t'.land = s.land ∧ t'.map = s.map ∧ t'.media = s.media ∧ t'.flash = s.flash ∧ t'.cache = s.cache ∧ t'.plp = s.plp ∧ t'.dram = s.dram ∧ t'.pwr = s.pwr ∧ t'.sec = s.sec ∧ t'.mgmt = s.mgmt ∧ t'.naile = s.naile ∧ t'.nor = s.nor ∧ t'.tally = s.tally ∧ t'.bus = s.bus ∧ t'.free = s.free := by
  simp only [execPwrPadReleaseWrite] at h
  injection h with h
  repeat' split at h
  all_goals (subst h; (simp only [and_self]))

theorem execPowerOnResetAssert_keep (s : State) {t' : State} (h : execPowerOnResetAssert s = .next t') :
    t'.pending = s.pending ∧ t'.fuses = s.fuses ∧ t'.free = s.free := by
  simp only [execPowerOnResetAssert] at h
  injection h with h
  repeat' split at h
  all_goals (subst h; (simp only [and_self, (fact @State.clearUnits_keep)]))

theorem execPowerOnResetRelease_keep (fuseOk : Bool) (o : OptRead) (s : State) {t' : State} (h : execPowerOnResetRelease fuseOk o s = .next t') :
    t'.pending = s.pending ∧ t'.time = s.time ∧ t'.fuses = s.fuses ∧ t'.params = s.params ∧ t'.host = s.host ∧ t'.nvm = s.nvm ∧ t'.land = s.land ∧ t'.map = s.map ∧ t'.media = s.media ∧ t'.flash = s.flash ∧ t'.cache = s.cache ∧ t'.plp = s.plp ∧ t'.dram = s.dram ∧ t'.pwr = s.pwr ∧ t'.sec = s.sec ∧ t'.mgmt = s.mgmt ∧ t'.naile = s.naile ∧ t'.nor = s.nor ∧ t'.tally = s.tally ∧ t'.bus = s.bus ∧ t'.free = s.free := by
  simp only [execPowerOnResetRelease] at h
  injection h with h
  repeat' split at h
  all_goals (subst h; (simp only [and_self, (fact @State.release_keep)]))

theorem execResetNAssert_keep (pulseNs : Option Nat) (s : State) {t' : State} (h : execResetNAssert pulseNs s = .next t') :
    t'.pending = s.pending ∧ t'.fuses = s.fuses := by
  simp only [execResetNAssert] at h
  injection h with h
  repeat' split at h
  all_goals (subst h; (simp only [and_self, (fact @State.pulse_keep), (fact @State.takePin_keep)]))

theorem execResetNRelease_keep (fuseOk : Bool) (o : OptRead) (s : State) {t' : State} (h : execResetNRelease fuseOk o s = .next t') :
    t'.pending = s.pending ∧ t'.time = s.time ∧ t'.fuses = s.fuses ∧ t'.params = s.params ∧ t'.host = s.host ∧ t'.nvm = s.nvm ∧ t'.land = s.land ∧ t'.map = s.map ∧ t'.media = s.media ∧ t'.flash = s.flash ∧ t'.cache = s.cache ∧ t'.plp = s.plp ∧ t'.dram = s.dram ∧ t'.pwr = s.pwr ∧ t'.sec = s.sec ∧ t'.mgmt = s.mgmt ∧ t'.naile = s.naile ∧ t'.nor = s.nor ∧ t'.tally = s.tally ∧ t'.bus = s.bus ∧ t'.free = s.free := by
  simp only [execResetNRelease] at h
  injection h with h
  repeat' split at h
  all_goals (subst h; (simp only [and_self, (fact @State.release_keep)]))

theorem execPllLock_keep (r : RomReads) (s : State) {t' : State} (h : execPllLock r s = .next t') :
    t'.pending = s.pending ∧ t'.time = s.time ∧ t'.cache = s.cache ∧ t'.dram = s.dram ∧ t'.pwr = s.pwr ∧ t'.bus = s.bus ∧ t'.free = s.free := by
  simp only [execPllLock] at h
  injection h with h
  repeat' split at h
  all_goals (subst h; (simp only [and_self, (fact @State.findBad_keep), (fact @State.romBoot_keep)]))

theorem execStartupComplete_keep (s : State) {t' : State} (h : execStartupComplete s = .next t') :
    t'.pending = s.pending ∧ t'.time = s.time ∧ t'.fuses = s.fuses ∧ t'.params = s.params ∧ t'.map = s.map ∧ t'.dram = s.dram ∧ t'.sec = s.sec ∧ t'.nor = s.nor ∧ t'.free = s.free := by
  simp only [execStartupComplete] at h
  injection h with h
  repeat' split at h
  all_goals (subst h; (simp only [and_self, (fact @State.recheckPlp_keep), (fact @State.recheckPower_keep), (fact @State.recheckSpare_keep)]))

theorem execGetVersion_keep (k : SpdmConn) (s : State) {t' : State} (h : execGetVersion k s = .next t') :
    t'.pending = s.pending ∧ t'.time = s.time ∧ t'.dev = s.dev ∧ t'.fuses = s.fuses ∧ t'.params = s.params ∧ t'.host = s.host ∧ t'.nvm = s.nvm ∧ t'.land = s.land ∧ t'.map = s.map ∧ t'.media = s.media ∧ t'.flash = s.flash ∧ t'.cache = s.cache ∧ t'.plp = s.plp ∧ t'.dram = s.dram ∧ t'.pwr = s.pwr ∧ t'.sec = s.sec ∧ t'.mgmt = s.mgmt ∧ t'.naile = s.naile ∧ t'.nor = s.nor ∧ t'.tally = s.tally ∧ t'.free = s.free := by
  simp only [execGetVersion] at h
  injection h with h
  repeat' split at h
  all_goals (subst h; (simp only [and_self, (fact @State.setConn_keep)]))

theorem execGetCapabilities_keep (r : CapabilitiesReq) (s : State) {t' : State} (h : execGetCapabilities r s = .next t') :
    t'.pending = s.pending ∧ t'.time = s.time ∧ t'.dev = s.dev ∧ t'.fuses = s.fuses ∧ t'.params = s.params ∧ t'.host = s.host ∧ t'.nvm = s.nvm ∧ t'.land = s.land ∧ t'.map = s.map ∧ t'.media = s.media ∧ t'.flash = s.flash ∧ t'.cache = s.cache ∧ t'.plp = s.plp ∧ t'.dram = s.dram ∧ t'.pwr = s.pwr ∧ t'.sec = s.sec ∧ t'.mgmt = s.mgmt ∧ t'.naile = s.naile ∧ t'.nor = s.nor ∧ t'.tally = s.tally ∧ t'.free = s.free := by
  simp only [execGetCapabilities] at h
  injection h with h
  repeat' split at h
  all_goals (subst h; (simp only [and_self, (fact @State.setConn_keep)]))

theorem execNegotiateAlgorithms_keep (k : SpdmConn) (algsOk : Bool) (s : State) {t' : State} (h : execNegotiateAlgorithms k algsOk s = .next t') :
    t'.pending = s.pending ∧ t'.time = s.time ∧ t'.dev = s.dev ∧ t'.fuses = s.fuses ∧ t'.params = s.params ∧ t'.host = s.host ∧ t'.nvm = s.nvm ∧ t'.land = s.land ∧ t'.map = s.map ∧ t'.media = s.media ∧ t'.flash = s.flash ∧ t'.cache = s.cache ∧ t'.plp = s.plp ∧ t'.dram = s.dram ∧ t'.pwr = s.pwr ∧ t'.sec = s.sec ∧ t'.mgmt = s.mgmt ∧ t'.naile = s.naile ∧ t'.nor = s.nor ∧ t'.tally = s.tally ∧ t'.free = s.free := by
  simp only [execNegotiateAlgorithms] at h
  injection h with h
  repeat' split at h
  all_goals (subst h; (simp only [and_self, (fact @State.setConn_keep)]))

theorem execGetDigests_keep (k : SpdmConn) (s : State) {t' : State} (h : execGetDigests k s = .next t') :
    t'.pending = s.pending ∧ t'.time = s.time ∧ t'.dev = s.dev ∧ t'.fuses = s.fuses ∧ t'.params = s.params ∧ t'.host = s.host ∧ t'.nvm = s.nvm ∧ t'.land = s.land ∧ t'.map = s.map ∧ t'.media = s.media ∧ t'.flash = s.flash ∧ t'.cache = s.cache ∧ t'.plp = s.plp ∧ t'.dram = s.dram ∧ t'.pwr = s.pwr ∧ t'.sec = s.sec ∧ t'.mgmt = s.mgmt ∧ t'.naile = s.naile ∧ t'.nor = s.nor ∧ t'.tally = s.tally ∧ t'.free = s.free := by
  simp only [execGetDigests, State.negotiated] at h
  injection h with h
  repeat' split at h
  all_goals (subst h; (simp only [and_self, (fact @State.setConn_keep)]))

theorem execGetCertificate_keep (k : SpdmConn) (slot : Nat) (offset : Nat) (length : Nat) (s : State) {t' : State} (h : execGetCertificate k slot offset length s = .next t') :
    t'.pending = s.pending ∧ t'.time = s.time ∧ t'.dev = s.dev ∧ t'.fuses = s.fuses ∧ t'.params = s.params ∧ t'.host = s.host ∧ t'.nvm = s.nvm ∧ t'.land = s.land ∧ t'.map = s.map ∧ t'.media = s.media ∧ t'.flash = s.flash ∧ t'.cache = s.cache ∧ t'.plp = s.plp ∧ t'.dram = s.dram ∧ t'.pwr = s.pwr ∧ t'.sec = s.sec ∧ t'.mgmt = s.mgmt ∧ t'.naile = s.naile ∧ t'.nor = s.nor ∧ t'.tally = s.tally ∧ t'.free = s.free := by
  simp only [execGetCertificate, State.negotiated] at h
  injection h with h
  repeat' split at h
  all_goals (subst h; (simp only [and_self, (fact @State.setConn_keep)]))

theorem execChallenge_keep (k : SpdmConn) (slot : Nat) (transcript : Nat) (s : State) {t' : State} (h : execChallenge k slot transcript s = .next t') :
    t'.pending = s.pending ∧ t'.time = s.time ∧ t'.dev = s.dev ∧ t'.fuses = s.fuses ∧ t'.params = s.params ∧ t'.host = s.host ∧ t'.nvm = s.nvm ∧ t'.land = s.land ∧ t'.map = s.map ∧ t'.media = s.media ∧ t'.flash = s.flash ∧ t'.cache = s.cache ∧ t'.plp = s.plp ∧ t'.dram = s.dram ∧ t'.pwr = s.pwr ∧ t'.sec = s.sec ∧ t'.mgmt = s.mgmt ∧ t'.naile = s.naile ∧ t'.nor = s.nor ∧ t'.tally = s.tally ∧ t'.free = s.free := by
  simp only [execChallenge, State.negotiated] at h
  injection h with h
  repeat' split at h
  all_goals (subst h; (simp only [and_self, (fact @State.setConn_keep)]))

theorem execGetMeasurements_keep (k : SpdmConn) (index : Nat) (signed : Bool) (transcript : Nat) (s : State) {t' : State} (h : execGetMeasurements k index signed transcript s = .next t') :
    t'.pending = s.pending ∧ t'.time = s.time ∧ t'.dev = s.dev ∧ t'.fuses = s.fuses ∧ t'.params = s.params ∧ t'.host = s.host ∧ t'.nvm = s.nvm ∧ t'.land = s.land ∧ t'.map = s.map ∧ t'.media = s.media ∧ t'.flash = s.flash ∧ t'.cache = s.cache ∧ t'.plp = s.plp ∧ t'.dram = s.dram ∧ t'.pwr = s.pwr ∧ t'.sec = s.sec ∧ t'.mgmt = s.mgmt ∧ t'.naile = s.naile ∧ t'.nor = s.nor ∧ t'.tally = s.tally ∧ t'.free = s.free := by
  simp only [execGetMeasurements, State.negotiated] at h
  injection h with h
  repeat' split at h
  all_goals (subst h; (simp only [and_self, (fact @State.setConn_keep)]))

theorem execGetLmsCert_keep (k : SpdmConn) (s : State) {t' : State} (h : execGetLmsCert k s = .next t') :
    t'.pending = s.pending ∧ t'.time = s.time ∧ t'.dev = s.dev ∧ t'.fuses = s.fuses ∧ t'.params = s.params ∧ t'.host = s.host ∧ t'.nvm = s.nvm ∧ t'.land = s.land ∧ t'.map = s.map ∧ t'.media = s.media ∧ t'.flash = s.flash ∧ t'.cache = s.cache ∧ t'.plp = s.plp ∧ t'.dram = s.dram ∧ t'.pwr = s.pwr ∧ t'.sec = s.sec ∧ t'.mgmt = s.mgmt ∧ t'.naile = s.naile ∧ t'.nor = s.nor ∧ t'.tally = s.tally ∧ t'.free = s.free := by
  simp only [execGetLmsCert, State.negotiated] at h
  injection h with h
  repeat' split at h
  all_goals (subst h; (simp only [and_self, (fact @State.setConn_keep)]))

theorem execGetLmsSig_keep (k : SpdmConn) (s : State) {t' : State} (h : execGetLmsSig k s = .next t') : t'.pending = s.pending ∧ t'.time = s.time ∧ t'.dev = s.dev ∧ t'.fuses = s.fuses ∧ t'.params = s.params ∧ t'.host = s.host ∧ t'.nvm = s.nvm ∧ t'.land = s.land ∧ t'.map = s.map ∧ t'.media = s.media ∧ t'.flash = s.flash ∧ t'.cache = s.cache ∧ t'.plp = s.plp ∧ t'.dram = s.dram ∧ t'.pwr = s.pwr ∧ t'.nor = s.nor ∧ t'.free = s.free := by
  simp only [execGetLmsSig, State.negotiated, State.signHss] at h
  injection h with h
  repeat' split at h
  all_goals (subst h; simp only [(fact @State.setConn_keep), (fact @State.noteLmsStop_keep), and_self])

theorem execSpdmUnsupportedRequest_keep (k : SpdmConn) (code : Byte) (s : State) {t' : State} (h : execSpdmUnsupportedRequest k code s = .next t') :
    t'.pending = s.pending ∧ t'.time = s.time ∧ t'.dev = s.dev ∧ t'.fuses = s.fuses ∧ t'.params = s.params ∧ t'.host = s.host ∧ t'.nvm = s.nvm ∧ t'.land = s.land ∧ t'.map = s.map ∧ t'.media = s.media ∧ t'.flash = s.flash ∧ t'.cache = s.cache ∧ t'.plp = s.plp ∧ t'.dram = s.dram ∧ t'.pwr = s.pwr ∧ t'.sec = s.sec ∧ t'.mgmt = s.mgmt ∧ t'.naile = s.naile ∧ t'.nor = s.nor ∧ t'.tally = s.tally ∧ t'.free = s.free := by
  simp only [execSpdmUnsupportedRequest] at h
  injection h with h
  repeat' split at h
  all_goals (subst h; (simp only [and_self, (fact @State.setConn_keep)]))

theorem execTallyRecord_keep (x : TallyIn) (s : State) {t' : State} (h : execTallyRecord x s = .next t') :
    t'.pending = s.pending ∧ t'.time = s.time ∧ t'.fuses = s.fuses ∧ t'.params = s.params ∧ t'.host = s.host ∧ t'.nvm = s.nvm ∧ t'.land = s.land ∧ t'.map = s.map ∧ t'.media = s.media ∧ t'.flash = s.flash ∧ t'.cache = s.cache ∧ t'.plp = s.plp ∧ t'.dram = s.dram ∧ t'.pwr = s.pwr ∧ t'.sec = s.sec ∧ t'.bus = s.bus ∧ t'.free = s.free := by
  simp only [execTallyRecord] at h
  injection h with h
  repeat' split at h
  all_goals (subst h; (simp only [and_self, (fact @State.submit_keep)]))

theorem execTallyCodeQuiet_keep (code : Nat) (s : State) {t' : State} (h : execTallyCodeQuiet code s = .next t') : t'.pending = s.pending ∧ t'.time = s.time ∧ t'.fuses = s.fuses ∧ t'.params = s.params ∧ t'.host = s.host ∧ t'.nvm = s.nvm ∧ t'.land = s.land ∧ t'.map = s.map ∧ t'.media = s.media ∧ t'.flash = s.flash ∧ t'.cache = s.cache ∧ t'.plp = s.plp ∧ t'.dram = s.dram ∧ t'.pwr = s.pwr ∧ t'.sec = s.sec ∧ t'.bus = s.bus ∧ t'.free = s.free := by
  simp only [execTallyCodeQuiet] at h
  injection h with h
  repeat' split at h
  all_goals (subst h; simp only [(fact @State.recordHw_keep), and_self])

theorem execTallyTierCopy_keep (s : State) {t' : State} (h : execTallyTierCopy s = .next t') :
    t'.pending = s.pending ∧ t'.time = s.time ∧ t'.dev = s.dev ∧ t'.fuses = s.fuses ∧ t'.params = s.params ∧ t'.host = s.host ∧ t'.nvm = s.nvm ∧ t'.land = s.land ∧ t'.map = s.map ∧ t'.media = s.media ∧ t'.flash = s.flash ∧ t'.cache = s.cache ∧ t'.plp = s.plp ∧ t'.dram = s.dram ∧ t'.pwr = s.pwr ∧ t'.sec = s.sec ∧ t'.mgmt = s.mgmt ∧ t'.naile = s.naile ∧ t'.nor = s.nor ∧ t'.bus = s.bus ∧ t'.free = s.free := by
  simp only [execTallyTierCopy] at h
  injection h with h
  repeat' split at h
  all_goals (subst h; (simp only [and_self]))


end Sys2Proof.Machine
end

