-- ==== Sys2Proof/Laws/Sparse.lean ====
section
/-! SUPPORT. The laws of sparse tables: what a read gives after each operation, and that every operation keeps the keys strictly
rising. -/

namespace Sys2Proof.Machine

variable {α : Type}

@[simp] theorem sget_nil (k : Nat) : sget ([] : Sparse α) k = none := rfl

theorem sget_cons (k k' : Nat) (v : α) (m : Sparse α) :
    sget ((k', v) :: m) k = if k' = k then some v else sget m k := rfl

theorem sorted_nil : sorted ([] : Sparse α) := List.Pairwise.nil

theorem sorted_cons {e : Nat × α} {m : Sparse α} :
    sorted (e :: m) ↔ (∀ x ∈ m, e.1 < x.1) ∧ sorted m := by
  simp [sorted, List.pairwise_cons]

/-- The table that a write leaves lists only the old keys and the new one. -/
theorem mem_sput {k : Nat} {v : α} {m : Sparse α} {x : Nat × α} (h : x ∈ sput k v m) : x = (k, v) ∨ x ∈ m := by
  induction m with
  | nil => left; simpa [sput] using h
  | cons e m ih =>
    obtain ⟨k', v'⟩ := e
    simp only [sput] at h
    split at h
    · simpa using h
    · split at h
      · rcases List.mem_cons.1 h with h | h
        · exact .inl h
        · exact .inr (List.mem_cons_of_mem _ h)
      · rcases List.mem_cons.1 h with h | h
        · exact .inr (h ▸ List.mem_cons_self)
        · exact (ih h).imp id (List.mem_cons_of_mem _)

theorem sorted_sput {k : Nat} {v : α} {m : Sparse α} (h : sorted m) : sorted (sput k v m) := by
  induction m with
  | nil => simp [sput, sorted]
  | cons e m ih =>
    obtain ⟨k', v'⟩ := e
    obtain ⟨h1, h2⟩ := sorted_cons.1 h
    simp only [sput]
    split
    · refine sorted_cons.2 ⟨?_, h⟩
      intro x hx
      rcases List.mem_cons.1 hx with rfl | hx
      · simpa
      · exact Nat.lt_trans (by assumption) (h1 x hx)
    · split
      · subst_vars
        exact sorted_cons.2 ⟨h1, h2⟩
      · refine sorted_cons.2 ⟨?_, ih h2⟩
        intro x hx
        rcases mem_sput hx with rfl | hx
        · simp; omega
        · exact h1 x hx

theorem sorted_filter {m : Sparse α} (p : Nat × α → Bool) (h : sorted m) : sorted (m.filter p) := by
  induction m with
  | nil => exact sorted_nil
  | cons e m ih =>
    obtain ⟨h1, h2⟩ := sorted_cons.1 h
    rw [List.filter_cons]
    split
    · exact sorted_cons.2 ⟨fun x hx => h1 x (List.mem_filter.1 hx).1, ih h2⟩
    · exact ih h2

theorem sorted_sdel {k : Nat} {m : Sparse α} (h : sorted m) : sorted (sdel k m) := sorted_filter _ h

theorem sorted_sputD [DecidableEq α] {d : α} {k : Nat} {v : α} {m : Sparse α} (h : sorted m) : sorted (sputD d k v m) := by
  unfold sputD
  split
  · exact sorted_sdel h
  · exact sorted_sput h

theorem sorted_map_keys {β : Type} {m : Sparse α} (f : Nat × α → β) (h : sorted m) : sorted (m.map (fun e => (e.1, f e))) := by
  simpa [sorted, List.map_map, Function.comp_def] using h

theorem sorted_smap {f : Nat → α → α} {m : Sparse α} (h : sorted m) : sorted (smap f m) :=
  sorted_map_keys (fun e => f e.1 e.2) h

theorem sorted_smod {k : Nat} {f : α → α} {m : Sparse α} (h : sorted m) : sorted (smod k f m) := by
  have : smod k f m = m.map (fun e => (e.1, if e.1 = k then f e.2 else e.2)) := by
    unfold smod
    congr 1
    funext e
    split <;> rfl
  rw [this]
  exact sorted_map_keys (fun e => if e.1 = k then f e.2 else e.2) h

theorem sorted_skeep {p : Nat → α → Bool} {m : Sparse α} (h : sorted m) : sorted (skeep p m) := sorted_filter _ h

/-- A read of the written key gives the written value. -/
@[simp] theorem sget_sput_same (k : Nat) (v : α) (m : Sparse α) : sget (sput k v m) k = some v := by
  induction m with
  | nil => simp [sput, sget]
  | cons e m ih =>
    obtain ⟨k', v'⟩ := e
    simp only [sput]
    split
    · simp [sget]
    · split
      · simp [sget]
      · rw [sget_cons, if_neg (by assumption), ih]

/-- A write leaves every other key alone. -/
theorem sget_sput_other {k j : Nat} (h : j ≠ k) (v : α) (m : Sparse α) : sget (sput k v m) j = sget m j := by
  induction m with
  | nil => simp [sput, sget, Ne.symm h]
  | cons e m ih =>
    obtain ⟨k', v'⟩ := e
    simp only [sput]
    split
    · simp [sget, Ne.symm h]
    · split
      · subst_vars; simp [sget, Ne.symm h]
      · simp [sget, ih]

/-- A key that has been dropped is not listed. -/
@[simp] theorem sget_sdel_same (k : Nat) (m : Sparse α) : sget (sdel k m) k = none := by
  induction m with
  | nil => rfl
  | cons e m ih =>
    obtain ⟨k', v'⟩ := e
    by_cases h : k' = k
    · subst h; simpa [sdel] using ih
    · have : sdel k ((k', v') :: m) = (k', v') :: sdel k m := by simp [sdel, h]
      rw [this, sget_cons, if_neg h, ih]

theorem sget_sdel_other {k j : Nat} (h : j ≠ k) (m : Sparse α) : sget (sdel k m) j = sget m j := by
  induction m with
  | nil => rfl
  | cons e m ih =>
    obtain ⟨k', v'⟩ := e
    by_cases hk : k' = k
    · have : sdel k ((k', v') :: m) = sdel k m := by simp [sdel, hk]
      rw [this, ih, sget_cons, if_neg]
      exact fun he => h (he.symm.trans hk)
    · have : sdel k ((k', v') :: m) = (k', v') :: sdel k m := by simp [sdel, hk]
      rw [this, sget_cons, sget_cons, ih]

/-- Reading with the default gives what was written, also where the value is the default. -/
theorem getD_sputD_same [DecidableEq α] (d : α) (k : Nat) (v : α) (m : Sparse α) :
    (sget (sputD d k v m) k).getD d = v := by
  unfold sputD
  split
  · next h => simp [h]
  · simp

theorem getD_sputD_other [DecidableEq α] {k j : Nat} (h : j ≠ k) (d v : α) (m : Sparse α) :
    (sget (sputD d k v m) j).getD d = (sget m j).getD d := by
  unfold sputD
  split
  · rw [sget_sdel_other h]
  · rw [sget_sput_other h]

theorem sget_smod_same (k : Nat) (f : α → α) (m : Sparse α) : sget (smod k f m) k = (sget m k).map f := by
  induction m with
  | nil => rfl
  | cons e m ih =>
    obtain ⟨k', v'⟩ := e
    simp only [smod, List.map_cons] at ih ⊢
    by_cases h : k' = k <;> simp [sget_cons, h, ih]

theorem sget_smod_other {k j : Nat} (h : j ≠ k) (f : α → α) (m : Sparse α) : sget (smod k f m) j = sget m j := by
  induction m with
  | nil => rfl
  | cons e m ih =>
    obtain ⟨k', v'⟩ := e
    simp only [smod, List.map_cons] at ih ⊢
    by_cases hk : k' = k
    · subst hk; simp [sget_cons, Ne.symm h, ih]
    · simp [sget_cons, hk, ih]

/-- No entry equal to what an unlisted key reads as: kept by a write of another value. -/
theorem canonical_sput {d : α} {k : Nat} {v : α} {m : Sparse α} (h : ∀ e ∈ m, e.2 ≠ d) (hv : v ≠ d) : ∀ e ∈ sput k v m, e.2 ≠ d := by
  intro e he
  rcases mem_sput he with rfl | he
  · exact hv
  · exact h e he

/-- No entry equal to what an unlisted key reads as: kept by a write that drops such an entry. -/
theorem canonical_sputD [DecidableEq α] {d : α} {k : Nat} {v : α} {m : Sparse α} (h : ∀ e ∈ m, e.2 ≠ d) :
    ∀ e ∈ sputD d k v m, e.2 ≠ d := by
  unfold sputD
  split
  · intro e he
    exact h e (List.mem_filter.1 he).1
  · next hv =>
    intro e he
    rcases mem_sput he with rfl | he
    · exact hv
    · exact h e he

end Sys2Proof.Machine
end

