-- ==== Sys2Proof/Laws/Memory.lean ====
section
/-! SUPPORT. The line memories keep their canonical form: each operation on Landing and on DRAM leaves the listed lines with strictly
rising numbers, and lists no line of DRAM that equals what an unlisted one reads as (04 R107, R108; 11 R331). -/

namespace Sys2Proof.Machine

/-- A fold of writes keeps the keys rising. -/
theorem sorted_foldl {α β : Type} {f : Sparse α → β → Sparse α} (h : ∀ m x, sorted m → sorted (f m x)) (l : List β) {m : Sparse α}
    (hm : sorted m) : sorted (l.foldl f m) := by
  induction l generalizing m with
  | nil => exact hm
  | cons x l ih => exact ih (h m x hm)

/-- A fold of writes keeps what each write keeps. -/
theorem canonical_foldl {α β : Type} {d : α} {f : Sparse α → β → Sparse α}
    (h : ∀ m x, (∀ e ∈ m, e.2 ≠ d) → ∀ e ∈ f m x, e.2 ≠ d) (l : List β) {m : Sparse α} (hm : ∀ e ∈ m, e.2 ≠ d) :
    ∀ e ∈ l.foldl f m, e.2 ≠ d := by
  induction l generalizing m with
  | nil => exact hm
  | cons x l ih => exact ih (h m x hm)

theorem LandS_setLine_sorted {l : LandS} (c n : Nat) (v : Line) (b : Bool) (h : sorted l.lines) : sorted (l.setLine c n v b).lines :=
  sorted_sput h

theorem LandS_setBlockMarked_sorted {l : LandS} (c : Nat) (b : Block) (k : Nat → Bool) (h : sorted l.lines) :
    sorted (l.setBlockMarked c b k).lines := by
  unfold LandS.setBlockMarked
  generalize (blockLines b).zipIdx = z
  exact sorted_foldl (fun _ _ hm => sorted_sput hm) z h

theorem LandS_setBlock_sorted {l : LandS} (c : Nat) (b : Block) (h : sorted l.lines) : sorted (l.setBlock c b).lines :=
  LandS_setBlockMarked_sorted c b _ h

theorem LandS_setBlocks_sorted {l : LandS} (cs : List Nat) (bs : List Block) (h : sorted l.lines) :
    sorted (l.setBlocks cs bs).lines := by
  unfold LandS.setBlocks
  generalize cs.zip bs = z
  induction z generalizing l with
  | nil => exact h
  | cons x z ih =>
    rw [List.foldl_cons]
    exact ih (LandS_setBlock_sorted x.1 x.2 h)

theorem LandS_free_sorted {l : LandS} (u : CordUser) (h : sorted l.lines) : sorted (l.free u).lines := sorted_filter _ h

theorem LandS_freeSome_sorted {l : LandS} (mine : CordGrant → Bool) (cs : List Nat) (h : sorted l.lines) :
    sorted (l.freeSome mine cs).lines := sorted_filter _ h

theorem LandS_flipLine_sorted {l : LandS} (c n : Nat) (b : Bool) (h : sorted l.lines) : sorted (l.flipLine c n b).lines := by
  have := sorted_smod (k := c * 64 + n) (f := fun (x : LandLine) => { x with parity := x.parity ^^^ 1 }) h
  simpa only [LandS.flipLine] using this

/-- A line as a writer leaves it is seen as written: its parity is good (04 R132). -/
@[simp] theorem LandLine_view_written (v : Line) (b : Bool) : (LandLine.written v b).view = (v, b) := by
  simp [LandLine.view, LandLine.written, LandLine.poisoned]

/-- A line that is written reads as written; every other line reads as before. -/
theorem LandS_line_setLine (l : LandS) (c n : Nat) (v : Line) (b : Bool) : (l.setLine c n v b).line c n = (v, b) := by
  simp [LandS.line, LandS.setLine]

theorem LandS_line_setLine_other (l : LandS) {c n c' n' : Nat} (v : Line) (b : Bool) (h : c' * 64 + n' ≠ c * 64 + n) :
    (l.setLine c n v b).line c' n' = l.line c' n' := by
  simp [LandS.line, LandS.setLine, sget_sput_other h]

/-- What a descriptor does to Landing and to DRAM: the lines written into keep the form. -/
theorem State.moveDesc_land_sorted {s : State} (d : DmaDesc) (forward : Bool) (h : sorted s.land.lines) :
    sorted (s.moveDesc d forward).land.lines := by
  unfold State.moveDesc State.draw
  dsimp -zeta only
  extract_lets l s1
  have e : s1.land.lines = s.land.lines := by
    simp only [s1]
    repeat' split
    all_goals rfl
  clear_value s1
  repeat' split
  all_goals first | exact sorted_foldl (fun _ _ hm => sorted_sput hm) _ (e ▸ h) | exact (e ▸ h)

/-- What a descriptor writes before it writes DRAM leaves DRAM alone. -/
theorem State.moveDesc_dram {s : State} (d : DmaDesc) (forward : Bool) (P : List (Nat × (Line × Bool)) → Prop) (h : P s.dram.lines)
    (hs : ∀ m, P m → ∀ n v, P (sputD (0, false) n v m)) : P (s.moveDesc d forward).dram.lines := by
  unfold State.moveDesc State.draw
  dsimp -zeta only
  extract_lets l s1
  have e : s1.dram = s.dram := by
    simp only [s1]
    repeat' split
    all_goals rfl
  clear_value s1
  have f : ∀ (l : List Nat) (g : Nat → Line × Bool) (m : List (Nat × (Line × Bool))), P m → P (l.foldl (fun m n => sputD (0, false) n (g n) m) m) := by
    intro l g
    induction l with
    | nil => exact fun m hm => hm
    | cons x l ih => exact fun m hm => ih _ (hs _ hm _ _)
  repeat' split
  all_goals first | exact f _ _ _ (e ▸ h) | exact (e ▸ h)

theorem State.moveDesc_dram_sorted {s : State} (d : DmaDesc) (forward : Bool) (h : sorted s.dram.lines) :
    sorted (s.moveDesc d forward).dram.lines :=
  State.moveDesc_dram d forward sorted h fun _ hm _ _ => sorted_sputD hm

theorem State.moveDesc_dram_canonical {s : State} (d : DmaDesc) (forward : Bool) (h : ∀ e ∈ s.dram.lines, e.2 ≠ (0, false)) :
    ∀ e ∈ (s.moveDesc d forward).dram.lines, e.2 ≠ (0, false) :=
  State.moveDesc_dram d forward (fun l => ∀ e ∈ l, e.2 ≠ (0, false)) h fun _ hm _ _ => canonical_sputD hm

/-- A line that is lost, and one that a wrong correction leaves, keep the form (11 R332, R333). -/
theorem State_dramLost_dram_sorted {s : State} (n : Nat) (h : sorted s.dram.lines) : sorted (s.dramLost n).dram.lines := by
  have e : ∀ a b c d, (s.recordHw srcDram sevError 0x1003 a b c d).dram = s.dram := fun a b c d => by
    simp only [(fact @State.recordHw_keep)]
  unfold State.dramLost
  dsimp only
  simp only [(fact @State.loseLine_keep)]
  split
  · simpa only [e] using h
  · exact sorted_sput (by simpa only [e] using h)

theorem State_dramLost_dram_canonical {s : State} (n : Nat) (h : ∀ e ∈ s.dram.lines, e.2 ≠ (0, false)) :
    ∀ e ∈ (s.dramLost n).dram.lines, e.2 ≠ (0, false) := by
  have e : ∀ a b c d, (s.recordHw srcDram sevError 0x1003 a b c d).dram = s.dram := fun a b c d => by
    simp only [(fact @State.recordHw_keep)]
  unfold State.dramLost
  dsimp only
  simp only [(fact @State.loseLine_keep)]
  split
  · simpa only [e] using h
  · exact canonical_sput (by simpa only [e] using h) (by simp)

theorem State_spoilLine_dram_sorted {s : State} (n : Nat) (h : sorted s.dram.lines) : sorted (s.spoilLine n).dram.lines := by
  unfold State.spoilLine State.draw
  dsimp only
  split
  · exact h
  · exact sorted_sputD h

theorem State_spoilLine_dram_canonical {s : State} (n : Nat) (h : ∀ e ∈ s.dram.lines, e.2 ≠ (0, false)) :
    ∀ e ∈ (s.spoilLine n).dram.lines, e.2 ≠ (0, false) := by
  unfold State.spoilLine State.draw
  dsimp only
  split
  · exact h
  · exact canonical_sputD h

end Sys2Proof.Machine
end

