-- ==== Sys2Proof/Laws/Ready.lean ====
section
/-! SUPPORT. What the wrappers of the commands do with a command that is ready: they run it. -/

namespace Sys2Proof.Machine

/-- An accepted admin command that moves no data runs. -/
theorem State.admin_ready {s : State} {tag : Nat} {e : TagE} (h : s.adminReady tag e) (hx : (adminXfer e.cmd).isNone = true)
    (run : State → TagE → State) : s.admin tag run = run s e := by
  obtain ⟨h1, h2, h3, h4, h5⟩ := h
  simp [State.admin, State.adminGate, State.withData, h1, h2, h3, h4, h5, hx]

/-- An accepted admin command that moves data runs once it holds its cords and has fetched what it takes. -/
theorem State.admin_data {s : State} {tag : Nat} {e : TagE} (h : s.adminData tag e) (run : State → TagE → State) :
    s.admin tag run = run (s.adminTaken tag e) e := by
  obtain ⟨⟨h1, h2, h3, h4, h5⟩, h6, h7, h8⟩ := h
  simp [State.admin, State.adminGate, State.withData, h1, h2, h3, h4, h5, h6, h7, h8]

/-- An accepted command of a PF that moves no data runs. -/
theorem State.adminPf_ready {s : State} {tag : Nat} {e : TagE} (h : s.adminReady tag e) (hp : e.cntl.isPF = true)
    (hx : (adminXfer e.cmd).isNone = true) (run : State → TagE → State) : s.adminPf tag run = run s e := by
  obtain ⟨h1, h2, h3, h4, h5⟩ := h
  simp [State.adminPf, State.adminGate, State.withData, h1, h2, h3, h4, h5, hx, hp]

/-- An accepted command of a PF that moves data runs once it holds its cords and has fetched what it takes. -/
theorem State.adminPf_data {s : State} {tag : Nat} {e : TagE} (h : s.adminData tag e) (hp : e.cntl.isPF = true)
    (run : State → TagE → State) : s.adminPf tag run = run (s.adminTaken tag e) e := by
  obtain ⟨⟨h1, h2, h3, h4, h5⟩, h6, h7, h8⟩ := h
  simp [State.adminPf, State.adminGate, State.withData, h1, h2, h3, h4, h5, h6, h7, h8, hp]

/-- A Set Features of a feature that is there and moves no data runs, and the power state is chosen again. -/
theorem State.setFeature_ready {s : State} {tag : Nat} {e : TagE} {fid : Byte} {v nsid : Dword} {d : BitVec 128}
    (h : s.setReady tag e fid v nsid d) (hx : (adminXfer e.cmd).isNone = true) (hf : s.featureThere fid.toNat = true)
    (run : State → TagE → Dword → Dword → BitVec 128 → State) :
    s.setFeature tag fid.toNat run = (run s e v nsid d).recheckPower := by
  rw [State.setFeature, State.admin_ready h.1 hx, h.2]
  simp [hf]

/-- An I/O command that dispatch has begun runs. -/
theorem State.io_ready {s : State} {tag : Nat} {e : TagE} (h : s.ioReady tag e) (run : State → TagE → State) :
    s.io tag run = run s e := by
  obtain ⟨h1, h2, h3, h4⟩ := h
  simp [State.io, h1, h2, h3, h4]

/-- A command runs on a namespace that it may use. -/
theorem State.onNs_ready {s : State} {e : TagE} {nsid : Dword} {x : NsS} {a : Access} (h : s.nsReady e nsid x a) (tag : Nat)
    (run : NsS → State) : s.onNs tag e nsid a run = run x := by
  obtain ⟨h1, h2, h3, h4, h5⟩ := h
  simp only [State.onNs, h1, h2, h3, h4, h5]
  rfl

/-- A Naile request that the port takes is executed. -/
theorem State.request_takes {s : State} {f : Frame} {tx : Tx} (h : s.takes f tx) (i : Instr) (run : State → State) :
    s.request i f tx run = run s.acceptFrame := by
  obtain ⟨h1, h2, h3, h4, h5, h6⟩ := h
  simp [State.request, State.runRequest, h1, h2, h3, h4, h5, h6]

end Sys2Proof.Machine
end

