-- ==== Sys2Proof/Laws/State.lean ====
section
/-! SUPPORT. What each update of a part of State leaves alone, one lemma for each field, and what a read gives after a write of the same
part. -/

namespace Sys2Proof.Machine

/-! `HostS.setFunc` -/

@[simp] theorem HostS_setFunc_port0 (x : HostS) (c : Nat) (f : FuncS) : (x.setFunc c f).port0 = x.port0 := rfl
@[simp] theorem HostS_setFunc_port1 (x : HostS) (c : Nat) (f : FuncS) : (x.setFunc c f).port1 = x.port1 := rfl
@[simp] theorem HostS_setFunc_sqs (x : HostS) (c : Nat) (f : FuncS) : (x.setFunc c f).sqs = x.sqs := rfl
@[simp] theorem HostS_setFunc_cqs (x : HostS) (c : Nat) (f : FuncS) : (x.setFunc c f).cqs = x.cqs := rfl
@[simp] theorem HostS_setFunc_tags (x : HostS) (c : Nat) (f : FuncS) : (x.setFunc c f).tags = x.tags := rfl
@[simp] theorem HostS_setFunc_retiredTags (x : HostS) (c : Nat) (f : FuncS) : (x.setFunc c f).retiredTags = x.retiredTags := rfl
@[simp] theorem HostS_setFunc_nextAseq (x : HostS) (c : Nat) (f : FuncS) : (x.setFunc c f).nextAseq = x.nextAseq := rfl
@[simp] theorem HostS_setFunc_cfgAnswer (x : HostS) (c : Nat) (f : FuncS) : (x.setFunc c f).cfgAnswer = x.cfgAnswer := rfl
@[simp] theorem HostS_setFunc_holdAdmin (x : HostS) (c : Nat) (f : FuncS) : (x.setFunc c f).holdAdmin = x.holdAdmin := rfl
@[simp] theorem HostS_setFunc_stopFetch (x : HostS) (c : Nat) (f : FuncS) : (x.setFunc c f).stopFetch = x.stopFetch := rfl
@[simp] theorem HostS_setFunc_rr (x : HostS) (c : Nat) (f : FuncS) : (x.setFunc c f).rr = x.rr := rfl
@[simp] theorem HostS_setFunc_lastTlp (x : HostS) (c : Nat) (f : FuncS) : (x.setFunc c f).lastTlp = x.lastTlp := rfl

/-! `HostS.modFunc` -/

@[simp] theorem HostS_modFunc_port0 (x : HostS) (c : Nat) (g : FuncS → FuncS) : (x.modFunc c g).port0 = x.port0 := rfl
@[simp] theorem HostS_modFunc_port1 (x : HostS) (c : Nat) (g : FuncS → FuncS) : (x.modFunc c g).port1 = x.port1 := rfl
@[simp] theorem HostS_modFunc_sqs (x : HostS) (c : Nat) (g : FuncS → FuncS) : (x.modFunc c g).sqs = x.sqs := rfl
@[simp] theorem HostS_modFunc_cqs (x : HostS) (c : Nat) (g : FuncS → FuncS) : (x.modFunc c g).cqs = x.cqs := rfl
@[simp] theorem HostS_modFunc_tags (x : HostS) (c : Nat) (g : FuncS → FuncS) : (x.modFunc c g).tags = x.tags := rfl
@[simp] theorem HostS_modFunc_retiredTags (x : HostS) (c : Nat) (g : FuncS → FuncS) : (x.modFunc c g).retiredTags = x.retiredTags := rfl
@[simp] theorem HostS_modFunc_nextAseq (x : HostS) (c : Nat) (g : FuncS → FuncS) : (x.modFunc c g).nextAseq = x.nextAseq := rfl
@[simp] theorem HostS_modFunc_cfgAnswer (x : HostS) (c : Nat) (g : FuncS → FuncS) : (x.modFunc c g).cfgAnswer = x.cfgAnswer := rfl
@[simp] theorem HostS_modFunc_holdAdmin (x : HostS) (c : Nat) (g : FuncS → FuncS) : (x.modFunc c g).holdAdmin = x.holdAdmin := rfl
@[simp] theorem HostS_modFunc_stopFetch (x : HostS) (c : Nat) (g : FuncS → FuncS) : (x.modFunc c g).stopFetch = x.stopFetch := rfl
@[simp] theorem HostS_modFunc_rr (x : HostS) (c : Nat) (g : FuncS → FuncS) : (x.modFunc c g).rr = x.rr := rfl
@[simp] theorem HostS_modFunc_lastTlp (x : HostS) (c : Nat) (g : FuncS → FuncS) : (x.modFunc c g).lastTlp = x.lastTlp := rfl

/-! `HostS.setPort` -/

@[simp] theorem HostS_setPort_funcs (x : HostS) (p : Port) (y : PortS) : (x.setPort p y).funcs = x.funcs := by
  unfold HostS.setPort; split <;> rfl
@[simp] theorem HostS_setPort_sqs (x : HostS) (p : Port) (y : PortS) : (x.setPort p y).sqs = x.sqs := by
  unfold HostS.setPort; split <;> rfl
@[simp] theorem HostS_setPort_cqs (x : HostS) (p : Port) (y : PortS) : (x.setPort p y).cqs = x.cqs := by
  unfold HostS.setPort; split <;> rfl
@[simp] theorem HostS_setPort_tags (x : HostS) (p : Port) (y : PortS) : (x.setPort p y).tags = x.tags := by
  unfold HostS.setPort; split <;> rfl
@[simp] theorem HostS_setPort_retiredTags (x : HostS) (p : Port) (y : PortS) : (x.setPort p y).retiredTags = x.retiredTags := by
  unfold HostS.setPort; split <;> rfl
@[simp] theorem HostS_setPort_nextAseq (x : HostS) (p : Port) (y : PortS) : (x.setPort p y).nextAseq = x.nextAseq := by
  unfold HostS.setPort; split <;> rfl
@[simp] theorem HostS_setPort_cfgAnswer (x : HostS) (p : Port) (y : PortS) : (x.setPort p y).cfgAnswer = x.cfgAnswer := by
  unfold HostS.setPort; split <;> rfl
@[simp] theorem HostS_setPort_holdAdmin (x : HostS) (p : Port) (y : PortS) : (x.setPort p y).holdAdmin = x.holdAdmin := by
  unfold HostS.setPort; split <;> rfl
@[simp] theorem HostS_setPort_stopFetch (x : HostS) (p : Port) (y : PortS) : (x.setPort p y).stopFetch = x.stopFetch := by
  unfold HostS.setPort; split <;> rfl
@[simp] theorem HostS_setPort_rr (x : HostS) (p : Port) (y : PortS) : (x.setPort p y).rr = x.rr := by
  unfold HostS.setPort; split <;> rfl
@[simp] theorem HostS_setPort_lastTlp (x : HostS) (p : Port) (y : PortS) : (x.setPort p y).lastTlp = x.lastTlp := by
  unfold HostS.setPort; split <;> rfl

/-! `NvmS.setLease` -/

@[simp] theorem NvmS_setLease_nss (x : NvmS) (p : Port) (l : LeaseS) : (x.setLease p l).nss = x.nss := by
  unfold NvmS.setLease; split <;> rfl
@[simp] theorem NvmS_setLease_stands (x : NvmS) (p : Port) (l : LeaseS) : (x.setLease p l).stands = x.stands := by
  unfold NvmS.setLease; split <;> rfl
@[simp] theorem NvmS_setLease_ops (x : NvmS) (p : Port) (l : LeaseS) : (x.setLease p l).ops = x.ops := by
  unfold NvmS.setLease; split <;> rfl
@[simp] theorem NvmS_setLease_sanAction (x : NvmS) (p : Port) (l : LeaseS) : (x.setLease p l).sanAction = x.sanAction := by
  unfold NvmS.setLease; split <;> rfl
@[simp] theorem NvmS_setLease_sanPhase (x : NvmS) (p : Port) (l : LeaseS) : (x.setLease p l).sanPhase = x.sanPhase := by
  unfold NvmS.setLease; split <;> rfl
@[simp] theorem NvmS_setLease_sanProgress (x : NvmS) (p : Port) (l : LeaseS) : (x.setLease p l).sanProgress = x.sanProgress := by
  unfold NvmS.setLease; split <;> rfl
@[simp] theorem NvmS_setLease_sanFrom (x : NvmS) (p : Port) (l : LeaseS) : (x.setLease p l).sanFrom = x.sanFrom := by
  unfold NvmS.setLease; split <;> rfl
@[simp] theorem NvmS_setLease_sanFailed (x : NvmS) (p : Port) (l : LeaseS) : (x.setLease p l).sanFailed = x.sanFailed := by
  unfold NvmS.setLease; split <;> rfl
@[simp] theorem NvmS_setLease_sanDone (x : NvmS) (p : Port) (l : LeaseS) : (x.setLease p l).sanDone = x.sanDone := by
  unfold NvmS.setLease; split <;> rfl
@[simp] theorem NvmS_setLease_nextKeyGen (x : NvmS) (p : Port) (l : LeaseS) : (x.setLease p l).nextKeyGen = x.nextKeyGen := by
  unfold NvmS.setLease; split <;> rfl
@[simp] theorem NvmS_setLease_sliceEnd (x : NvmS) (p : Port) (l : LeaseS) : (x.setLease p l).sliceEnd = x.sliceEnd := by
  unfold NvmS.setLease; split <;> rfl

/-! `NvmS.modStand` -/

@[simp] theorem NvmS_modStand_nss (x : NvmS) (st : Nat) (f : StandS → StandS) : (x.modStand st f).nss = x.nss := rfl
@[simp] theorem NvmS_modStand_ops (x : NvmS) (st : Nat) (f : StandS → StandS) : (x.modStand st f).ops = x.ops := rfl
@[simp] theorem NvmS_modStand_lease0 (x : NvmS) (st : Nat) (f : StandS → StandS) : (x.modStand st f).lease0 = x.lease0 := rfl
@[simp] theorem NvmS_modStand_lease1 (x : NvmS) (st : Nat) (f : StandS → StandS) : (x.modStand st f).lease1 = x.lease1 := rfl
@[simp] theorem NvmS_modStand_sanAction (x : NvmS) (st : Nat) (f : StandS → StandS) : (x.modStand st f).sanAction = x.sanAction := rfl
@[simp] theorem NvmS_modStand_sanPhase (x : NvmS) (st : Nat) (f : StandS → StandS) : (x.modStand st f).sanPhase = x.sanPhase := rfl
@[simp] theorem NvmS_modStand_sanProgress (x : NvmS) (st : Nat) (f : StandS → StandS) : (x.modStand st f).sanProgress = x.sanProgress := rfl
@[simp] theorem NvmS_modStand_sanFrom (x : NvmS) (st : Nat) (f : StandS → StandS) : (x.modStand st f).sanFrom = x.sanFrom := rfl
@[simp] theorem NvmS_modStand_sanFailed (x : NvmS) (st : Nat) (f : StandS → StandS) : (x.modStand st f).sanFailed = x.sanFailed := rfl
@[simp] theorem NvmS_modStand_sanDone (x : NvmS) (st : Nat) (f : StandS → StandS) : (x.modStand st f).sanDone = x.sanDone := rfl
@[simp] theorem NvmS_modStand_nextKeyGen (x : NvmS) (st : Nat) (f : StandS → StandS) : (x.modStand st f).nextKeyGen = x.nextKeyGen := rfl
@[simp] theorem NvmS_modStand_sliceEnd (x : NvmS) (st : Nat) (f : StandS → StandS) : (x.modStand st f).sliceEnd = x.sliceEnd := rfl

/-! `NvmS.modNs` -/

@[simp] theorem NvmS_modNs_stands (x : NvmS) (i : Nat) (f : NsS → NsS) : (x.modNs i f).stands = x.stands := rfl
@[simp] theorem NvmS_modNs_ops (x : NvmS) (i : Nat) (f : NsS → NsS) : (x.modNs i f).ops = x.ops := rfl
@[simp] theorem NvmS_modNs_lease0 (x : NvmS) (i : Nat) (f : NsS → NsS) : (x.modNs i f).lease0 = x.lease0 := rfl
@[simp] theorem NvmS_modNs_lease1 (x : NvmS) (i : Nat) (f : NsS → NsS) : (x.modNs i f).lease1 = x.lease1 := rfl
@[simp] theorem NvmS_modNs_sanAction (x : NvmS) (i : Nat) (f : NsS → NsS) : (x.modNs i f).sanAction = x.sanAction := rfl
@[simp] theorem NvmS_modNs_sanPhase (x : NvmS) (i : Nat) (f : NsS → NsS) : (x.modNs i f).sanPhase = x.sanPhase := rfl
@[simp] theorem NvmS_modNs_sanProgress (x : NvmS) (i : Nat) (f : NsS → NsS) : (x.modNs i f).sanProgress = x.sanProgress := rfl
@[simp] theorem NvmS_modNs_sanFrom (x : NvmS) (i : Nat) (f : NsS → NsS) : (x.modNs i f).sanFrom = x.sanFrom := rfl
@[simp] theorem NvmS_modNs_sanFailed (x : NvmS) (i : Nat) (f : NsS → NsS) : (x.modNs i f).sanFailed = x.sanFailed := rfl
@[simp] theorem NvmS_modNs_sanDone (x : NvmS) (i : Nat) (f : NsS → NsS) : (x.modNs i f).sanDone = x.sanDone := rfl
@[simp] theorem NvmS_modNs_nextKeyGen (x : NvmS) (i : Nat) (f : NsS → NsS) : (x.modNs i f).nextKeyGen = x.nextKeyGen := rfl
@[simp] theorem NvmS_modNs_sliceEnd (x : NvmS) (i : Nat) (f : NsS → NsS) : (x.modNs i f).sliceEnd = x.sliceEnd := rfl

/-! `NvmS.modOp` -/

@[simp] theorem NvmS_modOp_nss (x : NvmS) (i : Nat) (f : SlicedOp → SlicedOp) : (x.modOp i f).nss = x.nss := rfl
@[simp] theorem NvmS_modOp_stands (x : NvmS) (i : Nat) (f : SlicedOp → SlicedOp) : (x.modOp i f).stands = x.stands := rfl
@[simp] theorem NvmS_modOp_lease0 (x : NvmS) (i : Nat) (f : SlicedOp → SlicedOp) : (x.modOp i f).lease0 = x.lease0 := rfl
@[simp] theorem NvmS_modOp_lease1 (x : NvmS) (i : Nat) (f : SlicedOp → SlicedOp) : (x.modOp i f).lease1 = x.lease1 := rfl
@[simp] theorem NvmS_modOp_sanAction (x : NvmS) (i : Nat) (f : SlicedOp → SlicedOp) : (x.modOp i f).sanAction = x.sanAction := rfl
@[simp] theorem NvmS_modOp_sanPhase (x : NvmS) (i : Nat) (f : SlicedOp → SlicedOp) : (x.modOp i f).sanPhase = x.sanPhase := rfl
@[simp] theorem NvmS_modOp_sanProgress (x : NvmS) (i : Nat) (f : SlicedOp → SlicedOp) : (x.modOp i f).sanProgress = x.sanProgress := rfl
@[simp] theorem NvmS_modOp_sanFrom (x : NvmS) (i : Nat) (f : SlicedOp → SlicedOp) : (x.modOp i f).sanFrom = x.sanFrom := rfl
@[simp] theorem NvmS_modOp_sanFailed (x : NvmS) (i : Nat) (f : SlicedOp → SlicedOp) : (x.modOp i f).sanFailed = x.sanFailed := rfl
@[simp] theorem NvmS_modOp_sanDone (x : NvmS) (i : Nat) (f : SlicedOp → SlicedOp) : (x.modOp i f).sanDone = x.sanDone := rfl
@[simp] theorem NvmS_modOp_nextKeyGen (x : NvmS) (i : Nat) (f : SlicedOp → SlicedOp) : (x.modOp i f).nextKeyGen = x.nextKeyGen := rfl
@[simp] theorem NvmS_modOp_sliceEnd (x : NvmS) (i : Nat) (f : SlicedOp → SlicedOp) : (x.modOp i f).sliceEnd = x.sliceEnd := rfl

/-! `LandS.setLine` -/

@[simp] theorem LandS_setLine_grants (x : LandS) (c n : Nat) (v : Line) (b : Bool) : (x.setLine c n v b).grants = x.grants := rfl
@[simp] theorem LandS_setLine_waiting (x : LandS) (c n : Nat) (v : Line) (b : Bool) : (x.setLine c n v b).waiting = x.waiting := rfl
@[simp] theorem LandS_setLine_suspect (x : LandS) (c n : Nat) (v : Line) (b : Bool) : (x.setLine c n v b).suspect = x.suspect := rfl
@[simp] theorem LandS_setLine_retired (x : LandS) (c n : Nat) (v : Line) (b : Bool) : (x.setLine c n v b).retired = x.retired := rfl
@[simp] theorem LandS_setLine_ctxs (x : LandS) (c n : Nat) (v : Line) (b : Bool) : (x.setLine c n v b).ctxs = x.ctxs := rfl
@[simp] theorem LandS_setLine_lag (x : LandS) (c n : Nat) (v : Line) (b : Bool) : (x.setLine c n v b).lag = x.lag := rfl
@[simp] theorem LandS_setLine_copies (x : LandS) (c n : Nat) (v : Line) (b : Bool) : (x.setLine c n v b).copies = x.copies := rfl
@[simp] theorem LandS_setLine_reports (x : LandS) (c n : Nat) (v : Line) (b : Bool) : (x.setLine c n v b).reports = x.reports := rfl
@[simp] theorem LandS_setLine_tlps (x : LandS) (c n : Nat) (v : Line) (b : Bool) : (x.setLine c n v b).tlps = x.tlps := rfl
@[simp] theorem LandS_setLine_encMarks (x : LandS) (c n : Nat) (v : Line) (b : Bool) : (x.setLine c n v b).encMarks = x.encMarks := rfl

/-! `LandS.setBlockMarked` -/

@[simp] theorem LandS_setBlockMarked_grants (x : LandS) (c : Nat) (b : Block) (k : Nat → Bool) : (x.setBlockMarked c b k).grants = x.grants := by simp only [LandS.setBlockMarked]
@[simp] theorem LandS_setBlockMarked_waiting (x : LandS) (c : Nat) (b : Block) (k : Nat → Bool) : (x.setBlockMarked c b k).waiting = x.waiting := by simp only [LandS.setBlockMarked]
@[simp] theorem LandS_setBlockMarked_suspect (x : LandS) (c : Nat) (b : Block) (k : Nat → Bool) : (x.setBlockMarked c b k).suspect = x.suspect := by simp only [LandS.setBlockMarked]
@[simp] theorem LandS_setBlockMarked_retired (x : LandS) (c : Nat) (b : Block) (k : Nat → Bool) : (x.setBlockMarked c b k).retired = x.retired := by simp only [LandS.setBlockMarked]
@[simp] theorem LandS_setBlockMarked_ctxs (x : LandS) (c : Nat) (b : Block) (k : Nat → Bool) : (x.setBlockMarked c b k).ctxs = x.ctxs := by simp only [LandS.setBlockMarked]
@[simp] theorem LandS_setBlockMarked_lag (x : LandS) (c : Nat) (b : Block) (k : Nat → Bool) : (x.setBlockMarked c b k).lag = x.lag := by simp only [LandS.setBlockMarked]
@[simp] theorem LandS_setBlockMarked_copies (x : LandS) (c : Nat) (b : Block) (k : Nat → Bool) : (x.setBlockMarked c b k).copies = x.copies := by simp only [LandS.setBlockMarked]
@[simp] theorem LandS_setBlockMarked_reports (x : LandS) (c : Nat) (b : Block) (k : Nat → Bool) : (x.setBlockMarked c b k).reports = x.reports := by simp only [LandS.setBlockMarked]
@[simp] theorem LandS_setBlockMarked_tlps (x : LandS) (c : Nat) (b : Block) (k : Nat → Bool) : (x.setBlockMarked c b k).tlps = x.tlps := by simp only [LandS.setBlockMarked]
@[simp] theorem LandS_setBlockMarked_encMarks (x : LandS) (c : Nat) (b : Block) (k : Nat → Bool) : (x.setBlockMarked c b k).encMarks = x.encMarks := by simp only [LandS.setBlockMarked]

/-! `LandS.setBlock` -/

@[simp] theorem LandS_setBlock_grants (x : LandS) (c : Nat) (b : Block) : (x.setBlock c b).grants = x.grants := by simp only [LandS.setBlock, LandS.setBlockMarked]
@[simp] theorem LandS_setBlock_waiting (x : LandS) (c : Nat) (b : Block) : (x.setBlock c b).waiting = x.waiting := by simp only [LandS.setBlock, LandS.setBlockMarked]
@[simp] theorem LandS_setBlock_suspect (x : LandS) (c : Nat) (b : Block) : (x.setBlock c b).suspect = x.suspect := by simp only [LandS.setBlock, LandS.setBlockMarked]
@[simp] theorem LandS_setBlock_retired (x : LandS) (c : Nat) (b : Block) : (x.setBlock c b).retired = x.retired := by simp only [LandS.setBlock, LandS.setBlockMarked]
@[simp] theorem LandS_setBlock_ctxs (x : LandS) (c : Nat) (b : Block) : (x.setBlock c b).ctxs = x.ctxs := by simp only [LandS.setBlock, LandS.setBlockMarked]
@[simp] theorem LandS_setBlock_lag (x : LandS) (c : Nat) (b : Block) : (x.setBlock c b).lag = x.lag := by simp only [LandS.setBlock, LandS.setBlockMarked]
@[simp] theorem LandS_setBlock_copies (x : LandS) (c : Nat) (b : Block) : (x.setBlock c b).copies = x.copies := by simp only [LandS.setBlock, LandS.setBlockMarked]
@[simp] theorem LandS_setBlock_reports (x : LandS) (c : Nat) (b : Block) : (x.setBlock c b).reports = x.reports := by simp only [LandS.setBlock, LandS.setBlockMarked]
@[simp] theorem LandS_setBlock_tlps (x : LandS) (c : Nat) (b : Block) : (x.setBlock c b).tlps = x.tlps := by simp only [LandS.setBlock, LandS.setBlockMarked]
@[simp] theorem LandS_setBlock_encMarks (x : LandS) (c : Nat) (b : Block) : (x.setBlock c b).encMarks = x.encMarks := by simp only [LandS.setBlock, LandS.setBlockMarked]

/-! `LandS.flipLine` -/

@[simp] theorem LandS_flipLine_grants (x : LandS) (c n : Nat) (b : Bool) : (x.flipLine c n b).grants = x.grants := rfl
@[simp] theorem LandS_flipLine_waiting (x : LandS) (c n : Nat) (b : Bool) : (x.flipLine c n b).waiting = x.waiting := rfl
@[simp] theorem LandS_flipLine_retired (x : LandS) (c n : Nat) (b : Bool) : (x.flipLine c n b).retired = x.retired := rfl
@[simp] theorem LandS_flipLine_ctxs (x : LandS) (c n : Nat) (b : Bool) : (x.flipLine c n b).ctxs = x.ctxs := rfl
@[simp] theorem LandS_flipLine_lag (x : LandS) (c n : Nat) (b : Bool) : (x.flipLine c n b).lag = x.lag := rfl
@[simp] theorem LandS_flipLine_copies (x : LandS) (c n : Nat) (b : Bool) : (x.flipLine c n b).copies = x.copies := rfl
@[simp] theorem LandS_flipLine_reports (x : LandS) (c n : Nat) (b : Bool) : (x.flipLine c n b).reports = x.reports := rfl
@[simp] theorem LandS_flipLine_tlps (x : LandS) (c n : Nat) (b : Bool) : (x.flipLine c n b).tlps = x.tlps := rfl
@[simp] theorem LandS_flipLine_encMarks (x : LandS) (c n : Nat) (b : Bool) : (x.flipLine c n b).encMarks = x.encMarks := rfl

/-! `MapS.modGrove` -/

@[simp] theorem MapS_modGrove_trunk (x : MapS) (g : Grove) (f : GroveMap → GroveMap) : (x.modGrove g f).trunk = x.trunk := rfl
@[simp] theorem MapS_modGrove_segs (x : MapS) (g : Grove) (f : GroveMap → GroveMap) : (x.modGrove g f).segs = x.segs := rfl
@[simp] theorem MapS_modGrove_leaves (x : MapS) (g : Grove) (f : GroveMap → GroveMap) : (x.modGrove g f).leaves = x.leaves := rfl
@[simp] theorem MapS_modGrove_pages (x : MapS) (g : Grove) (f : GroveMap → GroveMap) : (x.modGrove g f).pages = x.pages := rfl
@[simp] theorem MapS_modGrove_leafCacheGib (x : MapS) (g : Grove) (f : GroveMap → GroveMap) : (x.modGrove g f).leafCacheGib = x.leafCacheGib := rfl
@[simp] theorem MapS_modGrove_leaseKey (x : MapS) (g : Grove) (f : GroveMap → GroveMap) : (x.modGrove g f).leaseKey = x.leaseKey := rfl
@[simp] theorem MapS_modGrove_repairing (x : MapS) (g : Grove) (f : GroveMap → GroveMap) : (x.modGrove g f).repairing = x.repairing := rfl
@[simp] theorem MapS_modGrove_lostSlabs (x : MapS) (g : Grove) (f : GroveMap → GroveMap) : (x.modGrove g f).lostSlabs = x.lostSlabs := rfl
@[simp] theorem MapS_modGrove_verFloor (x : MapS) (g : Grove) (f : GroveMap → GroveMap) : (x.modGrove g f).verFloor = x.verFloor := rfl

/-! `MapS.unlease` -/

@[simp] theorem MapS_unlease_trunk (x : MapS) (p : Port) : (x.unlease p).trunk = x.trunk := rfl
@[simp] theorem MapS_unlease_segs (x : MapS) (p : Port) : (x.unlease p).segs = x.segs := rfl
@[simp] theorem MapS_unlease_leaves (x : MapS) (p : Port) : (x.unlease p).leaves = x.leaves := rfl
@[simp] theorem MapS_unlease_groves (x : MapS) (p : Port) : (x.unlease p).groves = x.groves := rfl
@[simp] theorem MapS_unlease_leafCacheGib (x : MapS) (p : Port) : (x.unlease p).leafCacheGib = x.leafCacheGib := rfl
@[simp] theorem MapS_unlease_leaseKey (x : MapS) (p : Port) : (x.unlease p).leaseKey = x.leaseKey := rfl
@[simp] theorem MapS_unlease_repairing (x : MapS) (p : Port) : (x.unlease p).repairing = x.repairing := rfl
@[simp] theorem MapS_unlease_lostSlabs (x : MapS) (p : Port) : (x.unlease p).lostSlabs = x.lostSlabs := rfl
@[simp] theorem MapS_unlease_verFloor (x : MapS) (p : Port) : (x.unlease p).verFloor = x.verFloor := rfl

/-! `MediaS.setState` -/

@[simp] theorem MediaS_setState_geom (x : MediaS) (rb st : Nat) : (x.setState rb st).geom = x.geom := rfl
@[simp] theorem MediaS_setState_info (x : MediaS) (rb st : Nat) : (x.setState rb st).info = x.info := rfl
@[simp] theorem MediaS_setState_erases (x : MediaS) (rb st : Nat) : (x.setState rb st).erases = x.erases := rfl
@[simp] theorem MediaS_setState_wearTable (x : MediaS) (rb st : Nat) : (x.setState rb st).wearTable = x.wearTable := rfl
@[simp] theorem MediaS_setState_wearOlder (x : MediaS) (rb st : Nat) : (x.setState rb st).wearOlder = x.wearOlder := rfl
@[simp] theorem MediaS_setState_erasedSince (x : MediaS) (rb st : Nat) : (x.setState rb st).erasedSince = x.erasedSince := rfl
@[simp] theorem MediaS_setState_points (x : MediaS) (rb st : Nat) : (x.setState rb st).points = x.points := rfl
@[simp] theorem MediaS_setState_sets (x : MediaS) (rb st : Nat) : (x.setState rb st).sets = x.sets := rfl
@[simp] theorem MediaS_setState_nextSet (x : MediaS) (rb st : Nat) : (x.setState rb st).nextSet = x.nextSet := rfl
@[simp] theorem MediaS_setState_doms (x : MediaS) (rb st : Nat) : (x.setState rb st).doms = x.doms := rfl
@[simp] theorem MediaS_setState_debts (x : MediaS) (rb st : Nat) : (x.setState rb st).debts = x.debts := rfl
@[simp] theorem MediaS_setState_lastDom (x : MediaS) (rb st : Nat) : (x.setState rb st).lastDom = x.lastDom := rfl
@[simp] theorem MediaS_setState_readOnly (x : MediaS) (rb st : Nat) : (x.setState rb st).readOnly = x.readOnly := rfl
@[simp] theorem MediaS_setState_eraseFails (x : MediaS) (rb st : Nat) : (x.setState rb st).eraseFails = x.eraseFails := rfl
@[simp] theorem MediaS_setState_eraseBack (x : MediaS) (rb st : Nat) : (x.setState rb st).eraseBack = x.eraseBack := rfl
@[simp] theorem MediaS_setState_reads (x : MediaS) (rb st : Nat) : (x.setState rb st).reads = x.reads := rfl
@[simp] theorem MediaS_setState_readBase (x : MediaS) (rb st : Nat) : (x.setState rb st).readBase = x.readBase := rfl
@[simp] theorem MediaS_setState_emptyRows (x : MediaS) (rb st : Nat) : (x.setState rb st).emptyRows = x.emptyRows := rfl
@[simp] theorem MediaS_setState_shares (x : MediaS) (rb st : Nat) : (x.setState rb st).shares = x.shares := rfl

/-! `MediaS.setAbsent` -/

@[simp] theorem MediaS_setAbsent_geom (x : MediaS) (rb : Nat) (a : BitVec 8) : (x.setAbsent rb a).geom = x.geom := rfl
@[simp] theorem MediaS_setAbsent_info (x : MediaS) (rb : Nat) (a : BitVec 8) : (x.setAbsent rb a).info = x.info := rfl
@[simp] theorem MediaS_setAbsent_erases (x : MediaS) (rb : Nat) (a : BitVec 8) : (x.setAbsent rb a).erases = x.erases := rfl
@[simp] theorem MediaS_setAbsent_wearTable (x : MediaS) (rb : Nat) (a : BitVec 8) : (x.setAbsent rb a).wearTable = x.wearTable := rfl
@[simp] theorem MediaS_setAbsent_wearOlder (x : MediaS) (rb : Nat) (a : BitVec 8) : (x.setAbsent rb a).wearOlder = x.wearOlder := rfl
@[simp] theorem MediaS_setAbsent_erasedSince (x : MediaS) (rb : Nat) (a : BitVec 8) : (x.setAbsent rb a).erasedSince = x.erasedSince := rfl
@[simp] theorem MediaS_setAbsent_points (x : MediaS) (rb : Nat) (a : BitVec 8) : (x.setAbsent rb a).points = x.points := rfl
@[simp] theorem MediaS_setAbsent_sets (x : MediaS) (rb : Nat) (a : BitVec 8) : (x.setAbsent rb a).sets = x.sets := rfl
@[simp] theorem MediaS_setAbsent_nextSet (x : MediaS) (rb : Nat) (a : BitVec 8) : (x.setAbsent rb a).nextSet = x.nextSet := rfl
@[simp] theorem MediaS_setAbsent_doms (x : MediaS) (rb : Nat) (a : BitVec 8) : (x.setAbsent rb a).doms = x.doms := rfl
@[simp] theorem MediaS_setAbsent_debts (x : MediaS) (rb : Nat) (a : BitVec 8) : (x.setAbsent rb a).debts = x.debts := rfl
@[simp] theorem MediaS_setAbsent_lastDom (x : MediaS) (rb : Nat) (a : BitVec 8) : (x.setAbsent rb a).lastDom = x.lastDom := rfl
@[simp] theorem MediaS_setAbsent_readOnly (x : MediaS) (rb : Nat) (a : BitVec 8) : (x.setAbsent rb a).readOnly = x.readOnly := rfl
@[simp] theorem MediaS_setAbsent_eraseFails (x : MediaS) (rb : Nat) (a : BitVec 8) : (x.setAbsent rb a).eraseFails = x.eraseFails := rfl
@[simp] theorem MediaS_setAbsent_eraseBack (x : MediaS) (rb : Nat) (a : BitVec 8) : (x.setAbsent rb a).eraseBack = x.eraseBack := rfl
@[simp] theorem MediaS_setAbsent_reads (x : MediaS) (rb : Nat) (a : BitVec 8) : (x.setAbsent rb a).reads = x.reads := rfl
@[simp] theorem MediaS_setAbsent_readBase (x : MediaS) (rb : Nat) (a : BitVec 8) : (x.setAbsent rb a).readBase = x.readBase := rfl
@[simp] theorem MediaS_setAbsent_emptyRows (x : MediaS) (rb : Nat) (a : BitVec 8) : (x.setAbsent rb a).emptyRows = x.emptyRows := rfl
@[simp] theorem MediaS_setAbsent_shares (x : MediaS) (rb : Nat) (a : BitVec 8) : (x.setAbsent rb a).shares = x.shares := rfl

/-! `MediaS.setSlc` -/

@[simp] theorem MediaS_setSlc_geom (x : MediaS) (rb : Nat) (b : Bool) : (x.setSlc rb b).geom = x.geom := rfl
@[simp] theorem MediaS_setSlc_info (x : MediaS) (rb : Nat) (b : Bool) : (x.setSlc rb b).info = x.info := rfl
@[simp] theorem MediaS_setSlc_erases (x : MediaS) (rb : Nat) (b : Bool) : (x.setSlc rb b).erases = x.erases := rfl
@[simp] theorem MediaS_setSlc_wearTable (x : MediaS) (rb : Nat) (b : Bool) : (x.setSlc rb b).wearTable = x.wearTable := rfl
@[simp] theorem MediaS_setSlc_wearOlder (x : MediaS) (rb : Nat) (b : Bool) : (x.setSlc rb b).wearOlder = x.wearOlder := rfl
@[simp] theorem MediaS_setSlc_erasedSince (x : MediaS) (rb : Nat) (b : Bool) : (x.setSlc rb b).erasedSince = x.erasedSince := rfl
@[simp] theorem MediaS_setSlc_points (x : MediaS) (rb : Nat) (b : Bool) : (x.setSlc rb b).points = x.points := rfl
@[simp] theorem MediaS_setSlc_sets (x : MediaS) (rb : Nat) (b : Bool) : (x.setSlc rb b).sets = x.sets := rfl
@[simp] theorem MediaS_setSlc_nextSet (x : MediaS) (rb : Nat) (b : Bool) : (x.setSlc rb b).nextSet = x.nextSet := rfl
@[simp] theorem MediaS_setSlc_doms (x : MediaS) (rb : Nat) (b : Bool) : (x.setSlc rb b).doms = x.doms := rfl
@[simp] theorem MediaS_setSlc_debts (x : MediaS) (rb : Nat) (b : Bool) : (x.setSlc rb b).debts = x.debts := rfl
@[simp] theorem MediaS_setSlc_lastDom (x : MediaS) (rb : Nat) (b : Bool) : (x.setSlc rb b).lastDom = x.lastDom := rfl
@[simp] theorem MediaS_setSlc_readOnly (x : MediaS) (rb : Nat) (b : Bool) : (x.setSlc rb b).readOnly = x.readOnly := rfl
@[simp] theorem MediaS_setSlc_eraseFails (x : MediaS) (rb : Nat) (b : Bool) : (x.setSlc rb b).eraseFails = x.eraseFails := rfl
@[simp] theorem MediaS_setSlc_eraseBack (x : MediaS) (rb : Nat) (b : Bool) : (x.setSlc rb b).eraseBack = x.eraseBack := rfl
@[simp] theorem MediaS_setSlc_reads (x : MediaS) (rb : Nat) (b : Bool) : (x.setSlc rb b).reads = x.reads := rfl
@[simp] theorem MediaS_setSlc_readBase (x : MediaS) (rb : Nat) (b : Bool) : (x.setSlc rb b).readBase = x.readBase := rfl
@[simp] theorem MediaS_setSlc_emptyRows (x : MediaS) (rb : Nat) (b : Bool) : (x.setSlc rb b).emptyRows = x.emptyRows := rfl
@[simp] theorem MediaS_setSlc_shares (x : MediaS) (rb : Nat) (b : Bool) : (x.setSlc rb b).shares = x.shares := rfl

/-! `MediaS.modDom` -/

@[simp] theorem MediaS_modDom_geom (x : MediaS) (d : DomId) (f : DomS → DomS) : (x.modDom d f).geom = x.geom := by
  unfold MediaS.modDom; split <;> rfl
@[simp] theorem MediaS_modDom_recs (x : MediaS) (d : DomId) (f : DomS → DomS) : (x.modDom d f).recs = x.recs := by
  unfold MediaS.modDom; split <;> rfl
@[simp] theorem MediaS_modDom_info (x : MediaS) (d : DomId) (f : DomS → DomS) : (x.modDom d f).info = x.info := by
  unfold MediaS.modDom; split <;> rfl
@[simp] theorem MediaS_modDom_erases (x : MediaS) (d : DomId) (f : DomS → DomS) : (x.modDom d f).erases = x.erases := by
  unfold MediaS.modDom; split <;> rfl
@[simp] theorem MediaS_modDom_wearTable (x : MediaS) (d : DomId) (f : DomS → DomS) : (x.modDom d f).wearTable = x.wearTable := by
  unfold MediaS.modDom; split <;> rfl
@[simp] theorem MediaS_modDom_wearOlder (x : MediaS) (d : DomId) (f : DomS → DomS) : (x.modDom d f).wearOlder = x.wearOlder := by
  unfold MediaS.modDom; split <;> rfl
@[simp] theorem MediaS_modDom_erasedSince (x : MediaS) (d : DomId) (f : DomS → DomS) : (x.modDom d f).erasedSince = x.erasedSince := by
  unfold MediaS.modDom; split <;> rfl
@[simp] theorem MediaS_modDom_points (x : MediaS) (d : DomId) (f : DomS → DomS) : (x.modDom d f).points = x.points := by
  unfold MediaS.modDom; split <;> rfl
@[simp] theorem MediaS_modDom_sets (x : MediaS) (d : DomId) (f : DomS → DomS) : (x.modDom d f).sets = x.sets := by
  unfold MediaS.modDom; split <;> rfl
@[simp] theorem MediaS_modDom_nextSet (x : MediaS) (d : DomId) (f : DomS → DomS) : (x.modDom d f).nextSet = x.nextSet := by
  unfold MediaS.modDom; split <;> rfl
@[simp] theorem MediaS_modDom_debts (x : MediaS) (d : DomId) (f : DomS → DomS) : (x.modDom d f).debts = x.debts := by
  unfold MediaS.modDom; split <;> rfl
@[simp] theorem MediaS_modDom_lastDom (x : MediaS) (d : DomId) (f : DomS → DomS) : (x.modDom d f).lastDom = x.lastDom := by
  unfold MediaS.modDom; split <;> rfl
@[simp] theorem MediaS_modDom_readOnly (x : MediaS) (d : DomId) (f : DomS → DomS) : (x.modDom d f).readOnly = x.readOnly := by
  unfold MediaS.modDom; split <;> rfl
@[simp] theorem MediaS_modDom_eraseFails (x : MediaS) (d : DomId) (f : DomS → DomS) : (x.modDom d f).eraseFails = x.eraseFails := by
  unfold MediaS.modDom; split <;> rfl
@[simp] theorem MediaS_modDom_eraseBack (x : MediaS) (d : DomId) (f : DomS → DomS) : (x.modDom d f).eraseBack = x.eraseBack := by
  unfold MediaS.modDom; split <;> rfl
@[simp] theorem MediaS_modDom_reads (x : MediaS) (d : DomId) (f : DomS → DomS) : (x.modDom d f).reads = x.reads := by
  unfold MediaS.modDom; split <;> rfl
@[simp] theorem MediaS_modDom_readBase (x : MediaS) (d : DomId) (f : DomS → DomS) : (x.modDom d f).readBase = x.readBase := by
  unfold MediaS.modDom; split <;> rfl
@[simp] theorem MediaS_modDom_emptyRows (x : MediaS) (d : DomId) (f : DomS → DomS) : (x.modDom d f).emptyRows = x.emptyRows := by
  unfold MediaS.modDom; split <;> rfl
@[simp] theorem MediaS_modDom_shares (x : MediaS) (d : DomId) (f : DomS → DomS) : (x.modDom d f).shares = x.shares := by
  unfold MediaS.modDom; split <;> rfl

/-! `MediaS.setPoint` -/

@[simp] theorem MediaS_setPoint_geom (x : MediaS) (p : WritePoint) : (x.setPoint p).geom = x.geom := rfl
@[simp] theorem MediaS_setPoint_recs (x : MediaS) (p : WritePoint) : (x.setPoint p).recs = x.recs := rfl
@[simp] theorem MediaS_setPoint_info (x : MediaS) (p : WritePoint) : (x.setPoint p).info = x.info := rfl
@[simp] theorem MediaS_setPoint_erases (x : MediaS) (p : WritePoint) : (x.setPoint p).erases = x.erases := rfl
@[simp] theorem MediaS_setPoint_wearTable (x : MediaS) (p : WritePoint) : (x.setPoint p).wearTable = x.wearTable := rfl
@[simp] theorem MediaS_setPoint_wearOlder (x : MediaS) (p : WritePoint) : (x.setPoint p).wearOlder = x.wearOlder := rfl
@[simp] theorem MediaS_setPoint_erasedSince (x : MediaS) (p : WritePoint) : (x.setPoint p).erasedSince = x.erasedSince := rfl
@[simp] theorem MediaS_setPoint_sets (x : MediaS) (p : WritePoint) : (x.setPoint p).sets = x.sets := rfl
@[simp] theorem MediaS_setPoint_nextSet (x : MediaS) (p : WritePoint) : (x.setPoint p).nextSet = x.nextSet := rfl
@[simp] theorem MediaS_setPoint_doms (x : MediaS) (p : WritePoint) : (x.setPoint p).doms = x.doms := rfl
@[simp] theorem MediaS_setPoint_debts (x : MediaS) (p : WritePoint) : (x.setPoint p).debts = x.debts := rfl
@[simp] theorem MediaS_setPoint_lastDom (x : MediaS) (p : WritePoint) : (x.setPoint p).lastDom = x.lastDom := rfl
@[simp] theorem MediaS_setPoint_readOnly (x : MediaS) (p : WritePoint) : (x.setPoint p).readOnly = x.readOnly := rfl
@[simp] theorem MediaS_setPoint_eraseFails (x : MediaS) (p : WritePoint) : (x.setPoint p).eraseFails = x.eraseFails := rfl
@[simp] theorem MediaS_setPoint_eraseBack (x : MediaS) (p : WritePoint) : (x.setPoint p).eraseBack = x.eraseBack := rfl
@[simp] theorem MediaS_setPoint_reads (x : MediaS) (p : WritePoint) : (x.setPoint p).reads = x.reads := rfl
@[simp] theorem MediaS_setPoint_readBase (x : MediaS) (p : WritePoint) : (x.setPoint p).readBase = x.readBase := rfl
@[simp] theorem MediaS_setPoint_emptyRows (x : MediaS) (p : WritePoint) : (x.setPoint p).emptyRows = x.emptyRows := rfl
@[simp] theorem MediaS_setPoint_shares (x : MediaS) (p : WritePoint) : (x.setPoint p).shares = x.shares := rfl

/-! `MediaS.modSet` -/

@[simp] theorem MediaS_modSet_geom (x : MediaS) (n : Nat) (f : WSet → WSet) : (x.modSet n f).geom = x.geom := rfl
@[simp] theorem MediaS_modSet_recs (x : MediaS) (n : Nat) (f : WSet → WSet) : (x.modSet n f).recs = x.recs := rfl
@[simp] theorem MediaS_modSet_info (x : MediaS) (n : Nat) (f : WSet → WSet) : (x.modSet n f).info = x.info := rfl
@[simp] theorem MediaS_modSet_erases (x : MediaS) (n : Nat) (f : WSet → WSet) : (x.modSet n f).erases = x.erases := rfl
@[simp] theorem MediaS_modSet_wearTable (x : MediaS) (n : Nat) (f : WSet → WSet) : (x.modSet n f).wearTable = x.wearTable := rfl
@[simp] theorem MediaS_modSet_wearOlder (x : MediaS) (n : Nat) (f : WSet → WSet) : (x.modSet n f).wearOlder = x.wearOlder := rfl
@[simp] theorem MediaS_modSet_erasedSince (x : MediaS) (n : Nat) (f : WSet → WSet) : (x.modSet n f).erasedSince = x.erasedSince := rfl
@[simp] theorem MediaS_modSet_points (x : MediaS) (n : Nat) (f : WSet → WSet) : (x.modSet n f).points = x.points := rfl
@[simp] theorem MediaS_modSet_nextSet (x : MediaS) (n : Nat) (f : WSet → WSet) : (x.modSet n f).nextSet = x.nextSet := rfl
@[simp] theorem MediaS_modSet_doms (x : MediaS) (n : Nat) (f : WSet → WSet) : (x.modSet n f).doms = x.doms := rfl
@[simp] theorem MediaS_modSet_debts (x : MediaS) (n : Nat) (f : WSet → WSet) : (x.modSet n f).debts = x.debts := rfl
@[simp] theorem MediaS_modSet_lastDom (x : MediaS) (n : Nat) (f : WSet → WSet) : (x.modSet n f).lastDom = x.lastDom := rfl
@[simp] theorem MediaS_modSet_readOnly (x : MediaS) (n : Nat) (f : WSet → WSet) : (x.modSet n f).readOnly = x.readOnly := rfl
@[simp] theorem MediaS_modSet_eraseFails (x : MediaS) (n : Nat) (f : WSet → WSet) : (x.modSet n f).eraseFails = x.eraseFails := rfl
@[simp] theorem MediaS_modSet_eraseBack (x : MediaS) (n : Nat) (f : WSet → WSet) : (x.modSet n f).eraseBack = x.eraseBack := rfl
@[simp] theorem MediaS_modSet_reads (x : MediaS) (n : Nat) (f : WSet → WSet) : (x.modSet n f).reads = x.reads := rfl
@[simp] theorem MediaS_modSet_readBase (x : MediaS) (n : Nat) (f : WSet → WSet) : (x.modSet n f).readBase = x.readBase := rfl
@[simp] theorem MediaS_modSet_emptyRows (x : MediaS) (n : Nat) (f : WSet → WSet) : (x.modSet n f).emptyRows = x.emptyRows := rfl
@[simp] theorem MediaS_modSet_shares (x : MediaS) (n : Nat) (f : WSet → WSet) : (x.modSet n f).shares = x.shares := rfl

/-! `FlashS.modChan` -/

@[simp] theorem FlashS_modChan_groves (x : FlashS) (c : Nat) (g : ChanS → ChanS) : (x.modChan c g).groves = x.groves := rfl
@[simp] theorem FlashS_modChan_dies (x : FlashS) (c : Nat) (g : ChanS → ChanS) : (x.modChan c g).dies = x.dies := rfl
@[simp] theorem FlashS_modChan_ops (x : FlashS) (c : Nat) (g : ChanS → ChanS) : (x.modChan c g).ops = x.ops := rfl
@[simp] theorem FlashS_modChan_nextOp (x : FlashS) (c : Nat) (g : ChanS → ChanS) : (x.modChan c g).nextOp = x.nextOp := rfl
@[simp] theorem FlashS_modChan_content (x : FlashS) (c : Nat) (g : ChanS → ChanS) : (x.modChan c g).content = x.content := rfl
@[simp] theorem FlashS_modChan_softWait (x : FlashS) (c : Nat) (g : ChanS → ChanS) : (x.modChan c g).softWait = x.softWait := rfl
@[simp] theorem FlashS_modChan_softBusy (x : FlashS) (c : Nat) (g : ChanS → ChanS) : (x.modChan c g).softBusy = x.softBusy := rfl
@[simp] theorem FlashS_modChan_condemned (x : FlashS) (c : Nat) (g : ChanS → ChanS) : (x.modChan c g).condemned = x.condemned := rfl
@[simp] theorem FlashS_modChan_condemnWait (x : FlashS) (c : Nat) (g : ChanS → ChanS) : (x.modChan c g).condemnWait = x.condemnWait := rfl
@[simp] theorem FlashS_modChan_retBits (x : FlashS) (c : Nat) (g : ChanS → ChanS) : (x.modChan c g).retBits = x.retBits := rfl
@[simp] theorem FlashS_modChan_rateBits (x : FlashS) (c : Nat) (g : ChanS → ChanS) : (x.modChan c g).rateBits = x.rateBits := rfl
@[simp] theorem FlashS_modChan_tracked (x : FlashS) (c : Nat) (g : ChanS → ChanS) : (x.modChan c g).tracked = x.tracked := rfl
@[simp] theorem FlashS_modChan_trackedTable (x : FlashS) (c : Nat) (g : ChanS → ChanS) : (x.modChan c g).trackedTable = x.trackedTable := rfl
@[simp] theorem FlashS_modChan_marks (x : FlashS) (c : Nat) (g : ChanS → ChanS) : (x.modChan c g).marks = x.marks := rfl
@[simp] theorem FlashS_modChan_saved (x : FlashS) (c : Nat) (g : ChanS → ChanS) : (x.modChan c g).saved = x.saved := rfl
@[simp] theorem FlashS_modChan_first (x : FlashS) (c : Nat) (g : ChanS → ChanS) : (x.modChan c g).first = x.first := rfl

/-! `FlashS.modGrove` -/

@[simp] theorem FlashS_modGrove_chans (x : FlashS) (g : Nat) (h : GroveRec → GroveRec) : (x.modGrove g h).chans = x.chans := rfl
@[simp] theorem FlashS_modGrove_dies (x : FlashS) (g : Nat) (h : GroveRec → GroveRec) : (x.modGrove g h).dies = x.dies := rfl
@[simp] theorem FlashS_modGrove_ops (x : FlashS) (g : Nat) (h : GroveRec → GroveRec) : (x.modGrove g h).ops = x.ops := rfl
@[simp] theorem FlashS_modGrove_nextOp (x : FlashS) (g : Nat) (h : GroveRec → GroveRec) : (x.modGrove g h).nextOp = x.nextOp := rfl
@[simp] theorem FlashS_modGrove_content (x : FlashS) (g : Nat) (h : GroveRec → GroveRec) : (x.modGrove g h).content = x.content := rfl
@[simp] theorem FlashS_modGrove_softWait (x : FlashS) (g : Nat) (h : GroveRec → GroveRec) : (x.modGrove g h).softWait = x.softWait := rfl
@[simp] theorem FlashS_modGrove_softBusy (x : FlashS) (g : Nat) (h : GroveRec → GroveRec) : (x.modGrove g h).softBusy = x.softBusy := rfl
@[simp] theorem FlashS_modGrove_condemned (x : FlashS) (g : Nat) (h : GroveRec → GroveRec) : (x.modGrove g h).condemned = x.condemned := rfl
@[simp] theorem FlashS_modGrove_condemnWait (x : FlashS) (g : Nat) (h : GroveRec → GroveRec) : (x.modGrove g h).condemnWait = x.condemnWait := rfl
@[simp] theorem FlashS_modGrove_retBits (x : FlashS) (g : Nat) (h : GroveRec → GroveRec) : (x.modGrove g h).retBits = x.retBits := rfl
@[simp] theorem FlashS_modGrove_rateBits (x : FlashS) (g : Nat) (h : GroveRec → GroveRec) : (x.modGrove g h).rateBits = x.rateBits := rfl
@[simp] theorem FlashS_modGrove_tracked (x : FlashS) (g : Nat) (h : GroveRec → GroveRec) : (x.modGrove g h).tracked = x.tracked := rfl
@[simp] theorem FlashS_modGrove_trackedTable (x : FlashS) (g : Nat) (h : GroveRec → GroveRec) : (x.modGrove g h).trackedTable = x.trackedTable := rfl
@[simp] theorem FlashS_modGrove_marks (x : FlashS) (g : Nat) (h : GroveRec → GroveRec) : (x.modGrove g h).marks = x.marks := rfl
@[simp] theorem FlashS_modGrove_saved (x : FlashS) (g : Nat) (h : GroveRec → GroveRec) : (x.modGrove g h).saved = x.saved := rfl
@[simp] theorem FlashS_modGrove_first (x : FlashS) (g : Nat) (h : GroveRec → GroveRec) : (x.modGrove g h).first = x.first := rfl

/-! `FlashS.modDie` -/

@[simp] theorem FlashS_modDie_chans (x : FlashS) (k : Nat) (g : DieS → DieS) : (x.modDie k g).chans = x.chans := rfl
@[simp] theorem FlashS_modDie_groves (x : FlashS) (k : Nat) (g : DieS → DieS) : (x.modDie k g).groves = x.groves := rfl
@[simp] theorem FlashS_modDie_ops (x : FlashS) (k : Nat) (g : DieS → DieS) : (x.modDie k g).ops = x.ops := rfl
@[simp] theorem FlashS_modDie_nextOp (x : FlashS) (k : Nat) (g : DieS → DieS) : (x.modDie k g).nextOp = x.nextOp := rfl
@[simp] theorem FlashS_modDie_content (x : FlashS) (k : Nat) (g : DieS → DieS) : (x.modDie k g).content = x.content := rfl
@[simp] theorem FlashS_modDie_softWait (x : FlashS) (k : Nat) (g : DieS → DieS) : (x.modDie k g).softWait = x.softWait := rfl
@[simp] theorem FlashS_modDie_softBusy (x : FlashS) (k : Nat) (g : DieS → DieS) : (x.modDie k g).softBusy = x.softBusy := rfl
@[simp] theorem FlashS_modDie_condemned (x : FlashS) (k : Nat) (g : DieS → DieS) : (x.modDie k g).condemned = x.condemned := rfl
@[simp] theorem FlashS_modDie_condemnWait (x : FlashS) (k : Nat) (g : DieS → DieS) : (x.modDie k g).condemnWait = x.condemnWait := rfl
@[simp] theorem FlashS_modDie_retBits (x : FlashS) (k : Nat) (g : DieS → DieS) : (x.modDie k g).retBits = x.retBits := rfl
@[simp] theorem FlashS_modDie_rateBits (x : FlashS) (k : Nat) (g : DieS → DieS) : (x.modDie k g).rateBits = x.rateBits := rfl
@[simp] theorem FlashS_modDie_tracked (x : FlashS) (k : Nat) (g : DieS → DieS) : (x.modDie k g).tracked = x.tracked := rfl
@[simp] theorem FlashS_modDie_trackedTable (x : FlashS) (k : Nat) (g : DieS → DieS) : (x.modDie k g).trackedTable = x.trackedTable := rfl
@[simp] theorem FlashS_modDie_marks (x : FlashS) (k : Nat) (g : DieS → DieS) : (x.modDie k g).marks = x.marks := rfl
@[simp] theorem FlashS_modDie_saved (x : FlashS) (k : Nat) (g : DieS → DieS) : (x.modDie k g).saved = x.saved := rfl
@[simp] theorem FlashS_modDie_first (x : FlashS) (k : Nat) (g : DieS → DieS) : (x.modDie k g).first = x.first := rfl

/-! `FlashS.modOp` -/

@[simp] theorem FlashS_modOp_chans (x : FlashS) (i : Nat) (g : DieOp → DieOp) : (x.modOp i g).chans = x.chans := rfl
@[simp] theorem FlashS_modOp_groves (x : FlashS) (i : Nat) (g : DieOp → DieOp) : (x.modOp i g).groves = x.groves := rfl
@[simp] theorem FlashS_modOp_dies (x : FlashS) (i : Nat) (g : DieOp → DieOp) : (x.modOp i g).dies = x.dies := rfl
@[simp] theorem FlashS_modOp_nextOp (x : FlashS) (i : Nat) (g : DieOp → DieOp) : (x.modOp i g).nextOp = x.nextOp := rfl
@[simp] theorem FlashS_modOp_content (x : FlashS) (i : Nat) (g : DieOp → DieOp) : (x.modOp i g).content = x.content := rfl
@[simp] theorem FlashS_modOp_softWait (x : FlashS) (i : Nat) (g : DieOp → DieOp) : (x.modOp i g).softWait = x.softWait := rfl
@[simp] theorem FlashS_modOp_softBusy (x : FlashS) (i : Nat) (g : DieOp → DieOp) : (x.modOp i g).softBusy = x.softBusy := rfl
@[simp] theorem FlashS_modOp_condemned (x : FlashS) (i : Nat) (g : DieOp → DieOp) : (x.modOp i g).condemned = x.condemned := rfl
@[simp] theorem FlashS_modOp_condemnWait (x : FlashS) (i : Nat) (g : DieOp → DieOp) : (x.modOp i g).condemnWait = x.condemnWait := rfl
@[simp] theorem FlashS_modOp_retBits (x : FlashS) (i : Nat) (g : DieOp → DieOp) : (x.modOp i g).retBits = x.retBits := rfl
@[simp] theorem FlashS_modOp_rateBits (x : FlashS) (i : Nat) (g : DieOp → DieOp) : (x.modOp i g).rateBits = x.rateBits := rfl
@[simp] theorem FlashS_modOp_tracked (x : FlashS) (i : Nat) (g : DieOp → DieOp) : (x.modOp i g).tracked = x.tracked := rfl
@[simp] theorem FlashS_modOp_trackedTable (x : FlashS) (i : Nat) (g : DieOp → DieOp) : (x.modOp i g).trackedTable = x.trackedTable := rfl
@[simp] theorem FlashS_modOp_marks (x : FlashS) (i : Nat) (g : DieOp → DieOp) : (x.modOp i g).marks = x.marks := rfl
@[simp] theorem FlashS_modOp_saved (x : FlashS) (i : Nat) (g : DieOp → DieOp) : (x.modOp i g).saved = x.saved := rfl
@[simp] theorem FlashS_modOp_first (x : FlashS) (i : Nat) (g : DieOp → DieOp) : (x.modOp i g).first = x.first := rfl

/-! `PlpS.modSets` -/

@[simp] theorem PlpS_modSets_state (x : PlpS) (g : Nat) (f : DumpRec → DumpRec) : (x.modSets g f).state = x.state := rfl
@[simp] theorem PlpS_modSets_testing (x : PlpS) (g : Nat) (f : DumpRec → DumpRec) : (x.modSets g f).testing = x.testing := rfl
@[simp] theorem PlpS_modSets_result (x : PlpS) (g : Nat) (f : DumpRec → DumpRec) : (x.modSets g f).result = x.result := rfl
@[simp] theorem PlpS_modSets_tMs (x : PlpS) (g : Nat) (f : DumpRec → DumpRec) : (x.modSets g f).tMs = x.tMs := rfl
@[simp] theorem PlpS_modSets_passed (x : PlpS) (g : Nat) (f : DumpRec → DumpRec) : (x.modSets g f).passed = x.passed := rfl
@[simp] theorem PlpS_modSets_pwrFailN (x : PlpS) (g : Nat) (f : DumpRec → DumpRec) : (x.modSets g f).pwrFailN = x.pwrFailN := rfl
@[simp] theorem PlpS_modSets_filtering (x : PlpS) (g : Nat) (f : DumpRec → DumpRec) : (x.modSets g f).filtering = x.filtering := rfl
@[simp] theorem PlpS_modSets_dumping (x : PlpS) (g : Nat) (f : DumpRec → DumpRec) : (x.modSets g f).dumping = x.dumping := rfl
@[simp] theorem PlpS_modSets_dumped (x : PlpS) (g : Nat) (f : DumpRec → DumpRec) : (x.modSets g f).dumped = x.dumped := rfl
@[simp] theorem PlpS_modSets_testFrom (x : PlpS) (g : Nat) (f : DumpRec → DumpRec) : (x.modSets g f).testFrom = x.testFrom := rfl
@[simp] theorem PlpS_modSets_epoch (x : PlpS) (g : Nat) (f : DumpRec → DumpRec) : (x.modSets g f).epoch = x.epoch := rfl
@[simp] theorem PlpS_modSets_recDumping (x : PlpS) (g : Nat) (f : DumpRec → DumpRec) : (x.modSets g f).recDumping = x.recDumping := rfl
@[simp] theorem PlpS_modSets_hdrDone (x : PlpS) (g : Nat) (f : DumpRec → DumpRec) : (x.modSets g f).hdrDone = x.hdrDone := rfl
@[simp] theorem PlpS_modSets_replayBegun (x : PlpS) (g : Nat) (f : DumpRec → DumpRec) : (x.modSets g f).replayBegun = x.replayBegun := rfl
@[simp] theorem PlpS_modSets_replayed (x : PlpS) (g : Nat) (f : DumpRec → DumpRec) : (x.modSets g f).replayed = x.replayed := rfl
@[simp] theorem PlpS_modSets_torn (x : PlpS) (g : Nat) (f : DumpRec → DumpRec) : (x.modSets g f).torn = x.torn := rfl
@[simp] theorem PlpS_modSets_warn4 (x : PlpS) (g : Nat) (f : DumpRec → DumpRec) : (x.modSets g f).warn4 = x.warn4 := rfl
@[simp] theorem PlpS_modSets_mediaErrors (x : PlpS) (g : Nat) (f : DumpRec → DumpRec) : (x.modSets g f).mediaErrors = x.mediaErrors := rfl
@[simp] theorem PlpS_modSets_huLow (x : PlpS) (g : Nat) (f : DumpRec → DumpRec) : (x.modSets g f).huLow = x.huLow := rfl
@[simp] theorem PlpS_modSets_fallAt (x : PlpS) (g : Nat) (f : DumpRec → DumpRec) : (x.modSets g f).fallAt = x.fallAt := rfl

/-! `DramS.modChan` -/

@[simp] theorem DramS_modChan_ready (x : DramS) (c : Nat) (f : DramChS → DramChS) : (x.modChan c f).ready = x.ready := rfl
@[simp] theorem DramS_modChan_rate (x : DramS) (c : Nat) (f : DramChS → DramChS) : (x.modChan c f).rate = x.rate := rfl
@[simp] theorem DramS_modChan_lines (x : DramS) (c : Nat) (f : DramChS → DramChS) : (x.modChan c f).lines = x.lines := rfl
@[simp] theorem DramS_modChan_selfRefresh (x : DramS) (c : Nat) (f : DramChS → DramChS) : (x.modChan c f).selfRefresh = x.selfRefresh := rfl
@[simp] theorem DramS_modChan_filled (x : DramS) (c : Nat) (f : DramChS → DramChS) : (x.modChan c f).filled = x.filled := rfl
@[simp] theorem DramS_modChan_retrainWait (x : DramS) (c : Nat) (f : DramChS → DramChS) : (x.modChan c f).retrainWait = x.retrainWait := rfl
@[simp] theorem DramS_modChan_ceRows (x : DramS) (c : Nat) (f : DramChS → DramChS) : (x.modChan c f).ceRows = x.ceRows := rfl
@[simp] theorem DramS_modChan_failing (x : DramS) (c : Nat) (f : DramChS → DramChS) : (x.modChan c f).failing = x.failing := rfl
@[simp] theorem DramS_modChan_tokens (x : DramS) (c : Nat) (f : DramChS → DramChS) : (x.modChan c f).tokens = x.tokens := rfl
@[simp] theorem DramS_modChan_scrubbed (x : DramS) (c : Nat) (f : DramChS → DramChS) : (x.modChan c f).scrubbed = x.scrubbed := rfl
@[simp] theorem DramS_modChan_saved (x : DramS) (c : Nat) (f : DramChS → DramChS) : (x.modChan c f).saved = x.saved := rfl

/-! `State.draw` -/

@[simp] theorem State_draw_pending (s : State) : s.draw.2.pending = s.pending := rfl
@[simp] theorem State_draw_time (s : State) : s.draw.2.time = s.time := rfl
@[simp] theorem State_draw_dev (s : State) : s.draw.2.dev = s.dev := rfl
@[simp] theorem State_draw_fuses (s : State) : s.draw.2.fuses = s.fuses := rfl
@[simp] theorem State_draw_params (s : State) : s.draw.2.params = s.params := rfl
@[simp] theorem State_draw_host (s : State) : s.draw.2.host = s.host := rfl
@[simp] theorem State_draw_nvm (s : State) : s.draw.2.nvm = s.nvm := rfl
@[simp] theorem State_draw_land (s : State) : s.draw.2.land = s.land := rfl
@[simp] theorem State_draw_map (s : State) : s.draw.2.map = s.map := rfl
@[simp] theorem State_draw_media (s : State) : s.draw.2.media = s.media := rfl
@[simp] theorem State_draw_flash (s : State) : s.draw.2.flash = s.flash := rfl
@[simp] theorem State_draw_cache (s : State) : s.draw.2.cache = s.cache := rfl
@[simp] theorem State_draw_plp (s : State) : s.draw.2.plp = s.plp := rfl
@[simp] theorem State_draw_dram (s : State) : s.draw.2.dram = s.dram := rfl
@[simp] theorem State_draw_pwr (s : State) : s.draw.2.pwr = s.pwr := rfl
@[simp] theorem State_draw_sec (s : State) : s.draw.2.sec = s.sec := rfl
@[simp] theorem State_draw_mgmt (s : State) : s.draw.2.mgmt = s.mgmt := rfl
@[simp] theorem State_draw_naile (s : State) : s.draw.2.naile = s.naile := rfl
@[simp] theorem State_draw_nor (s : State) : s.draw.2.nor = s.nor := rfl
@[simp] theorem State_draw_tally (s : State) : s.draw.2.tally = s.tally := rfl
@[simp] theorem State_draw_bus (s : State) : s.draw.2.bus = s.bus := rfl

/-! `State.modTag` -/

@[simp] theorem State_modTag_pending (s : State) (t : Nat) (g : TagE → TagE) : (s.modTag t g).pending = s.pending := rfl
@[simp] theorem State_modTag_time (s : State) (t : Nat) (g : TagE → TagE) : (s.modTag t g).time = s.time := rfl
@[simp] theorem State_modTag_dev (s : State) (t : Nat) (g : TagE → TagE) : (s.modTag t g).dev = s.dev := rfl
@[simp] theorem State_modTag_fuses (s : State) (t : Nat) (g : TagE → TagE) : (s.modTag t g).fuses = s.fuses := rfl
@[simp] theorem State_modTag_params (s : State) (t : Nat) (g : TagE → TagE) : (s.modTag t g).params = s.params := rfl
@[simp] theorem State_modTag_nvm (s : State) (t : Nat) (g : TagE → TagE) : (s.modTag t g).nvm = s.nvm := rfl
@[simp] theorem State_modTag_land (s : State) (t : Nat) (g : TagE → TagE) : (s.modTag t g).land = s.land := rfl
@[simp] theorem State_modTag_map (s : State) (t : Nat) (g : TagE → TagE) : (s.modTag t g).map = s.map := rfl
@[simp] theorem State_modTag_media (s : State) (t : Nat) (g : TagE → TagE) : (s.modTag t g).media = s.media := rfl
@[simp] theorem State_modTag_flash (s : State) (t : Nat) (g : TagE → TagE) : (s.modTag t g).flash = s.flash := rfl
@[simp] theorem State_modTag_cache (s : State) (t : Nat) (g : TagE → TagE) : (s.modTag t g).cache = s.cache := rfl
@[simp] theorem State_modTag_plp (s : State) (t : Nat) (g : TagE → TagE) : (s.modTag t g).plp = s.plp := rfl
@[simp] theorem State_modTag_dram (s : State) (t : Nat) (g : TagE → TagE) : (s.modTag t g).dram = s.dram := rfl
@[simp] theorem State_modTag_pwr (s : State) (t : Nat) (g : TagE → TagE) : (s.modTag t g).pwr = s.pwr := rfl
@[simp] theorem State_modTag_sec (s : State) (t : Nat) (g : TagE → TagE) : (s.modTag t g).sec = s.sec := rfl
@[simp] theorem State_modTag_mgmt (s : State) (t : Nat) (g : TagE → TagE) : (s.modTag t g).mgmt = s.mgmt := rfl
@[simp] theorem State_modTag_naile (s : State) (t : Nat) (g : TagE → TagE) : (s.modTag t g).naile = s.naile := rfl
@[simp] theorem State_modTag_nor (s : State) (t : Nat) (g : TagE → TagE) : (s.modTag t g).nor = s.nor := rfl
@[simp] theorem State_modTag_tally (s : State) (t : Nat) (g : TagE → TagE) : (s.modTag t g).tally = s.tally := rfl
@[simp] theorem State_modTag_bus (s : State) (t : Nat) (g : TagE → TagE) : (s.modTag t g).bus = s.bus := rfl
@[simp] theorem State_modTag_free (s : State) (t : Nat) (g : TagE → TagE) : (s.modTag t g).free = s.free := rfl

/-! `State.setConn` -/

@[simp] theorem State_setConn_pending (s : State) (k : SpdmConn) (c : SpdmS) : (s.setConn k c).pending = s.pending := rfl
@[simp] theorem State_setConn_time (s : State) (k : SpdmConn) (c : SpdmS) : (s.setConn k c).time = s.time := rfl
@[simp] theorem State_setConn_dev (s : State) (k : SpdmConn) (c : SpdmS) : (s.setConn k c).dev = s.dev := rfl
@[simp] theorem State_setConn_fuses (s : State) (k : SpdmConn) (c : SpdmS) : (s.setConn k c).fuses = s.fuses := rfl
@[simp] theorem State_setConn_params (s : State) (k : SpdmConn) (c : SpdmS) : (s.setConn k c).params = s.params := rfl
@[simp] theorem State_setConn_host (s : State) (k : SpdmConn) (c : SpdmS) : (s.setConn k c).host = s.host := rfl
@[simp] theorem State_setConn_nvm (s : State) (k : SpdmConn) (c : SpdmS) : (s.setConn k c).nvm = s.nvm := rfl
@[simp] theorem State_setConn_land (s : State) (k : SpdmConn) (c : SpdmS) : (s.setConn k c).land = s.land := rfl
@[simp] theorem State_setConn_map (s : State) (k : SpdmConn) (c : SpdmS) : (s.setConn k c).map = s.map := rfl
@[simp] theorem State_setConn_media (s : State) (k : SpdmConn) (c : SpdmS) : (s.setConn k c).media = s.media := rfl
@[simp] theorem State_setConn_flash (s : State) (k : SpdmConn) (c : SpdmS) : (s.setConn k c).flash = s.flash := rfl
@[simp] theorem State_setConn_cache (s : State) (k : SpdmConn) (c : SpdmS) : (s.setConn k c).cache = s.cache := rfl
@[simp] theorem State_setConn_plp (s : State) (k : SpdmConn) (c : SpdmS) : (s.setConn k c).plp = s.plp := rfl
@[simp] theorem State_setConn_dram (s : State) (k : SpdmConn) (c : SpdmS) : (s.setConn k c).dram = s.dram := rfl
@[simp] theorem State_setConn_pwr (s : State) (k : SpdmConn) (c : SpdmS) : (s.setConn k c).pwr = s.pwr := rfl
@[simp] theorem State_setConn_sec (s : State) (k : SpdmConn) (c : SpdmS) : (s.setConn k c).sec = s.sec := rfl
@[simp] theorem State_setConn_mgmt (s : State) (k : SpdmConn) (c : SpdmS) : (s.setConn k c).mgmt = s.mgmt := rfl
@[simp] theorem State_setConn_naile (s : State) (k : SpdmConn) (c : SpdmS) : (s.setConn k c).naile = s.naile := rfl
@[simp] theorem State_setConn_nor (s : State) (k : SpdmConn) (c : SpdmS) : (s.setConn k c).nor = s.nor := rfl
@[simp] theorem State_setConn_tally (s : State) (k : SpdmConn) (c : SpdmS) : (s.setConn k c).tally = s.tally := rfl
@[simp] theorem State_setConn_free (s : State) (k : SpdmConn) (c : SpdmS) : (s.setConn k c).free = s.free := rfl

/-! `State.putNs` -/

@[simp] theorem State_putNs_pending (s : State) (i : Nat) (x : NsS) : (s.putNs i x).pending = s.pending := rfl
@[simp] theorem State_putNs_time (s : State) (i : Nat) (x : NsS) : (s.putNs i x).time = s.time := rfl
@[simp] theorem State_putNs_dev (s : State) (i : Nat) (x : NsS) : (s.putNs i x).dev = s.dev := rfl
@[simp] theorem State_putNs_fuses (s : State) (i : Nat) (x : NsS) : (s.putNs i x).fuses = s.fuses := rfl
@[simp] theorem State_putNs_params (s : State) (i : Nat) (x : NsS) : (s.putNs i x).params = s.params := rfl
@[simp] theorem State_putNs_host (s : State) (i : Nat) (x : NsS) : (s.putNs i x).host = s.host := rfl
@[simp] theorem State_putNs_land (s : State) (i : Nat) (x : NsS) : (s.putNs i x).land = s.land := rfl
@[simp] theorem State_putNs_map (s : State) (i : Nat) (x : NsS) : (s.putNs i x).map = s.map := rfl
@[simp] theorem State_putNs_media (s : State) (i : Nat) (x : NsS) : (s.putNs i x).media = s.media := rfl
@[simp] theorem State_putNs_flash (s : State) (i : Nat) (x : NsS) : (s.putNs i x).flash = s.flash := rfl
@[simp] theorem State_putNs_cache (s : State) (i : Nat) (x : NsS) : (s.putNs i x).cache = s.cache := rfl
@[simp] theorem State_putNs_plp (s : State) (i : Nat) (x : NsS) : (s.putNs i x).plp = s.plp := rfl
@[simp] theorem State_putNs_dram (s : State) (i : Nat) (x : NsS) : (s.putNs i x).dram = s.dram := rfl
@[simp] theorem State_putNs_pwr (s : State) (i : Nat) (x : NsS) : (s.putNs i x).pwr = s.pwr := rfl
@[simp] theorem State_putNs_sec (s : State) (i : Nat) (x : NsS) : (s.putNs i x).sec = s.sec := rfl
@[simp] theorem State_putNs_mgmt (s : State) (i : Nat) (x : NsS) : (s.putNs i x).mgmt = s.mgmt := rfl
@[simp] theorem State_putNs_naile (s : State) (i : Nat) (x : NsS) : (s.putNs i x).naile = s.naile := rfl
@[simp] theorem State_putNs_nor (s : State) (i : Nat) (x : NsS) : (s.putNs i x).nor = s.nor := rfl
@[simp] theorem State_putNs_tally (s : State) (i : Nat) (x : NsS) : (s.putNs i x).tally = s.tally := rfl
@[simp] theorem State_putNs_bus (s : State) (i : Nat) (x : NsS) : (s.putNs i x).bus = s.bus := rfl
@[simp] theorem State_putNs_free (s : State) (i : Nat) (x : NsS) : (s.putNs i x).free = s.free := rfl

/-! A read after a write -/

@[simp] theorem HostS_port_setPort (h : HostS) (p : Port) (x : PortS) : (h.setPort p x).port p = x := by
  unfold HostS.port HostS.setPort; split <;> simp_all

theorem HostS_port_setPort_other (h : HostS) {p q : Port} (x : PortS) (hpq : q ≠ p) : (h.setPort p x).port q = h.port q := by
  fin_cases p <;> fin_cases q <;> first | rfl | exact absurd rfl hpq

@[simp] theorem NvmS_lease_setLease (n : NvmS) (p : Port) (l : LeaseS) : (n.setLease p l).lease p = l := by
  unfold NvmS.lease NvmS.setLease; split <;> simp_all

@[simp] theorem MapS_grove_modGrove (m : MapS) (g : Grove) (f : GroveMap → GroveMap) : (m.modGrove g f).grove g = f (m.grove g) := by
  simp [MapS.grove, MapS.modGrove]

end Sys2Proof.Machine
end

