-- ==== Sys2Proof/Laws/Tally.lean ====
section
/-! SUPPORT. What the Tally's intake does with an occurrence that is suppressed. -/

namespace Sys2Proof.Machine

/-- A suppressed occurrence (17 R473): only the code's bucket and the count of suppressed occurrences change. -/
theorem TallyS.intake_suppressed (t : TallyS) (e : Bool) (pm r b : Nat) (now : Qword) (x : TallyIn) (k : Bucket)
    (h1 : ∀ m l, x.mseq = some m → t.lastMseq = some l → serialNewer (BitVec.ofNat 32 m) l = true)
    (h2 : (decide (sevCritical ≤ x.sev) || x.code / 256 == 0x13) = false)
    (hk : ((sget t.buckets x.code).getD (fullBucket b now.toNat)).refill r b now.toNat = k)
    (h4 : k.take.2 = false) :
    t.intake e pm r b now x = (0, { t with
      buckets := sput x.code (k.take.1.note now.toNat x.sev x.p0) t.buckets
      suppressed := t.suppressed + 1 }) := by
  unfold TallyS.intake
  rw [hk]
  rw [h2]
  cases hm : x.mseq with
  | none => simp only [h4]; rfl
  | some m => cases hl : t.lastMseq with
    | none => simp only [h4]; rfl
    | some l => simp only [h1 m l hm hl, h4]; rfl

end Sys2Proof.Machine
end

