-- ==== Sys2Proof/Machine/Package.lean ====
section
/-! DEFINITION. The package (19): the ball map, the rails and their power-on reset thresholds, the pads through reset and PS4 (12 R356, R357; 19 R518),
and the clock domains (13 R375, R376). -/

namespace Sys2Proof.Machine

/-! ## Rails (R512, Table 19-7) -/

/-- A supply rail. -/
inductive Rail where
  | core | sram | aon | mram | sd09 | sd12 | qf | qd | v18 | v33 | svc
  deriving DecidableEq, Repr

/-- The lowest and the highest voltage of a rail in its range, in 0.1 mV; VDD_SVC in its lower range. -/
def Rail.range : Rail → Nat × Nat
  | .core => (7275, 7725)
  | .sram => (7760, 8240)
  | .aon => (7760, 8240)
  | .mram => (7760, 8240)
  | .sd09 => (8730, 9270)
  | .sd12 => (11640, 12360)
  | .qf => (11400, 12600)
  | .qd => (10670, 11330)
  | .v18 => (17100, 18900)
  | .v33 => (31350, 34650)
  | .svc => (17100, 18900)

/-- The falling and the rising threshold of power-on reset, in 0.1 mV; none of a rail that is not monitored. -/
def Rail.threshold : Rail → Option (Nat × Nat)
  | .core => some (7000, 7150)
  | .sram => some (7400, 7600)
  | .aon => some (7400, 7600)
  | .mram => some (7400, 7600)
  | .v18 => some (16200, 16600)
  | _ => none

/-- A rail at this voltage for this long asserts power-on reset (12 R349; Table 19-16). -/
def Rail.resets (r : Rail) (v ns : Nat) : Bool :=
  match r.threshold with
  | some t => decide (v < t.1 ∧ 1000 ≤ ns)
  | none => false

/-! ## Ball map (R506 to R511) -/

/-- What a ball carries. -/
inductive Ball where
  /-- A signal of a flash channel, FCnn_. -/
  | flash (ch : Nat) (sig : String)
  /-- The write protect of a grove, FWPg_N. -/
  | writeProtect (g : Nat)
  /-- A signal of a port, Pp_. -/
  | port (p : Nat) (sig : String)
  /-- A signal of a port's lane. -/
  | lane (p n : Nat) (transmit positive : Bool)
  /-- A signal of a DRAM channel, by its order in Table 19-5. -/
  | dram (d order : Nat)
  | core (sig : String)
  | rail (r : Rail)
  | vss
  deriving DecidableEq, Repr

/-- The ball carries a signal. -/
def Ball.isSignal : Ball → Bool
  | .rail _ => false
  | .vss => false
  | _ => true

/-- The rows of a flash channel's block (Table 19-3). -/
def flashUpper : List String := ["DQ0", "DQ1", "DQ2", "DQ3", "DQ4", "DQ5", "DQ6", "DQ7", "DQS_T", "DQS_C"]
/-- The second row of a flash channel's block. -/
def flashLower : List String := ["RE_T", "RE_C", "WE_N", "ALE", "CLE", "CE_N0", "CE_N1", "CE_N2", "CE_N3", "RB_N"]

/-- A flash region by its west column, with the first channel and the first grove of its side (R508). -/
def flashBall (row x ch0 g0 : Nat) : Ball :=
  if x = 11 then (if row % 2 = 1 then .rail .qf else .vss)
  else if row ≤ 64 then .flash (ch0 + (row - 1) / 2) ((if row % 2 = 1 then flashUpper else flashLower).getD (x - 1) "")
  else if row = 65 then (if x ≤ 4 then .writeProtect (g0 + x - 1) else .vss)
  else .rail .qf

/-- The host region (R509, Table 19-4). -/
def hostBall (row col : Nat) : Ball :=
  let p := (col - 12) / 23
  let r := (col - 12) % 23
  if row % 2 = 1 then (if r < 16 || row ≤ 3 then .vss else .rail .sd12)
  else if r < 16 then .lane p (r / 2 + (if row % 4 = 0 then 8 else 0)) (decide (row ≤ 4)) (r % 2 == 0)
  else if row < 8 then .rail .sd09
  else if 21 ≤ r then .rail .sd12
  else .port p (["REFCLK_P", "REFCLK_N", "PERST_N", "CLKREQ_N", "SD_CAL"].getD (r - 16) "")

/-- Row 36 of the core region (Table 19-6), from column 12. -/
def row36 : List String :=
  ["NOR_SCK", "NOR_CS_N", "NOR_IO0", "NOR_IO1", "NOR_IO2", "NOR_IO3", "NOR_RST_N", "NSCK", "NCS_N", "NIO0", "NIO1", "NIO2", "NIO3", "ALERT_N",
   "MB_SCL", "MB_SDA", "MB_ALERT_N", "TCK", "TMS", "TDI", "TDO", "TRST_N", "RESET_N", "PWR_FAIL_N", "RECOVER_N", "REFCLK_CORE_P",
   "REFCLK_CORE_N", "TD_A", "TD_K", "GPIO0", "GPIO1", "GPIO2", "GPIO3", "GPIO4", "GPIO5", "GPIO6", "GPIO7", "GPIO8", "GPIO9", "GPIO10",
   "GPIO11", "GPIO12", "GPIO13", "GPIO14", "GPIO15", "TESTEN"]

/-- The core region (R511, Table 19-6). -/
def coreBall (row col : Nat) : Ball :=
  if row = 36 then .core (row36.getD (col - 12) "")
  else if row = 35 ∧ col = 13 then .core "XOUT"
  else if (row + col) % 2 = 0 then .vss
  else if row ≤ 31 then .rail .core
  else if row = 32 then .rail .mram
  else if row ≤ 34 then .rail .sram
  else if col = 12 then .core "XIN"
  else if col ≤ 20 then .rail .aon
  else if col ≤ 36 then .rail .v18
  else if col ≤ 44 then .rail .v33
  else if col ≤ 48 then .rail .svc
  else .rail .mram

/-- A supply position of a DRAM strip, by the row's offset (R510). -/
def dramSupply (i col : Nat) : Option Ball :=
  if i % 2 = 0 then (if col % 4 = 0 then some (.rail .qd) else none)
  else if 14 ≤ col ∧ (col - 14) % 6 = 0 then some .vss else none

/-- Signal positions of a row of a DRAM strip left of a column. -/
def dramBefore (i col : Nat) : Nat := ((List.range (col - 12)).filter (fun k => (dramSupply i (12 + k)).isNone)).length

/-- The DRAM region (R510). -/
def dramBall (row col : Nat) : Ball :=
  let i := (row - 37) % 4
  match dramSupply i col with
  | some b => b
  | none => .dram ((row - 37) / 4) (((List.range i).map (fun j => dramBefore j 58)).sum + dramBefore i col)

/-- The ball at a row and a column (R506, R507); none outside the grid. -/
def ballAt (row col : Nat) : Option Ball :=
  if row = 0 ∨ 68 < row ∨ col = 0 ∨ 68 < col then none
  else if col ≤ 11 then some (flashBall row col 0 0)
  else if 58 ≤ col then some (flashBall row (69 - col) 32 4)
  else if row ≤ 8 then some (hostBall row col)
  else if row ≤ 36 then some (coreBall row col)
  else some (dramBall row col)

/-- A DRAM channel's signal by its order (Table 19-5). -/
def dramSignal (order : Nat) : String :=
  let half := if order < 70 then "A_" else "B_"
  let k := order % 70
  if 140 ≤ order then ["DCK_T", "DCK_C", "ALERT_N", "RESET_N"].getD (order - 140) ""
  else if k < 32 then half ++ "DQ" ++ toString k
  else if k < 40 then half ++ "CB" ++ toString (k - 32)
  else if k < 60 then half ++ (if k % 2 = 0 then "DQS_T" else "DQS_C") ++ toString ((k - 40) / 2)
  else if k < 67 then half ++ "DCA" ++ toString (k - 60)
  else if k = 67 then half ++ "DPAR"
  else half ++ "DCS_N" ++ toString (k - 68)

/-! ## Pads (12 R356, Table 12-4; 19 R518, Table 19-12) -/

/-- What a pad does. -/
inductive PadState where
  | highZ | input | low | high | released | poweredDown | electricalIdle | terminationOff
  /-- The port island or the AON latch holds it. -/
  | held
  /-- Its unit drives it as it runs. -/
  | unit
  deriving DecidableEq, Repr

/-- The balls of Table 19-12. -/
inductive Pad where
  | flashCe (ch : Chan) | flashData (ch : Chan) | flashRb (ch : Chan) | flashWp (g : Grove) | dramReset | dramCs | dramData | dramAlert
  | portTx (p : Port) | portRx (p : Port)
  | refclk | perst | clkreq | norCs | norRst | norData | naileData | naileCs | naileAlert | mbus | tapDown | tapUp | tdo | resets
  | gpio (n : Fin 16) | testen
  deriving DecidableEq, Repr

/-- Before step 3 of the release at a power-on reset. -/
def Pad.before : Pad → PadState
  | .flashRb _ => .input
  | .dramAlert => .input
  | .portTx _ => .poweredDown
  | .portRx _ => .terminationOff
  | .refclk => .input
  | .perst => .input
  | .clkreq => .released
  | .resets => .input
  | .testen => .input
  | _ => .highZ

/-- The state that the fuse map gives; only GPIO can be changed in it. -/
def FuseS.pad (f : FuseS) : Pad → PadState
  | .flashCe _ => .high
  | .flashData _ => .highZ
  | .flashRb _ => .input
  | .flashWp _ => .low
  | .dramReset => .low
  | .dramCs => .highZ
  | .dramData => .highZ
  | .dramAlert => .input
  | .portTx _ => .electricalIdle
  | .portRx _ => .terminationOff
  | .refclk => .input
  | .perst => .input
  | .clkreq => .released
  | .norCs => .high
  | .norRst => .low
  | .norData => .highZ
  | .naileData => .input
  | .naileCs => .input
  | .naileAlert => .released
  | .mbus => .released
  | .tapDown => .input
  | .tapUp => .input
  | .tdo => .highZ
  | .resets => .input
  | .gpio n => if f.gpioDrive.getLsbD n.val then (if f.gpioLevel.getLsbD n.val then .high else .low) else .input
  | .testen => .input

/-- In PS4. -/
def Pad.asleep : Pad → PadState
  | .flashCe _ => .high
  | .flashWp _ => .low
  | .dramReset => .high
  | .dramCs => .high
  | .portTx _ => .held
  | .portRx _ => .held
  | .clkreq => .held
  | .norCs => .highZ
  | .norRst => .highZ
  | .naileData => .highZ
  | .naileCs => .highZ
  | .gpio _ => .held
  | .flashRb _ => .input
  | .dramAlert => .input
  | .refclk => .input
  | .perst => .input
  | .naileAlert => .released
  | .mbus => .released
  | .tapDown => .input
  | .tapUp => .input
  | .resets => .input
  | .testen => .input
  | _ => .highZ

/-- What a RETIRED channel's pads do (07 R244); none of a pad of no such channel. -/
def State.padRetired (s : State) : Pad → Option PadState
  | .flashCe ch => if (s.flash.chan ch).state == .retired then some .high else none
  | .flashData ch => if (s.flash.chan ch).state == .retired then some .highZ else none
  | .flashRb ch => if (s.flash.chan ch).state == .retired then some .highZ else none
  | _ => none

/-- While the device runs: what State holds of the pad, or its unit's. HU_TEST_N is driven low through a capacitor test (09 R286), and the
transmitters of the ports are in electrical idle from step 2 of a power-loss dump on (09 R292). -/
def State.padRunning (s : State) (p : Pad) : PadState :=
  (s.padRetired p).getD (match p with
  | .flashWp g => if s.dev.latchFlash then .low else if s.dev.wpN.getLsbD g.val then .high else .low
  | .flashCe _ => if s.dev.latchFlash then .high else .unit
  | .dramReset => if s.dev.latchDram then .high else .unit
  | .dramCs => if s.dev.latchDram then .high else .unit
  | .norRst => if s.dev.norRstN then .high else .low
  | .portTx _ => if s.plp.dumping || s.dev.halted then .electricalIdle else .unit
  | .gpio n =>
    if s.dev.latchGpio then .held
    else if s.plp.testing && n.val == s.par P.PLP_HU_TEST_GPIO then .low
    else if s.dev.gpioDrive.getLsbD n.val then (if s.dev.gpioLevel.getLsbD n.val then .high else .low)
    else .unit
  | _ => .unit)

/-- The pads before step 3 at a power-on reset (R356). -/
def State.beforeStep3 (s : State) : Bool := s.dev.por || (s.dev.phase == .inReset && s.dev.porSeen)

/-- The state of a pad: through a power-on reset, a pin reset, PS4 and running. The AON latch holds the DRAM group while DRAM is in self-refresh (12
R351, 11 R342). With the fuse map unreadable the pads keep its default states (R355). -/
def State.pad (s : State) (p : Pad) : PadState :=
  if s.beforeStep3 then p.before
  else if s.dev.phase == .inReset || s.dev.phase == .stopped then
    match p with
    | .dramReset => if s.dev.latchDram then .high else .low
    | .dramCs => if s.dev.latchDram then .high else .highZ
    | .gpio _ => if s.dev.fuseFail then .input else s.fuses.pad p
    | _ => s.fuses.pad p
  else if s.pwr.ps = 4 then p.asleep
  else s.padRunning p

/-! ## Clock domains (13 R375, R376, Table 13-1) -/

/-- The root PLL, in Hz (R374). -/
def rootHz : Nat := 9600000000

/-- The division of the root of a PLL-derived domain, 5 to 18; DRAMPHY follows the rate (R325). -/
def State.divider (s : State) (n : Nat) : Nat :=
  if n ≤ 7 ∨ n = 12 ∨ n = 15 then 6
  else if n = 16 then (if s.dram.rate = 4800 then 4 else if s.dram.rate = 3200 then 6 else 3)
  else if n = 17 then 16
  else if n = 18 then 4
  else 8

/-- What a domain's clock does. -/
inductive ClkState where
  | running | gated | off
  deriving DecidableEq, Repr

/-- A domain in PS3. -/
def ps3Clock (n : Nat) : ClkState := if [7, 11, 12, 13, 14, 17, 18].contains n then .gated else if n = 6 then .off else .running

/-- A domain of the 18 in the present power state; in PS4 AON runs, with the matcher of MBUS and the port islands. -/
def State.clock (s : State) (n : Nat) : ClkState :=
  if s.pwr.ps = 4 then (if [1, 4, 9, 10].contains n then .running else .off)
  else if s.pwr.ps = 3 then ps3Clock n
  else .running

/-- What the clock of a channel's sequencer (FSEQ) or LDPC decoder (CODEC) does: those of a RETIRED channel are gated (07 R244). -/
def State.channelClock (s : State) (ch n : Nat) : ClkState :=
  if (n = 17 ∨ n = 13) ∧ (s.flash.chan ch).state = .retired ∧ s.clock n = .running then .gated else s.clock n

/-- A domain runs on its PLL clock: its bit of SEL is set and the PLL is locked (R375). -/
def State.onPll (s : State) (n : Nat) : Bool := decide (5 ≤ n ∧ n ≤ 18) && s.dev.clkCtrl.getLsbD 31 && s.dev.clkCtrl.getLsbD (n - 1)

/-- The frequency of a PLL-derived domain on its PLL clock. -/
def State.clockHz (s : State) (n : Nat) : Nat := rootHz / s.divider n

/-- A port's SerDes PLL locks to that port's own reference in common-clock mode, to REFCLK_CORE in SRIS mode (R376). -/
def State.serdesOnPort (s : State) (p : Port) : Bool := !(if p = 0 then s.dev.opt.port0 else s.dev.opt.port1).sris

end Sys2Proof.Machine
end

