-- ==== Sys2Proof/WellFormed.lean ====
section
/-! DEFINITION. Which commands are well formed: every operand that the spec gives a width or a set of values lies within it (02 Table 2-1;
03 R70; 06 R176; 10 Table 10-1; 18 Table 18-1). exec has a meaning for every term, well formed or not. -/

namespace Sys2Proof

/-- A tag of the command tag table (03 R70: 65,536 entries). -/
def tagOk (t : Nat) : Bool := decide (t < 65536)

/-- A 16-bit operand. -/
def fits16 (n : Nat) : Bool := decide (n < 65536)

/-- A 32-bit operand. -/
def fits32 (n : Nat) : Bool := decide (n < 4294967296)

/-- A parameter instance (18 Table 18-1). -/
def fits8 (n : Nat) : Bool := decide (n < 256)

/-- A trained width (02 Table 2-1). -/
def widthOk (n : Nat) : Bool := [1, 2, 4, 8, 16].contains n

/-- A trained rate in GT/s, rounded down (02 Table 2-1: 2.5, 5, 8, 16, 32, 64). -/
def rateOk (n : Nat) : Bool := [2, 5, 8, 16, 32, 64].contains n

/-- The operands of a command lie within their widths. -/
def Instr.wf : Instr → Bool
  | .perstAssert _ => true
  | .perstDeassert _ _ => true
  | .hotReset _ => true
  | .dataLinkDown _ => true
  | .linkUp _ width rate => widthOk width && rateOk rate.gts
  | .configurationRequest _ => true
  | .linkL1Exit _ _ => true
  | .functionLevelReset _ => true
  | .ccEnSet _ asqs acqs => decide (asqs < 4096) && decide (acqs < 4096)
  | .ccEnClear _ => true
  | .sqTailDoorbell _ sq tail entries => decide (sq < 65536) && decide (tail < 65536) && entries.all (fun e => decide (e.cid < 65536))
  | .cqHeadDoorbell _ cq head => decide (cq < 65536) && decide (head < 65536)
  | .tagAvailable _ sq => decide (sq < 65536)
  | .poisonedCompletion _ => true
  | .completionTimeout _ => true
  | .registerWrite _ _ => true
  | .keepAliveTimeout _ => true
  | .orderedCommandBegin tag => tagOk tag
  | .nextDispatch _ _ => true
  | .deleteIoSq tag => tagOk tag
  | .createIoSq tag => tagOk tag
  | .deleteIoCq tag => tagOk tag
  | .createIoCq tag => tagOk tag
  | .getLogPage tag => tagOk tag
  | .identify tag => tagOk tag
  | .abort tag => tagOk tag
  | .arbitration tag => tagOk tag
  | .powerManagement tag => tagOk tag
  | .temperatureThreshold tag => tagOk tag
  | .volatileWriteCache tag => tagOk tag
  | .numberOfQueues tag => tagOk tag
  | .interruptCoalescing tag => tagOk tag
  | .interruptVectorConfiguration tag => tagOk tag
  | .writeAtomicityNormal tag => tagOk tag
  | .asyncEventConfiguration tag => tagOk tag
  | .timestamp tag => tagOk tag
  | .keepAliveTimer tag => tagOk tag
  | .hostIdentifier tag => tagOk tag
  | .reservationNotificationMask tag => tagOk tag
  | .reservationPersistence tag => tagOk tag
  | .unsupportedFeature tag => tagOk tag
  | .getFeatures tag => tagOk tag
  | .asynchronousEventRequest tag => tagOk tag
  | .namespaceCreate tag => tagOk tag
  | .namespaceDelete tag => tagOk tag
  | .namespaceAttach tag => tagOk tag
  | .namespaceDetach tag => tagOk tag
  | .keepAlive tag => tagOk tag
  | .formatNvm tag => tagOk tag
  | .sanitizeCryptoErase tag => tagOk tag
  | .sanitizeBlockErase tag => tagOk tag
  | .sanitizeExitFailureMode tag => tagOk tag
  | .sanitizeOverwrite tag => tagOk tag
  | .firmwareCommit tag => tagOk tag
  | .firmwareImageDownload tag => tagOk tag
  | .mapLeaseGrant tag => tagOk tag
  | .mapLeaseRevoke tag => tagOk tag
  | .mapLeaseStatus tag => tagOk tag
  | .standStatus tag => tagOk tag
  | .invalidAdminOpcode tag => tagOk tag
  | .flush tag => tagOk tag
  | .write tag => tagOk tag
  | .read tag => tagOk tag
  | .compare tag => tagOk tag
  | .writeZeroes tag => tagOk tag
  | .datasetManagement tag => tagOk tag
  | .reservationRegister tag => tagOk tag
  | .reservationReport tag => tagOk tag
  | .reservationAcquire tag => tagOk tag
  | .reservationRelease tag => tagOk tag
  | .orderedWrite tag => tagOk tag
  | .orderedRead tag => tagOk tag
  | .orderedDatasetManagement tag => tagOk tag
  | .gatherRead tag => tagOk tag
  | .invalidIoOpcode tag => tagOk tag
  | .slicedOperationStart _ => true
  | .slice _ _ => true
  | .dmaContextComplete _ chain _ => decide (chain.length ≤ 65536)
  | .orderingToken _ => true
  | .cordGrant => true
  | .gatherWindow tag => tagOk tag
  | .leafMiss _ _ => true
  | .leaseWriteBackDone _ => true
  | .leaseFetchDone _ _ => true
  | .leaseRevokeDone _ => true
  | .mapLeaseRekey _ v => fits32 v
  | .journalCommitDone _ => true
  | .checkpointSlice _ => true
  | .mapRebuild _ _ => true
  | .windrowSetPlacement _ _ => true
  | .parityTransfer _ => true
  | .forceWaitExpiry _ => true
  | .idleForceExpiry _ => true
  | .openIdleClose _ _ _ => true
  | .gseqAgeLimit _ => true
  | .thinningSlice _ _ => true
  | .victimEraseStart _ n => decide (n < 16383)
  | .cruiseSlice _ => true
  | .cruiseLate _ => true
  | .medReadOnlyRelease _ v => fits32 v
  | .dieQueueArrival _ => true
  | .dieStatusPoll _ _ _ => true
  | .readyBusyTimeout _ _ _ => true
  | .busArbitrationPoint _ _ => true
  | .hardDecodeDone _ _ _ => true
  | .softDecodeDone _ _ _ => true
  | .programDone _ _ => true
  | .eraseDone _ _ => true
  | .channelTraining _ _ _ => true
  | .driftTracking _ _ _ => true
  | .liveRetrainSlice _ _ _ => true
  | .padMonitorCheck _ _ => true
  | .rebuildSlice _ => true
  | .chnDegradedClear _ v => fits32 v
  | .capacitorTestStart _ _ => true
  | .plpTestNow _ v _ => fits32 v
  | .huLowRise _ => true
  | .capacitorTestTimeout => true
  | .pwrFailNFall => true
  | .powerLossDump => true
  | .deferredResetTimeout => true
  | .writeCacheReplay _ => true
  | .standCtlCreate _ _ => true
  | .standCtlModify _ _ => true
  | .standCtlDelete _ _ => true
  | .standDeleteRun _ => true
  | .standCtlAttach _ _ _ => true
  | .standCtlDetach _ _ _ => true
  | .standCtlQuery _ _ => true
  | .standPreparationDone _ => true
  | .standRelocationDone _ => true
  | .dramTraining _ => true
  | .dramZeroFillSlice => true
  | .dramScrub line _ => decide (line < 4294967296)
  | .dramAlert _ _ _ => true
  | .dramTemperatureChange _ _ => true
  | .drmRetrainNow _ v => fits32 v
  | .dramLiveRetrainSlice _ _ => true
  | .dramRefresh _ bank => decide (bank < 32)
  | .dramActivationLimit _ bank => decide (bank < 32)
  | .dramTokenRequest _ => true
  | .powerOnResetAssert => true
  | .powerOnResetRelease _ _ => true
  | .resetNAssert _ => true
  | .resetNRelease _ _ => true
  | .pllLock _ => true
  | .startupComplete => true
  | .clkCtrlWrite _ => true
  | .refclkLoss => true
  | .temperatureSample _ => true
  | .governorTick _ => true
  | .lpoCalibration => true
  | .powerStateEntry => true
  | .smbusAddressMatch _ _ => true
  | .smbusMatchTimeout => true
  | .patrolWake _ => true
  | .patrolTimeout => true
  | .pwrPadReleaseWrite _ => true
  | .secLifecycleAdvance _ v => fits32 v
  | .secSvnCommit _ v => fits32 v
  | .idcode => true
  | .samplePreload => true
  | .extest => true
  | .clamp => true
  | .highz => true
  | .secstat => true
  | .dap _ => true
  | .provision => true
  | .bypass _ => true
  | .debugTokenChallenge _ => true
  | .debugTokenOpen _ _ => true
  | .debugTokenClose _ => true
  | .sessionLifetimeExpiry => true
  | .nonceExpiry => true
  | .getVersion _ => true
  | .getCapabilities _ => true
  | .negotiateAlgorithms _ _ => true
  | .getDigests _ => true
  | .getCertificate _ _ _ _ => true
  | .challenge _ _ _ => true
  | .getMeasurements _ _ _ _ => true
  | .getLmsCert _ => true
  | .getLmsSig _ => true
  | .spdmUnsupportedRequest _ _ => true
  | .readNvmeMiDataStructure _ _ => true
  | .nvmSubsystemHealthStatusPoll _ => true
  | .controllerHealthStatusPoll _ _ _ => true
  | .configurationGet _ => true
  | .configurationSet _ _ => true
  | .vpdRead _ _ => true
  | .miAdminTunnel _ _ => true
  | .miInvalidParameter _ => true
  | .basicManagementCommand offset length => decide (offset < 256) && decide (length < 256)
  | .smbusArp _ => true
  | .mgmtCheckpoint => true
  | .watchdogExpiry => true
  | .mgmtFault _ => true
  | .mgtHandoverNow _ v => fits32 v
  | .handoverTimeout _ => true
  | .standbySelfTest _ => true
  | .groveRestart _ => true
  | .groveRestartTimeout _ => true
  | .readStatus => true
  | .readResp => true
  | .readAlert => true
  | .paramRead _ id inst => fits16 id && fits8 inst
  | .statusWindowRead _ id inst => fits16 id && fits8 inst
  | .reconfig _ r => decide (r.payload.length ≤ 4096)
  | .imageBegin _ _ _ => true
  | .imageChunk _ _ count _ _ => decide (count ≤ 65536)
  | .norSectorWritten _ => true
  | .imageEnd _ _ _ => true
  | .commitImage _ _ _ => true
  | .commitConfiguration _ _ _ => true
  | .raiseReleaseFloor _ => true
  | .restoreSpare _ _ => true
  | .updateTimeout => true
  | .tallyRead _ _ _ _ => true
  | .healthRead _ _ => true
  | .rawDiag _ _ _ length => decide (length ≤ 65536)
  | .recoveryStatus _ => true
  | .unknownType _ _ => true
  | .tallyRecord _ => true
  | .tallyCodeQuiet _ => true
  | .tallyTierCopy => true
  | .quiescentPointApply _ => true
  | .drainLate id inst => fits16 id && fits8 inst
  | .pwrFailNRise => true
  | .writeFrame _ => true
  | .takeover => true
  | .groveRestartComplete _ => true
  | .unsupportedRequestReceived _ _ => true
  | .interruptAggregationTime _ cq => decide (cq < 65536)

end Sys2Proof
end

