-- ==== Sys2Proof/Tests/Slice0.lean ====
section
/-! SUPPORT. Tests on fixed values: the checks of WellFormed, the hypotheses of the statements (a state and operands
that meet them all together), and what single steps leave, with values from the spec. -/

namespace Sys2Proof.Tests

open Sys2Proof Sys2Proof.Machine

set_option Elab.async false

/-! ## Small states -/

/-- A port whose link is up. -/
def port : PortS :=
  { perst := false, linkUp := true, training := false, width := 16, rate := 32, l1 := false, vfEnable := true, withheld := false }

/-- The device as start-up leaves it, with both links up and the controllers 0 and 1 enabled. -/
def up : State :=
  { State.reset with
    dev := { State.reset.dev with
      por := false, porSeen := false, phase := .running, clkCtrl := 0x80000000, configured := true, mapDone := 255,
      replayDone := true, wpN := 255 }
    host := { State.reset.host with
      port0 := port, port1 := port,
      funcs := [(0, { FuncS.cleared with cc := 1, rdy := true }), (1, { FuncS.cleared with cc := 1, rdy := true })] }
    mgmt := { State.reset.mgmt with runs := true }
    dram := { State.reset.dram with ready := true, filled := 4 } }

/-- The same, still starting up. -/
def booting : State := { up with dev := { up.dev with phase := .booting } }

/-- A command under a tag. -/
def entry (sqid : Nat) (ph : TagPhase) (c : NvmeCmd) : TagE :=
  { cntl := 0, sqid := sqid, cqid := sqid, cid := 7, aseq := 0, cmd := c, pool := .shared, phase := ph, got := [], waits := [],
    failure := none, groups := [], covered := [], commits := 0, charge := 0, ctxLeft := 0, reread := [], locs := [], cordOf := [],
    ptr := { kind := .prp, bytes := 1048576, bitBucket := [], keyed := false, misaligned := false }, gather := none }
/-- An admin command that has been accepted. -/
def admTag (c : NvmeCmd) : TagE := entry 0 .accepted c
/-- An I/O command that dispatch has begun. -/
def ioTag (c : NvmeCmd) : TagE := entry 1 .dispatched c
/-- A state with an entry under tag 5. -/
def tagged (s : State) (e : TagE) : State := { s with host := { s.host with tags := [(5, e)] } }

/-- A namespace of 1 GiB, attached to controller 0. -/
def ns : NsS :=
  { nlb := 262144, stand := 3, attached := [0], detaching := [], mode := .normal, modeFrom := 0, keyGen := 0, keyValid := true,
    keyLoaded := true, gen := 1, segs := [0, 1, 2, 3], registrants := [], holder := none, rtype := none, ptpl := false, prgen := 0 }
/-- A stand of controller 0. -/
def stand : StandS :=
  { state := .active, firebreak := false, cls := 1, rows := 0, resvGib := 100, rshare := 100, wshare := 100, members := [0],
    prot := false, inflight := 0, rcredit := 0, wcredit := 0, refilled := 0, oldRows := 0, moving := false, delStep := 0 }
/-- The device with namespace 1 on stand 3. -/
def upNs : State := { up with nvm := { up.nvm with nss := [(1, ns)], stands := [(3, stand)] } }
/-- The same with an admin command under tag 5. -/
def adm (c : NvmeCmd) : State := tagged upNs (admTag c)
/-- The same with an I/O command under tag 5. -/
def io (c : NvmeCmd) : State := tagged upNs (ioTag c)
/-- A change of controller 0. -/
def fun0 (s : State) (g : FuncS → FuncS) : State := { s with host := s.host.modFunc 0 g }
/-- A change of a port. -/
def onPort (s : State) (g : PortS → PortS) : State := { s with host := s.host.setPort 0 (g (s.host.port 0)) }

/-- A submission queue of 64 entries. -/
def sq : SqS := { size := 64, cqid := 1, head := 0, tail := 0, unfetched := [], ordered := none, starved := false }
/-- A completion queue of 64 entries. -/
def cq : CqS := { size := 64, head := 0, posted := [], held := [], vector := 0, ien := true, unsignalled := 1, msix := 0 }
/-- A completion. -/
def cqe : Cqe := { cid := 1, sqid := 1, sqhd := 0, st := stOk, dw0 := 0, data := .nothing, ro := false }
/-- A state with I/O queue pair 1 of controller 0. -/
def queued (s : State) (a : SqS) (b : CqS) : State :=
  { s with host := { s.host with sqs := [(1, a)], cqs := [(1, b)] } }

/-- A data pointer that covers 1 MiB. -/
def dptr : Dptr := { kind := .prp, bytes := 1048576, bitBucket := [], keyed := false, misaligned := false }
/-- One block at LBA 0 of namespace 1. -/
def rw : RwFields :=
  { nsid := 1, slba := 0, nlb0 := 0, fua := false, prinfo := 0, stc := false, dtype := 0, dptr := dptr, data := [0] }

/-- Nothing found wrong at a wake. -/
def clean : WakeChecks := { digestOk := true, bulkOk := true, badGroves := [], badChannels := [], dramOk := true }
/-- An event. -/
def event : AsyncEv := { mseq := 1, typ := 2, info := 0, page := 4 }
/-- A Set Features under tag 5. -/
def feat (fid : Byte) (v nsid : Dword) : State := adm (.setFeatures fid false v nsid 0)
/-- Its tag. -/
def featTag (fid : Byte) (v nsid : Dword) : TagE := admTag (.setFeatures fid false v nsid 0)
/-- A lease extent. -/
def extent : LeaseExtent := .of 0 1
/-- A change of port 0's lease. -/
def onLease (s : State) (g : LeaseS → LeaseS) : State := { s with nvm := s.nvm.setLease 0 (g (s.nvm.lease 0)) }
/-- A gather of two elements of one byte. -/
def gather : GatherFields :=
  { nsid := 1, fuse := 0, tlen := 48, olen := 2, dptr := dptr, rsvd := false,
    header := BitVec.ofNat 256 (2 ^ 64 + 2 ^ 80), entries := [0, 1] }
/-- A registrant with host identifier 0. -/
def host0 : Registrant := { hostId := 0, key := 6 }
/-- The namespace with that registrant. -/
def nsKnown : NsS := { ns with registrants := [host0] }
/-- The namespace reserved by that registrant. -/
def nsHeld : NsS := { nsKnown with holder := some 0, rtype := some .writeExclusive }
/-- A state with another namespace 1. -/
def reserved (x : NsS) (c : NvmeCmd) : State := { io c with nvm := { (io c).nvm with nss := [(1, x)] } }
/-- A long operation that has begun. -/
def op : SlicedOp := { kind := .delete, tag := none, nsids := [1], rekey := false, begun := true, work := [], edges := [] }
/-- A state with that operation under number 2. -/
def withOp (s : State) (o : SlicedOp) : State := { s with nvm := { s.nvm with ops := [(2, o)] } }
/-- A DMA context that runs. -/
def ctx : CtxS := { tag := none, fence := false, engine := some 0 }
/-- A state with DMA context 3 in use. -/
def onCtx (s : State) (c : CtxS) : State := { s with land := { s.land with ctxs := [(3, c)] } }
/-- A descriptor of context 3 that moves nothing from DRAM to Landing, the last of its chain (04 Table 4-1). -/
def desc : DmaDesc := BitVec.ofNat 256 (3 * 2 ^ 72 + 2 * 2 ^ 68 + 1 * 2 ^ 64 + 2 ^ 57)
/-- A descriptor of context 3 with no kinds. -/
def badDesc : DmaDesc := BitVec.ofNat 256 (3 * 2 ^ 72)
/-- A cache group with its data. -/
def group : CGroup :=
  { nsid := 1, slab := 0, slots := [], count := 1, isSealed := true, visible := false, order := 0, tag := some 5, acked := false,
    cntl := some 0, cover := none }
/-- A state with that group under GSEQ 0. -/
def cached (s : State) (g : CGroup) : State := { s with cache := { s.cache with groups := [(0, g)], nextGseq := 1 } }
/-- The command under a tag has begun. -/
def runTag (c : NvmeCmd) : TagE := entry 1 .running c
/-- A cord request of tag 5. -/
def cordReq : CordReq := { user := .tag 5, res := .port 0, count := 1, l0 := false, port := some 0 }
/-- A gather that has not begun its first window. -/
def gatherS : GatherS := { next := 0, out := [], tableCords := [], window := [] }
/-- A leaf page on flash. -/
def page : LeafPage :=
  { stand := 3, cached := false, dirty := false, version := 1, leased := false, lport := 0, lslot := 0, floc := 0, missing := none }
/-- A state with leaf page 0, which holds the leaf of granule 0. -/
def paged (s : State) (g : LeafPage) : State :=
  { s with map := { s.map with trunk := [(0, 2 * 2 ^ 46)], pages := [(0, g)] } }
/-- A change of grove 0's map. -/
def onGrove (s : State) (g : GroveMap → GroveMap) : State := { s with map := s.map.modGrove 0 g }
/-- A checkpoint generation with no unit left. -/
def gen : GenS := { start := 1, units := [], root := some 0 }
/-- A grove whose control data is sound. -/
def sound : RebuildInput := { controlOk := true, badRecord := none, badBitmap := [] }
/-- A channel in service with four dies. -/
def chan : ChanS := { ChanS.atReset with state := .active, usedDies := 1, serving := 1, identified := true, recValid := true }
/-- The device with every channel in service. -/
def flashUp (s : State) : State :=
  { s with flash := { s.flash with chans := Vector.replicate 64 chan, dies := [(0, { DieS.blank with used := true })] } }
/-- The first shared domain. -/
def dom : DomId := { grove := 0, owner := none }
/-- A change of channel 0. -/
def onChan (s : State) (g : ChanS → ChanS) : State := { s with flash := s.flash.modChan 0 g }
/-- A change of grove 0's record. -/
def onRec (s : State) (g : GroveRec → GroveRec) : State := { s with flash := s.flash.modGrove 0 g }
/-- A windrow set of row block 0. -/
def wset : WSet :=
  { stand := 3, cls := .hot, dom := dom, rb := 0, wl := 0, items := [], whole := [], forced := false, started := false,
    parityDone := false, members := [0, 1, 2, 3, 4, 5, 6, 7], transferred := [], verified := [], failed := false, touched := 0 }
/-- A state with that set under number 4. -/
def withSet (s : State) (w : WSet) : State := { s with media := { s.media with sets := [(4, w)] } }
/-- A state at another time. -/
def later (s : State) (n : Qword) : State := { s with time := { s.time with ns := n } }
/-- A change of the first shared domain. -/
def onDom (s : State) (g : DomS → DomS) : State := { s with media := s.media.modDom dom g }
/-- A victim. -/
def victim : Victim :=
  { rb := 0, stand := 3, charge := 3, valid := 0, total := 0, toRead := [], copying := [], incomplete := false, why := .relocate }
/-- What is known of a closed row block to be relocated. -/
def rbInfo : RbInfo :=
  { stand := 3, cls := .hot, closedS := 0, parityCh := 0, rate875 := false, nextWl := 10, width := 8, relocate := true }
/-- Small dies: 4 blocks in a plane. -/
def geom : Geometry := { pageBytes := 16384, spareBytes := 1952, planes := 4, pagesPerBlock := 1024, blocksPerPlane := 4, densityGbit := 1 }
/-- A CLOSED row block that is to be relocated. -/
def toRelocate : State :=
  { flashUp upNs with media := { upNs.media with geom := some geom, recs := [(2, mkRec 2 0 false)], info := [(2, rbInfo)] } }
/-- A die operation. -/
def dieOp (k : OpKind) (st : OpStage) (why : OpFor) : DieOp := { DieOp.fresh 0 0 k 0 0 [0] 3 why with stage := st }
/-- A state with that operation under number 6. -/
def withDieOp (s : State) (o : DieOp) : State := { s with flash := { s.flash with ops := [(6, o)] } }
/-- The same with the bus of channel 0 asked for it. -/
def onBus (s : State) (o : DieOp) : State := onChan (withDieOp s o) (fun c => { c with bus := [6] })
/-- A cache slot. -/
def slot : CSlot := { slot := 0, lba := 0, data := 0, keyGen := 0, super := false, poison := false, done := false, inSet := false }
/-- A windrow set with the data of cache group 0. -/
def setOf0 : WSet := { wset with items := [{ loc := 0, nsid := 1, lba := 0, src := .cache 0 0 }] }
/-- Granule 0 lies at location 0. -/
def copyable (s : State) : State :=
  { s with map := { s.map with trunk := [(0, 1 * 2 ^ 46)], segs := [(0, (1, 0))] } }
/-- A raw read. -/
def rawFor : OpFor := .raw { seq := 1, bytes := 1, rsvd := false } 0 1
/-- A capacitor test runs. -/
def testing : State := { up with plp := { up.plp with testing := true } }
/-- PWR_FAIL_N is low. -/
def failing : State := { up with plp := { up.plp with pwrFailN := false } }
/-- A dump has begun. -/
def dumping : State :=
  { flashUp failing with
    plp := { failing.plp with
      dumping := true, sets := vmod failing.plp.sets 0 (fun r => { r with a := { r.a with present := true, cnt := 4 } }) } }
/-- A request frame. -/
def fr : Frame := { seq := 1, bytes := 1, rsvd := false }
/-- A parameter that is set. -/
def param (s : State) (id v : Nat) : State := { s with params := { s.params with vals := [(paramKey id 0, v)] } }
/-- The bytes of a record that sets a parameter (18 Table 18-3). -/
def entryOf (id v : Nat) : List Byte := recBytes id 0 (((paramDef id).map PDef.bytes).getD 0) v
/-- Two values. -/
def twoRecs : ReconfigRec := .of [entryOf P.MGT_GROVE_GAP_MS 5, entryOf P.SVC_UPDATE_TIMEOUT_S 60]
/-- One value. -/
def oneRec : ReconfigRec := .of [entryOf P.SVC_UPDATE_TIMEOUT_S 60]
/-- A value of a parameter that is not there. -/
def badRec : ReconfigRec := .of [entryOf 0xFFFF 0]
/-- A record of another format. -/
def oddRec : ReconfigRec := { payload := [2, 0, 0, 0, 0, 0, 0, 0] }
/-- A stand descriptor of number 5 with nothing asked. -/
def sdesc : StandDesc := .of 5 0 0 0 0 0 0 0
/-- The same with shares of 1. -/
def sdescShared : StandDesc := .of 5 0 0 0 1 1 0 0
/-- The same for stand 3, which is there. -/
def sdesc3 : StandDesc := .of 3 0 0 0 1 1 0 0
/-- A change of stand 3's read share to 2. -/
def sdescShare : StandDesc := .of 3 0 0 0 2 0 0 4
/-- Stand 3 with nothing asked. -/
def sdescBare : StandDesc := .of 3 0 0 0 0 0 0 0
/-- A stand in another state. -/
def standIn (x : StandS) : State := { upNs with nvm := { upNs.nvm with nss := [], stands := [(3, x)] } }
/-- A debug session of an operator. -/
def session : Session := { level := 1, perm := 1, lifetimeS := 60, opened := 0, haltedMgmt := false, haltedFtl := false }
/-- A state with that session. -/
def withSession (s : State) : State := { s with sec := { s.sec with session := some session } }
/-- A change of the security state. -/
def onSec (s : State) (g : SecS → SecS) : State := { s with sec := g s.sec }
/-- A token against nonce 9. -/
def token : DebugToken := { body := DebugToken.bodyOf 9 1 60 1 1, keyDigest := 4, sigsOk := true }
/-- The same for RMA. -/
def rmaToken : DebugToken := { token with body := DebugToken.bodyOf 9 1 60 1 3 }
/-- The same for another part. -/
def foreignToken : DebugToken := { token with body := DebugToken.bodyOf 9 2 60 1 1 }
/-- A state in which that token opens a session. -/
def tokenUp : State := param (onSec up (fun x => { x with nonce := some (9, 0) })) P.SEC_DEBUG_KEY_DIGEST 4
/-- A SEALED device in which an RMA_AUTH token of that key is good. -/
def sealedUp : State := { tokenUp with fuses := { tokenUp.fuses with sealedF := 3, dbgDigest := 4 } }
/-- An update under way. -/
def upd : Update := { Update.none with state := 1, area := 1, target := 0, length := 4096 }
/-- A state with an update. -/
def updating (s : State) (u : Update) : State := { s with nor := { s.nor with upd := u, unprotected := some u.area } }
/-- The same with every sector protected. -/
def protectedNor (s : State) : State := { s with nor := { s.nor with unprotected := none } }
/-- An image header with no load segments. -/
def image : ImageHeader :=
  { body := ImageHeader.bodyOf 1 0 0, tailZero := true, keyDigest := 0, ecdsaOk := true, lmsOk := true }
/-- A slot with that image. -/
def imgSlot : ImgSlot := { hdr := some image, complete := true, digest := 0 }
/-- A record of a unit. -/
def tallyIn : TallyIn := { src := 0x11, mseq := none, sev := 1, code := 0x0202, p0 := 0, p1 := 0, p2 := 0, p3 := 0 }
/-- A bucket with suppressed occurrences. -/
def bucket : Bucket :=
  { tokens := 0, refilled := 0, suppressed := 2, firstNs := 0, lastNs := 0, lastAny := 0, lastP0 := 0, maxSev := 1 }
/-- A handover. -/
def handover : Handover := { cause := 1, oldRuns := false, release := none }
/-- A change of the management state. -/
def onMgmt (s : State) (g : MgmtS → MgmtS) : State := { s with mgmt := g s.mgmt }
/-- A rollout. -/
def rollout : Rollout := { release := 2, previous := 1, next := 3, back := false, since := 0 }
/-- An SPDM connection on which everything is negotiated. -/
def spdm : SpdmS := { SpdmS.idle with version := true, caps := true, algs := true }
/-- A state with that connection on the management bus. -/
def onConn (s : State) (c : SpdmS) : State := s.setConn 0 c
/-- The fields of an option block: MAGIC, FMT 1, SCKDIV 7, both ports with SRIS, LAYOUT 1000h (12 Table 12-5). -/
def optBody : BitVec 2048 := BitVec.ofNat 2048 (0x4B4C504F + 2 ^ 32 + 7 * 2 ^ 48 + 2 ^ 75 + 2 ^ 83 + 0x1000 * 2 ^ 96)
/-- The same with its CRC. -/
def optBlock : BitVec 2048 := optBody ||| ((crc32 252 optBody).setWidth 2048 <<< 2016)
/-- The option block as read, twice alike. -/
def opt : OptRead := { block := optBlock, second := some optBlock }
/-- PS4. -/
def asleep : State := { up with pwr := { up.pwr with ps := 4 } }
/-- A change of the DRAM. -/
def onDram (s : State) (g : DramS → DramS) : State := { s with dram := g s.dram }
/-- Spare capacity of the first shared domain is below the warning level. -/
def short : State :=
  { flashUp upNs with media := { upNs.media with geom := some geom, recs := [(0, mkRec 5 0 false)], doms := [{ DomS.fresh dom with u0 := 100 }] } }
/-- A device that nobody uses and whose hosts ask for PS4. -/
def idle : State :=
  { param (later (flashUp up) 0x1000000000000000) P.PWR_DEEPEST_ALLOWED 4 with pwr := { up.pwr with q0 := 4, q1 := 4, entering := true, smbusAddr := some 0x30 } }
/-- The spare holds an image. -/
def spared : State := { up with nor := { up.nor with spare := imgSlot } }
/-- A BLANK device. -/
def blank : State := { up with fuses := { up.fuses with provisioned := 0 } }

/-- Commands are pending on the cores of grove 0, and an operation's last slice there ended just now. -/
def gapRuns (s : State) (k : Nat) : State :=
  { paged s { page with missing := some 0 } with nvm := { s.nvm with sliceEnd := [(k, 0)] } }
/-- A write of the lease engine is held by a retrain slice of DRAM channel 0. -/
def heldUp : State := onDram up (fun d => d.modChan 0 (fun c => { c with held := [.leaseEngine], sliceEnd := 1 }))
/-- The answer of a die. -/
def answer : DieAnswer :=
  { die := 0, crcOk := true, meetsTable := true, pageBytes := 16384, spareBytes := 1952, planes := 4, pagesPerBlock := 1024,
    blocksPerPlane := 512, densityGbit := 1024, maxRate := 2400, sig := 0, rates := 0, nestedProgram := true, factoryBad := [] }
/-- A heartwood in which every record is good. -/
def heart : HeartBad := { drops := false, tseqRes := false, floor := false, lms := false, chans := [] }
/-- The fields of a leaf page of LPN 0, VERSION 1, stand 3, with no slot used (05 Table 5-4). -/
def leafBody : Block := BitVec.ofNat 32768 (2 ^ 64 + 3 * 2 ^ 256 + 2 ^ 272)

/-- The bits of TAG. -/
theorem tag_bits (i : Nat) (h : i < 32768) : (BitVec.ofNat 32768 ((2 ^ 128 - 1) * 2 ^ 128)).getLsbD i = decide (128 ≤ i ∧ i < 256) := by
  rw [BitVec.getLsbD_ofNat, Nat.testBit_mul_two_pow, Nat.testBit_two_pow_sub_one]
  by_cases h1 : 128 ≤ i <;> (simp [h, h1]; try omega)

/-- A page with a TAG put in where it had none is that page again without it. -/
theorem untagged_or (b : Block) (t : BitVec 128) (hz : untagged b = b) : untagged (b ||| (t.setWidth 32768 <<< 128)) = b := by
  rw [← hz]
  unfold untagged
  generalize hk : BitVec.ofNat 32768 ((2 ^ 128 - 1) * 2 ^ 128) = k
  apply BitVec.eq_of_getLsbD_eq
  intro i hi
  have hb : k.getLsbD i = decide (128 ≤ i ∧ i < 256) := by rw [← hk]; exact tag_bits i hi
  simp only [BitVec.getLsbD_and, BitVec.getLsbD_or, BitVec.getLsbD_not, BitVec.getLsbD_shiftLeft, BitVec.getLsbD_setWidth, hb, hi]
  by_cases h1 : 128 ≤ i ∧ i < 256
  · simp [h1]
  · by_cases h2 : i < 128
    · simp [h2]
    · have : 128 ≤ i - 128 := by omega
      simp [h1, h2, BitVec.getLsbD_of_ge t _ this]

/-- The other fields do not see the TAG. -/
theorem field_or (b : Block) (t : BitVec 128) (lo w : Nat) (h : lo + w ≤ 128 ∨ 256 ≤ lo) :
    (b ||| (t.setWidth 32768 <<< 128)).extractLsb' lo w = b.extractLsb' lo w := by
  apply BitVec.eq_of_getLsbD_eq
  intro i hi
  have : (t.setWidth 32768 <<< 128).getLsbD (lo + i) = false := by
    rcases h with h | h
    · simp only [BitVec.getLsbD_shiftLeft]; simp; omega
    · have : 128 ≤ lo + i - 128 := by omega
      simp [BitVec.getLsbD_of_ge t _ this]
  simp [this]

/-- The TAG of a page that had none. -/
theorem tag_or (b : Block) (t : BitVec 128) (hz : untagged b = b) : (b ||| (t.setWidth 32768 <<< 128)).extractLsb' 128 128 = t := by
  apply BitVec.eq_of_getLsbD_eq
  intro i hi
  have hb : b.getLsbD (128 + i) = false := by
    rw [← hz]
    unfold untagged
    simp only [BitVec.getLsbD_and, BitVec.getLsbD_not, tag_bits (128 + i) (by omega)]
    simp
    omega
  simp only [BitVec.getLsbD_extractLsb', BitVec.getLsbD_or, hb, BitVec.getLsbD_shiftLeft, BitVec.getLsbD_setWidth]
  simp [show 128 + i < 32768 by omega, hi, show i < 32768 by omega]

/-- A page with the TAG that its key gives is accepted for a record with its fields (05 R169). -/
theorem accepts_sealed (m : MapS) (lpn : Nat) (g : LeafPage) (b : Block) (hz : untagged b = b)
    (hf : (b.extractLsb' 0 34 == BitVec.ofNat 34 lpn && b.extractLsb' 64 56 == BitVec.ofNat 56 g.version &&
      b.extractLsb' 256 7 == BitVec.ofNat 7 g.stand.val && b.extractLsb' 272 8 == 1) = true) :
    m.accepts lpn g (b ||| ((pageTag (Config.macKey m.leaseKey) (leaseIv lpn g.version) b).setWidth 32768 <<< 128)) = true := by
  rw [MapS.accepts, untagged_or b _ hz, tag_or b _ hz, field_or _ _ 0 34 (by omega), field_or _ _ 64 56 (by omega),
    field_or _ _ 256 7 (by omega), field_or _ _ 272 8 (by omega)]
  simpa using hf
/-- The one command that waits, at the pipeline of its tag. -/
theorem waits5 : (tagged upNs (entry 1 .accepted (.read rw))).refillStands.waitingIn (Config.pipeline 5) .read = [(5, entry 1 .accepted (.read rw))] := by
  have h : (tagged upNs (entry 1 .accepted (.read rw))).refillStands.host.tags = [(5, entry 1 .accepted (.read rw))] := rfl
  rw [State.waitingIn, h]
  have d : (cmdDir (NvmeCmd.read rw) == Dir.read) = true := by decide
  have p : (Config.pipeline 5 == Config.pipeline 5) = true := by simp
  have o : cmdOrdered (NvmeCmd.read rw) = false := by decide
  simp only [List.filter, entry, d, p, o]
  rfl

/-! ## WellFormed: an ill-formed term for each check -/

theorem test_wf_width : Instr.wf (.linkUp 0 3 ⟨32, true⟩) = false := by decide
theorem test_wf_rate : Instr.wf (.linkUp 0 16 ⟨12, true⟩) = false := by decide
theorem test_wf_admin_queue_sizes : Instr.wf (.ccEnSet 0 4096 31) = false ∧ Instr.wf (.ccEnSet 0 31 4096) = false := by decide
theorem test_wf_sq_doorbell : Instr.wf (.sqTailDoorbell 0 65536 0 []) = false ∧ Instr.wf (.sqTailDoorbell 0 1 65536 []) = false ∧
    Instr.wf (.sqTailDoorbell 0 1 1 [{ cid := 65536, cmd := .keepAlive, ptr := dptr }]) = false := by decide
theorem test_wf_cq_doorbell : Instr.wf (.cqHeadDoorbell 0 65536 0) = false ∧ Instr.wf (.cqHeadDoorbell 0 1 65536) = false := by decide
theorem test_wf_queue_number : Instr.wf (.tagAvailable 0 65536) = false ∧ Instr.wf (.interruptAggregationTime 0 65536) = false := by decide
theorem test_wf_tag : Instr.wf (.read 65536) = false ∧ Instr.wf (.read 65535) = true := by decide
theorem test_wf_chain : Instr.wf (.dmaContextComplete 0 (List.replicate 65537 0) .none) = false := by
  show decide ((List.replicate 65537 (0 : DmaDesc)).length ≤ 65536) = false
  rw [List.length_replicate]; decide
theorem test_wf_action_value : Instr.wf (.mapLeaseRekey fr 4294967296) = false := by decide
theorem test_wf_row_block : Instr.wf (.victimEraseStart 0 16383) = false := by decide
theorem test_wf_reconfig : Instr.wf (.reconfig fr { payload := List.replicate 4097 0 }) = false := by
  show decide ((List.replicate 4097 (0 : Byte)).length ≤ 4096) = false
  rw [List.length_replicate]; decide
theorem test_wf_dram_line : Instr.wf (.dramScrub 4294967296 0) = false := by decide
theorem test_wf_bank : Instr.wf (.dramRefresh 0 32) = false ∧ Instr.wf (.dramActivationLimit 0 32) = false := by decide
theorem test_wf_basic_command : Instr.wf (.basicManagementCommand 256 1) = false ∧
    Instr.wf (.basicManagementCommand 0 256) = false := by decide
theorem test_wf_parameter : Instr.wf (.paramRead fr 65536 0) = false ∧ Instr.wf (.statusWindowRead fr 0 256) = false ∧
    Instr.wf (.drainLate 65536 0) = false := by decide
theorem test_wf_chunk : Instr.wf (.imageChunk fr 0 65537 none false) = false := by decide
theorem test_wf_raw_length : Instr.wf (.rawDiag fr 0 0 65537) = false := by decide

/-! ## What single steps leave, with values from the spec -/

/-- The state that a command leaves. -/
def after (c : Instr) (s : State) : State :=
  match exec c s with
  | .next t => t
  | _ => State.reset
/-- The statuses that a queue of controller 0 has posted. -/
def posted (s : State) (q : Nat) : List Status := ((sget s.host.cqs q).map (fun x => x.posted.map (fun e => e.st))).getD []
/-- A state with admin and I/O queues of controller 0. -/
def withQueues (s : State) : State := { s with host := { s.host with sqs := [(0, sq), (1, sq)], cqs := [(0, cq), (1, cq)] } }
/-- The response frame's type. -/
def respType (s : State) : Option Nat := s.naile.resp.map (fun r => r.typ)

/-- 02 R55: SCT 1h, SC 09h. -/
theorem test_invalid_log_page : posted (after (.getLogPage 5) (withQueues (adm (.getLogPage 6 0 16)))) 0 = [⟨1, 0x09⟩] := by decide +kernel
/-- 02 R51: SCT 0h, SC 01h. -/
theorem test_firmware_commit : posted (after (.firmwareCommit 5) (withQueues (adm .firmwareCommit))) 0 = [⟨0, 0x01⟩] := by decide +kernel
/-- 02 R54: no feature is saveable, SCT 1h, SC 0Dh. -/
theorem test_not_saveable : posted (after (.arbitration 5) (withQueues (adm (.setFeatures 0x01 true 7 0 0)))) 0 = [⟨1, 0x0D⟩] := by
  decide +kernel
/-- 02 R53: a read that ends one block past the namespace fails with LBA Out of Range. -/
theorem test_read_past_end :
    posted (after (.read 5) (withQueues (io (.read { rw with slba := 262143, nlb0 := 1 })))) 1 = [⟨0, 0x80⟩] := by decide +kernel
/-- 06 R206: a write under READ_ONLY fails with SC 20h. -/
theorem test_write_read_only :
    posted (after (.write 5) (withQueues { io (.write rw) with media := { up.media with readOnly := true } })) 1 = [⟨0, 0x20⟩] := by
  decide +kernel
/-- 01 R25: an unmapped block reads as zeros. -/
theorem test_read_unmapped :
    ((sget (after (.read 5) (withQueues (flashUp (io (.read rw))))).host.tags 5).map (fun t => t.got)) = some [some 0] ∨
    posted (after (.read 5) (withQueues (flashUp (io (.read rw))))) 1 = [stOk] := by decide +kernel
/-- 02 Table 2-15, R45: a lease whose port sees PERST# ends with cause 04h. -/
theorem test_perst_ends_lease :
    ((after (.perstAssert 0) (onLease up (fun l => { l with state := .active }))).nvm.lease0.state,
     (after (.perstAssert 0) (onLease up (fun l => { l with state := .active }))).nvm.lease0.endCause) = (LeaseState.ended, 4) := by
  decide +kernel
/-- 02 R39: the other port's link stays as it is. -/
theorem test_perst_other_port : (after (.perstAssert 0) up).host.port1 = port := by decide +kernel
/-- 02 Table 2-1, 17 (0601h): a link that trains at x4 is recorded as LINK_NARROW. -/
theorem test_link_narrow :
    ((after (.linkUp 0 4 ⟨64, true⟩) (onPort up (fun p => { p with training := true, linkUp := false }))).tally.ring.recs.map (fun r => r.code))
      = [0x0601] := by decide +kernel
/-- 14 R411: IDCODE reads version 1h, part 0640h. -/
theorem test_idcode : (after .idcode up).sec.tapOut = 0x10640001 := by decide +kernel
/-- 14 R412: a nonce is valid for 60 s. -/
theorem test_nonce_expires : (after .nonceExpiry (later (onSec up (fun x => { x with nonce := some (9, 0) })) 60000000000)).sec.nonce = none := by
  decide +kernel
/-- 14 R395: PROVISION in BLANK makes the part PROVISIONED; the TAP does nothing of the kind later. -/
theorem test_provision : (after .provision blank).fuses.lc = 1 ∧ (after .provision sealedUp).fuses.lc = 2 := by decide +kernel
/-- 14 Table 14-13: another part's token is refused with code 03h and counted. -/
theorem test_token_other_chip :
    ((after (.debugTokenOpen fr foreignToken) tokenUp).sec.refusals, (after (.debugTokenOpen fr foreignToken)
      tokenUp).naile.resp.map (fun r => r.value / 256 % 256)) = (1, some 3) := by decide +kernel
/-- 12 Table 12-2: the first reset is a power-on reset, CAUSE 01b. -/
theorem test_reset_cause : State.reset.dev.rstCause = 1 := by decide
/-- 12 R349: a RESET_N pulse shorter than 100 ns has no effect, one of 1 µs is taken. -/
theorem test_reset_pulse : (after (.resetNAssert (some 99)) up).dev.pin = false ∧ (after (.resetNAssert (some 1000)) up).dev.pin = true := by
  decide +kernel
/-- 13 R375: SEL is ignored while the PLL is not locked. -/
theorem test_clk_ctrl_unlocked : (after (.clkCtrlWrite 0x10) State.reset).dev.clkCtrl = 0 := by decide +kernel
/-- 13 (108 °C for 1 ms): a sample at 108 °C or above 1 ms after the first stops the device. -/
theorem test_over_temperature : (after (.temperatureSample 108) (later { up with pwr := { up.pwr with hotSince := some 0 } } 1000000)).dev.failed = true := by
  decide +kernel
/-- 13 Table 13-9: writing 1 releases the GPIO latch and no other. -/
theorem test_pad_release :
    (after (.pwrPadReleaseWrite 4) { up with dev := { up.dev with latchGpio := true, latchFlash := true } }).padRelease = 1 := by
  decide +kernel
/-- 11 R327: a training that fails at 6,400 MT/s goes on at 4,800. -/
theorem test_dram_steps_down : (after (.dramTraining [0]) (onDram booting (fun d => { d with ready := false }))).dram.rate = 4800 := by
  decide +kernel
/-- 16 R443: a frame while BUSY is discarded with ERRCODE 3. -/
theorem test_busy_frame :
    ((after (.recoveryStatus fr) { up with naile := { up.naile with busy := true } }).naile.errcode) = 3 := by decide +kernel
/-- 16 R444: the response to RECOVERY_STATUS is of type E0h, a failure response of type FEh. -/
theorem test_response_types :
    respType (after (.recoveryStatus fr) up) = some 0xE0 ∧ respType (after (.unknownType fr 0x70) up) = some 0xFE := by decide +kernel
/-- 18 R501: PARAM_READ of PLP_TEST_MIN_MS: class, width 16, and its default of 52. -/
theorem test_param_read :
    (after (.paramRead fr P.PLP_TEST_MIN_MS 0) up).naile.resp.map (fun r => (r.len, r.value / 2 ^ 16 % 2 ^ 16, r.value / 2 ^ 32)) =
      some (6, 16, 52) := by decide +kernel
/-- 18 R495: a record with a value out of range is rejected as a whole. -/
theorem test_reconfig_whole :
    (after (.reconfig fr (.of [entryOf P.SVC_UPDATE_TIMEOUT_S 61, entryOf 0xFFFF 0])) up).params.vals = [] := by
  decide +kernel
/-- 17 R470: TSEQ starts at 1, and 1 follows FFFFFFFFh. -/
theorem test_tseq : ((after (.tallyRecord tallyIn) up).tally.ring.recs.map (fun r => r.tseq)) = [1] ∧ tseqAdd 0xFFFFFFFF 1 = 1 := by
  decide +kernel
/-- 05 Table 5-1: the last location of the device. -/
theorem test_ploc : mkPloc 63 15 3 16382 4094 3 = 0xFFFFFFBFFB ∧ plocValid 0xFFFFFFBFFB = true ∧ plocValid plocPoisoned = false := by
  decide +kernel
/-- 10 Table 10-4: CREATE of a stand that exists is answered with 01h. -/
theorem test_stand_exists :
    (after (.standCtlCreate fr sdesc3) upNs).naile.resp.map (fun r => r.value / 256 % 256) =
      some 1 := by decide +kernel
/-- 09 R286: a capacitor test below PLP_TEST_MIN_MS fails, one within the limits passes. -/
theorem test_capacitor_limits : (after (.huLowRise 51) testing).plp.passed = some false ∧ (after (.huLowRise 52) testing).plp.passed = some true := by
  decide +kernel
/-- 07 Table 7-6: the third stuck reading in a row retires the channel with RCAUSE 01h. -/
theorem test_stuck_pad :
    ((after (.padMonitorCheck 0 true) (onChan (flashUp up) (fun c => { c with stuck := 2 }))).flash.chan 0).rcause = 1 := by decide +kernel
/-- 02 R68: a request before negotiation is answered with ERROR (7Fh). -/
theorem test_spdm_unexpected : ((after (.getDigests 0) up).conn 0).respCode = 0x7F := by decide +kernel
/-- A step takes the front of the queue, first in, first out. -/
theorem test_queue_order :
    (match step { up with pending := [.readResp, .readAlert] } with
    | .next t => t.pending
    | _ => []) = [.readAlert] := by decide +kernel
/-- 05 R164, 12 R358: the check values of the two polynomials over "123456789". -/
theorem test_crc :
    crc32 9 (BitVec.ofNat 72 0x393837363534333231) = 0xCBF43926 ∧ crc32c 9 (BitVec.ofNat 72 0x393837363534333231) = 0xE3069283 := by
  decide +kernel
/-- A record that moves extent 5 of granule 9. -/
def jrecA : JRec := { jrec 1 9 with seq := 77, final := true, first := 5, countM1 := 2, value := 0x123456789A }
/-- 05 Table 5-7, R164: a record with its CRC reads back; one with a wrong bit does not. -/
theorem test_journal_record : readRecord (recordWord jrecA) = some jrecA ∧ readRecord (recordWord jrecA ^^^ 1) = none ∧
    (recordWord jrecA).getLsbD 72 = true ∧ (recordWord jrecA).extractLsb' 80 4 = 5 ∧ (recordWord jrecA).extractLsb' 144 40 = 0x123456789A := by
  decide +kernel
/-- 16 R452: an erased NOR has no layout table. -/
theorem test_layout_erased : layoutOk 0x1000 (BitVec.allOnes 512) = false := by decide +kernel
/-- 12 Table 12-5: the fields of the option block of the tests. -/
theorem test_option_block : ({ block := optBody, second := none } : OptRead).magicFmtOk = true ∧
    ({ block := optBody, second := none } : OptRead).rsvdBad = false ∧ ({ block := optBody, second := none } : OptRead).sckdiv = 7 ∧
    ({ block := optBody, second := none } : OptRead).layout = 0x1000 := by decide +kernel

/-! ## The hypotheses of the statements can be met

For each clause of a statement that has hypotheses, a state and operands that meet all of them together. -/

/-! ### StepRunsTheFront -/

theorem test_meets_step_runs_the_front_1 : ∃ (s : State) (c : Instr) (rest : List Instr), s.pending = c :: rest :=
⟨{ up with pending := [.readStatus] }, .readStatus, [], by decide +kernel⟩

/-! ### EmptyQueueTicks -/

theorem test_meets_empty_queue_ticks_1 : ∃ (s : State), s.pending = [] :=
⟨up, by decide +kernel⟩

theorem test_meets_empty_queue_ticks_1_b : ∃ s : State, s.pending = [] ∧ s.dev.por = true :=
⟨State.reset, by decide +kernel⟩

theorem test_meets_empty_queue_ticks_1_c : ∃ s : State, s.pending = [] ∧ s.dev.por = false ∧ s.pwr.ps ≠ 4 :=
⟨up, by decide +kernel⟩

theorem test_meets_empty_queue_ticks_1_d : ∃ s : State, s.pending = [] ∧ s.dev.por = false ∧ s.pwr.ps = 4 ∧ s.time.frac + 37 < 64 :=
⟨{ asleep with time := { ns := 0, frac := 26 } }, by decide +kernel⟩

theorem test_meets_empty_queue_ticks_1_e : ∃ s : State, s.pending = [] ∧ s.dev.por = false ∧ s.pwr.ps = 4 ∧ 64 ≤ s.time.frac + 37 ∧
    s.time.frac < 64 :=
⟨{ asleep with time := { ns := 0, frac := 27 } }, by decide +kernel⟩

/-! ### CommandsKeepToTheirReach -/

theorem test_meets_commands_keep_to_their_reach_1 : ∃ (c : Instr) (s t : State) (p : Part), exec c s = .next t ∧ p ∉ reach c :=
⟨.readStatus, up, _, .host, rfl, by decide⟩

/-! ### LinkEventsDo -/

theorem test_meets_link_events_do_2 : ∃ (s : State) (p : Port), (s.host.port p).linkUp = true :=
⟨up, 0, by decide +kernel⟩

theorem test_meets_link_events_do_3 : ∃ (s : State) (p : Port), (s.host.port p).linkUp = true :=
⟨up, 1, by decide +kernel⟩

theorem test_meets_link_events_do_4 : ∃ (s : State) (p : Port) (_w : WakeChecks), (s.host.port p).perst = true ∧ s.mayTrain = true :=
⟨onPort up (fun p => { p with perst := true, linkUp := false }), 0, clean, by decide +kernel⟩

theorem test_meets_link_events_do_5 : ∃ (s : State) (p : Port) (_w : WakeChecks), (s.host.port p).l1 = true :=
⟨onPort up (fun p => { p with l1 := true }), 0, clean, by decide +kernel⟩

theorem test_meets_link_events_do_6 : ∃ (s : State) (p : Port) (width : Nat) (_rate : LinkRate), (s.host.port p).training = true ∧
    (s.host.port p).perst = false ∧ 8 ≤ min width (s.portWidth p) :=
⟨onPort up (fun p => { p with training := true, linkUp := false }), 0, 8, ⟨32, true⟩, by decide +kernel⟩

theorem test_meets_link_events_do_7 : ∃ (s : State) (c : Cntl), s.host.present c = true :=
⟨up, 0, by decide +kernel⟩

/-! ### PortResetClears -/

theorem test_meets_port_reset_clears_1 : ∃ (_s : State) (p : Port) (_cause : Nat) (_f : PortS → PortS) (c : Cntl), c.port = p :=
⟨up, 1, 4, id, 255, by decide +kernel⟩

/-! ### ControllerResetsDo -/

theorem test_meets_controller_resets_do_1 : ∃ (s : State) (c : Cntl), s.host.present c = true ∧ c.isPF = true :=
⟨up, 128, by decide +kernel⟩

theorem test_meets_controller_resets_do_2 : ∃ (s : State) (c : Cntl), s.host.present c = true ∧ c.isPF = false :=
⟨up, 127, by decide +kernel⟩

theorem test_meets_controller_resets_do_3 : ∃ (s : State) (c : Cntl) (_asqs _acqs : Nat), s.host.present c = true ∧ s.dev.configured =
    true ∧ (s.host.func c.val).en = false ∧ c.isPF = false :=
⟨up, 2, 31, 31, by decide +kernel⟩

theorem test_meets_controller_resets_do_4 : ∃ (s : State) (c : Cntl), s.host.present c = true ∧ (s.host.func c.val).en = true ∧ c.isPF =
    false :=
⟨up, 1, by decide +kernel⟩

theorem test_meets_controller_resets_do_5 : ∃ (s : State) (c : Cntl), s.host.present c = true ∧ (s.host.func c.val).en = true ∧ c.isPF =
    true :=
⟨up, 0, by decide +kernel⟩

theorem test_meets_controller_resets_do_6 : ∃ (s : State) (c : Cntl), (s.host.func c.val).en = true ∧ (s.host.func c.val).rdy = true ∧
    (s.host.func c.val).keepAliveHeld = false ∧ ((s.host.func c.val).feature 0x0F).toNat ≠ 0 ∧ (s.host.func c.val).keepAliveFrom +
    ((s.host.func c.val).feature 0x0F).toNat * 1000000 ≤ s.now :=
⟨fun0 { up with time := { up.time with ns := 1000000 } } (fun f => { f with features := [(15, 1)] }), 0, by decide +kernel⟩

/-! ### RegisterWritesDo -/

theorem test_meets_register_writes_do_1 : ∃ (s : State) (c : Cntl) (_v : Qword), s.host.present c = true :=
⟨up, 0, 1, by decide +kernel⟩

theorem test_meets_register_writes_do_2 : ∃ (s : State) (c : Cntl) (_v : Qword), s.host.present c = true :=
⟨up, 0, 1, by decide +kernel⟩

theorem test_meets_register_writes_do_3 : ∃ (s : State) (c : Cntl) (_v : Qword), s.host.present c = true :=
⟨up, 0, 16, by decide +kernel⟩

theorem test_meets_register_writes_do_4 : ∃ (s : State) (p : Port) (v : Qword), s.host.present p.pf = true ∧ v.getLsbD 0 = true :=
⟨up, 0, 1, by decide +kernel⟩

theorem test_meets_register_writes_do_5 : ∃ (_s : State) (r : RegId) (_v : Qword), (r = .rstCause ∨ r = .rstBootStatus ∨ r = .secstat ∨ r
    = .clkCtrlStatus) :=
⟨up, .secstat, 1, by decide +kernel⟩

theorem test_meets_register_writes_do_6 : ∃ (s : State) (c : Cntl) (r : RegId) (_v : Qword), s.host.present c = true ∧ (r = .cap c ∨ r =
    .capHigh c ∨ r = .vs c ∨ r = .csts c ∨ r = .pciId c ∨ r = .pciSubsystem c ∨ r = .devCap c ∨ r = .linkCap c ∨ (∃ p : Port, p.pf = c ∧
    (r = .sriovVfs p ∨ r = .sriovOffsets p))) :=
⟨up, 0, .capHigh 0, 1, by decide +kernel⟩

theorem test_meets_register_writes_do_6_b : ∃ (s : State) (c : Cntl) (r : RegId), s.host.present c = true ∧ ∃ p : Port, p.pf = c ∧ (r =
    .sriovVfs p ∨ r = .sriovOffsets p) :=
⟨up, 128, .sriovVfs 1, by decide +kernel, 1, rfl, .inl rfl⟩

theorem test_meets_register_writes_do_7 : ∃ (s : State) (c : Cntl) (_m : Bool), s.host.present c = true :=
⟨up, 0, true, by decide +kernel⟩

/-! ### DoorbellsDo -/

theorem test_meets_doorbells_do_1 : ∃ (s : State) (c : Cntl) (sq tail : Nat) (es : List Sqe) (q : SqS), sget s.host.sqs (qKey c.val sq) =
    some q ∧ (s.host.func c.val).en = true ∧ s.host.present c = true ∧ tail < q.size ∧ es.length = (tail + q.size - q.tail) % q.size :=
⟨queued up sq cq, 0, 1, 1, [{ cid := 1, cmd := .flush 1 }], sq, by decide +kernel⟩

theorem test_meets_doorbells_do_2 : ∃ (s : State) (c : Cntl) (cq head : Nat) (q : CqS), sget s.host.cqs (qKey c.val cq) = some q ∧
    s.host.present c = true ∧ head < q.size ∧ (head + q.size - q.head) % q.size ≤ q.posted.length :=
⟨queued up sq { cq with posted := [cqe] }, 0, 1, 1, { cq with posted := [cqe] }, by decide +kernel⟩

theorem test_meets_doorbells_do_3 : ∃ (s : State) (c : Cntl) (sq : Nat) (q : SqS), sget s.host.sqs (qKey c.val sq) = some q ∧ q.starved =
    true :=
⟨queued up { sq with starved := true } cq, 0, 1, { sq with starved := true }, by decide +kernel⟩

theorem test_meets_doorbells_do_4 : ∃ (s : State) (c : Cntl) (cq : Nat) (q : CqS), sget s.host.cqs (qKey c.val cq) = some q ∧ q.ien = true
    ∧ q.unsignalled ≠ 0 ∧ s.host.present c = true :=
⟨queued up sq cq, 0, 1, cq, by decide +kernel⟩

/-! ### DispatchDoes -/

theorem test_meets_dispatch_does_1 : ∃ (s : State) (tag : Nat) (e : TagE), sget s.host.tags tag = some e ∧ s.ioServed = true ∧ e.phase =
    .accepted ∧ cmdOrdered e.cmd = true ∧ s.host.earlier e = false :=
⟨tagged upNs (entry 1 .accepted (.orderedRead rw)), 5, entry 1 .accepted (.orderedRead rw), by decide +kernel⟩

/-! ### QueueCommandsDo -/

theorem test_meets_queue_commands_do_1 : ∃ (s : State) (tag : Nat) (e : TagE) (qid n iv : Nat) (ien : Bool), s.adminReady tag e ∧ e.cmd =
    .createIoCq qid n iv ien true ∧ qid ≠ 0 ∧ qid ≤ s.queueAlloc e.cntl ∧ sget s.host.cqs (qKey e.cntl.val qid) = none ∧ 1 ≤ n ∧ n ≤ 4095
    ∧ iv < vectors e.cntl :=
⟨adm (.createIoCq 1 4095 256 true true), 5, admTag (.createIoCq 1 4095 256 true true), 1, 4095, 256, true, by decide +kernel⟩

theorem test_meets_queue_commands_do_2 : ∃ (s : State) (tag : Nat) (e : TagE) (qid n cqid : Nat), s.adminReady tag e ∧ e.cmd = .createIoSq
    qid n cqid true ∧ qid ≠ 0 ∧ qid ≤ s.queueAlloc e.cntl ∧ sget s.host.sqs (qKey e.cntl.val qid) = none ∧ cqid ≠ 0 ∧ cqid ≤ s.queueAlloc
    e.cntl ∧ (sget s.host.cqs (qKey e.cntl.val cqid)).isSome = true ∧ 1 ≤ n ∧ n ≤ 4095 :=
⟨queued (adm (.createIoSq 2 1 1 true)) sq cq, 5, admTag (.createIoSq 2 1 1 true), 2, 1, 1, by decide +kernel⟩

theorem test_meets_queue_commands_do_3 : ∃ (s : State) (tag : Nat) (e : TagE) (qid : Nat), s.adminReady tag e ∧ e.cmd = .deleteIoSq qid ∧
    qid ≠ 0 ∧ (sget s.host.sqs (qKey e.cntl.val qid)).isSome = true ∧ s.host.ofQueue e.cntl qid = [] :=
⟨queued (adm (.deleteIoSq 1)) sq cq, 5, admTag (.deleteIoSq 1), 1, by decide +kernel⟩

theorem test_meets_queue_commands_do_4 : ∃ (s t : State) (tag : Nat) (e : TagE) (qid : Nat), s.adminReady tag e ∧ e.cmd = .deleteIoCq qid
    ∧ qid ≠ 0 ∧ (sget s.host.cqs (qKey e.cntl.val qid)).isSome = true ∧ s.host.sqs.any (fun x => decide (x.1 / 65536 = e.cntl.val) &&
    x.2.cqid == qid) = false ∧ (((sget s.host.cqs (qKey e.cntl.val qid)).map (fun q => q.held.map Prod.fst)).getD []).foldl (fun a k =>
    a.freeTag k) s = t :=
⟨(fun s : State => { s with host := { s.host with cqs := [(1, cq)] } }) (adm (.deleteIoCq 1)), _, 5, admTag (.deleteIoCq 1), 1,
    by decide +kernel, by decide +kernel, by decide +kernel, by decide +kernel, by decide +kernel, rfl⟩

/-! ### ControlCommandsDo -/

theorem test_meets_control_commands_do_1 : ∃ (s : State) (tag sq cid : Nat) (e : TagE), s.adminReady tag e ∧ e.cmd = .abort sq cid ∧ 8 ≤
    s.host.abortsBefore e :=
⟨(fun s : State =>
    { s with host := { s.host with tags := ((List.range 8).map (fun i => (10 + i, { admTag (.abort 1 9) with phase := .accepted }))) ++ [(50, { admTag (.abort 1 9) with aseq := 9 })] } })
    upNs, 50, 1, 9, { admTag (.abort 1 9) with aseq := 9 }, by decide +kernel⟩

theorem test_meets_control_commands_do_2 : ∃ (s : State) (tag k sq cid : Nat) (e x : TagE), s.adminReady tag e ∧ e.cmd = .abort sq cid ∧
    s.host.abortsBefore e < 8 ∧ s.host.tags.find? (fun y => y.2.cntl == e.cntl && y.2.sqid == sq && y.2.cid == cid && y.1 != tag) = some
    (k, x) ∧ x.abortable (s.host.func e.cntl.val) k = true :=
⟨(fun s : State =>
    { s with host := { s.host with tags := [(4, { entry 1 .accepted (.read rw) with cid := 9 }), (5, admTag (.abort 1 9))] } }) upNs, 5,
    4, 1, 9, admTag (.abort 1 9), { entry 1 .accepted (.read rw) with cid := 9 }, by decide +kernel⟩

theorem test_meets_control_commands_do_3 : ∃ (s : State) (tag k sq cid : Nat) (e x : TagE), s.adminReady tag e ∧ e.cmd = .abort sq cid ∧
    s.host.abortsBefore e < 8 ∧ s.host.tags.find? (fun y => y.2.cntl == e.cntl && y.2.sqid == sq && y.2.cid == cid && y.1 != tag) = some
    (k, x) ∧ x.abortable (s.host.func e.cntl.val) k = false :=
⟨(fun s : State =>
    { s with host := { s.host with tags := [(4, { entry 1 .running (.flush 1) with cid := 9 }), (5, admTag (.abort 1 9))] } }) upNs, 5, 4,
    1, 9, admTag (.abort 1 9), { entry 1 .running (.flush 1) with cid := 9 }, by decide +kernel⟩

theorem test_meets_control_commands_do_4 : ∃ (s : State) (tag sq cid : Nat) (e : TagE), s.adminReady tag e ∧ e.cmd = .abort sq cid ∧
    s.host.abortsBefore e < 8 ∧ s.host.tags.find? (fun y => y.2.cntl == e.cntl && y.2.sqid == sq && y.2.cid == cid && y.1 != tag) = none
    :=
⟨adm (.abort 1 9), 5, 1, 9, admTag (.abort 1 9), by decide +kernel⟩

theorem test_meets_control_commands_do_5 : ∃ (s : State) (tag : Nat) (e : TagE) (ev : AsyncEv) (rest : List AsyncEv), s.adminReady tag e ∧
    e.cmd = .asyncEventRequest ∧ (s.host.func e.cntl.val).events = ev :: rest :=
⟨fun0 (adm .asyncEventRequest) (fun f => { f with events := [event] }), 5, admTag .asyncEventRequest, event, [], by decide +kernel⟩

theorem test_meets_control_commands_do_6 : ∃ (s : State) (tag : Nat) (e : TagE), s.adminReady tag e ∧ e.cmd = .asyncEventRequest ∧
    (s.host.func e.cntl.val).events = [] ∧ (s.host.func e.cntl.val).aers.length < 8 :=
⟨adm .asyncEventRequest, 5, admTag .asyncEventRequest, by decide +kernel⟩

theorem test_meets_control_commands_do_7 : ∃ (s : State) (tag : Nat) (e : TagE), s.adminReady tag e ∧ e.cmd = .asyncEventRequest ∧
    (s.host.func e.cntl.val).events = [] ∧ 8 ≤ (s.host.func e.cntl.val).aers.length :=
⟨fun0 (adm .asyncEventRequest) (fun f => { f with aers := [10, 11, 12, 13, 14, 15, 16, 17] }), 5, admTag .asyncEventRequest,
    by decide +kernel⟩

theorem test_meets_control_commands_do_8 : ∃ (s : State) (tag : Nat) (e : TagE), s.adminReady tag e ∧ e.cmd = .keepAlive :=
⟨adm .keepAlive, 5, admTag .keepAlive, by decide +kernel⟩

/-! ### ValueFeaturesAreKept -/

theorem test_meets_value_features_are_kept_1 : ∃ (s : State) (tag : Nat) (e : TagE) (v nsid : Dword) (d : BitVec 128), s.setReady tag e
    0x01 v nsid d :=
⟨feat 0x01 7 0, 5, featTag 0x01 7 0, 7, 0, 0, by decide +kernel⟩

theorem test_meets_value_features_are_kept_2 : ∃ (s : State) (tag : Nat) (e : TagE) (v nsid : Dword) (d : BitVec 128), s.setReady tag e
    0x04 v nsid d ∧ getField v 16 4 = 0 ∧ getField v 20 2 = 0 :=
⟨feat 0x04 350 0, 5, featTag 0x04 350 0, 350, 0, 0, by decide +kernel⟩

theorem test_meets_value_features_are_kept_3 : ∃ (s : State) (tag : Nat) (e : TagE) (v nsid : Dword) (d : BitVec 128), s.setReady tag e
    0x06 v nsid d ∧ s.armed = false :=
⟨feat 0x06 1 0, 5, featTag 0x06 1 0, 1, 0, 0, by decide +kernel⟩

theorem test_meets_value_features_are_kept_4 : ∃ (s : State) (tag : Nat) (e : TagE) (v nsid : Dword) (d : BitVec 128), s.setReady tag e
    0x08 v nsid d :=
⟨feat 0x08 5 0, 5, featTag 0x08 5 0, 5, 0, 0, by decide +kernel⟩

theorem test_meets_value_features_are_kept_5 : ∃ (s : State) (tag : Nat) (e : TagE) (v nsid : Dword) (d : BitVec 128), s.setReady tag e
    0x09 v nsid d ∧ getField v 0 16 < vectors e.cntl :=
⟨feat 0x09 256 0, 5, featTag 0x09 256 0, 256, 0, 0, by decide +kernel⟩

theorem test_meets_value_features_are_kept_6 : ∃ (s : State) (tag : Nat) (e : TagE) (v nsid : Dword) (d : BitVec 128), s.setReady tag e
    0x0A v nsid d :=
⟨feat 0x0A 1 0, 5, featTag 0x0A 1 0, 1, 0, 0, by decide +kernel⟩

theorem test_meets_value_features_are_kept_7 : ∃ (s : State) (tag : Nat) (e : TagE) (v nsid : Dword) (d : BitVec 128), s.setReady tag e
    0x0B v nsid d :=
⟨feat 0x0B 256 0, 5, featTag 0x0B 256 0, 256, 0, 0, by decide +kernel⟩

/-! ### OtherFeaturesDo -/

theorem test_meets_other_features_do_1 : ∃ (s : State) (tag : Nat) (e : TagE) (v nsid : Dword) (d : BitVec 128), s.setReady tag e 0x02 v
    nsid d ∧ e.cntl.isPF = true ∧ getField v 0 5 ≤ 4 :=
⟨feat 0x02 4 0, 5, featTag 0x02 4 0, 4, 0, 0, by decide +kernel⟩

theorem test_meets_other_features_do_2 : ∃ (s : State) (tag : Nat) (e : TagE) (v nsid : Dword) (d : BitVec 128), s.setReady tag e 0x07 v
    nsid d ∧ getField v 0 16 ≠ 65535 ∧ getField v 16 16 ≠ 65535 ∧ s.host.cqs.any (fun x => decide (x.1 / 65536 = e.cntl.val ∧ x.1 % 65536
    ≠ 0)) = false :=
⟨feat 0x07 65534 0, 5, featTag 0x07 65534 0, 65534, 0, 0, by decide +kernel⟩

theorem test_meets_other_features_do_4 : ∃ (s : State) (tag : Nat) (e : TagE) (v nsid : Dword) (d : BitVec 128), s.setReady tag e 0x0F v
    nsid d :=
⟨feat 0x0F 30 0, 5, featTag 0x0F 30 0, 30, 0, 0, by decide +kernel⟩

theorem test_meets_other_features_do_6 : ∃ (s : State) (tag : Nat) (e : TagE) (v nsid : Dword) (d : BitVec 128), s.setReady tag e 0x82 v
    nsid d ∧ s.nvm.namedFor e.cntl.val nsid.toNat ≠ [] :=
⟨feat 0x82 2 1, 5, featTag 0x82 2 1, 2, 1, 0, by decide +kernel⟩

theorem test_meets_other_features_do_7 : ∃ (s : State) (tag : Nat) (e : TagE) (v nsid : Dword) (d : BitVec 128), s.setReady tag e 0x83 v
    nsid d ∧ s.nvm.namedFor e.cntl.val nsid.toNat ≠ [] :=
⟨feat 0x83 1 1, 5, featTag 0x83 1 1, 1, 1, 0, by decide +kernel⟩

theorem test_meets_other_features_do_8 : ∃ (s : State) (tag : Nat) (e : TagE) (fid : Byte) (sv : Bool) (v nsid : Dword) (d : BitVec 128),
    s.adminReady tag e ∧ e.cmd = .setFeatures fid sv v nsid d ∧ s.featureThere fid.toNat = false :=
⟨feat 0x05 0 0, 5, featTag 0x05 0 0, 0x05, false, 0, 0, 0, by decide +kernel⟩

/-! ### NamespaceCommandsDo -/

theorem test_meets_namespace_commands_do_2 : ∃ (s : State) (tag : Nat) (e : TagE) (nsid : Dword) (nsze st : Nat) (flbas : Byte) (x : NsS),
    s.adminReady tag e ∧ e.cntl.isPF = true ∧ e.cmd = .nsManagement 1 nsid nsze flbas st ∧ s.nvm.sanAction = 0 ∧ nsid.toNat ≠ nsidAll ∧
    s.nvm.ns nsid.toNat = some x ∧ x.mode = .normal :=
⟨adm (.nsManagement 1 1 0 0 0), 5, admTag (.nsManagement 1 1 0 0 0), 1, 0, 0, 0, ns, by decide +kernel⟩

theorem test_meets_namespace_commands_do_5 : ∃ (s : State) (tag : Nat) (e : TagE) (nsid : Dword) (ses : Nat), s.adminReady tag e ∧ e.cmd =
    .formatNvm nsid 0 ses false ∧ ses ≤ 2 ∧ s.nvm.namedFor e.cntl.val nsid.toNat ≠ [] ∧ s.nvm.sanAction = 0 ∧ (s.nvm.namedFor e.cntl.val
    nsid.toNat).any s.nvm.longBusy = false :=
⟨adm (.formatNvm 1 0 2 false), 5, admTag (.formatNvm 1 0 2 false), 1, 2, by decide +kernel⟩

/-! ### SanitizeCommandsDo -/

theorem test_meets_sanitize_commands_do_1 : ∃ (s : State) (tag : Nat) (e : TagE) (ause : Bool), s.adminReady tag e ∧ e.cntl.isPF = true ∧
    e.cmd = .sanitize 4 ause ∧ s.nvm.sanAction = 0 :=
⟨adm (.sanitize 4 false), 5, admTag (.sanitize 4 false), false, by decide +kernel⟩

theorem test_meets_sanitize_commands_do_2 : ∃ (s : State) (tag : Nat) (e : TagE) (ause : Bool), s.adminReady tag e ∧ e.cntl.isPF = true ∧
    e.cmd = .sanitize 2 ause ∧ s.nvm.sanAction = 0 :=
⟨adm (.sanitize 2 false), 5, admTag (.sanitize 2 false), false, by decide +kernel⟩

theorem test_meets_sanitize_commands_do_3 : ∃ (s : State) (tag : Nat) (e : TagE) (ause : Bool), s.adminReady tag e ∧ e.cntl.isPF = true ∧
    e.cmd = .sanitize 1 ause ∧ s.nvm.sanAction = 0 :=
⟨adm (.sanitize 1 false), 5, admTag (.sanitize 1 false), false, by decide +kernel⟩

theorem test_meets_sanitize_commands_do_4 : ∃ (s : State) (tag : Nat) (e : TagE) (ause : Bool), s.adminReady tag e ∧ e.cntl.isPF = true ∧
    e.cmd = .sanitize 3 ause ∧ s.nvm.sanAction = 0 :=
⟨adm (.sanitize 3 false), 5, admTag (.sanitize 3 false), false, by decide +kernel⟩

/-! ### AbsentOpcodesFail -/

theorem test_meets_absent_opcodes_fail_1 : ∃ (s : State) (tag : Nat) (e : TagE), s.adminReady tag e ∧ e.cmd = .firmwareCommit :=
⟨adm .firmwareCommit, 5, admTag .firmwareCommit, by decide +kernel⟩

theorem test_meets_absent_opcodes_fail_2 : ∃ (s : State) (tag : Nat) (e : TagE), s.adminReady tag e ∧ e.cmd = .firmwareDownload :=
⟨adm .firmwareDownload, 5, admTag .firmwareDownload, by decide +kernel⟩

theorem test_meets_absent_opcodes_fail_3 : ∃ (s : State) (tag : Nat) (e : TagE) (opc : Byte), s.adminReady tag e ∧ e.cmd = .otherAdmin opc
    :=
⟨adm (.otherAdmin 0x7F), 5, admTag (.otherAdmin 0x7F), 0x7F, by decide +kernel⟩

theorem test_meets_absent_opcodes_fail_4 : ∃ (s : State) (tag : Nat) (e : TagE), s.adminReady tag e ∧ vendorAdmin e.cmd = true ∧
    e.cntl.isPF = false :=
⟨tagged upNs { (admTag (.leaseStatus false)) with cntl := 1 }, 5, { (admTag (.leaseStatus false)) with cntl := 1 }, by decide +kernel⟩

theorem test_meets_absent_opcodes_fail_5 : ∃ (s : State) (tag : Nat) (e : TagE) (opc : Byte), s.ioReady tag e ∧ e.cmd = .otherIo opc :=
⟨io (.otherIo 0x7F), 5, ioTag (.otherIo 0x7F), 0x7F, by decide +kernel⟩

/-! ### LeaseCommandsDo -/

theorem test_meets_lease_commands_do_2 : ∃ (s : State) (tag : Nat) (e : TagE) (ltag : Dword), s.adminReady tag e ∧ e.cntl.isPF = true ∧
    e.cmd = .leaseRevoke ltag false ∧ (s.nvm.lease e.cntl.port).state = .active ∧ (s.nvm.lease e.cntl.port).ltag = ltag :=
⟨onLease (adm (.leaseRevoke 9 false)) (fun l => { l with state := .active, ltag := 9 }), 5, admTag (.leaseRevoke 9 false), 9,
    by decide +kernel⟩

/-! ### ReadCommandsDo -/

theorem test_meets_read_commands_do_1 : ∃ (s : State) (tag : Nat) (e : TagE) (f : RwFields) (x : NsS), s.ioReady tag e ∧ e.cmd = .read f ∧
    s.nsReady e f.nsid x .reads ∧ readVerdict f x false = none :=
⟨io (.read rw), 5, ioTag (.read rw), rw, ns, by decide +kernel⟩

theorem test_meets_read_commands_do_2 : ∃ (s : State) (tag : Nat) (e : TagE) (f : RwFields) (x : NsS) (st : Status), s.ioReady tag e ∧
    e.cmd = .read f ∧ s.nsReady e f.nsid x .reads ∧ readVerdict f x false = some st :=
⟨io (.read { rw with slba := 262144 }), 5, ioTag (.read { rw with slba := 262144 }), { rw with slba := 262144 }, ns, stRange,
    by decide +kernel⟩

theorem test_meets_read_commands_do_3 : ∃ (s : State) (tag : Nat) (e : TagE) (f : RwFields) (x : NsS), s.ioReady tag e ∧ e.cmd =
    .orderedRead f ∧ s.nsReady e f.nsid x .reads ∧ readVerdict f x false = none :=
⟨io (.orderedRead rw), 5, ioTag (.orderedRead rw), rw, ns, by decide +kernel⟩

theorem test_meets_read_commands_do_4 : ∃ (s : State) (tag : Nat) (e : TagE) (f : RwFields) (x : NsS), s.ioReady tag e ∧ e.cmd = .compare
    f ∧ s.nsReady e f.nsid x .reads ∧ readVerdict f x true = none :=
⟨io (.compare rw), 5, ioTag (.compare rw), rw, ns, by decide +kernel⟩

theorem test_meets_read_commands_do_5 : ∃ (s : State) (tag : Nat) (e : TagE) (f : GatherFields) (x : NsS), s.ioReady tag e ∧ e.cmd =
    .gatherRead f ∧ s.nsReady e f.nsid x .reads ∧ gatherVerdict f x (s.par P.DMA_RESHUFFLE_GBS) = none :=
⟨io (.gatherRead gather), 5, ioTag (.gatherRead gather), gather, ns, by decide +kernel⟩

/-! ### FieldsAreCheckedInOrder -/

theorem test_meets_fields_are_checked_in_order_1 : ∃ f : RwFields, f.prinfo ≠ 0 ∨ f.stc = true ∨ f.dtype ≠ 0 :=
⟨{ rw with dtype := 1 }, by decide +kernel⟩

theorem test_meets_fields_are_checked_in_order_1_b : ∃ f : RwFields, f.prinfo = 0 ∧ f.stc = false ∧ f.dtype = 0 ∧ 256 < rwLen f :=
⟨{ rw with nlb0 := 256 }, by decide +kernel⟩

theorem test_meets_fields_are_checked_in_order_1_c : ∃ (f : RwFields) (x : NsS), f.prinfo = 0 ∧ f.stc = false ∧ f.dtype = 0 ∧ rwLen f ≤
    256 ∧ x.nlb < f.slba + rwLen f :=
⟨{ rw with slba := 261889, nlb0 := 255 }, ns, by decide +kernel⟩

theorem test_meets_fields_are_checked_in_order_1_d : ∃ (f : RwFields) (x : NsS), f.prinfo = 0 ∧ f.stc = false ∧ f.dtype = 0 ∧ rwLen f ≤
    256 ∧ f.slba + rwLen f ≤ x.nlb :=
⟨{ rw with slba := 261888, nlb0 := 255 }, ns, by decide +kernel⟩

/-! ### WriteCommandsDo -/

theorem test_meets_write_commands_do_1 : ∃ (s : State) (tag : Nat) (e : TagE) (f : RwFields) (x : NsS), s.ioReady tag e ∧ e.cmd = .write f
    ∧ s.nsReady e f.nsid x .writes ∧ s.writeVerdict f x = none :=
⟨(io (.write rw)), 5, ioTag (.write rw), rw, ns, by decide +kernel⟩

theorem test_meets_write_commands_do_2 : ∃ (s : State) (tag : Nat) (e : TagE) (f : RwFields) (x : NsS), s.ioReady tag e ∧ e.cmd = .write f
    ∧ s.nsReady e f.nsid x .writes ∧ rwVerdict f x = none ∧ s.writeProtected x = true :=
⟨(fun s : State => { s with media := { s.media with readOnly := true } }) (io (.write rw)), 5, ioTag (.write rw), rw, ns,
    by decide +kernel⟩

theorem test_meets_write_commands_do_3 : ∃ (s : State) (tag : Nat) (e : TagE) (f : RwFields) (x : NsS), s.ioReady tag e ∧ e.cmd =
    .orderedWrite f ∧ s.nsReady e f.nsid x .writes ∧ s.writeVerdict f x = none :=
⟨(io (.orderedWrite rw)), 5, ioTag (.orderedWrite rw), rw, ns, by decide +kernel⟩

theorem test_meets_write_commands_do_4 : ∃ (s : State) (tag : Nat) (e : TagE) (f : RwFields) (x : NsS), s.ioReady tag e ∧ e.cmd =
    .writeZeroes f ∧ s.nsReady e f.nsid x .writes ∧ f.slba + rwLen f ≤ x.nlb :=
⟨io (.writeZeroes rw), 5, ioTag (.writeZeroes rw), rw, ns, by decide +kernel⟩

theorem test_meets_write_commands_do_5 : ∃ (s : State) (tag : Nat) (e : TagE) (nsid : Dword) (rs : List DsmRange) (x : NsS), s.ioReady tag
    e ∧ e.cmd = .dsm nsid true rs ∧ s.nsReady e nsid x .writes ∧ dptrCheck e.ptr (16 * rs.length) true = none ∧ rs.all (fun r => decide
    (r.slba + r.length ≤ x.nlb)) = true :=
⟨io (.dsm 1 true [⟨0, 262144⟩]), 5, ioTag (.dsm 1 true [⟨0, 262144⟩]), 1, [⟨0, 262144⟩], ns, by decide +kernel⟩

theorem test_meets_write_commands_do_6 : ∃ (s : State) (tag : Nat) (e : TagE) (nsid : Dword) (rs : List DsmRange) (x : NsS), s.ioReady tag
    e ∧ e.cmd = .dsm nsid false rs ∧ s.nsReady e nsid x .writes ∧ dptrCheck e.ptr (16 * rs.length) true = none :=
⟨io (.dsm 1 false []), 5, ioTag (.dsm 1 false []), 1, [], ns, by decide +kernel⟩

theorem test_meets_write_commands_do_7 : ∃ (s : State) (tag : Nat) (e : TagE) (nsid : Dword) (rs : List DsmRange) (x : NsS), s.ioReady tag
    e ∧ e.cmd = .orderedDsm nsid true rs ∧ s.nsReady e nsid x .writes ∧ dptrCheck e.ptr (16 * rs.length) true = none ∧ rs.all (fun r =>
    decide (r.slba + r.length ≤ x.nlb)) = true :=
⟨io (.orderedDsm 1 true [⟨0, 16⟩]), 5, ioTag (.orderedDsm 1 true [⟨0, 16⟩]), 1, [⟨0, 16⟩], ns, by decide +kernel⟩

theorem test_meets_write_commands_do_8 : ∃ (s : State) (tag : Nat) (e : TagE) (nsid : Dword) (x : NsS), s.ioReady tag e ∧ e.cmd = .flush
    nsid ∧ nsid.toNat ≠ nsidAll ∧ s.nsReady e nsid x .writes :=
⟨io (.flush 1), 5, ioTag (.flush 1), 1, ns, by decide +kernel⟩

/-! ### ReservationCommandsDo -/

theorem test_meets_reservation_commands_do_1 : ∃ (s : State) (tag : Nat) (e : TagE) (nsid : Dword) (x : NsS) (ie : Bool) (pt : PtplChange)
    (ck nk : Qword), s.ioReady tag e ∧ e.cmd = .resvRegister nsid .register ie pt ck nk ∧ s.nsReady e nsid x .free ∧ dptrCheck e.ptr 16
    true = none ∧ x.registrant (s.host.func e.cntl.val).hostId nk true = none :=
⟨io (.resvRegister 1 .register false .keep 0 6), 5, ioTag (.resvRegister 1 .register false .keep 0 6), 1, ns, false, .keep, 0, 6,
    by decide +kernel⟩

theorem test_meets_reservation_commands_do_2 : ∃ (s : State) (tag : Nat) (e : TagE) (nsid : Dword) (x : NsS) (ie : Bool) (ty : RsvType)
    (ck pk : Qword) (r : Registrant), s.ioReady tag e ∧ e.cmd = .resvAcquire nsid .acquire ie ty ck pk ∧ s.nsReady e nsid x .free ∧
    dptrCheck e.ptr 16 true = none ∧ x.registrant (s.host.func e.cntl.val).hostId ck ie = some r ∧ x.rtype = none :=
⟨reserved nsKnown (.resvAcquire 1 .acquire false .writeExclusive 6 0), 5, ioTag (.resvAcquire 1 .acquire false .writeExclusive 6 0), 1,
    nsKnown, false, .writeExclusive, 6, 0, host0, by decide +kernel⟩

theorem test_meets_reservation_commands_do_3 : ∃ (s : State) (tag : Nat) (e : TagE) (nsid : Dword) (x : NsS) (ie : Bool) (ck : Qword) (r :
    Registrant), s.ioReady tag e ∧ e.cmd = .resvRelease nsid false ie .writeExclusive ck ∧ s.nsReady e nsid x .free ∧ dptrCheck e.ptr 8
    true = none ∧ x.registrant (s.host.func e.cntl.val).hostId ck ie = some r ∧ x.rtype = some .writeExclusive ∧ x.holder = some
    (s.host.func e.cntl.val).hostId :=
⟨reserved nsHeld (.resvRelease 1 false false .writeExclusive 6), 5, ioTag (.resvRelease 1 false false .writeExclusive 6), 1, nsHeld,
    false, 6, host0, by decide +kernel⟩

theorem test_meets_reservation_commands_do_4 : ∃ (s : State) (tag : Nat) (e : TagE) (nsid : Dword) (x : NsS), s.ioReady tag e ∧ e.cmd =
    .resvReport nsid ∧ s.nsReady e nsid x .free ∧ dptrCheck e.ptr (s.rsvStatus x (((s.host.func e.cntl.val).feature 0x81).getLsbD 0)).1
    false = none :=
⟨io (.resvReport 1), 5, ioTag (.resvReport 1), 1, ns, by decide +kernel⟩

/-! ### CompletionPosts -/

theorem test_meets_completion_posts_1 : ∃ (s : State) (tag : Nat) (e : TagE) (q : CqS) (_st : Status) (_dw0 : Dword) (_d : Payload) (_ep :
    List Nat), sget s.host.tags tag = some e ∧ s.isFailed = false ∧ (e.phase == .held) = false ∧ sget s.host.cqs (qKey e.cntl.val e.cqid)
    = some q ∧ q.full = false :=
⟨queued (io (.flush 1)) sq cq, 5, ioTag (.flush 1), cq, stOk, 0, .nothing, [], by decide +kernel⟩

theorem test_meets_completion_posts_2 : ∃ (s : State) (tag : Nat) (e : TagE) (q : CqS) (_st : Status) (_dw0 : Dword) (_d : Payload) (_ep :
    List Nat), sget s.host.tags tag = some e ∧ s.isFailed = false ∧ (e.phase == .held) = false ∧ sget s.host.cqs (qKey e.cntl.val e.cqid)
    = some q ∧ q.full = true :=
⟨queued (io (.flush 1)) sq { cq with size := 2, posted := [cqe] }, 5, ioTag (.flush 1), { cq with size := 2, posted := [cqe] }, stOk, 0,
    .nothing, [], by decide +kernel⟩

theorem test_meets_completion_posts_4 : ∃ (s : State) (_tag : Nat) (_st : Status) (_dw0 : Dword) (_d : Payload) (_ep : List Nat),
    s.isFailed = true :=
⟨{ up with dev := { up.dev with failed := true } }, 5, stOk, 0, .nothing, [], by decide +kernel⟩

/-! ### LongOperationsDo -/

theorem test_meets_long_operations_do_1 : ∃ (s : State) (op : Nat) (o : SlicedOp), sget s.nvm.ops op = some o ∧ s.mediaRuns = true ∧
    s.dev.phase = .running ∧ o.begun = false ∧ s.opMayBegin o = true :=
⟨withOp upNs { op with begun := false }, 2, { op with begun := false }, by decide +kernel⟩

theorem test_meets_long_operations_do_2 : ∃ (s : State) (op : Nat) (g : Grove) (o : SlicedOp), sget s.nvm.ops op = some o ∧ s.mediaRuns =
    true ∧ s.dev.phase = .running ∧ o.begun = true ∧ s.groveRestarting g = false ∧ o.left ≠ 0 ∧ o.doneIn g = false ∧ s.sliceHeld g (16 +
    op) = false ∧ (o.kind ≠ .sanitizeBlock ∨ s.nvm.sanPhase ≠ 2) ∧ s.sliceWaits op g = false :=
⟨withOp upNs { op with work := [(0, [(0, 16)])] }, 2, 0, { op with work := [(0, [(0, 16)])] }, by decide +kernel⟩

theorem test_meets_long_operations_do_3 : ∃ (s : State) (op : Nat) (g : Grove) (o : SlicedOp), sget s.nvm.ops op = some o ∧ s.mediaRuns =
    true ∧ s.dev.phase = .running ∧ o.begun = true ∧ s.groveRestarting g = false ∧ o.left ≠ 0 ∧ o.doneIn g = false ∧ s.sliceHeld g (16 +
    op) = false ∧ o.kind = .sanitizeBlock ∧ s.nvm.sanPhase = 2 :=
⟨(fun s : State => { s with nvm := { s.nvm with sanPhase := 2 } }) (withOp upNs
    { op with kind := .sanitizeBlock, work := [(0, [(0, 16)])] }), 2, 0, { op with kind := .sanitizeBlock, work := [(0, [(0, 16)])] },
    by decide +kernel⟩

theorem test_meets_long_operations_do_4 : ∃ (s : State) (op : Nat) (g : Grove) (o : SlicedOp), sget s.nvm.ops op = some o ∧ s.mediaRuns =
    true ∧ s.dev.phase = .running ∧ o.begun = true ∧ s.groveRestarting g = false ∧ o.left ≠ 0 ∧ s.sliceHeld g (16 + op) = true :=
⟨gapRuns (withOp upNs { op with work := [(0, [(0, 16)])] }) 18, 2, 0, { op with work := [(0, [(0, 16)])] }, by decide +kernel⟩

/-! ### DataMovementDoes -/

theorem test_meets_data_movement_does_10 : ∃ (s : State) (r : CordReq) (own k : Nat), s.nextShare = some (r, own) ∧ r.user = .tag k :=
⟨{ up with land := { up.land with waiting := [cordReq] } }, cordReq, 0, 5, by decide +kernel⟩

theorem test_meets_data_movement_does_11 : ∃ (s : State) (tag : Nat) (e : TagE) (f : GatherFields) (g : GatherS) (x : NsS), sget
    s.host.tags tag = some e ∧ e.cmd = .gatherRead f ∧ e.gather = some g ∧ s.nvm.ns f.nsid.toNat = some x ∧ s.gatherReady tag e = true :=
⟨tagged upNs { runTag (.gatherRead gather) with gather := some gatherS }, 5, { runTag (.gatherRead gather) with gather := some gatherS },
    gather, gatherS, ns, by decide +kernel⟩

/-! ### LeafAndLeaseRowsDo -/

theorem test_meets_leaf_and_lease_rows_do_1 : ∃ (s : State) (dgn lpn : Nat) (_p : Port) (g : LeafPage), s.map.pageOf dgn = some lpn ∧ sget
    s.map.pages lpn = some g ∧ s.fwRuns = true ∧ g.cached = false ∧ s.missServed lpn = false ∧ s.groveRestarting (groveOf dgn) = false :=
⟨paged upNs page, 0, 0, 1, page, by decide +kernel⟩

theorem test_meets_leaf_and_lease_rows_do_2 : ∃ (s : State) (lpn : Nat) (p : Port) (w : Nat × Nat × Nat), s.groveRestarting (groveOf lpn)
    = false ∧ s.nvm.writer lpn = some p ∧ (s.nvm.lease p).writes lpn = some w ∧ s.land.holds (.lease lpn) = true :=
⟨(fun s : State =>
    { s with land := { s.land with grants := [{ req := { cordReq with user := .lease 0 }, cords := [0], fromRes := 1 }] } }) (onLease
    (paged upNs page) (fun l => { l with writing := [(0, 0, 1)] })), 0, 0, (0, 0, 1), by decide +kernel⟩

theorem test_meets_leaf_and_lease_rows_do_3 : ∃ (s : State) (lpn : Nat) (p : Port) (g : LeafPage) (b : Block), s.groveRestarting (groveOf
    lpn) = false ∧ s.nvm.fetcher lpn = some p ∧ sget s.map.pages lpn = some g ∧ g.leased = true ∧ g.cached = false ∧ s.map.accepts lpn g b
    = true :=
⟨onLease (paged upNs { page with leased := true }) (fun l => { l with fetching := [0] }), 0, 0, { page with leased := true }, _,
    by decide +kernel, by decide +kernel, by decide +kernel, rfl, rfl, accepts_sealed _ _ _ leafBody (by decide +kernel)
    (by decide +kernel)⟩

theorem test_meets_leaf_and_lease_rows_do_4 : ∃ (s : State) (lpn : Nat) (p : Port) (g : LeafPage) (r : Option Block), s.groveRestarting
    (groveOf lpn) = false ∧ s.nvm.fetcher lpn = some p ∧ sget s.map.pages lpn = some g ∧ g.leased = true ∧ g.cached = false ∧ (∀ b, r =
    some b → s.map.accepts lpn g b = false) :=
⟨onLease (paged upNs { page with leased := true }) (fun l => { l with fetching := [0] }), 0, 0, { page with leased := true }, none,
    by decide +kernel, by decide +kernel, by decide +kernel, rfl, rfl, fun _ h => nomatch h⟩

theorem test_meets_leaf_and_lease_rows_do_5 : ∃ (s : State) (lpn : Nat) (p : Port) (g : LeafPage) (_r : Option Block), s.groveRestarting
    (groveOf lpn) = false ∧ s.nvm.fetcher lpn = some p ∧ sget s.map.pages lpn = some g ∧ (g.leased = false ∨ g.cached = true) :=
⟨onLease (paged upNs page) (fun l => { l with fetching := [0] }), 0, 0, page, none, by decide +kernel⟩

theorem test_meets_leaf_and_lease_rows_do_6 : ∃ (s : State) (p : Port), (s.nvm.lease p).state = .revoking ∧ (s.nvm.lease
    p).writing.isEmpty = true ∧ (s.nvm.lease p).fetching.isEmpty = true :=
⟨onLease up (fun l => { l with state := .revoking }), 0, by decide +kernel⟩

theorem test_meets_leaf_and_lease_rows_do_7 : ∃ (s : State) (lpn : Nat) (_r : Option Block), s.groveRestarting (groveOf lpn) = true :=
⟨onGrove up (fun m => { m with restarting := true }), 0, none, by decide +kernel⟩

/-! ### LeaseEnds -/

theorem test_meets_lease_ends_1 : ∃ (s : State) (p : Port) (_cause : Nat), (s.nvm.lease p).state = .active ∧ (s.nvm.lease p).revokeTag =
    none :=
⟨onLease up (fun l => { l with state := .active }), 0, 4, by decide +kernel⟩

/-! ### JournalRowsDo -/

theorem test_meets_journal_rows_do_4 : ∃ (s t : State) (g : Grove), s.mediaRuns = true ∧ s.groveRestarting g = false ∧
    s.dev.mapDone.getLsbD g.val = true ∧ (s.sliceHeld g 0 = false ∨ (s.map.grove g).logHigh = true) ∧ s.spill g = t ∧ (t.map.grove g).gen
    = none ∧ (t.map.grove g).wearLeft = [] ∧ (t.map.grove g).room = true :=
⟨flashUp up, _, 0, by decide +kernel, by decide +kernel, by decide +kernel, by decide +kernel, rfl, by decide +kernel⟩

theorem test_meets_journal_rows_do_5 : ∃ (s t : State) (g : Grove) (i : Nat) (rest : List Nat), s.mediaRuns = true ∧ s.groveRestarting g =
    false ∧ s.dev.mapDone.getLsbD g.val = true ∧ (s.sliceHeld g 0 = false ∨ (s.map.grove g).logHigh = true) ∧ s.spill g = t ∧ (t.map.grove
    g).gen = none ∧ (t.map.grove g).wearLeft = i :: rest :=
⟨onGrove (flashUp up) (fun m => { m with wearLeft := [4] }), _, 0, 4, [], by decide +kernel, by decide +kernel, by decide +kernel,
    by decide +kernel, rfl, by decide +kernel⟩

theorem test_meets_journal_rows_do_6 : ∃ (s t : State) (g : Grove) (x : GenS) (u : Nat) (rest : List Nat), s.mediaRuns = true ∧
    s.groveRestarting g = false ∧ s.dev.mapDone.getLsbD g.val = true ∧ (s.sliceHeld g 0 = false ∨ (s.map.grove g).logHigh = true) ∧
    s.spill g = t ∧ (t.map.grove g).gen = some x ∧ x.units = u :: rest :=
⟨onGrove (flashUp up) (fun m => { m with gen := some { gen with units := [4] } }), _, 0, { gen with units := [4] }, 4, [],
    by decide +kernel, by decide +kernel, by decide +kernel, by decide +kernel, rfl, by decide +kernel⟩

theorem test_meets_journal_rows_do_7 : ∃ (s t : State) (g : Grove) (x : GenS) (p : Ploc), s.mediaRuns = true ∧ s.groveRestarting g = false
    ∧ s.dev.mapDone.getLsbD g.val = true ∧ (s.sliceHeld g 0 = false ∨ (s.map.grove g).logHigh = true) ∧ s.spill g = t ∧ (t.map.grove
    g).gen = some x ∧ x.units = [] ∧ t.unitsPending g = false ∧ x.root = some p :=
⟨onGrove (flashUp up) (fun m => { m with gen := some gen }), _, 0, gen, 0, by decide +kernel, by decide +kernel, by decide +kernel,
    by decide +kernel, rfl, by decide +kernel⟩

theorem test_meets_journal_rows_do_8 : ∃ (s : State) (g : Grove) (i : RebuildInput) (w : Bool), (i.controlOk && (s.map.grove g).inDram &&
    (s.map.grove g).ctlGood) = w ∧ s.mayRebuild g w = true :=
⟨onGrove (flashUp { booting with dev := { booting.dev with mapDone := 0 } }) (fun m => { m with inDram := true }), 0, sound, false,
    by decide +kernel⟩

/-! ### PlacementRowsDo -/

theorem test_meets_placement_rows_do_1 : ∃ (s t : State) (st : StandNo) (d : DomId), s.mediaRuns = true ∧ s.readySets st .hot = t ∧
    t.nextDom st = some d ∧ (t.hotCands st).isEmpty = false :=
⟨flashUp (cached upNs { group with visible := true, slots := [slot] }), _, 3, { grove := 1, owner := none }, by decide +kernel, rfl,
    by decide +kernel⟩

theorem test_meets_placement_rows_do_2 : ∃ (s t : State) (st : StandNo) (d : DomId), s.mediaRuns = true ∧ s.tidyCopies.readySets st .cold
    = t ∧ (t.domsFor st).find? (fun d => !(t.coldCands st d).isEmpty && !t.placementWaits d.grove) = some d ∧ t.strangerCopies st = false
    :=
⟨onDom (copyable (flashUp upNs)) (fun x => { x with victims := [{ victim with copying := [0] }] }), _, 3, dom, by decide +kernel, rfl,
    by decide +kernel⟩

theorem test_meets_placement_rows_do_3 : ∃ (s : State) (_st : StandNo), s.mediaRuns = true :=
⟨flashUp upNs, 3, by decide +kernel⟩

theorem test_meets_placement_rows_do_4 : ∃ (s : State) (n : Nat) (w : WSet), s.media.wset n = some w ∧ w.started = true ∧ w.parityDone =
    false ∧ (s.dataMembers w).all (fun c => w.transferred.contains c) = true :=
⟨withSet (flashUp upNs) { wset with started := true, transferred := [0, 1, 2, 3, 4, 5, 6, 7] }, 4,
    { wset with started := true, transferred := [0, 1, 2, 3, 4, 5, 6, 7] }, by decide +kernel⟩

theorem test_meets_placement_rows_do_5 : ∃ (s : State) (n : Nat) (w : WSet), s.media.wset n = some w ∧ s.mediaRuns = true ∧ s.armed =
    false ∧ s.outstandingData w = true ∧ w.touched + s.par P.MED_FORCE_WAIT_US * 1000 ≤ s.now :=
⟨later (withSet (tagged (flashUp upNs) { runTag (.write rw) with groups := [0] }) setOf0) 4000000000, 4, setOf0, by decide +kernel⟩

theorem test_meets_placement_rows_do_6 : ∃ (s : State) (n : Nat) (w : WSet), s.media.wset n = some w ∧ s.mediaRuns = true ∧ (s.armed =
    true ∨ w.cls ≠ .hot) ∧ w.touched + s.par P.MED_IDLE_FORCE_MS * 1000000 ≤ s.now :=
⟨later (withSet (flashUp upNs) { wset with cls := .cold }) 400000000000, 4, { wset with cls := .cold }, by decide +kernel⟩

theorem test_meets_placement_rows_do_7 : ∃ (s : State) (st : StandNo) (k : WpClass) (d : DomId) (rb : Nat), (s.media.point st k d).rb =
    some rb ∧ s.fwRuns = true ∧ (s.media.point st k d).lastUse + s.par P.MED_OPEN_IDLE_S * 1000000000 ≤ s.now :=
⟨later
    { flashUp upNs with media := { upNs.media with points := [{ stand := 3, cls := .hot, dom := dom, rb := some 0, set := none, lastUse := 0, waiting := false }] } }
    0x10000000000000, 3, .hot, dom, 0, by decide +kernel⟩

theorem test_meets_placement_rows_do_8 : ∃ (s : State) (q : Dword) (g : CGroup) (n : NsS) (d : DomId), sget s.cache.groups q.toNat = some
    g ∧ s.mediaRuns = true ∧ g.visible = true ∧ 1073741824 ≤ (s.cache.nextGseq - q).toNat ∧ s.nvm.ns g.nsid = some n ∧ (s.domsFor
    n.stand).find? (fun d => !s.placementWaits d.grove && !(s.media.point n.stand .hot d).waiting) = some d :=
⟨(fun s : State => { s with cache := { s.cache with nextGseq := 1073741824 } }) (cached (flashUp upNs) { group with visible := true }), 0,
    { group with visible := true }, ns, dom, by decide +kernel⟩

/-! ### ThinningRowsDo -/

theorem test_meets_thinning_rows_do_3 : ∃ (s : State) (d : DomId) (_st : StandNo), s.mediaRuns = true ∧ s.groveRestarting d.grove = false
    ∧ s.dev.mapDone.getLsbD d.grove.val = true ∧ s.firstRung d = false ∧ (s.sliceHeld d.grove 1 = true ∨ s.govHolds (s.thinMode d).rung =
    true) :=
⟨gapRuns (flashUp upNs) 1, dom, 3, by decide +kernel⟩

theorem test_meets_thinning_rows_do_6 : ∃ (s : State) (d : DomId), s.mediaRuns = true ∧ s.checkDies d = [] ∧ s.govHolds 6 = false ∧
    (s.media.domS d).disturb = [] ∧ (s.media.domS d).cruise = [] ∧ (s.media.domS d).cruiseStart = 0 :=
⟨flashUp upNs, dom, by decide +kernel⟩

theorem test_meets_thinning_rows_do_7 : ∃ (s : State) (d : DomId) (st : StandNo), s.fwRuns = true ∧ (s.media.domS d).cruise.isEmpty =
    false ∧ (s.media.domS d).cruiseLate = false ∧ (s.media.domS d).cruiseStart + s.par P.MED_CRUISE_PERIOD_H * 4500000000000 ≤ s.now ∧
    d.owner = some st :=
⟨later (onDom (flashUp upNs) (fun x => { x with dom := { grove := 0, owner := some 3 }, cruise := [0] })) 0x7000000000000000,
    { grove := 0, owner := some 3 }, 3, by decide +kernel⟩

/-! ### DieRowsDo -/

theorem test_meets_die_rows_do_4 : ∃ (s : State) (ch : Chan) (i : Nat) (o : DieOp), (s.flash.chan ch.val).state = .active ∧ s.nextTransfer
    ch.val = some i ∧ s.flash.op i = some o ∧ o.isRead = true ∧ o.moved + 1 < o.slots.length :=
⟨onBus (flashUp upNs) { dieOp .readSingle .transfer rawFor with slots := [0, 1] }, 0, 6,
    { dieOp .readSingle .transfer rawFor with slots := [0, 1] }, by decide +kernel⟩

theorem test_meets_die_rows_do_5 : ∃ (s : State) (ch : Chan) (i : Nat) (o : DieOp), (s.flash.chan ch.val).state = .active ∧ s.nextTransfer
    ch.val = some i ∧ s.flash.op i = some o ∧ o.isRead = true ∧ o.slots.length ≤ o.moved + 1 :=
⟨onBus (flashUp upNs) (dieOp .readSingle .transfer rawFor), 0, 6, dieOp .readSingle .transfer rawFor, by decide +kernel⟩

theorem test_meets_die_rows_do_6 : ∃ (s : State) (ch : Chan) (i : Nat) (o : DieOp) (_dqsLoss : Bool), (s.flash.chan ch.val).state =
    .active ∧ s.nextTransfer ch.val = some i ∧ s.flash.op i = some o ∧ o.isRead = false :=
⟨onBus (flashUp upNs) (dieOp .progSlc .transfer (.unit 0 0)), 0, 6, dieOp .progSlc .transfer (.unit 0 0), true, by decide +kernel⟩

/-! ### ChannelRowsDo -/

theorem test_meets_channel_rows_do_1 : ∃ (s : State) (ch : Chan) (_as : List DieAnswer) (_rs : List StepReading), s.fwRuns = true ∧
    (s.flash.chan ch.val).state = .training ∧ (s.flash.chan ch.val).identified = true :=
⟨onChan (flashUp upNs) (fun c => { c with state := .training }), 0, [], [], by decide +kernel⟩

theorem test_meets_channel_rows_do_2 : ∃ (s : State) (ch : Chan) (as : List DieAnswer) (_rs : List StepReading), s.fwRuns = true ∧
    (s.flash.chan ch.val).state = .training ∧ (s.flash.chan ch.val).identified = false ∧ s.lowerDone ch.val = true ∧ answering as ≠ [] :=
⟨onChan (flashUp upNs) (fun c => { c with state := .training, identified := false }), 0, [answer], [], by decide +kernel⟩

theorem test_meets_channel_rows_do_3 : ∃ (s : State) (ch : Chan) (as : List DieAnswer) (_rs : List StepReading), s.fwRuns = true ∧
    (s.flash.chan ch.val).state = .training ∧ (s.flash.chan ch.val).identified = false ∧ s.lowerDone ch.val = true ∧ answering as = [] :=
⟨onChan (flashUp upNs) (fun c => { c with state := .training, identified := false }), 0, [], [], by decide +kernel⟩

theorem test_meets_channel_rows_do_4 : ∃ (s : State) (ch : Chan) (die : DieIx) (k : Nat) (_o : DriftOutcome), k = dieKey ch.val die.val ∧
    s.driftMay ch.val die.val = true ∧ (s.flash.die k).drift + 1 < s.driftSlices :=
⟨param (later (flashUp upNs) 0x7000000000000000) P.CHN_TRAIN_SLICE_US 1, 0, 0, _, .pass, rfl, by decide +kernel⟩

theorem test_meets_channel_rows_do_5 : ∃ (s : State) (ch : Chan) (die : DieIx) (k : Nat) (x : FlashS), k = dieKey ch.val die.val ∧
    s.driftMay ch.val die.val = true ∧ s.driftSlices ≤ (s.flash.die k).drift + 1 ∧ x = (s.flash.select ch.val die.val).modDie k (fun d =>
    { d with drift := 0, lastCheck := s.now }) :=
⟨later (flashUp upNs) 0x7000000000000000, 0, 0, _, _, rfl, by decide +kernel, by decide +kernel, rfl⟩

theorem test_meets_channel_rows_do_6 : ∃ (s : State) (ch : Chan) (die : DieIx) (k : Nat), k = dieKey ch.val die.val ∧ (s.flash.chan
    ch.val).state = .active ∧ (s.flash.die k).retraining = true ∧ s.l0Pending ch.val = false ∧ (s.flash.die k).slices + 1 < 128 :=
⟨{ flashUp upNs with flash := { (flashUp upNs).flash with dies := [(0, { DieS.blank with retraining := true })] } }, 0, 0, _, rfl,
    by decide +kernel, rfl, by decide +kernel⟩

theorem test_meets_channel_rows_do_7 : ∃ (s : State) (ch : Chan) (die : DieIx) (k : Nat) (_r _w : List (Nat × Nat)), k = dieKey ch.val
    die.val ∧ (s.flash.chan ch.val).state = .active ∧ (s.flash.die k).retraining = true ∧ s.l0Pending ch.val = false :=
⟨{ flashUp upNs with flash := { (flashUp upNs).flash with dies := [(0, { DieS.blank with retraining := true })] } }, 0, 0, _, [], [], rfl,
    by decide +kernel, rfl, by decide +kernel⟩

theorem test_meets_channel_rows_do_8 : ∃ (s : State) (ch : Chan), (s.flash.chan ch.val).state = .active ∧ (s.flash.chan ch.val).stuck = 2
    :=
⟨onChan (flashUp upNs) (fun c => { c with stuck := 2 }), 0, by decide +kernel⟩

theorem test_meets_channel_rows_do_9 : ∃ (s : State) (ch : Chan), (s.flash.chan ch.val).state = .active :=
⟨flashUp upNs, 63, by decide +kernel⟩

/-! ### PowerLossRowsDo -/

theorem test_meets_power_loss_rows_do_1 : ∃ (s : State) (c : CapCause) (_h : Bool), s.testDue c = true :=
⟨up, .startup, false, by decide +kernel⟩

theorem test_meets_power_loss_rows_do_2 : ∃ (s : State) (t : Nat), s.plp.testing = true ∧ s.fwRuns = true ∧ s.par P.PLP_TEST_MIN_MS ≤ t ∧
    t ≤ s.par P.PLP_TEST_MAX_MS :=
⟨testing, 52, by decide +kernel⟩

theorem test_meets_power_loss_rows_do_3 : ∃ (s : State) (t : Nat), s.plp.testing = true ∧ s.fwRuns = true ∧ t < s.par P.PLP_TEST_MIN_MS :=
⟨testing, 0, by decide +kernel⟩

theorem test_meets_power_loss_rows_do_4 : ∃ (s : State), s.plp.testing = true ∧ s.fwRuns = true :=
⟨testing, by decide +kernel⟩

theorem test_meets_power_loss_rows_do_5 : ∃ (s : State), s.plp.pwrFailN = true ∧ s.pwr.entering = false :=
⟨up, by decide +kernel⟩

theorem test_meets_power_loss_rows_do_11 : ∃ (s : State) (_d : ReplayDamage), s.fwRuns = true ∧ s.dev.phase = .booting ∧ s.dram.ready =
    true ∧ 2 ≤ s.dram.filled ∧ s.dev.mapDone = 255 ∧ s.dev.replayDone = false ∧ s.plp.replayBegun = true :=
⟨{ booting with dev := { booting.dev with replayDone := false }, plp := { booting.plp with replayBegun := true } },
    { badHeaders := [], badSlots := [], unreadable := [] }, by decide +kernel⟩

/-! ### ActionsDo -/

theorem test_meets_actions_do_1 : ∃ (s : State) (f : Frame) (v : Nat), s.takesAction f P.MAP_LEASE_REKEY v :=
⟨up, fr, 1, by decide +kernel⟩

theorem test_meets_actions_do_2 : ∃ (s : State) (f : Frame) (v : Nat), s.takesAction f P.MED_READ_ONLY_RELEASE v ∧
    s.acceptFrame.releaseHeld v = false :=
⟨up, fr, 0xFFFF, by decide +kernel⟩

theorem test_meets_actions_do_3 : ∃ (s : State) (f : Frame) (v : Nat), s.takesAction f P.MED_READ_ONLY_RELEASE v ∧
    s.acceptFrame.releaseHeld v = true :=
⟨short, fr, 0xFFFF, by decide +kernel⟩

theorem test_meets_actions_do_4 : ∃ (s : State) (f : Frame) (v : Nat), s.takesAction f P.CHN_DEGRADED_CLEAR v ∧ (s.acceptFrame.flash.grove
    (v % 8)).rebuild = false :=
⟨up, fr, 128, by decide +kernel⟩

theorem test_meets_actions_do_5 : ∃ (s : State) (f : Frame) (v : Nat), s.takesAction f P.CHN_DEGRADED_CLEAR v ∧ (s.acceptFrame.flash.grove
    (v % 8)).rebuild = true :=
⟨onRec up (fun x => { x with rebuild := true }), fr, 128, by decide +kernel⟩

theorem test_meets_actions_do_6 : ∃ (s : State) (f : Frame) (v : Nat), s.takesAction f P.DRM_RETRAIN_NOW v :=
⟨up, fr, 128, by decide +kernel⟩

theorem test_meets_actions_do_7 : ∃ (s : State) (f : Frame) (v : Nat) (_h : Bool), s.takesAction f P.PLP_TEST_NOW v :=
⟨up, fr, 1, true, by decide +kernel⟩

theorem test_meets_actions_do_8 : ∃ (s : State) (f : Frame) (v : Nat), s.takesAction f P.MGT_HANDOVER_NOW v ∧ s.acceptFrame.mgmt.stby ≠ 2
    :=
⟨up, fr, 1, by decide +kernel⟩

theorem test_meets_actions_do_9 : ∃ (s : State) (f : Frame) (v : Nat), s.takesAction f P.MGT_HANDOVER_NOW v ∧ s.acceptFrame.mgmt.stby = 2
    :=
⟨onMgmt up (fun m => { m with stby := 2 }), fr, 1, by decide +kernel⟩

theorem test_meets_actions_do_10 : ∃ (s : State) (f : Frame) (v : Nat), s.takesAction f P.SEC_LIFECYCLE_ADVANCE v ∧ (s.acceptFrame.mayseal
    && s.acceptFrame.cfgArrayOk && s.acceptFrame.dbgArrayOk) = true :=
⟨param up P.SEC_DEBUG_KEY_DIGEST 4, fr, 2, by decide +kernel⟩

theorem test_meets_actions_do_11 : ∃ (s : State) (f : Frame) (v : Nat), s.takesAction f P.SEC_LIFECYCLE_ADVANCE v ∧ (s.acceptFrame.mayseal
    && s.acceptFrame.cfgArrayOk && s.acceptFrame.dbgArrayOk) = false :=
⟨up, fr, 2, by decide +kernel⟩

theorem test_meets_actions_do_12 : ∃ (s : State) (f : Frame) (v : Nat), s.takesAction f P.SEC_SVN_COMMIT v ∧ s.acceptFrame.fuses.svn <
    s.acceptFrame.mgmt.mgmtSvn :=
⟨onMgmt up (fun m => { m with mgmtSvn := 1 }), fr, 1, by decide +kernel⟩

theorem test_meets_actions_do_13 : ∃ (s : State) (f : Frame) (v : Nat), s.takesAction f P.SEC_SVN_COMMIT v ∧ s.acceptFrame.mgmt.mgmtSvn ≤
    s.acceptFrame.fuses.svn :=
⟨up, fr, 1, by decide +kernel⟩

/-! ### ParameterRowsDo -/

theorem test_meets_parameter_rows_do_1 : ∃ (s : State) (f : Frame) (r : ReconfigRec), s.takes f .reconfig ∧ reconfigForm r = true ∧
    s.acceptFrame.refusedId r.recs = none ∧ 2 ≤ r.recs.length :=
⟨up, fr, twoRecs, by decide +kernel⟩

theorem test_meets_parameter_rows_do_2 : ∃ (s : State) (f : Frame) (r : ReconfigRec) (x : CfgRec), s.takes f .reconfig ∧ reconfigForm r =
    true ∧ s.acceptFrame.refusedId r.recs = none ∧ r.recs = [x] ∧ actionFor x.id x.value = none :=
⟨up, fr, oneRec, actionRec P.SVC_UPDATE_TIMEOUT_S 60, by decide +kernel⟩

theorem test_meets_parameter_rows_do_3 : ∃ (s : State) (f : Frame) (r : ReconfigRec) (id : Nat), s.takes f .reconfig ∧ reconfigForm r =
    true ∧ s.acceptFrame.refusedId r.recs = some id :=
⟨up, fr, badRec, 0xFFFF, by decide +kernel⟩

theorem test_meets_parameter_rows_do_4 : ∃ (s : State) (f : Frame) (r : ReconfigRec), s.takes f .reconfig ∧ reconfigForm r = false :=
⟨up, fr, oddRec, by decide +kernel⟩

theorem test_meets_parameter_rows_do_5 : ∃ (s : State) (f : Frame) (id k : Nat) (d : PDef), s.takes f .param ∧ paramDef id = some d ∧ k <
    d.kind.count :=
⟨up, fr, P.PLP_TEST_MIN_MS, 0, ⟨0x0E04, .boot, 16, 52, .range 1 60000, .single, .plain⟩, by decide +kernel⟩

theorem test_meets_parameter_rows_do_6 : ∃ (s : State) (f : Frame) (id _k : Nat), s.takes f .param ∧ paramDef id = none :=
⟨up, fr, 0xFFFF, 0, by decide +kernel⟩

theorem test_meets_parameter_rows_do_7 : ∃ (s : State) (f : Frame) (id k : Nat) (w : Nat × Nat), s.takes f .param ∧ s.acceptFrame.window
    id k = some w :=
⟨up, fr, 0x03F0, 0, (4, 1), by decide +kernel⟩

theorem test_meets_parameter_rows_do_8 : ∃ (s : State) (f : Frame) (id k : Nat), s.takes f .param ∧ s.acceptFrame.window id k = none :=
⟨up, fr, 0x03F2, 0, by decide +kernel⟩

theorem test_meets_parameter_rows_do_9 : ∃ (s : State) (u : Nat), s.fwRuns = true ∧ (ofUnit u s.params.staged).isEmpty = false :=
⟨{ up with params := { up.params with staged := [(paramKey P.TLY_BURST 0, 9)] } }, 21, by decide +kernel⟩

theorem test_meets_parameter_rows_do_10 : ∃ (s : State) (id k v : Nat), s.fwRuns = true ∧ sget s.params.staged (paramKey id k) = some v :=
⟨{ up with params := { up.params with staged := [(paramKey P.TLY_BURST 0, 9)] } }, P.TLY_BURST, 0, 9, by decide +kernel⟩

/-! ### NaileRowsDo -/

theorem test_meets_naile_rows_do_1 : ∃ (s : State), s.responder ≠ .none :=
⟨up, by decide +kernel⟩

theorem test_meets_naile_rows_do_2 : ∃ (s : State), s.responder ≠ .none :=
⟨up, by decide +kernel⟩

theorem test_meets_naile_rows_do_3 : ∃ (s : State), s.responder ≠ .none :=
⟨up, by decide +kernel⟩

theorem test_meets_naile_rows_do_4 : ∃ (s : State) (x : FrameFault), s.responder ≠ .none ∧ ((x = .busy → s.naile.busy = true)) :=
⟨up, .crc, by decide +kernel⟩

theorem test_meets_naile_rows_do_4_b : ∃ (s : State) (x : FrameFault), s.responder ≠ .none ∧ ((x = .busy → s.naile.busy = true)) :=
⟨{ up with naile := { up.naile with busy := true } }, .busy, by decide +kernel⟩

theorem test_meets_naile_rows_do_5 : ∃ (s : State) (f : Frame) (tier count start : Nat) (l : List TRec), s.takes f (.tally tier) ∧ tier ≤
    1 ∧ 1 ≤ count ∧ count ≤ 128 ∧ ((if tier = 0 then s.acceptFrame.tally.ring else s.acceptFrame.tally.tier).recs.filter (fromStart
    start)).take count = l :=
⟨up, fr, 1, 128, 0, [], by decide +kernel⟩

theorem test_meets_naile_rows_do_6 : ∃ (s : State) (f : Frame), s.takes f .health :=
⟨up, fr, by decide +kernel⟩

theorem test_meets_naile_rows_do_7 : ∃ (s : State) (f : Frame) (page : Nat), s.takes f .health ∧ 1 ≤ page ∧ page ≤ 8 :=
⟨up, fr, 8, by decide +kernel⟩

theorem test_meets_naile_rows_do_10 : ∃ (s : State) (f : Frame) (_p : Ploc) (_o _n : Nat), s.takes f .raw ∧ s.acceptFrame.rawAllowed =
    false :=
⟨up, fr, 0, 0, 1, by decide +kernel⟩

theorem test_meets_naile_rows_do_11 : ∃ (s : State) (f : Frame), s.takes f .recovery ∧ s.acceptFrame.dev.phase ≠ .rom :=
⟨up, fr, by decide +kernel⟩

theorem test_meets_naile_rows_do_12 : ∃ (s : State) (f : Frame) (t : Byte), knownTypes.contains t.toNat = false ∧ s.takes
    { f with rsvd := false } .recovery :=
⟨up, fr, 0x70, by decide +kernel⟩

/-! ### LinkChecksHold -/

theorem test_meets_link_checks_hold_1 : ∃ (s : State) (_f : Frame), s.responder = .none :=
⟨State.reset, fr, by decide +kernel⟩

theorem test_meets_link_checks_hold_2 : ∃ (s : State) (_f : Frame), s.responder ≠ .none ∧ s.naile.busy = true :=
⟨{ up with naile := { up.naile with busy := true } }, fr, by decide +kernel⟩

theorem test_meets_link_checks_hold_3 : ∃ (s : State) (f : Frame), s.responder ≠ .none ∧ s.naile.busy = false ∧ s.naile.isRetry f = true
    :=
⟨{ up with naile := { up.naile with last := some (1, 1), resp := some { seq := 1, typ := 0xE0, len := 64, value := 0 } } }, fr,
    by decide +kernel⟩

/-! ### StandRowsDo -/

theorem test_meets_stand_rows_do_1 : ∃ (s : State) (f : Frame) (d : StandDesc), s.takes { f with rsvd := false } .stand ∧
    s.acceptFrame.createReason f d = none :=
⟨up, fr, sdescShared, by decide +kernel⟩

theorem test_meets_stand_rows_do_2 : ∃ (s : State) (f : Frame) (d : StandDesc) (c : Nat), s.takes { f with rsvd := false } .stand ∧
    s.acceptFrame.createReason f d = some c :=
⟨upNs, fr, sdesc3, 1, by decide +kernel⟩

theorem test_meets_stand_rows_do_3 : ∃ (s : State) (f : Frame) (d : StandDesc) (x : StandS), s.takes { f with rsvd := false } .stand ∧
    s.acceptFrame.modifyReason f d = none ∧ s.acceptFrame.nvm.stand d.stand.val = some x :=
⟨standIn { stand with resvGib := 0 }, fr, sdescShare, { stand with resvGib := 0 }, by decide +kernel⟩

theorem test_meets_stand_rows_do_4 : ∃ (s : State) (f : Frame) (d : StandDesc), s.takes { f with rsvd := false } .stand ∧
    s.acceptFrame.deleteReason f d = none :=
⟨upNs, fr, sdescBare, by decide +kernel⟩

theorem test_meets_stand_rows_do_5 : ∃ (s : State) (f : Frame) (c : BitVec 24) (st : Byte) (a : AttachWord), .join c st = a ∧ s.takes
    { f with rsvd := false } .stand ∧ s.acceptFrame.attachReason f a = none :=
⟨upNs, fr, AttachWord.ofCntl 1, 3, _, rfl, by decide +kernel, rfl⟩

theorem test_meets_stand_rows_do_6 : ∃ (s : State) (f : Frame) (c : BitVec 24) (st : Byte) (a : AttachWord), .join c st = a ∧
    s.naile.waiting ≠ some (.standCtlDetach f c st) ∧ s.takes { f with rsvd := false } .stand ∧ s.acceptFrame.detachReason f a = none ∧
    s.acceptFrame.detachWaits a.cntl.val = false :=
⟨upNs, fr, AttachWord.ofCntl 0, 3, _, rfl, by decide +kernel, by decide +kernel, rfl, by decide +kernel⟩

theorem test_meets_stand_rows_do_7 : ∃ (s : State) (f : Frame) (d : StandDesc) (x : StandS), s.takes { f with rsvd := false } .stand ∧
    f.rsvd = false ∧ descBare d = true ∧ s.acceptFrame.nvm.stand d.stand.val = some x :=
⟨upNs, fr, sdescBare, stand, by decide +kernel⟩

theorem test_meets_stand_rows_do_8 : ∃ (s : State) (st : StandNo) (x : StandS), s.nvm.stand st.val = some x ∧ s.fwRuns = true ∧
    s.mgmt.runs = true ∧ x.state = .deleting ∧ x.delStep = 3 :=
⟨standIn { stand with state := .deleting, delStep := 3 }, 3, { stand with state := .deleting, delStep := 3 }, by decide +kernel⟩

theorem test_meets_stand_rows_do_9 : ∃ (s : State) (st : StandNo) (x : StandS), s.nvm.stand st.val = some x ∧ s.fwRuns = true ∧
    s.mgmt.runs = true ∧ x.state = .deleting ∧ 5 ≤ x.delStep ∧ (s.nvm.nssOf st.val).isEmpty = true :=
⟨standIn { stand with state := .deleting, delStep := 5 }, 3, { stand with state := .deleting, delStep := 5 }, by decide +kernel⟩

theorem test_meets_stand_rows_do_10 : ∃ (s : State) (st : StandNo) (x : StandS), s.nvm.stand st.val = some x ∧ s.mgmtServes = true ∧
    x.state = .creating ∧ s.ownDoms st = [] ∧ s.settled st.val x = true ∧ s.domsMoved x.rows = [] :=
⟨standIn { stand with state := .creating }, 3, { stand with state := .creating }, by decide +kernel⟩

theorem test_meets_stand_rows_do_11 : ∃ (s : State) (st : StandNo) (x : StandS), s.nvm.stand st.val = some x ∧ s.mgmtServes = true ∧
    x.state = .changing ∧ s.settled st.val x = true :=
⟨standIn { stand with state := .changing }, 3, { stand with state := .changing }, by decide +kernel⟩

/-! ### DramRowsDo -/

theorem test_meets_dram_rows_do_1 : ∃ (s : State), s.fwRuns = true ∧ s.dev.phase = .booting ∧ s.dram.ready = false :=
⟨onDram booting (fun d => { d with ready := false }), by decide +kernel⟩

theorem test_meets_dram_rows_do_2 : ∃ (s : State) (_c : DramCh) (_l : List DramCh) (r : Nat), s.fwRuns = true ∧ s.dev.phase = .booting ∧
    s.dram.ready = false ∧ dramLower s.dramRate = some r :=
⟨onDram booting (fun d => { d with ready := false }), 0, [], 4800, by decide +kernel⟩

theorem test_meets_dram_rows_do_3 : ∃ (s : State) (_c : DramCh) (_l : List DramCh), s.fwRuns = true ∧ s.dev.phase = .booting ∧
    s.dram.ready = false ∧ dramLower s.dramRate = none :=
⟨onDram booting (fun d => { d with ready := false, rate := 3200 }), 7, [], by decide +kernel⟩

theorem test_meets_dram_rows_do_4 : ∃ (s : State), s.dramWorks = true ∧ s.dram.filled < 4 :=
⟨onDram up (fun d => { d with filled := 3 }), by decide +kernel⟩

theorem test_meets_dram_rows_do_5 : ∃ (s t u : State) (line k : Nat) (_err : BitVec 640), s.dramWorks = true ∧ inTraining line = false ∧
    line < s.dramGib * 16777216 ∧ { s with dram := { s.dram with scrubbed := s.dram.scrubbed + 1 } } = t ∧ t.draw = (k, u) :=
⟨up, _, _, 67092479, _, 1, by decide +kernel, by decide +kernel, by decide +kernel, rfl, rfl⟩

theorem test_meets_dram_rows_do_6 : ∃ (s : State) (ch : DramCh) (again : List DramReq) (l : List RetryReq), s.fwRuns = true ∧ s.dram.ready
    = true ∧ s.dram.selfRefresh = false ∧ s.retryAll (s.dram.chan ch).retry again = l ∧ l.any (fun x => x.exhausted) = false ∧ (s.par
    P.DRM_ALERT_LIMIT ≤ (s.alertsNow ch).length ∨ (s.alertsNow ch).length + 1 < s.par P.DRM_ALERT_LIMIT) :=
⟨up, 7, [], _, by decide +kernel, by decide +kernel, by decide +kernel, rfl, by decide +kernel⟩

theorem test_meets_dram_rows_do_7 : ∃ (s t : State) (ch : DramCh) (again : List DramReq) (l : List RetryReq), s.fwRuns = true ∧
    s.dram.ready = true ∧ s.dram.selfRefresh = false ∧ s.retryAll (s.dram.chan ch).retry again = l ∧ (l.any (fun x => x.exhausted) = true
    ∨ (s.alertsNow ch).length + 1 = s.par P.DRM_ALERT_LIMIT) ∧ State.recordHw
    { s with dram := s.dram.modChan ch.val (fun c => { c with alerts := s.alertsNow ch ++ [s.now], replays := c.replays + 1, retry := l, held := [], sliceEnd := min c.sliceEnd s.now }) }
    srcDram sevNotice 0x1005 ch.val 1 = t :=
⟨{ up with time := { up.time with ns := 1000 }, dram := up.dram.modChan 0 (fun c => { c with alerts := List.replicate 15 1000 }) }, _, 0,
    [], _, by decide +kernel, by decide +kernel, by decide +kernel, rfl, by decide +kernel, rfl⟩

theorem test_meets_dram_rows_do_8 : ∃ (s : State) (ch : DramCh) (t : Int), tempGap t (s.dram.chan ch).lastTemp < s.par
    P.DRM_RETRAIN_DELTA_C :=
⟨up, 0, 1, by decide +kernel⟩

theorem test_meets_dram_rows_do_9 : ∃ (s : State) (ch : DramCh) (t : Int), s.dramWorks = true ∧ (s.dram.chan ch).lastTempRetrain = none ∧
    s.par P.DRM_RETRAIN_DELTA_C ≤ tempGap t (s.dram.chan ch).lastTemp :=
⟨up, 0, 100, by decide +kernel⟩

theorem test_meets_dram_rows_do_10 : ∃ (s : State) (ch : DramCh) (_o : RetrainRun) (n : Nat), s.dramWorks = true ∧ (s.dram.chan
    ch).retrain = some n ∧ 0 < n ∧ s.now < (s.dram.chan ch).sliceEnd + 200000 :=
⟨onDram up (fun d => d.modChan 0 (fun c => { c with retrain := some 62, sliceEnd := 1 })), 0, ⟨.more, []⟩, 62, by decide +kernel⟩

theorem test_meets_dram_rows_do_11 : ∃ (s : State) (ch : DramCh) (_held : List DramSource) (n : Nat), s.dramWorks = true ∧ (s.dram.chan
    ch).retrain = some n ∧ (n = 0 ∨ (s.dram.chan ch).sliceEnd + 200000 ≤ s.now) :=
⟨onDram up (fun d => d.modChan 0 (fun c => { c with retrain := some 0 })), 0, [], 0, by decide +kernel⟩

theorem test_meets_dram_rows_do_12 : ∃ (s : State) (_ch : DramCh) (_bank : Nat) (_src : DramSource), s.dram.ready = true ∧
    s.dram.selfRefresh = false :=
⟨up, 0, 31, .leaseEngine, by decide +kernel⟩

/-! ### ResetRowsDo -/

theorem test_meets_reset_rows_do_2 : ∃ (s : State) (_k : Bool) (_o : OptRead), s.dev.por = true ∧ s.dev.pin = true :=
⟨{ State.reset with dev := { State.reset.dev with pin := true } }, true, opt, by decide +kernel⟩

theorem test_meets_reset_rows_do_3 : ∃ (s : State) (_k : Bool) (_o : OptRead), s.dev.por = true ∧ s.dev.pin = false :=
⟨State.reset, true, opt, by decide +kernel⟩

theorem test_meets_reset_rows_do_4 : ∃ (_s : State) (n : Nat), n < 100 :=
⟨up, 99, by decide +kernel⟩

theorem test_meets_reset_rows_do_5 : ∃ (s : State) (n : Nat), 1000 ≤ n ∧ s.dev.pin = false ∧ s.plp.dumping = false :=
⟨up, 1000, by decide +kernel⟩

theorem test_meets_reset_rows_do_8 : ∃ (s : State) (_k : Bool) (_o : OptRead), s.dev.pin = true ∧ s.dev.por = false :=
⟨{ up with dev := { up.dev with pin := true } }, true, opt, by decide +kernel⟩

theorem test_meets_reset_rows_do_9 : ∃ (s : State) (_r : RomReads), s.dev.phase = .rom :=
⟨{ up with dev := { up.dev with phase := .rom } }, ⟨true, heart⟩, by decide +kernel⟩

theorem test_meets_reset_rows_do_10 : ∃ (s : State), s.startedUp = true :=
⟨flashUp booting, by decide +kernel⟩

/-! ### PowerRowsDo -/

theorem test_meets_power_rows_do_1 : ∃ (s : State) (_v : Dword), s.fwRuns = true ∧ s.dev.clkCtrl.getLsbD 31 = true :=
⟨up, 0x3FFF0, by decide +kernel⟩

theorem test_meets_power_rows_do_2 : ∃ (s : State) (v : Dword), s.dev.clkCtrl.getLsbD 31 = false ∧ getField v 4 14 ≠ 0 :=
⟨State.reset, 16, by decide +kernel⟩

theorem test_meets_power_rows_do_3 : ∃ (s : State), s.fwRuns = true ∧ s.dev.clkCtrl.getLsbD 31 = true :=
⟨up, by decide +kernel⟩

theorem test_meets_power_rows_do_4 : ∃ (s : State), s.fwRuns = false :=
⟨State.reset, by decide +kernel⟩

theorem test_meets_power_rows_do_5 : ∃ (s : State) (c : Int) (n : Nat), s.fwRuns = true ∧ s.pwr.hotSince = some n ∧ n + 1000000 ≤ s.now ∧
    108 ≤ c :=
⟨later { up with pwr := { up.pwr with hotSince := some 0 } } 1000000, 108, 0, by decide +kernel⟩

theorem test_meets_power_rows_do_6 : ∃ (s : State) (c : Int), s.fwRuns = true ∧ c < 108 ∧ s.thermalLevel c = s.pwr.thermal :=
⟨up, 60, by decide +kernel⟩

theorem test_meets_power_rows_do_7 : ∃ (s : State) (_mw : Nat), s.pwr.ps = 1 :=
⟨{ up with pwr := { up.pwr with ps := 1 } }, 55001, by decide +kernel⟩

theorem test_meets_power_rows_do_8 : ∃ (s : State) (_mw : Nat), s.pwr.ps = 2 :=
⟨{ up with pwr := { up.pwr with ps := 2 } }, 30000, by decide +kernel⟩

theorem test_meets_power_rows_do_9 : ∃ (s : State) (_mw : Nat), (s.pwr.ps = 0 ∨ 3 ≤ s.pwr.ps) :=
⟨up, 9000, by decide +kernel⟩

theorem test_meets_power_rows_do_10 : ∃ (s : State), s.fwRuns = true ∧ s.par P.CLK_AON_SOURCE = 1 ∧ s.dev.clkCtrl.getLsbD 31 = true ∧
    s.pwr.calibrated + s.par P.CLK_LPO_CAL_S * 1000000000 ≤ s.now :=
⟨later (param up P.CLK_AON_SOURCE 1) 0x1000000000000000, by decide +kernel⟩

theorem test_meets_power_rows_do_11 : ∃ (s : State), s.mgmtLost = false ∧ s.dev.phase = .running ∧ s.isFailed = false ∧ s.dev.halted =
    false ∧ s.pwr.ps ≠ 4 ∧ s.pwr.patrol = false ∧ s.restLinks.chooseState < 3 :=
⟨up, by decide +kernel⟩

theorem test_meets_power_rows_do_12 : ∃ (s : State), s.mgmtLost = false ∧ s.dev.phase = .running ∧ s.isFailed = false ∧ s.dev.halted =
    false ∧ s.pwr.ps ≠ 4 ∧ s.pwr.patrol = false ∧ s.restLinks.chooseState = 4 ∧ s.restLinks.quiet = true ∧ s.restLinks.pwr.entering = true
    :=
⟨idle, by decide +kernel⟩

theorem test_meets_power_rows_do_13 : ∃ (s : State) (a : BitVec 7) (_w : WakeChecks), s.matches a = true ∧ s.asleep = true :=
⟨asleep, 0x61, clean, by decide +kernel⟩

theorem test_meets_power_rows_do_14 : ∃ (s : State) (a : BitVec 7) (_w : WakeChecks), s.matches a = false :=
⟨asleep, 0, clean, by decide +kernel⟩

theorem test_meets_power_rows_do_15 : ∃ (s : State), s.pwr.sclHeld = true :=
⟨{ asleep with pwr := { asleep.pwr with sclHeld := true } }, by decide +kernel⟩

theorem test_meets_power_rows_do_16 : ∃ (s : State) (_w : WakeChecks), s.asleep = true ∧ s.pwr.patrolDue ≤ s.now :=
⟨asleep, clean, by decide +kernel⟩

theorem test_meets_power_rows_do_20 : ∃ (s : State) (_v : Dword), s.fwRuns = true :=
⟨up, 7, by decide +kernel⟩

/-! ### UpdateRowsDo -/

theorem test_meets_update_rows_do_1 : ∃ (s : State) (f : Frame) (g n : Nat), s.takes f .image ∧ beginOk g n = true ∧
    s.acceptFrame.nor.upd.state ≠ 1 ∧ s.acceptFrame.nor.upd.state ≠ 3 :=
⟨up, fr, 0, 8392704, by decide +kernel⟩

theorem test_meets_update_rows_do_2 : ∃ (s : State) (f : Frame) (g n : Nat), s.takes f .image ∧ beginOk g n = false :=
⟨up, fr, 3, 4096, by decide +kernel⟩

theorem test_meets_update_rows_do_3 : ∃ (s : State) (f : Frame) (o n : Nat) (_h : Option StreamHeader) (u : Update), s.takes f .image ∧ 1
    ≤ n ∧ n ≤ 4092 ∧ s.acceptFrame.nor.upd = u ∧ u.state = 1 ∧ o = u.received ∧ u.received + n ≤ u.length ∧ u.received + n < 4096 :=
⟨updating up upd, fr, 0, 4092, none, upd, by decide +kernel⟩

theorem test_meets_update_rows_do_4 : ∃ (s : State) (f : Frame) (_o n : Nat) (_h : Option StreamHeader) (_b : Bool), s.takes f .image ∧ 1
    ≤ n ∧ n ≤ 4092 ∧ s.acceptFrame.nor.upd.state ≠ 1 :=
⟨up, fr, 0, 1, none, false, by decide +kernel⟩

theorem test_meets_update_rows_do_5 : ∃ (s : State), s.responder ≠ .none ∧ s.nor.upd.state = 1 ∧ sectorBytes ≤ s.nor.upd.buffered ∧
    s.nor.mayWrite = true ∧ s.naile.chunk = none :=
⟨updating up { upd with buffered := 65520 }, by decide +kernel⟩

theorem test_meets_update_rows_do_6 : ∃ (s : State) (_ok : Bool), s.responder ≠ .none ∧ s.nor.upd.state = 1 ∧ sectorBytes ≤
    s.nor.upd.buffered ∧ s.nor.mayWrite = false ∧ s.naile.chunk = none :=
⟨protectedNor (updating up { upd with buffered := 65520 }), true, by decide +kernel⟩

theorem test_meets_update_rows_do_7 : ∃ (s : State), s.responder ≠ .none ∧ s.nor.upd.state = 1 ∧ sectorBytes ≤ s.nor.upd.buffered ∧
    s.nor.mayWrite = true ∧ s.nor.upd.retried = false :=
⟨updating up { upd with buffered := 65520 }, by decide +kernel⟩

theorem test_meets_update_rows_do_8 : ∃ (s : State) (f : Frame) (u : Update), s.takes f .image ∧ s.acceptFrame.nor.upd = u ∧ u.state = 1 ∧
    u.hdr.isNone = false ∧ u.received = u.length ∧ s.acceptFrame.nor.mayWrite = true ∧ s.acceptFrame.configFits u.hdr = true :=
⟨updating up { upd with received := 4096, hdr := some (.image image) }, fr, { upd with received := 4096, hdr := some (.image image) },
    by decide +kernel⟩

theorem test_meets_update_rows_do_9 : ∃ (s : State), s.nor.upd.state = 1 ∧ s.nor.upd.lastFrame + s.par P.SVC_UPDATE_TIMEOUT_S * 1000000000
    ≤ s.now :=
⟨later (updating up upd) 3600000000000, by decide +kernel⟩

theorem test_meets_update_rows_do_10 : ∃ (s : State) (f : Frame) (_m _t : Bool), s.takes f (.commit 1) ∧ s.acceptFrame.nor.activating =
    false ∧ s.acceptFrame.nor.upd.state = 2 ∧ s.acceptFrame.nor.upd.area ≤ 1 ∧ (s.acceptFrame.nor.slot s.acceptFrame.nor.upd.area).hdr =
    none :=
⟨updating up { upd with state := 2 }, fr, true, true, by decide +kernel⟩

theorem test_meets_update_rows_do_11 : ∃ (s : State) (f : Frame) (m t : Bool) (h : ImageHeader) (a : Nat), s.takes f (.commit 1) ∧
    s.acceptFrame.nor.activating = false ∧ s.acceptFrame.nor.upd.state = 2 ∧ s.acceptFrame.nor.upd.area = a ∧ a ≤ 1 ∧
    (s.acceptFrame.nor.slot a).hdr = some h ∧ s.acceptFrame.cannotActivate h m t = false :=
⟨{ up with nor := { up.nor with upd := { upd with state := 2 }, slotB := imgSlot } }, fr, true, false, image, 1, by decide +kernel⟩

theorem test_meets_update_rows_do_12 : ∃ (s : State) (f : Frame) (a : Nat), s.takes f (.commit 2) ∧ s.acceptFrame.nor.activating = false ∧
    s.acceptFrame.nor.upd.state = 2 ∧ s.acceptFrame.nor.upd.area = a ∧ 2 ≤ a ∧ a ≤ 3 :=
⟨updating up { upd with state := 2, area := 3 }, fr, 3, by decide +kernel⟩

theorem test_meets_update_rows_do_13 : ∃ (s : State) (f : Frame), s.takes f (.commit 3) ∧ s.acceptFrame.nor.activating = false ∧
    s.acceptFrame.mgmt.mgmtRel = s.acceptFrame.mgmt.bootRel ∧ s.acceptFrame.mgmt.groveRel.toList.any (fun r => r !=
    s.acceptFrame.mgmt.bootRel) = false :=
⟨up, fr, by decide +kernel⟩

theorem test_meets_update_rows_do_14 : ∃ (s : State) (f : Frame) (h : ImageHeader) (a : Nat) (x : NorS), s.takes f (.commit 4) ∧
    s.acceptFrame.nor.upd.state ≠ 1 ∧ s.acceptFrame.nor.upd.state ≠ 3 ∧ s.acceptFrame.nor.spare.hdr = some h ∧
    s.acceptFrame.nor.spare.complete = true ∧ s.acceptFrame.checkImageHeader h (4096 + h.mgmtLen + h.ftlLen + h.unitLen) = none ∧
    s.acceptFrame.nor.spare.digest = h.digest ∧ s.acceptFrame.targetArea 0 = a ∧ x =
    { ((s.acceptFrame.nor.steerAway a).setArea a (some (.image h)) true) with upd := { Update.none with state := 2, area := a, hdr := some (.image h) } }
    :=
⟨spared, fr, image, 1, _, by decide +kernel, by decide +kernel, by decide +kernel, by decide +kernel, by decide +kernel,
    by decide +kernel, by decide +kernel, by decide +kernel, rfl⟩

/-! ### TallyRowsDo -/

theorem test_meets_tally_rows_do_1 : ∃ (s : State) (x : TallyIn), s.recordsTaken = true ∧ x.sev ≤ 6 :=
⟨up, { tallyIn with sev := 6 }, by decide +kernel⟩

theorem test_meets_tally_rows_do_2 : ∃ (s : State) (c : Nat) (b : Bucket), s.recordsTaken = true ∧ sget s.tally.buckets c = some b ∧
    b.suppressed ≠ 0 ∧ s.par P.TLY_BURST * 1000000000 ≤ (s.now - b.lastAny) * s.par P.TLY_RATE_PER_S :=
⟨{ later up 0x1000000000000000 with tally := { up.tally with buckets := [(0x0202, bucket)] } }, 0x0202, bucket, by decide +kernel⟩

theorem test_meets_tally_rows_do_3 : ∃ (s : State), s.engineRuns = true :=
⟨up, by decide +kernel⟩

/-! ### TapRowsDo -/

theorem test_meets_tap_rows_do_1 : ∃ (s : State), s.tapOn = true :=
⟨up, by decide +kernel⟩

theorem test_meets_tap_rows_do_2 : ∃ (s : State), s.tapOn = true ∧ s.boundaryOk = true :=
⟨blank, by decide +kernel⟩

theorem test_meets_tap_rows_do_3 : ∃ (s : State), s.boundaryOk = false :=
⟨up, by decide +kernel⟩

theorem test_meets_tap_rows_do_4 : ∃ (s : State), s.tapOn = true ∧ s.lcKnown = true ∧ s.fuses.lc = 0 :=
⟨blank, by decide +kernel⟩

theorem test_meets_tap_rows_do_5 : ∃ (s : State), s.fuses.lc ≠ 0 :=
⟨up, by decide +kernel⟩

/-! ### TokenRowsDo -/

theorem test_meets_token_rows_do_1 : ∃ (s : State) (f : Frame), s.takes f .debug ∧ s.acceptFrame.tokensLocked = false :=
⟨up, fr, by decide +kernel⟩

theorem test_meets_token_rows_do_2 : ∃ (s : State) (f : Frame), s.takes f .debug ∧ s.acceptFrame.tokensLocked = true :=
⟨onSec up (fun x => { x with refusals := 255 }), fr, by decide +kernel⟩

theorem test_meets_token_rows_do_3 : ∃ (s : State) (f : Frame) (t : DebugToken), s.takes f .debug ∧ s.acceptFrame.tokenRefusal t = none ∧
    t.level ≠ lvRmaAuth :=
⟨tokenUp, fr, token, by decide +kernel⟩

theorem test_meets_token_rows_do_4 : ∃ (s : State) (f : Frame) (t : DebugToken), s.takes f .debug ∧ s.acceptFrame.tokenRefusal t = none ∧
    t.level = lvRmaAuth :=
⟨sealedUp, fr, rmaToken, by decide +kernel⟩

theorem test_meets_token_rows_do_5 : ∃ (s : State) (f : Frame) (t : DebugToken) (c : Nat), s.takes f .debug ∧ s.acceptFrame.tokenRefusal t
    = some c :=
⟨tokenUp, fr, foreignToken, 3, by decide +kernel⟩

theorem test_meets_token_rows_do_6 : ∃ (s : State) (f : Frame), s.takes f .debug ∧ s.acceptFrame.tokensLocked = false :=
⟨up, fr, by decide +kernel⟩

theorem test_meets_token_rows_do_8 : ∃ (s : State) (x : Session), s.sec.session = some x ∧ x.opened + x.lifetimeS * 1000000000 ≤ s.now :=
⟨later (withSession up) 60000000000, session, by decide +kernel⟩

theorem test_meets_token_rows_do_10 : ∃ (s : State) (n : BitVec 256) (t : Nat), s.sec.nonce = some (n, t) ∧ t + 60000000000 ≤ s.now :=
⟨later (onSec up (fun x => { x with nonce := some (9, 0) })) 60000000000, 9, 0, by decide +kernel⟩

theorem test_meets_token_rows_do_12 : ∃ (s : State) (r : DapReach) (x : Session), s.sec.session = some x ∧ s.tapOn = true ∧ s.dev.fuseFail
    = false ∧ s.reaches x r = true :=
⟨onSec up (fun x => { x with session := some { session with perm := 0xFF } }), .haltMgmt, { session with perm := 0xFF },
    by decide +kernel⟩

/-! ### MgmtRowsDo -/

theorem test_meets_mgmt_rows_do_1 : ∃ (s : State), s.mgmtServes = true ∧ s.mgmtHalted = false ∧ s.mgmt.ckptAt + s.par P.MGT_CHECKPOINT_MS
    * 1000000 ≤ s.now :=
⟨later up 0x10000000000000, by decide +kernel⟩

theorem test_meets_mgmt_rows_do_2 : ∃ (s : State), s.mayLapse = true ∧ s.mgmtHalted = false :=
⟨up, by decide +kernel⟩

theorem test_meets_mgmt_rows_do_3 : ∃ (s : State) (_k : MgmtFaultKind), s.mayLapse = true :=
⟨up, .sramParity, by decide +kernel⟩

theorem test_meets_mgmt_rows_do_4 : ∃ (s : State) (h : Handover), s.mgmt.handover = some h ∧ s.handoverRuns = true :=
⟨onMgmt up (fun m => { m with handover := some handover }), handover, by decide +kernel⟩

theorem test_meets_mgmt_rows_do_5 : ∃ (s : State) (h : Handover) (r : Nat), s.mgmt.handover = some h ∧ s.handoverRuns = true ∧ 1 ≤ r ∧ r ≤
    3 ∧ ((r = 3 → h.since + 60000000 ≤ s.now)) :=
⟨later (onMgmt up (fun m => { m with handover := some handover })) 60000000, handover, 3, by decide +kernel⟩

theorem test_meets_mgmt_rows_do_6 : ∃ (s : State), s.mayLapse = true ∧ s.mgmtHalted = false ∧ s.mgmt.handover = none ∧ s.standbyDue = true
    :=
⟨up, by decide +kernel⟩

theorem test_meets_mgmt_rows_do_7 : ∃ (s : State) (b : BitVec 4), s.mayLapse = true ∧ s.mgmtHalted = false ∧ s.mgmt.handover = none ∧
    s.standbyDue = true ∧ b ≠ 0 :=
⟨up, 1, by decide +kernel⟩

theorem test_meets_mgmt_rows_do_8 : ∃ (s : State) (g : Grove) (r : Rollout), s.mgmt.rollout = some r ∧ s.mediaRuns = true ∧ s.mgmt.runs =
    true ∧ s.mgmt.handover = none ∧ s.restartRuns = false ∧ r.since + s.par P.MGT_GROVE_GAP_MS * 1000000 ≤ s.now ∧ s.mgmt.nextGrove r =
    some g.val ∧ s.dev.mapDone.getLsbD g.val = true :=
⟨later (onMgmt up (fun m => { m with rollout := some rollout })) 0x1000000000000000, 3, rollout, by decide +kernel⟩

theorem test_meets_mgmt_rows_do_9 : ∃ (s : State) (g : Grove), s.groveBoots g = true :=
⟨onGrove up (fun m => { m with restarting := true }), 0, by decide +kernel⟩

theorem test_meets_mgmt_rows_do_10 : ∃ (s : State) (g : Grove), s.groveBoots g = true ∧ (s.map.grove g).downAt + 40000000 ≤ s.now ∧
    s.mgmt.rollout = none :=
⟨later (onGrove up (fun m => { m with restarting := true })) 40000000, 0, by decide +kernel⟩

theorem test_meets_mgmt_rows_do_11 : ∃ (s : State) (g : Grove) (r : Rollout), s.groveBoots g = true ∧ (s.map.grove g).downAt + 40000000 ≤
    s.now ∧ s.mgmt.rollout = some r ∧ r.back = true :=
⟨later (onMgmt (onGrove up (fun m => { m with restarting := true })) (fun m => { m with rollout := some { rollout with back := true } }))
    40000000, 0, { rollout with back := true }, by decide +kernel⟩

theorem test_meets_mgmt_rows_do_12 : ∃ (s t : State) (g : Grove) (r : Rollout), s.groveBoots g = true ∧ (s.map.grove g).downAt + 40000000
    ≤ s.now ∧ s.mgmt.rollout = some r ∧ r.back = false ∧ s.rolloutStops g.val r = t :=
⟨later (onMgmt (onGrove up (fun m => { m with restarting := true })) (fun m => { m with rollout := some rollout })) 40000000, _, 0,
    rollout, by decide +kernel, by decide +kernel, by decide +kernel, by decide +kernel, rfl⟩

/-! ### SpdmRowsDo -/

theorem test_meets_spdm_rows_do_1 : ∃ (s : State) (k : SpdmConn), s.spdmServes k = true :=
⟨up, 0, by decide +kernel⟩

theorem test_meets_spdm_rows_do_2 : ∃ (s : State) (k : SpdmConn) (c : SpdmS) (v : Byte), s.spdmServes k = true ∧ s.conn k = c ∧ c.version
    = true ∧ 0x10 ≤ v.toNat ∧ v.toNat ≤ 0x12 :=
⟨onConn up spdm, 0, spdm, 0x12, by decide +kernel⟩

theorem test_meets_spdm_rows_do_3 : ∃ (s : State) (k : SpdmConn) (c : SpdmS) (v : Byte), s.spdmServes k = true ∧ s.conn k = c ∧ c.version
    = true ∧ (v.toNat < 0x10 ∨ 0x12 < v.toNat) :=
⟨onConn up spdm, 0, spdm, 0x13, by decide +kernel⟩

theorem test_meets_spdm_rows_do_4 : ∃ (s : State) (k : SpdmConn) (c : SpdmS) (_v : Byte), s.spdmServes k = true ∧ s.conn k = c ∧ c.version
    = false :=
⟨up, 2, SpdmS.idle, 0x12, by decide +kernel⟩

theorem test_meets_spdm_rows_do_5 : ∃ (s : State) (k : SpdmConn) (c : SpdmS), s.spdmServes k = true ∧ s.conn k = c ∧ c.caps = true :=
⟨onConn up spdm, 0, spdm, by decide +kernel⟩

theorem test_meets_spdm_rows_do_6 : ∃ (s : State) (k : SpdmConn) (c : SpdmS), s.spdmServes k = true ∧ s.conn k = c ∧ c.algs = true ∧
    s.slotPopulated = true :=
⟨onConn up spdm, 0, spdm, by decide +kernel⟩

theorem test_meets_spdm_rows_do_6_b : ∃ o : Nat, o < chainLength :=
⟨0, by unfold chainLength; omega⟩

theorem test_meets_spdm_rows_do_7 : ∃ (s : State) (k : SpdmConn) (c : SpdmS) (x : Nat) (m : Nat × Nat), s.spdmServes k = true ∧ s.conn k =
    c ∧ c.algs = true ∧ s.measured x = some m :=
⟨onConn up spdm, 0, spdm, 8, _, by decide +kernel, rfl, rfl, rfl⟩

theorem test_meets_spdm_rows_do_7_b : ∃ (s : State) (k : SpdmConn) (c : SpdmS), s.spdmServes k = true ∧ s.conn k = c ∧ c.algs = true ∧
    s.slotPopulated = false :=
⟨onConn blank spdm, 0, spdm, by decide +kernel⟩

theorem test_meets_spdm_rows_do_8 : ∃ (s : State) (k : SpdmConn) (c : SpdmS), s.spdmServes k = true ∧ s.conn k = c ∧ c.algs = true :=
⟨onConn up spdm, 0, spdm, by decide +kernel⟩

theorem test_meets_spdm_rows_do_9 : ∃ (s : State) (k : SpdmConn) (c : SpdmS) (t : Nat), s.spdmServes k = true ∧ s.conn k = c ∧ c.algs =
    true ∧ c.signed = some t ∧ s.sec.lmsStop = 0 ∧ s.lmsInHour.length < s.par P.SEC_LMS_PER_HOUR :=
⟨onConn up { spdm with signed := some 5 }, 0, { spdm with signed := some 5 }, 5, by decide +kernel⟩

theorem test_meets_spdm_rows_do_10 : ∃ (s : State) (k : SpdmConn) (c : SpdmS), s.spdmServes k = true ∧ s.conn k = c ∧ c.algs = true ∧
    c.signed = none :=
⟨onConn up spdm, 0, spdm, by decide +kernel⟩

theorem test_meets_spdm_rows_do_11 : ∃ (s : State) (k : SpdmConn) (b : Byte), spdmCodes.contains b.toNat = false ∧ s.spdmServes k = true
    :=
⟨up, 0, 0x85, by decide +kernel⟩

/-! ### BusRowsDo -/

theorem test_meets_bus_rows_do_1 : ∃ (s : State) (t : MiType) (x : Nat) (d : Nat × Nat), s.miServes = true ∧ s.miData t x = some d :=
⟨up, 0, 0, _, by decide +kernel, rfl⟩

theorem test_meets_bus_rows_do_2 : ∃ (s : State) (t : MiType) (x : Nat), s.miServes = true ∧ s.miData t x = none :=
⟨up, 1, 3, by decide +kernel⟩

theorem test_meets_bus_rows_do_3 : ∃ (s : State), s.miServes = true :=
⟨up, by decide +kernel⟩

theorem test_meets_bus_rows_do_4 : ∃ (s : State) (a n : Nat) (l : List Nat), s.miServes = true ∧ (s.cntlIds.filter (fun c => decide (a ≤
    c))).take n = l :=
⟨up, 0, 1, [0], by decide +kernel⟩

theorem test_meets_bus_rows_do_5 : ∃ (s : State) (i : Byte) (v : Dword), s.miServes = true ∧ miConfigOk i = true ∧ sget s.bus.miConfig
    i.toNat = some v :=
⟨{ up with bus := { up.bus with miConfig := [(3, 64)] } }, 3, 64, by decide +kernel⟩

theorem test_meets_bus_rows_do_6 : ∃ (s : State) (i : Byte) (_v : Dword), s.miServes = true ∧ miConfigOk i = true ∧ i ≠ 2 :=
⟨up, 1, 0, by decide +kernel⟩

theorem test_meets_bus_rows_do_7 : ∃ (s : State) (o n : Nat), s.miServes = true ∧ o + n ≤ 4096 :=
⟨up, 4095, 1, by decide +kernel⟩

theorem test_meets_bus_rows_do_8 : ∃ (s : State) (o n : Nat), s.miServes = true ∧ 4096 < o + n :=
⟨up, 4096, 1, by decide +kernel⟩

theorem test_meets_bus_rows_do_9 : ∃ (s : State) (c : Cntl) (cmd : NvmeCmd) (d : Nat × Nat), s.miServes = true ∧ s.host.present c = true ∧
    s.tunnelData c cmd = some d :=
⟨up, 0, .getFeatures 2 0 0, _, by decide +kernel, by decide +kernel, rfl⟩

theorem test_meets_bus_rows_do_10 : ∃ (s : State) (c : Cntl) (cmd : NvmeCmd), s.miServes = true ∧ s.host.present c = true ∧ s.tunnelData c
    cmd = none :=
⟨up, 0, .keepAlive, by decide +kernel⟩

theorem test_meets_bus_rows_do_11 : ∃ (s : State) (b : Byte), s.miServes = true ∧ miCodes.contains b.toNat = false :=
⟨up, 6, by decide +kernel⟩

theorem test_meets_bus_rows_do_12 : ∃ (s : State) (_o _n : Nat), s.miServes = true ∧ s.pwr.ps ≤ 2 :=
⟨up, 0, 1, by decide +kernel⟩

theorem test_meets_bus_rows_do_13 : ∃ (s : State) (_a : BitVec 7), s.miServes = true :=
⟨up, 0x61, by decide +kernel⟩

/-! ### LifecycleStepsForward -/

theorem test_meets_lifecycle_steps_forward_1 : ∃ (s t : State), s.lifecycleOk ∧ step s = .next t :=
⟨up, _, by decide +kernel, rfl⟩

/-! ### FusesOnlyBurn -/

theorem test_meets_fuses_only_burn_1 : ∃ (s t : State), s.fuses.provisioned ≤ 3 ∧ s.fuses.sealedF ≤ 3 ∧ s.fuses.rma ≤ 3 ∧ s.fuses.revoke0
    ≤ 3 ∧ step s = .next t :=
⟨up, _, by decide +kernel, by decide +kernel, by decide +kernel, by decide +kernel, rfl⟩

/-! ### LandingStaysCanonical -/

theorem test_meets_landing_stays_canonical_1 : ∃ (s t : State), sorted s.land.lines ∧ step s = .next t :=
⟨{ up with land := { up.land with lines := [(0, .written 1 false), (1, .written 0 false)] } }, _, by simp [sorted], rfl⟩

/-! ### DramStaysCanonical -/

theorem test_meets_dram_stays_canonical_1 : ∃ (s t : State), sorted s.dram.lines ∧ (∀ e ∈ s.dram.lines, e.2 ≠ (0, false)) ∧ step s = .next
    t :=
⟨onDram up (fun d => { d with lines := [(1, (1, false))] }), _, by simp [sorted, onDram], by simp [onDram], rfl⟩

/-! ### SuppressedIsNoRecord -/

theorem test_meets_suppressed_is_no_record_1 : ∃ (s : State) (x : TallyIn), s.recordsTaken = true ∧ s.suppresses x :=
⟨{ up with tally := { up.tally with buckets := [(0x0202, bucket)] } }, tallyIn, by decide +kernel, (by intro m l h; cases h),
    by decide +kernel, by decide +kernel, by decide +kernel⟩

/-! ### ParamReadReturns -/

theorem test_meets_param_read_returns_1 : ∃ (s : State) (f : Frame) (id _k : Nat) (d : PDef), s.takes f .param ∧ paramDef id = some d :=
⟨up, fr, P.PLP_TEST_MIN_MS, 0, ⟨0x0E04, .boot, 16, 52, .range 1 60000, .single, .plain⟩, by decide +kernel⟩

theorem test_meets_param_read_returns_1_b : ∃ (s : State) (d : PDef) (k : Nat), k < d.kind.count ∧ sget s.acceptFrame.params.staged
    (paramKey d.id k) = none ∧ d.access = .plain :=
⟨up, ⟨0x0E04, .boot, 16, 52, .range 1 60000, .single, .plain⟩, 0, by decide +kernel⟩

theorem test_meets_param_read_returns_1_c : ∃ (s : State) (f : Frame) (id k w : Nat), s.takes f .param ∧ (paramDef id).isSome = true ∧
    sget s.acceptFrame.params.staged (paramKey id k) = some w :=
⟨{ up with params := { up.params with staged := [(paramKey P.TLY_BURST 0, 9)] } }, fr, P.TLY_BURST, 0, 9, by decide +kernel⟩

theorem test_meets_param_read_returns_1_d : ∃ (id : Nat) (d : PDef), paramDef id = some d ∧ d.kind.count ≤ 255 ∧ d.access = .action :=
⟨P.PLP_TEST_NOW, ⟨0x0E09, .live, 8, 0, .range 0 1, .single, .action⟩, by decide +kernel⟩

theorem test_meets_param_read_returns_1_e : ∃ (id : Nat), (paramDef id).map (fun d => d.access) = some .mirror :=
⟨0x0203, by decide +kernel⟩

/-! ### WindowReadReturns -/

theorem test_meets_window_read_returns_1 : ∃ (s : State) (f : Frame), s.takes f .param :=
⟨up, fr, by decide +kernel⟩

/-! ### InformationCommandsAnswer -/

theorem test_meets_information_commands_answer_1 : ∃ (s t : State) (tag : Nat) (e : TagE) (lid : Byte) (off n len : Nat), s.adminData tag
    e ∧ s.adminTaken tag e = t ∧ e.cmd = .getLogPage lid off n ∧ logLen e.cntl lid = some len ∧ off ≤ len ∧ lid ≠ 0xC0 :=
⟨adm (.getLogPage 2 512 16), _, 5, admTag (.getLogPage 2 512 16), 2, 512, 16, 512, by decide +kernel, rfl, by decide +kernel⟩

theorem test_meets_information_commands_answer_2 : ∃ (s t : State) (tag : Nat) (e : TagE) (off n : Nat), s.adminData tag e ∧ s.adminTaken
    tag e = t ∧ e.cmd = .getLogPage 0xC0 off n ∧ e.cntl.isPF = true ∧ off < 4096 :=
⟨adm (.getLogPage 0xC0 4095 16), _, 5, admTag (.getLogPage 0xC0 4095 16), 4095, 16, by decide +kernel, rfl, by decide +kernel⟩

theorem test_meets_information_commands_answer_3 : ∃ (s t : State) (tag : Nat) (e : TagE) (cns : Byte) (nsid : Dword) (l : List (Option
    Byte)), s.adminData tag e ∧ s.adminTaken tag e = t ∧ e.cmd = .identify cns nsid ∧ t.identData e.cntl cns nsid = (stOk, l) :=
⟨adm (.identify 2 0), _, 5, admTag (.identify 2 0), 2, 0, _, by decide +kernel, rfl, by decide +kernel, rfl⟩

theorem test_meets_information_commands_answer_4 : ∃ (s : State) (tag : Nat) (e : TagE) (fid : Byte) (v nsid d : Dword), s.adminReady tag
    e ∧ e.cmd = .getFeatures fid v nsid ∧ fid ≠ 0x0E ∧ fid ≠ 0x81 ∧ s.featureValue e.cntl fid.toNat v nsid = some (d, .nothing) :=
⟨adm (.getFeatures 2 0 0), 5, admTag (.getFeatures 2 0 0), 2, 0, 0, 0, by decide +kernel⟩

theorem test_meets_information_commands_answer_5 : ∃ (s t : State) (tag : Nat) (e : TagE) (fid : Byte) (v nsid d : Dword) (n w : Nat),
    s.adminData tag e ∧ s.adminTaken tag e = t ∧ e.cmd = .getFeatures fid v nsid ∧ t.featureValue e.cntl fid.toNat v nsid = some (d,
    .struct n w) :=
⟨adm (.getFeatures 0x0E 0 0), _, 5, admTag (.getFeatures 0x0E 0 0), 0x0E, 0, 0, _, _, _, by decide +kernel, rfl, by decide +kernel, rfl⟩

theorem test_meets_information_commands_answer_6 : ∃ (s t : State) (tag : Nat) (e : TagE), s.adminData tag e ∧ s.adminTaken tag e = t ∧
    e.cntl.isPF = true ∧ e.cmd = .leaseStatus false :=
⟨adm (.leaseStatus false), _, 5, admTag (.leaseStatus false), by decide +kernel, rfl, by decide +kernel⟩

theorem test_meets_information_commands_answer_7 : ∃ (s t : State) (tag : Nat) (e : TagE) (st : StandNo) (x : StandS), s.adminData tag e ∧
    s.adminTaken tag e = t ∧ e.cntl.isPF = true ∧ e.cmd = .standStatus st false ∧ t.nvm.stand st.val = some x ∧ x.members.any (fun c =>
    decide (c / 128 = e.cntl.port.val)) = true :=
⟨adm (.standStatus 3 false), _, 5, admTag (.standStatus 3 false), 3, stand, by decide +kernel, rfl, by decide +kernel⟩

/-! ### InvalidLogPageFails -/

theorem test_meets_invalid_log_page_fails_1 : ∃ (s t : State) (tag : Nat) (e : TagE) (lid : Byte) (off n : Nat), s.adminData tag e ∧
    s.adminTaken tag e = t ∧ e.cmd = .getLogPage lid off n ∧ (lid ∉ [0x01, 0x02, 0x03, 0x04, 0x05, 0x80, 0x81, 0xC0] ∨ (lid = 0xC0 ∧
    e.cntl.isPF = false)) :=
⟨adm (.getLogPage 6 0 16), _, 5, admTag (.getLogPage 6 0 16), 6, 0, 16, by decide +kernel, rfl, by decide +kernel⟩

theorem test_meets_invalid_log_page_fails_1_b : ∃ (s t : State) (tag : Nat) (e : TagE) (lid : Byte) (off n : Nat), s.adminData tag e ∧
    s.adminTaken tag e = t ∧ e.cmd = .getLogPage lid off n ∧ (lid ∉ [0x01, 0x02, 0x03, 0x04, 0x05, 0x80, 0x81, 0xC0] ∨ (lid = 0xC0 ∧
    e.cntl.isPF = false)) :=
⟨tagged upNs { (admTag (.getLogPage 0xC0 0 16)) with cntl := 1 }, _, 5, { (admTag (.getLogPage 0xC0 0 16)) with cntl := 1 }, 0xC0, 0, 16,
    by decide +kernel, rfl, by decide +kernel⟩

/-! ### OtherFeaturesDo -/

theorem test_meets_other_features_do_3 : ∃ (s t : State) (tag : Nat) (e : TagE) (v nsid : Dword) (d : BitVec 128), s.adminData tag e ∧
    s.adminTaken tag e = t ∧ e.cmd = .setFeatures 0x0E false v nsid d :=
⟨feat 0x0E 0 0, _, 5, featTag 0x0E 0 0, 0, 0, 0, by decide +kernel, rfl, by decide +kernel⟩

theorem test_meets_other_features_do_5 : ∃ (s t : State) (tag : Nat) (e : TagE) (v nsid : Dword) (d : BitVec 128), s.adminData tag e ∧
    s.adminTaken tag e = t ∧ e.cmd = .setFeatures 0x81 false v nsid d :=
⟨feat 0x81 1 0, _, 5, featTag 0x81 1 0, 1, 0, 0, by decide +kernel, rfl, by decide +kernel⟩

/-! ### NamespaceCommandsDo -/

theorem test_meets_namespace_commands_do_1 : ∃ (s t : State) (tag : Nat) (e : TagE) (n0 : Dword) (nsze st nsid : Nat) (flbas : Byte),
    s.adminData tag e ∧ s.adminTaken tag e = t ∧ e.cntl.isPF = true ∧ e.cmd = .nsManagement 0 n0 nsze flbas st ∧ t.nvm.sanAction = 0 ∧
    t.createCheck nsze flbas st = none ∧ t.nvm.freeNsid = some nsid ∧ t.groveRestarting 0 = false :=
⟨(adm (.nsManagement 0 0 1000 0 3)), _, 5, admTag (.nsManagement 0 0 1000 0 3), 0, 1000, 3, 2, 0, by decide +kernel, rfl,
    by decide +kernel⟩

theorem test_meets_namespace_commands_do_3 : ∃ (s t : State) (tag : Nat) (e : TagE) (nsid : Dword) (cs : List Nat) (x : NsS), s.adminData
    tag e ∧ s.adminTaken tag e = t ∧ e.cntl.isPF = true ∧ e.cmd = .nsAttachment 0 nsid cs ∧ t.nvm.ns nsid.toNat = some x ∧ (x.mode ==
    .deleting) = false ∧ t.attachCheck x true cs = none :=
⟨(fun s : State => { s with nvm := { s.nvm with stands := [(3, { stand with members := [0, 1] })] } }) (adm (.nsAttachment 0 1 [1])), _,
    5, admTag (.nsAttachment 0 1 [1]), 1, [1], ns, by decide +kernel, rfl, by decide +kernel⟩

theorem test_meets_namespace_commands_do_4 : ∃ (s t : State) (tag : Nat) (e : TagE) (nsid : Dword) (cs : List Nat) (x : NsS), s.adminData
    tag e ∧ s.adminTaken tag e = t ∧ e.cntl.isPF = true ∧ e.cmd = .nsAttachment 1 nsid cs ∧ t.nvm.ns nsid.toNat = some x ∧ (x.mode ==
    .deleting) = false ∧ t.attachCheck x false cs = none ∧ t.host.ioFrom nsid.toNat cs = false :=
⟨adm (.nsAttachment 1 1 [0]), _, 5, admTag (.nsAttachment 1 1 [0]), 1, [0], ns, by decide +kernel, rfl, by decide +kernel⟩

/-! ### LeaseCommandsDo -/

theorem test_meets_lease_commands_do_1 : ∃ (s t : State) (tag : Nat) (e : TagE) (next : Nat) (ltag : Dword) (xs : List LeaseExtent),
    s.adminData tag e ∧ s.adminTaken tag e = t ∧ e.cntl.isPF = true ∧ e.cmd = .leaseGrant next ltag xs false ∧ ((t.nvm.lease
    e.cntl.port).state = .none ∨ (t.nvm.lease e.cntl.port).state = .ended) ∧ t.par P.MAP_LEASE_MAX_GIB ≠ 0 ∧ extentsSize xs ≤ t.par
    P.MAP_LEASE_MAX_GIB * 512 ∧ 1 ≤ next ∧ next ≤ 16384 ∧ xs.length = next ∧ xs.all extentOk = true ∧ extentsOverlap xs = false :=
⟨(adm (.leaseGrant 1 9 [extent] false)), _, 5, admTag (.leaseGrant 1 9 [extent] false), 1, 9, [extent], by decide +kernel, rfl,
    by decide +kernel⟩

/-! ### JournalRowsDo -/

theorem test_meets_journal_rows_do_1 : ∃ (s t : State) (g : Grove) (x : CommitGroup) (rest : List CommitGroup), (s.map.grove g).groups = x
    :: rest ∧ s.repairFirst g x = false ∧ s.mayCommit g = true ∧ State.commitGroup
    { s with map := s.map.modGrove g (fun m => { m with groups := rest }) } g x = t ∧ (t.map.grove g).ring.length ≤ 2 * halfRing :=
⟨onGrove up (fun m => { m with groups := [{ why := .fold, changes := [] }] }), _, 0, { why := .fold, changes := [] }, [],
    by decide +kernel, by decide +kernel, by decide +kernel, rfl, by decide +kernel⟩

theorem test_meets_journal_rows_do_2 : ∃ (s : State) (g : Grove) (x : CommitGroup) (rest : List CommitGroup), (s.map.grove g).groups = x
    :: rest ∧ s.repairFirst g x = false ∧ s.mayCommit g = false ∧ s.groveRestarting g = false :=
⟨onGrove State.reset (fun m => { m with groups := [{ why := .fold, changes := [] }] }), 0, { why := .fold, changes := [] }, [],
    by decide +kernel⟩

/-! ### ThinningRowsDo -/

theorem test_meets_thinning_rows_do_1 : ∃ (s : State) (d : DomId) (st : StandNo) (v : Victim), s.mediaRuns = true ∧ s.groveRestarting
    d.grove = false ∧ s.dev.mapDone.getLsbD d.grove.val = true ∧ s.thinsFor d st = true ∧ ((s.media.domS d).victims.filter (fun v => v.why
    != .rebuild)).find? (fun v => v.why == .relocate || v.why == .move) = some v :=
⟨onDom (flashUp upNs) (fun x => { x with victims := [victim] }), dom, 3, victim, by decide +kernel⟩

theorem test_meets_thinning_rows_do_2 : ∃ (s : State) (d : DomId) (st : StandNo) (rb : Nat), s.mediaRuns = true ∧ s.groveRestarting
    d.grove = false ∧ s.dev.mapDone.getLsbD d.grove.val = true ∧ s.thinsFor d st = true ∧ ((s.media.domS d).victims.filter (fun v => v.why
    != .rebuild)).find? (fun v => v.why == .relocate || v.why == .move) = none ∧ (s.relocations d).head? = some rb :=
⟨toRelocate, dom, 3, 2, by decide +kernel⟩

theorem test_meets_thinning_rows_do_4 : ∃ (s : State) (d : DomId) (st : StandNo), s.mediaRuns = true ∧ s.groveRestarting d.grove = false ∧
    s.dev.mapDone.getLsbD d.grove.val = true ∧ s.thinsFor d st = true ∧ s.firstRung d = false ∧ s.sliceHeld d.grove 1 = false ∧ s.govHolds
    (s.thinMode d).rung = false :=
⟨flashUp upNs, dom, 3, by decide +kernel⟩

theorem test_meets_thinning_rows_do_5 : ∃ (s : State) (r : DieRow) (n : Nat), s.mediaRuns = true ∧ s.dev.phase = .running ∧ s.readsOf
    (rbKey r.val (n % 16384)) = false ∧ s.flash.erasing (rbKey r.val (n % 16384)) = false ∧ recState (s.media.rbRec (rbKey r.val (n %
    16384))) = rbErasePending :=
⟨{ flashUp upNs with media := { upNs.media with recs := [(5, mkRec 4 0 false)] } }, 0, 5, by decide +kernel⟩

/-! ### DieRowsDo -/

theorem test_meets_die_rows_do_1 : ∃ (s : State) (i : Nat) (o : DieOp), s.flash.op i = some o ∧ o.stage = .issued ∧ s.opHeld o = false ∧
    (o.isRead && s.unreachable o) = false :=
⟨withDieOp (flashUp upNs) (dieOp .erase .issued (.eraseOf 0)), 6, dieOp .erase .issued (.eraseOf 0), by decide +kernel⟩

theorem test_meets_die_rows_do_3 : ∃ (s : State) (ch : Chan) (die : DieIx) (i : Nat) (o : DieOp) (rest : List (Nat × DieOp)),
    s.flash.ops.filter (fun e => e.2.key == dieKey ch.val die.val && e.2.stage == .onDie && !e.2.suspended && !(s.flash.die (dieKey ch.val
    die.val)).retraining && decide (busyLimit e.2 ≤ e.2.ran + (s.now - e.2.since))) = (i, o) :: rest ∧ s.resetHeld (dieKey ch.val die.val)
    i false = false :=
⟨later (withDieOp (flashUp upNs) (dieOp .erase .onDie (.eraseOf 0))) 50000000, 0, 0, 6, dieOp .erase .onDie (.eraseOf 0), [],
    by decide +kernel⟩

theorem test_meets_die_rows_do_7 : ∃ (s : State) (i slot n _lane : Nat) (o : DieOp), s.flash.op i = some o ∧ o.stage = .decoding ∧
    o.left.contains slot = true ∧ s.opHeld o = false ∧ n < 32 ∧ s.par P.MED_REWRITE_THRESHOLD_PCT * s.flash.capability o.rb ≥ 100 * n :=
⟨withDieOp (flashUp upNs) (dieOp .readSingle .decoding (.cruise dom)), 6, 0, 31, 0, dieOp .readSingle .decoding (.cruise dom),
    by decide +kernel⟩

theorem test_meets_die_rows_do_8 : ∃ (s : State) (i slot : Nat) (o : DieOp), s.flash.op i = some o ∧ o.stage = .decoding ∧ o.left.contains
    slot = true ∧ s.opHeld o = false :=
⟨withDieOp (flashUp upNs) (dieOp .readSingle .decoding (.cruise dom)), 6, 0, dieOp .readSingle .decoding (.cruise dom), by decide +kernel⟩

theorem test_meets_die_rows_do_9 : ∃ (s t : State) (i slot : Nat) (o : DieOp), s.flash.softBusy.contains (i, slot) = true ∧ s.flash.op i =
    some o ∧ s.opHeld o = false ∧ (State.track { s with flash := { s.flash with softBusy := s.flash.softBusy.filter (· != (i, slot)) } }
    o).recovered i slot = t :=
⟨{ up with flash := { up.flash with softBusy := [(6, 0)], ops := [(6, dieOp .readSingle .softBusy (.cruise dom))] } }, _, 6, 0, dieOp
    .readSingle .softBusy (.cruise dom), by decide +kernel, by decide +kernel, by decide +kernel, rfl⟩

theorem test_meets_die_rows_do_10 : ∃ (s : State) (i n : Nat) (o : DieOp), s.flash.op i = some o ∧ o.kind = .progSlc ∧ o.stage = .ended ∧
    s.opHeld o = false ∧ o.why = .program n :=
⟨withDieOp (flashUp upNs) (dieOp .progSlc .ended (.program 4)), 6, 4, dieOp .progSlc .ended (.program 4), by decide +kernel⟩

theorem test_meets_die_rows_do_11 : ∃ (s : State) (i : Nat) (o : DieOp), s.flash.op i = some o ∧ o.kind = .erase ∧ o.stage = .ended ∧
    s.opHeld o = false ∧ s.memberPresent o.rb (o.ch.val % 8) = true :=
⟨withDieOp (flashUp upNs) (dieOp .erase .ended (.eraseOf 0)), 6, dieOp .erase .ended (.eraseOf 0), by decide +kernel⟩

theorem test_meets_die_rows_do_12 : ∃ (s : State) (i : Nat) (o : DieOp), s.flash.op i = some o ∧ o.kind = .erase ∧ o.stage = .ended ∧
    s.opHeld o = false :=
⟨withDieOp (flashUp upNs) (dieOp .erase .ended (.eraseOf 0)), 6, dieOp .erase .ended (.eraseOf 0), by decide +kernel⟩

/-! ### PowerRowsDo -/

theorem test_meets_power_rows_do_17 : ∃ (s : State), s.mgmtLost = false ∧ s.pwr.patrol = true ∧ s.serving = true ∧ s.pwr.patrolFrom +
    s.par P.PWR_PATROL_MAX_S * 1000000000 ≤ s.now :=
⟨later { up with pwr := { up.pwr with patrol := true } } 0x10000000000000, by decide +kernel⟩

theorem test_meets_power_rows_do_18 : ∃ (s : State), s.mgmtLost = false ∧ s.pwr.patrol = true ∧ s.serving = true ∧ (s.pwr.entering = true
    ∨ s.patrolWork = false) :=
⟨{ up with pwr := { up.pwr with patrol := true, entering := true } }, by decide +kernel⟩

/-! ### ResetRowsDo -/

theorem test_meets_reset_rows_do_6 : ∃ (s : State) (n : Nat), 1000 ≤ n ∧ s.dev.pin = false ∧ s.plp.dumping = true ∧ s.dev.deferredPin =
    false :=
⟨dumping, 1000, by decide +kernel⟩

/-! ### NaileRowsDo -/

theorem test_meets_naile_rows_do_8 : ∃ (s : State) (f : Frame) (p : Ploc) (o n : Nat), s.takes f .raw ∧ s.acceptFrame.rawAllowed = true ∧
    plocValid p = true ∧ 1 ≤ n ∧ n ≤ 4092 ∧ o + n ≤ s.acceptFrame.flash.cwBytes (plocRb p) ∧ (s.acceptFrame.members (plocRb p)).contains
    (plocChan p) = false :=
⟨withSession up, fr, 0, 0, 4092, by decide +kernel⟩

theorem test_meets_naile_rows_do_9 : ∃ (s : State) (f : Frame) (p : Ploc) (o n : Nat), s.takes f .raw ∧ s.acceptFrame.rawAllowed = true ∧
    plocValid p = true ∧ 1 ≤ n ∧ n ≤ 4092 ∧ o + n ≤ s.acceptFrame.flash.cwBytes (plocRb p) ∧ (s.acceptFrame.members (plocRb p)).contains
    (plocChan p) = true ∧ s.acceptFrame.suspendedOn p (fun o => o.kind == .erase && o.block == plocBlock p) = false ∧
    s.acceptFrame.suspendedOn p (fun o => o.isProgram && o.inWordlines p) = false :=
⟨withSession (flashUp up), fr, 0, 0, 1, by decide +kernel⟩

/-! ### PowerLossRowsDo -/

theorem test_meets_power_loss_rows_do_8 : ∃ (s : State), s.plp.dumping = true ∧ s.plp.hdrDone = false ∧ s.headersOut = false :=
⟨dumping, by decide +kernel⟩

theorem test_meets_power_loss_rows_do_9 : ∃ (s : State), s.plp.dumping = true ∧ (s.plp.hdrDone = true ∨ s.headersOut = true) :=
⟨{ failing with plp := { failing.plp with dumping := true, hdrDone := true } }, by decide +kernel⟩

/-! ### ChannelRowsDo -/

theorem test_meets_channel_rows_do_10 : ∃ (s : State) (g : Grove), s.mediaRuns = true ∧ (s.flash.grove g.val).rebuild = true ∧
    (s.flash.grove g.val).bmvalid = true ∧ (List.range 8).any (fun c => (s.flash.chan (g.val * 8 + c)).state == .training) = false ∧
    s.groveRestarting g = false ∧ s.lostUnits.any (fun x => x.1 == g.val) = false ∧ lowestOf (s.flash.grove g.val).bitmap = none :=
⟨onRec (flashUp upNs) (fun x => { x with rebuild := true, bmvalid := true }), 0, by decide +kernel⟩

/-! ### DataMovementDoes -/

theorem test_meets_data_movement_does_1 : ∃ (s : State) (ctx : Fin 256) (c : CtxS) (chain : List DmaDesc) (parity : ParityEvent) (t :
    State) (fence notify : Bool), s.fwRuns = true ∧ (sget s.land.ctxs ctx.val).isSome = true ∧ s.ctxFor ctx.val chain = c ∧ c.fence =
    false ∧ c.engine.isSome = true ∧ chainOf ctx.val chain = true ∧ parity ≠ .contextStore ∧ runChain (!c.writes) c.forward chain
    (s.readErrors parity) = (t, .ran fence notify) ∧ (sget (t.parity ctx.val c.tag parity).land.ctxs ctx.val).isSome = true :=
⟨onCtx up ctx, 3, ctx, [desc], .none, _, false, false, by decide +kernel, by decide +kernel, by decide +kernel, by decide +kernel,
    by decide +kernel, by decide +kernel, by decide +kernel, rfl, by decide +kernel⟩

theorem test_meets_data_movement_does_2 : ∃ (s : State) (ctx : Fin 256) (chain : List DmaDesc) (parity : ParityEvent) (t : State) (fence
    notify : Bool), s.fwRuns = true ∧ sget s.land.ctxs ctx.val = none ∧ chain ≠ [] ∧ (s.land.freeEngine (!chainReads chain)).isSome = true
    ∧ chainOf ctx.val chain = true ∧ parity ≠ .contextStore ∧ runChain (chainReads chain) (!s.retries) chain (s.readErrors parity) = (t,
    .ran fence notify) :=
⟨up, 3, [desc], .none, _, false, false, by decide +kernel, by decide +kernel, by decide +kernel, by decide +kernel, by decide +kernel,
    by decide +kernel, rfl⟩

theorem test_meets_data_movement_does_4 : ∃ (s : State) (ctx : Fin 256) (c : CtxS) (chain : List DmaDesc), s.fwRuns = true ∧ (sget
    s.land.ctxs ctx.val).isSome = true ∧ s.ctxFor ctx.val chain = c :=
⟨onCtx up ctx, 3, ctx, [desc], by decide +kernel⟩

theorem test_meets_data_movement_does_5 : ∃ (s : State) (k : TokenFor), ((s.tokenSources k).any s.writesHeld = true ∨ s.plp.dumping =
    true) :=
⟨heldUp, .source .leaseEngine, by decide +kernel⟩

theorem test_meets_data_movement_does_6 : ∃ (s : State) (ctx : Fin 256) (c : CtxS), (s.tokenSources (.context ctx)).any s.writesHeld =
    false ∧ s.plp.dumping = false ∧ sget s.land.ctxs ctx.val = some c ∧ c.fence = true :=
⟨onCtx up { ctx with fence := true }, 3, { ctx with fence := true }, by decide +kernel⟩

theorem test_meets_data_movement_does_8 : ∃ (s : State) (src : DramSource), s.writesHeld src = false ∧ s.plp.dumping = false :=
⟨up, .leaseEngine, by decide +kernel⟩

/-! ### ChannelRowsDo -/

theorem test_meets_channel_rows_do_12 : ∃ (s : State) (g : Grove) (bit : Nat) (v : Victim), s.mediaRuns = true ∧ (s.flash.grove
    g.val).rebuild = true ∧ (s.flash.grove g.val).bmvalid = true ∧ (List.range 8).any (fun c => (s.flash.chan (g.val * 8 + c)).state ==
    .training) = false ∧ s.groveRestarting g = false ∧ s.lostUnits.any (fun x => x.1 == g.val) = false ∧ lowestOf (s.flash.grove
    g.val).bitmap = some bit ∧ (s.media.domS (s.domOf (g.val * 16 + bit / 16384))).victims.find? (fun v => v.rb == rbKey (g.val * 16 + bit
    / 16384) (bit % 16384)) = some v :=
⟨onDom (onRec (flashUp upNs) (fun x => { x with rebuild := true, bmvalid := true, bitmap := [9, 5] })) (fun x =>
    { x with victims := [{ victim with rb := 5, why := .rebuild }] }), 0, 5, { victim with rb := 5, why := .rebuild }, by decide +kernel⟩

/-! ### LongOperationsDo -/

theorem test_meets_long_operations_do_5 : ∃ (s : State) (op : Nat) (g : Grove) (o : SlicedOp), sget s.nvm.ops op = some o ∧ s.mediaRuns =
    true ∧ s.dev.phase = .running ∧ o.begun = true ∧ s.groveRestarting g = false ∧ o.left = 0 ∧ (o.kind ≠ .delete ∨ s.holdsSegs o.nsids =
    none) :=
⟨withOp upNs { op with kind := .sanitizeCrypto }, 2, 7, { op with kind := .sanitizeCrypto }, by decide +kernel⟩

theorem test_meets_long_operations_do_5_b : ∃ (s : State) (op : Nat) (g : Grove) (o : SlicedOp), sget s.nvm.ops op = some o ∧ s.mediaRuns
    = true ∧ s.dev.phase = .running ∧ o.begun = true ∧ s.groveRestarting g = false ∧ o.left = 0 ∧ (o.kind ≠ .delete ∨ s.holdsSegs o.nsids
    = none) :=
⟨withOp upNs { op with nsids := [] }, 2, 7, { op with nsids := [] }, by decide +kernel⟩

theorem test_meets_long_operations_do_6 : ∃ (s : State) (op : Nat) (g : Grove) (o : SlicedOp), sget s.nvm.ops op = some o ∧ s.mediaRuns =
    true ∧ s.dev.phase = .running ∧ o.begun = true ∧ s.groveRestarting g = false ∧ o.left = 0 ∧ o.kind = .delete ∧ (s.holdsSegs
    o.nsids).isSome = true :=
⟨withOp upNs op, 2, 7, op, by decide +kernel⟩

/-! ### DataMovementDoes -/

theorem test_meets_data_movement_does_3 : ∃ (s : State) (ctx : Fin 256) (c : CtxS) (chain : List DmaDesc) (parity : ParityEvent) (t :
    State) (d : DmaDesc), s.fwRuns = true ∧ (sget s.land.ctxs ctx.val).isSome = true ∧ s.ctxFor ctx.val chain = c ∧ c.fence = false ∧
    c.engine.isSome = true ∧ chainOf ctx.val chain = true ∧ parity ≠ .contextStore ∧ runChain (!c.writes) c.forward chain (s.readErrors
    parity) = (t, .bad d) :=
⟨onCtx up ctx, 3, ctx, [badDesc], .none, _, _, by decide +kernel, by decide +kernel, by decide +kernel, by decide +kernel,
    by decide +kernel, by decide +kernel, by decide +kernel, rfl⟩

theorem test_meets_data_movement_does_7 : ∃ (s : State) (tag : Nat), (s.tokenSources (.writeData tag)).any s.writesHeld = false ∧
    s.plp.dumping = false :=
⟨tagged (cached upNs group) { runTag (.write rw) with groups := [0] }, 5, by decide +kernel⟩

/-! ### JournalRowsDo -/

theorem test_meets_journal_rows_do_3 : ∃ (s : State) (g : Grove) (x : CommitGroup) (rest : List CommitGroup), (s.map.grove g).groups = x
    :: rest ∧ s.repairFirst g x = true :=
⟨(fun s : State => { s with map := { s.map with repairing := [(0, 0)] } }) (onGrove up (fun m =>
    { m with groups := [{ why := .fold, changes := [] }] })), 0, { why := .fold, changes := [] }, [], by decide +kernel⟩

/-! ### DieRowsDo -/

theorem test_meets_die_rows_do_2 : ∃ (s t u : State) (ch : Chan) (die : DieIx) (rb : Bool), s.readRb ch.val rb = t ∧ u =
    { t with flash := t.flash.select ch.val die.val } ∧ (t.flash.chan ch.val).state = .active ∧ (t.flash.die (dieKey ch.val die.val)).used
    = true ∧ (t.flash.die (dieKey ch.val die.val)).retraining = false :=
⟨flashUp upNs, _, _, 0, 0, true, rfl, rfl, by decide +kernel⟩

/-! ### PowerLossRowsDo -/

theorem test_meets_power_loss_rows_do_6 : ∃ (s t : State), s.plp.pwrFailN = false ∧
    { s with plp := { s.plp with pwrFailN := true, filtering := false } } = t :=
⟨failing, _, by decide +kernel, rfl⟩

theorem test_meets_power_loss_rows_do_6_b : ∃ s t : State, s.plp.pwrFailN = false ∧
    { s with plp := { s.plp with pwrFailN := true, filtering := false } } = t ∧ t.mediaRuns = true :=
⟨failing, _, by decide +kernel, rfl, by decide +kernel⟩

theorem test_meets_power_loss_rows_do_6_c : ∃ s t : State, s.plp.pwrFailN = false ∧
    { s with plp := { s.plp with pwrFailN := true, filtering := false } } = t ∧ t.mediaRuns = false :=
⟨dumping, _, by decide +kernel, rfl, by decide +kernel⟩

theorem test_meets_power_loss_rows_do_10 : ∃ (s : State), s.dev.deferredPin = true ∧ s.dev.deferredAt + 30000000 ≤ s.now :=
⟨later { up with dev := { up.dev with deferredPin := true } } 30000000, by decide +kernel⟩

/-! ### NaileRowsDo -/

theorem test_meets_naile_rows_do_13 : ∃ (s : State) (f : Frame), s.takes f .debug ∧ s.acceptFrame.tokensLocked = false :=
⟨up, fr, by decide +kernel⟩

theorem test_meets_naile_rows_do_14 : ∃ (s : State) (f : Frame) (x : DebugToken), s.takes f .debug ∧ s.acceptFrame.tokenRefusal x = none ∧
    x.level ≠ lvRmaAuth :=
⟨tokenUp, fr, token, by decide +kernel⟩

/-! ### ResetRowsDo -/

theorem test_meets_reset_rows_do_7 : ∃ (s : State) (n : Nat), 1000 ≤ n ∧ s.dev.pin = false ∧ s.plp.dumping = true ∧ s.dev.deferredPin =
    true :=
⟨{ dumping with dev := { dumping.dev with deferredPin := true } }, 1000, by decide +kernel⟩

/-! ### PowerRowsDo -/

theorem test_meets_power_rows_do_19 : ∃ (s : State), s.mgmtLost = true :=
⟨onMgmt up (fun m => { m with lost := true }), by decide +kernel⟩

/-! ### TapRowsDo -/

theorem test_meets_tap_rows_do_6 : ∃ (s : State) (x : Session), s.sec.session = some x ∧ s.tapOn = true ∧ s.dev.fuseFail = false ∧
    s.reaches x .haltMgmt = true :=
⟨withSession up, session, by decide +kernel⟩

theorem test_meets_tap_rows_do_7 : ∃ (s : State) (r : DapReach) (x : Session), s.sec.session = some x ∧ s.tapOn = true ∧ s.dev.fuseFail =
    false ∧ s.reaches x r = true :=
⟨withSession up, .haltMgmt, session, by decide +kernel⟩

theorem test_meets_tap_rows_do_8 : ∃ (s : State) (_r : DapReach), s.sec.session = none :=
⟨up, .haltMgmt, by decide +kernel⟩

/-! ### TokenRowsDo -/

theorem test_meets_token_rows_do_7 : ∃ (s : State) (f : Frame), s.takes f .debug ∧ s.acceptFrame.tokensLocked = true :=
⟨onSec up (fun x => { x with refusals := 255 }), fr, by decide +kernel⟩

theorem test_meets_token_rows_do_9 : ∃ (s : State) (x : Session), s.sec.session = some x ∧ s.now < x.opened + x.lifetimeS * 1000000000 :=
⟨later (withSession up) 59999999999, session, by decide +kernel⟩

theorem test_meets_token_rows_do_11 : ∃ (s : State) (n : BitVec 256) (t : Nat), s.sec.nonce = some (n, t) ∧ s.now < t + 60000000000 :=
⟨later (onSec up (fun x => { x with nonce := some (9, 0) })) 59999999999, 9, 0, by decide +kernel⟩

theorem test_meets_token_rows_do_13 : ∃ (s : State) (r : DapReach) (x : Session), s.sec.session = some x ∧ s.tapOn = true ∧ s.dev.fuseFail
    = false ∧ s.reaches x r = false :=
⟨withSession up, .readDram 0, session, by decide +kernel⟩

theorem test_meets_token_rows_do_14 : ∃ (s : State) (_r : DapReach), (s.sec.session = none ∨ s.dev.fuseFail = true) :=
⟨up, .haltMgmt, by decide +kernel⟩

theorem test_meets_token_rows_do_14_b : ∃ (s : State) (_r : DapReach), (s.sec.session = none ∨ s.dev.fuseFail = true) :=
⟨{ withSession up with dev := { up.dev with fuseFail := true } }, .haltMgmt, by decide +kernel⟩

/-! ### MgmtRowsDo -/

theorem test_meets_mgmt_rows_do_13 : ∃ (s : State) (x : Session), s.sec.session = some x ∧ x.opened + x.lifetimeS * 1000000000 ≤ s.now :=
⟨later (withSession up) 60000000000, session, by decide +kernel⟩

theorem test_meets_mgmt_rows_do_14 : ∃ (s : State) (n : BitVec 256) (a : Nat), s.sec.nonce = some (n, a) ∧ a + 60000000000 ≤ s.now :=
⟨later (onSec up (fun x => { x with nonce := some (9, 0) })) 60000000000, 9, 0, by decide +kernel⟩

/-! ### PlacementRowsDo -/

theorem test_meets_placement_rows_do_4_b : ∃ (s : State) (n : Nat) (w : WSet), s.media.wset n = some w ∧ w.started = true ∧ w.parityDone =
    false ∧ (s.dataMembers w).all (fun c => w.transferred.contains c) = true ∧ s.memberPresent w.rb (s.parityOf w.rb) = true :=
⟨withSet (flashUp upNs) { wset with started := true, transferred := [0, 1, 2, 3, 4, 5, 6, 7] }, 4,
    { wset with started := true, transferred := [0, 1, 2, 3, 4, 5, 6, 7] }, by decide +kernel⟩

theorem test_meets_placement_rows_do_4_c : ∃ (s : State) (n : Nat) (w : WSet), s.media.wset n = some w ∧ w.started = true ∧ w.parityDone =
    false ∧ (s.dataMembers w).all (fun c => w.transferred.contains c) = true ∧ s.memberPresent w.rb (s.parityOf w.rb) = false :=
⟨withSet upNs { wset with started := true, transferred := [0, 1, 2, 3, 4, 5, 6, 7] }, 4,
    { wset with started := true, transferred := [0, 1, 2, 3, 4, 5, 6, 7] }, by decide +kernel⟩

/-! ### ChannelRowsDo -/

theorem test_meets_channel_rows_do_11 : ∃ (s : State) (g : Grove), s.mediaRuns = true ∧ (s.flash.grove g.val).rebuild = true ∧
    (s.flash.grove g.val).bmvalid = true ∧ (List.range 8).any (fun c => (s.flash.chan (g.val * 8 + c)).state == .training) = false ∧
    s.groveRestarting g = false ∧ s.lostUnits.any (fun x => x.1 == g.val) = true :=
⟨onGrove (onRec (flashUp upNs) (fun x => { x with rebuild := true, bmvalid := true })) (fun m =>
    { m with image := { m.image with locs := [(unitKey 1 0, mkPloc 0 1 0 0 0 0)] } }), 0, by decide +kernel⟩

/-! ### DataMovementDoes -/

theorem test_meets_data_movement_does_9 : ∃ (s : State) (r : CordReq) (own lpn : Nat), s.nextShare = some (r, own) ∧ r.user = .lease lpn
    :=
⟨(fun s : State => { s with land := { s.land with waiting := [{ cordReq with user := .lease 4 }] } }) up,
    { cordReq with user := .lease 4 }, _, 4, rfl, by decide +kernel⟩

/-! ### DispatchDoes -/

theorem test_meets_dispatch_does_2 : ∃ (s : State) (pipe : Fin 4) (d : Dir) (k st tag : Nat) (e : TagE), s.ioServed = true ∧ s.govHolds 4
    = false ∧ s.refillStands.nextStand pipe d = some (k, st) ∧ oldestTag ((s.refillStands.waitingIn pipe d).filter (fun x =>
    s.refillStands.queueOf x.2 == st)) = some (tag, e) :=
⟨tagged upNs (entry 1 .accepted (.read rw)), Config.pipeline 5, .read, 3, 3, 5, entry 1 .accepted (.read rw), by decide +kernel,
    by decide +kernel, by rw [State.nextStand, State.waitingStands, waits5]; decide +kernel, by rw [waits5]; decide +kernel⟩

/-! ### PowerLossRowsDo -/

theorem test_meets_power_loss_rows_do_7 : ∃ (s : State), s.plp.dumping = false ∧ s.dumpMayBegin = true :=
⟨later failing 0x10000000, by decide +kernel⟩

end Sys2Proof.Tests
end

/-! # Scope: every command completes, register writes, absent opcodes (00 R3, R7 to R9, R18) -/

namespace Sys2Proof.Machine

/-! ## Every command answers a next state -/

/-- Settles O3, by the command's constructor: no meaning faults or refuses, each is `.next` of the state it makes. -/
theorem everyCommandCompletes : Obligations.EveryCommandCompletes := by
  intro c s
  cases c <;> exact ⟨_, rfl⟩

/-! ## Register writes (00 R18; 02 R38, R40, R48) -/

/-- A write of a read-only register of the block, outside every function, changes nothing, not even the link's last traffic. -/
theorem exec_registerWrite_blockReadOnly (s : State) {r : RegId} (v : Qword)
    (hr : r = .rstCause ∨ r = .rstBootStatus ∨ r = .secstat ∨ r = .clkCtrlStatus) :
    exec (.registerWrite r v) s = .next s := by
  rcases hr with rfl | rfl | rfl | rfl <;> rfl

/-- A write of a read-only register of a function that is there is traffic on its link and nothing else. -/
theorem exec_registerWrite_functionReadOnly {s : State} {c : Cntl} {r : RegId} (v : Qword) (hc : s.host.present c = true)
    (hr : r = .cap c ∨ r = .capHigh c ∨ r = .vs c ∨ r = .csts c ∨ r = .pciId c ∨ r = .pciSubsystem c ∨ r = .devCap c ∨
      r = .linkCap c ∨ (∃ p : Port, p.pf = c ∧ (r = .sriovVfs p ∨ r = .sriovOffsets p))) :
    exec (.registerWrite r v) s = .next s.touchLink := by
  have look : (if s.host.present c then s.touchLink else s) = s.touchLink := if_pos hc
  rcases hr with rfl | rfl | rfl | rfl | rfl | rfl | rfl | rfl | ⟨p, rfl, rfl | rfl⟩ <;> exact congrArg _ look

/-- Settles O8, clause by clause: since the function is there, the `if` of its register's arm takes the branch that writes. -/
theorem registerWritesDo : Obligations.RegisterWritesDo := by
  refine ⟨?intms, ?intmc, ?devCtl, ?sriovCtl, ?blockReadOnly, ?functionReadOnly, ?unsupportedRequest⟩
  case intms => intro s c v hc; exact congrArg _ (if_pos hc)
  case intmc => intro s c v hc; exact congrArg _ (if_pos hc)
  case devCtl => intro s c v hc; exact congrArg _ (if_pos hc)
  case sriovCtl =>
    intro s p v hp hv
    show execRegisterWrite (.sriovCtl p) v s = _
    simp [execRegisterWrite, hp, hv]
  case blockReadOnly => exact fun s _ v hr => exec_registerWrite_blockReadOnly s v hr
  case functionReadOnly => exact fun _ _ _ v hc hr => exec_registerWrite_functionReadOnly v hc hr
  case unsupportedRequest => intro s c m hc; exact congrArg _ (if_pos hc)

/-! ## Opcodes that are not there (00 R3; 02 R51, R52) -/

/-- An accepted admin command passes the gate, whatever its data pointer. -/
theorem State.adminGate_ready {s : State} {tag : Nat} {e : TagE} (h : s.adminReady tag e) (run : State → TagE → State) :
    s.adminGate tag run = run s e := by
  obtain ⟨htag, hsq, hphase, hlost, hserves⟩ := h
  simp [State.adminGate, htag, hsq, hphase, hlost, hserves]

/-- A VF's accepted command of the PF alone fails before its data pointer is looked at (02 Table 2-7; log entry 109). -/
theorem State.adminPf_vf {s : State} {tag : Nat} {e : TagE} (h : s.adminReady tag e) (hvf : e.cntl.isPF = false)
    (run : State → TagE → State) : s.adminPf tag run = s.complete tag stOpcode := by
  rw [State.adminPf, State.adminGate_ready h]
  simp [hvf]

/-- INVALID_ADMIN_OPCODE fails an admin opcode that has no row of its own. -/
theorem exec_invalidAdminOpcode_other {s : State} {tag : Nat} {e : TagE} {opc : Byte} (h : s.adminReady tag e)
    (hc : e.cmd = .otherAdmin opc) : exec (.invalidAdminOpcode tag) s = .next (s.complete tag stOpcode) := by
  show execInvalidAdminOpcode tag s = _
  rw [execInvalidAdminOpcode, State.adminGate_ready h, hc]

/-- INVALID_ADMIN_OPCODE fails a VF's vendor command. -/
theorem exec_invalidAdminOpcode_vf {s : State} {tag : Nat} {e : TagE} (h : s.adminReady tag e)
    (hv : vendorAdmin e.cmd = true) (hvf : e.cntl.isPF = false) :
    exec (.invalidAdminOpcode tag) s = .next (s.complete tag stOpcode) := by
  show execInvalidAdminOpcode tag s = _
  rw [execInvalidAdminOpcode, State.adminGate_ready h]
  split
  · rfl
  · simp [hv, hvf]

/-- Settles O19: the gate lets each command through to the arm that completes it, and stops a VF's vendor command itself. -/
theorem absentOpcodesFail : Obligations.AbsentOpcodesFail := by
  refine ⟨?firmwareCommit, ?firmwareDownload, ?otherAdmin, ?vendorOfVf, ?otherIo⟩
  case firmwareCommit =>
    intro s tag e h hc
    show execFirmwareCommit tag s = _
    rw [execFirmwareCommit, State.admin_ready h (by rw [hc]; rfl), hc]
  case firmwareDownload =>
    intro s tag e h hc
    show execFirmwareImageDownload tag s = _
    rw [execFirmwareImageDownload, State.admin_ready h (by rw [hc]; rfl), hc]
  case otherAdmin => exact fun _ _ _ _ h hc => exec_invalidAdminOpcode_other h hc
  case vendorOfVf =>
    intro s tag e h hv hvf
    refine ⟨exec_invalidAdminOpcode_vf h hv hvf, ?grant, ?revoke, ?status, ?stand⟩
    all_goals exact congrArg _ (State.adminPf_vf h hvf _)
  case otherIo =>
    intro s tag e opc h hc
    show execInvalidIoOpcode tag s = _
    rw [execInvalidIoOpcode, State.io_ready h, hc]

end Sys2Proof.Machine

/-! # Reads, writes, data movement, leases and die operations (01 R21 to R35) -/

namespace Sys2Proof.Machine

/-! ## Reads, compares and gathers (01 R21 to R25; 02 R53; 04 R125) -/

/-- READ of a command that dispatch has begun is `doRead` of its fields. -/
theorem exec_read_doRead {s : State} {tag : Nat} {e : TagE} {f : RwFields} (h : s.ioReady tag e) (hc : e.cmd = .read f) :
    exec (.read tag) s = .next (s.doRead tag e f) := by
  show execRead tag s = _
  rw [execRead, State.io_ready h, hc]

/-- A read whose fields are legal begins. -/
theorem State.doRead_begins {s : State} {e : TagE} {f : RwFields} {x : NsS} (hn : s.nsReady e f.nsid x .reads)
    (hv : readVerdict f x false = none) (tag : Nat) : s.doRead tag e f = s.beginRead tag f := by
  rw [State.doRead, State.onNs_ready hn, hv]

/-- A read with a field that is not legal fails with that field's status. -/
theorem State.doRead_fails {s : State} {e : TagE} {f : RwFields} {x : NsS} {st : Status} (hn : s.nsReady e f.nsid x .reads)
    (hv : readVerdict f x false = some st) (tag : Nat) : s.doRead tag e f = s.complete tag st := by
  rw [State.doRead, State.onNs_ready hn, hv]

/-- Settles O21: dispatch and the namespace let each command through, and the verdict on its fields picks the branch. -/
theorem readCommandsDo : Obligations.ReadCommandsDo := by
  refine ⟨?read, ?readFails, ?orderedRead, ?compare, ?gather⟩
  case read =>
    intro s tag e f x h hc hn hv
    rw [exec_read_doRead h hc, State.doRead_begins hn hv]
  case readFails =>
    intro s tag e f x st h hc hn hv
    rw [exec_read_doRead h hc, State.doRead_fails hn hv]
  case orderedRead =>
    intro s tag e f x h hc hn hv
    show execOrderedRead tag s = _
    rw [execOrderedRead, State.io_ready h, hc]
    exact congrArg _ (State.doRead_begins hn hv tag)
  case compare =>
    intro s tag e f x h hc hn hv
    show execCompare tag s = _
    rw [execCompare, State.io_ready h, hc]
    show Host.Outcome.next (s.onNs tag e f.nsid .reads _) = _
    rw [State.onNs_ready hn, hv]
  case gather =>
    intro s tag e f x h hc hn hv
    show execGatherRead tag s = _
    rw [execGatherRead, State.io_ready h, hc]
    show Host.Outcome.next (s.onNs tag e f.nsid .reads _) = _
    rw [State.onNs_ready hn, hv]

/-! ## Writes, deallocations and Flush (01 R26; 02 R53; 03 R82; 06 R209) -/

/-- WRITE of a command that dispatch has begun is `doWrite` of its fields. -/
theorem exec_write_doWrite {s : State} {tag : Nat} {e : TagE} {f : RwFields} (h : s.ioReady tag e) (hc : e.cmd = .write f) :
    exec (.write tag) s = .next (s.doWrite tag e f) := by
  show execWrite tag s = _
  rw [execWrite, State.io_ready h, hc]

/-- DATASET_MANAGEMENT of a command that dispatch has begun is `doDsm` of its ranges. -/
theorem exec_datasetManagement_doDsm {s : State} {tag : Nat} {e : TagE} {nsid : Dword} {ad : Bool} {rs : List DsmRange}
    (h : s.ioReady tag e) (hc : e.cmd = .dsm nsid ad rs) :
    exec (.datasetManagement tag) s = .next (s.doDsm tag e nsid ad rs) := by
  show execDatasetManagement tag s = _
  rw [execDatasetManagement, State.io_ready h, hc]

/-- A write that no check fails begins. -/
theorem State.doWrite_begins {s : State} {e : TagE} {f : RwFields} {x : NsS} (hn : s.nsReady e f.nsid x .writes)
    (hv : s.writeVerdict f x = none) (tag : Nat) : s.doWrite tag e f = s.beginWrite tag e f x := by
  rw [State.doWrite, State.onNs_ready hn, hv]

/-- A write that a check fails completes with that check's status. -/
theorem State.doWrite_fails {s : State} {e : TagE} {f : RwFields} {x : NsS} {st : Status} (hn : s.nsReady e f.nsid x .writes)
    (hv : s.writeVerdict f x = some st) (tag : Nat) : s.doWrite tag e f = s.complete tag st := by
  rw [State.doWrite, State.onNs_ready hn, hv]

/-- Write protection comes after the fields and before the data pointer (log entry 35). -/
theorem State.writeVerdict_protected {s : State} {f : RwFields} {x : NsS} (hf : rwVerdict f x = none)
    (hp : s.writeProtected x = true) : s.writeVerdict f x = some stProtected := by
  rw [State.writeVerdict, hf]
  exact if_pos hp

/-- A range lies in a namespace when it ends at its end or before. -/
theorem rangeIn_iff {x : NsS} {r : LbaRange} : rangeIn x r = true ↔ r.1 + r.2 ≤ x.nlb := decide_eq_true_iff

/-- A command that takes data from the host fetches it once its pointer is legal (04 R114, R116). -/
theorem State.withPtr_toDev {s : State} {e : TagE} {len : Nat} (hp : dptrCheck e.ptr len true = none) (tag : Nat)
    (run : State → State) : s.withPtr tag e len true run = run (s.fetchData e len) := by
  rw [State.withPtr, hp]
  rfl

/-- Dataset Management without AD fetches its list and does nothing. -/
theorem State.doDsm_noAd {s : State} {e : TagE} {nsid : Dword} {rs : List DsmRange} {x : NsS} (hn : s.nsReady e nsid x .writes)
    (hp : dptrCheck e.ptr (16 * rs.length) true = none) (tag : Nat) :
    s.doDsm tag e nsid false rs = (s.fetchData e (16 * rs.length)).complete tag stOk := by
  rw [State.doDsm, State.onNs_ready hn, State.withPtr_toDev hp]
  rfl

/-- Dataset Management with AD deallocates ranges that all lie in the namespace. -/
theorem State.doDsm_ad {s : State} {e : TagE} {nsid : Dword} {rs : List DsmRange} {x : NsS} (hn : s.nsReady e nsid x .writes)
    (hp : dptrCheck e.ptr (16 * rs.length) true = none) (hr : rs.all (fun r => decide (r.slba + r.length ≤ x.nlb)) = true)
    (tag : Nat) :
    s.doDsm tag e nsid true rs =
      (s.fetchData e (16 * rs.length)).dealloc tag nsid.toNat x (rs.map (fun r => (r.slba, r.length))) := by
  have hin : (rs.map (fun r => (r.slba, r.length))).all (rangeIn x) = true := by
    rw [List.all_map]
    exact hr
  rw [State.doDsm, State.onNs_ready hn, State.withPtr_toDev hp]
  simp only [hin]
  rfl

/-- Settles O23: dispatch and the namespace let each command through, and the checks of its fields, ranges and pointer pick the branch. -/
theorem writeCommandsDo : Obligations.WriteCommandsDo := by
  refine ⟨?write, ?writeProtected, ?orderedWrite, ?writeZeroes, ?dsmAd, ?dsmNoAd, ?orderedDsm, ?flush⟩
  case write =>
    intro s tag e f x h hc hn hv
    rw [exec_write_doWrite h hc, State.doWrite_begins hn hv]
  case writeProtected =>
    intro s tag e f x h hc hn hf hp
    rw [exec_write_doWrite h hc, State.doWrite_fails hn (State.writeVerdict_protected hf hp)]
  case orderedWrite =>
    intro s tag e f x h hc hn hv
    show execOrderedWrite tag s = _
    rw [execOrderedWrite, State.io_ready h, hc]
    exact congrArg _ (State.doWrite_begins hn hv tag)
  case writeZeroes =>
    intro s tag e f x h hc hn hr
    show execWriteZeroes tag s = _
    rw [execWriteZeroes, State.io_ready h, hc]
    show Host.Outcome.next (s.onNs tag e f.nsid .writes _) = _
    rw [State.onNs_ready hn, rangeIn_iff.mpr hr]
    rfl
  case dsmAd =>
    intro s tag e nsid rs x h hc hn hp hr
    rw [exec_datasetManagement_doDsm h hc, State.doDsm_ad hn hp hr]
  case dsmNoAd =>
    intro s tag e nsid rs x h hc hn hp
    rw [exec_datasetManagement_doDsm h hc, State.doDsm_noAd hn hp]
  case orderedDsm =>
    intro s tag e nsid rs x h hc hn hp hr
    show execOrderedDatasetManagement tag s = _
    rw [execOrderedDatasetManagement, State.io_ready h, hc]
    exact congrArg _ (State.doDsm_ad hn hp hr tag)
  case flush =>
    intro s tag e nsid x h hc hall hn
    show execFlush tag s = _
    rw [execFlush, State.io_ready h, hc]
    show Host.Outcome.next (if nsid.toNat = nsidAll then _ else s.onNs tag e nsid .writes _) = _
    rw [if_neg hall, State.onNs_ready hn]

/-! ## The DMA engines (01 R32; 04 R103 to R137) -/

/-- A listed context that waits for no token and holds an engine may run any chain. -/
theorem State.mayRun_listed {s : State} {n : Nat} {c : CtxS} {chain : List DmaDesc} (hl : (sget s.land.ctxs n).isSome = true)
    (hc : s.ctxFor n chain = c) (hf : c.fence = false) (he : c.engine.isSome = true) : s.land.mayRun n chain = true := by
  obtain ⟨d, hd⟩ := Option.isSome_iff_exists.mp hl
  subst hc
  simp only [State.ctxFor, hd] at hf he
  simp only [LandS.mayRun, hd, hf, he]
  rfl

/-- A chain that firmware starts in a context that is not listed runs on a free engine of its first descriptor's kind (log entry 98). -/
theorem State.ctxFor_unlisted {s : State} {n : Nat} (hl : sget s.land.ctxs n = none) (chain : List DmaDesc) :
    s.ctxFor n chain =
      { tag := chainOwner chain, fence := false, engine := s.land.freeEngine (!chainReads chain), writes := !chainReads chain,
        forward := !s.retries } := by
  rw [State.ctxFor, hl]

/-- A chain that firmware starts in a free context may run when an engine of its kind is free. -/
theorem LandS.mayRun_unlisted {l : LandS} {n : Nat} {chain : List DmaDesc} (hl : sget l.ctxs n = none) (hne : chain ≠ [])
    (he : (l.freeEngine (!chainReads chain)).isSome = true) : l.mayRun n chain = true := by
  simp [LandS.mayRun, hl, hne, he]

/-- A chain that ends at a bad descriptor ends its context with an error record (04 R105). -/
theorem exec_dmaContextComplete_bad {s t : State} {ctx : Fin 256} {c : CtxS} {chain : List DmaDesc} {parity : ParityEvent}
    {d : DmaDesc} (hfw : s.fwRuns = true) (hc : s.ctxFor ctx.val chain = c) (hmay : s.land.mayRun ctx.val chain = true)
    (hof : chainOf ctx.val chain = true) (hp : parity ≠ .contextStore)
    (hrun : runChain (!c.writes) c.forward chain (s.readErrors parity) = (t, .bad d)) :
    exec (.dmaContextComplete ctx chain parity) s = .next (t.descError ctx.val c.tag) := by
  show execDmaContextComplete ctx chain parity s = _
  simp [execDmaContextComplete, hc, hfw, hmay, hof, hp, hrun]

/-- A chain that runs to its last descriptor ends its context, unless the parity error has ended a listed one already. -/
theorem exec_dmaContextComplete_ran {s t : State} {ctx : Fin 256} {c : CtxS} {chain : List DmaDesc} {parity : ParityEvent}
    {fence notify : Bool} (hfw : s.fwRuns = true) (hc : s.ctxFor ctx.val chain = c) (hmay : s.land.mayRun ctx.val chain = true)
    (hof : chainOf ctx.val chain = true) (hp : parity ≠ .contextStore)
    (hrun : runChain (!c.writes) c.forward chain (s.readErrors parity) = (t, .ran fence notify))
    (hkept : (sget s.land.ctxs ctx.val).isSome = true → (sget (t.parity ctx.val c.tag parity).land.ctxs ctx.val).isSome = true) :
    exec (.dmaContextComplete ctx chain parity) s = .next ((t.parity ctx.val c.tag parity).chainEnds ctx.val c.tag c.engine
      (fence || ((sget s.land.ctxs ctx.val).isSome && s.fenced c)) notify c.forward) := by
  have hends : ((sget (t.parity ctx.val c.tag parity).land.ctxs ctx.val).isNone && (sget s.land.ctxs ctx.val).isSome) = false := by
    cases hl : (sget s.land.ctxs ctx.val).isSome with
    | false => exact Bool.and_false _
    | true => rw [Option.isNone_eq_false_iff.mpr (hkept hl), Bool.false_and]
  show execDmaContextComplete ctx chain parity s = _
  simp only [execDmaContextComplete, hc, hfw, hmay, hof, beq_false_of_ne hp, hrun, hends, Bool.not_true, Bool.false_and,
    Bool.or_self, Bool.false_eq_true, if_false]

/-- A failed context store ends a listed context, whatever its chain. -/
theorem exec_dmaContextComplete_contextStore {s : State} {ctx : Fin 256} {c : CtxS} {chain : List DmaDesc}
    (hfw : s.fwRuns = true) (hl : (sget s.land.ctxs ctx.val).isSome = true) (hc : s.ctxFor ctx.val chain = c) :
    exec (.dmaContextComplete ctx chain .contextStore) s = .next (s.contextParity ctx.val c.tag) := by
  show execDmaContextComplete ctx chain .contextStore s = _
  simp [execDmaContextComplete, hc, hfw, hl]

/-! ### Ordering tokens (04 R119; 11 R346) -/

/-- The token of one source waits for that source alone. -/
@[simp] theorem State.tokenSources_source (s : State) (src : DramSource) : s.tokenSources (.source src) = [src] := rfl

/-- A fenced context whose token is answered reports and ends. -/
theorem State.tokenAt_fenced {s : State} {n : Nat} {c : CtxS} (hc : sget s.land.ctxs n = some c) (hf : c.fence = true) :
    s.tokenAt n = (s.reportDone n c.notify).ctxDone n := by
  rw [State.tokenAt, hc]
  exact if_pos hf

/-- A token is not answered while a source still has writes that are held, or while a dump overtakes it. -/
theorem exec_orderingToken_held {s : State} {k : TokenFor} (h : (s.tokenSources k).any s.writesHeld = true ∨ s.plp.dumping = true) :
    exec (.orderingToken k) s = .next s :=
  congrArg _ (if_pos (Bool.or_eq_true_iff.mpr h))

/-- A token whose sources have no held writes is answered. -/
theorem tokenSources_answered {s : State} {k : TokenFor} (hw : (s.tokenSources k).any s.writesHeld = false)
    (hd : s.plp.dumping = false) : ¬ ((s.tokenSources k).any s.writesHeld || s.plp.dumping) = true := by
  simp only [hw, hd, Bool.or_self, Bool.false_eq_true, not_false_iff]

/-- Settles O27: a context that may run ends as its chain does; the other rows take the branch that their premises name. -/
theorem dataMovementDoes : Obligations.DataMovementDoes := by
  refine ⟨?ran, ?started, ?bad, ?contextStore, ?tokenHeld, ?tokenContext, ?tokenWriteData, ?tokenSource, ?cordsLease, ?cordsTag,
    ?gather, ?poisoned, ?timeout⟩
  case ran =>
    intro s ctx c chain parity t fence notify hfw hl hc hf he hof hp hrun hkept
    rw [exec_dmaContextComplete_ran hfw hc (State.mayRun_listed hl hc hf he) hof hp hrun (fun _ => hkept), hl, Bool.true_and]
  case started =>
    intro s ctx chain parity t fence notify hfw hl hne he hof hp hrun
    have hunlisted : ¬ (sget s.land.ctxs ctx.val).isSome = true := by simp [hl]
    rw [exec_dmaContextComplete_ran hfw (State.ctxFor_unlisted hl chain) (LandS.mayRun_unlisted hl hne he) hof hp
      (by rw [Bool.not_not]; exact hrun) (fun h => absurd h hunlisted), hl, Option.isSome_none, Bool.false_and, Bool.or_false]
  case bad =>
    intro s ctx c chain parity t d hfw hl hc hf he hof hp hrun
    exact exec_dmaContextComplete_bad hfw hc (State.mayRun_listed hl hc hf he) hof hp hrun
  case contextStore => exact fun _ _ _ _ hfw hl hc => exec_dmaContextComplete_contextStore hfw hl hc
  case tokenHeld => exact fun _ _ h => exec_orderingToken_held h
  case tokenContext =>
    intro s ctx c hw hd hc hf
    exact congrArg _ ((if_neg (tokenSources_answered hw hd)).trans (State.tokenAt_fenced hc hf))
  case tokenWriteData => exact fun _ _ hw hd => congrArg _ (if_neg (tokenSources_answered hw hd))
  case tokenSource =>
    intro s src hw hd
    exact congrArg _ (if_neg (tokenSources_answered (by simp [hw]) hd))
  case cordsLease =>
    intro s r own lpn hn hu
    show execCordGrant s = _
    simp only [execCordGrant, hn, hu]
  case cordsTag =>
    intro s r own k hn hu
    show execCordGrant s = _
    simp only [execCordGrant, hn, hu]
  case gather =>
    intro s tag e f g x htag hc hg hx hready
    show execGatherWindow tag s = _
    simp only [execGatherWindow, htag, hc, hg, hx, hready, if_true]
  case poisoned => exact fun _ _ => rfl
  case timeout => exact fun _ _ => rfl

/-! ## Leaf misses and leases (01 R21, R22; 05 R167 to R171) -/

/-- A fetched copy of a leased page that is not cached is cached when it passes every check (05 R169). -/
theorem State.fetchDone_accepted {s : State} {lpn : Nat} {g : LeafPage} {b : Block} (hg : sget s.map.pages lpn = some g)
    (hl : g.leased = true) (hn : g.cached = false) (ha : s.map.accepts lpn g b = true) (p : Port) :
    s.fetchDone p lpn (some b) = s.fetchOk p lpn := by
  simp [State.fetchDone, hg, hl, hn, ha]

/-- A fetch that brings no copy, or one that fails a check of 05 R169, is discarded. -/
theorem State.fetchDone_discarded {s : State} {lpn : Nat} {g : LeafPage} {r : Option Block} (hg : sget s.map.pages lpn = some g)
    (hl : g.leased = true) (hn : g.cached = false) (ha : ∀ b, r = some b → s.map.accepts lpn g b = false) (p : Port) :
    s.fetchDone p lpn r = s.discardLease p lpn := by
  cases r with
  | none => simp [State.fetchDone, hg, hl, hn]
  | some b => simp [State.fetchDone, hg, hl, hn, ha b rfl]

/-- A fetch of a page that is leased no longer, or cached already, is stale. -/
theorem State.fetchDone_stale {s : State} {lpn : Nat} {g : LeafPage} (hg : sget s.map.pages lpn = some g)
    (h : g.leased = false ∨ g.cached = true) (p : Port) (r : Option Block) : s.fetchDone p lpn r = s.fetchStale p lpn := by
  rw [State.fetchDone, hg]
  exact if_pos (by simpa using h)

/-- A fetch of the lease ends with what its reply asks for, then the lease ends if it waited for this access. -/
theorem exec_leaseFetchDone_fetchDone {s : State} {lpn : Nat} {p : Port} (hr : s.groveRestarting (groveOf lpn) = false)
    (hp : s.nvm.fetcher lpn = some p) (r : Option Block) :
    exec (.leaseFetchDone lpn r) s = .next ((s.fetchDone p lpn r).leaseOver p) := by
  show execLeaseFetchDone lpn r s = _
  simp [execLeaseFetchDone, hr, hp]

/-- Settles O28: each row takes the branch that its premises name; a fetch goes by its reply. -/
theorem leafAndLeaseRowsDo : Obligations.LeafAndLeaseRowsDo := by
  refine ⟨?miss, ?writeBack, ?fetchAccepted, ?fetchDiscarded, ?fetchStale, ?revoke, ?restarting⟩
  case miss =>
    intro s dgn lpn p g hpage hg hfw hcached hserved hr
    show execLeafMiss dgn p s = _
    simp [execLeafMiss, hpage, hg, hfw, hcached, hserved, hr]
  case writeBack =>
    intro s lpn p w hr hp hw hh
    show execLeaseWriteBackDone lpn s = _
    simp [execLeaseWriteBackDone, hr, hp, hw, hh]
  case fetchAccepted =>
    intro s lpn p g b hr hp hg hl hn ha
    rw [exec_leaseFetchDone_fetchDone hr hp, State.fetchDone_accepted hg hl hn ha]
  case fetchDiscarded =>
    intro s lpn p g r hr hp hg hl hn ha
    rw [exec_leaseFetchDone_fetchDone hr hp, State.fetchDone_discarded hg hl hn ha]
  case fetchStale =>
    intro s lpn p g r hr hp hg h
    rw [exec_leaseFetchDone_fetchDone hr hp, State.fetchDone_stale hg h]
  case revoke =>
    intro s p hs hw hf
    show execLeaseRevokeDone p s = _
    simp [execLeaseRevokeDone, hs, hw, hf]
  case restarting => exact fun _ _ _ hr => ⟨congrArg _ (if_pos hr), congrArg _ (if_pos hr)⟩

/-! ## Operations on the dies (07 R215, R217, R229; 08 R251 to R275) -/

/-- A poll of a die that is in use on an active channel finds it open to commands. -/
theorem FlashS.polls {f : FlashS} {ch k : Nat} (ha : (f.chan ch).state = .active) (hu : (f.die k).used = true)
    (hr : (f.die k).retraining = false) : ((f.chan ch).state == .active && (f.die k).used && !(f.die k).retraining) = true := by
  simp only [ha, hu, hr, beq_self_eq_true, Bool.and_self, Bool.not_false]

/-- The bus moves the codeword or the plane page of the operation that it is granted to, with the die selected. -/
theorem exec_busArbitrationPoint_granted {s : State} {ch : Chan} {i : Nat} {o : DieOp} (ha : (s.flash.chan ch.val).state = .active)
    (hn : s.nextTransfer ch.val = some i) (ho : s.flash.op i = some o) (dqsLoss : Bool) :
    exec (.busArbitrationPoint ch dqsLoss) s = .next
      (if o.isRead then State.moveCodeword { s with flash := s.flash.select ch.val o.die.val } ch i o dqsLoss
       else State.movePage { s with flash := s.flash.select ch.val o.die.val } ch i o) := by
  show execBusArbitrationPoint ch dqsLoss s = _
  simp [execBusArbitrationPoint, ha, hn, ho]

/-- A codeword that is not the read's last leaves the read on the bus, one further. -/
theorem State.moveCodeword_further {o : DieOp} (h : o.moved + 1 < o.slots.length) (s : State) (ch : Chan) (i : Nat) :
    s.moveCodeword ch i o false = { s with flash := s.flash.modOp i (fun x => { x with moved := x.moved + 1 }) } :=
  if_pos h

/-- The read's last codeword takes it off the bus. -/
theorem State.moveCodeword_last {o : DieOp} (h : o.slots.length ≤ o.moved + 1) (s : State) (ch : Chan) (i : Nat) :
    s.moveCodeword ch i o false = State.readMoved { s with flash := s.flash.offBus ch i } i o :=
  if_neg (Nat.not_lt.mpr h)

/-- An operation that is issued, reachable and not held enters its die's queue. -/
theorem exec_dieQueueArrival_enqueues {s : State} {i : Nat} {o : DieOp} (ho : s.flash.op i = some o) (hst : o.stage = .issued)
    (hh : s.opHeld o = false) (hr : (o.isRead && s.unreachable o) = false) :
    exec (.dieQueueArrival i) s = .next (State.nextAction { s with flash := s.flash.enqueue i } o.key) := by
  show execDieQueueArrival i s = _
  simp only [execDieQueueArrival, ho, hst, hh, hr, bne_self_eq_false, Bool.or_self, Bool.false_eq_true, if_false]

/-- The first operation past its limit, on a die that a reset leaves busy, is an upset and fails the die. -/
theorem exec_readyBusyTimeout_staysBusy {s : State} {ch : Chan} {die : DieIx} {i : Nat} {o : DieOp} {rest : List (Nat × DieOp)}
    (hlate : s.flash.ops.filter (fun e => e.2.key == dieKey ch.val die.val && e.2.stage == .onDie && !e.2.suspended &&
      !(s.flash.die (dieKey ch.val die.val)).retraining && decide (busyLimit e.2 ≤ e.2.ran + (s.now - e.2.since))) = (i, o) :: rest)
    (hh : s.resetHeld (dieKey ch.val die.val) i false = false) :
    exec (.readyBusyTimeout ch die false) s = .next ((State.noteUpset
      { s with flash := s.flash.resetTarget (dieKey ch.val die.val) } ch.val die.val 2).failDie ch.val die.val) := by
  show execReadyBusyTimeout ch die false s = _
  simp only [execReadyBusyTimeout, hlate, hh, Bool.false_eq_true, if_false, Bool.not_false, if_true]

/-- A codeword that the hard decoder decodes with few errors reaches its consumer, and asks for no relocation. -/
theorem exec_hardDecodeDone_decoded {s : State} {i slot n : Nat} {o : DieOp} (ho : s.flash.op i = some o) (hst : o.stage = .decoding)
    (hleft : o.left.contains slot = true) (hh : s.opHeld o = false) (hn : n < 32)
    (hcap : 100 * n ≤ s.par P.MED_REWRITE_THRESHOLD_PCT * s.flash.capability o.rb) (lane : Nat) :
    exec (.hardDecodeDone i slot (.decoded n lane)) s = .next ((s.track o).recovered i slot) := by
  have hlow : decide (s.par P.MED_REWRITE_THRESHOLD_PCT * s.flash.capability o.rb < 100 * n) = false :=
    decide_eq_false (Nat.not_lt.mpr hcap)
  show execHardDecodeDone i slot (.decoded n lane) s = _
  simp only [execHardDecodeDone, ho, hst, hleft, hh, hlow, Nat.not_le.mpr hn, bne_self_eq_false, Bool.not_true, Bool.or_self,
    Bool.false_eq_true, decide_false, Bool.false_and, if_false]

/-- A codeword that the hard decoder gives up on climbs the ladder. -/
theorem exec_hardDecodeDone_failed {s : State} {i slot : Nat} {o : DieOp} (ho : s.flash.op i = some o) (hst : o.stage = .decoding)
    (hleft : o.left.contains slot = true) (hh : s.opHeld o = false) :
    exec (.hardDecodeDone i slot .failed) s = .next (s.climb i slot) := by
  show execHardDecodeDone i slot .failed s = _
  simp only [execHardDecodeDone, ho, hst, hleft, hh, bne_self_eq_false, Bool.not_true, Bool.or_self, Bool.false_eq_true, if_false]

/-- A codeword that the soft decoder decodes leaves it, reaches its consumer, and makes room for the next. -/
theorem exec_softDecodeDone_decoded {s : State} {i slot : Nat} {o : DieOp} (hb : s.flash.softBusy.contains (i, slot) = true)
    (ho : s.flash.op i = some o) (hh : s.opHeld o = false) {t : State}
    (ht : (State.track { s with flash := { s.flash with softBusy := s.flash.softBusy.filter (· != (i, slot)) } } o).recovered i slot = t) :
    exec (.softDecodeDone i slot true) s = .next { t with flash := feedSoft 16 t.flash } := by
  show execSoftDecodeDone i slot true s = _
  simp only [execSoftDecodeDone, hb, ho, hh, ht, Bool.not_true, Bool.false_eq_true, if_false, if_true]

/-- A page of a set's member that was programmed in the single-level mode is the die's most recent one and verified. -/
theorem exec_programDone_slcVerified {s : State} {i n : Nat} {o : DieOp} (ho : s.flash.op i = some o) (hk : o.kind = .progSlc)
    (hst : o.stage = .ended) (hh : s.opHeld o = false) (hw : o.why = .program n) :
    exec (.programDone i true) s = .next ((State.verified { (s.dropOp i) with
      flash := (s.dropOp i).flash.modDie o.key (fun d => { d with recent := d.recent ++ [(o.block, o.page)] }) } n
        (o.ch.val % 8)).nextAction o.key) := by
  have hp : o.isProgram = true := by rw [DieOp.isProgram, hk]; rfl
  show execProgramDone i true s = _
  simp only [execProgramDone, ho, hp, hst, hh, hw, hk, bne_self_eq_false, beq_self_eq_true, Bool.not_true, Bool.or_self,
    Bool.false_eq_true, if_false, if_true]

/-- An erase that passes on a member that is there leaves the media as it was. -/
theorem exec_eraseDone_passes {s : State} {i : Nat} {o : DieOp} (ho : s.flash.op i = some o) (hk : o.kind = .erase)
    (hst : o.stage = .ended) (hh : s.opHeld o = false) (hm : s.memberPresent o.rb (o.ch.val % 8) = true) :
    exec (.eraseDone i true) s = .next (((s.dropOp i).eraseCheck o.rb).nextAction o.key) := by
  show execEraseDone i true s = _
  simp only [execEraseDone, ho, hk, hst, hh, hm, bne_self_eq_false, Bool.or_self, Bool.false_eq_true, if_false, if_true]

/-- An erase that fails notes the member among the failed ones. -/
theorem exec_eraseDone_fails {s : State} {i : Nat} {o : DieOp} (ho : s.flash.op i = some o) (hk : o.kind = .erase)
    (hst : o.stage = .ended) (hh : s.opHeld o = false) :
    exec (.eraseDone i false) s = .next ((State.eraseCheck (State.dropOp
      { s with media := { s.media with eraseFails := addOnce (o.ch.val, o.rb) s.media.eraseFails } } i) o.rb).nextAction o.key) := by
  show execEraseDone i false s = _
  simp only [execEraseDone, ho, hk, hst, hh, bne_self_eq_false, Bool.or_self, Bool.false_eq_true, if_false]

/-- Settles O33: one lemma says what each die event does, and the bus moves a codeword or a page by what it is granted to. -/
theorem dieRowsDo : Obligations.DieRowsDo := by
  refine ⟨?queue, ?poll, ?timeout, ?codeword, ?lastCodeword, ?page, ?decoded, ?decodeFails, ?softDecoded, ?program, ?erase, ?eraseFails⟩
  case queue => exact fun _ _ _ ho hst hh hr => exec_dieQueueArrival_enqueues ho hst hh hr
  case poll =>
    intro s t u ch die rb ht hu ha hused hr
    subst ht hu
    exact ⟨congrArg _ (if_pos (FlashS.polls ha hused hr)), congrArg _ (if_pos (FlashS.polls ha hused hr))⟩
  case timeout => exact fun _ _ _ _ _ _ hlate hh => exec_readyBusyTimeout_staysBusy hlate hh
  case codeword =>
    intro s ch i o ha hn ho hr hm
    rw [exec_busArbitrationPoint_granted ha hn ho, if_pos hr, State.moveCodeword_further hm]
  case lastCodeword =>
    intro s ch i o ha hn ho hr hm
    rw [exec_busArbitrationPoint_granted ha hn ho, if_pos hr, State.moveCodeword_last hm]
  case page =>
    intro s ch i o dqsLoss ha hn ho hr
    rw [exec_busArbitrationPoint_granted ha hn ho, if_neg (Bool.not_eq_true _ ▸ hr)]
  case decoded => exact fun _ _ _ _ lane _ ho hst hleft hh hn hcap => exec_hardDecodeDone_decoded ho hst hleft hh hn hcap lane
  case decodeFails => exact fun _ _ _ _ ho hst hleft hh => exec_hardDecodeDone_failed ho hst hleft hh
  case softDecoded => exact fun _ _ _ _ _ hb ho hh ht => exec_softDecodeDone_decoded hb ho hh ht
  case program => exact fun _ _ _ _ ho hk hst hh hw => exec_programDone_slcVerified ho hk hst hh hw
  case erase => exact fun _ _ _ ho hk hst hh hm => exec_eraseDone_passes ho hk hst hh hm
  case eraseFails => exact fun _ _ _ ho hk hst hh => exec_eraseDone_fails ho hk hst hh

end Sys2Proof.Machine

/-! # The host ports: events, resets, admin commands, reservations, SPDM and the management bus (02) -/

namespace Sys2Proof.Machine

/-! ## Port resets (R44, R45) -/

/-- Two host units list the same functions and the same ports. -/
def HostS.samePorts (h g : HostS) : Prop := h.funcs = g.funcs ∧ h.port0 = g.port0 ∧ h.port1 = g.port1

theorem HostS.samePorts.rfl {h : HostS} : h.samePorts h := ⟨Eq.refl _, Eq.refl _, Eq.refl _⟩

theorem HostS.samePorts.trans {h g k : HostS} (hg : h.samePorts g) (gk : g.samePorts k) : h.samePorts k :=
  ⟨hg.1.trans gk.1, hg.2.1.trans gk.2.1, hg.2.2.trans gk.2.2⟩

/-- A function is the same where the functions listed are. -/
theorem HostS.samePorts.func {h g : HostS} (hg : h.samePorts g) (c : Nat) : h.func c = g.func c := by
  rw [HostS.func, HostS.func, hg.1]

/-- A port is the same where both ports are. -/
theorem HostS.samePorts.port {h g : HostS} (hg : h.samePorts g) (p : Port) : h.port p = g.port p := by
  rw [HostS.port, HostS.port, hg.2.1, hg.2.2]

/-- Accepting entries writes tags and queues alone. -/
theorem acceptLoop_samePorts (n : Nat) (s : State) (c : Cntl) (q : Nat) : (acceptLoop n s c q).host.samePorts s.host := by
  induction n generalizing s with
  | zero => exact .rfl
  | succ n ih =>
    rw [acceptLoop]
    split
    · exact .rfl
    · split
      · exact .rfl
      · split
        · exact .rfl
        · split
          · exact .rfl
          · refine (ih _).trans ?_
            simp only [fact @State.flushBegins_keep]
            exact .rfl

/-- The turns of a function's queues accept entries and do nothing else. -/
theorem fetchTurns_samePorts (n : Nat) (s : State) (c : Cntl) (qs : List Nat) : (fetchTurns n s c qs).host.samePorts s.host := by
  induction n generalizing s qs with
  | zero => exact .rfl
  | succ n ih =>
    cases qs with
    | nil => exact .rfl
    | cons q rest =>
      rw [fetchTurns]
      split
      · exact ih s rest
      · dsimp only
        split
        all_goals exact (ih _ _).trans (acceptLoop_samePorts ..)

theorem State.fetchQueue_samePorts (s : State) (c : Cntl) (q : Nat) : (s.fetchQueue c q).host.samePorts s.host := by
  rw [State.fetchQueue]
  split
  · exact fetchTurns_samePorts ..
  · exact .rfl

/-- Fetching again changes functions as far as their Keep Alive timers run again. -/
theorem State.resumeFetch_samePorts (s : State) : s.resumeFetch.host.samePorts (s.host.holdTimers false s.now) := by
  rw [State.resumeFetch]
  refine List.foldlRecOn _ _ (motive := fun a : State => a.host.samePorts (s.host.holdTimers false s.now)) .rfl ?_
  intro a ha k _
  split
  · exact (State.fetchQueue_samePorts ..).trans ha
  · exact ha

/-- A read of a table whose every value was changed. -/
theorem sget_smap {α : Type} (f : Nat → α → α) (m : Sparse α) (k : Nat) : sget (smap f m) k = (sget m k).map (f k) := by
  induction m with
  | nil => rfl
  | cons e m ih =>
    rw [smap, List.map_cons, sget_cons, sget_cons, ← smap, ih]
    split
    · subst k; rfl
    · rfl

/-- What a read gives is listed. -/
theorem mem_of_sget {α : Type} {m : Sparse α} {k : Nat} {v : α} (h : sget m k = some v) : (k, v) ∈ m := by
  induction m with
  | nil => cases h
  | cons e m ih =>
    rw [sget_cons] at h
    split at h
    · cases h; subst k; exact List.mem_cons_self
    · exact List.mem_cons_of_mem _ (ih h)

/-- Timers that run again leave a cleared function cleared: its own is not held. -/
theorem HostS.func_holdTimers_cleared {h : HostS} {c : Nat} (hc : h.func c = FuncS.cleared) (now : Nat) :
    (h.holdTimers false now).func c = FuncS.cleared := by
  rw [HostS.func] at hc
  rw [HostS.func, HostS.holdTimers, sget_smap]
  cases hf : sget h.funcs c with
  | none => rfl
  | some f =>
    rw [hf] at hc
    cases hc
    rfl

theorem HostS.port_holdTimers (h : HostS) (held : Bool) (now : Nat) (p : Port) : (h.holdTimers held now).port p = h.port p := rfl

/-- The functions of a port are as after their reset, and VF Enable is clear. -/
def HostS.portCleared (h : HostS) (p : Port) : Prop :=
  (∀ c : Cntl, c.port = p → h.func c.val = FuncS.cleared) ∧ (h.port p).vfEnable = false

theorem State.resumeFetch_portCleared {s : State} {p : Port} (h : s.host.portCleared p) : s.resumeFetch.host.portCleared p := by
  refine ⟨fun c hc => ?_, ?_⟩
  · rw [s.resumeFetch_samePorts.func, HostS.func_holdTimers_cleared (h.1 c hc)]
  · rw [s.resumeFetch_samePorts.port, HostS.port_holdTimers, h.2]

theorem State.leaveIdle_portCleared {s : State} {p : Port} (h : s.host.portCleared p) : s.leaveIdle.host.portCleared p := by
  rw [State.leaveIdle]
  split
  · exact State.resumeFetch_portCleared h
  · exact h

/-- A new choice of the power state keeps a port cleared. -/
theorem State.recheckPower_portCleared {s : State} {p : Port} (h : s.host.portCleared p) : s.recheckPower.host.portCleared p := by
  rw [State.recheckPower]
  split
  · exact h
  · dsimp only
    split
    · exact State.leaveIdle_portCleared h
    · split <;> exact h

/-- A function that a reset concerns is cleared. -/
theorem State.func_resetFuncs {s : State} {p : Cntl → Bool} {c : Cntl} (hp : p c = true) :
    (s.resetFuncs p false).host.func c.val = FuncS.cleared := by
  rw [HostS.func]
  cases hf : sget (s.resetFuncs p false).host.funcs c.val with
  | none => rfl
  | some f =>
    obtain ⟨hmem, -⟩ := List.mem_filter.mp (mem_of_sget hf)
    obtain ⟨e, -, he⟩ := List.mem_map.mp hmem
    have hkey : e.1 = c.val := by
      have := congrArg Prod.fst he
      split at this
      · split at this <;> exact this
      · exact this
    rw [dif_pos (hkey ▸ c.isLt), if_pos (by simpa only [hkey] using hp)] at he
    exact (congrArg Prod.snd he).symm

/-- Settles O6: the reset clears the functions, the port is written with VF Enable clear, and the new power state keeps both. -/
theorem portResetClears : Obligations.PortResetClears := by
  intro s p cause f c hc
  suffices h : (s.portReset p cause f).host.portCleared p from ⟨h.1 c hc, h.2⟩
  refine State.recheckPower_portCleared ⟨fun d hd => ?_, ?_⟩
  · have hon : onPort p d = true := beq_iff_eq.mpr hd
    rw [HostS.func, HostS_setPort_funcs, ← HostS.func]
    exact State.func_resetFuncs hon
  · rw [HostS_port_setPort]

end Sys2Proof.Machine

namespace Sys2Proof.Machine

/-! ## Port events and controllers (R44 to R46; 03 R99; 12 R365; 13 R386) -/

/-- Whether training may run does not turn on the host unit. -/
theorem State.mayTrain_host (s : State) (h : HostS) : ({ s with host := h } : State).mayTrain = s.mayTrain := rfl

/-- Training that ends at eight lanes or more records no narrow link. -/
theorem exec_linkUp_wide {s : State} {p : Port} {width : Nat} {rate : LinkRate} (ht : (s.host.port p).training = true)
    (hp : (s.host.port p).perst = false) (hw : 8 ≤ min width (s.portWidth p)) :
    exec (.linkUp p width rate) s = .next (State.recheckPower { s with host := { (s.host.setPort p { (s.host.port p) with
      linkUp := true, training := false, width := min width (s.portWidth p),
      rate := min rate.gts (s.parI P.HST_MAX_RATE_GTS p.val), l1 := false,
      flit := linkFlit (min rate.gts (s.parI P.HST_MAX_RATE_GTS p.val)) rate.flitPartner }) with lastTlp := s.now } }) := by
  show execLinkUp p width rate s = _
  simp only [execLinkUp, ht, hp, Nat.not_lt.mpr hw, Bool.not_true, Bool.or_self, Bool.false_eq_true, if_false]

/-- Settles O5, event by event: the port's state, which each premise names, picks the branch that acts. -/
theorem linkEventsDo : Obligations.LinkEventsDo := by
  refine ⟨?perstAssert, ?hotReset, ?dataLinkDown, ?perstDeassert, ?l1Exit, ?linkUp, ?configuration⟩
  case perstAssert => intro s p; rfl
  case hotReset => intro s p hup; exact congrArg _ (if_pos hup)
  case dataLinkDown => intro s p hup; exact congrArg _ (if_pos hup)
  case perstDeassert =>
    intro s p w hp ht
    show execPerstDeassert p w s = _
    simp [execPerstDeassert, State.mayTrain_host, hp, ht]
  case l1Exit =>
    intro s p w hl
    show execLinkL1Exit p w s = _
    simp [execLinkL1Exit, hl]
  case linkUp => exact fun _ _ _ _ ht hp hw => exec_linkUp_wide ht hp hw
  case configuration => intro s c hc; exact congrArg _ (if_pos hc)

/-- Settles O7, clause by clause: the function is there, and its being a PF or a VF and its enable bit pick the branch; the timeout is 03
R97's (Table 3-4), its length feature 0Fh's (Table 2-9). -/
theorem controllerResetsDo : Obligations.ControllerResetsDo := by
  refine ⟨?resetPf, ?resetVf, ?enable, ?disableVf, ?disablePf, ?keepAlive⟩
  case resetPf =>
    intro s c hc hpf
    show execFunctionLevelReset c s = _
    simp [execFunctionLevelReset, hc, hpf]
  case resetVf =>
    intro s c hc hvf
    show execFunctionLevelReset c s = _
    simp [execFunctionLevelReset, hc, hvf]
  case enable =>
    intro s c asqs acqs hc hcfg hen hvf
    show execCcEnSet c asqs acqs s = _
    simp [execCcEnSet, hc, hcfg, hen, hvf]
  case disableVf =>
    intro s c hc hen hvf
    show execCcEnClear c s = _
    simp [execCcEnClear, hc, hen, hvf]
  case disablePf =>
    intro s c hc hen hpf
    show execCcEnClear c s = _
    simp [execCcEnClear, hc, hen, hpf]
  case keepAlive =>
    intro s c hen hrdy hheld hkato hlate
    show execKeepAliveTimeout c s = _
    simp only [execKeepAliveTimeout, hen, hrdy, hheld, bne_iff_ne.mpr hkato, hlate, decide_true, Bool.not_false, Bool.and_self, if_true]

end Sys2Proof.Machine

namespace Sys2Proof.Machine

/-! ## Queues (R42; 03 R74) -/

/-- A completion queue that is in order is created. -/
theorem State.cqVerdict_none {s : State} {c : Cntl} {qid n iv : Nat} (h0 : qid ≠ 0) (hq : qid ≤ s.queueAlloc c)
    (hfree : sget s.host.cqs (qKey c.val qid) = none) (hn : 1 ≤ n) (hn' : n ≤ 4095) (hv : iv < vectors c) :
    s.cqVerdict c qid n iv true = none := by
  simp [State.cqVerdict, qsizeOk, h0, Nat.not_lt.mpr hq, hfree, hn, hn', Nat.not_le.mpr hv]

/-- A submission queue that is in order, on a completion queue that is there, is created. -/
theorem State.sqVerdict_none {s : State} {c : Cntl} {qid n cqid : Nat} (h0 : qid ≠ 0) (hq : qid ≤ s.queueAlloc c)
    (hfree : sget s.host.sqs (qKey c.val qid) = none) (hc0 : cqid ≠ 0) (hcq : cqid ≤ s.queueAlloc c)
    (hthere : (sget s.host.cqs (qKey c.val cqid)).isSome = true) (hn : 1 ≤ n) (hn' : n ≤ 4095) :
    s.sqVerdict c qid n cqid true = none := by
  have hcqs : (sget s.host.cqs (qKey c.val cqid)).isNone = false := Option.isNone_eq_false_iff.mpr hthere
  simp [State.sqVerdict, qsizeOk, h0, Nat.not_lt.mpr hq, hfree, hc0, Nat.not_lt.mpr hcq, hcqs, hn, hn']

/-- A submission queue with no command goes at once, and with it the entries that have not been fetched. -/
theorem exec_deleteIoSq_idle {s : State} {tag : Nat} {e : TagE} {qid : Nat} (h : s.adminReady tag e) (hc : e.cmd = .deleteIoSq qid)
    (h0 : qid ≠ 0) (hthere : (sget s.host.sqs (qKey e.cntl.val qid)).isSome = true) (hidle : s.host.ofQueue e.cntl qid = []) :
    exec (.deleteIoSq tag) s = .next (State.complete { s with
      host := { s.host with
        sqs := sdel (qKey e.cntl.val qid) (smod (qKey e.cntl.val qid) (fun q => { q with unfetched := [] }) s.host.sqs) } } tag stOk) := by
  have hsq : (sget s.host.sqs (qKey e.cntl.val qid)).isNone = false := Option.isNone_eq_false_iff.mpr hthere
  have hnone (l : Sparse SqS) : ({ s.host with sqs := l } : HostS).ofQueue e.cntl qid = [] := hidle
  show execDeleteIoSq tag s = _
  rw [execDeleteIoSq, State.admin_ready h (by rw [hc]; rfl), hc]
  simp [h0, hsq, hnone]

/-- A completion queue that no submission queue uses goes, once the tags of the entries it holds are freed. -/
theorem exec_deleteIoCq_unused {s : State} {tag : Nat} {e : TagE} {qid : Nat} (h : s.adminReady tag e) (hc : e.cmd = .deleteIoCq qid)
    (h0 : qid ≠ 0) (hthere : (sget s.host.cqs (qKey e.cntl.val qid)).isSome = true)
    (hunused : s.host.sqs.any (fun x => decide (x.1 / 65536 = e.cntl.val) && x.2.cqid == qid) = false) {t : State}
    (ht : (((sget s.host.cqs (qKey e.cntl.val qid)).map (fun q => q.held.map Prod.fst)).getD []).foldl (fun a k => a.freeTag k) s = t) :
    exec (.deleteIoCq tag) s =
      .next (State.complete { t with host := { t.host with cqs := sdel (qKey e.cntl.val qid) t.host.cqs } } tag stOk) := by
  have hcq : (sget s.host.cqs (qKey e.cntl.val qid)).isNone = false := Option.isNone_eq_false_iff.mpr hthere
  show execDeleteIoCq tag s = _
  rw [execDeleteIoCq, State.admin_ready h (by rw [hc]; rfl), hc]
  simp only [decide_eq_false h0, hcq, hunused, ht, Bool.or_self, Bool.false_eq_true, if_false]

/-- Settles O11: the verdict on a queue to create finds nothing, and a queue to delete is there and at rest. -/
theorem queueCommandsDo : Obligations.QueueCommandsDo := by
  refine ⟨?createCq, ?createSq, ?deleteSq, ?deleteCq⟩
  case createCq =>
    intro s tag e qid n iv ien h hc h0 hq hfree hn hn' hv
    show execCreateIoCq tag s = _
    rw [execCreateIoCq, State.admin_ready h (by rw [hc]; rfl), hc]
    simp only [State.cqVerdict_none h0 hq hfree hn hn' hv]
  case createSq =>
    intro s tag e qid n cqid h hc h0 hq hfree hc0 hcq hthere hn hn'
    show execCreateIoSq tag s = _
    rw [execCreateIoSq, State.admin_ready h (by rw [hc]; rfl), hc]
    simp only [State.sqVerdict_none h0 hq hfree hc0 hcq hthere hn hn']
  case deleteSq => exact fun _ _ _ _ h hc h0 hthere hidle => exec_deleteIoSq_idle h hc h0 hthere hidle
  case deleteCq => exact fun _ _ _ _ _ h hc h0 hthere hunused ht => exec_deleteIoCq_unused h hc h0 hthere hunused ht

/-! ## Log pages, Identify, features and windows (R49, R50, R54, R55, R61, R62, R64; 15 R439) -/

/-- Get Log Page of a page without a length fails. -/
theorem exec_getLogPage_invalid {s t : State} {tag : Nat} {e : TagE} {lid : Byte} {off n : Nat} (h : s.adminData tag e)
    (ht : s.adminTaken tag e = t) (hc : e.cmd = .getLogPage lid off n) (hl : logLen e.cntl lid = none) :
    exec (.getLogPage tag) s = .next (t.complete tag stLogPage) := by
  show execGetLogPage tag s = _
  rw [execGetLogPage, State.admin_data h, ht, hc]
  simp only [hl]

/-- A log page other than the Health Report is returned from its offset on, and is then as after its reading. -/
theorem exec_getLogPage_page {s t : State} {tag : Nat} {e : TagE} {lid : Byte} {off n len : Nat} (h : s.adminData tag e)
    (ht : s.adminTaken tag e = t) (hc : e.cmd = .getLogPage lid off n) (hl : logLen e.cntl lid = some len) (hoff : off ≤ len)
    (hlid : lid ≠ 0xC0) :
    exec (.getLogPage tag) s = .next (State.returnData { t with host := t.host.modFunc e.cntl.val (fun f => f.afterLog lid) } tag e
      (min n (len - off)) 0 (.bytes (t.logBytes e.cntl lid off (min n (len - off))))) := by
  show execGetLogPage tag s = _
  rw [execGetLogPage, State.admin_data h, ht, hc]
  simp only [hl, Nat.not_lt.mpr hoff, hlid, if_false]

/-- Page 0 of a PF's Health Report is returned from a new snapshot (15 R439). -/
theorem exec_getLogPage_health {s t : State} {tag : Nat} {e : TagE} {off n : Nat} (h : s.adminData tag e)
    (ht : s.adminTaken tag e = t) (hc : e.cmd = .getLogPage 0xC0 off n) (hpf : e.cntl.isPF = true) (hpage : off < 4096) :
    exec (.getLogPage tag) s = .next ((t.snapshot (pfPath e.cntl)).returnData tag e (min n (36864 - off)) 0
      (.bytes ((t.snapshot (pfPath e.cntl)).mgmt.snapBytes (pfPath e.cntl) off (min n (36864 - off))))) := by
  have hl : logLen e.cntl 0xC0 = some 36864 := if_pos hpf
  have hoff : ¬ 36864 < off := by omega
  show execGetLogPage tag s = _
  rw [execGetLogPage, State.admin_data h, ht, hc]
  simp only [hl, hoff, hpage, if_true, if_false]

/-- A page that is not among those of Table 2-10 has no length, and a VF's Health Report has none. -/
theorem logLen_invalid {c : Cntl} {lid : Byte}
    (h : lid ∉ [0x01, 0x02, 0x03, 0x04, 0x05, 0x80, 0x81, 0xC0] ∨ (lid = 0xC0 ∧ c.isPF = false)) : logLen c lid = none := by
  rcases h with hlid | ⟨rfl, hvf⟩
  · have hne : lid.toNat ∉ [0x01, 0x02, 0x03, 0x04, 0x05, 0x80, 0x81, 0xC0] := by simpa [← BitVec.toNat_inj] using hlid
    unfold logLen
    split
    case h_9 => rfl
    all_goals next heq => rw [heq] at hne; exact hne.elim (by decide)
  · exact if_neg (Bool.eq_false_iff.mp hvf)

/-- Settles O13: an invalid page has no length, and Get Log Page of one fails with its own status. -/
theorem invalidLogPageFails : Obligations.InvalidLogPageFails :=
  fun _ _ _ _ _ _ _ h ht hc hlid => exec_getLogPage_invalid h ht hc (logLen_invalid hlid)

/-- Get Features of a feature other than the timestamp and the host identifier moves no data. -/
theorem adminXfer_getFeatures {fid : Byte} (h0E : fid ≠ 0x0E) (h81 : fid ≠ 0x81) (v nsid : Dword) :
    adminXfer (.getFeatures fid v nsid) = none := by
  rw [adminXfer, if_neg h0E, if_neg h81]

/-- Settles O12: the command runs on the state in which it holds its cords, and what it asks for is there (offsets and what a
reading leaves of a page: log entry 13). -/
theorem informationCommandsAnswer : Obligations.InformationCommandsAnswer := by
  refine ⟨?logPage, ?health, ?identify, ?feature, ?featureData, ?lease, ?stand⟩
  case logPage => exact fun _ _ _ _ _ _ _ _ h ht hc hl hoff hlid => exec_getLogPage_page h ht hc hl hoff hlid
  case health => exact fun _ _ _ _ _ _ h ht hc hpf hpage => exec_getLogPage_health h ht hc hpf hpage
  case identify =>
    intro s t tag e cns nsid l h ht hc hl
    show execIdentify tag s = _
    rw [execIdentify, State.admin_data h, ht, hc]
    simp only [hl, if_true]
  case feature =>
    intro s tag e fid v nsid d h hc h0E h81 hv
    show execGetFeatures tag s = _
    rw [execGetFeatures, State.admin_ready h (by rw [hc, adminXfer_getFeatures h0E h81]; rfl), hc]
    simp only [hv]
  case featureData =>
    intro s t tag e fid v nsid d n w h ht hc hv
    show execGetFeatures tag s = _
    rw [execGetFeatures, State.admin_data h, ht, hc]
    simp only [hv]
  case lease =>
    intro s t tag e h ht hpf hc
    show execMapLeaseStatus tag s = _
    rw [execMapLeaseStatus, State.adminPf_data h hpf, ht, hc]
    exact congrArg _ (if_neg Bool.false_ne_true)
  case stand =>
    intro s t tag e st x h ht hpf hc hx hmine
    show execStandStatus tag s = _
    rw [execStandStatus, State.adminPf_data h hpf, ht, hc]
    simp only [hx, hmine, Bool.not_true, Bool.or_self, Bool.false_eq_true, if_false]

end Sys2Proof.Machine

namespace Sys2Proof.Machine

/-! ## Abort, events and Keep Alive (R51; 03 R78, R98) -/

/-- The command that an Abort names is there, and may be aborted or not. -/
theorem exec_abort_found {s : State} {tag k sq cid : Nat} {e x : TagE} (h : s.adminReady tag e) (hc : e.cmd = .abort sq cid)
    (hn : s.host.abortsBefore e < 8)
    (hx : s.host.tags.find? (fun y => y.2.cntl == e.cntl && y.2.sqid == sq && y.2.cid == cid && y.1 != tag) = some (k, x)) :
    exec (.abort tag) s = .next (if x.abortable (s.host.func e.cntl.val) k then
      (State.abortTag { s with host := s.host.modFunc e.cntl.val (fun f => { f with aers := f.aers.filter (· != k) }) } k x
        ⟨0, 0x07⟩).complete tag stOk 0
    else s.complete tag stOk 1) := by
  show execAbort tag s = _
  rw [execAbort, State.admin_ready h (by rw [hc]; rfl), hc]
  simp only [Nat.not_le.mpr hn, hx, if_false]

/-- Settles O14: which branch an Abort takes turns on the count before it and on the command it names; an Asynchronous Event Request's, on
the events and requests that wait (limits, Dword 0 and the forms of Abort: log entry 13). -/
theorem controlCommandsDo : Obligations.ControlCommandsDo := by
  refine ⟨?tooMany, ?aborted, ?begun, ?notThere, ?event, ?waits, ?tooManyWait, ?keepAlive⟩
  case tooMany =>
    intro s tag sq cid e h hc hn
    show execAbort tag s = _
    rw [execAbort, State.admin_ready h (by rw [hc]; rfl), hc]
    exact congrArg _ (if_pos hn)
  case aborted =>
    intro s tag k sq cid e x h hc hn hx hab
    rw [exec_abort_found h hc hn hx, if_pos hab]
  case begun =>
    intro s tag k sq cid e x h hc hn hx hab
    rw [exec_abort_found h hc hn hx, if_neg (Bool.eq_false_iff.mp hab)]
  case notThere =>
    intro s tag sq cid e h hc hn hx
    show execAbort tag s = _
    rw [execAbort, State.admin_ready h (by rw [hc]; rfl), hc]
    simp only [Nat.not_le.mpr hn, hx, if_false]
  case event =>
    intro s tag e ev rest h hc hev
    show execAsynchronousEventRequest tag s = _
    rw [execAsynchronousEventRequest, State.admin_ready h (by rw [hc]; rfl), hc]
    simp only [hev]
  case waits =>
    intro s tag e h hc hev hn
    show execAsynchronousEventRequest tag s = _
    rw [execAsynchronousEventRequest, State.admin_ready h (by rw [hc]; rfl), hc]
    simp only [hev, Nat.not_le.mpr hn, if_false]
  case tooManyWait =>
    intro s tag e h hc hev hn
    show execAsynchronousEventRequest tag s = _
    rw [execAsynchronousEventRequest, State.admin_ready h (by rw [hc]; rfl), hc]
    simp only [hev, hn, if_true]
  case keepAlive =>
    intro s tag e h hc
    show execKeepAlive tag s = _
    rw [execKeepAlive, State.admin_ready h (by rw [hc]; rfl), hc]

/-! ## Set Features (R42, R54, R66; 03 R91; 13 R380) -/

/-- Set Features of a feature other than the timestamp and the host identifier moves no data. -/
theorem adminXfer_setFeatures {fid : Byte} (h0E : fid ≠ 0x0E) (h81 : fid ≠ 0x81) (sv : Bool) (v nsid : Dword) (d : BitVec 128) :
    adminXfer (.setFeatures fid sv v nsid d) = none := by
  rw [adminXfer, if_neg h0E, if_neg h81]

/-- A feature of Table 2-9 other than Volatile Write Cache is there whether PLP is armed or not. -/
theorem State.featureThere_listed (s : State) {fid : Nat}
    (h : fid ∈ [0x01, 0x02, 0x04, 0x07, 0x08, 0x09, 0x0A, 0x0B, 0x0E, 0x0F, 0x81, 0x82, 0x83]) : s.featureThere fid = true := by
  rw [State.featureThere, List.contains_iff_mem.mpr h, Bool.true_or]

/-- Volatile Write Cache is there while PLP is not armed. -/
theorem State.featureThere_writeCache {s : State} (h : s.armed = false) : s.featureThere 0x06 = true := by
  rw [State.featureThere, h]
  rfl

/-- A Set Features of a feature that is a value and is there runs, and the power state is chosen again. -/
theorem State.setFeature_value {s : State} {tag : Nat} {e : TagE} {fid : Byte} {v nsid : Dword} {d : BitVec 128}
    (h : s.setReady tag e fid v nsid d) (h0E : fid ≠ 0x0E) (h81 : fid ≠ 0x81) (hf : s.featureThere fid.toNat = true)
    (run : State → TagE → Dword → Dword → BitVec 128 → State) :
    s.setFeature tag fid.toNat run = (run s e v nsid d).recheckPower :=
  State.setFeature_ready h (by rw [h.2, adminXfer_setFeatures h0E h81]; rfl) hf run

/-- The features of Table 2-9 whose value is no data, other than Volatile Write Cache. -/
def plainFeatures : List Byte := [0x01, 0x02, 0x04, 0x07, 0x08, 0x09, 0x0A, 0x0B, 0x0F, 0x82, 0x83]

/-- A Set Features of a plain feature runs, and the power state is chosen again. -/
theorem State.setFeature_plain {s : State} {tag : Nat} {e : TagE} {fid : Byte} {v nsid : Dword} {d : BitVec 128}
    (h : s.setReady tag e fid v nsid d) (hl : fid ∈ plainFeatures) (run : State → TagE → Dword → Dword → BitVec 128 → State) :
    s.setFeature tag fid.toNat run = (run s e v nsid d).recheckPower := by
  have hplain : ∀ f ∈ plainFeatures, f ≠ 0x0E ∧ f ≠ 0x81 ∧
      f.toNat ∈ [0x01, 0x02, 0x04, 0x07, 0x08, 0x09, 0x0A, 0x0B, 0x0E, 0x0F, 0x81, 0x82, 0x83] := by decide
  obtain ⟨h0E, h81, hthere⟩ := hplain fid hl
  exact State.setFeature_value h h0E h81 (s.featureThere_listed hthere) run

/-- A Set Features that takes data runs on the state in which it holds its cords, and the power state is chosen again. -/
theorem State.setFeature_data {s t : State} {tag : Nat} {e : TagE} {fid : Byte} {v nsid : Dword} {d : BitVec 128}
    (h : s.adminData tag e) (ht : s.adminTaken tag e = t) (hc : e.cmd = .setFeatures fid false v nsid d)
    (hf : t.featureThere fid.toNat = true) (run : State → TagE → Dword → Dword → BitVec 128 → State) :
    s.setFeature tag fid.toNat run = (run t e v nsid d).recheckPower := by
  rw [State.setFeature, State.admin_data h, ht, hc]
  simp only [hf, ne_eq, not_true_eq_false, Bool.not_true, Bool.false_eq_true, if_false]

/-- Settles O15: each feature is there, and its field is kept. -/
theorem valueFeaturesAreKept : Obligations.ValueFeaturesAreKept := by
  refine ⟨?arbitration, ?temperature, ?writeCache, ?coalescing, ?vectorConfiguration, ?atomicity, ?events⟩
  case arbitration =>
    intro s tag e v nsid d h
    exact congrArg _ (State.setFeature_plain h (by decide) _)
  case temperature =>
    intro s tag e v nsid d h hsel hth
    refine congrArg _ ((State.setFeature_plain h (by decide) _).trans ?_)
    simp [hsel, hth]
  case writeCache =>
    intro s tag e v nsid d h ha
    exact congrArg _ (State.setFeature_value h (by decide) (by decide) (State.featureThere_writeCache ha) _)
  case coalescing =>
    intro s tag e v nsid d h
    exact congrArg _ (State.setFeature_plain h (by decide) _)
  case vectorConfiguration =>
    intro s tag e v nsid d h hv
    refine congrArg _ ((State.setFeature_plain h (by decide) _).trans ?_)
    rw [if_neg (Nat.not_le.mpr hv)]
  case atomicity =>
    intro s tag e v nsid d h
    exact congrArg _ (State.setFeature_plain h (by decide) _)
  case events =>
    intro s tag e v nsid d h
    exact congrArg _ (State.setFeature_plain h (by decide) _)

/-- UNSUPPORTED_FEATURE fails a feature that is not there, saved or not (log entry 33). -/
theorem exec_unsupportedFeature_absent {s : State} {tag : Nat} {e : TagE} {fid : Byte} {sv : Bool} {v nsid : Dword} {d : BitVec 128}
    (h : s.adminReady tag e) (hc : e.cmd = .setFeatures fid sv v nsid d) (hf : s.featureThere fid.toNat = false) :
    exec (.unsupportedFeature tag) s = .next (s.complete tag stField).recheckPower := by
  have hne {k : Byte} (hk : k.toNat ∈ [0x01, 0x02, 0x04, 0x07, 0x08, 0x09, 0x0A, 0x0B, 0x0E, 0x0F, 0x81, 0x82, 0x83]) : fid ≠ k := by
    rintro rfl
    exact Bool.false_ne_true (hf.symm.trans (s.featureThere_listed hk))
  show execUnsupportedFeature tag s = _
  rw [execUnsupportedFeature,
    State.admin_ready h (by rw [hc, adminXfer_setFeatures (hne (by decide)) (hne (by decide))]; rfl), hc]
  simp only [hf, Bool.not_false, if_true]

/-- Settles O16: each feature is there, and its own checks find nothing; one that is not there is not looked at further,
also with SV set (log entry 33). The namespaces that an NSID names include all with the broadcast one (log entry 32). -/
theorem otherFeaturesDo : Obligations.OtherFeaturesDo := by
  refine ⟨?power, ?queues, ?timestamp, ?keepAlive, ?hostId, ?mask, ?persistence, ?absent⟩
  case power =>
    intro s tag e v nsid d h hpf hps
    refine congrArg _ ((State.setFeature_plain h (by decide) _).trans ?_)
    simp [hpf, Nat.not_lt.mpr hps]
  case queues =>
    intro s tag e v nsid d h hlo hhi hnone
    refine congrArg _ ((State.setFeature_plain h (by decide) _).trans ?_)
    rw [if_neg (not_or_intro hlo hhi), if_neg (Bool.eq_false_iff.mp hnone)]
  case timestamp =>
    intro s t tag e v nsid d h ht hc
    exact congrArg _ (State.setFeature_data h ht hc (t.featureThere_listed (by decide)) _)
  case keepAlive =>
    intro s tag e v nsid d h
    exact congrArg _ (State.setFeature_plain h (by decide) _)
  case hostId =>
    intro s t tag e v nsid d h ht hc
    exact congrArg _ (State.setFeature_data h ht hc (t.featureThere_listed (by decide)) _)
  case mask =>
    intro s tag e v nsid d h hl
    refine congrArg _ ((State.setFeature_plain h (by decide) _).trans ?_)
    split
    · exact absurd ‹_› hl
    · rfl
  case persistence =>
    intro s tag e v nsid d h hl
    refine congrArg _ ((State.setFeature_plain h (by decide) _).trans ?_)
    split
    · exact absurd ‹_› hl
    · rfl
  case absent => exact fun _ _ _ _ _ _ _ _ h hc hf => exec_unsupportedFeature_absent h hc hf

end Sys2Proof.Machine

namespace Sys2Proof.Machine

/-! ## Namespaces, Format NVM and Sanitize (R51, R63, R65; 03 R96; 05 R144; 14 R403) -/

/-- Settles O17: no sanitize runs, the command's own checks find nothing, and the namespaces it names are there and at
rest; the lowest free identifier is log entry 14's, the broadcast NSID of a format log entry 32's. -/
theorem namespaceCommandsDo : Obligations.NamespaceCommandsDo := by
  refine ⟨?create, ?delete, ?attach, ?detach, ?format⟩
  case create =>
    intro s t tag e n0 nsze st nsid flbas h ht hpf hc hsan hcheck hfree hrun
    show execNamespaceCreate tag s = _
    rw [execNamespaceCreate, State.adminPf_data h hpf, ht, hc]
    simp only [hsan, hcheck, hfree, hrun, ne_eq, not_true_eq_false, Bool.false_eq_true, if_false]
  case delete =>
    intro s tag e nsid nsze st flbas x h hpf hc hsan hall hx hmode
    have hbusy : s.nvm.longBusy nsid.toNat = false := by rw [NvmS.longBusy, hx, Option.map_some, hmode]; rfl
    show execNamespaceDelete tag s = _
    rw [execNamespaceDelete, State.adminPf_ready h hpf (by rw [hc]; rfl), hc]
    simp [hsan, hall, hx, hbusy]
  case attach =>
    intro s t tag e nsid cs x h ht hpf hc hx hmode hcheck
    show execNamespaceAttach tag s = _
    rw [execNamespaceAttach, State.adminPf_data h hpf, ht, hc]
    simp only [hx, hmode, hcheck, Bool.false_eq_true, if_false]
  case detach =>
    intro s t tag e nsid cs x h ht hpf hc hx hmode hcheck hidle
    show execNamespaceDetach tag s = _
    rw [execNamespaceDetach, State.adminPf_data h hpf, ht, hc]
    simp only [hx, hmode, hcheck, hidle, Bool.false_eq_true, if_false]
  case format =>
    intro s tag e nsid ses h hc hses hl hsan hbusy
    show execFormatNvm tag s = _
    rw [execFormatNvm, State.admin_ready h (by rw [hc]; rfl), hc]
    simp [hl, Nat.not_lt.mpr hses, hsan, hbusy]

/-- A Sanitize action of a PF runs while none is in progress. -/
theorem State.sanitize_idle {s : State} {tag act : Nat} {e : TagE} {ause : Bool} (h : s.adminReady tag e) (hpf : e.cntl.isPF = true)
    (hc : e.cmd = .sanitize act ause) (hsan : s.nvm.sanAction = 0) (run : State → State) : s.sanitize tag act run = run s := by
  rw [State.sanitize, State.adminPf_ready h hpf (by rw [hc]; rfl), hc]
  simp only [hsan, ne_eq, not_true_eq_false, if_false]

/-- Settles O18: with no sanitize in progress each action runs, and overwrite is none of those that there are. -/
theorem sanitizeCommandsDo : Obligations.SanitizeCommandsDo := by
  refine ⟨?crypto, ?block, ?exitFailure, ?overwrite⟩
  case crypto => exact fun _ _ _ _ h hpf hc hsan => congrArg _ (State.sanitize_idle h hpf hc hsan _)
  case block => exact fun _ _ _ _ h hpf hc hsan => congrArg _ (State.sanitize_idle h hpf hc hsan _)
  case exitFailure => exact fun _ _ _ _ h hpf hc hsan => congrArg _ (State.sanitize_idle h hpf hc hsan _)
  case overwrite =>
    intro s tag e ause h hpf hc hsan
    show execSanitizeOverwrite tag s = _
    rw [execSanitizeOverwrite, State.adminPf_ready h hpf (by rw [hc]; rfl), hc]
    simp [hsan]

/-! ## Map leases (R59 to R61; 05 R166, R171) -/

/-- A Grant with a legal list of extents, while no lease is in use, is accepted. -/
theorem State.grantVerdict_none {s : State} {l : LeaseS} {next : Nat} {xs : List LeaseExtent} (hl : l.state = .none ∨ l.state = .ended)
    (hmost : s.par P.MAP_LEASE_MAX_GIB ≠ 0) (hsize : extentsSize xs ≤ s.par P.MAP_LEASE_MAX_GIB * 512) (hn : 1 ≤ next)
    (hn' : next ≤ 16384) (hlen : xs.length = next) (hok : xs.all extentOk = true) (hover : extentsOverlap xs = false) :
    s.grantVerdict l next xs false = none := by
  have hidle : (l.state == .active || l.state == .revoking) = false := by rcases hl with hl | hl <;> rw [hl] <;> rfl
  simp only [State.grantVerdict, hidle, hmost, Nat.not_lt.mpr hsize, Nat.ne_of_gt hn, Nat.not_lt.mpr hn', hlen, hok, hover, ne_eq,
    not_true_eq_false, decide_false, Bool.not_true, Bool.or_self, Bool.false_eq_true, if_false]

/-- Settles O20: the verdict on the Grant finds nothing, and the Revoke names the active lease. -/
theorem leaseCommandsDo : Obligations.LeaseCommandsDo := by
  refine ⟨?grant, ?revoke⟩
  case grant =>
    intro s t tag e next ltag xs h ht hpf hc hl hmost hsize hn hn' hlen hok hover
    show execMapLeaseGrant tag s = _
    rw [execMapLeaseGrant, State.adminPf_data h hpf, ht, hc]
    simp only [State.grantVerdict_none hl hmost hsize hn hn' hlen hok hover, LeaseS.granted]
  case revoke =>
    intro s tag e ltag h hpf hc hl hltag
    show execMapLeaseRevoke tag s = _
    rw [execMapLeaseRevoke, State.adminPf_ready h hpf (by rw [hc]; rfl), hc]
    simp only [hl, hltag, bne_self_eq_false, ne_eq, not_true_eq_false, Bool.false_eq_true, if_false]

/-! ## The field conditions of a read or a write (R53) -/

/-- Settles O22: the conditions are tried in R53's order, so each clause's own is the first that holds. -/
theorem fieldsAreCheckedInOrder : Obligations.FieldsAreCheckedInOrder := by
  intro f x
  have legal (hp : f.prinfo = 0) (hs : f.stc = false) (hd : f.dtype = 0) : (f.prinfo != 0 || f.stc || f.dtype != 0) = false := by
    rw [hp, hs, hd]; rfl
  refine ⟨fun hbad => ?fields, fun hp hs hd hlen => ?length, fun hp hs hd hlen hr => ?range, fun hp hs hd hlen hr => ?none⟩
  case fields =>
    rw [rwVerdict, if_pos]
    simpa [or_assoc] using hbad
  case length => rw [rwVerdict, legal hp hs hd, if_neg Bool.false_ne_true, if_pos hlen]
  case range => rw [rwVerdict, legal hp hs hd, if_neg Bool.false_ne_true, if_neg (Nat.not_lt.mpr hlen), if_pos hr]
  case none =>
    rw [rwVerdict, legal hp hs hd, if_neg Bool.false_ne_true, if_neg (Nat.not_lt.mpr hlen), if_neg (Nat.not_lt.mpr hr)]

/-! ## Reservations (R66; 04 R114) -/

/-- A fetch of a command's data leaves every function as it is. -/
@[simp] theorem State.fetchData_func (s : State) (t : TagE) (len c : Nat) : (s.fetchData t len).host.func c = s.host.func c := by
  rw [State.fetchData, State.issueTlps, HostS.func, HostS_setPort_funcs, HostS.func]

/-- A command that returns data to the host runs once its pointer is legal (04 R114). -/
theorem State.withPtr_toHost {s : State} {e : TagE} {len : Nat} (hp : dptrCheck e.ptr len false = none) (tag : Nat)
    (run : State → State) : s.withPtr tag e len false run = run s := by
  rw [State.withPtr, hp]
  exact congrArg run (if_neg Bool.false_ne_true)

/-- A host without a registration registers its key. -/
theorem State.doRegister_new {s : State} {h : BitVec 128} {x : NsS} {nk : Qword} (hx : x.registrant h nk true = none)
    (tag nsid : Nat) (ie : Bool) (pt : PtplChange) (ck : Qword) :
    s.doRegister tag h nsid x .register ie pt ck nk = (s.putNs nsid { x with
      ptpl := ptplAfter x.ptpl pt, registrants := x.registrants ++ [{ hostId := h, key := nk }], prgen := x.prgen + 1 }).complete tag stOk := by
  rw [State.doRegister, hx]

/-- A registrant acquires a reservation that nobody holds. -/
theorem State.doAcquire_free {s : State} {h : BitVec 128} {x : NsS} {ie : Bool} {ck : Qword} {r : Registrant}
    (hx : x.registrant h ck ie = some r) (hfree : x.rtype = none) (tag nsid : Nat) (ty : RsvType) (pk : Qword) :
    s.doAcquire tag h nsid x .acquire ie ty ck pk = (s.putNs nsid { x with holder := some h, rtype := some ty }).complete tag stOk := by
  rw [State.doAcquire, hx, hfree]

/-- The holder of a Write Exclusive reservation releases it, and no registrant is told. -/
theorem State.doRelease_writeExclusive {s : State} {h : BitVec 128} {x : NsS} {ie : Bool} {ck : Qword} {r : Registrant}
    (hx : x.registrant h ck ie = some r) (hty : x.rtype = some .writeExclusive) (hh : x.holder = some h) (tag nsid : Nat) :
    s.doRelease tag h nsid x false ie .writeExclusive ck = (s.putNs nsid { x with holder := none, rtype := none }).complete tag stOk := by
  have hholds : x.holds h = true := by simp [NsS.holds, hty, hh]
  rw [State.doRelease, hx]
  simp only [hholds, hty, rsvShared, NsS.released, ne_eq, not_true_eq_false, Bool.not_true, Bool.false_eq_true, if_false]

/-- Settles O24: dispatch, the namespace and the pointer let each command through, and the registrants pick the branch. -/
theorem reservationCommandsDo : Obligations.ReservationCommandsDo := by
  refine ⟨?register, ?acquire, ?release, ?report⟩
  case register =>
    intro s tag e nsid x ie pt ck nk h hc hn hp hx
    show execReservationRegister tag s = _
    rw [execReservationRegister, State.io_ready h, hc]
    simp only [State.onNs_ready hn, State.withPtr_toDev hp, State.fetchData_func, State.doRegister_new hx]
  case acquire =>
    intro s tag e nsid x ie ty ck pk r h hc hn hp hx hfree
    show execReservationAcquire tag s = _
    rw [execReservationAcquire, State.io_ready h, hc]
    simp only [State.onNs_ready hn, State.withPtr_toDev hp, State.fetchData_func, State.doAcquire_free hx hfree]
  case release =>
    intro s tag e nsid x ie ck r h hc hn hp hx hty hh
    show execReservationRelease tag s = _
    rw [execReservationRelease, State.io_ready h, hc]
    simp only [State.onNs_ready hn, State.withPtr_toDev hp, State.fetchData_func, State.doRelease_writeExclusive hx hty hh]
  case report =>
    intro s tag e nsid x h hc hn hp
    show execReservationReport tag s = _
    rw [execReservationReport, State.io_ready h, hc]
    simp only [State.onNs_ready hn, State.withPtr_toHost hp]

end Sys2Proof.Machine

namespace Sys2Proof.Machine

/-! ## SPDM (R68; 14 R408 to R410) -/

/-- A request on a negotiated connection runs. -/
theorem State.negotiated_algs {s : State} {k : SpdmConn} {c : SpdmS} (hk : s.spdmServes k = true) (hc : s.conn k = c)
    (ha : c.algs = true) (run : SpdmS → State) : s.negotiated k run = run c := by
  subst hc
  simp only [State.negotiated, hk, ha, Bool.not_true, Bool.false_eq_true, if_false, if_true]

/-- GET_CAPABILITIES after GET_VERSION, in a version that is served, settles the connection's version. -/
theorem exec_getCapabilities_served {s : State} {k : SpdmConn} {c : SpdmS} {v : Byte} (hk : s.spdmServes k = true)
    (hc : s.conn k = c) (hver : c.version = true) (hlo : 0x10 ≤ v.toNat) (hhi : v.toNat ≤ 0x12) :
    exec (.getCapabilities ⟨k, v⟩) s = .next (s.setConn k (SpdmS.reply { c with caps := true, algs := false, ver := v.toNat } 0x61
      (spdmCapabilities v.toNat).1 (spdmCapabilities v.toNat).2)) := by
  show execGetCapabilities ⟨k, v⟩ s = _
  simp [execGetCapabilities, hk, hc, hver, Nat.not_lt.mpr hlo, Nat.not_lt.mpr hhi]

/-- GET_LMS_SIG signs what the newest ECDSA signature covered, and forgets it. -/
theorem exec_getLmsSig_signs {s : State} {k : SpdmConn} {c : SpdmS} {t : Nat} (hk : s.spdmServes k = true) (hc : s.conn k = c)
    (ha : c.algs = true) (hs : c.signed = some t) (hstop : s.sec.lmsStop = 0)
    (hrate : s.lmsInHour.length < s.par P.SEC_LMS_PER_HOUR) :
    exec (.getLmsSig k) s = .next (s.signHss.2.setConn k
      (SpdmS.reply { c with signed := none } 0x7E 3124 (Config.signature 1 s.signHss.1 t).toNat)) := by
  refine congrArg _ ((State.negotiated_algs hk hc ha _).trans ?_)
  simp only [hs, hstop, Nat.not_le.mpr hrate, ne_eq, not_true_eq_false, if_false]

/-- Settles O50: the responder serves the connection, and how far its negotiation has come picks the answer (codes: log entry 20). -/
theorem spdmRowsDo : Obligations.SpdmRowsDo := by
  refine ⟨?version, ?capabilities, ?badVersion, ?beforeVersion, ?algorithms, ?identity, ?measurements, ?lmsCert, ?lmsSig, ?nothingSigned,
    ?unsupported⟩
  case version => intro s k hk; exact congrArg _ (if_pos hk)
  case capabilities => exact fun _ _ _ _ hk hc hver hlo hhi => exec_getCapabilities_served hk hc hver hlo hhi
  case badVersion =>
    intro s k c v hk hc hver hv
    show execGetCapabilities ⟨k, v⟩ s = _
    simp [execGetCapabilities, hk, hc, hver, hv]
  case beforeVersion =>
    intro s k c v hk hc hver
    show execGetCapabilities ⟨k, v⟩ s = _
    simp [execGetCapabilities, hk, hc, hver]
  case algorithms =>
    intro s k c hk hc hcaps
    show execNegotiateAlgorithms k true s = _
    simp [execNegotiateAlgorithms, hk, hc, hcaps]
  case identity =>
    intro s k c hk hc ha hslot
    refine ⟨congrArg _ ((State.negotiated_algs hk hc ha _).trans (if_pos hslot)), fun o n ho => ?_, fun t => ?_⟩
    · refine congrArg _ ((State.negotiated_algs hk hc ha _).trans ?_)
      simp [hslot, Nat.not_le.mpr ho]
    · refine congrArg _ ((State.negotiated_algs hk hc ha _).trans ?_)
      simp [hslot]
  case measurements =>
    intro s k c x t m hk hc ha hm
    refine ⟨congrArg _ ((State.negotiated_algs hk hc ha _).trans ?_), fun hslot => congrArg _ ((State.negotiated_algs hk hc ha _).trans ?_)⟩
    · simp [hm]
    · simp [hm, hslot]
  case lmsCert => exact fun _ _ _ hk hc ha => congrArg _ (State.negotiated_algs hk hc ha _)
  case lmsSig => exact fun _ _ _ _ hk hc ha hs hstop hrate => exec_getLmsSig_signs hk hc ha hs hstop hrate
  case nothingSigned =>
    intro s k c hk hc ha hs
    refine congrArg _ ((State.negotiated_algs hk hc ha _).trans ?_)
    simp only [hs]
  case unsupported =>
    intro s k b hb hk
    show execSpdmUnsupportedRequest k b s = _
    rw [execSpdmUnsupportedRequest, hb, hk]
    rfl

/-! ## The management bus (R67) -/

/-- The bus answers where it serves. -/
theorem State.mi_serves {s : State} (h : s.miServes = true) (run : State → State) : s.mi run = run s := if_pos h

/-- Settles O51: the bus answers, and the parameter names something or not (codes: log entry 21). -/
theorem busRowsDo : Obligations.BusRowsDo := by
  refine ⟨?data, ?noData, ?health, ?controllers, ?configurationGet, ?configurationSet, ?vpd, ?vpdBeyond, ?tunnel, ?notTunnelled,
    ?invalid, ?basic, ?arp⟩
  case data =>
    intro s t x d h hd
    refine congrArg _ ((State.mi_serves h _).trans ?_)
    simp only [hd]
  case noData =>
    intro s t x h hd
    refine congrArg _ ((State.mi_serves h _).trans ?_)
    simp only [hd]
  case health => exact fun _ h => congrArg _ (State.mi_serves h _)
  case controllers =>
    intro s a n l h hl
    refine congrArg _ ((State.mi_serves h _).trans ?_)
    subst hl
    exact if_neg Bool.false_ne_true
  case configurationGet =>
    intro s i v h hi hv
    refine congrArg _ ((State.mi_serves h _).trans ?_)
    simp only [hi, hv, if_true, Option.map_some, Option.getD_some]
  case configurationSet =>
    intro s i v h hi h2
    refine congrArg _ ((State.mi_serves h _).trans ?_)
    simp only [hi, h2, Bool.not_true, Bool.false_eq_true, if_false]
  case vpd =>
    intro s o n h hin
    refine congrArg _ ((State.mi_serves h _).trans ?_)
    exact if_pos hin
  case vpdBeyond =>
    intro s o n h hout
    refine congrArg _ ((State.mi_serves h _).trans ?_)
    exact if_neg (Nat.not_le.mpr hout)
  case tunnel =>
    intro s c cmd d h hc hd
    refine congrArg _ ((State.mi_serves h _).trans ?_)
    simp only [hc, hd, Bool.not_true, Bool.false_eq_true, if_false]
  case notTunnelled =>
    intro s c cmd h hc hd
    refine congrArg _ ((State.mi_serves h _).trans ?_)
    simp only [hc, hd, Bool.not_true, Bool.false_eq_true, if_false]
  case invalid =>
    intro s b h hb
    exact congrArg _ ((if_neg (Bool.eq_false_iff.mp hb)).trans (State.mi_serves h _))
  case basic =>
    intro s o n h hps
    refine congrArg _ (if_pos ?_)
    rw [h, Bool.true_or, Bool.true_and, decide_eq_true hps]
  case arp => exact fun _ _ h => congrArg _ (State.mi_serves h _)

end Sys2Proof.Machine

/-! # Queueing, dispatch, long operations and thinning (03 R70 to R96; 06 R192 to R203; 10 R317) -/

namespace Sys2Proof.Machine

/-! ## Completion (03 R74, R88; 00 Table 0-6) -/

/-- Accepting entries writes tags and submission queues, no completion queue. -/
theorem acceptLoop_cqs (n : Nat) (s : State) (c : Cntl) (q : Nat) : (acceptLoop n s c q).host.cqs = s.host.cqs := by
  induction n generalizing s with
  | zero => rfl
  | succ n ih =>
    rw [acceptLoop]
    split
    · rfl
    · split
      · rfl
      · split
        · rfl
        · split
          · rfl
          · refine (ih _).trans ?_
            simp only [fact @State.flushBegins_keep]

theorem fetchTurns_cqs (n : Nat) (s : State) (c : Cntl) (qs : List Nat) : (fetchTurns n s c qs).host.cqs = s.host.cqs := by
  induction n generalizing s qs with
  | zero => rfl
  | succ n ih =>
    cases qs with
    | nil => rfl
    | cons q rest =>
      rw [fetchTurns]
      split
      · exact ih s rest
      · dsimp only
        split
        all_goals exact (ih _ _).trans (acceptLoop_cqs ..)

@[simp] theorem State.fetchQueue_cqs (s : State) (c : Cntl) (q : Nat) : (s.fetchQueue c q).host.cqs = s.host.cqs := by
  rw [State.fetchQueue]
  split
  · exact fetchTurns_cqs ..
  · rfl

@[simp] theorem State.freeCords_host (s : State) (u : CordUser) : (s.freeCords u).host = s.host := by
  simp only [fact @State.freeCords_keep]

/-- A tag that is freed may have entries fetched again, but leaves every completion queue as it is. -/
@[simp] theorem State.freeTag_cqs (s : State) (tag : Nat) : (s.freeTag tag).host.cqs = s.host.cqs := by
  rw [State.freeTag]
  split
  · rfl
  · dsimp only
    rw [apply_ite (fun a : State => a.host.cqs)]
    simp only [State.fetchQueue_cqs, State.freeCords_host, ite_self]

/-- The interrupt of a posted entry touches no entry. -/
@[simp] theorem CqS.interrupt_posted (q : CqS) (thr : Option Nat) : (q.interrupt thr).posted = q.posted := by
  unfold CqS.interrupt
  split
  · split
    · rfl
    · split <;> rfl
  · rfl

@[simp] theorem CqS.post_posted (q : CqS) (f : FuncS) (qid : Nat) (c : Cqe) : (q.post f qid c).posted = q.posted ++ [c] :=
  CqS.interrupt_posted ..

/-- The completion entry of a command: what `completeOne` posts or holds. -/
def State.cqeFor (s : State) (e : TagE) (st : Status) (dw0 : Dword) (d : Payload) (ep : List Nat) : Cqe :=
  { cid := e.cid, sqid := e.sqid, sqhd := ((sget s.host.sqs (qKey e.cntl.val e.sqid)).map (fun q => q.head)).getD 0, st := st, dw0 := dw0,
    data := d, ro := (s.host.func e.cntl.val).devCtl.getLsbD 4 && d != .nothing, ep := ep }

/-- A function after one of its commands has ended: a failure goes to its error log. -/
def FuncS.logged (f : FuncS) (st : Status) (cid : Nat) : FuncS :=
  if st = stOk then f else { f with errors := ((st, cid) :: f.errors).take 64 }

section
variable {s : State} {tag : Nat} {e : TagE} {q : CqS} (htag : sget s.host.tags tag = some e) (hrun : s.isFailed = false)
  (hheld : (e.phase == .held) = false) (hq : sget s.host.cqs (qKey e.cntl.val e.cqid) = some q)
include htag hrun hheld hq

/-- With room, the command's completion queue is the only one that changes, by the entry posted. -/
theorem State.completeOne_room (hroom : q.full = false) (st : Status) (dw0 : Dword) (d : Payload) (ep : List Nat) :
    (s.completeOne tag st dw0 d ep).host.cqs = sput (qKey e.cntl.val e.cqid)
      (q.post ((s.host.func e.cntl.val).logged st e.cid) e.cqid (s.cqeFor e st dw0 d ep)) s.host.cqs := by
  simp [State.completeOne, htag, hrun, hheld, hq, hroom, FuncS.logged, State.cqeFor]

/-- In a full queue, the entry and its tag are held. -/
theorem State.completeOne_full (hfull : q.full = true) (st : Status) (dw0 : Dword) (d : Payload) (ep : List Nat) :
    (s.completeOne tag st dw0 d ep).host.cqs = sput (qKey e.cntl.val e.cqid)
      { q with held := q.held ++ [(tag, s.cqeFor e st dw0 d ep)] } s.host.cqs ∧
    (s.completeOne tag st dw0 d ep).host.tags = sput tag { e with phase := .held } s.host.tags := by
  simp [State.completeOne, htag, hrun, hheld, hq, hfull, State.cqeFor]

end

/-- While FAILED holds, no command completes. -/
theorem State.completeOne_failed {s : State} (h : s.isFailed = true) (tag : Nat) (st : Status) (dw0 : Dword) (d : Payload)
    (ep : List Nat) : s.completeOne tag st dw0 d ep = s := by
  rw [State.completeOne]
  split
  · rfl
  · simp [h]

/-- While FAILED holds, no Flush completes either. -/
theorem State.sweepFlushes_failed {s : State} (h : s.isFailed = true) : s.sweepFlushes = s := by
  rw [State.sweepFlushes]
  refine List.foldlRecOn _ _ (motive := fun a : State => a = s) rfl ?_
  rintro _ rfl k _
  exact State.completeOne_failed h ..

/-- Settles O25: the state of the completion queue picks the branch of `completeOne`, and freeing the tag leaves the queue as posted. -/
theorem completionPosts : Obligations.CompletionPosts := by
  refine ⟨?room, ?full, ?flushes, ?failed⟩
  case room =>
    intro s tag e q st dw0 d ep htag hrun hheld hq hroom
    rw [State.completeOne_room htag hrun hheld hq hroom]
    exact ⟨_, s.cqeFor e st dw0 d ep, sget_sput_same .., CqS.post_posted .., rfl, rfl, rfl, rfl, rfl, rfl⟩
  case full =>
    intro s tag e q st dw0 d ep htag hrun hheld hq hfull
    obtain ⟨hcqs, htags⟩ := State.completeOne_full htag hrun hheld hq hfull st dw0 d ep
    rw [hcqs, htags]
    exact ⟨sget_sput_same .., _, s.cqeFor e st dw0 d ep, sget_sput_same .., rfl, rfl, rfl, rfl⟩
  case flushes => exact fun _ _ _ _ _ _ => rfl
  case failed =>
    intro s tag st dw0 d ep h
    rw [State.complete, State.completeOne_failed h, State.sweepFlushes_failed h]

/-! ## Doorbells and interrupt aggregation (03 R70 to R75; 02 Table 2-9) -/

/-- Settles O9: the queue is listed and the doorbell's value is legal, so each arm takes the branch that acts. -/
theorem doorbellsDo : Obligations.DoorbellsDo := by
  refine ⟨?tail, ?head, ?tag, ?aggregation⟩
  case tail =>
    intro s c sq tail es q hq hen hp ht hes
    show execSqTailDoorbell c sq tail es s = _
    simp [execSqTailDoorbell, hq, hen, hp, Nat.not_le.mpr ht, hes]
  case head =>
    intro s c cq head q hq hp hh hn
    show execCqHeadDoorbell c cq head s = _
    simp [execCqHeadDoorbell, hq, hp, Nat.not_le.mpr hh, Nat.not_lt.mpr hn]
  case tag =>
    intro s c sq q hq hst
    show execTagAvailable c sq s = _
    simp only [execTagAvailable, hq, hst, if_true]
  case aggregation =>
    intro s c cq q hq hien hun hp
    show execInterruptAggregationTime c cq s = _
    simp [execInterruptAggregationTime, hq, hien, hun, hp]

/-! ## Dispatch (03 R79; 10 R317) -/

/-- Settles O10: an ordered command with none before it passes its arm's test; else the turn and the queue's oldest command decide. -/
theorem dispatchDoes : Obligations.DispatchDoes := by
  refine ⟨?ordered, ?turn⟩
  case ordered =>
    intro s tag e htag hio hph hord hearly
    show execOrderedCommandBegin tag s = _
    simp [execOrderedCommandBegin, htag, hio, hph, hord, hearly]
  case turn =>
    intro s pipe d k st tag e hio hgov hturn hold
    show execNextDispatch pipe d s = _
    simp only [execNextDispatch, hio, hgov, hturn, hold, Bool.not_true, Bool.or_false, Bool.false_eq_true, if_false]

/-! ## Long operations (03 R93, R94, R96, R523; 14 R403) -/

section
variable {s : State} {op : Nat} {g : Grove} {o : SlicedOp} (ho : sget s.nvm.ops op = some o) (hm : s.mediaRuns = true)
  (hph : s.dev.phase = .running) (hb : o.begun = true) (hg : s.groveRestarting g = false)
include ho hm hph hb hg

/-- With work left, a slice that is due in its grove erases or unmaps by the operation's phase, and one that is not leaves all as it is. -/
theorem exec_slice_left (hl : o.left ≠ 0) :
    exec (.slice op g) s = .next (
      if o.doneIn g || s.sliceHeld g (16 + op) then s
      else if o.kind = .sanitizeBlock ∧ s.nvm.sanPhase = 2 then s.eraseSlice op g o
      else if s.sliceWaits op g then s
      else s.queueGroup g { why := .slice op, changes := [] }) := by
  show execSlice op g s = _
  simp [execSlice, ho, hm, hph, hb, hg, hl]

/-- With nothing left, a deletion that still holds segments frees some, and another operation is checked for its end. -/
theorem exec_slice_nothingLeft (hl : o.left = 0) :
    exec (.slice op g) s = .next (
      if o.kind = .delete ∧ (s.holdsSegs o.nsids).isSome then s.segSlice op g o else s.opCheck op) := by
  show execSlice op g s = _
  simp [execSlice, ho, hm, hph, hb, hg, hl]

end

/-- Settles O26: a slice's branch is picked by what is left, then the gap, then the phase (one row block a slice: log entry 106). -/
theorem longOperationsDo : Obligations.LongOperationsDo := by
  refine ⟨?begins, ?unmaps, ?erases, ?gap, ?checked, ?segments⟩
  case begins =>
    intro s op o ho hm hph hb hmay
    show execSlicedOperationStart op s = _
    simp [execSlicedOperationStart, ho, hm, hph, hb, hmay]
  case unmaps =>
    intro s op g o ho hm hph hb hg hl hd hgap hphase hw
    have hkind : ¬(o.kind = .sanitizeBlock ∧ s.nvm.sanPhase = 2) := fun h => hphase.elim (· h.1) (· h.2)
    rw [exec_slice_left ho hm hph hb hg hl, hd, hgap, if_neg hkind, hw]
    rfl
  case erases =>
    intro s op g o ho hm hph hb hg hl hd hgap hk hsan
    have hkind : o.kind = .sanitizeBlock ∧ s.nvm.sanPhase = 2 := ⟨hk, hsan⟩
    rw [exec_slice_left ho hm hph hb hg hl, hd, hgap, if_pos hkind]
    rfl
  case gap =>
    intro s op g o ho hm hph hb hg hl hgap
    rw [exec_slice_left ho hm hph hb hg hl, hgap, Bool.or_true, if_pos rfl]
  case checked =>
    intro s op g o ho hm hph hb hg hl hk
    have hnot : ¬(o.kind = .delete ∧ (s.holdsSegs o.nsids).isSome) := fun ⟨hdel, hs⟩ =>
      hk.elim (· hdel) (fun hnone => by simp [hnone] at hs)
    rw [exec_slice_nothingLeft ho hm hph hb hg hl, if_neg hnot]
  case segments =>
    intro s op g o ho hm hph hb hg hl hk hs
    rw [exec_slice_nothingLeft ho hm hph hb hg hl, if_pos ⟨hk, hs⟩]

/-! ## Thinning, erasing and patrolling (06 R192 to R203; 08 R262; 10 R314; 03 R94) -/

/-- THINNING_SLICE in a domain whose grove and map are up: the first rung runs at once, the rest keeps the gap and heeds the governor. -/
theorem exec_thinningSlice_thins {s : State} {d : DomId} {st : StandNo} (hm : s.mediaRuns = true)
    (hg : s.groveRestarting d.grove = false) (hmap : s.dev.mapDone.getLsbD d.grove.val = true) (hst : s.thinsFor d st = true) :
    exec (.thinningSlice d st) s = .next (
      if s.firstRung d then s.thinningSlice d st
      else if s.sliceHeld d.grove 1 || s.govHolds (s.thinMode d).rung then s
      else (s.thinningSlice d st).sliceEnds d.grove 1) := by
  show execThinningSlice d st s = _
  rw [execThinningSlice, hm, hg, hmap, hst]
  rfl

/-- A victim in hand for relocation puts its domain on the first rung. -/
theorem State.firstRung_of_victim {s : State} {d : DomId} {v : Victim}
    (hv : ((s.media.domS d).victims.filter (fun v => v.why != .rebuild)).find? (fun v => v.why == .relocate || v.why == .move) = some v) :
    s.firstRung d = true := by
  have hmem := (List.mem_filter.mp (List.mem_of_find?_eq_some hv)).1
  have hany : (s.media.domS d).victims.any (fun v => v.why == .relocate || v.why == .move) = true :=
    List.any_eq_true.mpr ⟨v, hmem, (List.find?_some hv :)⟩
  rw [State.firstRung, hany, Bool.true_or, Bool.true_or]

/-- A row block that waits for relocation puts its domain on the first rung. -/
theorem State.firstRung_of_relocation {s : State} {d : DomId} {rb : Nat} (hr : (s.relocations d).head? = some rb) :
    s.firstRung d = true := by
  have hne : (s.relocations d).isEmpty = false := List.isEmpty_eq_false_iff.mpr (by rintro h; rw [h] at hr; cases hr)
  rw [State.firstRung, hne, Bool.not_false, Bool.or_true, Bool.true_or]

/-- Below the first rung, the gap or the governor holds a slice back, for whichever stand it would run. -/
theorem exec_thinningSlice_held {s : State} {d : DomId} (hfirst : s.firstRung d = false)
    (hheld : s.sliceHeld d.grove 1 = true ∨ s.govHolds (s.thinMode d).rung = true) (st : StandNo) :
    exec (.thinningSlice d st) s = .next s := by
  have hheld : (s.sliceHeld d.grove 1 || s.govHolds (s.thinMode d).rung) = true := Bool.or_eq_true_iff.mpr hheld
  show execThinningSlice d st s = _
  rw [execThinningSlice, hfirst, hheld]
  exact congrArg _ (ite_self _)

/-- A patrol with nothing before it starts over the row blocks that hold data. -/
theorem exec_cruiseSlice_starts {s : State} {d : DomId} (hm : s.mediaRuns = true) (hcheck : s.checkDies d = [])
    (hgov : s.govHolds 6 = false) (hdis : (s.media.domS d).disturb = []) (hcruise : (s.media.domS d).cruise = [])
    (hstart : (s.media.domS d).cruiseStart = 0) :
    exec (.cruiseSlice d) s = .next { s with
      media := s.media.modDom d (fun y => { y with cruise := (s.patrolRbs d).filter (fun rb => decide (0 < s.media.programmed rb)),
                                                   cruisePos := 0, cruiseStart := s.now, cruiseLate := false }) } := by
  show execCruiseSlice d s = _
  simp [execCruiseSlice, hm, hcheck, hgov, hdis, hcruise, hstart]

/-- Settles O32: what is in hand for relocation makes the first rung, which passes the gap; below it the gap and the governor decide. -/
theorem thinningRowsDo : Obligations.ThinningRowsDo := by
  refine ⟨?victim, ?relocation, ?held, ?slice, ?erase, ?patrolStarts, ?patrolLate⟩
  case victim =>
    intro s d st v hm hg hmap hst hv
    rw [exec_thinningSlice_thins hm hg hmap hst, if_pos (State.firstRung_of_victim hv), State.thinningSlice, hv]
  case relocation =>
    intro s d st rb hm hg hmap hst hnone hr
    rw [exec_thinningSlice_thins hm hg hmap hst, if_pos (State.firstRung_of_relocation hr), State.thinningSlice, hnone, hr]
  case held => exact fun _ _ st _ _ _ hfirst hheld => exec_thinningSlice_held hfirst hheld st
  case slice =>
    intro s d st hm hg hmap hst hfirst hgap hgov
    rw [exec_thinningSlice_thins hm hg hmap hst, hfirst, hgap, hgov]
    rfl
  case erase =>
    intro s r n hm hph hreads hers hrec
    show execVictimEraseStart r n s = _
    simp [execVictimEraseStart, hm, hph, hreads, hers, hrec]
  case patrolStarts => exact fun _ _ hm hcheck hgov hdis hcruise hstart => exec_cruiseSlice_starts hm hcheck hgov hdis hcruise hstart
  case patrolLate =>
    intro s d st hfw hcruise hlate hdue hown
    show execCruiseLate d s = _
    simp [execCruiseLate, hfw, List.isEmpty_eq_false_iff.mp hcruise, hlate, hdue, hown]

end Sys2Proof.Machine

/-! # Landing keeps its canonical form (04 R108) -/

namespace Sys2Proof.Machine

/-!
Each function of the model keeps the form of Landing's lines (`State.LandSorted`). The functions that leave Landing alone have a frame lemma in this text
already and keep it both ways; the others keep it because the operations on Landing do, one lemma for each function in the order of the model's files. The
rows follow, then a step.
-/

section

/-- The statement's predicate of a state. As a definition of its own it is rewritten and applied at whole states: the simplifier and the kernel
then compare two states before they look at any field of them. -/
def State.LandSorted (s : State) : Prop := sorted s.land.lines

theorem landSorted_iff_of_land_eq {s t : State} (e : t.land = s.land) : t.LandSorted ↔ s.LandSorted := by
  unfold State.LandSorted
  rw [e]

theorem sorted_land_lines {s : State} : sorted s.land.lines ↔ s.LandSorted := Iff.rfl

/-- A state written out field by field keeps the form when its Landing does. -/
theorem landSorted_mk {pending : List Instr} {time : TimeS} {dev : DevS} {fuses : FuseS} {params : ParamS} {host : HostS} {nvm : NvmS}
    {land : LandS} {map : MapS} {media : MediaS} {flash : FlashS} {cache : CacheS} {plp : PlpS} {dram : DramS} {pwr : PwrS} {sec : SecS}
    {mgmt : MgmtS} {naile : NaileS} {nor : NorS} {tally : TallyS} {bus : BusS} {free : Nat} :
    (State.mk pending time dev fuses params host nvm land map media flash cache plp dram pwr sec mgmt naile nor tally bus
      free).LandSorted ↔ sorted land.lines :=
  Iff.rfl

theorem foldl_landSorted {β : Type} {f : State → β → State} {l : List β} {s : State}
    (hf : ∀ a x, a.LandSorted → (f a x).LandSorted) (h : s.LandSorted) : (l.foldl f s).LandSorted := by
  induction l generalizing s with
  | nil => exact h
  | cons x l ih => exact ih (hf s x h)

theorem foldlp_landSorted {β γ : Type} {f : State × γ → β → State × γ} {l : List β} {p : State × γ}
    (hf : ∀ a x, a.1.LandSorted → (f a x).1.LandSorted) (h : p.1.LandSorted) : (l.foldl f p).1.LandSorted := by
  induction l generalizing p with
  | nil => exact h
  | cons x l ih => exact ih (hf p x h)

theorem landFoldl_lines_sorted {β : Type} {f : LandS → β → LandS} {l : List β} {a : LandS}
    (hf : ∀ a x, sorted a.lines → sorted (f a x).lines) (h : sorted a.lines) : sorted (l.foldl f a).lines := by
  induction l generalizing a with
  | nil => exact h
  | cons x l ih => exact ih (hf a x h)

theorem LandS.runCtxs_lines (l : LandS) : l.runCtxs.lines = l.lines := by
  unfold LandS.runCtxs
  generalize l.ctxs.filter _ = z
  induction z generalizing l with
  | nil => rfl
  | cons e z ih =>
    rw [List.foldl_cons, ih]
    split <;> rfl

/-- What a row or a step must keep: the state it goes on in has the form. -/
def NextLandSorted (o : Host.Outcome State Fault Refusal) : Prop := ∀ t, o = .next t → t.LandSorted

theorem nextLandSorted_next {t : State} : NextLandSorted (.next t) ↔ t.LandSorted :=
  ⟨fun h => h t rfl, fun h _ e => Host.Outcome.next.inj e ▸ h⟩

theorem nextLandSorted_of_land_eq {s : State} {o : Host.Outcome State Fault Refusal} (h : s.LandSorted)
    (e : ∀ t, o = .next t → t.land = s.land) : NextLandSorted o :=
  fun t ht => (landSorted_iff_of_land_eq (e t ht)).2 h

variable {s : State}

/-! ## Operations that leave Landing as it is -/

theorem State.fail_landSorted : s.fail.LandSorted ↔ s.LandSorted :=
  landSorted_iff_of_land_eq (by simp only [(fact @State.fail_keep)])

theorem State.recordHw_landSorted {src sev code p0 p1 p2 p3 : Nat} : (s.recordHw src sev code p0 p1 p2 p3).LandSorted ↔ s.LandSorted :=
  landSorted_iff_of_land_eq (by simp only [(fact @State.recordHw_keep)])

theorem State.record_landSorted {sev code p0 p1 p2 p3 : Nat} : (s.record sev code p0 p1 p2 p3).LandSorted ↔ s.LandSorted :=
  landSorted_iff_of_land_eq (by simp only [(fact @State.record_keep)])

theorem State.recordBy_landSorted {src sev code p0 p1 p2 p3 : Nat} : (s.recordBy src sev code p0 p1 p2 p3).LandSorted ↔ s.LandSorted :=
  landSorted_iff_of_land_eq (by simp only [(fact @State.recordBy_keep)])

theorem State.journal_landSorted : s.journal.LandSorted ↔ s.LandSorted :=
  landSorted_iff_of_land_eq (by simp only [(fact @State.journal_keep)])

theorem State.draw_landSorted : s.draw.2.LandSorted ↔ s.LandSorted :=
  landSorted_iff_of_land_eq (by simp only [(fact @State.draw_keep)])

theorem State.poisonEvent_landSorted {sev row dch : Nat} : (s.poisonEvent sev row dch).LandSorted ↔ s.LandSorted :=
  landSorted_iff_of_land_eq (by simp only [(fact @State.poisonEvent_keep)])

theorem State.refillStands_landSorted : s.refillStands.LandSorted ↔ s.LandSorted :=
  landSorted_iff_of_land_eq (by simp only [(fact @State.refillStands_keep)])

theorem State.chargeCredit_landSorted {st : Nat} {d : Dir} {bytes : Nat} : (s.chargeCredit st d bytes).LandSorted ↔ s.LandSorted :=
  landSorted_iff_of_land_eq (by simp only [(fact @State.chargeCredit_keep)])

theorem State.fetchQueue_landSorted {c : Cntl} {q : Nat} : (s.fetchQueue c q).LandSorted ↔ s.LandSorted :=
  landSorted_iff_of_land_eq (by simp only [(fact @State.fetchQueue_keep)])

theorem State.modTag_landSorted {tag : Nat} {g : TagE → TagE} : (s.modTag tag g).LandSorted ↔ s.LandSorted :=
  landSorted_iff_of_land_eq (by simp only [(fact @State.modTag_keep)])

theorem State.orphan_landSorted {gone : List Nat} : (s.orphan gone).LandSorted ↔ s.LandSorted :=
  landSorted_iff_of_land_eq (by simp only [(fact @State.orphan_keep)])

theorem State.noteChange_landSorted {bit : Nat} : (s.noteChange bit).LandSorted ↔ s.LandSorted :=
  landSorted_iff_of_land_eq (by simp only [(fact @State.noteChange_keep)])

theorem State.queueGroup_landSorted {g : Grove} {x : CommitGroup} : (s.queueGroup g x).LandSorted ↔ s.LandSorted :=
  landSorted_iff_of_land_eq (by simp only [(fact @State.queueGroup_keep)])

theorem State.badPloc_landSorted {dgn : Nat} : (s.badPloc dgn).LandSorted ↔ s.LandSorted :=
  landSorted_iff_of_land_eq (by simp only [(fact @State.badPloc_keep)])

theorem State.noteBad_landSorted {cs : List GranChange} : (s.noteBad cs).LandSorted ↔ s.LandSorted :=
  landSorted_iff_of_land_eq (by simp only [(fact @State.noteBad_keep)])

theorem State.recheckSpare_landSorted : s.recheckSpare.LandSorted ↔ s.LandSorted :=
  landSorted_iff_of_land_eq (by simp only [(fact @State.recheckSpare_keep)])

theorem State.fillRegion_landSorted {d : DomId} : (s.fillRegion d).LandSorted ↔ s.LandSorted :=
  landSorted_iff_of_land_eq (by simp only [(fact @State.fillRegion_keep)])

theorem State.refillRegions_landSorted {gone : List Nat} : (s.refillRegions gone).LandSorted ↔ s.LandSorted :=
  landSorted_iff_of_land_eq (by simp only [(fact @State.refillRegions_keep)])

theorem State.retireFew_landSorted {rbs : List Nat} : (s.retireFew rbs).LandSorted ↔ s.LandSorted :=
  landSorted_iff_of_land_eq (by simp only [(fact @State.retireFew_keep)])

theorem State.closeRb_landSorted {rb : Nat} : (s.closeRb rb).LandSorted ↔ s.LandSorted :=
  landSorted_iff_of_land_eq (by simp only [(fact @State.closeRb_keep)])

theorem State.beginWear_landSorted {g : Grove} : (s.beginWear g).LandSorted ↔ s.LandSorted :=
  landSorted_iff_of_land_eq (by simp only [(fact @State.beginWear_keep)])

theorem State.rewriteUnits_landSorted {rb : Nat} : (s.rewriteUnits rb).LandSorted ↔ s.LandSorted :=
  landSorted_iff_of_land_eq (by simp only [(fact @State.rewriteUnits_keep)])

theorem State.clearDebts_landSorted : s.clearDebts.LandSorted ↔ s.LandSorted :=
  landSorted_iff_of_land_eq (by simp only [(fact @State.clearDebts_keep)])

theorem State.erasePending_landSorted {rb : Nat} : (s.erasePending rb).LandSorted ↔ s.LandSorted :=
  landSorted_iff_of_land_eq (by simp only [(fact @State.erasePending_keep)])

theorem State.takeVictim_landSorted {d : DomId} {charge : StandNo} {why : CopyWhy} {rb : Nat} :
    (s.takeVictim d charge why rb).LandSorted ↔ s.LandSorted :=
  landSorted_iff_of_land_eq (by simp only [(fact @State.takeVictim_keep)])

theorem State.wantRelocation_landSorted {rb : Nat} : (s.wantRelocation rb).LandSorted ↔ s.LandSorted :=
  landSorted_iff_of_land_eq (by simp only [(fact @State.wantRelocation_keep)])

theorem State.addOp_landSorted {o : DieOp} : (s.addOp o).LandSorted ↔ s.LandSorted :=
  landSorted_iff_of_land_eq (by simp only [(fact @State.addOp_keep)])

theorem State.issueErases_landSorted {rb : Nat} : (s.issueErases rb).LandSorted ↔ s.LandSorted :=
  landSorted_iff_of_land_eq (by simp only [(fact @State.issueErases_keep)])

theorem State.markAbsent_landSorted {ch : Nat} {die : Option Nat} : (s.markAbsent ch die).LandSorted ↔ s.LandSorted :=
  landSorted_iff_of_land_eq (by simp only [(fact @State.markAbsent_keep)])

theorem State.eraseReplayed_landSorted : s.eraseReplayed.LandSorted ↔ s.LandSorted :=
  landSorted_iff_of_land_eq (by simp only [(fact @State.eraseReplayed_keep)])

theorem State.slotLostAt_landSorted {q : Nat} {g : CGroup} {lba : Nat} : (s.slotLostAt q g lba).LandSorted ↔ s.LandSorted :=
  landSorted_iff_of_land_eq (by simp only [(fact @State.slotLostAt_keep)])

theorem State.poisonSlot_landSorted {q slot : Nat} : (s.poisonSlot q slot).LandSorted ↔ s.LandSorted :=
  landSorted_iff_of_land_eq (by simp only [(fact @State.poisonSlot_keep)])

theorem State.returnCharge_landSorted {st n : Nat} : (s.returnCharge st n).LandSorted ↔ s.LandSorted :=
  landSorted_iff_of_land_eq (by simp only [(fact @State.returnCharge_keep)])

theorem State.beginSet_landSorted {st : StandNo} {k : WpClass} {d : DomId} : (s.beginSet st k d).LandSorted ↔ s.LandSorted :=
  landSorted_iff_of_land_eq (by simp only [(fact @State.beginSet_keep)])

theorem State.hotDebt_landSorted {w : WSet} : (s.hotDebt w).LandSorted ↔ s.LandSorted :=
  landSorted_iff_of_land_eq (by simp only [(fact @State.hotDebt_keep)])

theorem State.countShare_landSorted {w : WSet} : (s.countShare w).LandSorted ↔ s.LandSorted :=
  landSorted_iff_of_land_eq (by simp only [(fact @State.countShare_keep)])

theorem State.spillCheck_landSorted {g : Grove} : (s.spillCheck g).LandSorted ↔ s.LandSorted :=
  landSorted_iff_of_land_eq (by simp only [(fact @State.spillCheck_keep)])

theorem State.wearCheck_landSorted {g : Grove} : (s.wearCheck g).LandSorted ↔ s.LandSorted :=
  landSorted_iff_of_land_eq (by simp only [(fact @State.wearCheck_keep)])

theorem unitStep_landSorted {tag nsid slba : Nat} {n : NsS} {t : TagE} {a : State × List (Ploc × Nat)} {ls : List Nat} :
    (unitStep tag nsid slba n t a ls).1.LandSorted ↔ a.1.LandSorted :=
  landSorted_iff_of_land_eq (by simp only [(fact @unitStep_keep)])

theorem State.sliceEnds_landSorted {g : Grove} {k : Nat} : (s.sliceEnds g k).LandSorted ↔ s.LandSorted :=
  landSorted_iff_of_land_eq (by simp only [(fact @State.sliceEnds_keep)])

theorem State.extendSets_landSorted : s.extendSets.LandSorted ↔ s.LandSorted :=
  landSorted_iff_of_land_eq (by simp only [(fact @State.extendSets_keep)])

theorem State.replaceSets_landSorted : s.replaceSets.LandSorted ↔ s.LandSorted :=
  landSorted_iff_of_land_eq (by simp only [(fact @State.replaceSets_keep)])

theorem State.takeSet_landSorted {g : Nat} : (s.takeSet g).LandSorted ↔ s.LandSorted :=
  landSorted_iff_of_land_eq (by simp only [(fact @State.takeSet_keep)])

theorem State.dumpHeaders_landSorted : s.dumpHeaders.LandSorted ↔ s.LandSorted :=
  landSorted_iff_of_land_eq (by simp only [(fact @State.dumpHeaders_keep)])

theorem State.selfRefresh_landSorted : s.selfRefresh.LandSorted ↔ s.LandSorted :=
  landSorted_iff_of_land_eq (by simp only [(fact @State.selfRefresh_keep)])

theorem State.latchPads_landSorted : s.latchPads.LandSorted ↔ s.LandSorted :=
  landSorted_iff_of_land_eq (by simp only [(fact @State.latchPads_keep)])

theorem State.dumpHalt_landSorted : s.dumpHalt.LandSorted ↔ s.LandSorted :=
  landSorted_iff_of_land_eq (by simp only [(fact @State.dumpHalt_keep)])

theorem State.closeSession_landSorted {cause : Nat} : (s.closeSession cause).LandSorted ↔ s.LandSorted :=
  landSorted_iff_of_land_eq (by simp only [(fact @State.closeSession_keep)])

theorem State.leaveIdle_landSorted : s.leaveIdle.LandSorted ↔ s.LandSorted :=
  landSorted_iff_of_land_eq (by simp only [(fact @State.leaveIdle_keep)])

theorem State.recheckPower_landSorted : s.recheckPower.LandSorted ↔ s.LandSorted :=
  landSorted_iff_of_land_eq (by simp only [(fact @State.recheckPower_keep)])

theorem State.touchLink_landSorted : s.touchLink.LandSorted ↔ s.LandSorted :=
  landSorted_iff_of_land_eq (by simp only [(fact @State.touchLink_keep)])

theorem State.restLinks_landSorted : s.restLinks.LandSorted ↔ s.LandSorted :=
  landSorted_iff_of_land_eq (by simp only [(fact @State.restLinks_keep)])

theorem State.dropUpdate_landSorted : s.dropUpdate.LandSorted ↔ s.LandSorted :=
  landSorted_iff_of_land_eq (by simp only [(fact @State.dropUpdate_keep)])

theorem State.enterPs3_landSorted : s.enterPs3.LandSorted ↔ s.LandSorted :=
  landSorted_iff_of_land_eq (by simp only [(fact @State.enterPs3_keep)])

theorem State.naileOk_landSorted {f : Frame} {typ len value : Nat} : (s.naileOk f typ len value).LandSorted ↔ s.LandSorted :=
  landSorted_iff_of_land_eq (by simp only [(fact @State.naileOk_keep)])

theorem State.naileFail_landSorted {f : Frame} {cls code param : Nat} : (s.naileFail f cls code param).LandSorted ↔ s.LandSorted :=
  landSorted_iff_of_land_eq (by simp only [(fact @State.naileFail_keep)])

theorem State.rawOutcome_landSorted {f : Frame} {outcome : Nat} : (s.rawOutcome f outcome).LandSorted ↔ s.LandSorted :=
  landSorted_iff_of_land_eq (by simp only [(fact @State.rawOutcome_keep)])

theorem State.acceptFrame_landSorted : s.acceptFrame.LandSorted ↔ s.LandSorted :=
  landSorted_iff_of_land_eq (by simp only [(fact @State.acceptFrame_keep)])

theorem State.applyCfg_landSorted {c : CfgChoice} : (s.applyCfg c).LandSorted ↔ s.LandSorted :=
  landSorted_iff_of_land_eq (by simp only [(fact @State.applyCfg_keep)])

theorem State.burnSeal_landSorted : s.burnSeal.LandSorted ↔ s.LandSorted :=
  landSorted_iff_of_land_eq (by simp only [(fact @State.burnSeal_keep)])

theorem State.recordStart_landSorted : s.recordStart.LandSorted ↔ s.LandSorted :=
  landSorted_iff_of_land_eq (by simp only [(fact @State.recordStart_keep)])

theorem State.recordTally_landSorted {t : TallyS} : (s.recordTally t).LandSorted ↔ s.LandSorted :=
  landSorted_iff_of_land_eq (by simp only [(fact @State.recordTally_keep)])

theorem State.recordBoot_landSorted {c : CfgChoice} : (s.recordBoot c).LandSorted ↔ s.LandSorted :=
  landSorted_iff_of_land_eq (by simp only [(fact @State.recordBoot_keep)])

theorem State.checkRecords_landSorted : s.checkRecords.LandSorted ↔ s.LandSorted :=
  landSorted_iff_of_land_eq (by simp only [(fact @State.checkRecords_keep)])

theorem State.enterRecovery_landSorted {why : Nat} : (s.enterRecovery why).LandSorted ↔ s.LandSorted :=
  landSorted_iff_of_land_eq (by simp only [(fact @State.enterRecovery_keep)])

theorem State.pllLocked_landSorted : s.pllLocked.LandSorted ↔ s.LandSorted :=
  landSorted_iff_of_land_eq (by simp only [(fact @State.pllLocked_keep)])

theorem State.trainPorts_landSorted : s.trainPorts.LandSorted ↔ s.LandSorted :=
  landSorted_iff_of_land_eq (by simp only [(fact @State.trainPorts_keep)])

theorem State.noteSlots_landSorted {t : Nat × Option Nat} : (s.noteSlots t).LandSorted ↔ s.LandSorted :=
  landSorted_iff_of_land_eq (by simp only [(fact @State.noteSlots_keep)])

theorem State.findBad_landSorted {b : HeartBad} : (s.findBad b).LandSorted ↔ s.LandSorted :=
  landSorted_iff_of_land_eq (by simp only [(fact @State.findBad_keep)])

theorem State.readLayout_landSorted {norAnswers : Bool} : (s.readLayout norAnswers).LandSorted ↔ s.LandSorted :=
  landSorted_iff_of_land_eq (by simp only [(fact @State.readLayout_keep)])

theorem State.nextAction_landSorted {k : Nat} : (s.nextAction k).LandSorted ↔ s.LandSorted :=
  landSorted_iff_of_land_eq (by simp only [(fact @State.nextAction_keep)])

theorem State.noteUpset_landSorted {ch die row : Nat} : (s.noteUpset ch die row).LandSorted ↔ s.LandSorted :=
  landSorted_iff_of_land_eq (by simp only [(fact @State.noteUpset_keep)])

theorem State.rawData_landSorted {f : Frame} {p : Ploc} {offset length : Nat} :
    (s.rawData f p offset length).LandSorted ↔ s.LandSorted :=
  landSorted_iff_of_land_eq (by simp only [(fact @State.rawData_keep)])

theorem State.queueChanges_landSorted {why : GroupWhy} {cs : List GranChange} : (s.queueChanges why cs).LandSorted ↔ s.LandSorted :=
  landSorted_iff_of_land_eq (by simp only [(fact @State.queueChanges_keep)])

theorem State.poisonAt_landSorted {p : Ploc} : (s.poisonAt p).LandSorted ↔ s.LandSorted :=
  landSorted_iff_of_land_eq (by simp only [(fact @State.poisonAt_keep)])

theorem State.poisonLeafPage_landSorted {lpn : Nat} : (s.poisonLeafPage lpn).LandSorted ↔ s.LandSorted :=
  landSorted_iff_of_land_eq (by simp only [(fact @State.poisonLeafPage_keep)])

theorem State.repaired_landSorted {g : Grove} {key : Nat} : (s.repaired g key).LandSorted ↔ s.LandSorted :=
  landSorted_iff_of_land_eq (by simp only [(fact @State.repaired_keep)])

theorem State.slabLost_landSorted {g : Grove} {key : Nat} : (s.slabLost g key).LandSorted ↔ s.LandSorted :=
  landSorted_iff_of_land_eq (by simp only [(fact @State.slabLost_keep)])

theorem State.lostRepaired_landSorted {g : Grove} : (s.lostRepaired g).LandSorted ↔ s.LandSorted :=
  landSorted_iff_of_land_eq (by simp only [(fact @State.lostRepaired_keep)])

theorem State.stepSix_landSorted {o : DieOp} : (s.stepSix o).LandSorted ↔ s.LandSorted :=
  landSorted_iff_of_land_eq (by simp only [(fact @State.stepSix_keep)])

theorem State.beginRecon_landSorted {i : Nat} {o : DieOp} : (s.beginRecon i o).LandSorted ↔ s.LandSorted :=
  landSorted_iff_of_land_eq (by simp only [(fact @State.beginRecon_keep)])

theorem State.waitChannels_landSorted {i : Nat} : (s.waitChannels i).LandSorted ↔ s.LandSorted :=
  landSorted_iff_of_land_eq (by simp only [(fact @State.waitChannels_keep)])

theorem State.retireBlocks_landSorted {rb : Nat} {cs : List Nat} : (s.retireBlocks rb cs).LandSorted ↔ s.LandSorted :=
  landSorted_iff_of_land_eq (by simp only [(fact @State.retireBlocks_keep)])

theorem State.redoUnits_landSorted : s.redoUnits.LandSorted ↔ s.LandSorted :=
  landSorted_iff_of_land_eq (by simp only [(fact @State.redoUnits_keep)])

theorem State.noteRebuild_landSorted {g : Nat} {set : List Nat} : (s.noteRebuild g set).LandSorted ↔ s.LandSorted :=
  landSorted_iff_of_land_eq (by simp only [(fact @State.noteRebuild_keep)])

theorem State.checkDigest_landSorted {ok : Bool} : (s.checkDigest ok).LandSorted ↔ s.LandSorted :=
  landSorted_iff_of_land_eq (by simp only [(fact @State.checkDigest_keep)])

theorem State.checkGrove_landSorted {g : Grove} : (s.checkGrove g).LandSorted ↔ s.LandSorted :=
  landSorted_iff_of_land_eq (by simp only [(fact @State.checkGrove_keep)])

theorem State.wakeEnd_landSorted : s.wakeEnd.LandSorted ↔ s.LandSorted :=
  landSorted_iff_of_land_eq (by simp only [(fact @State.wakeEnd_keep)])

theorem State.snapshot_landSorted {path : Nat} : (s.snapshot path).LandSorted ↔ s.LandSorted :=
  landSorted_iff_of_land_eq (by simp only [(fact @State.snapshot_keep)])

theorem State.startOp_landSorted {tag : Nat} {kind : SliceKind} {nsids : List Nat} {rekey : Bool} {mode : NsMode} :
    (s.startOp tag kind nsids rekey mode).LandSorted ↔ s.LandSorted :=
  landSorted_iff_of_land_eq (by simp only [(fact @State.startOp_keep)])

theorem State.createNs_landSorted {nsid nsze st : Nat} : (s.createNs nsid nsze st).LandSorted ↔ s.LandSorted :=
  landSorted_iff_of_land_eq (by simp only [(fact @State.createNs_keep)])

theorem State.charge_landSorted {st n : Nat} : (s.charge st n).LandSorted ↔ s.LandSorted :=
  landSorted_iff_of_land_eq (by simp only [(fact @State.charge_keep)])

theorem State.addCommits_landSorted {tag n : Nat} : (s.addCommits tag n).LandSorted ↔ s.LandSorted :=
  landSorted_iff_of_land_eq (by simp only [(fact @State.addCommits_keep)])

theorem State.putNs_landSorted {nsid : Nat} {x : NsS} : (s.putNs nsid x).LandSorted ↔ s.LandSorted :=
  landSorted_iff_of_land_eq (by simp only [(fact @State.putNs_keep)])

theorem State.createInParts_landSorted {tag nsid nsze st : Nat} : (s.createInParts tag nsid nsze st).LandSorted ↔ s.LandSorted :=
  landSorted_iff_of_land_eq (by simp only [(fact @State.createInParts_keep)])

theorem State.startSanitize_landSorted {tag : Nat} {kind : SliceKind} {action : Nat} :
    (s.startSanitize tag kind action).LandSorted ↔ s.LandSorted :=
  landSorted_iff_of_land_eq (by simp only [(fact @State.startSanitize_keep)])

theorem State.noteDom_landSorted {st : StandNo} {d : DomId} : (s.noteDom st d).LandSorted ↔ s.LandSorted :=
  landSorted_iff_of_land_eq (by simp only [(fact @State.noteDom_keep)])

theorem State.giveUp_landSorted {rb : Nat} : (s.giveUp rb).LandSorted ↔ s.LandSorted :=
  landSorted_iff_of_land_eq (by simp only [(fact @State.giveUp_keep)])

theorem State.countRead_landSorted {o : DieOp} : (s.countRead o).LandSorted ↔ s.LandSorted :=
  landSorted_iff_of_land_eq (by simp only [(fact @State.countRead_keep)])

theorem State.track_landSorted {o : DieOp} : (s.track o).LandSorted ↔ s.LandSorted :=
  landSorted_iff_of_land_eq (by simp only [(fact @State.track_keep)])

theorem State.pollReady_landSorted {k : Nat} : (s.pollReady k).LandSorted ↔ s.LandSorted :=
  landSorted_iff_of_land_eq (by simp only [(fact @State.pollReady_keep)])

theorem State.readRb_landSorted {ch : Nat} {rbN : Bool} : (s.readRb ch rbN).LandSorted ↔ s.LandSorted :=
  landSorted_iff_of_land_eq (by simp only [(fact @State.readRb_keep)])

theorem State.coldDebt_landSorted {w : WSet} : (s.coldDebt w).LandSorted ↔ s.LandSorted :=
  landSorted_iff_of_land_eq (by simp only [(fact @State.coldDebt_keep)])

theorem State.condemn_landSorted {o : DieOp} : (s.condemn o).LandSorted ↔ s.LandSorted :=
  landSorted_iff_of_land_eq (by simp only [(fact @State.condemn_keep)])

theorem State.factoryMarks_landSorted {ch : Nat} {a : DieAnswer} : (s.factoryMarks ch a).LandSorted ↔ s.LandSorted :=
  landSorted_iff_of_land_eq (by simp only [(fact @State.factoryMarks_keep)])

theorem State.dieNotUsed_landSorted {ch : Nat} {a : DieAnswer} {why : Nat} : (s.dieNotUsed ch a why).LandSorted ↔ s.LandSorted :=
  landSorted_iff_of_land_eq (by simp only [(fact @State.dieNotUsed_keep)])

theorem State.rateFallback_landSorted {ch : Nat} : (s.rateFallback ch).LandSorted ↔ s.LandSorted :=
  landSorted_iff_of_land_eq (by simp only [(fact @State.rateFallback_keep)])

theorem State.finishLosses_landSorted {ch : Nat} : (s.finishLosses ch).LandSorted ↔ s.LandSorted :=
  landSorted_iff_of_land_eq (by simp only [(fact @State.finishLosses_keep)])

theorem State.setDies_landSorted {ch step : Nat} {rs : List StepReading} : (s.setDies ch step rs).LandSorted ↔ s.LandSorted :=
  landSorted_iff_of_land_eq (by simp only [(fact @State.setDies_keep)])

theorem State.keepSettings_landSorted {ch : Nat} : (s.keepSettings ch).LandSorted ↔ s.LandSorted :=
  landSorted_iff_of_land_eq (by simp only [(fact @State.keepSettings_keep)])

theorem State.livePasses_landSorted {ch k : Nat} {read write : List (Nat × Nat)} :
    (s.livePasses ch k read write).LandSorted ↔ s.LandSorted :=
  landSorted_iff_of_land_eq (by simp only [(fact @State.livePasses_keep)])

theorem State.rejected_landSorted {f : Frame} {id : Nat} : (s.rejected f id).LandSorted ↔ s.LandSorted :=
  landSorted_iff_of_land_eq (by simp only [(fact @State.rejected_keep)])

theorem State.acceptRecord_landSorted : s.acceptRecord.LandSorted ↔ s.LandSorted :=
  landSorted_iff_of_land_eq (by simp only [(fact @State.acceptRecord_keep)])

theorem State.reloadCounts_landSorted {g : Nat} : (s.reloadCounts g).LandSorted ↔ s.LandSorted :=
  landSorted_iff_of_land_eq (by simp only [(fact @State.reloadCounts_keep)])

theorem State.mapError_landSorted {sev row g : Nat} : (s.mapError sev row g).LandSorted ↔ s.LandSorted :=
  landSorted_iff_of_land_eq (by simp only [(fact @State.mapError_keep)])

theorem State.loseLeaf_landSorted {c : Nat} : (s.loseLeaf c).LandSorted ↔ s.LandSorted :=
  landSorted_iff_of_land_eq (by simp only [(fact @State.loseLeaf_keep)])

theorem State.noteCorrection_landSorted {dev row : Nat} : (s.noteCorrection dev row).LandSorted ↔ s.LandSorted :=
  landSorted_iff_of_land_eq (by simp only [(fact @State.noteCorrection_keep)])

theorem State.spoilLine_landSorted {line : Nat} : (s.spoilLine line).LandSorted ↔ s.LandSorted :=
  landSorted_iff_of_land_eq (by simp only [(fact @State.spoilLine_keep)])

theorem State.modGather_landSorted {tag : Nat} {g : GatherS → GatherS} : (s.modGather tag g).LandSorted ↔ s.LandSorted :=
  landSorted_iff_of_land_eq (by simp only [(fact @State.modGather_keep)])

theorem State.placeWindow_landSorted {tag : Nat} {t : TagE} {table : List Nat} : (s.placeWindow tag t table).LandSorted ↔ s.LandSorted :=
  landSorted_iff_of_land_eq (by simp only [(fact @State.placeWindow_keep)])

theorem State.dieQueueParity_landSorted {i : Nat} : (s.dieQueueParity i).LandSorted ↔ s.LandSorted :=
  landSorted_iff_of_land_eq (by simp only [(fact @State.dieQueueParity_keep)])

theorem State.noteReread_landSorted {t : TagE} {row : Nat} : (s.noteReread t row).LandSorted ↔ s.LandSorted :=
  landSorted_iff_of_land_eq (by simp only [(fact @State.noteReread_keep)])

theorem State.aer_landSorted {c : Nat} {a : AerLog} : (s.aer c a).LandSorted ↔ s.LandSorted :=
  landSorted_iff_of_land_eq (by simp only [(fact @State.aer_keep)])

theorem State.cfsOf_landSorted {c : Cntl} : (s.cfsOf c).LandSorted ↔ s.LandSorted :=
  landSorted_iff_of_land_eq (by simp only [(fact @State.cfsOf_keep)])

theorem State.opKeys_landSorted {o : SlicedOp} : (s.opKeys o).LandSorted ↔ s.LandSorted :=
  landSorted_iff_of_land_eq (by simp only [(fact @State.opKeys_keep)])

theorem State.opCache_landSorted {o : SlicedOp} : (s.opCache o).LandSorted ↔ s.LandSorted :=
  landSorted_iff_of_land_eq (by simp only [(fact @State.opCache_keep)])

theorem State.freeSomeSegs_landSorted {nsids : List Nat} : (s.freeSomeSegs nsids).LandSorted ↔ s.LandSorted :=
  landSorted_iff_of_land_eq (by simp only [(fact @State.freeSomeSegs_keep)])

theorem State.commitUnmaps_landSorted {g : Grove} {cs : List GranChange} : (s.commitUnmaps g cs).LandSorted ↔ s.LandSorted :=
  landSorted_iff_of_land_eq (by simp only [(fact @State.commitUnmaps_keep)])

theorem State.endSet_landSorted {n : Nat} : (s.endSet n).LandSorted ↔ s.LandSorted :=
  landSorted_iff_of_land_eq (by simp only [(fact @State.endSet_keep)])

theorem State.commitCompact_landSorted {g : Grove} {cs : List GranChange} : (s.commitCompact g cs).LandSorted ↔ s.LandSorted :=
  landSorted_iff_of_land_eq (by simp only [(fact @State.commitCompact_keep)])

theorem State.startSpill_landSorted {g : Grove} : (s.startSpill g).LandSorted ↔ s.LandSorted :=
  landSorted_iff_of_land_eq (by simp only [(fact @State.startSpill_keep)])

theorem State.genEnd_landSorted {g : Grove} {start : Qword} {root : Ploc} : (s.genEnd g start root).LandSorted ↔ s.LandSorted :=
  landSorted_iff_of_land_eq (by simp only [(fact @State.genEnd_keep)])

theorem State.replayRec_landSorted {g : Grove} {r : JRec} : (s.replayRec g r).LandSorted ↔ s.LandSorted :=
  landSorted_iff_of_land_eq (by simp only [(fact @State.replayRec_keep)])

theorem State.warmRebuild_landSorted {g : Grove} : (s.warmRebuild g).LandSorted ↔ s.LandSorted :=
  landSorted_iff_of_land_eq (by simp only [(fact @State.warmRebuild_keep)])

theorem State.finishRetirements_landSorted {g : Grove} : (s.finishRetirements g).LandSorted ↔ s.LandSorted :=
  landSorted_iff_of_land_eq (by simp only [(fact @State.finishRetirements_keep)])

theorem State.halfReads_landSorted : s.halfReads.LandSorted ↔ s.LandSorted :=
  landSorted_iff_of_land_eq (by simp only [(fact @State.halfReads_keep)])

theorem State.repairBitmap_landSorted {g : Grove} {bad : List Nat} {b : Nat × Nat} :
    (s.repairBitmap g bad b).LandSorted ↔ s.LandSorted :=
  landSorted_iff_of_land_eq (by simp only [(fact @State.repairBitmap_keep)])

theorem State.formDomains_landSorted {g : Grove} : (s.formDomains g).LandSorted ↔ s.LandSorted :=
  landSorted_iff_of_land_eq (by simp only [(fact @State.formDomains_keep)])

theorem State.firstU0_landSorted : s.firstU0.LandSorted ↔ s.LandSorted :=
  landSorted_iff_of_land_eq (by simp only [(fact @State.firstU0_keep)])

theorem State.regenKey_landSorted {nsid : Nat} {x : NsS} : (s.regenKey nsid x).LandSorted ↔ s.LandSorted :=
  landSorted_iff_of_land_eq (by simp only [(fact @State.regenKey_keep)])

theorem State.sizeLeafCache_landSorted : s.sizeLeafCache.LandSorted ↔ s.LandSorted :=
  landSorted_iff_of_land_eq (by simp only [(fact @State.sizeLeafCache_keep)])

theorem State.mapFatal_landSorted {g : Grove} {q : Nat} : (s.mapFatal g q).LandSorted ↔ s.LandSorted :=
  landSorted_iff_of_land_eq (by simp only [(fact @State.mapFatal_keep)])

theorem State.olderWear_landSorted {g : Grove} : (s.olderWear g).LandSorted ↔ s.LandSorted :=
  landSorted_iff_of_land_eq (by simp only [(fact @State.olderWear_keep)])

theorem State.recomputeRebuild_landSorted {g : Grove} : (s.recomputeRebuild g).LandSorted ↔ s.LandSorted :=
  landSorted_iff_of_land_eq (by simp only [(fact @State.recomputeRebuild_keep)])

theorem State.releaseWrites_landSorted {v : Nat} : (s.releaseWrites v).LandSorted ↔ s.LandSorted :=
  landSorted_iff_of_land_eq (by simp only [(fact @State.releaseWrites_keep)])

theorem State.activationFails_landSorted {part release : Nat} : (s.activationFails part release).LandSorted ↔ s.LandSorted :=
  landSorted_iff_of_land_eq (by simp only [(fact @State.activationFails_keep)])

theorem State.beginHandover_landSorted {cause : Nat} {oldRuns : Bool} {release : Option Nat} :
    (s.beginHandover cause oldRuns release).LandSorted ↔ s.LandSorted :=
  landSorted_iff_of_land_eq (by simp only [(fact @State.beginHandover_keep)])

theorem State.askHandover_landSorted {cause : Nat} {release : Option Nat} : (s.askHandover cause release).LandSorted ↔ s.LandSorted :=
  landSorted_iff_of_land_eq (by simp only [(fact @State.askHandover_keep)])

theorem State.handoverDone_landSorted {hd : Handover} : (s.handoverDone hd).LandSorted ↔ s.LandSorted :=
  landSorted_iff_of_land_eq (by simp only [(fact @State.handoverDone_keep)])

theorem State.valuesTaken_landSorted {rs : List CfgRec} {oldRate oldBurst : Nat} :
    (s.valuesTaken rs oldRate oldBurst).LandSorted ↔ s.LandSorted :=
  landSorted_iff_of_land_eq (by simp only [(fact @State.valuesTaken_keep)])

theorem State.runTallyRead_landSorted {f : Frame} {tier count start : Nat} :
    (s.runTallyRead f tier count start).LandSorted ↔ s.LandSorted :=
  landSorted_iff_of_land_eq (by simp only [(fact @State.runTallyRead_keep)])

theorem State.runHealthRead_landSorted {f : Frame} {page : Nat} : (s.runHealthRead f page).LandSorted ↔ s.LandSorted :=
  landSorted_iff_of_land_eq (by simp only [(fact @State.runHealthRead_keep)])

theorem State.runRawDiag_landSorted {f : Frame} {p : Ploc} {offset length : Nat} :
    (s.runRawDiag f p offset length).LandSorted ↔ s.LandSorted :=
  landSorted_iff_of_land_eq (by simp only [(fact @State.runRawDiag_keep)])

theorem State.runRecoveryStatus_landSorted {f : Frame} : (s.runRecoveryStatus f).LandSorted ↔ s.LandSorted :=
  landSorted_iff_of_land_eq (by simp only [(fact @State.runRecoveryStatus_keep)])

theorem State.dropHandover_landSorted : s.dropHandover.LandSorted ↔ s.LandSorted :=
  landSorted_iff_of_land_eq (by simp only [(fact @State.dropHandover_keep)])

theorem State.reportLost_landSorted {d : ReplayDamage} {xs : List ReplayItem} : (s.reportLost d xs).LandSorted ↔ s.LandSorted :=
  landSorted_iff_of_land_eq (by simp only [(fact @State.reportLost_keep)])

theorem State.chooseReplay_landSorted {d : ReplayDamage} : (s.chooseReplay d).LandSorted ↔ s.LandSorted :=
  landSorted_iff_of_land_eq (by simp only [(fact @State.chooseReplay_keep)])

theorem State.noteConflict_landSorted : s.noteConflict.LandSorted ↔ s.LandSorted :=
  landSorted_iff_of_land_eq (by simp only [(fact @State.noteConflict_keep)])

theorem State.commitSvn_landSorted : s.commitSvn.LandSorted ↔ s.LandSorted :=
  landSorted_iff_of_land_eq (by simp only [(fact @State.commitSvn_keep)])

theorem State.refuseToken_landSorted {f : Frame} {code : Nat} : (s.refuseToken f code).LandSorted ↔ s.LandSorted :=
  landSorted_iff_of_land_eq (by simp only [(fact @State.refuseToken_keep)])

theorem State.openSession_landSorted {t : DebugToken} : (s.openSession t).LandSorted ↔ s.LandSorted :=
  landSorted_iff_of_land_eq (by simp only [(fact @State.openSession_keep)])

theorem State.runParamRead_landSorted {f : Frame} {id inst : Nat} : (s.runParamRead f id inst).LandSorted ↔ s.LandSorted :=
  landSorted_iff_of_land_eq (by simp only [(fact @State.runParamRead_keep)])

theorem State.runWindowRead_landSorted {f : Frame} {id inst : Nat} : (s.runWindowRead f id inst).LandSorted ↔ s.LandSorted :=
  landSorted_iff_of_land_eq (by simp only [(fact @State.runWindowRead_keep)])

theorem State.tap_landSorted {ir : Byte} {out : Dword} : (s.tap ir out).LandSorted ↔ s.LandSorted :=
  landSorted_iff_of_land_eq (by simp only [(fact @State.tap_keep)])

theorem State.tapBypass_landSorted : s.tapBypass.LandSorted ↔ s.LandSorted :=
  landSorted_iff_of_land_eq (by simp only [(fact @State.tapBypass_keep)])

theorem State.runChallenge_landSorted {f : Frame} : (s.runChallenge f).LandSorted ↔ s.LandSorted :=
  landSorted_iff_of_land_eq (by simp only [(fact @State.runChallenge_keep)])

theorem State.runClose_landSorted {f : Frame} : (s.runClose f).LandSorted ↔ s.LandSorted :=
  landSorted_iff_of_land_eq (by simp only [(fact @State.runClose_keep)])

theorem State.moveRegions_landSorted : s.moveRegions.LandSorted ↔ s.LandSorted :=
  landSorted_iff_of_land_eq (by simp only [(fact @State.moveRegions_keep)])

theorem State.moveDumps_landSorted : s.moveDumps.LandSorted ↔ s.LandSorted :=
  landSorted_iff_of_land_eq (by simp only [(fact @State.moveDumps_keep)])

theorem State.noteU0_landSorted {d : DomId} : (s.noteU0 d).LandSorted ↔ s.LandSorted :=
  landSorted_iff_of_land_eq (by simp only [(fact @State.noteU0_keep)])

theorem State.dirtyStrays_landSorted : s.dirtyStrays.LandSorted ↔ s.LandSorted :=
  landSorted_iff_of_land_eq (by simp only [(fact @State.dirtyStrays_keep)])

theorem State.standAnswer_landSorted {f : Frame} {o : Option Nat} : (s.standAnswer f o).LandSorted ↔ s.LandSorted :=
  landSorted_iff_of_land_eq (by simp only [(fact @State.standAnswer_keep)])

theorem State.runDelete_landSorted {f : Frame} {d : StandDesc} : (s.runDelete f d).LandSorted ↔ s.LandSorted :=
  landSorted_iff_of_land_eq (by simp only [(fact @State.runDelete_keep)])

theorem State.standKeys_landSorted {st : Nat} : (s.standKeys st).LandSorted ↔ s.LandSorted :=
  landSorted_iff_of_land_eq (by simp only [(fact @State.standKeys_keep)])

theorem State.runAttach_landSorted {f : Frame} {a : AttachWord} : (s.runAttach f a).LandSorted ↔ s.LandSorted :=
  landSorted_iff_of_land_eq (by simp only [(fact @State.runAttach_keep)])

theorem State.runQuery_landSorted {f : Frame} {d : StandDesc} : (s.runQuery f d).LandSorted ↔ s.LandSorted :=
  landSorted_iff_of_land_eq (by simp only [(fact @State.runQuery_keep)])

theorem State.runImageBegin_landSorted {f : Frame} {target length : Nat} : (s.runImageBegin f target length).LandSorted ↔ s.LandSorted :=
  landSorted_iff_of_land_eq (by simp only [(fact @State.runImageBegin_keep)])

theorem State.runImageChunk_landSorted {f : Frame} {offset count : Nat} {hdr : Option StreamHeader} {norFails : Bool} :
    (s.runImageChunk f offset count hdr norFails).LandSorted ↔ s.LandSorted :=
  landSorted_iff_of_land_eq (by simp only [(fact @State.runImageChunk_keep)])

theorem State.runImageEnd_landSorted {f : Frame} {norFails digestOk : Bool} :
    (s.runImageEnd f norFails digestOk).LandSorted ↔ s.LandSorted :=
  landSorted_iff_of_land_eq (by simp only [(fact @State.runImageEnd_keep)])

theorem State.runCommitImage_landSorted {f : Frame} {mgmtNow ftlNow : Bool} :
    (s.runCommitImage f mgmtNow ftlNow).LandSorted ↔ s.LandSorted :=
  landSorted_iff_of_land_eq (by simp only [(fact @State.runCommitImage_keep)])

theorem State.runCommitConfiguration_landSorted {f : Frame} {mgmtNow ftlNow : Bool} :
    (s.runCommitConfiguration f mgmtNow ftlNow).LandSorted ↔ s.LandSorted :=
  landSorted_iff_of_land_eq (by simp only [(fact @State.runCommitConfiguration_keep)])

theorem State.runRaiseFloor_landSorted {f : Frame} : (s.runRaiseFloor f).LandSorted ↔ s.LandSorted :=
  landSorted_iff_of_land_eq (by simp only [(fact @State.runRaiseFloor_keep)])

theorem State.runRestoreSpare_landSorted {f : Frame} {norFails : Bool} : (s.runRestoreSpare f norFails).LandSorted ↔ s.LandSorted :=
  landSorted_iff_of_land_eq (by simp only [(fact @State.runRestoreSpare_keep)])

theorem State.dapOut_landSorted {v : Dword} : (s.dapOut v).LandSorted ↔ s.LandSorted :=
  landSorted_iff_of_land_eq (by simp only [(fact @State.dapOut_keep)])

theorem State.dapFree_landSorted : s.dapFree.LandSorted ↔ s.LandSorted :=
  landSorted_iff_of_land_eq (by simp only [(fact @State.dapFree_keep)])

theorem State.setHalt_landSorted {f : Session → Session} : (s.setHalt f).LandSorted ↔ s.LandSorted :=
  landSorted_iff_of_land_eq (by simp only [(fact @State.setHalt_keep)])

theorem State.pulse_landSorted {ns : Option Nat} : (s.pulse ns).2.LandSorted ↔ s.LandSorted :=
  landSorted_iff_of_land_eq (by simp only [(fact @State.pulse_keep)])

/-! ## Landing: the allocator -/

theorem State.takeLag_landSorted {r : CordRes} (h : s.LandSorted) : (s.takeLag r).LandSorted := by
  simp only [State.takeLag]
  split
  all_goals simp only [landSorted_mk, sorted_land_lines, h]

theorem State.takeLags_landSorted (h : s.LandSorted) : s.takeLags.LandSorted := by
  rw [State.takeLags]
  split
  · exact h
  · exact foldl_landSorted (fun _ _ ha => State.takeLag_landSorted ha) h

theorem State.raiseLags_landSorted {old : State} (h : s.LandSorted) : (State.raiseLags old s).LandSorted :=
  State.takeLags_landSorted h

theorem State.grant_landSorted {r : CordReq} {own : Nat} (h : s.LandSorted) : (s.grant r own).LandSorted := by
  simp only [State.grant, landSorted_mk, sorted_land_lines, h]

theorem State.askCords_landSorted {r : CordReq} (h : s.LandSorted) : (s.askCords r).LandSorted := by
  simp only [State.askCords]
  repeat' split
  all_goals simp only [State.grant_landSorted, landSorted_mk, sorted_land_lines, h]

theorem State.landFreed_landSorted {l : LandS} (hl : sorted l.lines) : (s.landFreed l).LandSorted := by
  have h1 : ({ s with land := l }).takeLags.LandSorted := State.takeLags_landSorted hl
  simp only [State.landFreed]
  split
  · exact State.recordHw_landSorted.2 h1
  · exact h1

theorem State.freeCords_landSorted {u : CordUser} (h : s.LandSorted) : (s.freeCords u).LandSorted := by
  simp only [State.freeCords, State.landFreed_landSorted, LandS_free_sorted, sorted_land_lines, h]

theorem State.freeThese_landSorted {cs : List Nat} (h : s.LandSorted) : (s.freeThese cs).LandSorted := by
  simp only [State.freeThese]
  split
  all_goals simp only [State.landFreed_landSorted, LandS_freeSome_sorted, sorted_land_lines, h]

/-! ## Tags, completion and events -/

theorem State.freeTag_landSorted {tag : Nat} (h : s.LandSorted) : (s.freeTag tag).LandSorted := by
  simp only [State.freeTag]
  repeat' split
  all_goals simp only [State.freeCords_landSorted, State.fetchQueue_landSorted, landSorted_mk, sorted_land_lines, h]

theorem State.completeOne_landSorted {tag : Nat} {st : Status} {dw0 : Dword} {data : Payload} {ep : List Nat} (h : s.LandSorted) :
    (s.completeOne tag st dw0 data ep).LandSorted := by
  simp only [State.completeOne]
  repeat' split
  all_goals simp only [State.freeTag_landSorted, State.freeCords_landSorted, landSorted_mk, sorted_land_lines, h]

theorem State.sweepFlushes_landSorted (h : s.LandSorted) : s.sweepFlushes.LandSorted :=
  foldl_landSorted (fun _ _ ha => State.completeOne_landSorted ha) h

theorem State.complete_landSorted {tag : Nat} {st : Status} {dw0 : Dword} {data : Payload} {ep : List Nat} (h : s.LandSorted) :
    (s.complete tag st dw0 data ep).LandSorted := by
  simp only [State.complete, State.sweepFlushes_landSorted, State.completeOne_landSorted, h]

theorem State.failTag_landSorted {tag : Nat} {st : Status} (h : s.LandSorted) : (s.failTag tag st).LandSorted := by
  simp only [State.failTag, State.complete_landSorted, h]

theorem State.dropCommands_landSorted {p : Cntl → Bool} (h : s.LandSorted) : (s.dropCommands p).LandSorted :=
  foldl_landSorted (fun _ _ ha => State.freeCords_landSorted ha) h

theorem State.resetFuncs_landSorted {p : Cntl → Bool} {keepPci : Bool} (h : s.LandSorted) : (s.resetFuncs p keepPci).LandSorted := by
  simp only [State.resetFuncs, State.dropCommands_landSorted, landSorted_mk, sorted_land_lines, h]

theorem State.deliverEvent_landSorted {c : Nat} {ev : AsyncEv} (h : s.LandSorted) : (s.deliverEvent c ev).LandSorted := by
  simp only [State.deliverEvent]
  repeat' split
  all_goals simp only [State.complete_landSorted, landSorted_mk, sorted_land_lines, h]

theorem State.raiseEvent_landSorted {cs : List Nat} {typ info page : Nat} (h : s.LandSorted) : (s.raiseEvent cs typ info page).LandSorted :=
  foldl_landSorted (fun _ _ ha => by
    dsimp only
    split
    · simp only [State.deliverEvent_landSorted, ha, landSorted_mk, sorted_land_lines]
    · exact ha) h

theorem State.nsChanged_landSorted {cs nsids : List Nat} (h : s.LandSorted) : (s.nsChanged cs nsids).LandSorted := by
  refine State.raiseEvent_landSorted ?_
  simp only [State.noteChange_landSorted]
  exact foldl_landSorted (fun _ _ ha => ha) h

/-! ## Operations of the dies, and leases -/

theorem State.issueRead_landSorted {o : DieOp} {l0 : Bool} {port : Option Port} (h : s.LandSorted) :
    (s.issueRead o l0 port).LandSorted := by
  simp only [State.issueRead, State.askCords_landSorted, State.addOp_landSorted, h]

theorem State.dropOp_landSorted {i : Nat} (h : s.LandSorted) : (s.dropOp i).LandSorted := by
  simp only [State.dropOp]
  split
  all_goals simp only [State.freeCords_landSorted, landSorted_mk, sorted_land_lines, h]

theorem State.readLeaf_landSorted {lpn : Nat} (h : s.LandSorted) : (s.readLeaf lpn).LandSorted := by
  simp only [State.readLeaf]
  repeat' split
  all_goals simp only [State.issueRead_landSorted, landSorted_mk, sorted_land_lines, h]

theorem State.endLease_landSorted {p : Port} {cause : Nat} (h : s.LandSorted) : (s.endLease p cause).LandSorted := by
  have hf : ∀ (l : List Nat) (a : State), a.LandSorted → (l.foldl (fun a i => a.readLeaf i) a).LandSorted :=
    fun _ _ ha => foldl_landSorted (fun _ _ hb => State.readLeaf_landSorted hb) ha
  simp only [State.endLease]
  repeat' split
  all_goals simp only [h, hf, State.complete_landSorted, landSorted_mk, sorted_land_lines]

theorem State.stopLease_landSorted {p : Port} {cause : Nat} (h : s.LandSorted) : (s.stopLease p cause).LandSorted := by
  simp only [State.stopLease]
  split
  all_goals simp only [State.endLease_landSorted, landSorted_mk, sorted_land_lines, h]

theorem State.leaseOver_landSorted {p : Port} (h : s.LandSorted) : (s.leaseOver p).LandSorted := by
  simp only [State.leaseOver]
  repeat' split
  all_goals simp only [State.endLease_landSorted, h]

/-! ## The write cache -/

theorem State.sweepOnce_landSorted (h : s.LandSorted) : s.sweepOnce.LandSorted :=
  foldl_landSorted (fun _ _ ha => State.complete_landSorted ha) h

theorem State.sweepTags_landSorted (h : s.LandSorted) : s.sweepTags.LandSorted := by
  simp only [State.sweepTags, State.sweepOnce_landSorted, h]

theorem State.freeGroups_landSorted (h : s.LandSorted) : s.freeGroups.LandSorted := by
  simp only [State.freeGroups]
  split
  all_goals simp only [State.eraseReplayed_landSorted, State.sweepTags_landSorted, landSorted_mk, sorted_land_lines, h]

/-! ## Windrow sets -/

theorem State.dropCopies_landSorted {ps : List Ploc} (h : s.LandSorted) : (s.dropCopies ps).LandSorted := by
  simp only [State.dropCopies, State.freeThese_landSorted, landSorted_mk, sorted_land_lines, h]

theorem State.giveBack_landSorted {items : List Item} (h : s.LandSorted) : (s.giveBack items).LandSorted := by
  simp only [State.giveBack, State.dropCopies_landSorted, landSorted_mk, sorted_land_lines, h]

theorem State.askMember_landSorted {n rb c pages : Nat} (h : s.LandSorted) : (s.askMember n rb c pages).LandSorted :=
  foldl_landSorted (fun _ _ ha => State.askCords_landSorted ha) h

theorem State.issueProgram_landSorted {n : Nat} {w : WSet} {c : Nat} (h : s.LandSorted) : (s.issueProgram n w c).LandSorted := by
  simp only [State.issueProgram, State.askMember_landSorted, State.addOp_landSorted, h]

theorem State.startSet_landSorted {n : Nat} (h : s.LandSorted) : (s.startSet n).LandSorted := by
  rw [State.startSet]
  split
  · exact h
  split
  · exact h
  · simp only [State.countShare_landSorted, State.hotDebt_landSorted]
    exact foldl_landSorted (fun _ _ ha => State.issueProgram_landSorted ha) h

theorem State.startIfReady_landSorted {n : Nat} (h : s.LandSorted) : (s.startIfReady n).LandSorted := by
  simp only [State.startIfReady]
  repeat' split
  all_goals simp only [State.startSet_landSorted, h]

theorem State.startWaiting_landSorted {g : Grove} (h : s.LandSorted) : (s.startWaiting g).LandSorted :=
  foldl_landSorted (fun _ _ ha => State.startIfReady_landSorted ha) h

theorem State.placeOnce_landSorted {st : StandNo} {k : WpClass} {d : DomId} (h : s.LandSorted) : (s.placeOnce st k d).LandSorted := by
  simp only [State.placeOnce]
  repeat' split
  all_goals simp only [State.beginSet_landSorted, State.startIfReady_landSorted, landSorted_mk, sorted_land_lines, h]

theorem State.forceRounds_landSorted {st : StandNo} {k : WpClass} {d : DomId} {cov : Dword → Bool} {n : Nat} (h : s.LandSorted) :
    (State.forceRounds st k d cov n s).LandSorted := by
  induction n generalizing s with
  | zero => exact h
  | succ n ih =>
    have hp := State.placeOnce_landSorted (st := st) (k := k) (d := d) h
    rw [State.forceRounds]
    split
    · exact h
    · extract_lets s1 s2
      have h2 : s2.LandSorted := by
        simp only [s2]
        split
        · exact State.startSet_landSorted hp
        · exact hp
      split
      · exact ih h2
      · exact h2

theorem State.placeIn_landSorted {st : StandNo} {k : WpClass} {d : DomId} (h : s.LandSorted) : (s.placeIn st k d).LandSorted := by
  simp only [State.placeIn]
  split
  all_goals simp only [State.placeOnce_landSorted, State.forceRounds_landSorted, h]

theorem State.forceSet_landSorted {n : Nat} {cov : Dword → Bool} (h : s.LandSorted) : (s.forceSet n cov).LandSorted := by
  simp only [State.forceSet]
  repeat' split
  · exact h
  · exact h
  · exact State.forceRounds_landSorted (State.startSet_landSorted (State.placeIn_landSorted h))

theorem State.forceSets_landSorted {p : WSet → Bool} {cov : Dword → Bool} (h : s.LandSorted) : (s.forceSets p cov).LandSorted :=
  foldl_landSorted (fun _ _ ha => State.forceSet_landSorted ha) h

theorem State.abandonSet_landSorted {n : Nat} (h : s.LandSorted) : (s.abandonSet n).LandSorted := by
  simp only [State.abandonSet]
  split
  · exact h
  · exact State.giveBack_landSorted
      (State.freeCords_landSorted (foldl_landSorted (fun _ _ ha => State.dropOp_landSorted ha) h))

theorem State.closeRow_landSorted {rb : Nat} (h : s.LandSorted) : (s.closeRow rb).LandSorted := by
  simp only [State.closeRow, State.closeRb_landSorted]
  exact foldl_landSorted (fun _ _ ha => State.abandonSet_landSorted ha) h

theorem State.failSet_landSorted {n : Nat} (h : s.LandSorted) : (s.failSet n).LandSorted := by
  rw [State.failSet]
  split
  · exact h
  · exact State.startWaiting_landSorted (State.closeRow_landSorted (State.abandonSet_landSorted h))

theorem State.completeSet_landSorted {n : Nat} (h : s.LandSorted) : (s.completeSet n).LandSorted := by
  unfold State.completeSet
  split
  · exact h
  extract_lets content named gs m media fl s1 s2 s3
  have h1 : s1.LandSorted := State.freeCords_landSorted h
  have h2 : s2.LandSorted := foldl_landSorted (fun _ _ ha => State.queueGroup_landSorted.2 ha) h1
  have h3 : s3.LandSorted := by
    simp only [s3]
    split
    · exact State.closeRow_landSorted h2
    · exact h2
  split
  · exact foldl_landSorted (fun _ _ ha => State.wearCheck_landSorted.2 (State.spillCheck_landSorted.2 ha)) h3
  · exact h3

/-! ## Reads -/

theorem State.askTag_landSorted {tag n : Nat} {p : Port} {l0 : Bool} {charged : Option Port} (h : s.LandSorted) :
    (s.askTag tag n p l0 charged).LandSorted :=
  foldl_landSorted (fun _ _ ha => State.askCords_landSorted ha) h

theorem State.resolveBlocks_landSorted {tag : Nat} {t : TagE} {f : RwFields} {n : NsS} (h : s.LandSorted) :
    (s.resolveBlocks tag t f n).LandSorted := by
  have h1 : ∀ l : List (List Nat), (l.foldl (unitStep tag f.nsid.toNat f.slba n t) (s, [])).1.LandSorted := fun l =>
    foldlp_landSorted (fun _ _ ha => unitStep_landSorted.2 ha) h
  exact foldl_landSorted (fun _ _ ha => State.issueRead_landSorted ha) (State.askTag_landSorted (h1 _))

theorem State.resolveRead_landSorted {tag : Nat} (h : s.LandSorted) : (s.resolveRead tag).LandSorted := by
  simp only [State.resolveRead]
  repeat' split
  all_goals simp only [State.resolveBlocks_landSorted, State.forceSets_landSorted, State.modTag_landSorted, h]

theorem startCtxs_landSorted {n tag : Nat} (h : s.LandSorted) : (startCtxs n s tag).LandSorted := by
  induction n generalizing s with
  | zero => exact h
  | succ n ih =>
    simp only [startCtxs]
    repeat' split
    all_goals simp only [h, ih, State.modTag_landSorted, landSorted_mk, sorted_land_lines]

theorem State.beginTransfer_landSorted {tag blocks : Nat} (h : s.LandSorted) : (s.beginTransfer tag blocks).LandSorted := by
  simp only [State.beginTransfer, startCtxs_landSorted, State.modTag_landSorted, h]

theorem State.loadCords_landSorted {tag : Nat} {t : TagE} {f : RwFields} (h : s.LandSorted) : (s.loadCords tag t f).LandSorted := by
  simp only [State.loadCords, State.modTag_landSorted, landSorted_mk]
  exact landFoldl_lines_sorted (fun _ _ hl => by
    split
    · exact LandS_setBlockMarked_sorted _ _ _ hl
    · exact hl) h

theorem State.loadCompare_landSorted {tag : Nat} {f : RwFields} (h : s.LandSorted) : (s.loadCompare tag f).LandSorted := by
  simp only [State.loadCompare]
  split
  all_goals simp only [LandS_setBlocks_sorted, landSorted_mk, sorted_land_lines, h]

theorem State.readArrived_landSorted {tag : Nat} (h : s.LandSorted) : (s.readArrived tag).LandSorted := by
  simp only [State.readArrived]
  repeat' split
  · exact h
  · exact h
  · exact h
  · exact State.failTag_landSorted h
  · exact State.beginTransfer_landSorted (State.loadCompare_landSorted (State.loadCords_landSorted h))
  · exact State.beginTransfer_landSorted (State.loadCords_landSorted h)

theorem State.continueRead_landSorted {tag : Nat} (h : s.LandSorted) : (s.continueRead tag).LandSorted := by
  simp only [State.continueRead, State.readArrived_landSorted, State.resolveRead_landSorted, h]

theorem State.resumeReads_landSorted (h : s.LandSorted) : s.resumeReads.LandSorted :=
  foldl_landSorted (fun _ _ ha => State.continueRead_landSorted ha) h

theorem State.feedCtxs_landSorted (h : s.LandSorted) : s.feedCtxs.LandSorted := by
  refine foldl_landSorted (fun _ _ ha => startCtxs_landSorted ha) ?_
  split
  · exact h
  · rw [landSorted_mk, LandS.runCtxs_lines, sorted_land_lines]
    exact h

/-! ## Power-loss protection -/

theorem State.plpTo_landSorted {st : PlpState} (h : s.LandSorted) : (s.plpTo st).LandSorted := by
  simp only [State.plpTo]
  repeat' split
  all_goals simp only [State.record_landSorted, State.nsChanged_landSorted, State.forceSets_landSorted, landSorted_mk, sorted_land_lines,
    h]

theorem State.recheckPlp_landSorted (h : s.LandSorted) : s.recheckPlp.LandSorted := by
  simp only [State.recheckPlp, State.plpTo_landSorted, h]

theorem State.recheckDumps_landSorted (h : s.LandSorted) : s.recheckDumps.LandSorted := by
  simp only [State.recheckDumps, State.recheckPlp_landSorted, State.extendSets_landSorted, State.replaceSets_landSorted, h]

/-! ## The dump -/

theorem State.askDump_landSorted {g : Nat} (h : s.LandSorted) : (s.askDump g).LandSorted := by
  rw [State.askDump]
  split
  · exact h
  · exact foldl_landSorted (fun _ _ ha => foldl_landSorted (fun _ _ hb => State.askCords_landSorted hb) ha) h

theorem State.dumpBegin_landSorted (h : s.LandSorted) : s.dumpBegin.LandSorted :=
  foldl_landSorted (fun _ _ ha => State.askDump_landSorted (State.takeSet_landSorted.2 ha)) h

theorem State.dumpSlotsOut_landSorted (h : s.LandSorted) : s.dumpSlotsOut.LandSorted :=
  foldl_landSorted (fun _ _ ha => State.freeCords_landSorted ha) (foldl_landSorted (fun _ _ ha => by split <;> exact ha) h)

theorem State.dumpAll_landSorted (h : s.LandSorted) : s.dumpAll.LandSorted := by
  simp only [State.dumpAll]
  split
  all_goals simp only [State.dumpSlotsOut_landSorted, State.dumpHeaders_landSorted, State.dumpBegin_landSorted, h]

theorem State.controlledStop_landSorted {dramCh : Option Nat} (h : s.LandSorted) : (s.controlledStop dramCh).LandSorted := by
  simp only [State.controlledStop]
  repeat' split
  all_goals simp only [State.recordHw_landSorted, State.dumpAll_landSorted, State.fail_landSorted, State.latchPads_landSorted, h]

/-! ## Power states -/

theorem State.beginEntry_landSorted (h : s.LandSorted) : s.beginEntry.LandSorted := by
  simp only [State.beginEntry, State.forceSets_landSorted, landSorted_mk, sorted_land_lines, h]

theorem State.losePowered_landSorted : s.losePowered.LandSorted := sorted_nil

theorem State.enterPs4_landSorted : s.enterPs4.LandSorted := by
  simp only [State.enterPs4, State.selfRefresh_landSorted, State.losePowered_landSorted, landSorted_mk, sorted_land_lines]

/-! ## Reset and boot -/

theorem State.clearUnits_landSorted {por : Bool} : (s.clearUnits por).LandSorted := sorted_nil

theorem State.newLeaseKey_landSorted (h : s.LandSorted) : s.newLeaseKey.LandSorted := by
  simp only [State.newLeaseKey, State.stopLease_landSorted, landSorted_mk, sorted_land_lines, h]

theorem State.rmaFinish_landSorted (h : s.LandSorted) : s.rmaFinish.LandSorted := by
  simp only [State.rmaFinish, State.newLeaseKey_landSorted, State.record_landSorted, landSorted_mk, sorted_land_lines, h]

theorem State.rmaGoOn_landSorted (h : s.LandSorted) : s.rmaGoOn.LandSorted := by
  simp only [State.rmaGoOn]
  split
  all_goals simp only [State.rmaFinish_landSorted, h]

theorem State.resumeIntent_landSorted (h : s.LandSorted) : s.resumeIntent.LandSorted := by
  simp only [State.resumeIntent]
  repeat' split
  all_goals simp only [State.burnSeal_landSorted, State.rmaGoOn_landSorted, landSorted_mk, sorted_land_lines, h]

theorem State.startFirmware_landSorted {w : Nat} {hd : ImageHeader} (h : s.LandSorted) : (s.startFirmware w hd).LandSorted := by
  simp only [State.startFirmware, State.applyCfg_landSorted, State.resumeIntent_landSorted, State.checkRecords_landSorted,
    State.recordBoot_landSorted, State.recordTally_landSorted, State.recordStart_landSorted, landSorted_mk, sorted_land_lines, h]

theorem State.bootFrom_landSorted {slot : Option Nat} (h : s.LandSorted) : (s.bootFrom slot).LandSorted := by
  simp only [State.bootFrom]
  repeat' split
  all_goals simp only [State.enterRecovery_landSorted, State.startFirmware_landSorted, h]

theorem State.bootSlots_landSorted {norAnswers : Bool} (h : s.LandSorted) : (s.bootSlots norAnswers).LandSorted := by
  simp only [State.bootSlots, State.bootFrom_landSorted, State.noteSlots_landSorted, h]

theorem State.romBoot_landSorted {norAnswers : Bool} (h : s.LandSorted) : (s.romBoot norAnswers).LandSorted := by
  simp only [State.romBoot]
  split
  all_goals simp only [State.readLayout_landSorted, State.enterRecovery_landSorted, State.pllLocked_landSorted,
    State.bootSlots_landSorted, State.trainPorts_landSorted, h]

/-! ## Copies staged for a move -/

theorem State.badCopy_landSorted {p : Ploc} (h : s.LandSorted) : (s.badCopy p).LandSorted := by
  simp only [State.badCopy]
  split
  all_goals simp only [State.dropCopies_landSorted, State.poisonEvent_landSorted, landSorted_mk, sorted_land_lines, h]

theorem State.dropBadCopies_landSorted {n : Nat} {ps : List Ploc} (h : s.LandSorted) : (s.dropBadCopies n ps).LandSorted := by
  simp only [State.dropBadCopies]
  split
  · exact h
  · exact foldl_landSorted (fun _ _ ha => State.badCopy_landSorted ha) h

theorem State.stageMember_landSorted {n : Nat} {ch : Chan} (h : s.LandSorted) : (s.stageMember n ch).LandSorted := by
  have h1 : ∀ ps, (s.dropBadCopies n ps).LandSorted := fun _ => State.dropBadCopies_landSorted h
  simp only [State.stageMember]
  repeat' split
  · exact h
  · exact h1 _
  · exact State.dropCopies_landSorted (landFoldl_lines_sorted (fun _ _ hl => LandS_setBlockMarked_sorted _ _ _ hl) (h1 _))

theorem State.refetch_landSorted {n : Nat} {ch : Chan} {p : Ploc} (h : s.LandSorted) : (s.refetch n ch p).LandSorted := by
  simp only [State.refetch]
  repeat' split
  all_goals simp only [State.poisonEvent_landSorted, State.poisonSlot_landSorted, State.badCopy_landSorted, landSorted_mk,
    sorted_land_lines, h]

theorem State.sendPage_landSorted {n : Nat} {ch : Chan} (h : s.LandSorted) : (s.sendPage n ch).LandSorted :=
  State.freeThese_landSorted (foldl_landSorted (fun _ _ ha => State.refetch_landSorted ha) h)

theorem State.tidyCopies_landSorted (h : s.LandSorted) : s.tidyCopies.LandSorted :=
  State.freeThese_landSorted (foldl_landSorted (fun _ _ ha => State.badCopy_landSorted ha) (State.dropCopies_landSorted h))

theorem State.forceLast_landSorted (h : s.LandSorted) : s.forceLast.LandSorted := by
  simp only [State.forceLast, State.tidyCopies_landSorted, State.forceSets_landSorted, h]

/-! ## Reads that fail, and losses of dies and channels -/

theorem State.donePos_landSorted {i pos : Nat} (h : s.LandSorted) : (s.donePos i pos).LandSorted := by
  simp only [State.donePos]
  split
  · exact h
  split
  · refine State.dropOp_landSorted ?_
    repeat' split
    all_goals exact h
  · exact h

theorem State.issueFor_landSorted {o : DieOp} {w : OpFor} (h : s.LandSorted) : (s.issueFor o w).LandSorted := by
  simp only [State.issueFor]
  split
  all_goals simp only [State.issueRead_landSorted, h]

theorem State.forkPos_landSorted {i pos step : Nat} {stage : OpStage} (h : s.LandSorted) : (s.forkPos i pos step stage).LandSorted := by
  simp only [State.forkPos]
  repeat' split
  all_goals simp only [State.donePos_landSorted, State.issueFor_landSorted, landSorted_mk, sorted_land_lines, h]

theorem State.landCw_landSorted {cord : Option Nat} {b : Option Block} (h : s.LandSorted) : (s.landCw cord b).LandSorted := by
  simp only [State.landCw]
  split
  all_goals simp only [LandS_setBlock_sorted, landSorted_mk, sorted_land_lines, h]

theorem State.toTag_landSorted {tag lba : Nat} {r : Option Block} (h : s.LandSorted) : (s.toTag tag lba r).LandSorted := by
  simp only [State.toTag]
  repeat' split
  all_goals simp only [State.readArrived_landSorted, State.modTag_landSorted, h]

theorem State.deliverData_landSorted {i pos : Nat} (h : s.LandSorted) : (s.deliverData i pos).LandSorted := by
  have hc : ∀ c b, (s.landCw c b).LandSorted := fun _ _ => State.landCw_landSorted h
  simp only [State.deliverData]
  split
  · exact h
  split
  · refine State.toTag_landSorted (State.donePos_landSorted ?_)
    exact State.modTag_landSorted.2 (hc _ _)
  · exact State.toTag_landSorted (State.donePos_landSorted (hc _ _))
  · exact State.resumeReads_landSorted (landSorted_mk.2 (State.donePos_landSorted h))
  · refine State.resumeReads_landSorted ?_
    exact State.repaired_landSorted.2 (State.donePos_landSorted h)
  · refine State.forceLast_landSorted (landSorted_mk.2 (State.donePos_landSorted ?_))
    repeat' split
    all_goals simp only [hc, State.poisonEvent_landSorted, landSorted_mk, sorted_land_lines]
  · exact State.donePos_landSorted h

theorem State.leafFaults_landSorted {lpn : Nat} (h : s.LandSorted) : (s.leafFaults lpn).LandSorted :=
  foldl_landSorted (fun _ _ ha => foldl_landSorted (fun _ _ hb => State.toTag_landSorted hb) ha) h

theorem State.readSlab_landSorted {g : Grove} {key : Nat} (h : s.LandSorted) : (s.readSlab g key).LandSorted := by
  simp only [State.readSlab]
  split
  all_goals simp only [State.issueRead_landSorted, h]

theorem State.uncorrectable_landSorted {i pos : Nat} (h : s.LandSorted) : (s.uncorrectable i pos).LandSorted := by
  unfold State.uncorrectable
  split
  · exact h
  extract_lets p s2 s3
  have h3 : s3.LandSorted := by
    simp only [s3, s2, State.wantRelocation_landSorted]
    split
    · exact State.stepSix_landSorted.2 h
    · exact State.poisonAt_landSorted.2 (State.stepSix_landSorted.2 h)
  clear_value s3
  have hd := State.donePos_landSorted (i := i) (pos := pos) h3
  split
  · exact State.toTag_landSorted hd
  · exact State.toTag_landSorted hd
  · split
    · exact State.leafFaults_landSorted hd
    · exact State.recordHw_landSorted.2 (State.poisonLeafPage_landSorted.2 hd)
  · split
    · exact State.readSlab_landSorted hd
    · exact State.resumeReads_landSorted (State.slabLost_landSorted.2 hd)
  · split
    · exact State.forceLast_landSorted hd
    · exact State.forceLast_landSorted hd
  · exact hd

theorem State.reconRead_landSorted {i : Nat} {o : DieOp} {pos x : Nat} (h : s.LandSorted) : (s.reconRead i o pos x).LandSorted := by
  simp only [State.reconRead, State.issueFor_landSorted, landSorted_mk, sorted_land_lines, h]

theorem State.noWay_landSorted {i pos : Nat} (h : s.LandSorted) : (s.noWay i pos).LandSorted := by
  simp only [State.noWay]
  repeat' split
  all_goals simp only [State.waitChannels_landSorted, State.uncorrectable_landSorted, h]

theorem State.startRecon_landSorted {i : Nat} (h : s.LandSorted) : (s.startRecon i).LandSorted := by
  simp only [State.startRecon]
  repeat' split
  · exact h
  · exact h
  · exact State.noWay_landSorted h
  · exact State.waitChannels_landSorted.2 h
  · exact State.noWay_landSorted (State.beginRecon_landSorted.2 h)
  · exact foldl_landSorted (fun _ _ ha => State.reconRead_landSorted ha) (State.beginRecon_landSorted.2 h)

theorem State.reconAll_landSorted {i : Nat} (h : s.LandSorted) : (s.reconAll i).LandSorted := by
  rw [State.reconAll]
  split
  · exact h
  · exact foldl_landSorted (fun _ _ ha => State.startRecon_landSorted (State.forkPos_landSorted ha)) h

theorem State.dropRecon_landSorted {parent pos : Nat} (h : s.LandSorted) : (s.dropRecon parent pos).LandSorted :=
  foldl_landSorted (fun _ _ ha => State.dropOp_landSorted ha) h

theorem State.reconFailed_landSorted {parent pos : Nat} {fault : Bool} (h : s.LandSorted) :
    (s.reconFailed parent pos fault).LandSorted := by
  simp only [State.reconFailed, State.dropRecon_landSorted, State.noWay_landSorted, landSorted_mk, sorted_land_lines, h]

theorem State.reconWaits_landSorted {parent pos : Nat} (h : s.LandSorted) : (s.reconWaits parent pos).LandSorted := by
  simp only [State.reconWaits, State.waitChannels_landSorted, State.dropRecon_landSorted, h]

theorem State.recovered_landSorted {i pos : Nat} (h : s.LandSorted) : (s.recovered i pos).LandSorted := by
  simp only [State.recovered]
  repeat' split
  all_goals simp only [State.wantRelocation_landSorted, State.donePos_landSorted, State.reconFailed_landSorted,
    State.deliverData_landSorted, h]

theorem State.climb_landSorted {i pos : Nat} (h : s.LandSorted) : (s.climb i pos).LandSorted := by
  simp only [State.climb]
  repeat' split
  all_goals simp only [State.forkPos_landSorted, State.reconFailed_landSorted, State.stepSix_landSorted, State.startRecon_landSorted,
    landSorted_mk, sorted_land_lines, h]

theorem State.freeDumpSets_landSorted (h : s.LandSorted) : s.freeDumpSets.LandSorted := by
  simp only [State.freeDumpSets]
  split
  all_goals simp only [State.recheckPlp_landSorted, State.recheckDumps_landSorted, landSorted_mk, sorted_land_lines, h]

theorem State.finishErase_landSorted {rb : Nat} (h : s.LandSorted) : (s.finishErase rb).LandSorted := by
  simp only [State.finishErase]
  repeat' split
  all_goals simp only [State.retireBlocks_landSorted, State.clearDebts_landSorted, State.freeDumpSets_landSorted,
    State.beginWear_landSorted, State.refillRegions_landSorted, State.recheckSpare_landSorted, landSorted_mk, sorted_land_lines, h]

theorem State.eraseCheck_landSorted {rb : Nat} (h : s.LandSorted) : (s.eraseCheck rb).LandSorted := by
  simp only [State.eraseCheck]
  split
  all_goals simp only [State.finishErase_landSorted, h]

theorem State.enterTraining_landSorted {ch : Nat} {down : Bool} (h : s.LandSorted) :
    (s.enterTraining ch down).LandSorted := by
  unfold State.enterTraining
  extract_lets c rate s1 s2
  have h2 : s2.LandSorted := by
    simp only [s2, s1]
    split
    · exact h
    · exact State.recordHw_landSorted.2 (landSorted_mk.2 h)
  refine foldl_landSorted (fun _ _ ha => ?_) h2
  split
  · exact ha
  · exact ha
  · exact State.reconAll_landSorted ha

theorem State.beginTraining_landSorted {ch : Nat} {down : Bool} (h : s.LandSorted) : (s.beginTraining ch down).LandSorted := by
  simp only [State.beginTraining]
  split
  all_goals simp only [State.enterTraining_landSorted, landSorted_mk, sorted_land_lines, h]

theorem State.nextTurn_landSorted {g : Nat} (h : s.LandSorted) : (s.nextTurn g).LandSorted := by
  simp only [State.nextTurn]
  repeat' split
  all_goals simp only [State.enterTraining_landSorted, h]

theorem State.stepDown_landSorted {ch : Nat} (h : s.LandSorted) : (s.stepDown ch).LandSorted := by
  simp only [State.stepDown]
  split
  all_goals simp only [State.beginTraining_landSorted, h]

theorem State.climbAfresh_landSorted {i : Nat} (h : s.LandSorted) : (s.climbAfresh i).LandSorted := by
  simp only [State.climbAfresh]
  repeat' split
  all_goals simp only [State.startRecon_landSorted, landSorted_mk, sorted_land_lines, h]

theorem State.wakeWaiting_landSorted (h : s.LandSorted) : s.wakeWaiting.LandSorted := by
  refine foldl_landSorted (fun _ _ ha => ?_) h
  repeat' split
  · exact State.climbAfresh_landSorted ha
  · exact State.climbAfresh_landSorted (State.reconWaits_landSorted ha)
  · exact State.climbAfresh_landSorted ha

theorem State.rawGone_landSorted {i : Nat} (h : s.LandSorted) : (s.rawGone i).LandSorted := by
  simp only [State.rawGone]
  repeat' split
  all_goals simp only [State.rawOutcome_landSorted, State.dropOp_landSorted, h]

theorem State.withdrawOps_landSorted {ch : Nat} {die : Option Nat} (h : s.LandSorted) :
    (s.withdrawOps ch die).LandSorted := by
  refine foldl_landSorted (fun _ _ ha => ?_) (foldl_landSorted (fun _ _ ha => State.failSet_landSorted ha) h)
  repeat' split
  · exact State.eraseCheck_landSorted (State.dropOp_landSorted ha)
  · exact State.dropOp_landSorted ha
  · exact State.dropOp_landSorted ha
  · exact State.reconWaits_landSorted ha
  · exact State.rawGone_landSorted ha
  · exact State.reconAll_landSorted ha

theorem State.closeGrove_landSorted {g : Nat} (h : s.LandSorted) : (s.closeGrove g).LandSorted :=
  foldl_landSorted (fun _ _ ha => State.closeRow_landSorted ha) (foldl_landSorted (fun _ _ ha => State.abandonSet_landSorted ha) h)

theorem State.afterLoss_landSorted {ch : Nat} {die : Option Nat} {set : List Nat} (h : s.LandSorted) :
    (s.afterLoss ch die set).LandSorted := by
  simp only [State.afterLoss]
  split
  all_goals simp only [State.noteRebuild_landSorted, State.recheckSpare_landSorted, State.recheckDumps_landSorted,
    State.redoUnits_landSorted, State.markAbsent_landSorted, landSorted_mk, sorted_land_lines, h]

theorem State.retireChannel_landSorted {ch cause : Nat} (h : s.LandSorted) : (s.retireChannel ch cause).LandSorted := by
  simp only [State.retireChannel]
  split
  · exact h
  · refine State.wakeWaiting_landSorted (State.nextTurn_landSorted (State.afterLoss_landSorted
      (State.closeGrove_landSorted (State.withdrawOps_landSorted ?_))))
    simpa only [landSorted_mk, sorted_land_lines, State.recordHw_landSorted] using h

theorem State.failDie_landSorted {ch die : Nat} (h : s.LandSorted) : (s.failDie ch die).LandSorted := by
  simp only [State.failDie]
  split
  · exact h
  · refine State.wakeWaiting_landSorted (State.afterLoss_landSorted (State.closeGrove_landSorted (State.withdrawOps_landSorted ?_)))
    exact State.recordHw_landSorted.2 (landSorted_mk.2 h)

theorem State.countFault_landSorted {ch die : Nat} (h : s.LandSorted) : (s.countFault ch die).LandSorted := by
  simp only [State.countFault]
  repeat' split
  all_goals simp only [State.failDie_landSorted, State.retireChannel_landSorted, landSorted_mk, sorted_land_lines, h]

theorem State.channelFault_landSorted {i : Nat} (h : s.LandSorted) : (s.channelFault i).LandSorted := by
  rw [State.channelFault]
  split
  · exact h
  refine State.countFault_landSorted ?_
  repeat' split
  all_goals simp only [h, State.dropOp_landSorted, State.failSet_landSorted, State.reconFailed_landSorted, State.rawGone_landSorted,
    State.reconAll_landSorted, landSorted_mk, sorted_land_lines]

theorem State.upset_landSorted {i row : Nat} (h : s.LandSorted) : (s.upset i row).LandSorted := by
  unfold State.upset
  split
  · exact h
  extract_lets s1
  have h1 : s1.LandSorted := State.noteUpset_landSorted.2 h
  split
  · exact State.channelFault_landSorted h1
  · exact landSorted_mk.2 h1

/-! ## Waking up -/

theorem State.checkBulk_landSorted {ok : Bool} (h : s.LandSorted) : (s.checkBulk ok).LandSorted := by
  simp only [State.checkBulk]
  split
  all_goals simp only [State.record_landSorted, State.endLease_landSorted, landSorted_mk, sorted_land_lines, h]

theorem State.checkChannel_landSorted {c : Chan} (h : s.LandSorted) : (s.checkChannel c).LandSorted := by
  simp only [State.checkChannel]
  split
  all_goals simp only [State.beginTraining_landSorted, State.record_landSorted, h]

theorem State.checkDram_landSorted {ok : Bool} (h : s.LandSorted) : (s.checkDram ok).LandSorted := by
  simp only [State.checkDram]
  split
  all_goals simp only [State.controlledStop_landSorted, State.record_landSorted, h]

theorem State.wakeUp_landSorted {ps : Nat} {w : WakeChecks} (h : s.LandSorted) : (s.wakeUp ps w).LandSorted := by
  refine State.checkDram_landSorted (foldl_landSorted (fun _ _ ha => State.checkChannel_landSorted ha) (foldl_landSorted (fun _ _ ha => ?_)
    (State.checkBulk_landSorted ?_)))
  · exact State.checkGrove_landSorted.2 ha
  · exact State.checkDigest_landSorted.2 (landSorted_mk.2 h)

theorem State.fullWake_landSorted {w : WakeChecks} (h : s.LandSorted) : (s.fullWake w).LandSorted := by
  simp only [State.fullWake]
  repeat' split
  all_goals simp only [State.wakeEnd_landSorted, State.wakeUp_landSorted, State.leaveIdle_landSorted, State.recheckPower_landSorted,
    landSorted_mk, sorted_land_lines, h]

theorem State.takePin_landSorted : s.takePin.LandSorted := by
  simp only [State.takePin, State.clearUnits_landSorted, landSorted_mk, sorted_land_lines]

/-! ## Rows of the host ports -/

theorem State.portReset_landSorted {p : Port} {cause : Nat} {f : PortS → PortS} (h : s.LandSorted) :
    (s.portReset p cause f).LandSorted := by
  simp only [State.portReset, State.resetFuncs_landSorted, State.endLease_landSorted, State.recheckPower_landSorted, landSorted_mk,
    sorted_land_lines, h]

theorem execPerstAssert_landSorted {p : Port} (h : s.LandSorted) : NextLandSorted (execPerstAssert p s) := by
  simp only [execPerstAssert, nextLandSorted_next, State.portReset_landSorted, h]

theorem execPerstDeassert_landSorted {p : Port} {w : WakeChecks} (h : s.LandSorted) : NextLandSorted (execPerstDeassert p w s) := by
  simp only [execPerstDeassert, nextLandSorted_next]
  repeat' split
  all_goals simp only [State.fullWake_landSorted, landSorted_mk, sorted_land_lines, h]

theorem execHotReset_landSorted {p : Port} (h : s.LandSorted) : NextLandSorted (execHotReset p s) := by
  simp only [execHotReset, nextLandSorted_next]
  split
  all_goals simp only [State.portReset_landSorted, h]

theorem execDataLinkDown_landSorted {p : Port} (h : s.LandSorted) : NextLandSorted (execDataLinkDown p s) := by
  simp only [execDataLinkDown, nextLandSorted_next]
  split
  all_goals simp only [State.portReset_landSorted, h]

theorem execLinkL1Exit_landSorted {p : Port} {w : WakeChecks} (h : s.LandSorted) : NextLandSorted (execLinkL1Exit p w s) := by
  simp only [execLinkL1Exit, nextLandSorted_next]
  split
  all_goals simp only [State.fullWake_landSorted, landSorted_mk, sorted_land_lines, h]

theorem execFunctionLevelReset_landSorted {c : Cntl} (h : s.LandSorted) : NextLandSorted (execFunctionLevelReset c s) := by
  simp only [execFunctionLevelReset, nextLandSorted_next]
  repeat' split
  all_goals simp only [State.touchLink_landSorted, State.portReset_landSorted, State.resetFuncs_landSorted, h]

theorem execCcEnClear_landSorted {c : Cntl} (h : s.LandSorted) : NextLandSorted (execCcEnClear c s) := by
  simp only [execCcEnClear, nextLandSorted_next]
  repeat' split
  all_goals simp only [State.endLease_landSorted, State.resetFuncs_landSorted, State.touchLink_landSorted, State.noteChange_landSorted,
    landSorted_mk, sorted_land_lines, h]

theorem execRegisterWrite_landSorted {r : RegId} {v : Qword} (h : s.LandSorted) : NextLandSorted (execRegisterWrite r v s) := by
  simp only [execRegisterWrite, nextLandSorted_next]
  repeat' split
  all_goals simp only [State.touchLink_landSorted, State.resetFuncs_landSorted, landSorted_mk, sorted_land_lines, h]

theorem postHeld_landSorted {n c q : Nat} (h : s.LandSorted) : (postHeld n s c q).LandSorted := by
  induction n generalizing s with
  | zero => exact h
  | succ n ih =>
    simp only [postHeld]
    repeat' split
    all_goals simp only [h, ih, State.freeTag_landSorted, landSorted_mk, sorted_land_lines]

theorem execCqHeadDoorbell_landSorted {c : Cntl} {cq head : Nat} (h : s.LandSorted) :
    NextLandSorted (execCqHeadDoorbell c cq head s) := by
  simp only [execCqHeadDoorbell, nextLandSorted_next]
  repeat' split
  all_goals simp only [State.touchLink_landSorted, State.sweepFlushes_landSorted, postHeld_landSorted, landSorted_mk, sorted_land_lines,
    h]

/-! ## Transfers to and from the host -/

theorem State.issueTlps_landSorted {p : Port} {l : List Tlp} (h : s.LandSorted) : (s.issueTlps p l).LandSorted := by
  simp only [State.issueTlps, landSorted_mk, sorted_land_lines, h]

theorem State.fetchData_landSorted {t : TagE} {len : Nat} (h : s.LandSorted) : (s.fetchData t len).LandSorted := by
  simp only [State.fetchData, State.issueTlps_landSorted, h]

theorem State.returnData_landSorted {tag : Nat} {t : TagE} {len : Nat} {dw0 : Dword} {data : Payload} (h : s.LandSorted) :
    (s.returnData tag t len dw0 data).LandSorted := by
  simp only [State.returnData, State.complete_landSorted, State.issueTlps_landSorted, h]

/-! ## Administration commands: what they share -/

theorem State.adminCords_landSorted {tag : Nat} {t : TagE} (h : s.LandSorted) : (s.adminCords tag t).LandSorted := by
  simp only [State.adminCords]
  repeat' split
  all_goals simp only [State.askTag_landSorted, h]

theorem State.adminTaken_landSorted {tag : Nat} {t : TagE} (h : s.LandSorted) : (s.adminTaken tag t).LandSorted := by
  simp only [State.adminTaken]
  split
  all_goals simp only [State.adminCords_landSorted, State.fetchData_landSorted, h]

theorem State.withData_landSorted {tag : Nat} {t : TagE} {run : State → TagE → State} (h : s.LandSorted)
    (hr : ∀ a t, a.LandSorted → (run a t).LandSorted) :
    (s.withData tag t run).LandSorted :=
  State.withData_ind (P := fun a => a.LandSorted) (fun _ => State.complete_landSorted h) (State.adminCords_landSorted h)
    (hr s t h) (hr _ t (State.adminTaken_landSorted h))

theorem State.adminGate_landSorted {tag : Nat} {run : State → TagE → State} (h : s.LandSorted)
    (hr : ∀ a t, a.LandSorted → (run a t).LandSorted) :
    (s.adminGate tag run).LandSorted :=
  State.adminGate_ind (P := fun a => a.LandSorted) h (fun _ => State.complete_landSorted h) (fun t => hr s t h)

theorem State.admin_landSorted {tag : Nat} {run : State → TagE → State} (h : s.LandSorted)
    (hr : ∀ a t, a.LandSorted → (run a t).LandSorted) :
    (s.admin tag run).LandSorted :=
  State.adminGate_landSorted h fun _ _ ha => State.withData_landSorted ha hr

theorem State.adminPf_landSorted {tag : Nat} {run : State → TagE → State} (h : s.LandSorted)
    (hr : ∀ a t, a.LandSorted → (run a t).LandSorted) :
    (s.adminPf tag run).LandSorted :=
  State.adminGate_landSorted h fun _ t ha => by
    split
    · exact State.withData_landSorted ha hr
    · exact State.complete_landSorted ha

theorem State.attachNs_landSorted {nsid : Nat} {cs : List Nat} (h : s.LandSorted) : (s.attachNs nsid cs).LandSorted := by
  simp only [State.attachNs, State.nsChanged_landSorted, State.journal_landSorted, landSorted_mk, sorted_land_lines, h]

theorem State.detachNs_landSorted {nsid : Nat} {cs : List Nat} (h : s.LandSorted) : (s.detachNs nsid cs).LandSorted := by
  simp only [State.detachNs, State.nsChanged_landSorted, State.journal_landSorted, landSorted_mk, sorted_land_lines, h]

theorem State.setFeature_landSorted {tag fid : Nat} {run : State → TagE → Dword → Dword → BitVec 128 → State} (h : s.LandSorted)
    (hr : ∀ a t v i d, a.LandSorted → (run a t v i d).LandSorted) :
    (s.setFeature tag fid run).LandSorted :=
  State.admin_landSorted h fun a t ha => by
    repeat' split
    all_goals simp only [ha, hr, State.complete_landSorted, State.recheckPower_landSorted]

theorem State.keepFeature_landSorted {tag : Nat} {t : TagE} {key : Nat} {v dw0 : Dword} (h : s.LandSorted) :
    (s.keepFeature tag t key v dw0).LandSorted := by
  simp only [State.keepFeature, State.complete_landSorted, landSorted_mk, sorted_land_lines, h]

/-! ## I/O commands: what they share -/

theorem State.onNs_landSorted {tag : Nat} {t : TagE} {nsid : Dword} {a : Access} {run : NsS → State} (h : s.LandSorted)
    (hr : ∀ x, (run x).LandSorted) :
    (s.onNs tag t nsid a run).LandSorted := by
  simp only [State.onNs]
  repeat' split
  all_goals simp only [hr, State.complete_landSorted, h]

theorem State.withPtr_landSorted {tag : Nat} {t : TagE} {len : Nat} {toDev : Bool} {run : State → State} (h : s.LandSorted)
    (hr : ∀ a, a.LandSorted → (run a).LandSorted) :
    (s.withPtr tag t len toDev run).LandSorted := by
  simp only [State.withPtr]
  repeat' split
  all_goals simp only [h, hr, State.complete_landSorted, State.fetchData_landSorted]

theorem State.beginRead_landSorted {tag : Nat} {f : RwFields} (h : s.LandSorted) : (s.beginRead tag f).LandSorted := by
  simp only [State.beginRead, State.continueRead_landSorted, State.modTag_landSorted, h]

theorem State.doRead_landSorted {tag : Nat} {t : TagE} {f : RwFields} (h : s.LandSorted) : (s.doRead tag t f).LandSorted :=
  State.onNs_landSorted h fun x => by
    split
    · exact State.complete_landSorted h
    · exact State.beginRead_landSorted h

theorem State.failWrite_landSorted {tag : Nat} {st : Status} (h : s.LandSorted) : (s.failWrite tag st).LandSorted := by
  simp only [State.failWrite]
  split
  all_goals simp only [State.modTag_landSorted, State.returnCharge_landSorted, State.feedCtxs_landSorted, State.complete_landSorted,
    landSorted_mk, sorted_land_lines, h]

theorem State.abortTag_landSorted {k : Nat} {x : TagE} {st : Status} (h : s.LandSorted) : (s.abortTag k x st).LandSorted := by
  simp only [State.abortTag]
  split
  all_goals simp only [State.failWrite_landSorted, State.complete_landSorted, h]

theorem State.pullWrite_landSorted {tag : Nat} {_t : TagE} {f : RwFields} (h : s.LandSorted) : (s.pullWrite tag _t f).LandSorted := by
  simp only [State.pullWrite]
  split
  all_goals simp only [State.failWrite_landSorted, State.beginTransfer_landSorted, State.modTag_landSorted, LandS_setBlocks_sorted,
    landSorted_mk, sorted_land_lines, h]

theorem State.pullData_landSorted {tag : Nat} (h : s.LandSorted) : (s.pullData tag).LandSorted := by
  simp only [State.pullData]
  repeat' split
  all_goals simp only [State.pullWrite_landSorted, h]

theorem State.beginWrite_landSorted {tag : Nat} {t : TagE} {f : RwFields} {x : NsS} (h : s.LandSorted) :
    (s.beginWrite tag t f x).LandSorted := by
  unfold State.beginWrite
  extract_lets n
  split
  · exact h
  next s1 qs e =>
    have h1 : s1.LandSorted := by
      rw [show s1 = _ from State.writeGroups_keep e]
      exact h
    refine State.pullData_landSorted (State.askTag_landSorted ?_)
    exact State.modTag_landSorted.2 (State.charge_landSorted.2 h1)

theorem State.doWrite_landSorted {tag : Nat} {t : TagE} {f : RwFields} (h : s.LandSorted) : (s.doWrite tag t f).LandSorted :=
  State.onNs_landSorted h fun x => by
    split
    · exact State.complete_landSorted h
    · exact State.beginWrite_landSorted h

theorem State.inheritFlushes_landSorted (h : s.LandSorted) : s.inheritFlushes.LandSorted := by
  simp only [State.inheritFlushes]
  split
  all_goals simp only [State.forceSets_landSorted, landSorted_mk, sorted_land_lines, h]

theorem State.publishWrite_landSorted {tag : Nat} {t : TagE} (h : s.LandSorted) : (s.publishWrite tag t).LandSorted := by
  unfold State.publishWrite
  extract_lets s1 s2 s3
  have h2 : s2.LandSorted := by
    refine State.freeCords_landSorted ?_
    simp only [State.modTag_landSorted, State.returnCharge_landSorted]
    exact State.inheritFlushes_landSorted h
  have h3 : s3.LandSorted := by
    simp only [s3]
    split
    · exact h2
    · exact State.complete_landSorted h2
  simp only [State.recheckSpare_landSorted]
  exact State.freeGroups_landSorted h3

theorem State.dealloc_landSorted {tag nsid : Nat} {x : NsS} {rs : List LbaRange} (h : s.LandSorted) :
    (s.dealloc tag nsid x rs).LandSorted := by
  simp only [State.dealloc]
  repeat' split
  all_goals simp only [State.modTag_landSorted, State.queueChanges_landSorted, State.addCommits_landSorted, State.complete_landSorted,
    landSorted_mk, sorted_land_lines, h]

theorem State.doDsm_landSorted {tag : Nat} {t : TagE} {nsid : Dword} {ad : Bool} {ranges : List DsmRange} (h : s.LandSorted) :
    (s.doDsm tag t nsid ad ranges).LandSorted :=
  State.onNs_landSorted h fun x => State.withPtr_landSorted h fun a ha => by
    split
    · exact State.complete_landSorted ha
    dsimp only
    split
    · exact State.complete_landSorted ha
    · exact State.dealloc_landSorted ha

theorem State.rsvNotify_landSorted {nsid typ : Nat} {x : NsS} {hosts : List (BitVec 128)} (h : s.LandSorted) :
    (s.rsvNotify nsid typ x hosts).LandSorted :=
  State.raiseEvent_landSorted (foldl_landSorted (fun _ _ ha => ha) h)

theorem State.doRegister_landSorted {tag : Nat} {hd : BitVec 128} {nsid : Nat} {x : NsS} {act : RregAction} {iekey : Bool}
    {ptpl : PtplChange} {crkey nrkey : Qword} (h : s.LandSorted) :
    (s.doRegister tag hd nsid x act iekey ptpl crkey nrkey).LandSorted := by
  simp only [State.doRegister]
  repeat' split
  all_goals simp only [State.complete_landSorted, State.putNs_landSorted, State.rsvNotify_landSorted, h]

theorem State.abortOf_landSorted {nsid : Nat} {hosts : List (BitVec 128)} (h : s.LandSorted) : (s.abortOf nsid hosts).LandSorted :=
  foldl_landSorted (fun _ _ ha => State.abortTag_landSorted ha) h

theorem State.doAcquire_landSorted {tag : Nat} {hd : BitVec 128} {nsid : Nat} {x : NsS} {act : RacqAction} {iekey : Bool} {rtype : RsvType}
    {crkey prkey : Qword} (h : s.LandSorted) : (s.doAcquire tag hd nsid x act iekey rtype crkey prkey).LandSorted := by
  have hp : ∀ y, (s.putNs nsid y).LandSorted := fun y => State.putNs_landSorted.2 h
  unfold State.doAcquire
  split
  · exact State.complete_landSorted h
  split
  · unfold State.LandSorted
    repeat' split
    all_goals simp only [h, hp, State.complete_landSorted, sorted_land_lines]
  · extract_lets out wins
    split
    · exact State.complete_landSorted h
    next x1 x2 s1 s2 s3 _ =>
      have h1 : s1.LandSorted := State.rsvNotify_landSorted (hp _)
      have h2 : s2.LandSorted := by
        simp only [s2]
        split
        · exact State.rsvNotify_landSorted h1
        · exact h1
      refine State.complete_landSorted ?_
      simp only [s3]
      split
      · exact State.abortOf_landSorted h2
      · exact h2

theorem State.doRelease_landSorted {tag : Nat} {hd : BitVec 128} {nsid : Nat} {x : NsS} {clear iekey : Bool} {rtype : RsvType}
    {crkey : Qword} (h : s.LandSorted) :
    (s.doRelease tag hd nsid x clear iekey rtype crkey).LandSorted := by
  simp only [State.doRelease]
  repeat' split
  all_goals simp only [State.complete_landSorted, State.rsvNotify_landSorted, State.putNs_landSorted, h]

/-! ## Rows of the administration commands -/

theorem execCreateIoCq_landSorted {tag : Nat} (h : s.LandSorted) : NextLandSorted (execCreateIoCq tag s) := by
  refine nextLandSorted_next.2 (State.admin_landSorted h fun a t ha => ?_)
  repeat' split
  all_goals simp only [State.complete_landSorted, landSorted_mk, sorted_land_lines, ha]

theorem execCreateIoSq_landSorted {tag : Nat} (h : s.LandSorted) : NextLandSorted (execCreateIoSq tag s) := by
  refine nextLandSorted_next.2 (State.admin_landSorted h fun a t ha => ?_)
  repeat' split
  all_goals simp only [State.complete_landSorted, landSorted_mk, sorted_land_lines, ha]

theorem execDeleteIoSq_landSorted {tag : Nat} (h : s.LandSorted) : NextLandSorted (execDeleteIoSq tag s) := by
  refine nextLandSorted_next.2 (State.admin_landSorted h fun a t ha => ?_)
  split
  · split
    · exact State.complete_landSorted ha
    · extract_lets host s1 idle s2
      have h2 : s2.LandSorted := foldl_landSorted (fun _ _ hb => State.abortTag_landSorted hb) (landSorted_mk.2 ha)
      split
      · exact State.complete_landSorted (landSorted_mk.2 h2)
      · exact State.modTag_landSorted.2 h2
  · exact ha

theorem execDeleteIoCq_landSorted {tag : Nat} (h : s.LandSorted) : NextLandSorted (execDeleteIoCq tag s) := by
  refine nextLandSorted_next.2 (State.admin_landSorted h fun a t ha => ?_)
  repeat' split
  · exact State.complete_landSorted ha
  · exact State.complete_landSorted ha
  · refine State.complete_landSorted (landSorted_mk.2 (foldl_landSorted (fun _ _ hb => ?_) ha))
    exact State.freeTag_landSorted hb
  · exact ha

theorem execGetLogPage_landSorted {tag : Nat} (h : s.LandSorted) : NextLandSorted (execGetLogPage tag s) := by
  refine nextLandSorted_next.2 (State.admin_landSorted h fun a t ha => ?_)
  repeat' split
  all_goals simp only [State.complete_landSorted, State.snapshot_landSorted, State.returnData_landSorted, landSorted_mk,
    sorted_land_lines, ha]

theorem execIdentify_landSorted {tag : Nat} (h : s.LandSorted) : NextLandSorted (execIdentify tag s) := by
  refine nextLandSorted_next.2 (State.admin_landSorted h fun a t ha => ?_)
  dsimp only
  repeat' split
  all_goals simp only [State.returnData_landSorted, State.complete_landSorted, ha]

theorem execAbort_landSorted {tag : Nat} (h : s.LandSorted) : NextLandSorted (execAbort tag s) := by
  refine nextLandSorted_next.2 (State.admin_landSorted h fun a t ha => ?_)
  repeat' split
  all_goals simp only [State.complete_landSorted, State.abortTag_landSorted, landSorted_mk, sorted_land_lines, ha]

theorem execAsynchronousEventRequest_landSorted {tag : Nat} (h : s.LandSorted) : NextLandSorted (execAsynchronousEventRequest tag s) := by
  refine nextLandSorted_next.2 (State.admin_landSorted h fun a t ha => ?_)
  dsimp only
  repeat' split
  all_goals simp only [State.complete_landSorted, State.modTag_landSorted, landSorted_mk, sorted_land_lines, ha]

theorem execKeepAlive_landSorted {tag : Nat} (h : s.LandSorted) : NextLandSorted (execKeepAlive tag s) := by
  refine nextLandSorted_next.2 (State.admin_landSorted h fun a t ha => ?_)
  split
  all_goals simp only [State.complete_landSorted, landSorted_mk, sorted_land_lines, ha]

theorem execArbitration_landSorted {tag : Nat} (h : s.LandSorted) : NextLandSorted (execArbitration tag s) := by
  refine nextLandSorted_next.2 (State.setFeature_landSorted h fun a t v i d ha => ?_)
  simp only [State.keepFeature_landSorted, ha]

theorem execPowerManagement_landSorted {tag : Nat} (h : s.LandSorted) : NextLandSorted (execPowerManagement tag s) := by
  refine nextLandSorted_next.2 (State.setFeature_landSorted h fun a t v i d ha => ?_)
  dsimp only
  split
  all_goals simp only [State.complete_landSorted, landSorted_mk, sorted_land_lines, ha]

theorem execTemperatureThreshold_landSorted {tag : Nat} (h : s.LandSorted) : NextLandSorted (execTemperatureThreshold tag s) := by
  refine nextLandSorted_next.2 (State.setFeature_landSorted h fun a t v i d ha => ?_)
  dsimp only
  split
  all_goals simp only [State.complete_landSorted, State.keepFeature_landSorted, ha]

theorem execVolatileWriteCache_landSorted {tag : Nat} (h : s.LandSorted) : NextLandSorted (execVolatileWriteCache tag s) := by
  refine nextLandSorted_next.2 (State.setFeature_landSorted h fun a t v i d ha => ?_)
  simp only [State.keepFeature_landSorted, ha]

theorem execNumberOfQueues_landSorted {tag : Nat} (h : s.LandSorted) : NextLandSorted (execNumberOfQueues tag s) := by
  refine nextLandSorted_next.2 (State.setFeature_landSorted h fun a t v i d ha => ?_)
  repeat' split
  all_goals simp only [State.complete_landSorted, ha]

theorem execInterruptCoalescing_landSorted {tag : Nat} (h : s.LandSorted) : NextLandSorted (execInterruptCoalescing tag s) := by
  refine nextLandSorted_next.2 (State.setFeature_landSorted h fun a t v i d ha => ?_)
  simp only [State.keepFeature_landSorted, ha]

theorem execInterruptVectorConfiguration_landSorted {tag : Nat} (h : s.LandSorted) :
    NextLandSorted (execInterruptVectorConfiguration tag s) := by
  refine nextLandSorted_next.2 (State.setFeature_landSorted h fun a t v i d ha => ?_)
  dsimp only
  split
  all_goals simp only [State.complete_landSorted, State.keepFeature_landSorted, ha]

theorem execWriteAtomicityNormal_landSorted {tag : Nat} (h : s.LandSorted) : NextLandSorted (execWriteAtomicityNormal tag s) := by
  refine nextLandSorted_next.2 (State.setFeature_landSorted h fun a t v i d ha => ?_)
  simp only [State.keepFeature_landSorted, ha]

theorem execAsyncEventConfiguration_landSorted {tag : Nat} (h : s.LandSorted) : NextLandSorted (execAsyncEventConfiguration tag s) := by
  refine nextLandSorted_next.2 (State.setFeature_landSorted h fun a t v i d ha => ?_)
  simp only [State.keepFeature_landSorted, ha]

theorem execTimestamp_landSorted {tag : Nat} (h : s.LandSorted) : NextLandSorted (execTimestamp tag s) := by
  refine nextLandSorted_next.2 (State.setFeature_landSorted h fun a t v i d ha => ?_)
  simp only [State.complete_landSorted, landSorted_mk, sorted_land_lines, ha]

theorem execKeepAliveTimer_landSorted {tag : Nat} (h : s.LandSorted) : NextLandSorted (execKeepAliveTimer tag s) := by
  refine nextLandSorted_next.2 (State.setFeature_landSorted h fun a t v i d ha => ?_)
  simp only [State.keepFeature_landSorted, landSorted_mk, sorted_land_lines, ha]

theorem execHostIdentifier_landSorted {tag : Nat} (h : s.LandSorted) : NextLandSorted (execHostIdentifier tag s) := by
  refine nextLandSorted_next.2 (State.setFeature_landSorted h fun a t v i d ha => ?_)
  simp only [State.keepFeature_landSorted, landSorted_mk, sorted_land_lines, ha]

theorem execReservationNotificationMask_landSorted {tag : Nat} (h : s.LandSorted) :
    NextLandSorted (execReservationNotificationMask tag s) := by
  refine nextLandSorted_next.2 (State.setFeature_landSorted h fun a t v i d ha => ?_)
  split
  all_goals simp only [State.complete_landSorted, landSorted_mk, sorted_land_lines, ha]

theorem execReservationPersistence_landSorted {tag : Nat} (h : s.LandSorted) : NextLandSorted (execReservationPersistence tag s) := by
  refine nextLandSorted_next.2 (State.setFeature_landSorted h fun a t v i d ha => ?_)
  split
  all_goals simp only [State.complete_landSorted, State.journal_landSorted, landSorted_mk, sorted_land_lines, ha]

theorem execUnsupportedFeature_landSorted {tag : Nat} (h : s.LandSorted) : NextLandSorted (execUnsupportedFeature tag s) := by
  refine nextLandSorted_next.2 (State.admin_landSorted h fun a t ha => ?_)
  repeat' split
  all_goals simp only [State.recheckPower_landSorted, State.complete_landSorted, ha]

theorem execGetFeatures_landSorted {tag : Nat} (h : s.LandSorted) : NextLandSorted (execGetFeatures tag s) := by
  refine nextLandSorted_next.2 (State.admin_landSorted h fun a t ha => ?_)
  repeat' split
  all_goals simp only [State.returnData_landSorted, State.complete_landSorted, ha]

theorem execNamespaceCreate_landSorted {tag : Nat} (h : s.LandSorted) : NextLandSorted (execNamespaceCreate tag s) := by
  refine nextLandSorted_next.2 (State.adminPf_landSorted h fun a t ha => ?_)
  repeat' split
  all_goals simp only [State.complete_landSorted, State.recheckSpare_landSorted, State.createNs_landSorted,
    State.createInParts_landSorted, ha]

theorem execNamespaceDelete_landSorted {tag : Nat} (h : s.LandSorted) : NextLandSorted (execNamespaceDelete tag s) := by
  refine nextLandSorted_next.2 (State.adminPf_landSorted h fun a t ha => ?_)
  dsimp only
  repeat' split
  all_goals simp only [State.complete_landSorted, State.startOp_landSorted, ha]

theorem execNamespaceAttach_landSorted {tag : Nat} (h : s.LandSorted) : NextLandSorted (execNamespaceAttach tag s) := by
  refine nextLandSorted_next.2 (State.adminPf_landSorted h fun a t ha => ?_)
  repeat' split
  all_goals simp only [State.complete_landSorted, State.attachNs_landSorted, ha]

theorem execNamespaceDetach_landSorted {tag : Nat} (h : s.LandSorted) : NextLandSorted (execNamespaceDetach tag s) := by
  refine nextLandSorted_next.2 (State.adminPf_landSorted h fun a t ha => ?_)
  repeat' split
  all_goals simp only [State.complete_landSorted, State.modTag_landSorted, State.detachNs_landSorted, landSorted_mk, sorted_land_lines,
    ha]

theorem execFormatNvm_landSorted {tag : Nat} (h : s.LandSorted) : NextLandSorted (execFormatNvm tag s) := by
  refine nextLandSorted_next.2 (State.admin_landSorted h fun a t ha => ?_)
  dsimp only
  repeat' split
  all_goals simp only [State.complete_landSorted, State.startOp_landSorted, ha]

theorem State.sanitize_landSorted {tag act : Nat} {run : State → State} (h : s.LandSorted)
    (hr : ∀ a, a.LandSorted → (run a).LandSorted) :
    (s.sanitize tag act run).LandSorted :=
  State.adminPf_landSorted h fun a t ha => by
    repeat' split
    all_goals simp only [ha, hr, State.complete_landSorted]

theorem execSanitizeCryptoErase_landSorted {tag : Nat} (h : s.LandSorted) : NextLandSorted (execSanitizeCryptoErase tag s) := by
  refine nextLandSorted_next.2 (State.sanitize_landSorted h fun a ha => ?_)
  simp only [State.startSanitize_landSorted, ha]

theorem execSanitizeBlockErase_landSorted {tag : Nat} (h : s.LandSorted) : NextLandSorted (execSanitizeBlockErase tag s) := by
  refine nextLandSorted_next.2 (State.sanitize_landSorted h fun a ha => ?_)
  simp only [State.startSanitize_landSorted, ha]

theorem execSanitizeExitFailureMode_landSorted {tag : Nat} (h : s.LandSorted) : NextLandSorted (execSanitizeExitFailureMode tag s) := by
  refine nextLandSorted_next.2 (State.sanitize_landSorted h fun a ha => ?_)
  simp only [State.complete_landSorted, landSorted_mk, sorted_land_lines, ha]

theorem execSanitizeOverwrite_landSorted {tag : Nat} (h : s.LandSorted) : NextLandSorted (execSanitizeOverwrite tag s) := by
  refine nextLandSorted_next.2 (State.adminPf_landSorted h fun a t ha => ?_)
  repeat' split
  all_goals simp only [State.complete_landSorted, ha]

theorem execFirmwareCommit_landSorted {tag : Nat} (h : s.LandSorted) : NextLandSorted (execFirmwareCommit tag s) := by
  refine nextLandSorted_next.2 (State.admin_landSorted h fun a t ha => ?_)
  split
  all_goals simp only [State.complete_landSorted, ha]

theorem execFirmwareImageDownload_landSorted {tag : Nat} (h : s.LandSorted) : NextLandSorted (execFirmwareImageDownload tag s) := by
  refine nextLandSorted_next.2 (State.admin_landSorted h fun a t ha => ?_)
  split
  all_goals simp only [State.complete_landSorted, ha]

theorem execInvalidAdminOpcode_landSorted {tag : Nat} (h : s.LandSorted) : NextLandSorted (execInvalidAdminOpcode tag s) := by
  refine nextLandSorted_next.2 (State.adminGate_landSorted h fun a t ha => ?_)
  repeat' split
  all_goals simp only [State.complete_landSorted, ha]

theorem execMapLeaseGrant_landSorted {tag : Nat} (h : s.LandSorted) : NextLandSorted (execMapLeaseGrant tag s) := by
  refine nextLandSorted_next.2 (State.adminPf_landSorted h fun a t ha => ?_)
  dsimp only
  repeat' split
  all_goals simp only [State.complete_landSorted, landSorted_mk, sorted_land_lines, ha]

theorem execMapLeaseRevoke_landSorted {tag : Nat} (h : s.LandSorted) : NextLandSorted (execMapLeaseRevoke tag s) := by
  refine nextLandSorted_next.2 (State.adminPf_landSorted h fun a t ha => ?_)
  dsimp only
  repeat' split
  all_goals simp only [State.complete_landSorted, State.modTag_landSorted, landSorted_mk, sorted_land_lines, ha]

theorem execMapLeaseStatus_landSorted {tag : Nat} (h : s.LandSorted) : NextLandSorted (execMapLeaseStatus tag s) := by
  refine nextLandSorted_next.2 (State.adminPf_landSorted h fun a t ha => ?_)
  repeat' split
  all_goals simp only [State.complete_landSorted, State.returnData_landSorted, ha]

theorem execStandStatus_landSorted {tag : Nat} (h : s.LandSorted) : NextLandSorted (execStandStatus tag s) := by
  refine nextLandSorted_next.2 (State.adminPf_landSorted h fun a t ha => ?_)
  repeat' split
  all_goals simp only [State.complete_landSorted, State.returnData_landSorted, ha]

/-! ## Rows of the media -/

theorem State.readySets_landSorted {st : StandNo} {k : WpClass} (h : s.LandSorted) : (s.readySets st k).LandSorted :=
  foldl_landSorted (fun _ _ ha => State.startIfReady_landSorted ha) h

theorem execWindrowSetPlacement_landSorted {st : StandNo} {k : WpClass} (h : s.LandSorted) :
    NextLandSorted (execWindrowSetPlacement st k s) := by
  have hr : ∀ c, (s.readySets st c).LandSorted := fun _ => State.readySets_landSorted h
  have ht : (s.tidyCopies.readySets st .cold).LandSorted := State.readySets_landSorted (State.tidyCopies_landSorted h)
  simp only [execWindrowSetPlacement, nextLandSorted_next]
  repeat' split
  · exact hr _
  · exact State.placeIn_landSorted (State.noteDom_landSorted.2 (hr _))
  · exact hr _
  · exact State.placeIn_landSorted (State.noteDom_landSorted.2 ht)
  · exact State.placeIn_landSorted ht
  · exact ht
  · exact hr _
  · exact h

theorem execParityTransfer_landSorted {n : Nat} (h : s.LandSorted) : NextLandSorted (execParityTransfer n s) := by
  simp only [execParityTransfer, nextLandSorted_next]
  repeat' split
  all_goals simp only [State.issueProgram_landSorted, State.failSet_landSorted, landSorted_mk, sorted_land_lines, h]

theorem execForceWaitExpiry_landSorted {n : Nat} (h : s.LandSorted) : NextLandSorted (execForceWaitExpiry n s) := by
  simp only [execForceWaitExpiry, nextLandSorted_next]
  repeat' split
  all_goals simp only [State.forceSet_landSorted, h]

theorem execIdleForceExpiry_landSorted {n : Nat} (h : s.LandSorted) : NextLandSorted (execIdleForceExpiry n s) := by
  simp only [execIdleForceExpiry, nextLandSorted_next]
  repeat' split
  all_goals simp only [State.forceSet_landSorted, h]

theorem execOpenIdleClose_landSorted {st : StandNo} {k : WpClass} {d : DomId} (h : s.LandSorted) :
    NextLandSorted (execOpenIdleClose st k d s) := by
  simp only [execOpenIdleClose, nextLandSorted_next]
  repeat' split
  all_goals simp only [State.closeRow_landSorted, h]

theorem execGseqAgeLimit_landSorted {q : Dword} (h : s.LandSorted) : NextLandSorted (execGseqAgeLimit q s) := by
  simp only [execGseqAgeLimit, nextLandSorted_next]
  repeat' split
  all_goals simp only [State.forceSets_landSorted, State.placeIn_landSorted, h]

theorem State.dropVictim_landSorted {d : DomId} {rb : Nat} (h : s.LandSorted) : (s.dropVictim d rb).LandSorted := by
  simp only [State.dropVictim, State.freeCords_landSorted, State.dropCopies_landSorted, landSorted_mk, sorted_land_lines, h]

theorem State.backToClosed_landSorted {d : DomId} {rb : Nat} (h : s.LandSorted) : (s.backToClosed d rb).LandSorted := by
  simp only [State.backToClosed, State.dropVictim_landSorted, landSorted_mk, sorted_land_lines, h]

theorem State.notCopied_landSorted {d : DomId} {rb : Nat} (h : s.LandSorted) : (s.notCopied d rb).LandSorted := by
  simp only [State.notCopied, State.backToClosed_landSorted, landSorted_mk, sorted_land_lines, h]

theorem State.victimSlice_landSorted {d : DomId} {v0 : Victim} (h : s.LandSorted) : (s.victimSlice d v0).LandSorted := by
  simp only [State.victimSlice]
  repeat' split
  all_goals simp only [State.tidyCopies_landSorted, State.issueRead_landSorted, State.erasePending_landSorted,
    State.dropVictim_landSorted, State.notCopied_landSorted, State.rewriteUnits_landSorted, landSorted_mk, sorted_land_lines, h]

theorem State.thinningSlice_landSorted {d : DomId} {st : StandNo} (h : s.LandSorted) : (s.thinningSlice d st).LandSorted := by
  simp only [State.thinningSlice]
  repeat' split
  all_goals simp only [State.victimSlice_landSorted, State.takeVictim_landSorted, State.giveUp_landSorted, h]

theorem execThinningSlice_landSorted {d : DomId} {st : StandNo} (h : s.LandSorted) : NextLandSorted (execThinningSlice d st s) := by
  simp only [execThinningSlice, nextLandSorted_next]
  repeat' split
  all_goals simp only [State.thinningSlice_landSorted, State.sliceEnds_landSorted, h]

theorem execVictimEraseStart_landSorted {r : DieRow} {n : Nat} (h : s.LandSorted) : NextLandSorted (execVictimEraseStart r n s) := by
  simp only [execVictimEraseStart, nextLandSorted_next]
  repeat' split
  all_goals simp only [State.eraseCheck_landSorted, State.issueErases_landSorted, landSorted_mk, sorted_land_lines, h]

theorem execCruiseSlice_landSorted {d : DomId} (h : s.LandSorted) : NextLandSorted (execCruiseSlice d s) := by
  simp only [execCruiseSlice, nextLandSorted_next]
  split
  · split
    · exact foldl_landSorted (fun _ _ ha => State.issueRead_landSorted ha) (landSorted_mk.2 h)
    split
    · exact h
    split
    · exact foldl_landSorted (fun _ _ ha => State.issueRead_landSorted ha) (landSorted_mk.2 h)
    split
    · exact landSorted_mk.2 (foldl_landSorted (fun _ _ ha => State.issueRead_landSorted ha) h)
    · split
      · exact landSorted_mk.2 h
      · exact h
  · exact h

/-! ## Rows of the dies -/

theorem execDieQueueArrival_landSorted {i : Nat} (h : s.LandSorted) : NextLandSorted (execDieQueueArrival i s) := by
  simp only [execDieQueueArrival, nextLandSorted_next]
  repeat' split
  all_goals simp only [State.rawGone_landSorted, State.reconAll_landSorted, State.nextAction_landSorted, landSorted_mk,
    sorted_land_lines, h]

theorem execDieStatusPoll_landSorted {ch : Chan} {die : DieIx} {r : Poll} (h : s.LandSorted) :
    NextLandSorted (execDieStatusPoll ch die r s) := by
  simp only [execDieStatusPoll, nextLandSorted_next]
  repeat' split
  all_goals simp only [State.readRb_landSorted, State.nextAction_landSorted, State.pollReady_landSorted, State.upset_landSorted,
    State.noteUpset_landSorted, landSorted_mk, sorted_land_lines, h]

theorem State.interruptPrograms_landSorted {ks : List Nat} (h : s.LandSorted) : (s.interruptPrograms ks).LandSorted :=
  foldl_landSorted (fun _ _ ha => by
    split
    · exact State.channelFault_landSorted ha
    · exact ha) h

theorem execReadyBusyTimeout_landSorted {ch : Chan} {die : DieIx} {resetReady : Bool} (h : s.LandSorted) :
    NextLandSorted (execReadyBusyTimeout ch die resetReady s) := by
  simp only [execReadyBusyTimeout, nextLandSorted_next]
  split
  · exact h
  split
  · exact h
  split
  · exact State.failDie_landSorted (State.noteUpset_landSorted.2 (landSorted_mk.2 h))
  · refine foldl_landSorted (fun _ _ ha => landSorted_mk.2 ha) (State.interruptPrograms_landSorted (landSorted_mk.2 ?_))
    split
    · exact State.noteUpset_landSorted.2 (landSorted_mk.2 h)
    · exact State.upset_landSorted (landSorted_mk.2 h)

theorem State.readMoved_landSorted {i : Nat} {o : DieOp} (h : s.LandSorted) : (s.readMoved i o).LandSorted := by
  simp only [State.readMoved]
  repeat' split
  all_goals simp only [State.countRead_landSorted, State.rawData_landSorted, State.dropOp_landSorted, landSorted_mk, sorted_land_lines, h]

theorem State.moveCodeword_landSorted {ch : Chan} {i : Nat} {o : DieOp} {dqsLoss : Bool} (h : s.LandSorted) :
    (s.moveCodeword ch i o dqsLoss).LandSorted := by
  simp only [State.moveCodeword]
  repeat' split
  all_goals simp only [State.upset_landSorted, State.readMoved_landSorted, landSorted_mk, sorted_land_lines, h]

theorem State.movePage_landSorted {ch : Chan} {i : Nat} {o : DieOp} (h : s.LandSorted) : (s.movePage ch i o).LandSorted := by
  rw [State.movePage]
  split
  · extract_lets s1 s2
    have h2 : s2.LandSorted := by
      refine State.sendPage_landSorted ?_
      simp only [s1]
      split
      · exact State.stageMember_landSorted h
      · exact h
    split
    · exact h2
    · exact State.startWaiting_landSorted h2
  · exact h

theorem execBusArbitrationPoint_landSorted {ch : Chan} {dqsLoss : Bool} (h : s.LandSorted) :
    NextLandSorted (execBusArbitrationPoint ch dqsLoss s) := by
  simp only [execBusArbitrationPoint, nextLandSorted_next]
  repeat' split
  all_goals simp only [State.moveCodeword_landSorted, State.movePage_landSorted, landSorted_mk, sorted_land_lines, h]

theorem execHardDecodeDone_landSorted {i slot : Nat} {r : HardResult} (h : s.LandSorted) :
    NextLandSorted (execHardDecodeDone i slot r s) := by
  simp only [execHardDecodeDone, nextLandSorted_next]
  repeat' split
  all_goals simp only [State.climb_landSorted, State.upset_landSorted, State.track_landSorted, State.recovered_landSorted,
    State.wantRelocation_landSorted, h]

theorem execSoftDecodeDone_landSorted {i slot : Nat} {ok : Bool} (h : s.LandSorted) :
    NextLandSorted (execSoftDecodeDone i slot ok s) := by
  simp only [execSoftDecodeDone, nextLandSorted_next]
  repeat' split
  all_goals simp only [State.track_landSorted, State.recovered_landSorted, State.climb_landSorted, landSorted_mk, sorted_land_lines, h]

theorem State.verified_landSorted {n c : Nat} (h : s.LandSorted) : (s.verified n c).LandSorted := by
  simp only [State.verified]
  repeat' split
  all_goals simp only [State.coldDebt_landSorted, State.completeSet_landSorted, landSorted_mk, sorted_land_lines, h]

theorem execProgramDone_landSorted {i : Nat} {ok : Bool} (h : s.LandSorted) : NextLandSorted (execProgramDone i ok s) := by
  simp only [execProgramDone, nextLandSorted_next]
  repeat' split
  all_goals simp only [State.dropOp_landSorted, State.condemn_landSorted, State.nextAction_landSorted, State.verified_landSorted,
    State.failSet_landSorted, landSorted_mk, sorted_land_lines, h]

theorem execEraseDone_landSorted {i : Nat} {ok : Bool} (h : s.LandSorted) : NextLandSorted (execEraseDone i ok s) := by
  simp only [execEraseDone, nextLandSorted_next]
  repeat' split
  all_goals simp only [State.nextAction_landSorted, State.eraseCheck_landSorted, State.dropOp_landSorted, landSorted_mk,
    sorted_land_lines, h]

/-! ## Rows of the channels -/

theorem State.identify_landSorted {ch : Nat} {answers : List DieAnswer} (h : s.LandSorted) :
    (s.identify ch answers).LandSorted := by
  have hd : ∀ (l : List DieAnswer) (a : State) (n : Nat), a.LandSorted → (l.foldl (fun a x => a.dieNotUsed ch x n) a).LandSorted :=
    fun l a n ha => foldl_landSorted (fun _ _ hb => State.dieNotUsed_landSorted.2 hb) ha
  unfold State.identify
  extract_lets as ref good c m s0
  split
  next s1 s2 _ => 
    exact foldl_landSorted (fun _ _ ha => State.factoryMarks_landSorted.2 (landSorted_mk.2 ha)) (hd _ _ _ h)
  next known s1 s2 s3 _ =>
    have h3 : s3.LandSorted := foldl_landSorted (fun _ _ ha => ha) (hd _ _ _ h)
    exact foldl_landSorted (fun _ _ ha => State.failDie_landSorted ha) h3

theorem State.trainPass_landSorted {ch : Nat} (h : s.LandSorted) : (s.trainPass ch).LandSorted := by
  refine State.resumeReads_landSorted (State.wakeWaiting_landSorted (State.nextTurn_landSorted ?_))
  exact State.keepSettings_landSorted.2 (landSorted_mk.2 h)

theorem State.trainFail_landSorted {ch : Nat} {bad : List Nat} (h : s.LandSorted) : (s.trainFail ch bad).LandSorted := by
  unfold State.trainFail
  extract_lets c s1
  have h1 : s1.LandSorted := by
    simp only [s1]
    split
    · exact landSorted_mk.2 h
    · exact h
  split
  · exact h1
  split
  · exact h1
  split
  · exact foldl_landSorted (fun _ _ ha => State.failDie_landSorted ha) h1
  split
  · exact State.retireChannel_landSorted h1
  · exact State.stepDown_landSorted h1

theorem State.trainStep_landSorted {ch : Nat} {rs : List StepReading} (h : s.LandSorted) : (s.trainStep ch rs).LandSorted := by
  simp only [State.trainStep]
  repeat' split
  all_goals simp only [State.trainFail_landSorted, State.setDies_landSorted, State.trainPass_landSorted, landSorted_mk,
    sorted_land_lines, h]

theorem execChannelTraining_landSorted {ch : Chan} {answers : List DieAnswer} {readings : List StepReading} (h : s.LandSorted) :
    NextLandSorted (execChannelTraining ch answers readings s) := by
  simp only [execChannelTraining, nextLandSorted_next]
  repeat' split
  all_goals simp only [State.retireChannel_landSorted, State.finishLosses_landSorted, State.identify_landSorted,
    State.trainStep_landSorted, State.rateFallback_landSorted, h]

theorem execDriftTracking_landSorted {ch : Chan} {die : DieIx} {o : DriftOutcome} (h : s.LandSorted) :
    NextLandSorted (execDriftTracking ch die o s) := by
  simp only [execDriftTracking, nextLandSorted_next]
  repeat' split
  all_goals simp only [State.noteUpset_landSorted, State.countFault_landSorted, landSorted_mk, sorted_land_lines, h]

theorem State.liveFails_landSorted {ch k : Nat} (h : s.LandSorted) : (s.liveFails ch k).LandSorted := by
  simp only [State.liveFails, State.stepDown_landSorted, landSorted_mk, sorted_land_lines, h]

theorem execLiveRetrainSlice_landSorted {ch : Chan} {die : DieIx} {o : LiveSlice} (h : s.LandSorted) :
    NextLandSorted (execLiveRetrainSlice ch die o s) := by
  simp only [execLiveRetrainSlice, nextLandSorted_next]
  repeat' split
  all_goals simp only [State.liveFails_landSorted, State.livePasses_landSorted, landSorted_mk, sorted_land_lines, h]

theorem execPadMonitorCheck_landSorted {ch : Chan} {stuck : Bool} (h : s.LandSorted) :
    NextLandSorted (execPadMonitorCheck ch stuck s) := by
  simp only [execPadMonitorCheck, nextLandSorted_next]
  repeat' split
  all_goals simp only [State.retireChannel_landSorted, landSorted_mk, sorted_land_lines, h]

theorem execRebuildSlice_landSorted {g : Grove} (h : s.LandSorted) : NextLandSorted (execRebuildSlice g s) := by
  simp only [execRebuildSlice, nextLandSorted_next]
  repeat' split
  all_goals simp only [State.redoUnits_landSorted, State.victimSlice_landSorted, State.takeVictim_landSorted, landSorted_mk,
    sorted_land_lines, h]

/-! ## Rows of the DRAM -/

theorem State.groupLost_landSorted {q : Nat} {g : CGroup} {lba : Nat} (h : s.LandSorted) : (s.groupLost q g lba).LandSorted := by
  simp only [State.groupLost]
  repeat' split
  all_goals simp only [State.slotLostAt_landSorted, State.failWrite_landSorted, h]

theorem State.loseSlots_landSorted {slab : Nat} {p : Nat → Bool} (h : s.LandSorted) : (s.loseSlots slab p).LandSorted :=
  State.freeGroups_landSorted (foldl_landSorted (fun _ _ ha => State.groupLost_landSorted ha) h)

theorem State.loseWorking_landSorted {c : Nat} (h : s.LandSorted) : (s.loseWorking c).LandSorted := by
  simp only [State.loseWorking]
  repeat' split
  all_goals simp only [State.reloadCounts_landSorted, State.loseSlots_landSorted, State.mapError_landSorted, landSorted_mk,
    sorted_land_lines, h]

theorem State.repairSlab_landSorted {g : Grove} {key : Nat} (h : s.LandSorted) : (s.repairSlab g key).LandSorted := by
  simp only [State.repairSlab]
  split
  all_goals simp only [State.readSlab_landSorted, landSorted_mk, sorted_land_lines, h]

theorem State.loseMap_landSorted {c : Nat} (h : s.LandSorted) : (s.loseMap c).LandSorted := by
  simp only [State.loseMap]
  repeat' split
  all_goals simp only [State.repairSlab_landSorted, State.mapError_landSorted, State.newLeaseKey_landSorted, h]

theorem State.loseLine_landSorted {line : Nat} (h : s.LandSorted) : (s.loseLine line).LandSorted := by
  simp only [State.loseLine]
  repeat' split
  all_goals simp only [State.loseSlots_landSorted, State.draw_landSorted, State.loseWorking_landSorted, State.loseLeaf_landSorted,
    State.loseMap_landSorted, h]

theorem State.dramLost_landSorted {line : Nat} (h : s.LandSorted) : (s.dramLost line).LandSorted := by
  simp only [State.dramLost]
  split
  all_goals simp only [State.recordHw_landSorted, State.loseLine_landSorted, landSorted_mk, sorted_land_lines, h]

theorem State.lineRead_landSorted {line : Nat} {err : BitVec 640} (h : s.LandSorted) : (s.lineRead line err).LandSorted := by
  simp only [State.lineRead]
  repeat' split
  all_goals simp only [State.draw_landSorted, State.dramLost_landSorted, State.noteCorrection_landSorted, State.spoilLine_landSorted, h]

theorem execDramScrub_landSorted {line : Nat} {err : BitVec 640} (h : s.LandSorted) : NextLandSorted (execDramScrub line err s) := by
  simp only [execDramScrub, nextLandSorted_next]
  split
  all_goals simp only [State.lineRead_landSorted, landSorted_mk, sorted_land_lines, h]

theorem execDramLiveRetrainSlice_landSorted {ch : DramCh} {o : RetrainRun} (h : s.LandSorted) :
    NextLandSorted (execDramLiveRetrainSlice ch o s) := by
  simp only [execDramLiveRetrainSlice, nextLandSorted_next]
  repeat' split
  all_goals simp only [State.controlledStop_landSorted, landSorted_mk, sorted_land_lines, h]

/-! ## Gather reads -/

theorem State.cachedToGather_landSorted {tag lba : Nat} {b : Block} {bad : List Nat} (h : s.LandSorted) :
    (s.cachedToGather tag lba b bad).LandSorted := by
  simp only [State.cachedToGather]
  split
  all_goals simp only [State.toTag_landSorted, LandS_setBlockMarked_sorted, landSorted_mk, sorted_land_lines, h]

theorem gatherLook_landSorted {a : State × List (Ploc × Nat)} {tag : Nat} {r : Nat × Resolved} (h : a.1.LandSorted) :
    (gatherLook tag a r).1.LandSorted := by
  simp only [gatherLook]
  split
  all_goals simp only [h, State.toTag_landSorted, State.cachedToGather_landSorted, State.modTag_landSorted, State.badPloc_landSorted]

theorem gatherUnit_landSorted {a : State × List (Ploc × Nat)} {tag nsid : Nat} {n : NsS} {t : TagE} {ls : List Nat}
    (h : a.1.LandSorted) : (gatherUnit tag nsid n t a ls).1.LandSorted := by
  simp only [gatherUnit]
  repeat' split
  · exact h
  · exact foldlp_landSorted (fun _ r ha => gatherLook_landSorted ha) h
  · exact h

theorem State.resolveWindow_landSorted {tag : Nat} {t : TagE} {f : GatherFields} {x : NsS} (h : s.LandSorted) :
    (s.resolveWindow tag t f x).LandSorted :=
  foldl_landSorted (fun _ _ ha => State.addOp_landSorted.2 ha)
    (foldlp_landSorted (fun _ _ ha => gatherUnit_landSorted ha) h)

theorem State.keepTable_landSorted {tag : Nat} {table : List Nat} (h : s.LandSorted) : (s.keepTable tag table).LandSorted := by
  simp only [State.keepTable, State.freeThese_landSorted, h]

theorem State.openWindow_landSorted {tag : Nat} {t : TagE} {f : GatherFields} {g : GatherS} (h : s.LandSorted) :
    (s.openWindow tag t f g).LandSorted := by
  simp only [State.openWindow, State.modTag_landSorted, State.askCords_landSorted, h]

theorem State.closeWindow_landSorted {tag : Nat} {t : TagE} {f : GatherFields} {g : GatherS} {bad : Bool} (h : s.LandSorted) :
    (s.closeWindow tag t f g bad).LandSorted := by
  simp only [State.closeWindow, State.keepTable_landSorted, State.modGather_landSorted, State.chargeCredit_landSorted, h]

theorem State.beginGather_landSorted {tag : Nat} {t : TagE} {f : GatherFields} (h : s.LandSorted) :
    (s.beginGather tag t f).LandSorted := by
  simp only [State.beginGather, State.issueTlps_landSorted, State.modTag_landSorted, State.askCords_landSorted, h]

theorem State.poisonWindow_landSorted {tag : Nat} {t : TagE} {g : GatherS} {bad : List Nat} (h : s.LandSorted) :
    (s.poisonWindow tag t g bad).LandSorted := by
  rw [State.poisonWindow]
  split
  · refine foldl_landSorted (fun _ _ ha => State.askCords_landSorted ha) ?_
    simp only [State.modTag_landSorted]
    exact State.freeThese_landSorted h
  · refine State.failTag_landSorted ?_
    exact State.poisonEvent_landSorted.2 h

theorem State.windowEnds_landSorted {tag : Nat} {t : TagE} {f : GatherFields} {g : GatherS} {bad : Bool} (h : s.LandSorted) :
    (s.windowEnds tag t f g bad).LandSorted := by
  simp only [State.windowEnds]
  repeat' split
  all_goals simp only [State.closeWindow_landSorted, State.openWindow_landSorted, State.beginTransfer_landSorted, h]

theorem State.stepGather_landSorted {tag : Nat} {t : TagE} {f : GatherFields} {x : NsS} {g : GatherS} (h : s.LandSorted) :
    (s.stepGather tag t f x g).LandSorted := by
  simp only [State.stepGather]
  repeat' split
  all_goals simp only [State.openWindow_landSorted, State.modGather_landSorted, State.failTag_landSorted, State.poisonEvent_landSorted,
    State.placeWindow_landSorted, State.resolveWindow_landSorted, State.windowEnds_landSorted, State.poisonWindow_landSorted,
    LandS_setBlocks_sorted, landSorted_mk, sorted_land_lines, h]

/-! ## Chains of descriptors -/

theorem State.moveDesc_landSorted {d : DmaDesc} {forward : Bool} (h : s.LandSorted) : (s.moveDesc d forward).LandSorted :=
  State.moveDesc_land_sorted d forward h

theorem runChain_landSorted {reads forward : Bool} {l : List DmaDesc} (h : s.LandSorted) : (runChain reads forward l s).1.LandSorted := by
  induction l generalizing s with
  | nil => exact h
  | cons d t ih =>
    simp only [runChain]
    repeat' split
    all_goals simp only [h, ih, State.moveDesc_landSorted]

theorem State.dropCtxs_landSorted {tag : Nat} (h : s.LandSorted) : (s.dropCtxs tag).LandSorted := by
  simp only [State.dropCtxs, State.modTag_landSorted, landSorted_mk, sorted_land_lines, h]

theorem State.failAny_landSorted {tag : Nat} {st : Status} (h : s.LandSorted) : (s.failAny tag st).LandSorted := by
  rw [State.failAny]
  split
  · exact h
  split
  · exact State.failWrite_landSorted h
  · refine State.feedCtxs_landSorted (State.complete_landSorted ?_)
    simp only [State.orphan_landSorted]
    exact State.dropCtxs_landSorted h

theorem State.landingParity_landSorted {cord line : Nat} {bad : Bool} (h : s.LandSorted) :
    (s.landingParity cord line bad).LandSorted := by
  simp only [State.landingParity]
  split
  all_goals simp only [LandS_flipLine_sorted, landSorted_mk, sorted_land_lines, h]

theorem State.rereadBlocks_landSorted {tag : Nat} {t : TagE} {f : RwFields} {bad : List Nat} (h : s.LandSorted) :
    (s.rereadBlocks tag t f bad).LandSorted := by
  unfold State.rereadBlocks
  extract_lets host s1 s2 s3
  have h2 : s2.LandSorted := by
    simp only [s2, State.modTag_landSorted]
    exact State.freeThese_landSorted h
  refine State.continueRead_landSorted ?_
  simp only [s3]
  split
  · exact State.askTag_landSorted h2
  · exact h2

theorem State.poisonRead_landSorted {tag : Nat} {t : TagE} {f : RwFields} {forward : Bool} {bad : List Nat} (h : s.LandSorted) :
    (s.poisonRead tag t f forward bad).LandSorted := by
  simp only [State.poisonRead]
  repeat' split
  all_goals simp only [State.rereadBlocks_landSorted, State.poisonEvent_landSorted, State.issueTlps_landSorted,
    State.complete_landSorted, h]

theorem State.retireTag_landSorted {tag : Nat} (h : s.LandSorted) : (s.retireTag tag).LandSorted := by
  rw [State.retireTag]
  split
  · exact h
  · refine State.sweepFlushes_landSorted (State.feedCtxs_landSorted ?_)
    simp only [State.orphan_landSorted, State.returnCharge_landSorted, landSorted_mk, sorted_land_lines]
    exact State.freeCords_landSorted (State.dropCtxs_landSorted h)

theorem State.contextParity_landSorted {n : Nat} {owner : Option Nat} (h : s.LandSorted) : (s.contextParity n owner).LandSorted := by
  simp only [State.contextParity]
  repeat' split
  all_goals simp only [State.recordHw_landSorted, State.feedCtxs_landSorted, State.modTag_landSorted, State.failAny_landSorted,
    landSorted_mk, sorted_land_lines, h]

theorem State.parity_landSorted {n : Nat} {owner : Option Nat} {p : ParityEvent} (h : s.LandSorted) :
    (s.parity n owner p).LandSorted := by
  simp only [State.parity]
  repeat' split
  all_goals simp only [State.landingParity_landSorted, State.contextParity_landSorted, State.failAny_landSorted,
    State.recordHw_landSorted, State.retireTag_landSorted, State.dieQueueParity_landSorted, landSorted_mk, sorted_land_lines, h]

theorem State.delivered_landSorted {tag : Nat} {t : TagE} {f : RwFields} (h : s.LandSorted) : (s.delivered tag t f).LandSorted := by
  simp only [State.delivered, State.noteReread_landSorted, State.returnData_landSorted, h]

theorem State.compared_landSorted {tag : Nat} {t : TagE} {f : RwFields} (h : s.LandSorted) : (s.compared tag t f).LandSorted := by
  simp only [State.compared]
  repeat' split
  all_goals simp only [State.poisonRead_landSorted, State.complete_landSorted, State.poisonEvent_landSorted, State.noteReread_landSorted,
    h]

theorem State.pulled_landSorted {tag : Nat} {t : TagE} {f : RwFields} (h : s.LandSorted) : (s.pulled tag t f).LandSorted := by
  simp only [State.pulled]
  repeat' split
  all_goals simp only [State.failWrite_landSorted, State.poisonEvent_landSorted, State.publishWrite_landSorted,
    State.beginTransfer_landSorted, State.modTag_landSorted, h]

theorem State.readMovedOut_landSorted {tag : Nat} {t : TagE} {f : RwFields} {forward : Bool} (h : s.LandSorted) :
    (s.readMovedOut tag t f forward).LandSorted := by
  simp only [State.readMovedOut]
  split
  all_goals simp only [State.poisonRead_landSorted, State.delivered_landSorted, h]

theorem State.gatherOut_landSorted {tag : Nat} {t : TagE} {f : GatherFields} {g : GatherS} (h : s.LandSorted) :
    (s.gatherOut tag t f g).LandSorted := by
  simp only [State.gatherOut]
  split
  all_goals simp only [State.returnData_landSorted, State.noteReread_landSorted, State.complete_landSorted, State.issueTlps_landSorted, h]

theorem State.transferDone_landSorted {tag : Nat} {forward : Bool} (h : s.LandSorted) : (s.transferDone tag forward).LandSorted := by
  simp only [State.transferDone]
  repeat' split
  all_goals simp only [State.readMovedOut_landSorted, State.compared_landSorted, State.pulled_landSorted, State.gatherOut_landSorted, h]

theorem State.ctxDone_landSorted {n : Nat} (h : s.LandSorted) : (s.ctxDone n).LandSorted := by
  simp only [State.ctxDone]
  repeat' split
  all_goals simp only [State.feedCtxs_landSorted, State.transferDone_landSorted, landSorted_mk, sorted_land_lines, h]

theorem State.descError_landSorted {n : Nat} {owner : Option Nat} (h : s.LandSorted) : (s.descError n owner).LandSorted := by
  simp only [State.descError]
  split
  all_goals simp only [State.recordHw_landSorted, State.failAny_landSorted, State.feedCtxs_landSorted, landSorted_mk, sorted_land_lines,
    h]

/-! ## Rows of the data movement -/

theorem State.reportDone_landSorted {n : Nat} {notify : Bool} (h : s.LandSorted) : (s.reportDone n notify).LandSorted := by
  simp only [State.reportDone]
  split
  all_goals simp only [landSorted_mk, sorted_land_lines, h]

theorem State.chainEnds_landSorted {n : Nat} {owner ran : Option Nat} {fence notify forward : Bool} (h : s.LandSorted) :
    (s.chainEnds n owner ran fence notify forward).LandSorted := by
  simp only [State.chainEnds]
  split
  all_goals simp only [State.ctxDone_landSorted, State.reportDone_landSorted, LandS.runCtxs_lines, landSorted_mk, sorted_land_lines, h]

theorem State.readErrors_landSorted {p : ParityEvent} (h : s.LandSorted) : (s.readErrors p).LandSorted := by
  simp only [State.readErrors]
  repeat' split
  all_goals simp only [State.lineRead_landSorted, h]

theorem execDmaContextComplete_landSorted {ctx : Fin 256} {chain : List DmaDesc} {parity : ParityEvent} (h : s.LandSorted) :
    NextLandSorted (execDmaContextComplete ctx chain parity s) := by
  have hr : ∀ reads forward, (runChain reads forward chain (s.readErrors parity)).1.LandSorted := fun _ _ =>
    runChain_landSorted (State.readErrors_landSorted h)
  simp only [execDmaContextComplete, nextLandSorted_next]
  repeat' split
  all_goals simp only [h, hr, State.contextParity_landSorted, State.descError_landSorted, State.parity_landSorted,
    State.chainEnds_landSorted]

theorem State.tokenAt_landSorted {n : Nat} (h : s.LandSorted) : (s.tokenAt n).LandSorted := by
  simp only [State.tokenAt]
  repeat' split
  all_goals simp only [State.ctxDone_landSorted, State.reportDone_landSorted, h]

theorem execOrderingToken_landSorted {k : TokenFor} (h : s.LandSorted) : NextLandSorted (execOrderingToken k s) := by
  refine nextLandSorted_next.2 ?_
  split
  · exact h
  split
  · exact State.tokenAt_landSorted h
  · exact foldl_landSorted (fun _ _ ha => State.tokenAt_landSorted ha) h
  · exact landSorted_mk.2 h

theorem State.sealPage_landSorted {lpn : Nat} (h : s.LandSorted) : (s.sealPage lpn).LandSorted := by
  simp only [State.sealPage]
  split
  all_goals simp only [LandS_setBlocks_sorted, landSorted_mk, sorted_land_lines, h]

theorem execCordGrant_landSorted (h : s.LandSorted) : NextLandSorted (execCordGrant s) := by
  simp only [execCordGrant, nextLandSorted_next]
  split
  · exact h
  next r own _ =>
    have hg : State.LandSorted (({ s with land := { s.land with waiting := s.land.waiting.erase r } }).grant r own) :=
      State.grant_landSorted (landSorted_mk.2 h)
    split
    · exact State.readArrived_landSorted (State.pullData_landSorted hg)
    · exact State.sealPage_landSorted hg
    · exact hg

theorem execGatherWindow_landSorted {tag : Nat} (h : s.LandSorted) : NextLandSorted (execGatherWindow tag s) := by
  simp only [execGatherWindow, nextLandSorted_next]
  repeat' split
  all_goals simp only [State.stepGather_landSorted, h]

theorem State.discardLease_landSorted {p : Port} {lpn : Nat} (h : s.LandSorted) : (s.discardLease p lpn).LandSorted := by
  simp only [State.discardLease]
  split
  all_goals simp only [State.recordHw_landSorted, State.readLeaf_landSorted, State.freeCords_landSorted, landSorted_mk,
    sorted_land_lines, h]

theorem State.hostTagFails_landSorted {tag : Nat} {r : HostRead} {a : AerLog} (h : s.LandSorted) :
    (s.hostTagFails tag r a).LandSorted := by
  simp only [State.hostTagFails]
  repeat' split
  all_goals simp only [State.failAny_landSorted, State.aer_landSorted, h]

theorem State.hostReadFails_landSorted {r : HostRead} {a : AerLog} (h : s.LandSorted) : (s.hostReadFails r a).LandSorted := by
  simp only [State.hostReadFails]
  repeat' split
  all_goals simp only [State.hostTagFails_landSorted, State.cfsOf_landSorted, State.aer_landSorted, State.discardLease_landSorted, h]

theorem execPoisonedCompletion_landSorted {r : HostRead} (h : s.LandSorted) : NextLandSorted (execPoisonedCompletion r s) := by
  simp only [execPoisonedCompletion, nextLandSorted_next, State.hostReadFails_landSorted, h]

theorem execCompletionTimeout_landSorted {r : HostRead} (h : s.LandSorted) : NextLandSorted (execCompletionTimeout r s) := by
  simp only [execCompletionTimeout, nextLandSorted_next, State.hostReadFails_landSorted, h]

/-! ## Rows of the I/O commands -/

theorem State.io_landSorted {tag : Nat} {run : State → TagE → State} (h : s.LandSorted)
    (hr : ∀ a t, a.LandSorted → (run a t).LandSorted) :
    (s.io tag run).LandSorted := by
  simp only [State.io]
  repeat' split
  all_goals simp only [h, hr]

theorem execFlush_landSorted {tag : Nat} (h : s.LandSorted) : NextLandSorted (execFlush tag s) := by
  refine nextLandSorted_next.2 (State.io_landSorted h fun a t ha => ?_)
  split
  · split
    · exact State.complete_landSorted ha
    · exact State.onNs_landSorted ha fun _ => State.sweepTags_landSorted (State.forceSets_landSorted (State.modTag_landSorted.2 ha))
  · exact ha

theorem execWrite_landSorted {tag : Nat} (h : s.LandSorted) : NextLandSorted (execWrite tag s) := by
  refine nextLandSorted_next.2 (State.io_landSorted h fun a t ha => ?_)
  split
  all_goals simp only [State.doWrite_landSorted, ha]

theorem execRead_landSorted {tag : Nat} (h : s.LandSorted) : NextLandSorted (execRead tag s) := by
  refine nextLandSorted_next.2 (State.io_landSorted h fun a t ha => ?_)
  split
  all_goals simp only [State.doRead_landSorted, ha]

theorem State.beginCompare_landSorted {tag : Nat} {t : TagE} {f : RwFields} (h : s.LandSorted) : (s.beginCompare tag t f).LandSorted := by
  simp only [State.beginCompare, State.modTag_landSorted, State.continueRead_landSorted, State.askTag_landSorted, h]

theorem execCompare_landSorted {tag : Nat} (h : s.LandSorted) : NextLandSorted (execCompare tag s) := by
  refine nextLandSorted_next.2 (State.io_landSorted h fun a t ha => ?_)
  split
  · refine State.onNs_landSorted ha fun x => ?_
    split
    · exact State.complete_landSorted ha
    · exact State.beginCompare_landSorted ha
  · exact ha

theorem execWriteZeroes_landSorted {tag : Nat} (h : s.LandSorted) : NextLandSorted (execWriteZeroes tag s) := by
  refine nextLandSorted_next.2 (State.io_landSorted h fun a t ha => ?_)
  split
  · refine State.onNs_landSorted ha fun x => ?_
    split
    · exact State.complete_landSorted ha
    · exact State.dealloc_landSorted ha
  · exact ha

theorem execDatasetManagement_landSorted {tag : Nat} (h : s.LandSorted) : NextLandSorted (execDatasetManagement tag s) := by
  refine nextLandSorted_next.2 (State.io_landSorted h fun a t ha => ?_)
  split
  all_goals simp only [State.doDsm_landSorted, ha]

theorem execReservationRegister_landSorted {tag : Nat} (h : s.LandSorted) : NextLandSorted (execReservationRegister tag s) := by
  refine nextLandSorted_next.2 (State.io_landSorted h fun a t ha => ?_)
  split
  · exact State.onNs_landSorted ha fun x => State.withPtr_landSorted ha fun b hb => State.doRegister_landSorted hb
  · exact ha

theorem execReservationReport_landSorted {tag : Nat} (h : s.LandSorted) : NextLandSorted (execReservationReport tag s) := by
  refine nextLandSorted_next.2 (State.io_landSorted h fun a t ha => ?_)
  split
  · exact State.onNs_landSorted ha fun x => State.withPtr_landSorted ha fun b hb => State.returnData_landSorted hb
  · exact ha

theorem execReservationAcquire_landSorted {tag : Nat} (h : s.LandSorted) : NextLandSorted (execReservationAcquire tag s) := by
  refine nextLandSorted_next.2 (State.io_landSorted h fun a t ha => ?_)
  split
  · exact State.onNs_landSorted ha fun x => State.withPtr_landSorted ha fun b hb => State.doAcquire_landSorted hb
  · exact ha

theorem execReservationRelease_landSorted {tag : Nat} (h : s.LandSorted) : NextLandSorted (execReservationRelease tag s) := by
  refine nextLandSorted_next.2 (State.io_landSorted h fun a t ha => ?_)
  split
  · exact State.onNs_landSorted ha fun x => State.withPtr_landSorted ha fun b hb => State.doRelease_landSorted hb
  · exact ha

theorem execOrderedWrite_landSorted {tag : Nat} (h : s.LandSorted) : NextLandSorted (execOrderedWrite tag s) := by
  refine nextLandSorted_next.2 (State.io_landSorted h fun a t ha => ?_)
  split
  all_goals simp only [State.doWrite_landSorted, ha]

theorem execOrderedRead_landSorted {tag : Nat} (h : s.LandSorted) : NextLandSorted (execOrderedRead tag s) := by
  refine nextLandSorted_next.2 (State.io_landSorted h fun a t ha => ?_)
  split
  all_goals simp only [State.doRead_landSorted, ha]

theorem execOrderedDatasetManagement_landSorted {tag : Nat} (h : s.LandSorted) : NextLandSorted (execOrderedDatasetManagement tag s) := by
  refine nextLandSorted_next.2 (State.io_landSorted h fun a t ha => ?_)
  split
  all_goals simp only [State.doDsm_landSorted, ha]

theorem execGatherRead_landSorted {tag : Nat} (h : s.LandSorted) : NextLandSorted (execGatherRead tag s) := by
  refine nextLandSorted_next.2 (State.io_landSorted h fun a t ha => ?_)
  split
  · refine State.onNs_landSorted ha fun x => ?_
    split
    · exact State.complete_landSorted ha
    · exact State.beginGather_landSorted ha
  · exact ha

theorem execInvalidIoOpcode_landSorted {tag : Nat} (h : s.LandSorted) : NextLandSorted (execInvalidIoOpcode tag s) := by
  refine nextLandSorted_next.2 (State.io_landSorted h fun a t ha => ?_)
  split
  all_goals simp only [State.complete_landSorted, ha]

/-! ## Sliced operations -/

theorem State.dropPlacement_landSorted (h : s.LandSorted) : s.dropPlacement.LandSorted :=
  foldl_landSorted (fun _ _ ha => State.closeRow_landSorted ha)
    (foldl_landSorted (fun _ _ ha => foldl_landSorted (fun _ _ hb => State.dropVictim_landSorted hb) ha)
      (foldl_landSorted (fun _ _ ha => State.abandonSet_landSorted ha) h))

theorem State.beginErase_landSorted {i : Nat} (h : s.LandSorted) : (s.beginErase i).LandSorted := by
  simp only [State.beginErase, State.dropPlacement_landSorted, landSorted_mk, sorted_land_lines, h]

theorem State.deallocDone_landSorted {tag : Nat} (h : s.LandSorted) : (s.deallocDone tag).LandSorted := by
  simp only [State.deallocDone]
  repeat' split
  all_goals simp only [State.complete_landSorted, h]

theorem State.opComplete_landSorted {o : SlicedOp} (h : s.LandSorted) : (s.opComplete o).LandSorted := by
  simp only [State.opComplete]
  split
  all_goals simp only [State.complete_landSorted, h]

theorem State.freeNs_landSorted {nsid : Nat} (h : s.LandSorted) : (s.freeNs nsid).LandSorted := by
  simp only [State.freeNs]
  split
  all_goals simp only [State.nsChanged_landSorted, landSorted_mk, sorted_land_lines, h]

theorem State.sanitizeEnds_landSorted {o : SlicedOp} (h : s.LandSorted) : (s.sanitizeEnds o).LandSorted := by
  simp only [State.sanitizeEnds]
  split
  all_goals simp only [State.raiseEvent_landSorted, landSorted_mk, sorted_land_lines, h]

theorem State.endOp_landSorted {i : Nat} {o : SlicedOp} (h : s.LandSorted) : (s.endOp i o).LandSorted := by
  unfold State.endOp
  extract_lets n s1
  have h1 : s1.LandSorted := h
  clear_value s1
  split
  · split
    · exact State.deallocDone_landSorted h1
    · exact h1
  · simp only [State.recheckSpare_landSorted]
    exact State.opComplete_landSorted h1
  · simp only [State.recheckSpare_landSorted]
    refine State.opComplete_landSorted ?_
    simp only [State.journal_landSorted]
    exact foldl_landSorted (fun _ _ ha => State.freeNs_landSorted ha) h1
  · simp only [State.recheckSpare_landSorted]
    exact State.opComplete_landSorted (State.sanitizeEnds_landSorted h1)
  · simp only [State.recheckSpare_landSorted]
    exact State.opComplete_landSorted (State.sanitizeEnds_landSorted h1)

theorem State.opCheck_landSorted {i : Nat} (h : s.LandSorted) : (s.opCheck i).LandSorted := by
  simp only [State.opCheck]
  repeat' split
  all_goals simp only [State.beginErase_landSorted, State.endOp_landSorted, h]

theorem State.beginOp_landSorted {i : Nat} {o : SlicedOp} (h : s.LandSorted) : (s.beginOp i o).LandSorted := by
  simp only [State.beginOp, State.opCache_landSorted, State.opKeys_landSorted, State.opCheck_landSorted, State.freeGroups_landSorted,
    landSorted_mk, sorted_land_lines, h]

theorem State.commitEdges_landSorted {i : Nat} {g : Grove} {o : SlicedOp} (h : s.LandSorted) : (s.commitEdges i g o).LandSorted := by
  simp only [State.commitEdges, State.commitUnmaps_landSorted, State.opCheck_landSorted, State.freeGroups_landSorted, landSorted_mk,
    sorted_land_lines, h]

theorem State.commitRange_landSorted {i : Nat} {g : Grove} (h : s.LandSorted) : (s.commitRange i g).LandSorted := by
  simp only [State.commitRange]
  repeat' split
  all_goals simp only [State.opCheck_landSorted, State.freeGroups_landSorted, landSorted_mk, sorted_land_lines, h]

theorem State.commitSlice_landSorted {i : Nat} {g : Grove} (h : s.LandSorted) : (s.commitSlice i g).LandSorted := by
  simp only [State.commitSlice]
  repeat' split
  all_goals simp only [State.sliceEnds_landSorted, State.commitRange_landSorted, State.commitEdges_landSorted, h]

theorem State.segSlice_landSorted {i : Nat} {g : Grove} {o : SlicedOp} (h : s.LandSorted) : (s.segSlice i g o).LandSorted := by
  simp only [State.segSlice]
  split
  all_goals simp only [State.opCheck_landSorted, State.sliceEnds_landSorted, State.freeSomeSegs_landSorted, h]

theorem State.eraseSlice_landSorted {i : Nat} {g : Grove} {o : SlicedOp} (h : s.LandSorted) : (s.eraseSlice i g o).LandSorted := by
  simp only [State.eraseSlice, State.opCheck_landSorted, State.sliceEnds_landSorted, landSorted_mk, sorted_land_lines, h]

/-! ## Rows of the sliced operations -/

theorem execSlicedOperationStart_landSorted {op : Nat} (h : s.LandSorted) : NextLandSorted (execSlicedOperationStart op s) := by
  simp only [execSlicedOperationStart, nextLandSorted_next]
  repeat' split
  all_goals simp only [State.beginOp_landSorted, h]

theorem execSlice_landSorted {op : Nat} {g : Grove} (h : s.LandSorted) : NextLandSorted (execSlice op g s) := by
  simp only [execSlice, nextLandSorted_next]
  repeat' split
  all_goals simp only [State.segSlice_landSorted, State.opCheck_landSorted, State.eraseSlice_landSorted, State.queueGroup_landSorted, h]

/-! ## Leaf pages and the journal -/

theorem State.leaseXfer_landSorted {p : Port} {lpn slot : Nat} {reads : Bool} (h : s.LandSorted) :
    (s.leaseXfer p lpn slot reads).LandSorted := by
  simp only [State.leaseXfer]
  split
  all_goals simp only [State.askCords_landSorted, landSorted_mk, sorted_land_lines, h]

theorem State.writeBack_landSorted {lpn : Nat} {g : LeafPage} (h : s.LandSorted) : (s.writeBack lpn g).LandSorted := by
  simp only [State.writeBack]
  repeat' split
  all_goals simp only [State.newLeaseKey_landSorted, State.sealPage_landSorted, State.leaseXfer_landSorted, landSorted_mk,
    sorted_land_lines, h]

theorem State.evictOne_landSorted (h : s.LandSorted) : s.evictOne.LandSorted := by
  simp only [State.evictOne]
  repeat' split
  all_goals simp only [State.draw_landSorted, State.writeBack_landSorted, landSorted_mk, sorted_land_lines, h]

theorem State.serveMiss_landSorted {lpn : Nat} {p : Port} {g : LeafPage} (h : s.LandSorted) : (s.serveMiss lpn p g).LandSorted := by
  simp only [State.serveMiss]
  split
  all_goals simp only [State.leaseXfer_landSorted, State.readLeaf_landSorted, landSorted_mk, sorted_land_lines, h]

theorem State.writeBackDone_landSorted {p : Port} {w : Nat × Nat × Nat} (h : s.LandSorted) : (s.writeBackDone p w).LandSorted := by
  simp only [State.writeBackDone]
  repeat' split
  all_goals simp only [State.freeCords_landSorted, landSorted_mk, sorted_land_lines, h]

theorem State.fetchOk_landSorted {p : Port} {lpn : Nat} (h : s.LandSorted) : (s.fetchOk p lpn).LandSorted := by
  simp only [State.fetchOk, State.resumeReads_landSorted, State.freeCords_landSorted, landSorted_mk, sorted_land_lines, h]

theorem State.fetchStale_landSorted {p : Port} {lpn : Nat} (h : s.LandSorted) : (s.fetchStale p lpn).LandSorted := by
  simp only [State.fetchStale]
  repeat' split
  all_goals simp only [State.freeCords_landSorted, State.readLeaf_landSorted, landSorted_mk, sorted_land_lines, h]

theorem State.commitSet_landSorted {n : Nat} {g : Grove} (h : s.LandSorted) : (s.commitSet n g).LandSorted := by
  simp only [State.commitSet]
  split
  all_goals simp only [State.noteBad_landSorted, State.freeGroups_landSorted, State.endSet_landSorted, landSorted_mk, sorted_land_lines,
    h]

theorem State.commitDealloc_landSorted {tag : Option Nat} {g : Grove} {cs : List GranChange} (h : s.LandSorted) :
    (s.commitDealloc tag g cs).LandSorted := by
  simp only [State.commitDealloc]
  split
  all_goals simp only [State.commitUnmaps_landSorted, State.deallocDone_landSorted, State.freeGroups_landSorted, State.modTag_landSorted,
    h]

theorem State.recordsDone_landSorted {tag : Nat} {rs : List JRec} (h : s.LandSorted) : (s.recordsDone tag rs).LandSorted := by
  simp only [State.recordsDone]
  repeat' split
  all_goals simp only [State.complete_landSorted, State.recheckSpare_landSorted, h]

theorem State.commitGroup_landSorted {g : Grove} {x : CommitGroup} (h : s.LandSorted) : (s.commitGroup g x).LandSorted := by
  simp only [State.commitGroup]
  repeat' split
  all_goals simp only [State.commitSet_landSorted, State.commitDealloc_landSorted, State.commitSlice_landSorted,
    State.commitCompact_landSorted, State.lostRepaired_landSorted, State.noteBad_landSorted, State.recordsDone_landSorted,
    State.modTag_landSorted, landSorted_mk, sorted_land_lines, h]

theorem State.startCompact_landSorted {g : Grove} (h : s.LandSorted) : (s.startCompact g).LandSorted := by
  simp only [State.startCompact]
  repeat' split
  all_goals simp only [State.queueGroup_landSorted, State.readLeaf_landSorted, State.evictOne_landSorted, h]

theorem State.placeUnit_landSorted {g : Grove} {kind id : Nat} (h : s.LandSorted) : (s.placeUnit g kind id).LandSorted := by
  simp only [State.placeUnit]
  repeat' split
  all_goals simp only [State.beginSet_landSorted, State.startSet_landSorted, State.startIfReady_landSorted, landSorted_mk,
    sorted_land_lines, h]

theorem feedSpill_landSorted {g : Grove} {n : Nat} (h : s.LandSorted) : (feedSpill g n s).LandSorted := by
  induction n generalizing s with
  | zero => exact h
  | succ n ih =>
    simp only [feedSpill]
    repeat' split
    all_goals simp only [h, ih, State.placeUnit_landSorted]

theorem State.spill_landSorted {g : Grove} (h : s.LandSorted) : (s.spill g).LandSorted := by
  simp only [State.spill]
  split
  all_goals simp only [feedSpill_landSorted, State.startSpill_landSorted, h]

/-! ## Rebuilding the map -/

theorem State.coldRebuild_landSorted {g : Grove} {start : Qword} (h : s.LandSorted) : (s.coldRebuild g start).LandSorted := by
  refine landSorted_mk.2 (foldl_landSorted (fun _ _ ha => ?_) (landSorted_mk.2 ?_))
  · exact State.replayRec_landSorted.2 ha
  · split
    · exact State.newLeaseKey_landSorted h
    · exact h

theorem State.scanRb_landSorted {rb : Nat} (h : s.LandSorted) : (s.scanRb rb).LandSorted := by
  simp only [State.scanRb]
  repeat' split
  all_goals simp only [State.closeRow_landSorted, State.recordHw_landSorted, landSorted_mk, sorted_land_lines, h]

theorem State.checkOpen_landSorted {rb : Nat} (h : s.LandSorted) : (s.checkOpen rb).LandSorted :=
  foldl_landSorted (fun _ _ ha => State.issueRead_landSorted ha) h

theorem State.scanGrove_landSorted {g : Grove} (h : s.LandSorted) : (s.scanGrove g).LandSorted := by
  simp only [State.scanGrove, State.retireFew_landSorted]
  exact foldl_landSorted (fun _ _ ha => State.checkOpen_landSorted ha) (foldl_landSorted (fun _ _ ha => State.scanRb_landSorted ha) h)

theorem State.mapsDone_landSorted (h : s.LandSorted) : s.mapsDone.LandSorted := by
  unfold State.mapsDone
  extract_lets s1 s2
  have h1 : s1.LandSorted := foldl_landSorted (fun _ _ ha => State.regenKey_landSorted.2 ha) h
  have h2 : s2.LandSorted := State.sizeLeafCache_landSorted.2 (landSorted_mk.2 h1)
  refine State.recheckPlp_landSorted ?_
  exact State.firstU0_landSorted.2 (State.extendSets_landSorted.2 (State.replaceSets_landSorted.2 h2))

theorem State.rebuilt_landSorted {g : Grove} (h : s.LandSorted) : (s.rebuilt g).LandSorted := by
  simp only [State.rebuilt]
  split
  all_goals simp only [State.redoUnits_landSorted, State.mapsDone_landSorted, landSorted_mk, sorted_land_lines, h]

theorem State.rebuildFrom_landSorted {g : Grove} {warm : Bool} {start : Qword} {i : RebuildInput} (h : s.LandSorted) :
    (s.rebuildFrom g warm start i).LandSorted := by
  unfold State.rebuildFrom
  extract_lets s0 s1 s2 s3 s4
  have h0 : s0.LandSorted := by
    simp only [s0]
    split
    · exact State.warmRebuild_landSorted.2 h
    · exact State.coldRebuild_landSorted h
  have h2 : s2.LandSorted := foldl_landSorted (fun _ _ ha => State.repairBitmap_landSorted.2 ha) h0
  have h3 : s3.LandSorted := by
    simp only [s3, State.recomputeRebuild_landSorted]
    exact State.scanGrove_landSorted (State.finishRetirements_landSorted.2 h2)
  have h4 : s4.LandSorted := by
    simp only [s4]
    repeat' split
    all_goals simpa only [State.halfReads_landSorted, State.olderWear_landSorted] using h3
  exact State.rebuilt_landSorted (State.formDomains_landSorted.2 h4)

theorem State.rebuildGrove_landSorted {g : Grove} {warm : Bool} {i : RebuildInput} (h : s.LandSorted) :
    (s.rebuildGrove g warm i).LandSorted := by
  have hf : ∀ (a : State) q, a.LandSorted → (a.mapFatal g q).LandSorted := fun a q ha => by
    exact State.mapFatal_landSorted.2 ha
  unfold State.rebuildGrove
  extract_lets x
  split
  · exact hf _ _ h
  extract_lets s0
  have h0 : s0.LandSorted := h
  repeat' split
  · exact State.rebuildFrom_landSorted h0
  · exact hf _ _ h0
  · exact hf _ _ h0
  · exact State.rebuildFrom_landSorted h0

/-! ## Rows of the map -/

theorem execLeafMiss_landSorted {dgn : Nat} {p : Port} (h : s.LandSorted) : NextLandSorted (execLeafMiss dgn p s) := by
  simp only [execLeafMiss, nextLandSorted_next]
  repeat' split
  all_goals simp only [State.serveMiss_landSorted, State.evictOne_landSorted, landSorted_mk, sorted_land_lines, h]

theorem execLeaseWriteBackDone_landSorted {lpn : Nat} (h : s.LandSorted) : NextLandSorted (execLeaseWriteBackDone lpn s) := by
  simp only [execLeaseWriteBackDone, nextLandSorted_next]
  repeat' split
  all_goals simp only [State.leaseOver_landSorted, State.writeBackDone_landSorted, h]

theorem State.fetchDone_landSorted {p : Port} {lpn : Nat} {reply : Option Block} (h : s.LandSorted) :
    (s.fetchDone p lpn reply).LandSorted := by
  simp only [State.fetchDone]
  repeat' split
  all_goals simp only [State.fetchStale_landSorted, State.fetchOk_landSorted, State.discardLease_landSorted, h]

theorem execLeaseFetchDone_landSorted {lpn : Nat} {reply : Option Block} (h : s.LandSorted) :
    NextLandSorted (execLeaseFetchDone lpn reply s) := by
  simp only [execLeaseFetchDone, nextLandSorted_next]
  repeat' split
  all_goals simp only [State.leaseOver_landSorted, State.fetchDone_landSorted, h]

theorem execLeaseRevokeDone_landSorted {p : Port} (h : s.LandSorted) : NextLandSorted (execLeaseRevokeDone p s) := by
  simp only [execLeaseRevokeDone, nextLandSorted_next]
  split
  all_goals simp only [State.endLease_landSorted, h]

theorem execJournalCommitDone_landSorted {g : Grove} (h : s.LandSorted) : NextLandSorted (execJournalCommitDone g s) := by
  simp only [execJournalCommitDone, nextLandSorted_next]
  repeat' split
  · exact h
  · exact h
  · exact State.resumeReads_landSorted (State.spill_landSorted (State.startCompact_landSorted
      (State.commitGroup_landSorted (landSorted_mk.2 h))))
  · exact State.spill_landSorted h
  · exact h
  · exact State.spill_landSorted h

theorem State.genUnit_landSorted {g : Grove} {u : Nat} (h : s.LandSorted) : (s.genUnit g u).LandSorted := by
  simp only [State.genUnit]
  repeat' split
  all_goals simp only [State.placeUnit_landSorted, State.readLeaf_landSorted, landSorted_mk, sorted_land_lines, h]

theorem State.checkpointSlice_landSorted {g : Grove} (h : s.LandSorted) : (s.checkpointSlice g).LandSorted := by
  simp only [State.checkpointSlice]
  repeat' split
  all_goals simp only [State.spill_landSorted, State.placeUnit_landSorted, State.genUnit_landSorted, State.genEnd_landSorted,
    landSorted_mk, sorted_land_lines, h]

theorem execCheckpointSlice_landSorted {g : Grove} (h : s.LandSorted) : NextLandSorted (execCheckpointSlice g s) := by
  simp only [execCheckpointSlice, nextLandSorted_next]
  split
  all_goals simp only [State.sliceEnds_landSorted, State.checkpointSlice_landSorted, h]

theorem execMapRebuild_landSorted {g : Grove} {i : RebuildInput} (h : s.LandSorted) : NextLandSorted (execMapRebuild g i s) := by
  simp only [execMapRebuild, nextLandSorted_next]
  split
  all_goals simp only [State.rebuildGrove_landSorted, h]

/-! ## Management: losses and failover -/

theorem State.groveDown_landSorted {g : Grove} (h : s.LandSorted) : (s.groveDown g).LandSorted :=
  foldl_landSorted (fun _ _ ha => foldl_landSorted (fun _ _ hb => State.backToClosed_landSorted hb) ha) h

theorem State.loseMgmt_landSorted (h : s.LandSorted) : s.loseMgmt.LandSorted :=
  foldl_landSorted (fun _ _ ha => State.complete_landSorted ha) (State.orphan_landSorted.2 (landSorted_mk.2 h))

theorem State.failOver_landSorted {cause : Nat} (h : s.LandSorted) : (s.failOver cause).LandSorted := by
  simp only [State.failOver]
  repeat' split
  all_goals simp only [State.loseMgmt_landSorted, State.leaveIdle_landSorted, State.beginHandover_landSorted, landSorted_mk,
    sorted_land_lines, h]

theorem State.handoverFails_landSorted {hd : Handover} {result : Nat} (h : s.LandSorted) : (s.handoverFails hd result).LandSorted := by
  simp only [State.handoverFails]
  repeat' split
  all_goals simp only [State.recordBy_landSorted, State.loseMgmt_landSorted, State.activationFails_landSorted, landSorted_mk,
    sorted_land_lines, h]

/-! ## Parameters -/

theorem State.takeRecord_landSorted {f : Frame} {rs : List CfgRec} (h : s.LandSorted) : (s.takeRecord f rs).LandSorted := by
  simp only [State.takeRecord, State.acceptRecord_landSorted, State.naileOk_landSorted, State.valuesTaken_landSorted,
    State.raiseLags_landSorted, landSorted_mk, sorted_land_lines, h]

/-! ## Rows of power loss and persistence -/

theorem State.testEnds_landSorted {result t : Nat} (h : s.LandSorted) : (s.testEnds result t).LandSorted := by
  simp only [State.testEnds, State.recheckPlp_landSorted, State.record_landSorted, landSorted_mk, sorted_land_lines, h]

theorem State.startTest_landSorted {huLow : Bool} (h : s.LandSorted) : (s.startTest huLow).LandSorted := by
  simp only [State.startTest]
  repeat' split
  all_goals simp only [State.testEnds_landSorted, landSorted_mk, sorted_land_lines, h]

theorem execCapacitorTestStart_landSorted {cause : CapCause} {huLow : Bool} (h : s.LandSorted) :
    NextLandSorted (execCapacitorTestStart cause huLow s) := by
  simp only [execCapacitorTestStart, nextLandSorted_next]
  split
  all_goals simp only [State.startTest_landSorted, h]

theorem execHuLowRise_landSorted {tMs : Nat} (h : s.LandSorted) : NextLandSorted (execHuLowRise tMs s) := by
  simp only [execHuLowRise, nextLandSorted_next]
  split
  all_goals simp only [State.testEnds_landSorted, h]

theorem execCapacitorTestTimeout_landSorted (h : s.LandSorted) : NextLandSorted (execCapacitorTestTimeout s) := by
  simp only [execCapacitorTestTimeout, nextLandSorted_next]
  split
  all_goals simp only [State.testEnds_landSorted, h]

theorem execPwrFailNRise_landSorted (h : s.LandSorted) : NextLandSorted (execPwrFailNRise s) := by
  simp only [execPwrFailNRise, nextLandSorted_next]
  repeat' split
  · exact h
  · refine foldl_landSorted (fun _ _ ha => State.startWaiting_landSorted ha) (foldl_landSorted (fun _ _ ha => ?_) (landSorted_mk.2 h))
    exact State.nextAction_landSorted.2 ha
  · exact landSorted_mk.2 h

theorem State.afterDump_landSorted (h : s.LandSorted) : s.afterDump.LandSorted := by
  simp only [State.afterDump]
  split
  all_goals simp only [State.takePin_landSorted, h]

theorem execPowerLossDump_landSorted (h : s.LandSorted) : NextLandSorted (execPowerLossDump s) := by
  simp only [execPowerLossDump, nextLandSorted_next]
  repeat' split
  all_goals simp only [State.afterDump_landSorted, State.dumpHalt_landSorted, State.dumpSlotsOut_landSorted,
    State.dumpHeaders_landSorted, State.dumpBegin_landSorted, State.dropHandover_landSorted, State.dropUpdate_landSorted, h]

theorem execDeferredResetTimeout_landSorted (h : s.LandSorted) : NextLandSorted (execDeferredResetTimeout s) := by
  simp only [execDeferredResetTimeout, nextLandSorted_next]
  split
  all_goals simp only [State.takePin_landSorted, h]

theorem State.replayGroups_landSorted {d : ReplayDamage} (h : s.LandSorted) : (s.replayGroups d).LandSorted := by
  unfold State.replayGroups
  extract_lets left r s1 p s2
  have hr : r.1.LandSorted := by
    rw [show r.1 = _ from enterItems_keep d left s]
    exact landSorted_mk.2 h
  have h2 : s2.LandSorted := landSorted_mk.2 (State.reportLost_landSorted.2 hr)
  split
  · refine State.recheckPlp_landSorted ?_
    simp only [State.eraseReplayed_landSorted]
    exact State.freeGroups_landSorted (landSorted_mk.2 h2)
  · exact h2

theorem execWriteCacheReplay_landSorted {d : ReplayDamage} (h : s.LandSorted) : NextLandSorted (execWriteCacheReplay d s) := by
  simp only [execWriteCacheReplay, nextLandSorted_next]
  repeat' split
  all_goals simp only [State.chooseReplay_landSorted, State.replayGroups_landSorted, h]

/-! ## Security -/

theorem State.beginRma_landSorted (h : s.LandSorted) : s.beginRma.LandSorted := by
  simp only [State.beginRma, State.record_landSorted, State.closeSession_landSorted, State.rmaGoOn_landSorted, landSorted_mk,
    sorted_land_lines, h]

/-! ## Rows of the parameters -/

theorem State.runAction_landSorted {f : Frame} {id v : Nat} {a : Action} (h : s.LandSorted)
    (hact : ∀ b, b.LandSorted → (a.act b).LandSorted) (hnoted : ∀ b, b.LandSorted → (a.noted b).LandSorted) :
    (s.runAction f id v a).LandSorted := by
  simp only [State.runAction]
  repeat' split
  all_goals simp only [State.rejected_landSorted, State.naileOk_landSorted, State.acceptRecord_landSorted, h, hact, hnoted]

theorem actionFor_landSorted {id v : Nat} {a : Action} (e : actionFor id v = some a) (h : s.LandSorted) :
    (a.act s).LandSorted ∧ (a.noted s).LandSorted := by
  simp only [actionFor] at e
  repeat' split at e
  · cases e
    exact ⟨State.newLeaseKey_landSorted h, h⟩
  · cases e
    exact ⟨State.startTest_landSorted h, h⟩
  · cases e
    exact ⟨State.releaseWrites_landSorted.2 h, h⟩
  · cases e
    exact ⟨landSorted_mk.2 h, h⟩
  · cases e
    exact ⟨landSorted_mk.2 h, h⟩
  · cases e
    exact ⟨State.askHandover_landSorted.2 h, h⟩
  · cases e
    exact ⟨State.burnSeal_landSorted.2 h, State.noteConflict_landSorted.2 h⟩
  · cases e
    exact ⟨State.commitSvn_landSorted.2 h, h⟩
  · cases e

theorem State.runRequest_landSorted {f : Frame} {t : Tx} {run : State → State} (h : s.LandSorted)
    (hr : ∀ a, a.LandSorted → (run a).LandSorted) : (s.runRequest f t run).LandSorted := by
  simp only [State.runRequest]
  repeat' split
  all_goals simp only [State.naileFail_landSorted, h, hr]

theorem State.request_landSorted {i : Instr} {f : Frame} {t : Tx} {run : State → State} (h : s.LandSorted)
    (hr : ∀ a, a.LandSorted → (run a).LandSorted) : (s.request i f t run).LandSorted := by
  have hf : s.acceptFrame.LandSorted := State.acceptFrame_landSorted.2 h
  simp only [State.request]
  repeat' split
  · exact h
  · exact landSorted_mk.2 h
  · exact landSorted_mk.2 h
  · exact landSorted_mk.2 hf
  · exact State.runRequest_landSorted hf hr

theorem State.standRequest_landSorted {i : Instr} {f : Frame} {run : State → State} (h : s.LandSorted)
    (hr : ∀ a, a.LandSorted → (run a).LandSorted) : (s.standRequest i f run).LandSorted :=
  State.request_landSorted h hr

theorem State.actionRequest_landSorted {i : Instr} {f : Frame} {id v : Nat} {a : Action} (h : s.LandSorted)
    (hact : ∀ b, b.LandSorted → (a.act b).LandSorted) (hnoted : ∀ b, b.LandSorted → (a.noted b).LandSorted) :
    (s.actionRequest i f id v a).LandSorted :=
  State.request_landSorted h fun _ hb => State.runAction_landSorted hb hact hnoted

theorem State.runReconfig_landSorted {f : Frame} {r : ReconfigRec} (h : s.LandSorted) : (s.runReconfig f r).LandSorted := by
  simp only [State.runReconfig]
  repeat' split
  · exact State.naileFail_landSorted.2 h
  · exact State.rejected_landSorted.2 h
  next e =>
    exact State.runAction_landSorted h (fun _ ha => (actionFor_landSorted e ha).1) fun _ ha => (actionFor_landSorted e ha).2
  · exact State.takeRecord_landSorted h
  · exact State.takeRecord_landSorted h

theorem execReconfig_landSorted {f : Frame} {r : ReconfigRec} (h : s.LandSorted) : NextLandSorted (execReconfig f r s) :=
  nextLandSorted_next.2 (State.request_landSorted h fun _ ha => State.runReconfig_landSorted ha)

/-! ## Rows of the security block -/

theorem State.runOpen_landSorted {f : Frame} {t : DebugToken} (h : s.LandSorted) : (s.runOpen f t).LandSorted := by
  simp only [State.runOpen]
  repeat' split
  all_goals simp only [State.refuseToken_landSorted, State.beginRma_landSorted, State.openSession_landSorted, State.naileOk_landSorted,
    landSorted_mk, sorted_land_lines, h]

theorem execDebugTokenOpen_landSorted {f : Frame} {t : DebugToken} (h : s.LandSorted) : NextLandSorted (execDebugTokenOpen f t s) :=
  nextLandSorted_next.2 (State.request_landSorted h fun _ ha => State.runOpen_landSorted ha)

/-! ## Moving a stand -/

theorem State.closeStrays_landSorted (h : s.LandSorted) : s.closeStrays.LandSorted :=
  foldl_landSorted (fun _ _ ha => State.closeRow_landSorted ha) h

theorem State.moveVictims_landSorted (h : s.LandSorted) : s.moveVictims.LandSorted :=
  foldl_landSorted (fun _ _ ha => foldl_landSorted (fun _ _ hb => State.backToClosed_landSorted hb) ha) h

theorem State.moveRows_landSorted {rows : BitVec 128} (h : s.LandSorted) : (s.moveRows rows).LandSorted := by
  simp only [State.moveRows, State.clearDebts_landSorted, State.dirtyStrays_landSorted]
  refine State.closeStrays_landSorted (foldl_landSorted (fun _ _ ha => ?_) (foldl_landSorted (fun _ _ ha => ?_) ?_))
  · exact State.noteU0_landSorted.2 ha
  · exact State.fillRegion_landSorted.2 ha
  · simp only [State.moveDumps_landSorted]
    exact State.moveVictims_landSorted (State.moveRegions_landSorted.2 h)

/-! ## Rows of the stands -/

theorem State.createStand_landSorted {d : StandDesc} (h : s.LandSorted) : (s.createStand d).LandSorted := by
  simp only [State.createStand, State.moveRows_landSorted, landSorted_mk, sorted_land_lines, h]

theorem State.runCreate_landSorted {f : Frame} {d : StandDesc} (h : s.LandSorted) : (s.runCreate f d).LandSorted := by
  simp only [State.runCreate]
  split
  all_goals simp only [State.standAnswer_landSorted, State.recheckSpare_landSorted, State.journal_landSorted,
    State.createStand_landSorted, h]

theorem execStandCtlCreate_landSorted {f : Frame} {d : StandDesc} (h : s.LandSorted) : NextLandSorted (execStandCtlCreate f d s) :=
  nextLandSorted_next.2 (State.standRequest_landSorted h fun _ ha => State.runCreate_landSorted ha)

theorem State.modifyStand_landSorted {d : StandDesc} {x : StandS} (h : s.LandSorted) : (s.modifyStand d x).LandSorted := by
  simp only [State.modifyStand]
  split
  all_goals simp only [State.refillStands_landSorted, State.moveRows_landSorted, landSorted_mk, sorted_land_lines, h]

theorem State.runModify_landSorted {f : Frame} {d : StandDesc} (h : s.LandSorted) : (s.runModify f d).LandSorted := by
  simp only [State.runModify]
  split
  all_goals simp only [State.standAnswer_landSorted, State.recheckSpare_landSorted, State.journal_landSorted,
    State.modifyStand_landSorted, h]

theorem execStandCtlModify_landSorted {f : Frame} {d : StandDesc} (h : s.LandSorted) : NextLandSorted (execStandCtlModify f d s) :=
  nextLandSorted_next.2 (State.standRequest_landSorted h fun _ ha => State.runModify_landSorted ha)

theorem State.standDetach_landSorted {st : Nat} {x : StandS} (h : s.LandSorted) : (s.standDetach st x).LandSorted := by
  simp only [State.standDetach, State.nsChanged_landSorted, State.journal_landSorted, landSorted_mk, sorted_land_lines, h]

theorem State.closePoints_landSorted {st : Nat} (h : s.LandSorted) : (s.closePoints st).LandSorted :=
  foldl_landSorted (fun _ _ ha => State.closeRow_landSorted ha) h

theorem State.standUnmap_landSorted {st : Nat} (h : s.LandSorted) : (s.standUnmap st).LandSorted := by
  simp only [State.standUnmap]
  split
  all_goals simp only [State.closePoints_landSorted, State.beginOp_landSorted, landSorted_mk, sorted_land_lines, h]

theorem State.standGone_landSorted {st : Nat} {x : StandS} (h : s.LandSorted) : (s.standGone st x).LandSorted := by
  simp only [State.standGone]
  split
  all_goals simp only [State.moveRows_landSorted, State.rmaGoOn_landSorted, State.recheckSpare_landSorted, State.journal_landSorted,
    landSorted_mk, sorted_land_lines, h]

theorem execStandDeleteRun_landSorted {st : StandNo} (h : s.LandSorted) : NextLandSorted (execStandDeleteRun st s) := by
  simp only [execStandDeleteRun, nextLandSorted_next]
  repeat' split
  all_goals simp only [State.standKeys_landSorted, State.standDetach_landSorted, State.standUnmap_landSorted, State.standGone_landSorted,
    landSorted_mk, sorted_land_lines, h]

theorem State.finishDetach_landSorted {f : Frame} {c : Cntl} {st : StandNo} (h : s.LandSorted) :
    (s.finishDetach f c st).LandSorted := by
  simp only [State.finishDetach, State.standAnswer_landSorted, State.journal_landSorted, landSorted_mk, sorted_land_lines]
  exact foldl_landSorted (fun _ _ ha => State.detachNs_landSorted ha) h

theorem State.runDetach_landSorted {i : Instr} {f : Frame} {a : AttachWord} (h : s.LandSorted) : (s.runDetach i f a).LandSorted := by
  simp only [State.runDetach]
  repeat' split
  all_goals simp only [State.standAnswer_landSorted, State.finishDetach_landSorted, landSorted_mk, sorted_land_lines, h]

theorem execStandCtlDetach_landSorted {f : Frame} {c : BitVec 24} {st : Byte} (h : s.LandSorted) :
    NextLandSorted (execStandCtlDetach f c st s) := by
  simp only [execStandCtlDetach, nextLandSorted_next]
  repeat' split
  · exact h
  · exact State.runDetach_landSorted h
  · exact State.standRequest_landSorted h fun _ ha => State.runDetach_landSorted ha

/-! ## Rows of management -/

theorem reqOf_landSorted {i : Instr} {q : Req} (e : reqOf i = some q) (h : s.LandSorted) : (q.run s).LandSorted := by
  unfold reqOf at e
  split at e
  all_goals cases e
  · exact State.runAction_landSorted h (fun _ ha => State.newLeaseKey_landSorted ha) fun _ ha => ha
  · exact State.runAction_landSorted h (fun _ ha => State.releaseWrites_landSorted.2 ha) fun _ ha => ha
  · exact State.runAction_landSorted h (fun _ ha => landSorted_mk.2 ha) fun _ ha => ha
  · exact State.runAction_landSorted h (fun _ ha => landSorted_mk.2 ha) fun _ ha => ha
  · exact State.runAction_landSorted h (fun _ ha => State.startTest_landSorted ha) fun _ ha => ha
  · exact State.runAction_landSorted h (fun _ ha => State.askHandover_landSorted.2 ha) fun _ ha => ha
  · exact State.runAction_landSorted h (fun _ ha => State.burnSeal_landSorted.2 ha) fun _ ha => State.noteConflict_landSorted.2 ha
  · exact State.runAction_landSorted h (fun _ ha => State.commitSvn_landSorted.2 ha) fun _ ha => ha
  · exact State.runCreate_landSorted h
  · exact State.runModify_landSorted h
  · exact State.runDelete_landSorted.2 h
  · exact State.runAttach_landSorted.2 h
  · exact State.runDetach_landSorted h
  · exact State.runQuery_landSorted.2 h
  · exact State.runReconfig_landSorted h
  · exact State.runParamRead_landSorted.2 h
  · exact State.runWindowRead_landSorted.2 h
  · exact State.runImageBegin_landSorted.2 h
  · exact State.runImageChunk_landSorted.2 h
  · exact State.runImageEnd_landSorted.2 h
  · exact State.runCommitImage_landSorted.2 h
  · exact State.runCommitConfiguration_landSorted.2 h
  · exact State.runRaiseFloor_landSorted.2 h
  · exact State.runRestoreSpare_landSorted.2 h
  · exact State.runTallyRead_landSorted.2 h
  · exact State.runHealthRead_landSorted.2 h
  · exact State.runRawDiag_landSorted.2 h
  · exact State.runRecoveryStatus_landSorted.2 h
  · exact State.naileFail_landSorted.2 h
  · exact State.runChallenge_landSorted.2 h
  · exact State.runOpen_landSorted h
  · exact State.runClose_landSorted.2 h

theorem State.resumeWaiting_landSorted (h : s.LandSorted) : s.resumeWaiting.LandSorted := by
  unfold State.resumeWaiting
  split
  · exact h
  split
  · exact h
  next q e =>
    obtain ⟨i, -, hi⟩ := Option.bind_eq_some_iff.1 e
    exact State.runRequest_landSorted (landSorted_mk.2 h) fun _ ha => reqOf_landSorted hi ha

theorem execMapLeaseRekey_landSorted {f : Frame} {v : Nat} (h : s.LandSorted) : NextLandSorted (execMapLeaseRekey f v s) :=
  nextLandSorted_next.2 (State.actionRequest_landSorted h (fun _ ha => State.newLeaseKey_landSorted ha) fun _ ha => ha)

theorem execPlpTestNow_landSorted {f : Frame} {v : Nat} {huLow : Bool} (h : s.LandSorted) : NextLandSorted (execPlpTestNow f v huLow s) :=
  nextLandSorted_next.2 (State.actionRequest_landSorted h (fun _ ha => State.startTest_landSorted ha) fun _ ha => ha)

theorem execTakeover_landSorted (h : s.LandSorted) : NextLandSorted (execTakeover s) := by
  refine nextLandSorted_next.2 ?_
  repeat' split
  · exact h
  · exact State.resumeWaiting_landSorted (State.handoverDone_landSorted.2 h)
  · exact h

theorem State.dapRun_landSorted {r : DapReach} (h : s.LandSorted) : (s.dapRun r).LandSorted := by
  cases r with
  | resumeMgmt => exact State.resumeWaiting_landSorted (State.setHalt_landSorted.2 h)
  | haltMgmt => exact State.setHalt_landSorted.2 h
  | haltFtl => exact State.setHalt_landSorted.2 h
  | resumeFtl => exact State.setHalt_landSorted.2 h
  | readMgmt => exact State.dapFree_landSorted.2 h
  | readFtl => exact State.dapFree_landSorted.2 h
  | writeMgmt => exact State.dapOut_landSorted.2 h
  | readWindow => exact State.dapOut_landSorted.2 h
  | readLanding => exact State.dapOut_landSorted.2 h
  | readDram => exact State.dapOut_landSorted.2 h

theorem execDap_landSorted {r : DapReach} (h : s.LandSorted) : NextLandSorted (execDap r s) := by
  refine nextLandSorted_next.2 ?_
  repeat' split
  · exact State.tapBypass_landSorted.2 h
  · exact State.tapBypass_landSorted.2 h
  · exact State.dapRun_landSorted h
  · exact State.tap_landSorted.2 h

theorem execSessionLifetimeExpiry_landSorted (h : s.LandSorted) : NextLandSorted (execSessionLifetimeExpiry s) := by
  refine nextLandSorted_next.2 ?_
  repeat' split
  · exact h
  · exact State.resumeWaiting_landSorted (State.closeSession_landSorted.2 h)
  · exact h

theorem execWatchdogExpiry_landSorted (h : s.LandSorted) : NextLandSorted (execWatchdogExpiry s) := by
  refine nextLandSorted_next.2 ?_
  split
  · exact State.resumeWaiting_landSorted (State.failOver_landSorted h)
  · exact h

theorem execMgmtFault_landSorted {k : MgmtFaultKind} (h : s.LandSorted) : NextLandSorted (execMgmtFault k s) := by
  refine nextLandSorted_next.2 ?_
  split
  · exact State.resumeWaiting_landSorted (State.failOver_landSorted h)
  · exact h

theorem execHandoverTimeout_landSorted {result : Nat} (h : s.LandSorted) : NextLandSorted (execHandoverTimeout result s) := by
  refine nextLandSorted_next.2 ?_
  repeat' split
  · exact h
  · exact State.resumeWaiting_landSorted (State.handoverFails_landSorted h)
  · exact h

theorem execGroveRestart_landSorted {g : Grove} (h : s.LandSorted) : NextLandSorted (execGroveRestart g s) := by
  simp only [execGroveRestart, nextLandSorted_next]
  repeat' split
  all_goals simp only [State.groveDown_landSorted, h]

/-! ## Rows of power -/

theorem execRefclkLoss_landSorted (h : s.LandSorted) : NextLandSorted (execRefclkLoss s) := by
  simp only [execRefclkLoss, nextLandSorted_next]
  split
  all_goals simp only [State.controlledStop_landSorted, State.recordHw_landSorted, landSorted_mk, sorted_land_lines, h]

theorem execTemperatureSample_landSorted {c : Int} (h : s.LandSorted) : NextLandSorted (execTemperatureSample c s) := by
  simp only [execTemperatureSample, nextLandSorted_next]
  repeat' split
  all_goals simp only [State.controlledStop_landSorted, State.recordHw_landSorted, State.recheckPower_landSorted,
    State.record_landSorted, landSorted_mk, sorted_land_lines, h]

theorem execGovernorTick_landSorted {mw : Nat} (h : s.LandSorted) : NextLandSorted (execGovernorTick mw s) := by
  simp only [execGovernorTick, nextLandSorted_next, State.feedCtxs_landSorted, landSorted_mk, sorted_land_lines, h]

theorem State.enter_landSorted {t : Nat} (h : s.LandSorted) : (s.enter t).LandSorted := by
  simp only [State.enter]
  repeat' split
  all_goals simp only [State.beginEntry_landSorted, State.enterPs4_landSorted, State.enterPs3_landSorted, h]

theorem execPowerStateEntry_landSorted (h : s.LandSorted) : NextLandSorted (execPowerStateEntry s) := by
  simp only [execPowerStateEntry, nextLandSorted_next]
  repeat' split
  all_goals simp only [State.enter_landSorted, State.restLinks_landSorted, State.leaveIdle_landSorted, h]

theorem execSmbusAddressMatch_landSorted {addr : BitVec 7} {w : WakeChecks} (h : s.LandSorted) :
    NextLandSorted (execSmbusAddressMatch addr w s) := by
  simp only [execSmbusAddressMatch, nextLandSorted_next]
  split
  all_goals simp only [State.fullWake_landSorted, landSorted_mk, sorted_land_lines, h]

theorem execPatrolWake_landSorted {w : WakeChecks} (h : s.LandSorted) : NextLandSorted (execPatrolWake w s) := by
  simp only [execPatrolWake, nextLandSorted_next]
  split
  all_goals simp only [State.wakeUp_landSorted, landSorted_mk, sorted_land_lines, h]

theorem execPatrolTimeout_landSorted (h : s.LandSorted) : NextLandSorted (execPatrolTimeout s) := by
  simp only [execPatrolTimeout, nextLandSorted_next]
  split
  all_goals simp only [State.enter_landSorted, h]

/-! ## Rows of reset -/

theorem execPowerOnResetAssert_landSorted : NextLandSorted (execPowerOnResetAssert s) := by
  simp only [execPowerOnResetAssert, nextLandSorted_next, State.clearUnits_landSorted, landSorted_mk, sorted_land_lines]

theorem execResetNAssert_landSorted {pulseNs : Option Nat} (h : s.LandSorted) : NextLandSorted (execResetNAssert pulseNs s) := by
  have hp : (s.pulse pulseNs).2.LandSorted := State.pulse_landSorted.2 h
  simp only [execResetNAssert, nextLandSorted_next]
  split
  · exact hp
  split
  · exact landSorted_mk.2 hp
  · exact State.takePin_landSorted

theorem execPllLock_landSorted {r : RomReads} (h : s.LandSorted) : NextLandSorted (execPllLock r s) := by
  simp only [execPllLock, nextLandSorted_next]
  split
  all_goals simp only [State.romBoot_landSorted, State.findBad_landSorted, h]

theorem execStartupComplete_landSorted (h : s.LandSorted) : NextLandSorted (execStartupComplete s) := by
  simp only [execStartupComplete, nextLandSorted_next]
  split
  all_goals simp only [State.recheckPower_landSorted, State.recheckSpare_landSorted, State.recheckPlp_landSorted, landSorted_mk,
    sorted_land_lines, h]

/-! ## Every row, and a step -/

theorem exec_landSorted (i : Instr) (h : s.LandSorted) : NextLandSorted (exec i s) := by
  cases i with
  | perstAssert => exact execPerstAssert_landSorted h
  | perstDeassert => exact execPerstDeassert_landSorted h
  | hotReset => exact execHotReset_landSorted h
  | dataLinkDown => exact execDataLinkDown_landSorted h
  | linkUp => exact nextLandSorted_of_land_eq h fun _ e => by simp only [execLinkUp_keep _ _ _ _ e]
  | configurationRequest => exact nextLandSorted_of_land_eq h fun _ e => by simp only [execConfigurationRequest_keep _ _ e]
  | linkL1Exit => exact execLinkL1Exit_landSorted h
  | functionLevelReset => exact execFunctionLevelReset_landSorted h
  | ccEnSet => exact nextLandSorted_of_land_eq h fun _ e => by simp only [execCcEnSet_keep _ _ _ _ e]
  | ccEnClear => exact execCcEnClear_landSorted h
  | sqTailDoorbell => exact nextLandSorted_of_land_eq h fun _ e => by simp only [execSqTailDoorbell_keep _ _ _ _ _ e]
  | cqHeadDoorbell => exact execCqHeadDoorbell_landSorted h
  | tagAvailable => exact nextLandSorted_of_land_eq h fun _ e => by simp only [execTagAvailable_keep _ _ _ e]
  | poisonedCompletion => exact execPoisonedCompletion_landSorted h
  | completionTimeout => exact execCompletionTimeout_landSorted h
  | registerWrite => exact execRegisterWrite_landSorted h
  | keepAliveTimeout => exact nextLandSorted_of_land_eq h fun _ e => by simp only [execKeepAliveTimeout_keep _ _ e]
  | orderedCommandBegin => exact nextLandSorted_of_land_eq h fun _ e => by simp only [execOrderedCommandBegin_keep _ _ e]
  | nextDispatch => exact nextLandSorted_of_land_eq h fun _ e => by simp only [execNextDispatch_keep _ _ _ e]
  | deleteIoSq => exact execDeleteIoSq_landSorted h
  | createIoSq => exact execCreateIoSq_landSorted h
  | deleteIoCq => exact execDeleteIoCq_landSorted h
  | createIoCq => exact execCreateIoCq_landSorted h
  | getLogPage => exact execGetLogPage_landSorted h
  | identify => exact execIdentify_landSorted h
  | abort => exact execAbort_landSorted h
  | arbitration => exact execArbitration_landSorted h
  | powerManagement => exact execPowerManagement_landSorted h
  | temperatureThreshold => exact execTemperatureThreshold_landSorted h
  | volatileWriteCache => exact execVolatileWriteCache_landSorted h
  | numberOfQueues => exact execNumberOfQueues_landSorted h
  | interruptCoalescing => exact execInterruptCoalescing_landSorted h
  | interruptVectorConfiguration => exact execInterruptVectorConfiguration_landSorted h
  | writeAtomicityNormal => exact execWriteAtomicityNormal_landSorted h
  | asyncEventConfiguration => exact execAsyncEventConfiguration_landSorted h
  | timestamp => exact execTimestamp_landSorted h
  | keepAliveTimer => exact execKeepAliveTimer_landSorted h
  | hostIdentifier => exact execHostIdentifier_landSorted h
  | reservationNotificationMask => exact execReservationNotificationMask_landSorted h
  | reservationPersistence => exact execReservationPersistence_landSorted h
  | unsupportedFeature => exact execUnsupportedFeature_landSorted h
  | getFeatures => exact execGetFeatures_landSorted h
  | asynchronousEventRequest => exact execAsynchronousEventRequest_landSorted h
  | namespaceCreate => exact execNamespaceCreate_landSorted h
  | namespaceDelete => exact execNamespaceDelete_landSorted h
  | namespaceAttach => exact execNamespaceAttach_landSorted h
  | namespaceDetach => exact execNamespaceDetach_landSorted h
  | keepAlive => exact execKeepAlive_landSorted h
  | formatNvm => exact execFormatNvm_landSorted h
  | sanitizeCryptoErase => exact execSanitizeCryptoErase_landSorted h
  | sanitizeBlockErase => exact execSanitizeBlockErase_landSorted h
  | sanitizeExitFailureMode => exact execSanitizeExitFailureMode_landSorted h
  | sanitizeOverwrite => exact execSanitizeOverwrite_landSorted h
  | firmwareCommit => exact execFirmwareCommit_landSorted h
  | firmwareImageDownload => exact execFirmwareImageDownload_landSorted h
  | mapLeaseGrant => exact execMapLeaseGrant_landSorted h
  | mapLeaseRevoke => exact execMapLeaseRevoke_landSorted h
  | mapLeaseStatus => exact execMapLeaseStatus_landSorted h
  | standStatus => exact execStandStatus_landSorted h
  | invalidAdminOpcode => exact execInvalidAdminOpcode_landSorted h
  | flush => exact execFlush_landSorted h
  | write => exact execWrite_landSorted h
  | read => exact execRead_landSorted h
  | compare => exact execCompare_landSorted h
  | writeZeroes => exact execWriteZeroes_landSorted h
  | datasetManagement => exact execDatasetManagement_landSorted h
  | reservationRegister => exact execReservationRegister_landSorted h
  | reservationReport => exact execReservationReport_landSorted h
  | reservationAcquire => exact execReservationAcquire_landSorted h
  | reservationRelease => exact execReservationRelease_landSorted h
  | orderedWrite => exact execOrderedWrite_landSorted h
  | orderedRead => exact execOrderedRead_landSorted h
  | orderedDatasetManagement => exact execOrderedDatasetManagement_landSorted h
  | gatherRead => exact execGatherRead_landSorted h
  | invalidIoOpcode => exact execInvalidIoOpcode_landSorted h
  | slicedOperationStart => exact execSlicedOperationStart_landSorted h
  | slice => exact execSlice_landSorted h
  | dmaContextComplete => exact execDmaContextComplete_landSorted h
  | orderingToken => exact execOrderingToken_landSorted h
  | cordGrant => exact execCordGrant_landSorted h
  | gatherWindow => exact execGatherWindow_landSorted h
  | leafMiss => exact execLeafMiss_landSorted h
  | leaseWriteBackDone => exact execLeaseWriteBackDone_landSorted h
  | leaseFetchDone => exact execLeaseFetchDone_landSorted h
  | leaseRevokeDone => exact execLeaseRevokeDone_landSorted h
  | mapLeaseRekey => exact execMapLeaseRekey_landSorted h
  | journalCommitDone => exact execJournalCommitDone_landSorted h
  | checkpointSlice => exact execCheckpointSlice_landSorted h
  | mapRebuild => exact execMapRebuild_landSorted h
  | windrowSetPlacement => exact execWindrowSetPlacement_landSorted h
  | parityTransfer => exact execParityTransfer_landSorted h
  | forceWaitExpiry => exact execForceWaitExpiry_landSorted h
  | idleForceExpiry => exact execIdleForceExpiry_landSorted h
  | openIdleClose => exact execOpenIdleClose_landSorted h
  | gseqAgeLimit => exact execGseqAgeLimit_landSorted h
  | thinningSlice => exact execThinningSlice_landSorted h
  | victimEraseStart => exact execVictimEraseStart_landSorted h
  | cruiseSlice => exact execCruiseSlice_landSorted h
  | cruiseLate => exact nextLandSorted_of_land_eq h fun _ e => by simp only [execCruiseLate_keep _ _ e]
  | medReadOnlyRelease => exact nextLandSorted_of_land_eq h fun _ e => by simp only [execMedReadOnlyRelease_keep _ _ _ e]
  | dieQueueArrival => exact execDieQueueArrival_landSorted h
  | dieStatusPoll => exact execDieStatusPoll_landSorted h
  | readyBusyTimeout => exact execReadyBusyTimeout_landSorted h
  | busArbitrationPoint => exact execBusArbitrationPoint_landSorted h
  | hardDecodeDone => exact execHardDecodeDone_landSorted h
  | softDecodeDone => exact execSoftDecodeDone_landSorted h
  | programDone => exact execProgramDone_landSorted h
  | eraseDone => exact execEraseDone_landSorted h
  | channelTraining => exact execChannelTraining_landSorted h
  | driftTracking => exact execDriftTracking_landSorted h
  | liveRetrainSlice => exact execLiveRetrainSlice_landSorted h
  | padMonitorCheck => exact execPadMonitorCheck_landSorted h
  | rebuildSlice => exact execRebuildSlice_landSorted h
  | chnDegradedClear => exact nextLandSorted_of_land_eq h fun _ e => by simp only [execChnDegradedClear_keep _ _ _ e]
  | capacitorTestStart => exact execCapacitorTestStart_landSorted h
  | plpTestNow => exact execPlpTestNow_landSorted h
  | huLowRise => exact execHuLowRise_landSorted h
  | capacitorTestTimeout => exact execCapacitorTestTimeout_landSorted h
  | pwrFailNFall => exact nextLandSorted_of_land_eq h fun _ e => by simp only [execPwrFailNFall_keep _ e]
  | powerLossDump => exact execPowerLossDump_landSorted h
  | deferredResetTimeout => exact execDeferredResetTimeout_landSorted h
  | writeCacheReplay => exact execWriteCacheReplay_landSorted h
  | standCtlCreate => exact execStandCtlCreate_landSorted h
  | standCtlModify => exact execStandCtlModify_landSorted h
  | standCtlDelete => exact nextLandSorted_of_land_eq h fun _ e => by simp only [execStandCtlDelete_keep _ _ _ e]
  | standDeleteRun => exact execStandDeleteRun_landSorted h
  | standCtlAttach => exact nextLandSorted_of_land_eq h fun _ e => by simp only [execStandCtlAttach_keep _ _ _ _ e]
  | standCtlDetach => exact execStandCtlDetach_landSorted h
  | standCtlQuery => exact nextLandSorted_of_land_eq h fun _ e => by simp only [execStandCtlQuery_keep _ _ _ e]
  | standPreparationDone => exact nextLandSorted_of_land_eq h fun _ e => by simp only [execStandPreparationDone_keep _ _ e]
  | standRelocationDone => exact nextLandSorted_of_land_eq h fun _ e => by simp only [execStandRelocationDone_keep _ _ e]
  | dramTraining => exact nextLandSorted_of_land_eq h fun _ e => by simp only [execDramTraining_keep _ _ e]
  | dramZeroFillSlice => exact nextLandSorted_of_land_eq h fun _ e => by simp only [execDramZeroFillSlice_keep _ e]
  | dramScrub => exact execDramScrub_landSorted h
  | dramAlert => exact nextLandSorted_of_land_eq h fun _ e => by simp only [execDramAlert_keep _ _ _ _ e]
  | dramTemperatureChange => exact nextLandSorted_of_land_eq h fun _ e => by simp only [execDramTemperatureChange_keep _ _ _ e]
  | drmRetrainNow => exact nextLandSorted_of_land_eq h fun _ e => by simp only [execDrmRetrainNow_keep _ _ _ e]
  | dramLiveRetrainSlice => exact execDramLiveRetrainSlice_landSorted h
  | dramRefresh ch bank => exact nextLandSorted_of_land_eq h fun _ e => by simp only [execDramRefresh_keep ch bank _ e]
  | dramActivationLimit ch bank => exact nextLandSorted_of_land_eq h fun _ e => by simp only [execDramActivationLimit_keep ch bank _ e]
  | dramTokenRequest => exact nextLandSorted_of_land_eq h fun _ e => by simp only [execDramTokenRequest_keep _ _ e]
  | powerOnResetAssert => exact execPowerOnResetAssert_landSorted
  | powerOnResetRelease => exact nextLandSorted_of_land_eq h fun _ e => by simp only [execPowerOnResetRelease_keep _ _ _ e]
  | resetNAssert => exact execResetNAssert_landSorted h
  | resetNRelease => exact nextLandSorted_of_land_eq h fun _ e => by simp only [execResetNRelease_keep _ _ _ e]
  | pllLock => exact execPllLock_landSorted h
  | startupComplete => exact execStartupComplete_landSorted h
  | clkCtrlWrite => exact nextLandSorted_of_land_eq h fun _ e => by simp only [execClkCtrlWrite_keep _ _ e]
  | refclkLoss => exact execRefclkLoss_landSorted h
  | temperatureSample => exact execTemperatureSample_landSorted h
  | governorTick => exact execGovernorTick_landSorted h
  | lpoCalibration => exact nextLandSorted_of_land_eq h fun _ e => by simp only [execLpoCalibration_keep _ e]
  | powerStateEntry => exact execPowerStateEntry_landSorted h
  | smbusAddressMatch => exact execSmbusAddressMatch_landSorted h
  | smbusMatchTimeout => exact nextLandSorted_of_land_eq h fun _ e => by simp only [execSmbusMatchTimeout_keep _ e]
  | patrolWake => exact execPatrolWake_landSorted h
  | patrolTimeout => exact execPatrolTimeout_landSorted h
  | pwrPadReleaseWrite => exact nextLandSorted_of_land_eq h fun _ e => by simp only [execPwrPadReleaseWrite_keep _ _ e]
  | secLifecycleAdvance => exact nextLandSorted_of_land_eq h fun _ e => by simp only [execSecLifecycleAdvance_keep _ _ _ e]
  | secSvnCommit => exact nextLandSorted_of_land_eq h fun _ e => by simp only [execSecSvnCommit_keep _ _ _ e]
  | idcode => exact nextLandSorted_of_land_eq h fun _ e => by simp only [execIdcode_keep _ e]
  | samplePreload => exact nextLandSorted_of_land_eq h fun _ e => by simp only [execSamplePreload_keep _ e]
  | extest => exact nextLandSorted_of_land_eq h fun _ e => by simp only [execExtest_keep _ e]
  | clamp => exact nextLandSorted_of_land_eq h fun _ e => by simp only [execClamp_keep _ e]
  | highz => exact nextLandSorted_of_land_eq h fun _ e => by simp only [execHighz_keep _ e]
  | secstat => exact nextLandSorted_of_land_eq h fun _ e => by simp only [execSecstat_keep _ e]
  | dap => exact execDap_landSorted h
  | provision => exact nextLandSorted_of_land_eq h fun _ e => by simp only [execProvision_keep _ e]
  | bypass => exact nextLandSorted_of_land_eq h fun _ e => by simp only [execBypass_keep _ _ e]
  | debugTokenChallenge => exact nextLandSorted_of_land_eq h fun _ e => by simp only [execDebugTokenChallenge_keep _ _ e]
  | debugTokenOpen => exact execDebugTokenOpen_landSorted h
  | debugTokenClose => exact nextLandSorted_of_land_eq h fun _ e => by simp only [execDebugTokenClose_keep _ _ e]
  | sessionLifetimeExpiry => exact execSessionLifetimeExpiry_landSorted h
  | nonceExpiry => exact nextLandSorted_of_land_eq h fun _ e => by simp only [execNonceExpiry_keep _ e]
  | getVersion => exact nextLandSorted_of_land_eq h fun _ e => by simp only [execGetVersion_keep _ _ e]
  | getCapabilities => exact nextLandSorted_of_land_eq h fun _ e => by simp only [execGetCapabilities_keep _ _ e]
  | negotiateAlgorithms => exact nextLandSorted_of_land_eq h fun _ e => by simp only [execNegotiateAlgorithms_keep _ _ _ e]
  | getDigests => exact nextLandSorted_of_land_eq h fun _ e => by simp only [execGetDigests_keep _ _ e]
  | getCertificate => exact nextLandSorted_of_land_eq h fun _ e => by simp only [execGetCertificate_keep _ _ _ _ _ e]
  | challenge => exact nextLandSorted_of_land_eq h fun _ e => by simp only [execChallenge_keep _ _ _ _ e]
  | getMeasurements => exact nextLandSorted_of_land_eq h fun _ e => by simp only [execGetMeasurements_keep _ _ _ _ _ e]
  | getLmsCert => exact nextLandSorted_of_land_eq h fun _ e => by simp only [execGetLmsCert_keep _ _ e]
  | getLmsSig => exact nextLandSorted_of_land_eq h fun _ e => by simp only [execGetLmsSig_keep _ _ e]
  | spdmUnsupportedRequest => exact nextLandSorted_of_land_eq h fun _ e => by simp only [execSpdmUnsupportedRequest_keep _ _ _ e]
  | readNvmeMiDataStructure => exact nextLandSorted_of_land_eq h fun _ e => by simp only [execReadNvmeMiDataStructure_keep _ _ _ e]
  | nvmSubsystemHealthStatusPoll => exact nextLandSorted_of_land_eq h fun _ e => by simp only [execNvmSubsystemHealthStatusPoll_keep _ _ e]
  | controllerHealthStatusPoll => exact nextLandSorted_of_land_eq h fun _ e => by simp only [execControllerHealthStatusPoll_keep _ _ _ _ e]
  | configurationGet => exact nextLandSorted_of_land_eq h fun _ e => by simp only [execConfigurationGet_keep _ _ e]
  | configurationSet => exact nextLandSorted_of_land_eq h fun _ e => by simp only [execConfigurationSet_keep _ _ _ e]
  | vpdRead => exact nextLandSorted_of_land_eq h fun _ e => by simp only [execVpdRead_keep _ _ _ e]
  | miAdminTunnel => exact nextLandSorted_of_land_eq h fun _ e => by simp only [execMiAdminTunnel_keep _ _ _ e]
  | miInvalidParameter => exact nextLandSorted_of_land_eq h fun _ e => by simp only [execMiInvalidParameter_keep _ _ e]
  | basicManagementCommand => exact nextLandSorted_of_land_eq h fun _ e => by simp only [execBasicManagementCommand_keep _ _ _ e]
  | smbusArp => exact nextLandSorted_of_land_eq h fun _ e => by simp only [execSmbusArp_keep _ _ e]
  | mgmtCheckpoint => exact nextLandSorted_of_land_eq h fun _ e => by simp only [execMgmtCheckpoint_keep _ e]
  | watchdogExpiry => exact execWatchdogExpiry_landSorted h
  | mgmtFault k => exact execMgmtFault_landSorted (k := k) h
  | mgtHandoverNow => exact nextLandSorted_of_land_eq h fun _ e => by simp only [execMgtHandoverNow_keep _ _ _ e]
  | handoverTimeout => exact execHandoverTimeout_landSorted h
  | standbySelfTest => exact nextLandSorted_of_land_eq h fun _ e => by simp only [execStandbySelfTest_keep _ _ e]
  | groveRestart => exact execGroveRestart_landSorted h
  | groveRestartTimeout => exact nextLandSorted_of_land_eq h fun _ e => by simp only [execGroveRestartTimeout_keep _ _ e]
  | readStatus => exact nextLandSorted_of_land_eq h fun _ e => by simp only [execReadStatus_keep _ e]
  | readResp => exact nextLandSorted_of_land_eq h fun _ e => by simp only [execReadResp_keep _ e]
  | readAlert => exact nextLandSorted_of_land_eq h fun _ e => by simp only [execReadAlert_keep _ e]
  | paramRead => exact nextLandSorted_of_land_eq h fun _ e => by simp only [execParamRead_keep _ _ _ _ e]
  | statusWindowRead => exact nextLandSorted_of_land_eq h fun _ e => by simp only [execStatusWindowRead_keep _ _ _ _ e]
  | reconfig => exact execReconfig_landSorted h
  | imageBegin => exact nextLandSorted_of_land_eq h fun _ e => by simp only [execImageBegin_keep _ _ _ _ e]
  | imageChunk => exact nextLandSorted_of_land_eq h fun _ e => by simp only [execImageChunk_keep _ _ _ _ _ _ e]
  | norSectorWritten => exact nextLandSorted_of_land_eq h fun _ e => by simp only [execNorSectorWritten_keep _ _ e]
  | imageEnd => exact nextLandSorted_of_land_eq h fun _ e => by simp only [execImageEnd_keep _ _ _ _ e]
  | commitImage => exact nextLandSorted_of_land_eq h fun _ e => by simp only [execCommitImage_keep _ _ _ _ e]
  | commitConfiguration => exact nextLandSorted_of_land_eq h fun _ e => by simp only [execCommitConfiguration_keep _ _ _ _ e]
  | raiseReleaseFloor => exact nextLandSorted_of_land_eq h fun _ e => by simp only [execRaiseReleaseFloor_keep _ _ e]
  | restoreSpare => exact nextLandSorted_of_land_eq h fun _ e => by simp only [execRestoreSpare_keep _ _ _ e]
  | updateTimeout => exact nextLandSorted_of_land_eq h fun _ e => by simp only [execUpdateTimeout_keep _ e]
  | tallyRead => exact nextLandSorted_of_land_eq h fun _ e => by simp only [execTallyRead_keep _ _ _ _ _ e]
  | healthRead => exact nextLandSorted_of_land_eq h fun _ e => by simp only [execHealthRead_keep _ _ _ e]
  | rawDiag => exact nextLandSorted_of_land_eq h fun _ e => by simp only [execRawDiag_keep _ _ _ _ _ e]
  | recoveryStatus => exact nextLandSorted_of_land_eq h fun _ e => by simp only [execRecoveryStatus_keep _ _ e]
  | unknownType => exact nextLandSorted_of_land_eq h fun _ e => by simp only [execUnknownType_keep _ _ _ e]
  | tallyRecord => exact nextLandSorted_of_land_eq h fun _ e => by simp only [execTallyRecord_keep _ _ e]
  | tallyCodeQuiet => exact nextLandSorted_of_land_eq h fun _ e => by simp only [execTallyCodeQuiet_keep _ _ e]
  | tallyTierCopy => exact nextLandSorted_of_land_eq h fun _ e => by simp only [execTallyTierCopy_keep _ e]
  | quiescentPointApply => exact nextLandSorted_of_land_eq h fun _ e => by simp only [execQuiescentPointApply_keep _ _ e]
  | drainLate => exact nextLandSorted_of_land_eq h fun _ e => by simp only [execDrainLate_keep _ _ _ e]
  | pwrFailNRise => exact execPwrFailNRise_landSorted h
  | writeFrame => exact nextLandSorted_of_land_eq h fun _ e => by simp only [execWriteFrame_keep _ _ e]
  | takeover => exact execTakeover_landSorted h
  | groveRestartComplete => exact nextLandSorted_of_land_eq h fun _ e => by simp only [execGroveRestartComplete_keep _ _ e]
  | unsupportedRequestReceived => exact nextLandSorted_of_land_eq h fun _ e => by simp only [execUnsupportedRequestReceived_keep _ _ _ e]
  | interruptAggregationTime => exact nextLandSorted_of_land_eq h fun _ e => by simp only [execInterruptAggregationTime_keep _ _ _ e]

theorem tick_landSorted : (tick s).LandSorted ↔ s.LandSorted := by
  unfold tick
  repeat' split
  · exact Iff.rfl
  · exact landSorted_mk
  · exact landSorted_mk

theorem step_landSorted (h : s.LandSorted) : NextLandSorted (step s) := by
  unfold step
  split
  · exact nextLandSorted_next.2 (tick_landSorted.2 h)
  · exact exec_landSorted _ (landSorted_mk.2 h)

end

/-- Settles O54: every row keeps the order of Landing's lines, and so does the tick. -/
theorem landingStaysCanonical : Obligations.LandingStaysCanonical :=
  fun _ t h e => step_landSorted h t e

end Sys2Proof.Machine

/-! # The end of a lease, the journal, checkpoints and the rebuild of a map (05 R155 to R166, R171) -/

namespace Sys2Proof.Machine

/-! ## The end of a lease (05 R166, R171) -/

/-- Reading leaf pages from flash changes no lease. -/
theorem foldl_readLeaf_nvm (lpns : List Nat) (s : State) : (lpns.foldl (fun a lpn => a.readLeaf lpn) s).nvm = s.nvm :=
  foldl_nvm (fun a lpn _ h => by simp only [← h, fact @State.readLeaf_keep]) lpns s

/-- A lease in use, or one whose Revoke has lost its tag, is left ENDED with the cause: the pages whose fetch it gives up are read from flash,
which touches no lease, and no command completes. -/
theorem State.endLease_lease {s : State} {p : Port} (hs : (s.nvm.lease p).state = .active ∨ (s.nvm.lease p).state = .revoking)
    (ht : (s.nvm.lease p).revokeTag = none) (cause : Nat) :
    (s.endLease p cause).nvm.lease p = { s.nvm.lease p with
      state := .ended, endCause := cause, slots := [], writing := [], fetching := [], revokeTag := none, ending := none } := by
  have hends : ((s.nvm.lease p).state == .active || (s.nvm.lease p).state == .revoking) = true := by simpa using hs
  simp only [State.endLease, hends, if_true, ht, foldl_readLeaf_nvm, NvmS_lease_setLease]

/-- Settles O29: the lease that `State.endLease` leaves says each of its fields. -/
theorem leaseEnds : Obligations.LeaseEnds := by
  intro s p cause hs ht
  rw [State.endLease_lease (.inl hs) ht]
  exact ⟨rfl, rfl, rfl, rfl, rfl⟩

/-! ## Commits (05 R155 to R159) -/

/-- What becomes of the oldest group of a grove: it waits for a repair, for room in the ring, or for the cores; else it commits. -/
theorem exec_journalCommitDone_oldest {s : State} {g : Grove} {x : CommitGroup} {rest : List CommitGroup}
    (hx : (s.map.grove g).groups = x :: rest) :
    exec (.journalCommitDone g) s = .next (
      if s.repairFirst g x then s
      else if s.mayCommit g then
        let t := State.commitGroup { s with map := s.map.modGrove g (fun m => { m with groups := rest }) } g x
        if (t.map.grove g).ring.length ≤ 2 * halfRing then ((t.startCompact g).spill g).resumeReads else s.spill g
      else if s.groveRestarting g then s else s.spill g) := by
  show execJournalCommitDone g s = _
  rw [execJournalCommitDone, hx]

/-! ## Checkpoints (05 R160, R161) -/

/-- A slice of checkpoint work runs once its gap is over; while the map log is high it keeps none (03 R94). -/
theorem exec_checkpointSlice_runs {s : State} {g : Grove} (hm : s.mediaRuns = true) (hg : s.groveRestarting g = false)
    (hmap : s.dev.mapDone.getLsbD g.val = true) (hgap : s.sliceHeld g 0 = false ∨ (s.map.grove g).logHigh = true) :
    exec (.checkpointSlice g) s = .next ((s.checkpointSlice g).sliceEnds g 0) := by
  have hfree : (s.sliceHeld g 0 && !(s.map.grove g).logHigh) = false := by rcases hgap with h | h <;> simp [h]
  show execCheckpointSlice g s = _
  rw [execCheckpointSlice, hm, hg, hmap, hfree]
  rfl

/-! What a slice does, by the state that its spill leaves. -/

/-- With no generation in progress and the wear table written, the next generation begins. -/
theorem State.checkpointSlice_starts {s t : State} {g : Grove} (ht : s.spill g = t) (hgen : (t.map.grove g).gen = none)
    (hwear : (t.map.grove g).wearLeft = []) (hroom : (t.map.grove g).room = true) :
    s.checkpointSlice g = { t with map := t.map.genStart g } := by
  simp only [State.checkpointSlice, ht, hgen, hwear, hroom, if_true]

/-- With no generation in progress, the wear table's next codeword is placed. -/
theorem State.checkpointSlice_wear {s t : State} {g : Grove} {i : Nat} {rest : List Nat} (ht : s.spill g = t)
    (hgen : (t.map.grove g).gen = none) (hwear : (t.map.grove g).wearLeft = i :: rest) :
    s.checkpointSlice g = t.placeUnit g 5 i := by
  simp only [State.checkpointSlice, ht, hgen, hwear]

/-- A generation with units left copies the first of them. -/
theorem State.checkpointSlice_unit {s t : State} {g : Grove} {x : GenS} {u : Nat} {rest : List Nat} (ht : s.spill g = t)
    (hgen : (t.map.grove g).gen = some x) (hunits : x.units = u :: rest) : s.checkpointSlice g = t.genUnit g u := by
  simp only [State.checkpointSlice, ht, hgen, hunits]

/-- A generation whose units are committed, its root table among them, ends. -/
theorem State.checkpointSlice_ends {s t : State} {g : Grove} {x : GenS} {p : Ploc} (ht : s.spill g = t)
    (hgen : (t.map.grove g).gen = some x) (hunits : x.units = []) (hcommitted : t.unitsPending g = false) (hroot : x.root = some p) :
    s.checkpointSlice g = t.genEnd g x.start p := by
  simp only [State.checkpointSlice, ht, hgen, hunits, hcommitted, hroot, Bool.false_eq_true, if_false]

/-- Settles O30: the oldest group takes the branch that the guards name, and a slice that its gap lets run goes by what is left of the
generation and of the wear table. -/
theorem journalRowsDo : Obligations.JournalRowsDo := by
  refine ⟨?commits, ?noRoom, ?repairFirst, ?generationStarts, ?wearTable, ?unit, ?generationEnds, ?rebuild⟩
  case commits =>
    intro s t g x rest hx hrep hmay ht hring
    rw [exec_journalCommitDone_oldest hx, hrep, hmay]
    subst ht
    exact congrArg _ (if_pos hring)
  case noRoom =>
    intro s g x rest hx hrep hmay hg
    rw [exec_journalCommitDone_oldest hx, hrep, hmay, hg]
    rfl
  case repairFirst =>
    intro s g x rest hx hrep
    rw [exec_journalCommitDone_oldest hx, hrep]
    rfl
  case generationStarts =>
    intro s t g hm hg hmap hgap ht hgen hwear hroom
    rw [exec_checkpointSlice_runs hm hg hmap hgap, State.checkpointSlice_starts ht hgen hwear hroom]
  case wearTable =>
    intro s t g i rest hm hg hmap hgap ht hgen hwear
    rw [exec_checkpointSlice_runs hm hg hmap hgap, State.checkpointSlice_wear ht hgen hwear]
  case unit =>
    intro s t g x u rest hm hg hmap hgap ht hgen hunits
    rw [exec_checkpointSlice_runs hm hg hmap hgap, State.checkpointSlice_unit ht hgen hunits]
  case generationEnds =>
    intro s t g x p hm hg hmap hgap ht hgen hunits hcommitted hroot
    rw [exec_checkpointSlice_runs hm hg hmap hgap, State.checkpointSlice_ends ht hgen hunits hcommitted hroot]
  case rebuild =>
    intro s g i w hw hmay
    subst hw
    exact congrArg _ (if_pos hmay)

end Sys2Proof.Machine

/-! # Windrow sets are placed, forced and closed (06 R181, R185 to R188; 07 R233; 09 R282) -/

namespace Sys2Proof.Machine

/-! ## Placement in a write point (06 R186, R187) -/

/-- While media work goes on, a stand's HOT data goes to its next domain, once the sets that waited for an accumulator have started; with
no data waiting nothing more is done. -/
theorem exec_windrowSetPlacement_hot {s t : State} {st : StandNo} {d : DomId} (hm : s.mediaRuns = true) (ht : s.readySets st .hot = t)
    (hd : t.nextDom st = some d) :
    exec (.windrowSetPlacement st .hot) s = .next (if (t.hotCands st).isEmpty then t else (t.noteDom st d).placeIn st .hot d) := by
  show execWindrowSetPlacement st .hot s = _
  simp only [execWindrowSetPlacement, hm, if_true, ht, hd]

/-- While media work goes on, a stand's copies go to the first of its domains that has some and takes data; the turn moves on only for copies
that come from a domain which the stand may no longer use. -/
theorem exec_windrowSetPlacement_cold {s t : State} {st : StandNo} {d : DomId} (hm : s.mediaRuns = true)
    (ht : s.tidyCopies.readySets st .cold = t)
    (hd : (t.domsFor st).find? (fun d => !(t.coldCands st d).isEmpty && !t.placementWaits d.grove) = some d) :
    exec (.windrowSetPlacement st .cold) s = .next ((if t.strangerCopies st then t.noteDom st d else t).placeIn st .cold d) := by
  show execWindrowSetPlacement st .cold s = _
  simp only [execWindrowSetPlacement, hm, if_true, ht, hd]

/-! ## The parity member (06 R181; 07 R233) -/

/-- Once the last data member of a started set is transferred, its parity member is issued where it is present; else the set fails. -/
theorem exec_parityTransfer_afterData {s : State} {n : Nat} {w : WSet} (hw : s.media.wset n = some w) (hstart : w.started = true)
    (hpar : w.parityDone = false) (hdata : (s.dataMembers w).all (fun c => w.transferred.contains c) = true) :
    exec (.parityTransfer n) s = .next (
      if s.memberPresent w.rb (s.parityOf w.rb) then
        State.issueProgram { s with media := s.media.modSet n (fun x => { x with parityDone := true }) } n w (s.parityOf w.rb)
      else s.failSet n) := by
  show execParityTransfer n s = _
  rw [execParityTransfer, hw]
  simp only [hstart, hpar, hdata, Bool.not_false, Bool.and_true, if_true]

/-! ## Forcing (06 R188; 09 R282) -/

/-- With PLP not armed, a set with data of an outstanding write is forced after the short wait. -/
theorem exec_forceWaitExpiry_due {s : State} {n : Nat} {w : WSet} (hw : s.media.wset n = some w) (hm : s.mediaRuns = true)
    (harm : s.armed = false) (hout : s.outstandingData w = true) (hdue : w.touched + s.par P.MED_FORCE_WAIT_US * 1000 ≤ s.now) :
    exec (.forceWaitExpiry n) s = .next (s.forceSet n (fun q => s.outstanding q)) := by
  show execForceWaitExpiry n s = _
  rw [execForceWaitExpiry, hw]
  simp only [hm, harm, hout, hdue, Bool.not_false, Bool.and_true, Bool.true_or, decide_true, if_true]

/-- With PLP armed, or for a set of another class than HOT, a set is forced after the long wait. -/
theorem exec_idleForceExpiry_due {s : State} {n : Nat} {w : WSet} (hw : s.media.wset n = some w) (hm : s.mediaRuns = true)
    (hlong : s.armed = true ∨ w.cls ≠ .hot) (hdue : w.touched + s.par P.MED_IDLE_FORCE_MS * 1000000 ≤ s.now) :
    exec (.idleForceExpiry n) s = .next (s.forceSet n) := by
  have hlong : (s.armed || w.cls != .hot) = true := by simpa using hlong
  show execIdleForceExpiry n s = _
  rw [execIdleForceExpiry, hw]
  simp only [hm, hlong, hdue, Bool.and_true, decide_true, if_true]

/-- A visible group that is 2^30 assignments old is placed in the first domain of its namespace's stand that takes data, and the sets that
hold it are forced. -/
theorem exec_gseqAgeLimit_tooOld {s : State} {q : Dword} {g : CGroup} {n : NsS} {d : DomId} (hg : sget s.cache.groups q.toNat = some g)
    (hm : s.mediaRuns = true) (hvis : g.visible = true) (hold : 1073741824 ≤ (s.cache.nextGseq - q).toNat)
    (hn : s.nvm.ns g.nsid = some n)
    (hd : (s.domsFor n.stand).find? (fun d => !s.placementWaits d.grove && !(s.media.point n.stand .hot d).waiting) = some d) :
    exec (.gseqAgeLimit q) s = .next ((s.placeIn n.stand .hot d).forceSets (fun w => w.holdsGroup [q]) (· == q)) := by
  show execGseqAgeLimit q s = _
  rw [execGseqAgeLimit, hg]
  simp only [hm, hvis, hold, hn, hd, Bool.and_true, decide_true, if_true, Option.bind_some, Option.map_some]

/-! ## An idle write point (06 R185) -/

/-- A write point that has placed nothing for its idle time closes its row block, while firmware runs. -/
theorem exec_openIdleClose_idle {s : State} {st : StandNo} {k : WpClass} {d : DomId} {rb : Nat}
    (hrb : (s.media.point st k d).rb = some rb) (hfw : s.fwRuns = true)
    (hidle : (s.media.point st k d).lastUse + s.par P.MED_OPEN_IDLE_S * 1000000000 ≤ s.now) :
    exec (.openIdleClose st k d) s = .next (s.closeRow rb) := by
  show execOpenIdleClose st k d s = _
  simp only [execOpenIdleClose, hrb, hfw, hidle, Bool.true_and, decide_true, if_true]

/-- Settles O31, event by event: the domain that takes the data, the presence of the parity member and the time waited pick the branch. -/
theorem placementRowsDo : Obligations.PlacementRowsDo := by
  refine ⟨?hot, ?cold, ?map, ?parity, ?shortWait, ?longWait, ?idle, ?tooOld⟩
  case hot =>
    intro s t st d hm ht hd hcands
    rw [exec_windrowSetPlacement_hot hm ht hd, hcands]
    rfl
  case cold =>
    intro s t st d hm ht hd hstranger
    rw [exec_windrowSetPlacement_cold hm ht hd, hstranger]
    rfl
  case map => exact fun s st hm => congrArg _ (if_pos hm)
  case parity =>
    intro s n w hw hstart hpar hdata
    rw [exec_parityTransfer_afterData hw hstart hpar hdata]
    exact ⟨fun hpresent => by rw [if_pos hpresent], fun habsent => by rw [habsent]; rfl⟩
  case shortWait => exact fun _ _ _ hw hm harm hout hdue => exec_forceWaitExpiry_due hw hm harm hout hdue
  case longWait => exact fun _ _ _ hw hm hlong hdue => exec_idleForceExpiry_due hw hm hlong hdue
  case idle => exact fun _ _ _ _ _ hrb hfw hidle => exec_openIdleClose_idle hrb hfw hidle
  case tooOld => exact fun _ _ _ _ _ hg hm hvis hold hn hd => exec_gseqAgeLimit_tooOld hg hm hvis hold hn hd

end Sys2Proof.Machine

/-! # Channels: training, drift tracking, live retrains, the pad monitor and rebuild (07 R213 to R240) -/

namespace Sys2Proof.Machine

/-! ## Training (07 R213 to R226, R245) -/

/-- A channel in training whose dies are known runs the present step, once the rate of its grove's rows fits. -/
theorem exec_channelTraining_identified {s : State} {ch : Chan} (hfw : s.fwRuns = true) (ht : (s.flash.chan ch.val).state = .training)
    (hid : (s.flash.chan ch.val).identified = true) (as : List DieAnswer) (rs : List StepReading) :
    exec (.channelTraining ch as rs) s = .next ((s.rateFallback ch.val).trainStep ch.val rs) := by
  show execChannelTraining ch as rs s = _
  simp only [execChannelTraining, hfw, ht, hid, Bool.not_true, bne_self_eq_false, Bool.or_self, Bool.false_and, Bool.false_eq_true,
    if_false, if_true]

/-- In its turn, a channel not yet identified is retired when no die answers; else it is identified, its losses that were cut short are
completed, and it goes on as an identified one. -/
theorem exec_channelTraining_identifies {s : State} {ch : Chan} (hfw : s.fwRuns = true) (ht : (s.flash.chan ch.val).state = .training)
    (hid : (s.flash.chan ch.val).identified = false) (hlow : s.lowerDone ch.val = true) (as : List DieAnswer) (rs : List StepReading) :
    exec (.channelTraining ch as rs) s = .next (
      if (answering as).isEmpty then s.retireChannel ch.val 4
      else (((s.identify ch.val as).finishLosses ch.val).rateFallback ch.val).trainStep ch.val rs) := by
  show execChannelTraining ch as rs s = _
  simp only [execChannelTraining, hfw, ht, hid, hlow, Bool.not_true, Bool.not_false, bne_self_eq_false, Bool.or_self, Bool.and_false,
    Bool.true_and, Bool.false_eq_true, if_false]

/-! ## Drift tracking (07 R227, R228) -/

/-- A slice of a die's check that is not the last leaves the check one slice further, whatever it would have found. -/
theorem exec_driftTracking_further {s : State} {ch : Chan} {die : DieIx} (hmay : s.driftMay ch.val die.val = true)
    (hmore : (s.flash.die (dieKey ch.val die.val)).drift + 1 < s.driftSlices) (o : DriftOutcome) :
    exec (.driftTracking ch die o) s = .next { s with
      flash := (s.flash.select ch.val die.val).modDie (dieKey ch.val die.val) (fun d => { d with drift := d.drift + 1 }) } := by
  show execDriftTracking ch die o s = _
  simp only [execDriftTracking, hmay, hmore, Bool.not_true, Bool.false_eq_true, if_false, if_true]

section
variable {s : State} {ch : Chan} {die : DieIx} {x : FlashS} (hmay : s.driftMay ch.val die.val = true)
  (hlast : s.driftSlices ≤ (s.flash.die (dieKey ch.val die.val)).drift + 1)
  (hx : x = (s.flash.select ch.val die.val).modDie (dieKey ch.val die.val) (fun d => { d with drift := 0, lastCheck := s.now }))
include hmay hlast hx

/-- The last slice of a check that passes. -/
theorem exec_driftTracking_passes :
    exec (.driftTracking ch die .pass) s = .next { s with flash := x.passed (dieKey ch.val die.val) } := by
  show execDriftTracking ch die .pass s = _
  simp only [execDriftTracking, hmay, Nat.not_lt.mpr hlast, hx, Bool.not_true, Bool.false_eq_true, if_false]

/-- The last slice of a check that fails at an offset point starts a live retrain of the die, whose recent pages are to be cruised. -/
theorem exec_driftTracking_offsetFails :
    exec (.driftTracking ch die .offsetFails) s = .next { s with
      flash := (x.beginLive (dieKey ch.val die.val)).modDie (dieKey ch.val die.val) (fun d => { d with check := true }) } := by
  show execDriftTracking ch die .offsetFails s = _
  simp only [execDriftTracking, hmay, Nat.not_lt.mpr hlast, hx, Bool.not_true, Bool.false_eq_true, if_false]

end

/-! ## Live retrains (07 R228) -/

section
variable {s : State} {ch : Chan} {die : DieIx} (ha : (s.flash.chan ch.val).state = .active)
  (hr : (s.flash.die (dieKey ch.val die.val)).retraining = true) (hl0 : s.l0Pending ch.val = false)
include ha hr hl0

/-- A slice that leaves a live retrain unfinished is counted, and the 128th of them fails it. -/
theorem exec_liveRetrainSlice_more :
    exec (.liveRetrainSlice ch die .more) s = .next (
      if liveSlices ≤ (s.flash.die (dieKey ch.val die.val)).slices + 1 then s.liveFails ch.val (dieKey ch.val die.val)
      else { s with flash := (s.flash.select ch.val die.val).modDie (dieKey ch.val die.val) (fun d => { d with slices := d.slices + 1 }) }) := by
  show execLiveRetrainSlice ch die .more s = _
  simp only [execLiveRetrainSlice, ha, hr, hl0, bne_self_eq_false, Bool.not_true, Bool.or_self, Bool.false_eq_true, if_false]

/-- A live retrain ends as its windows say: it passes when those of reads and those of writes are all open. -/
theorem exec_liveRetrainSlice_ended (r w : List (Nat × Nat)) :
    exec (.liveRetrainSlice ch die (.ended r w)) s = .next (
      if s.eyesOpen r && s.eyesOpen w then s.livePasses ch.val (dieKey ch.val die.val) r w
      else s.liveFails ch.val (dieKey ch.val die.val)) := by
  show execLiveRetrainSlice ch die (.ended r w) s = _
  simp only [execLiveRetrainSlice, ha, hr, hl0, bne_self_eq_false, Bool.not_true, Bool.or_self, Bool.false_eq_true, if_false]

end

/-! ## The pad monitor (07 R232) -/

/-- On an active channel a stuck reading is counted, and the third in a row retires it; any other reading ends the row. -/
theorem exec_padMonitorCheck_active {s : State} {ch : Chan} (ha : (s.flash.chan ch.val).state = .active) (stuck : Bool) :
    exec (.padMonitorCheck ch stuck) s = .next (
      if stuck then
        if 3 ≤ (s.flash.chan ch.val).stuck + 1 then
          State.retireChannel { s with flash := s.flash.modChan ch.val (fun c => { c with stuck := c.stuck + 1 }) } ch.val 1
        else { s with flash := s.flash.modChan ch.val (fun c => { c with stuck := c.stuck + 1 }) }
      else { s with flash := s.flash.modChan ch.val (fun c => { c with stuck := 0 }) }) := by
  show execPadMonitorCheck ch stuck s = _
  simp only [execPadMonitorCheck, ha, bne_self_eq_false, Bool.false_and, Bool.false_eq_true, if_false]

/-! ## Rebuild (07 R239, R240) -/

section
variable {s : State} {g : Grove} (hm : s.mediaRuns = true) (hr : (s.flash.grove g.val).rebuild = true)
  (hbm : (s.flash.grove g.val).bmvalid = true)
  (ht : (List.range 8).any (fun c => (s.flash.chan (g.val * 8 + c)).state == .training) = false) (hg : s.groveRestarting g = false)
include hm hr hbm ht hg

/-- A rebuild that is not held up first writes again the checkpoint units of its grove that lie on a lost member. -/
theorem exec_rebuildSlice_redoes (hlost : s.lostUnits.any (fun x => x.1 == g.val) = true) :
    exec (.rebuildSlice g) s = .next s.redoUnits := by
  show execRebuildSlice g s = _
  simp only [execRebuildSlice, hm, hr, hbm, ht, hg, hlost, Bool.not_true, Bool.or_self, Bool.false_eq_true, if_false, if_true]

/-- With no unit lost, an empty bitmap ends the rebuild. -/
theorem exec_rebuildSlice_ends (hkept : s.lostUnits.any (fun x => x.1 == g.val) = false)
    (hlow : lowestOf (s.flash.grove g.val).bitmap = none) :
    exec (.rebuildSlice g) s = .next { s with flash := s.flash.modGrove g.val (fun x => { x with rebuild := false }) } := by
  show execRebuildSlice g s = _
  simp only [execRebuildSlice, hm, hr, hbm, ht, hg, hkept, hlow, Bool.not_true, Bool.or_self, Bool.false_eq_true, if_false]

/-- With no unit lost, the lowest row block of the bitmap takes one slice as the victim that it is already. -/
theorem exec_rebuildSlice_goesOn {bit : Nat} {v : Victim} (hkept : s.lostUnits.any (fun x => x.1 == g.val) = false)
    (hlow : lowestOf (s.flash.grove g.val).bitmap = some bit)
    (hv : (s.media.domS (s.domOf (g.val * 16 + bit / 16384))).victims.find?
      (fun v => v.rb == rbKey (g.val * 16 + bit / 16384) (bit % 16384)) = some v) :
    exec (.rebuildSlice g) s = .next (s.victimSlice (s.domOf (g.val * 16 + bit / 16384)) v) := by
  show execRebuildSlice g s = _
  simp only [execRebuildSlice, hm, hr, hbm, ht, hg, hkept, hlow, hv, Bool.not_true, Bool.or_self, Bool.false_eq_true, if_false]

end

/-- Settles O34, event by event: each premise picks its row's branch (one training step a row: log entry 110; identification in ascending
order: log entry 91; the slices of a check: log entry 40). -/
theorem channelRowsDo : Obligations.ChannelRowsDo := by
  refine ⟨?trains, ?identifies, ?noAnswer, ?drift, ?driftEnds, ?live, ?liveEnds, ?stuck, ?notStuck, ?rebuilt, ?redo, ?rebuild⟩
  case trains => exact fun _ _ as rs hfw ht hid => exec_channelTraining_identified hfw ht hid as rs
  case identifies =>
    intro s ch as rs hfw ht hid hlow has
    rw [exec_channelTraining_identifies hfw ht hid hlow, if_neg (mt List.isEmpty_iff.mp has)]
  case noAnswer =>
    intro s ch as rs hfw ht hid hlow has
    rw [exec_channelTraining_identifies hfw ht hid hlow, if_pos (List.isEmpty_iff.mpr has)]
  case drift =>
    intro s ch die k o hk hmay hmore
    subst hk
    exact exec_driftTracking_further hmay hmore o
  case driftEnds =>
    intro s ch die k x hk hmay hlast hx
    subst hk
    exact ⟨exec_driftTracking_passes hmay hlast hx, exec_driftTracking_offsetFails hmay hlast hx⟩
  case live =>
    intro s ch die k hk ha hr hl0 hfew
    subst hk
    rw [exec_liveRetrainSlice_more ha hr hl0, if_neg (Nat.not_le.mpr hfew)]
  case liveEnds =>
    intro s ch die k r w hk ha hr hl0
    subst hk
    refine ⟨fun hread hwrite => ?_, fun hshut => ?_, fun hmany => ?_⟩
    · rw [exec_liveRetrainSlice_ended ha hr hl0, hread, hwrite]
      rfl
    · rw [exec_liveRetrainSlice_ended ha hr hl0, Bool.and_eq_false_iff.mpr hshut]
      rfl
    · rw [exec_liveRetrainSlice_more ha hr hl0, if_pos hmany]
  case stuck =>
    intro s ch ha htwice
    rw [exec_padMonitorCheck_active ha, htwice]
    rfl
  case notStuck => exact fun _ _ ha => exec_padMonitorCheck_active ha false
  case rebuilt => exact fun _ _ hm hr hbm ht hg hkept hlow => exec_rebuildSlice_ends hm hr hbm ht hg hkept hlow
  case redo => exact fun _ _ hm hr hbm ht hg hlost => exec_rebuildSlice_redoes hm hr hbm ht hg hlost
  case rebuild => exact fun _ _ _ _ hm hr hbm ht hg hkept hlow hv => exec_rebuildSlice_goesOn hm hr hbm ht hg hkept hlow hv

end Sys2Proof.Machine

/-! # Capacitor tests, power loss, the dump and the replay (09 R286 to R300) -/

namespace Sys2Proof.Machine

/-! ## Capacitor tests (09 R286, R287) -/

/-- A discharge time within the limits is a pass. -/
theorem State.testCode_passed {s : State} {t : Nat} (hmin : s.par P.PLP_TEST_MIN_MS ≤ t) (hmax : t ≤ s.par P.PLP_TEST_MAX_MS) :
    s.testCode t = 1 := by
  rw [State.testCode, if_neg (Nat.not_lt.mpr hmin), if_neg (Nat.not_lt.mpr hmax)]

/-- A discharge time below the lower limit is too short. -/
theorem State.testCode_tooShort {s : State} {t : Nat} (hshort : t < s.par P.PLP_TEST_MIN_MS) : s.testCode t = 2 :=
  if_pos hshort

/-- While a test runs, HU_LOW rising ends it with the code of the discharge time. -/
theorem exec_huLowRise_testing {s : State} (ht : s.plp.testing = true) (hfw : s.fwRuns = true) (t : Nat) :
    exec (.huLowRise t) s = .next (s.testEnds (s.testCode t) t) :=
  congrArg _ (if_pos (Bool.and_eq_true_iff.mpr ⟨ht, hfw⟩))

/-- While a test runs, its longest time ends it as too long. -/
theorem exec_capacitorTestTimeout_testing {s : State} (ht : s.plp.testing = true) (hfw : s.fwRuns = true) :
    exec .capacitorTestTimeout s = .next (s.testEnds 3 (s.par P.PLP_TEST_MAX_MS)) :=
  congrArg _ (if_pos (Bool.and_eq_true_iff.mpr ⟨ht, hfw⟩))

/-! ## PWR_FAIL_N (09 R292, R295) -/

/-- PWR_FAIL_N falls on a device that is not entering a power state: no entry has to be abandoned. -/
theorem exec_pwrFailNFall_high {s : State} (hhigh : s.plp.pwrFailN = true) (hpwr : s.pwr.entering = false) :
    exec .pwrFailNFall s =
      .next { s with plp := { s.plp with pwrFailN := false, testing := false, filtering := true, fallAt := s.now }
                     flash := s.flash.stopErases s.now } := by
  show execPwrFailNFall s = _
  simp only [execPwrFailNFall, hhigh, hpwr, Bool.not_true, Bool.false_eq_true, if_false]

/-- PWR_FAIL_N rises: the filter time ends, and where media work goes on, each die takes its next action and the sets that waited start. -/
theorem exec_pwrFailNRise_low {s t : State} (hlow : s.plp.pwrFailN = false)
    (ht : { s with plp := { s.plp with pwrFailN := true, filtering := false } } = t) :
    exec .pwrFailNRise s = .next (
      if t.mediaRuns then
        (List.finRange 8).foldl (fun a g => a.startWaiting g) ((t.flash.dies.map Prod.fst).foldl (fun a k => a.nextAction k) t)
      else t) := by
  subst ht
  show execPwrFailNRise s = _
  rw [execPwrFailNRise, hlow]
  rfl

/-! ## The dump (09 R292, R297, Table 9-8; log entry 49) -/

/-- A dump that may begin abandons an update and a handover and begins. -/
theorem exec_powerLossDump_begins {s : State} (hidle : s.plp.dumping = false) (hmay : s.dumpMayBegin = true) :
    exec .powerLossDump s = .next s.dropUpdate.dropHandover.dumpBegin := by
  show execPowerLossDump s = _
  rw [execPowerLossDump, hidle, hmay]
  rfl

/-- A dump that runs writes its headers until they are out, then its slots, and halts. -/
theorem exec_powerLossDump_dumping {s : State} (hdump : s.plp.dumping = true) :
    exec .powerLossDump s = .next (
      if s.plp.hdrDone || s.headersOut then s.dumpSlotsOut.dumpHalt.afterDump else s.dumpHeaders) :=
  congrArg _ (if_pos hdump)

/-- A reset that has waited 30 ms for a dump takes effect. -/
theorem exec_deferredResetTimeout_due {s : State} (hpin : s.dev.deferredPin = true) (hdue : s.dev.deferredAt + 30000000 ≤ s.now) :
    exec .deferredResetTimeout s = .next s.takePin :=
  congrArg _ (if_pos (Bool.and_eq_true_iff.mpr ⟨hpin, decide_eq_true hdue⟩))

/-! ## Replay (09 R298 to R300) -/

/-- A replay whose choice is made enters its groups, once the map is whole and DRAM is filled far enough. -/
theorem exec_writeCacheReplay_begun {s : State} (hfw : s.fwRuns = true) (hboot : s.dev.phase = .booting) (hdram : s.dram.ready = true)
    (hfilled : 2 ≤ s.dram.filled) (hmap : s.dev.mapDone = 255) (hdone : s.dev.replayDone = false) (hbegun : s.plp.replayBegun = true)
    (d : ReplayDamage) : exec (.writeCacheReplay d) s = .next (s.replayGroups d) := by
  show execWriteCacheReplay d s = _
  rw [execWriteCacheReplay, hfw, hboot, hdram, decide_eq_true hfilled, hmap, hdone, hbegun]
  rfl

/-- Settles O35, event by event: each premise picks its row's branch (the dump's three stages: log entry 49). -/
theorem powerLossRowsDo : Obligations.PowerLossRowsDo := by
  refine ⟨?testStarts, ?passes, ?tooShort, ?timeout, ?falls, ?rises, ?dumpBegins, ?headers, ?slots, ?deferredReset, ?replay⟩
  case testStarts => exact fun _ _ _ hdue => congrArg _ (if_pos hdue)
  case passes =>
    intro s t ht hfw hmin hmax
    rw [exec_huLowRise_testing ht hfw, State.testCode_passed hmin hmax]
  case tooShort =>
    intro s t ht hfw hshort
    rw [exec_huLowRise_testing ht hfw, State.testCode_tooShort hshort]
  case timeout => exact fun _ ht hfw => exec_capacitorTestTimeout_testing ht hfw
  case falls => exact fun _ hhigh hpwr => exec_pwrFailNFall_high hhigh hpwr
  case rises =>
    intro s t hlow ht
    refine ⟨fun hrests => ?_, fun hruns => ?_⟩
    · rw [exec_pwrFailNRise_low hlow ht, hrests]
      rfl
    · rw [exec_pwrFailNRise_low hlow ht, if_pos hruns]
  case dumpBegins => exact fun _ hidle hmay => exec_powerLossDump_begins hidle hmay
  case headers =>
    intro s hdump hhdr hout
    rw [exec_powerLossDump_dumping hdump, hhdr, hout]
    rfl
  case slots =>
    intro s hdump hout
    rw [exec_powerLossDump_dumping hdump, if_pos (Bool.or_eq_true_iff.mpr hout)]
  case deferredReset => exact fun _ hpin hdue => exec_deferredResetTimeout_due hpin hdue
  case replay =>
    exact fun _ d hfw hboot hdram hfilled hmap hdone hbegun => exec_writeCacheReplay_begun hfw hboot hdram hfilled hmap hdone hbegun d

end Sys2Proof.Machine

/-! # Stands: STAND_CTL, preparations, relocations and deletions (10 R306 to R313) -/

namespace Sys2Proof.Machine

/-! ## STAND_CTL (10 R307, R308; 16 R445)

What each operation does once its reason is known; a frame that the port takes is carried out on the state that took it. -/

/-- A STAND_CTL that the port takes is carried out; its reserved fields are left to the operation's own check. -/
theorem State.next_standRequest {s t : State} {f : Frame} {i : Instr} {run : State → State}
    (htakes : s.takes { f with rsvd := false } .stand) (hrun : run s.acceptFrame = t) :
    (.next (s.standRequest i f run) : Host.Outcome State Fault Refusal) = .next t :=
  congrArg _ ((State.request_takes htakes i run).trans hrun)

theorem State.runCreate_accepted {s : State} {f : Frame} {d : StandDesc} (h : s.createReason f d = none) :
    s.runCreate f d = (s.createStand d).journal.recheckSpare.standAnswer f none := by
  rw [State.runCreate, h]

theorem State.runCreate_rejected {s : State} {f : Frame} {d : StandDesc} {c : Nat} (h : s.createReason f d = some c) :
    s.runCreate f d = s.naileFail f 1 c 0 := by
  rw [State.runCreate, h]
  rfl

theorem State.runModify_accepted {s : State} {f : Frame} {d : StandDesc} {x : StandS} (h : s.modifyReason f d = none)
    (hx : s.nvm.stand d.stand.val = some x) :
    s.runModify f d = (s.modifyStand d x).journal.recheckSpare.standAnswer f none := by
  rw [State.runModify, h, hx]

theorem State.runDelete_accepted {s : State} {f : Frame} {d : StandDesc} (h : s.deleteReason f d = none) :
    s.runDelete f d = (s.startDelete d.stand.val).journal.standAnswer f none := by
  rw [State.runDelete, h]

theorem State.runAttach_accepted {s : State} {f : Frame} {a : AttachWord} (h : s.attachReason f a = none) :
    s.runAttach f a = State.standAnswer (State.journal { s with
      nvm := s.nvm.modStand a.stand.val (fun x => { x with members := addOnce a.cntl.val x.members }) }) f none := by
  rw [State.runAttach, h]

/-- A DETACH with none of the function's I/O left to wait for is over at once (03 R96). -/
theorem State.runDetach_accepted {s : State} {f : Frame} {a : AttachWord} (h : s.detachReason f a = none)
    (hquiet : s.detachWaits a.cntl.val = false) (i : Instr) : s.runDetach i f a = s.finishDetach f a.cntl a.stand := by
  rw [State.runDetach, h, hquiet]
  rfl

theorem State.runQuery_accepted {s : State} {f : Frame} {d : StandDesc} {x : StandS} (hf : f.rsvd = false) (hd : descBare d = true)
    (hx : s.nvm.stand d.stand.val = some x) : s.runQuery f d = s.naileOk f 0x40 64 (s.standWindow d.stand x) := by
  rw [State.runQuery, hf, hd, hx]
  rfl

/-- A DETACH that the port is not already BUSY with comes to it as a new request. -/
theorem exec_standCtlDetach_new {s : State} {f : Frame} {c : BitVec 24} {st : Byte}
    (hnew : s.naile.waiting ≠ some (.standCtlDetach f c st)) :
    exec (.standCtlDetach f c st) s = .next (s.standRequest (.standCtlDetach f c st) f
      (fun t => t.runDetach (.standCtlDetach f c st) f (.join c st))) :=
  congrArg _ (if_neg hnew)

/-! ## The steps of a deletion (10 R311; log entry 59) -/

/-- From step 3 on, a deletion detaches, then unmaps while the map has room, then ends once the stand has no namespace. -/
theorem exec_standDeleteRun_late {s : State} {st : StandNo} {x : StandS} (hx : s.nvm.stand st.val = some x) (hfw : s.fwRuns = true)
    (hm : s.mgmt.runs = true) (hdel : x.state = .deleting) (hstep : 3 ≤ x.delStep) :
    exec (.standDeleteRun st) s = .next (
      if x.delStep = 3 then s.standDetach st.val x
      else if x.delStep = 4 then (if (s.map.grove 0).room then s.standUnmap st.val else s)
      else if (s.nvm.nssOf st.val).isEmpty then s.standGone st.val x
      else s) := by
  have hruns : ¬ (!s.fwRuns || !s.mgmt.runs || x.state != .deleting) = true := by simp [hfw, hm, hdel]
  have hlate : ¬ x.delStep ≤ 2 := by omega
  show execStandDeleteRun st s = _
  rw [execStandDeleteRun, hx]
  exact congrArg _ ((if_neg hruns).trans (if_neg hlate))

/-! ## The end of CREATING and CHANGING (10 R309, R310; log entry 59) -/

/-- A stand without domains of its own has no map region to form: its preparation ends once nothing foreign is left. -/
theorem exec_standPreparationDone_noDomains {s : State} {st : StandNo} {x : StandS} (hx : s.nvm.stand st.val = some x)
    (hserves : s.mgmtServes = true) (hcreating : x.state = .creating) (hown : s.ownDoms st = []) (hsettled : s.settled st.val x = true) :
    exec (.standPreparationDone st) s = .next (State.recheckSpare (State.journal
      { s with nvm := s.nvm.modStand st.val (fun y => { y with state := .active, moving := false }) })) := by
  have hready : (s.mgmtServes && x.state == .creating && s.settled st.val x && s.regionsFull st) = true := by
    simp [hserves, hcreating, hsettled, State.regionsFull, hown]
  show execStandPreparationDone st s = _
  rw [execStandPreparationDone, hx, hown]
  exact congrArg _ (if_pos hready)

/-- A relocation ends once nothing is left to relocate. -/
theorem exec_standRelocationDone_settled {s : State} {st : StandNo} {x : StandS} (hx : s.nvm.stand st.val = some x)
    (hserves : s.mgmtServes = true) (hchanging : x.state = .changing) (hsettled : s.settled st.val x = true) :
    exec (.standRelocationDone st) s = .next (State.recheckSpare (State.journal
      { s with nvm := s.nvm.modStand st.val (fun y => { y with state := .active, moving := false }) })) := by
  have hready : (s.mgmtServes && x.state == .changing && s.settled st.val x) = true := by simp [hserves, hchanging, hsettled]
  show execStandRelocationDone st s = _
  rw [execStandRelocationDone, hx]
  exact congrArg _ (if_pos hready)

/-- Settles O41, operation by operation: the port takes the frame, no reason applies, and the stand's state picks the branch of each row that
carries an operation out. -/
theorem standRowsDo : Obligations.StandRowsDo := by
  refine ⟨?creates, ?createRejected, ?modifies, ?deletes, ?attaches, ?detaches, ?queries, ?deleteDetaches, ?deleteEnds, ?prepared, ?relocated⟩
  case creates => exact fun _ _ _ htakes hok => State.next_standRequest htakes (State.runCreate_accepted hok)
  case createRejected => exact fun _ _ _ _ htakes hc => State.next_standRequest htakes (State.runCreate_rejected hc)
  case modifies => exact fun _ _ _ _ htakes hok hx => State.next_standRequest htakes (State.runModify_accepted hok hx)
  case deletes => exact fun _ _ _ htakes hok => State.next_standRequest htakes (State.runDelete_accepted hok)
  case attaches =>
    intro s f c st a ha htakes hok
    subst ha
    exact State.next_standRequest htakes (State.runAttach_accepted hok)
  case detaches =>
    intro s f c st a ha hnew htakes hok hquiet
    subst ha
    exact (exec_standCtlDetach_new hnew).trans (State.next_standRequest htakes (State.runDetach_accepted hok hquiet _))
  case queries => exact fun _ _ _ _ htakes hf hd hx => State.next_standRequest htakes (State.runQuery_accepted hf hd hx)
  case deleteDetaches =>
    intro s st x hx hfw hm hdel hstep
    rw [exec_standDeleteRun_late hx hfw hm hdel hstep.ge, if_pos hstep]
  case deleteEnds =>
    intro s st x hx hfw hm hdel hstep hnone
    have h3 : x.delStep ≠ 3 := by omega
    have h4 : x.delStep ≠ 4 := by omega
    rw [exec_standDeleteRun_late hx hfw hm hdel (by omega), if_neg h3, if_neg h4, if_pos hnone]
  case prepared => exact fun _ _ _ hx hserves hcreating hown hsettled _ => exec_standPreparationDone_noDomains hx hserves hcreating hown hsettled
  case relocated => exact fun _ _ _ hx hserves hchanging hsettled => exec_standRelocationDone_settled hx hserves hchanging hsettled

end Sys2Proof.Machine

/-! # DRAM keeps its canonical form (11 R331, R333; log entry 12) -/

namespace Sys2Proof.Machine

/-!
Few commands touch a line of DRAM at all. The first part says so: every other command leaves the list of lines as it was (`exec_dramLines`), by the frame
lemmas of this text where a command leaves the whole of DRAM alone, and by the equations below where it changes something else of it. The second part
takes the commands that are left (`writesDramLines`), whose writes keep the form.
-/

section

variable {s : State}

/-! ## Operations on DRAM that touch no line -/

@[simp] theorem DramS.askRetrain_lines {d : DramS} {c : DramCh} : (d.askRetrain c).lines = d.lines := by
  unfold DramS.askRetrain
  repeat' split
  all_goals rfl

@[simp] theorem DramS.nextRetrain_lines {d : DramS} : d.nextRetrain.lines = d.lines := by
  unfold DramS.nextRetrain
  split
  all_goals rfl

@[simp] theorem DramS.retrained_lines {d : DramS} {c : Nat} : (d.retrained c).lines = d.lines := by
  simp only [DramS.retrained, DramS.nextRetrain_lines, DramS_modChan_lines]

@[simp] theorem State.recordHw_dramLines {src sev code p0 p1 p2 p3 : Nat} :
    (s.recordHw src sev code p0 p1 p2 p3).dram.lines = s.dram.lines := by
  simp only [(fact @State.recordHw_keep)]

@[simp] theorem State.noteCorrection_dramLines {dev row : Nat} : (s.noteCorrection dev row).dram.lines = s.dram.lines := by
  simp only [State.noteCorrection]
  split
  · exact State.recordHw_dramLines
  · rfl

/-! ## Self-refresh, stops and power states (11 R342; 13 R383, R388) -/

@[simp] theorem State.selfRefresh_dramLines : s.selfRefresh.dram.lines = s.dram.lines := by
  unfold State.selfRefresh
  split
  all_goals rfl

@[simp] theorem State.latchPads_dramLines : s.latchPads.dram.lines = s.dram.lines := State.selfRefresh_dramLines

@[simp] theorem State.dumpHalt_dramLines : s.dumpHalt.dram.lines = s.dram.lines := State.latchPads_dramLines

@[simp] theorem State.controlledStop_dramLines {dramCh : Option Nat} : (s.controlledStop dramCh).dram.lines = s.dram.lines := by
  simp only [State.controlledStop, (fact @State.fail_keep)]
  repeat' split
  all_goals simp only [State.latchPads_dramLines, (fact @State.dumpAll_keep), State.recordHw_dramLines]

@[simp] theorem State.enterPs4_dramLines : s.enterPs4.dram.lines = s.dram.lines := by
  simp only [State.enterPs4, State.selfRefresh_dramLines, (fact @State.losePowered_keep), (fact @State.closeSession_keep),
    (fact @State.dropUpdate_keep), (fact @State.checkpoint_keep)]

@[simp] theorem State.enter_dramLines {t : Nat} : (s.enter t).dram.lines = s.dram.lines := by
  simp only [State.enter]
  repeat' split
  all_goals simp only [State.enterPs4_dramLines, (fact @State.enterPs3_keep), (fact @State.beginEntry_keep)]

@[simp] theorem State.checkDram_dramLines {ok : Bool} : (s.checkDram ok).dram.lines = s.dram.lines := by
  unfold State.checkDram
  split
  · rfl
  · simp only [State.controlledStop_dramLines, (fact @State.record_keep)]

@[simp] theorem State.wakeUp_dramLines {ps : Nat} {w : WakeChecks} : (s.wakeUp ps w).dram.lines = s.dram.lines := by
  have hgroves (l : List Grove) (a : State) : (l.foldl (fun a g => a.checkGrove g) a).dram = a.dram :=
    foldl_dram (fun _ _ _ e => by simp only [← e, (fact @State.checkGrove_keep)]) l a
  have hchannels (l : List Chan) (a : State) : (l.foldl (fun a c => a.checkChannel c) a).dram = a.dram :=
    foldl_dram (fun _ _ _ e => by simp only [← e, (fact @State.checkChannel_keep)]) l a
  simp only [State.wakeUp, State.checkDram_dramLines, hchannels, hgroves, (fact @State.checkBulk_keep), (fact @State.checkDigest_keep)]

@[simp] theorem State.fullWake_dramLines {w : WakeChecks} : (s.fullWake w).dram.lines = s.dram.lines := by
  unfold State.fullWake
  repeat' split
  all_goals simp only [(fact @State.wakeEnd_keep), State.wakeUp_dramLines, (fact @State.leaveIdle_keep), (fact @State.recheckPower_keep)]

/-! ## Requests of the service port (16 R445; 18 R498) -/

/-- A transition that touches no line of DRAM. -/
abbrev KeepsDramLines (f : State → State) : Prop := ∀ a, (f a).dram.lines = a.dram.lines

/-- An action parameter that touches no line of DRAM, when it runs and when it is refused. -/
abbrev Action.KeepsDramLines (a : Action) : Prop := Machine.KeepsDramLines a.act ∧ Machine.KeepsDramLines a.noted

theorem actRekey_dramLines : actRekey.KeepsDramLines :=
  ⟨fun _ => by simp only [actRekey, (fact @State.newLeaseKey_keep)], fun _ => rfl⟩

theorem actTest_dramLines {huLow : Bool} : (actTest huLow).KeepsDramLines :=
  ⟨fun _ => by simp only [actTest, (fact @State.startTest_keep)], fun _ => rfl⟩

theorem actTestNow_dramLines : actTestNow.KeepsDramLines :=
  ⟨fun _ => by simp only [actTestNow, (fact @State.startTest_keep)], fun _ => rfl⟩

theorem actRelease_dramLines {v : Nat} : (actRelease v).KeepsDramLines :=
  ⟨fun _ => by simp only [actRelease, (fact @State.releaseWrites_keep)], fun _ => rfl⟩

theorem actDegraded_dramLines {v : Nat} : (actDegraded v).KeepsDramLines := ⟨fun _ => rfl, fun _ => rfl⟩

theorem actRetrain_dramLines {v : Nat} : (actRetrain v).KeepsDramLines := ⟨fun _ => DramS.askRetrain_lines, fun _ => rfl⟩

theorem actHandover_dramLines : actHandover.KeepsDramLines :=
  ⟨fun _ => by simp only [actHandover, (fact @State.askHandover_keep)], fun _ => rfl⟩

theorem actSeal_dramLines : actSeal.KeepsDramLines :=
  ⟨fun _ => by simp only [actSeal, (fact @State.burnSeal_keep)], fun _ => by simp only [actSeal, (fact @State.noteConflict_keep)]⟩

theorem actSvn_dramLines : actSvn.KeepsDramLines :=
  ⟨fun _ => by simp only [actSvn, (fact @State.commitSvn_keep)], fun _ => rfl⟩

theorem State.runAction_dramLines {f : Frame} {id v : Nat} {a : Action} (ha : a.KeepsDramLines) :
    (s.runAction f id v a).dram.lines = s.dram.lines := by
  obtain ⟨hact, hnoted⟩ := ha
  unfold State.runAction
  repeat' split
  all_goals simp only [(fact @State.rejected_keep), (fact @State.naileOk_keep), (fact @State.acceptRecord_keep), hact, hnoted]

theorem actionFor_dramLines {id v : Nat} {a : Action} (e : actionFor id v = some a) : a.KeepsDramLines := by
  simp only [actionFor] at e
  repeat' split at e
  all_goals cases e
  · exact actRekey_dramLines
  · exact actTestNow_dramLines
  · exact actRelease_dramLines
  · exact actDegraded_dramLines
  · exact actRetrain_dramLines
  · exact actHandover_dramLines
  · exact actSeal_dramLines
  · exact actSvn_dramLines

theorem State.runReconfig_dramLines {f : Frame} {r : ReconfigRec} : (s.runReconfig f r).dram.lines = s.dram.lines := by
  unfold State.runReconfig
  repeat' split
  · simp only [(fact @State.naileFail_keep)]
  · simp only [(fact @State.rejected_keep)]
  next e => exact State.runAction_dramLines (actionFor_dramLines e)
  · simp only [(fact @State.takeRecord_keep)]
  · simp only [(fact @State.takeRecord_keep)]

theorem State.runRequest_dramLines {f : Frame} {t : Tx} {run : State → State} (hr : KeepsDramLines run) :
    (s.runRequest f t run).dram.lines = s.dram.lines := by
  unfold State.runRequest
  repeat' split
  all_goals simp only [(fact @State.naileFail_keep), hr]

theorem State.request_dramLines {i : Instr} {f : Frame} {t : Tx} {run : State → State} (hr : KeepsDramLines run) :
    (s.request i f t run).dram.lines = s.dram.lines := by
  simp only [State.request]
  repeat' split
  all_goals simp only [State.runRequest_dramLines hr, (fact @State.acceptFrame_keep)]

theorem reqOf_dramLines {i : Instr} {q : Req} (e : reqOf i = some q) : KeepsDramLines q.run := by
  intro a
  unfold reqOf at e
  split at e
  all_goals cases e
  · exact State.runAction_dramLines actRekey_dramLines
  · exact State.runAction_dramLines actRelease_dramLines
  · exact State.runAction_dramLines actDegraded_dramLines
  · exact State.runAction_dramLines actRetrain_dramLines
  · exact State.runAction_dramLines actTest_dramLines
  · exact State.runAction_dramLines actHandover_dramLines
  · exact State.runAction_dramLines actSeal_dramLines
  · exact State.runAction_dramLines actSvn_dramLines
  · simp only [standReq, (fact @State.runCreate_keep)]
  · simp only [standReq, (fact @State.runModify_keep)]
  · simp only [standReq, (fact @State.runDelete_keep)]
  · simp only [standReq, (fact @State.runAttach_keep)]
  · simp only [standReq, (fact @State.runDetach_keep)]
  · simp only [standReq, (fact @State.runQuery_keep)]
  · exact State.runReconfig_dramLines
  · simp only [(fact @State.runParamRead_keep)]
  · simp only [(fact @State.runWindowRead_keep)]
  · simp only [(fact @State.runImageBegin_keep)]
  · simp only [(fact @State.runImageChunk_keep)]
  · simp only [(fact @State.runImageEnd_keep)]
  · simp only [(fact @State.runCommitImage_keep)]
  · simp only [(fact @State.runCommitConfiguration_keep)]
  · simp only [(fact @State.runRaiseFloor_keep)]
  · simp only [(fact @State.runRestoreSpare_keep)]
  · simp only [(fact @State.runTallyRead_keep)]
  · simp only [(fact @State.runHealthRead_keep)]
  · simp only [(fact @State.runRawDiag_keep)]
  · simp only [(fact @State.runRecoveryStatus_keep)]
  · simp only [(fact @State.naileFail_keep)]
  · simp only [(fact @State.runChallenge_keep)]
  · simp only [(fact @State.runOpen_keep)]
  · simp only [(fact @State.runClose_keep)]

@[simp] theorem State.resumeWaiting_dramLines : s.resumeWaiting.dram.lines = s.dram.lines := by
  unfold State.resumeWaiting
  split
  · rfl
  split
  · rfl
  next q e =>
    obtain ⟨i, -, hi⟩ := Option.bind_eq_some_iff.1 e
    exact State.runRequest_dramLines (reqOf_dramLines hi)

theorem State.dapRun_dramLines {r : DapReach} : (s.dapRun r).dram.lines = s.dram.lines := by
  unfold State.dapRun
  split
  all_goals simp only [State.resumeWaiting_dramLines, (fact @State.setHalt_keep), (fact @State.dapFree_keep), (fact @State.dapOut_keep)]

/-! ## Rows that leave the lines as they are -/

/-- A row that, where it goes on, goes on with the same lines of DRAM. -/
def NextDramLines (s : State) (o : Host.Outcome State Fault Refusal) : Prop := ∀ t, o = .next t → t.dram.lines = s.dram.lines

theorem nextDramLines_next {t : State} : NextDramLines s (.next t) ↔ t.dram.lines = s.dram.lines :=
  ⟨fun h => h t rfl, fun h _ e => Host.Outcome.next.inj e ▸ h⟩

theorem nextDramLines_of_dram_eq {o : Host.Outcome State Fault Refusal} (h : ∀ t, o = .next t → t.dram = s.dram) : NextDramLines s o :=
  fun t e => congrArg DramS.lines (h t e)

theorem execPerstDeassert_dramLines {p : Port} {w : WakeChecks} : NextDramLines s (execPerstDeassert p w s) := by
  simp only [execPerstDeassert, nextDramLines_next]
  repeat' split
  all_goals simp only [State.fullWake_dramLines]

theorem execLinkL1Exit_dramLines {p : Port} {w : WakeChecks} : NextDramLines s (execLinkL1Exit p w s) := by
  simp only [execLinkL1Exit, nextDramLines_next]
  split
  all_goals simp only [State.fullWake_dramLines]

theorem execOrderingToken_dramLines {k : TokenFor} : NextDramLines s (execOrderingToken k s) := by
  have htokens (l : List Nat) : (l.foldl State.tokenAt s).dram = s.dram :=
    foldl_dram (fun _ _ _ e => by simp only [← e, (fact @State.tokenAt_keep)]) l s
  simp only [execOrderingToken, nextDramLines_next]
  repeat' split
  all_goals simp only [(fact @State.tokenAt_keep), htokens]

theorem execDramTraining_dramLines {failing : List DramCh} : NextDramLines s (execDramTraining failing s) := by
  simp only [execDramTraining, nextDramLines_next]
  repeat' split
  all_goals simp only [State.dramUp, State.recordHw_dramLines]

theorem execDramZeroFillSlice_dramLines : NextDramLines s (execDramZeroFillSlice s) := by
  rw [execDramZeroFillSlice, nextDramLines_next]
  split
  all_goals rfl

theorem execDramAlert_dramLines {ch : DramCh} {k : AlertKind} {again : List DramReq} : NextDramLines s (execDramAlert ch k again s) := by
  simp only [execDramAlert, nextDramLines_next]
  repeat' split
  all_goals simp only [DramS.askRetrain_lines, State.recordHw_dramLines, DramS_modChan_lines]

theorem execDramTemperatureChange_dramLines {ch : DramCh} {temp : Int} : NextDramLines s (execDramTemperatureChange ch temp s) := by
  simp only [execDramTemperatureChange, nextDramLines_next]
  repeat' split
  all_goals simp only [DramS.askRetrain_lines, DramS_modChan_lines]

theorem execDrmRetrainNow_dramLines {f : Frame} {v : Nat} : NextDramLines s (execDrmRetrainNow f v s) :=
  nextDramLines_next.2 (State.request_dramLines fun _ => State.runAction_dramLines actRetrain_dramLines)

theorem execDramLiveRetrainSlice_dramLines {ch : DramCh} {o : RetrainRun} : NextDramLines s (execDramLiveRetrainSlice ch o s) := by
  rw [execDramLiveRetrainSlice, nextDramLines_next]
  repeat' split
  all_goals simp only [DramS.retrained_lines, State.controlledStop_dramLines, DramS_modChan_lines]

theorem execDramRefresh_dramLines {ch : DramCh} {bank : Nat} : NextDramLines s (execDramRefresh ch bank s) := by
  rw [execDramRefresh, nextDramLines_next]
  split
  all_goals rfl

theorem execDramActivationLimit_dramLines {ch : DramCh} {bank : Nat} : NextDramLines s (execDramActivationLimit ch bank s) := by
  rw [execDramActivationLimit, nextDramLines_next]
  split
  all_goals rfl

theorem execDramTokenRequest_dramLines {src : DramSource} : NextDramLines s (execDramTokenRequest src s) := by
  rw [execDramTokenRequest, nextDramLines_next]
  split
  all_goals rfl

theorem execRefclkLoss_dramLines : NextDramLines s (execRefclkLoss s) := by
  simp only [execRefclkLoss, nextDramLines_next]
  split
  all_goals simp only [State.controlledStop_dramLines, State.recordHw_dramLines]

theorem execTemperatureSample_dramLines {c : Int} : NextDramLines s (execTemperatureSample c s) := by
  simp only [execTemperatureSample, nextDramLines_next]
  repeat' split
  all_goals simp only [State.controlledStop_dramLines, State.recordHw_dramLines, (fact @State.recheckPower_keep), (fact @State.record_keep)]

theorem execPowerStateEntry_dramLines : NextDramLines s (execPowerStateEntry s) := by
  simp only [execPowerStateEntry, nextDramLines_next]
  repeat' split
  all_goals simp only [State.enter_dramLines, (fact @State.restLinks_keep), (fact @State.leaveIdle_keep)]

theorem execSmbusAddressMatch_dramLines {addr : BitVec 7} {w : WakeChecks} : NextDramLines s (execSmbusAddressMatch addr w s) := by
  simp only [execSmbusAddressMatch, nextDramLines_next]
  split
  all_goals simp only [State.fullWake_dramLines]

theorem execPatrolWake_dramLines {w : WakeChecks} : NextDramLines s (execPatrolWake w s) := by
  simp only [execPatrolWake, nextDramLines_next]
  split
  all_goals simp only [State.wakeUp_dramLines]

theorem execPatrolTimeout_dramLines : NextDramLines s (execPatrolTimeout s) := by
  rw [execPatrolTimeout, nextDramLines_next]
  split
  all_goals simp only [State.enter_dramLines]

theorem execDap_dramLines {r : DapReach} : NextDramLines s (execDap r s) := by
  rw [execDap, nextDramLines_next]
  repeat' split
  all_goals simp only [State.dapRun_dramLines, (fact @State.tapBypass_keep), (fact @State.tap_keep)]

theorem execSessionLifetimeExpiry_dramLines : NextDramLines s (execSessionLifetimeExpiry s) := by
  rw [execSessionLifetimeExpiry, nextDramLines_next]
  repeat' split
  all_goals simp only [State.resumeWaiting_dramLines, (fact @State.closeSession_keep)]

theorem execWatchdogExpiry_dramLines : NextDramLines s (execWatchdogExpiry s) := by
  rw [execWatchdogExpiry, nextDramLines_next]
  split
  all_goals simp only [State.resumeWaiting_dramLines, (fact @State.failOver_keep)]

theorem execMgmtFault_dramLines {k : MgmtFaultKind} : NextDramLines s (execMgmtFault k s) := by
  rw [execMgmtFault, nextDramLines_next]
  split
  all_goals simp only [State.resumeWaiting_dramLines, (fact @State.failOver_keep)]

theorem execHandoverTimeout_dramLines {result : Nat} : NextDramLines s (execHandoverTimeout result s) := by
  rw [execHandoverTimeout, nextDramLines_next]
  repeat' split
  all_goals simp only [State.resumeWaiting_dramLines, (fact @State.handoverFails_keep)]

theorem execReconfig_dramLines {f : Frame} {r : ReconfigRec} : NextDramLines s (execReconfig f r s) :=
  nextDramLines_next.2 (State.request_dramLines fun _ => State.runReconfig_dramLines)

theorem execTakeover_dramLines : NextDramLines s (execTakeover s) := by
  rw [execTakeover, nextDramLines_next]
  repeat' split
  all_goals simp only [State.resumeWaiting_dramLines, (fact @State.handoverDone_keep)]

/-- The commands that write or clear lines of DRAM: a line that the patrol or a descriptor's read finds lost or miscorrected, the descriptors that
store into DRAM, and the resets, which a dump that ends may bring (12 R350, R351). -/
def writesDramLines : Instr → Bool
  | .dramScrub .. | .dmaContextComplete .. | .powerLossDump | .deferredResetTimeout | .powerOnResetAssert | .resetNAssert .. => true
  | _ => false

theorem exec_dramLines {i : Instr} (hi : writesDramLines i = false) : NextDramLines s (exec i s) := by
  cases i with
  | perstAssert => exact nextDramLines_of_dram_eq fun _ e => by simp only [execPerstAssert_keep _ _ e]
  | perstDeassert => exact execPerstDeassert_dramLines
  | hotReset => exact nextDramLines_of_dram_eq fun _ e => by simp only [execHotReset_keep _ _ e]
  | dataLinkDown => exact nextDramLines_of_dram_eq fun _ e => by simp only [execDataLinkDown_keep _ _ e]
  | linkUp => exact nextDramLines_of_dram_eq fun _ e => by simp only [execLinkUp_keep _ _ _ _ e]
  | configurationRequest => exact nextDramLines_of_dram_eq fun _ e => by simp only [execConfigurationRequest_keep _ _ e]
  | linkL1Exit => exact execLinkL1Exit_dramLines
  | functionLevelReset => exact nextDramLines_of_dram_eq fun _ e => by simp only [execFunctionLevelReset_keep _ _ e]
  | ccEnSet => exact nextDramLines_of_dram_eq fun _ e => by simp only [execCcEnSet_keep _ _ _ _ e]
  | ccEnClear => exact nextDramLines_of_dram_eq fun _ e => by simp only [execCcEnClear_keep _ _ e]
  | sqTailDoorbell => exact nextDramLines_of_dram_eq fun _ e => by simp only [execSqTailDoorbell_keep _ _ _ _ _ e]
  | cqHeadDoorbell => exact nextDramLines_of_dram_eq fun _ e => by simp only [execCqHeadDoorbell_keep _ _ _ _ e]
  | tagAvailable => exact nextDramLines_of_dram_eq fun _ e => by simp only [execTagAvailable_keep _ _ _ e]
  | poisonedCompletion => exact nextDramLines_of_dram_eq fun _ e => by simp only [execPoisonedCompletion_keep _ _ e]
  | completionTimeout => exact nextDramLines_of_dram_eq fun _ e => by simp only [execCompletionTimeout_keep _ _ e]
  | registerWrite => exact nextDramLines_of_dram_eq fun _ e => by simp only [execRegisterWrite_keep _ _ _ e]
  | keepAliveTimeout => exact nextDramLines_of_dram_eq fun _ e => by simp only [execKeepAliveTimeout_keep _ _ e]
  | orderedCommandBegin => exact nextDramLines_of_dram_eq fun _ e => by simp only [execOrderedCommandBegin_keep _ _ e]
  | nextDispatch => exact nextDramLines_of_dram_eq fun _ e => by simp only [execNextDispatch_keep _ _ _ e]
  | deleteIoSq => exact nextDramLines_of_dram_eq fun _ e => by simp only [execDeleteIoSq_keep _ _ e]
  | createIoSq => exact nextDramLines_of_dram_eq fun _ e => by simp only [execCreateIoSq_keep _ _ e]
  | deleteIoCq => exact nextDramLines_of_dram_eq fun _ e => by simp only [execDeleteIoCq_keep _ _ e]
  | createIoCq => exact nextDramLines_of_dram_eq fun _ e => by simp only [execCreateIoCq_keep _ _ e]
  | getLogPage => exact nextDramLines_of_dram_eq fun _ e => by simp only [execGetLogPage_keep _ _ e]
  | identify => exact nextDramLines_of_dram_eq fun _ e => by simp only [execIdentify_keep _ _ e]
  | abort => exact nextDramLines_of_dram_eq fun _ e => by simp only [execAbort_keep _ _ e]
  | arbitration => exact nextDramLines_of_dram_eq fun _ e => by simp only [execArbitration_keep _ _ e]
  | powerManagement => exact nextDramLines_of_dram_eq fun _ e => by simp only [execPowerManagement_keep _ _ e]
  | temperatureThreshold => exact nextDramLines_of_dram_eq fun _ e => by simp only [execTemperatureThreshold_keep _ _ e]
  | volatileWriteCache => exact nextDramLines_of_dram_eq fun _ e => by simp only [execVolatileWriteCache_keep _ _ e]
  | numberOfQueues => exact nextDramLines_of_dram_eq fun _ e => by simp only [execNumberOfQueues_keep _ _ e]
  | interruptCoalescing => exact nextDramLines_of_dram_eq fun _ e => by simp only [execInterruptCoalescing_keep _ _ e]
  | interruptVectorConfiguration => exact nextDramLines_of_dram_eq fun _ e => by simp only [execInterruptVectorConfiguration_keep _ _ e]
  | writeAtomicityNormal => exact nextDramLines_of_dram_eq fun _ e => by simp only [execWriteAtomicityNormal_keep _ _ e]
  | asyncEventConfiguration => exact nextDramLines_of_dram_eq fun _ e => by simp only [execAsyncEventConfiguration_keep _ _ e]
  | timestamp => exact nextDramLines_of_dram_eq fun _ e => by simp only [execTimestamp_keep _ _ e]
  | keepAliveTimer => exact nextDramLines_of_dram_eq fun _ e => by simp only [execKeepAliveTimer_keep _ _ e]
  | hostIdentifier => exact nextDramLines_of_dram_eq fun _ e => by simp only [execHostIdentifier_keep _ _ e]
  | reservationNotificationMask => exact nextDramLines_of_dram_eq fun _ e => by simp only [execReservationNotificationMask_keep _ _ e]
  | reservationPersistence => exact nextDramLines_of_dram_eq fun _ e => by simp only [execReservationPersistence_keep _ _ e]
  | unsupportedFeature => exact nextDramLines_of_dram_eq fun _ e => by simp only [execUnsupportedFeature_keep _ _ e]
  | getFeatures => exact nextDramLines_of_dram_eq fun _ e => by simp only [execGetFeatures_keep _ _ e]
  | asynchronousEventRequest => exact nextDramLines_of_dram_eq fun _ e => by simp only [execAsynchronousEventRequest_keep _ _ e]
  | namespaceCreate => exact nextDramLines_of_dram_eq fun _ e => by simp only [execNamespaceCreate_keep _ _ e]
  | namespaceDelete => exact nextDramLines_of_dram_eq fun _ e => by simp only [execNamespaceDelete_keep _ _ e]
  | namespaceAttach => exact nextDramLines_of_dram_eq fun _ e => by simp only [execNamespaceAttach_keep _ _ e]
  | namespaceDetach => exact nextDramLines_of_dram_eq fun _ e => by simp only [execNamespaceDetach_keep _ _ e]
  | keepAlive => exact nextDramLines_of_dram_eq fun _ e => by simp only [execKeepAlive_keep _ _ e]
  | formatNvm => exact nextDramLines_of_dram_eq fun _ e => by simp only [execFormatNvm_keep _ _ e]
  | sanitizeCryptoErase => exact nextDramLines_of_dram_eq fun _ e => by simp only [execSanitizeCryptoErase_keep _ _ e]
  | sanitizeBlockErase => exact nextDramLines_of_dram_eq fun _ e => by simp only [execSanitizeBlockErase_keep _ _ e]
  | sanitizeExitFailureMode => exact nextDramLines_of_dram_eq fun _ e => by simp only [execSanitizeExitFailureMode_keep _ _ e]
  | sanitizeOverwrite => exact nextDramLines_of_dram_eq fun _ e => by simp only [execSanitizeOverwrite_keep _ _ e]
  | firmwareCommit => exact nextDramLines_of_dram_eq fun _ e => by simp only [execFirmwareCommit_keep _ _ e]
  | firmwareImageDownload => exact nextDramLines_of_dram_eq fun _ e => by simp only [execFirmwareImageDownload_keep _ _ e]
  | mapLeaseGrant => exact nextDramLines_of_dram_eq fun _ e => by simp only [execMapLeaseGrant_keep _ _ e]
  | mapLeaseRevoke => exact nextDramLines_of_dram_eq fun _ e => by simp only [execMapLeaseRevoke_keep _ _ e]
  | mapLeaseStatus => exact nextDramLines_of_dram_eq fun _ e => by simp only [execMapLeaseStatus_keep _ _ e]
  | standStatus => exact nextDramLines_of_dram_eq fun _ e => by simp only [execStandStatus_keep _ _ e]
  | invalidAdminOpcode => exact nextDramLines_of_dram_eq fun _ e => by simp only [execInvalidAdminOpcode_keep _ _ e]
  | flush => exact nextDramLines_of_dram_eq fun _ e => by simp only [execFlush_keep _ _ e]
  | write => exact nextDramLines_of_dram_eq fun _ e => by simp only [execWrite_keep _ _ e]
  | read => exact nextDramLines_of_dram_eq fun _ e => by simp only [execRead_keep _ _ e]
  | compare => exact nextDramLines_of_dram_eq fun _ e => by simp only [execCompare_keep _ _ e]
  | writeZeroes => exact nextDramLines_of_dram_eq fun _ e => by simp only [execWriteZeroes_keep _ _ e]
  | datasetManagement => exact nextDramLines_of_dram_eq fun _ e => by simp only [execDatasetManagement_keep _ _ e]
  | reservationRegister => exact nextDramLines_of_dram_eq fun _ e => by simp only [execReservationRegister_keep _ _ e]
  | reservationReport => exact nextDramLines_of_dram_eq fun _ e => by simp only [execReservationReport_keep _ _ e]
  | reservationAcquire => exact nextDramLines_of_dram_eq fun _ e => by simp only [execReservationAcquire_keep _ _ e]
  | reservationRelease => exact nextDramLines_of_dram_eq fun _ e => by simp only [execReservationRelease_keep _ _ e]
  | orderedWrite => exact nextDramLines_of_dram_eq fun _ e => by simp only [execOrderedWrite_keep _ _ e]
  | orderedRead => exact nextDramLines_of_dram_eq fun _ e => by simp only [execOrderedRead_keep _ _ e]
  | orderedDatasetManagement => exact nextDramLines_of_dram_eq fun _ e => by simp only [execOrderedDatasetManagement_keep _ _ e]
  | gatherRead => exact nextDramLines_of_dram_eq fun _ e => by simp only [execGatherRead_keep _ _ e]
  | invalidIoOpcode => exact nextDramLines_of_dram_eq fun _ e => by simp only [execInvalidIoOpcode_keep _ _ e]
  | slicedOperationStart => exact nextDramLines_of_dram_eq fun _ e => by simp only [execSlicedOperationStart_keep _ _ e]
  | slice => exact nextDramLines_of_dram_eq fun _ e => by simp only [execSlice_keep _ _ _ e]
  | dmaContextComplete => cases hi
  | orderingToken => exact execOrderingToken_dramLines
  | cordGrant => exact nextDramLines_of_dram_eq fun _ e => by simp only [execCordGrant_keep _ e]
  | gatherWindow => exact nextDramLines_of_dram_eq fun _ e => by simp only [execGatherWindow_keep _ _ e]
  | leafMiss => exact nextDramLines_of_dram_eq fun _ e => by simp only [execLeafMiss_keep _ _ _ e]
  | leaseWriteBackDone => exact nextDramLines_of_dram_eq fun _ e => by simp only [execLeaseWriteBackDone_keep _ _ e]
  | leaseFetchDone => exact nextDramLines_of_dram_eq fun _ e => by simp only [execLeaseFetchDone_keep _ _ _ e]
  | leaseRevokeDone => exact nextDramLines_of_dram_eq fun _ e => by simp only [execLeaseRevokeDone_keep _ _ e]
  | mapLeaseRekey => exact nextDramLines_of_dram_eq fun _ e => by simp only [execMapLeaseRekey_keep _ _ _ e]
  | journalCommitDone => exact nextDramLines_of_dram_eq fun _ e => by simp only [execJournalCommitDone_keep _ _ e]
  | checkpointSlice => exact nextDramLines_of_dram_eq fun _ e => by simp only [execCheckpointSlice_keep _ _ e]
  | mapRebuild => exact nextDramLines_of_dram_eq fun _ e => by simp only [execMapRebuild_keep _ _ _ e]
  | windrowSetPlacement => exact nextDramLines_of_dram_eq fun _ e => by simp only [execWindrowSetPlacement_keep _ _ _ e]
  | parityTransfer => exact nextDramLines_of_dram_eq fun _ e => by simp only [execParityTransfer_keep _ _ e]
  | forceWaitExpiry => exact nextDramLines_of_dram_eq fun _ e => by simp only [execForceWaitExpiry_keep _ _ e]
  | idleForceExpiry => exact nextDramLines_of_dram_eq fun _ e => by simp only [execIdleForceExpiry_keep _ _ e]
  | openIdleClose => exact nextDramLines_of_dram_eq fun _ e => by simp only [execOpenIdleClose_keep _ _ _ _ e]
  | gseqAgeLimit => exact nextDramLines_of_dram_eq fun _ e => by simp only [execGseqAgeLimit_keep _ _ e]
  | thinningSlice => exact nextDramLines_of_dram_eq fun _ e => by simp only [execThinningSlice_keep _ _ _ e]
  | victimEraseStart => exact nextDramLines_of_dram_eq fun _ e => by simp only [execVictimEraseStart_keep _ _ _ e]
  | cruiseSlice => exact nextDramLines_of_dram_eq fun _ e => by simp only [execCruiseSlice_keep _ _ e]
  | cruiseLate => exact nextDramLines_of_dram_eq fun _ e => by simp only [execCruiseLate_keep _ _ e]
  | medReadOnlyRelease => exact nextDramLines_of_dram_eq fun _ e => by simp only [execMedReadOnlyRelease_keep _ _ _ e]
  | dieQueueArrival => exact nextDramLines_of_dram_eq fun _ e => by simp only [execDieQueueArrival_keep _ _ e]
  | dieStatusPoll => exact nextDramLines_of_dram_eq fun _ e => by simp only [execDieStatusPoll_keep _ _ _ _ e]
  | readyBusyTimeout => exact nextDramLines_of_dram_eq fun _ e => by simp only [execReadyBusyTimeout_keep _ _ _ _ e]
  | busArbitrationPoint => exact nextDramLines_of_dram_eq fun _ e => by simp only [execBusArbitrationPoint_keep _ _ _ e]
  | hardDecodeDone => exact nextDramLines_of_dram_eq fun _ e => by simp only [execHardDecodeDone_keep _ _ _ _ e]
  | softDecodeDone => exact nextDramLines_of_dram_eq fun _ e => by simp only [execSoftDecodeDone_keep _ _ _ _ e]
  | programDone => exact nextDramLines_of_dram_eq fun _ e => by simp only [execProgramDone_keep _ _ _ e]
  | eraseDone => exact nextDramLines_of_dram_eq fun _ e => by simp only [execEraseDone_keep _ _ _ e]
  | channelTraining => exact nextDramLines_of_dram_eq fun _ e => by simp only [execChannelTraining_keep _ _ _ _ e]
  | driftTracking => exact nextDramLines_of_dram_eq fun _ e => by simp only [execDriftTracking_keep _ _ _ _ e]
  | liveRetrainSlice => exact nextDramLines_of_dram_eq fun _ e => by simp only [execLiveRetrainSlice_keep _ _ _ _ e]
  | padMonitorCheck => exact nextDramLines_of_dram_eq fun _ e => by simp only [execPadMonitorCheck_keep _ _ _ e]
  | rebuildSlice => exact nextDramLines_of_dram_eq fun _ e => by simp only [execRebuildSlice_keep _ _ e]
  | chnDegradedClear => exact nextDramLines_of_dram_eq fun _ e => by simp only [execChnDegradedClear_keep _ _ _ e]
  | capacitorTestStart => exact nextDramLines_of_dram_eq fun _ e => by simp only [execCapacitorTestStart_keep _ _ _ e]
  | plpTestNow => exact nextDramLines_of_dram_eq fun _ e => by simp only [execPlpTestNow_keep _ _ _ _ e]
  | huLowRise => exact nextDramLines_of_dram_eq fun _ e => by simp only [execHuLowRise_keep _ _ e]
  | capacitorTestTimeout => exact nextDramLines_of_dram_eq fun _ e => by simp only [execCapacitorTestTimeout_keep _ e]
  | pwrFailNFall => exact nextDramLines_of_dram_eq fun _ e => by simp only [execPwrFailNFall_keep _ e]
  | powerLossDump => cases hi
  | deferredResetTimeout => cases hi
  | writeCacheReplay => exact nextDramLines_of_dram_eq fun _ e => by simp only [execWriteCacheReplay_keep _ _ e]
  | standCtlCreate => exact nextDramLines_of_dram_eq fun _ e => by simp only [execStandCtlCreate_keep _ _ _ e]
  | standCtlModify => exact nextDramLines_of_dram_eq fun _ e => by simp only [execStandCtlModify_keep _ _ _ e]
  | standCtlDelete => exact nextDramLines_of_dram_eq fun _ e => by simp only [execStandCtlDelete_keep _ _ _ e]
  | standDeleteRun => exact nextDramLines_of_dram_eq fun _ e => by simp only [execStandDeleteRun_keep _ _ e]
  | standCtlAttach => exact nextDramLines_of_dram_eq fun _ e => by simp only [execStandCtlAttach_keep _ _ _ _ e]
  | standCtlDetach => exact nextDramLines_of_dram_eq fun _ e => by simp only [execStandCtlDetach_keep _ _ _ _ e]
  | standCtlQuery => exact nextDramLines_of_dram_eq fun _ e => by simp only [execStandCtlQuery_keep _ _ _ e]
  | standPreparationDone => exact nextDramLines_of_dram_eq fun _ e => by simp only [execStandPreparationDone_keep _ _ e]
  | standRelocationDone => exact nextDramLines_of_dram_eq fun _ e => by simp only [execStandRelocationDone_keep _ _ e]
  | dramTraining => exact execDramTraining_dramLines
  | dramZeroFillSlice => exact execDramZeroFillSlice_dramLines
  | dramScrub => cases hi
  | dramAlert => exact execDramAlert_dramLines
  | dramTemperatureChange => exact execDramTemperatureChange_dramLines
  | drmRetrainNow => exact execDrmRetrainNow_dramLines
  | dramLiveRetrainSlice => exact execDramLiveRetrainSlice_dramLines
  | dramRefresh ch bank => exact execDramRefresh_dramLines (bank := bank)
  | dramActivationLimit ch bank => exact execDramActivationLimit_dramLines (bank := bank)
  | dramTokenRequest => exact execDramTokenRequest_dramLines
  | powerOnResetAssert => cases hi
  | powerOnResetRelease => exact nextDramLines_of_dram_eq fun _ e => by simp only [execPowerOnResetRelease_keep _ _ _ e]
  | resetNAssert => cases hi
  | resetNRelease => exact nextDramLines_of_dram_eq fun _ e => by simp only [execResetNRelease_keep _ _ _ e]
  | pllLock => exact nextDramLines_of_dram_eq fun _ e => by simp only [execPllLock_keep _ _ e]
  | startupComplete => exact nextDramLines_of_dram_eq fun _ e => by simp only [execStartupComplete_keep _ e]
  | clkCtrlWrite => exact nextDramLines_of_dram_eq fun _ e => by simp only [execClkCtrlWrite_keep _ _ e]
  | refclkLoss => exact execRefclkLoss_dramLines
  | temperatureSample => exact execTemperatureSample_dramLines
  | governorTick => exact nextDramLines_of_dram_eq fun _ e => by simp only [execGovernorTick_keep _ _ e]
  | lpoCalibration => exact nextDramLines_of_dram_eq fun _ e => by simp only [execLpoCalibration_keep _ e]
  | powerStateEntry => exact execPowerStateEntry_dramLines
  | smbusAddressMatch => exact execSmbusAddressMatch_dramLines
  | smbusMatchTimeout => exact nextDramLines_of_dram_eq fun _ e => by simp only [execSmbusMatchTimeout_keep _ e]
  | patrolWake => exact execPatrolWake_dramLines
  | patrolTimeout => exact execPatrolTimeout_dramLines
  | pwrPadReleaseWrite => exact nextDramLines_of_dram_eq fun _ e => by simp only [execPwrPadReleaseWrite_keep _ _ e]
  | secLifecycleAdvance => exact nextDramLines_of_dram_eq fun _ e => by simp only [execSecLifecycleAdvance_keep _ _ _ e]
  | secSvnCommit => exact nextDramLines_of_dram_eq fun _ e => by simp only [execSecSvnCommit_keep _ _ _ e]
  | idcode => exact nextDramLines_of_dram_eq fun _ e => by simp only [execIdcode_keep _ e]
  | samplePreload => exact nextDramLines_of_dram_eq fun _ e => by simp only [execSamplePreload_keep _ e]
  | extest => exact nextDramLines_of_dram_eq fun _ e => by simp only [execExtest_keep _ e]
  | clamp => exact nextDramLines_of_dram_eq fun _ e => by simp only [execClamp_keep _ e]
  | highz => exact nextDramLines_of_dram_eq fun _ e => by simp only [execHighz_keep _ e]
  | secstat => exact nextDramLines_of_dram_eq fun _ e => by simp only [execSecstat_keep _ e]
  | dap => exact execDap_dramLines
  | provision => exact nextDramLines_of_dram_eq fun _ e => by simp only [execProvision_keep _ e]
  | bypass => exact nextDramLines_of_dram_eq fun _ e => by simp only [execBypass_keep _ _ e]
  | debugTokenChallenge => exact nextDramLines_of_dram_eq fun _ e => by simp only [execDebugTokenChallenge_keep _ _ e]
  | debugTokenOpen => exact nextDramLines_of_dram_eq fun _ e => by simp only [execDebugTokenOpen_keep _ _ _ e]
  | debugTokenClose => exact nextDramLines_of_dram_eq fun _ e => by simp only [execDebugTokenClose_keep _ _ e]
  | sessionLifetimeExpiry => exact execSessionLifetimeExpiry_dramLines
  | nonceExpiry => exact nextDramLines_of_dram_eq fun _ e => by simp only [execNonceExpiry_keep _ e]
  | getVersion => exact nextDramLines_of_dram_eq fun _ e => by simp only [execGetVersion_keep _ _ e]
  | getCapabilities => exact nextDramLines_of_dram_eq fun _ e => by simp only [execGetCapabilities_keep _ _ e]
  | negotiateAlgorithms => exact nextDramLines_of_dram_eq fun _ e => by simp only [execNegotiateAlgorithms_keep _ _ _ e]
  | getDigests => exact nextDramLines_of_dram_eq fun _ e => by simp only [execGetDigests_keep _ _ e]
  | getCertificate => exact nextDramLines_of_dram_eq fun _ e => by simp only [execGetCertificate_keep _ _ _ _ _ e]
  | challenge => exact nextDramLines_of_dram_eq fun _ e => by simp only [execChallenge_keep _ _ _ _ e]
  | getMeasurements => exact nextDramLines_of_dram_eq fun _ e => by simp only [execGetMeasurements_keep _ _ _ _ _ e]
  | getLmsCert => exact nextDramLines_of_dram_eq fun _ e => by simp only [execGetLmsCert_keep _ _ e]
  | getLmsSig => exact nextDramLines_of_dram_eq fun _ e => by simp only [execGetLmsSig_keep _ _ e]
  | spdmUnsupportedRequest => exact nextDramLines_of_dram_eq fun _ e => by simp only [execSpdmUnsupportedRequest_keep _ _ _ e]
  | readNvmeMiDataStructure => exact nextDramLines_of_dram_eq fun _ e => by simp only [execReadNvmeMiDataStructure_keep _ _ _ e]
  | nvmSubsystemHealthStatusPoll => exact nextDramLines_of_dram_eq fun _ e => by simp only [execNvmSubsystemHealthStatusPoll_keep _ _ e]
  | controllerHealthStatusPoll => exact nextDramLines_of_dram_eq fun _ e => by simp only [execControllerHealthStatusPoll_keep _ _ _ _ e]
  | configurationGet => exact nextDramLines_of_dram_eq fun _ e => by simp only [execConfigurationGet_keep _ _ e]
  | configurationSet => exact nextDramLines_of_dram_eq fun _ e => by simp only [execConfigurationSet_keep _ _ _ e]
  | vpdRead => exact nextDramLines_of_dram_eq fun _ e => by simp only [execVpdRead_keep _ _ _ e]
  | miAdminTunnel => exact nextDramLines_of_dram_eq fun _ e => by simp only [execMiAdminTunnel_keep _ _ _ e]
  | miInvalidParameter => exact nextDramLines_of_dram_eq fun _ e => by simp only [execMiInvalidParameter_keep _ _ e]
  | basicManagementCommand => exact nextDramLines_of_dram_eq fun _ e => by simp only [execBasicManagementCommand_keep _ _ _ e]
  | smbusArp => exact nextDramLines_of_dram_eq fun _ e => by simp only [execSmbusArp_keep _ _ e]
  | mgmtCheckpoint => exact nextDramLines_of_dram_eq fun _ e => by simp only [execMgmtCheckpoint_keep _ e]
  | watchdogExpiry => exact execWatchdogExpiry_dramLines
  | mgmtFault k => exact execMgmtFault_dramLines (k := k)
  | mgtHandoverNow => exact nextDramLines_of_dram_eq fun _ e => by simp only [execMgtHandoverNow_keep _ _ _ e]
  | handoverTimeout => exact execHandoverTimeout_dramLines
  | standbySelfTest => exact nextDramLines_of_dram_eq fun _ e => by simp only [execStandbySelfTest_keep _ _ e]
  | groveRestart => exact nextDramLines_of_dram_eq fun _ e => by simp only [execGroveRestart_keep _ _ e]
  | groveRestartTimeout => exact nextDramLines_of_dram_eq fun _ e => by simp only [execGroveRestartTimeout_keep _ _ e]
  | readStatus => exact nextDramLines_of_dram_eq fun _ e => by simp only [execReadStatus_keep _ e]
  | readResp => exact nextDramLines_of_dram_eq fun _ e => by simp only [execReadResp_keep _ e]
  | readAlert => exact nextDramLines_of_dram_eq fun _ e => by simp only [execReadAlert_keep _ e]
  | paramRead => exact nextDramLines_of_dram_eq fun _ e => by simp only [execParamRead_keep _ _ _ _ e]
  | statusWindowRead => exact nextDramLines_of_dram_eq fun _ e => by simp only [execStatusWindowRead_keep _ _ _ _ e]
  | reconfig => exact execReconfig_dramLines
  | imageBegin => exact nextDramLines_of_dram_eq fun _ e => by simp only [execImageBegin_keep _ _ _ _ e]
  | imageChunk => exact nextDramLines_of_dram_eq fun _ e => by simp only [execImageChunk_keep _ _ _ _ _ _ e]
  | norSectorWritten => exact nextDramLines_of_dram_eq fun _ e => by simp only [execNorSectorWritten_keep _ _ e]
  | imageEnd => exact nextDramLines_of_dram_eq fun _ e => by simp only [execImageEnd_keep _ _ _ _ e]
  | commitImage => exact nextDramLines_of_dram_eq fun _ e => by simp only [execCommitImage_keep _ _ _ _ e]
  | commitConfiguration => exact nextDramLines_of_dram_eq fun _ e => by simp only [execCommitConfiguration_keep _ _ _ _ e]
  | raiseReleaseFloor => exact nextDramLines_of_dram_eq fun _ e => by simp only [execRaiseReleaseFloor_keep _ _ e]
  | restoreSpare => exact nextDramLines_of_dram_eq fun _ e => by simp only [execRestoreSpare_keep _ _ _ e]
  | updateTimeout => exact nextDramLines_of_dram_eq fun _ e => by simp only [execUpdateTimeout_keep _ e]
  | tallyRead => exact nextDramLines_of_dram_eq fun _ e => by simp only [execTallyRead_keep _ _ _ _ _ e]
  | healthRead => exact nextDramLines_of_dram_eq fun _ e => by simp only [execHealthRead_keep _ _ _ e]
  | rawDiag => exact nextDramLines_of_dram_eq fun _ e => by simp only [execRawDiag_keep _ _ _ _ _ e]
  | recoveryStatus => exact nextDramLines_of_dram_eq fun _ e => by simp only [execRecoveryStatus_keep _ _ e]
  | unknownType => exact nextDramLines_of_dram_eq fun _ e => by simp only [execUnknownType_keep _ _ _ e]
  | tallyRecord => exact nextDramLines_of_dram_eq fun _ e => by simp only [execTallyRecord_keep _ _ e]
  | tallyCodeQuiet => exact nextDramLines_of_dram_eq fun _ e => by simp only [execTallyCodeQuiet_keep _ _ e]
  | tallyTierCopy => exact nextDramLines_of_dram_eq fun _ e => by simp only [execTallyTierCopy_keep _ e]
  | quiescentPointApply => exact nextDramLines_of_dram_eq fun _ e => by simp only [execQuiescentPointApply_keep _ _ e]
  | drainLate => exact nextDramLines_of_dram_eq fun _ e => by simp only [execDrainLate_keep _ _ _ e]
  | pwrFailNRise => exact nextDramLines_of_dram_eq fun _ e => by simp only [execPwrFailNRise_keep _ e]
  | writeFrame => exact nextDramLines_of_dram_eq fun _ e => by simp only [execWriteFrame_keep _ _ e]
  | takeover => exact execTakeover_dramLines
  | groveRestartComplete => exact nextDramLines_of_dram_eq fun _ e => by simp only [execGroveRestartComplete_keep _ _ e]
  | unsupportedRequestReceived => exact nextDramLines_of_dram_eq fun _ e => by simp only [execUnsupportedRequestReceived_keep _ _ _ e]
  | interruptAggregationTime => exact nextDramLines_of_dram_eq fun _ e => by simp only [execInterruptAggregationTime_keep _ _ _ e]

/-! ## The canonical form -/

/-- The form of DRAM's lines: rising numbers, and no line listed that reads as an unlisted one does (log entry 12). -/
def State.DramCanonical (s : State) : Prop := sorted s.dram.lines ∧ ∀ e ∈ s.dram.lines, e.2 ≠ (0, false)

theorem dramCanonical_of_lines_eq {s t : State} (e : t.dram.lines = s.dram.lines) (h : s.DramCanonical) : t.DramCanonical := by
  unfold State.DramCanonical
  rwa [e]

theorem dramCanonical_of_lines_nil (h : s.dram.lines = []) : s.DramCanonical := by
  simp [State.DramCanonical, h, sorted_nil]

theorem State.dramLost_dramCanonical {line : Nat} (h : s.DramCanonical) : (s.dramLost line).DramCanonical :=
  ⟨State_dramLost_dram_sorted line h.1, State_dramLost_dram_canonical line h.2⟩

theorem State.spoilLine_dramCanonical {line : Nat} (h : s.DramCanonical) : (s.spoilLine line).DramCanonical :=
  ⟨State_spoilLine_dram_sorted line h.1, State_spoilLine_dram_canonical line h.2⟩

theorem State.moveDesc_dramCanonical {d : DmaDesc} {forward : Bool} (h : s.DramCanonical) : (s.moveDesc d forward).DramCanonical :=
  ⟨State.moveDesc_dram_sorted d forward h.1, State.moveDesc_dram_canonical d forward h.2⟩

/-- What a line read makes of the lines (R332, R333): it loses one, or leaves one with other data. -/
theorem State.lineRead_dramCanonical {line : Nat} {err : BitVec 640} (h : s.DramCanonical) : (s.lineRead line err).DramCanonical := by
  have hdrawn : s.draw.2.DramCanonical := h
  have hnoted (dev row : Nat) : (s.draw.2.noteCorrection dev row).DramCanonical :=
    dramCanonical_of_lines_eq State.noteCorrection_dramLines hdrawn
  simp only [State.lineRead]
  repeat' split
  · exact hdrawn
  · exact State.dramLost_dramCanonical hdrawn
  · exact hdrawn
  · exact State.spoilLine_dramCanonical (hnoted _ _)
  · exact hnoted _ _
  · exact State.dramLost_dramCanonical hdrawn

theorem State.readErrors_dramCanonical {p : ParityEvent} (h : s.DramCanonical) : (s.readErrors p).DramCanonical := by
  unfold State.readErrors
  repeat' split
  · exact State.lineRead_dramCanonical h
  · exact h
  · exact h

theorem runChain_dramCanonical {reads forward : Bool} {l : List DmaDesc} (h : s.DramCanonical) :
    (runChain reads forward l s).1.DramCanonical := by
  induction l generalizing s with
  | nil => exact h
  | cons d t ih =>
    simp only [runChain]
    repeat' split
    · exact h
    · exact State.moveDesc_dramCanonical h
    · exact ih (State.moveDesc_dramCanonical h)

/-- A reset clears the lines or, where DRAM keeps its contents in self-refresh, leaves them (12 R350, R351; 11 R342). -/
theorem State.clearUnits_dramLines {por : Bool} : (s.clearUnits por).dram.lines = [] ∨ (s.clearUnits por).dram.lines = s.dram.lines :=
  ite_eq_or_eq _ _ _

theorem State.clearUnits_dramCanonical {por : Bool} (h : s.DramCanonical) : (s.clearUnits por).DramCanonical :=
  State.clearUnits_dramLines.elim dramCanonical_of_lines_nil fun e => dramCanonical_of_lines_eq e h

theorem State.takePin_dramCanonical (h : s.DramCanonical) : s.takePin.DramCanonical := State.clearUnits_dramCanonical (por := false) h

theorem State.afterDump_dramCanonical (h : s.DramCanonical) : s.afterDump.DramCanonical := by
  unfold State.afterDump
  split
  · exact State.takePin_dramCanonical h
  · exact h

/-! ## Rows that write lines -/

/-- A row that, where it goes on, goes on with lines in the form. -/
def NextDramCanonical (o : Host.Outcome State Fault Refusal) : Prop := ∀ t, o = .next t → t.DramCanonical

theorem nextDramCanonical_next {t : State} : NextDramCanonical (.next t) ↔ t.DramCanonical :=
  ⟨fun h => h t rfl, fun h _ e => Host.Outcome.next.inj e ▸ h⟩

theorem execDramScrub_dramCanonical {line : Nat} {err : BitVec 640} (h : s.DramCanonical) : NextDramCanonical (execDramScrub line err s) := by
  rw [execDramScrub, nextDramCanonical_next]
  split
  · exact h
  · exact State.lineRead_dramCanonical h

theorem execDmaContextComplete_dramCanonical {ctx : Fin 256} {chain : List DmaDesc} {parity : ParityEvent} (h : s.DramCanonical) :
    NextDramCanonical (execDmaContextComplete ctx chain parity s) := by
  have hrun := runChain_dramCanonical (reads := !(s.ctxFor ctx.val chain).writes) (forward := (s.ctxFor ctx.val chain).forward) (l := chain)
    (State.readErrors_dramCanonical (p := parity) h)
  simp only [execDmaContextComplete, nextDramCanonical_next]
  repeat' split
  · exact h
  · exact dramCanonical_of_lines_eq (by simp only [(fact @State.contextParity_keep)]) h
  · exact h
  · exact dramCanonical_of_lines_eq (by simp only [(fact @State.descError_keep)]) hrun
  · exact dramCanonical_of_lines_eq (by simp only [(fact @State.parity_keep)]) hrun
  · exact dramCanonical_of_lines_eq (by simp only [(fact @State.chainEnds_keep), (fact @State.parity_keep)]) hrun

theorem execPowerLossDump_dramCanonical (h : s.DramCanonical) : NextDramCanonical (execPowerLossDump s) := by
  rw [execPowerLossDump, nextDramCanonical_next]
  repeat' split
  · exact State.afterDump_dramCanonical
      (dramCanonical_of_lines_eq (by simp only [State.dumpHalt_dramLines, (fact @State.dumpSlotsOut_keep)]) h)
  · exact dramCanonical_of_lines_eq (by simp only [(fact @State.dumpHeaders_keep)]) h
  · exact dramCanonical_of_lines_eq
      (by simp only [(fact @State.dumpBegin_keep), (fact @State.dropHandover_keep), (fact @State.dropUpdate_keep)]) h
  · exact h

theorem execDeferredResetTimeout_dramCanonical (h : s.DramCanonical) : NextDramCanonical (execDeferredResetTimeout s) := by
  rw [execDeferredResetTimeout, nextDramCanonical_next]
  split
  · exact State.takePin_dramCanonical h
  · exact h

theorem execPowerOnResetAssert_dramCanonical (h : s.DramCanonical) : NextDramCanonical (execPowerOnResetAssert s) :=
  nextDramCanonical_next.2 (State.clearUnits_dramCanonical (por := true) h)

theorem execResetNAssert_dramCanonical {pulseNs : Option Nat} (h : s.DramCanonical) : NextDramCanonical (execResetNAssert pulseNs s) := by
  have hpulse : (s.pulse pulseNs).2.DramCanonical := dramCanonical_of_lines_eq (by simp only [(fact @State.pulse_keep)]) h
  simp only [execResetNAssert, nextDramCanonical_next]
  split
  · exact hpulse
  split
  · exact hpulse
  · exact State.takePin_dramCanonical hpulse

/-! ## Every row, and a step -/

theorem exec_dramCanonical {i : Instr} (h : s.DramCanonical) : NextDramCanonical (exec i s) := by
  cases hi : writesDramLines i with
  | false => exact fun t e => dramCanonical_of_lines_eq (exec_dramLines hi t e) h
  | true =>
    unfold writesDramLines at hi
    split at hi
    · exact execDramScrub_dramCanonical h
    · exact execDmaContextComplete_dramCanonical h
    · exact execPowerLossDump_dramCanonical h
    · exact execDeferredResetTimeout_dramCanonical h
    · exact execPowerOnResetAssert_dramCanonical h
    · exact execResetNAssert_dramCanonical h
    · cases hi

theorem step_dramCanonical (h : s.DramCanonical) : NextDramCanonical (step s) := by
  unfold step
  split
  · exact nextDramCanonical_next.2 (dramCanonical_of_lines_eq (by simp only [(fact @tick_keep)]) h)
  · exact exec_dramCanonical h

end

/-- Settles O55: the queue's front command keeps the form whatever it is, and so does the tick. -/
theorem dramStaysCanonical : Obligations.DramStaysCanonical :=
  fun _ t hsorted hlisted e => step_dramCanonical ⟨hsorted, hlisted⟩ t e

end Sys2Proof.Machine

/-! # The rows of the DRAM subsystem (11 R327 to R346) -/

namespace Sys2Proof.Machine

/-! ## Training and the zero fill (R327, R331, R343) -/

section

variable {s : State} (hfw : s.fwRuns = true) (hboot : s.dev.phase = .booting) (hready : s.dram.ready = false)
include hfw hboot hready

theorem dramTraining_due : ¬ (!s.fwRuns || s.dev.phase != .booting || s.dram.ready) = true := by
  simp [hfw, hboot, hready]

/-- Every channel passes. -/
theorem exec_dramTraining_passes : exec (.dramTraining []) s = .next (s.dramUp s.dramRate) :=
  congrArg _ (if_neg (dramTraining_due hfw hboot hready))

/-- Some channel fails, and there is a lower rung. -/
theorem exec_dramTraining_lowers {r : Nat} (hr : dramLower s.dramRate = some r) (c : DramCh) (l : List DramCh) :
    exec (.dramTraining (c :: l)) s =
      .next (State.recordHw { s with dram := { s.dram with rate := r } } srcDram sevWarning 0x1001 r) := by
  show execDramTraining (c :: l) s = _
  simp only [execDramTraining, if_neg (dramTraining_due hfw hboot hready), hr]

/-- Some channel fails at the lowest rung. -/
theorem exec_dramTraining_fails (hr : dramLower s.dramRate = none) (c : DramCh) (l : List DramCh) :
    exec (.dramTraining (c :: l)) s = .next (s.recordHw srcDram sevFatal 0x1002 c.val) := by
  show execDramTraining (c :: l) s = _
  simp only [execDramTraining, if_neg (dramTraining_due hfw hboot hready), hr]

end

theorem exec_dramZeroFillSlice_further {s : State} (hworks : s.dramWorks = true) (hleft : s.dram.filled < 4) :
    exec .dramZeroFillSlice s = .next { s with dram := { s.dram with filled := s.dram.filled + 1 } } :=
  congrArg _ (if_pos (Bool.and_eq_true_iff.mpr ⟨hworks, decide_eq_true hleft⟩))

/-! ## The read of a line (R332, R333, R335)

What is left once the free value of the read is drawn and the line's poison pattern is known. -/

section

variable {s u : State} {line k : Nat} {err : BitVec 640}

/-- A line with the poison pattern and no other error is known for what it is; with any error more it is lost. -/
theorem State.lineRead_poisoned (hdraw : s.draw = (k, u)) (hpoison : ((sget s.dram.lines line).map Prod.snd).getD false = true) :
    s.lineRead line err = if err = 0 then u else u.dramLost line := by
  simp only [State.lineRead, hdraw, hpoison, if_true]

theorem State.lineRead_clean (hdraw : s.draw = (k, u)) (hpoison : ((sget s.dram.lines line).map Prod.snd).getD false = false)
    (hread : readLine k err = .clean) : s.lineRead line err = u := by
  simp only [State.lineRead, hdraw, hpoison, hread, Bool.false_eq_true, if_false]

/-- A corrected line is noted against its device and row; where the code placed the error wrongly it then holds other data (log entry 115). -/
theorem State.lineRead_corrected (hdraw : s.draw = (k, u)) (hpoison : ((sget s.dram.lines line).map Prod.snd).getD false = false)
    {lane : Nat} (hread : readLine k err = .corrected lane) :
    s.lineRead line err =
      if miscorrects err lane then (u.noteCorrection (u.dramDevice line lane) (u.dramRow line)).spoilLine line
      else u.noteCorrection (u.dramDevice line lane) (u.dramRow line) := by
  simp only [State.lineRead, hdraw, hpoison, hread, Bool.false_eq_true, if_false]

theorem State.lineRead_uncorrectable (hdraw : s.draw = (k, u))
    (hpoison : ((sget s.dram.lines line).map Prod.snd).getD false = false) (hread : readLine k err = .uncorrectable) :
    s.lineRead line err = u.dramLost line := by
  simp only [State.lineRead, hdraw, hpoison, hread, Bool.false_eq_true, if_false]

/-- The patrol reads a line of DRAM outside the training area. -/
theorem exec_dramScrub_reads (hworks : s.dramWorks = true) (hdata : inTraining line = false) (hline : line < s.dramGib * 16777216)
    (hu : { s with dram := { s.dram with scrubbed := s.dram.scrubbed + 1 } } = u) :
    exec (.dramScrub line err) s = .next (u.lineRead line err) := by
  subst hu
  have hserved : ¬ (!s.dramWorks || inTraining line || decide (s.dramGib * 16777216 ≤ line)) = true := by simp [hworks, hdata, hline]
  exact congrArg _ (if_neg hserved)

end

/-! ## Alerts (R336, R337; log entry 133) -/

/-- P1 of an alert's event (1005h), by what failed. -/
def alertCode : AlertKind → Nat
  | .commandAddress => 1
  | .writeCrc => 2

/-- An alert as it is recorded, with the channel's retry buffer after it. -/
def State.alertRecorded (s : State) (ch : DramCh) (code : Nat) (l : List RetryReq) : State :=
  State.recordHw { s with
    dram := s.dram.modChan ch.val (fun c =>
      { c with alerts := s.alertsNow ch ++ [s.now], replays := c.replays + 1, retry := l, held := [], sliceEnd := min c.sliceEnd s.now }) }
    srcDram sevNotice 0x1005 ch.val code

/-- The alert that asks for a retrain: a command's replays are exhausted, or this alert is the one that reaches the limit. -/
def State.alertAsks (s : State) (ch : DramCh) (l : List RetryReq) : Bool :=
  l.any (fun x => x.exhausted) ||
    (decide ((s.alertsNow ch).length < s.par P.DRM_ALERT_LIMIT) && decide (s.par P.DRM_ALERT_LIMIT ≤ (s.alertsNow ch).length + 1))

theorem State.alertAsks_eq_true {s : State} {ch : DramCh} {l : List RetryReq}
    (h : l.any (fun x => x.exhausted) = true ∨ (s.alertsNow ch).length + 1 = s.par P.DRM_ALERT_LIMIT) : s.alertAsks ch l = true := by
  rw [State.alertAsks, Bool.or_eq_true_iff, Bool.and_eq_true_iff, decide_eq_true_iff, decide_eq_true_iff]
  exact h.imp_right fun _ => by omega

/-- Short of the limit, and past it, an alert asks for nothing. -/
theorem State.alertAsks_eq_false {s : State} {ch : DramCh} {l : List RetryReq} (hl : l.any (fun x => x.exhausted) = false)
    (h : s.par P.DRM_ALERT_LIMIT ≤ (s.alertsNow ch).length ∨ (s.alertsNow ch).length + 1 < s.par P.DRM_ALERT_LIMIT) :
    s.alertAsks ch l = false := by
  rw [State.alertAsks, hl, Bool.false_or, Bool.and_eq_false_iff, decide_eq_false_iff_not, decide_eq_false_iff_not]
  omega

/-- An alert while DRAM serves is recorded, and asks for a retrain or not. -/
theorem exec_dramAlert_recorded {s : State} {ch : DramCh} {again : List DramReq} {l : List RetryReq} (hfw : s.fwRuns = true)
    (hready : s.dram.ready = true) (hawake : s.dram.selfRefresh = false) (hl : s.retryAll (s.dram.chan ch).retry again = l)
    (kind : AlertKind) :
    exec (.dramAlert ch kind again) s = .next (
      if s.alertAsks ch l then
        { s.alertRecorded ch (alertCode kind) l with dram := (s.alertRecorded ch (alertCode kind) l).dram.askRetrain ch }
      else s.alertRecorded ch (alertCode kind) l) := by
  have hserved : ¬ (!s.fwRuns || !s.dram.ready || s.dram.selfRefresh) = true := by simp [hfw, hready, hawake]
  subst hl
  cases kind <;> exact congrArg _ (if_neg hserved)

/-! ## Temperature (R339) -/

/-- A temperature that has not moved far since the last training is only kept. -/
theorem exec_dramTemperatureChange_near {s : State} {ch : DramCh} {t : Int}
    (hnear : tempGap t (s.dram.chan ch).lastTemp < s.par P.DRM_RETRAIN_DELTA_C) :
    exec (.dramTemperatureChange ch t) s = .next { s with dram := s.dram.modChan ch.val (fun c => { c with temp := t }) } := by
  show execDramTemperatureChange ch t s = _
  simp only [execDramTemperatureChange, decide_eq_false (Nat.not_le.mpr hnear), Bool.and_false, Bool.false_eq_true, if_false]

/-- One that has, on a channel that no temperature has retrained yet, asks for a retrain. -/
theorem exec_dramTemperatureChange_far {s : State} {ch : DramCh} {t : Int} (hworks : s.dramWorks = true)
    (hfirst : (s.dram.chan ch).lastTempRetrain = none)
    (hfar : s.par P.DRM_RETRAIN_DELTA_C ≤ tempGap t (s.dram.chan ch).lastTemp) :
    exec (.dramTemperatureChange ch t) s = .next { s with
      dram := DramS.askRetrain (DramS.modChan (s.dram.modChan ch.val (fun c => { c with temp := t })) ch.val
        (fun c => { c with lastTempRetrain := some s.now })) ch } := by
  show execDramTemperatureChange ch t s = _
  rw [execDramTemperatureChange, hworks, hfirst, decide_eq_true hfar]
  rfl

/-! ## Live retraining (R339, R340, R346) -/

section

variable {s : State} {ch : DramCh} {n : Nat}

/-- Between two slices the channel serves: a slice that comes too early does nothing. -/
theorem exec_dramLiveRetrainSlice_rests (hworks : s.dramWorks = true) (hn : (s.dram.chan ch).retrain = some n) (hlater : 0 < n)
    (hearly : s.now < (s.dram.chan ch).sliceEnd + 200000) (o : RetrainRun) : exec (.dramLiveRetrainSlice ch o) s = .next s := by
  show execDramLiveRetrainSlice ch o s = _
  rw [execDramLiveRetrainSlice, hworks, hn]
  exact congrArg _ (if_pos (Bool.and_eq_true_iff.mpr ⟨decide_eq_true hlater, decide_eq_true hearly⟩))

/-- The first slice of a retrain, or one after the rest, runs. -/
theorem dramSlice_rested (h : n = 0 ∨ (s.dram.chan ch).sliceEnd + 200000 ≤ s.now) :
    ¬ (decide (0 < n) && decide (s.now < (s.dram.chan ch).sliceEnd + sliceRestNs)) = true := by
  have hrest : sliceRestNs = 200000 := rfl
  rw [Bool.and_eq_true_iff, decide_eq_true_iff, decide_eq_true_iff]
  omega

variable (hworks : s.dramWorks = true) (hn : (s.dram.chan ch).retrain = some n)
  (hrested : n = 0 ∨ (s.dram.chan ch).sliceEnd + 200000 ≤ s.now) (held : List DramSource)
include hworks hn hrested

theorem exec_dramLiveRetrainSlice_more (hfew : n < 63) :
    exec (.dramLiveRetrainSlice ch ⟨.more, held⟩) s = .next { s with
      dram := s.dram.modChan ch.val (fun x => { x with retrain := some (n + 1), held := held, sliceEnd := s.now + 40000 }) } := by
  show execDramLiveRetrainSlice ch ⟨.more, held⟩ s = _
  rw [execDramLiveRetrainSlice, hworks, hn]
  exact congrArg _ ((if_neg (dramSlice_rested hrested)).trans (if_pos hfew))

theorem exec_dramLiveRetrainSlice_done :
    exec (.dramLiveRetrainSlice ch ⟨.done, held⟩) s = .next { s with dram := s.dram.retrained ch.val } := by
  show execDramLiveRetrainSlice ch ⟨.done, held⟩ s = _
  rw [execDramLiveRetrainSlice, hworks, hn]
  exact congrArg _ (if_neg (dramSlice_rested hrested))

theorem exec_dramLiveRetrainSlice_failed :
    exec (.dramLiveRetrainSlice ch ⟨.failed, held⟩) s =
      .next (State.controlledStop { s with dram := s.dram.modChan ch.val (fun x => { x with retrain := none }) } (some ch.val)) := by
  show execDramLiveRetrainSlice ch ⟨.failed, held⟩ s = _
  rw [execDramLiveRetrainSlice, hworks, hn]
  exact congrArg _ (if_neg (dramSlice_rested hrested))

end

/-- Settles O42, row by row: each premise picks its row's branch (one region for each slice of the fill: log entry 40). -/
theorem dramRowsDo : Obligations.DramRowsDo := by
  refine ⟨?passes, ?lowers, ?fails, ?fills, ?scrubs, ?alertKept, ?alertAsks, ?near, ?far, ?rests, ?slice, ?counts⟩
  case passes => exact fun _ hfw hboot hready => exec_dramTraining_passes hfw hboot hready
  case lowers => exact fun _ c l _ hfw hboot hready hr => exec_dramTraining_lowers hfw hboot hready hr c l
  case fails => exact fun _ c l hfw hboot hready hr => exec_dramTraining_fails hfw hboot hready hr c l
  case fills => exact fun _ hworks hleft => exec_dramZeroFillSlice_further hworks hleft
  case scrubs =>
    intro s t u line k err hworks hdata hline ht hdraw
    rw [exec_dramScrub_reads hworks hdata hline ht]
    refine ⟨fun hpoison => ⟨fun hread => ?_, fun lane hread hright => ?_, fun lane hread hwrong => ?_, fun hread => ?_⟩, fun hpoison => ?_⟩
    · rw [State.lineRead_clean hdraw hpoison hread]
    · rw [State.lineRead_corrected hdraw hpoison hread, if_neg (ne_true_of_eq_false hright)]
    · rw [State.lineRead_corrected hdraw hpoison hread, if_pos hwrong]
    · rw [State.lineRead_uncorrectable hdraw hpoison hread]
    · rw [State.lineRead_poisoned hdraw hpoison]
  case alertKept =>
    intro s ch again l hfw hready hawake hl hnone hlimit
    rw [exec_dramAlert_recorded hfw hready hawake hl, if_neg (ne_true_of_eq_false (State.alertAsks_eq_false hnone hlimit))]
    rfl
  case alertAsks =>
    intro s t ch again l hfw hready hawake hl hasks ht
    subst ht
    rw [exec_dramAlert_recorded hfw hready hawake hl, if_pos (State.alertAsks_eq_true hasks)]
    rfl
  case near => exact fun _ _ _ hnear => exec_dramTemperatureChange_near hnear
  case far => exact fun _ _ _ hworks hfirst hfar => exec_dramTemperatureChange_far hworks hfirst hfar
  case rests => exact fun _ _ o _ hworks hn hlater hearly => exec_dramLiveRetrainSlice_rests hworks hn hlater hearly o
  case slice =>
    exact fun _ _ held _ hworks hn hrested =>
      ⟨exec_dramLiveRetrainSlice_more hworks hn hrested held, exec_dramLiveRetrainSlice_done hworks hn hrested held,
        exec_dramLiveRetrainSlice_failed hworks hn hrested held⟩
  case counts =>
    intro s ch bank src hready hawake
    have hserves : (s.dram.ready && !s.dram.selfRefresh) = true := by rw [hready, hawake]; rfl
    exact ⟨congrArg _ (if_pos hserves), congrArg _ (if_pos hserves), congrArg _ (if_pos hserves)⟩

end Sys2Proof.Machine

/-! # A step, the empty queue, and what reset leaves (12 R350; 13 R378) -/

namespace Sys2Proof.Machine

/-! ## A step -/

theorem step_of_pending_cons {s : State} {c : Instr} {rest : List Instr} (h : s.pending = c :: rest) :
    step s = exec c { s with pending := rest } := by
  simp only [step, h]

theorem step_of_pending_nil {s : State} (h : s.pending = []) : step s = .next (tick s) := by
  simp only [step, h]

/-- Settles O1. -/
theorem stepRunsTheFront : Obligations.StepRunsTheFront := fun _ _ _ h => step_of_pending_cons h

/-! ## One tick of the timekeeper (13 R378; log entry 4) -/

theorem tick_inReset {s : State} (hpor : s.dev.por = true) : tick s = s := if_pos hpor

theorem tick_awake {s : State} (hpor : s.dev.por = false) (hps : s.pwr.ps ≠ 4) :
    tick s = { s with time := { s.time with ns := s.time.ns + 1000 } } := by
  simp [tick, hpor, hps]

/-- In PS4 the 37/64 ns of a tick are added to the fraction, and a whole nanosecond is carried. -/
theorem tick_asleep {s : State} (hpor : s.dev.por = false) (hps : s.pwr.ps = 4) {carry frac : Nat}
    (hsum : s.time.frac + 37 = 64 * carry + frac) (hfrac : frac < 64) :
    tick s = { s with time := { ns := s.time.ns + 30517 + BitVec.ofNat 64 carry, frac := frac } } := by
  have hdiv : (s.time.frac + 37) / 64 = carry := by omega
  have hmod : (s.time.frac + 37) % 64 = frac := by omega
  simp [tick, hpor, hps, hdiv, hmod]

/-- Settles O2: the queue is empty, so the step is a tick, of the length that the power state gives it. -/
theorem emptyQueueTicks : Obligations.EmptyQueueTicks := by
  intro s hempty
  rw [step_of_pending_nil hempty]
  refine ⟨fun hpor => by rw [tick_inReset hpor], fun hpor hps => by rw [tick_awake hpor hps], ?whole, ?carried⟩
  case whole =>
    intro hpor hps hsmall
    rw [tick_asleep hpor hps (carry := 0) (by omega) hsmall]
    simp
  case carried =>
    intro hpor hps hlarge hfrac
    rw [tick_asleep hpor hps (carry := 1) (frac := s.time.frac - 27) (by omega) (by omega), BitVec.add_assoc]
    rfl

/-! ## What reset leaves (12 R350; log entries 1, 7, 10 and 11) -/

/-- Settles O56: at reset no line of Landing or of DRAM is listed, PROVISIONED alone is burned, and no transition has begun. -/
theorem invariantsHoldAtReset : Obligations.InvariantsHoldAtReset := by
  refine ⟨⟨?landing, ?dram, ?lines⟩, ?lifecycle⟩
  case landing => exact List.Pairwise.nil
  case dram => exact List.Pairwise.nil
  case lines => exact fun e he => absurd he (List.not_mem_nil)
  case lifecycle => decide

/-- Settles O57: each is a field of the state at reset. -/
theorem resetLeaves : Obligations.ResetLeaves := by
  and_intros
  all_goals rfl

end Sys2Proof.Machine

/-! # The Naile port (16 R442 to R450) -/

namespace Sys2Proof.Machine

section

variable {s : State} {f : Frame}

/-! ## The link checks (R443, R445) -/

theorem State.request_unanswered (h : s.responder = .none) (i : Instr) (tx : Tx) (run : State → State) :
    s.request i f tx run = s := by
  simp [State.request, h]

theorem State.request_busy (hr : s.responder ≠ .none) (hb : s.naile.busy = true) (i : Instr) (tx : Tx) (run : State → State) :
    s.request i f tx run = { s with naile := s.naile.discard 3 } := by
  simp [State.request, hr, hb]

theorem State.request_retry (hr : s.responder ≠ .none) (hb : s.naile.busy = false) (hf : s.naile.isRetry f = true) (i : Instr)
    (tx : Tx) (run : State → State) :
    s.request i f tx run = { s with naile := { s.naile with err := false, errcode := 0 } } := by
  simp [State.request, hr, hb, hf]

/-- Settles O39: RECOVERY_STATUS is a request, and each link check answers one before its work is reached. -/
theorem linkChecksHold : Obligations.LinkChecksHold :=
  ⟨fun _ _ h => congrArg _ (State.request_unanswered h _ _ _),
    fun _ _ hr hb => congrArg _ (State.request_busy hr hb _ _ _),
    fun _ _ hr hb hf => congrArg _ (State.request_retry hr hb hf _ _ _)⟩

/-- Settles O40: both answers are `NaileS.respond` on the port, of TYPE plus 80h or of the failure payload. -/
theorem answersOnlyAnswer : Obligations.AnswersOnlyAnswer := fun _ _ _ _ _ => ⟨rfl, rfl⟩

end

end Sys2Proof.Machine

/-! # What a command leaves alone -/

namespace Sys2Proof.Machine

/-- The units of State, in the order of its fields. -/
def Part.all : List Part :=
  [.pending, .time, .dev, .fuses, .params, .host, .nvm, .land, .map, .media, .flash, .cache, .plp, .dram, .pwr, .sec, .mgmt, .naile,
    .nor, .tally, .bus, .free]

theorem Part.mem_all (p : Part) : p ∈ Part.all := by
  cases p <;> decide

/-- The listed units hold the same in two states, as the conjunction that the frame lemmas of the commands state. -/
def sameAll (l : List Part) (t s : State) : Prop :=
  match l with
  | [] => True
  | [p] => p.same t s
  | p :: q :: l => p.same t s ∧ sameAll (q :: l) t s

theorem same_of_sameAll {l : List Part} {t s : State} (h : sameAll l t s) {p : Part} (hp : p ∈ l) : p.same t s := by
  induction l with
  | nil => cases hp
  | cons q l ih =>
    cases l with
    | nil =>
      obtain rfl : p = q := List.mem_singleton.mp hp
      exact h
    | cons r l =>
      obtain ⟨hq, hl⟩ := h
      rcases List.mem_cons.mp hp with rfl | hp
      · exact hq
      · exact ih hl hp

/-- A frame lemma that lists every unit outside a reach says that each of them is the same. -/
theorem same_outside {l : List Part} {t s : State} (h : sameAll (Part.all.diff l) t s) (p : Part) (hp : p ∉ l) : p.same t s :=
  same_of_sameAll h (List.mem_diff_of_mem p.mem_all hp)

/-- Settles O4: the frame lemma of each command lists the units outside its reach. -/
theorem commandsKeepToTheirReach : Obligations.CommandsKeepToTheirReach := by
  intro c s t e
  cases c with
  | perstAssert => exact same_outside (execPerstAssert_keep _ _ e)
  | perstDeassert => exact same_outside (execPerstDeassert_keep _ _ _ e)
  | hotReset => exact same_outside (execHotReset_keep _ _ e)
  | dataLinkDown => exact same_outside (execDataLinkDown_keep _ _ e)
  | linkUp => exact same_outside (execLinkUp_keep _ _ _ _ e)
  | configurationRequest => exact same_outside (execConfigurationRequest_keep _ _ e)
  | linkL1Exit => exact same_outside (execLinkL1Exit_keep _ _ _ e)
  | functionLevelReset => exact same_outside (execFunctionLevelReset_keep _ _ e)
  | ccEnSet => exact same_outside (execCcEnSet_keep _ _ _ _ e)
  | ccEnClear => exact same_outside (execCcEnClear_keep _ _ e)
  | sqTailDoorbell => exact same_outside (execSqTailDoorbell_keep _ _ _ _ _ e)
  | cqHeadDoorbell => exact same_outside (execCqHeadDoorbell_keep _ _ _ _ e)
  | tagAvailable => exact same_outside (execTagAvailable_keep _ _ _ e)
  | poisonedCompletion => exact same_outside (execPoisonedCompletion_keep _ _ e)
  | completionTimeout => exact same_outside (execCompletionTimeout_keep _ _ e)
  | registerWrite => exact same_outside (execRegisterWrite_keep _ _ _ e)
  | keepAliveTimeout => exact same_outside (execKeepAliveTimeout_keep _ _ e)
  | orderedCommandBegin => exact same_outside (execOrderedCommandBegin_keep _ _ e)
  | nextDispatch => exact same_outside (execNextDispatch_keep _ _ _ e)
  | deleteIoSq => exact same_outside (execDeleteIoSq_keep _ _ e)
  | createIoSq => exact same_outside (execCreateIoSq_keep _ _ e)
  | deleteIoCq => exact same_outside (execDeleteIoCq_keep _ _ e)
  | createIoCq => exact same_outside (execCreateIoCq_keep _ _ e)
  | getLogPage => exact same_outside (execGetLogPage_keep _ _ e)
  | identify => exact same_outside (execIdentify_keep _ _ e)
  | abort => exact same_outside (execAbort_keep _ _ e)
  | arbitration => exact same_outside (execArbitration_keep _ _ e)
  | powerManagement => exact same_outside (execPowerManagement_keep _ _ e)
  | temperatureThreshold => exact same_outside (execTemperatureThreshold_keep _ _ e)
  | volatileWriteCache => exact same_outside (execVolatileWriteCache_keep _ _ e)
  | numberOfQueues => exact same_outside (execNumberOfQueues_keep _ _ e)
  | interruptCoalescing => exact same_outside (execInterruptCoalescing_keep _ _ e)
  | interruptVectorConfiguration => exact same_outside (execInterruptVectorConfiguration_keep _ _ e)
  | writeAtomicityNormal => exact same_outside (execWriteAtomicityNormal_keep _ _ e)
  | asyncEventConfiguration => exact same_outside (execAsyncEventConfiguration_keep _ _ e)
  | timestamp => exact same_outside (execTimestamp_keep _ _ e)
  | keepAliveTimer => exact same_outside (execKeepAliveTimer_keep _ _ e)
  | hostIdentifier => exact same_outside (execHostIdentifier_keep _ _ e)
  | reservationNotificationMask => exact same_outside (execReservationNotificationMask_keep _ _ e)
  | reservationPersistence => exact same_outside (execReservationPersistence_keep _ _ e)
  | unsupportedFeature => exact same_outside (execUnsupportedFeature_keep _ _ e)
  | getFeatures => exact same_outside (execGetFeatures_keep _ _ e)
  | asynchronousEventRequest => exact same_outside (execAsynchronousEventRequest_keep _ _ e)
  | namespaceCreate => exact same_outside (execNamespaceCreate_keep _ _ e)
  | namespaceDelete => exact same_outside (execNamespaceDelete_keep _ _ e)
  | namespaceAttach => exact same_outside (execNamespaceAttach_keep _ _ e)
  | namespaceDetach => exact same_outside (execNamespaceDetach_keep _ _ e)
  | keepAlive => exact same_outside (execKeepAlive_keep _ _ e)
  | formatNvm => exact same_outside (execFormatNvm_keep _ _ e)
  | sanitizeCryptoErase => exact same_outside (execSanitizeCryptoErase_keep _ _ e)
  | sanitizeBlockErase => exact same_outside (execSanitizeBlockErase_keep _ _ e)
  | sanitizeExitFailureMode => exact same_outside (execSanitizeExitFailureMode_keep _ _ e)
  | sanitizeOverwrite => exact same_outside (execSanitizeOverwrite_keep _ _ e)
  | firmwareCommit => exact same_outside (execFirmwareCommit_keep _ _ e)
  | firmwareImageDownload => exact same_outside (execFirmwareImageDownload_keep _ _ e)
  | mapLeaseGrant => exact same_outside (execMapLeaseGrant_keep _ _ e)
  | mapLeaseRevoke => exact same_outside (execMapLeaseRevoke_keep _ _ e)
  | mapLeaseStatus => exact same_outside (execMapLeaseStatus_keep _ _ e)
  | standStatus => exact same_outside (execStandStatus_keep _ _ e)
  | invalidAdminOpcode => exact same_outside (execInvalidAdminOpcode_keep _ _ e)
  | flush => exact same_outside (execFlush_keep _ _ e)
  | write => exact same_outside (execWrite_keep _ _ e)
  | read => exact same_outside (execRead_keep _ _ e)
  | compare => exact same_outside (execCompare_keep _ _ e)
  | writeZeroes => exact same_outside (execWriteZeroes_keep _ _ e)
  | datasetManagement => exact same_outside (execDatasetManagement_keep _ _ e)
  | reservationRegister => exact same_outside (execReservationRegister_keep _ _ e)
  | reservationReport => exact same_outside (execReservationReport_keep _ _ e)
  | reservationAcquire => exact same_outside (execReservationAcquire_keep _ _ e)
  | reservationRelease => exact same_outside (execReservationRelease_keep _ _ e)
  | orderedWrite => exact same_outside (execOrderedWrite_keep _ _ e)
  | orderedRead => exact same_outside (execOrderedRead_keep _ _ e)
  | orderedDatasetManagement => exact same_outside (execOrderedDatasetManagement_keep _ _ e)
  | gatherRead => exact same_outside (execGatherRead_keep _ _ e)
  | invalidIoOpcode => exact same_outside (execInvalidIoOpcode_keep _ _ e)
  | slicedOperationStart => exact same_outside (execSlicedOperationStart_keep _ _ e)
  | slice => exact same_outside (execSlice_keep _ _ _ e)
  | dmaContextComplete => exact same_outside (execDmaContextComplete_keep _ _ _ _ e)
  | orderingToken => exact same_outside (execOrderingToken_keep _ _ e)
  | cordGrant => exact same_outside (execCordGrant_keep _ e)
  | gatherWindow => exact same_outside (execGatherWindow_keep _ _ e)
  | leafMiss => exact same_outside (execLeafMiss_keep _ _ _ e)
  | leaseWriteBackDone => exact same_outside (execLeaseWriteBackDone_keep _ _ e)
  | leaseFetchDone => exact same_outside (execLeaseFetchDone_keep _ _ _ e)
  | leaseRevokeDone => exact same_outside (execLeaseRevokeDone_keep _ _ e)
  | mapLeaseRekey => exact same_outside (execMapLeaseRekey_keep _ _ _ e)
  | journalCommitDone => exact same_outside (execJournalCommitDone_keep _ _ e)
  | checkpointSlice => exact same_outside (execCheckpointSlice_keep _ _ e)
  | mapRebuild => exact same_outside (execMapRebuild_keep _ _ _ e)
  | windrowSetPlacement => exact same_outside (execWindrowSetPlacement_keep _ _ _ e)
  | parityTransfer => exact same_outside (execParityTransfer_keep _ _ e)
  | forceWaitExpiry => exact same_outside (execForceWaitExpiry_keep _ _ e)
  | idleForceExpiry => exact same_outside (execIdleForceExpiry_keep _ _ e)
  | openIdleClose => exact same_outside (execOpenIdleClose_keep _ _ _ _ e)
  | gseqAgeLimit => exact same_outside (execGseqAgeLimit_keep _ _ e)
  | thinningSlice => exact same_outside (execThinningSlice_keep _ _ _ e)
  | victimEraseStart => exact same_outside (execVictimEraseStart_keep _ _ _ e)
  | cruiseSlice => exact same_outside (execCruiseSlice_keep _ _ e)
  | cruiseLate => exact same_outside (execCruiseLate_keep _ _ e)
  | medReadOnlyRelease => exact same_outside (execMedReadOnlyRelease_keep _ _ _ e)
  | dieQueueArrival => exact same_outside (execDieQueueArrival_keep _ _ e)
  | dieStatusPoll => exact same_outside (execDieStatusPoll_keep _ _ _ _ e)
  | readyBusyTimeout => exact same_outside (execReadyBusyTimeout_keep _ _ _ _ e)
  | busArbitrationPoint => exact same_outside (execBusArbitrationPoint_keep _ _ _ e)
  | hardDecodeDone => exact same_outside (execHardDecodeDone_keep _ _ _ _ e)
  | softDecodeDone => exact same_outside (execSoftDecodeDone_keep _ _ _ _ e)
  | programDone => exact same_outside (execProgramDone_keep _ _ _ e)
  | eraseDone => exact same_outside (execEraseDone_keep _ _ _ e)
  | channelTraining => exact same_outside (execChannelTraining_keep _ _ _ _ e)
  | driftTracking => exact same_outside (execDriftTracking_keep _ _ _ _ e)
  | liveRetrainSlice => exact same_outside (execLiveRetrainSlice_keep _ _ _ _ e)
  | padMonitorCheck => exact same_outside (execPadMonitorCheck_keep _ _ _ e)
  | rebuildSlice => exact same_outside (execRebuildSlice_keep _ _ e)
  | chnDegradedClear => exact same_outside (execChnDegradedClear_keep _ _ _ e)
  | capacitorTestStart => exact same_outside (execCapacitorTestStart_keep _ _ _ e)
  | plpTestNow => exact same_outside (execPlpTestNow_keep _ _ _ _ e)
  | huLowRise => exact same_outside (execHuLowRise_keep _ _ e)
  | capacitorTestTimeout => exact same_outside (execCapacitorTestTimeout_keep _ e)
  | pwrFailNFall => exact same_outside (execPwrFailNFall_keep _ e)
  | powerLossDump => exact same_outside (execPowerLossDump_keep _ e)
  | deferredResetTimeout => exact same_outside (execDeferredResetTimeout_keep _ e)
  | writeCacheReplay => exact same_outside (execWriteCacheReplay_keep _ _ e)
  | standCtlCreate => exact same_outside (execStandCtlCreate_keep _ _ _ e)
  | standCtlModify => exact same_outside (execStandCtlModify_keep _ _ _ e)
  | standCtlDelete => exact same_outside (execStandCtlDelete_keep _ _ _ e)
  | standDeleteRun => exact same_outside (execStandDeleteRun_keep _ _ e)
  | standCtlAttach => exact same_outside (execStandCtlAttach_keep _ _ _ _ e)
  | standCtlDetach => exact same_outside (execStandCtlDetach_keep _ _ _ _ e)
  | standCtlQuery => exact same_outside (execStandCtlQuery_keep _ _ _ e)
  | standPreparationDone => exact same_outside (execStandPreparationDone_keep _ _ e)
  | standRelocationDone => exact same_outside (execStandRelocationDone_keep _ _ e)
  | dramTraining => exact same_outside (execDramTraining_keep _ _ e)
  | dramZeroFillSlice => exact same_outside (execDramZeroFillSlice_keep _ e)
  | dramScrub => exact same_outside (execDramScrub_keep _ _ _ e)
  | dramAlert => exact same_outside (execDramAlert_keep _ _ _ _ e)
  | dramTemperatureChange => exact same_outside (execDramTemperatureChange_keep _ _ _ e)
  | drmRetrainNow => exact same_outside (execDrmRetrainNow_keep _ _ _ e)
  | dramLiveRetrainSlice => exact same_outside (execDramLiveRetrainSlice_keep _ _ _ e)
  | dramRefresh ch bank => exact same_outside (execDramRefresh_keep ch bank _ e)
  | dramActivationLimit ch bank => exact same_outside (execDramActivationLimit_keep ch bank _ e)
  | dramTokenRequest => exact same_outside (execDramTokenRequest_keep _ _ e)
  | powerOnResetAssert => exact same_outside (execPowerOnResetAssert_keep _ e)
  | powerOnResetRelease => exact same_outside (execPowerOnResetRelease_keep _ _ _ e)
  | resetNAssert => exact same_outside (execResetNAssert_keep _ _ e)
  | resetNRelease => exact same_outside (execResetNRelease_keep _ _ _ e)
  | pllLock => exact same_outside (execPllLock_keep _ _ e)
  | startupComplete => exact same_outside (execStartupComplete_keep _ e)
  | clkCtrlWrite => exact same_outside (execClkCtrlWrite_keep _ _ e)
  | refclkLoss => exact same_outside (execRefclkLoss_keep _ e)
  | temperatureSample => exact same_outside (execTemperatureSample_keep _ _ e)
  | governorTick => exact same_outside (execGovernorTick_keep _ _ e)
  | lpoCalibration => exact same_outside (execLpoCalibration_keep _ e)
  | powerStateEntry => exact same_outside (execPowerStateEntry_keep _ e)
  | smbusAddressMatch => exact same_outside (execSmbusAddressMatch_keep _ _ _ e)
  | smbusMatchTimeout => exact same_outside (execSmbusMatchTimeout_keep _ e)
  | patrolWake => exact same_outside (execPatrolWake_keep _ _ e)
  | patrolTimeout => exact same_outside (execPatrolTimeout_keep _ e)
  | pwrPadReleaseWrite => exact same_outside (execPwrPadReleaseWrite_keep _ _ e)
  | secLifecycleAdvance => exact same_outside (execSecLifecycleAdvance_keep _ _ _ e)
  | secSvnCommit => exact same_outside (execSecSvnCommit_keep _ _ _ e)
  | idcode => exact same_outside (execIdcode_keep _ e)
  | samplePreload => exact same_outside (execSamplePreload_keep _ e)
  | extest => exact same_outside (execExtest_keep _ e)
  | clamp => exact same_outside (execClamp_keep _ e)
  | highz => exact same_outside (execHighz_keep _ e)
  | secstat => exact same_outside (execSecstat_keep _ e)
  | dap => exact same_outside (execDap_keep _ _ e)
  | provision => exact same_outside (execProvision_keep _ e)
  | bypass => exact same_outside (execBypass_keep _ _ e)
  | debugTokenChallenge => exact same_outside (execDebugTokenChallenge_keep _ _ e)
  | debugTokenOpen => exact same_outside (execDebugTokenOpen_keep _ _ _ e)
  | debugTokenClose => exact same_outside (execDebugTokenClose_keep _ _ e)
  | sessionLifetimeExpiry => exact same_outside (execSessionLifetimeExpiry_keep _ e)
  | nonceExpiry => exact same_outside (execNonceExpiry_keep _ e)
  | getVersion => exact same_outside (execGetVersion_keep _ _ e)
  | getCapabilities => exact same_outside (execGetCapabilities_keep _ _ e)
  | negotiateAlgorithms => exact same_outside (execNegotiateAlgorithms_keep _ _ _ e)
  | getDigests => exact same_outside (execGetDigests_keep _ _ e)
  | getCertificate => exact same_outside (execGetCertificate_keep _ _ _ _ _ e)
  | challenge => exact same_outside (execChallenge_keep _ _ _ _ e)
  | getMeasurements => exact same_outside (execGetMeasurements_keep _ _ _ _ _ e)
  | getLmsCert => exact same_outside (execGetLmsCert_keep _ _ e)
  | getLmsSig => exact same_outside (execGetLmsSig_keep _ _ e)
  | spdmUnsupportedRequest => exact same_outside (execSpdmUnsupportedRequest_keep _ _ _ e)
  | readNvmeMiDataStructure => exact same_outside (execReadNvmeMiDataStructure_keep _ _ _ e)
  | nvmSubsystemHealthStatusPoll => exact same_outside (execNvmSubsystemHealthStatusPoll_keep _ _ e)
  | controllerHealthStatusPoll => exact same_outside (execControllerHealthStatusPoll_keep _ _ _ _ e)
  | configurationGet => exact same_outside (execConfigurationGet_keep _ _ e)
  | configurationSet => exact same_outside (execConfigurationSet_keep _ _ _ e)
  | vpdRead => exact same_outside (execVpdRead_keep _ _ _ e)
  | miAdminTunnel => exact same_outside (execMiAdminTunnel_keep _ _ _ e)
  | miInvalidParameter => exact same_outside (execMiInvalidParameter_keep _ _ e)
  | basicManagementCommand => exact same_outside (execBasicManagementCommand_keep _ _ _ e)
  | smbusArp => exact same_outside (execSmbusArp_keep _ _ e)
  | mgmtCheckpoint => exact same_outside (execMgmtCheckpoint_keep _ e)
  | watchdogExpiry => exact same_outside (execWatchdogExpiry_keep _ e)
  | mgmtFault k => exact same_outside (execMgmtFault_keep k _ e)
  | mgtHandoverNow => exact same_outside (execMgtHandoverNow_keep _ _ _ e)
  | handoverTimeout => exact same_outside (execHandoverTimeout_keep _ _ e)
  | standbySelfTest => exact same_outside (execStandbySelfTest_keep _ _ e)
  | groveRestart => exact same_outside (execGroveRestart_keep _ _ e)
  | groveRestartTimeout => exact same_outside (execGroveRestartTimeout_keep _ _ e)
  | readStatus => exact same_outside (execReadStatus_keep _ e)
  | readResp => exact same_outside (execReadResp_keep _ e)
  | readAlert => exact same_outside (execReadAlert_keep _ e)
  | paramRead => exact same_outside (execParamRead_keep _ _ _ _ e)
  | statusWindowRead => exact same_outside (execStatusWindowRead_keep _ _ _ _ e)
  | reconfig => exact same_outside (execReconfig_keep _ _ _ e)
  | imageBegin => exact same_outside (execImageBegin_keep _ _ _ _ e)
  | imageChunk => exact same_outside (execImageChunk_keep _ _ _ _ _ _ e)
  | norSectorWritten => exact same_outside (execNorSectorWritten_keep _ _ e)
  | imageEnd => exact same_outside (execImageEnd_keep _ _ _ _ e)
  | commitImage => exact same_outside (execCommitImage_keep _ _ _ _ e)
  | commitConfiguration => exact same_outside (execCommitConfiguration_keep _ _ _ _ e)
  | raiseReleaseFloor => exact same_outside (execRaiseReleaseFloor_keep _ _ e)
  | restoreSpare => exact same_outside (execRestoreSpare_keep _ _ _ e)
  | updateTimeout => exact same_outside (execUpdateTimeout_keep _ e)
  | tallyRead => exact same_outside (execTallyRead_keep _ _ _ _ _ e)
  | healthRead => exact same_outside (execHealthRead_keep _ _ _ e)
  | rawDiag => exact same_outside (execRawDiag_keep _ _ _ _ _ e)
  | recoveryStatus => exact same_outside (execRecoveryStatus_keep _ _ e)
  | unknownType => exact same_outside (execUnknownType_keep _ _ _ e)
  | tallyRecord => exact same_outside (execTallyRecord_keep _ _ e)
  | tallyCodeQuiet => exact same_outside (execTallyCodeQuiet_keep _ _ e)
  | tallyTierCopy => exact same_outside (execTallyTierCopy_keep _ e)
  | quiescentPointApply => exact same_outside (execQuiescentPointApply_keep _ _ e)
  | drainLate => exact same_outside (execDrainLate_keep _ _ _ e)
  | pwrFailNRise => exact same_outside (execPwrFailNRise_keep _ e)
  | writeFrame => exact same_outside (execWriteFrame_keep _ _ e)
  | takeover => exact same_outside (execTakeover_keep _ e)
  | groveRestartComplete => exact same_outside (execGroveRestartComplete_keep _ _ e)
  | unsupportedRequestReceived => exact same_outside (execUnsupportedRequestReceived_keep _ _ _ e)
  | interruptAggregationTime => exact same_outside (execInterruptAggregationTime_keep _ _ _ e)

end Sys2Proof.Machine

/-! # Requests of the Naile port: the Tally, parameters, images (16 R442 to R466; 17; 18) -/

namespace Sys2Proof.Machine

section

variable {s t : State} {f : Frame} {tx : Tx}

/-- A request that the port takes is carried out on the state that took it. -/
theorem State.next_request {run : State → State} (htakes : s.takes f tx) (i : Instr) (hrun : run s.acceptFrame = t) :
    (.next (s.request i f tx run) : Host.Outcome State Fault Refusal) = .next t :=
  congrArg _ ((State.request_takes htakes i run).trans hrun)

/-! ## Action parameters (18 R496 to R498) -/

/-- An action that is asked for and not refused is journaled, carried out and answered. -/
theorem State.next_actionRequest {id v : Nat} (h : s.takesAction f id v) (i : Instr) (a : Action)
    (hallowed : a.refuse s.acceptFrame = false) :
    (.next (s.actionRequest i f id v a) : Host.Outcome State Fault Refusal) =
      .next ((a.act s.acceptFrame.acceptRecord).naileOk f 0x02 1 0) := by
  obtain ⟨htakes, hchecks, hv⟩ := h
  refine State.next_request htakes i ?_
  simp [State.runAction, hchecks, hv, hallowed]

/-- An action that refuses is rejected with its own ID, after what it records of the refusal. -/
theorem State.next_actionRequest_refused {id v : Nat} (h : s.takesAction f id v) (i : Instr) (a : Action)
    (hrefused : a.refuse s.acceptFrame = true) :
    (.next (s.actionRequest i f id v a) : Host.Outcome State Fault Refusal) = .next ((a.noted s.acceptFrame).rejected f id) := by
  obtain ⟨htakes, hchecks, hv⟩ := h
  refine State.next_request htakes i ?_
  simp [State.runAction, hchecks, hv, hrefused]

/-- Settles O36: each action parameter is an action request, carried out or rejected as the action's own refusal says. -/
theorem actionsDo : Obligations.ActionsDo := by
  refine ⟨?rekey, ?release, ?releaseHeld, ?clear, ?rebuilding, ?retrain, ?test, ?handover, ?faulty, ?seals, ?sealRefused, ?svn, ?svnLow⟩
  case rekey => exact fun _ _ _ h => State.next_actionRequest h _ actRekey rfl
  case release => exact fun _ _ v h hfree => State.next_actionRequest h _ (actRelease v) hfree
  case releaseHeld => exact fun _ _ v h hheld => State.next_actionRequest_refused h _ (actRelease v) hheld
  case clear => exact fun _ _ v h hidle => State.next_actionRequest h _ (actDegraded v) hidle
  case rebuilding => exact fun _ _ v h hbusy => State.next_actionRequest_refused h _ (actDegraded v) hbusy
  case retrain => exact fun _ _ v h => State.next_actionRequest h _ (actRetrain v) rfl
  case test => exact fun _ _ _ huLow h => State.next_actionRequest h _ (actTest huLow) rfl
  case handover => exact fun _ _ _ h hstby => State.next_actionRequest h _ actHandover (decide_eq_false hstby)
  case faulty => exact fun _ _ _ h hstby => State.next_actionRequest_refused h _ actHandover (decide_eq_true hstby)
  case seals => exact fun _ _ _ h hok => State.next_actionRequest h _ actSeal (by simp only [actSeal, hok, Bool.not_true])
  case sealRefused => exact fun _ _ _ h hno => State.next_actionRequest_refused h _ actSeal (by simp only [actSeal, hno, Bool.not_false])
  case svn => exact fun _ _ _ h hlow => State.next_actionRequest h _ actSvn (by simp [actSvn, hlow])
  case svnLow => exact fun _ _ _ h hhigh => State.next_actionRequest_refused h _ actSvn (by simp [actSvn, hhigh])

/-! ## RECONFIG and PARAM_READ (18 R495 to R502) -/

theorem State.runReconfig_malformed {r : ReconfigRec} (hform : reconfigForm r = false) :
    s.runReconfig f r = s.naileFail f 0 nfField 0 := by
  simp [State.runReconfig, hform]

theorem State.runReconfig_refused {r : ReconfigRec} {id : Nat} (hform : reconfigForm r = true) (hbad : s.refusedId r.recs = some id) :
    s.runReconfig f r = s.rejected f id := by
  simp [State.runReconfig, hform, hbad]

theorem State.runReconfig_record {r : ReconfigRec} (hform : reconfigForm r = true) (hgood : s.refusedId r.recs = none)
    (hplain : ∀ x, r.recs = [x] → actionFor x.id x.value = none) : s.runReconfig f r = s.takeRecord f r.recs := by
  simp only [State.runReconfig, hform, hgood, Bool.not_true, Bool.false_eq_true, if_false]
  split
  · next x hx => simp only [hplain x hx, hx]
  · rfl

theorem State.runParamRead_there {id k : Nat} {d : PDef} (hd : paramDef id = some d) (hk : k < d.kind.count) :
    s.runParamRead f id k = s.naileOk f 0x01 (s.paramPayload d k).1 (s.paramPayload d k).2 := by
  simp [State.runParamRead, hd, hk]

theorem State.runParamRead_undefined {id k : Nat} (hd : paramDef id = none) : s.runParamRead f id k = s.naileFail f 0 nfField 0 := by
  simp [State.runParamRead, hd]

theorem State.runParamRead_outOfRange {id k : Nat} {d : PDef} (hd : paramDef id = some d) (hk : d.kind.count ≤ k) :
    s.runParamRead f id k = s.naileFail f 0 nfField 0 := by
  simp [State.runParamRead, hd, hk]

theorem State.runWindowRead_there {id k : Nat} {w : Nat × Nat} (hw : s.window id k = some w) :
    s.runWindowRead f id k = s.naileOk f 0x01 w.1 w.2 := by
  simp [State.runWindowRead, hw]

theorem State.runWindowRead_absent {id k : Nat} (hw : s.window id k = none) : s.runWindowRead f id k = s.naileFail f 0 nfField 0 := by
  simp [State.runWindowRead, hw]

/-- Settles O37: a RECONFIG is malformed, refused or taken, a read finds its parameter or window or does not, and the two rows of units run
under the conditions that each clause has. -/
theorem parameterRowsDo : Obligations.ParameterRowsDo := by
  refine ⟨?taken, ?takenOne, ?refused, ?malformed, ?read, ?readUndefined, ?window, ?windowAbsent, ?quiescent, ?late⟩
  case taken =>
    intro s f r htakes hform hgood hlen
    refine State.next_request htakes _ (State.runReconfig_record hform hgood fun x hx => ?_)
    simp [hx] at hlen
  case takenOne =>
    intro s f r x htakes hform hgood hone hplain
    rw [← hone]
    refine State.next_request htakes _ (State.runReconfig_record hform hgood fun y hy => ?_)
    obtain rfl : x = y := List.singleton_inj.mp (hone.symm.trans hy)
    exact hplain
  case refused => exact fun _ _ _ _ htakes hform hbad => State.next_request htakes _ (State.runReconfig_refused hform hbad)
  case malformed => exact fun _ _ _ htakes hform => State.next_request htakes _ (State.runReconfig_malformed hform)
  case read => exact fun _ _ _ _ _ htakes hd hk => State.next_request htakes _ (State.runParamRead_there hd hk)
  case readUndefined => exact fun _ _ _ _ htakes hd => State.next_request htakes _ (State.runParamRead_undefined hd)
  case window => exact fun _ _ _ _ _ htakes hw => State.next_request htakes _ (State.runWindowRead_there hw)
  case windowAbsent => exact fun _ _ _ _ htakes hw => State.next_request htakes _ (State.runWindowRead_absent hw)
  case quiescent => exact fun _ _ hfw hstaged => congrArg _ (if_pos ⟨hfw, hstaged⟩)
  case late => exact fun _ _ _ _ hfw hstaged => congrArg _ (if_pos ⟨hfw, by rw [hstaged]; rfl⟩)

/-! ## What PARAM_READ returns (18 R501, R502) -/

theorem State.paramPayload_plain {d : PDef} {k : Nat} (h : sget s.params.staged (paramKey d.id k) = none) :
    s.paramPayload d k = (4 + d.bytes, packBits [(0, 8, classCode d.cls), (16, 16, d.width), (32, 8 * d.bytes, s.readValue d k)]) := by
  simp only [State.paramPayload, h]

theorem State.paramPayload_staged {d : PDef} {k w : Nat} (h : sget s.params.staged (paramKey d.id k) = some w) :
    s.paramPayload d k = (4 + 2 * d.bytes, packBits [(0, 8, classCode d.cls), (8, 8, 1), (16, 16, d.width),
      (32, 8 * d.bytes, s.readValue d k), (32 + 8 * d.bytes, 8 * d.bytes, w)]) := by
  simp only [State.paramPayload, h]

/-- No array of parameters reaches index FFh. -/
theorem PKind.count_le_255 (x : PKind) : x.count ≤ 255 := by
  cases x <;> decide

/-- Settles O59: the payload with and without a staged value, the range of instances, and the value by the parameter's access. -/
theorem paramReadReturns : Obligations.ParamReadReturns := by
  intro s f id k d htakes hd
  have outOfRange : d.kind.count ≤ k → exec (.paramRead f id k) s = .next (s.acceptFrame.naileFail f 0 nfField 0) :=
    fun hk => State.next_request htakes _ (State.runParamRead_outOfRange hd hk)
  refine ⟨?inForce, ?staged, outOfRange, ?everyInstance, ?plain, ?action, ?mirror⟩
  case inForce =>
    intro hk hnone
    refine State.next_request htakes _ ((State.runParamRead_there hd hk).trans ?_)
    rw [State.paramPayload_plain hnone]
  case staged =>
    intro w hk hsome
    refine State.next_request htakes _ ((State.runParamRead_there hd hk).trans ?_)
    rw [State.paramPayload_staged hsome]
  case everyInstance => exact fun hk => outOfRange (hk ▸ d.kind.count_le_255)
  case plain => exact fun ha => by simp only [State.readValue, ha]
  case action => exact fun ha => by simp only [State.readValue, ha]
  case mirror => exact fun ha => by simp only [State.readValue, ha]

/-- The lease windows are the only ones with instances. -/
theorem State.window_instance {id k : Nat} (hid : id ≠ 0x0AF0) (hk : 1 ≤ k) : s.window id k = none := by
  have : k ≠ 0 := by omega
  simp [State.window, hid, this]

theorem State.window_lease_outOfRange {k : Nat} (hk : 2 ≤ k) : s.window 0x0AF0 k = none := by
  have h0 : k ≠ 0 := by omega
  have h1 : k ≠ 1 := by omega
  simp [State.window, h0, h1]

theorem State.window_undefined {id : Nat} (k : Nat)
    (hid : id ∉ ([0x01F0, 0x03F0, 0x03F1, 0x04F0, 0x0AF0, 0x13F0, 0x14F0] : List Nat)) : s.window id k = none := by
  simp only [List.mem_cons, List.not_mem_nil, or_false, not_or] at hid
  obtain ⟨h1, h2, h3, h4, h5, h6, h7⟩ := hid
  simp [State.window, h1, h2, h3, h4, h5, h6, h7]

/-- Settles O60: a window that is there is read, one that is not fails. -/
theorem windowReadReturns : Obligations.WindowReadReturns := by
  intro s f htakes
  have there : ∀ {id k len v : Nat}, s.acceptFrame.window id k = some (len, v) →
      exec (.statusWindowRead f id k) s = .next (s.acceptFrame.naileOk f 0x01 len v) :=
    fun hw => State.next_request htakes _ (State.runWindowRead_there hw)
  have absent : ∀ {id k : Nat}, s.acceptFrame.window id k = none →
      exec (.statusWindowRead f id k) s = .next (s.acceptFrame.naileFail f 0 nfField 0) :=
    fun hw => State.next_request htakes _ (State.runWindowRead_absent hw)
  exact ⟨there rfl, there rfl, there rfl, there rfl, there rfl, there rfl, there rfl, there rfl,
    fun _ k hid => absent (State.window_undefined k hid), fun _ _ hk hid => absent (State.window_instance hid hk),
    fun _ hk => absent (State.window_lease_outOfRange hk)⟩

end

end Sys2Proof.Machine

/-! # The Tally (17 R472 to R479) -/

namespace Sys2Proof.Machine

section

variable {s : State}

theorem exec_tallyRecord_taken {x : TallyIn} (htaken : s.recordsTaken = true) (hsev : x.sev ≤ 6) :
    exec (.tallyRecord x) s = .next (s.submit x) :=
  congrArg _ (if_pos ⟨htaken, hsev⟩)

/-- What intake makes of an occurrence below FATAL that gets no TSEQ and is no duplicate is all that it leaves. -/
theorem State.submit_unnumbered {x : TallyIn} {y : TallyS} (hsev : x.sev ≠ sevFatal)
    (hnew : ∀ m l, x.mseq = some m → s.tally.lastMseq = some l → serialNewer (BitVec.ofNat 32 m) l = true)
    (hintake : s.tally.intake s.engineRuns (s.par P.TLY_PERSIST_MIN) (s.par P.TLY_RATE_PER_S) (s.par P.TLY_BURST) s.time.ns x = (0, y)) :
    s.submit x = { s with tally := y } := by
  unfold State.submit
  simp only [hintake, hsev, if_false]
  cases hm : x.mseq with
  | none => rfl
  | some m =>
    cases hl : s.tally.lastMseq with
    | none => simp
    | some l => simp [hnew m l hm hl]

/-- Settles O58: intake keeps a suppressed occurrence in its code's bucket and the count of suppressed ones alone. -/
theorem suppressedIsNoRecord : Obligations.SuppressedIsNoRecord := by
  intro s x htaken hsuppressed
  obtain ⟨hnew, hsev, hcode, htoken⟩ := hsuppressed
  have hexempt : (decide (sevCritical ≤ x.sev) || x.code / 256 == 0x13) = false := by
    simp [hcode, Nat.not_le.mpr hsev]
  have hintake := TallyS.intake_suppressed s.tally s.engineRuns (s.par P.TLY_PERSIST_MIN) _ _ _ x _ hnew hexempt rfl htoken
  refine ⟨_, exec_tallyRecord_taken htaken (by unfold sevCritical at hsev; omega), ?_⟩
  rw [State.submit_unnumbered (by unfold sevCritical at hsev; unfold sevFatal; omega) hnew hintake]
  and_intros <;> rfl

/-- Settles O46: the conditions of each clause are those of its row. -/
theorem tallyRowsDo : Obligations.TallyRowsDo := by
  refine ⟨?record, ?quiet, ?copy⟩
  case record => exact fun _ _ htaken hsev => exec_tallyRecord_taken htaken hsev
  case quiet =>
    intro s c b htaken hb hsup hdue
    have hquiet : (s.recordsTaken && s.quietDue b) = true := by simp [State.quietDue, htaken, hsup, hdue]
    show execTallyCodeQuiet c s = _
    simp only [execTallyCodeQuiet, hb, hquiet, if_true]
  case copy => exact fun _ hruns => congrArg _ (if_pos hruns)

end

end Sys2Proof.Machine

/-! # Reset and boot, clocks and power (12; 13) -/

namespace Sys2Proof.Machine

section

variable {s : State}

/-! ## RESET_N (12 R349; 09 Table 9-9) -/

theorem State.pulse_short {n : Nat} (hn : n < 100) : s.pulse (some n) = (false, s) := if_pos hn

theorem State.pulse_long {n : Nat} (hn : 1000 ≤ n) : s.pulse (some n) = (true, s) := by
  have hlong : ¬ n < 100 := by omega
  simp [State.pulse, hlong, hn]

/-- A pulse of 1 µs or longer on a pin that is high: the device is reset, or the reset waits for the dump that runs. -/
theorem exec_resetNAssert_long {n : Nat} (hn : 1000 ≤ n) (hpin : s.dev.pin = false) :
    exec (.resetNAssert (some n)) s = .next (if s.plp.dumping then
      { s with dev := { s.dev with
        deferredPin := true, wasDeferred := true, deferredAt := if s.dev.deferredPin then s.dev.deferredAt else s.now } }
      else s.takePin) := by
  show execResetNAssert (some n) s = _
  simp only [execResetNAssert, State.pulse_long hn, hpin, Bool.not_true, Bool.or_self, Bool.false_eq_true, if_false]

/-- Settles O43, edge by edge: each clause gives the levels that the `if`s of its row ask about. -/
theorem resetRowsDo : Obligations.ResetRowsDo := by
  refine ⟨fun _ => rfl, ?porHeld, ?porReleased, ?glitch, ?pin, ?deferred, ?deferredAgain, ?pinReleased, ?lock, ?started⟩
  case porHeld =>
    intro s k o hpor hpin
    show execPowerOnResetRelease k o s = _
    simp [execPowerOnResetRelease, hpor, hpin]
  case porReleased =>
    intro s k o hpor hpin
    show execPowerOnResetRelease k o s = _
    simp [execPowerOnResetRelease, hpor, hpin]
  case glitch =>
    intro s n hn
    show execResetNAssert (some n) s = _
    simp [execResetNAssert, State.pulse_short hn]
  case pin => exact fun s n hn hpin hidle => by rw [exec_resetNAssert_long hn hpin, if_neg (by simp [hidle])]
  case deferred => exact fun s n hn hpin hdump hfirst => by rw [exec_resetNAssert_long hn hpin, if_pos hdump, if_neg (by simp [hfirst])]
  case deferredAgain => exact fun s n hn hpin hdump hagain => by rw [exec_resetNAssert_long hn hpin, if_pos hdump, if_pos hagain]
  case pinReleased =>
    intro s k o hpin hpor
    show execResetNRelease k o s = _
    simp [execResetNRelease, hpor, hpin]
  case lock => exact fun _ _ hrom => congrArg _ (if_pos (beq_iff_eq.mpr hrom))
  case started => exact fun _ hup => congrArg _ (if_pos hup)

/-! ## Clocks and temperatures (13 R375 to R378, R391) -/

theorem exec_clkCtrlWrite_written {v : Dword} (hfw : s.fwRuns = true) (hlock : s.dev.clkCtrl.getLsbD 31 = true) :
    exec (.clkCtrlWrite v) s = .next { s with dev := { s.dev with clkCtrl := setField s.dev.clkCtrl 4 14 (getField v 4 14) } } :=
  congrArg _ (if_neg (by rw [hfw, hlock]; simp))

theorem exec_clkCtrlWrite_unlocked {v : Dword} (hlock : s.dev.clkCtrl.getLsbD 31 = false) (hsel : getField v 4 14 ≠ 0) :
    exec (.clkCtrlWrite v) s = .next s :=
  congrArg _ (if_pos (by rw [hlock]; simp [hsel]))

/-- The over-temperature stop: 108 degrees have stood for 1 ms. -/
theorem exec_temperatureSample_stop {c : Int} {n : Nat} (hfw : s.fwRuns = true) (hsince : s.pwr.hotSince = some n)
    (hstood : n + 1000000 ≤ s.now) (hhot : 108 ≤ c) :
    exec (.temperatureSample c) s = .next (State.controlledStop
      (State.recordHw { s with pwr := { s.pwr with temp := c, hotSince := some n } } srcAon sevFatal 0x0202 (tempWord c)) none) := by
  have hnot : ¬ c < 108 := by omega
  show execTemperatureSample c s = _
  simp [execTemperatureSample, hfw, hsince, hstood, hnot]

theorem exec_temperatureSample_sameLevel {c : Int} (hfw : s.fwRuns = true) (hcool : c < 108) (hlevel : s.thermalLevel c = s.pwr.thermal) :
    exec (.temperatureSample c) s = .next { s with pwr := { s.pwr with temp := c, hotSince := none } } := by
  show execTemperatureSample c s = _
  simp [execTemperatureSample, hfw, hcool, hlevel]

/-! ## The governor (13 R382; log entry 117) -/

theorem exec_governorTick_capped {mw cap : Nat} (hcap : powerCap s.pwr.ps = some cap) :
    exec (.governorTick mw) s = .next (State.feedCtxs { s with pwr := { s.pwr with gov := govStep cap mw s.pwr.gov } }) := by
  show execGovernorTick mw s = _
  simp only [execGovernorTick, hcap]

theorem exec_governorTick_uncapped {mw : Nat} (hcap : powerCap s.pwr.ps = none) :
    exec (.governorTick mw) s = .next (State.feedCtxs { s with pwr := { s.pwr with gov := 0 } }) := by
  show execGovernorTick mw s = _
  simp only [execGovernorTick, hcap]

/-! ## Power states (13 R380 to R390) -/

/-- A device that runs, awake and outside a patrol, chooses a power state. -/
theorem exec_powerStateEntry_chooses (hmgmt : s.mgmtLost = false) (hrun : s.dev.phase = .running) (hok : s.isFailed = false)
    (hhalt : s.dev.halted = false) (hps : s.pwr.ps ≠ 4) (hpatrol : s.pwr.patrol = false) :
    exec .powerStateEntry s = .next (if s.restLinks.chooseState < 3 then s.leaveIdle
      else if s.pwr.ps = 3 && s.restLinks.chooseState = 3 then s else s.restLinks.enter s.restLinks.chooseState) := by
  show execPowerStateEntry s = _
  simp only [execPowerStateEntry, hmgmt, hrun, hok, hhalt, hps, hpatrol, Bool.false_eq_true, if_false, bne_self_eq_false, Bool.or_self,
    decide_false]

/-- An entry into PS4 that goes on in a quiet device. -/
theorem State.enter_ps4 (hquiet : s.quiet = true) (hentering : s.pwr.entering = true) : s.enter 4 = s.enterPs4 := by
  simp [State.enter, hquiet, hentering]

theorem exec_smbusAddressMatch_asleep {a : BitVec 7} {w : WakeChecks} (hmatch : s.matches a = true) (hasleep : s.asleep = true) :
    exec (.smbusAddressMatch a w) s = .next { s.fullWake w with
      pwr := { (s.fullWake w).pwr with sclHeld := !wakeClean w, nackRest := false } } := by
  show execSmbusAddressMatch a w s = _
  simp [execSmbusAddressMatch, hmatch, hasleep]

theorem exec_powerStateEntry_patrolEnds (hmgmt : s.mgmtLost = false) (hpatrol : s.pwr.patrol = true) (hserving : s.serving = true)
    (hdone : s.pwr.entering = true ∨ s.patrolWork = false) : exec .powerStateEntry s = .next (s.enter 4) := by
  have hends : (s.pwr.entering || !s.patrolWork) = true := by simpa using hdone
  show execPowerStateEntry s = _
  simp [execPowerStateEntry, hmgmt, hpatrol, hserving, hends]

/-- Settles O44, row by row, by the lemmas above. -/
theorem powerRowsDo : Obligations.PowerRowsDo := by
  refine ⟨?write, ?unlocked, ?loss, ?lossIdle, ?stop, ?level, ?ps1, ?ps2, ?uncapped, ?calibration, ?leaves, ?enters, ?wake, ?other, ?scl,
    ?patrol, ?timeout, ?patrolEnds, ?lost, ?pads⟩
  case write => exact fun _ _ hfw hlock => exec_clkCtrlWrite_written hfw hlock
  case unlocked => exact fun _ _ hlock hsel => exec_clkCtrlWrite_unlocked hlock hsel
  case loss => exact fun _ hfw hlock => congrArg _ (if_pos (by simp [hfw, hlock]))
  case lossIdle => exact fun _ hfw => congrArg _ (if_neg (by simp [hfw]))
  case stop => exact fun _ _ _ hfw hsince hstood hhot => exec_temperatureSample_stop hfw hsince hstood hhot
  case level => exact fun _ _ hfw hcool hlevel => exec_temperatureSample_sameLevel hfw hcool hlevel
  case ps1 => exact fun _ _ hps => exec_governorTick_capped (by rw [hps]; rfl)
  case ps2 => exact fun _ _ hps => exec_governorTick_capped (by rw [hps]; rfl)
  case uncapped =>
    intro s mw hps
    refine exec_governorTick_uncapped ?_
    have h1 : s.pwr.ps ≠ 1 := by omega
    have h2 : s.pwr.ps ≠ 2 := by omega
    simp [powerCap, h1, h2]
  case calibration => exact fun _ hfw hsource hlock hdue => congrArg _ (if_pos (by simp [hfw, hsource, hlock, hdue]))
  case leaves =>
    intro s hmgmt hrun hok hhalt hps hpatrol hlow
    rw [exec_powerStateEntry_chooses hmgmt hrun hok hhalt hps hpatrol, if_pos hlow]
  case enters =>
    intro s hmgmt hrun hok hhalt hps hpatrol hfour hquiet hentering
    rw [exec_powerStateEntry_chooses hmgmt hrun hok hhalt hps hpatrol, hfour, if_neg (by decide), if_neg (by simp),
      State.enter_ps4 hquiet hentering]
  case wake => exact fun _ _ _ hmatch hasleep => exec_smbusAddressMatch_asleep hmatch hasleep
  case other => exact fun _ _ _ hmatch => congrArg _ (if_neg (by simp [hmatch]))
  case scl => exact fun _ hheld => congrArg _ (if_pos hheld)
  case patrol => exact fun _ _ hasleep hdue => congrArg _ (if_pos (by simp [hasleep, hdue]))
  case timeout => exact fun _ hmgmt hpatrol hserving hdue => congrArg _ (if_pos (by simp [hmgmt, hpatrol, hserving, hdue]))
  case patrolEnds => exact fun _ hmgmt hpatrol hserving hdone => exec_powerStateEntry_patrolEnds hmgmt hpatrol hserving hdone
  case lost => exact fun _ hmgmt => ⟨congrArg _ (if_pos hmgmt), congrArg _ (if_neg (by simp [hmgmt]))⟩
  case pads => exact fun _ _ hfw => congrArg _ (if_pos hfw)

end

end Sys2Proof.Machine

/-! # The rows of the Naile port, updates and commits (16 R442 to R466) -/

namespace Sys2Proof.Machine

section

variable {s : State} {f : Frame}

/-! ## Link commands (R442, R443, R450) -/

theorem exec_writeFrame_discarded {x : FrameFault} (hr : s.responder ≠ .none) (hx : x = .busy → s.naile.busy = true) :
    exec (.writeFrame x) s = .next { s with naile := { s.naile with err := true, errcode := faultCode x } } := by
  refine congrArg _ (if_neg ?_)
  rintro (hnone | ⟨hbusy, hidle⟩)
  · exact hr hnone
  · simp [hx hbusy] at hidle

/-! ## Requests that read (R448; 17 R481; 15 R439) -/

theorem State.runTallyRead_records {tier count start : Nat} {l : List TRec} (htier : tier ≤ 1) (hone : 1 ≤ count) (hmost : count ≤ 128)
    (hl : ((if tier = 0 then s.tally.ring else s.tally.tier).recs.filter (fromStart start)).take count = l) :
    s.runTallyRead f tier count start = s.naileOk f 0x20 (32 * l.length) (packRecs l) := by
  subst hl
  exact if_neg (by omega)

theorem State.runHealthRead_page {page : Nat} (hone : 1 ≤ page) (hlast : page ≤ 8) :
    s.runHealthRead f page = s.naileOk f 0x21 4096 (((s.mgmt.page 0 page).map (fun b => b.toNat)).getD 0) := by
  rw [State.runHealthRead, if_neg (by omega), if_neg (by omega)]

theorem State.runRawDiag_forbidden {p : Ploc} {o n : Nat} (hsession : s.rawAllowed = false) :
    s.runRawDiag f p o n = s.naileFail f 0 nfPermission 0 := by
  simp [State.runRawDiag, hsession]

/-- The fields of RAW_DIAG are in range: its look at the die is what is left. -/
theorem State.runRawDiag_fieldsOk {p : Ploc} {o n : Nat} (hsession : s.rawAllowed = true) (hp : plocValid p = true) (hone : 1 ≤ n)
    (hmost : n ≤ 4092) (hend : o + n ≤ s.flash.cwBytes (plocRb p)) :
    s.runRawDiag f p o n =
      if !(s.members (plocRb p)).contains (plocChan p) then s.rawOutcome f 3
      else if s.suspendedOn p (fun o => o.kind == .erase && o.block == plocBlock p) then s.rawOutcome f 1
      else if s.suspendedOn p (fun o => o.isProgram && o.inWordlines p) then s.rawOutcome f 2
      else s.addOp (readOp p [plocPlane p * 4 + plocSlot p] 5 (.raw f o n)) := by
  have hfields : ¬ (!plocValid p ∨ n = 0 ∨ 4092 < n ∨ s.flash.cwBytes (plocRb p) < o + n) := by
    simp only [hp, Bool.not_true, Bool.false_eq_true, false_or]
    omega
  rw [State.runRawDiag, if_neg (by simp [hsession]), if_neg hfields]

theorem State.runRecoveryStatus_booted (hphase : s.dev.phase ≠ .rom) : s.runRecoveryStatus f = s.naileOk f 0x60 64 s.recoveryWord := by
  rw [State.runRecoveryStatus, if_neg hphase]

theorem exec_unknownType_taken {typ : Byte} (hunknown : knownTypes.contains typ.toNat = false)
    (htakes : s.takes { f with rsvd := false } .recovery) :
    exec (.unknownType f typ) s = .next (s.acceptFrame.naileFail f 0 nfType 0) :=
  (congrArg _ (if_neg (Bool.eq_false_iff.mp hunknown))).trans (State.next_request htakes _ rfl)

/-! ## Requests for debug tokens (14 R412, R413) -/

theorem State.runChallenge_fresh (hfree : s.tokensLocked = false) :
    s.runChallenge f = State.naileOk { s.draw.2 with sec := { s.draw.2.sec with nonce := some (Config.drbg s.draw.1, s.now) } }
      f 0x30 32 (Config.drbg s.draw.1).toNat := by
  rw [State.runChallenge, if_neg (by simp [hfree])]

theorem State.runClose_closes (hfree : s.tokensLocked = false) : s.runClose f = (s.closeSession 1).naileOk f 0x30 0 0 := by
  rw [State.runClose, if_neg (by simp [hfree])]

theorem State.runOpen_session {x : DebugToken} (hgood : s.tokenRefusal x = none) (hlevel : x.level ≠ lvRmaAuth) :
    s.runOpen f x = (State.openSession { s with sec := { s.sec with nonce := none } } x).naileOk f 0x30 8
      (openedPayload x.level x.lifetimeS) := by
  simp only [State.runOpen, hgood, if_neg hlevel]

/-- A session closes whatever the cause. -/
@[simp] theorem State.closeSession_session (s : State) (cause : Nat) : (s.closeSession cause).sec.session = none := by
  unfold State.closeSession
  split
  · assumption
  · simp only [(fact @State.recordBy_keep)]

/-- The session that a token opens: its level, reach and lifetime, with nothing halted. -/
def Session.ofToken (x : DebugToken) (now : Nat) : Session :=
  { level := x.level, perm := x.perm, lifetimeS := x.lifetimeS, opened := now, haltedMgmt := false, haltedFtl := false }

/-- What opening a session leaves of the security unit: the session and its counters. -/
theorem State.openSession_sec (s : State) (x : DebugToken) : (s.openSession x).sec = { s.sec with
    session := some (Session.ofToken x s.now)
    sessionsSincePor := s.sec.sessionsSincePor + 1
    ctrSessions := if s.heartCounts then s.sec.ctrSessions + 1 else s.sec.ctrSessions } := by
  simp only [State.openSession, Session.ofToken, (fact @State.recordBy_keep)]

/-- Settles O38: the link commands ask for a responder alone, and each request is carried out on the state that took it. -/
theorem naileRowsDo : Obligations.NaileRowsDo := by
  refine ⟨?status, ?resp, ?alert, ?frame, ?tally, ?snapshot, ?page, ?lost, ?read, ?forbidden, ?recovery, ?unknown, ?token, ?opened⟩
  case status => exact fun _ hr => congrArg _ (if_neg hr)
  case resp => exact fun _ hr => congrArg _ (if_neg hr)
  case alert => exact fun _ hr => congrArg _ (if_neg hr)
  case frame => exact fun _ _ hr hx => exec_writeFrame_discarded hr hx
  case tally =>
    exact fun _ _ _ _ _ _ htakes htier hone hmost hl => State.next_request htakes _ (State.runTallyRead_records htier hone hmost hl)
  case snapshot => exact fun _ _ htakes => State.next_request htakes _ rfl
  case page => exact fun _ _ _ htakes hone hlast => State.next_request htakes _ (State.runHealthRead_page hone hlast)
  case lost =>
    intro s f p o n htakes hsession hp hone hmost hend habsent
    refine State.next_request htakes _ ((State.runRawDiag_fieldsOk hsession hp hone hmost hend).trans (if_pos ?_))
    rw [habsent]
    rfl
  case read =>
    intro s f p o n htakes hsession hp hone hmost hend hmember herase hprogram
    refine State.next_request htakes _ ((State.runRawDiag_fieldsOk hsession hp hone hmost hend).trans ?_)
    simp only [hmember, herase, hprogram, Bool.not_true, Bool.false_eq_true, if_false]
  case forbidden => exact fun _ _ _ _ _ htakes hsession => State.next_request htakes _ (State.runRawDiag_forbidden hsession)
  case recovery => exact fun _ _ htakes hphase => State.next_request htakes _ (State.runRecoveryStatus_booted hphase)
  case unknown => exact fun _ _ _ hunknown htakes => exec_unknownType_taken hunknown htakes
  case token =>
    intro s f htakes hfree
    refine ⟨⟨_, _, State.next_request htakes _ (State.runChallenge_fresh hfree), rfl, rfl⟩,
      ⟨_, State.next_request htakes _ (State.runClose_closes hfree), ?_, rfl⟩⟩
    exact State.closeSession_session _ _
  case opened =>
    intro s f x htakes hgood hlevel
    exact ⟨_, Session.ofToken x s.acceptFrame.now, State.next_request htakes _ (State.runOpen_session hgood hlevel),
      congrArg SecS.nonce (State.openSession_sec _ x), congrArg SecS.session (State.openSession_sec _ x), rfl, rfl, rfl, rfl⟩

end

end Sys2Proof.Machine

/-! # Updates and commits (16 R454 to R466) -/

namespace Sys2Proof.Machine

section

variable {s : State} {f : Frame}

/-! ## Updates (R456, R457) -/

theorem State.runImageBegin_refused {g n : Nat} (hfields : beginOk g n = false) : s.runImageBegin f g n = s.naileFail f 0 nfField 0 := by
  rw [State.runImageBegin, if_pos (by rw [hfields]; rfl)]

theorem State.runImageBegin_begins {g n : Nat} (hfields : beginOk g n = true) (hreceiving : s.nor.upd.state ≠ 1)
    (hactivating : s.nor.upd.state ≠ 3) : s.runImageBegin f g n = State.naileOk { s with
      nor := { (s.nor.steerAway (s.targetArea g)) with
        upd := { Update.none with state := 1, area := s.targetArea g, target := g, length := n, lastFrame := s.now } } }
      f 0x10 1 (s.targetArea g) := by
  rw [State.runImageBegin, if_neg (by rw [hfields]; decide), if_neg (not_or.mpr ⟨hreceiving, hactivating⟩)]

theorem State.runImageChunk_noUpdate {o n : Nat} {h : Option StreamHeader} {b : Bool} (hone : 1 ≤ n) (hmost : n ≤ 4092)
    (hidle : s.nor.upd.state ≠ 1) : s.runImageChunk f o n h b = s.naileFail f 0 nfSequence 0 := by
  rw [State.runImageChunk, if_neg (by omega), if_pos (.inl hidle)]

/-- A chunk that follows the last one and leaves the header incomplete goes to the buffers. -/
theorem State.runImageChunk_beforeHeader {n : Nat} {h : Option StreamHeader} (hone : 1 ≤ n) (hmost : n ≤ 4092)
    (hreceiving : s.nor.upd.state = 1) (hfits : s.nor.upd.received + n ≤ s.nor.upd.length) (hhead : s.nor.upd.received + n < 4096) :
    s.runImageChunk f s.nor.upd.received n h false = State.chunkIn { s with
      nor := NorS.beginWrite { s.nor with
        upd := { s.nor.upd with received := s.nor.upd.received + n, buffered := s.nor.upd.buffered + n } } } f := by
  have hheader : ¬ (s.nor.upd.received < 4096 ∧ 4096 ≤ s.nor.upd.received + n) := by omega
  rw [State.runImageChunk, if_neg (by omega), if_neg (by simp [hreceiving]), if_neg (by omega)]
  simp only [if_neg hheader, Bool.false_eq_true, false_and, if_false]

/-! ## Sectors and the end of an update (R453, R454, R457) -/

/-- A sector operation of an update that receives ends once a sector's bytes are buffered. -/
theorem exec_norSectorWritten_ends {ok : Bool} (hr : s.responder ≠ .none) (hreceiving : s.nor.upd.state = 1)
    (hfull : sectorBytes ≤ s.nor.upd.buffered) : exec (.norSectorWritten ok) s = .next (s.sectorEnds ok) := by
  show execNorSectorWritten ok s = _
  rw [execNorSectorWritten, if_neg hr, if_neg (not_not.mpr hreceiving), if_neg (Nat.not_lt.mpr hfull)]

theorem State.sectorEnds_written (hwrite : s.nor.mayWrite = true) (hchunk : s.naile.chunk = none) :
    s.sectorEnds true = { s with nor := s.nor.sectorDone } := by
  simp [State.sectorEnds, hwrite, hchunk]

theorem State.sectorEnds_protected {ok : Bool} (hwrite : s.nor.mayWrite = false) (hchunk : s.naile.chunk = none) :
    s.sectorEnds ok = s.norRefuse := by
  simp [State.sectorEnds, hwrite, hchunk]

theorem State.sectorEnds_firstFailure (hwrite : s.nor.mayWrite = true) (hfirst : s.nor.upd.retried = false) :
    s.sectorEnds false = { s with nor := { s.nor with upd := { s.nor.upd with retried := true } } } := by
  simp [State.sectorEnds, hwrite, hfirst]

theorem State.runImageEnd_completes (hreceiving : s.nor.upd.state = 1) (hheader : s.nor.upd.hdr.isNone = false)
    (hall : s.nor.upd.received = s.nor.upd.length) (hwrite : s.nor.mayWrite = true) (hfits : s.configFits s.nor.upd.hdr = true) :
    s.runImageEnd f false true = State.naileOk { s with
      nor := { (s.nor.setArea s.nor.upd.area s.nor.upd.hdr true) with
        unprotected := none
        upd := { Update.none with state := 2, area := s.nor.upd.area, target := s.nor.upd.target, hdr := s.nor.upd.hdr } } } f 0x12 0 0 := by
  rw [State.runImageEnd, if_neg (not_not.mpr hreceiving), if_neg (by rw [hheader]; decide), if_neg (by rw [hwrite]; decide)]
  simp only [hall, hfits, Bool.false_eq_true, false_and, if_false, ne_eq, not_true_eq_false, Bool.not_true, or_self]

/-! ## Commits (R458, R461, R462, R465) -/

theorem State.runCommitImage_noHeader {m t : Bool} (hidle : s.nor.activating = false) (hcomplete : s.nor.upd.state = 2)
    (harea : s.nor.upd.area ≤ 1) (hnone : (s.nor.slot s.nor.upd.area).hdr = none) :
    s.runCommitImage f m t = s.naileFail f 0 nfNoImage 0 := by
  rw [State.runCommitImage, if_neg (by rw [hidle]; decide), if_neg (by omega), hnone]

theorem State.runCommitImage_commits {m t : Bool} {h : ImageHeader} (hidle : s.nor.activating = false) (hcomplete : s.nor.upd.state = 2)
    (harea : s.nor.upd.area ≤ 1) (hsome : (s.nor.slot s.nor.upd.area).hdr = some h) (hcan : s.cannotActivate h m t = false) :
    s.runCommitImage f m t = State.activate (State.commitOk { s with nor := s.nor.writeSelector s.nor.upd.area s.nor.cfgSel } f
      ((s.nor.writeSelector s.nor.upd.area s.nor.cfgSel).cfgDef s.nor.upd.area s.nor.cfgSel)) h m t := by
  rw [State.runCommitImage, if_neg (by rw [hidle]; decide), if_neg (by omega), hsome]
  simp only [hcan, Bool.false_eq_true, if_false]

theorem State.runCommitConfiguration_commits (hidle : s.nor.activating = false) (hcomplete : s.nor.upd.state = 2)
    (hlow : 2 ≤ s.nor.upd.area) (hhigh : s.nor.upd.area ≤ 3) :
    s.runCommitConfiguration f false false = State.commitOk { s with
      nor := { (s.nor.writeSelector s.nor.bootSel (s.nor.upd.area - 2)) with upd := Update.none } } f
      (NorS.cfgDef { (s.nor.writeSelector s.nor.bootSel (s.nor.upd.area - 2)) with upd := Update.none } s.nor.bootSel (s.nor.upd.area - 2)) := by
  rw [State.runCommitConfiguration, if_neg (by decide), if_neg (by rw [hidle]; decide), if_neg (by omega)]

/-- The records of a release floor leave the NOR unit as it is, so CFGDEF is that of the floor just written. -/
theorem State.runRaiseFloor_raises (hidle : s.nor.activating = false) (hmgmt : s.mgmt.mgmtRel = s.mgmt.bootRel)
    (hgroves : s.mgmt.groveRel.toList.any (fun r => r != s.mgmt.bootRel) = false) :
    s.runRaiseFloor f = State.commitOk (State.record { s with
      nor := { s.nor with floor := BitVec.ofNat 32 s.mgmt.bootRel, floorBad := false } } sevNotice 0x1202 s.mgmt.bootRel) f
      (NorS.cfgDef { s.nor with floor := BitVec.ofNat 32 s.mgmt.bootRel, floorBad := false } s.nor.bootSel s.nor.cfgSel) := by
  rw [State.runRaiseFloor, if_neg (by rw [hidle]; decide), if_neg (by rw [hgroves]; simp [hmgmt])]

theorem State.runRestoreSpare_restores {h : ImageHeader} (hreceiving : s.nor.upd.state ≠ 1) (hactivating : s.nor.upd.state ≠ 3)
    (hsome : s.nor.spare.hdr = some h) (hcomplete : s.nor.spare.complete = true)
    (hcheck : s.checkImageHeader h (4096 + h.mgmtLen + h.ftlLen + h.unitLen) = none) (hdigest : s.nor.spare.digest = h.digest) {x : NorS}
    (hx : x = { ((s.nor.steerAway (s.targetArea 0)).setArea (s.targetArea 0) (some (.image h)) true) with
      upd := { Update.none with state := 2, area := s.targetArea 0, hdr := some (.image h) } }) :
    s.runRestoreSpare f false = State.commitOk { s with nor := x } f (x.cfgDef x.bootSel x.cfgSel) := by
  subst hx
  rw [State.runRestoreSpare, if_neg (not_or.mpr ⟨hreceiving, hactivating⟩), hsome]
  simp only [hcomplete, hcheck, hdigest, Bool.not_true, Bool.false_eq_true, ne_eq, not_true_eq_false, if_false]

/-- Settles O45: each row of updates and commits reaches the branch that its clause's conditions name. -/
theorem updateRowsDo : Obligations.UpdateRowsDo := by
  refine ⟨?begins, ?refused, ?chunk, ?noUpdate, ?written, ?sealed, ?failed, ?completes, ?silent, ?noHeader, ?commits, ?config, ?floor,
    ?spare⟩
  case begins =>
    exact fun _ _ _ _ htakes hfields hreceiving hactivating =>
      State.next_request htakes _ (State.runImageBegin_begins hfields hreceiving hactivating)
  case refused => exact fun _ _ _ _ htakes hfields => State.next_request htakes _ (State.runImageBegin_refused hfields)
  case chunk =>
    rintro s f _ n h _ htakes hone hmost rfl hreceiving rfl hfits hhead
    exact State.next_request htakes _ (State.runImageChunk_beforeHeader hone hmost hreceiving hfits hhead)
  case noUpdate =>
    exact fun _ _ _ _ _ _ htakes hone hmost hidle => State.next_request htakes _ (State.runImageChunk_noUpdate hone hmost hidle)
  case written =>
    intro s hr hreceiving hfull hwrite hchunk
    rw [exec_norSectorWritten_ends hr hreceiving hfull, State.sectorEnds_written hwrite hchunk]
  case sealed =>
    intro s ok hr hreceiving hfull hwrite hchunk
    rw [exec_norSectorWritten_ends hr hreceiving hfull, State.sectorEnds_protected hwrite hchunk]
  case failed =>
    intro s hr hreceiving hfull hwrite hfirst
    rw [exec_norSectorWritten_ends hr hreceiving hfull, State.sectorEnds_firstFailure hwrite hfirst]
  case completes =>
    rintro s f _ htakes rfl hreceiving hheader hall hwrite hfits
    exact State.next_request htakes _ (State.runImageEnd_completes hreceiving hheader hall hwrite hfits)
  case silent => exact fun _ hreceiving hdue => congrArg _ (if_pos ⟨hreceiving, hdue⟩)
  case noHeader =>
    exact fun _ _ _ _ htakes hidle hcomplete harea hnone =>
      State.next_request htakes _ (State.runCommitImage_noHeader hidle hcomplete harea hnone)
  case commits =>
    rintro s f m t h _ htakes hidle hcomplete rfl harea hsome hcan
    exact State.next_request htakes _ (State.runCommitImage_commits hidle hcomplete harea hsome hcan)
  case config =>
    rintro s f _ htakes hidle hcomplete rfl hlow hhigh
    exact State.next_request htakes _ (State.runCommitConfiguration_commits hidle hcomplete hlow hhigh)
  case floor =>
    exact fun _ _ htakes hidle hmgmt hgroves => State.next_request htakes _ (State.runRaiseFloor_raises hidle hmgmt hgroves)
  case spare =>
    rintro s f h _ x htakes hreceiving hactivating hsome hcomplete hcheck hdigest rfl hx
    exact State.next_request htakes _ (State.runRestoreSpare_restores hreceiving hactivating hsome hcomplete hcheck hdigest hx)

end

end Sys2Proof.Machine

/-! # The TAP, debug tokens and the management complexes (14 R411 to R417; 15 R423 to R438) -/

namespace Sys2Proof.Machine

section

variable {s : State}

/-! ## The TAP (14 R411, Table 14-10) -/

theorem State.tap_on (hon : s.tapOn = true) (ir : Byte) (out : Dword) :
    s.tap ir out = { s with sec := { s.sec with tapIr := ir, tapOut := out } } := if_pos hon

/-- An instruction of the boundary scan is BYPASS where it is not permitted. -/
theorem exec_boundary_forbidden (hno : s.boundaryOk = false) :
    exec .extest s = .next s.tapBypass ∧ exec .clamp s = .next s.tapBypass ∧ exec .highz s = .next s.tapBypass := by
  have no : ¬ s.boundaryOk = true := Bool.eq_false_iff.mp hno
  exact ⟨congrArg _ (if_neg no), congrArg _ (if_neg no), congrArg _ (if_neg no)⟩

/-- PROVISION burns the PROVISIONED triple alone (log entry 64). -/
theorem exec_provision_blank (hon : s.tapOn = true) (hknown : s.lcKnown = true) (hblank : s.fuses.lc = 0) :
    exec .provision s = .next { s with
      fuses := { s.fuses with provisioned := 3 }
      sec := { s.sec with tapIr := 0x30, tapOut := 0 } } := by
  have hmay : (s.tapOn && s.lcKnown && s.fuses.lc == 0) = true := by simp [hon, hknown, hblank]
  exact (congrArg _ (if_pos hmay)).trans (congrArg _ (if_pos hon))

theorem exec_provision_notBlank (hlc : s.fuses.lc ≠ 0) : exec .provision s = .next s.tapBypass :=
  congrArg _ (if_neg (by simp [hlc]))

/-! ## The DAP (14 R411, R416) -/

/-- A DAP access of an open session, on a TAP that works and with its fuses sensed, is judged by the session's reach. -/
theorem exec_dap_open {x : Session} (hx : s.sec.session = some x) (hon : s.tapOn = true) (hfuse : s.dev.fuseFail = false) (r : DapReach) :
    exec (.dap r) s = .next (if s.reaches x r then s.dapRun r else s.tap 0x20 0) := by
  show execDap r s = _
  simp only [execDap, hx, hon, hfuse, Bool.not_true, Bool.or_self, Bool.false_eq_true, if_false]

theorem exec_dap_closed (hclosed : s.sec.session = none ∨ s.dev.fuseFail = true) (r : DapReach) : exec (.dap r) s = .next s.tapBypass := by
  show execDap r s = _
  cases hx : s.sec.session with
  | none => simp only [execDap, hx]
  | some x =>
    have hfuse : s.dev.fuseFail = true := hclosed.resolve_left (by simp [hx])
    simp only [execDap, hx, hfuse, Bool.or_true, if_true]

/-- Halting the management complex marks the session. -/
theorem State.dapRun_haltMgmt {x : Session} (hx : s.sec.session = some x) (hon : s.tapOn = true) :
    s.dapRun .haltMgmt = { s with sec := { s.sec with session := some { x with haltedMgmt := true }, tapIr := 0x20, tapOut := 0 } } := by
  have hhalt : s.sec.session.map (fun y => { y with haltedMgmt := true }) = some { x with haltedMgmt := true } := by rw [hx]; rfl
  rw [State.dapRun, State.setHalt, hhalt]
  exact if_pos hon

/-- Settles O47: each instruction's own condition decides between its register and BYPASS. -/
theorem tapRowsDo : Obligations.TapRowsDo := by
  refine ⟨?always, ?boundary, fun _ hno => exec_boundary_forbidden hno, fun _ hon hknown hblank => exec_provision_blank hon hknown hblank,
    fun _ hlc => exec_provision_notBlank hlc, ?halt, ?reach, fun _ r hx => exec_dap_closed (.inl hx) r⟩
  case always =>
    intro s hon
    refine ⟨congrArg _ (if_pos hon), congrArg _ (if_pos hon), rfl, ?_⟩
    exact (congrArg _ (if_neg (by decide))).trans (congrArg _ (if_pos hon))
  case boundary =>
    intro s hon hok
    exact ⟨congrArg _ (if_pos hok), (congrArg _ (if_pos hok)).trans (congrArg _ (if_pos hon)),
      (congrArg _ (if_pos hok)).trans (congrArg _ (if_pos hon))⟩
  case halt =>
    intro s x hx hon hfuse hreach
    rw [exec_dap_open hx hon hfuse, if_pos hreach, State.dapRun_haltMgmt hx hon]
  case reach =>
    intro s r x hx hon hfuse hreach
    rw [exec_dap_open hx hon hfuse, if_pos hreach]

/-! ## Debug tokens and sessions (14 R412 to R417) -/

section

variable {f : Frame} {t : DebugToken}

theorem State.runChallenge_locked (hlocked : s.tokensLocked = true) : s.runChallenge f = s.refuseToken f 6 := if_pos hlocked

theorem State.runClose_locked (hlocked : s.tokensLocked = true) : s.runClose f = s.refuseToken f 6 := if_pos hlocked

theorem State.runOpen_rma (hgood : s.tokenRefusal t = none) (hlevel : t.level = lvRmaAuth) :
    s.runOpen f t = (State.beginRma { s with sec := { s.sec with nonce := none } }).naileOk f 0x30 8
      (openedPayload t.level t.lifetimeS) := by
  simp only [State.runOpen, hgood, if_pos hlevel]

theorem State.runOpen_refused {c : Nat} (hbad : s.tokenRefusal t = some c) :
    s.runOpen f t = State.refuseToken { s with sec := { s.sec with nonce := none } } f c := by
  simp only [State.runOpen, hbad]

end

theorem exec_sessionLifetimeExpiry_over {x : Session} (hx : s.sec.session = some x)
    (hover : x.opened + x.lifetimeS * 1000000000 ≤ s.now) :
    exec .sessionLifetimeExpiry s = .next (s.closeSession 2).resumeWaiting := by
  show execSessionLifetimeExpiry s = _
  simp only [execSessionLifetimeExpiry, hx, if_pos hover]

theorem exec_sessionLifetimeExpiry_running (hrunning : ∀ x, s.sec.session = some x → s.now < x.opened + x.lifetimeS * 1000000000) :
    exec .sessionLifetimeExpiry s = .next s := by
  show execSessionLifetimeExpiry s = _
  cases hx : s.sec.session with
  | none => simp only [execSessionLifetimeExpiry, hx]
  | some x => simp only [execSessionLifetimeExpiry, hx, if_neg (Nat.not_le.mpr (hrunning x hx))]

theorem exec_nonceExpiry_over {n : BitVec 256} {a : Nat} (hn : s.sec.nonce = some (n, a)) (hover : a + 60000000000 ≤ s.now) :
    exec .nonceExpiry s = .next { s with sec := { s.sec with nonce := none } } := by
  show execNonceExpiry s = _
  simp only [execNonceExpiry, hn, if_pos hover]

theorem exec_nonceExpiry_valid (hvalid : ∀ n a, s.sec.nonce = some (n, a) → s.now < a + 60000000000) : exec .nonceExpiry s = .next s := by
  show execNonceExpiry s = _
  cases hn : s.sec.nonce with
  | none => simp only [execNonceExpiry, hn]
  | some x =>
    obtain ⟨n, a⟩ := x
    simp only [execNonceExpiry, hn, if_neg (Nat.not_le.mpr (hvalid n a hn))]

/-- Settles O48: requests are carried out on the state that took them, and what expires or is reached into is as its own condition says. -/
theorem tokenRowsDo : Obligations.TokenRowsDo := by
  refine ⟨?challenge, ?challengeLocked, ?opens, ?rma, ?refused, ?closes, ?closeLocked,
    fun _ _ hx hover => exec_sessionLifetimeExpiry_over hx hover, fun _ hrunning => exec_sessionLifetimeExpiry_running hrunning,
    fun _ _ _ hn hover => exec_nonceExpiry_over hn hover, fun _ hvalid => exec_nonceExpiry_valid hvalid,
    ?reach, ?beyond, fun _ r hclosed => exec_dap_closed hclosed r⟩
  case challenge => exact fun _ _ htakes hfree => State.next_request htakes _ (State.runChallenge_fresh hfree)
  case challengeLocked => exact fun _ _ htakes hlocked => State.next_request htakes _ (State.runChallenge_locked hlocked)
  case opens => exact fun _ _ _ htakes hgood hlevel => State.next_request htakes _ (State.runOpen_session hgood hlevel)
  case rma => exact fun _ _ _ htakes hgood hlevel => State.next_request htakes _ (State.runOpen_rma hgood hlevel)
  case refused => exact fun _ _ _ _ htakes hbad => State.next_request htakes _ (State.runOpen_refused hbad)
  case closes => exact fun _ _ htakes hfree => State.next_request htakes _ (State.runClose_closes hfree)
  case closeLocked => exact fun _ _ htakes hlocked => State.next_request htakes _ (State.runClose_locked hlocked)
  case reach =>
    intro s r x hx hon hfuse hreach
    rw [exec_dap_open hx hon hfuse, if_pos hreach]
  case beyond =>
    intro s r x hx hon hfuse hreach
    rw [exec_dap_open hx hon hfuse, if_neg (Bool.eq_false_iff.mp hreach), State.tap_on hon]

/-! ## Management complexes (15 R423 to R435) -/

theorem exec_takeover_done {h : Handover} (hh : s.mgmt.handover = some h) (hruns : s.handoverRuns = true) :
    exec .takeover s = .next (s.handoverDone h).resumeWaiting := by
  show execTakeover s = _
  simp only [execTakeover, hh, hruns, if_true]

theorem exec_handoverTimeout_fails {h : Handover} {r : Nat} (hh : s.mgmt.handover = some h) (hruns : s.handoverRuns = true)
    (hlow : 1 ≤ r) (hhigh : r ≤ 3) (hdue : r = 3 → h.since + 60000000 ≤ s.now) :
    exec (.handoverTimeout r) s = .next (s.handoverFails h r).resumeWaiting := by
  have hmay : (s.handoverRuns && decide (1 ≤ r ∧ r ≤ 3) && (r != 3 || decide (h.since + 60000000 ≤ s.now))) = true := by
    simp only [hruns, hlow, hhigh, and_self, decide_true, Bool.and_self, Bool.true_and, Bool.or_eq_true, bne_iff_ne, decide_eq_true_eq]
    by_cases h3 : r = 3
    · exact .inr (hdue h3)
    · exact .inl h3
  show execHandoverTimeout r s = _
  simp only [execHandoverTimeout, hh, hmay, if_true]

/-- A standby self-test that is due is recorded with what it found. -/
theorem exec_standbySelfTest_due {b : BitVec 4} (hlapse : s.mayLapse = true) (hhalt : s.mgmtHalted = false)
    (hnone : s.mgmt.handover = none) (hdue : s.standbyDue = true) :
    exec (.standbySelfTest b) s = .next (State.record { s with
      mgmt := { s.mgmt with stby := if decide (b = 0) then 1 else 2, stbyFail := b.toNat, stbyTime := s.now } }
      (if decide (b = 0) then sevInfo else sevError) 0x1102 b.toNat) :=
  congrArg _ (if_pos (by simp [hlapse, hhalt, hnone, hdue]))

/-! ## Rollouts (15 R436 to R438) -/

/-- The next grove of a rollout goes down once its gap has passed. -/
theorem exec_groveRestart_due {g : Grove} {r : Rollout} (hr : s.mgmt.rollout = some r) (hmedia : s.mediaRuns = true)
    (hruns : s.mgmt.runs = true) (hnone : s.mgmt.handover = none) (hidle : s.restartRuns = false)
    (hgap : r.since + s.par P.MGT_GROVE_GAP_MS * 1000000 ≤ s.now) (hnext : s.mgmt.nextGrove r = some g.val)
    (hmap : s.dev.mapDone.getLsbD g.val = true) : exec (.groveRestart g) s = .next (s.groveDown g) := by
  show execGroveRestart g s = _
  simp only [execGroveRestart, hr, hmedia, hruns, hnone, hidle, hgap, hnext, hmap, Option.isNone_none, decide_true, Bool.or_true, Bool.not_false,
    Bool.and_self, beq_self_eq_true, if_true]

/-- A grove that has not come back within 40 ms goes by the rollout that it is part of. -/
theorem exec_groveRestartTimeout_late {g : Grove} (hboots : s.groveBoots g = true) (hlate : (s.map.grove g).downAt + 40000000 ≤ s.now) :
    exec (.groveRestartTimeout g) s = .next (match s.mgmt.rollout with
      | none => s.groveRebuilds g (vget s.mgmt.groveRel g.val 0)
      | some r =>
        if r.back then (s.groveRebuilds g r.previous).rolloutGoOn g.val
        else { s.rolloutStops g.val r with
          mgmt := { (s.rolloutStops g.val r).mgmt with
            groveRetry := (s.rolloutStops g.val r).mgmt.groveRetry ||| groveBit g.val }
          map := (s.rolloutStops g.val r).map.modGrove g (fun m => { m with downAt := s.now }) }) :=
  congrArg _ (if_pos (by simp [hboots, hlate]))

/-- Nothing halts the management complex without a session. -/
theorem State.mgmtHalted_of_noSession (hx : s.sec.session = none) : s.mgmtHalted = false := by
  simp only [State.mgmtHalted, hx]

/-- Settles O49, row by row, by the lemmas above. -/
theorem mgmtRowsDo : Obligations.MgmtRowsDo := by
  refine ⟨?checkpoint, ?watchdog, ?fault, fun _ _ hh hruns => exec_takeover_done hh hruns,
    fun _ _ _ hh hruns hlow hhigh hdue => exec_handoverTimeout_fails hh hruns hlow hhigh hdue, ?passes, ?fails, ?down, ?back,
    ?noRollout, ?wasBack, ?stops, ?session, ?nonce⟩
  case checkpoint => exact fun _ hserves hhalt hdue => congrArg _ (if_pos (by simp [hserves, hhalt, hdue]))
  case watchdog => exact fun _ hlapse hhalt => congrArg _ (if_pos (by simp [hlapse, hhalt]))
  case fault => exact fun _ _ hlapse => congrArg _ (if_pos hlapse)
  case passes => exact fun _ hlapse hhalt hnone hdue => exec_standbySelfTest_due hlapse hhalt hnone hdue
  case fails =>
    intro s b hlapse hhalt hnone hdue hb
    rw [exec_standbySelfTest_due hlapse hhalt hnone hdue, decide_eq_false hb]
    rfl
  case down => exact fun _ _ _ hr hmedia hruns hnone hidle hgap hnext hmap => exec_groveRestart_due hr hmedia hruns hnone hidle hgap hnext hmap
  case back => exact fun _ _ hboots => congrArg _ (if_pos hboots)
  case noRollout =>
    intro s g hboots hlate hnone
    rw [exec_groveRestartTimeout_late hboots hlate, hnone]
  case wasBack =>
    intro s g r hboots hlate hr hback
    simp only [exec_groveRestartTimeout_late hboots hlate, hr, hback, if_true]
  case stops =>
    rintro s _ g r hboots hlate hr hforward rfl
    simp only [exec_groveRestartTimeout_late hboots hlate, hr, hforward, Bool.false_eq_true, if_false]
  case session =>
    intro s x hx hover
    have hclosed : (s.closeSession 2).sec.session = none := State.closeSession_session s 2
    exact ⟨_, s.closeSession 2, exec_sessionLifetimeExpiry_over hx hover, rfl, hclosed, State.mgmtHalted_of_noSession hclosed⟩
  case nonce => exact fun _ _ _ hn hover => ⟨_, exec_nonceExpiry_over hn hover, rfl, rfl⟩

end

end Sys2Proof.Machine

/-! # The lifecycle and the fuses (14 R395 to R397, R404, R405) -/

namespace Sys2Proof.Machine

/-!
Both rules over the lifecycle read two things of State, the fuses and the target of the intent record. `LifeMove` lists what may happen to the two at once;
`exec_lifeMove` says that nothing else does, command by command, and each rule follows from it by the cases of `LifeMove`.
-/

/-- What the rules over the lifecycle read: the fuses, and the target of the intent record. -/
def State.life (s : State) : FuseS × Nat := (s.fuses, s.sec.target)

/-- What may happen to the fuses and to the target of the intent record. -/
inductive LifeMove : FuseS × Nat → FuseS × Nat → Prop where
  | none (f : FuseS) (x : Nat) : LifeMove (f, x) (f, x)
  | svnRaised (f : FuseS) (x n : Nat) (h : f.svn ≤ n) : LifeMove (f, x) ({ f with svn := n }, x)
  | provisioned (f : FuseS) (x : Nat) (h : f.lc = 0) : LifeMove (f, x) ({ f with provisioned := 3 }, x)
  | sealed (f : FuseS) (x : Nat) (c d : BitVec 384) (h : f.lc = 1 ∨ x = 2) :
    LifeMove (f, x) ({ f with cfgDigest := f.cfgDigest ||| c, dbgDigest := f.dbgDigest ||| d, sealedF := 3 }, 0)
  | rmaBegun (f : FuseS) (x : Nat) (h : f.lc = 2) : LifeMove (f, x) (f, 3)
  | rmaDone (f : FuseS) (x : Nat) (h : f.lc = 2 ∨ x = 3) : LifeMove (f, x) ({ f with rma := 3 }, 0)

theorem LifeMove.of_eq {a b : FuseS × Nat} (h : b = a) : LifeMove a b := h ▸ .none a.1 a.2

section

variable {s t : State} {f : Frame}

/-! ## The seal and RMA (R396, R397) -/

theorem State.burnSeal_life : s.burnSeal.life = ({ s.fuses with
    cfgDigest := s.fuses.cfgDigest ||| s.params.imgKeyDigest
    dbgDigest := s.fuses.dbgDigest ||| BitVec.ofNat 384 (s.par P.SEC_DEBUG_KEY_DIGEST)
    sealedF := 3 }, 0) := rfl

theorem State.rmaFinish_life : s.rmaFinish.life = ({ s.fuses with rma := 3 }, 0) := by
  simp only [State.life, State.rmaFinish, (fact @State.record_keep), (fact @State.newLeaseKey_keep)]

/-- RMA goes on only where its intent is written. -/
theorem State.rmaGoOn_life : s.rmaGoOn.life = s.life ∨ s.sec.target = 3 ∧ s.rmaGoOn.life = ({ s.fuses with rma := 3 }, 0) := by
  unfold State.rmaGoOn
  split
  · next h =>
    simp only [Bool.and_eq_true, decide_eq_true_eq] at h
    obtain ⟨⟨htarget, -⟩, -⟩ := h
    exact .inr ⟨htarget, State.rmaFinish_life⟩
  · exact .inl rfl

theorem State.rmaGoOn_moves : LifeMove s.life s.rmaGoOn.life := by
  rcases State.rmaGoOn_life (s := s) with h | ⟨htarget, h⟩
  · exact .of_eq h
  · rw [h]
    exact .rmaDone _ _ (.inr htarget)

/-- RMA begins in SEALED, and goes on at once where no stand is left. -/
theorem State.beginRma_moves (hlc : s.fuses.lc = 2) : LifeMove s.life s.beginRma.life := by
  have hrun : ∀ u : State, u.life = (s.fuses, 3) → LifeMove s.life u.rmaGoOn.life := by
    intro u hu
    rcases State.rmaGoOn_life (s := u) with h | ⟨-, h⟩
    · rw [h, hu]
      exact .rmaBegun _ _ hlc
    · rw [h, show u.fuses = s.fuses from congrArg Prod.fst hu]
      exact .rmaDone _ _ (.inl hlc)
  unfold State.beginRma
  refine hrun _ ?_
  simp only [State.life, (fact @State.closeSession_keep), (fact @State.record_keep)]

theorem State.resumeIntent_moves : LifeMove s.life s.resumeIntent.life := by
  unfold State.resumeIntent
  split
  · next htarget =>
    rw [State.burnSeal_life]
    exact .sealed _ _ _ _ (.inr htarget)
  split
  · exact State.rmaGoOn_moves (s := { s with nvm := s.nvm.deleteAll })
  · exact .none _ _

/-! ## Debug tokens (R412, R416) -/

/-- RMA_AUTH is permitted in SEALED alone (Table 14-14). -/
theorem lc_of_permMask_rma {lc : Nat} (h : (permMask lc lvRmaAuth).isSome = true) : lc = 2 := by
  by_contra hlc
  simp [permMask, hlc] at h

theorem State.lc_of_rma_accepted {x : DebugToken} (hgood : s.tokenRefusal x = none) (hlevel : x.level = lvRmaAuth) : s.fuses.lc = 2 := by
  have hbarred : tokenBarred s.fuses.lc x = false := by
    by_contra hb
    simp only [Bool.not_eq_false] at hb
    unfold State.tokenRefusal at hgood
    repeat' split at hgood
    all_goals simp_all
  refine lc_of_permMask_rma ?_
  rw [tokenBarred, hlevel] at hbarred
  split at hbarred
  · cases hbarred
  · next h => rw [h]; rfl

theorem State.runOpen_moves {x : DebugToken} : LifeMove s.life (s.runOpen f x).life := by
  unfold State.runOpen
  split
  · exact .of_eq (by simp only [State.life, (fact @State.refuseToken_keep)])
  · next hgood =>
    split
    · next hlevel =>
      have hlc : s.fuses.lc = 2 := State.lc_of_rma_accepted hgood hlevel
      exact State.beginRma_moves (s := { s with sec := { s.sec with nonce := none } }) hlc
    · exact .of_eq (by simp only [State.life, (fact @State.naileOk_keep), (fact @State.openSession_keep)])

/-! ## Action parameters (18 R498) -/

/-- An action that is not refused makes a move of the lifecycle, and what it records of a refusal makes none. -/
def Action.MovesLife (a : Action) : Prop :=
  (∀ u : State, a.refuse u = false → LifeMove u.life (a.act u.acceptRecord).life) ∧ ∀ u : State, (a.noted u).life = u.life

theorem State.acceptRecord_life : s.acceptRecord.life = s.life := by
  simp only [State.life, (fact @State.acceptRecord_keep)]

/-- The journal leaves the running security version alone. -/
theorem State.acceptRecord_mgmtSvn : s.acceptRecord.mgmt.mgmtSvn = s.mgmt.mgmtSvn := by
  unfold State.acceptRecord State.journal MgmtS.bump
  dsimp only
  split <;> rfl

/-- Actions other than the seal and the version commit leave the lifecycle alone. -/
theorem Action.movesLife_of_keeps {a : Action} (hact : ∀ u : State, (a.act u).life = u.life) (hnoted : ∀ u : State, (a.noted u).life = u.life) :
    a.MovesLife :=
  ⟨fun _ _ => .of_eq ((hact _).trans State.acceptRecord_life), hnoted⟩

theorem actRekey_movesLife : actRekey.MovesLife :=
  Action.movesLife_of_keeps (fun _ => by simp only [actRekey, State.life, (fact @State.newLeaseKey_keep)]) fun _ => rfl

theorem actTest_movesLife {huLow : Bool} : (actTest huLow).MovesLife :=
  Action.movesLife_of_keeps (fun _ => by simp only [actTest, State.life, (fact @State.startTest_keep)]) fun _ => rfl

theorem actTestNow_movesLife : actTestNow.MovesLife :=
  Action.movesLife_of_keeps (fun _ => by simp only [actTestNow, State.life, (fact @State.startTest_keep)]) fun _ => rfl

theorem actRelease_movesLife {v : Nat} : (actRelease v).MovesLife :=
  Action.movesLife_of_keeps (fun _ => by simp only [actRelease, State.life, (fact @State.releaseWrites_keep)]) fun _ => rfl

theorem actDegraded_movesLife {v : Nat} : (actDegraded v).MovesLife := Action.movesLife_of_keeps (fun _ => rfl) fun _ => rfl

theorem actRetrain_movesLife {v : Nat} : (actRetrain v).MovesLife := Action.movesLife_of_keeps (fun _ => rfl) fun _ => rfl

theorem actHandover_movesLife : actHandover.MovesLife :=
  Action.movesLife_of_keeps (fun _ => by simp only [actHandover, State.life, (fact @State.askHandover_keep)]) fun _ => rfl

/-- A seal that is not refused is one of PROVISIONED. -/
theorem actSeal_movesLife : actSeal.MovesLife := by
  refine ⟨fun u hallowed => ?_, fun u => by simp only [actSeal, State.life, (fact @State.noteConflict_keep)]⟩
  have hlc : u.fuses.lc = 1 := by
    simp only [actSeal, State.mayseal, Bool.not_eq_false', Bool.and_eq_true, beq_iff_eq] at hallowed
    exact hallowed.1.1.1.1.1.1
  rw [← State.acceptRecord_life]
  refine .sealed _ _ _ _ (.inl ?_)
  simpa only [(fact @State.acceptRecord_keep)] using hlc

/-- A version commit that is not refused raises the version. -/
theorem actSvn_movesLife : actSvn.MovesLife := by
  refine ⟨fun u hallowed => ?_, fun _ => rfl⟩
  have hlow : u.fuses.svn ≤ u.mgmt.mgmtSvn := by
    simp only [actSvn, Bool.not_eq_false', decide_eq_true_eq] at hallowed
    omega
  have hact : (actSvn.act u.acceptRecord).life = ({ u.fuses with svn := u.mgmt.mgmtSvn }, u.sec.target) := by
    simp only [actSvn, State.life, State.commitSvn, State.acceptRecord_mgmtSvn, (fact @State.record_keep), (fact @State.acceptRecord_keep)]
  rw [hact]
  exact .svnRaised _ _ _ hlow

theorem State.runAction_moves {id v : Nat} {a : Action} (ha : a.MovesLife) : LifeMove s.life (s.runAction f id v a).life := by
  obtain ⟨hact, hnoted⟩ := ha
  unfold State.runAction
  split
  · exact .of_eq (by simp only [State.life, (fact @State.rejected_keep)])
  split
  · exact .of_eq (by simp only [State.life, (fact @State.naileOk_keep), (fact @State.acceptRecord_keep)])
  split
  · exact .of_eq (hnoted s)
  · next hallowed => exact hact s (Bool.eq_false_iff.mpr hallowed)

theorem actionFor_movesLife {id v : Nat} {a : Action} (h : actionFor id v = some a) : a.MovesLife := by
  simp only [actionFor] at h
  repeat' split at h
  all_goals cases h
  · exact actRekey_movesLife
  · exact actTestNow_movesLife
  · exact actRelease_movesLife
  · exact actDegraded_movesLife
  · exact actRetrain_movesLife
  · exact actHandover_movesLife
  · exact actSeal_movesLife
  · exact actSvn_movesLife

/-! ## Requests of the Naile port -/

theorem State.runReconfig_moves {r : ReconfigRec} : LifeMove s.life (s.runReconfig f r).life := by
  unfold State.runReconfig
  repeat' split
  · exact .of_eq (by simp only [State.life, (fact @State.naileFail_keep)])
  · exact .of_eq (by simp only [State.life, (fact @State.rejected_keep)])
  next h => exact State.runAction_moves (actionFor_movesLife h)
  · exact .of_eq (by simp only [State.life, (fact @State.takeRecord_keep)])
  · exact .of_eq (by simp only [State.life, (fact @State.takeRecord_keep)])

theorem State.runRequest_moves {tx : Tx} {run : State → State} (hrun : LifeMove s.life (run s).life) :
    LifeMove s.life (s.runRequest f tx run).life := by
  unfold State.runRequest
  repeat' split
  · exact .of_eq (by simp only [State.life, (fact @State.naileFail_keep)])
  · exact .of_eq (by simp only [State.life, (fact @State.naileFail_keep)])
  · exact hrun

theorem State.acceptFrame_life : s.acceptFrame.life = s.life := by
  simp only [State.life, (fact @State.acceptFrame_keep)]

theorem State.request_moves {i : Instr} {tx : Tx} {run : State → State} (hrun : ∀ u : State, LifeMove u.life (run u).life) :
    LifeMove s.life (s.request i f tx run).life := by
  simp only [State.request]
  repeat' split
  · exact .none _ _
  · exact .none _ _
  · exact .none _ _
  · exact .of_eq State.acceptFrame_life
  · exact State.acceptFrame_life (s := s) ▸ State.runRequest_moves (hrun _)

/-- Of the requests, the actions, RECONFIG and the opening of a token may move the lifecycle. -/
theorem reqOf_moves {i : Instr} {q : Req} (h : reqOf i = some q) (u : State) : LifeMove u.life (q.run u).life := by
  unfold reqOf at h
  split at h
  all_goals cases h
  · exact State.runAction_moves actRekey_movesLife
  · exact State.runAction_moves actRelease_movesLife
  · exact State.runAction_moves actDegraded_movesLife
  · exact State.runAction_moves actRetrain_movesLife
  · exact State.runAction_moves actTest_movesLife
  · exact State.runAction_moves actHandover_movesLife
  · exact State.runAction_moves actSeal_movesLife
  · exact State.runAction_moves actSvn_movesLife
  · exact .of_eq (by simp only [standReq, State.life, (fact @State.runCreate_keep)])
  · exact .of_eq (by simp only [standReq, State.life, (fact @State.runModify_keep)])
  · exact .of_eq (by simp only [standReq, State.life, (fact @State.runDelete_keep)])
  · exact .of_eq (by simp only [standReq, State.life, (fact @State.runAttach_keep)])
  · exact .of_eq (by simp only [standReq, State.life, (fact @State.runDetach_keep)])
  · exact .of_eq (by simp only [standReq, State.life, (fact @State.runQuery_keep)])
  · exact State.runReconfig_moves
  · exact .of_eq (by simp only [State.life, (fact @State.runParamRead_keep)])
  · exact .of_eq (by simp only [State.life, (fact @State.runWindowRead_keep)])
  · exact .of_eq (by simp only [State.life, (fact @State.runImageBegin_keep)])
  · exact .of_eq (by simp only [State.life, (fact @State.runImageChunk_keep)])
  · exact .of_eq (by simp only [State.life, (fact @State.runImageEnd_keep)])
  · exact .of_eq (by simp only [State.life, (fact @State.runCommitImage_keep)])
  · exact .of_eq (by simp only [State.life, (fact @State.runCommitConfiguration_keep)])
  · exact .of_eq (by simp only [State.life, (fact @State.runRaiseFloor_keep)])
  · exact .of_eq (by simp only [State.life, (fact @State.runRestoreSpare_keep)])
  · exact .of_eq (by simp only [State.life, (fact @State.runTallyRead_keep)])
  · exact .of_eq (by simp only [State.life, (fact @State.runHealthRead_keep)])
  · exact .of_eq (by simp only [State.life, (fact @State.runRawDiag_keep)])
  · exact .of_eq (by simp only [State.life, (fact @State.runRecoveryStatus_keep)])
  · exact .of_eq (by simp only [State.life, (fact @State.naileFail_keep)])
  · exact .of_eq (by simp only [State.life, (fact @State.runChallenge_keep)])
  · exact State.runOpen_moves
  · exact .of_eq (by simp only [State.life, (fact @State.runClose_keep)])

/-- The request that waits runs after the rest of its row, which leaves the lifecycle alone. -/
theorem State.resumeWaiting_moves (h : t.life = s.life) : LifeMove s.life t.resumeWaiting.life := by
  rw [← h]
  unfold State.resumeWaiting
  split
  · exact .none _ _
  split
  · exact .none _ _
  next q e =>
    obtain ⟨i, -, hi⟩ := Option.bind_eq_some_iff.1 e
    exact State.runRequest_moves (s := { t with naile := { t.naile with waiting := none } }) (reqOf_moves hi _)

/-! ## Boot (12 R363; R404) -/

/-- A boot may burn REVOKE0, and resumes what the intent record names. -/
def State.BootMoves (s t : State) : Prop :=
  ∃ f : FuseS, (f = s.fuses ∨ f = { s.fuses with revoke0 := 3 }) ∧ LifeMove (f, s.sec.target) t.life

theorem State.bootMoves_of_move (h : LifeMove s.life t.life) : s.BootMoves t := ⟨s.fuses, .inl rfl, h⟩

theorem State.bootMoves_of_life {u : State} (h : u.life = s.life) (hm : u.BootMoves t) : s.BootMoves t := by
  obtain ⟨f, hf, hmove⟩ := hm
  rw [show u.sec.target = s.sec.target from congrArg Prod.snd h] at hmove
  rw [show u.fuses = s.fuses from congrArg Prod.fst h] at hf
  exact ⟨f, hf, hmove⟩

theorem FuseS.revoke_eq (x : FuseS) (h : ImageHeader) : x.revoke h = x ∨ x.revoke h = { x with revoke0 := 3 } := by
  unfold FuseS.revoke
  split
  · exact .inr rfl
  · exact .inl rfl

theorem SecS.countReset_target (x : SecS) (por : Bool) : (x.countReset por).target = x.target := by
  unfold SecS.countReset
  split <;> rfl

theorem State.startFirmware_moves {w : Nat} {h : ImageHeader} : s.BootMoves (s.startFirmware w h) := by
  refine ⟨s.fuses.revoke h, s.fuses.revoke_eq h, ?_⟩
  have hresume : ∀ u : State, u.life = (s.fuses.revoke h, s.sec.target) → LifeMove (s.fuses.revoke h, s.sec.target) u.resumeIntent.life :=
    fun u hu => hu ▸ State.resumeIntent_moves
  unfold State.startFirmware
  refine hresume _ ?_
  simp only [State.life, (fact @State.checkRecords_keep), (fact @State.recordBoot_keep), (fact @State.recordTally_keep),
    (fact @State.recordStart_keep), (fact @State.applyCfg_keep), SecS.countReset_target]

theorem State.bootFrom_moves {slot : Option Nat} : s.BootMoves (s.bootFrom slot) := by
  unfold State.bootFrom
  repeat' split
  · exact State.bootMoves_of_move (.of_eq (by simp only [State.life, (fact @State.enterRecovery_keep)]))
  · exact State.startFirmware_moves
  · exact State.bootMoves_of_move (.of_eq (by simp only [State.life, (fact @State.enterRecovery_keep)]))

theorem State.romBoot_moves {norAnswers : Bool} : s.BootMoves (s.romBoot norAnswers) := by
  unfold State.romBoot
  dsimp only
  split
  · refine State.bootMoves_of_move (.of_eq ?_)
    simp only [State.life, (fact @State.enterRecovery_keep), (fact @State.pllLocked_keep), (fact @State.readLayout_keep)]
  · refine State.bootMoves_of_life ?_ State.bootFrom_moves
    simp only [State.life, (fact @State.noteSlots_keep), (fact @State.trainPorts_keep), (fact @State.pllLocked_keep),
      (fact @State.readLayout_keep)]

/-! ## Rows that reach the security unit and leave the lifecycle alone -/

/-- Whatever state an outcome goes on to, the fuses and the intent have come to it by a move. -/
def NextMoves (s : State) (o : Host.Outcome State Fault Refusal) : Prop := ∀ t, o = .next t → s.BootMoves t

theorem nextMoves_of_move (h : LifeMove s.life t.life) : NextMoves s (.next t) := by
  rintro _ ⟨⟩
  exact State.bootMoves_of_move h

theorem nextMoves_of_life (h : t.life = s.life) : NextMoves s (.next t) := nextMoves_of_move (.of_eq h)

theorem State.fullWake_life {w : WakeChecks} : (s.fullWake w).life = s.life := by
  simp only [State.life, (fact @State.fullWake_keep)]

theorem execPerstDeassert_moves {p : Port} {w : WakeChecks} : NextMoves s (execPerstDeassert p w s) := by
  refine nextMoves_of_life ?_
  dsimp only
  repeat' split
  · rfl
  · exact State.fullWake_life
  · rfl

theorem execLinkL1Exit_moves {p : Port} {w : WakeChecks} : NextMoves s (execLinkL1Exit p w s) := by
  refine nextMoves_of_life ?_
  dsimp only
  split
  · rfl
  · exact State.fullWake_life

theorem execSmbusAddressMatch_moves {a : BitVec 7} {w : WakeChecks} : NextMoves s (execSmbusAddressMatch a w s) := by
  refine nextMoves_of_life ?_
  split
  · exact State.fullWake_life
  · rfl

theorem execPatrolWake_moves {w : WakeChecks} : NextMoves s (execPatrolWake w s) := by
  refine nextMoves_of_life ?_
  split
  · simp only [State.life, (fact @State.wakeUp_keep)]
  · rfl

theorem State.enter_life {ps : Nat} : (s.enter ps).life = s.life := by
  simp only [State.life, (fact @State.enter_keep)]

theorem execPowerStateEntry_moves : NextMoves s (execPowerStateEntry s) := by
  refine nextMoves_of_life ?_
  dsimp only
  repeat' split
  · rfl
  · exact State.enter_life
  · rfl
  · rfl
  · simp only [State.life, (fact @State.leaveIdle_keep)]
  · rfl
  · exact State.enter_life.trans (by simp only [State.life, (fact @State.restLinks_keep)])

theorem execPatrolTimeout_moves : NextMoves s (execPatrolTimeout s) := by
  refine nextMoves_of_life ?_
  split
  · exact State.enter_life
  · rfl

theorem State.takePin_life : s.takePin.life = s.life := by
  simp only [State.life, (fact @State.takePin_keep)]

theorem execPowerLossDump_moves : NextMoves s (execPowerLossDump s) := by
  refine nextMoves_of_life ?_
  repeat' split
  · simp only [State.life, (fact @State.afterDump_keep), (fact @State.dumpHalt_keep), (fact @State.dumpSlotsOut_keep)]
  · simp only [State.life, (fact @State.dumpHeaders_keep)]
  · simp only [State.life, (fact @State.dumpBegin_keep), (fact @State.dropHandover_keep), (fact @State.dropUpdate_keep)]
  · rfl

theorem execDeferredResetTimeout_moves : NextMoves s (execDeferredResetTimeout s) := by
  refine nextMoves_of_life ?_
  split
  · exact State.takePin_life
  · rfl

theorem execPowerOnResetAssert_moves : NextMoves s (execPowerOnResetAssert s) :=
  nextMoves_of_life (by simp only [State.life, (fact @State.clearUnits_keep)])

theorem execResetNAssert_moves {n : Option Nat} : NextMoves s (execResetNAssert n s) := by
  have hpulse : (s.pulse n).2.life = s.life := by simp only [State.life, (fact @State.pulse_keep)]
  refine nextMoves_of_life ?_
  dsimp only
  split
  · exact hpulse
  split
  · exact hpulse
  · exact State.takePin_life.trans hpulse

theorem State.tap_life {ir : Byte} {out : Dword} : (s.tap ir out).life = s.life := by
  simp only [State.life, (fact @State.tap_keep)]

theorem State.tapBypass_life : s.tapBypass.life = s.life := State.tap_life

theorem State.tapCapture_life {ir : Byte} : (s.tapCapture ir).life = s.life := by
  simp only [State.life, (fact @State.tapCapture_keep)]

theorem execExtest_moves : NextMoves s (execExtest s) := by
  refine nextMoves_of_life ?_
  split
  · exact State.tapCapture_life
  · exact State.tapBypass_life

theorem execClamp_moves : NextMoves s (execClamp s) := by
  refine nextMoves_of_life ?_
  split
  · exact State.tap_life
  · exact State.tapBypass_life

theorem execHighz_moves : NextMoves s (execHighz s) := by
  refine nextMoves_of_life ?_
  split
  · exact State.tap_life
  · exact State.tapBypass_life

theorem execBypass_moves {code : Byte} : NextMoves s (execBypass code s) := by
  refine nextMoves_of_life ?_
  split
  · rfl
  · exact State.tapBypass_life

theorem execNonceExpiry_moves : NextMoves s (execNonceExpiry s) := by
  refine nextMoves_of_life ?_
  repeat' split
  all_goals rfl

theorem execGetLmsSig_moves {k : SpdmConn} : NextMoves s (execGetLmsSig k s) := by
  refine nextMoves_of_life ?_
  unfold State.negotiated
  split
  · rfl
  split
  · dsimp only
    repeat' split
    · rfl
    · simp only [State.life, (fact @State.setConn_keep), (fact @State.noteLmsStop_keep)]
    · rfl
    · rfl
  · rfl

/-! ## Rows that may move the lifecycle -/

theorem execProvision_moves : NextMoves s (execProvision s) := by
  refine nextMoves_of_move ?_
  split
  · next h =>
    simp only [Bool.and_eq_true, beq_iff_eq] at h
    obtain ⟨-, hblank⟩ := h
    rw [State.tap_life]
    exact .provisioned _ _ hblank
  · exact .of_eq State.tapBypass_life

theorem execStandDeleteRun_moves {st : StandNo} : NextMoves s (execStandDeleteRun st s) := by
  refine nextMoves_of_move ?_
  dsimp only
  repeat' split
  · exact .none _ _
  · exact .none _ _
  · exact .of_eq (by simp only [State.life, (fact @State.standKeys_keep)])
  · exact .none _ _
  · exact .of_eq (by simp only [State.life, (fact @State.standDetach_keep)])
  · exact .of_eq (by simp only [State.life, (fact @State.standUnmap_keep)])
  · exact .none _ _
  · next x _ _ _ _ _ _ =>
    unfold State.standGone
    dsimp only
    have hgone : ∀ u : State, u.life = s.life → LifeMove s.life u.journal.recheckSpare.rmaGoOn.life := by
      intro u hu
      have hrest : u.journal.recheckSpare.life = s.life := by
        rw [← hu]
        simp only [State.life, (fact @State.recheckSpare_keep), (fact @State.journal_keep)]
      exact hrest ▸ State.rmaGoOn_moves
    refine hgone _ ?_
    split
    · simp only [State.life, (fact @State.moveRows_keep)]
    · rfl
  · exact .none _ _

theorem execPllLock_moves {r : RomReads} : NextMoves s (execPllLock r s) := by
  rintro _ ⟨⟩
  split
  · exact State.bootMoves_of_life (by simp only [State.life, (fact @State.findBad_keep)]) State.romBoot_moves
  · exact State.bootMoves_of_move (.none _ _)

theorem State.failOver_life {cause : Nat} : (s.failOver cause).life = s.life := by
  simp only [State.life, (fact @State.failOver_keep)]

theorem execWatchdogExpiry_moves : NextMoves s (execWatchdogExpiry s) := by
  refine nextMoves_of_move ?_
  split
  · exact State.resumeWaiting_moves State.failOver_life
  · exact .none _ _

theorem execMgmtFault_moves {k : MgmtFaultKind} : NextMoves s (execMgmtFault k s) := by
  refine nextMoves_of_move ?_
  split
  · exact State.resumeWaiting_moves State.failOver_life
  · exact .none _ _

theorem execTakeover_moves : NextMoves s (execTakeover s) := by
  refine nextMoves_of_move ?_
  repeat' split
  · exact .none _ _
  · exact State.resumeWaiting_moves (by simp only [State.life, (fact @State.handoverDone_keep)])
  · exact .none _ _

theorem execHandoverTimeout_moves {r : Nat} : NextMoves s (execHandoverTimeout r s) := by
  refine nextMoves_of_move ?_
  repeat' split
  · exact .none _ _
  · exact State.resumeWaiting_moves (by simp only [State.life, (fact @State.handoverFails_keep)])
  · exact .none _ _

theorem execSessionLifetimeExpiry_moves : NextMoves s (execSessionLifetimeExpiry s) := by
  refine nextMoves_of_move ?_
  repeat' split
  · exact .none _ _
  · exact State.resumeWaiting_moves (by simp only [State.life, (fact @State.closeSession_keep)])
  · exact .none _ _

theorem State.setHalt_life {g : Session → Session} : (s.setHalt g).life = s.life := by
  simp only [State.life, (fact @State.setHalt_keep)]

theorem State.dapFree_life : s.dapFree.life = s.life := by
  simp only [State.life, (fact @State.dapFree_keep)]

/-- Of the accesses of a session, only the one that resumes the management complex lets a request run. -/
theorem State.dapRun_moves {r : DapReach} : LifeMove s.life (s.dapRun r).life := by
  cases r with
  | haltMgmt => exact .of_eq State.setHalt_life
  | resumeMgmt => exact State.resumeWaiting_moves State.setHalt_life
  | haltFtl => exact .of_eq State.setHalt_life
  | resumeFtl => exact .of_eq State.setHalt_life
  | readMgmt => exact .of_eq State.dapFree_life
  | readFtl => exact .of_eq State.dapFree_life
  | writeMgmt => exact .of_eq State.tap_life
  | readWindow => exact .of_eq State.tap_life
  | readLanding => exact .of_eq State.tap_life
  | readDram => exact .of_eq State.tap_life

theorem execDap_moves {r : DapReach} : NextMoves s (execDap r s) := by
  refine nextMoves_of_move ?_
  repeat' split
  · exact .of_eq State.tapBypass_life
  · exact .of_eq State.tapBypass_life
  · exact State.dapRun_moves
  · exact .of_eq State.tap_life

/-! ## Every command, and a step -/

/-- A command that reaches neither the fuses nor the security unit leaves the lifecycle alone. -/
theorem exec_moves_of_reach {c : Instr} (hfuses : .fuses ∉ reach c) (hsec : .sec ∉ reach c) : NextMoves s (exec c s) := by
  intro t e
  have keeps := commandsKeepToTheirReach c s t e
  have hf : t.fuses = s.fuses := keeps .fuses hfuses
  have hs : t.sec = s.sec := keeps .sec hsec
  exact State.bootMoves_of_move (.of_eq (by simp only [State.life, hf, hs]))

theorem exec_moves (c : Instr) : NextMoves s (exec c s) := by
  cases c
  case perstDeassert => exact execPerstDeassert_moves
  case linkL1Exit => exact execLinkL1Exit_moves
  case smbusAddressMatch => exact execSmbusAddressMatch_moves
  case patrolWake => exact execPatrolWake_moves
  case powerStateEntry => exact execPowerStateEntry_moves
  case patrolTimeout => exact execPatrolTimeout_moves
  case powerLossDump => exact execPowerLossDump_moves
  case deferredResetTimeout => exact execDeferredResetTimeout_moves
  case powerOnResetAssert => exact execPowerOnResetAssert_moves
  case resetNAssert => exact execResetNAssert_moves
  case pllLock => exact execPllLock_moves
  case idcode => exact nextMoves_of_life State.tap_life
  case samplePreload => exact nextMoves_of_life State.tapCapture_life
  case extest => exact execExtest_moves
  case clamp => exact execClamp_moves
  case highz => exact execHighz_moves
  case secstat => exact nextMoves_of_life State.tap_life
  case bypass => exact execBypass_moves
  case provision => exact execProvision_moves
  case dap => exact execDap_moves
  case nonceExpiry => exact execNonceExpiry_moves
  case sessionLifetimeExpiry => exact execSessionLifetimeExpiry_moves
  case getLmsSig => exact execGetLmsSig_moves
  case debugTokenChallenge => exact nextMoves_of_move (State.request_moves fun u => reqOf_moves (i := .debugTokenChallenge _) rfl u)
  case debugTokenOpen => exact nextMoves_of_move (State.request_moves fun _ => State.runOpen_moves)
  case debugTokenClose => exact nextMoves_of_move (State.request_moves fun u => reqOf_moves (i := .debugTokenClose _) rfl u)
  case reconfig => exact nextMoves_of_move (State.request_moves fun _ => State.runReconfig_moves)
  case secLifecycleAdvance => exact nextMoves_of_move (State.request_moves fun _ => State.runAction_moves actSeal_movesLife)
  case secSvnCommit => exact nextMoves_of_move (State.request_moves fun _ => State.runAction_moves actSvn_movesLife)
  case standDeleteRun => exact execStandDeleteRun_moves
  case watchdogExpiry => exact execWatchdogExpiry_moves
  case mgmtFault k => exact execMgmtFault_moves (k := k)
  case takeover => exact execTakeover_moves
  case handoverTimeout => exact execHandoverTimeout_moves
  all_goals exact exec_moves_of_reach (by dsimp only [reach]; decide) (by dsimp only [reach]; decide)

theorem step_moves : NextMoves s (step s) := by
  unfold step
  split
  · exact nextMoves_of_life (by simp only [State.life, (fact @tick_keep)])
  · next c rest _ => exact exec_moves (s := { s with pending := rest }) c

/-! ## The lifecycle (R395) -/

/-- `State.lifecycleOk`, of the fuses and the target: a triple has three fuses, and a transition begins where it may. -/
def LifeOk (a : FuseS × Nat) : Prop :=
  a.1.provisioned ≤ 3 ∧ a.1.sealedF ≤ 3 ∧ a.1.rma ≤ 3 ∧ (a.2 = 2 → 1 ≤ a.1.lc) ∧ (a.2 = 3 → 2 ≤ a.1.lc)

theorem FuseS.lc_eq (x : FuseS) : x.lc = if 2 ≤ x.rma then 3 else if 2 ≤ x.sealedF then 2 else if 2 ≤ x.provisioned then 1 else 0 := by
  simp only [FuseS.lc, tripleBurned, decide_eq_true_eq]

theorem FuseS.lc_le_three (x : FuseS) : x.lc ≤ 3 := by
  rw [FuseS.lc_eq]
  repeat' split
  all_goals decide

theorem FuseS.lc_of_provisioned {x : FuseS} (h : x.lc = 0) : ({ x with provisioned := 3 } : FuseS).lc = 1 := by
  have hfew : ¬ 2 ≤ x.rma ∧ ¬ 2 ≤ x.sealedF := by
    rw [FuseS.lc_eq] at h
    split_ifs at h
    exact ⟨‹_›, ‹_›⟩
  rw [FuseS.lc_eq, if_neg hfew.1, if_neg hfew.2]
  rfl

/-- A seal makes SEALED, or leaves RMA. -/
theorem FuseS.lc_of_sealed (x : FuseS) (c d : BitVec 384) :
    ({ x with cfgDigest := c, dbgDigest := d, sealedF := 3 } : FuseS).lc = max 2 x.lc := by
  rw [FuseS.lc_eq, FuseS.lc_eq x]
  dsimp only
  split_ifs
  all_goals omega

theorem FuseS.lc_of_rma (x : FuseS) : ({ x with rma := 3 } : FuseS).lc = 3 := rfl

theorem LifeMove.lifecycle {a b : FuseS × Nat} (h : LifeMove a b) (hok : LifeOk a) : LifeOk b ∧ a.1.lc ≤ b.1.lc ∧ b.1.lc ≤ a.1.lc + 1 := by
  obtain ⟨hp, hs, hr, htwo, hthree⟩ := hok
  cases h with
  | none f x => exact ⟨⟨hp, hs, hr, htwo, hthree⟩, le_rfl, Nat.le_succ _⟩
  | svnRaised f x n h => exact ⟨⟨hp, hs, hr, htwo, hthree⟩, le_rfl, Nat.le_succ _⟩
  | provisioned f x h =>
    have hlc := FuseS.lc_of_provisioned h
    simp only [LifeOk] at *
    omega
  | sealed f x c d h =>
    have hlc := f.lc_of_sealed (f.cfgDigest ||| c) (f.dbgDigest ||| d)
    simp only [LifeOk] at *
    omega
  | rmaBegun f x h =>
    simp only [LifeOk] at *
    omega
  | rmaDone f x h =>
    have hlc := f.lc_of_rma
    have := f.lc_le_three
    simp only [LifeOk] at *
    omega

/-- Settles O52: a boot's revocation leaves the lifecycle alone, and no move takes it back or past the next state. -/
theorem lifecycleStepsForward : Obligations.LifecycleStepsForward := by
  intro s t hok hstep
  obtain ⟨f, rfl | rfl, hmove⟩ := step_moves t hstep
  · exact hmove.lifecycle hok
  · exact hmove.lifecycle hok

/-! ## The fuses -/

theorem LifeMove.burns {a b : FuseS × Nat} (h : LifeMove a b) (hp : a.1.provisioned ≤ 3) (hs : a.1.sealedF ≤ 3) (hr : a.1.rma ≤ 3) :
    a.1.burnsTo b.1 := by
  cases h with
  | none f x => simp [FuseS.burnsTo]
  | svnRaised f x n h => simp [FuseS.burnsTo, h]
  | provisioned f x h => simp [FuseS.burnsTo, hp]
  | sealed f x c d h => simp [FuseS.burnsTo, hs, ← BitVec.or_assoc]
  | rmaBegun f x h => simp [FuseS.burnsTo]
  | rmaDone f x h => simp [FuseS.burnsTo, hr]

/-- Settles O53: each move burns and takes nothing back, and so does the revocation that a boot may put before it. -/
theorem fusesOnlyBurn : Obligations.FusesOnlyBurn := by
  intro s t hp hs hr hrevoke hstep
  obtain ⟨f, rfl | rfl, hmove⟩ := step_moves t hstep
  · exact hmove.burns hp hs hr
  · obtain ⟨hp', hs', hr', hsvn, hrev', hcfg, hdbg, heq⟩ := hmove.burns hp hs hr
    exact ⟨hp', hs', hr', hsvn, hrevoke.trans hrev', hcfg, hdbg, heq⟩

end

end Sys2Proof.Machine
